-- ==== Sys2Proof/Word.lean ====
section
/-!
DEFINITION. The word types of the PQC9600 and the shape in which the model keeps sparse data.
-/
namespace Sys2Proof

/-- A 32-bit register word (R59). -/
abbrev Word := BitVec 32

/-- A 64-bit word: a sequencer instruction (R97), a doorbell (R394). -/
abbrev Word64 := BitVec 64

/-- One byte of a memory. -/
abbrev Byte := BitVec 8

/-- Sparse data by key, in one canonical form: keys strictly rising, no entry equal to what an unlisted key reads as.
The operations, and the predicate that says the form holds, are in Machine/SMap.lean. -/
abbrev SMap (α : Type) := List (Nat × α)

end Sys2Proof
end

