-- ==== Sys2Proof/Syntax.lean ====
section
/-!
DEFINITION. The commands of the block: one constructor for each row of spec/opcode_table.json, with its operands.
What comes from outside the device, or from a check that the model has no circuit for (a failed parity, a measured
voltage, a frame on the wire), is an operand of the command that brings it (assumption log 2).
-/
namespace Sys2Proof

/-- Who makes a register access (R55, R537). -/
inductive Req where
  /-- PCIe function `f`. -/
  | fn (f : Fin 64)
  /-- Management firmware, requester 0x80. -/
  | mgmt
  /-- The debug port at user level. -/
  | dbgUser
  /-- The debug port at secure level. -/
  | dbgSecure
deriving DecidableEq, Repr

/-- What the checks of a sequencer's instruction fetch find (R33, R147). -/
inductive Fetch where
  /-- No error. -/
  | ok
  /-- The instruction fails its parity (R33). -/
  | progParity
  /-- Control-store word `a` fails its CRC when it is read (R147). -/
  | csCrc (a : Fin 4096)
deriving DecidableEq, Repr

/-- What the checks made during a lane instruction find (R276, R278). -/
inductive LaneFault where
  /-- No error. -/
  | ok
  /-- The instruction fails its parity (R278). -/
  | imem
  /-- The first word read from data memory fails its parity (R278). -/
  | dmem
  /-- The second word that LD2 or CMLD reads fails its parity, or both do. -/
  | dmem2
  | dmemBoth
  /-- A MAC of the instruction fails its residue check (R276). -/
  | mac
deriving DecidableEq, Repr

/-- What the mesh manager brings of a membership change (R331). -/
inductive MeshNews where
  /-- Every confirmation has come. -/
  | confirmed
  /-- One is missing. -/
  | missing
  /-- The new set would hold two devices with one MESH_ID. -/
  | sameId
  /-- The announcement of another device: NEXT_MEMBERS and the boundary E. -/
  | announced (set : BitVec 32) (epoch : BitVec 48)
  /-- That announcement is withdrawn, being refused where it was made. -/
  | withdrawn
deriving DecidableEq, Repr

/-- How the training of a Jency port ends (R320). -/
inductive TrainResult where
  /-- Every training step has succeeded. -/
  | ok
  /-- A step fails for the reason given. -/
  | fail (reason : BitVec 8)
deriving DecidableEq, Repr

/-- How the stages of a boot, or the training of the DRAM on the way out of Cellar, end (R431, R530, R542). -/
inductive BootEnd where
  /-- Every stage succeeds. -/
  | good
  /-- The boot stops with an error, as BOOT_ERR shows it. -/
  | stops (err : BitVec 8)
  /-- A step of full training fails on a DRAM channel: BOOT_ERR 0x07 at boot. -/
  | training (c : Fin 4) (step : Fin 9)
deriving DecidableEq, Repr

/-- The error that BOOT_ERR shows (R542). -/
def BootEnd.err : BootEnd → Option Nat
  | .good => none
  | .stops e => some e.toNat
  | .training _ _ => some 0x07

/-- A time stamp of a network frame (R467): the network clock at its point, whether a step was applied in that tick, and
the place of the point in its 4 ns tick, in units of 62.5 ps. -/
structure Stamp where
  ns : BitVec 32
  sub : BitVec 16
  stepped : Bool
  pos : Fin 64
deriving DecidableEq, Repr

/-- What a measurement of one temperature sensor finds (R484). -/
inductive Reading where
  /-- A diode's voltages at 10, 40 and 160 µA, in µV. -/
  | diode (v10 v40 v160 : Nat)
  /-- A diode that conducts no current. -/
  | noCurrent
  /-- A thermistor's resistance, in units of 0.01 Ω. -/
  | res (r : Nat)
  /-- A die sensor's temperature, in units of 1/16 °C. -/
  | die (t : Int)
deriving DecidableEq, Repr

/-- What a slow round measures at the reference inputs (R506): CAL_VREF in µV, and the frequency of CAL_TONE in Hz and
its level in units of 1/16 dBm. -/
structure RefInput where
  vref : Int
  tone : Nat
  level : Int
deriving DecidableEq, Repr

/-- What is presented to the debug port by DBG_AUTH (R537). -/
inductive AuthTry where
  /-- A user-level unlock code. -/
  | code (c : Word)
  /-- A secure-level response: the key slot, and the 96 bytes of the signature, the first one in bits 7 to 0. -/
  | signed (keyIndex : Fin 4) (sig : BitVec 768)
deriving DecidableEq, Repr

/-- A target of debug control (R539). -/
inductive DbgTarget where
  | seq (n : Fin 256)
  | lane (n : Fin 64)
deriving DecidableEq, Repr

/-- One failed residue check of a step computed in a REFCLK period (R192, R262). -/
inductive Residue where
  /-- Tone engine `n`, step half `h`: the lanes whose residue check fails, lane 4 being the recompute (R192). -/
  | tone (n : Fin 512) (h : Fin 2) (lanes : BitVec 5)
  /-- The sum of output channel `k`, in the same way (R192). -/
  | sum (k : Fin 48) (h : Fin 2) (lanes : BitVec 5)
  /-- Integrator `n`, sample `i` of step half `h`: its product fails its residue check (R262). -/
  | mac (n : Fin 256) (h : Fin 2) (i : Fin 2)
  /-- Integrator `n`: the weight read for sample `i` of half `h` fails its parity (R255). -/
  | weight (n : Fin 256) (h : Fin 2) (i : Fin 2)
  /-- Read-out tone `n`: coefficient `j` fails its parity (R232). -/
  | coef (n : Fin 256) (j : Fin 384)
  /-- Flux channel `n`: record `i` of a granule checked in this count fails its parity (R370). -/
  | flux (n : Fin 96) (i : Fin 4)
deriving DecidableEq, Repr


/-- The commands of the block: one constructor for each row of the opcode table, in the order of the table. -/
inductive Instr where
  /-- REGISTER_WRITE (R59): A write to a register that has no row of its own, checked for ownership, alignment and reserved offsets and then applied. -/
  | registerWrite (who : Req) (addr : BitVec 27) (ws : List (BitVec 4 × BitVec 32))
  /-- OWNER_WRITE (R57): A write of a page's OWNER register, refused while locked, active, enabled or secure as the rule states. -/
  | ownerWrite (who : Req) (pg : Fin 2304) (data : BitVec 32)
  /-- BUDGET_WRITE (R29): A write of BUDGET.LIMIT, read back at once, in force from the next frame, refused with code 0x05 above the ceiling. -/
  | budgetWrite (who : Req) (pg : Fin 2304) (data : BitVec 32)
  /-- IRQ_FORCE_WRITE (R52): A write to IRQ_FORCE sets the corresponding IRQ_STAT bits as if hardware had set them. -/
  | irqForceWrite (who : Req) (pg : Fin 2304) (data : BitVec 32)
  /-- ERR_CAP_CLEAR (R54): A write of 1 to ERR_CAP.VALID clears the capture, unless a new error arrives in the same cycle. -/
  | errCapClear (who : Req) (pg : Fin 2304)
  /-- HOST_ACCESS_RELEASE (R396): A host register access held for lack of budget is carried out when its function's budget allows. -/
  | hostAccessRelease (f : Fin 64)
  /-- FRAME_BOUNDARY (R26): At every count that is a multiple of 256 the budgets reload and pending frame-boundary changes come into force. -/
  | frameBoundary (phase : List Int) (ctPhase : BitVec 32)
  /-- SYNC_EDGE (R69): A sampled SYNC rising edge is counted, sets the margin flags, and arms a load 16 periods later when ARM is set. -/
  | syncEdge (early late : Bool)
  /-- TIMELINE_LOAD (R69): Sixteen periods after a loading edge the count takes TL_EPOCH, LOADED and RUN are set and ARM clears. -/
  | timelineLoad
  /-- ARM (R72): A write of 1 to SYNC_CTL.ARM arms a load at the next edge, refused with code 0x11 in Running. -/
  | arm (who : Req) (data : BitVec 32)
  /-- TL_NOW_READ (R90): A read of TL_NOW_LO returns the count and latches TL_NOW_HI. -/
  | tlNowRead (who : Req)
  /-- SNAP (R89): A write of 1 to CTL.SNAP copies the latest latched count and network-time pair into the LATCH registers. -/
  | snap (who : Req)
  /-- TILE_EN_WRITE (R79): A write of TILE_EN, accepted only in Configured and otherwise refused with code 0x13. -/
  | tileEnWrite (who : Req) (data : BitVec 32)
  /-- REFCLK_LOST (R87): Loss of REFCLK stops the count, puts PLLs in holdover, disables real-time blocks, spoils shots and enters Configured. -/
  | refclkLost
  /-- REFCLK_RETURN (R88): When REFCLK returns the PLLs relock and the tiles realign, with the count held until a SYNC load. -/
  | refclkReturn
  /-- TILE_PLL_LOCK_LOST (R76): A tile PLL losing lock immediately disables its channels, quiets its outputs and spoils the shots that used it. -/
  | tilePllLockLost (t : Fin 8)
  /-- TILE_ALIGNMENT (R78): After Reset exit or relock a tile measures the marker, sets its elastic buffer and ALIGNED, or sets ALIGN_FAIL. -/
  | tileAlignment (t : Fin 8) (delay : Int)
  /-- SEQ_NOP (R100): Sequencer instruction NOP, no effect. -/
  | seqNop (n : Fin 256) (h : Fin 2) (q : Fetch)
  /-- SEQ_MOVI (R100): Sequencer instruction MOVI loads IMM32 into g[GD]. -/
  | seqMovi (n : Fin 256) (h : Fin 2) (q : Fetch)
  /-- SEQ_ADD (R100): Sequencer instruction ADD. -/
  | seqAdd (n : Fin 256) (h : Fin 2) (q : Fetch)
  /-- SEQ_SUB (R100): Sequencer instruction SUB. -/
  | seqSub (n : Fin 256) (h : Fin 2) (q : Fetch)
  /-- SEQ_AND (R100): Sequencer instruction AND. -/
  | seqAnd (n : Fin 256) (h : Fin 2) (q : Fetch)
  /-- SEQ_OR (R100): Sequencer instruction OR. -/
  | seqOr (n : Fin 256) (h : Fin 2) (q : Fetch)
  /-- SEQ_XOR (R100): Sequencer instruction XOR. -/
  | seqXor (n : Fin 256) (h : Fin 2) (q : Fetch)
  /-- SEQ_SHL (R100): Sequencer instruction SHL. -/
  | seqShl (n : Fin 256) (h : Fin 2) (q : Fetch)
  /-- SEQ_SHR (R100): Sequencer instruction SHR. -/
  | seqShr (n : Fin 256) (h : Fin 2) (q : Fetch)
  /-- SEQ_JMP (R100): Sequencer instruction JMP. -/
  | seqJmp (n : Fin 256) (h : Fin 2) (q : Fetch)
  /-- SEQ_BEQ (R100): Sequencer instruction BEQ. -/
  | seqBeq (n : Fin 256) (h : Fin 2) (q : Fetch)
  /-- SEQ_BNE (R100): Sequencer instruction BNE. -/
  | seqBne (n : Fin 256) (h : Fin 2) (q : Fetch)
  /-- SEQ_BLT (R100): Sequencer instruction BLT. -/
  | seqBlt (n : Fin 256) (h : Fin 2) (q : Fetch)
  /-- SEQ_BGE (R100): Sequencer instruction BGE. -/
  | seqBge (n : Fin 256) (h : Fin 2) (q : Fetch)
  /-- SEQ_CALL (R100): Sequencer instruction CALL pushes pc + 1 and jumps. -/
  | seqCall (n : Fin 256) (h : Fin 2) (q : Fetch)
  /-- SEQ_RET (R100): Sequencer instruction RET pops the return stack. -/
  | seqRet (n : Fin 256) (h : Fin 2) (q : Fetch)
  /-- SEQ_LCSET (R100): Sequencer instruction LCSET sets a loop counter. -/
  | seqLcset (n : Fin 256) (h : Fin 2) (q : Fetch)
  /-- SEQ_DJNZ (R100): Sequencer instruction DJNZ decrements a loop counter and branches while non-zero. -/
  | seqDjnz (n : Fin 256) (h : Fin 2) (q : Fetch)
  /-- SEQ_TPNOW (R100): Sequencer instruction TPNOW sets tp from now, rounded up to even. -/
  | seqTpnow (n : Fin 256) (h : Fin 2) (q : Fetch)
  /-- SEQ_TPADD (R100): Sequencer instruction TPADD. -/
  | seqTpadd (n : Fin 256) (h : Fin 2) (q : Fetch)
  /-- SEQ_TPALN (R100): Sequencer instruction TPALN aligns tp to a power of two. -/
  | seqTpaln (n : Fin 256) (h : Fin 2) (q : Fetch)
  /-- SEQ_TPRD (R100): Sequencer instruction TPRD reads tp into a register pair. -/
  | seqTprd (n : Fin 256) (h : Fin 2) (q : Fetch)
  /-- SEQ_RDNOW (R100): Sequencer instruction RDNOW reads now into a register pair. -/
  | seqRdnow (n : Fin 256) (h : Fin 2) (q : Fetch)
  /-- SEQ_WAITT (R100): Sequencer instruction WAITT starts a wait until now ≥ tp + op. -/
  | seqWaitt (n : Fin 256) (h : Fin 2) (q : Fetch)
  /-- WAITT_EXPIRY (R101): The WAITT wait reaches its step and the instruction retires. -/
  | waittExpiry (n : Fin 256) (h : Fin 2)
  /-- SEQ_POST (R109): Sequencer instruction POST issues a timed command, judged for target, code and ownership. -/
  | seqPost (n : Fin 256) (h : Fin 2) (q : Fetch)
  /-- POST_QUEUE_ENTRY (R107): A stalled POST enters its target queue once lookahead and queue room allow, fixing its step. -/
  | postQueueEntry (n : Fin 256) (h : Fin 2)
  /-- SEQ_BRD (R111): Sequencer instruction BRD starts a wait on a decision slot. -/
  | seqBrd (n : Fin 256) (h : Fin 2) (q : Fetch)
  /-- BRD_ACCEPT (R111): An acceptable value or NO_DECISION becomes visible and BRD takes the corresponding arm. -/
  | brdAccept (n : Fin 256) (h : Fin 2)
  /-- DEC_TIMEOUT (R111): BRD reaches step tp + TMO + 1 without a value and takes the missing arm, spoiling the shot. -/
  | decTimeout (n : Fin 256) (h : Fin 2)
  /-- SEQ_LDD (R113): Sequencer instruction LDD reads a decision slot without waiting. -/
  | seqLdd (n : Fin 256) (h : Fin 2) (q : Fetch)
  /-- SEQ_LDF (R100): Sequencer instruction LDF reads a Pauli-frame word. -/
  | seqLdf (n : Fin 256) (h : Fin 2) (q : Fetch)
  /-- SEQ_WAITE (R115): Sequencer instruction WAITE starts a wait for an event-channel firing. -/
  | seqWaite (n : Fin 256) (h : Fin 2) (q : Fetch)
  /-- WAITE_RELEASE (R115): A firing after WAITE's issue is seen and the next instruction follows. -/
  | waiteRelease (n : Fin 256) (h : Fin 2)
  /-- WAITE_TIMEOUT (R115): WAITE reaches tp + TMO without a firing and jumps to BASE. -/
  | waiteTimeout (n : Fin 256) (h : Fin 2)
  /-- SEQ_BARW (R116): Sequencer instruction BARW waits on a barrier group. -/
  | seqBarw (n : Fin 256) (h : Fin 2) (q : Fetch)
  /-- BARRIER_RELEASE (R116): The last member of a barrier group arrives and all waiting members issue two steps later. -/
  | barrierRelease (n : Fin 256) (h : Fin 2)
  /-- SEQ_SHOT (R117): Sequencer instruction SHOT closes any open shot and opens a new one, adding any throttle pause. -/
  | seqShot (n : Fin 256) (h : Fin 2) (q : Fetch)
  /-- SEQ_ENDS (R118): Sequencer instruction ENDS sets the shot boundary, advances tp and closes the shot. -/
  | seqEnds (n : Fin 256) (h : Fin 2) (q : Fetch)
  /-- SEQ_RECD (R114): Sequencer instruction RECD records the last accepted state of a slot in the shot bitmap. -/
  | seqRecd (n : Fin 256) (h : Fin 2) (q : Fetch)
  /-- SEQ_USRW (R100): Sequencer instruction USRW sets the shot's user word. -/
  | seqUsrw (n : Fin 256) (h : Fin 2) (q : Fetch)
  /-- SEQ_SIG (R100): Sequencer instruction SIG sets SIG_CODE and IRQ_STAT.SIG. -/
  | seqSig (n : Fin 256) (h : Fin 2) (q : Fetch)
  /-- SEQ_STOP (R127): Sequencer instruction STOP closes any open shot and stops issue. -/
  | seqStop (n : Fin 256) (h : Fin 2) (q : Fetch)
  /-- RESULT_RECORD_WRITE (R120): Once the boundary is reached, tagged commands done and the shot closed, the result record is written to its ring. -/
  | resultRecordWrite (n : Fin 256)
  /-- SEQ_STOPPED (R127): After the last record and commands, ENABLE and ACTIVE read 0 and STOPPED is set. -/
  | seqStopped (n : Fin 256)
  /-- SEQ_ENABLE (R126): A write of 1 to a stopped sequencer's ENABLE sets pc to START_PC and starts issue under R94. -/
  | seqEnable (who : Req) (n : Fin 256)
  /-- SEQ_NORMAL_DISABLE (R128): A write of 0 to a sequencer's ENABLE requests a stop at the next shot boundary. -/
  | seqNormalDisable (who : Req) (n : Fin 256)
  /-- SEQ_DISABLE_NOW (R129): A write of 1 to a sequencer's DISABLE_NOW requests an immediate disable at the next boundary. -/
  | seqDisableNow (who : Req) (n : Fin 256)
  /-- SEQ_IMMEDIATE_DISABLE (R129): An immediate disable taken at a boundary discards queued commands, disables started targets and writes truncated records. -/
  | seqImmediateDisable (n : Fin 256) (h : Fin 2)
  /-- MICRO_PARTIAL_BOUNDARY (R143): A waiting routine reaches a partial boundary every 16 steps, where pending requests are sampled. -/
  | microPartialBoundary (n : Fin 256) (h : Fin 2)
  /-- MICRO_STEP_LIMIT (R145): The step counter reaches 16 without a boundary and the word is treated as FAULT. -/
  | microStepLimit (n : Fin 256) (h : Fin 2)
  /-- HANDOVER_GO (R131): A write of GO requests a hand-over, refused with code 0x16 when the destination breaks R130. -/
  | handoverGo (who : Req) (n : Fin 256) (data : BitVec 32)
  /-- HANDOVER_COPY (R131): At the source's next SHOT its state is copied to the destination, which is enabled, and DONE is set. -/
  | handoverCopy (n : Fin 256) (h : Fin 2)
  /-- CS_REFETCH_COMPLETE (R147): A control-store word that failed its CRC returns from the secure image and the stalled sequencers read it again. -/
  | csRefetchComplete (k : Fin 16) (a : Fin 4096) (good : Bool)
  /-- VERIFY (R153): A write of 1 to MCL_CTL.VERIFY starts reading and checking a microcode image. -/
  | verify (who : Req)
  /-- VERIFY_COMPLETE (R153): VERIFY ends, staging the merged image in a free slot or recording the failing check. -/
  | verifyComplete (dmaErr : Option Nat)
  /-- APPLY (R155): A write of 1 to MCL_CTL.APPLY starts copying the staged slot into masked clusters, or is refused with 0x27. -/
  | apply (who : Req)
  /-- APPLY_COMPLETE (R155): APPLY ends, updating CL_SLOT and versions, clearing CL_FAIL and possibly storing MC_SVN. -/
  | applyComplete
  /-- TONE_START (R173): Timed command START begins a play of an entry, or cuts the play in progress. -/
  | toneStart (n : Fin 512) (bad : Bool)
  /-- TONE_JUMP (R176): Timed command JUMP sets a jump for the play's boundary, deferred when late, or acts as START when idle. -/
  | toneJump (n : Fin 512) (bad : Bool)
  /-- TONE_STOP (R189): Timed command STOP requests a normal disable at the boundary of the play in progress. -/
  | toneStop (n : Fin 512)
  /-- TONE_KILL (R190): Timed command KILL immediately disables the engine at its step. -/
  | toneKill (n : Fin 512)
  /-- TONE_FDELAY (R165): Timed command FDELAY sets the fractional delay from its step. -/
  | toneFdelay (n : Fin 512)
  /-- TONE_PHASE (R165): Timed command PHASE replaces PHASE_REG from its step. -/
  | tonePhase (n : Fin 512)
  /-- TONE_FRAME (R165): Timed command FRAME sets FRAME_QUBIT and FRAME_EN from its step. -/
  | toneFrame (n : Fin 512)
  /-- TONE_DECISION_POINT (R175): At the first step of a play's last granule the engine resolves and checks its continuation. -/
  | toneDecisionPoint (n : Fin 512) (bad : Bool)
  /-- TONE_PLAY_BOUNDARY (R173): A play reaches its boundary and the continuation begins, or the engine goes idle and sets ENDED. -/
  | tonePlayBoundary (n : Fin 512)
  /-- TONE_GRANULE_CHECK (R183): Two steps before each granule the engine checks its four records, playing it quiet on underrun. -/
  | toneGranuleCheck (n : Fin 512) (bad : Option (Fin 4))
  /-- TONE_STREAM_REFILL (R181): With room for 8 records and an unread STREAM entry, the engine reads one ring entry within its budget. -/
  | toneStreamRefill (n : Fin 512)
  /-- TONE_REFETCH_COMPLETE (R191): A record or entry that failed parity returns from the shadow. -/
  | toneRefetchComplete (n : Fin 512)
  /-- TONE_ENABLE (R188): A write of 1 to a tone engine's ENABLE, cancelling a pending normal disable. -/
  | toneEnable (who : Req) (n : Fin 512)
  /-- TONE_NORMAL_DISABLE (R189): A write of 0 to a tone engine's ENABLE ends it at the boundary of the play in progress. -/
  | toneNormalDisable (who : Req) (n : Fin 512)
  /-- TONE_DISABLE_NOW (R190): A write of 1 to a tone engine's DISABLE_NOW zeroes output and truncates the play from the next step. -/
  | toneDisableNow (who : Req) (n : Fin 512)
  /-- BAR2_WRITE (R186): A BAR2 write is checked unit by unit, active units rejected, accepted units written and shadowed. -/
  | bar2Write (who : Req) (off : BitVec 27) (bytes : List (BitVec 8))
  /-- PARTITION_WRITE (R169): A write of PM or ST partition fields, refused while the function's engines are active or on overlap. -/
  | partitionWrite (who : Req) (f : Fin 64) (seg : Bool) (data : BitVec 32)
  /-- OUT_ENABLE (R210): A write of 1 to an output channel's ENABLE takes it to Zero and then Emit at frame boundaries. -/
  | outEnable (who : Req) (k : Fin 48)
  /-- OUT_NORMAL_DISABLE (R211): A write of 0 to an output channel's ENABLE takes it to Zero and Off once no engine plays. -/
  | outNormalDisable (who : Req) (k : Fin 48)
  /-- OUT_DISABLE_NOW (R212): A write of 1 to an output channel's DISABLE_NOW zeroes it, disables its engines and reaches Off later. -/
  | outDisableNow (who : Req) (k : Fin 48)
  /-- NCO_FREQ_HI_WRITE (R206): A write of NCO_FREQ_HI completes the pending frequency pair and moves the in-force boundary. -/
  | ncoFreqHiWrite (who : Req) (k : Fin 48) (data : BitVec 32)
  /-- DAC_CLOCK_MISSING (R214): No DAC clock edge for 1 ns immediately disables the channel with CLK_FAULT. -/
  | dacClockMissing (k : Fin 48)
  /-- ADC_ENABLE (R239): A write of 1 to an ADC's ENABLE makes it Settling and then Running at frame boundaries. -/
  | adcEnable (who : Req) (a : Fin 16)
  /-- ADC_NORMAL_DISABLE (R243): A write of 0 to an ADC's ENABLE takes it Off once all its tones are disabled and inactive. -/
  | adcNormalDisable (who : Req) (a : Fin 16)
  /-- ADC_DISABLE_NOW (R243): A write of 1 to an ADC's DISABLE_NOW immediately disables its 16 tones. -/
  | adcDisableNow (who : Req) (a : Fin 16)
  /-- ADC_CLOCK_MISSING (R243): No ADC clock edge for 1 ns immediately disables the ADC and sets CLK_FAULT. -/
  | adcClockMissing (a : Fin 16)
  /-- DNCO_FREQ_HI_WRITE (R237): A write of DNCO_FREQ_HI completes the pending down-converter frequency pair. -/
  | dncoFreqHiWrite (who : Req) (a : Fin 16) (data : BitVec 32)
  /-- ROUT_ENABLE (R240): A write of 1 to a tone's ENABLE clears its filter state at the next frame boundary, subject to the FIR budget. -/
  | routEnable (who : Req) (n : Fin 256)
  /-- ROUT_NORMAL_DISABLE (R241): A write of 0 to a tone's ENABLE requests a disable once no window, command or capture needs it. -/
  | routNormalDisable (who : Req) (n : Fin 256)
  /-- ROUT_DISABLED (R241): A pending normal disable of a tone takes effect and DISABLED is set. -/
  | routDisabled (n : Fin 256)
  /-- ROUT_DISABLE_NOW (R242): A write of 1 to a tone's DISABLE_NOW stops offers from the next step and truncates open windows. -/
  | routDisableNow (who : Req) (n : Fin 256)
  /-- SWAP (R231): A write of 1 to SWAP requests the other coefficient bank at a later frame boundary. -/
  | swap (who : Req) (n : Fin 256) (data : BitVec 32)
  /-- COEFFICIENT_WRITE (R231): A write to the coefficient window, discarded with code 0x15 while SWAP is pending. -/
  | coefficientWrite (who : Req) (n : Fin 256) (j : Fin 384) (data : BitVec 32)
  /-- FIR_REFETCH_COMPLETE (R232): A coefficient that failed parity returns from the device's copy and outputs return to normal. -/
  | firRefetchComplete (n : Fin 256)
  /-- ROUT_OPEN (R250): Timed command OPEN opens an integration window, or is refused with NO_DECISION. -/
  | routOpen (n : Fin 256)
  /-- ROUT_CLOSE (R251): Timed command CLOSE ends the open window early. -/
  | routClose (n : Fin 256)
  /-- ROUT_KERNEL (R252): Timed command KERNEL sets KSTART. -/
  | routKernel (n : Fin 256)
  /-- WINDOW_VALUE (R260): Four cycles after a window's last sample the integrator offers its value, state and stamp to all consumers. -/
  | windowValue (n : Fin 256)
  /-- INTEGRATOR_RECOMPUTE (R262): A product that failed its residue check is recomputed when a recompute slot is granted. -/
  | integratorRecompute (n : Fin 256) (ok : Bool)
  /-- KDATA_WRITE (R255): A write of KDATA writes weight KADDR, discarded when active, and advances KADDR. -/
  | kdataWrite (who : Req) (n : Fin 256) (data : BitVec 32)
  /-- KDATA_READ (R255): A read of KDATA returns weight KADDR and advances KADDR. -/
  | kdataRead (who : Req) (n : Fin 256)
  /-- KERNEL_REFETCH_COMPLETE (R255): A weight that failed parity returns from the shadow. -/
  | kernelRefetchComplete (n : Fin 256)
  /-- RES_ACC_READ (R265): A read of RES_ACC_I_LO latches the other result registers from the same window. -/
  | resAccRead (who : Req) (n : Fin 256)
  /-- LANE_NOP (R271): Lane instruction NOP. -/
  | laneNop (n : Fin 64) (q : LaneFault)
  /-- LANE_MOVI (R271): Lane instruction MOVI. -/
  | laneMovi (n : Fin 64) (q : LaneFault)
  /-- LANE_MOVH (R271): Lane instruction MOVH. -/
  | laneMovh (n : Fin 64) (q : LaneFault)
  /-- LANE_ADD (R271): Lane instruction ADD. -/
  | laneAdd (n : Fin 64) (q : LaneFault)
  /-- LANE_ADDI (R271): Lane instruction ADDI. -/
  | laneAddi (n : Fin 64) (q : LaneFault)
  /-- LANE_SUB (R271): Lane instruction SUB. -/
  | laneSub (n : Fin 64) (q : LaneFault)
  /-- LANE_AND (R271): Lane instruction AND. -/
  | laneAnd (n : Fin 64) (q : LaneFault)
  /-- LANE_OR (R271): Lane instruction OR. -/
  | laneOr (n : Fin 64) (q : LaneFault)
  /-- LANE_XOR (R271): Lane instruction XOR. -/
  | laneXor (n : Fin 64) (q : LaneFault)
  /-- LANE_SHLI (R271): Lane instruction SHLI. -/
  | laneShli (n : Fin 64) (q : LaneFault)
  /-- LANE_SHRI (R271): Lane instruction SHRI. -/
  | laneShri (n : Fin 64) (q : LaneFault)
  /-- LANE_SARI (R271): Lane instruction SARI. -/
  | laneSari (n : Fin 64) (q : LaneFault)
  /-- LANE_MUL (R271): Lane instruction MUL. -/
  | laneMul (n : Fin 64) (q : LaneFault)
  /-- LANE_LD (R271): Lane instruction LD. -/
  | laneLd (n : Fin 64) (q : LaneFault)
  /-- LANE_ST (R271): Lane instruction ST. -/
  | laneSt (n : Fin 64) (q : LaneFault)
  /-- LANE_LD2 (R271): Lane instruction LD2. -/
  | laneLd2 (n : Fin 64) (q : LaneFault)
  /-- LANE_ST2 (R271): Lane instruction ST2. -/
  | laneSt2 (n : Fin 64) (q : LaneFault)
  /-- LANE_AMOVI (R271): Lane instruction AMOVI. -/
  | laneAmovi (n : Fin 64) (q : LaneFault)
  /-- LANE_AADD (R271): Lane instruction AADD. -/
  | laneAadd (n : Fin 64) (q : LaneFault)
  /-- LANE_AMOV (R271): Lane instruction AMOV. -/
  | laneAmov (n : Fin 64) (q : LaneFault)
  /-- LANE_HSET (R271): Lane instruction HSET. -/
  | laneHset (n : Fin 64) (q : LaneFault)
  /-- LANE_CMAC (R271): Lane instruction CMAC. -/
  | laneCmac (n : Fin 64) (q : LaneFault)
  /-- LANE_CMUL (R271): Lane instruction CMUL. -/
  | laneCmul (n : Fin 64) (q : LaneFault)
  /-- LANE_QMAC (R271): Lane instruction QMAC. -/
  | laneQmac (n : Fin 64) (q : LaneFault)
  /-- LANE_QMUL (R271): Lane instruction QMUL. -/
  | laneQmul (n : Fin 64) (q : LaneFault)
  /-- LANE_CMLD (R271): Lane instruction CMLD. -/
  | laneCmld (n : Fin 64) (q : LaneFault)
  /-- LANE_ACLR (R271): Lane instruction ACLR. -/
  | laneAclr (n : Fin 64) (q : LaneFault)
  /-- LANE_MOVA (R271): Lane instruction MOVA. -/
  | laneMova (n : Fin 64) (q : LaneFault)
  /-- LANE_PACK (R271): Lane instruction PACK. -/
  | lanePack (n : Fin 64) (q : LaneFault)
  /-- LANE_NORM (R275): Lane instruction NORM. -/
  | laneNorm (n : Fin 64) (q : LaneFault)
  /-- LANE_EXP (R271): Lane instruction EXP. -/
  | laneExp (n : Fin 64) (q : LaneFault)
  /-- LANE_EXPD (R271): Lane instruction EXPD. -/
  | laneExpd (n : Fin 64) (q : LaneFault)
  /-- LANE_ASET (R271): Lane instruction ASET. -/
  | laneAset (n : Fin 64) (q : LaneFault)
  /-- LANE_CLOV (R271): Lane instruction CLOV. -/
  | laneClov (n : Fin 64) (q : LaneFault)
  /-- LANE_JMP (R271): Lane instruction JMP. -/
  | laneJmp (n : Fin 64) (q : LaneFault)
  /-- LANE_BEQZ (R271): Lane instruction BEQZ. -/
  | laneBeqz (n : Fin 64) (q : LaneFault)
  /-- LANE_BNEZ (R271): Lane instruction BNEZ. -/
  | laneBnez (n : Fin 64) (q : LaneFault)
  /-- LANE_BLTZ (R271): Lane instruction BLTZ. -/
  | laneBltz (n : Fin 64) (q : LaneFault)
  /-- LANE_BGEZ (R271): Lane instruction BGEZ. -/
  | laneBgez (n : Fin 64) (q : LaneFault)
  /-- LANE_DBNZ (R271): Lane instruction DBNZ. -/
  | laneDbnz (n : Fin 64) (q : LaneFault)
  /-- LANE_CALL (R271): Lane instruction CALL. -/
  | laneCall (n : Fin 64) (q : LaneFault)
  /-- LANE_RET (R271): Lane instruction RET. -/
  | laneRet (n : Fin 64) (q : LaneFault)
  /-- LANE_RPT (R271): Lane instruction RPT. -/
  | laneRpt (n : Fin 64) (q : LaneFault)
  /-- LANE_WAITI (R271): Lane instruction WAITI starts a wait for input units. -/
  | laneWaiti (n : Fin 64) (q : LaneFault)
  /-- WAITI_RELEASE (R271): Enough units arrive on the channel and the waiting WAITI completes. -/
  | waitiRelease (n : Fin 64)
  /-- LANE_TAKE (R271): Lane instruction TAKE. -/
  | laneTake (n : Fin 64) (q : LaneFault)
  /-- LANE_STMP (R271): Lane instruction STMP. -/
  | laneStmp (n : Fin 64) (q : LaneFault)
  /-- LANE_DEC (R277): Lane instruction DEC delivers a decision to the decision fabric. -/
  | laneDec (n : Fin 64) (q : LaneFault)
  /-- LANE_OUTW (R277): Lane instruction OUTW appends a word and writes the lane record when full or flagged. -/
  | laneOutw (n : Fin 64) (q : LaneFault)
  /-- LANE_EVT (R271): Lane instruction EVT publishes on an event channel. -/
  | laneEvt (n : Fin 64) (q : LaneFault)
  /-- LANE_HALT (R279): Lane instruction HALT stops issue, clears ENABLE and sets STOPPED. -/
  | laneHalt (n : Fin 64) (q : LaneFault)
  /-- LANE_INPUT_UNIT (R268): A stream sample or integrator value is written into a lane's hoop region, overwriting on overrun. -/
  | laneInputUnit (n : Fin 64) (c : Fin 4)
  /-- LANE_RECOMPUTE (R276): A lane MAC that failed its residue check is recomputed when a budget slot is available. -/
  | laneRecompute (n : Fin 64) (ok : Bool)
  /-- LANE_IMEM_REFETCH_COMPLETE (R278): A lane instruction that failed parity returns from the shadow and the lane resumes. -/
  | laneImemRefetchComplete (n : Fin 64)
  /-- LANE_ENABLE (R279): A write of 1 to a lane's ENABLE sets pc to START_PC and starts issue. -/
  | laneEnable (who : Req) (n : Fin 64)
  /-- LANE_NORMAL_DISABLE (R279): A write of 0 to a lane's ENABLE stops it at the next unmet WAITI or HALT. -/
  | laneNormalDisable (who : Req) (n : Fin 64)
  /-- LANE_DISABLE_NOW (R279): A write of 1 to a lane's DISABLE_NOW stops issue and discards a partial record. -/
  | laneDisableNow (who : Req) (n : Fin 64)
  /-- ROUND_START (R297): A syndrome round starts at step T0 + r × PERIOD. -/
  | roundStart
  /-- ROUND_DEADLINE (R300): A round's deadline passes; missing members are erased and remaining checks evaluated. -/
  | roundDeadline
  /-- CT_ENTRY_RETURN (R302): A correction-table entry read returns, its mask is kept and its LINK followed up to the limit. -/
  | ctEntryReturn (j : Fin 32) (bad : Bool)
  /-- ROUND_COMMIT (R303): A round XORs its masks into the Pauli frame, writes its commit slots and its round record. -/
  | roundCommit
  /-- CT_REFETCH_COMPLETE (R307): A correction entry that failed parity returns and its mask is XORed into the frame late. -/
  | ctRefetchComplete (e : Fin 65536)
  /-- FRAME_XOR (R306): A write to FRAME_XOR XORs a mask into FRAME[FX_WORD]. -/
  | frameXor (who : Req) (data : BitVec 32)
  /-- FRAME_CLR (R306): A write of 1 to FRAME_CLR sets the whole Pauli frame to 0. -/
  | frameClr (who : Req)
  /-- CMAP_DATA_ACCESS (R313): An access to CMAP_DATA reads or writes member CMAP_ADDR and advances CMAP_ADDR. -/
  | cmapDataAccess (who : Req) (w : Option (BitVec 32))
  /-- SYNDROME_ENABLE (R309): A write of 1 to the syndrome unit's ENABLE starts rounds, refused with 0x12 on bad PERIOD or TMO. -/
  | syndromeEnable (who : Req)
  /-- SYNDROME_NORMAL_DISABLE (R309): A write of 0 lets started rounds commit and starts no new one. -/
  | syndromeNormalDisable (who : Req)
  /-- SYNDROME_DISABLE_NOW (R309): An immediate disable abandons every uncommitted round and writes ABANDONED records. -/
  | syndromeDisableNow (who : Req)
  /-- JENCY_FLIT_LAUNCH (R316): At each tc boundary each port launches one flit carrying pending entries, rennet, bulk and any replay. -/
  | jencyFlitLaunch (p : Fin 8)
  /-- JENCY_FLIT_DELIVERY (R319): A received flit is checked and delivered at launch + JLAT, writing copy slots, events and rennet. -/
  | jencyFlitDelivery (p : Fin 8) (b0 b1 b2 b3 : BitVec 130) (time : Int)
  /-- FLIT_LOST (R323): An original with no good copy by launch + 2 × RA + JLAT is lost. -/
  | flitLost (p : Fin 8)
  /-- PORT_TRAINING_START (R320): An enabled DOWN port with a running timeline begins training. -/
  | portTrainingStart (p : Fin 8)
  /-- PORT_LINKED (R320): Training completes with JLAT and RA set and the port enters LINKED. -/
  | portLinked (p : Fin 8) (r : TrainResult)
  /-- TRAIN_RETRY (R320): One ms after a training failure the port restarts training. -/
  | trainRetry (p : Fin 8)
  /-- RENNET_ACTION (R326): At count T a rennet ARM or FIRE acts on every member unit of the group. -/
  | rennetAction (g : Fin 16) (fire : Bool)
  /-- BTX_GO (R328): A write of GO sends the user bulk message as chunks within the budget. -/
  | btxGo (who : Req) (p : Fin 8) (data : BitVec 32)
  /-- BULK_CHUNK_RELEASE (R329): A bulk chunk is released at launch + 2 × RA + JLAT and a completed message copied to BRX. -/
  | bulkChunkRelease (p : Fin 8)
  /-- BRX_VALID_CLEAR (R329): A write of 1 to BRX_VALID frees the receive buffer. -/
  | brxValidClear (who : Req) (p : Fin 8)
  /-- JPORT_NORMAL_DISABLE (R330): A write of 0 to a port page's ENABLE lets the message in transmission finish. -/
  | jportNormalDisable (who : Req) (p : Fin 8)
  /-- JPORT_DISABLE_NOW (R330): An immediate disable of a port page drops unsent chunks and launches an ABORT chunk. -/
  | jportDisableNow (who : Req) (p : Fin 8)
  /-- ANNOUNCE (R331): A write of ANNOUNCE starts a membership change for boundary E, or is refused. -/
  | announce (who : Req) (data : BitVec 32)
  /-- MEMBERSHIP_ARM (R331): With all confirmations collected before epoch E − 1, the mesh manager sends ARM to all devices. -/
  | membershipArm (r : MeshNews)
  /-- EPOCH_BOUNDARY (R331): At the first tc of an epoch any armed membership change is applied. -/
  | epochBoundary (agree : Bool)
  /-- PORT_EN_WRITE (R335): A write of PORT_EN enables links or requests a normal disable of a port link. -/
  | portEnWrite (who : Req) (data : BitVec 32)
  /-- PORT_KILL (R335): A write of 1 to PORT_KILL stops the link in the next tc and discards its pending entries. -/
  | portKill (who : Req) (data : BitVec 32)
  /-- ACQ_ARM (R344): Timed command ARM arms an acquisition unit, or is refused with code 0x11. -/
  | acqArm (n : Fin 32)
  /-- ARM_NOW (R344): A write of 1 to CTL.ARM_NOW arms the unit from the next step. -/
  | armNow (who : Req) (n : Fin 32)
  /-- ACQ_FIRE (R347): Timed command FIRE sets a COMMAND trigger at its step. -/
  | acqFire (n : Fin 32)
  /-- FIRE_NOW (R347): A write of 1 to CTL.FIRE_NOW requests a SOFTWARE trigger. -/
  | fireNow (who : Req) (n : Fin 32)
  /-- ACQ_STOP (R357): Timed command STOP disarms an armed unit or ends a capture in progress. -/
  | acqStop (n : Fin 32)
  /-- ACQ_TRIGGER (R349): The earliest trigger sample of an armed unit's enabled conditions starts post-trigger capture. -/
  | acqTrigger (n : Fin 32)
  /-- SPILL_DRAIN (R350): A 64-byte spill entry drains from the FIFO to the CAPTURE ring within budget and ring room. -/
  | spillDrain (n : Fin 32)
  /-- CAPTURE_COMPLETE (R356): A capture whose samples are all accounted for is checked and its record written, entering DONE. -/
  | captureComplete (n : Fin 32) (badAt badWords : Nat)
  /-- CURD_READ (R343): A BAR2 read of the curd store returns the word, setting BAD when it fails parity. -/
  | curdRead (who : Req) (off : BitVec 26) (bad : Bool)
  /-- ACQ_ENABLE (R344): A write of 1 to an acquisition unit's ENABLE. -/
  | acqEnable (who : Req) (n : Fin 32)
  /-- ACQ_NORMAL_DISABLE (R357): A write of 0 disarms an armed unit and waits for a capture in progress. -/
  | acqNormalDisable (who : Req) (n : Fin 32)
  /-- ACQ_DISABLE_NOW (R357): An immediate disable stops sampling, discards undrained data and writes a TRUNCATED record. -/
  | acqDisableNow (who : Req) (n : Fin 32)
  /-- FLUX_PLAY (R365): Timed command PLAY begins a fast flux play of an entry. -/
  | fluxPlay (n : Fin 96) (bad : Bool)
  /-- FLUX_SET (R366): Timed command SET sets FLEVEL from its step. -/
  | fluxSet (n : Fin 96)
  /-- FLUX_STOP (R369): Timed command STOP requests a normal disable at the play's boundary. -/
  | fluxStop (n : Fin 96)
  /-- FLUX_KILL (R369): Timed command KILL immediately disables the fast part and zeroes FLEVEL. -/
  | fluxKill (n : Fin 96)
  /-- FLUX_PLAY_BOUNDARY (R365): A fast flux play reaches its decision point or boundary and continues or returns to FLEVEL. -/
  | fluxPlayBoundary (n : Fin 96) (bad : Bool)
  /-- FLUX_ENABLE (R368): A write of 1 to a flux channel's ENABLE lets its fast part play. -/
  | fluxEnable (who : Req) (n : Fin 96)
  /-- FLUX_NORMAL_DISABLE (R369): A write of 0 to a flux channel's ENABLE ends the fast play at its boundary. -/
  | fluxNormalDisable (who : Req) (n : Fin 96)
  /-- FLUX_DISABLE_NOW (R369): A write of 1 to a flux channel's DISABLE_NOW zeroes the fast part and discards queued commands. -/
  | fluxDisableNow (who : Req) (n : Fin 96)
  /-- FLUX_REFETCH_COMPLETE (R370): A flux record or entry that failed parity returns from the shadow. -/
  | fluxRefetchComplete (n : Fin 96)
  /-- BIAS_EDGE (R374): At each bias sample-clock edge the DC part applies a DC_DIRECT, a ramp value or the queue head. -/
  | biasEdge (n : Fin 96)
  /-- BIAS_REFILL (R373): With room for 15 entries and an unread BIAS ring entry, the channel reads one ring entry. -/
  | biasRefill (n : Fin 96)
  /-- RANGE_CHANGE_COMPLETE (R377): A range change completes within 5 µs and RANGE_CHANGED is set. -/
  | rangeChangeComplete (n : Fin 96)
  /-- D_GO (R376): A write of 1 to D_GO submits a DC_DIRECT, refused while the queue holds entries or a fault is held. -/
  | dGo (who : Req) (n : Fin 96) (data : BitVec 32)
  /-- DC_DIRECT_APPLY (R376): A pending same-range DC_DIRECT applies within 10 µs while the timeline is not running. -/
  | dcDirectApply (n : Fin 96)
  /-- COMPLIANCE (R381): The load voltage reaches 5.9 V and COMPLIANCE is set. -/
  | compliance (n : Fin 96)
  /-- OPEN_DETECT (R381): A current-range output in compliance with too little current for 100 µs sets OPEN. -/
  | openDetect (n : Fin 96)
  /-- FAULT_CLR (R382): A write of 1 to FAULT_CLR clears FAULT_HELD when no cause is live. -/
  | faultClr (who : Req) (n : Fin 96)
  /-- MONITOR_MEASURE (R383): Every 20 µs MON_V and MON_I are measured. -/
  | monitorMeasure (n : Fin 96) (v cur : Int)
  /-- DC_POWER_UP (R379): Within 2 ms of a valid always-on supply the DC output takes its power-up range and code. -/
  | dcPowerUp (n : Fin 96) (good : Bool)
  /-- FLUX_NVM_STORE (R387): A write of 1 to NVM_STORE starts storing the power-up and fault values, refused at endurance. -/
  | fluxNvmStore (who : Req) (n : Fin 96)
  /-- FLUX_NVM_STORE_COMPLETE (R387): The flux NVM store completes and NVM_BUSY clears. -/
  | fluxNvmStoreComplete (n : Fin 96)
  /-- LINK_DOWN_RESET (R389): A PCIe link-down or hot reset acts as a function-level reset of function 0. -/
  | linkDownReset
  /-- FLR_INITIATE (R412): An Initiate FLR write stops a function's requests, disables its pages and asks its sequencers to stop. -/
  | flrInitiate (f : Fin 64)
  /-- FLR_SEQUENCER_DEADLINE (R412): 200 µs after an FLR, sequencers of the function still running receive an immediate disable. -/
  | flrSequencerDeadline (f : Fin 64)
  /-- FLR_RINGS_DISABLE (R412): Once every record caused by the FLR is in a device copy, the function's rings are disabled. -/
  | flrRingsDisable (f : Fin 64)
  /-- FLR_COMPLETE (R412): The function's MSI-X state and registers return to reset values and the FLR completes. -/
  | flrComplete (f : Fin 64) (ari : Bool) (vfs : Fin 64)
  /-- DB_PROD (R400): A write of DB_PROD sets a host-produced ring's producer index, or is discarded with code 0x15. -/
  | dbProd (f : Fin 64) (single : Bool) (data : BitVec 64)
  /-- DB_CONS (R401): A write of DB_CONS returns slots of a device-produced ring, or is discarded with code 0x15. -/
  | dbCons (f : Fin 64) (single : Bool) (data : BitVec 64)
  /-- MOVER_TRANSFER (R400): The queue manager's mover copies a batch of entries between ring copies and writes WB. -/
  | moverTransfer (r : Fin 262144) (cnt : Nat)
  /-- MOVER_DMA_ERROR (R406): An error, poisoned or timed-out completion stops the ring's movement. -/
  | moverDmaError (r : Fin 262144)
  /-- RING_ENABLE (R399): A write of 1 to a ring's EN enables it when its context is valid, or refuses with code 0x13. -/
  | ringEnable (who : Req) (f : Fin 64) (data : BitVec 32)
  /-- RING_DISABLE (R407): A write of 0 to a ring's EN disables it and lets the mover finish its transfer. -/
  | ringDisable (who : Req) (f : Fin 64) (data : BitVec 32)
  /-- RING_STOPPED (R407): The mover finishes on a disabled ring, STOPPING clears and kept entries are counted. -/
  | ringStopped (r : Fin 262144)
  /-- RING_SEL_WRITE (R416): A write of RING_SEL, refused with code 0x11 outside the function's quota. -/
  | ringSelWrite (who : Req) (f : Fin 64) (data : BitVec 32)
  /-- QUOTA_WRITE (R397): A write of RING_BASE or RING_COUNT, refused on overlap or enabled removed rings. -/
  | quotaWrite (who : Req) (f : Fin 64) (data : BitVec 32)
  /-- JOB_TAKE (R410): The job service takes the next job of a JOB ring and checks it. -/
  | jobTake (r : Fin 262144)
  /-- JOB_LOAD (R409): Job operation LOAD copies host memory into BAR2 unit by unit. -/
  | jobLoad (r : Fin 262144) (dmaErr : Bool)
  /-- JOB_START (R409): Job operation START schedules the selected sequencers to be enabled at the start step. -/
  | jobStart (r : Fin 262144)
  /-- JOB_START_STEP (R409): At the START step the selected sequencers' ENABLE is set. -/
  | jobStartStep (r : Fin 262144)
  /-- JOB_STOP (R409): Job operation STOP requests a normal disable of the selected sequencers. -/
  | jobStop (r : Fin 262144)
  /-- JOB_FENCE (R409): Job operation FENCE waits for the selected sequencers to stop. -/
  | jobFence (r : Fin 262144)
  /-- JOB_COMPLETE (R411): A job completes and its completion entry is written to the LOG ring. -/
  | jobComplete (r : Fin 262144)
  /-- MSIX_COALESCED_MESSAGE (R461): At the end of a 64 ns window one further message is sent for assertions within it. -/
  | msixCoalescedMessage (f : Fin 64) (v : Fin 64)
  /-- MSIX_HELD_RELEASE (R461): A held message is sent when masking or the FLR ends and the PBA bit is still set. -/
  | msixHeldRelease (f : Fin 64) (v : Fin 64)
  /-- DRAM_COMMAND_ISSUE (R426): A channel chooses and issues its next command, checked by the shadow checker. -/
  | dramCommandIssue (c : Fin 4) (v : Option (Nat × Nat))
  /-- DRAM_READ_COMPLETE (R434): A DRAM read returns and its block is checked against its CRC. -/
  | dramReadComplete (c : Fin 4) (back : Option (BitVec 512 × BitVec 16)) (parity : Bool)
  /-- DRAM_REREAD_COMPLETE (R434): A re-read of a failed block returns, delivering the data or leading to a freeze. -/
  | dramRereadComplete (c : Fin 4) (back : Option (BitVec 512 × BitVec 16))
  /-- REFRESH (R429): A per-bank refresh falls due and is issued. -/
  | refresh (c : Fin 4) (rank : Fin 2) (bank : Fin 16) (v : Option (Nat × Nat))
  /-- MR4_OSC_READ (R430): Every 4 ms the controller reads MR4 and runs the oscillators, adjusting timing or setting DRAM_HOT. -/
  | mr4OscRead (c : Fin 4) (mr4a mr4b : BitVec 5) (dqi dqo : BitVec 16) (v : Option (Nat × Nat))
  /-- MC_UNFREEZE (R438): A write of 1 to MC_UNFREEZE starts leaving a freeze, with retraining when RETRAIN = 1. -/
  | mcUnfreeze (who : Req)
  /-- UNFREEZE_COMPLETE (R438): Held writes issue, waiting requests and rings resume, and FROZEN clears. -/
  | unfreezeComplete (step : Option (Fin 4 × Fin 9))
  /-- FRZ_VALID_CLEAR (R437): A write of 1 to FRZ_VALID clears the freeze capture. -/
  | frzValidClear (who : Req)
  /-- NV_STORE (R419): A write of 1 to NV_STORE starts storing the DRAM configuration, refused at endurance. -/
  | nvStore (who : Req)
  /-- NV_STORE_COMPLETE (R419): The DRAM configuration store completes and NV_BUSY clears. -/
  | nvStoreComplete
  /-- REGION_WRITE (R423): A write of the vat or ring region, refused with code 0x11 when invalid or while rings are enabled. -/
  | regionWrite (who : Req) (ring : Bool) (data : BitVec 32)
  /-- EVENT_FIRE (R445): A write of FIRE bit k publishes on channel k of the group. -/
  | eventFire (who : Req) (g : Fin 32) (data : BitVec 32)
  /-- FIRING_COMPLETE (R451): The last subscriber acknowledges a firing; chains publish and group actions act. -/
  | firingComplete (k : Fin 256)
  /-- CH_EN_WRITE (R453): A write of CH_EN to 1 re-enables the channel and sets LOOP_RUN to 0. -/
  | chEnWrite (who : Req) (k : Fin 256) (data : BitVec 32)
  /-- EVENT_GROUP_ENABLE (R443): A write of 1 to a group page's ENABLE enables the group. -/
  | eventGroupEnable (who : Req) (g : Fin 32)
  /-- EVENT_GROUP_NORMAL_DISABLE (R454): A write of 0 to a group page's ENABLE turns its channels off. -/
  | eventGroupNormalDisable (who : Req) (g : Fin 32)
  /-- EVENT_GROUP_DISABLE_NOW (R454): An immediate disable of a group also discards its queued PUBLISH commands. -/
  | eventGroupDisableNow (who : Req) (g : Fin 32)
  /-- EVCH_PUBLISH (R445): Timed command PUBLISH publishes on its event channel at its step. -/
  | evchPublish (k : Fin 256)
  /-- RT_DATA_ACCESS (R460): An access to RT_DATA reads or writes the route of source RT_SEL and advances RT_SEL. -/
  | rtDataAccess (who : Req) (w : Option (BitVec 32))
  /-- ETH_FRAME_RX (R466): A received frame is discarded, delivered to a receive slot or queued for forwarding. -/
  | ethFrameRx (p : Fin 2) (bytes : List (BitVec 8)) (fcs : Bool) (ts : Stamp)
  /-- ETH_FORWARD_EGRESS (R476): A forwarded frame leaves the other port with its correctionField updated. -/
  | ethForwardEgress (p : Fin 2) (ts : Stamp)
  /-- TX_GO (R475): A write of TX_GO transmits TX_BUF, refused with code 0x12 on bad length or busy. -/
  | txGo (who : Req) (p : Fin 2) (data : BitVec 32)
  /-- TX_DONE (R475): A transmitted frame has left, capturing TX_TS for event messages. -/
  | txDone (p : Fin 2) (ts : Stamp)
  /-- ETH_LINK_UP (R478): A port's link comes up. -/
  | ethLinkUp (p : Fin 2)
  /-- ETH_LINK_LOST (R478): A port's link goes down. -/
  | ethLinkLost (p : Fin 2)
  /-- ETH_ENABLE (R465): A write of 1 to an Ethernet port's ENABLE. -/
  | ethEnable (who : Req) (p : Fin 2)
  /-- ETH_NORMAL_DISABLE (R477): A write of 0 completes the frame in transmission and takes the link down. -/
  | ethNormalDisable (who : Req) (p : Fin 2)
  /-- ETH_DISABLE_NOW (R477): An immediate disable cuts the frame in transmission and discards queued frames. -/
  | ethDisableNow (who : Req) (p : Fin 2)
  /-- NT_INC_NS_WRITE (R469): A write of NT_INC_NS completes the pending increment, in force from the next tick, or refused. -/
  | ntIncNsWrite (who : Req) (data : BitVec 32)
  /-- STEP_GO (R470): A write of 1 to STEP_GO requests a network-time step, refused beyond NT_JUMP_LIMIT. -/
  | stepGo (who : Req)
  /-- NT_WRAP (R472): NT_NS wraps to 0, setting WRAP and advancing WRAP_COUNT. -/
  | ntWrap
  /-- NT_NS_READ (R468): A read of NT_NS latches NT_FRAC from the same tick. -/
  | ntNsRead (who : Req)
  /-- SLOW_ROUND (R485): Every 10 ms every sensor, supervisor and front-end temperature is measured and limits evaluated. -/
  | slowRound (rs : List Reading) (sup : List (List Int)) (ref : RefInput)
  /-- FAST_ROUND (R485): Every 500 µs sensors near a limit are measured again. -/
  | fastRound (rs : List Reading)
  /-- THR_FORCE_WRITE (R489): A write of THR_FORCE to 1 starts throttling. -/
  | thrForceWrite (who : Req) (data : BitVec 32)
  /-- PAUSE_ANNOUNCE (R489): A throttle pause is announced to every sequencer 131,072 steps before its T_apply. -/
  | pauseAnnounce
  /-- SHUTDOWN_RECORD (R493): Within 5 ms of Shutdown a record is written into the NVM ring. -/
  | shutdownRecord
  /-- SH_DATA_READ (R502): A read of SH_DATA returns a word of a shutdown record and advances SH_WORD. -/
  | shDataRead (who : Req)
  /-- SFE_CONVERSION (R495): A sensor conversion completes, is linearised and produced, with auto-ranging. -/
  | sfeConversion (k : Fin 16) (v : Int)
  /-- SFE_OPEN_TRIP (R497): A broken wire trips the compliance monitor, discards the conversion and lowers excitation. -/
  | sfeOpenTrip (k : Fin 16)
  /-- SFE_OPEN_RECOVER (R497): After 64 ms clear the channel returns to its previous excitation. -/
  | sfeOpenRecover (k : Fin 16)
  /-- SFE_REQ (R499): A write of 1 to REQ latches the latest word into the word registers. -/
  | sfeReq (who : Req) (k : Fin 16)
  /-- COEF_GO (R498): A write of 1 to COEF_GO puts the pending coefficients in force from the next conversion, or refuses them. -/
  | coefGo (who : Req) (k : Fin 16)
  /-- SFE_ENABLE (R500): A write of 1 to a sensor channel's ENABLE starts excitation and conversions. -/
  | sfeEnable (who : Req) (k : Fin 16)
  /-- SFE_NORMAL_DISABLE (R500): A write of 0 completes the conversion and then switches excitation off. -/
  | sfeNormalDisable (who : Req) (k : Fin 16)
  /-- SFE_DISABLE_NOW (R500): DISABLE_NOW sets excitation to 0 within 10 µs and discards the conversion. -/
  | sfeDisableNow (who : Req) (k : Fin 16)
  /-- CAL_FOREGROUND (R509): A GO with MODE 0 requests a foreground calibration, or is refused with code 0x11. -/
  | calForeground (who : Req) (data : BitVec 32)
  /-- CAL_BACKGROUND_START (R513): A GO with MODE 1 starts background calibration of a target. -/
  | calBackgroundStart (who : Req) (data : BitVec 32)
  /-- CAL_BACKGROUND_STOP (R513): A GO with MODE 2 stops background calibration of a target. -/
  | calBackgroundStop (who : Req) (data : BitVec 32)
  /-- CAL_HOLD_START (R510): At the qualifying frame boundary the target is held and switched to its reference. -/
  | calHoldStart
  /-- CAL_RELEASE (R510): At the frame boundary after measurement the hold ends and new target values are set. -/
  | calRelease (vals : List Int)
  /-- CAL_ABORT (R512): A write of 1 to ABORT abandons the foreground calibration. -/
  | calAbort (who : Req)
  /-- CAL_ABANDON (R512): A fault, disable, lock loss or reference fall abandons the foreground calibration at once. -/
  | calAbandon
  /-- CAL_BG_PASS (R513): A background pass completes and sets new target values. -/
  | calBgPass (kind : Fin 8) (idx : Fin 128) (vals : List Int)
  /-- RIPEN_BOUNDARY (R514): At each ripening boundary one trim of each ripening target moves one tap. -/
  | ripenBoundary
  /-- CAL_STORE (R516): A write of 1 to STORE starts copying a target's trims to the user set, or is refused. -/
  | calStore (who : Req) (data : BitVec 32)
  /-- CAL_STORE_COMPLETE (R516): The trim store completes and STORED is set. -/
  | calStoreComplete
  /-- CAL_RESTORE (R516): A write of 1 to RESTORE sets the target values to the factory set. -/
  | calRestore (who : Req) (data : BitVec 32)
  /-- TRIM_DATA_READ (R520): A read of TRIM_DATA returns a trim and advances TRIM_NUM. -/
  | trimDataRead (who : Req)
  /-- REQ_CONFIGURED (R522): A state request to Configured, powering tiles down. -/
  | reqConfigured (who : Req)
  /-- REQ_READY (R522): A state request to Ready, powering and aligning enabled tiles. -/
  | reqReady (who : Req)
  /-- REQ_RUNNING (R522): A state request to Running, accepted with RUN = 1, ARM = 0 and tiles aligned. -/
  | reqRunning (who : Req)
  /-- REQ_CELLAR (R533): A state request to Cellar, refused with code 0x12 while blocks are active. -/
  | reqCellar (who : Req)
  /-- STATE_TRANSITION_COMPLETE (R522): An accepted state transition completes and STATE shows the new state. -/
  | stateTransitionComplete (boot : BootEnd)
  /-- WAKE_REQ (R535): A write of 1 to WAKE_REQ wakes the device from Cellar. -/
  | wakeReq (who : Req)
  /-- PCIE_D0_WAKE (R535): A transition of function 0 from D3hot to D0 wakes the device from Cellar. -/
  | pcieD0Wake
  /-- ALWAYS_ON_VALID (R550): The always-on rails become valid and the device enters Reset. -/
  | alwaysOnValid
  /-- ALWAYS_ON_INVALID (R550): An always-on rail falls below 83 % and the device enters Off. -/
  | alwaysOnInvalid
  /-- POR_N_ASSERT (R526): POR_N low resets the whole device. -/
  | porNAssert
  /-- POR_N_RELEASE (R530): Release of POR_N enters Starter and begins the boot. -/
  | porNRelease (dramOk : Bool) (badTrims : List Nat) (boot : BootEnd)
  /-- WARM_RESET (R526): A write of 1 to WARM_RESET resets all but the always-on domain, timeline and trims. -/
  | warmReset (who : Req)
  /-- WATCHDOG_EXPIRY (R526): Expiry of the management firmware watchdog causes a warm reset. -/
  | watchdogExpiry
  /-- PERST_N_ASSERT (R526): PERST_N low causes a warm reset and holds the PCIe core in reset. -/
  | perstNAssert
  /-- PERST_N_RELEASE (R532): Release of PERST_N lets the PCIe endpoint begin link training. -/
  | perstNRelease
  /-- SUPPLY_FAULT (R525): A supervisor finds a rail outside ±5 %, setting SUPPLY and starting flux fault sequences. -/
  | supplyFault (d : Fin 9)
  /-- SUPPLY_SHUTDOWN (R525): A rail below 90 % for 10 µs puts the device into Shutdown. -/
  | supplyShutdown (d : Fin 9)
  /-- BOOT_COMPLETE (R530): Starter's last stage completes and the device enters Configured, recording BOOT_TIME. -/
  | bootComplete (ms : BitVec 16) (copyB : Bool) (fwVersion : BitVec 32) (fwSvn : BitVec 16) (slot : Fin 4) (mcVersion : BitVec 32) (mcSvn : BitVec 16) (base : List (BitVec 192))
  /-- RECOVER (R531): A write of 1 to RECOVER boots an image read from host memory. -/
  | recover (who : Req) (boot : BootEnd)
  /-- KEY_REVOKE_WRITE (R529): A write of KEY_REVOKE fuses a key slot's revocation. -/
  | keyRevokeWrite (who : Req) (data : BitVec 32)
  /-- DBG_CODE_WRITE (R537): A write of DBG_CODE by function 0 sets the user-level unlock code. -/
  | dbgCodeWrite (who : Req) (data : BitVec 32)
  /-- DBG_AUTH (R537): TAP instruction DBG_AUTH unlocks the debug port at user or secure level, or counts a failure. -/
  | dbgAuth (a : AuthTry)
  /-- DBG_LOCK (R537): A write of 1 to DBG_LOCK locks the debug port again. -/
  | dbgLock (who : Req)
  /-- DBG_ACCESS_READ (R538): DBG_ACCESS operation read of BAR0, BAR2 or debug space. -/
  | dbgAccessRead (space : Fin 4) (addr : BitVec 32)
  /-- DBG_ACCESS_WRITE (R538): DBG_ACCESS operation write of BAR0, BAR2 or debug space. -/
  | dbgAccessWrite (space : Fin 4) (addr : BitVec 32) (data : BitVec 32)
  /-- DBG_ACCESS_POLL (R538): DBG_ACCESS operation poll returns the status of the last operation. -/
  | dbgAccessPoll
  /-- EXTEST (R536): TAP instruction EXTEST, accepted only while POR_N is low. -/
  | extest
  /-- SAMPLE_PRELOAD (R536): TAP instruction SAMPLE/PRELOAD. -/
  | samplePreload (bits : BitVec 64)
  /-- IDCODE (R536): TAP instruction IDCODE returns 0x1960_05A9. -/
  | idcode
  /-- EXTEST_PULSE (R536): TAP instruction EXTEST_PULSE on AC-coupled SerDes lanes while POR_N is low. -/
  | extestPulse
  /-- EXTEST_TRAIN (R536): TAP instruction EXTEST_TRAIN on AC-coupled SerDes lanes while POR_N is low. -/
  | extestTrain
  /-- BYPASS (R536): TAP instruction BYPASS, also selected by unlisted codes. -/
  | bypass
  /-- DEBUG_HALT (R540): A write of DCTL.HALT requests a halt of a sequencer or lane. -/
  | debugHalt (t : DbgTarget)
  /-- DEBUG_HALT_TAKEN (R540): A halt takes effect at the next boundary; posted commands run on and the open shot is spoiled. -/
  | debugHaltTaken (t : DbgTarget) (h : Fin 2)
  /-- DEBUG_RESUME (R540): A write of DCTL.RESUME dispatches the abandoned instruction again with its restart word. -/
  | debugResume (t : DbgTarget)
  /-- DEBUG_STEP (R540): A write of DCTL.STEP issues one instruction and halts at the next boundary. -/
  | debugStep (t : DbgTarget)
  /-- REG_DATA_WRITE (R539): A write of REG_DATA sets the selected register of a halted target. -/
  | regDataWrite (t : DbgTarget) (data : BitVec 32)
  /-- SMB_READ_WORD (R555): An SMBus Read Word command returns a temperature or status word. -/
  | smbReadWord (cmd : BitVec 8)
  /-- SMB_ALERT_RESPONSE (R555): A read of the Alert Response Address returns 0x4C. -/
  | smbAlertResponse
  /-- REFCLK_PERIOD (R65): At each REFCLK period the timeline count advances by one and the network clock ticks. Every block then computes the two steps of that count: engine samples, channel scaling, ADC, chain and integrator samples, acquisition samples and fast flux codes. -/
  | refclkPeriod (adc : List (List Int)) (faults : List Residue)
  /-- PROGRAM_REFETCH_COMPLETE (R33): A sequencer program-memory instruction that failed parity returns from its authenticated DRAM copy, and the stalled sequencer resumes its fetch. -/
  | programRefetchComplete (n : Fin 256)
  /-- COMPLIANCE_CLEAR (R381): The live COMPLIANCE condition of a flux channel clears once |V| at FLUX_SNS has stayed below 5.7 V for 100 µs. -/
  | complianceClear (n : Fin 96)
deriving DecidableEq, Repr

end Sys2Proof
end

