-- ==== Sys2Proof/Decode.lean ====
section
/-!
DEFINITION. The reading of a table word as a command.
-/
namespace Sys2Proof

/-- The command that a word spells by the table's bits. The device is driven by commands from outside and none of the
360 rows of spec/opcode_table.json gives bits, so no word spells a command. -/
def decodeTableWord (_nbits _w : Nat) : Option Instr := none

end Sys2Proof
end

