-- ==== Sys2Proof/Config.lean ====
section
/-!
DEFINITION. The free values: constants without a body, for what the spec leaves open. Nothing can evaluate them, so a
statement about them holds whatever they are.
-/
namespace Sys2Proof.Config

/-- The `k`-th free value of `w` bits: a value of which the spec states nothing (assumption log 3). `k` is the counter
`State.free` at the moment the value is taken. -/
opaque freeValue (w : Nat) (k : Nat) : BitVec w

/-- The public key in OTP slot `k`, as a point of P-384 (R529: fused at test). -/
opaque otpKey (k : Nat) : Nat × Nat

/-- How many oscillator counts one tap of the DQ delay line is worth (R430 states the tap, not its size). -/
opaque dqTapCounts : Nat

/-- The fractional-delay filter of a tone engine for phase `d mod 8`, over the last samples, newest first. R167 gives
its length and phases, not its coefficients. -/
opaque fracDelay (d : Nat) (hist : List (Int × Int)) : Int × Int

/-- Sample `k` after a change of FDELAY from `dOld` to `dNew`: it combines the old and new phases (R167). -/
opaque fracMix (dOld dNew k : Nat) (hist : List (Int × Int)) : Int × Int

/-- The coefficients of interpolator stage `i` between two input samples, from the middle outwards, in units of
2^−interpBits. R197 gives the response of the three half-band stages, not their coefficients. -/
opaque interpTaps (i : Nat) : List Int

/-- The resolution of the interpolator's coefficients. -/
opaque interpBits : Nat

/-- Coefficient `k` of the down-converter's decimation filter, in units of 2^−ddcBits; the middle one follows from the
gain of R223. R223 gives the response, not the coefficients. -/
opaque ddcTap (k : Nat) : Int

/-- The resolution of the down-converter's coefficients. -/
opaque ddcBits : Nat

/-- Coefficient `k` of the delay filter for phase `frac` of 256, in units of 2^−delayBits. R226 gives the response, not the
coefficients. -/
opaque delayTap (frac k : Nat) : Int

/-- The resolution of the delay filter's coefficients. -/
opaque delayBits : Nat

/-- Coefficients 0 and 2 of half-band stage `i`, in units of 2^−(hbBits + 1) (R228 gives the response of the 11 taps). -/
opaque hbOuter (i : Nat) : Int
opaque hbMid (i : Nat) : Int

/-- The resolution of the half-band coefficients. -/
opaque hbBits : Nat

/-- MAC_CORR for TS_POINT = 1 in a configuration of SPEED and FEC (R467 states no value). -/
opaque macCorr (speed fec : Nat) : BitVec 16

/-- The temperature, in units of 1/16 °C, that a diode's three voltages give with an IDEALITY (R484 names the method and no
constants). -/
opaque diodeTemp (ideality v10 v40 v160 : Nat) : Int

/-- The temperature, in units of 1/16 °C, that a thermistor of resistance `r` has by the formula of R484, which states no
rounding. -/
opaque thermistorTemp (b resRef r : Nat) : Int

/-- The VCO band that die `d`'s PLL chooses for a die temperature, and the code of its charge-pump and loop-filter settings
(R494 states neither function). -/
opaque vcoBand (d : Nat) (temp : Int) : Nat
opaque loopCode (d : Nat) (temp : Int) : Int

/-- The correction of flux tile `i`'s bias reference that the coefficients in NVM give for a die temperature, in units of 10^−9
of full scale (R494 states no coefficients). -/
opaque biasTarget (i : Nat) (temp : Int) : Int

/-- Whether an inexact quotient is rounded up or down (R488 states no rounding). -/
opaque roundUp (num den : Int) : Bool

/-- The binary32 word for the number `num / den` (R495 and R498 state no rounding). -/
opaque binary32 (num : Int) (den : Nat) : BitVec 32

end Sys2Proof.Config
end

