-- ==== Sys2Proof/Machine/SMap.lean ====
section
/-!
DEFINITION. The operations over sparse maps: reading a key, writing a key, and the canonical form.
`d` says what an unlisted key reads as. Writing that value removes the entry, so equal maps are equal lists.
-/
namespace Sys2Proof

namespace SMap

variable {α : Type}

/-- The entry listed for key `k`, if there is one. -/
def find? : SMap α → Nat → Option α
  | [], _ => none
  | (j, v) :: m, k => if j = k then some v else find? m k

/-- The value at key `k`: the listed one, else what an unlisted key reads as. -/
def get (d : Nat → α) (m : SMap α) (k : Nat) : α := (find? m k).getD (d k)

/-- The map without key `k`. -/
def erase : SMap α → Nat → SMap α
  | [], _ => []
  | (j, v) :: m, k => if j = k then erase m k else (j, v) :: erase m k

/-- The map with `v` listed at key `k`, in its place in the order. -/
def insert : SMap α → Nat → α → SMap α
  | [], k, v => [(k, v)]
  | (j, w) :: m, k, v =>
    if k < j then (k, v) :: (j, w) :: m
    else if j = k then (k, v) :: m
    else (j, w) :: insert m k v

/-- Write `v` at key `k`, keeping the canonical form. -/
def set [DecidableEq α] (d : Nat → α) (m : SMap α) (k : Nat) (v : α) : SMap α :=
  if v = d k then erase m k else insert m k v

/-- Apply `f` to the value at key `k`. -/
def modify [DecidableEq α] (d : Nat → α) (m : SMap α) (k : Nat) (f : α → α) : SMap α :=
  set d m k (f (get d m k))

/-- Every key of `m` lies above `k`. -/
def above (k : Nat) : SMap α → Bool
  | [] => true
  | (j, _) :: m => decide (k < j) && above k m

/-- The canonical form: keys strictly rising, no entry equal to what an unlisted key reads as. -/
def wf [DecidableEq α] (d : Nat → α) : SMap α → Bool
  | [] => true
  | (j, v) :: m => above j m && decide (v ≠ d j) && wf d m

/-- The listed keys. -/
def keys (m : SMap α) : List Nat := m.map Prod.fst

end SMap

end Sys2Proof
end

