-- ==== Sys2Proof/Machine/State.lean ====
section
/-!
DEFINITION. The state of the PQC9600 as plain data, the reasons a step can stop, and the state after reset.
Registers of the pages stand in `regs`, keyed by BAR0 byte address; what a chapter gives a block beside its registers
stands in that block's own structure. Banks of blocks are sparse maps from the instance number.
-/
namespace Sys2Proof.Machine

/-- Faults of the block. The spec gives no command that stops the machine, so no meaning raises one. -/
inductive Fault where
  /-- Never raised (safe): the type must not be empty of names. -/
  | none
deriving DecidableEq, Repr

/-- Refusals of the model. -/
inductive Refusal where
  /-- Raised only by an arm of exec whose command has no meaning yet (safe: the run stops). -/
  | notModelled (mnemonic : String)
deriving DecidableEq, Repr

/-! ### Chapter 04: sequencers -/

/-- The shot that a command is charged to: sequencer and shot number (R119, R121). -/
abbrev Tag := Option (Nat × Nat)

/-- A timed command in its target's queue (R105, R107): its step, the sequencer that posted it, the shot whose tag it
carries, its code and its argument. -/
structure TCmd where
  step : Nat
  poster : Nat
  tag : Tag
  code : Nat
  arg : Nat
  /-- The step in which it entered the queue (R108). -/
  entry : Nat
deriving DecidableEq, Repr

/-- A shot whose record has not been written yet (R117 to R123). -/
structure Shot where
  num : Nat
  start : Nat
  /-- The boundary step, once the shot is closed (R118). -/
  boundary : Option Nat
  /-- Network nanoseconds in the count of the shot's start (R120), once that count has come. -/
  nt : Option Nat
  /-- The flags of R122. -/
  flags : BitVec 16
  /-- The decision bitmap (R114). -/
  bitmap : BitVec 256
  user : Word
  /-- Slot and state last accepted in this shot, newest first; none for NO_DECISION (R114). -/
  accepted : List (Nat × Option Nat)
  /-- Tiles through which a command of the shot executed (R121). -/
  tiles : BitVec 8
  /-- Tiles whose condition bit was set from the shot's start on, with the first such step (R42). -/
  skew : List (Nat × Nat)
  /-- The shot ended before its boundary (R123). -/
  aborted : Bool
deriving DecidableEq, Repr

/-- The wait in which a sequencer's current instruction stands (R101, R142). -/
inductive SeqWait where
  /-- No wait. -/
  | none
  /-- BRD on a slot: since-stamp, arm table base, last step for a value (R111). -/
  | brd (slot since base last : Nat)
  /-- WAITT until a step. -/
  | waitt (til : Nat)
  /-- WAITE: channel, timeout target, last step, number of the last firing of the channel at issue (R115). -/
  | waite (ch base last seen : Nat)
  /-- BARW on a group (R116). -/
  | barw (group : Nat)
  /-- A POST that R110 or a full queue holds: target, command, NOW bit, DT and tp at issue (R105). -/
  | post (tgt : Nat) (cmd : TCmd) (now : Bool) (dt tp : Nat)
deriving DecidableEq, Repr

/-- Why a sequencer's fetch or dispatch is held (R33, R147). -/
inductive SeqStall where
  | none
  /-- The instruction at this pc is being re-fetched. -/
  | program (pc : Nat)
  /-- Control-store word `a` is being re-fetched. -/
  | control (a : Nat)
deriving DecidableEq, Repr

/-- What a sequencer holds beside its registers (R96, R146). -/
structure SeqSt where
  /-- Timeline pointer, a step index. -/
  tp : Nat
  /-- TP_HI as latched by the last read of TP_LO (R134). -/
  tpHi : Word
  /-- Return addresses, top first, at most 8. -/
  stack : List Nat
  /-- The sequencer has been started (R126) and has not stopped issue. -/
  issuing : Bool
  /-- Its start is held pending: ENABLE was set outside Running, and Running has not begun since (R94). -/
  fresh : Bool
  /-- First step in which it may issue its next instruction (R100, R101). -/
  nextStep : Nat
  wait : SeqWait
  /-- The restart word: dispatch step of the waiting instruction (R144), and the firings that a WAITE had seen then. -/
  restart : Option (Nat × Nat)
  stall : SeqStall
  /-- Unwritten shots, oldest first; the open shot is the last one, its boundary not yet fixed. -/
  shots : List Shot
  /-- A shot is open. -/
  isOpen : Bool
  /-- A normal disable is pending (R128). -/
  stopReq : Bool
  /-- An immediate disable is requested (R129, R146 order 1). -/
  killReq : Bool
  /-- A debug halt is requested (R146 order 3). -/
  haltReq : Bool
  /-- The sequencer is halted (R540). -/
  halted : Bool
  /-- A single step is asked for; its instruction has issued; the breakpoint at the pc is passed (R540). -/
  stepping : Bool
  stepped : Bool
  pass : Bool
  /-- Issue has stopped; STOPPED has not been set (R127). -/
  ending : Bool
  /-- Destination of a requested hand-over (R131). -/
  handTo : Option Nat
  /-- The next shot carries HANDOVER (R132). -/
  handed : Bool
  /-- Throttle pauses announced and not yet applied: T_apply and length in steps (R125, R490). -/
  pauses : List (Nat × Nat)
  /-- Step of the last boundary or dispatch (R145), moved on by the length of a stall on a control-store re-fetch. -/
  micro : Nat
  /-- The step in which that stall began. -/
  stalledAt : Nat
  /-- An ENABLE written while the cluster's copy is being applied, taken at its end (R155). -/
  held : Bool
deriving DecidableEq, Repr

/-- A sequencer after reset (R96). -/
def SeqSt.reset : SeqSt where
  tp := 0
  tpHi := 0
  stack := []
  issuing := false
  fresh := false
  nextStep := 0
  wait := .none
  restart := none
  stall := .none
  shots := []
  isOpen := false
  stopReq := false
  killReq := false
  haltReq := false
  halted := false
  stepping := false
  stepped := false
  pass := false
  ending := false
  handTo := none
  handed := false
  pauses := []
  micro := 0
  stalledAt := 0
  held := false

/-! ### Chapter 03: tiles -/

/-- What a tile holds beside its registers. -/
structure TileSt where
  /-- The step before which the condition bit was last 1, if it was and is not now (R42). -/
  condEnd : Nat
  /-- The tile's PLL has been started (R79). -/
  pll : Bool
  /-- Largest temperature difference of the tile, in units of 1/16 °C (R38, R483). -/
  dTemp : Int
  /-- Largest supply difference of the tile, in mV (R38). -/
  dSupply : Int
deriving DecidableEq, Repr

def TileSt.reset : TileSt := ⟨0, false, 0, 0⟩

/-! ### Chapter 05: microcode loader -/

/-- A verified image in a slot of the secure region (R154). -/
structure McSlot where
  version : Nat
  svn : Nat
  valid : Bool
deriving DecidableEq, Repr

def McSlot.reset : McSlot := ⟨0, 0, false⟩

/-- What the loader is doing (R153, R155). -/
inductive LoaderJob where
  | idle
  | verify
  | apply
deriving DecidableEq, Repr

/-- What the microcode loader holds beside its registers. -/
structure LoaderSt where
  job : LoaderJob
  /-- The clusters that the running APPLY writes. -/
  mask : BitVec 16
  slotA : McSlot
  slotB : McSlot
  /-- Control-store words whose re-fetch is under way: cluster × 4,096 + address (R147). -/
  refetch : List Nat
deriving DecidableEq, Repr

def LoaderSt.reset : LoaderSt := ⟨.idle, 0, .reset, .reset, []⟩

/-! ### Chapter 14: rings, jobs, functions -/

/-- How far the job of a JOB ring has come (R409, R410). -/
inductive JobPhase where
  /-- Taken and checked; its operation has not begun. -/
  | taken
  /-- A START that waits for its step, or a STOP or FENCE that waits for its sequencers. -/
  | waiting
  /-- Its operation is over; its completion has not been written. -/
  | done
deriving DecidableEq, Repr

/-- A job (R408). -/
structure Job where
  op : Nat
  tag : Nat
  addr : Nat
  len : Nat
  dest : Nat
  mask : BitVec 256
  /-- The completion status (R411). -/
  status : Nat
  /-- Bytes of a LOAD copied so far, written and rejected units. -/
  pos : Nat
  written : Nat
  rejected : Nat
  phase : JobPhase
deriving DecidableEq, Repr

/-- The context of a ring (R399). -/
structure RingSt where
  en : Bool
  keep : Bool
  kind : Nat
  log2 : Nat
  vector : Nat
  haddr : Nat
  /-- Device copy, in units of 64 bytes. -/
  daddr : Nat
  wb : Nat
  aux : Nat
  modTime : Nat
  modCount : Nat
  /-- Producer index P. -/
  prod : Nat
  /-- Consumer index C. -/
  cons : Nat
  /-- Entries that the mover has copied, as a running index. -/
  moved : Nat
  drop : Nat
  retain : Nat
  /-- Kept entries (R407), oldest first. -/
  kept : List (List Byte)
  stopping : Bool
  err : Bool
  /-- Entries moved since the last signal, and the frame of the first of them (R402). -/
  unsignalled : Nat
  firstFrame : Nat
  /-- The value last written to WB[31:0], and the tick of that write (R402). -/
  wbLast : Nat
  wbTick : Option Nat
  /-- The job in hand, for a JOB ring (R410). -/
  job : Option Job
  /-- DRAM reads of entries that the ring's consumer or the mover has out, in ring order: the entry's index, and its bytes
  once they are delivered (R33, R434). -/
  asked : List (Nat × Option (List Byte))
deriving DecidableEq, Repr

def RingSt.reset : RingSt where
  en := false
  keep := false
  kind := 0
  log2 := 4
  vector := 0
  haddr := 0
  daddr := 0
  wb := 0
  aux := 0
  modTime := 0
  modCount := 0
  prod := 0
  cons := 0
  moved := 0
  drop := 0
  retain := 0
  kept := []
  stopping := false
  err := false
  unsignalled := 0
  firstFrame := 0
  wbLast := 0
  wbTick := none
  job := none
  asked := []

/-- A host access that waits for budget (R396). -/
inductive HeldAccess where
  /-- A posted write of BAR0 words: address, then byte enables and data of each word. -/
  | write (addr : Nat) (ws : List (BitVec 4 × BitVec 32))
  /-- A posted write of BAR2 bytes. -/
  | write2 (off : Nat) (bytes : List Byte)
  /-- A read of one BAR0 word. -/
  | read (addr : Nat)
  /-- A read of one BAR2 word, and whether a word of the curd store fails its parity (R343). -/
  | read2 (off : Nat) (bad : Bool)
deriving DecidableEq, Repr

/-- How far a function-level reset has come (R412). -/
inductive FlrPhase where
  /-- Between t0 and the deadline of the sequencers. -/
  | stopping
  /-- After the deadline. -/
  | cut
  /-- The rings are disabled. -/
  | rings
deriving DecidableEq, Repr

/-- What a function holds beside its page. -/
structure FnSt where
  /-- Accesses held for lack of budget, oldest first (R396). -/
  held : List HeldAccess
  /-- A function-level reset in progress: its step t0 and phase (R412). -/
  flr : Option (Nat × FlrPhase)
  /-- MSI-X Enable with Bus Master Enable, and Function Mask, of the configuration space (R393, R461; assumption log 8). -/
  msixOn : Bool
  msixMask : Bool
  /-- The pending bits (R394). -/
  pba : BitVec 64
  /-- Vectors on which a ring signal is pending (R461). -/
  ringPend : BitVec 64
  /-- VF Enable, NumVFs and ARI Capable Hierarchy, of function 0 (R390, R412). -/
  vfEnable : Bool
  numVfs : Nat
  ari : Bool
deriving DecidableEq, Repr

def FnSt.reset : FnSt := ⟨[], none, true, false, 0, 0, true, 63, true⟩

/-- An entry of the MSI-X table (R394): message address, data and mask bit, and the coalescing window (R461). -/
structure MsixSt where
  addr : BitVec 64
  data : Word
  masked : Bool
  /-- The tick at which the running 64 ns window ends. -/
  window : Option Nat
  /-- A further assertion has come within the window. -/
  again : Bool
deriving DecidableEq, Repr

def MsixSt.reset : MsixSt := ⟨0, 0, true, none, false⟩

/-! ### Chapter 15: DRAM -/

/-- What becomes of the data of a read (R400, R401, R181, R373). -/
inductive DramUse where
  /-- A write, a re-fetch, or a ring context: the family's own step takes it up. -/
  | none
  /-- Entry `i` of ring `r` for tone engine `n`, for flux channel `n`, or for the mover of function `f`. -/
  | stream (n r i : Nat)
  | bias (n r i : Nat)
  | move (f r i : Nat)
deriving DecidableEq, Repr

/-- A request at the DRAM controller (R424, R427): port, read or write, device address of the block, step of arrival,
latency target at arrival, panic. -/
structure DramReq where
  port : Nat
  write : Bool
  da : Nat
  arrival : Nat
  target : Nat
  panic : Bool
  use : DramUse
  /-- The block's 64 bytes as the request finds or leaves them (R428). -/
  data : List Byte
  /-- A read served from a pending write, without a DRAM access (R428). -/
  fwd : Bool
deriving DecidableEq, Repr

/-- What a DRAM channel holds beside its page. -/
structure DchSt where
  /-- Reads that wait, oldest first. -/
  reads : List DramReq
  /-- Writes that wait, oldest first: the first 64 stand in the write queue, later ones wait at their port (R428). -/
  writes : List DramReq
  /-- Reads issued and not yet returned. -/
  inflight : List DramReq
  /-- A failed read and the number of re-reads made (R434). -/
  failing : Option (DramReq × Nat)
  /-- A group of writes is being issued (R426). -/
  writing : Bool
  /-- Open rows, by rank × 16 + bank (R421). -/
  rows : List (Nat × Nat)
  /-- The oscillator baseline: DQI and DQO counts (R430). -/
  base : Option (Nat × Nat)
  /-- Timing moves due at the next frame boundary (R430). -/
  moves : Nat
  /-- The cached CRC blocks, the one used last first, and whether each is modified (R433). A CRC block is numbered by the
  data blocks it covers: LA ÷ 64 ÷ 32 (R422). -/
  crcs : List (Nat × Bool)
  /-- The channel has left self-refresh within the present frame, and grants no request until the next (R432). -/
  resting : Bool
deriving DecidableEq, Repr

def DchSt.reset : DchSt := ⟨[], [], [], none, false, [], none, 0, [], false⟩

/-- What waits for a burst (R27, R436): a request, or a record for a ring with its write. -/
inductive DramAct where
  | req (write : Bool) (da : Nat) (panic : Bool)
  | record (r : Nat) (entry : List Byte)
deriving DecidableEq, Repr

/-- A DRAM activity's request that waits: the port, and on port 4 the function whose budget it draws on, 64 for
management firmware (R402, R424). -/
structure DramWait where
  port : Nat
  fn : Nat
  act : DramAct
deriving DecidableEq, Repr

/-- A doorbell recorded during a freeze (R436): function, producer or consumer, data. -/
structure Doorbell where
  fn : Nat
  prod : Bool
  data : BitVec 64
deriving DecidableEq, Repr

/-- The DRAM configuration in NVM (R419). -/
structure DramNvm where
  stored : Bool
  rate : Nat
  cap : Nat
  ranks : Nat
  stores : Nat
  /-- The values of a store in progress: DATA_RATE, CAP and RANKS. -/
  storing : Option (Nat × Nat × Nat)
  /-- CAP and RANKS that MR8 and rank 1 of the parts on the board answer (R419; assumption log 15). -/
  found : Nat × Nat
deriving DecidableEq, Repr

def DramNvm.reset : DramNvm := ⟨false, 0, 0, 0, 0, none, (0, 0)⟩

/-! ### Chapter 16: event channels -/

/-- What an event channel holds beside its group page. -/
structure EvSt where
  /-- Firings that a waiting sequencer may still have to judge, newest first: number, step in which it occurred, first step in
  which sequencers see it (R115, R144, R558). -/
  log : List (Nat × Nat × Nat)
  /-- Queued PUBLISH commands (R107). -/
  queue : List TCmd
  /-- It has fired and a subscriber has not acknowledged (R444). -/
  busy : Bool
  /-- The arbitration window of the firing in progress (R447). -/
  window : Nat
  /-- The firing in progress came in over Jency (R325). -/
  imported : Bool
  /-- Firings so far, for R115 and R347. -/
  fires : Nat
  /-- Tick of the last firing (R453). -/
  last : Option Nat
deriving DecidableEq, Repr

def EvSt.reset : EvSt := ⟨[], [], false, 0, false, 0, none⟩

/-- The control input of an event group: the window in which it was last reached, and by which inputs (R452). -/
structure EvgSt where
  window : Nat
  en : Bool
  dis : Bool
deriving DecidableEq, Repr

def EvgSt.reset : EvgSt := ⟨0, false, false⟩

/-! ### Chapter 06: tone engines, and the segment table that flux channels share -/

/-- A complex sample. -/
abbrev Cplx := Int × Int

/-- A decoded segment-table entry (R170). -/
structure Entry where
  idx : Nat
  pbase : Nat
  len : Nat
  rep : Nat
  next : Nat
  jt : Nat
  strm : Bool
  hold : Bool
  quiet : Bool
  coh : Bool
  frm : Bool
  /-- A reserved bit is set (R172). -/
  rsvd : Bool
deriving DecidableEq, Repr

/-- A pending jump (R176): its target, 0xFFFF for JT, and the command that set it. -/
structure Jump where
  target : Nat
  poster : Nat
  tag : Tag
deriving DecidableEq, Repr

/-- A play of an entry (R173), in progress or resolved as a continuation. -/
structure Play where
  e : Entry
  start : Nat
  /-- Plays of the entry still to come (R175). -/
  left : Nat
  poster : Nat
  tag : Tag
  /-- First step of the granule that is checked next (R183). -/
  check : Nat
  /-- ACC has still to be set for COH (R162). -/
  cohDue : Bool
  /-- The frame applied (R166). -/
  frame : Nat
  /-- The entry failed parity and has not returned (R191). -/
  bad : Bool
  /-- The jump pending for the boundary of this play, and the one deferred to the next (R176). -/
  jump : Option Jump
  deferred : Option Jump
deriving DecidableEq, Repr

/-- A granule that has been checked: its first step, the step from which it no longer plays, its four records (none
listed when it plays quiet), the frame, whether it sets ACC, whether its records come from the stream, and the shot charged. -/
structure Gran where
  start : Nat
  stop : Nat
  recs : List Nat
  frame : Nat
  coh : Bool
  strm : Bool
  tag : Tag
deriving DecidableEq, Repr

/-- A field that a command sets at its step and a register write from the step after it (R165, R252): the step of the last
change, the value before it, and whether a command made it. -/
structure Held where
  step : Nat
  old : Nat
  cmd : Bool
deriving DecidableEq, Repr

def Held.reset : Held := ⟨0, 0, false⟩

/-- What a tone engine holds beside its page. -/
structure ToneSt where
  queue : List TCmd
  play : Option Play
  /-- The continuation resolved at the decision point: none is END (R175). -/
  cont : Option (Option Play)
  /-- A STOP is pending, and a normal disable by a write of 0 to ENABLE (R189). -/
  stop : Bool
  norm : Bool
  grans : List Gran
  /-- The stream buffer, oldest first (R180). -/
  buf : List Nat
  /-- STRM_FAULT has been reported since the last write of STRM_RING or enable (R180). -/
  strmSeen : Bool
  /-- Records whose re-fetch is under way (R191). -/
  refetch : List Nat
  /-- ACC at the next sample, ACC at the start of the last step, FREQ of the last record (R161). -/
  acc : Nat
  accStep : Nat
  freq : Nat
  /-- Amplitude of the last sample (R163). -/
  aPrev : Int
  /-- Step of the last change of PHASE_REG and of FDELAY, and the value before it (R165). -/
  phaseWas : Held
  delayWas : Held
  /-- Step of the last FRAME command (R165). -/
  frameStep : Nat
  /-- The last samples before the fractional delay, newest first (R167). -/
  hist : List Cplx
  /-- A play was emitted in the step computed last, charged to this shot (R192). -/
  playing : Option Tag
deriving DecidableEq, Repr

def ToneSt.reset : ToneSt where
  queue := []
  play := none
  cont := none
  stop := false
  norm := false
  grans := []
  buf := []
  strmSeen := false
  refetch := []
  acc := 0
  accStep := 0
  freq := 0
  aPrev := 0
  phaseWas := .reset
  delayWas := .reset
  frameStep := 0
  hist := []
  playing := none

/-! ### Chapter 07: output channels -/

/-- Where an output channel stands between Off and Emit (R208 to R212). -/
inductive OutPhase where
  | off
  /-- To Zero at the next frame boundary (R210). -/
  | rising
  /-- In Zero, to Emit at the next frame boundary (R210). -/
  | settling
  | emit
  /-- In Zero for one frame after a normal disable (R211). -/
  | falling
  /-- Zero after an immediate disable at count `c`, Off at a frame boundary 256 counts later (R212). -/
  | killed (c : Nat)
deriving DecidableEq, Repr

/-- What an output channel holds beside its page. -/
structure OutSt where
  phase : OutPhase
  /-- A normal disable is pending (R211). -/
  norm : Bool
  /-- GAIN, SHIFT and NCO_PHASE in force; none at their reset values (R206). -/
  inForce : Option (Nat × Nat × Nat)
  /-- NCO_FREQ taken by the last write of NCO_FREQ_HI (R206). -/
  freq : Nat
  /-- Count of the latest write of a pending value (R206). -/
  pend : Option Nat
  /-- CLK_FAULT is live (R214). -/
  clkFault : Bool
  /-- The last inputs of each interpolator stage, newest first (R197). -/
  up : List (List Cplx)
  /-- The 14-bit codes of the last count, oldest first; none when the output does not emit (R200). -/
  codes : List Int
  /-- The tick whose frame boundary the channel has taken; it takes each once (R206). -/
  framed : Option Nat
deriving DecidableEq, Repr

def OutSt.reset : OutSt := ⟨.off, false, none, 0, none, false, [], [], none⟩

/-! ### Chapter 08: ADCs -/

/-- Where an ADC stands between Off and Running (R239, R243). -/
inductive AdcPhase where
  | off
  /-- To Settling at the next frame boundary. -/
  | rising
  /-- Settling, to Running at the next frame boundary. -/
  | settling
  | running
  /-- After an immediate disable at count `c`, Off at a frame boundary 256 counts later. -/
  | killed (c : Nat)
deriving DecidableEq, Repr

/-- What an ADC holds beside its page. -/
structure AdcSt where
  phase : AdcPhase
  /-- A normal disable is pending (R243). -/
  norm : Bool
  /-- CLK_FAULT is live (R243). -/
  clkFault : Bool
  /-- DNCO_FREQ taken by the last write of DNCO_FREQ_HI (R237). -/
  freq : Nat
  /-- Count of the latest write of a pending value (R237). -/
  pend : Option Nat
  /-- DNCO_PHASE in force. -/
  phaseCur : Nat
  /-- Step of the last change of the values in force, and DNCO_FREQ and DNCO_PHASE before it. -/
  was : Nat × Nat × Nat
  /-- The steps in which the ADC was Running, newest interval first: first step, and first step after. -/
  runs : List (Nat × Option Nat)
  /-- The last ball samples, newest first. -/
  ball : List Int
  /-- The last down-converted samples, newest first. -/
  base : List Cplx
deriving DecidableEq, Repr

def AdcSt.reset : AdcSt := ⟨.off, false, false, 0, none, 0, (0, 0, 0), [], [], []⟩

/-! ### Chapters 08 and 09: read-out tones -/

/-- An integration window (R250 to R263), from its OPEN until its value has been offered. -/
structure Win where
  start : Nat
  /-- The last step. -/
  last : Nat
  kstart : Nat
  tag : Tag
  poster : Nat
  accI : Int
  accQ : Int
  /-- The window delivers NO_DECISION. -/
  nodec : Bool
  /-- An accumulator has overflowed (R256). -/
  ov : Bool
  /-- A refused, an empty or a cut window: its stamp. -/
  cut : Option Nat
  /-- When its value is due, in units of 0.5 ns, once that is known (R260). -/
  ready : Option Nat
  /-- A sample of it was not offered (R261). -/
  gap : Bool
  /-- What recomputes of the frame of their failure add to that, in units of 0.5 ns (R262). -/
  slip : Nat
deriving DecidableEq, Repr

/-- A product that failed its residue check and waits for a recompute (R262): the start of its window, the sample index
and stamp index, sample and weight, the step of the request, and whether one recompute has failed. -/
structure Recomp where
  win : Nat
  i : Nat
  m : Nat
  x : Cplx
  w : Cplx
  step : Nat
  second : Bool
deriving DecidableEq, Repr

/-- The result registers of the latest window (R265). -/
structure WinRes where
  accI : Nat
  accQ : Nat
  stamp : Nat
  word : Nat
deriving DecidableEq, Repr

def WinRes.reset : WinRes := ⟨0, 0, 0, 0⟩

/-- What a read-out tone channel holds beside its page. -/
structure RoutSt where
  queue : List TCmd
  /-- The step F from which the per-tone stages take samples (R240). -/
  since : Option Nat
  /-- The filter state is cleared at the next frame boundary (R240, R242). -/
  arming : Bool
  /-- A normal disable is pending (R241). -/
  norm : Bool
  /-- Count of the latest write of a pending value (R237), and of SWAP (R231). -/
  pend : Option Nat
  swapAt : Option Nat
  /-- TNCO_PHASE in force. -/
  phaseCur : Nat
  /-- Step of the last change of the values in force, and TNCO_FREQ, TNCO_PHASE, DINT, DFRAC before it. -/
  was : Nat × Nat × Nat × Nat × Nat
  /-- The last change of KSTART (R252). -/
  kWas : Held
  /-- The steps from which the last changes of BANK act, newest first (R231). -/
  swaps : List Nat
  /-- The last inputs of each half-band stage, newest first (R228). -/
  stages : List (List Cplx)
  /-- The last inputs of the FIR, newest first (R230). -/
  fir : List Cplx
  /-- Outputs computed and not yet offered: stamp index, value, whether R232 zeroed it; oldest first. -/
  outq : List (Nat × Cplx × Bool)
  /-- The outputs offered in the step computed last, with their stamp index. -/
  offered : List (Nat × Cplx)
  wins : List Win
  recomps : List Recomp
  /-- Coefficients and weights whose re-fetch is under way: bank × 512 + index (R232), index (R255). -/
  firRefetch : List Nat
  kerRefetch : List Nat
  /-- The latest window's result (R265). -/
  res : WinRes
deriving DecidableEq, Repr

def RoutSt.reset : RoutSt where
  queue := []
  since := none
  arming := false
  norm := false
  pend := none
  swapAt := none
  phaseCur := 0
  was := (0, 0, 0, 0, 0)
  kWas := .reset
  swaps := []
  stages := []
  fir := []
  outq := []
  offered := []
  wins := []
  recomps := []
  firRefetch := []
  kerRefetch := []
  res := .reset

/-! ### Chapter 09: DSP lanes -/

/-- What holds a lane's issue (R271, R276, R278). -/
inductive LaneWait where
  | none
  /-- WAITI on channel `c` for `k` units. -/
  | waiti (c k : Nat)
  /-- A recompute: what each accumulator receives once the products are right (`true` adds, `false` assigns), and
  whether one recompute has failed. -/
  | recompute (adds : List (Nat × Bool × Int)) (second : Bool)
  /-- A re-fetch of the instruction at the pc. -/
  | refetch
deriving DecidableEq, Repr

/-- A unit on its way into a lane's hoop region: its words and its stamp (R267). -/
structure LaneUnit where
  words : List Nat
  stamp : Nat
deriving DecidableEq, Repr

/-- What a lane holds beside its page. -/
structure LaneSt where
  /-- The lane is issuing (R279). -/
  issuing : Bool
  /-- A normal disable is pending. -/
  norm : Bool
  wait : LaneWait
  /-- Return addresses, top first, at most 4. -/
  stack : List Nat
  /-- Issues that RPT still asks of the instruction at the pc. -/
  rpt : Nat
  /-- Words of the output record in hand, oldest first (R277). -/
  words : List Nat
  /-- The next record's sequence number. -/
  recSeq : Nat
  /-- OVERRUN since the previous record. -/
  overrun : Bool
  /-- Units offered to channels 0 to 3 and not yet written, oldest first. -/
  inbox : List (Nat × LaneUnit)
  /-- Stamps of the units written: channel, number of the unit, stamp, newest first (R271). -/
  stamps : List (Nat × Nat × Nat)
  /-- A debug halt is requested; the lane is halted; a single step is under way (R540). -/
  haltReq : Bool
  halted : Bool
  stepping : Bool
deriving DecidableEq, Repr

def LaneSt.reset : LaneSt := ⟨false, false, .none, [], 0, [], 0, false, [], [], false, false, false⟩

/-! ### Chapter 10: decision slots, the syndrome unit -/

/-- The condition of a decision slot (R284). -/
inductive SlotCond where
  | empty
  | value (state conf : Nat)
  | nodec
  | absent
deriving DecidableEq, Repr

/-- A decision slot (R284). `stamp` is the stamp held, while the slot is not Empty; the confidence of a NO_DECISION is kept. -/
structure Slot where
  cond : SlotCond
  stamp : Nat
  /-- The state and confidence offered with a NO_DECISION. -/
  raw : Nat × Nat
deriving DecidableEq, Repr

def Slot.reset : Slot := ⟨.empty, 0, (0, 0)⟩

/-- A correction-table read of a round (R301, R302): syndrome word, entry, links followed, waiting for a re-fetch, the copy
that the re-fetch reads once it is issued (R37), round. -/
structure CtRead where
  word : Nat
  idx : Nat
  links : Nat
  refetch : Bool
  copy : Option Nat
  round : Nat
deriving DecidableEq, Repr

/-- A round of the syndrome unit (R297 to R303). -/
structure Round where
  r : Nat
  /-- S_r. -/
  start : Nat
  /-- SW_CFG as it stood when the round started (R301). -/
  cfg : List Word
  /-- Members accepted: map index, and the bit, or none for an erased member (R299). -/
  members : List (Nat × Option Bool)
  /-- Checks evaluated: check, bit, erased (R300). -/
  checks : List (Nat × Bool × Bool)
  /-- Words looked up or found not to be (R301). -/
  words : List Nat
  /-- Correction-table reads under way, the entries of all reads issued (R307), and the longest chain of links (R303). -/
  reads : List CtRead
  used : List Nat
  chain : Nat
  /-- Frame words to XOR in (R303). -/
  masks : List (Nat × Word)
  /-- The deadline has passed with members missing (R300). -/
  deadline : Bool
  linkFault : Bool
  /-- The end of the cycle in which its last member value was latched, or the deadline, in units of 0.5 ns (R303). -/
  latched : Nat
deriving DecidableEq, Repr

/-- What the syndrome unit holds beside its page. -/
structure SynSt where
  /-- The next round to start, while rounds start (R309). -/
  next : Option Nat
  /-- Rounds that have started and not committed, oldest first. -/
  rounds : List Round
  /-- The rounds that have committed, newest run of rounds first: its first step and the first step after it (R299). -/
  gone : List (Nat × Nat)
  /-- The end of the last commit cycle, in units of 0.5 ns (R297). -/
  lastEnd : Nat
  /-- Reads whose masks go into the frame as they return (R307). -/
  late : List CtRead
  /-- Versions of the Pauli frame by the first step in which they are visible, newest first, while an older one is still
  seen; none when only the registers' own is (R303). -/
  frames : List (Nat × List Word)
deriving DecidableEq, Repr

def SynSt.reset : SynSt := ⟨none, [], [], 0, [], []⟩

/-! ### Chapter 11: the Jency link -/

/-- A decision entry that waits on a port (R290): device, slot, hop bit, NODEC, state, confidence, stamp [15:0]. -/
structure PendDec where
  dev : Nat
  slot : Nat
  hop : Bool
  nodec : Bool
  state : Nat
  conf : Nat
  stamp : Nat
deriving DecidableEq, Repr

/-- A rennet command (R326): group, FIRE or ARM, action count. -/
structure Rennet where
  group : Nat
  fire : Bool
  count : Nat
deriving DecidableEq, Repr

/-- A flit this end has launched (R321): launch tc, 0 for DATA or the number of the replay, original's launch tc, content. -/
structure Sent where
  tc : Nat
  kind : Nat
  orig : Nat
  body : BitVec 512
deriving DecidableEq, Repr

/-- A bulk chunk held until its release (R329): the release count, SOM, EOM, CLASS, ABORT and data; `cut` marks the place at
which the link was lost. -/
structure Chunk where
  rel : Nat
  som : Bool
  eom : Bool
  cls : Bool
  abort : Bool
  data : Word64
  cut : Bool
deriving DecidableEq, Repr

/-- What training has found (R320): the count at which it began; TLCHK [15:0] of the last TRAIN flit and the time of its check,
in units of 62.5 ps; round trip and the peer's ECHO_WAIT in those units; MESH_ID, serial number and MESH_EN of the peer. -/
structure TrainSt where
  since : Nat
  heard : Option (Nat × Nat)
  rtt : Option (Nat × Nat)
  peer : Nat
  serial : Nat
  member : Bool
deriving DecidableEq, Repr

def TrainSt.reset : TrainSt := ⟨0, none, none, 0, 0, false⟩

/-- What a Jency port holds beside its page. -/
structure PortSt where
  /-- Decision entries pending, oldest first (R290). -/
  decs : List PendDec
  /-- Remote events pending, oldest first: channel and hop bit (R325). -/
  evs : List (Nat × Bool)
  /-- Rennet entries queued, with their hop bit (R326). -/
  rennets : List (Rennet × Bool)
  /-- The count of the last launch, and the flit launched. -/
  launched : Option Nat
  txFlit : BitVec 512
  /-- Its blocks on the four lanes, and the lanes' transmit scramblers (R314). -/
  txBlocks : List (BitVec 130)
  txScr : List Nat
  /-- The receive lanes: descramblers, none before they are aligned; inverted lanes; valid sync headers in a row up to 64, and
  invalid ones (R314, R315, R320). -/
  rxScr : List Nat
  pol : List Bool
  hdrRun : List Nat
  hdrBad : List Nat
  /-- Flits launched whose status may still come (R321). -/
  sent : List Sent
  /-- Replays to launch: count, number of the replay, original's launch tc, content. -/
  replays : List Sent
  /-- The counts of the last two flits delivered, newest first, and whether each was good (R316). -/
  rxs : List (Nat × Bool)
  /-- Bad flits in a row (R324). -/
  badRun : Nat
  /-- Launch tcs of flits received bad whose original may still come as a replay, each with its last chance (R323). -/
  missing : List (Nat × Nat)
  /-- Bulk chunks held until their release, in order (R329). -/
  bulk : List Chunk
  /-- The message in assembly, oldest chunk first (R330). -/
  asm : Option (List Word64)
  /-- The rest of a message that has been discarded is still to come (R330). -/
  skip : Bool
  /-- The user message being sent: chunks, and the index of the next (R328). -/
  tx : Option (List Word64 × Nat)
  /-- An ABORT chunk is to be launched (R330). -/
  abort : Bool
  /-- A failed training starts again at this count (R320). -/
  retryAt : Option Nat
  /-- A normal disable of the link waits for the peer's departure (R335). -/
  leaving : Bool
  /-- Training under way (R320). -/
  train : TrainSt
  /-- The boundary from which the port is MEMBER, and that at which it ceased to be (R332, R333). -/
  memFrom : Option Nat
  memTo : Option Nat
deriving DecidableEq, Repr

def PortSt.reset : PortSt where
  decs := []
  evs := []
  rennets := []
  launched := none
  txFlit := 0
  txBlocks := []
  txScr := []
  rxScr := []
  pol := []
  hdrRun := []
  hdrBad := []
  sent := []
  replays := []
  rxs := []
  badRun := 0
  missing := []
  bulk := []
  asm := none
  skip := false
  tx := none
  abort := false
  retryAt := none
  leaving := false
  train := .reset
  memFrom := none
  memTo := none

/-- What the mesh holds beside its page (R326, R331). -/
structure MeshSt where
  /-- A change announced: set, boundary E, and whether it is armed. -/
  change : Option (Word × Nat × Bool)
  /-- That change was announced on another device. -/
  remote : Bool
  /-- Rennet actions to come (R326). -/
  rennets : List Rennet
  /-- Rennet actions taken, while an entry equal to one may still come (R326). -/
  acted : List Rennet
deriving DecidableEq, Repr

def MeshSt.reset : MeshSt := ⟨none, false, [], []⟩

/-! ### Chapter 12: acquisition units -/

/-- A sample of a source: stamp time in units of 125 ps, and its value as raw code or I and Q. -/
structure AcqSample where
  time : Nat
  i : Int
  q : Int
deriving DecidableEq, Repr

/-- A capture (R344 to R357), from its arming until its record has been written. -/
structure Capture where
  /-- The step s of the arming (R344), the tag of the command, and the sequencers that armed or fired the unit. -/
  step : Nat
  tag : Tag
  posters : List Nat
  /-- Pre-trigger samples to keep, and the size of the circular area in samples (R345, R346). -/
  pre : Nat
  area : Nat
  spill : Bool
  preTrunc : Bool
  /-- Samples that have entered since the arming, at most `pre` of them counted as held. -/
  seen : Nat
  /-- Samples stored in the circular area so far: the next goes to this index modulo `area`. -/
  stored : Nat
  /-- Stamp times of the pre-trigger samples held, newest first. -/
  times : List Nat
  /-- The level detector is ready (R348). -/
  ready : Bool
  /-- Firings of TRIG_EV at arming (R347). -/
  evSeen : Nat
  /-- Steps of FIRE commands and of rennet FIREs, a request by FIRE_NOW, a group's stamp time (R347). -/
  fires : List Nat
  rennets : List Nat
  soft : Bool
  group : Option Nat
  /-- Own conditions that raised a rennet FIRE (R355). -/
  own : Nat
  /-- Conditions that earlier samples have met (R349). -/
  met : Nat
  /-- The trigger: stamp time, mask, network nanoseconds. -/
  trig : Option (Nat × Nat × Nat)
  /-- ACQ_TRIGGER has still to act on the trigger, or on the own condition, at this count. -/
  note : Option Nat
  /-- The members of its local group that were ARMED as it triggered (R354). -/
  mates : List Nat
  preHeld : Nat
  /-- Post-trigger samples that have come, and of them stored in the circular area. -/
  post : Nat
  postHeld : Nat
  /-- Post-trigger samples planned: POST, or fewer after a STOP, and the step of the STOP (R357). -/
  plan : Nat
  stopAt : Option Nat
  /-- Samples in the spill FIFO, and the sample index its head has in the last blocks. -/
  fifo : Nat
  fifoHead : Nat
  spilled : Nat
  /-- SPILL_RING has been found invalid and reported, and not been found valid since (R350). -/
  ringBad : Bool
  ovf : Option Nat
  /-- Storing has stopped (R352, R353). -/
  full : Bool
  stopped : Bool
  killed : Bool
  stale : Bool
  skew : Bool
deriving DecidableEq, Repr

/-- What an acquisition unit holds beside its page. -/
structure AcqSt where
  queue : List TCmd
  /-- A normal disable is pending (R357). -/
  norm : Bool
  cap : Option Capture
deriving DecidableEq, Repr

def AcqSt.reset : AcqSt := ⟨[], false, none⟩

/-! ### Chapter 17: the network clock -/

/-- The increment in force and a pending one, in units of 2^−32 ns, an accepted step (R468 to R470), and NT_FRAC as
latched by the last read of NT_NS. -/
structure NtSt where
  inc : Nat
  next : Option Nat
  step : Option Int
  frac : Word
  /-- Wraps of NT_NS that have still to be reported (R472). -/
  wraps : Nat
  /-- Stretches of counts over which the network time has advanced by one increment, newest first: the first count, the time
  in it in units of 2^−32 ns, and the increment (R120, R359). -/
  hist : List (Nat × Nat × Nat)
deriving DecidableEq, Repr

def NtSt.reset : NtSt := ⟨4 * 2 ^ 32, none, none, 0, 0, []⟩

/-! ### Chapter 20: debug targets -/

/-- The debug block of a target (R539): the reason of the last halt, the breakpoint that made it, the four breakpoint
registers, REG_SEL. -/
structure DbgSt where
  reason : Nat
  bpNum : Nat
  bps : List Word
  regSel : Nat
deriving DecidableEq, Repr

def DbgSt.reset : DbgSt := ⟨0, 0, [0, 0, 0, 0], 0⟩

/-! ### Chapter 13: flux channels -/

/-- A linear ramp in progress (R375): start and target codes, edges in all, edges done. -/
structure Ramp where
  p : Int
  c : Int
  n : Nat
  i : Nat
deriving DecidableEq, Repr

/-- A range change in progress (R377): target range and code, and the code that a fault sequence steps to after it. -/
structure RangeChange where
  range : Nat
  code : Int
deriving DecidableEq, Repr

/-- What a flux channel holds beside its page. -/
structure FluxSt where
  queue : List TCmd
  play : Option Play
  /-- The continuation resolved at the decision point: none is END (R175). -/
  cont : Option (Option Play)
  /-- A STOP is pending, and a normal disable by a write of 0 to ENABLE (R369). -/
  stop : Bool
  norm : Bool
  /-- The step of the STOP that is pending (R368). -/
  stopAt : Option Nat
  /-- What plays from which step on, newest first (R365). -/
  track : List (Nat × Option Play)
  /-- The last change of FLEVEL (R366). -/
  levelWas : Held
  /-- The granules checked last, newest first: start of the play, start of the granule, and whether it plays FLEVEL for want of
  its records; and records under re-fetch (R370). -/
  grans : List (Nat × Nat × Bool)
  refetch : List Nat
  /-- The four fast codes of the step computed last (R363). -/
  codes : List Int
  /-- The bias queue, oldest first (R372). -/
  dcq : List Word
  ramp : Option Ramp
  /-- A pending DC_DIRECT: range and code (R376). -/
  direct : Option (Nat × Int)
  change : Option RangeChange
  /-- Edges take nothing before this tick (R377). -/
  busyTil : Nat
  /-- The count of the last edge taken (R371). -/
  edgeAt : Option Nat
  /-- Live detections (R381). -/
  compLive : Bool
  openLive : Bool
  /-- The bias reference is away from its trimmed value (R382). -/
  refLive : Bool
  faultHeld : Bool
  /-- The power-up values have been taken (R379). -/
  powered : Bool
  /-- A range change is to be flagged in the next monitor word (R377). -/
  changed : Bool
  /-- The ring has been found invalid and reported, and not been found valid since (R373). -/
  ringSeen : Bool
  /-- PU_CFG and FLT_CFG in NVM, stores made, and the store in progress (R379, R387). -/
  nvm : Option (Word × Word)
  stores : Nat
  storing : Option (Word × Word)
deriving DecidableEq, Repr

def FluxSt.reset : FluxSt where
  queue := []
  play := none
  cont := none
  stop := false
  norm := false
  stopAt := none
  track := []
  levelWas := .reset
  grans := []
  refetch := []
  codes := [0, 0, 0, 0]
  dcq := []
  ramp := none
  direct := none
  change := none
  busyTil := 0
  edgeAt := none
  compLive := false
  openLive := false
  refLive := false
  faultHeld := false
  powered := false
  changed := false
  ringSeen := false
  nvm := none
  stores := 0
  storing := none

/-! ### Chapter 20: device states, resets, debug port -/

/-- A state transition under way (R522): the state requested, the state it was requested in, and whether the frame
boundary it waits for has come. -/
structure Trans where
  dest : Nat
  origin : Nat
  framed : Bool
deriving DecidableEq, Repr

/-- What the device holds of power, reset and debug beside the power page. -/
structure PowerSt where
  /-- POR_N is low; PERST_N is low (R526). -/
  por : Bool
  perst : Bool
  trans : Option Trans
  /-- The state that Cellar was entered from (R522). -/
  origin : Nat
  /-- The user-level unlock code, once written (R537). -/
  code : Option Word
  /-- The TAP instruction in the instruction register, and the boundary register as last preloaded (R536). -/
  tap : Nat
  preload : Word64
  /-- Status and data of the last DBG_ACCESS operation (R538). -/
  dbgStat : Nat
  dbgData : Word
  /-- An image read from host memory is being booted (R531). -/
  recovery : Bool
  /-- VERSION and key slot of that image. -/
  recImg : Nat × Nat
  /-- The OTP slot that signed the firmware running (R529). -/
  fwSlot : Nat
deriving DecidableEq, Repr

def PowerSt.reset : PowerSt := ⟨false, false, none, 3, none, 0x02, 0, 0, 0, false, (0, 0), 0⟩

/-! ### Chapter 17: Ethernet ports -/

/-- A frame that waits to leave a port, without its FCS: written by software (`loc`), or forwarded, with the tick and the
place in it at which it came in, and the delay of the link it came over (R475, R476). -/
inductive TxFrame where
  | loc (bytes : List Byte)
  | fwd (bytes : List Byte) (tick : Nat) (pos : Nat) (delay : Nat)
deriving DecidableEq, Repr

/-- What an Ethernet port holds beside its page. -/
structure EthSt where
  /-- Frames that wait to leave, in order of arrival or of TX_GO; the one that leaves next is in transmission. -/
  queue : List TxFrame
  /-- A normal disable waits for the frame in transmission (R477). -/
  leaving : Bool
  /-- The last frame sent, with its FCS. -/
  sent : List Byte
deriving DecidableEq, Repr

def EthSt.reset : EthSt := ⟨[], false, []⟩

/-! ### Chapter 18: temperature sensors and sensor front end -/

/-- What a temperature sensor holds beside its registers: its latest samples (TEMP and tick), newest first, at most four
(R488), and the samples in a row that lay below every limit by more than MARGIN (R485). -/
structure SensorSt where
  hist : List (Int × Nat)
  below : Nat
deriving DecidableEq, Repr

def SensorSt.reset : SensorSt := ⟨[], 0⟩

/-- What temperature compensation holds of a die's PLL: the VCO band chosen at lock, and the code of the charge-pump and
loop-filter settings (R494; assumption log 68). -/
structure PllComp where
  band : Nat
  loop : Int
deriving DecidableEq, Repr

def PllComp.reset : PllComp := ⟨0, 0⟩

/-- What the thermal block holds beside its page. -/
structure ThermSt where
  /-- T_apply of the next pause, while throttling is active (R489). -/
  next : Option Nat
  /-- A shutdown condition is live (R492). -/
  shutLive : Bool
  /-- A shutdown record that has still to be written (R493). -/
  record : Option (List Byte)
  /-- NVM: number of the next record, the ring of 256 records by byte, and whether a record was written since the last
  boot (R493). -/
  seq : Nat
  ring : List Host.Cell
  unread : Bool
  /-- The compensation of each die's PLL, and the correction of each flux tile's bias reference in units of 10^−9 of full scale
  (R494). -/
  plls : List (Nat × PllComp)
  biasRef : List (Nat × Int)
deriving DecidableEq, Repr

def ThermSt.reset : ThermSt := ⟨none, false, none, 0, [], false, [], []⟩

/-- A word that a sensor channel has produced (R499). -/
structure SfeWord where
  value : Word
  raw : Word
  seq : Nat
  exc : Nat
  tfe : Nat
  rangeChanged : Bool
  beyond : Bool
deriving DecidableEq, Repr

/-- The coefficients of a sensor channel, in the order of the page from X_OFF on: X_OFF, X_SCALE, G1, G2, O1, O2, A[0] to
A[7] (R498). -/
abbrev SfeCoef := List Word

/-- The coefficients after reset (R504). -/
def SfeCoef.reset : SfeCoef := [0, 0x3F80_0000#32, 0, 0, 0, 0, 0, 0x3F80_0000#32, 0, 0, 0, 0, 0, 0]

/-- What a sensor channel holds beside its page. -/
structure SfeSt where
  /-- The excitation is on, or a conversion runs. -/
  on : Bool
  /-- The range in force (R495, R496). -/
  exc : Nat
  /-- The conversion in progress spans a range change (R496). -/
  spans : Bool
  /-- The next word carries RANGE_CHANGED (R496). -/
  changed : Bool
  /-- The compliance monitor has tripped, and the range before that (R497). -/
  openLive : Bool
  prevExc : Nat
  /-- Number of the next conversion. -/
  seq : Nat
  /-- Coefficients in force, and a set that waits for the next conversion to end (R498). -/
  coef : SfeCoef
  pend : Option SfeCoef
  /-- The latest produced word, and whether it has not been latched yet (R499). -/
  word : Option SfeWord
  fresh : Bool
deriving DecidableEq, Repr

def SfeSt.reset : SfeSt := ⟨false, 2, false, false, false, 2, 0, .reset, none, none, false⟩

/-! ### Chapter 19: calibration -/

/-- A foreground calibration (R510): its target, the count of its GO, and the count at which its hold began. -/
structure CalJob where
  kind : Nat
  idx : Nat
  go : Nat
  start : Option Nat
deriving DecidableEq, Repr

/-- What the calibration service holds beside its page. A target is keyed by kind × 128 + index, a trim by target × 64 +
number; a trim is its value in force and its target value (R508). -/
structure CalSt where
  job : Option CalJob
  /-- Targets in background calibration (R513). -/
  bg : List Nat
  trims : SMap (Int × Int)
  /-- NVM: the factory set, the user set (an empty list was never stored), stores made (R516). -/
  factory : SMap Int
  user : SMap (List Int)
  stores : SMap Nat
  /-- Stores in progress, oldest first: target and values. -/
  storing : List (Nat × List Int)
  /-- Targets on which a cause of R512 has acted that CAL_ABANDON has still to carry out. -/
  hits : List Nat
  /-- The count whose ripening boundary has been carried out (R514). -/
  ripeAt : Option Nat
deriving DecidableEq, Repr

def CalSt.reset : CalSt := ⟨none, [], [], [], [], [], [], [], none⟩

/-! ### The whole state -/

/-- The state of the device. -/
structure State where
  -- time (chapter 03)
  /-- The timeline count, modulo 2^64 (R66). -/
  count : Nat
  /-- REFCLK is lost (R87). -/
  refLost : Bool
  /-- The count whose frame boundary has been carried out (R26). -/
  frameAt : Option Nat
  /-- The count whose epoch boundary has been carried out (R331). -/
  epochAt : Option Nat
  /-- A pending load: periods left and the count to assign (R69). -/
  loadIn : Option (Nat × Nat)
  /-- The latest latched pair: count, network nanoseconds and fraction (R89). -/
  latch : Nat × Nat × Nat
  /-- Periods of 4 ns since reset, the always-on clock of MIN_GAP (R453). -/
  ticks : Nat
  -- registers and budgets (chapter 02)
  /-- Registers by BAR0 byte address; an unlisted one holds its reset value. -/
  regs : SMap Word
  /-- The words of the budget registers in force in the present frame, by BAR0 address (R29). -/
  limits : SMap Word
  tiles : SMap TileSt
  seqs : SMap SeqSt
  -- microcode (chapter 05)
  loader : LoaderSt
  /-- Control-store copies, by cluster × 4,096 + micro-address: the word in [191:0], its check bits in [207:192]. A
  word never written is a word of zeros with its check bits (R135, R530). -/
  cs : SMap (BitVec 208)
  /-- Image slots of the secure region, by slot × 4,096 + micro-address (R154). -/
  csImage : SMap (BitVec 192)
  /-- The BAR2 memories by BAR2 offset: parameter memory, segment table, correction table, program memories, lane
  memories, curd store (R49). -/
  bar2 : List Host.Cell
  -- budgets used (R26)
  /-- Units used in the present frame, by the address of the register that holds the budget (R26). -/
  used : SMap Nat
  -- host interface (chapter 14)
  rings : SMap RingSt
  fns : SMap FnSt
  /-- MSI-X table entries, by function × 64 + vector (R394). -/
  msix : SMap MsixSt
  /-- Ring contexts cached, the most recently used first (R404). -/
  ctxCache : List Nat
  /-- Host memory, by function × 2^64 + address (R399). -/
  host : List Host.Cell
  -- DRAM (chapter 15)
  /-- DRAM contents by device address (R420). -/
  dram : List Host.Cell
  dchs : SMap DchSt
  /-- Doorbells recorded during a freeze, oldest first (R436). -/
  doorbells : List Doorbell
  /-- DRAM requests that wait for a burst or for the end of a freeze, in the order they were made (R27, R436). -/
  dwait : List DramWait
  dramNvm : DramNvm
  /-- An MC_UNFREEZE is being carried out (R438). -/
  unfreezing : Bool
  -- events and interrupts (chapter 16)
  evchs : SMap EvSt
  evgs : SMap EvgSt
  /-- Number of arbitration windows opened so far (R447). -/
  window : Nat
  /-- Route entries, by source (R460). -/
  routes : SMap Word
  -- tone engines (chapter 06)
  tones : SMap ToneSt
  -- output channels (chapter 07)
  outs : SMap OutSt
  -- read-out chain and lanes (chapters 08 and 09)
  adcs : SMap AdcSt
  routs : SMap RoutSt
  /-- FIR coefficients: CQ and CI in one word, by (tone × 2 + bank) × 512 + index (R231). -/
  fir : SMap Word
  /-- Kernel weights: WQ and WI in one word, by tone × 4,096 + index (R254). -/
  kernel : SMap Word
  lanes : SMap LaneSt
  -- decisions (chapter 10)
  /-- The local slots (R283). -/
  slots : SMap Slot
  /-- The copies of the peers' slots, by device × 256 + slot. -/
  copies : SMap Slot
  /-- Versions of a slot by the first step in which sequencers see them, newest first, while an older one can still be seen
  (R111, R144, R287): the copy of slot `k` of device `d` at 256 × d + k, local slot `k` at 8,192 + k. -/
  slotLog : SMap (List (Nat × Slot))
  syn : SynSt
  /-- The check map, by 16 × check + member (R298). -/
  cmap : SMap Nat
  -- the Jency link (chapter 11)
  ports : SMap PortSt
  mesh : MeshSt
  -- acquisition (chapter 12)
  acqs : SMap AcqSt
  -- flux channels (chapter 13)
  fluxes : SMap FluxSt
  -- the network clock (chapter 17)
  nt : NtSt
  eths : SMap EthSt
  -- device states, resets, debug (chapter 20)
  power : PowerSt
  -- housekeeping and calibration (chapters 18 and 19)
  therm : ThermSt
  sensors : SMap SensorSt
  sfes : SMap SfeSt
  cal : CalSt
  /-- The debug blocks: sequencer `n` at `n`, lane `m` at 256 + `m` (R539). -/
  dbgs : SMap DbgSt
  -- the model's own fields
  /-- Changes of IRQ_STAT AND IRQ_EN in the present command, not yet carried to their targets: page, value before, value after. -/
  edges : List (Nat × Word × Word)
  /-- The pages whose ERR_CAP took its capture in the present command: a lower CODE of the same cycle replaces it (R54). -/
  errNow : List Nat
  /-- The data that the last reading command returned. -/
  respVal : Word64
  /-- How many free values have been taken (assumption log 3). -/
  free : Nat
  /-- The commands that wait, first in, first out. -/
  pending : List Instr
deriving DecidableEq, Repr

/-- The device right after the release of POR_N: Starter begins (R530). Fields that the spec gives no reset value hold
the values named in the assumption log. -/
def State.reset : State where
  count := 0
  refLost := false
  frameAt := none
  epochAt := none
  loadIn := none
  latch := (0, 0, 0)
  ticks := 0
  regs := []
  limits := []
  tiles := []
  seqs := []
  loader := .reset
  cs := []
  csImage := []
  bar2 := []
  used := []
  rings := []
  fns := []
  msix := []
  ctxCache := []
  host := []
  dram := []
  dchs := []
  doorbells := []
  dwait := []
  dramNvm := .reset
  unfreezing := false
  evchs := []
  evgs := []
  window := 0
  routes := []
  tones := []
  outs := []
  adcs := []
  routs := []
  fir := []
  kernel := []
  lanes := []
  slots := []
  copies := []
  slotLog := []
  syn := .reset
  cmap := []
  ports := []
  mesh := .reset
  acqs := []
  fluxes := []
  nt := .reset
  eths := []
  power := .reset
  therm := .reset
  sensors := []
  sfes := []
  cal := .reset
  dbgs := []
  edges := []
  errNow := []
  respVal := 0
  free := 0
  pending := []

end Sys2Proof.Machine
end

