-- ==== Sys2Proof/Machine/Banks.lean ====
section
/-!
DEFINITION. Access to the banks of blocks: one reader and one modifier for each bank of the state.
-/
namespace Sys2Proof.Machine

/-- The state of tile `n`. -/
def State.tile (s : State) (n : Nat) : TileSt := SMap.get (fun _ => .reset) s.tiles n

/-- Change the state of tile `n`. -/
def State.modTile (s : State) (n : Nat) (f : TileSt → TileSt) : State :=
  { s with tiles := SMap.modify (fun _ => .reset) s.tiles n f }

/-- The state of sequencer `n`. -/
def State.seq (s : State) (n : Nat) : SeqSt := SMap.get (fun _ => .reset) s.seqs n

/-- Change the state of sequencer `n`. -/
def State.modSeq (s : State) (n : Nat) (f : SeqSt → SeqSt) : State :=
  { s with seqs := SMap.modify (fun _ => .reset) s.seqs n f }

/-- The state of ring `n`. -/
def State.ring (s : State) (n : Nat) : RingSt := SMap.get (fun _ => .reset) s.rings n

/-- Change the state of ring `n`. -/
def State.modRing (s : State) (n : Nat) (f : RingSt → RingSt) : State :=
  { s with rings := SMap.modify (fun _ => .reset) s.rings n f }

/-- The state of function `n`. -/
def State.fnSt (s : State) (n : Nat) : FnSt := SMap.get (fun _ => .reset) s.fns n

/-- Change the state of function `n`. -/
def State.modFn (s : State) (n : Nat) (f : FnSt → FnSt) : State :=
  { s with fns := SMap.modify (fun _ => .reset) s.fns n f }

/-- The state of MSI-X entry `n`. -/
def State.msixEntry (s : State) (n : Nat) : MsixSt := SMap.get (fun _ => .reset) s.msix n

/-- Change the state of MSI-X entry `n`. -/
def State.modMsix (s : State) (n : Nat) (f : MsixSt → MsixSt) : State :=
  { s with msix := SMap.modify (fun _ => .reset) s.msix n f }

/-- The state of DRAM channel `n`. -/
def State.dch (s : State) (n : Nat) : DchSt := SMap.get (fun _ => .reset) s.dchs n

/-- Change the state of DRAM channel `n`. -/
def State.modDch (s : State) (n : Nat) (f : DchSt → DchSt) : State :=
  { s with dchs := SMap.modify (fun _ => .reset) s.dchs n f }

/-- The state of event channel `n`. -/
def State.evch (s : State) (n : Nat) : EvSt := SMap.get (fun _ => .reset) s.evchs n

/-- Change the state of event channel `n`. -/
def State.modEvch (s : State) (n : Nat) (f : EvSt → EvSt) : State :=
  { s with evchs := SMap.modify (fun _ => .reset) s.evchs n f }

/-- The state of event group `n`. -/
def State.evg (s : State) (n : Nat) : EvgSt := SMap.get (fun _ => .reset) s.evgs n

/-- Change the state of event group `n`. -/
def State.modEvg (s : State) (n : Nat) (f : EvgSt → EvgSt) : State :=
  { s with evgs := SMap.modify (fun _ => .reset) s.evgs n f }

/-- The state of tone engine `n`. -/
def State.tone (s : State) (n : Nat) : ToneSt := SMap.get (fun _ => .reset) s.tones n

/-- Change the state of tone engine `n`. -/
def State.modTone (s : State) (n : Nat) (f : ToneSt → ToneSt) : State :=
  { s with tones := SMap.modify (fun _ => .reset) s.tones n f }

/-- The state of output channel `n`. -/
def State.outCh (s : State) (n : Nat) : OutSt := SMap.get (fun _ => .reset) s.outs n

/-- Change the state of output channel `n`. -/
def State.modOut (s : State) (n : Nat) (f : OutSt → OutSt) : State :=
  { s with outs := SMap.modify (fun _ => .reset) s.outs n f }

/-- The state of ADC `n`. -/
def State.adcCh (s : State) (n : Nat) : AdcSt := SMap.get (fun _ => .reset) s.adcs n

/-- Change the state of ADC `n`. -/
def State.modAdc (s : State) (n : Nat) (f : AdcSt → AdcSt) : State :=
  { s with adcs := SMap.modify (fun _ => .reset) s.adcs n f }

/-- The state of read-out tone `n`. -/
def State.rout (s : State) (n : Nat) : RoutSt := SMap.get (fun _ => .reset) s.routs n

/-- Change the state of read-out tone `n`. -/
def State.modRout (s : State) (n : Nat) (f : RoutSt → RoutSt) : State :=
  { s with routs := SMap.modify (fun _ => .reset) s.routs n f }

/-- The state of lane `n`. -/
def State.lane (s : State) (n : Nat) : LaneSt := SMap.get (fun _ => .reset) s.lanes n

/-- Change the state of lane `n`. -/
def State.modLane (s : State) (n : Nat) (f : LaneSt → LaneSt) : State :=
  { s with lanes := SMap.modify (fun _ => .reset) s.lanes n f }

/-- The state of local slot `n`. -/
def State.slot (s : State) (n : Nat) : Slot := SMap.get (fun _ => .reset) s.slots n

/-- Change the state of local slot `n`. -/
def State.modSlot (s : State) (n : Nat) (f : Slot → Slot) : State :=
  { s with slots := SMap.modify (fun _ => .reset) s.slots n f }

/-- The state of copy slot `n`. -/
def State.copy (s : State) (n : Nat) : Slot := SMap.get (fun _ => .reset) s.copies n

/-- Change the state of copy slot `n`. -/
def State.modCopy (s : State) (n : Nat) (f : Slot → Slot) : State :=
  { s with copies := SMap.modify (fun _ => .reset) s.copies n f }

/-- The state of Jency port `n`. -/
def State.port (s : State) (n : Nat) : PortSt := SMap.get (fun _ => .reset) s.ports n

/-- Change the state of Jency port `n`. -/
def State.modPort (s : State) (n : Nat) (f : PortSt → PortSt) : State :=
  { s with ports := SMap.modify (fun _ => .reset) s.ports n f }

/-- The state of acquisition unit `n`. -/
def State.acqU (s : State) (n : Nat) : AcqSt := SMap.get (fun _ => .reset) s.acqs n

/-- Change the state of acquisition unit `n`. -/
def State.modAcq (s : State) (n : Nat) (f : AcqSt → AcqSt) : State :=
  { s with acqs := SMap.modify (fun _ => .reset) s.acqs n f }

/-- The state of debug target `n`. -/
def State.dbg (s : State) (n : Nat) : DbgSt := SMap.get (fun _ => .reset) s.dbgs n

/-- Change the state of debug target `n`. -/
def State.modDbg (s : State) (n : Nat) (f : DbgSt → DbgSt) : State :=
  { s with dbgs := SMap.modify (fun _ => .reset) s.dbgs n f }

/-- The state of flux channel `n`. -/
def State.flux (s : State) (n : Nat) : FluxSt := SMap.get (fun _ => .reset) s.fluxes n

/-- Change the state of flux channel `n`. -/
def State.modFlux (s : State) (n : Nat) (f : FluxSt → FluxSt) : State :=
  { s with fluxes := SMap.modify (fun _ => .reset) s.fluxes n f }

/-- The state of Ethernet port `n`. -/
def State.eth (s : State) (n : Nat) : EthSt := SMap.get (fun _ => .reset) s.eths n

/-- Change the state of Ethernet port `n`. -/
def State.modEth (s : State) (n : Nat) (f : EthSt → EthSt) : State :=
  { s with eths := SMap.modify (fun _ => .reset) s.eths n f }

/-- The state of temperature sensor `n`. -/
def State.sensor (s : State) (n : Nat) : SensorSt := SMap.get (fun _ => .reset) s.sensors n

/-- Change the state of temperature sensor `n`. -/
def State.modSensor (s : State) (n : Nat) (f : SensorSt → SensorSt) : State :=
  { s with sensors := SMap.modify (fun _ => .reset) s.sensors n f }

/-- The state of sensor channel `n`. -/
def State.sfe (s : State) (n : Nat) : SfeSt := SMap.get (fun _ => .reset) s.sfes n

/-- Change the state of sensor channel `n`. -/
def State.modSfe (s : State) (n : Nat) (f : SfeSt → SfeSt) : State :=
  { s with sfes := SMap.modify (fun _ => .reset) s.sfes n f }

end Sys2Proof.Machine
end

