-- ==== Sys2Proof/Machine/Regs.lean ====
section
/-!
DEFINITION. The register pages of BAR0: the page types (R51), the address map (R48), and every register field of the
register tables of the chapters, with its place, its access code (R10) and its reset value.
-/
namespace Sys2Proof.Machine

/-- The block types of R51. Converter pages are split into output channels and ADCs, which have their own tables. -/
inductive PageType where
  | glob | tl | tile | seq | tone | rout | lane | dec | syn | flux | out | adc | acq | evg | intc | mc | dch
  | jport | mesh | eth | nclk | thm | sfe | cal | fn | sec | pwr
deriving DecidableEq, Repr

/-- The access codes of R10. -/
inductive Acc where
  | ro | rw | w1c | w1s | wo | rwl
deriving DecidableEq, Repr

/-- One register field: byte offset in the page, distance and number of its copies, bits, access code, reset value. -/
structure Row where
  off : Nat
  stride : Nat
  cnt : Nat
  hi : Nat
  lo : Nat
  acc : Acc
  reset : Nat
deriving DecidableEq, Repr

/-- The width of the field in bits. -/
def Row.width (r : Row) : Nat := r.hi + 1 - r.lo

/-- Copy `i` of the field is the one at byte offset `off`. -/
def Row.covers (r : Row) (off : Nat) : Bool :=
  r.off ≤ off && (off - r.off) % r.stride == 0 && (off - r.off) / r.stride < r.cnt

/-- The mask of the field in its word. -/
def Row.mask (r : Row) : Word := BitVec.ofNat 32 ((2 ^ r.width - 1) * 2 ^ r.lo)

/-- The field's value in a word. -/
def Row.get (r : Row) (w : Word) : Nat := (w.toNat >>> r.lo) % 2 ^ r.width

/-- The word with the field set to `v`, cut to the field's width. -/
def Row.set (r : Row) (w : Word) (v : Nat) : Word :=
  (w &&& ~~~ r.mask) ||| (BitVec.ofNat 32 (v <<< r.lo) &&& r.mask)

namespace Base
/-! Page addresses (R48). -/
def glob : Nat := 0x0000_0000
def tl : Nat := 0x0001_0000
def tile (t : Nat) : Nat := 0x0001_1000 + t * 0x1000
def seq (n : Nat) : Nat := 0x0010_0000 + n * 0x1000
def tone (n : Nat) : Nat := 0x0020_0000 + n * 0x1000
def rout (n : Nat) : Nat := 0x0040_0000 + n * 0x1000
def lane (n : Nat) : Nat := 0x0050_0000 + n * 0x1000
def dec : Nat := 0x0054_0000
def syn : Nat := 0x0054_1000
def flux (n : Nat) : Nat := 0x0058_0000 + n * 0x1000
/-- Output channel `k`, 0 to 47: converter `k`. -/
def out (k : Nat) : Nat := 0x0060_0000 + k * 0x1000
/-- ADC `a`, 0 to 15: converter 48 + `a`. -/
def adc (a : Nat) : Nat := 0x0063_0000 + a * 0x1000
def acq (n : Nat) : Nat := 0x0064_0000 + n * 0x1000
def evg (g : Nat) : Nat := 0x0068_0000 + g * 0x1000
def intc : Nat := 0x006C_0000
def mc : Nat := 0x0070_0000
def dch (n : Nat) : Nat := 0x0070_1000 + n * 0x1000
def jport (n : Nat) : Nat := 0x0074_0000 + n * 0x1000
def mesh : Nat := 0x0074_8000
def eth (p : Nat) : Nat := 0x0078_0000 + p * 0x1000
def nclk : Nat := 0x0078_2000
def thm : Nat := 0x007C_0000
def sfe (k : Nat) : Nat := 0x007C_1000 + k * 0x1000
def cal : Nat := 0x0080_0000
def fn (f : Nat) : Nat := 0x0084_0000 + f * 0x1000
def sec : Nat := 0x0088_0000
def pwr : Nat := 0x008C_0000
end Base

/-- The page types with the base address and number of their pages, in address order (R48). -/
def pageMap : List (PageType × Nat × Nat) :=
  [(.glob, Base.glob, 1), (.tl, Base.tl, 1), (.tile, Base.tile 0, 8), (.seq, Base.seq 0, 256), (.tone, Base.tone 0, 512),
   (.rout, Base.rout 0, 256), (.lane, Base.lane 0, 64), (.dec, Base.dec, 1), (.syn, Base.syn, 1),
   (.flux, Base.flux 0, 96), (.out, Base.out 0, 48), (.adc, Base.adc 0, 16), (.acq, Base.acq 0, 32)] ++
  [(.evg, Base.evg 0, 32), (.intc, Base.intc, 1), (.mc, Base.mc, 1), (.dch, Base.dch 0, 4), (.jport, Base.jport 0, 8),
   (.mesh, Base.mesh, 1), (.eth, Base.eth 0, 2), (.nclk, Base.nclk, 1), (.thm, Base.thm, 1), (.sfe, Base.sfe 0, 16),
   (.cal, Base.cal, 1), (.fn, Base.fn 0, 64), (.sec, Base.sec, 1), (.pwr, Base.pwr, 1)]

/-- The page that holds BAR0 address `a`: its type and its number within the type; none in a reserved range. -/
def pageOf (a : Nat) : Option (PageType × Nat) :=
  (pageMap.find? fun e => e.2.1 ≤ a && a < e.2.1 + e.2.2 * 0x1000).map fun e => (e.1, (a - e.2.1) / 0x1000)

/-- The base address of page `n` of a type. -/
def pageBase (t : PageType) (n : Nat) : Nat :=
  ((pageMap.find? fun e => e.1 == t).map fun e => e.2.1).getD 0 + n * 0x1000

/-- The block type code (R51). -/
def PageType.code : PageType → Nat
  | .glob => 0x0001 | .tl => 0x0002 | .tile => 0x0003 | .seq => 0x0010 | .tone => 0x0011 | .rout => 0x0012
  | .lane => 0x0013 | .dec => 0x0014 | .syn => 0x0015 | .flux => 0x0016 | .out => 0x0017 | .adc => 0x0017
  | .acq => 0x0018 | .evg => 0x0019 | .intc => 0x001A | .mc => 0x001C | .dch => 0x001D | .jport => 0x001E
  | .mesh => 0x001F | .eth => 0x0020 | .nclk => 0x0021 | .thm => 0x0022 | .sfe => 0x0023 | .cal => 0x0024
  | .fn => 0x0025 | .sec => 0x0026 | .pwr => 0x0027

namespace Reg

/-! ### The common header (R52) -/

namespace Hdr
def TYPE : Row := ⟨0x000, 4, 1, 31, 16, .ro, 0x0⟩
def INST : Row := ⟨0x000, 4, 1, 15, 0, .ro, 0x0⟩
def MAJOR : Row := ⟨0x004, 4, 1, 15, 8, .ro, 0x1⟩
def MINOR : Row := ⟨0x004, 4, 1, 7, 0, .ro, 0x0⟩
def DISABLE_NOW : Row := ⟨0x008, 4, 1, 1, 1, .w1s, 0x0⟩
def ENABLE : Row := ⟨0x008, 4, 1, 0, 0, .rw, 0x0⟩
/-- The whole CTL register, for the block-specific bits that the chapters define in prose. -/
def CTL : Row := ⟨0x008, 4, 1, 31, 0, .rw, 0x0⟩
def STAT : Row := ⟨0x00C, 4, 1, 31, 0, .ro, 0x0⟩
def COND : Row := ⟨0x00C, 4, 1, 1, 1, .ro, 0x0⟩
def ACTIVE : Row := ⟨0x00C, 4, 1, 0, 0, .ro, 0x0⟩
def IRQ_STAT : Row := ⟨0x010, 4, 1, 31, 0, .w1c, 0x0⟩
def IRQ_EN : Row := ⟨0x014, 4, 1, 31, 0, .rw, 0x0⟩
def IRQ_FORCE : Row := ⟨0x018, 4, 1, 31, 0, .wo, 0x0⟩
def VALID : Row := ⟨0x01C, 4, 1, 31, 31, .w1c, 0x0⟩
def MORE : Row := ⟨0x01C, 4, 1, 30, 30, .ro, 0x0⟩
def CODE : Row := ⟨0x01C, 4, 1, 29, 24, .ro, 0x0⟩
def INFO : Row := ⟨0x01C, 4, 1, 23, 0, .ro, 0x0⟩
def LOCK : Row := ⟨0x020, 4, 1, 31, 31, .rwl, 0x0⟩
def SEC : Row := ⟨0x020, 4, 1, 8, 8, .rwl, 0x0⟩
def FN : Row := ⟨0x020, 4, 1, 7, 0, .rwl, 0xFF⟩
def USED : Row := ⟨0x024, 4, 1, 31, 16, .ro, 0x0⟩
def LIMIT : Row := ⟨0x024, 4, 1, 15, 0, .rwl, 0x0⟩
end Hdr

/-! ### Glob page (R64) -/

namespace Glob
def PART : Row := ⟨0x040, 4, 1, 31, 0, .ro, 0x9600⟩
def VARIANT : Row := ⟨0x044, 4, 1, 23, 16, .ro, 0x1⟩
def STEPPING : Row := ⟨0x044, 4, 1, 15, 0, .ro, 0xB0⟩
def SERIAL_LO : Row := ⟨0x048, 4, 1, 31, 0, .ro, 0x0⟩
def SERIAL_HI : Row := ⟨0x04C, 4, 1, 31, 0, .ro, 0x0⟩
def RSVD_COUNT : Row := ⟨0x050, 4, 1, 31, 0, .rw, 0x0⟩
/-- The block-specific rows of the page (R64). -/
def rows : List Row :=
  [PART, VARIANT, STEPPING, SERIAL_LO, SERIAL_HI, RSVD_COUNT]
end Glob

/-! ### Tl page (R90) -/

namespace Tl
def TL_NOW_LO : Row := ⟨0x040, 4, 1, 31, 0, .ro, 0x0⟩
def TL_NOW_HI : Row := ⟨0x044, 4, 1, 31, 0, .ro, 0x0⟩
def EPOCH_LO : Row := ⟨0x048, 4, 1, 31, 16, .rw, 0x0⟩
def EPOCH_HI : Row := ⟨0x04C, 4, 1, 31, 0, .rw, 0x0⟩
def SYNC_DLY : Row := ⟨0x050, 4, 1, 11, 8, .rw, 0x0⟩
def SYNC_PER : Row := ⟨0x050, 4, 1, 7, 4, .rw, 0x0⟩
def CHECK : Row := ⟨0x050, 4, 1, 1, 1, .rw, 0x0⟩
def ARM : Row := ⟨0x050, 4, 1, 0, 0, .w1s, 0x0⟩
def EDGES : Row := ⟨0x054, 4, 1, 15, 8, .ro, 0x0⟩
def MARGIN_LATE : Row := ⟨0x054, 4, 1, 5, 5, .ro, 0x0⟩
def MARGIN_EARLY : Row := ⟨0x054, 4, 1, 4, 4, .ro, 0x0⟩
def REF_LOST : Row := ⟨0x054, 4, 1, 3, 3, .w1c, 0x0⟩
def SLIP : Row := ⟨0x054, 4, 1, 2, 2, .w1c, 0x0⟩
def LOADED : Row := ⟨0x054, 4, 1, 0, 0, .ro, 0x0⟩
def TILE_LOCK : Row := ⟨0x058, 4, 1, 15, 8, .ro, 0x0⟩
def CORE_LOCK : Row := ⟨0x058, 4, 1, 2, 2, .ro, 0x0⟩
def REF_PRESENT : Row := ⟨0x058, 4, 1, 1, 1, .ro, 0x0⟩
def RUN : Row := ⟨0x058, 4, 1, 0, 0, .ro, 0x0⟩
def TILE_EN : Row := ⟨0x05C, 4, 1, 7, 0, .rw, 0xFF⟩
def LATCH_TC_LO : Row := ⟨0x060, 4, 1, 31, 0, .ro, 0x0⟩
def LATCH_TC_HI : Row := ⟨0x064, 4, 1, 31, 0, .ro, 0x0⟩
def LATCH_NT_NS : Row := ⟨0x068, 4, 1, 31, 0, .ro, 0x0⟩
def LATCH_NT_FRAC : Row := ⟨0x06C, 4, 1, 31, 0, .ro, 0x0⟩
def MISMATCH_LIVE : Row := ⟨0x070, 4, 1, 15, 8, .ro, 0x0⟩
def MISMATCH : Row := ⟨0x070, 4, 1, 7, 0, .w1c, 0x0⟩
def VALID : Row := ⟨0x080, 4, 8, 31, 31, .ro, 0x0⟩
def TLCHK_DIFF : Row := ⟨0x080, 4, 8, 15, 0, .ro, 0x0⟩
/-- The block-specific rows of the page (R90). -/
def rows : List Row :=
  [TL_NOW_LO, TL_NOW_HI, EPOCH_LO, EPOCH_HI, SYNC_DLY, SYNC_PER, CHECK, ARM] ++
  [EDGES, MARGIN_LATE, MARGIN_EARLY, REF_LOST, SLIP, LOADED, TILE_LOCK, CORE_LOCK] ++
  [REF_PRESENT, RUN, TILE_EN, LATCH_TC_LO, LATCH_TC_HI, LATCH_NT_NS, LATCH_NT_FRAC, MISMATCH_LIVE] ++
  [MISMATCH, VALID, TLCHK_DIFF]
end Tl

/-! ### Tile page (R92) -/

namespace Tile
def ALIGNED : Row := ⟨0x040, 4, 1, 31, 31, .ro, 0x0⟩
def EB_OFFSET : Row := ⟨0x040, 4, 1, 4, 0, .ro, 0x0⟩
def TRACK_HOLD : Row := ⟨0x044, 4, 1, 0, 0, .rw, 0x0⟩
def TRIM : Row := ⟨0x048, 4, 1, 15, 0, .ro, 0x0⟩
def TRACK_ERR : Row := ⟨0x04C, 4, 1, 15, 0, .ro, 0x0⟩
def CAUSE_PHASE : Row := ⟨0x050, 4, 1, 2, 2, .ro, 0x0⟩
def CAUSE_SUPPLY : Row := ⟨0x050, 4, 1, 1, 1, .ro, 0x0⟩
def CAUSE_TEMP : Row := ⟨0x050, 4, 1, 0, 0, .ro, 0x0⟩
def LOSS_COUNT : Row := ⟨0x054, 4, 1, 15, 8, .ro, 0x0⟩
def LOCK : Row := ⟨0x054, 4, 1, 0, 0, .ro, 0x0⟩
/-- The block-specific rows of the page (R92). -/
def rows : List Row :=
  [ALIGNED, EB_OFFSET, TRACK_HOLD, TRIM, TRACK_ERR, CAUSE_PHASE, CAUSE_SUPPLY, CAUSE_TEMP] ++
  [LOSS_COUNT, LOCK]
end Tile

/-! ### Seq page (R134) -/

namespace Seq
def PC : Row := ⟨0x040, 4, 1, 10, 0, .ro, 0x0⟩
def START_PC : Row := ⟨0x044, 4, 1, 10, 0, .rw, 0x0⟩
def TP_LO : Row := ⟨0x048, 4, 1, 31, 0, .ro, 0x0⟩
def TP_HI : Row := ⟨0x04C, 4, 1, 31, 0, .ro, 0x0⟩
def SHOT_LO : Row := ⟨0x050, 4, 1, 31, 0, .rw, 0x0⟩
def SHOT_HI : Row := ⟨0x054, 4, 1, 31, 0, .rw, 0x0⟩
def LOOKAHEAD : Row := ⟨0x058, 4, 1, 16, 0, .rw, 0x1000⟩
def RES_RING : Row := ⟨0x05C, 4, 1, 17, 0, .rw, 0x0⟩
def BAR_MASK : Row := ⟨0x060, 4, 1, 31, 0, .rw, 0x0⟩
def GO : Row := ⟨0x064, 4, 1, 31, 31, .w1s, 0x0⟩
def DONE : Row := ⟨0x064, 4, 1, 30, 30, .ro, 0x0⟩
def DEST : Row := ⟨0x064, 4, 1, 7, 0, .rw, 0x0⟩
def WAIT_REASON : Row := ⟨0x068, 4, 1, 2, 0, .ro, 0x0⟩
def LATE_COUNT : Row := ⟨0x06C, 4, 1, 31, 0, .rw, 0x0⟩
def TRUNC_COUNT : Row := ⟨0x070, 4, 1, 15, 0, .rw, 0x0⟩
def TIMEOUT_COUNT : Row := ⟨0x074, 4, 1, 15, 0, .rw, 0x0⟩
def SIG_CODE : Row := ⟨0x078, 4, 1, 7, 0, .ro, 0x0⟩
def G : Row := ⟨0x080, 4, 32, 31, 0, .rw, 0x0⟩
def LC : Row := ⟨0x100, 4, 4, 23, 0, .rw, 0x0⟩
/-- The block-specific rows of the page (R134). -/
def rows : List Row :=
  [PC, START_PC, TP_LO, TP_HI, SHOT_LO, SHOT_HI, LOOKAHEAD, RES_RING] ++
  [BAR_MASK, GO, DONE, DEST, WAIT_REASON, LATE_COUNT, TRUNC_COUNT, TIMEOUT_COUNT] ++
  [SIG_CODE, G, LC]
end Seq

/-! ### Sec page (R157 and R543) -/

namespace Sec
def CL_MASK : Row := ⟨0x100, 4, 1, 31, 16, .rw, 0x0⟩
def APPLY : Row := ⟨0x100, 4, 1, 1, 1, .w1s, 0x0⟩
def VERIFY : Row := ⟨0x100, 4, 1, 0, 0, .w1s, 0x0⟩
def RESULT : Row := ⟨0x104, 4, 1, 15, 8, .ro, 0x0⟩
def MIXED : Row := ⟨0x104, 4, 1, 6, 6, .ro, 0x0⟩
def STAGED_SLOT : Row := ⟨0x104, 4, 1, 5, 5, .ro, 0x0⟩
def STAGED : Row := ⟨0x104, 4, 1, 4, 4, .ro, 0x0⟩
def BUSY : Row := ⟨0x104, 4, 1, 0, 0, .ro, 0x0⟩
def MCL_ADDR_LO : Row := ⟨0x108, 4, 1, 31, 0, .rw, 0x0⟩
def MCL_ADDR_HI : Row := ⟨0x10C, 4, 1, 31, 0, .rw, 0x0⟩
def MCL_LEN : Row := ⟨0x110, 4, 1, 20, 0, .rw, 0x0⟩
def MC_VERSION : Row := ⟨0x114, 4, 1, 31, 0, .ro, 0x0⟩
def MC_SVN : Row := ⟨0x118, 4, 1, 15, 0, .ro, 0x0⟩
def CL_SLOT : Row := ⟨0x11C, 4, 1, 15, 0, .ro, 0x0⟩
def CL_FAIL : Row := ⟨0x120, 4, 1, 15, 0, .ro, 0x0⟩
def CS_VIEW : Row := ⟨0x124, 4, 1, 3, 0, .rw, 0x0⟩
def CS_DETECT_COUNT : Row := ⟨0x128, 4, 1, 15, 0, .ro, 0x0⟩
def MC_CL_VER : Row := ⟨0x140, 4, 16, 31, 0, .ro, 0x0⟩
def SERIAL_LO : Row := ⟨0x040, 4, 1, 31, 0, .ro, 0x0⟩
def SERIAL_HI : Row := ⟨0x044, 4, 1, 31, 0, .ro, 0x0⟩
def FW_VERSION : Row := ⟨0x048, 4, 1, 31, 0, .ro, 0x0⟩
def FW_SVN : Row := ⟨0x04C, 4, 1, 15, 0, .ro, 0x0⟩
def KEY_REVOKE : Row := ⟨0x050, 4, 1, 3, 0, .w1s, 0x0⟩
def BOOT_PREF : Row := ⟨0x054, 4, 1, 1, 1, .rw, 0x0⟩
def BOOT_COPY : Row := ⟨0x054, 4, 1, 0, 0, .ro, 0x0⟩
/-- The block-specific rows of the page (R157 and R543). -/
def rows : List Row :=
  [CL_MASK, APPLY, VERIFY, RESULT, MIXED, STAGED_SLOT, STAGED, BUSY] ++
  [MCL_ADDR_LO, MCL_ADDR_HI, MCL_LEN, MC_VERSION, MC_SVN, CL_SLOT, CL_FAIL, CS_VIEW] ++
  [CS_DETECT_COUNT, MC_CL_VER, SERIAL_LO, SERIAL_HI, FW_VERSION, FW_SVN, KEY_REVOKE, BOOT_PREF] ++
  [BOOT_COPY]
end Sec

/-! ### Tone page (R194) -/

namespace Tone
def PLAYS_LEFT : Row := ⟨0x040, 4, 1, 31, 16, .ro, 0x0⟩
def CUR_ENTRY : Row := ⟨0x040, 4, 1, 15, 0, .ro, 0xFFFF⟩
def CONT_VALID : Row := ⟨0x044, 4, 1, 31, 31, .ro, 0x0⟩
def CONT : Row := ⟨0x044, 4, 1, 15, 0, .ro, 0xFFFF⟩
def PHASE_REG : Row := ⟨0x048, 4, 1, 15, 0, .rw, 0x0⟩
def FDELAY : Row := ⟨0x04C, 4, 1, 4, 0, .rw, 0x0⟩
def FRAME_EN : Row := ⟨0x050, 4, 1, 31, 31, .rw, 0x0⟩
def FRAME_APPLIED : Row := ⟨0x050, 4, 1, 9, 8, .ro, 0x0⟩
def FRAME_QUBIT : Row := ⟨0x050, 4, 1, 7, 0, .rw, 0x0⟩
def STRM_RING : Row := ⟨0x054, 4, 1, 17, 0, .rw, 0x0⟩
def PANIC_LVL : Row := ⟨0x058, 4, 1, 26, 16, .rw, 0x200⟩
def STRM_LEVEL : Row := ⟨0x058, 4, 1, 10, 0, .ro, 0x0⟩
def SKIP_DEBT : Row := ⟨0x05C, 4, 1, 17, 0, .ro, 0x0⟩
def UR_CAUSE : Row := ⟨0x060, 4, 1, 31, 31, .ro, 0x0⟩
def UNDERRUN_COUNT : Row := ⟨0x060, 4, 1, 15, 0, .rw, 0x0⟩
def TRUNC_COUNT : Row := ⟨0x064, 4, 1, 15, 0, .rw, 0x0⟩
def LATE_JUMP_COUNT : Row := ⟨0x068, 4, 1, 15, 0, .rw, 0x0⟩
def DROP_COUNT : Row := ⟨0x06C, 4, 1, 15, 0, .rw, 0x0⟩
def CUT_COUNT : Row := ⟨0x070, 4, 1, 15, 0, .rw, 0x0⟩
def MUTE_COUNT : Row := ⟨0x074, 4, 1, 31, 16, .rw, 0x0⟩
def RECOMP_COUNT : Row := ⟨0x074, 4, 1, 15, 0, .rw, 0x0⟩
def ACC : Row := ⟨0x078, 4, 1, 31, 0, .ro, 0x0⟩
/-- The block-specific rows of the page (R194). -/
def rows : List Row :=
  [PLAYS_LEFT, CUR_ENTRY, CONT_VALID, CONT, PHASE_REG, FDELAY, FRAME_EN, FRAME_APPLIED] ++
  [FRAME_QUBIT, STRM_RING, PANIC_LVL, STRM_LEVEL, SKIP_DEBT, UR_CAUSE, UNDERRUN_COUNT, TRUNC_COUNT] ++
  [LATE_JUMP_COUNT, DROP_COUNT, CUT_COUNT, MUTE_COUNT, RECOMP_COUNT, ACC]
end Tone

/-! ### Out page (R216) -/

namespace Out
def SHIFT : Row := ⟨0x040, 4, 1, 18, 16, .rw, 0x3⟩
def GAIN : Row := ⟨0x040, 4, 1, 15, 0, .rw, 0xFFFF⟩
def NCO_FREQ_LO : Row := ⟨0x044, 4, 1, 31, 0, .rw, 0x0⟩
def NCO_FREQ_HI : Row := ⟨0x048, 4, 1, 15, 0, .rw, 0x0⟩
def NCO_PHASE : Row := ⟨0x04C, 4, 1, 15, 0, .rw, 0x0⟩
def FSC : Row := ⟨0x050, 4, 1, 5, 4, .rw, 0x3⟩
def MODE : Row := ⟨0x050, 4, 1, 0, 0, .rw, 0x0⟩
def NCO_CUR_LO : Row := ⟨0x054, 4, 1, 31, 0, .ro, 0x0⟩
def NCO_CUR_HI : Row := ⟨0x058, 4, 1, 15, 0, .ro, 0x0⟩
def OUT_STATE : Row := ⟨0x05C, 4, 1, 1, 0, .ro, 0x0⟩
def SAT_COUNT : Row := ⟨0x060, 4, 1, 31, 0, .rw, 0x0⟩
def DROP_COUNT : Row := ⟨0x064, 4, 1, 31, 0, .rw, 0x0⟩
def CELL_INDEX : Row := ⟨0x068, 4, 1, 7, 0, .ro, 0x0⟩
/-- The block-specific rows of the page (R216). -/
def rows : List Row :=
  [SHIFT, GAIN, NCO_FREQ_LO, NCO_FREQ_HI, NCO_PHASE, FSC, MODE, NCO_CUR_LO] ++
  [NCO_CUR_HI, OUT_STATE, SAT_COUNT, DROP_COUNT, CELL_INDEX]
end Out

/-! ### Adc page (R246) -/

namespace Adc
def ZONE : Row := ⟨0x040, 4, 1, 9, 8, .rw, 0x1⟩
def FS_SEL : Row := ⟨0x040, 4, 1, 1, 0, .rw, 0x1⟩
def DNCO_FREQ_LO : Row := ⟨0x044, 4, 1, 31, 0, .rw, 0x0⟩
def DNCO_FREQ_HI : Row := ⟨0x048, 4, 1, 15, 0, .rw, 0x0⟩
def DNCO_PHASE : Row := ⟨0x04C, 4, 1, 15, 0, .rw, 0x0⟩
def DNCO_CUR_LO : Row := ⟨0x050, 4, 1, 31, 0, .ro, 0x0⟩
def DNCO_CUR_HI : Row := ⟨0x054, 4, 1, 15, 0, .ro, 0x0⟩
def IN_STATE : Row := ⟨0x058, 4, 1, 1, 0, .ro, 0x0⟩
def OVR_COUNT : Row := ⟨0x05C, 4, 1, 31, 0, .rw, 0x0⟩
def DDC_SAT_COUNT : Row := ⟨0x060, 4, 1, 31, 0, .rw, 0x0⟩
/-- The block-specific rows of the page (R246). -/
def rows : List Row :=
  [ZONE, FS_SEL, DNCO_FREQ_LO, DNCO_FREQ_HI, DNCO_PHASE, DNCO_CUR_LO, DNCO_CUR_HI, IN_STATE] ++
  [OVR_COUNT, DDC_SAT_COUNT]
end Adc

/-! ### Rout page (R248 and R265) -/

namespace Rout
def K : Row := ⟨0x040, 4, 1, 3, 0, .rw, 0x1⟩
def SH : Row := ⟨0x044, 4, 1, 15, 0, .rw, 0x5555⟩
def TNCO_FREQ : Row := ⟨0x048, 4, 1, 31, 0, .rw, 0x0⟩
def TNCO_PHASE : Row := ⟨0x04C, 4, 1, 15, 0, .rw, 0x0⟩
def DINT : Row := ⟨0x050, 4, 1, 25, 16, .rw, 0x0⟩
def DFRAC : Row := ⟨0x050, 4, 1, 5, 0, .rw, 0x0⟩
def FIR_TAPS : Row := ⟨0x054, 4, 1, 8, 0, .rw, 0x0⟩
def FIR_GD : Row := ⟨0x058, 4, 1, 8, 0, .rw, 0x0⟩
def SWAP : Row := ⟨0x05C, 4, 1, 9, 9, .w1s, 0x0⟩
def BANK : Row := ⟨0x05C, 4, 1, 8, 8, .ro, 0x0⟩
def FIR_SH : Row := ⟨0x05C, 4, 1, 3, 0, .rw, 0xF⟩
def LAT_AVAIL : Row := ⟨0x064, 4, 1, 15, 0, .ro, 0x17⟩
def TNCO_CUR : Row := ⟨0x068, 4, 1, 31, 0, .ro, 0x0⟩
def DINT_CUR : Row := ⟨0x06C, 4, 1, 25, 16, .ro, 0x0⟩
def DFRAC_CUR : Row := ⟨0x06C, 4, 1, 5, 0, .ro, 0x0⟩
def SAT_COUNT : Row := ⟨0x070, 4, 1, 31, 0, .rw, 0x0⟩
def FIR_ZERO_COUNT : Row := ⟨0x074, 4, 1, 15, 0, .rw, 0x0⟩
def CQ : Row := ⟨0x800, 4, 384, 31, 16, .rw, 0x0⟩
def CI : Row := ⟨0x800, 4, 384, 15, 0, .rw, 0x0⟩
def KSTART : Row := ⟨0x100, 4, 1, 11, 0, .rw, 0x0⟩
def DSH : Row := ⟨0x104, 4, 1, 4, 0, .rw, 0x0⟩
def BEN : Row := ⟨0x108, 4, 1, 2, 0, .rw, 0x0⟩
def STATE_MAP : Row := ⟨0x10C, 4, 1, 15, 0, .rw, 0x0⟩
def NY : Row := ⟨0x110, 16, 3, 31, 16, .rw, 0x0⟩
def NX : Row := ⟨0x110, 16, 3, 15, 0, .rw, 0x0⟩
def T_LO : Row := ⟨0x114, 16, 3, 31, 0, .rw, 0x0⟩
def T_HI : Row := ⟨0x118, 16, 3, 7, 0, .rw, 0x0⟩
def CSH : Row := ⟨0x11C, 16, 3, 4, 0, .rw, 0x0⟩
def RES_ACC_I_LO : Row := ⟨0x140, 4, 1, 31, 0, .ro, 0x0⟩
def RES_ACC_I_HI : Row := ⟨0x144, 4, 1, 7, 0, .ro, 0x0⟩
def RES_ACC_Q_LO : Row := ⟨0x148, 4, 1, 31, 0, .ro, 0x0⟩
def RES_ACC_Q_HI : Row := ⟨0x14C, 4, 1, 7, 0, .ro, 0x0⟩
def RES_STAMP : Row := ⟨0x150, 4, 1, 31, 0, .ro, 0x0⟩
def VALID : Row := ⟨0x154, 4, 1, 31, 31, .ro, 0x0⟩
def NODEC : Row := ⟨0x154, 4, 1, 30, 30, .ro, 0x0⟩
def CONF : Row := ⟨0x154, 4, 1, 9, 2, .ro, 0x0⟩
def STATE : Row := ⟨0x154, 4, 1, 1, 0, .ro, 0x0⟩
def WIN_COUNT : Row := ⟨0x158, 4, 1, 31, 0, .rw, 0x0⟩
def NODEC_COUNT : Row := ⟨0x15C, 4, 1, 31, 16, .rw, 0x0⟩
def RECOMP_COUNT : Row := ⟨0x15C, 4, 1, 15, 0, .rw, 0x0⟩
def KADDR : Row := ⟨0x160, 4, 1, 11, 0, .rw, 0x0⟩
def KDATA_WQ : Row := ⟨0x164, 4, 1, 31, 16, .rw, 0x0⟩
def KDATA_WI : Row := ⟨0x164, 4, 1, 15, 0, .rw, 0x0⟩
/-- The block-specific rows of the page (R248 and R265). -/
def rows : List Row :=
  [K, SH, TNCO_FREQ, TNCO_PHASE, DINT, DFRAC, FIR_TAPS, FIR_GD] ++
  [SWAP, BANK, FIR_SH, LAT_AVAIL, TNCO_CUR, DINT_CUR, DFRAC_CUR, SAT_COUNT] ++
  [FIR_ZERO_COUNT, CQ, CI, KSTART, DSH, BEN, STATE_MAP, NY] ++
  [NX, T_LO, T_HI, CSH, RES_ACC_I_LO, RES_ACC_I_HI, RES_ACC_Q_LO, RES_ACC_Q_HI] ++
  [RES_STAMP, VALID, NODEC, CONF, STATE, WIN_COUNT, NODEC_COUNT, RECOMP_COUNT] ++
  [KADDR, KDATA_WQ, KDATA_WI]
end Rout

/-! ### Lane page (R282) -/

namespace Lane
def PC : Row := ⟨0x040, 4, 1, 11, 0, .ro, 0x0⟩
def START_PC : Row := ⟨0x044, 4, 1, 11, 0, .rw, 0x0⟩
def DERR : Row := ⟨0x048, 4, 1, 9, 9, .w1c, 0x0⟩
def SAT : Row := ⟨0x048, 4, 1, 8, 8, .w1c, 0x0⟩
def OV : Row := ⟨0x048, 4, 1, 3, 0, .w1c, 0x0⟩
def EN : Row := ⟨0x04C, 4, 1, 31, 31, .rw, 0x0⟩
def CH : Row := ⟨0x04C, 4, 1, 7, 0, .rw, 0x0⟩
def OUT_RING : Row := ⟨0x050, 4, 1, 17, 0, .rw, 0x0⟩
def KIND : Row := ⟨0x060, 16, 4, 9, 8, .rw, 0x0⟩
def ROUT : Row := ⟨0x060, 16, 4, 7, 0, .rw, 0x0⟩
def IL : Row := ⟨0x064, 16, 4, 31, 16, .rw, 0x0⟩
def IB : Row := ⟨0x064, 16, 4, 15, 0, .rw, 0x0⟩
def IWCNT : Row := ⟨0x068, 16, 4, 31, 0, .ro, 0x0⟩
def ITAKE : Row := ⟨0x06C, 16, 4, 31, 0, .ro, 0x0⟩
def OVR_COUNT : Row := ⟨0x0A0, 4, 1, 15, 0, .rw, 0x0⟩
def RECOMP_COUNT : Row := ⟨0x0A4, 4, 1, 15, 0, .rw, 0x0⟩
def TRUNC_COUNT : Row := ⟨0x0A8, 4, 1, 15, 0, .rw, 0x0⟩
def WAIT_REASON : Row := ⟨0x0AC, 4, 1, 2, 0, .ro, 0x0⟩
def D : Row := ⟨0x100, 4, 16, 31, 0, .rw, 0x0⟩
def A : Row := ⟨0x140, 4, 8, 15, 0, .rw, 0x0⟩
def HL : Row := ⟨0x160, 4, 4, 31, 16, .rw, 0x0⟩
def HB : Row := ⟨0x160, 4, 4, 15, 0, .rw, 0x0⟩
def AC_LO : Row := ⟨0x170, 8, 4, 31, 0, .rw, 0x0⟩
def AC_HI : Row := ⟨0x174, 8, 4, 7, 0, .rw, 0x0⟩
/-- The block-specific rows of the page (R282). -/
def rows : List Row :=
  [PC, START_PC, DERR, SAT, OV, EN, CH, OUT_RING] ++
  [KIND, ROUT, IL, IB, IWCNT, ITAKE, OVR_COUNT, RECOMP_COUNT] ++
  [TRUNC_COUNT, WAIT_REASON, D, A, HL, HB, AC_LO, AC_HI]
end Lane

/-! ### Dec page (R311) -/

namespace Dec
def MESH_FN_LO : Row := ⟨0x040, 4, 1, 31, 0, .rw, 0x0⟩
def MESH_FN_HI : Row := ⟨0x044, 4, 1, 31, 0, .rw, 0x0⟩
def OLD_COUNT : Row := ⟨0x048, 4, 1, 31, 0, .rw, 0x0⟩
def MERGE_COUNT : Row := ⟨0x04C, 4, 1, 31, 0, .rw, 0x0⟩
def LOOP_COUNT : Row := ⟨0x050, 4, 1, 15, 0, .rw, 0x0⟩
def EN : Row := ⟨0x054, 4, 1, 31, 31, .rw, 0x0⟩
def CH : Row := ⟨0x054, 4, 1, 7, 0, .rw, 0x0⟩
def MS_ADDR : Row := ⟨0x060, 4, 1, 12, 0, .rw, 0x0⟩
def MS_STAMP : Row := ⟨0x064, 4, 1, 31, 0, .ro, 0x0⟩
def MS_VALUE : Row := ⟨0x068, 4, 1, 31, 0, .ro, 0x0⟩
def FWD_PORTS : Row := ⟨0x080, 4, 32, 7, 0, .rw, 0x0⟩
def PEND_DEPTH : Row := ⟨0x100, 4, 8, 13, 0, .ro, 0x0⟩
def EXP_PORTS : Row := ⟨0x400, 4, 256, 23, 16, .rw, 0x0⟩
def SRC_KIND : Row := ⟨0x400, 4, 256, 9, 8, .rw, 0x1⟩
def SRC_NUM : Row := ⟨0x400, 4, 256, 7, 0, .rw, 0x0⟩
def STAMP : Row := ⟨0x800, 8, 256, 31, 0, .ro, 0x0⟩
def VALID : Row := ⟨0x804, 8, 256, 31, 31, .ro, 0x0⟩
def NODEC : Row := ⟨0x804, 8, 256, 30, 30, .ro, 0x0⟩
def ABSENT : Row := ⟨0x804, 8, 256, 29, 29, .ro, 0x0⟩
def CONF : Row := ⟨0x804, 8, 256, 9, 2, .ro, 0x0⟩
def STATE : Row := ⟨0x804, 8, 256, 1, 0, .ro, 0x0⟩
/-- The block-specific rows of the page (R311). -/
def rows : List Row :=
  [MESH_FN_LO, MESH_FN_HI, OLD_COUNT, MERGE_COUNT, LOOP_COUNT, EN, CH, MS_ADDR] ++
  [MS_STAMP, MS_VALUE, FWD_PORTS, PEND_DEPTH, EXP_PORTS, SRC_KIND, SRC_NUM, STAMP] ++
  [VALID, NODEC, ABSENT, CONF, STATE]
end Dec

/-! ### Syn page (R313) -/

namespace Syn
def NCHECK : Row := ⟨0x040, 4, 1, 9, 0, .rw, 0x0⟩
def ERASE_POLICY : Row := ⟨0x044, 4, 1, 0, 0, .rw, 0x0⟩
def T0_LO : Row := ⟨0x048, 4, 1, 31, 0, .rw, 0x0⟩
def T0_HI : Row := ⟨0x04C, 4, 1, 31, 0, .rw, 0x0⟩
def TMO : Row := ⟨0x050, 4, 1, 31, 16, .rw, 0x0⟩
def PERIOD : Row := ⟨0x050, 4, 1, 15, 0, .rw, 0x0⟩
def ROUND_RING : Row := ⟨0x054, 4, 1, 17, 0, .rw, 0x0⟩
def CMAP_ADDR : Row := ⟨0x058, 4, 1, 12, 0, .rw, 0x0⟩
def CMAP_DATA : Row := ⟨0x05C, 4, 1, 15, 0, .rw, 0x0⟩
def ROUND_LO : Row := ⟨0x060, 4, 1, 31, 0, .ro, 0x0⟩
def ROUND_HI : Row := ⟨0x064, 4, 1, 31, 0, .ro, 0x0⟩
def EN : Row := ⟨0x068, 4, 1, 31, 31, .rw, 0x0⟩
def CH : Row := ⟨0x068, 4, 1, 7, 0, .rw, 0x0⟩
def ERASE_COUNT : Row := ⟨0x06C, 4, 1, 31, 16, .rw, 0x0⟩
def LATE_BIT_COUNT : Row := ⟨0x06C, 4, 1, 15, 0, .rw, 0x0⟩
def ABANDON_COUNT : Row := ⟨0x070, 4, 1, 15, 0, .rw, 0x0⟩
def FX_WORD : Row := ⟨0x074, 4, 1, 3, 0, .rw, 0x0⟩
def FRAME_XOR : Row := ⟨0x078, 4, 1, 31, 0, .wo, 0x0⟩
def FRAME_CLR : Row := ⟨0x07C, 4, 1, 0, 0, .w1s, 0x0⟩
def FRAME : Row := ⟨0x080, 4, 16, 31, 0, .ro, 0x0⟩
def TBASE : Row := ⟨0x100, 4, 32, 31, 16, .rw, 0x0⟩
def W : Row := ⟨0x100, 4, 32, 4, 0, .rw, 0x0⟩
/-- The block-specific rows of the page (R313). -/
def rows : List Row :=
  [NCHECK, ERASE_POLICY, T0_LO, T0_HI, TMO, PERIOD, ROUND_RING, CMAP_ADDR] ++
  [CMAP_DATA, ROUND_LO, ROUND_HI, EN, CH, ERASE_COUNT, LATE_BIT_COUNT, ABANDON_COUNT] ++
  [FX_WORD, FRAME_XOR, FRAME_CLR, FRAME, TBASE, W]
end Syn

/-! ### Mesh page (R338) -/

namespace Mesh
def MEMBER : Row := ⟨0x040, 4, 1, 31, 31, .ro, 0x0⟩
def MESH_ID : Row := ⟨0x040, 4, 1, 4, 0, .rw, 0x0⟩
def MEMBERS : Row := ⟨0x044, 4, 1, 31, 0, .ro, 0x0⟩
def NEXT_MEMBERS : Row := ⟨0x048, 4, 1, 31, 0, .rw, 0x0⟩
def CHG_EPOCH_LO : Row := ⟨0x04C, 4, 1, 31, 0, .rw, 0x0⟩
def CHG_EPOCH_HI : Row := ⟨0x050, 4, 1, 15, 0, .rw, 0x0⟩
def CHG_STATE : Row := ⟨0x054, 4, 1, 9, 8, .ro, 0x0⟩
def ANNOUNCE : Row := ⟨0x054, 4, 1, 0, 0, .w1s, 0x0⟩
def PORT_KILL : Row := ⟨0x058, 4, 1, 15, 8, .w1s, 0x0⟩
def PORT_EN : Row := ⟨0x058, 4, 1, 7, 0, .rw, 0x0⟩
def RENNET_DLY : Row := ⟨0x05C, 4, 1, 7, 0, .rw, 0x80⟩
def RENNET_PORTS : Row := ⟨0x060, 4, 1, 7, 0, .rw, 0x0⟩
def REV_PORTS : Row := ⟨0x064, 4, 1, 7, 0, .rw, 0x0⟩
def EN : Row := ⟨0x068, 4, 1, 31, 31, .rw, 0x0⟩
def CH : Row := ⟨0x068, 4, 1, 7, 0, .rw, 0x0⟩
def REV_EXPORT : Row := ⟨0x070, 4, 8, 31, 0, .rw, 0x0⟩
def REV_IMPORT : Row := ⟨0x090, 4, 8, 31, 0, .rw, 0x0⟩
def RENNET_DROP_COUNT : Row := ⟨0x0B0, 4, 1, 31, 16, .rw, 0x0⟩
def RENNET_LATE_COUNT : Row := ⟨0x0B0, 4, 1, 15, 0, .rw, 0x0⟩
def ABSENT_DROP_COUNT : Row := ⟨0x0B4, 4, 1, 31, 0, .rw, 0x0⟩
def MGMT_LIMIT : Row := ⟨0x0C0, 4, 8, 15, 0, .rw, 0x10⟩
/-- The block-specific rows of the page (R338). -/
def rows : List Row :=
  [MEMBER, MESH_ID, MEMBERS, NEXT_MEMBERS, CHG_EPOCH_LO, CHG_EPOCH_HI, CHG_STATE, ANNOUNCE] ++
  [PORT_KILL, PORT_EN, RENNET_DLY, RENNET_PORTS, REV_PORTS, EN, CH, REV_EXPORT] ++
  [REV_IMPORT, RENNET_DROP_COUNT, RENNET_LATE_COUNT, ABSENT_DROP_COUNT, MGMT_LIMIT]
end Mesh

/-! ### Jport page (R340) -/

namespace Jport
def PEER_VALID : Row := ⟨0x040, 4, 1, 31, 31, .ro, 0x0⟩
def PEER_ID : Row := ⟨0x040, 4, 1, 20, 16, .ro, 0x0⟩
def JLAT : Row := ⟨0x040, 4, 1, 12, 8, .ro, 0x0⟩
def PSTATE : Row := ⟨0x040, 4, 1, 2, 0, .ro, 0x0⟩
def RA : Row := ⟨0x044, 4, 1, 7, 0, .ro, 0x0⟩
def F_FINE : Row := ⟨0x048, 4, 1, 15, 0, .ro, 0x0⟩
def PEER_SERIAL_LO : Row := ⟨0x04C, 4, 1, 31, 0, .ro, 0x0⟩
def PEER_SERIAL_HI : Row := ⟨0x050, 4, 1, 31, 0, .ro, 0x0⟩
def CRC_ERR_COUNT : Row := ⟨0x054, 4, 1, 31, 0, .rw, 0x0⟩
def DUP_COUNT : Row := ⟨0x058, 4, 1, 31, 16, .rw, 0x0⟩
def REPLAY_COUNT : Row := ⟨0x058, 4, 1, 15, 0, .rw, 0x0⟩
def BULK_LOST_COUNT : Row := ⟨0x05C, 4, 1, 31, 16, .rw, 0x0⟩
def LOST_COUNT : Row := ⟨0x05C, 4, 1, 15, 0, .rw, 0x0⟩
def DROP_COUNT : Row := ⟨0x060, 4, 1, 15, 0, .rw, 0x0⟩
def GO : Row := ⟨0x064, 4, 1, 31, 31, .w1s, 0x0⟩
def BTX_LEN : Row := ⟨0x064, 4, 1, 6, 0, .rw, 0x0⟩
def BRX_VALID : Row := ⟨0x068, 4, 1, 31, 31, .w1c, 0x0⟩
def BRX_LEN : Row := ⟨0x068, 4, 1, 6, 0, .ro, 0x0⟩
def BTX : Row := ⟨0x080, 4, 16, 31, 0, .rw, 0x0⟩
def BRX : Row := ⟨0x0C0, 4, 16, 31, 0, .ro, 0x0⟩
/-- The block-specific rows of the page (R340). -/
def rows : List Row :=
  [PEER_VALID, PEER_ID, JLAT, PSTATE, RA, F_FINE, PEER_SERIAL_LO, PEER_SERIAL_HI] ++
  [CRC_ERR_COUNT, DUP_COUNT, REPLAY_COUNT, BULK_LOST_COUNT, LOST_COUNT, DROP_COUNT, GO, BTX_LEN] ++
  [BRX_VALID, BRX_LEN, BTX, BRX]
end Jport

/-! ### Acq page (R361) -/

namespace Acq
def KIND : Row := ⟨0x040, 4, 1, 18, 16, .rw, 0x0⟩
def INDEX : Row := ⟨0x040, 4, 1, 7, 0, .rw, 0x0⟩
def CS_SIZE : Row := ⟨0x044, 4, 1, 25, 16, .rw, 0x0⟩
def CS_BASE : Row := ⟨0x044, 4, 1, 9, 0, .rw, 0x0⟩
def PRE : Row := ⟨0x048, 4, 1, 31, 0, .rw, 0x0⟩
def POST : Row := ⟨0x04C, 4, 1, 31, 0, .rw, 0x1⟩
def SPILL_RES : Row := ⟨0x050, 4, 1, 9, 0, .rw, 0x1⟩
def SPILL_RING : Row := ⟨0x054, 4, 1, 17, 0, .rw, 0x0⟩
def REC_RING : Row := ⟨0x058, 4, 1, 17, 0, .rw, 0x0⟩
def FALL : Row := ⟨0x05C, 4, 1, 12, 12, .rw, 0x0⟩
def COMP : Row := ⟨0x05C, 4, 1, 10, 8, .rw, 0x0⟩
def TRIG_EN : Row := ⟨0x05C, 4, 1, 6, 0, .rw, 0x0⟩
def LVL_HI : Row := ⟨0x060, 4, 1, 16, 0, .rw, 0x0⟩
def LVL_LO : Row := ⟨0x064, 4, 1, 16, 0, .rw, 0x0⟩
def TRIG_STEP_LO : Row := ⟨0x068, 4, 1, 31, 0, .rw, 0x0⟩
def TRIG_STEP_HI : Row := ⟨0x06C, 4, 1, 31, 0, .rw, 0x0⟩
def RNT_OUT : Row := ⟨0x070, 4, 1, 29, 29, .rw, 0x0⟩
def RNT_EN : Row := ⟨0x070, 4, 1, 28, 28, .rw, 0x0⟩
def RGRP : Row := ⟨0x070, 4, 1, 27, 24, .rw, 0x0⟩
def MASTER : Row := ⟨0x070, 4, 1, 20, 20, .rw, 0x0⟩
def LGRP : Row := ⟨0x070, 4, 1, 19, 16, .rw, 0x0⟩
def TRIG_EV : Row := ⟨0x070, 4, 1, 7, 0, .rw, 0x0⟩
def ASTATE : Row := ⟨0x074, 4, 1, 2, 0, .ro, 0x0⟩
def FIFO_LEVEL : Row := ⟨0x078, 4, 1, 19, 0, .ro, 0x0⟩
def WHEY : Row := ⟨0x07C, 4, 1, 31, 0, .rw, 0x0⟩
def OVF_INDEX : Row := ⟨0x080, 4, 1, 31, 0, .ro, 0xFFFFFFFF⟩
def BAD_ADDR : Row := ⟨0x084, 4, 1, 25, 0, .ro, 0x0⟩
def SEQ : Row := ⟨0x088, 4, 1, 31, 0, .ro, 0x0⟩
/-- The block-specific rows of the page (R361). -/
def rows : List Row :=
  [KIND, INDEX, CS_SIZE, CS_BASE, PRE, POST, SPILL_RES, SPILL_RING] ++
  [REC_RING, FALL, COMP, TRIG_EN, LVL_HI, LVL_LO, TRIG_STEP_LO, TRIG_STEP_HI] ++
  [RNT_OUT, RNT_EN, RGRP, MASTER, LGRP, TRIG_EV, ASTATE, FIFO_LEVEL] ++
  [WHEY, OVF_INDEX, BAD_ADDR, SEQ]
end Acq

/-! ### Flux page (R387) -/

namespace Flux
def FLEVEL : Row := ⟨0x040, 4, 1, 31, 16, .rw, 0x0⟩
def FAST_FS : Row := ⟨0x040, 4, 1, 1, 0, .rw, 0x1⟩
def PLAYS_LEFT : Row := ⟨0x044, 4, 1, 31, 16, .ro, 0x0⟩
def CUR_ENTRY : Row := ⟨0x044, 4, 1, 15, 0, .ro, 0xFFFF⟩
def BIAS_RING : Row := ⟨0x048, 4, 1, 17, 0, .rw, 0x0⟩
def BCLK_DIV : Row := ⟨0x04C, 4, 1, 17, 0, .rw, 0x61A8⟩
def BCLK_PH : Row := ⟨0x050, 4, 1, 17, 0, .rw, 0x0⟩
def LOOP_COMP : Row := ⟨0x054, 4, 1, 9, 8, .rw, 0x1⟩
def OPEN_ACT : Row := ⟨0x054, 4, 1, 5, 5, .rw, 0x1⟩
def COMP_ACT : Row := ⟨0x054, 4, 1, 4, 4, .rw, 0x0⟩
def CONT : Row := ⟨0x054, 4, 1, 0, 0, .rw, 0x0⟩
def D_GO : Row := ⟨0x058, 4, 1, 31, 31, .w1s, 0x0⟩
def D_RANGE : Row := ⟨0x058, 4, 1, 22, 20, .rw, 0x0⟩
def D_CODE : Row := ⟨0x058, 4, 1, 19, 0, .rw, 0x0⟩
def RANGE : Row := ⟨0x05C, 4, 1, 22, 20, .ro, 0x0⟩
def CODE : Row := ⟨0x05C, 4, 1, 19, 0, .ro, 0x0⟩
def RAMP_LEFT : Row := ⟨0x060, 4, 1, 25, 16, .ro, 0x0⟩
def QLEVEL : Row := ⟨0x060, 4, 1, 8, 0, .ro, 0x0⟩
def RANGE_CHANGED : Row := ⟨0x064, 4, 1, 31, 31, .ro, 0x0⟩
def OPEN : Row := ⟨0x064, 4, 1, 30, 30, .ro, 0x0⟩
def COMPLIANCE : Row := ⟨0x064, 4, 1, 29, 29, .ro, 0x0⟩
def MON_V : Row := ⟨0x064, 4, 1, 23, 0, .ro, 0x0⟩
def MON_I : Row := ⟨0x068, 4, 1, 24, 0, .ro, 0x0⟩
def FAULT_CAUSE : Row := ⟨0x06C, 4, 1, 4, 0, .ro, 0x0⟩
def NVM_BUSY : Row := ⟨0x070, 4, 1, 2, 2, .ro, 0x0⟩
def NVM_STORE : Row := ⟨0x070, 4, 1, 1, 1, .w1s, 0x0⟩
def FAULT_CLR : Row := ⟨0x070, 4, 1, 0, 0, .w1s, 0x0⟩
def PU_RANGE : Row := ⟨0x074, 4, 1, 22, 20, .rw, 0x0⟩
def PU_CODE : Row := ⟨0x074, 4, 1, 19, 0, .rw, 0x0⟩
def FLT_RANGE : Row := ⟨0x078, 4, 1, 22, 20, .rw, 0x0⟩
def FLT_CODE : Row := ⟨0x078, 4, 1, 19, 0, .rw, 0x0⟩
def QDROP_COUNT : Row := ⟨0x07C, 4, 1, 31, 16, .rw, 0x0⟩
def UNDERRUN_COUNT : Row := ⟨0x07C, 4, 1, 15, 0, .rw, 0x0⟩
def CUT_COUNT : Row := ⟨0x080, 4, 1, 31, 16, .rw, 0x0⟩
def TRUNC_COUNT : Row := ⟨0x080, 4, 1, 15, 0, .rw, 0x0⟩
def FLIM_COUNT : Row := ⟨0x084, 4, 1, 31, 0, .rw, 0x0⟩
def DROP_COUNT : Row := ⟨0x088, 4, 1, 15, 0, .rw, 0x0⟩
/-- The block-specific rows of the page (R387). -/
def rows : List Row :=
  [FLEVEL, FAST_FS, PLAYS_LEFT, CUR_ENTRY, BIAS_RING, BCLK_DIV, BCLK_PH, LOOP_COMP] ++
  [OPEN_ACT, COMP_ACT, CONT, D_GO, D_RANGE, D_CODE, RANGE, CODE] ++
  [RAMP_LEFT, QLEVEL, RANGE_CHANGED, OPEN, COMPLIANCE, MON_V, MON_I, FAULT_CAUSE] ++
  [NVM_BUSY, NVM_STORE, FAULT_CLR, PU_RANGE, PU_CODE, FLT_RANGE, FLT_CODE, QDROP_COUNT] ++
  [UNDERRUN_COUNT, CUT_COUNT, TRUNC_COUNT, FLIM_COUNT, DROP_COUNT]
end Flux

/-! ### Fn page (R416) -/

namespace Fn
def PM_SIZE : Row := ⟨0x040, 4, 1, 26, 16, .rw, 0x0⟩
def PM_BASE : Row := ⟨0x040, 4, 1, 9, 0, .rw, 0x0⟩
def ST_SIZE : Row := ⟨0x044, 4, 1, 24, 16, .rw, 0x0⟩
def ST_BASE : Row := ⟨0x044, 4, 1, 7, 0, .rw, 0x0⟩
def RING_COUNT : Row := ⟨0x048, 4, 1, 28, 16, .rw, 0x0⟩
def RING_BASE : Row := ⟨0x048, 4, 1, 11, 0, .rw, 0x0⟩
def DRAM_LIMIT : Row := ⟨0x04C, 4, 1, 15, 0, .rw, 0x0⟩
def WA_OFFSET : Row := ⟨0x050, 4, 1, 31, 0, .ro, 0x0⟩
def WA_COUNT : Row := ⟨0x054, 4, 1, 15, 0, .rw, 0x0⟩
def REC_DROP_COUNT : Row := ⟨0x058, 4, 1, 31, 16, .rw, 0x0⟩
def RA_DROP_COUNT : Row := ⟨0x058, 4, 1, 15, 0, .rw, 0x0⟩
def RING_SEL : Row := ⟨0x060, 4, 1, 17, 0, .rw, 0x0⟩
def EN : Row := ⟨0x064, 4, 1, 31, 31, .rw, 0x0⟩
def KEEP : Row := ⟨0x064, 4, 1, 30, 30, .rw, 0x0⟩
def KIND : Row := ⟨0x064, 4, 1, 26, 24, .rw, 0x0⟩
def LOG2 : Row := ⟨0x064, 4, 1, 20, 16, .rw, 0x4⟩
def VECTOR : Row := ⟨0x064, 4, 1, 13, 8, .rw, 0x0⟩
def HADDR_LO : Row := ⟨0x068, 4, 1, 31, 0, .rw, 0x0⟩
def HADDR_HI : Row := ⟨0x06C, 4, 1, 31, 0, .rw, 0x0⟩
def DADDR : Row := ⟨0x070, 4, 1, 29, 0, .rw, 0x0⟩
def WB_LO : Row := ⟨0x074, 4, 1, 31, 0, .rw, 0x0⟩
def WB_HI : Row := ⟨0x078, 4, 1, 31, 0, .rw, 0x0⟩
def AUX : Row := ⟨0x07C, 4, 1, 17, 0, .rw, 0x0⟩
def MOD_TIME : Row := ⟨0x080, 4, 1, 31, 16, .rw, 0x0⟩
def MOD_COUNT : Row := ⟨0x080, 4, 1, 15, 0, .rw, 0x0⟩
def RC_PROD : Row := ⟨0x084, 4, 1, 31, 0, .ro, 0x0⟩
def RC_CONS : Row := ⟨0x088, 4, 1, 31, 0, .ro, 0x0⟩
def RC_DROP : Row := ⟨0x08C, 4, 1, 31, 0, .rw, 0x0⟩
def RC_RETAIN : Row := ⟨0x090, 4, 1, 20, 0, .ro, 0x0⟩
def STOPPING : Row := ⟨0x094, 4, 1, 3, 3, .ro, 0x0⟩
def RETAINED : Row := ⟨0x094, 4, 1, 2, 2, .ro, 0x0⟩
def FULL : Row := ⟨0x094, 4, 1, 1, 1, .ro, 0x0⟩
def ERR : Row := ⟨0x094, 4, 1, 0, 0, .ro, 0x0⟩
/-- The block-specific rows of the page (R416). -/
def rows : List Row :=
  [PM_SIZE, PM_BASE, ST_SIZE, ST_BASE, RING_COUNT, RING_BASE, DRAM_LIMIT, WA_OFFSET] ++
  [WA_COUNT, REC_DROP_COUNT, RA_DROP_COUNT, RING_SEL, EN, KEEP, KIND, LOG2] ++
  [VECTOR, HADDR_LO, HADDR_HI, DADDR, WB_LO, WB_HI, AUX, MOD_TIME] ++
  [ MOD_COUNT, RC_PROD, RC_CONS, RC_DROP, RC_RETAIN, STOPPING, RETAINED, FULL] ++
  [ERR]
end Fn

/-! ### Mc page (R440) -/

namespace Mc
def DATA_RATE : Row := ⟨0x040, 4, 1, 17, 16, .ro, 0x0⟩
def CAP : Row := ⟨0x040, 4, 1, 9, 8, .ro, 0x0⟩
def RANKS : Row := ⟨0x040, 4, 1, 0, 0, .ro, 0x0⟩
def CEILING : Row := ⟨0x044, 4, 1, 11, 0, .ro, 0x0⟩
def SUM_BE : Row := ⟨0x048, 4, 1, 31, 16, .ro, 0x0⟩
def SUM_RES : Row := ⟨0x048, 4, 1, 15, 0, .ro, 0x8⟩
def VAT_SIZE : Row := ⟨0x04C, 4, 1, 31, 16, .rw, 0x0⟩
def VAT_BASE : Row := ⟨0x04C, 4, 1, 15, 0, .rw, 0x0⟩
def RRG_SIZE : Row := ⟨0x050, 4, 1, 31, 16, .rw, 0x0⟩
def RRG_BASE : Row := ⟨0x050, 4, 1, 15, 0, .rw, 0x0⟩
def MP_LIMIT : Row := ⟨0x054, 4, 1, 31, 16, .rw, 0x0⟩
def REFETCH_LIMIT : Row := ⟨0x054, 4, 1, 15, 0, .rw, 0x8⟩
def LT : Row := ⟨0x058, 4, 6, 15, 0, .rw, 0x0⟩
def FROZEN : Row := ⟨0x070, 4, 1, 31, 31, .ro, 0x0⟩
def RETRAIN : Row := ⟨0x070, 4, 1, 1, 1, .rw, 0x0⟩
def MC_UNFREEZE : Row := ⟨0x070, 4, 1, 0, 0, .w1s, 0x0⟩
def FRZ_VALID : Row := ⟨0x074, 4, 1, 31, 31, .w1c, 0x0⟩
def FRZ_MORE : Row := ⟨0x074, 4, 1, 30, 30, .ro, 0x0⟩
def FRZ_PORT : Row := ⟨0x074, 4, 1, 10, 8, .ro, 0x0⟩
def FRZ_CH : Row := ⟨0x074, 4, 1, 5, 4, .ro, 0x0⟩
def FRZ_CAUSE : Row := ⟨0x074, 4, 1, 2, 0, .ro, 0x0⟩
def FRZ_BLK : Row := ⟨0x078, 4, 1, 29, 0, .ro, 0x0⟩
def FRZ_CMD : Row := ⟨0x07C, 4, 1, 31, 28, .ro, 0x0⟩
def FRZ_RANK : Row := ⟨0x07C, 4, 1, 24, 24, .ro, 0x0⟩
def FRZ_BANK : Row := ⟨0x07C, 4, 1, 23, 22, .ro, 0x0⟩
def FRZ_BG : Row := ⟨0x07C, 4, 1, 21, 20, .ro, 0x0⟩
def FRZ_ROW : Row := ⟨0x07C, 4, 1, 16, 0, .ro, 0x0⟩
def FRZ_COL : Row := ⟨0x080, 4, 1, 29, 24, .ro, 0x0⟩
def FRZ_PARAM : Row := ⟨0x080, 4, 1, 7, 0, .ro, 0x0⟩
def FRZ_CRC_CALC : Row := ⟨0x084, 4, 1, 31, 16, .ro, 0x0⟩
def FRZ_CRC_RD : Row := ⟨0x084, 4, 1, 15, 0, .ro, 0x0⟩
def FRZ_TC_LO : Row := ⟨0x088, 4, 1, 31, 0, .ro, 0x0⟩
def FRZ_TC_HI : Row := ⟨0x08C, 4, 1, 31, 0, .ro, 0x0⟩
def FREEZE_COUNT : Row := ⟨0x090, 4, 1, 15, 0, .rw, 0x0⟩
def PANIC_LIVE : Row := ⟨0x094, 4, 1, 5, 0, .ro, 0x0⟩
def NV_DATA_RATE : Row := ⟨0x098, 4, 1, 17, 16, .rw, 0x0⟩
def NV_CAP : Row := ⟨0x098, 4, 1, 9, 8, .rw, 0x0⟩
def NV_RANKS : Row := ⟨0x098, 4, 1, 0, 0, .rw, 0x0⟩
def NV_DEFAULT : Row := ⟨0x09C, 4, 1, 2, 2, .ro, 0x0⟩
def NV_BUSY : Row := ⟨0x09C, 4, 1, 1, 1, .ro, 0x0⟩
def NV_STORE : Row := ⟨0x09C, 4, 1, 0, 0, .w1s, 0x0⟩
/-- The block-specific rows of the page (R440). -/
def rows : List Row :=
  [DATA_RATE, CAP, RANKS, CEILING, SUM_BE, SUM_RES, VAT_SIZE, VAT_BASE] ++
  [RRG_SIZE, RRG_BASE, MP_LIMIT, REFETCH_LIMIT, LT, FROZEN, RETRAIN, MC_UNFREEZE] ++
  [FRZ_VALID, FRZ_MORE, FRZ_PORT, FRZ_CH, FRZ_CAUSE, FRZ_BLK, FRZ_CMD, FRZ_RANK] ++
  [FRZ_BANK, FRZ_BG, FRZ_ROW, FRZ_COL, FRZ_PARAM, FRZ_CRC_CALC, FRZ_CRC_RD, FRZ_TC_LO] ++
  [FRZ_TC_HI, FREEZE_COUNT, PANIC_LIVE, NV_DATA_RATE, NV_CAP, NV_RANKS, NV_DEFAULT, NV_BUSY] ++
  [NV_STORE]
end Mc

/-! ### Dch page (R442) -/

namespace Dch
def RECRC_COUNT : Row := ⟨0x040, 4, 1, 31, 0, .rw, 0x0⟩
def CRC_FAIL_COUNT : Row := ⟨0x044, 4, 1, 15, 0, .rw, 0x0⟩
def MR4_R1 : Row := ⟨0x048, 4, 1, 12, 8, .ro, 0x0⟩
def MR4_R0 : Row := ⟨0x048, 4, 1, 4, 0, .ro, 0x0⟩
def REF_COUNT : Row := ⟨0x04C, 4, 1, 31, 0, .ro, 0x0⟩
def OSC_DQO : Row := ⟨0x050, 4, 1, 31, 16, .ro, 0x0⟩
def OSC_DQI : Row := ⟨0x050, 4, 1, 15, 0, .ro, 0x0⟩
def ADJ_COUNT : Row := ⟨0x054, 4, 1, 15, 0, .rw, 0x0⟩
def SR_STATE : Row := ⟨0x058, 4, 1, 1, 0, .ro, 0x0⟩
def MAX_LAT : Row := ⟨0x05C, 4, 1, 15, 0, .rw, 0x0⟩
def WQ_LEVEL : Row := ⟨0x060, 4, 1, 6, 0, .ro, 0x0⟩
def MERGE_COUNT : Row := ⟨0x064, 4, 1, 15, 0, .rw, 0x0⟩
/-- The block-specific rows of the page (R442). -/
def rows : List Row :=
  [RECRC_COUNT, CRC_FAIL_COUNT, MR4_R1, MR4_R0, REF_COUNT, OSC_DQO, OSC_DQI, ADJ_COUNT] ++
  [SR_STATE, MAX_LAT, WQ_LEVEL, MERGE_COUNT]
end Dch

/-! ### Evg page (R457) -/

namespace Evg
def CH_EN : Row := ⟨0x040, 8, 8, 31, 31, .rw, 0x1⟩
def WAKE : Row := ⟨0x040, 8, 8, 30, 30, .rw, 0x0⟩
def ACT : Row := ⟨0x040, 8, 8, 29, 28, .rw, 0x0⟩
def ACT_GRP : Row := ⟨0x040, 8, 8, 24, 20, .rw, 0x0⟩
def CHAIN_EN : Row := ⟨0x040, 8, 8, 16, 16, .rw, 0x0⟩
def CHAIN_CH : Row := ⟨0x040, 8, 8, 15, 8, .rw, 0x0⟩
def BUSY : Row := ⟨0x040, 8, 8, 0, 0, .ro, 0x0⟩
def LOOP_RUN : Row := ⟨0x044, 8, 8, 20, 16, .ro, 0x0⟩
def MIN_GAP : Row := ⟨0x044, 8, 8, 15, 0, .rw, 0x40⟩
def FIRE : Row := ⟨0x080, 4, 1, 7, 0, .w1s, 0x0⟩
def CO_DIS : Row := ⟨0x084, 4, 1, 9, 9, .w1c, 0x0⟩
def CO_EN : Row := ⟨0x084, 4, 1, 8, 8, .w1c, 0x0⟩
def COINCIDE : Row := ⟨0x084, 4, 1, 7, 0, .w1c, 0x0⟩
def FIRE_COUNT : Row := ⟨0x0A0, 4, 8, 31, 0, .rw, 0x0⟩
def COLLIDE_COUNT : Row := ⟨0x0C0, 4, 8, 31, 16, .rw, 0x0⟩
def MERGE_COUNT : Row := ⟨0x0C0, 4, 8, 15, 0, .rw, 0x0⟩
def GMERGE_COUNT : Row := ⟨0x0E0, 4, 1, 31, 16, .rw, 0x0⟩
def DIS_DROP_COUNT : Row := ⟨0x0E0, 4, 1, 15, 0, .rw, 0x0⟩
def TRUNC_COUNT : Row := ⟨0x0E4, 4, 1, 15, 0, .rw, 0x0⟩
/-- The block-specific rows of the page (R457). -/
def rows : List Row :=
  [CH_EN, WAKE, ACT, ACT_GRP, CHAIN_EN, CHAIN_CH, BUSY, LOOP_RUN] ++
  [MIN_GAP, FIRE, CO_DIS, CO_EN, COINCIDE, FIRE_COUNT, COLLIDE_COUNT, MERGE_COUNT] ++
  [GMERGE_COUNT, DIS_DROP_COUNT, TRUNC_COUNT]
end Evg

/-! ### Intc page (R464) -/

namespace Intc
def RT_SEL : Row := ⟨0x040, 4, 1, 10, 0, .rw, 0x0⟩
def MSIX_EN : Row := ⟨0x044, 4, 1, 31, 31, .rw, 0x0⟩
def VEC : Row := ⟨0x044, 4, 1, 29, 24, .rw, 0x0⟩
def INTN_EN : Row := ⟨0x044, 4, 1, 23, 23, .rw, 0x0⟩
def MP_EN : Row := ⟨0x044, 4, 1, 22, 22, .rw, 0x0⟩
def EV_EN : Row := ⟨0x044, 4, 1, 21, 21, .rw, 0x0⟩
def LIVE : Row := ⟨0x044, 4, 1, 20, 20, .ro, 0x0⟩
def SEC : Row := ⟨0x044, 4, 1, 19, 19, .ro, 0x0⟩
def EV_CH : Row := ⟨0x044, 4, 1, 7, 0, .rw, 0x0⟩
def INTN : Row := ⟨0x048, 4, 1, 0, 0, .ro, 0x0⟩
def INTN_FIRST : Row := ⟨0x04C, 4, 1, 10, 0, .ro, 0x7FF⟩
def MSIX_SUPP_COUNT : Row := ⟨0x050, 4, 1, 31, 0, .rw, 0x0⟩
def SRC_LIVE : Row := ⟨0x100, 4, 42, 31, 0, .ro, 0x0⟩
/-- The block-specific rows of the page (R464). -/
def rows : List Row :=
  [RT_SEL, MSIX_EN, VEC, INTN_EN, MP_EN, EV_EN, LIVE, SEC] ++
  [EV_CH, INTN, INTN_FIRST, MSIX_SUPP_COUNT, SRC_LIVE]
end Intc

/-! ### Eth page (R479) -/

namespace Eth
def TS_POINT : Row := ⟨0x040, 4, 1, 8, 8, .rw, 0x0⟩
def FEC : Row := ⟨0x040, 4, 1, 5, 4, .rw, 0x0⟩
def SPEED : Row := ⟨0x040, 4, 1, 0, 0, .rw, 0x1⟩
def FEC_LOCK : Row := ⟨0x044, 4, 1, 2, 2, .ro, 0x0⟩
def BLOCK_LOCK : Row := ⟨0x044, 4, 1, 1, 1, .ro, 0x0⟩
def LINK : Row := ⟨0x044, 4, 1, 0, 0, .ro, 0x0⟩
def MAC_LO : Row := ⟨0x048, 4, 1, 31, 0, .rw, 0x0⟩
def MAC_HI : Row := ⟨0x04C, 4, 1, 15, 0, .rw, 0x0⟩
def PEER_DELAY : Row := ⟨0x050, 4, 1, 31, 0, .rw, 0x0⟩
def MAC_CORR : Row := ⟨0x054, 4, 1, 15, 0, .ro, 0x0⟩
def TX_GO : Row := ⟨0x060, 4, 1, 31, 31, .w1s, 0x0⟩
def TX_LEN : Row := ⟨0x060, 4, 1, 8, 0, .rw, 0x0⟩
def TX_TS_NS : Row := ⟨0x064, 4, 1, 31, 0, .ro, 0x0⟩
def TX_TS_VALID : Row := ⟨0x068, 4, 1, 31, 31, .w1c, 0x0⟩
def TX_STEPPED : Row := ⟨0x068, 4, 1, 30, 30, .ro, 0x0⟩
def TX_TS_SUB : Row := ⟨0x068, 4, 1, 15, 0, .ro, 0x0⟩
def RX_CONS : Row := ⟨0x070, 4, 1, 15, 8, .rw, 0x0⟩
def RX_PROD : Row := ⟨0x070, 4, 1, 7, 0, .ro, 0x0⟩
def RX_DROP_COUNT : Row := ⟨0x074, 4, 1, 31, 16, .rw, 0x0⟩
def FCS_ERR_COUNT : Row := ⟨0x074, 4, 1, 15, 0, .rw, 0x0⟩
def FWD_DROP_COUNT : Row := ⟨0x078, 4, 1, 15, 0, .rw, 0x0⟩
def TX_BUF : Row := ⟨0x400, 4, 64, 31, 0, .rw, 0x0⟩
def RX_SLOT : Row := ⟨0x800, 4, 512, 31, 0, .ro, 0x0⟩
/-- The block-specific rows of the page (R479). -/
def rows : List Row :=
  [TS_POINT, FEC, SPEED, FEC_LOCK, BLOCK_LOCK, LINK, MAC_LO, MAC_HI] ++
  [PEER_DELAY, MAC_CORR, TX_GO, TX_LEN, TX_TS_NS, TX_TS_VALID, TX_STEPPED, TX_TS_SUB] ++
  [RX_CONS, RX_PROD, RX_DROP_COUNT, FCS_ERR_COUNT, FWD_DROP_COUNT, TX_BUF, RX_SLOT]
end Eth

/-! ### Nclk page (R481) -/

namespace Nclk
def NT_NS : Row := ⟨0x040, 4, 1, 31, 0, .ro, 0x0⟩
def NT_FRAC : Row := ⟨0x044, 4, 1, 31, 0, .ro, 0x0⟩
def NT_INC_FRAC : Row := ⟨0x048, 4, 1, 31, 0, .rw, 0x0⟩
def NT_INC_NS : Row := ⟨0x04C, 4, 1, 3, 0, .rw, 0x4⟩
def NT_STEP_NS : Row := ⟨0x050, 4, 1, 31, 0, .rw, 0x0⟩
def NT_STEP_FRAC : Row := ⟨0x054, 4, 1, 31, 0, .rw, 0x0⟩
def STEP_GO : Row := ⟨0x058, 4, 1, 0, 0, .w1s, 0x0⟩
def NT_JUMP_LIMIT : Row := ⟨0x05C, 4, 1, 30, 0, .rw, 0x3E8⟩
def OC_EN : Row := ⟨0x060, 4, 1, 5, 5, .rw, 0x0⟩
def OC_PORT : Row := ⟨0x060, 4, 1, 4, 4, .rw, 0x0⟩
def TC_MODE : Row := ⟨0x060, 4, 1, 1, 0, .rw, 0x0⟩
def IPV4_ADDR : Row := ⟨0x064, 4, 1, 31, 0, .rw, 0x0⟩
def IPV6_ADDR : Row := ⟨0x068, 4, 4, 31, 0, .rw, 0x0⟩
def RES_MAX : Row := ⟨0x078, 4, 1, 31, 0, .rw, 0x0⟩
def TC_COUNT : Row := ⟨0x07C, 4, 1, 31, 0, .rw, 0x0⟩
def WRAP_COUNT : Row := ⟨0x080, 4, 1, 7, 0, .ro, 0x0⟩
/-- The block-specific rows of the page (R481). -/
def rows : List Row :=
  [NT_NS, NT_FRAC, NT_INC_FRAC, NT_INC_NS, NT_STEP_NS, NT_STEP_FRAC, STEP_GO, NT_JUMP_LIMIT] ++
  [OC_EN, OC_PORT, TC_MODE, IPV4_ADDR, IPV6_ADDR, RES_MAX, TC_COUNT, WRAP_COUNT]
end Nclk

/-! ### Thm page (R502) -/

namespace Thm
def THR_ACTIVE : Row := ⟨0x040, 4, 1, 31, 31, .ro, 0x0⟩
def THR_FORCE : Row := ⟨0x040, 4, 1, 30, 30, .rw, 0x0⟩
def THR_PAUSE : Row := ⟨0x040, 4, 1, 23, 16, .rw, 0x4⟩
def THR_PERIOD : Row := ⟨0x040, 4, 1, 15, 0, .rw, 0x40⟩
def MARGIN : Row := ⟨0x044, 4, 1, 15, 8, .rw, 0x50⟩
def THR_HYST : Row := ⟨0x044, 4, 1, 7, 0, .rw, 0x30⟩
def T_APPLY_LO : Row := ⟨0x048, 4, 1, 31, 0, .ro, 0x0⟩
def T_APPLY_HI : Row := ⟨0x04C, 4, 1, 31, 0, .ro, 0x0⟩
def PAUSE_COUNT : Row := ⟨0x050, 4, 1, 31, 0, .rw, 0x0⟩
def COMP_EN : Row := ⟨0x054, 4, 1, 1, 0, .rw, 0x3⟩
def SH_REC : Row := ⟨0x058, 4, 1, 15, 8, .rw, 0x0⟩
def SH_WORD : Row := ⟨0x058, 4, 1, 3, 0, .rw, 0x0⟩
def SH_DATA : Row := ⟨0x05C, 4, 1, 31, 0, .ro, 0x0⟩
def DIFF_MAX : Row := ⟨0x060, 4, 1, 15, 0, .ro, 0x0⟩
def RATE_HIT : Row := ⟨0x100, 16, 25, 30, 30, .w1c, 0x0⟩
def THR_HIT : Row := ⟨0x100, 16, 25, 29, 29, .w1c, 0x0⟩
def ALM_HIT : Row := ⟨0x100, 16, 25, 28, 28, .w1c, 0x0⟩
def FAULT : Row := ⟨0x100, 16, 25, 19, 19, .ro, 0x0⟩
def OPEN : Row := ⟨0x100, 16, 25, 18, 18, .ro, 0x0⟩
def FAST : Row := ⟨0x100, 16, 25, 17, 17, .ro, 0x0⟩
def VALID : Row := ⟨0x100, 16, 25, 16, 16, .ro, 0x0⟩
def TEMP : Row := ⟨0x100, 16, 25, 15, 0, .ro, 0x0⟩
def THR_LIM : Row := ⟨0x104, 16, 25, 31, 16, .rw, 0x0⟩
def ALM_LIM : Row := ⟨0x104, 16, 25, 15, 0, .rw, 0x0⟩
def SHUT_LIM : Row := ⟨0x108, 16, 25, 31, 16, .rwl, 0x0⟩
def RATE_LIM : Row := ⟨0x108, 16, 25, 15, 0, .rw, 0x0⟩
def RATE_SHUT : Row := ⟨0x10C, 16, 25, 20, 20, .rwl, 0x0⟩
def ACT : Row := ⟨0x10C, 16, 25, 19, 16, .rw, 0xF⟩
def RATE : Row := ⟨0x10C, 16, 25, 15, 0, .ro, 0x0⟩
def IDEALITY : Row := ⟨0x300, 8, 16, 15, 0, .rw, 0x4080⟩
def RES_REF : Row := ⟨0x304, 8, 16, 31, 0, .rw, 0xF4240⟩
/-- The block-specific rows of the page (R502). -/
def rows : List Row :=
  [THR_ACTIVE, THR_FORCE, THR_PAUSE, THR_PERIOD, MARGIN, THR_HYST, T_APPLY_LO, T_APPLY_HI] ++
  [PAUSE_COUNT, COMP_EN, SH_REC, SH_WORD, SH_DATA, DIFF_MAX, RATE_HIT, THR_HIT] ++
  [ALM_HIT, FAULT, OPEN, FAST, VALID, TEMP, THR_LIM, ALM_LIM] ++
  [SHUT_LIM, RATE_LIM, RATE_SHUT, ACT, RATE, IDEALITY, RES_REF]
end Thm

/-! ### Sfe page (R504) -/

namespace Sfe
def AUTO : Row := ⟨0x040, 4, 1, 16, 16, .rw, 0x1⟩
def EXC_MAX : Row := ⟨0x040, 4, 1, 14, 12, .rw, 0x4⟩
def EXC : Row := ⟨0x040, 4, 1, 10, 8, .rw, 0x2⟩
def MODE : Row := ⟨0x040, 4, 1, 1, 0, .rw, 0x0⟩
def COEF_GO : Row := ⟨0x044, 4, 1, 1, 1, .w1s, 0x0⟩
def REQ : Row := ⟨0x044, 4, 1, 0, 0, .w1s, 0x0⟩
def WORD_VALUE : Row := ⟨0x048, 4, 1, 31, 0, .ro, 0x0⟩
def WORD_RAW : Row := ⟨0x04C, 4, 1, 31, 0, .ro, 0x0⟩
def WORD_SEQ : Row := ⟨0x050, 4, 1, 31, 16, .ro, 0x0⟩
def WORD_EXC : Row := ⟨0x050, 4, 1, 10, 8, .ro, 0x0⟩
def WORD_FLAGS : Row := ⟨0x050, 4, 1, 5, 0, .ro, 0x0⟩
def T_FE : Row := ⟨0x054, 4, 1, 15, 0, .ro, 0x0⟩
def OPEN_COUNT : Row := ⟨0x058, 4, 1, 31, 16, .rw, 0x0⟩
def RCHG_COUNT : Row := ⟨0x058, 4, 1, 15, 0, .rw, 0x0⟩
def X_OFF : Row := ⟨0x060, 4, 1, 31, 0, .rw, 0x0⟩
def X_SCALE : Row := ⟨0x064, 4, 1, 31, 0, .rw, 0x3F800000⟩
def GO : Row := ⟨0x068, 4, 4, 31, 0, .rw, 0x0⟩
def A : Row := ⟨0x080, 4, 8, 31, 0, .rw, 0x0⟩
/-- The block-specific rows of the page (R504). -/
def rows : List Row :=
  [AUTO, EXC_MAX, EXC, MODE, COEF_GO, REQ, WORD_VALUE, WORD_RAW] ++
  [WORD_SEQ, WORD_EXC, WORD_FLAGS, T_FE, OPEN_COUNT, RCHG_COUNT, X_OFF, X_SCALE] ++
  [GO, A]
end Sfe

/-! ### Cal page (R520) -/

namespace Cal
def GO : Row := ⟨0x040, 4, 1, 31, 31, .w1s, 0x0⟩
def ABORT : Row := ⟨0x040, 4, 1, 30, 30, .w1s, 0x0⟩
def STORE : Row := ⟨0x040, 4, 1, 29, 29, .w1s, 0x0⟩
def RESTORE : Row := ⟨0x040, 4, 1, 28, 28, .w1s, 0x0⟩
def MODE : Row := ⟨0x040, 4, 1, 25, 24, .rw, 0x0⟩
def FG_SNAP : Row := ⟨0x040, 4, 1, 20, 20, .rw, 0x0⟩
def KIND : Row := ⟨0x040, 4, 1, 18, 16, .rw, 0x0⟩
def IDX : Row := ⟨0x040, 4, 1, 6, 0, .rw, 0x0⟩
def BUSY : Row := ⟨0x044, 4, 1, 31, 31, .ro, 0x0⟩
def VREF_OK : Row := ⟨0x044, 4, 1, 30, 30, .ro, 0x0⟩
def TONE_OK : Row := ⟨0x044, 4, 1, 29, 29, .ro, 0x0⟩
def RESULT : Row := ⟨0x044, 4, 1, 15, 8, .ro, 0x0⟩
def PHASE : Row := ⟨0x044, 4, 1, 2, 0, .ro, 0x0⟩
def VREF_VAL : Row := ⟨0x048, 4, 1, 22, 0, .rw, 0x0⟩
def TONE_FREQ : Row := ⟨0x04C, 4, 1, 29, 0, .rw, 0x0⟩
def RIPEN_INT : Row := ⟨0x050, 4, 1, 15, 0, .rw, 0x1⟩
def DRIFT_LIM : Row := ⟨0x054, 4, 1, 7, 0, .rw, 0x4⟩
def NVM_SEL : Row := ⟨0x058, 4, 1, 0, 0, .rw, 0x0⟩
def CT_PHASE : Row := ⟨0x05C, 4, 1, 31, 0, .ro, 0x0⟩
def CT_LEVEL : Row := ⟨0x060, 4, 1, 15, 0, .ro, 0x0⟩
def ABORT_COUNT : Row := ⟨0x064, 4, 1, 15, 0, .rw, 0x0⟩
def TRIM_KIND : Row := ⟨0x070, 4, 1, 26, 24, .rw, 0x0⟩
def TRIM_IDX : Row := ⟨0x070, 4, 1, 22, 16, .rw, 0x0⟩
def TRIM_NUM : Row := ⟨0x070, 4, 1, 7, 0, .rw, 0x0⟩
def TRIM_TARGET : Row := ⟨0x074, 4, 1, 31, 16, .ro, 0x0⟩
def TRIM_FORCE : Row := ⟨0x074, 4, 1, 15, 0, .ro, 0x0⟩
def HELD : Row := ⟨0x080, 4, 8, 31, 0, .ro, 0x0⟩
def RIPENING : Row := ⟨0x0A0, 4, 8, 31, 0, .ro, 0x0⟩
def BG_ON : Row := ⟨0x0C0, 4, 8, 31, 0, .ro, 0x0⟩
/-- The block-specific rows of the page (R520). -/
def rows : List Row :=
  [GO, ABORT, STORE, RESTORE, MODE, FG_SNAP, KIND, IDX] ++
  [BUSY, VREF_OK, TONE_OK, RESULT, PHASE, VREF_VAL, TONE_FREQ, RIPEN_INT] ++
  [DRIFT_LIM, NVM_SEL, CT_PHASE, CT_LEVEL, ABORT_COUNT, TRIM_KIND, TRIM_IDX, TRIM_NUM] ++
  [TRIM_TARGET, TRIM_FORCE, HELD, RIPENING, BG_ON]
end Cal

/-! ### Pwr page (R542) -/

namespace Pwr
def STATE : Row := ⟨0x040, 4, 1, 3, 0, .ro, 0x2⟩
def REQ_GO : Row := ⟨0x044, 4, 1, 31, 31, .w1s, 0x0⟩
def REQ_STATE : Row := ⟨0x044, 4, 1, 3, 0, .rw, 0x0⟩
def WARM_RESET : Row := ⟨0x048, 4, 1, 0, 0, .w1s, 0x0⟩
def RESET_CAUSE : Row := ⟨0x04C, 4, 1, 5, 0, .w1c, 0x1⟩
def SUPPLY_LIVE : Row := ⟨0x050, 4, 1, 8, 0, .ro, 0x0⟩
def BOOT_STAGE : Row := ⟨0x054, 4, 1, 15, 8, .ro, 0x0⟩
def BOOT_ERR : Row := ⟨0x054, 4, 1, 7, 0, .ro, 0x0⟩
def BOOT_TIME : Row := ⟨0x058, 4, 1, 15, 0, .ro, 0x0⟩
def WAKE_REQ : Row := ⟨0x05C, 4, 1, 0, 0, .w1s, 0x0⟩
def DBG_CODE : Row := ⟨0x060, 4, 1, 31, 0, .wo, 0x0⟩
def DBG_LOCK : Row := ⟨0x064, 4, 1, 31, 31, .w1s, 0x0⟩
def DBG_FAIL_COUNT : Row := ⟨0x064, 4, 1, 11, 8, .ro, 0x0⟩
def DBG_LEVEL : Row := ⟨0x064, 4, 1, 1, 0, .ro, 0x0⟩
def FW_ADDR_LO : Row := ⟨0x068, 4, 1, 31, 0, .rw, 0x0⟩
def FW_ADDR_HI : Row := ⟨0x06C, 4, 1, 31, 0, .rw, 0x0⟩
def FW_LEN : Row := ⟨0x070, 4, 1, 22, 0, .rw, 0x0⟩
def RECOVER : Row := ⟨0x074, 4, 1, 0, 0, .w1s, 0x0⟩
/-- The block-specific rows of the page (R542). -/
def rows : List Row :=
  [STATE, REQ_GO, REQ_STATE, WARM_RESET, RESET_CAUSE, SUPPLY_LIVE, BOOT_STAGE, BOOT_ERR] ++
  [BOOT_TIME, WAKE_REQ, DBG_CODE, DBG_LOCK, DBG_FAIL_COUNT, DBG_LEVEL, FW_ADDR_LO, FW_ADDR_HI] ++
  [FW_LEN, RECOVER]
end Pwr

/-- The header rows that every page has (R52), less the whole-register views of CTL and STAT. -/
def Hdr.rows : List Row :=
  [Hdr.TYPE, Hdr.INST, Hdr.MAJOR, Hdr.MINOR, Hdr.DISABLE_NOW, Hdr.ENABLE, Hdr.IRQ_STAT, Hdr.IRQ_EN] ++
  [Hdr.IRQ_FORCE, Hdr.VALID, Hdr.MORE, Hdr.CODE, Hdr.INFO, Hdr.LOCK, Hdr.SEC, Hdr.FN, Hdr.USED, Hdr.LIMIT]

end Reg

/-- The block-specific rows of a page type. -/
def rowsOf : PageType → List Row
  | .glob => Reg.Glob.rows | .tl => Reg.Tl.rows | .tile => Reg.Tile.rows | .seq => Reg.Seq.rows
  | .tone => Reg.Tone.rows | .rout => Reg.Rout.rows | .lane => Reg.Lane.rows | .dec => Reg.Dec.rows
  | .syn => Reg.Syn.rows | .flux => Reg.Flux.rows | .out => Reg.Out.rows | .adc => Reg.Adc.rows
  | .acq => Reg.Acq.rows | .evg => Reg.Evg.rows | .intc => Reg.Intc.rows | .mc => Reg.Mc.rows
  | .dch => Reg.Dch.rows | .jport => Reg.Jport.rows | .mesh => Reg.Mesh.rows | .eth => Reg.Eth.rows
  | .nclk => Reg.Nclk.rows | .thm => Reg.Thm.rows | .sfe => Reg.Sfe.rows | .cal => Reg.Cal.rows
  | .fn => Reg.Fn.rows | .sec => Reg.Sec.rows | .pwr => Reg.Pwr.rows

/-- The rows, of header or block, that lie in the word at page offset `off`. -/
def rowsAt (t : PageType) (off : Nat) : List Row :=
  (if off < 0x040 then Reg.Hdr.rows else rowsOf t).filter fun r => r.covers off

/-- The instance number that PAGE_ID reports (R51): ADC `a` is converter 48 + `a`. -/
def PageType.inst (t : PageType) (n : Nat) : Nat :=
  match t with
  | .adc => 48 + n
  | _ => n

/-- Reset values that depend on the instance or on the copy, and those that a chapter gives in prose (R12). -/
def resetSpecial (t : PageType) (n off : Nat) : Option Nat :=
  match t with
  | .out => if off = 0x040 then some (0xFFFF + (if n < 32 then 3 else 4) * 2 ^ 16) else none
  | .dec => if 0x400 ≤ off ∧ off < 0x800 then some (2 ^ 8 + (off - 0x400) / 4) else none
  | .fn => if off = 0x020 then some (2 ^ 31 + n) else none
  | .lane => if off = 0x024 then some 0x20 else none
  | .sfe => if off = 0x084 then some 0x3F80_0000 else none
  | .mc =>
    match off with
    | 0x040 => some 0
    | 0x044 => some 0x600
    | 0x058 => some 500
    | 0x05C => some 1000
    | 0x060 => some 2000
    | 0x064 => some 4000
    | 0x068 => some 4000
    | 0x06C => some 8000
    | _ => none
  | .flux =>
    if off = 0x05C ∨ off = 0x074 ∨ off = 0x078 then some (6 * 2 ^ 20) else none
  | .thm =>
    if 0x100 ≤ off ∧ off < 0x290 then
      let die := 16 ≤ (off - 0x100) / 16
      match off % 16 with
      | 4 => some (if die then 0x0780 * 2 ^ 16 + 0x0730 else 0x7FFF * 2 ^ 16 + 0x7FFF)
      | 8 => some (if die then 0x0840 * 2 ^ 16 + 0x0320 else 0x7FFF * 2 ^ 16 + 0x7FFF)
      | 12 => some (if die then 0xF * 2 ^ 16 else 0)
      | _ => none
    else if 0x300 ≤ off ∧ off < 0x380 ∧ off % 8 = 0 then
      some (if (off - 0x300) / 8 < 8 then 0x4080 else 0x0D7A)
    else none
  | _ => none

/-- The word that a register of page `n` of a type holds after reset. -/
def resetOf (t : PageType) (n off : Nat) : Nat :=
  if off = 0x000 then t.code * 2 ^ 16 + t.inst n
  else
    match resetSpecial t n off with
    | some v => v
    | none => ((rowsAt t off).map fun r => r.reset * 2 ^ r.lo).sum

/-- The word that the register at BAR0 address `a` holds after reset; 0 where there is none. -/
def resetWord (a : Nat) : Word :=
  match pageOf a with
  | some (t, n) => BitVec.ofNat 32 (resetOf t n (a % 0x1000))
  | none => 0

end Sys2Proof.Machine
end

