-- ==== Sys2Proof/Machine/Ops.lean ====
section
/-!
DEFINITION. The named operations that every family uses: registers and fields, sticky status and error capture,
ownership, time, the flags of a shot, bytes of the memories, free values.
-/
namespace Sys2Proof.Machine

/-- What a meaning answers. -/
abbrev Out := Host.Outcome State Fault Refusal

/-! ### Registers -/

/-- The word in the register at BAR0 address `a`. -/
def State.reg (s : State) (a : Nat) : Word := SMap.get resetWord s.regs a

/-- Put a word into the register at BAR0 address `a`. -/
def State.setReg (s : State) (a : Nat) (w : Word) : State := { s with regs := SMap.set resetWord s.regs a w }

/-- Copy `i` of a field of the page at `b`. -/
def State.fld (s : State) (b : Nat) (r : Row) (i : Nat := 0) : Nat := r.get (s.reg (b + r.off + r.stride * i))

/-- Put `v`, cut to its width, into copy `i` of a field. -/
def State.setFld (s : State) (b : Nat) (r : Row) (v : Nat) (i : Nat := 0) : State :=
  s.setReg (b + r.off + r.stride * i) (r.set (s.reg (b + r.off + r.stride * i)) v)

/-- A field of one bit, read as a truth value. -/
def State.bit (s : State) (b : Nat) (r : Row) (i : Nat := 0) : Bool := s.fld b r i != 0

/-- Put a truth value into a field of one bit. -/
def State.setBit (s : State) (b : Nat) (r : Row) (v : Bool) (i : Nat := 0) : State := s.setFld b r v.toNat i

/-- Add `k` to a counter that saturates. -/
def State.addSat (s : State) (b : Nat) (r : Row) (k : Nat) (i : Nat := 0) : State :=
  s.setFld b r (min (s.fld b r i + k) (2 ^ r.width - 1)) i

/-- Count one in a counter that saturates. -/
def State.inc (s : State) (b : Nat) (r : Row) (i : Nat := 0) : State := s.addSat b r 1 i

/-- A 64-bit value held in a low and a high register. -/
def State.fld64 (s : State) (b : Nat) (lo hi : Row) (i : Nat := 0) : Nat := s.fld b lo i + s.fld b hi i * 2 ^ lo.width

/-- Put a value into a low and a high register. -/
def State.setFld64 (s : State) (b : Nat) (lo hi : Row) (v : Nat) (i : Nat := 0) : State :=
  (s.setFld b lo v i).setFld b hi (v / 2 ^ lo.width) i

/-- A field of `w` bits read as a two's complement number. -/
def signed (w v : Nat) : Int := if v < 2 ^ (w - 1) then (v : Int) else (v : Int) - 2 ^ w

/-- A number as a two's complement field of `w` bits. -/
def unsigned (w : Nat) (v : Int) : Nat := (v % 2 ^ w).toNat

/-- A number cut to the range `lo` to `hi`. -/
def clamp (lo hi v : Int) : Int := max lo (min hi v)

/-- The field of one bit at bit `i` of a header register. -/
def bitRow (off i : Nat) (acc : Acc := .ro) : Row := ⟨off, 4, 1, i, i, acc, 0⟩

/-- CTL bit `i` of the page at `b`. -/
def State.ctl (s : State) (b i : Nat) : Bool := s.bit b (bitRow 0x008 i)

/-- Set STAT bit `i` of the page at `b`. -/
def State.setStat (s : State) (b i : Nat) (v : Bool) : State := s.setBit b (bitRow 0x00C i) v

/-- STAT bit `i` of the page at `b`, where it is stored. -/
def State.stat (s : State) (b i : Nat) : Bool := s.bit b (bitRow 0x00C i)

/-- CTL.ENABLE of the page at `b`. -/
def State.enabled (s : State) (b : Nat) : Bool := s.bit b Reg.Hdr.ENABLE

/-- Set CTL.ENABLE of the page at `b`. -/
def State.setEnable (s : State) (b : Nat) (v : Bool) : State := s.setBit b Reg.Hdr.ENABLE v

/-! ### Status bits and errors -/

/-- The bits of IRQ_STAT that are enabled in IRQ_EN. -/
def State.irqLive (s : State) (b : Nat) : Word := s.reg (b + 0x010) &&& s.reg (b + 0x014)

/-- Note a change of IRQ_STAT AND IRQ_EN from `old`, when bits of it have become set (R52, R458). -/
def State.edge (s : State) (b : Nat) (old : Word) : State :=
  if s.irqLive b &&& ~~~ old = 0 then s else { s with edges := s.edges ++ [(b, old, s.irqLive b)] }

/-- Set bits of IRQ_STAT as hardware does (R52). -/
def State.raiseBits (s : State) (b : Nat) (bits : Word) : State :=
  (s.setReg (b + 0x010) (s.reg (b + 0x010) ||| bits)).edge b (s.irqLive b)

/-- Set bit `i` of IRQ_STAT. -/
def State.raise (s : State) (b i : Nat) : State := s.raiseBits b (BitVec.ofNat 32 (2 ^ i))

/-- The word of a capture in ERR_CAP (R52). -/
def errWord (more : Bool) (code info : Nat) : Word :=
  BitVec.ofNat 32 (2 ^ 31 + more.toNat * 2 ^ 30 + (code % 2 ^ 6) * 2 ^ 24 + info % 2 ^ 24)

/-- Capture an error in ERR_CAP: the first one is held, a later one sets MORE; of the errors of one command, which share a
cycle, the lowest CODE is captured (R54). -/
def State.err (s : State) (b code info : Nat) : State :=
  if !s.bit b Reg.Hdr.VALID then
    { s with errNow := b :: s.errNow, regs := SMap.set resetWord s.regs (b + 0x01C) (errWord false code info) }
  else if s.errNow.contains b && decide (code < s.fld b Reg.Hdr.CODE) then s.setReg (b + 0x01C) (errWord true code info)
  else s.setBit b Reg.Hdr.MORE true

/-- A core-clock cycle ends: the captures made in it can no longer be replaced (R54). -/
def State.newCycle (s : State) : State := { s with errNow := [] }

/-! ### Ownership -/

/-- OWNER.FN of the page at `b`. -/
def State.owner (s : State) (b : Nat) : Nat := s.fld b Reg.Hdr.FN

/-- The requester number that ERR_CAP records (R54). -/
def reqNum : Req → Nat
  | .fn f => f.val
  | .mgmt => 0x80
  | .dbgUser => 0
  | .dbgSecure => 0x80

/-- The request is a secure-world request (R55). -/
def reqSecure : Req → Bool
  | .fn _ => false
  | .mgmt => true
  | .dbgUser => false
  | .dbgSecure => true

/-- The requester acts with the rights of management firmware (R55, R537). -/
def reqMgmt : Req → Bool
  | .mgmt => true
  | .dbgSecure => true
  | _ => false

/-- The requester is function 0. -/
def reqFn0 (r : Req) : Bool := !reqMgmt r && reqNum r == 0

/-! ### Time -/

/-- The first step of the present count (R65). -/
def State.step0 (s : State) : Nat := 2 * s.count

/-- The step of half `h` of the present count. -/
def State.stepOf (s : State) (h : Nat) : Nat := 2 * s.count + h

/-- The step from which an effect written in the present count acts: the first step of the next count (assumption
log 4). -/
def State.nextStep (s : State) : Nat := 2 * s.count + 2

/-- The earliest step that a sequencer may still have to look back to: the dispatch of a wait (R144), or the present. -/
def State.waitLow (s : State) : Nat := (s.seqs.filterMap fun e => e.2.restart.map Prod.fst).foldl min s.step0

/-- Drop the versions that no step from `lo` on sees, newest first. -/
def trimLog {α : Type} (lo : Nat) : List (Nat × α) → List (Nat × α)
  | [] => []
  | e :: es => if e.1 ≤ lo then [e] else e :: trimLog lo es

/-- A new version is visible from step `vis`; `lo` is the earliest step that is still looked at, `old` the version before. -/
def pushVersion {α : Type} (lo vis : Nat) (old new : α) (log : List (Nat × α)) : List (Nat × α) :=
  trimLog lo ((vis, new) :: if log.isEmpty then [(0, old)] else log)

/-- The version that step `k` sees, `now` being the newest. -/
def versionAt {α : Type} (now : α) (log : List (Nat × α)) (k : Nat) : α :=
  ((log.find? fun e => decide (e.1 ≤ k)).map Prod.snd).getD now

/-- The versions visible in the steps from `p` to `q`, oldest first, each with the first step in which it is. -/
def versionsIn {α : Type} (now : α) (log : List (Nat × α)) (p q : Nat) : List (Nat × α) :=
  (log.find? fun e => decide (e.1 ≤ p)).getD (0, now) :: (log.filter fun e => decide (p < e.1 ∧ e.1 ≤ q)).reverse

/-- The value of a field in step `x`, given its last change and its present value. -/
def Held.at (w : Held) (now x : Nat) : Nat := if x < w.step then w.old else now

/-- A command sets the field at step `k`: what is held, and the field's new value. Before a write that acts later, it
changes only what stands until then. -/
def Held.byCmd (w : Held) (now k v : Nat) : Held × Nat :=
  if k < w.step then ({ w with old := v }, now) else (⟨k, if k = w.step then w.old else now, true⟩, v)

/-- A register write sets the field from step `k`. A command for the same step stands (R165, R252). -/
def Held.byWrite (w : Held) (now k v : Nat) : Held × Nat :=
  if k < w.step then ({ w with old := v }, now)
  else if k = w.step then (if w.cmd then (w, now) else (w, v))
  else (⟨k, now, false⟩, v)

/-- A command scheduled for step `k` is due once the present count or the next one holds that step (assumption log 4). -/
def State.due (s : State) (k : Nat) : Bool := k < 2 * (s.count + 2)

/-- TL_STATE.RUN. -/
def State.run (s : State) : Bool := s.bit Base.tl Reg.Tl.RUN

/-- The device states of R521, as STATE codes them. -/
inductive Dev where
  | off | reset | starter | configured | ready | running | cellar | shutdown
deriving DecidableEq, Repr

/-- The code of a device state. -/
def Dev.code : Dev → Nat
  | .off => 0 | .reset => 1 | .starter => 2 | .configured => 3 | .ready => 4 | .running => 5 | .cellar => 6 | .shutdown => 7

/-- The device is in a state (R521). -/
def State.inDev (s : State) (d : Dev) : Bool := s.fld Base.pwr Reg.Pwr.STATE == d.code

/-- The device is in Running. -/
def State.running (s : State) : Bool := s.inDev .running

/-! ### Shots -/

namespace Flag
/-! The flag bits of R122. -/
def SPOILED : Nat := 0
def LATE : Nat := 1
def UNDERRUN : Nat := 2
def GUARD_MUTE : Nat := 3
def TILE_SKEW : Nat := 4
def THROTTLED : Nat := 5
def NO_DECISION : Nat := 6
def DEC_TIMEOUT : Nat := 7
def STALE : Nat := 8
def TENANT_RESET : Nat := 9
def TRUNCATED : Nat := 10
def LATE_JUMP : Nat := 11
def LEAKAGE : Nat := 12
def CMD_FAULT : Nat := 13
def ABORTED : Nat := 14
def HANDOVER : Nat := 15
/-- The flags that set SPOILED as well. -/
def spoils (i : Nat) : Bool := !(i == TILE_SKEW || i == THROTTLED || i == LEAKAGE || i == HANDOVER)
end Flag

/-- Set a flag of a shot, and SPOILED with it where R122 says so. -/
def Shot.flag (x : Shot) (i : Nat) : Shot :=
  let f := x.flags ||| BitVec.ofNat 16 (2 ^ i)
  { x with flags := if Flag.spoils i then f ||| 1 else f }

/-- Change every unwritten shot of sequencer `n` that has number `num`. -/
def State.modShot (s : State) (n num : Nat) (f : Shot → Shot) : State :=
  s.modSeq n fun q => { q with shots := q.shots.map fun x => if x.num = num then f x else x }

/-- Charge a flag to the shot of a tag (R121). -/
def State.charge (s : State) (t : Tag) (i : Nat) : State :=
  match t with
  | none => s
  | some (n, num) => s.modShot n num fun x => x.flag i

/-- A command of the tag's shot executes in step `k` through tile `t`: it counts from the shot's start on (R121). -/
def State.useTile (s : State) (tag : Tag) (t k : Nat) : State :=
  match tag with
  | none => s
  | some (n, num) =>
    s.modShot n num fun x => if k < x.start then x else { x with tiles := x.tiles ||| BitVec.ofNat 8 (2 ^ t) }

/-- A shot is in flight: it has started, and its boundary has not come. -/
def Shot.inFlight (x : Shot) (k : Nat) : Bool := x.boundary.all fun b => decide (k < b)

/-- The condition bit of tile `t` is set in step `k`: a shot that has started notes the first such step (R42). -/
def Shot.sees (x : Shot) (t k : Nat) : Shot :=
  if k < x.start ∨ x.skew.any fun e => e.1 == t then x else { x with skew := x.skew ++ [(t, k)] }

/-- A shot sees the condition bit of tile `t` while it is set in the present count, from its start on. -/
def Shot.seesNow (x : Shot) (t count : Nat) : Shot := x.sees t (max (2 * count) (min x.start (2 * count + 1)))

/-- The condition bit of tile `t` is set in the present count: every shot sees it (R42). -/
def State.shotsSkew (s : State) (t : Nat) : State :=
  (s.seqs.map Prod.fst).foldl (fun s n =>
    s.modSeq n fun q => { q with shots := q.shots.map fun x => x.seesNow t s.count }) s

/-! ### Targets of calibration -/

/-- The key of a calibration target (R507). -/
def calKey (kind idx : Nat) : Nat := kind * 128 + idx

/-- A target is held by the foreground calibration (R510, R511). -/
def State.calHolds (s : State) (kind idx : Nat) : Bool :=
  match s.cal.job with
  | some j => j.kind == kind && j.idx == idx && j.start.isSome
  | none => false

/-- A cause of R512 acts on a target: noted for CAL_ABANDON, where the target is being calibrated. -/
def State.calHit (s : State) (kind idx : Nat) : State :=
  let job := match s.cal.job with
    | some j => j.kind == kind && j.idx == idx
    | none => false
  if (job || s.cal.bg.contains (calKey kind idx)) && !s.cal.hits.contains (calKey kind idx) then
    { s with cal := { s.cal with hits := s.cal.hits ++ [calKey kind idx] } }
  else s

/-- A command of the tag's shot executes at a held target: the shot carries STALE (R511). -/
def State.chargeHeld (s : State) (tag : Tag) (kind idx : Nat) : State :=
  if s.calHolds kind idx then s.charge tag Flag.STALE else s

/-! ### Where blocks stand -/

/-- The output channel of a tone engine (R5). -/
def toneOut (n : Nat) : Nat := if n < 256 then n / 8 else 32 + (n - 256) / 16

/-- The tile of an output channel (R18). -/
def outTile (k : Nat) : Nat := if k < 32 then k / 8 else 4 + (k - 32) / 8

/-- The tone engines of an output channel (R5). -/
def outTones (k : Nat) : List Nat :=
  if k < 32 then (List.range 8).map fun i => 8 * k + i else (List.range 16).map fun i => 256 + 16 * (k - 32) + i

/-- The words of the Pauli frame as they stand. -/
def State.frameWords (s : State) : List Word := (List.range 16).map fun w => s.reg (Base.syn + 0x080 + 4 * w)

/-- Word `w` of the Pauli frame as step `k` sees it (R303). -/
def State.frameWord (s : State) (w k : Nat) : Word := (versionAt s.frameWords s.syn.frames k).getD w 0

/-- The Pauli frame of qubit `q` as step `k` sees it (R166, R303, R305). -/
def State.frameOf (s : State) (q k : Nat) : Nat := (s.frameWord (q / 16) k).toNat / 2 ^ (2 * (q % 16)) % 4

/-- A change of the Pauli frame, visible from step `vis` (R303, R306). -/
def State.changeFrame (s : State) (vis : Nat) (f : State → State) : State :=
  let t := f s
  let log := pushVersion s.step0 vis s.frameWords t.frameWords s.syn.frames
  { t with syn := { t.syn with frames := log } }

/-! ### Memories of bytes -/

/-- What a byte that nothing has written reads as (assumption log 6). -/
def byte0 : Nat → Byte := fun _ => 0

/-- One byte of a memory. -/
def rdByte (m : List Host.Cell) (a : Nat) : Byte := SMap.get byte0 m a

/-- Write one byte of a memory. -/
def wrByte (m : List Host.Cell) (a : Nat) (v : Byte) : List Host.Cell := SMap.set byte0 m a v

/-- `k` bytes from address `a` as one number, the lowest address least significant (R8). -/
def rdLE (m : List Host.Cell) (a : Nat) : Nat → Nat
  | 0 => 0
  | k + 1 => (rdByte m a).toNat + 256 * rdLE m (a + 1) k

/-- Write the `k` bytes of a number, the least significant at the lowest address (R8). -/
def wrLE (m : List Host.Cell) (a : Nat) : Nat → Nat → List Host.Cell
  | 0, _ => m
  | k + 1, v => wrLE (wrByte m a (BitVec.ofNat 8 v)) (a + 1) k (v / 256)

/-- Write a list of bytes from address `a` up. -/
def wrBytes (m : List Host.Cell) (a : Nat) : List Byte → List Host.Cell
  | [] => m
  | v :: vs => wrBytes (wrByte m a v) (a + 1) vs

/-- `k` bytes from address `a` up. -/
def rdBytes (m : List Host.Cell) (a k : Nat) : List Byte := (List.range k).map fun i => rdByte m (a + i)

/-- The bytes of a number, least significant first. -/
def bytesLE (v : Nat) : Nat → List Byte
  | 0 => []
  | k + 1 => BitVec.ofNat 8 v :: bytesLE (v / 256) k

/-- The number that a list of bytes spells, least significant first. -/
def ofBytesLE : List Byte → Nat
  | [] => 0
  | v :: vs => v.toNat + 256 * ofBytesLE vs

/-- The canonical form of a memory: addresses strictly rising, no entry equal to what an unlisted address reads as. -/
def Memory.wf (m : List Host.Cell) : Bool := SMap.wf byte0 m

/-- Apply a change `k` times, with the index. -/
def forN {σ : Type} : Nat → (Nat → σ → σ) → σ → σ
  | 0, _, s => s
  | k + 1, f, s => f k (forN k f s)

/-! ### Free values -/

/-- The next free value of `w` bits (assumption log 3). -/
def State.freeVal (s : State) (w : Nat) : BitVec w := Config.freeValue w s.free

/-- One free value has been taken. -/
def State.tookFree (s : State) : State := { s with free := s.free + 1 }

/-- The network time in units of 2^−32 ns. -/
def State.ntNow (s : State) : Nat := s.fld Base.nclk Reg.Nclk.NT_NS * 2 ^ 32 + s.fld Base.nclk Reg.Nclk.NT_FRAC

/-- A value that a reading command returns. -/
def State.respond (s : State) (v : Nat) : State := { s with respVal := BitVec.ofNat 64 v }

end Sys2Proof.Machine
end

