-- ==== Sys2Proof/Machine/Irq.lean ====
section
/-!
DEFINITION. Chapter 16: interrupt sources and their routing, MSI-X messages, publishing on event channels, and the
settling of the interrupt edges of one command.
-/
namespace Sys2Proof.Machine

/-! ### Event channels -/

/-- The group page of event channel `k`. -/
def evgPage (k : Nat) : Nat := Base.evg (k / 8)

/-- The channel is off (R444). -/
def State.evOff (s : State) (k : Nat) : Bool :=
  !s.enabled (evgPage k) || !s.bit (evgPage k) Reg.Evg.CH_EN (k % 8)

/-- A new arbitration window opens (R447). -/
def State.newWindow (s : State) : State := { s with window := s.window + 1 }

/-- LOOP_RUN after a firing now (R453). -/
def State.loopRun (s : State) (k : Nat) : Nat :=
  match (s.evch k).last with
  | none => 0
  | some t =>
    if s.ticks - t < s.fld (evgPage k) Reg.Evg.MIN_GAP (k % 8) then
      min 16 (s.fld (evgPage k) Reg.Evg.LOOP_RUN (k % 8) + 1)
    else 0

/-- An idle channel fires: FIRE_COUNT, LOOP_RUN, and the group page's FIRED or OVERRUN (R446, R450, R453). `occ` is the step of
the timed command that publishes; sequencers see its firing from the step after it, another one from the next count
(R558; assumption log 4). -/
def State.fire (s : State) (k : Nat) (imported : Bool) (occ : Option Nat) : State :=
  let b := evgPage k
  let i := k % 8
  let fired := (s.reg (b + 0x010)).getLsbD i
  let s := s.setFld b Reg.Evg.LOOP_RUN (s.loopRun k) i
  let s := s.inc b Reg.Evg.FIRE_COUNT i
  let s := s.modEvch k fun e =>
    { e with
      busy := true, window := s.window, imported := imported, fires := e.fires + 1, last := some s.ticks
      log := (e.fires + 1, occ.getD s.step0, (occ.map Nat.succ).getD s.nextStep) ::
        e.log.filter fun x => decide (s.waitLow ≤ x.2.2) }
  let s := s.setFld b Reg.Evg.BUSY 1 i
  let s := if fired then s.raise b (8 + i) else s
  s.raise b i

/-- A publish reaches channel `k`: it fires, merges or is dropped (R446, R447). -/
def State.publish (s : State) (k : Nat) (imported : Bool := false) (occ : Option Nat := none) : State :=
  let b := evgPage k
  let i := k % 8
  if s.evOff k then s.inc b Reg.Evg.DIS_DROP_COUNT
  else if (s.evch k).busy then
    if (s.evch k).window = s.window then
      (s.setFld b Reg.Evg.COINCIDE (s.fld b Reg.Evg.COINCIDE ||| 2 ^ i)).inc b Reg.Evg.MERGE_COUNT i
    else (s.inc b Reg.Evg.COLLIDE_COUNT i).raise b (16 + i)
  else s.fire k imported occ

/-- The immediate disable of a group (R454). -/
def State.evgKill (s : State) (g : Nat) : State :=
  let b := Base.evg g
  let cut := (List.range 8).flatMap fun i => (s.evch (8 * g + i)).queue
  let s := forN 8 (fun i s =>
    if (s.evch (8 * g + i)).queue.isEmpty then s else s.modEvch (8 * g + i) fun e => { e with queue := [] }) s
  let s := (s.addSat b Reg.Evg.TRUNC_COUNT cut.length).setEnable b false
  cut.foldl (fun s x => s.charge x.tag Flag.TRUNCATED) s

/-- Two pages have the same owner and the same security attribute (R451, R460). -/
def State.sameOwner (s : State) (a b : Nat) : Bool :=
  s.owner a == s.owner b && s.fld a Reg.Hdr.SEC == s.fld b Reg.Hdr.SEC

/-! ### Interrupt sources -/

/-- The word with the bits `lo` to `hi`. -/
def bitsMask (hi lo : Nat) : Word := BitVec.ofNat 32 ((2 ^ (hi + 1 - lo) - 1) * 2 ^ lo)

/-- The bits of a flux page that the DC part sets (R386, R462; assumption log 9). -/
def fluxDcBits : Word := bitsMask 14 7 ||| 0x2#32

/-- The pages that raise source `n`, with the bits of IRQ_STAT that do so (R91, R458, R459, R501, R541). -/
def srcPages (n : Nat) : List (Nat × Word) :=
  let all : Word := 0xFFFF_FFFF#32
  if n < 256 then [(Base.seq n, all)]
  else if n < 768 then [(Base.tone (n - 256), all)]
  else if n < 1024 then [(Base.rout (n - 768), all)]
  else if n < 1120 then [(Base.flux (n - 1024), all), (Base.tile (6 + (n - 1024) / 48), all)]
  else if n < 1184 then
    let k := n - 1120
    let t := if k < 32 then k / 8 else if k < 48 then 4 + (k - 32) / 8 else 4 + (k - 48) / 8
    [(Base.out k, all), (Base.tile t, all)]
  else if n < 1216 then [(Base.acq (n - 1184), all)]
  else if n < 1232 then [(Base.sfe (n - 1216), all)]
  else if n < 1248 then [(Base.thm, BitVec.ofNat 32 (2 ^ (n - 1232)))]
  else if n < 1256 then
    if n % 2 = 0 then [(Base.dch ((n - 1248) / 2), all)]
    else [(Base.mc, 3)] ++ (if n = 1249 then [(Base.mc, all &&& ~~~ 3)] else [])
  else if n < 1264 then [(Base.jport (n - 1256), all)]
  else if n < 1266 then [(Base.eth (n - 1264), all)]
  else if n = 1266 then [(Base.nclk, all)]
  else if n = 1267 then []
  else if n < 1276 then [(Base.cal, BitVec.ofNat 32 (2 ^ (n - 1268)))]
  else if n < 1308 then [(Base.evg (n - 1276), all)]
  else if n < 1324 then (List.range 4).map fun i => (Base.fn (4 * (n - 1308) + i), all)
  else if n < 1332 then [(Base.sec, bitsMask (4 * (n - 1324) + 3) (4 * (n - 1324)))]
  else if n = 1332 then [(Base.tl, all)]
  else if n < 1342 then
    [(Base.thm, BitVec.ofNat 32 (2 ^ (16 + (n - 1333)))), (Base.pwr, BitVec.ofNat 32 (2 ^ (n - 1333)))] ++
      (if n = 1333 then [(Base.thm, bitsMask 28 25)] else [])
  else if n = 1342 then [(Base.pwr, bitsMask 12 9)]
  else if n = 1343 then [(Base.glob, all), (Base.intc, all)]
  else []

/-- The bits of a page that assert source `n` in the present state: FROZEN and UNFROZEN go to the source of the channel
in FRZ_CH (R459); in Cellar only the always-on ones count (R462). -/
def State.srcMask (s : State) (n : Nat) (pg : Nat × Word) : Word :=
  let m := if pg.1 = Base.mc ∧ pg.2 = 3 ∧ (n - 1249) / 2 ≠ s.fld Base.mc Reg.Mc.FRZ_CH then 0 else pg.2
  if !s.inDev .cellar then m
  else if 1024 ≤ n ∧ n < 1120 then (if pg.1 = Base.flux (n - 1024) then m &&& fluxDcBits else 0)
  else if (1216 ≤ n ∧ n < 1248) ∨ (1276 ≤ n ∧ n < 1308) then m
  else if 1333 ≤ n ∧ n < 1342 then (if pg.1 = Base.thm then m else 0)
  else 0

/-- Source `n` is asserted (R458). -/
def State.srcLive (s : State) (n : Nat) : Bool :=
  (srcPages n).any fun pg => s.irqLive pg.1 &&& s.srcMask n pg != 0

/-- The numbers of the sources that a page raises (R459). -/
def pageSources (b : Nat) : List Nat :=
  match pageOf b with
  | some (.seq, n) => [n]
  | some (.tone, n) => [256 + n]
  | some (.rout, n) => [768 + n]
  | some (.flux, n) => [1024 + n]
  | some (.out, k) => [1120 + k]
  | some (.adc, a) => [1168 + a]
  | some (.tile, t) =>
    if t < 4 then (List.range 8).map fun i => 1120 + 8 * t + i
    else if t < 6 then
      ((List.range 8).map fun i => 1152 + 8 * (t - 4) + i) ++ (List.range 8).map fun i => 1168 + 8 * (t - 4) + i
    else (List.range 48).map fun i => 1024 + 48 * (t - 6) + i
  | some (.acq, n) => [1184 + n]
  | some (.sfe, k) => [1216 + k]
  | some (.thm, _) => ((List.range 16).map fun i => 1232 + i) ++ (List.range 9).map fun i => 1333 + i
  | some (.dch, n) => [1248 + 2 * n]
  | some (.mc, _) => [1249, 1251, 1253, 1255]
  | some (.jport, n) => [1256 + n]
  | some (.eth, p) => [1264 + p]
  | some (.nclk, _) => [1266]
  | some (.cal, _) => (List.range 8).map fun i => 1268 + i
  | some (.evg, g) => [1276 + g]
  | some (.fn, f) => [1308 + f / 4]
  | some (.sec, _) => (List.range 8).map fun i => 1324 + i
  | some (.tl, _) => [1332]
  | some (.pwr, _) => ((List.range 9).map fun i => 1333 + i) ++ [1342]
  | some (.glob, _) => [1343]
  | some (.intc, _) => [1343]
  | _ => []

/-- The route entry of source `n` after reset (R463). -/
def routeReset (n : Nat) : Word := if 1324 ≤ n then 0x0040_0000 else 0

/-- The route entry of source `n`. -/
def State.route (s : State) (n : Nat) : Word := SMap.get routeReset s.routes n

/-- Fields of a route entry (R464), as fields of the register RT_DATA. -/
def routeFld (w : Word) (r : Row) : Nat := r.get w

/-! ### MSI-X -/

/-- The message of vector `v` of function `f` is held back (R461). -/
def State.msixHeld (s : State) (f v : Nat) : Bool :=
  !(s.fnSt f).msixOn || (s.fnSt f).msixMask || (s.msixEntry (64 * f + v)).masked || (s.fnSt f).flr.isSome

/-- Write a message into host memory: the data word at the message address (R461). -/
def State.msixWrite (s : State) (f v : Nat) : State :=
  let e := s.msixEntry (64 * f + v)
  let s := { s with host := wrLE s.host (f * 2 ^ 64 + e.addr.toNat) 4 e.data.toNat }
  s.modMsix (64 * f + v) fun e => { e with window := some (s.ticks + 16) }

/-- Set the pending bit of a vector. -/
def State.setPba (s : State) (f v : Nat) (on : Bool) : State :=
  s.modFn f fun x =>
    { x with pba := if on then x.pba ||| BitVec.ofNat 64 (2 ^ v) else x.pba &&& ~~~ BitVec.ofNat 64 (2 ^ v) }

/-- A source routed to vector `v` of function `f` asserts, or a ring signals it: a message is sent, held, or joined to
the one at the end of the running window (R461). -/
def State.msixSignal (s : State) (f v : Nat) : State :=
  if s.msixHeld f v then s.setPba f v true
  else
    match (s.msixEntry (64 * f + v)).window with
    | some t =>
      if s.ticks < t then s.modMsix (64 * f + v) fun e => { e with again := true }
      else s.msixWrite f v
    | none => s.msixWrite f v

/-! ### Delivery of a source -/

/-- Source `n` becomes asserted by the page at `b`: its route delivers it (R460). INT_N and the management processor
follow the level of the source and need no action here. -/
def State.deliver (s : State) (n b : Nat) : State :=
  let w := s.route n
  let s :=
    if routeFld w Reg.Intc.MSIX_EN = 1 then
      if s.owner b < 64 then s.msixSignal (s.owner b) (routeFld w Reg.Intc.VEC)
      else s.inc Base.intc Reg.Intc.MSIX_SUPP_COUNT
    else s
  if routeFld w Reg.Intc.EV_EN = 1 then s.publish (routeFld w Reg.Intc.EV_CH) else s

/-- The IRQ_EVCH register of a page without a source, if it has one: enable and channel (R280). -/
def State.irqEvch (s : State) (b : Nat) : Option Nat :=
  match pageOf b with
  | some (.lane, _) => if s.bit b Reg.Lane.EN then some (s.fld b Reg.Lane.CH) else none
  | some (.dec, _) => if s.bit b Reg.Dec.EN then some (s.fld b Reg.Dec.CH) else none
  | some (.syn, _) => if s.bit b Reg.Syn.EN then some (s.fld b Reg.Syn.CH) else none
  | some (.mesh, _) => if s.bit b Reg.Mesh.EN then some (s.fld b Reg.Mesh.CH) else none
  | _ => none

/-- Another page than `b` asserts source `n`. -/
def State.srcElse (s : State) (n b : Nat) : Bool :=
  (srcPages n).any fun pg => pg.1 != b && (s.irqLive pg.1 &&& s.srcMask n pg != 0)

/-- The change at the page newly asserts source `n` (R458). -/
def State.asserts (s : State) (n b : Nat) (old new : Word) : Bool :=
  ((srcPages n).any fun pg => pg.1 == b && new &&& s.srcMask n pg != 0) &&
  !((srcPages n).any fun pg => pg.1 == b && old &&& s.srcMask n pg != 0) && !s.srcElse n b

/-- Carry one change of IRQ_STAT AND IRQ_EN to its targets: the routes of the sources that become asserted, vector 0 of
a function for its own page (R393), and IRQ_EVCH of a page without a source, but not in Cellar (R280, R455). -/
def State.carry (s : State) (e : Nat × Word × Word) : State :=
  let b := e.1
  let s := (pageSources b).foldl (fun s n => if s.asserts n b e.2.1 e.2.2 then s.deliver n b else s) s
  let s :=
    match pageOf b with
    | some (.fn, f) => if e.2.1 = 0 then s.msixSignal f 0 else s
    | _ => s
  if e.2.1 = 0 then
    match s.irqEvch b with
    | some k => if s.owner b = s.owner (evgPage k) && !s.inDev .cellar then s.publish k else s
    | none => s
  else s

/-- Carry the interrupt edges of a command to their targets, and those that this causes, in order. -/
def settleLoop : Nat → State → State
  | 0, s => { s with edges := [] }
  | k + 1, s =>
    match s.edges with
    | [] => s
    | e :: es => settleLoop k (({ s with edges := es } : State).carry e)

/-- The end of a command: its interrupt edges are carried to their targets; each command that has edges opens a window of its own. Further
edges only come from status bits of the 32 event groups that become set, 24 in a group, so the bound is never reached. -/
def State.settle (s : State) : State :=
  let s := s.newCycle
  match s.edges with
  | [] => s
  | _ :: _ => settleLoop (s.edges.length + 1024) s.newWindow

/-- How every meaning ends: the next state, its interrupt edges settled. -/
def finish (s : State) : Out := .next s.settle

end Sys2Proof.Machine
end

