-- ==== Sys2Proof/Machine/Dram.lean ====
section
/-!
DEFINITION. Budgets (R26 to R32) and the DRAM controller's request side: regions, ports, charges, requests, freezes
(chapter 15). What a request carries moves in the step that makes it; the request then stands in its channel's queue,
where the command and completion steps take it up (assumption log 10).
-/
namespace Sys2Proof.Machine

/-! ### Budgets -/

/-- Units used of the budget held at a register address, in the present frame (R26). -/
def State.usedOf (s : State) (k : Nat) : Nat := SMap.get (fun _ => 0) s.used k

/-- Use `n` units of a budget. -/
def State.useUnits (s : State) (k n : Nat) : State :=
  { s with used := SMap.set (fun _ => 0) s.used k (s.usedOf k + n) }

/-- The word of a budget register in force in the present frame (R29). -/
def State.limitWord (s : State) (a : Nat) : Word := SMap.get resetWord s.limits a

/-- BUDGET.LIMIT of a page in force in the present frame. -/
def State.limitOf (s : State) (b : Nat) : Nat := Reg.Hdr.LIMIT.get (s.limitWord (b + 0x024))

/-- The registers that hold budgets (R29, R327, R402, R424). -/
def isBudgetReg (a : Nat) : Bool :=
  match pageOf a with
  | some (t, _) =>
    let off := a % 0x1000
    off == 0x024 || (t == .fn && off == 0x04C) || (t == .mc && off == 0x054) ||
      (t == .mesh && decide (0x0C0 ≤ off ∧ off < 0x0E0))
  | none => false

/-- What a budget register word adds to the sum of reserved DRAM limits (R424). -/
def resShare (a : Nat) (w : Word) : Nat :=
  match pageOf a with
  | some (.tone, _) => if a % 0x1000 = 0x024 then Reg.Hdr.LIMIT.get w else 0
  | some (.flux, _) => if a % 0x1000 = 0x024 then Reg.Hdr.LIMIT.get w else 0
  | some (.acq, _) => if a % 0x1000 = 0x024 then Reg.Hdr.LIMIT.get w else 0
  | some (.mc, _) => if a % 0x1000 = 0x054 then Reg.Mc.REFETCH_LIMIT.get w else 0
  | _ => 0

/-- What a budget register word adds to the sum of best-effort DRAM limits (R424). -/
def beShare (a : Nat) (w : Word) : Nat :=
  match pageOf a with
  | some (.fn, _) => if a % 0x1000 = 0x04C then Reg.Fn.DRAM_LIMIT.get w else 0
  | some (.mc, _) => if a % 0x1000 = 0x054 then Reg.Mc.MP_LIMIT.get w else 0
  | _ => 0

/-- The sum of a share over a map of registers, counting REFETCH_LIMIT where it is at its reset value. -/
def shareSum (f : Nat → Word → Nat) (m : SMap Word) : Nat :=
  (m.map fun e => f e.1 e.2).sum +
    (if (SMap.find? m (Base.mc + 0x054)).isSome then 0 else f (Base.mc + 0x054) (resetWord (Base.mc + 0x054)))

/-- SUM_RES: the sum of all reserved DRAM limits. -/
def State.sumRes (s : State) : Nat := shareSum resShare s.regs

/-- SUM_BE: the sum of all best-effort DRAM limits. -/
def State.sumBe (s : State) : Nat := shareSum beShare s.regs

/-- The bursts of the shared DRAM pool in the present frame (R28). -/
def State.dramPool (s : State) : Nat :=
  s.fld Base.mc Reg.Mc.CEILING - (shareSum resShare s.limits + shareSum beShare s.limits)

/-- Charge one unit to a reserved budget; none when the frame's units are used up (R27, R28). -/
def State.chargeRes (s : State) (key limit : Nat) : Option State :=
  if s.usedOf key < limit then some (s.useUnits key 1) else none

/-- Charge one DRAM burst to a best-effort budget, or to the shared pool (R28); none when both are used up. -/
def State.chargeBest (s : State) (key limit : Nat) : Option State :=
  if s.usedOf key < limit then some (s.useUnits key 1)
  else if s.usedOf (Base.mc + 0x044) < s.dramPool then some (s.useUnits (Base.mc + 0x044) 1)
  else none

/-- Charge one burst to a function's host-ring budget (R402). -/
def State.chargeHost (s : State) (f : Nat) : Option State :=
  s.chargeBest (Base.fn f + 0x04C) (Reg.Fn.DRAM_LIMIT.get (s.limitWord (Base.fn f + 0x04C)))

/-- Charge one burst to the re-fetch budget (R147, R424). -/
def State.chargeRefetch (s : State) : Option State :=
  s.chargeRes (Base.mc + 0x056) (Reg.Mc.REFETCH_LIMIT.get (s.limitWord (Base.mc + 0x054)))

/-- Charge one burst to the activity of a port: the re-fetches, or on port 4 a function's host rings, or management
firmware's own budget (R402, R424; assumption log 10). -/
def State.chargePort (s : State) (port fn : Nat) : Option State :=
  if port = 0 then s.chargeRefetch
  else if fn < 64 then s.chargeHost fn
  else s.chargeBest (Base.mc + 0x054) (Reg.Mc.MP_LIMIT.get (s.limitWord (Base.mc + 0x054)))

/-! ### Regions and addresses -/

/-- The controller is frozen (R436). -/
def State.frozen (s : State) : Bool := s.bit Base.mc Reg.Mc.FROZEN

/-- The controller grants no request: it is frozen, or not active for Cellar, or no frame has begun since it left Cellar
(R432, R436). -/
def State.dramShut (s : State) : Bool :=
  s.frozen || (List.range 4).any fun c => s.fld (Base.dch c) Reg.Dch.SR_STATE != 0 || (s.dch c).resting

/-- A request of the activity waits already, so that a further one has to wait behind it (R27). -/
def State.dramWaits (s : State) (port fn : Nat) : Bool := s.dwait.any fun w => w.port == port && w.fn == fn

/-- The end U of device address space (R420). -/
def State.dramEnd (s : State) : Nat := 4 * (2 ^ 31 * 2 ^ s.fld Base.mc Reg.Mc.CAP) * 31 / 32

/-- A range of `n` bytes from `a` lies in the vat region (R423). -/
def State.inVat (s : State) (a n : Nat) : Bool :=
  decide (s.fld Base.mc Reg.Mc.VAT_BASE * 2 ^ 20 ≤ a ∧
    a + n ≤ (s.fld Base.mc Reg.Mc.VAT_BASE + s.fld Base.mc Reg.Mc.VAT_SIZE) * 2 ^ 20)

/-- A range of `n` bytes from `a` lies in the ring region (R423). -/
def State.inRrg (s : State) (a n : Nat) : Bool :=
  decide (s.fld Base.mc Reg.Mc.RRG_BASE * 2 ^ 20 ≤ a ∧
    a + n ≤ (s.fld Base.mc Reg.Mc.RRG_BASE + s.fld Base.mc Reg.Mc.RRG_SIZE) * 2 ^ 20)

/-- Port `p` may address the block at `da` (R424). -/
def State.portMay (s : State) (p da : Nat) : Bool :=
  let secure := decide (da < 0x0400_0000)
  let shadow := decide (0x0400_0000 ≤ da ∧ da < 0x0800_0000)
  let context := decide (0x0800_0000 ≤ da ∧ da < 0x0900_0000)
  let mgmt := decide (0x0900_0000 ≤ da ∧ da < 0x1000_0000)
  match p with
  | 0 => secure || shadow
  | 1 => s.inVat da 64
  | 2 => s.inRrg da 64
  | 3 => s.inRrg da 64
  | 4 => s.inRrg da 64 || s.inVat da 64 || context || shadow
  | _ => mgmt || secure || context

/-- The channel of a device address (R420). -/
def dramCh (da : Nat) : Nat := da / 2 ^ 8 % 4

/-- The channel-local address (R420). -/
def dramLa (da : Nat) : Nat := da / 2 ^ 10 * 256 + da % 256

/-- Column, bank group, bank, rank and row of a channel-local address (R421). -/
def State.dramDecode (s : State) (la : Nat) : Nat × Nat × Nat × Nat × Nat :=
  let ranks := s.fld Base.mc Reg.Mc.RANKS
  (la / 2 ^ 6 % 64, la / 2 ^ 12 % 4, la / 2 ^ 14 % 4,
    if ranks = 1 then la / 2 ^ 16 % 2 else 0, if ranks = 1 then la / 2 ^ 17 else la / 2 ^ 16)

/-- Where the shadow region keeps the copy of BAR2 offset `off`, and the offsets that stand for the FIR banks and the
kernel memories, which BAR2 does not show. R423 gives the region; its layout is the model's (assumption log 14). -/
def shadowAt (off : Nat) : Nat := 0x0400_0000 + off
def firOff : Nat := 0x0300_0000
def kernelOff : Nat := 0x0320_0000

/-- Where the secure region keeps word `a` of image slot `k` (R154; assumption log 14). -/
def imageAt (k a : Nat) : Nat := k * 0x2_0000 + 32 * a

/-- A CRC-16 of bytes with a generator polynomial and an initial value, the most significant bit first (R135, R433; assumption
log 63). -/
def crc16 (poly init : Nat) (bs : List Byte) : Nat :=
  bs.foldl (fun c v =>
    (List.range 8).foldl (fun c _ => (if 0x8000 ≤ c then (2 * c) ^^^ (0x1_0000 + poly) else 2 * c)) (c ^^^ (v.toNat * 256))) init

/-- The CRC-16 of the 64 bytes of the block at `da`: over the data, and over its block number (R433). -/
def blockCrc (da : Nat) (bs : List Byte) : Nat := crc16 0x8BB7 0xFFFF (bs ++ bytesLE (da / 64) 4)

/-- The CRC block that holds the CRC of the block at `da`, by its number in the channel (R422). -/
def crcBlock (da : Nat) : Nat := dramLa da / 64 / 32

/-- A granted request reaches the controller. A write to a block that already has a write pending replaces its data, and a
read of such a block is served from that write (R428); a request outside its port's regions completes poisoned and sets
REGION_FAULT (R423). -/
def State.dramEnter (s : State) (port : Nat) (write : Bool) (da : Nat) (panic : Bool) (use : DramUse) : State :=
  if !s.portMay port da then (s.err Base.mc 0x13 port).raise Base.mc 3
  else
    let da := da / 64 * 64
    let c := dramCh da
    let bs := rdBytes s.dram da 64
    let merge := (s.dch c).writes.any fun w => w.da == da
    let r : DramReq := ⟨port, write, da, s.step0, s.fld Base.mc Reg.Mc.LT port, panic, use, bs, merge && !write⟩
    if write then
      if merge then
        (s.inc (Base.dch c) Reg.Dch.MERGE_COUNT).modDch c fun d =>
          { d with writes := d.writes.map fun w => if w.da == da then { w with data := bs } else w }
      else s.modDch c fun d => { d with writes := d.writes ++ [r] }
    else if merge then s.modDch c fun d => { d with inflight := d.inflight ++ [r] }
    else s.modDch c fun d => { d with reads := d.reads ++ [r] }

/-- An activity asks for a burst: without one it waits, behind what it has asked for before (R27, R436). -/
def State.dramRequest (s : State) (port fn : Nat) (write : Bool) (da : Nat) (panic : Bool := false) : State :=
  let wait : State := { s with dwait := s.dwait ++ [⟨port, fn, .req write da panic⟩] }
  if s.dramShut || s.dramWaits port fn then wait
  else
    match s.chargePort port fn with
    | some t => t.dramEnter port write da panic .none
    | none => wait

/-- The activity that pays for the shadow writes of a page's window: the page's function, else management firmware. -/
def State.shadowFn (s : State) (b : Nat) : Nat := min 64 (s.owner b)

/-- Write bytes into the shadow, charged to the host-ring budget of function `fn` (R187; assumption log 10): a re-fetch
that follows finds them, and the write waits for its burst. -/
def State.shadowWrite (s : State) (fn o : Nat) (bs : List Byte) : State :=
  { s with dram := wrBytes s.dram (shadowAt o) bs }.dramRequest 4 fn true (shadowAt o)

/-- A re-fetch of the block that holds `da` (R33, R424). -/
def State.refetch (s : State) (da : Nat) : State := s.dramRequest 0 64 false da true

/-- A re-fetch of the block that holds `da` has not been delivered. -/
def State.refetchOut (s : State) (da : Nat) : Bool :=
  let da := da / 64 * 64
  let d := s.dch (dramCh da)
  let same (r : DramReq) : Bool := r.port == 0 && r.da == da
  d.reads.any same || d.inflight.any same || d.failing.any (fun e => same e.1) ||
    s.dwait.any fun w =>
      match w.act with
      | .req false a _ => w.port == 0 && a / 64 * 64 == da
      | _ => false

end Sys2Proof.Machine
end

