-- ==== Sys2Proof/Machine/Rings.lean ====
section
/-!
DEFINITION. Rings (R397 to R407): ownership, validity, the entries of the device copy, producing and consuming.
-/
namespace Sys2Proof.Machine

/-- The function that owns ring `r` (R397). -/
def State.ringFn (s : State) (r : Nat) : Option Nat :=
  (List.range 64).find? fun f =>
    decide (s.fld (Base.fn f) Reg.Fn.RING_BASE * 64 ≤ r ∧
      r < (s.fld (Base.fn f) Reg.Fn.RING_BASE + s.fld (Base.fn f) Reg.Fn.RING_COUNT) * 64)

/-- Entries of a ring (R398). -/
def RingSt.size (x : RingSt) : Nat := 2 ^ x.log2

/-- The difference of two free-running 32-bit indices (R399). -/
def idxSub (a b : Nat) : Nat := (a + 2 ^ 32 - b % 2 ^ 32) % 2 ^ 32

/-- Entries the ring holds, P − C (R399). -/
def RingSt.level (x : RingSt) : Nat := idxSub x.prod x.cons

/-- The ring is full (R399). -/
def RingSt.full (x : RingSt) : Bool := decide (x.size ≤ x.level)

/-- A host-produced kind (R398). -/
def hostProduced (kind : Nat) : Bool := kind == 0 || kind == 2 || kind == 3

/-- Device address of slot `i mod 2^k` of the device copy. -/
def RingSt.devSlot (x : RingSt) (i : Nat) : Nat := x.daddr * 64 + i % x.size * 64

/-- Host address of slot `i mod 2^k` of the host copy. -/
def RingSt.hostSlot (x : RingSt) (i : Nat) : Nat := (x.haddr + i % x.size * 64) % 2 ^ 64

/-- The key of a host address of function `f`. -/
def hostKey (f a : Nat) : Nat := f * 2 ^ 64 + a % 2 ^ 64

/-- The ring is enabled, of the kind, and owned by function `f` (R405). -/
def State.ringValid (s : State) (r kind f : Nat) : Bool :=
  (s.ring r).en && (s.ring r).kind == kind && s.ringFn r == some f

/-- The rings that the fields of a page name (R404). -/
def State.ringsNamed (s : State) (b : Nat) : List Nat :=
  match pageOf b with
  | some (.seq, _) => [s.fld b Reg.Seq.RES_RING]
  | some (.tone, _) => [s.fld b Reg.Tone.STRM_RING]
  | some (.flux, _) => [s.fld b Reg.Flux.BIAS_RING]
  | some (.acq, _) => [s.fld b Reg.Acq.SPILL_RING, s.fld b Reg.Acq.REC_RING]
  | some (.lane, _) => [s.fld b Reg.Lane.OUT_RING]
  | some (.syn, _) => [s.fld b Reg.Syn.ROUND_RING]
  | _ => []

/-- The ring is pinned: an enabled block names it (R404). -/
def State.ringPinned (s : State) (r : Nat) : Bool :=
  s.regs.any fun e => e.1 % 0x1000 == 0x008 && e.2.getLsbD 0 && (s.ringsNamed (e.1 - 0x008)).contains r

/-- The queue manager uses a ring's context: a pinned or cached one costs nothing, a miss costs one burst of the owning
function and replaces the context used least recently (R404). -/
def State.touchRing (s : State) (r : Nat) : State :=
  if s.ringPinned r then s
  else if s.ctxCache.contains r then { s with ctxCache := r :: s.ctxCache.erase r }
  else
    let s := { s with ctxCache := (r :: s.ctxCache).take 3072 }
    match s.ringFn r with
    | some f => s.dramRequest 4 f false (0x0800_0000 + r * 64)
    | none => s

/-- An entry finds its ring full: it is discarded and counted (R405). -/
def State.ringFull (s : State) (r : Nat) : State :=
  let s := s.modRing r fun x => { x with drop := min (x.drop + 1) (2 ^ 32 - 1) }
  match s.ringFn r with
  | some f => s.raise (Base.fn f) 2
  | none => s

/-- Put a 64-byte entry into the device copy at the producer index, through the DRAM port given; P then advances (R401). -/
def State.ringAppend (s : State) (r port : Nat) (panic : Bool) (entry : List Byte) : State :=
  let x := s.ring r
  let s := { s with dram := wrBytes s.dram (x.devSlot x.prod) entry }
  (s.dramEnter port true (x.devSlot x.prod) panic .none).modRing r fun x => { x with prod := (x.prod + 1) % 2 ^ 32 }

/-- Carry out what has waited for a burst, if it gets one now (R27). A record finds its ring full or no longer enabled as
it gets its turn (R405). -/
def State.dramServe (s : State) (w : DramWait) : Option State :=
  match w.act with
  | .req write da panic => (s.chargePort w.port w.fn).map fun t => t.dramEnter w.port write da panic .none
  | .record r entry =>
    if (s.ring r).full || !((s.ring r).en || (s.ring r).stopping) then some (s.ringFull r)
    else (s.chargePort w.port w.fn).map fun t => t.ringAppend r w.port false entry

/-- Serve one activity's waiting requests in the order they were made, until one gets no burst (R27). -/
def State.serveList (s : State) : List DramWait → State
  | [] => s
  | w :: ws =>
    match s.dramServe w with
    | some t => State.serveList { t with dwait := t.dwait.erase w } ws
    | none => s

/-- Serve what waits: the lower port number first, and on a port the lower function number (R27, R30, R438). -/
def State.serveWaits (s : State) : State :=
  if s.dwait.isEmpty || s.dramShut then s
  else
    (List.range 6).foldl (fun s p =>
      (List.range 65).foldl (fun s f => s.serveList (s.dwait.filter fun w => w.port == p && w.fn == f)) s) s

/-- A device producer appends a record to a valid ring, charged to the ring's function; without a burst the record waits
(R27, R401, R402, R405). During a freeze every device-produced ring counts as full (R436). -/
def State.ringPush (s : State) (r : Nat) (entry : List Byte) : State :=
  let s := s.touchRing r
  let f := (s.ringFn r).getD 64
  let w : DramWait := ⟨4, f, .record r entry⟩
  if s.frozen then s.ringFull r
  else if s.dramShut || s.dramWaits 4 f then { s with dwait := s.dwait ++ [w] }
  else (s.dramServe w).getD { s with dwait := s.dwait ++ [w] }

/-- The ring holds an entry that the mover has brought into the device copy and that is not consumed (R400). -/
def State.ringUnread (s : State) (r : Nat) : Bool := (s.ring r).moved != (s.ring r).cons

/-- The bytes of the entry at the consumer index. -/
def State.ringHead (s : State) (r : Nat) : List Byte := rdBytes s.dram ((s.ring r).devSlot (s.ring r).cons) 64

/-- The job service takes the entry at the consumer index (R400, R410; assumption log 10). -/
def State.ringTake (s : State) (r : Nat) : State :=
  let s := s.touchRing r
  let s := s.dramEnter 4 false ((s.ring r).devSlot (s.ring r).cons) false .none
  s.modRing r fun x => { x with cons := (x.cons + 1) % 2 ^ 32 }

/-- The index of the entry that the ring's consumer, or the mover, asks for next: `i` is the first it has not had. -/
def RingSt.next (x : RingSt) (i : Nat) : Nat := (i + x.asked.length) % 2 ^ 32

/-- The ring holds an entry that its consumer has not asked for yet (R181, R373). -/
def State.ringUnasked (s : State) (r : Nat) : Bool := (s.ring r).moved != (s.ring r).next (s.ring r).cons

/-- The read of entry `i` of ring `r` goes to the controller; a poisoned one leaves the entry unconsumed (R423, R436). -/
def State.ringAsk (s : State) (r i port : Nat) (panic : Bool) (use : DramUse) : State :=
  let da := (s.ring r).devSlot i
  let t := s.dramEnter port false da panic use
  if s.portMay port da then t.modRing r fun x => { x with asked := x.asked ++ [(i, none)] } else t

/-- The bytes of entry `i` of ring `r` are delivered. -/
def State.ringData (s : State) (r i : Nat) (bs : List Byte) : State :=
  s.modRing r fun x => { x with asked := x.asked.map fun e => if e.1 == i && e.2.isNone then (i, some bs) else e }

/-- Give `k` the delivered entries of ring `r` in ring order, up to the first that is still out; the first argument bounds
their number. -/
def State.ringDrain (r : Nat) (k : State → Nat → List Byte → State) : Nat → State → State
  | 0, s => s
  | fuel + 1, s =>
    match (s.ring r).asked with
    | (i, some bs) :: rest => State.ringDrain r k fuel (k (s.modRing r fun x => { x with asked := rest }) i bs)
    | _ => s

/-- The bytes of an entry made of fields: a list of value and width in bytes, in address order (R8). -/
def packBytes (fs : List (Nat × Nat)) : List Byte := fs.flatMap fun f => bytesLE f.1 f.2

/-- One bit of the reflected CRC-32 (R124). -/
def crc32Bit (c : Nat) : Nat := if c % 2 = 1 then (c / 2) ^^^ 0xEDB8_8320 else c / 2

/-- One byte of the reflected CRC-32 (R124). -/
def crc32Byte (c : Nat) (v : Byte) : Nat :=
  crc32Bit (crc32Bit (crc32Bit (crc32Bit (crc32Bit (crc32Bit (crc32Bit (crc32Bit (c ^^^ v.toNat))))))))

/-- The CRC-32 of R124: polynomial 0x04C1_1DB7, reflected, initial value and final XOR 0xFFFF_FFFF. -/
def crc32 (bs : List Byte) : Nat := (bs.foldl crc32Byte 0xFFFF_FFFF) ^^^ 0xFFFF_FFFF

/-- A 60-byte entry with its CRC-32 in the last four bytes (R124). -/
def withCrc (bs : List Byte) : List Byte := bs ++ bytesLE (crc32 bs) 4

end Sys2Proof.Machine
end

