-- ==== Sys2Proof/Machine/Slots.lean ====
section
/-!
DEFINITION. Decision slots (R283 to R293): addresses, the slot write, export to the Jency ports; and the syndrome unit's
latch of slot values, its checks and its lookups (R297 to R301).
-/
namespace Sys2Proof.Machine

/-! ### Addresses and readings -/

/-- The device's own number for slot addressing (R283). -/
def State.ownNum (s : State) : Nat := if s.bit Base.mesh Reg.Mesh.MEMBER then s.fld Base.mesh Reg.Mesh.MESH_ID else 0

/-- A mesh slot address is local (R283). -/
def State.slotLocal (s : State) (a : Nat) : Bool := a / 256 % 32 == s.ownNum

/-- The slot at a mesh address. -/
def State.slotAt (s : State) (a : Nat) : Slot := if s.slotLocal a then s.slot (a % 256) else s.copy (a % 8192)

/-- Stamp `a` is at or after stamp `b` in serial-number order (R111). -/
def stampGe (a b : Nat) : Bool := decide ((a + 2 ^ 32 - b % 2 ^ 32) % 2 ^ 32 < 2 ^ 31)

/-- The value word of a slot, laid out as at offset 0x804 (R311). -/
def Slot.word (x : Slot) : Nat :=
  match x.cond with
  | .empty => 0
  | .value st cf => 2 ^ 31 + cf % 256 * 4 + st % 4
  | .nodec => 2 ^ 31 + 2 ^ 30 + x.raw.2 % 256 * 4 + x.raw.1 % 4
  | .absent => 2 ^ 29

/-- The key of a mesh address in the log of slot versions. -/
def State.slotKey (s : State) (a : Nat) : Nat := if s.slotLocal a then 8192 + a % 256 else a % 8192

/-- The versions of the slot at a mesh address that a wait dispatched in step `p` finds up to step `q`, in the order in which
they become visible, each with the first step in which it is (R111, R144, R287). -/
def State.slotVersions (s : State) (a p q : Nat) : List (Nat × Slot) :=
  versionsIn (s.slotAt a) (SMap.get (fun _ => []) s.slotLog (s.slotKey a)) p q

/-- The slot at a mesh address as step `p` sees it. -/
def State.slotSeen (s : State) (a p : Nat) : Slot :=
  versionAt (s.slotAt a) (SMap.get (fun _ => []) s.slotLog (s.slotKey a)) p

/-- The first step that begins at or after a time, in units of 0.5 ns (R287, R303). -/
def stepFrom (at' : Nat) : Nat := (at' + 3) / 4

/-- Note a new version of a slot, written in the cycle that ends at `at'`. -/
def State.logSlot (s : State) (key at' : Nat) (old new : Slot) : State :=
  let log := SMap.get (fun _ => []) s.slotLog key
  { s with slotLog := SMap.set (fun _ => []) s.slotLog key (pushVersion s.waitLow (stepFrom at') old new log) }

/-- Local slot `k` takes a value in the cycle that ends at `at'`, in units of 0.5 ns. -/
def State.putSlot (s : State) (k at' : Nat) (x : Slot) : State :=
  (s.logSlot (8192 + k) at' (s.slot k) x).modSlot k fun _ => x

/-- The copy of a peer's slot takes a value in the cycle that ends at `at'`, in units of 0.5 ns. -/
def State.putCopy (s : State) (a at' : Nat) (x : Slot) : State :=
  (s.logSlot a at' (s.copy a) x).modCopy a fun _ => x

/-! ### Export (R290, R292) -/

/-- Two entries have the same mesh address. -/
def PendDec.same (a b : PendDec) : Bool := a.dev == b.dev && a.slot == b.slot

/-- An entry joins a port's pending set, or takes the place of the entry of its address. -/
def State.pendDec (s : State) (p : Nat) (e : PendDec) : State :=
  if (s.port p).decs.any fun x => x.same e then
    (s.inc Base.dec Reg.Dec.MERGE_COUNT).modPort p fun x =>
      { x with decs := x.decs.map fun y => if y.same e then e else y }
  else s.modPort p fun x => { x with decs := x.decs ++ [e] }

/-- An entry joins the pending set of every port in a mask. -/
def State.pendDecs (s : State) (ports : Nat) (e : PendDec) : State :=
  (List.range 8).foldl (fun s p => if ports.testBit p then s.pendDec p e else s) s

/-- The entry that carries a slot value (R291). -/
def mkEntry (dev k : Nat) (hop : Bool) (x : Slot) : PendDec :=
  match x.cond with
  | .value st cf => ⟨dev, k, hop, false, st, cf, x.stamp % 65536⟩
  | _ => ⟨dev, k, hop, true, x.raw.1, x.raw.2, x.stamp % 65536⟩

/-! ### Syndrome members, checks and words -/

/-- SYN.NCHECK. -/
def State.nCheck (s : State) : Nat := s.fld Base.syn Reg.Syn.NCHECK

/-- The member word at an index of the check map (R298). -/
def State.cmapAt (s : State) (i : Nat) : Nat := SMap.get (fun _ => 0) s.cmap i

/-- The enabled members of check `c`, as map indices. -/
def State.members (s : State) (c : Nat) : List Nat :=
  ((List.range 16).map fun m => 16 * c + m).filter fun i => (s.cmapAt i).testBit 15

/-- A check of a round, once all its members are accepted: its bit and whether it is erased (R300). -/
def Round.checkOf (x : Round) (ms : List Nat) : Option (Bool × Bool) :=
  ms.foldl (fun a i =>
    match a, x.members.find? fun e => e.1 == i with
    | some (b, er), some (_, some v) => some (b != v, er)
    | some (b, _), some (_, none) => some (b, true)
    | _, _ => none) (some (false, false))

/-- Evaluate the checks in a list whose members are all accepted. -/
def State.evalChecks (s : State) (x : Round) (cs : List Nat) : Round :=
  cs.foldl (fun x c =>
    if x.checks.any fun e => e.1 == c then x
    else
      match x.checkOf (s.members c) with
      | some (b, er) => { x with checks := x.checks ++ [(c, b, er)] }
      | none => x) x

/-- A check of the round is evaluated as erased. -/
def Round.erased (x : Round) (c : Nat) : Bool := x.checks.any fun e => e.1 == c && e.2.2

/-- Some check of the round is erased. -/
def Round.anyErased (x : Round) : Bool := x.checks.any fun e => e.2.2

/-- The checks of syndrome word `j` that exist. -/
def State.wordChecks (s : State) (j : Nat) : List Nat :=
  ((List.range 16).map fun i => 16 * j + i).filter fun c => decide (c < s.nCheck)

/-- The value of syndrome word `j` (R301). -/
def Round.wordVal (x : Round) (j : Nat) : Nat :=
  ((List.range 16).map fun i => if x.checks.any fun e => e.1 == 16 * j + i && e.2.1 then 2 ^ i else 0).sum

/-- Look up every enabled word whose checks are all evaluated (R301). -/
def State.lookWords (s : State) (x : Round) : Round :=
  (List.range 32).foldl (fun x j =>
    let w := x.cfg.getD j 0
    let width := Reg.Syn.W.get w
    let cs := s.wordChecks j
    if width = 0 || x.words.contains j || !(cs.all fun c => x.checks.any fun e => e.1 == c) then x
    else if s.bit Base.syn Reg.Syn.ERASE_POLICY && cs.any x.erased then { x with words := x.words ++ [j] }
    else
      let idx := (Reg.Syn.TBASE.get w + x.wordVal j % 2 ^ width) % 65536
      { x with words := x.words ++ [j], reads := x.reads ++ [⟨j, idx, 0, false, none, x.r⟩], used := x.used ++ [idx] }) x

/-- Evaluate checks of a round and look up its words. -/
def State.advance (s : State) (x : Round) (cs : List Nat) : Round := s.lookWords (s.evalChecks x cs)

/-- The member bit of a slot condition: none is erased (R299). -/
def memberBit : SlotCond → Option Bool
  | .value 0 _ => some false
  | .value 1 _ => some true
  | _ => none

/-- The enabled members that name a mesh address, of checks that exist. -/
def State.membersOf (s : State) (a : Nat) : List Nat :=
  (s.cmap.filter fun e => e.2.testBit 15 && e.2 % 8192 == a && decide (e.1 < 16 * s.nCheck)).map Prod.fst

/-- A round accepts a value for the members listed, where they have none yet, in the cycle that ends at `at'` (R299, R303). -/
def State.accept (s : State) (x : Round) (is : List Nat) (b : Option Bool) (at' : Nat) : Round :=
  let new := is.filter fun i => !(x.members.any fun e => e.1 == i) && !(x.checks.any fun e => e.1 == i / 16)
  if new.isEmpty then x
  else s.advance { x with members := x.members ++ new.map (fun i => (i, b)), latched := max x.latched at' } (new.map fun i => i / 16)

/-- The step in 32 bits lies in the interval of a round that starts at `st` (R299). -/
def State.inRound (s : State) (st stamp : Nat) : Bool :=
  decide ((stamp + 2 ^ 32 - st % 2 ^ 32) % 2 ^ 32 < s.fld Base.syn Reg.Syn.PERIOD)

/-- The stamp lies in a round that has committed (R299): its step is the latest with these 32 bits before the end of a run of
committed rounds, and lies in the run. -/
def State.roundGone (s : State) (stamp : Nat) : Bool :=
  s.syn.gone.any fun e => decide ((e.2 + 2 ^ 32 - 1 - stamp % 2 ^ 32) % 2 ^ 32 < min (2 ^ 31) (e.2 - e.1) ∧ s.step0 < e.2 + 2 ^ 31)

/-- Change the rounds of the syndrome unit. -/
def State.modRounds (s : State) (f : Round → Round) : State :=
  { s with syn := { s.syn with rounds := s.syn.rounds.map f } }

/-- The syndrome unit latches a value written to the slot at mesh address `a` in the cycle that ends at `at'` (R287, R299). A
round that has committed stays so when the unit is disabled. -/
def State.synLatch (s : State) (a at' : Nat) (x : Slot) : State :=
  let is := s.membersOf a
  if is.isEmpty then s
  else if s.roundGone x.stamp then (s.inc Base.syn Reg.Syn.LATE_BIT_COUNT).raise Base.syn 2
  else s.modRounds fun r => if s.inRound r.start x.stamp then s.accept r is (memberBit x.cond) at' else r

/-! ### The slot write -/

/-- A write finds a later stamp held and is discarded (R286). -/
def Slot.refuses (x : Slot) (stamp : Nat) : Bool :=
  match x.cond with
  | .empty => false
  | .absent => false
  | _ => !stampGe stamp x.stamp

/-- A discarded write is counted (R286). -/
def State.oldWrite (s : State) : State := (s.inc Base.dec Reg.Dec.OLD_COUNT).raise Base.dec 0

/-- Write local slot `k` in the cycle that ends at `at'`, in units of 0.5 ns (R286, R287, R290). -/
def State.writeSlot (s : State) (at' k : Nat) (x : Slot) : State :=
  if (s.slot k).refuses x.stamp then s.oldWrite
  else
    let s := s.putSlot k at' x
    let s := s.synLatch (s.ownNum * 256 + k) at' x
    s.pendDecs (s.fld Base.dec Reg.Dec.EXP_PORTS k) (mkEntry s.ownNum k false x)

/-- Write the copy of slot `k` of peer `d` in the cycle that ends at `at'`, in units of 0.5 ns (R286, R287, R291). -/
def State.writeCopy (s : State) (at' d k : Nat) (x : Slot) : State :=
  if (s.copy (256 * d + k)).refuses x.stamp then s.oldWrite
  else (s.putCopy (256 * d + k) at' x).synLatch (256 * d + k) at' x

/-- The local slots fed by a source (R285). -/
def State.slotsOf (s : State) (kind num : Nat) : List Nat :=
  (List.range 256).filter fun k =>
    s.fld Base.dec Reg.Dec.SRC_KIND k == kind && (kind == 3 || s.fld Base.dec Reg.Dec.SRC_NUM k == num)

/-- A source delivers a value: every slot that it feeds is written in the cycle that ends at `at'` (R285, R287). -/
def State.feed (s : State) (at' kind num : Nat) (x : Slot) : State :=
  (s.slotsOf kind num).foldl (fun s k => s.writeSlot at' k x) s

/-- A value as a slot holds it: NO_DECISION, or a state and a confidence. -/
def mkSlot (nodec : Bool) (state conf stamp : Nat) : Slot :=
  ⟨if nodec then .nodec else .value state conf, stamp % 2 ^ 32, if nodec then (state, conf) else (0, 0)⟩

end Sys2Proof.Machine
end

