-- ==== Sys2Proof/Machine/Acq.lean ====
section
/-!
DEFINITION. Chapter 12: acquisition units and the curd store; and the raising of rennet requests (R326, R355), which
they share with the Jency link.
-/
namespace Sys2Proof.Machine

/-! ### Time and the mesh -/

/-- Keep the network time of the present count: a new stretch begins where it is not what the last one leads to (R359;
assumption log 12). -/
def State.ntNote (s : State) : State :=
  let new := (s.count, s.ntNow, s.nt.inc)
  let same := match s.nt.hist with
    | (c, v, i) :: _ => decide (c ≤ s.count ∧ (v + (s.count - c) * i) % 2 ^ 64 = s.ntNow) && i == s.nt.inc
    | [] => false
  if same then s else { s with nt := { s.nt with hist := (new :: s.nt.hist).take 64 } }

/-- Network nanoseconds in count `c` (R89, R120, R359): in the stretch of counts that holds it, or reckoned back from the
oldest one known. -/
def State.ntAt (s : State) (c : Nat) : Nat :=
  let last := s.nt.hist.getLast?.getD (s.count, s.ntNow, s.nt.inc)
  let h := (s.nt.hist.find? fun e => decide (e.1 ≤ c)).getD last
  unsigned 64 ((h.2.1 : Int) + ((c : Int) - h.1) * h.2.2) / 2 ^ 32

/-- A rennet entry joins a port's queue of 4 (R326). -/
def State.queueRennet (s : State) (r : Rennet) (hop : Bool) (p : Nat) : State :=
  if (s.port p).rennets.length < 4 then s.modPort p fun x => { x with rennets := x.rennets ++ [(r, hop)] }
  else (s.inc Base.mesh Reg.Mesh.RENNET_DROP_COUNT).raise Base.mesh 5

/-- A rennet action is to come; equal ones act once, also where one has acted already (R326). -/
def State.addRennet (s : State) (r : Rennet) : State :=
  if s.mesh.rennets.contains r || s.mesh.acted.contains r then s else { s with mesh := { s.mesh with rennets := s.mesh.rennets ++ [r] } }

/-- A rennet request raised at count `c` (R326). -/
def State.rennetRequest (s : State) (group : Nat) (fire : Bool) (c : Nat) : State :=
  let r : Rennet := ⟨group, fire, c + s.fld Base.mesh Reg.Mesh.RENNET_DLY⟩
  (List.range 8).foldl
    (fun s p => if (s.fld Base.mesh Reg.Mesh.RENNET_PORTS).testBit p then s.queueRennet r false p else s) (s.addRennet r)

/-! ### Sources and regions -/

/-- Bytes of a sample (R341). -/
def acqBytes (kind : Nat) : Nat := if kind = 1 ∨ kind = 4 then 2 else 4

/-- The page of the source of a unit, if KIND and INDEX name one (R341). -/
def acqSource (kind idx : Nat) : Option Nat :=
  match kind with
  | 1 => if idx < 16 then some (Base.adc idx) else none
  | 2 => some (Base.rout idx)
  | 3 => if idx < 48 then some (Base.out idx) else none
  | 4 => if idx < 96 then some (Base.flux idx) else none
  | _ => none

/-- The tile of a source (R18). -/
def acqTile (kind idx : Nat) : Nat :=
  match kind with
  | 1 => 4 + idx / 8
  | 2 => 4 + idx / 128
  | 3 => outTile idx
  | _ => 6 + idx / 48

def State.acqKind (s : State) (n : Nat) : Nat := s.fld (Base.acq n) Reg.Acq.KIND
def State.acqIndex (s : State) (n : Nat) : Nat := s.fld (Base.acq n) Reg.Acq.INDEX
def State.csSize (s : State) (n : Nat) : Nat := s.fld (Base.acq n) Reg.Acq.CS_SIZE
def State.csBase (s : State) (n : Nat) : Nat := s.fld (Base.acq n) Reg.Acq.CS_BASE
def State.aState (s : State) (n : Nat) : Nat := s.fld (Base.acq n) Reg.Acq.ASTATE
def State.setAState (s : State) (n v : Nat) : State := s.setFld (Base.acq n) Reg.Acq.ASTATE v

/-- The source of the unit is held for calibration (R511). -/
def State.srcHeld (s : State) (n : Nat) : Bool :=
  match s.acqKind n with
  | 1 => s.calHolds 4 (s.acqIndex n)
  | 2 => s.calHolds 4 (s.acqIndex n / 16)
  | 3 => s.calHolds 3 (s.acqIndex n)
  | _ => false

/-- BAR2 offset of the unit's region (R342). -/
def State.acqBase (s : State) (n : Nat) : Nat := 0x0300_0000 + s.csBase n * 65536

/-- Samples in `k` blocks of the unit's region. -/
def State.acqCap (s : State) (n k : Nat) : Nat := k * 65536 / acqBytes (s.acqKind n)

/-- STAT.ACTIVE of an acquisition page: ARMED, CAPTURING or DRAINING. -/
def State.acqActive (s : State) (n : Nat) : Bool := 1 ≤ s.aState n && s.aState n ≤ 3

/-- The unit that holds curd-store block `b`, if any. -/
def State.blockUnit (s : State) (b : Nat) : Option Nat :=
  (List.range 32).find? fun n => decide (s.csBase n ≤ b ∧ b < s.csBase n + s.csSize n)

/-- A ring is a CAPTURE ring of the unit's owner (R350). -/
def State.acqRingOk (s : State) (n : Nat) (r : Row) : Bool :=
  s.ringValid (s.fld (Base.acq n) r) 4 (s.owner (Base.acq n))

/-- Report an invalid ring (R350, R356). -/
def State.acqRingFault (s : State) (n : Nat) (r : Row) : State :=
  (s.err (Base.acq n) 0x14 (s.fld (Base.acq n) r)).raise (Base.acq n) 8

/-- Samples of the spill FIFO that are half of SPILL_RES, and the panic of R350. -/
def State.acqPanic (s : State) (n : Nat) : Bool :=
  match (s.acqU n).cap with
  | some c => decide (s.acqCap n (s.fld (Base.acq n) Reg.Acq.SPILL_RES) < 2 * c.fifo)
  | none => false

/-! ### Arming -/

/-- The unit's levels. -/
def State.lvl (s : State) (n : Nat) (r : Row) : Int := signed 17 (s.fld (Base.acq n) r)

/-- A condition of R347 is enabled. -/
def State.trigEn (s : State) (n i : Nat) : Bool := (s.fld (Base.acq n) Reg.Acq.TRIG_EN).testBit i

/-- LEVEL is enabled with a COMP that does not suit KIND, or with levels out of order (R344). -/
def State.levelBad (s : State) (n : Nat) : Bool :=
  let comp := s.fld (Base.acq n) Reg.Acq.COMP
  let complex := s.acqKind n == 2 || s.acqKind n == 3
  s.trigEn n 0 && ((if complex then comp == 3 else comp != 3) ||
    decide (s.lvl n Reg.Acq.LVL_HI ≤ s.lvl n Reg.Acq.LVL_LO))

/-- The source of the unit is valid and of the same owner (R341). -/
def State.sourceOk (s : State) (n : Nat) : Bool :=
  match acqSource (s.acqKind n) (s.acqIndex n) with
  | some b => s.owner b == s.owner (Base.acq n)
  | none => false

/-- The reason for which an ARM is refused; 0 when it is accepted (R344). `own` marks a local ARM. -/
def State.armReason (s : State) (n : Nat) (own : Bool) : Nat :=
  if !s.enabled (Base.acq n) || (s.acqU n).norm then 1
  else if !s.sourceOk n then 2
  else if s.csSize n = 0 then 3
  else if s.acqActive n then 4
  else if s.levelBad n then 5
  else if own && s.fld (Base.acq n) Reg.Acq.LGRP != 0 && !s.bit (Base.acq n) Reg.Acq.MASTER then 6
  else 0

/-- The capture that an arming at step `k` begins (R345). -/
def State.newCapture (s : State) (n k : Nat) (tag : Tag) (poster : List Nat) : Capture :=
  let b := Base.acq n
  let pre := s.fld b Reg.Acq.PRE
  let post := s.fld b Reg.Acq.POST
  let c := s.acqCap n (s.csSize n)
  let h := s.acqCap n (s.csSize n - s.fld b Reg.Acq.SPILL_RES)
  let spill := decide (c < post)
  { step := k, tag := tag, posters := poster
    pre := if spill then 0 else min pre (c - post)
    area := if spill then h else c
    spill := spill
    preTrunc := if spill then decide (0 < pre) else decide (c < pre + post)
    seen := 0, stored := 0, times := [], ready := false
    evSeen := (s.evch (s.fld b Reg.Acq.TRIG_EV)).fires
    fires := [], rennets := [], soft := false, group := none, own := 0, met := 0, trig := none, note := none, mates := []
    preHeld := 0, post := 0, postHeld := 0, plan := post, stopAt := none, fifo := 0, fifoHead := 0, spilled := 0
    ringBad := false, ovf := none, full := false, stopped := false, killed := false, stale := s.srcHeld n, skew := false }

/-- The unit is armed (R344, R345). -/
def State.armUnit (s : State) (n k : Nat) (tag : Tag) (poster : List Nat) : State :=
  let b := Base.acq n
  let c := s.newCapture n k tag poster
  let s := (s.modAcq n fun x => { x with cap := some c }).setAState n 1
  let s := s.setFld b Reg.Acq.SEQ (s.fld b Reg.Acq.SEQ + 1)
  let s := ((s.setFld b Reg.Acq.WHEY 0).setFld b Reg.Acq.OVF_INDEX 0xFFFF_FFFF).setFld b Reg.Acq.FIFO_LEVEL 0
  if c.preTrunc then s.raise b 2 else s

/-- The other members of a unit's local group, and whether they share its owner (R354). -/
def State.groupOf (s : State) (n : Nat) : List Nat :=
  let g := s.fld (Base.acq n) Reg.Acq.LGRP
  if g = 0 then []
  else (List.range 32).filter fun m =>
    m != n && s.fld (Base.acq m) Reg.Acq.LGRP == g && s.owner (Base.acq m) == s.owner (Base.acq n)

/-- Arm the unit, and with a master its whole group (R354). -/
def State.armGroup (s : State) (n k : Nat) (tag : Tag) (poster : List Nat) : State :=
  let s := s.armUnit n k tag poster
  if s.fld (Base.acq n) Reg.Acq.LGRP != 0 && s.bit (Base.acq n) Reg.Acq.MASTER then
    (s.groupOf n).foldl (fun s m =>
      if s.aState m = 0 ∨ s.aState m = 4 then
        if s.armReason m false = 0 then s.armUnit m k tag poster else s.raise (Base.acq m) 6
      else s) s
  else s

/-- An ARM by command or register at step `k` (R344, R355). -/
def State.arm (s : State) (n k : Nat) (tag : Tag) (poster : List Nat) : State :=
  let b := Base.acq n
  let r := s.armReason n true
  if r ≠ 0 then ((s.err b 0x11 r).raise b 6).charge tag Flag.CMD_FAULT
  else if s.bit b Reg.Acq.RNT_EN && s.bit b Reg.Acq.RNT_OUT then
    s.rennetRequest (s.fld b Reg.Acq.RGRP) false (k / 2)
  else s.armGroup n k tag poster

/-! ### Samples -/

/-- The value that LEVEL tests, squared for the magnitude (R348). -/
def levelValue (comp : Nat) (x : AcqSample) : Int :=
  match comp with
  | 1 => x.q
  | 2 => x.i * x.i + x.q * x.q
  | _ => x.i

/-- The value is at or beyond the upper level, at or below the lower one (R348). -/
def State.levelHi (s : State) (n : Nat) (x : AcqSample) : Bool :=
  let h := s.lvl n Reg.Acq.LVL_HI
  if s.fld (Base.acq n) Reg.Acq.COMP = 2 then decide (h * h ≤ levelValue 2 x)
  else decide (h ≤ levelValue (s.fld (Base.acq n) Reg.Acq.COMP) x)

def State.levelLo (s : State) (n : Nat) (x : AcqSample) : Bool :=
  let l := s.lvl n Reg.Acq.LVL_LO
  if s.fld (Base.acq n) Reg.Acq.COMP = 2 then decide (levelValue 2 x ≤ l * l)
  else decide (levelValue (s.fld (Base.acq n) Reg.Acq.COMP) x ≤ l)

/-- The sample makes the detector ready, or completes its edge (R348). -/
def State.levelReady (s : State) (n : Nat) (x : AcqSample) : Bool :=
  if s.bit (Base.acq n) Reg.Acq.FALL then s.levelHi n x else s.levelLo n x
def State.levelEdge (s : State) (n : Nat) (x : AcqSample) : Bool :=
  if s.bit (Base.acq n) Reg.Acq.FALL then s.levelLo n x else s.levelHi n x

/-- The conditions, as bits, for which a sample of an armed unit is the trigger sample (R347): no earlier one has met them
(R349). -/
def State.trigMask (s : State) (n : Nat) (c : Capture) (x : AcqSample) : Nat :=
  let b := Base.acq n
  let st := x.time / 16
  let ev := s.fld b Reg.Acq.TRIG_EV
  let on (i : Nat) (p : Bool) : Nat := if s.trigEn n i && !c.met.testBit i && p then 2 ^ i else 0
  on 0 (c.ready && s.levelEdge n x) +
  on 1 (decide (s.fld64 b Reg.Acq.TRIG_STEP_LO Reg.Acq.TRIG_STEP_HI ≤ st)) +
  on 2 ((s.evch ev).fires != c.evSeen && s.owner (evgPage ev) == s.owner b) +
  on 3 (c.rennets.any fun k => decide (k ≤ st)) +
  on 4 (c.fires.any fun k => decide (k ≤ st)) +
  on 5 c.soft +
  on 6 (match c.group with
    | some t => decide (t ≤ x.time)
    | none => false)

/-- Store a sample at an index of the region. -/
def State.putSample (s : State) (n i : Nat) (x : AcqSample) : State :=
  let k := acqBytes (s.acqKind n)
  let v := if k = 2 then unsigned 16 x.i else unsigned 16 x.i + 2 ^ 16 * unsigned 16 x.q
  { s with bar2 := wrLE s.bar2 (s.acqBase n + i * k) k v }

/-- Put a capture back into its unit. -/
def State.setCap (s : State) (n : Nat) (c : Capture) : State := s.modAcq n fun x => { x with cap := some c }

/-- FIFO_LEVEL shows the FIFO in 64-byte entries, and PANIC follows its level (R350). -/
def State.showFifo (s : State) (n : Nat) (was : Bool) : State :=
  match (s.acqU n).cap with
  | some c =>
    let s := s.setFld (Base.acq n) Reg.Acq.FIFO_LEVEL ((c.fifo * acqBytes (s.acqKind n) + 63) / 64)
    if s.acqPanic n && !was then s.raise (Base.acq n) 7 else s
  | none => s

/-- The capture stops storing at the present sample (R352, R353). -/
def State.overflow (s : State) (n : Nat) (c : Capture) : State × Capture :=
  let s := (s.setFld (Base.acq n) Reg.Acq.OVF_INDEX c.post).raise (Base.acq n) 3
  (s.inc (Base.acq n) Reg.Acq.WHEY, { c with ovf := some c.post, full := true })

/-- SPILL_RING is looked at with samples to spill: invalid, it is reported once (R350). -/
def State.checkSpill (s : State) (n : Nat) (c : Capture) : State × Capture :=
  if s.acqRingOk n Reg.Acq.SPILL_RING then (s, { c with ringBad := false })
  else if c.ringBad then (s, c)
  else (s.acqRingFault n Reg.Acq.SPILL_RING, { c with ringBad := true })

/-- Store or spill one post-trigger sample, or count it in WHEY (R346, R350, R352, R353). -/
def State.storePost (s : State) (n : Nat) (c : Capture) (x : AcqSample) : State × Capture :=
  let fcap := s.acqCap n (s.fld (Base.acq n) Reg.Acq.SPILL_RES)
  if c.full then (s.inc (Base.acq n) Reg.Acq.WHEY, c)
  else if c.spill && s.frozen then s.overflow n c
  else if !c.spill || decide (c.post < c.area) then
    (s.putSample n (c.stored % c.area) x, { c with stored := c.stored + 1, postHeld := c.postHeld + 1 })
  else if fcap ≤ c.fifo then s.overflow n c
  else
    let r := s.checkSpill n c
    (r.1.putSample n (c.area + (c.fifoHead + c.fifo) % fcap) x, { r.2 with fifo := c.fifo + 1 })

/-- A STOP ends a capture after the samples that have come (R357). -/
def State.acqEndAt (s : State) (n : Nat) : State :=
  (s.modAcq n fun x => { x with cap := x.cap.map fun c => { c with plan := c.post } }).setAState n 3

/-- A post-trigger sample arrives (R346, R349, R357). -/
def State.postSample (s : State) (n : Nat) (c : Capture) (x : AcqSample) : State :=
  if c.plan ≤ c.post then s
  else if c.stopAt.any fun k => decide (k ≤ x.time / 16) then (s.setCap n c).acqEndAt n
  else
    let was := s.acqPanic n
    let r := s.storePost n c x
    let c := { r.2 with post := c.post + 1 }
    let s := (r.1.setCap n c).showFifo n was
    if c.plan ≤ c.post then s.setAState n 3 else s

/-- The unit triggers with a mask, on a sample whose stamp time is known, `k` samples held being post-trigger already, of
which no more than POST count (R346). -/
def State.trigger (s : State) (n : Nat) (c : Capture) (time mask k : Nat) : State :=
  let held := c.times.length - k
  let c := { c with
    trig := some (time, mask, s.ntAt (time / 32)), note := some s.count, preHeld := held
    mates := (s.groupOf n).filter fun m => s.aState m == 1
    stored := c.stored - (k - min k c.plan), post := min k c.plan, postHeld := min k c.plan }
  (s.setCap n c).setAState n (if c.plan ≤ c.post then 3 else 2)

/-- A sample enters the pre-trigger buffer (R344, R346). -/
def State.preSample (s : State) (n : Nat) (c : Capture) (x : AcqSample) : State :=
  if c.pre = 0 then s.setCap n { c with seen := c.seen + 1 }
  else
    let s := s.putSample n (c.stored % c.area) x
    s.setCap n { c with seen := c.seen + 1, stored := c.stored + 1, times := (x.time :: c.times).take c.pre }

/-- A sample of the source reaches an armed or capturing unit (R344 to R352, R355). -/
def State.acqSample (s : State) (n : Nat) (x : AcqSample) : State :=
  match (s.acqU n).cap with
  | none => s
  | some c =>
    if c.killed || decide (x.time / 16 < c.step) then s
    else
      let cond := s.stat (Base.tile (acqTile (s.acqKind n) (s.acqIndex n))) 1
      let c := { c with skew := c.skew || cond }
      if c.trig.isSome then s.postSample n c x
      else
        let m := s.trigMask n c x
        let c := { c with ready := c.ready || s.levelReady n x }
        let remote := s.bit (Base.acq n) Reg.Acq.RNT_EN && s.bit (Base.acq n) Reg.Acq.RNT_OUT
        if m = 0 then s.preSample n c x
        else if remote && m / 8 % 2 = 0 && m / 64 % 2 = 0 then
          let c := { c with met := c.met ||| m }
          if c.own = 0 then s.preSample n { c with own := m, note := some s.count } x
          else s.preSample n c x
        else
          let s := s.trigger n c x.time (m ||| c.own) 0
          match (s.acqU n).cap with
          | some c => s.postSample n c x
          | none => s

/-- Samples of a source reach every unit attached to it, in order (R341). -/
def State.acqFeed (s : State) (kind idx : Nat) (xs : List AcqSample) : State :=
  ((s.acqs.filter fun e => e.2.cap.isSome).map Prod.fst).foldl (fun s n =>
    if s.acqKind n = kind ∧ s.acqIndex n = idx then xs.foldl (fun s x => s.acqSample n x) s else s) s

/-- The source of a kind and index is held for calibration: captures under way carry STALE (R358). -/
def State.acqStale (s : State) (kind idx : Nat) : State :=
  ((s.acqs.filter fun e => e.2.cap.isSome).map Prod.fst).foldl (fun s n =>
    if s.acqKind n = kind ∧ s.acqIndex n = idx then
      s.modAcq n fun x => { x with cap := x.cap.map fun c => { c with stale := true } }
    else s) s

/-! ### Triggers from outside -/

/-- A change of the capture of an ARMED unit; a unit that is not ARMED sets FIRE_IGNORED (R349). -/
def State.fireArmed (s : State) (n : Nat) (f : Capture → Capture) : State :=
  if s.aState n = 1 then s.modAcq n fun x => { x with cap := x.cap.map f } else s.raise (Base.acq n) 10

/-- A group fire at a stamp time reaches a unit (R354): it triggers on a sample that it holds, or on one to come. -/
def State.groupFire (s : State) (n time : Nat) : State :=
  if s.aState n ≠ 1 then s.raise (Base.acq n) 10
  else
    match (s.acqU n).cap with
    | none => s
    | some c =>
      let late := (c.times.filter fun t => decide (time ≤ t)).length
      if s.trigEn n 6 && 0 < late then s.trigger n c (c.times.getD (late - 1) 0) (64 ||| c.own) late
      else s.setCap n { c with group := some time }

/-- ACQ_TRIGGER (R349, R354, R355): the trigger that the samples have met takes effect outside the unit. The group fire goes
to the members that were ARMED as the unit triggered; one that no longer is ignores it. -/
def execAcqTrigger (n : Fin 32) (s : State) : Out :=
  match (s.acqU n).cap with
  | none => .next s
  | some c =>
    match c.note with
    | none => .next s
    | some k =>
      let b := Base.acq n
      let s := s.modAcq n fun x => { x with cap := x.cap.map fun c => { c with note := none } }
      match c.trig with
      | none => finish (s.rennetRequest (s.fld b Reg.Acq.RGRP) true k)
      | some (time, _, _) =>
        let s := s.raise b 1
        finish ((c.mates.filter (· != n.val)).foldl (fun s m => s.groupFire m time) s)

/-! ### Timed commands and register requests -/

/-- Take the head of a unit's queue (R105, R121). -/
def State.acqPop (s : State) (n : Nat) (c : TCmd) : State :=
  (s.modAcq n fun x => { x with queue := x.queue.tail }).useTile c.tag (acqTile (s.acqKind n) (s.acqIndex n)) c.step

/-- The head of a unit's queue, when it has the code and its step is due. -/
def State.acqDue (s : State) (n code : Nat) : Option TCmd :=
  match (s.acqU n).queue with
  | c :: _ => if c.code = code ∧ s.due c.step then some c else none
  | [] => none

/-- ACQ_ARM (R344). -/
def execAcqArm (n : Fin 32) (s : State) : Out :=
  match s.acqDue n 0x0 with
  | none => .next s
  | some c => finish ((s.acqPop n c).arm n c.step c.tag [c.poster])

/-- ACQ_FIRE (R347, R349). -/
def execAcqFire (n : Fin 32) (s : State) : Out :=
  match s.acqDue n 0x1 with
  | none => .next s
  | some c =>
    finish ((s.acqPop n c).fireArmed n fun x => { x with fires := x.fires ++ [c.step], posters := x.posters ++ [c.poster] })

/-- A STOP at a step (R357); of two the earlier stands. -/
def State.acqStop (s : State) (n k : Nat) : State :=
  match s.aState n with
  | 1 => (s.modAcq n fun x => { x with cap := none }).setAState n 0
  | 2 => s.modAcq n fun x => { x with cap := x.cap.map fun c => { c with stopAt := some (min k (c.stopAt.getD k)), stopped := true } }
  | _ => s

/-- ACQ_STOP (R357). -/
def execAcqStop (n : Fin 32) (s : State) : Out :=
  match s.acqDue n 0x2 with
  | none => .next s
  | some c => finish ((s.acqPop n c).acqStop n c.step)

/-- A rennet ARM at count `t` reaches the member units of a group, and with each its whole local group (R354, R355). -/
def State.rennetArm (s : State) (t : Nat) (ms : List Nat) : State :=
  let more := (ms.flatMap s.groupOf).filter fun m => !ms.contains m
  let s := ms.foldl (fun s m =>
    let r := s.armReason m false
    if r = 0 then s.armUnit m (2 * t) none [] else (s.err (Base.acq m) 0x11 r).raise (Base.acq m) 6) s
  more.foldl (fun s m =>
    if s.aState m = 0 ∨ s.aState m = 4 then
      if s.armReason m false = 0 then s.armUnit m (2 * t) none [] else s.raise (Base.acq m) 6
    else s) s

/-- The units that belong to a rennet group (R355). -/
def State.rennetUnits (s : State) (g : Nat) : List Nat :=
  (List.range 32).filter fun n => s.bit (Base.acq n) Reg.Acq.RNT_EN && s.fld (Base.acq n) Reg.Acq.RGRP == g

/-- RENNET_ACTION (R326, R355): a rennet command whose count has come acts on every member of its group. -/
def execRennetAction (g : Fin 16) (fire : Bool) (s : State) : Out :=
  match s.mesh.rennets.find? fun r => r.group == g.val && r.fire == fire && s.due (2 * r.count) with
  | none => .next s
  | some r =>
    let old := s.mesh.acted.filter fun q => decide (s.count < q.count)
    let s : State := { s with mesh := { s.mesh with rennets := s.mesh.rennets.erase r, acted := r :: old } }
    if fire then
      finish ((s.rennetUnits g).foldl (fun s n => s.fireArmed n fun c => { c with rennets := c.rennets ++ [2 * r.count] }) s)
    else finish (s.rennetArm r.count (s.rennetUnits g))

/-- A write of 1 to CTL.ARM_NOW (R344). -/
def State.armNow (s : State) (n : Nat) : State := s.arm n s.nextStep none []

/-- A write of 1 to CTL.FIRE_NOW (R347). -/
def State.fireNow (s : State) (n : Nat) : State := s.fireArmed n fun c => { c with soft := true }

/-- A write of 1 to ENABLE; it cancels a pending normal disable. -/
def State.acqEnable (s : State) (n : Nat) : State :=
  (s.setEnable (Base.acq n) true).modAcq n fun x => { x with norm := false }

/-- A write of 0 to ENABLE (R357). -/
def State.acqDisable (s : State) (n : Nat) : State :=
  let s := s.setEnable (Base.acq n) false
  match s.aState n with
  | 1 => s.acqStop n 0
  | 2 => s.modAcq n fun x => { x with norm := true }
  | 3 => s.modAcq n fun x => { x with norm := true }
  | _ => s

/-- The capture is open: post-trigger samples are still to come, or to leave the spill FIFO (R560). An ARMED unit that has
not triggered holds none: DESIGN CHOICE, assumption log 66. -/
def Capture.isOpen (c : Capture) : Bool := c.trig.isSome && !c.killed && decide (c.post < c.plan ∨ c.fifo ≠ 0)

/-- An immediate disable (R357, R560): what is open is cut and marked TRUNCATED. An ARMED unit goes IDLE with no record
(assumption log 66). -/
def State.acqKill (s : State) (n : Nat) : State :=
  match (s.acqU n).cap with
  | none => s
  | some c =>
    if c.killed then s
    else if c.trig.isSome && !c.isOpen then s
    else if c.trig.isNone then (s.modAcq n fun x => { x with cap := none }).setAState n 0
    else
      let s := s.addSat (Base.acq n) Reg.Acq.WHEY (c.plan - c.post + c.fifo)
      let s := s.setCap n { c with killed := true, full := true, fifo := 0, post := c.plan }
      let s := (s.setFld (Base.acq n) Reg.Acq.FIFO_LEVEL 0).setAState n 3
      (s.raise (Base.acq n) 5).charge c.tag Flag.TRUNCATED

/-- DISABLE_NOW reads 1 until the record has been written (R357). -/
def State.acqKillNow (s : State) (n : Nat) : State :=
  let s := s.acqKill n
  s.setBit (Base.acq n) Reg.Hdr.DISABLE_NOW (s.aState n == 3)

/-- The source of a kind and index receives an immediate disable: so do the units that capture it (R357). -/
def State.acqSourceKill (s : State) (kind idx : Nat) : State :=
  ((s.acqs.filter fun e => e.2.cap.isSome).map Prod.fst).foldl (fun s n =>
    if s.acqKind n = kind ∧ s.acqIndex n = idx then s.acqKill n else s) s

/-- The tags of the captures that are open on a source (R242, R560). -/
def State.acqTags (s : State) (kind idx : Nat) : List Tag :=
  (s.acqs.filter fun e => e.2.cap.any Capture.isOpen && s.acqKind e.1 == kind && s.acqIndex e.1 == idx).filterMap fun e =>
    e.2.cap.map Capture.tag

/-- A unit attached to the source is armed or capturing (R241). -/
def State.acqBusyOn (s : State) (kind idx : Nat) : Bool :=
  s.acqs.any fun e => s.acqKind e.1 == kind && s.acqIndex e.1 == idx && (s.aState e.1 == 1 || s.aState e.1 == 2)

/-- STAT of an acquisition page. -/
def State.acqStat (s : State) (n : Nat) : Nat :=
  (s.acqActive n).toNat + 2 * (s.acqPanic n).toNat + 4 * (s.acqU n).norm.toNat

/-! ### Spill and completion -/

/-- SPILL_DRAIN (R350): one 64-byte entry goes from the FIFO to the ring, within budget and ring room. -/
def execSpillDrain (n : Fin 32) (s : State) : Out :=
  match (s.acqU n).cap with
  | none => .next s
  | some c =>
    let b := Base.acq n
    let ring := s.fld b Reg.Acq.SPILL_RING
    let k := acqBytes (s.acqKind n)
    let per := 64 / k
    let fcap := s.acqCap n (s.fld b Reg.Acq.SPILL_RES)
    if c.fifo = 0 ∨ (c.fifo < per ∧ s.aState n ≠ 3) then .next s
    else if !s.acqRingOk n Reg.Acq.SPILL_RING then
      let r := s.checkSpill n c
      finish (r.1.setCap n r.2)
    else if (s.ring ring).full ∨ s.dramShut then .next s
    else
      match s.chargeRes (b + 0x024) (s.limitOf b) with
      | none => .next s
      | some s =>
        let m := min per c.fifo
        let data := (List.range m).flatMap fun i =>
          rdBytes s.bar2 (s.acqBase n + (c.area + (c.fifoHead + i) % fcap) * k) k
        let s := (s.touchRing ring).ringAppend ring 2 (s.acqPanic n) (data ++ List.replicate (64 - m * k) 0)
        let s := s.setCap n { c with fifo := c.fifo - m, fifoHead := (c.fifoHead + m) % fcap, spilled := c.spilled + m, ringBad := false }
        finish (s.showFifo n true)

/-- Flags of a capture record (R358). -/
def Capture.flags (c : Capture) (bad : Bool) : Nat :=
  c.preTrunc.toNat + 2 * c.ovf.isSome.toNat + 4 * bad.toNat + 8 * c.killed.toNat + 16 * c.stopped.toNat +
    32 * c.spill.toNat + 64 * c.stale.toNat + 128 * c.skew.toNat + 256 * (decide (c.preHeld < c.pre)).toNat

/-- Held sample `j` of a capture lies in the FIFO's blocks. -/
def Capture.inFifo (c : Capture) (j : Nat) : Bool := decide (c.preHeld + c.postHeld ≤ j)

/-- The index in the region of held sample `j` (R346, R356): in the circular area, then in the FIFO's blocks. -/
def Capture.place (c : Capture) (fcap j : Nat) : Nat :=
  let h := c.preHeld + c.postHeld
  if c.inFifo j then c.area + (c.fifoHead + (j - h)) % fcap else (c.stored - h + j) % c.area

/-- The capture record (R358). -/
def State.acqRecord (s : State) (n : Nat) (c : Capture) (held badAt badWords : Nat) : List Byte :=
  let b := Base.acq n
  let t := c.trig.getD (0, 0, 0)
  let first := if c.spill then 0 else (c.stored - (c.preHeld + c.postHeld)) % c.area * acqBytes (s.acqKind n)
  let bad : Nat := if badWords = 0 then 0x7FFF_FFFF else unsigned 32 ((badAt : Int) - c.preHeld + if c.inFifo badAt then c.spilled else 0)
  withCrc (packBytes [(0x4143, 2), (n, 1), (s.acqKind n, 1), (c.flags (badWords != 0), 2), (s.acqIndex n, 1), (t.2.1, 1),
    (t.1, 8), (t.2.2, 4), (s.owner b, 2), (0, 2), (c.preHeld, 4), (held, 4), (c.spilled, 4),
    (c.ovf.getD 0xFFFF_FFFF, 4), (s.fld b Reg.Acq.WHEY, 4), (first, 4), (bad, 4), (badWords, 4), (s.fld b Reg.Acq.SEQ, 4)])

/-- CAPTURE_COMPLETE (R353, R356): the held words are checked, `badWords` of them failing with sample `badAt` the first, and
the record is written, that of a spill capture not while the DRAM controller is frozen. Code 0x10 carries the failing
word's index in the curd store, as a read of it records (R343). -/
def execCaptureComplete (n : Fin 32) (badAt badWords : Nat) (s : State) : Out :=
  match (s.acqU n).cap with
  | none => .next s
  | some c =>
    if s.aState n ≠ 3 ∨ (c.fifo ≠ 0 ∧ s.acqRingOk n Reg.Acq.SPILL_RING) ∨ (c.spill ∧ s.frozen) then .next s
    else
      let b := Base.acq n
      let word := c.place (s.acqCap n (s.fld b Reg.Acq.SPILL_RES)) badAt * acqBytes (s.acqKind n) / 8
      let rec' := s.acqRecord n c (c.postHeld + c.fifo) badAt badWords
      let s := if badWords = 0 then s else (s.err b 0x10 (s.csBase n * 8192 + word)).raise b 4
      let s := if s.acqRingOk n Reg.Acq.REC_RING then s.ringPush (s.fld b Reg.Acq.REC_RING) rec'
        else s.acqRingFault n Reg.Acq.REC_RING
      let s := s.modAcq n fun x => { x with cap := none, norm := false }
      finish (((s.setAState n 4).setBit b Reg.Hdr.DISABLE_NOW false).raise b 0)

end Sys2Proof.Machine
end

