-- ==== Sys2Proof/Machine/Trig.lean ====
section
/-!
DEFINITION. The cosine and sine tables of R164, R198 and R227: 18-bit signed fractions of a phase, rounded to nearest,
computed exactly in fixed point.
-/
namespace Sys2Proof.Machine

/-- 2π in units of 2^−60. -/
def twoPi : Int := 7244019458077122842

/-- The remaining terms of the sine series: term `t` of degree `k`, square of the argument, both in units of 2^−60. -/
def sinTerms : Nat → Int → Nat → Int → Int
  | 0, _, _, _ => 0
  | n + 1, t, k, x2 =>
    let t' := (-(t * x2 / 2 ^ 60)) / (((k + 1) * (k + 2) : Nat) : Int)
    t' + sinTerms n t' (k + 2) x2

/-- 131,072 × sin(2πr ÷ n) rounded to nearest, for `r` up to a quarter of `n`. -/
def sinQuarter (n r : Nat) : Int :=
  let x := twoPi * r / n
  ((x + sinTerms 13 x 1 (x * x / 2 ^ 60)) * 131072 + 2 ^ 59) / 2 ^ 60

/-- The same, for `r` up to half of `n`. -/
def sinHalf (n r : Nat) : Int := if 4 * r ≤ n then sinQuarter n r else sinQuarter n (n / 2 - r)

/-- The sine of `r` parts of `n` of a turn, in units of 1 ÷ 131,072; the largest value is 131,071 (R164). -/
def sinOf (n r : Nat) : Int :=
  let r := r % n
  if 2 * r < n then min 131071 (sinHalf n r) else -(sinHalf n (r - n / 2))

/-- The cosine of `r` parts of `n` of a turn. -/
def cosOf (n r : Nat) : Int := sinOf n (r + n / 4)

/-- S(θ) of R164, for a phase in units of 2^−16 turn. -/
def sinTab (θ : Nat) : Int := sinOf 65536 θ

/-- C(θ) of R164. -/
def cosTab (θ : Nat) : Int := cosOf 65536 θ

end Sys2Proof.Machine
end

