-- ==== Sys2Proof/Machine/Tone.lean ====
section
/-!
DEFINITION. Chapter 06: tone engines, the segment table, streaming, the write-active rule and the disables.
-/
namespace Sys2Proof.Machine

/-! ### Partitions and entries -/

/-- BAR2 offset of segment-table entry `e` (R170). -/
def stOff (e : Nat) : Nat := 0x0200_0000 + 16 * e

/-- Decode entry `i` from its 128 bits (R170). -/
def decodeEntry (i v : Nat) : Entry where
  idx := i
  pbase := v % 2 ^ 22
  len := v / 2 ^ 24 % 2 ^ 16
  rep := v / 2 ^ 40 % 2 ^ 16
  next := v / 2 ^ 56 % 2 ^ 16
  jt := v / 2 ^ 72 % 2 ^ 16
  strm := v / 2 ^ 88 % 2 == 1
  hold := v / 2 ^ 89 % 2 == 1
  quiet := v / 2 ^ 90 % 2 == 1
  coh := v / 2 ^ 91 % 2 == 1
  frm := v / 2 ^ 92 % 2 == 1
  rsvd := v / 2 ^ 93 != 0 || v / 2 ^ 22 % 4 != 0

/-- Read segment-table entry `i`. -/
def State.entry (s : State) (i : Nat) : Entry := decodeEntry i (rdLE s.bar2 (stOff i) 16)

/-- Parameter record `i` as a 64-bit number (R159). -/
def State.record (s : State) (i : Nat) : Nat := rdLE s.bar2 (8 * i) 8

/-- Entry `i` lies in the segment-table partition of owner `f` (R169, R172). -/
def State.inSt (s : State) (f i : Nat) : Bool :=
  f == 0x80 ||
    (decide (f < 64) && decide (s.fld (Base.fn f) Reg.Fn.ST_BASE * 256 ≤ i) &&
      decide (i < (s.fld (Base.fn f) Reg.Fn.ST_BASE + s.fld (Base.fn f) Reg.Fn.ST_SIZE) * 256))

/-- Records `a` to `a + n − 1` lie in the parameter-memory partition of owner `f` (R169, R172). -/
def State.inPm (s : State) (f a n : Nat) : Bool :=
  (f == 0x80 && decide (a + n ≤ 2 ^ 22)) ||
    (decide (f < 64) && decide (s.fld (Base.fn f) Reg.Fn.PM_BASE * 4096 ≤ a) &&
      decide (a + n ≤ (s.fld (Base.fn f) Reg.Fn.PM_BASE + s.fld (Base.fn f) Reg.Fn.PM_SIZE) * 4096))

/-- An entry is valid for a block of owner `f` (R172). -/
def State.entryValid (s : State) (f : Nat) (e : Entry) : Bool :=
  !e.rsvd && decide (4 ≤ e.len) && s.inSt f e.idx && e.idx != 0xFFFF &&
  (e.next == 0xFFFF || s.inSt f e.next) && (e.jt == 0xFFFF || s.inSt f e.jt) &&
  (e.strm || e.quiet || s.inPm f e.pbase (4 * e.len)) &&
  (!e.strm || (e.rep == 0 && !e.hold && !e.quiet && e.pbase == 0)) &&
  (!e.quiet || (e.pbase == 0 && !e.coh))

/-- The first step after a play (R173). -/
def Play.bound (p : Play) : Nat := p.start + 4 * p.e.len

/-- A play of an entry that begins at a step. -/
def mkPlay (e : Entry) (start left poster : Nat) (tag : Tag) (bad : Bool) : Play where
  e := e
  start := start
  left := left
  poster := poster
  tag := tag
  check := start
  cohDue := e.coh
  frame := 0
  bad := bad
  jump := none
  deferred := none

/-! ### Faults, drops and streams -/

/-- An entry fault: the entry acts as END (R172). -/
def State.toneEntryFault (s : State) (n i : Nat) (tag : Tag) : State :=
  ((s.err (Base.tone n) 0x11 i).raise (Base.tone n) 5).charge tag Flag.CMD_FAULT

/-- Entry `i` fails its parity as it is read: PARITY and code 0x10, and the engine fetches it again (R191). -/
def State.toneEntryParity (s : State) (n i : Nat) (bad : Bool) : State :=
  if bad then ((s.err (Base.tone n) 0x10 i).raise (Base.tone n) 8).refetch (shadowAt (stOff (i % 2 ^ 16))) else s

/-- A START or JUMP is ignored by a disabled engine (R188). -/
def State.toneDrop (s : State) (n : Nat) (tag : Tag) : State :=
  ((s.inc (Base.tone n) Reg.Tone.DROP_COUNT).raise (Base.tone n) 7).charge tag Flag.CMD_FAULT

/-- The stream ring of the engine is valid: a STREAM ring of its owner in the vat region (R180). -/
def State.strmValid (s : State) (n : Nat) : Bool :=
  let r := s.fld (Base.tone n) Reg.Tone.STRM_RING
  s.ringValid r 2 (s.owner (Base.tone n)) && s.inVat ((s.ring r).daddr * 64) ((s.ring r).size * 64)

/-- Report an invalid stream ring (R180). -/
def State.strmFault (s : State) (n : Nat) : State :=
  (s.err (Base.tone n) 0x12 (s.fld (Base.tone n) Reg.Tone.STRM_RING)).raise (Base.tone n) 9

/-- Records of the stream buffer that checked granules have still to play. -/
def ToneSt.reserved (t : ToneSt) (now : Nat) : Nat :=
  ((t.grans.filter fun g => g.strm).map fun g => g.stop - max g.start now).sum

/-- The panic condition (R182). -/
def State.tonePanic (s : State) (n : Nat) : Bool :=
  decide ((s.tone n).buf.length < s.fld (Base.tone n) Reg.Tone.PANIC_LVL) && s.strmValid n &&
    s.ringUnread (s.fld (Base.tone n) Reg.Tone.STRM_RING)

/-- IRQ_STAT.PANIC follows the condition (R182). -/
def State.notePanic (s : State) (n : Nat) : State := if s.tonePanic n then s.raise (Base.tone n) 6 else s

/-- The first step that has not been computed yet. -/
def State.nextSample (s : State) : Nat := 2 * s.count + 2

/-- A streamed play, or a continuation past its first check, gives up its records from step `t` on: those in the buffer
are discarded and those still to arrive are added to SKIP_DEBT (R184). -/
def State.dropStream (s : State) (n : Nat) (p : Play) (t : Nat) : State :=
  if p.e.strm && p.check != p.start then
    let x := s.tone n
    let mine := x.grans.filter fun g => g.strm && decide (p.start ≤ g.start)
    let pending := (mine.map fun g => g.stop - max g.start t).sum + (p.bound - p.check)
    let last (g : Gran) : Nat := if p.start ≤ g.start then min g.stop (max g.start t) else g.stop
    let keep := ((x.grans.filter fun g => g.strm).map fun g => last g - max g.start s.nextSample).sum
    let here := min pending (x.buf.length - keep)
    let s := s.modTone n fun x => { x with buf := x.buf.take keep ++ x.buf.drop (keep + here) }
    s.setFld (Base.tone n) Reg.Tone.SKIP_DEBT (s.fld (Base.tone n) Reg.Tone.SKIP_DEBT + (pending - here))
  else s

/-- No granule plays from step `t` on. -/
def cutGrans (gs : List Gran) (t : Nat) : List Gran :=
  (gs.filter fun g => decide (g.start < t)).map fun g => { g with stop := min g.stop t }

/-- Drop a resolved continuation (R174, R189, R190). -/
def State.dropCont (s : State) (n : Nat) (t : Nat) : State :=
  match (s.tone n).cont with
  | some (some p) =>
    (s.dropStream n p t).modTone n fun x => { x with grans := x.grans.filter fun g => decide (g.start < p.start) }
  | _ => s

/-- The registers that show what plays (R194). -/
def State.showTone (s : State) (n : Nat) : State :=
  let b := Base.tone n
  let x := s.tone n
  let s :=
    match x.play with
    | some p =>
      ((s.setFld b Reg.Tone.CUR_ENTRY p.e.idx).setFld b Reg.Tone.PLAYS_LEFT p.left).setFld b Reg.Tone.FRAME_APPLIED p.frame
    | none => (s.setFld b Reg.Tone.CUR_ENTRY 0xFFFF).setFld b Reg.Tone.PLAYS_LEFT 0
  match x.cont with
  | some (some p) => (s.setFld b Reg.Tone.CONT_VALID 1).setFld b Reg.Tone.CONT p.e.idx
  | some none => (s.setFld b Reg.Tone.CONT_VALID 1).setFld b Reg.Tone.CONT 0xFFFF
  | none => (s.setFld b Reg.Tone.CONT_VALID 0).setFld b Reg.Tone.CONT 0xFFFF

/-! ### Decision points and boundaries -/

/-- The entry that the play in progress resolves to, and the command it is charged to (R175, R176): rules 1 to 5 in
order; none is END. -/
def ToneSt.resolve (x : ToneSt) (p : Play) : Option (Nat × Nat × Nat × Tag) :=
  let named (i left poster : Nat) (tag : Tag) := if i = 0xFFFF then none else some (i, left, poster, tag)
  if x.stop || x.norm then none
  else
    match p.jump with
    | some j =>
      if j.target = 0xFFFF then named p.e.jt 0 j.poster j.tag else some (j.target, 0, j.poster, j.tag)
    | none =>
      if p.e.hold then some (p.e.idx, p.left, p.poster, p.tag)
      else if 0 < p.left then some (p.e.idx, p.left - 1, p.poster, p.tag)
      else named p.e.next 0 p.poster p.tag

/-- A repeat of the same entry keeps the count of plays; another entry starts with its own REP (R175). -/
def contLeft (p : Play) (e : Entry) (left : Nat) : Nat :=
  if p.jump.isNone && (p.e.hold || decide (0 < p.left)) then left else e.rep

/-- The decision point: the engine resolves, reads and checks the continuation (R175, R172). -/
def State.toneDecide (s : State) (n : Nat) (bad : Bool) : State :=
  match (s.tone n).play with
  | none => s
  | some p =>
    match (s.tone n).resolve p with
    | none => s.modTone n fun x => { x with cont := some none }
    | some (i, left, poster, tag) =>
      let e := s.entry i
      let s := s.toneEntryParity n i bad
      if s.entryValid (s.owner (Base.tone n)) e then
        let c := mkPlay e p.bound (contLeft p e left) poster tag bad
        s.modTone n fun x => { x with cont := some (some c) }
      else (s.toneEntryFault n i tag).modTone n fun x => { x with cont := some none }

/-- The boundary of the play in progress: the continuation begins, or the engine is idle and sets ENDED (R173, R175,
R176). -/
def State.toneBoundary (s : State) (n : Nat) : State :=
  match (s.tone n).play with
  | none => s
  | some p =>
    let s := if (s.tone n).cont.isNone then s.toneDecide n false else s
    match (s.tone n).cont with
    | some (some c) =>
      (s.modTone n fun x =>
        { x with play := some { c with jump := p.deferred }, cont := none, stop := (s.seq c.poster).halted }).showTone n
    | _ =>
      let s := s.modTone n fun x => { x with play := none, cont := none, stop := false, norm := false }
      (s.showTone n).raise (Base.tone n) 0

/-- The play in progress has its boundary at or before step `t`: it is carried out first. -/
def State.toneCatchUp (s : State) (n t : Nat) : State :=
  match (s.tone n).play with
  | some p => if p.bound ≤ t then s.toneBoundary n else s
  | none => s

/-- The play in progress is cut at step `t` (R174). -/
def State.toneCut (s : State) (n t : Nat) : State :=
  match (s.tone n).play with
  | none => s
  | some p =>
    let s := (s.dropCont n t).dropStream n p t
    (s.modTone n fun x =>
      { x with play := none, cont := none, stop := false, grans := cutGrans x.grans t }).inc (Base.tone n)
      Reg.Tone.CUT_COUNT

/-- Begin a play of entry `i` at step `t`; an invalid entry acts as END (R172, R173, R174). -/
def State.toneBegin (s : State) (n i t poster : Nat) (tag : Tag) (bad : Bool) : State :=
  let e := s.entry i
  let s := s.toneEntryParity n i bad
  if s.entryValid (s.owner (Base.tone n)) e then
    let s := s.toneCut n t
    (s.modTone n fun x =>
      { x with play := some (mkPlay e t e.rep poster tag bad), stop := (s.seq poster).halted }).showTone n
  else ((s.toneEntryFault n i tag).toneCut n t).showTone n

/-! ### Timed commands -/

/-- The head of a queue, when it has the code and its step is due. -/
def State.dueCmd (s : State) (q : List TCmd) (code : Nat) : Option TCmd :=
  match q with
  | c :: _ => if c.code = code ∧ s.due c.step then some c else none
  | [] => none

/-- Take the head of a tone engine's queue for execution through its tile (R105, R121). -/
def State.tonePop (s : State) (n : Nat) (c : TCmd) : State :=
  (s.modTone n fun x => { x with queue := x.queue.tail }).useTile c.tag (outTile (toneOut n)) c.step |>.chargeHeld c.tag 3 (toneOut n)

/-- A START of entry `i` by command `c` (R173, R188). -/
def State.toneStart (s : State) (n i : Nat) (c : TCmd) (bad : Bool) : State :=
  if !s.enabled (Base.tone n) then s.toneDrop n c.tag
  else (s.toneCatchUp n c.step).toneBegin n i c.step c.poster c.tag bad

/-- TONE_START (R173, R174, R188). -/
def execToneStart (n : Fin 512) (bad : Bool) (s : State) : Out :=
  match s.dueCmd (s.tone n).queue 0x0 with
  | none => .next s
  | some c => finish ((s.tonePop n c).toneStart n (c.arg % 2 ^ 16) c bad)

/-- A JUMP during a play (R176): on time it is pending for the boundary of the play, late for the one that follows. -/
def State.toneJump (s : State) (n : Nat) (p : Play) (c : TCmd) : State :=
  let j : Jump := ⟨c.arg % 2 ^ 16, c.poster, c.tag⟩
  if c.step + 4 < p.bound then s.modTone n fun x => { x with play := some { p with jump := some j } }
  else
    let s := (s.inc (Base.tone n) Reg.Tone.LATE_JUMP_COUNT).raise (Base.tone n) 1
    (s.charge c.tag Flag.LATE_JUMP).modTone n fun x => { x with play := some { p with deferred := some j } }

/-- TONE_JUMP (R176, R188). -/
def execToneJump (n : Fin 512) (bad : Bool) (s : State) : Out :=
  match s.dueCmd (s.tone n).queue 0x1 with
  | none => .next s
  | some c =>
    let s := s.tonePop n c
    if !s.enabled (Base.tone n) then finish (s.toneDrop n c.tag)
    else
      let s := s.toneCatchUp n c.step
      match (s.tone n).play with
      | some p => finish (s.toneJump n p c)
      | none => finish (s.toneBegin n (c.arg % 2 ^ 16) c.step c.poster c.tag bad)

/-- A normal disable reaches the engine at step `t`: a continuation already resolved is discarded (R189). A jump that is
pending goes at the decision point, where the disable resolves to END unless it has been cancelled. -/
def State.toneEnd (s : State) (n t : Nat) : State :=
  match (s.tone n).play with
  | none => s
  | some _ => ((s.dropCont n t).modTone n fun x => { x with cont := if x.cont.isSome then some none else none }).showTone n

/-- TONE_STOP (R189). -/
def execToneStop (n : Fin 512) (s : State) : Out :=
  match s.dueCmd (s.tone n).queue 0x2 with
  | none => .next s
  | some c =>
    let s := ((s.tonePop n c).toneCatchUp n c.step).toneEnd n c.step
    finish (s.modTone n fun x =>
      { x with stop := x.play.isSome, play := x.play.map fun p => { p with jump := none, deferred := none } })

/-- The START and JUMP commands of a queue. -/
def startsOf (q : List TCmd) : List TCmd := q.filter fun c => c.code == 0x0 || c.code == 0x1

/-- An immediate disable at step `t` (R190): the play is truncated, the continuation, the jump and every queued START
and JUMP are discarded, and what was discarded is counted and charged (R560). -/
def State.toneKill (s : State) (n t : Nat) : State :=
  let b := Base.tone n
  let s := s.toneCatchUp n t
  let x := s.tone n
  let cut := startsOf x.queue
  let conts := match x.cont with
    | some (some c) => [c]
    | _ => []
  let plays := x.play.toList ++ conts
  let gone := plays.length + cut.length
  let s := s.dropCont n t
  let s := match x.play with
    | some p => s.dropStream n p t
    | none => s
  let s := s.modTone n fun x =>
    { x with
      play := none
      cont := none
      stop := false
      norm := false
      grans := cutGrans x.grans t
      queue := x.queue.filter fun c => !(c.code == 0x0 || c.code == 0x1) }
  let s := s.addSat b Reg.Tone.TRUNC_COUNT gone
  let s := s.showTone n
  if gone = 0 then s
  else
    let s := (plays.map Play.tag).foldl (fun s t => s.charge t Flag.TRUNCATED) (s.raise b 3)
    (cut.map TCmd.tag).foldl (fun s t => s.charge t Flag.TRUNCATED) s

/-- TONE_KILL (R190): ENABLE stays 1. -/
def execToneKill (n : Fin 512) (s : State) : Out :=
  match s.dueCmd (s.tone n).queue 0x3 with
  | none => .next s
  | some c => finish ((s.tonePop n c).toneKill n c.step)

/-- TONE_FDELAY (R165, R167). -/
def execToneFdelay (n : Fin 512) (s : State) : Out :=
  match s.dueCmd (s.tone n).queue 0x4 with
  | none => .next s
  | some c =>
    let s := s.tonePop n c
    let r := (s.tone n).delayWas.byCmd (s.fld (Base.tone n) Reg.Tone.FDELAY) c.step (c.arg % 2 ^ 5)
    finish ((s.modTone n fun x => { x with delayWas := r.1 }).setFld (Base.tone n) Reg.Tone.FDELAY r.2)

/-- TONE_PHASE (R165). -/
def execTonePhase (n : Fin 512) (s : State) : Out :=
  match s.dueCmd (s.tone n).queue 0x5 with
  | none => .next s
  | some c =>
    let s := s.tonePop n c
    let r := (s.tone n).phaseWas.byCmd (s.fld (Base.tone n) Reg.Tone.PHASE_REG) c.step (c.arg % 2 ^ 16)
    finish ((s.modTone n fun x => { x with phaseWas := r.1 }).setFld (Base.tone n) Reg.Tone.PHASE_REG r.2)

/-- TONE_FRAME (R165). -/
def execToneFrame (n : Fin 512) (s : State) : Out :=
  match s.dueCmd (s.tone n).queue 0x6 with
  | none => .next s
  | some c =>
    let s := (s.tonePop n c).modTone n fun x => { x with frameStep := c.step }
    finish ((s.setFld (Base.tone n) Reg.Tone.FRAME_QUBIT c.arg).setFld (Base.tone n) Reg.Tone.FRAME_EN 1)

/-! ### Decision point, boundary, granule checks -/

/-- TONE_DECISION_POINT (R175): at the first step of the last granule. -/
def execToneDecisionPoint (n : Fin 512) (bad : Bool) (s : State) : Out :=
  match (s.tone n).play with
  | some p =>
    if (s.tone n).cont.isNone && s.due (p.bound - 4) then finish ((s.toneDecide n bad).showTone n) else .next s
  | none => .next s

/-- TONE_PLAY_BOUNDARY (R173, R175). -/
def execTonePlayBoundary (n : Fin 512) (s : State) : Out :=
  match (s.tone n).play with
  | some p => if s.due p.bound then finish (s.toneBoundary n) else .next s
  | none => .next s

/-- The frame that a FRM play beginning at step `b` applies: FRAME_QUBIT and FRAME_EN as they will stand at that step,
with the FRAME commands queued up to it applied, and the frame as step `b - 2` sees it (R166). -/
def State.frameFor (s : State) (n b : Nat) : Nat :=
  let cs := (s.tone n).queue.filter fun c => c.code == 0x6 && decide (c.step ≤ b)
  match cs.getLast? with
  | some c => s.frameOf (c.arg % 2 ^ 8) (b - 2)
  | none =>
    if s.bit (Base.tone n) Reg.Tone.FRAME_EN then s.frameOf (s.fld (Base.tone n) Reg.Tone.FRAME_QUBIT) (b - 2) else 0

/-- Change the play in progress, or the resolved continuation. -/
def State.modPlay (s : State) (n : Nat) (cont : Bool) (f : Play → Play) : State :=
  s.modTone n fun x =>
    if cont then { x with cont := x.cont.map fun c => c.map f } else { x with play := x.play.map f }

/-- A granule plays quiet for want of its records, and UR_CAUSE says whether the ring is empty (R183, R191). -/
def State.toneUnderrun (s : State) (n : Nat) (p : Play) : State :=
  let b := Base.tone n
  let s := s.setBit b Reg.Tone.UR_CAUSE (!(s.ringUnread (s.fld b Reg.Tone.STRM_RING)))
  ((s.inc b Reg.Tone.UNDERRUN_COUNT).raise b 2).charge p.tag Flag.UNDERRUN

/-- The granule's records are all there: it will play them, setting ACC at its first sample where COH has still to act
(R162, R173). -/
def State.toneGranule (s : State) (n : Nat) (cont : Bool) (p : Play) (recs : List Nat) : State :=
  let g : Gran := ⟨p.check, p.check + 4, recs, p.frame, p.cohDue, p.e.strm, p.tag⟩
  (s.modTone n fun x => { x with grans := x.grans ++ [g] }).modPlay n cont fun p =>
    { p with check := p.check + 4, cohDue := false }

/-- The granule plays quiet: it has no records. -/
def State.toneQuiet (s : State) (n : Nat) (cont : Bool) (p : Play) : State :=
  let g : Gran := ⟨p.check, p.check + 4, [], p.frame, false, false, p.tag⟩
  (s.modTone n fun x => { x with grans := x.grans ++ [g] }).modPlay n cont fun p => { p with check := p.check + 4 }

/-- Check a granule of a streamed play (R183). -/
def State.checkStream (s : State) (n : Nat) (cont : Bool) (p : Play) (bad : Option (Fin 4)) : State :=
  let b := Base.tone n
  let s := if p.check == p.start && !s.strmValid n then s.strmFault n else s
  let x := s.tone n
  let at' := x.reserved s.nextSample
  let have' := (x.buf.drop at').take 4
  if have'.length = 4 ∧ bad.isNone ∧ !p.bad then s.toneGranule n cont p have'
  else
    let s := s.modTone n fun x => { x with buf := x.buf.take at' ++ x.buf.drop (at' + have'.length) }
    let s := s.setFld b Reg.Tone.SKIP_DEBT (s.fld b Reg.Tone.SKIP_DEBT + (4 - have'.length))
    let s := match bad with
      | some i => (s.err b 0x10 i).raise b 8
      | none => s
    (s.toneUnderrun n p).toneQuiet n cont p

/-- Check a granule of a resident play: parity failures and records not yet re-fetched make it quiet (R191). -/
def State.checkResident (s : State) (n : Nat) (cont : Bool) (p : Play) (bad : Option (Fin 4)) : State :=
  let b := Base.tone n
  let base := p.e.pbase + (p.check - p.start)
  let s := match bad with
    | some i =>
      (((s.err b 0x10 (base + i)).raise b 8).modTone n fun x => { x with refetch := x.refetch ++ [base + i.val] }).refetch
        (shadowAt (8 * ((base + i) % 2 ^ 22)))
    | none => s
  let late := (List.range 4).any fun i => (s.tone n).refetch.contains (base + i)
  if p.bad || late then (s.toneUnderrun n p).toneQuiet n cont p
  else s.toneGranule n cont p ((List.range 4).map fun i => s.record (base + i))

/-- Check the next granule of a play (R166, R178, R183, R191). -/
def State.toneCheck (s : State) (n : Nat) (cont : Bool) (p : Play) (bad : Option (Fin 4)) : State :=
  let fr := if p.check = p.start ∧ p.e.frm then s.frameFor n p.start else p.frame
  let s := s.modPlay n cont fun p => { p with frame := fr }
  let p := { p with frame := fr }
  let s :=
    if p.e.quiet then s.toneQuiet n cont p
    else if p.e.strm then s.checkStream n cont p bad
    else s.checkResident n cont p bad
  (s.notePanic n).showTone n

/-- TONE_GRANULE_CHECK (R183, R191): two steps before the first step of the next granule of the play in progress, or of
the first granule of the resolved continuation. -/
def execToneGranuleCheck (n : Fin 512) (bad : Option (Fin 4)) (s : State) : Out :=
  match (s.tone n).play with
  | none => .next s
  | some p =>
    if p.check < p.bound then
      if s.due (p.check - 2) then finish (s.toneCheck n false p bad) else .next s
    else
      match (s.tone n).cont with
      | some (some c) =>
        if c.check < c.bound ∧ s.due (c.check - 2) then finish (s.toneCheck n true c bad) else .next s
      | _ => .next s

/-- A play whose entry has returned from the shadow is good again (R191). -/
def State.playBack (s : State) (p : Play) : Play := { p with bad := p.bad && s.refetchOut (shadowAt (stOff (p.e.idx % 2 ^ 16))) }

/-- The records whose re-fetch has not been delivered (R191). -/
def State.recordsOut (s : State) (l : List Nat) : List Nat := l.filter fun i => s.refetchOut (shadowAt (8 * (i % 2 ^ 22)))

/-- TONE_REFETCH_COMPLETE (R191): the records and the entries that failed parity and whose reads the controller has
delivered are back from the shadow. Waits while the controller is frozen (R37). -/
def execToneRefetchComplete (n : Fin 512) (s : State) : Out :=
  if s.frozen then .next s
  else
    finish (s.modTone n fun x =>
      { x with
        refetch := s.recordsOut x.refetch
        play := x.play.map s.playBack
        cont := x.cont.map fun c => c.map s.playBack })

/-- The eight records of a STREAM ring entry (R180). -/
def streamRecords (bs : List Byte) : List Nat := (List.range 8).map fun i => ofBytesLE ((bs.drop (8 * i)).take 8)

/-- The engine takes the records of one ring entry: SKIP_DEBT of them are discarded on arrival (R183, R184). -/
def State.toneTakeRecords (s : State) (n : Nat) (recs : List Nat) : State :=
  let debt := s.fld (Base.tone n) Reg.Tone.SKIP_DEBT
  let s := s.setFld (Base.tone n) Reg.Tone.SKIP_DEBT (debt - min debt recs.length)
  s.modTone n fun x => { x with buf := x.buf ++ recs.drop debt }

/-- Refill is possible: the engine is enabled, or plays under a pending normal disable, and has room for 8 records more
than those it has asked for (R181). -/
def State.refillOpen (s : State) (n : Nat) : Bool :=
  (s.enabled (Base.tone n) || (s.tone n).norm) && 
    decide ((s.tone n).buf.length + 8 * ((s.ring (s.fld (Base.tone n) Reg.Tone.STRM_RING)).asked.length + 1) ≤ 1024)

/-- An entry that the engine has asked for is delivered, and consumed (R181). -/
def State.streamIn (s : State) (n r i : Nat) (bs : List Byte) : State :=
  ((s.modRing r fun x => { x with cons := (i + 1) % 2 ^ 32 }).toneTakeRecords n (streamRecords bs)).notePanic n

/-- TONE_STREAM_REFILL (R180, R181, R182): the engine asks for one ring entry within the budget, and has its records when
the controller delivers them; an invalid ring is reported once, at a refill that the budget allows. PANIC is noted whether
or not the refill can be made. -/
def execToneStreamRefill (n : Fin 512) (s : State) : Out :=
  let r := s.fld (Base.tone n) Reg.Tone.STRM_RING
  let s := s.notePanic n
  if !s.refillOpen n || s.dramShut then finish s
  else
    match s.chargeRes (Base.tone n + 0x024) (s.limitOf (Base.tone n)) with
    | none => finish s
    | some u =>
      if !s.strmValid n then 
        finish (if (s.tone n).strmSeen then s else (s.strmFault n).modTone n fun t => { t with strmSeen := true })
      else if !s.ringUnasked r then finish s
      else
        let u := u.touchRing r
        let i := (u.ring r).next (u.ring r).cons
        finish (u.ringAsk r i 1 (u.tonePanic n) (.stream n r i))

/-! ### Register writes -/

/-- A write of 1 to ENABLE: it cancels a pending normal disable, else it enables the engine (R180, R189). -/
def State.toneEnable (s : State) (n : Nat) : State :=
  if s.enabled (Base.tone n) then s
  else
    let s := s.setEnable (Base.tone n) true
    s.modTone n fun x => { x with norm := false, strmSeen := false }

/-- A write of 0 to ENABLE (R189). -/
def State.toneDisable (s : State) (n : Nat) : State :=
  if !s.enabled (Base.tone n) then s
  else
    let s := (s.setEnable (Base.tone n) false).toneEnd n s.nextStep
    s.modTone n fun x => { x with norm := x.play.isSome }

/-- DISABLE_NOW and the other immediate disables that clear ENABLE (R190). -/
def State.toneDisableNow (s : State) (n : Nat) : State :=
  (s.toneKill n s.nextStep).setEnable (Base.tone n) false

/-- Writes with effects beyond the plain fields: PHASE_REG, FDELAY, FRAME, STRM_RING and PANIC_LVL (R165, R180, R182). -/
def State.toneWritten (s : State) (n off : Nat) (old : Word) : State :=
  let b := Base.tone n
  let x := s.tone n
  match off with
  | 0x048 =>
    let r := x.phaseWas.byWrite (Reg.Tone.PHASE_REG.get old) s.nextStep (s.fld b Reg.Tone.PHASE_REG)
    (s.modTone n fun x => { x with phaseWas := r.1 }).setFld b Reg.Tone.PHASE_REG r.2
  | 0x04C =>
    let r := x.delayWas.byWrite (Reg.Tone.FDELAY.get old) s.nextStep (s.fld b Reg.Tone.FDELAY)
    (s.modTone n fun x => { x with delayWas := r.1 }).setFld b Reg.Tone.FDELAY r.2
  | 0x050 => if s.nextStep ≤ x.frameStep then s.setReg (b + off) old else s
  | 0x054 => (s.modTone n fun x => { x with strmSeen := false }).notePanic n
  | 0x058 => s.notePanic n
  | _ => s

/-! ### STAT and the write-active rule -/

/-- STAT of a tone page. -/
def State.toneStat (s : State) (n : Nat) : Nat :=
  let x := s.tone n
  (x.play.isSome || x.cont.isSome || !x.queue.isEmpty).toNat + 2 * (s.tonePanic n).toNat + 4 * x.play.isSome.toNat +
    8 * (x.stop || x.norm).toNat + 16 * (x.play.any fun p => p.e.hold).toNat

/-- The entries that a tone engine makes active (R185). A JUMP with ARG 0xFFFF names none (R171). -/
def ToneSt.entries (x : ToneSt) : List Nat :=
  (x.play.toList.map fun p => p.e.idx) ++
  (match x.cont with
    | some (some c) => [c.e.idx]
    | _ => []) ++
  (((startsOf x.queue).filter fun c => c.code == 0x0 || c.arg % 2 ^ 16 != 0xFFFF).map fun c => c.arg % 2 ^ 16)

end Sys2Proof.Machine
end

