-- ==== Sys2Proof/Machine/Flux.lean ====
section
/-!
DEFINITION. Chapter 13: flux channels. The fast part (R362 to R370) and the DC part: the bias queue, ramps, range changes,
faults and NVM (R371 to R387).
-/
namespace Sys2Proof.Machine

/-! ### The fast part: plays -/

/-- The tile of a flux channel, as a tile page number (R18). -/
def fluxTile (n : Nat) : Nat := 6 + n / 48

/-- An entry is valid for a flux channel (R172, R364). -/
def State.fluxEntryOk (s : State) (n : Nat) (e : Entry) : Bool := s.entryValid (s.owner (Base.flux n)) e && !e.strm

/-- An entry fault: the entry acts as END (R172, R364). -/
def State.fluxEntryFault (s : State) (n i : Nat) (tag : Tag) : State :=
  ((s.err (Base.flux n) 0x11 i).raise (Base.flux n) 3).charge tag Flag.CMD_FAULT

/-- Entry `i` fails its parity as it is read (R191, R370). -/
def State.fluxEntryParity (s : State) (n i : Nat) (bad : Bool) : State :=
  if bad then ((s.err (Base.flux n) 0x10 i).raise (Base.flux n) 5).refetch (shadowAt (stOff (i % 2 ^ 16)))
  else s

/-- From step `t` on the channel plays `p`. -/
def FluxSt.setTrack (x : FluxSt) (t : Nat) (p : Option Play) : FluxSt := { x with track := (t, p) :: x.track.take 15 }

/-- The registers that show what plays (R387). -/
def State.showFlux (s : State) (n : Nat) : State :=
  let b := Base.flux n
  match (s.flux n).play with
  | some p => (s.setFld b Reg.Flux.CUR_ENTRY p.e.idx).setFld b Reg.Flux.PLAYS_LEFT p.left
  | none => (s.setFld b Reg.Flux.CUR_ENTRY 0xFFFF).setFld b Reg.Flux.PLAYS_LEFT 0

/-- The continuation of a play: entry and plays left; none is END (R175 less its rule 2, R365). -/
def FluxSt.resolve (x : FluxSt) (p : Play) : Option (Nat × Option Nat) :=
  if x.stop || x.norm then none
  else if p.e.hold then some (p.e.idx, some p.left)
  else if 0 < p.left then some (p.e.idx, some (p.left - 1))
  else if p.e.next = 0xFFFF then none
  else some (p.e.next, none)

/-- The decision point (R175, R365). -/
def State.fluxDecide (s : State) (n : Nat) (bad : Bool) : State :=
  match (s.flux n).play with
  | none => s
  | some p =>
    match (s.flux n).resolve p with
    | none => s.modFlux n fun x => { x with cont := some none }
    | some (i, left) =>
      let e := s.entry i
      let s := s.fluxEntryParity n i bad
      if s.fluxEntryOk n e then
        let c := mkPlay e p.bound (left.getD e.rep) p.poster p.tag bad
        s.modFlux n fun x => { x with cont := some (some c) }
      else (s.fluxEntryFault n i p.tag).modFlux n fun x => { x with cont := some none }

/-- The boundary of the play in progress (R175, R365). -/
def State.fluxBoundary (s : State) (n : Nat) : State :=
  match (s.flux n).play with
  | none => s
  | some p =>
    let s := if (s.flux n).cont.isNone then s.fluxDecide n false else s
    match (s.flux n).cont with
    | some (some c) =>
      (s.modFlux n fun x => { x with play := some c, cont := none }.setTrack p.bound (some c)).showFlux n
    | _ =>
      let s := s.modFlux n fun x =>
        { x with play := none, cont := none, stop := false, norm := false, stopAt := none }.setTrack p.bound none
      (s.showFlux n).raise (Base.flux n) 0

/-- The play in progress has its boundary at or before step `t`: it is carried out first. -/
def State.fluxCatchUp (s : State) (n t : Nat) : State :=
  match (s.flux n).play with
  | some p => if p.bound ≤ t then s.fluxBoundary n else s
  | none => s

/-- The play in progress is cut at step `t` (R174, R365). -/
def State.fluxCut (s : State) (n t : Nat) : State :=
  if (s.flux n).play.isSome then
    (s.modFlux n fun x => { x with play := none, cont := none, stop := false, stopAt := none }.setTrack t none).inc (Base.flux n)
      Reg.Flux.CUT_COUNT
  else s

/-- Take the head of a channel's queue for execution through its tile (R105, R121). -/
def State.fluxPop (s : State) (n : Nat) (c : TCmd) : State :=
  (s.modFlux n fun x => { x with queue := x.queue.tail }).useTile c.tag (fluxTile n) c.step

/-- A PLAY or SET is ignored: the channel is disabled, or a normal disable is pending, a STOP's if `stop` of its step says so
(R368). -/
def State.fluxShut (s : State) (n : Nat) (stop : Nat → Bool) : Bool :=
  !s.enabled (Base.flux n) || (s.flux n).norm || (s.flux n).stopAt.any stop

/-- The ignored command is counted (R368). -/
def State.fluxDrop (s : State) (n : Nat) (tag : Tag) : State :=
  ((s.inc (Base.flux n) Reg.Flux.DROP_COUNT).raise (Base.flux n) 4).charge tag Flag.CMD_FAULT

/-- FLUX_PLAY (R365, R368): a PLAY at the step of a STOP cancels the STOP (R179, R366). -/
def execFluxPlay (n : Fin 96) (bad : Bool) (s : State) : Out :=
  match s.dueCmd (s.flux n).queue 0x0 with
  | none => .next s
  | some c =>
    let s := (s.fluxPop n c).fluxCatchUp n c.step
    if s.fluxShut n fun k => decide (k < c.step) then finish (s.fluxDrop n c.tag)
    else
      let i := c.arg % 2 ^ 16
      let e := s.entry i
      let s := s.fluxEntryParity n i bad
      if s.fluxEntryOk n e then
        let p := mkPlay e c.step e.rep c.poster c.tag bad
        let stop := (s.seq c.poster).halted
        finish (((s.fluxCut n c.step).modFlux n fun x =>
          { x with play := some p, stop := stop, stopAt := none }.setTrack c.step (some p)).showFlux n)
      else finish (((s.fluxEntryFault n i c.tag).fluxCut n c.step).showFlux n)

/-- FLEVEL becomes `v` at step `k` by a command (R366). -/
def State.setLevel (s : State) (n k v : Nat) : State :=
  let r := (s.flux n).levelWas.byCmd (s.fld (Base.flux n) Reg.Flux.FLEVEL) k v
  (s.modFlux n fun x => { x with levelWas := r.1 }).setFld (Base.flux n) Reg.Flux.FLEVEL r.2

/-- A register write of FLEVEL, the page already holding the new value (R366). -/
def State.levelWritten (s : State) (n : Nat) (old : Word) : State :=
  let r := (s.flux n).levelWas.byWrite (Reg.Flux.FLEVEL.get old) s.nextStep (s.fld (Base.flux n) Reg.Flux.FLEVEL)
  (s.modFlux n fun x => { x with levelWas := r.1 }).setFld (Base.flux n) Reg.Flux.FLEVEL r.2

/-- FLUX_SET (R366, R368). -/
def execFluxSet (n : Fin 96) (s : State) : Out :=
  match s.dueCmd (s.flux n).queue 0x1 with
  | none => .next s
  | some c =>
    let s := (s.fluxPop n c).fluxCatchUp n c.step
    if s.fluxShut n fun _ => true then finish (s.fluxDrop n c.tag) else finish (s.setLevel n c.step (c.arg % 2 ^ 16))

/-- A normal disable reaches the channel: a continuation already resolved is discarded (R189, R369). -/
def State.fluxEnd (s : State) (n : Nat) : State :=
  s.modFlux n fun x => { x with cont := if x.cont.isSome then some none else none }

/-- FLUX_STOP (R369). -/
def execFluxStop (n : Fin 96) (s : State) : Out :=
  match s.dueCmd (s.flux n).queue 0x2 with
  | none => .next s
  | some c =>
    let s := ((s.fluxPop n c).fluxCatchUp n c.step).fluxEnd n
    finish (s.modFlux n fun x =>
      { x with stop := x.play.isSome, stopAt := if x.play.isSome then some c.step else none })

/-- An immediate disable of the fast part at step `t` (R369). -/
def State.fluxKill (s : State) (n t : Nat) : State :=
  let b := Base.flux n
  let s := s.fluxCatchUp n t
  let x := s.flux n
  let conts := match x.cont with
    | some (some c) => [c]
    | _ => []
  let plays := x.play.toList ++ conts
  let cut := x.queue.filter fun c => c.code == 0x0 || c.code == 0x1
  let s := s.modFlux n fun x =>
    { x with
      play := none, cont := none, stop := false, norm := false, stopAt := none
      queue := x.queue.filter fun c => !(c.code == 0x0 || c.code == 0x1) }.setTrack t none
  let s := (s.setLevel n t 0).addSat b Reg.Flux.TRUNC_COUNT (plays.length + (cut.filter fun c => c.code == 0x0).length)
  let s := s.showFlux n
  if plays.isEmpty && cut.isEmpty then s
  else
    let s := (plays.map Play.tag).foldl (fun s t => s.charge t Flag.TRUNCATED) (s.raise b 2)
    (cut.map TCmd.tag).foldl (fun s t => s.charge t Flag.TRUNCATED) s

/-- FLUX_KILL (R369). -/
def execFluxKill (n : Fin 96) (s : State) : Out :=
  match s.dueCmd (s.flux n).queue 0x3 with
  | none => .next s
  | some c => finish ((s.fluxPop n c).fluxKill n c.step)

/-- FLUX_PLAY_BOUNDARY (R365): the decision point of the play in progress, and then its boundary. -/
def execFluxPlayBoundary (n : Fin 96) (bad : Bool) (s : State) : Out :=
  match (s.flux n).play with
  | none => .next s
  | some p =>
    if (s.flux n).cont.isNone then
      if s.due (p.bound - 4) then finish (s.fluxDecide n bad) else .next s
    else if s.due p.bound then finish (s.fluxBoundary n)
    else .next s

/-- FLUX_REFETCH_COMPLETE (R191, R370). -/
def execFluxRefetchComplete (n : Fin 96) (s : State) : Out :=
  if s.frozen then .next s
  else
    finish (s.modFlux n fun x =>
      { x with
        refetch := s.recordsOut x.refetch
        play := x.play.map s.playBack
        cont := x.cont.map fun c => c.map s.playBack
        track := x.track.map fun e => (e.1, e.2.map s.playBack) })

/-- A write of 1 to ENABLE: it cancels a pending normal disable (R369, R373). -/
def State.fluxEnable (s : State) (n : Nat) : State :=
  if s.enabled (Base.flux n) then s
  else (s.setEnable (Base.flux n) true).modFlux n fun x => { x with norm := false, ringSeen := false }

/-- A write of 0 to ENABLE (R369). -/
def State.fluxDisable (s : State) (n : Nat) : State :=
  if !s.enabled (Base.flux n) then s
  else ((s.setEnable (Base.flux n) false).fluxEnd n).modFlux n fun x => { x with norm := x.play.isSome }

/-- DISABLE_NOW and the other immediate disables that clear ENABLE (R369). -/
def State.fluxDisableNow (s : State) (n : Nat) : State :=
  ((s.fluxKill n s.nextStep).setEnable (Base.flux n) false).calHit 1 n

/-! ### The fast codes -/

/-- Full scale of a range, and of FAST_FS, in units of 0.25 mA (R362, R363). -/
def fluxFs (range : Nat) : Nat := 4 ^ range
def fastFs (fs : Nat) : Nat := 4 ^ fs

/-- RANGE and CODE in force (R362). -/
def State.dcRange (s : State) (n : Nat) : Nat := s.fld (Base.flux n) Reg.Flux.RANGE
def State.dcCode (s : State) (n : Nat) : Int := signed 20 (s.fld (Base.flux n) Reg.Flux.CODE)

/-- The fast part is on: device state, PLL, alignment, a current range, no range change (R78, R363, R368). -/
def State.fastOn (s : State) (n : Nat) : Bool :=
  (s.inDev .ready || s.inDev .running) && (s.fld Base.tl Reg.Tl.TILE_LOCK).testBit (fluxTile n) &&
    s.bit (Base.tile (fluxTile n)) Reg.Tile.ALIGNED && decide (s.dcRange n ≤ 3) && (s.flux n).change.isNone

/-- The limiter of R363. -/
def State.fastLimit (s : State) (n : Nat) (v : Int) : Int :=
  if s.fastOn n then
    let fs : Int := fluxFs (s.dcRange n)
    let d : Int := 16 * fastFs (s.fld (Base.flux n) Reg.Flux.FAST_FS)
    clamp (-((fs * (524288 + s.dcCode n)) / d)) (fs * (524288 - s.dcCode n) / d) v
  else 0

/-- The play that step `x` belongs to. -/
def FluxSt.playAt (x : FluxSt) (k : Nat) : Option Play :=
  match x.track.find? fun e => decide (e.1 ≤ k) with
  | some (_, some p) => if k < p.bound then some p else none
  | _ => none

/-- The record that fails its parity in the granules checked in this period (R370). -/
def fluxFault (fs : List Residue) (n : Nat) : Option (Fin 4) :=
  fs.findSome? fun f => match f with
    | .flux m i => if m.val = n then some i else none
    | _ => none

/-- The granule of the play that holds step `k`. -/
def Play.gran (p : Play) (k : Nat) : Nat := p.start + (k - p.start) / 4 * 4

/-- Granule `g` is found to lack its records: it plays FLEVEL (R191, R370). -/
def State.fluxBad (s : State) (n : Nat) (p : Play) (g : Nat) (parity : Option (Fin 4)) : State :=
  let b := Base.flux n
  let s := match parity with
    | some i =>
      let r := p.e.pbase + (g - p.start) + i
      (((s.err b 0x10 r).raise b 5).modFlux n fun x => { x with refetch := x.refetch ++ [r] }).refetch
        (shadowAt (8 * (r % 2 ^ 22)))
    | none => s
  ((s.inc b Reg.Flux.UNDERRUN_COUNT).raise b 1).charge p.tag Flag.UNDERRUN

/-- What step `k` will play as things stand: the play under way, or its resolved continuation. -/
def FluxSt.toPlay (x : FluxSt) (k : Nat) : Option Play :=
  match x.playAt k with
  | some p => some p
  | none =>
    match x.cont with
    | some (some c) => if c.start ≤ k ∧ k < c.bound then some c else none
    | _ => none

/-- What the check of the granule that holds step `k` of a play has found, once it has been made. -/
def FluxSt.checked (x : FluxSt) (p : Play) (k : Nat) : Option Bool :=
  (x.grans.find? fun e => e.1 == p.start && e.2.1 == p.gran k).map fun e => e.2.2

/-- The check of the granule that holds step `k`, two steps before its first step or as soon as the play has begun: the granule
plays whole or not at all (R191, R370). -/
def State.fluxCheck (s : State) (n k : Nat) (parity : Option (Fin 4)) : State :=
  match ((s.flux n).toPlay k).filter fun p => !p.e.quiet with
  | none => s
  | some p =>
    if ((s.flux n).checked p k).isSome then s
    else
      let g := p.gran k
      let late := (List.range 4).any fun i => (s.flux n).refetch.contains (p.e.pbase + (g - p.start) + i)
      let bad := parity.isSome || p.bad || late
      let s := s.modFlux n fun x => { x with grans := (p.start, g, bad) :: x.grans.take 3 }
      if bad then s.fluxBad n p g parity else s

/-- Channel `n` computes step `k` (R363 to R366). -/
def State.fluxStep (s : State) (fs : List Residue) (n k : Nat) : State :=
  let b := Base.flux n
  let level := signed 16 ((s.flux n).levelWas.at (s.fld b Reg.Flux.FLEVEL) k)
  let p : Option Play := ((s.flux n).playAt k).filter fun p => !p.e.quiet
  let s := (List.range 3).foldl (fun s i => s.fluxCheck n (k + i) (fluxFault fs n)) s
  let want : List Int := (List.range 4).map fun j =>
    match p with
    | some p =>
      if (s.flux n).checked p k = some true then level
      else signed 16 (s.record (p.e.pbase + (k - p.start)) / 2 ^ (16 * j) % 65536)
    | none => level
  let out := want.map (s.fastLimit n)
  let s := s.modFlux n fun x => { x with codes := out }
  let s := if out = want then s else (s.inc b Reg.Flux.FLIM_COUNT).raise b 6
  s.acqFeed 4 n ((out.zipIdx).map fun e => ⟨16 * k + 4 * e.2, e.1, 0⟩)

/-! ### The DC part -/

/-- Range and code come into force; a detection whose conditions have gone is no longer live (R362, R381). -/
def State.setDc (s : State) (n range : Nat) (code : Int) : State :=
  let s := (s.setFld (Base.flux n) Reg.Flux.RANGE range).setFld (Base.flux n) Reg.Flux.CODE (unsigned 20 code)
  s.modFlux n fun x =>
    { x with
      compLive := x.compLive && decide (range ≤ 3)
      openLive := x.openLive && decide (range ≤ 3) && decide (8192 ≤ code.natAbs) }

/-- RAMP_LEFT and QLEVEL as they stand (R387). -/
def State.fluxQueueWord (s : State) (n : Nat) : Nat :=
  let x := s.flux n
  x.dcq.length + 65536 * (match x.ramp with
    | some r => r.n - r.i
    | none => 0)

/-- Queue entries are discarded and counted (R374, R380, R382). -/
def State.qDrop (s : State) (n k : Nat) : State := s.addSat (Base.flux n) Reg.Flux.QDROP_COUNT k

/-- The flush of R380. -/
def State.dcFlush (s : State) (n : Nat) : State :=
  let x := s.flux n
  (s.qDrop n (x.dcq.length + x.direct.isSome.toNat)).modFlux n fun x =>
    { x with dcq := [], direct := none, ramp := none }

/-- The class of a range: current, voltage, high impedance (R377). -/
def rangeClass (r : Nat) : Nat := if r ≤ 3 then 0 else if r ≤ 5 then 1 else 2

/-- A range change asked for at an edge: it starts, or is refused (R377). -/
def State.startRange (s : State) (n range : Nat) (code : Int) : State :=
  let b := Base.flux n
  if rangeClass range ≠ rangeClass (s.dcRange n) ∧ ¬(s.dcCode n = 0 ∧ code = 0) then (s.err b 0x14 range).raise b 13
  else s.modFlux n fun x => { x with change := some ⟨range, code⟩, busyTil := s.ticks + 1250 }

/-- A range change is complete (R377). -/
def State.endRange (s : State) (n : Nat) : State :=
  match (s.flux n).change with
  | none => s
  | some c => ((s.setDc n c.range c.code).modFlux n fun x => { x with change := none, changed := true }).raise (Base.flux n) 7

/-- RANGE_CHANGE_COMPLETE (R377). -/
def execRangeChangeComplete (n : Fin 96) (s : State) : Out :=
  if (s.flux n).change.isSome then finish (s.endRange n) else .next s

/-- An entry of the bias queue that is discarded when it is taken (R374). -/
def dcEntryBad (w : Word) : Bool :=
  let v := w.toNat
  match v / 2 ^ 30 with
  | 0 => v / 2 ^ 20 % 2 ^ 10 != 0
  | 1 => v / 2 ^ 20 % 2 ^ 10 == 0
  | 2 => v / 2 ^ 23 % 2 ^ 7 != 0 || v / 2 ^ 20 % 8 == 7
  | _ => true

/-- A ramp applies its next value (R375). -/
def State.rampStep (s : State) (n : Nat) (r : Ramp) : State :=
  let i := r.i + 1
  let s := s.setDc n (s.dcRange n) (r.p + (r.c - r.p) * i / r.n)
  s.modFlux n fun x => { x with ramp := if r.n ≤ i then none else some { r with i := i } }

/-- The queue head is taken at an edge (R372, R374). -/
def State.takeEntry (s : State) (n : Nat) (w : Word) : State :=
  let b := Base.flux n
  let s := s.modFlux n fun x => { x with dcq := x.dcq.tail }
  let v := w.toNat
  let code := signed 20 (v % 2 ^ 20)
  if dcEntryBad w then ((s.qDrop n 1).err b 0x16 (v % 2 ^ 24)).raise b 11
  else
    match v / 2 ^ 30 with
    | 0 => s.setDc n (s.dcRange n) code
    | 1 => s.rampStep n ⟨s.dcCode n, code, v / 2 ^ 20 % 2 ^ 10, 0⟩
    | _ => s.startRange n (v / 2 ^ 20 % 8) code

/-- A pending DC_DIRECT is applied at an edge (R376). -/
def State.applyDirect (s : State) (n : Nat) (d : Nat × Int) : State :=
  let s := s.modFlux n fun x => { x with direct := none }
  if d.1 = s.dcRange n then s.setDc n d.1 d.2 else s.startRange n d.1 d.2

/-- What an edge does (R374, R378): an underrun is counted also while a range change, a fault sequence or a calibration holds
the output. -/
def State.edgeAct (s : State) (n : Nat) : State :=
  let b := Base.flux n
  let x := s.flux n
  let busy := x.change.isSome || decide (s.ticks < x.busyTil) || s.calHolds 1 n
  match x.ramp, x.direct, x.dcq with
  | none, none, [] => if s.bit b Reg.Flux.CONT then (s.inc b Reg.Flux.UNDERRUN_COUNT).raise b 1 else s
  | some r, _, _ => if busy then s else s.rampStep n r
  | none, some d, _ => if busy then s else s.applyDirect n d
  | none, none, w :: _ => if busy then s else s.takeEntry n w

/-- The present count is an edge of the channel's bias sample clock (R371). -/
def State.biasEdgeDue (s : State) (n : Nat) : Bool :=
  let b := Base.flux n
  s.run && !s.inDev .cellar &&
    ((s.count : Int) - s.fld b Reg.Flux.BCLK_PH) % s.fld b Reg.Flux.BCLK_DIV == 0 &&
    (s.flux n).edgeAt != some s.count

/-- BIAS_EDGE (R374). -/
def execBiasEdge (n : Fin 96) (s : State) : Out :=
  if s.biasEdgeDue n then finish ((s.modFlux n fun x => { x with edgeAt := some s.count }).edgeAct n) else .next s

/-- The bias ring of the channel is valid (R373). -/
def State.biasRingOk (s : State) (n : Nat) : Bool :=
  s.ringValid (s.fld (Base.flux n) Reg.Flux.BIAS_RING) 3 (s.owner (Base.flux n))

/-- Queue entries arrive from a ring entry (R373); while FAULT_HELD they are discarded (R382). -/
def State.biasTake (s : State) (n : Nat) (bs : List Byte) : State :=
  let b := Base.flux n
  let k := ofBytesLE (bs.take 1)
  if k = 0 ∨ 15 < k ∨ ofBytesLE ((bs.drop 1).take 3) ≠ 0 then
    (s.err b 0x16 (ofBytesLE (bs.take 3))).raise b 11
  else if (s.flux n).faultHeld then s.qDrop n k
  else
    let ws := (List.range k).map fun i => BitVec.ofNat 32 (ofBytesLE ((bs.drop (4 + 4 * i)).take 4))
    s.modFlux n fun x => { x with dcq := x.dcq ++ ws }

/-- A ring entry that the channel has asked for is delivered, and consumed (R373). -/
def State.biasIn (s : State) (n r i : Nat) (bs : List Byte) : State :=
  (s.modRing r fun x => { x with cons := (i + 1) % 2 ^ 32 }).biasTake n bs

/-- BIAS_REFILL (R373): while ENABLE = 1, within the budget, the channel asks for one ring entry; its queue entries arrive
when the controller delivers it. -/
def execBiasRefill (n : Fin 96) (s : State) : Out :=
  let b := Base.flux n
  let r := s.fld b Reg.Flux.BIAS_RING
  if !s.enabled b || decide (256 < (s.flux n).dcq.length + 15 * ((s.ring r).asked.length + 1)) || s.dramShut then .next s
  else if !s.biasRingOk n then
    if (s.flux n).ringSeen then .next s
    else finish (((s.err b 0x12 r).raise b 12).modFlux n fun x => { x with ringSeen := true })
  else
    let s := if (s.flux n).ringSeen then s.modFlux n fun x => { x with ringSeen := false } else s
    match (if s.ringUnasked r then s.chargeRes (b + 0x024) (s.limitOf b) else none) with
    | none => .next s
    | some s =>
      let s := s.touchRing r
      let i := (s.ring r).next (s.ring r).cons
      finish (s.ringAsk r i 3 (decide ((s.flux n).dcq.length < 16)) (.bias n r i))

/-- A write of 1 to D_GO with its D_RANGE and D_CODE (R376). A refused write changes nothing. -/
def State.dGoWrite (s : State) (n : Nat) (w : Word) : State :=
  let b := Base.flux n
  let x := s.flux n
  if x.faultHeld then s.err b 0x15 0x200
  else if !x.dcq.isEmpty then s.err b 0x15 x.dcq.length
  else
    let range := if Reg.Flux.D_RANGE.get w = 7 then s.fld b Reg.Flux.D_RANGE else Reg.Flux.D_RANGE.get w
    let s := (s.setFld b Reg.Flux.D_RANGE range).setFld b Reg.Flux.D_CODE (Reg.Flux.D_CODE.get w)
    s.modFlux n fun x => { x with direct := some (range, signed 20 (Reg.Flux.D_CODE.get w)) }

/-- DC_DIRECT_APPLY (R376): a same-range DC_DIRECT while the timeline does not run. -/
def execDcDirectApply (n : Fin 96) (s : State) : Out :=
  let x := s.flux n
  match x.direct with
  | some d =>
    if !s.run && d.1 == s.dcRange n && x.ramp.isNone && x.change.isNone && !s.calHolds 1 n then finish (s.applyDirect n d)
    else .next s
  | none => .next s

/-! ### Faults -/

/-- A fault sequence for a cause, as a bit of FAULT_CAUSE (R382). -/
def State.fluxFaultSeq (s : State) (n cause : Nat) : State :=
  let b := Base.flux n
  let held := (s.flux n).faultHeld
  let s := ((s.endRange n).dcFlush n).calHit 1 n
  let s := (s.modFlux n fun x => { x with faultHeld := true }).raise b 10
  let s := s.setFld b Reg.Flux.FAULT_CAUSE ((if held then s.fld b Reg.Flux.FAULT_CAUSE else 0) ||| 2 ^ cause)
  let code := signed 20 (s.fld b Reg.Flux.FLT_CODE)
  let range := s.fld b Reg.Flux.FLT_RANGE
  if range = s.dcRange n then s.setDc n range code
  else (s.setDc n (s.dcRange n) 0).modFlux n fun x => { x with change := some ⟨range, code⟩, busyTil := s.ticks + 1250 }

/-- COMPLIANCE (R381, R382). -/
def execCompliance (n : Fin 96) (s : State) : Out :=
  if s.dcRange n ≤ 3 then
    let s := (s.modFlux n fun x => { x with compLive := true }).raise (Base.flux n) 8
    finish (if s.bit (Base.flux n) Reg.Flux.COMP_ACT then s.fluxFaultSeq n 1 else s)
  else .next s

/-- COMPLIANCE_CLEAR (R381). -/
def execComplianceClear (n : Fin 96) (s : State) : Out :=
  finish (s.modFlux n fun x => { x with compLive := false, openLive := false })

/-- OPEN_DETECT (R381, R382): the output is in compliance at a commanded current of at least FS ÷ 64; that the measured
current is too small is the event itself. -/
def execOpenDetect (n : Fin 96) (s : State) : Out :=
  if s.dcRange n ≤ 3 && (s.flux n).compLive && decide (8192 ≤ (s.dcCode n).natAbs) then
    let s := (s.modFlux n fun x => { x with openLive := true }).raise (Base.flux n) 9
    finish (if s.bit (Base.flux n) Reg.Flux.OPEN_ACT then s.fluxFaultSeq n 0 else s)
  else .next s

/-- A cause of a fault sequence is live (R382): OPEN and COMPLIANCE where they act, the reference, the tile's supply,
Shutdown. -/
def State.fluxCauseLive (s : State) (n : Nat) : Bool :=
  let b := Base.flux n
  let x := s.flux n
  (x.openLive && s.bit b Reg.Flux.OPEN_ACT) || (x.compLive && s.bit b Reg.Flux.COMP_ACT) || x.refLive ||
    (s.fld Base.pwr Reg.Pwr.SUPPLY_LIVE).testBit (1 + fluxTile n) || s.inDev .shutdown

/-- A write of 1 to FAULT_CLR (R382). -/
def State.faultClear (s : State) (n : Nat) : State :=
  if s.fluxCauseLive n then s else s.modFlux n fun x => { x with faultHeld := false }

/-- The always-on supply is valid (R19, R521). -/
def State.alwaysOn (s : State) : Bool := !s.inDev .off

/-- MONITOR_MEASURE (R383): while OPEN is live both words keep the last good value. -/
def execMonitorMeasure (n : Fin 96) (v i : Int) (s : State) : Out :=
  if !s.alwaysOn then .next s else
  let b := Base.flux n
  let x := s.flux n
  let s := if x.openLive then s
    else (s.setFld b Reg.Flux.MON_V (unsigned 24 v)).setFld b Reg.Flux.MON_I (unsigned 25 i)
  let s := (s.setBit b Reg.Flux.OPEN x.openLive).setBit b Reg.Flux.COMPLIANCE x.compLive
  finish ((s.setBit b Reg.Flux.RANGE_CHANGED x.changed).modFlux n fun x => { x with changed := false })

/-! ### Power-up and NVM -/

/-- DC_POWER_UP (R379): with a valid always-on supply, after POR_N is released. `good` says that the NVM record passes its
check. -/
def execDcPowerUp (n : Fin 96) (good : Bool) (s : State) : Out :=
  let b := Base.flux n
  if (s.flux n).powered || !s.alwaysOn || s.power.por then .next s
  else
    let s := s.modFlux n fun x => { x with powered := true }
    match (s.flux n).nvm.filter fun _ => good with
    | none => finish (s.raise b 14)
    | some (pu, flt) =>
      let s := (s.setReg (b + 0x074) pu).setReg (b + 0x078) flt
      finish (s.setDc n (Reg.Flux.PU_RANGE.get pu) (signed 20 (Reg.Flux.PU_CODE.get pu)))

/-- A write of 1 to NVM_STORE (R387). -/
def State.fluxStore (s : State) (n : Nat) : State :=
  let b := Base.flux n
  let x := s.flux n
  if x.storing.isSome then s
  else if 10000 ≤ x.stores then s.err b 0x17 x.stores
  else
    (s.setBit b Reg.Flux.NVM_BUSY true).modFlux n fun x =>
      { x with storing := some (s.reg (b + 0x074), s.reg (b + 0x078)), stores := x.stores + 1 }

/-- FLUX_NVM_STORE_COMPLETE (R387). -/
def execFluxNvmStoreComplete (n : Fin 96) (s : State) : Out :=
  match (s.flux n).storing with
  | none => .next s
  | some w =>
    finish ((s.setBit (Base.flux n) Reg.Flux.NVM_BUSY false).modFlux n fun x => { x with storing := none, nvm := some w })

/-! ### Reading -/

/-- STAT of a flux page. -/
def State.fluxStat (s : State) (n : Nat) : Nat :=
  let x := s.flux n
  (x.play.isSome || !x.queue.isEmpty || !x.dcq.isEmpty || x.ramp.isSome || x.change.isSome || x.direct.isSome).toNat +
    2 * (x.compLive || x.openLive).toNat + 4 * x.play.isSome.toNat + 8 * (x.stop || x.norm).toNat +
    16 * x.ramp.isSome.toNat + 32 * x.change.isSome.toNat + 64 * x.faultHeld.toNat

/-- The fields marked Idle may be written (R387). -/
def State.dcIdle (s : State) (n : Nat) : Bool :=
  let x := s.flux n
  x.dcq.isEmpty && x.ramp.isNone && x.direct.isNone

/-- The entries that a flux channel makes active (R185, R364). -/
def FluxSt.entries (x : FluxSt) : List Nat :=
  (x.play.toList.map fun p => p.e.idx) ++
  (match x.cont with
    | some (some c) => [c.e.idx]
    | _ => []) ++
  ((x.queue.filter fun c => c.code == 0x0).map fun c => c.arg % 2 ^ 16)

end Sys2Proof.Machine
end

