-- ==== Sys2Proof/Machine/Output.lean ====
section
/-!
DEFINITION. The samples of the tone engines (R158 to R168, R192) and chapter 07: the output channels.
-/
namespace Sys2Proof.Machine

/-! ### The samples of a tone engine -/

/-- The granule that plays in step `x`. -/
def granAt (gs : List Gran) (x : Nat) : Option Gran :=
  (gs.filter fun g => decide (g.start ≤ x ∧ x < g.stop)).getLast?

/-- Sample `j` of a step played from a record (R161, R163, R164): amplitude before, record, phase register, frame, ACC at
sample 0 of the step. -/
def toneSample (aPrev : Int) (rec phaseReg frame acc j : Nat) : Cplx :=
  let amp := signed 16 (rec % 2 ^ 16)
  let phase := rec / 2 ^ 16 % 2 ^ 16
  let freq := rec / 2 ^ 32
  let a := (aPrev * (3 - j) + amp * (j + 1)) / 4
  let θ := ((acc + freq * j) % 2 ^ 32 / 2 ^ 16 + phase + phaseReg + (if frame / 2 = 1 then 0x8000 else 0)) % 2 ^ 16
  let i := min 32767 (a * cosTab θ / 131072)
  let q := min 32767 (a * sinTab θ / 131072)
  if frame % 2 = 1 then (q, i) else (i, q)

/-- What the residue checks of one step make of its samples (R192). -/
inductive Lanes where
  | good
  /-- One lane failed and the recompute matched. -/
  | recomputed
  /-- The step is zero. -/
  | zero
deriving DecidableEq, Repr

/-- Judge the failing lanes of a step (R192). -/
def judgeLanes (l : BitVec 5) : Lanes :=
  let low := ((List.range 4).filter fun i => l.getLsbD i).length
  if low = 0 then .good
  else if low = 1 && !l.getLsbD 4 then .recomputed
  else .zero

/-- The failing lanes that the faults of this period give engine `n` in half `h`. -/
def toneLanes (fs : List Residue) (n h : Nat) : BitVec 5 :=
  fs.foldl (fun l f =>
    match f with
    | .tone m k x => if m.val = n ∧ k.val = h then l ||| x else l
    | _ => l) 0

/-- The failing lanes of the sum of channel `k` in half `h`. -/
def sumLanes (fs : List Residue) (k h : Nat) : BitVec 5 :=
  fs.foldl (fun l f =>
    match f with
    | .sum m i x => if m.val = k ∧ i.val = h then l ||| x else l
    | _ => l) 0

/-- A history of samples with new ones put in front, cut to the length a filter needs; no list when all are zero. -/
def pushHist (n : Nat) (hist new : List Cplx) : List Cplx :=
  let l := (new.reverse ++ hist).take n
  if l.all fun c => c == (0, 0) then [] else l

/-- One output sample of the fractional delay, from the samples up to it, newest first (R167). -/
def delaySample (d : Nat) (hist : List Cplx) : Cplx :=
  if d % 8 = 0 then (hist.drop (d / 8)).headD (0, 0)
  else if hist.all fun c => c == (0, 0) then (0, 0)
  else Config.fracDelay (d % 8) (hist.drop (d / 8))

/-- The delayed sample with its distance in samples from the last change of FDELAY: within 16 samples it combines the
old and the new phase (R167). -/
def delayMix (old d : Nat) (since : Option Nat) (hist : List Cplx) : Cplx :=
  match since with
  | some k =>
    if k < 16 ∧ old ≠ d ∧ !(hist.all fun c => c == (0, 0)) then Config.fracMix old d k hist else delaySample d hist
  | none => delaySample old hist

/-- Engine `n` computes step `x`: the undelayed samples, before the residue checks (R161 to R164). -/
def State.toneRaw (s : State) (n x : Nat) : List Cplx × ToneSt :=
  let t := s.tone n
  match granAt t.grans x with
  | some g =>
    match g.recs[x - g.start]? with
    | some rec =>
      let freq := rec / 2 ^ 32
      let acc := if g.coh ∧ x = g.start then freq * (4 * x) % 2 ^ 32 else t.acc
      let ph := t.phaseWas.at (s.fld (Base.tone n) Reg.Tone.PHASE_REG) x
      ((List.range 4).map fun j => toneSample t.aPrev rec ph g.frame acc j,
        { t with
          acc := (acc + 4 * freq) % 2 ^ 32
          accStep := acc
          freq := freq
          aPrev := signed 16 (rec % 2 ^ 16)
          buf := if g.strm then t.buf.tail else t.buf
          playing := some g.tag })
    | none =>
      (List.replicate 4 (0, 0),
        { t with acc := (t.acc + 4 * t.freq) % 2 ^ 32, accStep := t.acc, aPrev := 0, playing := some g.tag })
  | none =>
    (List.replicate 4 (0, 0),
      { t with acc := (t.acc + 4 * t.freq) % 2 ^ 32, accStep := t.acc, aPrev := 0, playing := none })

/-- A step of the engine is zeroed, or a recompute succeeded (R192). -/
def State.toneGuard (s : State) (n : Nat) (l : BitVec 5) (tag : Tag) : State :=
  let b := Base.tone n
  match judgeLanes l with
  | .good => s
  | .recomputed => (s.inc b Reg.Tone.RECOMP_COUNT).err b 0x10 l.toNat
  | .zero => (((s.inc b Reg.Tone.MUTE_COUNT).err b 0x10 l.toNat).raise b 4).charge tag Flag.GUARD_MUTE

/-- Engine `n` computes step `x` (half `h`), and its delayed samples go to the channel sum (R158 to R168, R192). -/
def State.toneStep (s : State) (fs : List Residue) (n h x : Nat) : State × List Cplx :=
  let l := toneLanes fs n h
  let raw := s.toneRaw n x
  let zero := judgeLanes l == .zero
  let smp := if zero then List.replicate 4 (0, 0) else raw.1
  let t := raw.2
  let hist := t.hist
  let d := s.fld (Base.tone n) Reg.Tone.FDELAY
  let since (j : Nat) : Option Nat := if x < t.delayWas.step then none else some (4 * (x - t.delayWas.step) + j)
  let out := (List.range 4).map fun j =>
    delayMix t.delayWas.old d (since j) ((smp.take (j + 1)).reverse ++ hist)
  let t := { t with
    aPrev := if zero then 0 else t.aPrev
    hist := pushHist 24 hist smp
    grans := t.grans.filter fun g => decide (x + 1 < g.stop) }
  let tag : Tag := t.playing.getD none
  (((s.modTone n fun _ => t).toneGuard n l tag).notePanic n, out)

/-- The sum of two lists of samples, sample by sample. -/
def addSamples (a b : List Cplx) : List Cplx := (a.zip b).map fun p => (p.1.1 + p.2.1, p.1.2 + p.2.2)

/-- The engines of a channel that hold anything but their reset state; the others contribute zero. -/
def State.liveTones (s : State) (k : Nat) : List Nat := (outTones k).filter fun n => (SMap.find? s.tones n).isSome

/-- The faults of this period name engine `n`. -/
def toneNamed (fs : List Residue) (n : Nat) : Bool :=
  fs.any fun f => match f with
    | .tone m _ _ => m.val == n
    | _ => false

/-- The faults of this period name the sum of channel `k`, or one of its engines. -/
def outNamed (fs : List Residue) (k : Nat) : Bool :=
  (outTones k).any (toneNamed fs) ||
    fs.any fun f => match f with
      | .sum m _ _ => m.val == k
      | _ => false

/-- The channel sum of step `x` (R168). -/
def State.channelSum (s : State) (fs : List Residue) (k h x : Nat) : State × List Cplx :=
  ((outTones k).filter fun n => (SMap.find? s.tones n).isSome || toneNamed fs n).foldl (fun p n =>
    let r := p.1.toneStep fs n h x
    (r.1, addSamples p.2 r.2)) (s, List.replicate 4 (0, 0))

/-- The residue checks of a step of the channel sum: the channel's page records the failing lanes, and in a step that is
zeroed every engine that was playing sets GUARD_MUTE (R35, R192; assumption log 65). -/
def State.sumGuard (s : State) (k : Nat) (l : BitVec 5) : State :=
  match judgeLanes l with
  | .good => s
  | .recomputed => s.err (Base.out k) 0x10 l.toNat
  | .zero =>
    (s.liveTones k).foldl (fun s n =>
      match (s.tone n).playing with
      | some tag => (s.raise (Base.tone n) 4).charge tag Flag.GUARD_MUTE
      | none => s) (s.err (Base.out k) 0x10 l.toNat)

/-! ### The signal chain of a channel -/

/-- Scale one component of the sum (R196). -/
def scaleRaw (gain shift : Nat) (v : Int) : Int := v * gain / 2 ^ (16 + shift)

/-- A number limited to ±32,767 (R196). -/
def lim15 (v : Int) : Int := clamp (-32767) 32767 v

/-- GAIN, SHIFT and NCO_PHASE in force (R206). -/
def State.outSet (s : State) (k : Nat) : Nat × Nat × Nat :=
  (s.outCh k).inForce.getD (0xFFFF, if k < 32 then 3 else 4, 0)

/-- Division rounded to nearest, ties away from zero (R197, R227, R229). -/
def roundDiv (a : Int) (d : Nat) : Int :=
  if 0 ≤ a then (2 * a + d) / (2 * d) else -((2 * -a + d) / (2 * d))

/-- A complex sample limited to ±32,767 in each part. -/
def limC (c : Cplx) : Cplx := (lim15 c.1, lim15 c.2)

/-- Entry `i` of a history whose zero tail is not listed. -/
def histAt (h : List Cplx) (i : Nat) : Cplx := h.getD i (0, 0)

/-- The two outputs that stage `i` of the interpolator makes of its last inputs, before the limit: a half-band stage passes
an input sample on, and forms the sample half-way to the next from its coefficients, rounded (R197; assumption log 20). -/
def interpPair (i : Nat) (h : List Cplx) : Cplx × Cplx :=
  if h.isEmpty then ((0, 0), (0, 0))
  else
    let cs := Config.interpTaps i
    let n := cs.length
    let mid (f : Cplx → Int) : Int :=
      roundDiv ((cs.zipIdx.map fun e => e.1 * (f (histAt h (n - 1 - e.2)) + f (histAt h (n + e.2)))).sum) (2 ^ Config.interpBits)
    (histAt h n, (mid Prod.fst, mid Prod.snd))

/-- Stage `i` of the interpolator takes samples: its inputs kept, its outputs, whether one was limited (R197). -/
def interpStage (i : Nat) : List Cplx → List Cplx → List Cplx × List Cplx × Bool
  | h, [] => (h, [], false)
  | h, x :: xs =>
    let h := pushHist 64 h [x]
    let raw := interpPair i h
    let y := (limC raw.1, limC raw.2)
    let r := interpStage i h xs
    (r.1, y.1 :: y.2 :: r.2.1, raw != y || r.2.2)

/-- The three stages of ×2 take the samples of a step: the inputs each keeps, the 32 outputs, whether a sample was limited
(R197). -/
def interp8 (up : List (List Cplx)) (smp : List Cplx) : List (List Cplx) × List Cplx × Bool :=
  let a := interpStage 0 (up.getD 0 []) smp
  let b := interpStage 1 (up.getD 1 []) a.2.1
  let c := interpStage 2 (up.getD 2 []) b.2.1
  ([a.1, b.1, c.1], c.2.1, a.2.2 || b.2.2 || c.2.2)

/-- The mixer's output for DAC sample `n`, before the limit (R198). -/
def mixRaw (freq phase n : Nat) (c : Cplx) : Int :=
  let φ := (freq * n + phase * 2 ^ 32) % 2 ^ 48 / 2 ^ 30
  (c.1 * cosOf (2 ^ 18) φ - c.2 * sinOf (2 ^ 18) φ) / 131072

/-- Scale the samples of a step and negate Q in mix-mode (R196, R202); whether one was limited. -/
def scaleStep (gain shift mode : Nat) (sum : List Cplx) : List Cplx × Bool :=
  let raw := sum.map fun c => (scaleRaw gain shift c.1, scaleRaw gain shift c.2)
  let out := raw.map fun c => (lim15 c.1, lim15 c.2)
  (out.map fun c => if mode = 1 then (c.1, -c.2) else c, raw != out)

/-- The 32 codes of step `x` from its interpolated samples (R198, R200); whether a sample was limited. -/
def outCodes (freq phase x : Nat) (ys : List Cplx) : List Int × Bool :=
  let zs := ys.zipIdx.map fun e => mixRaw freq phase (32 * x + e.2) e.1
  (zs.map fun y => lim15 y / 4, zs.any fun y => y != lim15 y)

/-- NCO_FREQ in force (R206). -/
def State.ncoFreq (s : State) (k : Nat) : Nat := s.fld64 (Base.out k) Reg.Out.NCO_CUR_LO Reg.Out.NCO_CUR_HI

/-- Samples that find the channel not in Emit are replaced by zero (R210). -/
def State.outDrop (s : State) (k : Nat) : State :=
  let s := (s.inc (Base.out k) Reg.Out.DROP_COUNT).raise (Base.out k) 1
  (s.liveTones k).foldl (fun s n =>
    match (s.tone n).playing with
    | some tag => s.charge tag Flag.SPOILED
    | none => s) s

/-- The samples of a step as an acquisition unit records them (R341); the negation of mix-mode is undone. -/
def loopBack (mode x : Nat) (smp : List Cplx) : List AcqSample :=
  (smp.zip (List.range 4)).map fun p => ⟨4 * (4 * x + p.2), p.1.1, if mode = 1 then -p.1.2 else p.1.2⟩

/-- The foreground calibration holds channel `k` in the present count: from the frame boundary at which the hold begins, to
the one at which it ends (R213, R510, R511). The period of a boundary's count computes its samples before the rows that mark
the hold in the page. -/
def State.outHeld (s : State) (k : Nat) : Bool :=
  match s.cal.job with
  | some j =>
    let edge (c : Nat) : Bool := s.run && s.count % 256 == 0 && decide (c ≤ s.count)
    j.kind == 3 && j.idx == k &&
      match j.start with
      | none => edge (j.go + 256)
      | some c => !edge (c + 250000)
  | none => false

/-- Channel `k` computes step `x` (R195 to R200, R210). -/
def State.outStep (s : State) (fs : List Residue) (k h x : Nat) : State :=
  let r := s.channelSum fs k h x
  let l := sumLanes fs k h
  let s := r.1.sumGuard k l
  let sum := if judgeLanes l == .zero then List.replicate 4 (0, 0) else r.2
  if (s.outCh k).phase == .emit && !s.outHeld k then
    let set := s.outSet k
    let mode := s.fld (Base.out k) Reg.Out.MODE
    let sc := scaleStep set.1 set.2.1 mode sum
    let up := interp8 (s.outCh k).up sc.1
    let cs := outCodes (s.ncoFreq k) set.2.2 x up.2.1
    let s := s.modOut k fun o =>
      { o with
        up := if up.1.all List.isEmpty then [] else up.1
        codes := (if h = 0 then [] else o.codes) ++ cs.1 }
    let s := if sc.2 || up.2.2 || cs.2 then (s.inc (Base.out k) Reg.Out.SAT_COUNT).raise (Base.out k) 0 else s
    s.acqFeed 3 k (loopBack mode x sc.1)
  else
    let s := s.modOut k fun o => { o with up := [], codes := [] }
    let s := if s.outHeld k || sum.all fun c => c == (0, 0) then s else s.outDrop k
    s.acqFeed 3 k (loopBack 0 x (List.replicate 4 (0, 0)))

/-! ### Settings -/

/-- The pending values come into force (R206). -/
def State.outApply (s : State) (k : Nat) : State :=
  let b := Base.out k
  let s := s.modOut k fun o =>
    { o with
      inForce := some (s.fld b Reg.Out.GAIN, s.fld b Reg.Out.SHIFT, s.fld b Reg.Out.NCO_PHASE)
      pend := none }
  s.setFld64 b Reg.Out.NCO_CUR_LO Reg.Out.NCO_CUR_HI (s.outCh k).freq

/-- Pending values written at count `w` come into force at the frame boundary of the present count (R206). -/
def State.pendDue (s : State) (w : Option Nat) : Bool :=
  match w with
  | some c => decide (c + 256 ≤ s.count)
  | none => false

/-- A write reaches a setting in the count of a frame boundary that has still to be carried out: the boundary takes the
values held before it (R206). -/
def State.atBoundary (s : State) : Bool := s.run && s.count % 256 == 0 && s.frameAt != some s.count

/-- Before a write of a setting: a boundary of the same cycle takes the older values (R206). -/
def State.outBeforeWrite (s : State) (k : Nat) : State :=
  if s.atBoundary && s.pendDue (s.outCh k).pend then s.outApply k else s

/-- After a write of GAIN, SHIFT or NCO_PHASE, or of NCO_FREQ_HI, which completes the pair (R206). -/
def State.outWritten (s : State) (k : Nat) (hi : Bool) : State :=
  let b := Base.out k
  s.modOut k fun o =>
    { o with
      pend := some s.count
      freq := if hi then s.fld64 b Reg.Out.NCO_FREQ_LO Reg.Out.NCO_FREQ_HI else o.freq }

/-! ### Output states -/

/-- Put a channel into a phase, with its OUT_STATE (R208); a held channel reads Zero (R511). -/
def State.outPhase (s : State) (k : Nat) (p : OutPhase) : State :=
  let code := if s.calHolds 3 k then 1 else match p with
    | .off => 0
    | .rising => 0
    | .emit => 2
    | _ => 1
  (s.modOut k fun o => { o with phase := p }).setFld (Base.out k) Reg.Out.OUT_STATE code

/-- The output of a channel can rise: Ready or Running, the tile's PLL locked, and the tile aligned (R78, R209). -/
def State.outMay (s : State) (k : Nat) : Bool :=
  (s.inDev .ready || s.inDev .running) && s.bit (Base.tile (outTile k)) Reg.Tile.LOCK &&
    s.bit (Base.tile (outTile k)) Reg.Tile.ALIGNED

/-- A write of 1 to ENABLE (R210, R211, R212). A disable that has taken effect at its boundary runs on to Off, and the output
then rises. -/
def State.outEnable (s : State) (k : Nat) : State :=
  let b := Base.out k
  let o := s.outCh k
  let s := s.setEnable b true
  if o.norm then s.modOut k fun o => { o with norm := false }
  else
    match o.phase with
    | .off => if s.outMay k then s.outPhase k .rising else s
    | _ => s

/-- A write of 0 to ENABLE (R211). -/
def State.outDisable (s : State) (k : Nat) : State :=
  let s := s.setEnable (Base.out k) false
  match (s.outCh k).phase with
  | .rising => s.modOut k fun o => { o with norm := true }
  | .settling => s.modOut k fun o => { o with norm := true }
  | .emit => s.modOut k fun o => { o with norm := true }
  | _ => s

/-- The immediate disable of a channel (R212): every engine of the channel receives its own, and the output is zero. -/
def State.outKill (s : State) (k : Nat) : State :=
  let s := (outTones k).foldl (fun s n => if (SMap.find? s.tones n).isSome then s.toneKill n s.nextStep else s) s
  let s := (s.setEnable (Base.out k) false).calHit 3 k
  let s := (s.acqSourceKill 3 k).modOut k fun o => { o with norm := false }
  match (s.outCh k).phase with
  | .off => s
  | .rising => s.outPhase k .off
  | .killed _ => s
  | _ => s.outPhase k (.killed (s.nextStep / 2))

/-- DISABLE_NOW of a channel reads 1 until the output reaches Off (R212). -/
def State.outKillNow (s : State) (k : Nat) : State :=
  let s := s.outKill k
  match (s.outCh k).phase with
  | .killed _ => s.setBit (Base.out k) Reg.Hdr.DISABLE_NOW true
  | _ => s

/-- The output reaches Off after a disable; an ENABLE written meanwhile lets it rise again (R211, R212). -/
def State.outReachOff (s : State) (k : Nat) : State :=
  let b := Base.out k
  let s := ((s.outPhase k .off).setBit b Reg.Hdr.DISABLE_NOW false).raise b 4
  if s.enabled b && s.outMay k then s.outPhase k .rising else s

/-- No tone engine of the channel plays and none has a continuation resolved (R211). -/
def State.outQuiet (s : State) (k : Nat) : Bool :=
  (s.liveTones k).all fun n => (s.tone n).play.isNone && (s.tone n).cont.isNone

/-- What a frame boundary does to a channel (R206, R210, R211, R212). -/
def State.outBoundary (s : State) (k : Nat) : State :=
  let s := if s.pendDue (s.outCh k).pend then s.outApply k else s
  let ends := (s.outCh k).norm && s.outQuiet k
  let fall := (s.modOut k fun o => { o with norm := false }).outPhase k .falling
  match (s.outCh k).phase with
  | .off => s
  | .rising => if ends then fall else s.outPhase k .settling
  | .settling => if ends then fall else s.outPhase k .emit
  | .emit => if ends then fall else s
  | .falling => s.outReachOff k
  | .killed c => if c + 256 ≤ s.count then s.outReachOff k else s

/-- A frame boundary reaches a channel, once in its period: the period that computes the samples of the boundary's count
takes it first, so that they are those after it (R206; assumption log 4). -/
def State.outFrame (s : State) (k : Nat) : State :=
  if (s.outCh k).framed = some s.ticks then s
  else (s.modOut k fun o => { o with framed := some s.ticks }).outBoundary k

/-- The device enters Ready: a channel left enabled rises (R210). -/
def State.outEnterReady (s : State) (k : Nat) : State :=
  if s.enabled (Base.out k) && (s.outCh k).phase == .off && s.outMay k then s.outPhase k .rising else s

/-- A disable of the channel is under way (R211, R212). -/
def OutSt.disabling (o : OutSt) : Bool :=
  o.norm || match o.phase with
    | .falling => true
    | .killed _ => true
    | _ => false

/-- The device enters a state in which the output is Off, or the tile's PLL is unlocked (R209). A disable under way is
complete with it (R215; assumption log 61). -/
def State.outCells (s : State) (k : Nat) : State :=
  let o := s.outCh k
  if o.phase == .off then s
  else
    let s := ((s.modOut k fun o => { o with norm := false }).outPhase k .off).setBit (Base.out k) Reg.Hdr.DISABLE_NOW false
    if o.disabling then s.raise (Base.out k) 4 else s

/-- DAC_CLOCK_MISSING (R214): an immediate disable, CLK_FAULT and code 0x12. -/
def execDacClockMissing (k : Fin 48) (s : State) : Out :=
  let s := (s.outKill k).modOut k fun o => { o with clkFault := true }
  finish ((s.err (Base.out k) 0x12 0).raise (Base.out k) 2)

/-- STAT of an output page. -/
def State.outStat (s : State) (k : Nat) : Nat :=
  let o := s.outCh k
  let killed := match o.phase with
    | .killed _ => true
    | _ => false
  (s.fld (Base.out k) Reg.Out.OUT_STATE != 0 || o.norm || killed).toNat + 2 * o.clkFault.toNat +
    4 * (o.norm || killed).toNat + 8 * o.pend.isSome.toNat

end Sys2Proof.Machine
end

