-- ==== Sys2Proof/Machine/Readout.lean ====
section
/-!
DEFINITION. Chapter 08: the ADCs, the down-converters, and the read-out tones' delay, NCO, decimation and FIR.
-/
namespace Sys2Proof.Machine

/-! ### ADC states -/

/-- IN_STATE of a phase; a killed ADC keeps what it shows until it is Off (R239, R243). -/
def AdcPhase.code (p : AdcPhase) (now : Nat) : Nat :=
  match p with
  | .off => 0
  | .rising => 0
  | .settling => 1
  | .running => 2
  | .killed _ => now

/-- The last interval in which the ADC was Running ends before step `t`. -/
def AdcSt.closeRun (x : AdcSt) (t : Nat) : AdcSt :=
  match x.runs with
  | (f, none) :: rs => { x with runs := (f, some t) :: rs }
  | _ => x

/-- The ADC is Running from step `t`. -/
def AdcSt.openRun (x : AdcSt) (t : Nat) : AdcSt := { x with runs := ((t, none) :: x.runs).take 3 }

/-- The ADC was Running in step `k` (R239). -/
def State.adcRan (s : State) (a k : Nat) : Bool :=
  (s.adcCh a).runs.any fun r => decide (r.1 ≤ k) && (r.2.all fun t => decide (k < t))

/-- Put an ADC into a phase, with its IN_STATE; a held one reads Held (R511). -/
def State.adcPhase (s : State) (a : Nat) (p : AdcPhase) : State :=
  let now := s.fld (Base.adc a) Reg.Adc.IN_STATE
  (s.modAdc a fun x => { x with phase := p }).setFld (Base.adc a) Reg.Adc.IN_STATE (if s.calHolds 4 a then 3 else p.code now)

/-- The tile of ADC `a`. -/
def adcTile (a : Nat) : Nat := 4 + a / 8

/-- The ADC can leave Off: Ready or Running, and the tile's PLL locked (R239). -/
def State.adcMay (s : State) (a : Nat) : Bool :=
  (s.inDev .ready || s.inDev .running) && s.bit (Base.tile (adcTile a)) Reg.Tile.LOCK

/-- A write of 1 to ENABLE (R239). -/
def State.adcEnable (s : State) (a : Nat) : State :=
  let s := (s.setEnable (Base.adc a) true).modAdc a fun x => { x with norm := false }
  if (s.adcCh a).phase == .off && s.adcMay a then s.adcPhase a .rising else s

/-- A write of 0 to ENABLE (R243). -/
def State.adcDisable (s : State) (a : Nat) : State :=
  let s := s.setEnable (Base.adc a) false
  match (s.adcCh a).phase with
  | .off => s
  | .rising => s.adcPhase a .off
  | .killed _ => s
  | _ => s.modAdc a fun x => { x with norm := true }

/-- A disable of the ADC is under way (R243). -/
def AdcSt.disabling (x : AdcSt) : Bool :=
  x.norm || match x.phase with
    | .killed _ => true
    | _ => false

/-- The ADC becomes Off. -/
def State.adcOff (s : State) (a : Nat) : State :=
  if (s.adcCh a).phase == .off then s
  else
    let s := (s.modAdc a fun x => { x.closeRun s.nextStep with norm := false, ball := [], base := [] }).adcPhase a .off
    s.setBit (Base.adc a) Reg.Hdr.DISABLE_NOW false

/-- The ADC becomes Off at once: its device state or its tile does not allow another (R239). A disable under way is
complete with it (R245; assumption log 61). -/
def State.adcCells (s : State) (a : Nat) : State :=
  let x := s.adcCh a
  let s := s.adcOff a
  if x.phase != .off && x.disabling then s.raise (Base.adc a) 4 else s

/-- The ADC reaches Off after a disable; an ENABLE written meanwhile lets it rise again (R243, R245). -/
def State.adcReachOff (s : State) (a : Nat) : State :=
  let s := (s.adcOff a).raise (Base.adc a) 4
  if s.enabled (Base.adc a) && s.adcMay a then s.adcPhase a .rising else s

/-- The device enters Ready with ENABLE = 1 (R239). -/
def State.adcEnterReady (s : State) (a : Nat) : State :=
  if s.enabled (Base.adc a) && (s.adcCh a).phase == .off && s.adcMay a then s.adcPhase a .rising else s

/-- The ADC is held for calibration, or released (R511): Held is no Running. -/
def State.adcHold (s : State) (a : Nat) (on : Bool) : State :=
  let t := s.step0
  if on then
    let s := (s.modAdc a fun x => x.closeRun t).setFld (Base.adc a) Reg.Adc.IN_STATE 3
    s.raise (Base.adc a) 3
  else
    match (s.adcCh a).phase with
    | .running => (s.modAdc a fun x => x.openRun t).adcPhase a .running
    | p => s.setFld (Base.adc a) Reg.Adc.IN_STATE (p.code 1)

/-! ### Settings of an ADC -/

/-- The pending words come into force for samples stamped from step `t` on (R237). -/
def State.adcApply (s : State) (a t : Nat) : State :=
  let b := Base.adc a
  let x := s.adcCh a
  let old := s.fld64 b Reg.Adc.DNCO_CUR_LO Reg.Adc.DNCO_CUR_HI
  let s := s.modAdc a fun y =>
    { y with was := (t, old, x.phaseCur), phaseCur := s.fld b Reg.Adc.DNCO_PHASE, pend := none }
  s.setFld64 b Reg.Adc.DNCO_CUR_LO Reg.Adc.DNCO_CUR_HI x.freq

/-- A boundary of the present count that has still to be carried out takes the values held before a write (R206, R237). -/
def State.adcBeforeWrite (s : State) (a : Nat) : State :=
  if s.atBoundary && s.pendDue (s.adcCh a).pend then s.adcApply a s.step0 else s

/-- After a write of DNCO_PHASE, or of DNCO_FREQ_HI, which completes the pair (R237). -/
def State.adcWritten (s : State) (a : Nat) (hi : Bool) : State :=
  let b := Base.adc a
  s.modAdc a fun x =>
    { x with pend := some s.count, freq := if hi then s.fld64 b Reg.Adc.DNCO_FREQ_LO Reg.Adc.DNCO_FREQ_HI else x.freq }

/-- DNCO_FREQ and DNCO_PHASE that apply to stamp step `k`. -/
def State.dnco (s : State) (a k : Nat) : Nat × Nat :=
  let x := s.adcCh a
  if k < x.was.1 then x.was.2 else (s.fld64 (Base.adc a) Reg.Adc.DNCO_CUR_LO Reg.Adc.DNCO_CUR_HI, x.phaseCur)

/-- STAT of an ADC page. -/
def State.adcStat (s : State) (a : Nat) : Nat :=
  let x := s.adcCh a
  let killed := match x.phase with
    | .killed _ => true
    | _ => false
  (s.fld (Base.adc a) Reg.Adc.IN_STATE != 0).toNat + 2 * x.clkFault.toNat + 4 * (x.norm || killed).toNat +
    8 * x.pend.isSome.toNat

/-! ### The samples of an ADC -/

/-- φ of ADC sample `m` (R222). -/
def ddcPhase (freq phase : Nat) (m : Int) : Nat := ((freq * m + phase * 2 ^ 32) % 2 ^ 48).toNat

/-- Coefficient `k` of the down-converter's 65: the middle one makes the gain at the DNCO frequency 32, so that a real sine of
amplitude A gives a complex tone of magnitude 16 A (R223; assumption log 20). -/
def ddcCoef (k : Nat) : Int :=
  if k = 32 then 2 ^ (Config.ddcBits + 5) - (((List.range 65).filter fun i => i != 32).map Config.ddcTap).sum
  else Config.ddcTap k

/-- The down-converted sample `n` of an ADC before its limit, from the 65 ball samples around ADC sample 4n, newest first:
each is mixed with e^(−j2πφ), the products are filtered and rounded, and Q is negated in ZONE 2 (R222, R223). A silent input
stays silent. -/
def ddcRaw (zone freq phase n : Nat) (ball : List Int) : Cplx :=
  if ball.all fun v => v == 0 then (0, 0)
  else
    let terms := (List.range 65).map fun k =>
      let v := ddcCoef k * ball.getD k 0
      let φ := ddcPhase freq phase (4 * n + 32 - (k : Int)) / 2 ^ 30
      (v * cosOf (2 ^ 18) φ, -(v * sinOf (2 ^ 18) φ))
    let div (v : Int) : Int := roundDiv v (2 ^ (Config.ddcBits + 17))
    let c : Cplx := (div (terms.map Prod.fst).sum, div (terms.map Prod.snd).sum)
    if zone = 2 then (c.1, -c.2) else c

/-- ADC `a` converts the 16 samples of step `x` and computes the down-converted samples of step x − 2, which need the
input up to step x (R218 to R224). -/
def State.adcStep (s : State) (a x : Nat) (codes : List Int) : State :=
  let b := Base.adc a
  let st := s.adcCh a
  if st.phase == .off || st.phase == .rising then s
  else
    let codes := (List.range 16).map fun i => clamp (-2048) 2047 (codes.getD i 0)
    let clip := codes.any fun v => v == -2048 || v == 2047
    let ball := (codes.reverse ++ st.ball).take 96
    let set := s.dnco a (x - 2)
    let raw := (List.range 4).map fun j =>
      ddcRaw (s.fld b Reg.Adc.ZONE) set.1 set.2 (4 * (x - 2) + j) ((ball.drop (15 - 4 * j)).take 65)
    let out := raw.map limC
    let s := s.modAdc a fun y =>
      { y with ball := if ball.all fun v => v == 0 then [] else ball, base := pushHist 280 st.base out }
    let s := if clip then (s.inc b Reg.Adc.OVR_COUNT).raise b 0 else s
    let s := if raw != out then (s.inc b Reg.Adc.DDC_SAT_COUNT).raise b 1 else s
    if s.adcRan a (x - 4) then
      s.acqFeed 1 a ((List.range 16).map fun i => ⟨16 * (x - 4) + i, ball.getD (79 - i) 0, 0⟩)
    else s

/-! ### Settings of a tone -/

/-- The ADC of read-out tone `n`. -/
def routAdc (n : Nat) : Nat := n / 16

/-- The pending words come into force for samples stamped from step `t` on (R237). -/
def State.routApply (s : State) (n t : Nat) : State :=
  let b := Base.rout n
  let x := s.rout n
  let was := (t, s.fld b Reg.Rout.TNCO_CUR, x.phaseCur, s.fld b Reg.Rout.DINT_CUR, s.fld b Reg.Rout.DFRAC_CUR)
  let s := s.modRout n fun y => { y with was := was, phaseCur := s.fld b Reg.Rout.TNCO_PHASE, pend := none }
  let s := s.setFld b Reg.Rout.TNCO_CUR (s.fld b Reg.Rout.TNCO_FREQ)
  (s.setFld b Reg.Rout.DINT_CUR (s.fld b Reg.Rout.DINT)).setFld b Reg.Rout.DFRAC_CUR (s.fld b Reg.Rout.DFRAC)

/-- A boundary of the present count that has still to be carried out takes the values held before a write (R206, R237). -/
def State.routBeforeWrite (s : State) (n : Nat) : State :=
  if s.atBoundary && s.pendDue (s.rout n).pend then s.routApply n s.step0 else s

/-- After a write of TNCO_FREQ, TNCO_PHASE, DINT or DFRAC (R237). -/
def State.routWritten (s : State) (n : Nat) : State := s.modRout n fun x => { x with pend := some s.count }

/-- TNCO_FREQ, TNCO_PHASE, DINT and DFRAC that apply to stamp step `k`. -/
def State.tnco (s : State) (n k : Nat) : Nat × Nat × Nat × Nat :=
  let b := Base.rout n
  let x := s.rout n
  if k < x.was.1 then x.was.2
  else (s.fld b Reg.Rout.TNCO_CUR, x.phaseCur, s.fld b Reg.Rout.DINT_CUR, s.fld b Reg.Rout.DFRAC_CUR)

/-- DLY in units of 1 ÷ 512 ns (R226). -/
def dlyUnits (set : Nat × Nat × Nat × Nat) : Nat := set.2.2.1 * 64 + set.2.2.2

def State.routK (s : State) (n : Nat) : Nat := s.fld (Base.rout n) Reg.Rout.K
def State.firTaps (s : State) (n : Nat) : Nat := s.fld (Base.rout n) Reg.Rout.FIR_TAPS
def State.firGd (s : State) (n : Nat) : Nat := s.fld (Base.rout n) Reg.Rout.FIR_GD

/-- The demand of the tone's FIR (R234). -/
def State.firDemand (s : State) (n : Nat) : Nat := s.firTaps n * 2 ^ (8 - s.routK n)

/-- L of R236 in units of 0.5 ns. -/
def State.routLat (s : State) (n : Nat) : Nat :=
  16 + 5 * (2 ^ s.routK n - 1) + 2 * s.routK n + (if 0 < s.firTaps n then s.firGd n * 2 ^ s.routK n + 4 else 0)

/-- W of R240 in units of 1 ÷ 512 ns. -/
def State.routReach (s : State) (n dly : Nat) : Nat :=
  dly + 2048 + 1280 * (2 ^ s.routK n - 1) +
    (if 0 < s.firTaps n then (s.firTaps n - 1 - s.firGd n) * 2 ^ s.routK n * 256 else 0)

/-! ### The chain -/

/-- The delay filter's output, rotated by −`rot` units of 2^−54 turn and rounded (R226; assumption log 20). -/
def delayRaw (frac : Nat) (rot : Int) (taps : List Cplx) : Cplx :=
  let sum (f : Cplx → Int) : Int := (taps.zipIdx.map fun e => Config.delayTap frac e.2 * f e.1).sum
  let θ := (rot / 2 ^ 36 % 2 ^ 18).toNat
  let co := cosOf (2 ^ 18) θ
  let si := sinOf (2 ^ 18) θ
  let div (v : Int) : Int := roundDiv v (2 ^ (Config.delayBits + 17))
  (div (sum Prod.fst * co + sum Prod.snd * si), div (sum Prod.snd * co - sum Prod.fst * si))

/-- The undelayed 2 GS/s sample `n` delayed by the tone's delay and rotated (R226). `base` holds the down-converted
samples, the newest being number `top`; those that are not offered to the tone, as `ok` says by their number, count as 0
(R239, R240). -/
def delayed (base : List Cplx) (top n dly : Nat) (rot : Int) (ok : Nat → Bool) : Cplx :=
  let taps := (List.range 16).map fun k =>
    let i := n + 7 - dly / 256 - k
    if !ok i ∨ n + 7 < dly / 256 + k then (0, 0) else histAt base (top - i)
  if taps.all fun c => c == (0, 0) then (0, 0) else limC (delayRaw (dly % 256) rot taps)

/-- The tone NCO's product for stamp index `n`, before the limit (R227). -/
def tncoRaw (freq phase n : Nat) (c : Cplx) : Cplx :=
  let θ := (freq * n + phase * 2 ^ 16) % 2 ^ 32 / 2 ^ 14
  let co := cosOf (2 ^ 18) θ
  let si := sinOf (2 ^ 18) θ
  (roundDiv (c.1 * co + c.2 * si) 131072, roundDiv (c.2 * co - c.1 * si) 131072)

/-- One component of a half-band stage before its limit (R228, R229): an 11-tap half-band filter with a gain of 2 at
0 Hz, and the shift. The taps next to the centre but one are zero, and the outer ones follow from the gain. -/
def halfBand (i sh : Nat) (xs : List Int) : Int :=
  let x (k : Nat) : Int := xs.getD k 0
  let h0 := Config.hbOuter i
  let h2 := Config.hbMid i
  let h4 := 2 ^ Config.hbBits - h0 - h2
  roundDiv (h0 * (x 0 + x 10) + h2 * (x 2 + x 8) + h4 * (x 4 + x 6) + 2 ^ (Config.hbBits + 1) * x 5)
    (2 ^ (Config.hbBits + 1 + sh))

/-- A half-band stage applied to a history of complex samples, before the limit. -/
def halfBandC (i sh : Nat) (h : List Cplx) : Cplx :=
  (halfBand i sh (h.map Prod.fst), halfBand i sh (h.map Prod.snd))

/-- What the chain carries through a step: the stages' inputs, the sample that leaves them, and limited samples. -/
structure ChainAcc where
  stages : List (List Cplx)
  sat : Nat

/-- A sample with index `p` enters stage `i` of `i + k` (R228): after the last stage it leaves with its index. `from'` is
the first index of the stage's input. -/
def pushStage (sh : Nat) : Nat → Nat → Nat → Nat → Cplx → ChainAcc → ChainAcc × Option (Nat × Cplx)
  | 0, _, _, p, x, a => (a, some (p, x))
  | k + 1, i, from', p, x, a =>
    let hist := (x :: a.stages.getD (i - 1) []).take 11
    let a := { a with stages := a.stages.set (i - 1) hist }
    if p % 2 = 1 ∧ from' + 5 ≤ p then
      let raw := halfBandC i (sh / 4 ^ (i - 1) % 4) hist
      let y := limC raw
      pushStage sh k (i + 1) (from' / 2) ((p - 5) / 2) y { a with sat := a.sat + (raw != y).toNat }
    else (a, none)

/-- The key of a FIR coefficient. -/
def firKey (n bank j : Nat) : Nat := (n * 2 + bank) * 512 + j

/-- Coefficient `j` of a bank of tone `n`: CI and CQ (R230). -/
def State.firCoef (s : State) (n bank j : Nat) : Int × Int :=
  let w := (SMap.get (fun _ => 0#32) s.fir (firKey n bank j)).toNat
  (signed 16 (w % 65536), signed 16 (w / 65536))

/-- The FIR's output before its limit, from its last inputs, newest first (R230). -/
def State.firRaw (s : State) (n bank : Nat) (hist : List Cplx) : Cplx :=
  let terms := (hist.take (s.firTaps n)).zipIdx.map fun e =>
    let c := s.firCoef n bank e.2
    (e.1.1 * c.1 - e.1.2 * c.2, e.1.1 * c.2 + e.1.2 * c.1)
  let sh := s.fld (Base.rout n) Reg.Rout.FIR_SH
  (roundDiv (terms.map Prod.fst).sum (2 ^ sh), roundDiv (terms.map Prod.snd).sum (2 ^ sh))

/-- The bank in force for a stamp step: the present one, changed back by every swap that acts from a later step (R231). -/
def State.firBank (s : State) (n k : Nat) : Nat :=
  (s.fld (Base.rout n) Reg.Rout.BANK + ((s.rout n).swaps.filter fun f => decide (k < f)).length) % 2

/-- The coefficients of tone `n` that fail their parity in this period, of those in use. -/
def State.coefFaults (s : State) (fs : List Residue) (n : Nat) : List Nat :=
  (fs.filterMap fun f => match f with
    | .coef m j => if m.val = n then some j.val else none
    | _ => none).filter fun j => decide (j < s.firTaps n)

/-- The FIR reads coefficient `j` of a bank and it fails its parity (R232): it is fetched again, and outputs computed with it
are zero until it is back. -/
def State.coefFault (s : State) (n bank j : Nat) : State :=
  let b := Base.rout n
  let k := bank * 512 + j
  if (s.rout n).firRefetch.contains k then s
  else
    let s := s.modRout n fun t => { t with firRefetch := t.firRefetch ++ [k] }
    let s := (s.refetch (shadowAt (firOff + 4 * firKey n bank j))).err b 0x10 k
    ((s.rout n).wins.filter fun w => w.cut.isNone).foldl (fun s w => s.charge w.tag Flag.SPOILED) (s.raise b 1)

/-- A decimated sample enters the FIR, or passes it (R230, R232, R233): the output waits for its offer. -/
def State.firPush (s : State) (fs : List Residue) (n p : Nat) (x : Cplx) : State :=
  let b := Base.rout n
  let taps := s.firTaps n
  if taps = 0 then s.modRout n fun t => { t with outq := t.outq ++ [(p, x, false)] }
  else
    let hist := (x :: (s.rout n).fir).take 384
    let s := s.modRout n fun t => { t with fir := hist }
    let gd := s.firGd n
    if p < gd then s
    else
      let m := p - gd
      let bank := s.firBank n (m * 2 ^ s.routK n / 4)
      let s := (s.coefFaults fs n).foldl (fun s j => s.coefFault n bank j) s
      if (s.rout n).firRefetch.any fun k => k / 512 == bank && decide (k % 512 < taps) then
        (s.inc b Reg.Rout.FIR_ZERO_COUNT).modRout n fun t => { t with outq := t.outq ++ [(m, (0, 0), true)] }
      else
        let raw := s.firRaw n bank hist
        let y := limC raw
        let s := s.modRout n fun t => { t with outq := t.outq ++ [(m, y, false)] }
        if raw != y then (s.inc b Reg.Rout.SAT_COUNT).raise b 0 else s

/-- Sample `p` of the 2 GS/s stream of tone `n` passes delay, NCO and decimation (R226 to R229). -/
def State.toneIn (s : State) (fs : List Residue) (n f p x : Nat) : State :=
  let b := Base.rout n
  let a := routAdc n
  let set := s.tnco n (p / 4)
  let dly := dlyUnits set
  let rot : Int := ((s.dnco a (p / 4)).1 * dly % 2 ^ 54 : Nat)
  let rot := if s.fld (Base.adc a) Reg.Adc.ZONE = 2 then -rot else rot
  let d := delayed (s.adcCh a).base (4 * (x - 2) + 3) p dly rot fun i => decide (4 * f ≤ i) && s.adcRan a (i / 4)
  let raw := tncoRaw set.1 set.2.1 p d
  let y := limC raw
  let acc : ChainAcc := ⟨(List.range 8).map fun i => (s.rout n).stages.getD i [], (raw != y).toNat⟩
  let r := pushStage (s.fld b Reg.Rout.SH) (s.routK n) 1 (4 * f) p y acc
  let s := s.modRout n fun t => { t with stages := r.1.stages }
  let s := if r.1.sat = 0 then s else (s.addSat b Reg.Rout.SAT_COUNT r.1.sat).raise b 0
  match r.2 with
  | some (m, v) => s.firPush fs n m v
  | none => s

/-- An output with stamp index `m` may be offered (R239, R240): its inputs lie after F, and the ADC was Running at its
ball time. -/
def State.mayOffer (s : State) (n f m : Nat) : Bool :=
  let k := s.routK n
  let dly := dlyUnits (s.tnco n (m * 2 ^ k / 4))
  decide (f * 1024 + s.routReach n dly ≤ m * 2 ^ k * 256) && s.adcRan (routAdc n) ((m * 2 ^ k * 256 - dly) / 1024)

/-- The chain of tone `n` computes step `x`: inputs of ball step x − 4 enter, outputs whose time has come are offered
(R217 to R240). -/
def State.chainStep (s : State) (fs : List Residue) (n x : Nat) : State :=
  match (s.rout n).since with
  | none => s.modRout n fun t => { t with offered := [], outq := [] }
  | some f =>
    let s := if f + 4 ≤ x then (List.range 4).foldl (fun s j => s.toneIn fs n f (4 * (x - 4) + j) x) s else s
    let lat := s.routLat n
    let k := s.routK n
    let due (e : Nat × Cplx × Bool) : Bool := decide (e.1 * 2 ^ k + lat < 4 * (x + 1))
    let out := ((s.rout n).outq.filter due).filter fun e => s.mayOffer n f e.1
    let s := s.modRout n fun t => { t with outq := t.outq.filter fun e => !due e, offered := out.map fun e => (e.1, e.2.1) }
    if out.any fun e => e.2.2 then
      ((s.rout n).wins.filter fun w => w.cut.isNone).foldl (fun s w => s.charge w.tag Flag.SPOILED) s
    else s

/-! ### Coefficients -/

/-- A write to the coefficient window (R231): it goes to the bank not in force, and is discarded while SWAP is pending. -/
def State.coefWrite (s : State) (n j : Nat) (w : Word) : State :=
  let b := Base.rout n
  if (s.rout n).swapAt.isSome then (s.err b 0x15 j).raise b 2
  else
    let k := firKey n (1 - s.fld b Reg.Rout.BANK) j
    { s with fir := SMap.set (fun _ => 0#32) s.fir k w }.shadowWrite (s.shadowFn b) (firOff + 4 * k) (bytesLE w.toNat 4)

/-- The coefficient window reads the bank not in force (R231). -/
def State.coefRead (s : State) (n j : Nat) : Word :=
  SMap.get (fun _ => 0#32) s.fir (firKey n (1 - s.fld (Base.rout n) Reg.Rout.BANK) j)

/-- A write of 1 to SWAP (R231). -/
def State.routSwap (s : State) (n : Nat) : State :=
  (s.setBit (Base.rout n) Reg.Rout.SWAP true).modRout n fun t =>
    { t with swapAt := some (t.swapAt.getD s.count) }

/-- FIR_REFETCH_COMPLETE (R37, R232): the coefficients whose reads the controller has delivered are back. -/
def execFirRefetchComplete (n : Fin 256) (s : State) : Out :=
  let out (k : Nat) : Bool := s.refetchOut (shadowAt (firOff + 4 * firKey n (k / 512) (k % 512)))
  if s.frozen then .next s else finish (s.modRout n fun t => { t with firRefetch := t.firRefetch.filter out })

/-- What a frame boundary does to a tone (R231, R237, R240, R242). -/
def State.routFrame (s : State) (n : Nat) : State :=
  let b := Base.rout n
  let s := if s.pendDue (s.rout n).pend then s.routApply n s.step0 else s
  let s :=
    if s.pendDue (s.rout n).swapAt then
      let s := (s.setFld b Reg.Rout.BANK (1 - s.fld b Reg.Rout.BANK)).setBit b Reg.Rout.SWAP false
      (s.modRout n fun t => { t with swapAt := none, swaps := (s.step0 :: t.swaps).take 64 }).raise b 4
    else s
  if (s.rout n).arming then
    s.modRout n fun t => { t with arming := false, since := some s.step0, stages := [], fir := [], outq := [] }
  else s

/-- What a frame boundary does to an ADC (R237, R239, R243). -/
def State.adcFrame (s : State) (a : Nat) : State :=
  let s := if s.pendDue (s.adcCh a).pend then s.adcApply a s.step0 else s
  let quiet := (List.range 16).all fun i =>
    let n := 16 * a + i
    !s.enabled (Base.rout n) && (s.rout n).wins.isEmpty && (s.rout n).queue.isEmpty && !(s.rout n).norm
  match (s.adcCh a).phase with
  | .off => s
  | .rising => s.adcPhase a .settling
  | .settling =>
    if (s.adcCh a).norm && quiet then s.adcReachOff a
    else if s.calHolds 4 a then s.modAdc a fun x => { x with phase := .running }
    else (s.modAdc a fun x => x.openRun s.step0).adcPhase a .running
  | .running => if (s.adcCh a).norm && quiet then s.adcReachOff a else s
  | .killed c => if c + 256 ≤ s.count then s.adcReachOff a else s

end Sys2Proof.Machine
end

