-- ==== Sys2Proof/Machine/Integrator.lean ====
section
/-!
DEFINITION. Chapter 09: integration windows, the discriminator, kernel memory; and the enables and disables of read-out
tones and ADCs (R239 to R243), which reach the windows.
-/
namespace Sys2Proof.Machine

/-! ### Windows -/

/-- The first and the last stamp index of a window (R225, R250); no sample when the last lies before the first. -/
def Win.first (w : Win) (k : Nat) : Nat := (4 * w.start + 2 ^ k - 1) / 2 ^ k
def Win.final (w : Win) (k : Nat) : Nat := (4 * w.last + 3) / 2 ^ k

/-- A window holds no sample. -/
def Win.empty (w : Win) (k : Nat) : Bool := decide (w.last < w.start ∨ w.final k < w.first k)

/-- The stamp of a window's value (R250, R251, R253). -/
def Win.stamp (w : Win) (k : Nat) : Nat := w.cut.getD (if w.empty k then w.start else w.final k * 2 ^ k / 4)

/-- A window that opens at step `k` for `len` steps. -/
def mkWin (k len kstart poster : Nat) (tag : Tag) : Win :=
  ⟨k, k + len - 1, kstart, tag, poster, 0, 0, false, false, none, none, false, 0⟩

/-- A window that delivers NO_DECISION at a step, with a stamp (R253). -/
def refusedWin (k stamp step poster : Nat) (tag : Tag) : Win :=
  ⟨k, k, 0, tag, poster, 0, 0, true, false, some stamp, some (4 * step), false, 0⟩

/-- When a window's value is offered, in units of 0.5 ns, once that is known (R260, R262). -/
def Win.due (w : Win) : Option Nat := w.ready.map fun t => t + w.slip

/-- The window is open: samples or recomputes of it are still to come. -/
def RoutSt.winOpen (t : RoutSt) (w : Win) : Bool :=
  w.cut.isNone && (w.ready.isNone || t.recomps.any fun r => r.win == w.start)

/-- Take the head of a tone's queue for execution through its tile (R105, R121). -/
def State.routPop (s : State) (n : Nat) (c : TCmd) : State :=
  (s.modRout n fun x => { x with queue := x.queue.tail }).useTile c.tag (adcTile (routAdc n)) c.step |>.chargeHeld c.tag 4 (routAdc n)

/-- The head of a tone's queue, when it has the code and its step is due. -/
def State.routDue (s : State) (n code : Nat) : Option TCmd :=
  match (s.rout n).queue with
  | c :: _ => if c.code = code ∧ s.due c.step then some c else none
  | [] => none

/-- Change the window that is open at step `k` and was opened last. -/
def modOpenWin (k : Nat) (f : Win → Win) : List Win → List Win
  | [] => []
  | w :: ws =>
    if ws.any fun v => v.cut.isNone && decide (v.start ≤ k ∧ k ≤ v.last) then w :: modOpenWin k f ws
    else if w.cut.isNone && decide (w.start ≤ k ∧ k ≤ w.last) then f w :: ws
    else w :: modOpenWin k f ws

/-- The window open at a step ends before it (R251). -/
def State.endWin (s : State) (n k : Nat) : State :=
  s.modRout n fun t => { t with wins := modOpenWin k (fun w => { w with last := k - 1 }) t.wins }

/-- The reason for which an OPEN is refused; 0 when it is accepted (R253). -/
def State.openReason (s : State) (n len : Nat) : Nat :=
  if !s.enabled (Base.rout n) || (s.rout n).norm then 1
  else if s.routK n = 0 then 2
  else if len = 0 then 3
  else 0

/-- ROUT_OPEN (R250 to R253). -/
def execRoutOpen (n : Fin 256) (s : State) : Out :=
  match s.routDue n 0x0 with
  | none => .next s
  | some c =>
    let b := Base.rout n
    let s := s.routPop n c
    let len := c.arg % 2 ^ 16
    let r := s.openReason n len
    if r = 0 then
      let s := s.endWin n c.step
      let ks := (s.rout n).kWas.at (s.fld b Reg.Rout.KSTART) c.step
      finish (s.modRout n fun t => { t with wins := t.wins ++ [mkWin c.step len ks c.poster c.tag] })
    else
      let stamp := if len = 0 then c.step else c.step + len - 1
      let s := s.modRout n fun t => { t with wins := t.wins ++ [refusedWin c.step stamp (c.step + 1) c.poster c.tag] }
      finish (((s.err b 0x18 r).raise b 16).charge c.tag Flag.CMD_FAULT)

/-- ROUT_CLOSE (R251). -/
def execRoutClose (n : Fin 256) (s : State) : Out :=
  match s.routDue n 0x1 with
  | none => .next s
  | some c => finish ((s.routPop n c).endWin n c.step)

/-- ROUT_KERNEL (R252): a window that opens in the same step takes the new kernel start. -/
def execRoutKernel (n : Fin 256) (s : State) : Out :=
  match s.routDue n 0x2 with
  | none => .next s
  | some c =>
    let b := Base.rout n
    let s := s.routPop n c
    let v := c.arg % 2 ^ 12
    let r := (s.rout n).kWas.byCmd (s.fld b Reg.Rout.KSTART) c.step v
    let s := s.modRout n fun t =>
      { t with kWas := r.1, wins := t.wins.map fun w => if w.start = c.step ∧ w.cut.isNone then { w with kstart := v } else w }
    finish (s.setFld b Reg.Rout.KSTART r.2)

/-- A register write to KSTART (R252), the page already holding the new value: a window whose OPEN of a later step has been
carried out already takes it. -/
def State.kstartWritten (s : State) (n : Nat) (old : Word) : State :=
  let b := Base.rout n
  let r := (s.rout n).kWas.byWrite (Reg.Rout.KSTART.get old) s.nextStep (s.fld b Reg.Rout.KSTART)
  let late (w : Win) : Bool := w.cut.isNone && decide (s.nextStep ≤ w.start)
  let s := (s.modRout n fun t => { t with kWas := r.1 }).setFld b Reg.Rout.KSTART r.2
  s.modRout n fun t =>
    { t with wins := t.wins.map fun w => if late w then { w with kstart := t.kWas.at r.2 w.start } else w }

/-! ### Accumulation -/

/-- Weight `i` of the tone's kernel memory: WI and WQ (R254). -/
def State.weight (s : State) (n i : Nat) : Cplx :=
  let w := (SMap.get (fun _ => 0#32) s.kernel (4096 * n + i)).toNat
  (signed 16 (w % 65536), signed 16 (w / 65536))

/-- x times the complex conjugate of w (R256). -/
def conjMul (x w : Cplx) : Cplx := (x.1 * w.1 + x.2 * w.2, x.2 * w.1 - x.1 * w.2)

/-- A sum in an accumulator of 40 bits, and whether it overflowed (R256). -/
def wrap40 (v : Int) : Int × Bool := (signed 40 (unsigned 40 v), decide (v < -2 ^ 39 ∨ 2 ^ 39 ≤ v))

/-- Adding a product to a window leaves the range of an accumulator (R256). -/
def Win.wraps (w : Win) (p : Cplx) : Bool := (wrap40 (w.accI + p.1)).2 || (wrap40 (w.accQ + p.2)).2

/-- Add a product to a window (R256). -/
def Win.add (w : Win) (p : Cplx) : Win :=
  { w with accI := (wrap40 (w.accI + p.1)).1, accQ := (wrap40 (w.accQ + p.2)).1, ov := w.ov || w.wraps p,
           nodec := w.nodec || w.wraps p }

/-- Change the window of a tone that accumulates from step `k`. -/
def State.modWin (s : State) (n k : Nat) (f : Win → Win) : State :=
  s.modRout n fun t => { t with wins := t.wins.map fun w => if w.start = k ∧ w.cut.isNone then f w else w }

/-- A residue fault of this period hits sample `i` of half `h` of integrator `n`. -/
def macFault (fs : List Residue) (n h i : Nat) : Bool :=
  fs.any fun f => match f with
    | .mac m k j => m.val == n && k.val == h && j.val == i
    | _ => false

/-- The weight read by integrator `n` for sample `i` of half `h` fails its parity. -/
def weightFault (fs : List Residue) (n h i : Nat) : Bool :=
  fs.any fun f => match f with
    | .weight m k j => m.val == n && k.val == h && j.val == i
    | _ => false

/-- A product is added to a window of a tone: each overflow raises OV (R256). -/
def State.addProduct (s : State) (n k : Nat) (p : Cplx) : State :=
  let wraps := (s.rout n).wins.any fun w => w.start == k && w.cut.isNone && w.wraps p
  (if wraps then s.raise (Base.rout n) 10 else s).modWin n k fun w => w.add p

/-- Sample `x` with stamp index `m` enters a window in step `k` (R254, R255, R256, R262); `mac` and `par` say that its product
or its weight fails its check. -/
def State.takeSample (s : State) (n k : Nat) (w : Win) (m : Nat) (x : Cplx) (mac par : Bool) : State :=
  let b := Base.rout n
  let i := m - w.first (s.routK n)
  let ki := w.kstart + i
  if 4095 < ki then (s.raise b 12).charge w.tag Flag.CMD_FAULT
  else if par || (s.rout n).kerRefetch.contains ki then
    let s := if (s.rout n).kerRefetch.contains ki then s
      else (s.modRout n fun t => { t with kerRefetch := t.kerRefetch ++ [ki] }).refetch (shadowAt (kernelOff + 4 * (4096 * n + ki)))
    ((s.err b 0x10 ki).raise b 13).modWin n w.start fun w => { w with nodec := true }
  else if mac then
    (s.err b 0x10 i).modRout n fun t => { t with recomps := t.recomps ++ [⟨w.start, i, m, x, s.weight n ki, k, false⟩] }
  else s.addProduct n w.start (conjMul x (s.weight n ki))

/-- A sample of the window is missing (R261). -/
def State.gapWin (s : State) (n : Nat) (w : Win) : State :=
  (s.raise (Base.rout n) 15).modWin n w.start fun w => { w with nodec := true, gap := true }

/-- A recompute that has failed twice, or whose sample has left the hoop buffer (R262); it counts as one that passes does
(R35). -/
def State.recompLost (s : State) (n : Nat) (r : Recomp) : State :=
  let b := Base.rout n
  let s := ((s.err b 0x1A r.i).raise b 14).inc b Reg.Rout.RECOMP_COUNT
  (s.modWin n r.win fun w => { w with nodec := true }).modRout n fun t => { t with recomps := t.recomps.erase r }

/-- The stamp indices that are due for offer in step `x` (R236). -/
def State.dueStamps (s : State) (n x : Nat) : List Nat :=
  let k := s.routK n
  let lat := s.routLat n
  let hi := (4 * (x + 1) - lat + 2 ^ k - 1) / 2 ^ k
  let lo := (4 * x - lat + 2 ^ k - 1) / 2 ^ k
  (List.range (hi - lo)).map fun i => lo + i

/-- The window whose step interval holds stamp index `m`. -/
def State.winOf (s : State) (n m : Nat) : Option Win :=
  (s.rout n).wins.find? fun w =>
    w.cut.isNone && !w.empty (s.routK n) && decide (w.first (s.routK n) ≤ m ∧ m ≤ w.final (s.routK n))

/-- Fix when the values of windows are due whose last sample has passed in step `x`, or that turned out empty (R251,
R260, R261). -/
def State.readyWins (s : State) (n x : Nat) : State :=
  let k := s.routK n
  let lat := s.routLat n
  s.modRout n fun t =>
    { t with wins := t.wins.map fun w =>
        if w.ready.isSome then w
        else if w.empty k then
          if max w.start (w.last + 1) ≤ x + 1 then
            { w with nodec := true, cut := some w.start, ready := some (4 * (max w.start w.last + 1)) }
          else w
        else if w.final k * 2 ^ k + lat < 4 * (x + 1) then
          { w with ready := some (w.final k * 2 ^ k + lat + if w.gap then 0 else 8) }
        else w }

/-- Integrator `n` computes step `x`, half `h`: the samples offered in it enter their windows (R249 to R261). -/
def State.integStep (s : State) (fs : List Residue) (n h x : Nat) : State :=
  if (s.rout n).wins.isEmpty then s
  else
    let ms := s.dueStamps n x
    let s := (ms.zipIdx).foldl (fun s e =>
      match s.winOf n e.1 with
      | none => s
      | some w =>
        match (s.rout n).offered.find? fun o => o.1 == e.1 with
        | some o => s.takeSample n x w e.1 o.2 (macFault fs n h e.2) (weightFault fs n h e.2)
        | none => s.gapWin n w) s
    let now := ms.getLast?.getD 0
    let s := ((s.rout n).recomps.filter fun r => decide (r.m + 2048 ≤ now)).foldl (fun s r => s.recompLost n r) s
    s.readyWins n x

/-! ### The discriminator -/

/-- One boundary: its s_b and confidence (R259). -/
def State.boundary (s : State) (n : Nat) (z : Cplx) (i : Nat) : Bool × Nat :=
  let b := Base.rout n
  if (s.fld b Reg.Rout.BEN).testBit i then
    let t := signed 40 (s.fld b Reg.Rout.T_LO i + 2 ^ 32 * s.fld b Reg.Rout.T_HI i)
    let d := signed 16 (s.fld b Reg.Rout.NX i) * z.1 + signed 16 (s.fld b Reg.Rout.NY i) * z.2 - t
    (decide (0 ≤ d), min 255 (d.natAbs / 2 ^ s.fld b Reg.Rout.CSH i))
  else (false, 255)

/-- z_I or z_Q before its limit (R258). -/
def zRaw (dsh : Nat) (acc : Int) : Int := acc / 2 ^ dsh

/-- z limited (R258). -/
def zLim (v : Int) : Int := clamp (-8388607) 8388607 v

/-- The state and confidence of a pair of accumulators (R258, R259). -/
def State.discriminate (s : State) (n : Nat) (accI accQ : Int) : Nat × Nat :=
  let b := Base.rout n
  let dsh := s.fld b Reg.Rout.DSH
  let z : Cplx := (zLim (zRaw dsh accI), zLim (zRaw dsh accQ))
  let b0 := s.boundary n z 0
  let b1 := s.boundary n z 1
  let b2 := s.boundary n z 2
  let j := 4 * b2.1.toNat + 2 * b1.1.toNat + b0.1.toNat
  (s.fld b Reg.Rout.STATE_MAP / 4 ^ j % 4, min b0.2 (min b1.2 b2.2))

/-! ### The value of a window -/

/-- Lane input channels attached to read-out tone `n` with a kind: lane and channel (R267). -/
def State.laneSinks (s : State) (kind n : Nat) : List (Nat × Nat) :=
  s.regs.filterMap fun e =>
    match pageOf e.1 with
    | some (.lane, l) =>
      let off := e.1 % 0x1000
      if 0x060 ≤ off ∧ off < 0x0A0 ∧ off % 16 = 0 ∧ Reg.Lane.KIND.get e.2 = kind ∧ Reg.Lane.ROUT.get e.2 = n then
        some (l, (off - 0x060) / 16)
      else none
    | _ => none

/-- A unit is offered to the lanes attached (R24, R267); LANE_INPUT_UNIT writes it. -/
def State.offerLanes (s : State) (kind n : Nat) (u : LaneUnit) : State :=
  (s.laneSinks kind n).foldl (fun s lc => s.modLane lc.1 fun x => { x with inbox := x.inbox ++ [(lc.2, u)] }) s

/-- The four words of an integrator value (R267). -/
def valueWords (accI accQ : Int) (state conf stamp : Nat) (nodec ov : Bool) : List Nat :=
  [unsigned 32 accI, unsigned 32 accQ,
    unsigned 40 accI / 2 ^ 32 + 2 ^ 8 * (unsigned 40 accQ / 2 ^ 32) + 2 ^ 16 * state + 2 ^ 18 * conf +
      2 ^ 30 * nodec.toNat + 2 ^ 31 * ov.toNat,
    stamp % 2 ^ 32]

/-- The value of window `w` is offered to every consumer (R260, R263, R265); its slots are written in the next core cycle, 1 ns
later (R287). -/
def State.deliverWin (s : State) (n : Nat) (w : Win) : State :=
  let b := Base.rout n
  let stamp := w.stamp (s.routK n)
  let d := s.discriminate n w.accI w.accQ
  let dsh := s.fld b Reg.Rout.DSH
  let sat := zRaw dsh w.accI != zLim (zRaw dsh w.accI) || zRaw dsh w.accQ != zLim (zRaw dsh w.accQ)
  -- the state and confidence that go with NO_DECISION are stated nowhere
  let state := if w.nodec then (s.freeVal 2).toNat else d.1
  let conf := if w.nodec then ((s.freeVal 10).toNat / 4) else d.2
  let s := if w.nodec then s.tookFree else s
  let s := if sat then s.raise b 11 else s
  let s := s.inc b Reg.Rout.WIN_COUNT
  let s := if w.nodec then (s.inc b Reg.Rout.NODEC_COUNT).raise b 9 else s
  let s := s.raise b 8
  let word := 2 ^ 31 + 2 ^ 30 * w.nodec.toNat + 4 * conf + state
  let s := s.modRout n fun t => { t with res := ⟨unsigned 40 w.accI, unsigned 40 w.accQ, stamp % 2 ^ 32, word⟩ }
  let s := s.offerLanes 2 n ⟨valueWords w.accI w.accQ state conf stamp w.nodec w.ov, stamp % 2 ^ 32⟩
  s.feed (max (8 * s.count) ((w.due.getD 0) + 2)) 1 n (mkSlot w.nodec state conf stamp)

/-- The window whose value is due first. -/
def firstReady (ws : List Win) : Option Win :=
  ws.foldl (fun a w =>
    match w.due, a with
    | some t, some v => if t < v.due.getD t then some w else a
    | some _, none => some w
    | none, _ => a) none

/-- WINDOW_VALUE (R260): the window whose value is due first offers it, once its time has come and no recompute of it is
outstanding (R262). While the count stands, a value that is due in a later step is offered at once: R263 lets a window that
the loss of REFCLK ends deliver NO_DECISION (assumption log 61). -/
def execWindowValue (n : Fin 256) (s : State) : Out :=
  match firstReady (s.rout n).wins with
  | none => .next s
  | some w =>
    if w.due.any (fun t => !s.run || decide (t < 8 * (s.count + 1))) && !((s.rout n).recomps.any fun r => r.win == w.start && w.cut.isNone) then
      finish ((s.modRout n fun t => { t with wins := t.wins.erase w }).deliverWin n w)
    else .next s

/-! ### Recompute -/

/-- The request of tone `n` comes before those of the line's other tones (R30, R262). -/
def State.recompFirst (s : State) (n : Nat) (r : Recomp) : Bool :=
  (List.range 16).all fun i =>
    let m := 16 * routAdc n + i
    match (s.rout m).recomps with
    | q :: _ => m == n || decide (r.step < q.step) || (decide (r.step = q.step) && decide (n < m))
    | [] => true

/-- What a recompute that passes does to the time of the window's value (R262): one granted in the frame of its failure adds
at most 2 ns, and a value waits for a later grant and at most 4 ns more after that is complete. How much within those bounds
is a free value `v`. -/
def State.recompDelay (s : State) (v : Nat) (w : Win) (r : Recomp) : Win :=
  if r.step / 512 = s.count / 256 then { w with slip := 2 * (v % 3) }
  else { w with ready := w.ready.map fun t => max t (8 * s.count + 4 + 2 * (v % 5)) }

/-- INTEGRATOR_RECOMPUTE (R262): the tone's oldest request takes a slot of its line's 32 per frame; `ok` says that the
recompute passes. -/
def execIntegratorRecompute (n : Fin 256) (ok : Bool) (s : State) : Out :=
  match (s.rout n).recomps with
  | [] => .next s
  | r :: rs =>
    let key := Base.adc (routAdc n) + 0x026
    if s.usedOf key < 32 && s.recompFirst n r then
      let b := Base.rout n
      let s := s.useUnits key 1
      if ok then
        let v := (s.freeVal 8).toNat
        let s := (s.tookFree.addProduct n r.win (conjMul r.x r.w)).modWin n r.win fun w => s.recompDelay v w r
        finish ((s.modRout n fun t => { t with recomps := rs }).inc b Reg.Rout.RECOMP_COUNT)
      else if r.second then finish (s.recompLost n r)
      else finish (s.modRout n fun t => { t with recomps := { r with second := true } :: rs })
    else .next s

/-! ### Kernel memory -/

/-- The kernel memory of the tone is active (R255). -/
def State.kernelActive (s : State) (n : Nat) : Bool :=
  ((s.rout n).wins.any (s.rout n).winOpen) || (s.rout n).queue.any fun c => c.code == 0x0 || c.code == 0x2

/-- KADDR advances (R255). -/
def State.kaddrNext (s : State) (n : Nat) : State :=
  s.setFld (Base.rout n) Reg.Rout.KADDR (s.fld (Base.rout n) Reg.Rout.KADDR + 1)

/-- A write of KDATA (R255). -/
def State.kdataWrite (s : State) (n : Nat) (w : Word) : State :=
  let b := Base.rout n
  let a := s.fld b Reg.Rout.KADDR
  let s := if s.kernelActive n then (s.err b 0x19 a).raise b 2
    else { s with kernel := SMap.set (fun _ => 0#32) s.kernel (4096 * n + a) w }.shadowWrite (s.shadowFn b)
      (kernelOff + 4 * (4096 * n + a)) (bytesLE w.toNat 4)
  s.kaddrNext n

/-- A read of KDATA (R255). -/
def State.kdataRead (s : State) (n : Nat) : State :=
  let a := s.fld (Base.rout n) Reg.Rout.KADDR
  (s.respond (SMap.get (fun _ => 0#32) s.kernel (4096 * n + a)).toNat).kaddrNext n

/-- KERNEL_REFETCH_COMPLETE (R37, R255): the weights whose reads the controller has delivered are back. -/
def execKernelRefetchComplete (n : Fin 256) (s : State) : Out :=
  let out (k : Nat) : Bool := s.refetchOut (shadowAt (kernelOff + 4 * (4096 * n + k)))
  if s.frozen then .next s else finish (s.modRout n fun t => { t with kerRefetch := t.kerRefetch.filter out })

/-- A read of RES_ACC_I_LO answers it and latches the other result registers (R265). -/
def State.resRead (s : State) (n : Nat) : State :=
  let b := Base.rout n
  let r := (s.rout n).res
  let s := s.setReg (b + 0x144) (BitVec.ofNat 32 (r.accI / 2 ^ 32))
  let s := s.setReg (b + 0x148) (BitVec.ofNat 32 r.accQ)
  let s := s.setReg (b + 0x14C) (BitVec.ofNat 32 (r.accQ / 2 ^ 32))
  let s := s.setReg (b + 0x150) (BitVec.ofNat 32 r.stamp)
  (s.setReg (b + 0x154) (BitVec.ofNat 32 r.word)).respond (r.accI % 2 ^ 32)

/-! ### Enabling and disabling tones and ADCs -/

/-- A write of 1 to ENABLE of a tone (R235, R238, R240, R241): the checks come first, also where it cancels a pending
disable. -/
def State.routEnable (s : State) (n : Nat) : State :=
  let b := Base.rout n
  if s.enabled b then s
  else if s.fld b Reg.Hdr.LIMIT < s.firDemand n then s.err b 0x12 (s.firDemand n)
  else if 0 < s.firTaps n ∧ s.firTaps n ≤ s.firGd n then s.err b 0x13 (s.firGd n)
  else if (s.rout n).norm then (s.setEnable b true).modRout n fun t => { t with norm := false }
  else (s.setEnable b true).modRout n fun t => { t with arming := true }

/-- A write of 0 to ENABLE of a tone (R241). -/
def State.routDisable (s : State) (n : Nat) : State :=
  if s.enabled (Base.rout n) then (s.setEnable (Base.rout n) false).modRout n fun t => { t with norm := true } else s

/-- ROUT_DISABLED (R241): no window, no queued command and no capture needs the tone. -/
def execRoutDisabled (n : Fin 256) (s : State) : Out :=
  let t := s.rout n
  if t.norm && !t.wins.any t.winOpen && t.queue.isEmpty && !s.acqBusyOn 2 n then
    finish ((s.modRout n fun t =>
      { t with norm := false, arming := false, since := none, stages := [], fir := [], outq := [], offered := [] }).raise
      (Base.rout n) 5)
  else .next s

/-- An open window of a tone is cut at step `t` (R263). -/
def Win.kill (w : Win) (k t : Nat) : Win :=
  { w with nodec := true, cut := some (w.stamp k), ready := some (4 * t) }

/-- An immediate disable of a tone from step `t` (R242, R263); `clear` says that ENABLE is cleared, else the tone starts
again at the next frame boundary. -/
def State.routKill (s : State) (n t : Nat) (clear : Bool) : State :=
  let b := Base.rout n
  let x := s.rout n
  let cut := x.wins.filter x.winOpen
  let tags := cut.map Win.tag ++ s.acqTags 2 n
  let k := s.routK n
  let s := s.acqSourceKill 2 n
  let again := !clear && s.enabled b
  let s := s.modRout n fun y =>
    { y with
      wins := y.wins.map fun w => if x.winOpen w then w.kill k t else w
      recomps := [], norm := false, arming := again, since := none, stages := [], fir := [], outq := [], offered := [] }
  let s := if clear then s.setEnable b false else s
  let s := if cut.isEmpty then s else s.raise b 15
  if tags.isEmpty then s else tags.foldl (fun s g => s.charge g Flag.TRUNCATED) (s.raise b 3)

/-- The tones of an ADC that hold anything but their reset state, or are enabled. -/
def State.adcTones (s : State) (a : Nat) : List Nat :=
  ((List.range 16).map fun i => 16 * a + i).filter fun n => (SMap.find? s.routs n).isSome || s.enabled (Base.rout n)

/-- An immediate disable of an ADC (R243). -/
def State.adcKill (s : State) (a : Nat) : State :=
  let s := (s.adcTones a).foldl (fun s n => s.routKill n s.nextStep true) s
  let s := ((s.acqSourceKill 1 a).setEnable (Base.adc a) false).calHit 4 a
  let s := s.modAdc a fun x => { x.closeRun s.nextStep with norm := false }
  match (s.adcCh a).phase with
  | .off => s
  | .rising => s.adcPhase a .off
  | .killed _ => s
  | _ => s.adcPhase a (.killed (s.nextStep / 2))

/-- DISABLE_NOW of an ADC reads 1 until it is Off. -/
def State.adcKillNow (s : State) (a : Nat) : State :=
  let s := s.adcKill a
  match (s.adcCh a).phase with
  | .killed _ => s.setBit (Base.adc a) Reg.Hdr.DISABLE_NOW true
  | _ => s

/-- ADC_CLOCK_MISSING (R243). -/
def execAdcClockMissing (a : Fin 16) (s : State) : Out :=
  let s := (s.adcKill a).modAdc a fun x => { x with clkFault := true }
  finish ((s.err (Base.adc a) 0x12 0).raise (Base.adc a) 2)

/-- STAT of a read-out tone page. -/
def State.routStat (s : State) (n : Nat) : Nat :=
  let t := s.rout n
  let opened := t.wins.any t.winOpen
  (opened || !t.wins.isEmpty || !t.queue.isEmpty || t.norm).toNat +
    2 * (s.fld (Base.adc (routAdc n)) Reg.Adc.IN_STATE != 2).toNat + 4 * t.norm.toNat + 8 * t.pend.isSome.toNat +
    16 * opened.toNat

/-- Tone `n` offers the samples of a step to the lanes and the acquisition units (R24, R267, R341). -/
def State.offerStream (s : State) (n : Nat) : State :=
  let k := s.routK n
  let out := (s.rout n).offered
  let s := out.foldl (fun s o =>
    s.offerLanes 1 n ⟨[unsigned 16 o.2.1 + 2 ^ 16 * unsigned 16 o.2.2], o.1 * 2 ^ k / 4⟩) s
  s.acqFeed 2 n (out.map fun o => ⟨o.1 * 2 ^ k * 4, o.2.1, o.2.2⟩)

/-- Read-out tone `n` computes step `x`, half `h`. -/
def State.routStep (s : State) (fs : List Residue) (n h x : Nat) : State :=
  ((s.chainStep fs n x).offerStream n).integStep fs n h x

end Sys2Proof.Machine
end

