-- ==== Sys2Proof/Machine/Calibration.lean ====
section
/-!
DEFINITION. Chapter 19: calibration against external references: targets and trims, requests, the foreground hold,
background passes, ripening, stores.
-/
namespace Sys2Proof.Machine

/-- Change what the calibration service holds. -/
def State.modCal (s : State) (f : CalSt → CalSt) : State := { s with cal := f s.cal }

/-! ### Targets and trims -/

/-- How many targets a kind has, and trims of one target (R507). -/
def calTargets : Nat → Nat
  | 1 => 96 | 2 => 16 | 3 => 48 | 4 => 16 | _ => 0
def calTrims : Nat → Nat
  | 1 => 2 | 2 => 6 | 3 => 63 | 4 => 51 | _ => 0

/-- The largest value of a trim, in taps (R507). -/
def calRange : Nat → Nat
  | 1 => 2047 | 2 => 511 | 3 => 31 | _ => 1023

/-- The foreground hold of a kind, in tc: 8 ms, 256 ms, 1 ms, 2 ms (R507). -/
def calTime : Nat → Nat
  | 1 => 2000000 | 2 => 64000000 | 3 => 250000 | _ => 500000

/-- The page of a target. -/
def calPage (kind idx : Nat) : Nat :=
  match kind with
  | 1 => Base.flux idx
  | 2 => Base.sfe idx
  | 3 => Base.out idx
  | _ => Base.adc idx

/-- The tile of a target of kind 3 or 4. -/
def calTile (kind idx : Nat) : Nat := if kind = 3 then outTile idx else adcTile idx

/-- The key of a trim. -/
def trimKey (t num : Nat) : Nat := t * 64 + num

/-- A trim: value in force and target value. -/
def State.trim (s : State) (t num : Nat) : Int × Int := SMap.get (fun _ => (0, 0)) s.cal.trims (trimKey t num)

/-- Set a trim. -/
def State.setTrim (s : State) (t num : Nat) (v : Int × Int) : State :=
  s.modCal fun c => { c with trims := SMap.set (fun _ => (0, 0)) c.trims (trimKey t num) v }

/-- The target ripens: some target value differs from the value in force (R514). -/
def State.ripening (s : State) (t : Nat) : Bool :=
  (List.range (calTrims (t / 128))).any fun i => (s.trim t i).1 != (s.trim t i).2

/-- The targets that ripen, in ascending order. -/
def State.ripeningAll (s : State) : List Nat :=
  (((s.cal.trims.filter fun e => e.2.1 != e.2.2).map fun e => e.1 / 64)).eraseDups

/-- The reference that a kind uses has its check at 1 (R506, R507). -/
def State.calRefOk (s : State) (kind : Nat) : Bool :=
  s.bit Base.cal (if kind = 4 then Reg.Cal.TONE_OK else Reg.Cal.VREF_OK)

/-- A value measured for a trim becomes its target value, or is out of range (R508, R214). -/
def State.takeTrim (s : State) (kind idx num : Nat) (v : Int) : State :=
  let t := calKey kind idx
  if v.natAbs ≤ calRange kind then s.setTrim t num ((s.trim t num).1, v)
  else
    let s := (s.err Base.cal 0x13 (kind * 2 ^ 21 + idx * 2 ^ 14 + num)).raise Base.cal 4
    if kind = 3 then ((s.setFld (Base.out idx) Reg.Out.CELL_INDEX num).err (Base.out idx) 0x13 num).raise (Base.out idx) 3
    else s

/-- No difference of a target remains, where one stood before: RIPE is set (R514). -/
def State.ripeIf (s : State) (t : Nat) (was : Bool) : State := if was && !s.ripening t then s.raise Base.cal 2 else s

/-- The values that a measurement gives, one for each trim of the target. -/
def State.takeTrims (s : State) (kind idx : Nat) (vals : List Int) : State :=
  let s := if kind = 1 ∧ (s.flux idx).refLive then s.modFlux idx fun x => { x with refLive := false } else s
  ((vals.take (calTrims kind)).zipIdx).foldl (fun s e => s.takeTrim kind idx e.2 e.1) s

/-! ### Requests -/

/-- The device state permits a target (R509, case 4). -/
def State.calStateOk (s : State) (kind idx : Nat) : Bool :=
  if kind ≤ 2 then s.inDev .configured || s.inDev .ready || s.running
  else (s.inDev .ready || s.running) && s.bit (Base.tile (calTile kind idx)) Reg.Tile.LOCK

/-- The first reason of R509 to refuse a request, 0 for none. -/
def State.calRefuse (s : State) (mode kind idx : Nat) : Nat :=
  if mode = 0 ∧ s.cal.job.isSome then 1
  else if calTargets kind ≤ idx then 2
  else if s.owner (calPage kind idx) ≠ s.owner Base.cal ∧ s.owner (calPage kind idx) ≠ 0xFF then 3
  else if !s.calStateOk kind idx then 4
  else if !s.calRefOk kind then 5
  else if mode = 1 ∧ kind = 2 then 6
  else 0

/-- A write of 1 to GO, KIND, IDX and MODE being in the page (R509, R510, R513). -/
def State.calGo (s : State) : State :=
  let b := Base.cal
  let mode := s.fld b Reg.Cal.MODE
  let kind := s.fld b Reg.Cal.KIND
  let idx := s.fld b Reg.Cal.IDX
  match s.calRefuse mode kind idx with
  | 0 =>
    let s := s.setFld b Reg.Cal.RESULT 0
    let t := calKey kind idx
    if mode = 0 then
      let s := s.modCal fun c => { c with job := some ⟨kind, idx, s.count, none⟩ }
      (s.setBit b Reg.Cal.BUSY true).setFld b Reg.Cal.PHASE 1
    else if mode = 1 then s.modCal fun c => { c with bg := if c.bg.contains t then c.bg else c.bg ++ [t] }
    else s.modCal fun c => { c with bg := c.bg.erase t }
  | r => (s.setFld b Reg.Cal.RESULT 0x11).err b 0x11 r

/-! ### The foreground hold -/

/-- Shots of the commands under way at a target that is held carry STALE (R511). -/
def State.calStale (s : State) (kind idx : Nat) : State :=
  match kind with
  | 3 =>
    let s := (outTones idx).foldl (fun s n =>
      match (s.tone n).play with
      | some p => s.charge p.tag Flag.STALE
      | none => s) s
    s.acqStale 3 idx
  | 4 =>
    let s := ((List.range 16).map fun i => 16 * idx + i).foldl (fun s n =>
      (s.rout n).wins.foldl (fun s w => s.charge w.tag Flag.STALE) s) s
    ((List.range 16).map fun i => 16 * idx + i).foldl (fun s n => s.acqStale 2 n) (s.acqStale 1 idx)
  | _ => s

/-- The blocks follow the start or the end of a hold (R511). -/
def State.calShow (s : State) (kind idx : Nat) (on : Bool) : State :=
  match kind with
  | 3 => s.outPhase idx (s.outCh idx).phase
  | 4 => s.adcHold idx on
  | _ => s

/-- A frame boundary stands in the present count. -/
def State.onFrame (s : State) : Bool := s.run && s.count % 256 == 0

/-- CAL_HOLD_START (R510, R511): the first frame boundary at least 256 tc after GO. -/
def execCalHoldStart (s : State) : Out :=
  match s.cal.job with
  | some j =>
    if j.start.isNone && s.onFrame && decide (j.go + 256 ≤ s.count) then
      let s := s.modCal fun c => { c with job := some { j with start := some s.count } }
      let s := s.setFld Base.cal Reg.Cal.PHASE 3
      finish ((s.calShow j.kind j.idx true).calStale j.kind j.idx)
    else .next s
  | none => .next s

/-- The foreground calibration is over: the target is released, and the page idle (R510, R512). -/
def State.calOver (s : State) : State :=
  match s.cal.job with
  | some j =>
    let held := j.start.isSome
    let s := s.modCal fun c => { c with job := none }
    let s := (s.setBit Base.cal Reg.Cal.BUSY false).setFld Base.cal Reg.Cal.PHASE 0
    if held then s.calShow j.kind j.idx false else s
  | none => s

/-- The foreground calibration is abandoned (R512). -/
def State.calAbandon (s : State) : State :=
  if s.cal.job.isSome then (s.calOver.inc Base.cal Reg.Cal.ABORT_COUNT).raise Base.cal 1 else s

/-- A write of 1 to ABORT (R512). -/
def State.calAbort (s : State) : State := s.calAbandon

/-- A cause of R512 that lasts acts on a target. -/
def State.calCause (s : State) (kind idx : Nat) : Bool :=
  s.refLost || s.inDev .cellar || s.inDev .shutdown || !s.calRefOk kind ||
    (2 < kind && !s.bit (Base.tile (calTile kind idx)) Reg.Tile.LOCK) ||
    (s.owner Base.cal < 64 && (s.fnSt (s.owner Base.cal)).flr.isSome)

/-- A cause of R512 has acted on a target, or lasts. -/
def State.calCaused (s : State) (t : Nat) : Bool := s.cal.hits.contains t || s.calCause (t / 128) (t % 128)

/-- The causes of R512 are carried out: foreground abandoned, background stopped (R512, R513). -/
def State.calDrop (s : State) : State :=
  let job := match s.cal.job with
    | some j => s.calCaused (calKey j.kind j.idx)
    | none => false
  let bg := s.cal.bg.filter fun t => !s.calCaused t
  let s := if job then s.calAbandon else s
  s.modCal fun c => { c with bg := bg, hits := [] }

/-- CAL_ABANDON (R512, R513). -/
def execCalAbandon (s : State) : Out := finish s.calDrop

/-- CAL_RELEASE (R508, R510): the first frame boundary after the measurement; `vals` are the values measured. A cause of
abandonment of the same cycle wins (R512). -/
def execCalRelease (vals : List Int) (s : State) : Out :=
  match s.cal.job with
  | some j =>
    match j.start with
    | some c0 =>
      if s.calCaused (calKey j.kind j.idx) then finish s.calDrop
      else if s.onFrame && decide (c0 + calTime j.kind ≤ s.count) then
        let t := calKey j.kind j.idx
        let was := s.ripening t
        let s := (s.calOver.takeTrims j.kind j.idx vals).raise Base.cal 0
        let s := if s.bit Base.cal Reg.Cal.FG_SNAP then
            forN (calTrims j.kind) (fun i s => s.setTrim t i ((s.trim t i).2, (s.trim t i).2)) s
          else s
        finish (s.ripeIf t was)
      else .next s
    | none => .next s
  | none => .next s

/-! ### Background -/

/-- A target value of the target differs from the value in force by more than DRIFT_LIM taps (R513). -/
def State.drifted (s : State) (t : Nat) : Bool :=
  (List.range (calTrims (t / 128))).any fun i =>
    decide (s.fld Base.cal Reg.Cal.DRIFT_LIM < ((s.trim t i).2 - (s.trim t i).1).natAbs)

/-- CAL_BG_PASS (R513): a pass completes with new values. For kind 1 the comparison is the departure check of R382: a
gain more than 0.5 % from its value in force, that is 20,000 taps of 0.25 ppm, starts the fault sequence. -/
def execCalBgPass (kind : Fin 8) (idx : Fin 128) (vals : List Int) (s : State) : Out :=
  let t := calKey kind idx
  if !s.cal.bg.contains t || s.calHolds kind idx then .next s
  else if s.calCaused t then finish s.calDrop
  else if kind.val = 1 ∧ 20000 < (vals.getD 0 0 - (s.trim t 0).1).natAbs then
    finish ((s.modFlux idx fun x => { x with refLive := true }).fluxFaultSeq idx 2)
  else
    let s := (s.takeTrims kind idx vals).ripeIf t (s.ripening t)
    finish (if s.drifted t then s.raise Base.cal 7 else s)

/-! ### Ripening -/

/-- The trim of a target with the largest remaining difference, the lowest-numbered of equal ones (R514). -/
def State.ripest (s : State) (t : Nat) : Nat × Nat :=
  (List.range (calTrims (t / 128))).foldl (fun (m : Nat × Nat) i =>
    let d := ((s.trim t i).2 - (s.trim t i).1).natAbs
    if m.2 < d then (i, d) else m) (0, 0)

/-- One ripening boundary of a target (R514). -/
def State.ripenOne (s : State) (t : Nat) : State :=
  let m := s.ripest t
  if m.2 = 0 then s
  else
    let v := s.trim t m.1
    let s := s.setTrim t m.1 (if v.1 < v.2 then v.1 + 1 else v.1 - 1, v.2)
    s.ripeIf t true

/-- RIPEN_BOUNDARY (R514, R515). -/
def execRipenBoundary (s : State) : Out :=
  if !s.onFrame || s.count % (256 * s.fld Base.cal Reg.Cal.RIPEN_INT) != 0 || s.inDev .cellar ||
      s.cal.ripeAt == some s.count then .next s
  else
    let s := s.modCal fun c => { c with ripeAt := some s.count }
    finish (s.ripeningAll.foldl State.ripenOne s)

/-! ### Stores -/

/-- The values in force of a target. -/
def State.trimsOf (s : State) (t : Nat) : List Int := (List.range (calTrims (t / 128))).map fun i => (s.trim t i).1

/-- A write of 1 to STORE (R516). -/
def State.calStore (s : State) : State :=
  let b := Base.cal
  let kind := s.fld b Reg.Cal.KIND
  let idx := s.fld b Reg.Cal.IDX
  let t := calKey kind idx
  let made := SMap.get (fun _ => 0) s.cal.stores t
  if calTargets kind ≤ idx then s
  else if s.calHolds kind idx then s.err b 0x12 0xFFFF
  else if 10000 ≤ made then s.err b 0x12 made
  else s.modCal fun c =>
    { c with stores := SMap.set (fun _ => 0) c.stores t (made + 1), storing := c.storing ++ [(t, s.trimsOf t)] }

/-- CAL_STORE_COMPLETE (R516). -/
def execCalStoreComplete (s : State) : Out :=
  match s.cal.storing with
  | e :: es =>
    let s := s.modCal fun c => { c with storing := es, user := SMap.set (fun _ => []) c.user e.1 e.2 }
    finish (s.raise Base.cal 5)
  | [] => .next s

/-- A value of the factory set. -/
def State.factory (s : State) (t num : Nat) : Int := SMap.get (fun _ => 0) s.cal.factory (trimKey t num)

/-- A write of 1 to RESTORE (R516). -/
def State.calRestore (s : State) : State :=
  let kind := s.fld Base.cal Reg.Cal.KIND
  let idx := s.fld Base.cal Reg.Cal.IDX
  let t := calKey kind idx
  if calTargets kind ≤ idx then s
  else (forN (calTrims kind) (fun i s => s.setTrim t i ((s.trim t i).1, s.factory t i)) s).ripeIf t (s.ripening t)

/-- A read of TRIM_DATA (R520): the trim named, and TRIM_NUM advances. -/
def State.trimGet (s : State) : State :=
  let b := Base.cal
  let num := s.fld b Reg.Cal.TRIM_NUM
  let kind := s.fld b Reg.Cal.TRIM_KIND
  let idx := s.fld b Reg.Cal.TRIM_IDX
  let v := if num < calTrims kind ∧ idx < calTargets kind then s.trim (calKey kind idx) num else (0, 0)
  (s.setFld b Reg.Cal.TRIM_NUM (num + 1)).respond (unsigned 16 v.2 * 2 ^ 16 + unsigned 16 v.1)

/-- The trims in force are loaded after a release of POR_N (R517): from the user set, when NVM_SEL names it and the target
has a record there that passes its check, else from the factory set. `bad` are the targets whose record in the named set
fails its check. -/
def State.trimsLoad (s : State) (bad : List Nat) : State :=
  let sel := s.bit Base.cal Reg.Cal.NVM_SEL
  let user := s.cal.user.filter fun e => e.2 != [] && !bad.contains e.1
  let all := ([1, 2, 3, 4].map calTargets).sum
  let s := s.modCal fun c => { c with trims := [] }
  let s := s.cal.factory.foldl (fun s e => s.setTrim (e.1 / 64) (e.1 % 64) (e.2, e.2)) s
  if sel then (if bad.isEmpty then s else s.raise Base.cal 6)
  else
    let s := user.foldl (fun s e => (e.2.zipIdx).foldl (fun s v => s.setTrim e.1 v.2 (v.1, v.1)) s) s
    if user.length < all then s.raise Base.cal 6 else s

/-! ### The page -/

/-- The word and bit of a target in the maps of R520. -/
def calMapBit (t : Nat) : Nat × Nat :=
  let i := t % 128
  match t / 128 with
  | 1 => (i / 32, i % 32)
  | 2 => (3, i)
  | 3 => (4 + i / 32, i % 32)
  | _ => (3, 16 + i)

/-- Word `j` of a map of targets. -/
def calMap (ts : List Nat) (j : Nat) : Nat :=
  ((ts.filter fun t => (calMapBit t).1 == j).map fun t => 2 ^ (calMapBit t).2).sum

/-- The target that is held, as a list. -/
def State.calHeldList (s : State) : List Nat :=
  match s.cal.job with
  | some j => if j.start.isSome then [calKey j.kind j.idx] else []
  | none => []

/-- STAT of the calibration page. -/
def State.calStat (s : State) : Nat :=
  (s.cal.job.isSome || !s.cal.bg.isEmpty || !s.ripeningAll.isEmpty).toNat +
    2 * (!(s.bit Base.cal Reg.Cal.VREF_OK && s.bit Base.cal Reg.Cal.TONE_OK)).toNat

end Sys2Proof.Machine
end

