-- ==== Sys2Proof/Machine/Syndrome.lean ====
section
/-!
DEFINITION. Chapter 10: the syndrome unit's rounds, lookups, commits, records and the Pauli frame.
-/
namespace Sys2Proof.Machine

/-! ### The Pauli frame -/

/-- XOR a mask into a word of the Pauli frame. -/
def State.xorFrame (s : State) (w : Nat) (mask : Word) : State :=
  s.setFld Base.syn Reg.Syn.FRAME ((s.reg (Base.syn + 0x080 + 4 * w) ^^^ mask).toNat) w

/-- A write to FRAME_XOR (R306). -/
def State.frameXor (s : State) (mask : Word) : State :=
  s.changeFrame s.nextStep fun s => s.xorFrame (s.fld Base.syn Reg.Syn.FX_WORD) mask

/-- A write of 1 to FRAME_CLR (R306). -/
def State.frameClear (s : State) : State :=
  s.changeFrame s.nextStep fun s => forN 16 (fun w s => s.setFld Base.syn Reg.Syn.FRAME 0 w) s

/-! ### Rounds -/

/-- T0, PERIOD and TMO (R297). -/
def State.synT0 (s : State) : Nat := s.fld64 Base.syn Reg.Syn.T0_LO Reg.Syn.T0_HI
def State.synPeriod (s : State) : Nat := s.fld Base.syn Reg.Syn.PERIOD
def State.synTmo (s : State) : Nat := s.fld Base.syn Reg.Syn.TMO

/-- S_r (R297). -/
def State.roundStart (s : State) (r : Nat) : Nat := s.synT0 + r * s.synPeriod

/-- The smallest round that starts at or after step `k` (R309). -/
def State.firstRound (s : State) (k : Nat) : Nat := (k - s.synT0 + s.synPeriod - 1) / s.synPeriod

/-- STAT.ACTIVE of the syndrome page. -/
def State.synActive (s : State) : Bool := !s.syn.rounds.isEmpty

/-- A write of 1 to ENABLE: rounds start, or the enable is refused (R309). -/
def State.synEnable (s : State) : State :=
  if s.enabled Base.syn then s
  else if s.synPeriod < 8 then s.err Base.syn 0x12 1
  else if s.synPeriod ≤ s.synTmo then s.err Base.syn 0x12 2
  else
    let r := s.firstRound s.nextStep
    let s := s.setEnable Base.syn true
    { s with syn := { s.syn with next := some r } }

/-- A write of 0 to ENABLE: started rounds commit, no new one starts (R309). -/
def State.synDisable (s : State) : State :=
  let s := s.setEnable Base.syn false
  { s with syn := { s.syn with next := none } }

/-- A new round: members named in Absent slots are erased, checks without members are 0, words without checks are
looked up (R298, R299, R301). -/
def State.newRound (s : State) (r : Nat) : Round :=
  let x : Round :=
    { r := r, start := s.roundStart r, cfg := (List.range 32).map fun j => s.reg (Base.syn + 0x100 + 4 * j)
      members := [], checks := [], words := [], reads := [], used := [], chain := 0, masks := [], deadline := false
      linkFault := false, latched := 4 * s.roundStart r }
  let gone := (s.cmap.filter fun e =>
    e.2.testBit 15 && decide (e.1 < 16 * s.nCheck) && (s.slotAt (e.2 % 8192)).cond == .absent).map Prod.fst
  s.advance { x with members := gone.map fun i => (i, none) } (List.range s.nCheck)

/-- ROUND_START (R297). -/
def execRoundStart (s : State) : Out :=
  match s.syn.next with
  | some r =>
    if s.enabled Base.syn ∧ s.roundStart r ≤ s.step0 + 1 then
      finish { s with syn := { s.syn with next := some (r + 1), rounds := s.syn.rounds ++ [s.newRound r] } }
    else .next s
  | none => .next s

/-- A round has checks that are not evaluated. -/
def State.waits (s : State) (x : Round) : Bool := decide (x.checks.length < s.nCheck)

/-- The deadline of a round: its last step (R297). -/
def State.roundDeadline (s : State) (x : Round) : Nat := x.start + s.synPeriod + s.synTmo

/-- Erase the members that a round still misses and evaluate its checks (R300). -/
def State.closeRound (s : State) (x : Round) : Round :=
  let open' := (List.range s.nCheck).filter fun c => !(x.checks.any fun e => e.1 == c)
  let miss := (open'.flatMap s.members).filter fun i => !(x.members.any fun e => e.1 == i)
  s.advance { x with
    members := x.members ++ miss.map fun i => (i, none)
    deadline := true, latched := 4 * (s.roundDeadline x + 1) } open'

/-- ROUND_DEADLINE (R300): the deadline of the first round that is past it with members missing. -/
def execRoundDeadline (s : State) : Out :=
  match s.syn.rounds.find? fun x => s.waits x && decide (s.roundDeadline x < s.step0 + 1) with
  | some x => finish ((s.modRounds fun y => if y.r = x.r then s.closeRound y else y).raise Base.syn 1)
  | none => .next s

/-! ### Correction-table entries -/

/-- BAR2 offset of correction-table entry `i` (R302). -/
def ctOff (i : Nat) : Nat := 0x0210_0000 + 8 * i

/-- The entry at an index, as a 64-bit number. -/
def State.ctEntry (s : State) (i : Nat) : Nat := rdLE s.bar2 (ctOff i) 8

/-- A correction-table entry is active (R307). -/
def State.ctActive (s : State) (i : Nat) : Bool := s.syn.rounds.any fun x => x.used.contains i

/-- What a returned entry does: it applies a mask, faults, and is followed by a further read. -/
structure CtStep where
  mask : Option (Nat × Word)
  fault : Option Nat
  next : Option CtRead

/-- Judge a returned entry (R302). -/
def ctStep (v : Nat) (rd : CtRead) : CtStep :=
  let link := v / 2 ^ 40 % 2 ^ 16
  if v / 2 ^ 56 ≠ 0 ∨ v / 2 ^ 36 % 16 ≠ 0 then ⟨none, some 0x14, none⟩
  else
    let m := some (v / 2 ^ 32 % 16, BitVec.ofNat 32 v)
    if link = 0xFFFF then ⟨m, none, none⟩
    else if rd.links = 3 then ⟨m, some 0x13, none⟩
    else ⟨m, none, some { rd with idx := link, links := rd.links + 1, refetch := false, copy := none }⟩

/-- What the re-fetch of entry `i`, issued now, reads: its copy in DRAM (R37). -/
def State.ctCopy (s : State) (i : Nat) : Nat := rdLE s.dram (shadowAt (ctOff i)) 8

/-- The read of an entry fails its parity check: the entry is fetched again (R307). -/
def State.ctRefetch (s : State) (i : Nat) : State :=
  ((s.err Base.syn 0x10 i).raise Base.syn 4).refetch (shadowAt (ctOff i))

/-- The read as it waits for its re-fetch. -/
def CtRead.waits (rd : CtRead) (copy : Nat) : CtRead := { rd with refetch := true, copy := some copy }

/-- Record what a link fault asks for (R302). -/
def State.ctFault (s : State) (f : Option Nat) (idx : Nat) : State :=
  match f with
  | some 0x13 => (s.err Base.syn 0x13 idx).raise Base.syn 3
  | some c => s.err Base.syn c idx
  | none => s

/-- The entry `v` of a read of a round that has not committed is there. -/
def State.ctJoin (s : State) (x : Round) (rd : CtRead) (v : Nat) : State :=
  let st := ctStep v rd
  (s.ctFault st.fault rd.idx).modRounds fun y =>
    if y.r = x.r then
      { y with
        reads := y.reads.erase rd ++ st.next.toList
        used := y.used ++ (st.next.toList.map fun n => n.idx)
        chain := max y.chain (rd.links + st.next.toList.length)
        masks := y.masks ++ st.mask.toList
        linkFault := y.linkFault || st.fault.isSome }
    else y

/-- A read of a round that has not committed returns. -/
def State.ctRoundReturn (s : State) (x : Round) (rd : CtRead) (bad : Bool) : State :=
  if bad then
    let v := s.ctCopy rd.idx
    (s.ctRefetch rd.idx).modRounds fun y =>
      if y.r = x.r then { y with reads := y.reads.map fun z => if z = rd then z.waits v else z } else y
  else s.ctJoin x rd (s.ctEntry rd.idx)

/-- The entry `v` of a late read is there: its mask goes into the frame at once (R307). -/
def State.ctApply (s : State) (rd : CtRead) (v : Nat) : State :=
  let st := ctStep v rd
  let s := s.ctFault st.fault rd.idx
  let s := { s with syn := { s.syn with late := s.syn.late.erase rd ++ st.next.toList } }
  match st.mask with
  | some (w, m) => s.changeFrame s.nextStep fun s => s.xorFrame w m
  | none => s

/-- A late read returns. -/
def State.ctLateReturn (s : State) (rd : CtRead) (bad : Bool) : State :=
  if bad then
    let v := s.ctCopy rd.idx
    let s := s.ctRefetch rd.idx
    { s with syn := { s.syn with late := s.syn.late.map fun z => if z = rd then z.waits v else z } }
  else s.ctApply rd (s.ctEntry rd.idx)

/-- CT_ENTRY_RETURN (R302): the read of word `j` that was issued first returns; `bad` says that it fails its parity. -/
def execCtEntryReturn (j : Fin 32) (bad : Bool) (s : State) : Out :=
  let isFor (rd : CtRead) : Bool := rd.word == j.val && !rd.refetch
  match s.syn.late.find? isFor with
  | some rd => finish (s.ctLateReturn rd bad)
  | none =>
    match s.syn.rounds.find? fun x => x.reads.any isFor with
    | some x =>
      match x.reads.find? isFor with
      | some rd => finish (s.ctRoundReturn x rd bad)
      | none => .next s
    | none => .next s

/-- CT_REFETCH_COMPLETE (R36, R37, R307): entry `i` returns from its copy, as it stood when the re-fetch was issued. It waits
while the controller is frozen. The mask of a committed round's entry goes into the frame; the entry of a round that has not
committed joins the round, whose masks reach the frame at its commit if it is not skipped (R300; assumption log 63). -/
def execCtRefetchComplete (i : Fin 65536) (s : State) : Out :=
  let isFor (rd : CtRead) : Bool := rd.idx == i.val && rd.refetch
  if s.frozen || s.refetchOut (shadowAt (ctOff i)) then .next s
  else
    match s.syn.late.find? isFor with
    | some rd => finish (s.ctApply rd (rd.copy.getD 0))
    | none =>
      match s.syn.rounds.find? fun x => x.reads.any isFor with
      | some x =>
        match x.reads.find? isFor with
        | some rd => finish (s.ctJoin x rd (rd.copy.getD 0))
        | none => .next s
      | none => .next s

/-! ### Commit -/

/-- Check bits `lo` to `lo + 8k − 1` as `k` bytes (R308). -/
def Round.checkBytes (x : Round) (lo k : Nat) : Nat :=
  ((List.range (8 * k)).map fun i => if x.checks.any fun e => e.1 == lo + i && e.2.1 then 2 ^ i else 0).sum

/-- The round commits without an entry whose re-fetch has not returned (R33, R307). -/
def Round.ctLate (x : Round) : Bool := x.reads.any fun rd => rd.refetch

/-- Flags of byte 3 of a round record (R308). -/
def Round.flags (x : Round) (skipped abandoned : Bool) : Nat :=
  x.anyErased.toNat + 2 * x.deadline.toNat + 4 * skipped.toNat + 8 * abandoned.toNat +
    16 * (x.ctLate && !skipped && !abandoned).toNat + 32 * x.linkFault.toNat

/-- The erased checks of a round, lowest first. -/
def Round.erasedList (x : Round) (n : Nat) : List Nat := (List.range n).filter x.erased

/-- Part 0 of a round record (R308). -/
def Round.part0 (x : Round) (flags step n : Nat) : List Byte :=
  withCrc (packBytes [(0x5359, 2), (0, 1), (flags, 1), (x.r, 8), (x.start, 8), (step, 4), (x.checkBytes 0 32, 32),
    ((x.erasedList n).length, 2), ((x.erasedList n).headD 0xFFFF, 2)])

/-- Part 1 of a round record (R308). -/
def Round.part1 (x : Round) (flags : Nat) : List Byte :=
  withCrc (packBytes [(0x5359, 2), (1, 1), (flags, 1), (x.r, 8), (x.checkBytes 256 32, 32), (0, 16)])

/-- Write a round's record to ROUND_RING, with its commit step, or report that the ring is invalid (R308). -/
def State.roundRecord (s : State) (x : Round) (flags step : Nat) : State :=
  let ring := s.fld Base.syn Reg.Syn.ROUND_RING
  if s.ringValid ring 5 (s.owner Base.syn) then
    let s := s.ringPush ring (x.part0 flags step s.nCheck)
    if s.nCheck ≤ 256 then s else s.ringPush ring (x.part1 flags)
  else (s.err Base.syn 0x15 ring).raise Base.syn 7

/-- Every open shot of the page's owner is SPOILED (R307). -/
def State.spoilOpen (s : State) (f : Nat) : State :=
  (s.seqs.map Prod.fst).foldl (fun s n =>
    if (s.seq n).isOpen && s.owner (Base.seq n) == f then
      match (s.seq n).shots.getLast? with
      | some x => s.modShot n x.num fun x => x.flag Flag.SPOILED
      | none => s
    else s) s

/-- The masks of a round that commits in the cycle that ends at `at'` go into the frame; reads whose re-fetch is under way go in
late (R303, R307). -/
def State.applyRound (s : State) (x : Round) (at' : Nat) : State :=
  let s := s.changeFrame (stepFrom at') fun s => x.masks.foldl (fun s m => s.xorFrame m.1 m.2) s
  let s := { s with syn := { s.syn with late := s.syn.late ++ x.reads } }
  if x.ctLate then s.spoilOpen (s.owner Base.syn) else s

/-- The end of the round's commit cycle, in units of 0.5 ns: the time that R303 gives, after its predecessor's (R297), in the
present count (assumption log 4). -/
def State.commitEnd (s : State) (x : Round) : Nat :=
  let due := max (x.latched + 2 * (6 + (x.used.length + 3) / 4 + 4 * x.chain)) (s.syn.lastEnd + 2)
  max (8 * s.count + 1) (min due (8 * s.count + 8))

/-- A round joins those that have committed (R299). -/
def SynSt.wentBy (y : SynSt) (start period : Nat) : List (Nat × Nat) :=
  match y.gone with
  | e :: es => if e.2 = start then (e.1, start + period) :: es else (start, start + period) :: e :: es
  | [] => [(start, start + period)]

/-- A round commits (R300, R303, R304, R308). -/
def State.commitRound (s : State) (x : Round) : State :=
  let skipped := s.bit Base.syn Reg.Syn.ERASE_POLICY && x.anyErased
  let at' := s.commitEnd x
  let s := if skipped then s else s.applyRound x at'
  let s := { s with syn := { s.syn with
    rounds := s.syn.rounds.filter fun y => y.r != x.r, gone := s.syn.wentBy x.start s.synPeriod, lastEnd := at' } }
  let s := s.setFld64 Base.syn Reg.Syn.ROUND_LO Reg.Syn.ROUND_HI x.r
  let s := if x.anyErased then s.inc Base.syn Reg.Syn.ERASE_COUNT else s
  let s := (s.raise Base.syn 0)
  let s := if skipped then s.raise Base.syn 8 else s
  let s := s.feed at' 3 0 (mkSlot skipped (if x.anyErased && !skipped then 1 else 0) (if skipped then 0 else 255) x.start)
  s.roundRecord x (x.flags skipped false) ((at' - 1) / 4)

/-- ROUND_COMMIT (R303): the oldest round, once its checks are evaluated and its reads have returned. -/
def execRoundCommit (s : State) : Out :=
  match s.syn.rounds with
  | x :: _ => if s.waits x || x.reads.any fun rd => !rd.refetch then .next s else finish (s.commitRound x)
  | [] => .next s

/-- A round is abandoned (R304, R309, R313). -/
def State.abandonRound (s : State) (x : Round) : State :=
  let s := if x.anyErased then s.inc Base.syn Reg.Syn.ERASE_COUNT else s
  (s.feed (8 * (s.count + 1)) 3 0 (mkSlot true 0 0 x.start)).roundRecord x (x.flags false true) s.step0

/-- An immediate disable of the unit (R309, R560). -/
def State.synKill (s : State) : State :=
  let rs := s.syn.rounds
  let s := s.setEnable Base.syn false
  let s := { s with syn := { s.syn with next := none, rounds := [] } }
  let s := s.addSat Base.syn Reg.Syn.ABANDON_COUNT rs.length
  let s := if rs.isEmpty then s else s.raise Base.syn 6
  rs.foldl State.abandonRound s

/-- The slots of a peer become Absent: members that wait for one are erased (R293, R299). -/
def State.synAbsent (s : State) (d : Nat) : State :=
  s.modRounds fun r =>
    s.accept r ((s.cmap.filter fun e =>
      e.2.testBit 15 && e.2 / 256 % 32 == d && decide (e.1 < 16 * s.nCheck)).map Prod.fst) none (8 * s.count + 2)

/-! ### The check map -/

/-- An access to CMAP_DATA (R309, R313): a read answers member CMAP_ADDR, a write sets it where R309 allows; both
advance CMAP_ADDR. -/
def State.cmapAccess (s : State) (w : Option Word) : State :=
  let a := s.fld Base.syn Reg.Syn.CMAP_ADDR
  let s :=
    match w with
    | none => s.respond (s.cmapAt a)
    | some v =>
      if s.enabled Base.syn || s.synActive then s.err Base.syn 0x11 0x05C
      else { s with cmap := SMap.set (fun _ => 0) s.cmap a ((v &&& 0x9FFF#32).toNat) }
  s.setFld Base.syn Reg.Syn.CMAP_ADDR (a + 1)

end Sys2Proof.Machine
end

