-- ==== Sys2Proof/Machine/Jency.lean ====
section
/-!
DEFINITION. Chapter 11: the Jency link and the mesh. Flits, delivery, replay, training, bulk messages, membership (R314 to
R340).
-/
namespace Sys2Proof.Machine

/-! ### Flits -/

/-- Bits `lo` to `lo + w − 1` of a flit. -/
def flitGet (f : BitVec 512) (lo w : Nat) : Nat := f.toNat / 2 ^ lo % 2 ^ w

/-- Feed `k` bits of a number, least significant first, into the CRC register of R316, kept with bit 0 as the first. -/
def flitCrcLoop : Nat → Nat → Nat → Nat
  | 0, _, c => c
  | k + 1, v, c =>
    let x := (c ^^^ v) % 2
    flitCrcLoop k (v / 2) (if x = 1 then (c / 2) ^^^ 0x82F6_3B78 else c / 2)

/-- The CRC-32 of R316 over bits [479:0] of a flit. -/
def flitCrc (v : Nat) : Nat := (flitCrcLoop 480 v 0xFFFF_FFFF) ^^^ 0xFFFF_FFFF

/-- The fields that a replay carries over: decisions, events, rennet and bulk with its header bits (R322). -/
def flitBody : BitVec 512 := BitVec.ofNat 512 ((2 ^ 480 - 2 ^ 48) + 63 * 2 ^ 40)

/-- A flit to launch, from its type, ACK and TLCHK and its content (R316). -/
def mkFlit (type ack tlchk : Nat) (body : BitVec 512) : BitVec 512 :=
  let v := (body &&& flitBody).toNat + type + 2 ^ 3 * ack + 2 ^ 8 * (tlchk % 2 ^ 32)
  BitVec.ofNat 512 (v + 2 ^ 480 * flitCrc v)

/-- A decision entry as it stands in a flit (R317). -/
def PendDec.bits (e : PendDec) : Nat :=
  e.dev + 2 ^ 5 * e.slot + 2 ^ 13 * e.state + 2 ^ 15 * e.nodec.toNat + 2 ^ 16 * e.conf + 2 ^ 24 * e.stamp +
    2 ^ 40 * e.hop.toNat

/-- The decision entry that 41 bits hold (R317). -/
def decOf (v : Nat) : PendDec where
  dev := v % 32
  slot := v / 2 ^ 5 % 256
  hop := v.testBit 40
  nodec := v.testBit 15
  state := v / 2 ^ 13 % 4
  conf := v / 2 ^ 16 % 256
  stamp := v / 2 ^ 24 % 65536

/-- A rennet entry as it stands in a flit (R326). -/
def Rennet.bits (r : Rennet) (hop : Bool) : Nat :=
  1 + 2 * r.fire.toNat + 4 * r.group + 64 * hop.toNat + 128 * (r.count % 512)

/-- A bulk chunk with its header bits, as it stands in a flit. -/
def bulkBits (som eom cls abort : Bool) (data : Word64) : Nat :=
  2 ^ 410 + 2 ^ 411 * som.toNat + 2 ^ 412 * eom.toNat + 2 ^ 413 * cls.toNat + 2 ^ 414 * abort.toNat + 2 ^ 416 * data.toNat

/-- The CRC of a flit does not check. -/
def crcBad (f : BitVec 512) : Bool := flitGet f 480 32 != flitCrc (flitGet f 0 480)

/-- A received flit is bad (R316): an invalid header, its CRC, a reserved value or a reserved bit. A TRAIN flit of a peer that
is not LINKED yet is not bad, and delivers nothing (DESIGN CHOICE, assumption log 67). -/
def flitBad (f : BitVec 512) (hdr : Bool) : Bool :=
  hdr || crcBad f || (flitGet f 0 3 != 4 &&
    (!(flitGet f 0 3 == 1 || flitGet f 0 3 == 2 || flitGet f 0 3 == 3) ||
      decide (8 < flitGet f 40 4) || decide (2 < flitGet f 44 2) ||
      flitGet f 5 3 != 0 || flitGet f 46 2 != 0 || flitGet f 415 1 != 0))

/-! ### Lanes and blocks -/

/-- The next 128 bits of a lane's scrambler x^58 + x^39 + 1, the first as bit 0, and its state after them (R314). Bit k of the
state is the output of 58 − k bits before (assumption log 67). -/
def laneStream (st : Nat) : Nat × Nat :=
  (List.range 4).foldl (fun a i =>
    let m := (a.2 ^^^ a.2 / 2 ^ 19) % 2 ^ 32
    (a.1 + m * 2 ^ (32 * i), a.2 / 2 ^ 32 + m * 2 ^ 26)) (0, st)

/-- The four blocks of a flit with a sync header, and the scramblers after them (R314): the header in bits [1:0], then lane l's
bits [128l + 127:128l], scrambled. -/
def lanesOut (hdr : Nat) (scr : List Nat) (f : BitVec 512) : List (BitVec 130) × List Nat :=
  ((List.range 4).map fun l => BitVec.ofNat 130 (hdr + 4 * (flitGet f (128 * l) 128 ^^^ (laneStream (scr.getD l 0)).1)),
    (List.range 4).map fun l => (laneStream (scr.getD l 0)).2)

/-- A block as received, its lane's polarity corrected. -/
def blockBits (inv : Bool) (b : BitVec 130) : Nat := if inv then (~~~b).toNat else b.toNat

/-- The flit that four blocks carry (R314). -/
def lanesIn (pol : List Bool) (scr : List Nat) (bs : List (BitVec 130)) : BitVec 512 :=
  BitVec.ofNat 512 ((List.range 4).map fun l =>
    2 ^ (128 * l) * (blockBits (pol.getD l false) (bs.getD l 0) / 4 ^^^ (laneStream (scr.getD l 0)).1)).sum

/-- The sync header of a block is invalid (R314). -/
def hdrWrong (b : BitVec 130) : Bool := b.getLsbD 0 == b.getLsbD 1

/-- Invalid sync headers in a row on each lane, after four more blocks (R315). -/
def hdrBads (was : List Nat) (bs : List (BitVec 130)) : List Nat :=
  (List.range 4).map fun l => if hdrWrong (bs.getD l 0) then was.getD l 0 + 1 else 0

/-- Valid sync headers in a row up to the 64 that give block lock, which 8 invalid ones in a row take away (R315, R320). -/
def hdrRuns (run bad : List Nat) (bs : List (BitVec 130)) : List Nat :=
  (List.range 4).map fun l =>
    let k := run.getD l 0
    if !hdrWrong (bs.getD l 0) then min 64 (k + 1) else if k < 64 ∨ 8 ≤ bad.getD l 0 then 0 else k

/-- The descramblers of the next blocks, from the reserved zeros in bits [127:40] of lane 2 of a TRAIN flit, which show its
scrambler bare. The seeds 0 to 3 make lane 1 the same sequence one bit on, lane 3 the sum of both, and lane 0 zero (R314,
R320; assumption log 67). -/
def findScr (v : Nat) : List Nat :=
  let ks := v / 2 ^ 40 % 2 ^ 58
  let st := ks / 2 ^ 30 + (ks ^^^ ks / 2 ^ 19) % 2 ^ 30 * 2 ^ 28
  let one := st / 2 + (st ^^^ st / 2 ^ 19) % 2 * 2 ^ 57
  [0, one, st, st ^^^ one]

/-- A flit is a good TRAIN flit: its CRC, and in every lane TYPE, lane number and one TLCHK (R320). -/
def trainFlitOk (f : BitVec 512) : Bool :=
  !crcBad f && (List.range 4).all fun l =>
    flitGet f (128 * l) 3 == 4 && flitGet f (128 * l + 3) 2 == l && flitGet f (128 * l + 8) 32 == flitGet f 8 32

/-! ### Port state -/

/-- PSTATE of a port: 0 DOWN, 1 TRAINING, 2 LINKED, 3 MEMBER (R340). -/
def State.pState (s : State) (p : Nat) : Nat := s.fld (Base.jport p) Reg.Jport.PSTATE

/-- Set PSTATE. -/
def State.setPState (s : State) (p v : Nat) : State := s.setFld (Base.jport p) Reg.Jport.PSTATE v

/-- JLAT and RA of a port. -/
def State.jlat (s : State) (p : Nat) : Nat := s.fld (Base.jport p) Reg.Jport.JLAT
def State.jra (s : State) (p : Nat) : Nat := s.fld (Base.jport p) Reg.Jport.RA

/-- PORT_EN of a port. -/
def State.portEn (s : State) (p : Nat) : Bool := (s.fld Base.mesh Reg.Mesh.PORT_EN).testBit p

/-- MESH_ID `d` is a member. -/
def State.isMember (s : State) (d : Nat) : Bool := (s.fld Base.mesh Reg.Mesh.MEMBERS).testBit d

/-- The port becomes DOWN: what it keeps for flits under way goes. Originals still missing are lost in their time (R323), and a
message in assembly ends where the flits that came end (R330): `cut` stands for the chunks that come no more. -/
def State.portDown (s : State) (p : Nat) : State :=
  let cut : List Chunk :=
    if (s.port p).asm.isSome || !(s.port p).bulk.isEmpty then
      [⟨s.count + 1 + 2 * s.jra p, false, false, true, false, 0, true⟩]
    else []
  (s.setPState p 0).modPort p fun x =>
    { x with
      sent := [], replays := [], rxs := [], badRun := 0, bulk := x.bulk ++ cut, launched := none, leaving := false
      memFrom := none, memTo := none }

/-- The entries pending on a port are discarded and counted (R324, R335). -/
def State.dropPending (s : State) (p : Nat) : State :=
  let x := s.port p
  (s.addSat (Base.jport p) Reg.Jport.DROP_COUNT (x.decs.length + x.evs.length + x.rennets.length)).modPort p fun x =>
    { x with decs := [], evs := [], rennets := [] }

/-- The link of a port is lost (R324). -/
def State.linkLost (s : State) (p : Nat) : State :=
  (((s.portDown p).dropPending p).raise (Base.jport p) 1).raise Base.mesh 3

/-! ### Pending events and rennets -/

/-- A remote event joins a port's pending set, at most one per channel (R325). -/
def State.pendEv (s : State) (p e : Nat) (hop : Bool) : State :=
  if (s.port p).evs.any fun x => x.1 == e then s else s.modPort p fun x => { x with evs := x.evs ++ [(e, hop)] }

/-- A local firing on an exported channel (R325). -/
def State.exportEv (s : State) (e : Nat) : State :=
  if (s.fld Base.mesh Reg.Mesh.REV_EXPORT (e / 32)).testBit (e % 32) then
    (List.range 8).foldl (fun s p => if (s.fld Base.mesh Reg.Mesh.REV_PORTS).testBit p then s.pendEv p e false else s) s
  else s

/-! ### Launch -/

/-- Charge a user bulk slot of a port (R27, R28, R327). -/
def State.chargeBulk (s : State) (p : Nat) : Option State :=
  let b := Base.jport p
  let limit := s.limitOf b
  let pool := 256 - (limit + Reg.Mesh.MGMT_LIMIT.get (s.limitWord (Base.mesh + 0x0C0 + 4 * p)))
  if s.usedOf (b + 0x024) < limit then some (s.useUnits (b + 0x024) 1)
  else if s.usedOf (b + 0x026) < pool then some (s.useUnits (b + 0x026) 1)
  else none

/-- The bulk field of a new flit: an ABORT chunk, the next chunk of the user message, or nothing (R327 to R330). -/
def State.takeBulk (s : State) (p : Nat) : Nat × State :=
  let x := s.port p
  if x.abort then (bulkBits false false true true 0, s.modPort p fun y => { y with abort := false })
  else
    match x.tx with
    | none => (0, s)
    | some (chunks, i) =>
      match s.chargeBulk p with
      | none => (0, s)
      | some t =>
        let last := decide (chunks.length ≤ i + 1)
        let t := t.modPort p fun y => { y with tx := if last then none else some (chunks, i + 1) }
        let t := if last then t.raise (Base.jport p) 10 else t
        (bulkBits (i == 0) last true false (chunks.getD i 0), t)

/-- The content of a new flit of a MEMBER port, taken from what is pending (R290, R316, R325, R326). -/
def State.takeContent (s : State) (p : Nat) : Nat × State :=
  let x := s.port p
  let ds := x.decs.take 8
  let es := x.evs.take 2
  let v := 2 ^ 40 * ds.length + 2 ^ 44 * es.length +
    ((ds.zipIdx).map fun e => 2 ^ (48 + 41 * e.2) * e.1.bits).sum +
    ((es.zipIdx).map fun e => 2 ^ (376 + 9 * e.2) * (e.1.1 + 256 * e.1.2.toNat)).sum +
    (match x.rennets with
      | r :: _ => 2 ^ 394 * r.1.bits r.2
      | [] => 0)
  let s := s.modPort p fun y => { y with decs := y.decs.drop 8, evs := y.evs.drop 2, rennets := y.rennets.tail }
  let bulk := s.takeBulk p
  (v + bulk.1, bulk.2)

/-- ACK of the flit launched now: the status of the flit delivered in the previous tc (R316, R321). -/
def PortSt.ack (x : PortSt) (c : Nat) : Nat :=
  match x.rxs.find? fun r => r.1 + 1 == c with
  | some (_, good) => if good then 1 else 2
  | none => 0

/-- A flit leaves on the four lanes (R314). -/
def State.sendFlit (s : State) (p hdr : Nat) (f : BitVec 512) : State :=
  let out := lanesOut hdr (s.port p).txScr f
  s.modPort p fun x => { x with launched := some s.count, txFlit := f, txBlocks := out.1, txScr := out.2 }

/-- Launch a flit of a kind: 0 DATA, 1 REPLAY1, 2 REPLAY2. -/
def State.launch (s : State) (p kind orig : Nat) (body : BitVec 512) : State :=
  let c := s.count
  let s := s.sendFlit p 1 (mkFlit (kind + 1) ((s.port p).ack c) c body)
  let s := s.modPort p fun x => { x with sent := x.sent ++ [⟨c, kind, orig, body⟩] }
  if kind = 0 then s else s.inc (Base.jport p) Reg.Jport.REPLAY_COUNT

/-- The TRAIN flit of the present count (R320). -/
def State.trainFlit (s : State) (p : Nat) : BitVec 512 :=
  let lane (l : Nat) : Nat := 2 ^ (128 * l) * (4 + 2 ^ 3 * l + 2 ^ 8 * (s.count % 2 ^ 32))
  let echo := match (s.port p).train.heard with
    | some (v, t) => if 64 * s.count - t < 64 then 2 ^ 40 * v + 2 ^ 56 * (64 * s.count - t) + 2 ^ 62 else 0
    | none => 0
  let v := ((List.range 4).map lane).sum + echo + 2 ^ 63 * (s.bit Base.mesh Reg.Mesh.MEMBER).toNat +
    2 ^ 64 * s.fld Base.mesh Reg.Mesh.MESH_ID + 2 ^ 192 * s.fld64 Base.glob Reg.Glob.SERIAL_LO Reg.Glob.SERIAL_HI
  BitVec.ofNat 512 (v + 2 ^ 480 * flitCrc v)

/-- JENCY_FLIT_LAUNCH (R314, R316, R320 to R322, R332): once in each count, a TRAIN flit of a port in TRAINING and the flit due of
a LINKED or MEMBER port. -/
def execJencyFlitLaunch (p : Fin 8) (s : State) : Out :=
  let x := s.port p
  let c := s.count
  if s.pState p < 1 || x.launched == some c then .next s
  else if s.pState p = 1 then finish (s.sendFlit p 2 (s.trainFlit p))
  else
    let due := x.replays.filter fun r => r.tc == c
    let rest := x.replays.filter fun r => r.tc != c
    let second := due.find? fun r => r.kind == 2
    match second, due.head? with
    | some r, _ =>
      let moved := (due.filter fun q => q.kind == 1).map fun q => { q with tc := q.orig + 2 * s.jra p, kind := 2 }
      finish ((s.modPort p fun y => { y with replays := rest ++ moved }).launch p 2 r.orig r.body)
    | none, some r => finish ((s.modPort p fun y => { y with replays := rest }).launch p 1 r.orig r.body)
    | none, none =>
      let s := s.modPort p fun y => { y with replays := rest }
      if s.pState p = 3 then
        let t := s.takeContent p
        finish (t.2.launch p 0 c (BitVec.ofNat 512 t.1))
      else finish (s.launch p 0 c 0)

/-! ### Delivery -/

/-- The sender reads the status of its flit launched at `k`; a bad one is replayed at the next allowance (R321). -/
def State.readStatus (s : State) (p k : Nat) (bad : Bool) : State :=
  match (s.port p).sent.find? fun f => f.tc == k with
  | none => s
  | some f =>
    s.modPort p fun x =>
      { x with
        sent := x.sent.filter fun g => decide (k < g.tc)
        replays := if bad && decide (f.kind < 2) then x.replays ++ [⟨k + s.jra p, f.kind + 1, f.orig, f.body⟩]
          else x.replays }

/-- The timeline check of a good flit (R86). -/
def State.tlchk (s : State) (p received : Nat) : State :=
  let d := signed 32 (unsigned 32 ((s.count : Int) - received - s.jlat p))
  let s := (s.setFld Base.tl Reg.Tl.TLCHK_DIFF (unsigned 16 (clamp (-32767) 32767 d)) p).setBit Base.tl Reg.Tl.VALID true p
  let live := s.fld Base.tl Reg.Tl.MISMATCH_LIVE
  if d = 0 then s.setFld Base.tl Reg.Tl.MISMATCH_LIVE (if live.testBit p then live - 2 ^ p else live)
  else
    ((s.setFld Base.tl Reg.Tl.MISMATCH_LIVE (live ||| 2 ^ p)).setFld Base.tl Reg.Tl.MISMATCH
      (s.fld Base.tl Reg.Tl.MISMATCH ||| 2 ^ p)).raise Base.tl 3

/-- The stamp of a delivered entry (R291). -/
def State.fullStamp (s : State) (low : Nat) : Nat :=
  let now := s.step0 % 2 ^ 32
  (now + 2 ^ 32 - (now + 65536 - low) % 65536) % 2 ^ 32

/-- A decision entry is delivered: own and absent sources are discarded, others written and forwarded (R291, R292,
R333). On a device that is itself no member every source counts as absent (assumption log 67). -/
def State.takeDec (s : State) (e : PendDec) : State :=
  if e.dev = s.fld Base.mesh Reg.Mesh.MESH_ID then (s.inc Base.dec Reg.Dec.LOOP_COUNT).raise Base.dec 1
  else if !s.isMember e.dev || !s.bit Base.mesh Reg.Mesh.MEMBER then s.inc Base.mesh Reg.Mesh.ABSENT_DROP_COUNT
  else
    let s := if e.hop then s else s.pendDecs (s.fld Base.dec Reg.Dec.FWD_PORTS e.dev) { e with hop := true }
    s.writeCopy (8 * s.count + 2) e.dev e.slot (mkSlot e.nodec e.state e.conf (s.fullStamp e.stamp))

/-- The ports on which entries that arrived at port `p` are forwarded (R325, R326). -/
def State.fwdOf (s : State) (p : Nat) : Nat :=
  s.fld Base.dec Reg.Dec.FWD_PORTS (s.fld (Base.jport p) Reg.Jport.PEER_ID)

/-- A remote event is delivered; an import produces nothing in Cellar (R325, R455). -/
def State.takeEv (s : State) (p v : Nat) : State :=
  let e := v % 256
  let s := if v.testBit 8 then s
    else (List.range 8).foldl (fun s q => if (s.fwdOf p).testBit q then s.pendEv q e true else s) s
  if (s.fld Base.mesh Reg.Mesh.REV_IMPORT (e / 32)).testBit (e % 32) && !s.inDev .cellar then s.publish e true else s

/-- A rennet entry is delivered: its count is rebuilt, and it acts, or comes too late (R326). -/
def State.takeRennet (s : State) (p v : Nat) : State :=
  if v.testBit 0 then
    let ahead := (v / 128 % 512 + 512 - s.count % 512) % 512
    if ahead = 0 ∨ 256 < ahead then (s.inc Base.mesh Reg.Mesh.RENNET_LATE_COUNT).raise Base.mesh 4
    else
      let r : Rennet := ⟨v / 4 % 16, v.testBit 1, s.count + ahead⟩
      let s := s.addRennet r
      if v.testBit 6 then s
      else (List.range 8).foldl (fun s q => if (s.fwdOf p).testBit q then s.queueRennet r true q else s) s
  else s

/-- A bulk chunk takes its place among those held, in order of release (R329). -/
def holdChunk (c : Chunk) : List Chunk → List Chunk
  | [] => [c]
  | x :: xs => if c.rel < x.rel then c :: x :: xs else x :: holdChunk c xs

/-- Entries, events and rennet of an original launched at `orig` count: its port was MEMBER then (R332, R333). -/
def State.memberAt (s : State) (p orig : Nat) : Bool :=
  let x := s.port p
  (x.memFrom.all fun k => decide (k ≤ orig)) &&
    (s.pState p == 3 || x.memTo.any fun k => decide (orig < k))

/-- The content of the first good copy of an original launched at `orig` (R323, R332). -/
def State.takeFlit (s : State) (p orig : Nat) (f : BitVec 512) : State :=
  let s :=
    if s.memberAt p orig then
      let s := s.newWindow
      let s := (List.range (flitGet f 40 4)).foldl (fun s i => s.takeDec (decOf (flitGet f (48 + 41 * i) 41))) s
      let s := (List.range (flitGet f 44 2)).foldl (fun s k => s.takeEv p (flitGet f (376 + 9 * k) 9)) s
      s.takeRennet p (flitGet f 394 16)
    else s
  if f.getLsbD 410 then
    s.modPort p fun x =>
      { x with bulk := holdChunk ⟨orig + 2 * s.jra p + s.jlat p, f.getLsbD 411, f.getLsbD 412, f.getLsbD 413,
          f.getLsbD 414, BitVec.ofNat 64 (flitGet f 416 64), false⟩ x.bulk }
  else s

/-- A good flit launched at `tc` is delivered: the first copy of its original is taken, later ones are counted (R323). -/
def State.goodFlit (s : State) (p tc : Nat) (f : BitVec 512) : State :=
  let ra := s.jra p
  let s := s.tlchk p (flitGet f 8 32)
  match flitGet f 0 3 with
  | 4 => s
  | 1 => s.takeFlit p tc f
  | k =>
    let orig := tc - (k - 1) * ra
    let first := (s.port p).missing.any fun m => m.1 == orig
    let s := s.modPort p fun x =>
      { x with missing := x.missing.filter fun m => m.1 != orig && !(k == 3 && m.1 + ra == tc) }
    if first then s.takeFlit p orig f else s.inc (Base.jport p) Reg.Jport.DUP_COUNT

/-- A bad flit launched at `tc` is delivered (R316, R323, R324): it is a missing original, unless it stands where the
replay of one does. -/
def State.badFlit (s : State) (p tc : Nat) : State :=
  let b := Base.jport p
  let ra := s.jra p
  let s := (s.inc b Reg.Jport.CRC_ERR_COUNT).raise b 2
  let s := s.modPort p fun x =>
    { x with
      badRun := x.badRun + 1
      missing := if x.missing.any fun m => m.1 + ra == tc || m.1 + 2 * ra == tc then x.missing
        else x.missing ++ [(tc, tc + 2 * ra + s.jlat p)] }
  if 16 ≤ (s.port p).badRun then s.linkLost p else s

/-- A good TRAIN flit, its check complete `at'` units of 62.5 ps into the present count: TLCHK for the echo, the peer, and with an
echo the round trip since the count launched that returns in it (R320). -/
def State.hearTrain (s : State) (p : Nat) (f : BitVec 512) (at' : Nat) : State :=
  let back := (s.count % 65536 + 65536 - flitGet f 40 16) % 65536
  s.modPort p fun x => { x with train := { x.train with
    heard := some (flitGet f 8 16, 64 * s.count + at')
    rtt := if f.getLsbD 62 then some (64 * back + at', flitGet f 56 6) else x.train.rtt
    peer := flitGet f 64 5, serial := flitGet f 192 64, member := f.getLsbD 63 } }

/-- Four blocks reach a port in TRAINING (R315, R320): the lanes lock, their polarity is read off the training header, the
descramblers are aligned, and TRAIN flits are heard. A CRC that fails aligns them anew. -/
def State.trainBlocks (s : State) (p : Nat) (bs : List (BitVec 130)) (at' : Nat) : State :=
  let x := s.port p
  let bad := hdrBads x.hdrBad bs
  let run := hdrRuns x.hdrRun bad bs
  let s := s.modPort p fun y => { y with hdrBad := bad, hdrRun := run }
  let scr (l : List Nat) (s : State) : State := s.modPort p fun y => { y with rxScr := l }
  if !run.all fun k => k == 64 then scr [] s
  else if x.rxScr.isEmpty then
    let pol := bs.map fun b => b.getLsbD 0
    (scr (findScr (blockBits (pol.getD 2 false) (bs.getD 2 0) / 4)) s).modPort p fun y => { y with pol := pol }
  else
    let f := lanesIn x.pol x.rxScr bs
    if crcBad f then scr [] s
    else
      let s := scr (x.rxScr.map fun k => (laneStream k).2) s
      if trainFlitOk f then s.hearTrain p f at' else s

/-- A flit of a LINKED or MEMBER port is delivered; `moved` is by how much the arrival has moved from its trained time. -/
def State.deliverFlit (s : State) (p : Nat) (flit : BitVec 512) (hdr : Bool) (moved : Int) : State :=
  let c := s.count
  let s := if 24 < moved.natAbs then s.raise (Base.jport p) 5 else s
  let bad := flitBad flit hdr
  let tc := c - s.jlat p
  let s := s.readStatus p (c - (2 * s.jlat p + 1)) (bad || flitGet flit 3 2 == 2)
  let s := s.modPort p fun x => { x with rxs := ((c, !bad) :: x.rxs).take 2 }
  if bad then s.badFlit p tc
  else (s.modPort p fun x => { x with badRun := 0 }).goodFlit p tc flit

/-- JENCY_FLIT_DELIVERY (R315, R319, R320): the four blocks of a flit, lane skew taken out. `time` is by how much the arrival has
moved from its trained time, in units of 62.5 ps; on a port in TRAINING, when the flit's check completes after the start of the
count. -/
def execJencyFlitDelivery (p : Fin 8) (b0 b1 b2 b3 : BitVec 130) (time : Int) (s : State) : Out :=
  let bs := [b0, b1, b2, b3]
  let x := s.port p
  if s.pState p = 0 || x.rxs.any (fun r => r.1 == s.count) then .next s
  else if s.pState p = 1 then finish (s.trainBlocks p bs time.toNat)
  else
    let bad := hdrBads x.hdrBad bs
    if bad.any fun k => decide (8 ≤ k) then finish (s.linkLost p)
    else
      let scr := (List.range 4).map fun l => (laneStream (x.rxScr.getD l 0)).2
      finish ((s.modPort p fun y => { y with hdrBad := bad, rxScr := scr }).deliverFlit p (lanesIn x.pol x.rxScr bs)
        (bs.any hdrWrong) time)

/-! ### Bulk -/

/-- A message is discarded; what is still to come of it is skipped (R330). -/
def State.bulkDrop (s : State) (p : Nat) : State :=
  ((s.modPort p fun x => { x with asm := none, skip := true }).inc (Base.jport p) Reg.Jport.BULK_LOST_COUNT).raise
    (Base.jport p) 8

/-- The message in assembly is discarded (R330). -/
def State.bulkLost (s : State) (p : Nat) : State := if (s.port p).asm.isSome then s.bulkDrop p else s

/-- FLIT_LOST (R323, R330): the oldest missing original has no good copy by its last chance. -/
def execFlitLost (p : Fin 8) (s : State) : Out :=
  match (s.port p).missing with
  | [] => .next s
  | (_, t) :: ks =>
    if t < s.count || (t == s.count && (s.pState p < 2 || (s.port p).rxs.any fun r => r.1 == t)) then
      let s := s.modPort p fun x => { x with missing := ks }
      finish (((s.inc (Base.jport p) Reg.Jport.LOST_COUNT).raise (Base.jport p) 3).bulkLost p)
    else .next s

/-- A message is complete: it goes to BRX, or is discarded while BRX holds one (R329). -/
def State.brxTake (s : State) (p : Nat) (chunks : List Word64) : State :=
  let b := Base.jport p
  let s := s.modPort p fun x => { x with asm := none }
  if s.bit b Reg.Jport.BRX_VALID then s.raise b 7
  else
    let s := ((chunks.take 8).zipIdx).foldl (fun s e =>
      (s.setFld b Reg.Jport.BRX e.1.toNat (2 * e.2)).setFld b Reg.Jport.BRX (e.1.toNat / 2 ^ 32) (2 * e.2 + 1)) s
    ((s.setFld b Reg.Jport.BRX_LEN (8 * chunks.length)).setBit b Reg.Jport.BRX_VALID true).raise b 6

/-- A released chunk joins the message in assembly (R329, R330). Management chunks are the mesh manager's own (R328). A chunk of
no message in assembly belongs to one whose first chunk was lost, or to one already discarded. -/
def State.useChunk (s : State) (p : Nat) (c : Chunk) : State :=
  let skip (b : Bool) (s : State) : State := s.modPort p fun x => { x with skip := b }
  if c.cut then s.bulkLost p
  else if !c.cls then s
  else if c.abort then skip false (s.bulkLost p)
  else
    let s := if c.som then skip false (s.bulkLost p) else s
    match (if c.som then some [] else (s.port p).asm) with
    | none => skip (!c.eom) (if (s.port p).skip then s else s.bulkDrop p)
    | some cs =>
      if c.eom then s.brxTake p (cs ++ [c.data]) else s.modPort p fun x => { x with asm := some (cs ++ [c.data]) }

/-- BULK_CHUNK_RELEASE (R329): the chunk whose release comes first; an original that was lost before it comes first
(R323). -/
def execBulkChunkRelease (p : Fin 8) (s : State) : Out :=
  match (s.port p).bulk with
  | [] => .next s
  | c :: cs =>
    if c.rel ≤ s.count && (s.port p).missing.all fun m => decide (c.rel ≤ m.2) then
      finish ((s.modPort p fun x => { x with bulk := cs }).useChunk p c)
    else .next s

/-- A write of 1 to GO in BTX_CTL, BTX_LEN already written (R328). -/
def State.btxGo (s : State) (p : Nat) : State :=
  let b := Base.jport p
  let len := s.fld b Reg.Jport.BTX_LEN
  if !s.enabled b || (s.port p).tx.isSome then s
  else if len % 8 ≠ 0 ∨ len = 0 ∨ 64 < len then s.err b 0x12 len
  else
    let chunks := (List.range (len / 8)).map fun i =>
      BitVec.ofNat 64 (s.fld b Reg.Jport.BTX (2 * i) + 2 ^ 32 * s.fld b Reg.Jport.BTX (2 * i + 1))
    s.modPort p fun x => { x with tx := some (chunks, 0) }

/-- An immediate disable of a port page (R330). -/
def State.jportKill (s : State) (p : Nat) : State :=
  let b := Base.jport p
  let s := s.setEnable b false
  match (s.port p).tx with
  | none => s
  | some (chunks, i) =>
    let s := s.modPort p fun x => { x with tx := none, abort := true }
    (s.addSat b Reg.Jport.DROP_COUNT (chunks.length - i)).raise b 9

/-- STAT of a port page. -/
def State.jportStat (s : State) (p : Nat) : Nat :=
  let x := s.port p
  (x.tx.isSome || x.asm.isSome).toNat + 2 * (s.pState p == 0 && s.portEn p).toNat + 4 * x.tx.isSome.toNat

/-! ### Training -/

/-- Training begins (R314, R320): the scramblers are seeded with the lane numbers. -/
def State.trainBegin (s : State) (p : Nat) : State :=
  (s.setPState p 1).modPort p fun x =>
    { x with
      txScr := [0, 1, 2, 3], rxScr := [], pol := [], hdrRun := [], hdrBad := []
      train := { TrainSt.reset with since := s.count } }

/-- A port can begin to train (R320). -/
def State.mayTrain (s : State) (p : Nat) : Bool := s.portEn p && s.pState p == 0 && s.run

/-- PORT_TRAINING_START (R320). -/
def execPortTrainingStart (p : Fin 8) (s : State) : Out :=
  if s.mayTrain p && (s.port p).retryAt.isNone then finish (s.trainBegin p) else .next s

/-- Training fails (R320): it starts again after 1 ms. -/
def State.trainFail (s : State) (p reason : Nat) : State :=
  let s := ((s.portDown p).err (Base.jport p) 0x11 (reason % 8)).raise (Base.jport p) 4
  s.modPort p fun x => { x with retryAt := some (s.count + 250000) }

/-- F_fine that a round trip and the peer's echo wait give, and JLAT (R318, R320). -/
def fineOf (rtt : Nat × Nat) : Nat := (rtt.1 - rtt.2) / 2
def latOf (rtt : Nat × Nat) : Nat := (fineOf rtt + 63) / 64 + 2

/-- A training step can have failed for a reason (R320): 1 while a lane has no block lock, 2 once all have, 3 with JLAT above 31,
4 with no echo within 1 ms. -/
def State.trainFails (s : State) (p reason : Nat) : Bool :=
  let x := s.port p
  let lock := (List.range 4).all fun l => x.hdrRun.getD l 0 == 64
  match reason with
  | 1 => !lock
  | 2 => lock
  | 3 => x.train.rtt.any fun r => decide (31 < latOf r)
  | 4 => x.train.rtt.isNone && decide (x.train.since + 250000 ≤ s.count)
  | _ => false

/-- PORT_LINKED (R318, R320): with a round trip measured the port enters LINKED, or fails on its JLAT. -/
def execPortLinked (p : Fin 8) (r : TrainResult) (s : State) : Out :=
  if s.pState p ≠ 1 then .next s
  else
    match r with
    | .fail reason => if s.trainFails p reason.toNat then finish (s.trainFail p reason.toNat) else .next s
    | .ok =>
      let t := (s.port p).train
      match t.rtt with
      | none => .next s
      | some rtt =>
        if 31 < latOf rtt then finish (s.trainFail p 3)
        else
          let b := Base.jport p
          let s := (s.setFld b Reg.Jport.F_FINE (fineOf rtt)).setFld b Reg.Jport.JLAT (latOf rtt)
          let s := s.setFld b Reg.Jport.RA (2 * latOf rtt + 2)
          let s := ((s.setFld b Reg.Jport.PEER_ID t.peer).setBit b Reg.Jport.PEER_VALID true).setPState p 2
          let s := (s.setFld b Reg.Jport.PEER_SERIAL_LO t.serial).setFld b Reg.Jport.PEER_SERIAL_HI (t.serial / 2 ^ 32)
          finish (s.raise b 0)

/-- TRAIN_RETRY (R320). -/
def execTrainRetry (p : Fin 8) (s : State) : Out :=
  match (s.port p).retryAt with
  | none => .next s
  | some t =>
    if t ≤ s.count then
      let s := s.modPort p fun x => { x with retryAt := none }
      finish (if s.mayTrain p then s.trainBegin p else s)
    else .next s

/-- The peer of a port is a member (R335). -/
def State.peerMember (s : State) (p : Nat) : Bool :=
  s.bit (Base.jport p) Reg.Jport.PEER_VALID && s.isMember (s.fld (Base.jport p) Reg.Jport.PEER_ID)

/-- The port's link is enabled, or disabled normally (R335). -/
def State.portSwitch (s : State) (p : Nat) (on : Bool) : State :=
  if on then s.modPort p fun x => { x with leaving := false }
  else
    let s := s.modPort p fun x => { x with retryAt := none }
    if s.pState p ≥ 2 && s.peerMember p then s.modPort p fun x => { x with leaving := true } else s.portDown p

/-- A write of PORT_EN and PORT_KILL, PORT_EN already written; `old` is PORT_EN before (R335). -/
def State.portsWritten (s : State) (old kill : Nat) : State :=
  let s := (List.range 8).foldl (fun s p => if old.testBit p = s.portEn p then s else s.portSwitch p (s.portEn p)) s
  (List.range 8).foldl (fun s p => if kill.testBit p then (s.portDown p).dropPending p else s) s

/-! ### Membership -/

/-- The present epoch (R331). -/
def State.epoch (s : State) : Nat := s.count / 65536

/-- Two ports of the new set, or a port and the device itself, carry one MESH_ID (R331). -/
def State.sameIds (s : State) (set : Word) : Bool :=
  let peers := ((List.range 8).filter fun p => s.bit (Base.jport p) Reg.Jport.PEER_VALID && decide (2 ≤ s.pState p)).map fun p =>
    (s.fld (Base.jport p) Reg.Jport.PEER_ID, s.fld64 (Base.jport p) Reg.Jport.PEER_SERIAL_LO Reg.Jport.PEER_SERIAL_HI)
  let all := (s.fld Base.mesh Reg.Mesh.MESH_ID, s.fld64 Base.glob Reg.Glob.SERIAL_LO Reg.Glob.SERIAL_HI) :: peers
  all.any fun a => set.getLsbD a.1 && all.any fun b => a.1 == b.1 && a.2 != b.2

/-- The announcement is refused (R331). -/
def State.refuseChange (s : State) (reason : Nat) : State :=
  ((s.setFld Base.mesh Reg.Mesh.CHG_STATE 3).err Base.mesh 0x11 reason).raise Base.mesh 1

/-- A change is announced, here or on another device (R331). -/
def State.holdChange (s : State) (set : Word) (e : Nat) (remote : Bool) : State :=
  { s.setFld Base.mesh Reg.Mesh.CHG_STATE 1 with mesh := { s.mesh with change := some (set, e, false), remote := remote } }

/-- A change announced falls: refused with a reason where it was announced, and withdrawn on every other device (R331). -/
def State.dropChange (s : State) (reason : Nat) : State :=
  let t : State := { s with mesh := { s.mesh with change := none } }
  if s.mesh.remote then t.setFld Base.mesh Reg.Mesh.CHG_STATE 0 else t.refuseChange reason

/-- A write of 1 to ANNOUNCE (R331). -/
def State.announceChange (s : State) : State :=
  let e := s.fld64 Base.mesh Reg.Mesh.CHG_EPOCH_LO Reg.Mesh.CHG_EPOCH_HI
  let set := BitVec.ofNat 32 (s.fld Base.mesh Reg.Mesh.NEXT_MEMBERS)
  if e < s.epoch + 2 then s.refuseChange 1
  else if s.mesh.change.isSome then s.refuseChange 2
  else if s.sameIds set then s.refuseChange 4
  else s.holdChange set e false

/-- MEMBERSHIP_ARM (R331): what the mesh manager brings before the start of epoch E − 1. It carries the announcement of another
device here, and with every confirmation ARM; a device on which another change is pending confirms none. -/
def execMembershipArm (r : MeshNews) (s : State) : Out :=
  match s.mesh.change, r with
  | none, .announced set e =>
    if s.epoch + 2 ≤ e.toNat then finish (s.holdChange set e.toNat true) else .next s
  | some (set, e, false), .confirmed =>
    if s.epoch + 1 < e then
      let s : State := { s with mesh := { s.mesh with change := some (set, e, true) } }
      finish (s.setFld Base.mesh Reg.Mesh.CHG_STATE 2)
    else .next s
  | some (_, e, false), .missing => if s.epoch + 1 < e then finish (s.dropChange 3) else .next s
  | some (_, e, false), .sameId => if s.epoch + 1 < e then finish (s.dropChange 4) else .next s
  | some (_, e, false), .withdrawn =>
    if s.epoch + 1 < e ∧ s.mesh.remote then finish (s.dropChange 3) else .next s
  | _, _ => .next s

/-- The copies of the slots of peer `d` become Empty, or Absent (R293, R332, R333). -/
def State.resetCopies (s : State) (d : Nat) (absent : Bool) : State :=
  (List.range 256).foldl (fun s k => s.putCopy (256 * d + k) (8 * s.count + 2) ⟨if absent then .absent else .empty, 0, (0, 0)⟩) s

/-- Peer `d` departs (R293, R333). -/
def State.depart (s : State) (d : Nat) : State :=
  let s := (List.range 8).foldl (fun s p => s.modPort p fun x => { x with decs := x.decs.filter fun e => e.dev != d }) s
  (s.resetCopies d true).synAbsent d

/-- The ports follow the set: LINKED ports to members become MEMBER, ports to others LINKED, and leaving ports whose
peer is no member go down (R332, R333, R335). -/
def State.portsFollow (s : State) : State :=
  let own := s.bit Base.mesh Reg.Mesh.MEMBER
  (List.range 8).foldl (fun s p =>
    let s :=
      if own && s.peerMember p then
        (if s.pState p = 2 then
          (s.setPState p 3).modPort p fun x => { x with memFrom := some s.count, memTo := none }
        else s)
      else if s.pState p = 3 then (s.setPState p 2).modPort p fun x => { x with memTo := some s.count }
      else s
    if (s.port p).leaving && !s.peerMember p then s.portDown p else s) s

/-- A change of membership is applied (R331 to R333). On the departed device every copy becomes Absent, that under its own number
too, but for number 0, which is the local slots' (R283). -/
def State.applyChange (s : State) (set : Word) : State :=
  let old := BitVec.ofNat 32 (s.fld Base.mesh Reg.Mesh.MEMBERS)
  let own := s.fld Base.mesh Reg.Mesh.MESH_ID
  let was := s.bit Base.mesh Reg.Mesh.MEMBER
  let is := set.getLsbD own
  let s := (s.setFld Base.mesh Reg.Mesh.MEMBERS set.toNat).setBit Base.mesh Reg.Mesh.MEMBER is
  let s := (List.range 32).foldl (fun s d =>
    if d = own then (if was && !is && own != 0 then s.depart own else s)
    else if is then
      (if set.getLsbD d then (if was && old.getLsbD d then s else s.resetCopies d false)
        else if was && old.getLsbD d then s.depart d else s)
    else if was then s.depart d else s) s
  let s : State := { s with mesh := { s.mesh with change := none } }
  (s.setFld Base.mesh Reg.Mesh.CHG_STATE 0).raise Base.mesh 0

/-- A change is applied, and the members exchange MEMBERS after it: `agree` says that all hold the same set (R331, R334). -/
def State.changeDone (s : State) (set : BitVec 32) (agree : Bool) : State :=
  let s := s.applyChange set
  if agree then s else s.raise Base.mesh 2

/-- EPOCH_BOUNDARY (R331, R332, R334): once, in the first tc of an epoch. An announcement without its confirmations by the
start of epoch E − 1 is refused. -/
def execEpochBoundary (agree : Bool) (s : State) : Out :=
  if s.count % 65536 = 0 && s.epochAt != some s.count && s.run then
    let s : State := { s with epochAt := some s.count }
    let s :=
      match s.mesh.change with
      | some (set, e, true) => if e ≤ s.epoch then s.changeDone set agree else s
      | some (_, e, false) =>
        if e ≤ s.epoch + 1 then s.dropChange 3 else s
      | none => s
    finish s.portsFollow
  else .next s

end Sys2Proof.Machine
end

