-- ==== Sys2Proof/Machine/Network.lean ====
section
/-!
DEFINITION. Chapter 17: the network clock (R468 to R473), and the Ethernet ports with the ordinary and the transparent
clock (R465 to R477). The formats of Ethernet, IP, UDP and PTP headers are those of the standards that R465 and R474
name (assumption log 17).
-/
namespace Sys2Proof.Machine

/-! ### The network clock -/

/-- One tick (R468, R470 to R472). -/
def State.ntTick (s : State) : State :=
  let inc := s.nt.next.getD s.nt.inc
  let v : Int := (s.ntNow : Int) + inc + s.nt.step.getD 0
  let wrap := decide ((2 : Int) ^ 64 ≤ v)
  let n := unsigned 64 v
  let stepped := s.nt.step.isSome
  let s : State := { s with nt := { s.nt with
    inc := inc, next := none, step := none, wraps := s.nt.wraps + wrap.toNat } }
  let s := (s.setFld Base.nclk Reg.Nclk.NT_NS (n / 2 ^ 32)).setFld Base.nclk Reg.Nclk.NT_FRAC n
  if stepped then s.raise Base.nclk 2 else s

/-- NT_WRAP (R472). -/
def execNtWrap (s : State) : Out :=
  if s.nt.wraps = 0 then .next s
  else
    let s : State := { s with nt := { s.nt with wraps := s.nt.wraps - 1 } }
    finish ((s.setFld Base.nclk Reg.Nclk.WRAP_COUNT (s.fld Base.nclk Reg.Nclk.WRAP_COUNT + 1)).raise Base.nclk 0)

/-- After a write of NT_INC_NS: the pair is complete (R468, R469). -/
def State.ntIncWritten (s : State) : State :=
  let b := Base.nclk
  let ns := s.fld b Reg.Nclk.NT_INC_NS
  let inc := ns * 2 ^ 32 + s.fld b Reg.Nclk.NT_INC_FRAC
  if 3996 * 2 ^ 32 ≤ 1000 * inc ∧ 1000 * inc ≤ 4004 * 2 ^ 32 then { s with nt := { s.nt with next := some inc } }
  else s.err b 0x11 ns

/-- A write of 1 to STEP_GO (R470). -/
def State.ntStepGo (s : State) : State :=
  let b := Base.nclk
  let v := signed 32 (s.fld b Reg.Nclk.NT_STEP_NS) * 2 ^ 32 + s.fld b Reg.Nclk.NT_STEP_FRAC
  if s.fld b Reg.Nclk.NT_JUMP_LIMIT * 2 ^ 32 < v.natAbs then
    (s.err b 0x12 (min (v.natAbs / 2 ^ 32) 0xFF_FFFF)).raise b 1
  else { s with nt := { s.nt with step := some v } }

/-- A read of NT_NS (R468). -/
def State.ntGet (s : State) : State :=
  let s : State := { s with nt := { s.nt with frac := s.reg (Base.nclk + 0x044) } }
  s.respond (s.fld Base.nclk Reg.Nclk.NT_NS)

/-! ### Frames -/

/-- Byte `i` of a frame; 0 beyond its end. -/
def byteAt (bs : List Byte) (i : Nat) : Nat := (bs.getD i 0).toNat

/-- `k` bytes of a frame from byte `i` as one number, the first most significant. -/
def beAt (bs : List Byte) (i k : Nat) : Nat := (List.range k).foldl (fun v j => v * 256 + byteAt bs (i + j)) 0

/-- The `k` bytes of a number, the most significant first. -/
def bytesBE (v k : Nat) : List Byte := (bytesLE v k).reverse

/-- Put bytes into a frame from byte `i`. -/
def putAt (bs : List Byte) (i : Nat) (xs : List Byte) : List Byte := bs.take i ++ xs ++ bs.drop (i + xs.length)

/-- The frame carries one VLAN tag. -/
def hasVlan (bs : List Byte) : Bool := beAt bs 12 2 == 0x8100

/-- The first byte after the Ethertype. -/
def payload (bs : List Byte) : Nat := if hasVlan bs then 18 else 14

/-- The Ethertype behind the tag. -/
def etherType (bs : List Byte) : Nat := beAt bs (payload bs - 2) 2

/-- Where a frame's PTP message lies: its first byte, the UDP header if there is one, and the IP destination address. -/
structure PtpAt where
  start : Nat
  udp : Option Nat
  /-- The destination is a PTP multicast address of R474. -/
  multi : Bool
  /-- The destination is the ordinary clock's own unicast address. -/
  own : Bool
deriving DecidableEq, Repr

/-- The UDP port is one of PTP's. -/
def ptpPort (v : Nat) : Bool := v == 319 || v == 320

/-- The PTP message of a frame (R474). -/
def State.ptpOf (s : State) (bs : List Byte) : Option PtpAt :=
  let p := payload bs
  let dst := beAt bs 0 6
  match etherType bs with
  | 0x88F7 => some ⟨p, none, dst == 0x011B_1900_0000 || dst == 0x0180_C200_000E, true⟩
  | 0x0800 =>
    let u := p + byteAt bs p % 16 * 4
    let ip := beAt bs (p + 16) 4
    if byteAt bs p / 16 = 4 ∧ byteAt bs (p + 9) = 17 ∧ ptpPort (beAt bs (u + 2) 2) = true then
      some ⟨u + 8, some u, ip == 0xE000_0181 || ip == 0xE000_006B, ip == s.fld Base.nclk Reg.Nclk.IPV4_ADDR⟩
    else none
  | 0x86DD =>
    let u := p + 40
    let ip := beAt bs (p + 24) 16
    let own := ((List.range 4).map fun i => s.fld Base.nclk Reg.Nclk.IPV6_ADDR i * 2 ^ (32 * i)).sum
    if byteAt bs p / 16 = 6 ∧ byteAt bs (p + 6) = 17 ∧ ptpPort (beAt bs (u + 2) 2) = true then
      some ⟨u + 8, some u, (ip / 2 ^ 116 == 0xFF0 && ip % 2 ^ 112 == 0x181) || (ip / 2 ^ 112 == 0xFF02 && ip % 2 ^ 112 == 0x6B),
        ip == own⟩
    else none
  | _ => none

/-- The message type of a PTP message. -/
def PtpAt.type (m : PtpAt) (bs : List Byte) : Nat := byteAt bs m.start % 16

/-- An event message: it is time-stamped. -/
def PtpAt.event (m : PtpAt) (bs : List Byte) : Bool := decide (m.type bs < 4)

/-- A Pdelay message. -/
def PtpAt.pdelay (m : PtpAt) (bs : List Byte) : Bool := m.type bs == 2 || m.type bs == 3 || m.type bs == 10

/-- The frame is a PTP event message. -/
def State.isEvent (s : State) (bs : List Byte) : Bool := (s.ptpOf bs).any fun m => m.event bs

/-- TC_MODE. -/
def State.tcMode (s : State) : Nat := s.fld Base.nclk Reg.Nclk.TC_MODE

/-- The ordinary clock works on port `p` (R474). -/
def State.ocOn (s : State) (p : Nat) : Bool := s.bit Base.nclk Reg.Nclk.OC_EN && s.fld Base.nclk Reg.Nclk.OC_PORT == p

/-- The port's MAC address. -/
def State.macOf (s : State) (p : Nat) : Nat := s.fld64 (Base.eth p) Reg.Eth.MAC_LO Reg.Eth.MAC_HI

/-! ### Reception -/

/-- The bytes of a receive slot (R475). -/
def slotBytes (bs : List Byte) (event : Bool) (ts : Stamp) : List Byte :=
  let flags := event.toNat + 2 * (hasVlan bs).toNat + 4 * ts.stepped.toNat + 8 * (decide (240 < bs.length)).toNat
  packBytes [(bs.length, 2), (flags, 1), (0, 1), (ts.ns.toNat, 4), (ts.sub.toNat / 4096 * 4096, 2), (0, 6)] ++
    (bs.take 240 ++ List.replicate (240 - bs.length) 0)

/-- Put bytes into the words of a page from offset `off`. -/
def State.putWords (s : State) (b off : Nat) (bs : List Byte) (k : Nat) : State :=
  forN k (fun i s => s.setReg (b + off + 4 * i) (BitVec.ofNat 32 (ofBytesLE ((bs.drop (4 * i)).take 4)))) s

/-- A frame is delivered to the receive slots of port `p` (R475). -/
def State.rxDeliver (s : State) (p : Nat) (bs : List Byte) (ts : Stamp) : State :=
  let b := Base.eth p
  let prod := s.fld b Reg.Eth.RX_PROD
  if (prod + 256 - s.fld b Reg.Eth.RX_CONS) % 256 = 8 then (s.inc b Reg.Eth.RX_DROP_COUNT).raise b 3
  else
    let s := s.putWords b (0x800 + 256 * (prod % 8)) (slotBytes bs (s.isEvent bs) ts) 64
    (s.setFld b Reg.Eth.RX_PROD (prod + 1)).raise b 2

/-- A frame is queued for forwarding to the other port, or dropped (R466, R476). -/
def State.ethForward (s : State) (p : Nat) (bs : List Byte) (ts : Stamp) : State :=
  let q := 1 - p
  let isFwd (x : TxFrame) : Bool := match x with
    | .fwd .. => true
    | .loc _ => false
  let delayReq := s.tcMode == 2 && (s.ptpOf bs).any fun m => m.type bs == 1
  if delayReq then s
  else if ((s.eth q).queue.filter isFwd).length < 16 ∧ s.enabled (Base.eth q) = true then
    s.modEth q fun x =>
      { x with queue := x.queue ++ [.fwd bs s.ticks ts.pos.val (s.fld (Base.eth p) Reg.Eth.PEER_DELAY)] }
  else (s.inc (Base.eth p) Reg.Eth.FWD_DROP_COUNT).raise (Base.eth p) 5

/-- What the table of R466 does with a good frame. -/
def State.ethHandle (s : State) (p : Nat) (bs : List Byte) (ts : Stamp) : State :=
  let m := s.ptpOf bs
  if etherType bs = 0x8808 ∨ 1522 < bs.length + 4 then s
  else if s.tcMode = 2 ∧ (m.any fun m => m.pdelay bs) = true then s.rxDeliver p bs ts
  else if beAt bs 0 6 = s.macOf p then
    if s.ocOn p && m.any fun m => m.own || m.multi then s.rxDeliver p bs ts else s
  else
    let s := if s.ocOn p && m.any PtpAt.multi then s.rxDeliver p bs ts else s
    if s.tcMode = 0 then s else s.ethForward p bs ts

/-- ETH_FRAME_RX (R466): a frame, without its FCS, arrives at an enabled port whose link is up. -/
def execEthFrameRx (p : Fin 2) (bytes : List (BitVec 8)) (fcs : Bool) (ts : Stamp) (s : State) : Out :=
  let b := Base.eth p
  if !s.enabled b || !s.bit b Reg.Eth.LINK then .next s
  else if !fcs then finish (s.inc b Reg.Eth.FCS_ERR_COUNT)
  else finish (s.ethHandle p bytes ts)

/-! ### Transmission -/

/-- The bytes of a waiting frame. -/
def TxFrame.bytes : TxFrame → List Byte
  | .loc bs => bs
  | .fwd bs _ _ _ => bs

/-- The frame that leaves next: the first event message, else the first frame (R466). -/
def State.nextFrame (s : State) (p : Nat) : Option TxFrame :=
  match (s.eth p).queue.find? fun x => s.isEvent x.bytes with
  | some x => some x
  | none => (s.eth p).queue.head?

/-- The link of a port goes down (R477, R478). -/
def State.linkOff (s : State) (p : Nat) : State :=
  let b := Base.eth p
  let was := s.bit b Reg.Eth.LINK
  let s := s.setFld b ⟨0x044, 4, 1, 2, 0, .ro, 0⟩ 0
  let s := s.modEth p fun x => { x with leaving := false }
  if was then s.raise b 1 else s

/-- A frame has left; after a normal disable the link goes down (R477). -/
def State.frameLeft (s : State) (p : Nat) (x : TxFrame) (bs : List Byte) : State :=
  let s := s.modEth p fun e => { e with queue := e.queue.erase x, sent := withCrc bs }
  if (s.eth p).leaving then s.linkOff p else s

/-- A sum of 16-bit words with end-around carry. -/
def onesFold (v : Nat) : Nat :=
  let v := v % 2 ^ 16 + v / 2 ^ 16
  v % 2 ^ 16 + v / 2 ^ 16

/-- The 16-bit words of a 64-bit number, summed. -/
def words64 (v : Nat) : Nat := v % 2 ^ 16 + v / 2 ^ 16 % 2 ^ 16 + v / 2 ^ 32 % 2 ^ 16 + v / 2 ^ 48 % 2 ^ 16

/-- A checksum after a 64-bit field, aligned to its words, has changed from `old` to `new`: incremental update. -/
def sumUpdate (c old new : Nat) : Nat := 0xFFFF - onesFold ((0xFFFF - c) + words64 (2 ^ 64 - 1 - old) + words64 new)

/-- The correctionField of a message is increased, and the UDP checksum follows; a checksum of 0 over IPv4 says that
there is none. -/
def addCorrection (bs : List Byte) (m : PtpAt) (add : Nat) : List Byte :=
  let at8 := m.start + 8
  let old := beAt bs at8 8
  let new := (old + add) % 2 ^ 64
  let bs := putAt bs at8 (bytesBE new 8)
  match m.udp with
  | none => bs
  | some u =>
    let c := beAt bs (u + 6) 2
    if c = 0 then bs
    else
      let c' := sumUpdate c old new
      putAt bs (u + 6) (bytesBE (if c' = 0 then 0xFFFF else c') 2)

/-- The message types that the transparent clock corrects (R476). -/
def tcCorrects (mode type : Nat) : Bool := (mode == 1 && decide (type < 4)) || (mode == 2 && type == 0)

/-- A forwarded frame leaves: the residence, in units of 2^−16 ns, is measured in ticks of exactly 4 ns (R476). -/
def State.tcEgress (s : State) (bs : List Byte) (tick pos delay : Nat) (ts : Stamp) : State × List Byte :=
  match s.ptpOf bs with
  | none => (s, bs)
  | some m =>
    if tcCorrects s.tcMode (m.type bs) then
      let res := ((s.ticks - tick) * 64 + ts.pos.val - pos) * 4096
      let b := Base.nclk
      let s := if s.fld b Reg.Nclk.RES_MAX < res then s.setFld b Reg.Nclk.RES_MAX (min res (2 ^ 32 - 1)) else s
      (s.inc b Reg.Nclk.TC_COUNT, addCorrection bs m (res + if s.tcMode = 2 then delay else 0))
    else (s, bs)

/-- ETH_FORWARD_EGRESS (R466, R476): the frame that leaves port `p` next, where it is a forwarded one. -/
def execEthForwardEgress (p : Fin 2) (ts : Stamp) (s : State) : Out :=
  match s.nextFrame p with
  | some (.fwd bs tick pos delay) =>
    if s.bit (Base.eth p) Reg.Eth.LINK then
      let r := s.tcEgress bs tick pos delay ts
      finish (r.1.frameLeft p (.fwd bs tick pos delay) r.2)
    else .next s
  | _ => .next s

/-- TX_BUSY: a frame written by software waits or leaves (R475). -/
def State.txBusy (s : State) (p : Nat) : Bool :=
  (s.eth p).queue.any fun x => match x with
    | .loc _ => true
    | .fwd .. => false

/-- A write of TX_GO = 1 (R475). -/
def State.txGo (s : State) (p : Nat) : State :=
  let b := Base.eth p
  let len := s.fld b Reg.Eth.TX_LEN
  if len < 60 ∨ 256 < len ∨ s.txBusy p = true ∨ s.enabled b = false then s.err b 0x12 len
  else
    let all := (List.range 64).flatMap fun i => bytesLE (s.fld b Reg.Eth.TX_BUF i) 4
    s.modEth p fun x => { x with queue := x.queue ++ [.loc (all.take len)] }

/-- TX_DONE (R475): the frame that leaves port `p` next, where software wrote it. -/
def execTxDone (p : Fin 2) (ts : Stamp) (s : State) : Out :=
  let b := Base.eth p
  match s.nextFrame p with
  | some (.loc bs) =>
    if s.bit b Reg.Eth.LINK then
      let s :=
        if s.isEvent bs then
          let s := (s.setFld b Reg.Eth.TX_TS_NS ts.ns.toNat).setFld b Reg.Eth.TX_TS_SUB (ts.sub.toNat / 4096 * 4096)
          (s.setBit b Reg.Eth.TX_STEPPED ts.stepped).setBit b Reg.Eth.TX_TS_VALID true
        else s
      finish ((s.frameLeft p (.loc bs) bs).raise b 4)
    else .next s
  | _ => .next s

/-! ### Links and pages -/

/-- ETH_LINK_UP (R465, R479): the link of an enabled port comes up. -/
def execEthLinkUp (p : Fin 2) (s : State) : Out :=
  let b := Base.eth p
  if !s.enabled b || s.bit b Reg.Eth.LINK then .next s
  else
    let s := (s.setBit b Reg.Eth.LINK true).setBit b Reg.Eth.BLOCK_LOCK true
    finish ((s.setBit b Reg.Eth.FEC_LOCK (s.fld b Reg.Eth.FEC != 0)).raise b 0)

/-- ETH_LINK_LOST (R478). -/
def execEthLinkLost (p : Fin 2) (s : State) : Out :=
  if s.bit (Base.eth p) Reg.Eth.LINK then finish (s.linkOff p) else .next s

/-- A write of 1 to ENABLE; it cancels a normal disable that waits for a frame. -/
def State.ethOn (s : State) (p : Nat) : State := (s.setEnable (Base.eth p) true).modEth p fun x => { x with leaving := false }

/-- A write of 0 to ENABLE (R477): the frame in transmission completes, the others are discarded and counted. -/
def State.ethOff (s : State) (p : Nat) : State :=
  let b := Base.eth p
  if !s.enabled b then s
  else
    let s := s.setEnable b false
    let last := if s.bit b Reg.Eth.LINK then (s.nextFrame p).toList else []
    let gone := (s.eth p).queue.length - last.length
    let s := (s.addSat b Reg.Eth.FWD_DROP_COUNT gone).modEth p fun x => { x with queue := last, leaving := !last.isEmpty }
    if last.isEmpty then s.linkOff p else s

/-- DISABLE_NOW, and the function-level reset of the owner (R477, R560). -/
def State.ethKill (s : State) (p : Nat) : State :=
  let b := Base.eth p
  let n := (s.eth p).queue.length
  let s := (s.setEnable b false).addSat b Reg.Eth.FWD_DROP_COUNT n
  let s := (s.modEth p fun x => { x with queue := [] }).linkOff p
  if n = 0 then s else s.raise b 6

/-- STAT of a port page. -/
def State.ethStat (s : State) (p : Nat) : Nat :=
  let b := Base.eth p
  (s.bit b Reg.Eth.LINK || !(s.eth p).queue.isEmpty).toNat + 2 * (s.enabled b && !s.bit b Reg.Eth.LINK).toNat +
    4 * (s.txBusy p).toNat

/-- MAC_CORR of a configuration: the table gives its value at reset, the spec none for the others (R467, R479). -/
def macCorr (speed fec : Nat) : Nat := if speed = 1 ∧ fec = 0 then 0 else (Config.macCorr speed fec).toNat

end Sys2Proof.Machine
end

