-- ==== Sys2Proof/Machine/Crypto.lean ====
section
/-!
DEFINITION. The signature that images and debug tokens carry (R151, R529, R537): ECDSA over the curve P-384 with the digest
SHA-384, per FIPS 186-5. R151 names the standards; the constants and functions below are theirs (assumption log 64).
-/
namespace Sys2Proof.Machine

/-! ### SHA-384 -/

namespace Sha

/-- The round constants: the first 64 bits of the fractional parts of the cube roots of the first 80 primes. -/
def consts : List Nat :=
  [0x428a2f98d728ae22, 0x7137449123ef65cd, 0xb5c0fbcfec4d3b2f, 0xe9b5dba58189dbbc] ++
  [0x3956c25bf348b538, 0x59f111f1b605d019, 0x923f82a4af194f9b, 0xab1c5ed5da6d8118] ++
  [0xd807aa98a3030242, 0x12835b0145706fbe, 0x243185be4ee4b28c, 0x550c7dc3d5ffb4e2] ++
  [0x72be5d74f27b896f, 0x80deb1fe3b1696b1, 0x9bdc06a725c71235, 0xc19bf174cf692694] ++
  [0xe49b69c19ef14ad2, 0xefbe4786384f25e3, 0x0fc19dc68b8cd5b5, 0x240ca1cc77ac9c65] ++
  [0x2de92c6f592b0275, 0x4a7484aa6ea6e483, 0x5cb0a9dcbd41fbd4, 0x76f988da831153b5] ++
  [0x983e5152ee66dfab, 0xa831c66d2db43210, 0xb00327c898fb213f, 0xbf597fc7beef0ee4] ++
  [0xc6e00bf33da88fc2, 0xd5a79147930aa725, 0x06ca6351e003826f, 0x142929670a0e6e70] ++
  [0x27b70a8546d22ffc, 0x2e1b21385c26c926, 0x4d2c6dfc5ac42aed, 0x53380d139d95b3df] ++
  [0x650a73548baf63de, 0x766a0abb3c77b2a8, 0x81c2c92e47edaee6, 0x92722c851482353b] ++
  [0xa2bfe8a14cf10364, 0xa81a664bbc423001, 0xc24b8b70d0f89791, 0xc76c51a30654be30] ++
  [0xd192e819d6ef5218, 0xd69906245565a910, 0xf40e35855771202a, 0x106aa07032bbd1b8] ++
  [0x19a4c116b8d2d0c8, 0x1e376c085141ab53, 0x2748774cdf8eeb99, 0x34b0bcb5e19b48a8] ++
  [0x391c0cb3c5c95a63, 0x4ed8aa4ae3418acb, 0x5b9cca4f7763e373, 0x682e6ff3d6b2b8a3] ++
  [0x748f82ee5defb2fc, 0x78a5636f43172f60, 0x84c87814a1f0ab72, 0x8cc702081a6439ec] ++
  [0x90befffa23631e28, 0xa4506cebde82bde9, 0xbef9a3f7b2c67915, 0xc67178f2e372532b] ++
  [0xca273eceea26619c, 0xd186b8c721c0c207, 0xeada7dd6cde0eb1e, 0xf57d4f7fee6ed178] ++
  [0x06f067aa72176fba, 0x0a637dc5a2c898a6, 0x113f9804bef90dae, 0x1b710b35131c471b] ++
  [0x28db77f523047d84, 0x32caab7b40c72493, 0x3c9ebe0a15c9bebc, 0x431d67c49c100d4c] ++
  [0x4cc5d4becb3e42b6, 0x597f299cfc657e2a, 0x5fcb6fab3ad6faec, 0x6c44198c4a475817]

/-- The initial digest: the first 64 bits of the fractional parts of the square roots of the ninth to sixteenth primes. -/
def init : List Nat :=
  [0xcbbb9d5dc1059ed8, 0x629a292a367cd507, 0x9159015a3070dd17, 0x152fecd8f70e5939] ++
  [0x67332667ffc00b31, 0x8eb44a8768581511, 0xdb0c2e0d64f98fa7, 0x47b5481dbefa4fa4]

/-- A 64-bit word rotated right. -/
def rotr (x k : Nat) : Nat := x / 2 ^ k + x % 2 ^ k * 2 ^ (64 - k)

/-- The small and the large sigma functions. -/
def sig0 (x : Nat) : Nat := rotr x 1 ^^^ rotr x 8 ^^^ x / 2 ^ 7
def sig1 (x : Nat) : Nat := rotr x 19 ^^^ rotr x 61 ^^^ x / 2 ^ 6
def sum0 (x : Nat) : Nat := rotr x 28 ^^^ rotr x 34 ^^^ rotr x 39
def sum1 (x : Nat) : Nat := rotr x 14 ^^^ rotr x 18 ^^^ rotr x 41

/-- The choice and the majority of three words. -/
def ch (x y z : Nat) : Nat := (x &&& y) ^^^ ((x ^^^ (2 ^ 64 - 1)) &&& z)
def maj (x y z : Nat) : Nat := (x &&& y) ^^^ (x &&& z) ^^^ (y &&& z)

/-- One round: the sixteen words of the message schedule from this round on, and the eight working words. -/
def round (wv : List Nat × List Nat) (k : Nat) : List Nat × List Nat :=
  let w := wv.1
  match wv.2 with
  | [a, b, c, d, e, f, g, h] =>
    let t1 := h + sum1 e + ch e f g + k + w.headD 0
    let t2 := sum0 a + maj a b c
    let next := (sig1 (w.getD 14 0) + w.getD 9 0 + sig0 (w.getD 1 0) + w.headD 0) % 2 ^ 64
    (w.tail ++ [next], [(t1 + t2) % 2 ^ 64, a, b, c, (d + t1) % 2 ^ 64, e, f, g])
  | v => (w, v)

/-- A big-endian number. -/
def ofBytesBE (bs : List Byte) : Nat := bs.foldl (fun v b => 256 * v + b.toNat) 0

/-- A big-endian number as `k` bytes. -/
def bytesBE (v k : Nat) : List Byte := (bytesLE v k).reverse

/-- The digest takes in a block of 128 bytes. -/
def block (h : List Nat) (bs : List Byte) : List Nat :=
  let w := (List.range 16).map fun i => ofBytesBE ((bs.drop (8 * i)).take 8)
  List.zipWith (fun a b => (a + b) % 2 ^ 64) h (consts.foldl round (w, h)).2

/-- The digest takes in `k` blocks. -/
def blocks : Nat → List Byte → List Nat → List Nat
  | 0, _, h => h
  | k + 1, bs, h => blocks k (bs.drop 128) (block h (bs.take 128))

/-- The message padded to whole blocks. -/
def pad (bs : List Byte) : List Byte :=
  bs ++ 0x80 :: List.replicate ((239 - bs.length % 128) % 128) 0 ++ bytesBE (8 * bs.length) 16

end Sha

/-- The SHA-384 digest of a message, as a number. -/
def sha384 (bs : List Byte) : Nat :=
  let m := Sha.pad bs
  ((Sha.blocks (m.length / 128) m Sha.init).take 6).foldl (fun v w => 2 ^ 64 * v + w) 0

/-! ### P-384 -/

namespace P384

/-- The prime of the field, the curve's coefficient b (a is −3), the base point, and the order of the group. -/
def p : Nat := 2 ^ 384 - 2 ^ 128 - 2 ^ 96 + 2 ^ 32 - 1
def b : Nat := 0xb3312fa7e23ee7e4988e056be3f82d19181d9c6efe8141120314088f5013875ac656398d8a2ed19d2a85c8edd3ec2aef
def gx : Nat := 0xaa87ca22be8b05378eb1c71ef320ad746e1d3b628ba79b9859f741e082542a385502f25dbf55296c3a545e3872760ab7
def gy : Nat := 0x3617de4a96262c6f5d9e98bf9292dc29f8f41dbd289a147ce9da3113b5f0b8c00a60b1ce1d7e819d7a431d7c90ea0e5f
def order : Nat := 0xffffffffffffffffffffffffffffffffffffffffffffffffc7634d81f4372ddf581a0db248b0a77aecec196accc52973

/-- A point in Jacobian coordinates: (X, Y, Z) stands for (X/Z², Y/Z³), Z = 0 for the point at infinity. -/
abbrev Pt := Nat × Nat × Nat

/-- A difference in the field. -/
def sub (x y : Nat) : Nat := (x + (p - y % p)) % p

/-- The double of a point. -/
def dbl (q : Pt) : Pt :=
  let (x, y, z) := q
  let zz := z * z % p
  let m := 3 * sub x zz * (x + zz) % p
  let yy := y * y % p
  let s := 4 * x * yy % p
  let x' := sub (m * m % p) (2 * s)
  (x', sub (m * sub s x' % p) (8 * yy * yy), 2 * y * z % p)

/-- The sum of two points. -/
def add (q r : Pt) : Pt :=
  let (x1, y1, z1) := q
  let (x2, y2, z2) := r
  if z1 = 0 then r
  else if z2 = 0 then q
  else
    let u1 := x1 * (z2 * z2 % p) % p
    let u2 := x2 * (z1 * z1 % p) % p
    let s1 := y1 * (z2 * z2 * z2 % p) % p
    let s2 := y2 * (z1 * z1 * z1 % p) % p
    if u1 = u2 then (if s1 = s2 then dbl q else (1, 1, 0))
    else
      let h := sub u2 u1
      let r := sub s2 s1
      let hh := h * h % p
      let hhh := h * hh % p
      let v := u1 * hh % p
      let x := sub (sub (r * r % p) hhh) (2 * v)
      (x, sub (r * sub v x % p) (s1 * hhh), z1 * z2 * h % p)

/-- A multiple of a point. -/
def mul (k : Nat) (q : Pt) : Pt :=
  (List.range 384).foldl (fun r i =>
    let r := dbl r
    if k.testBit (383 - i) then add r q else r) (1, 1, 0)

/-- A power modulo `m`, for an exponent of up to 384 bits. -/
def pow (x e m : Nat) : Nat :=
  (List.range 384).foldl (fun r i => if e.testBit (383 - i) then r * r % m * x % m else r * r % m) 1

/-- The signature (r, s) of the digest `e` is valid under a public key. -/
def verify (key : Nat × Nat) (e r s : Nat) : Bool :=
  if r = 0 ∨ order ≤ r ∨ s = 0 ∨ order ≤ s then false
  else
    let w := pow s (order - 2) order
    let q := add (mul (e * w % order) (gx, gy, 1)) (mul (r * w % order) (key.1, key.2, 1))
    q.2.2 != 0 && q.1 * pow (q.2.2 * q.2.2 % p) (p - 2) p % p % order == r

end P384

/-- The 96 bytes of a signature block (R151) sign a message under the key in slot `k`. -/
def signedBy (k : Nat) (msg sig : List Byte) : Bool :=
  P384.verify (Config.otpKey k) (sha384 msg) (ofBytesLE (sig.take 48)) (ofBytesLE (sig.drop 48))

end Sys2Proof.Machine
end

