-- ==== Sys2Proof/Machine/Lanes.lean ====
section
/-!
DEFINITION. Chapter 09: the DSP lanes. Instruction words, addressing, arithmetic, the MACs and their recompute, inputs,
outputs, starting and stopping (R266 to R282).
-/
namespace Sys2Proof.Machine

/-! ### Registers and memories of a lane -/

/-- BAR2 offset of a lane's data memory, and of its instruction memory (R266). -/
def laneData (n : Nat) : Nat := 0x0280_0000 + n * 0x1_0000
def laneCode (n : Nat) : Nat := 0x02C0_0000 + n * 0x4000

/-- Data register `i`. -/
def State.laneD (s : State) (n i : Nat) : Nat := s.fld (Base.lane n) Reg.Lane.D i

/-- Write data register `i`. -/
def State.setLaneD (s : State) (n i v : Nat) : State := s.setFld (Base.lane n) Reg.Lane.D v i

/-- Address register `j`. -/
def State.laneA (s : State) (n j : Nat) : Nat := s.fld (Base.lane n) Reg.Lane.A j

/-- Accumulator `k`, signed. -/
def State.laneAc (s : State) (n k : Nat) : Int := signed 40 (s.fld64 (Base.lane n) Reg.Lane.AC_LO Reg.Lane.AC_HI k)

/-- Write accumulator `k`, modulo 2^40. -/
def State.setLaneAc (s : State) (n k : Nat) (v : Int) : State :=
  s.setFld64 (Base.lane n) Reg.Lane.AC_LO Reg.Lane.AC_HI (unsigned 40 v) k

/-- Word of data memory at a byte address of the lane. -/
def State.laneWord (s : State) (n a : Nat) : Nat := rdLE s.bar2 (laneData n + a % 65536) 4

/-- Write a word of data memory. -/
def State.setLaneWord (s : State) (n a v : Nat) : State :=
  { s with bar2 := wrLE s.bar2 (laneData n + a % 65536) 4 v }

/-- upd(a, i) for address register `j` (R273). -/
def State.laneUpd (s : State) (n j : Nat) (i : Int) : Nat :=
  let hb := s.fld (Base.lane n) Reg.Lane.HB (j % 4)
  let hl := s.fld (Base.lane n) Reg.Lane.HL (j % 4)
  if j < 4 ∧ hl ≠ 0 then unsigned 16 (hb + (s.laneA n j + i - hb) % hl) else unsigned 16 (s.laneA n j + i)

/-- Update address register `j` by `i`. -/
def State.laneStep (s : State) (n j : Nat) (i : Int) : State := s.setFld (Base.lane n) Reg.Lane.A (s.laneUpd n j i) j

/-! ### Instruction words -/

namespace LaneW
/-! The fields of an instruction word (R270). -/
def op (w : Nat) : Nat := w / 2 ^ 26 % 64
def d (w : Nat) : Nat := w / 2 ^ 22 % 16
def a (w : Nat) : Nat := w / 2 ^ 18 % 16
def b (w : Nat) : Nat := w / 2 ^ 14 % 16
def fl (w : Nat) : Bool := w.testBit 13
def imm (w : Nat) : Int := signed 18 (w % 2 ^ 18)
def ar (w : Nat) : Nat := w / 2 ^ 19 % 8
def u (w : Nat) : Bool := w.testBit 18
def inc (w : Nat) : Int := signed 16 (w % 2 ^ 16)
def p (w : Nat) : Nat := w / 2 ^ 25 % 2
def c (w : Nat) : Bool := w.testBit 24
def n (w : Nat) : Bool := w.testBit 23
def xa (w : Nat) : Nat := w / 2 ^ 11 % 8
def ya (w : Nat) : Nat := w / 2 ^ 8 % 8
def dx (w : Nat) : Bool := w.testBit 7
def dy (w : Nat) : Bool := w.testBit 6
def ac (w : Nat) : Nat := w / 2 ^ 16 % 4
def sh (w : Nat) : Nat := w % 2 ^ 6
def target (w : Nat) : Nat := w % 2 ^ 12
/-! The masks of the fields. -/
def mD : Nat := 0x03C0_0000
def mA : Nat := 0x003C_0000
def mB : Nat := 0x0003_C000
def mImm : Nat := 0x0003_FFFF
def mAR : Nat := 0x0038_0000
def mInc : Nat := 0x0000_FFFF
def mAC : Nat := 0x0003_0000
def mSh : Nat := 0x0000_003F
end LaneW

open LaneW in
/-- The bits below the opcode that an instruction uses; none for a reserved opcode (R270, R271). -/
def laneMask (o : Nat) : Option Nat :=
  match o with
  | 0x00 | 0x37 | 0x3F => some 0
  | 0x01 | 0x02 => some (mD ||| mImm)
  | 0x03 | 0x05 | 0x06 | 0x07 | 0x08 | 0x0C => some (mD ||| mA ||| mB)
  | 0x04 | 0x09 | 0x0A | 0x0B => some (mD ||| mA ||| mImm)
  | 0x10 | 0x11 | 0x12 | 0x13 => some (mD ||| mAR ||| 0x4_0000 ||| mInc)
  | 0x14 | 0x15 => some (mAR ||| mInc)
  | 0x16 => some (mD ||| mAR)
  | 0x17 => some (mD ||| 0x0018_0000)
  | 0x20 | 0x21 => some (0x0380_0000 ||| mA ||| mB)
  | 0x22 | 0x23 => some (0x0080_0000 ||| mA ||| mB)
  | 0x24 => some 0x0380_3FC0
  | 0x25 => some 0x0200_0000
  | 0x28 | 0x29 => some (mD ||| mAC ||| mSh)
  | 0x2A | 0x2B => some (mD ||| mAC)
  | 0x2C | 0x3B => some (mD ||| mA)
  | 0x2D => some (mA ||| mAC ||| mSh)
  | 0x2E => some mAC
  | 0x30 | 0x36 => some 0xFFF
  | 0x31 | 0x32 | 0x33 | 0x34 | 0x35 => some (mA ||| 0xFFF)
  | 0x38 | 0x3E => some mImm
  | 0x39 | 0x3A => some (mA ||| mImm)
  | 0x3C => some (mA ||| mB)
  | 0x3D => some (mA ||| 0x2000)
  | _ => none

/-- The instructions that must not follow RPT (R272). -/
def laneNoRpt (o : Nat) : Bool :=
  decide (0x30 ≤ o ∧ o ≤ 0x39) || decide (0x3C ≤ o ∧ o ≤ 0x3F)

/-- A word is a program fault by its form alone (R272). -/
def laneBad (w : Nat) : Bool :=
  let o := LaneW.op w
  match laneMask o with
  | none => true
  | some m =>
    w % 2 ^ 26 != w &&& m ||
    ((o == 0x12 || o == 0x13) && LaneW.d w % 2 == 1) ||
    ((o == 0x22 || o == 0x23) && (LaneW.a w % 2 == 1 || LaneW.b w % 2 == 1)) ||
    (o == 0x29 && LaneW.ac w % 2 == 1) ||
    ((o == 0x28 || o == 0x2D) && decide (39 < LaneW.sh w)) || (o == 0x29 && decide (15 < LaneW.sh w))

/-! ### Starting and stopping -/

/-- The lane may issue in the device's present state (R266). -/
def State.laneMay (s : State) : Bool := s.inDev .ready || s.inDev .running

/-- The lane stops issuing: ENABLE is clear, no wait, no halt. -/
def State.laneStop (s : State) (n : Nat) : State :=
  (s.setEnable (Base.lane n) false).modLane n fun x =>
    { x with issuing := false, norm := false, wait := .none, rpt := 0, haltReq := false, halted := false, stepping := false }

/-- An immediate disable (R279): a partly filled output record is discarded. -/
def State.laneKill (s : State) (n : Nat) : State :=
  let b := Base.lane n
  let k := (s.lane n).words.length
  let s := s.laneStop n
  if k = 0 then s
  else ((s.modLane n fun x => { x with words := [] }).addSat b Reg.Lane.TRUNC_COUNT k).raise b 7

/-- A write of 1 to ENABLE (R279). -/
def State.laneStart (s : State) (n : Nat) : State :=
  let b := Base.lane n
  if s.enabled b then s
  else
    let s := (s.setEnable b true).setFld b Reg.Lane.PC (s.fld b Reg.Lane.START_PC)
    s.modLane n fun x => { x with issuing := true, norm := false, wait := .none, rpt := 0, stack := [] }

/-- Units written and not consumed on channel `c` (R268). -/
def State.laneAvail (s : State) (n c : Nat) : Nat :=
  (s.fld (Base.lane n) Reg.Lane.IWCNT c + 2 ^ 32 - s.fld (Base.lane n) Reg.Lane.ITAKE c) % 2 ^ 32

/-- A WAITI's condition is met (R271). -/
def State.laneMet (s : State) (n c : Nat) (k : Int) : Bool := decide (k ≤ s.laneAvail n c)

/-- A write of 0 to ENABLE (R279): a lane that stands in a WAITI whose condition is not met stops at once. -/
def State.laneEnd (s : State) (n : Nat) : State :=
  let b := Base.lane n
  if !s.enabled b then s
  else
    let met := match (s.lane n).wait with
      | .waiti c k => s.laneMet n c k
      | _ => true
    if s.laneMay && met then (s.setEnable b false).modLane n fun x => { x with norm := true } else s.laneStop n

/-- A program fault (R272, R279). -/
def State.laneFault (s : State) (n : Nat) : State :=
  let b := Base.lane n
  ((s.err b 0x11 (s.fld b Reg.Lane.PC)).raise b 4).laneKill n

/-- The debug target of lane `n`. -/
def laneDbg (n : Nat) : Nat := 256 + n

/-- The number of an enabled breakpoint at an address. -/
def State.bpAt (s : State) (t a : Nat) : Option Nat :=
  (List.range 4).find? fun k =>
    let w := (s.dbg t).bps.getD k 0
    w.getLsbD 31 && w.toNat % 4096 == a

/-- A target halts: the reason, the breakpoint number, and DBG_HALT (R539, R541). -/
def State.noteHalt (s : State) (t reason bp : Nat) : State :=
  (s.modDbg t fun d => { d with reason := reason, bpNum := bp }).raise Base.pwr 12

/-- The lane halts, with a reason and a breakpoint number (R540). -/
def State.laneHalt (s : State) (n reason bp : Nat) : State :=
  (s.modLane n fun x => { x with haltReq := false, halted := true, stepping := false }).noteHalt (laneDbg n) reason bp

/-- The boundary before the lane's next instruction: a requested halt, a finished step, a breakpoint (R540). -/
def State.laneBoundary (s : State) (n : Nat) : State :=
  let x := s.lane n
  if !x.issuing || x.wait != .none then s
  else if x.haltReq then s.laneHalt n 1 0
  else if x.stepping then s.laneHalt n 2 0
  else
    match s.bpAt (laneDbg n) (s.fld (Base.lane n) Reg.Lane.PC) with
    | some k => if x.halted then s else s.laneHalt n 3 k
    | none => s

/-- The lane goes on with the instruction at `pc`. -/
def State.laneGo (s : State) (n pc : Nat) : State := (s.setFld (Base.lane n) Reg.Lane.PC pc).laneBoundary n

/-- The lane goes on after an instruction: it is issued again while RPT asks for it (R271). -/
def State.laneNext (s : State) (n : Nat) : State :=
  let pc := s.fld (Base.lane n) Reg.Lane.PC
  if 1 < (s.lane n).rpt then (s.modLane n fun x => { x with rpt := x.rpt - 1 }).laneGo n pc
  else (s.modLane n fun x => { x with rpt := 0 }).laneGo n ((pc + 1) % 4096)

/-- What one instruction leads to. -/
inductive LaneStep where
  /-- The next instruction. -/
  | next (s : State)
  /-- The instruction at `pc`. -/
  | jump (s : State) (pc : Nat)
  /-- The instruction is not over, or the lane has stopped. -/
  | stay (s : State)
  /-- A program fault. -/
  | fault

/-- The lane can issue an instruction now. -/
def State.laneReady (s : State) (n : Nat) : Bool :=
  let x := s.lane n
  s.laneMay && x.issuing && x.wait == .none && (!x.halted || x.stepping)

/-- The instruction at the lane's pc fails its parity: it is fetched again from the shadow (R35, R278). -/
def State.laneRefetch (s : State) (n : Nat) : State :=
  let b := Base.lane n
  let pc := s.fld b Reg.Lane.PC
  let s := (s.err b 0x10 pc).raise b 5
  (s.modLane n fun x => { x with wait := .refetch }).refetch (shadowAt (laneCode n + 4 * pc))

/-- Lane `n` issues the instruction at its pc, when it can and when that instruction has opcode `o`; a word that is a
program fault is one whichever row issues it (R272). -/
def State.laneIssue (s : State) (n o : Nat) (q : LaneFault) (body : Nat → LaneStep) : Out :=
  if !s.laneReady n then .next s
  else if q = .imem then finish (s.laneRefetch n)
  else
    let w := rdLE s.bar2 (laneCode n + 4 * s.fld (Base.lane n) Reg.Lane.PC) 4
    if laneBad w || (laneNoRpt (LaneW.op w) && (s.lane n).rpt != 0) then finish (s.laneFault n)
    else if LaneW.op w ≠ o then .next s
    else
      match body w with
      | .next t => finish (t.laneNext n)
      | .jump t pc => finish (t.laneGo n pc)
      | .stay t => finish t
      | .fault => finish (s.laneFault n)

/-! ### Plain arithmetic -/

/-- An instruction that writes one data register. -/
def State.laneAlu (s : State) (n o : Nat) (q : LaneFault) (f : Nat → Int) : Out :=
  s.laneIssue n o q fun w => .next (s.setLaneD n (LaneW.d w) (unsigned 32 (f w)))

/-- d[A] and d[B] of an instruction. -/
def State.lA (s : State) (n w : Nat) : Nat := s.laneD n (LaneW.a w)
def State.lB (s : State) (n w : Nat) : Nat := s.laneD n (LaneW.b w)

/-- LANE_NOP (R271). -/
def execLaneNop (n : Fin 64) (q : LaneFault) (s : State) : Out := s.laneIssue n 0x00 q fun _ => .next s

/-- LANE_MOVI (R271). -/
def execLaneMovi (n : Fin 64) (q : LaneFault) (s : State) : Out := s.laneAlu n 0x01 q LaneW.imm

/-- LANE_MOVH (R271). -/
def execLaneMovh (n : Fin 64) (q : LaneFault) (s : State) : Out :=
  s.laneAlu n 0x02 q fun w => (s.laneD n (LaneW.d w) % 65536 + 65536 * (w % 65536) : Nat)

/-- LANE_ADD (R271). -/
def execLaneAdd (n : Fin 64) (q : LaneFault) (s : State) : Out :=
  s.laneAlu n 0x03 q fun w => (s.lA n w : Int) + s.lB n w

/-- LANE_ADDI (R271). -/
def execLaneAddi (n : Fin 64) (q : LaneFault) (s : State) : Out :=
  s.laneAlu n 0x04 q fun w => (s.lA n w : Int) + LaneW.imm w

/-- LANE_SUB (R271). -/
def execLaneSub (n : Fin 64) (q : LaneFault) (s : State) : Out :=
  s.laneAlu n 0x05 q fun w => (s.lA n w : Int) - s.lB n w

/-- LANE_AND (R271). -/
def execLaneAnd (n : Fin 64) (q : LaneFault) (s : State) : Out :=
  s.laneAlu n 0x06 q fun w => (s.lA n w &&& s.lB n w : Nat)

/-- LANE_OR (R271). -/
def execLaneOr (n : Fin 64) (q : LaneFault) (s : State) : Out :=
  s.laneAlu n 0x07 q fun w => (s.lA n w ||| s.lB n w : Nat)

/-- LANE_XOR (R271). -/
def execLaneXor (n : Fin 64) (q : LaneFault) (s : State) : Out :=
  s.laneAlu n 0x08 q fun w => (s.lA n w ^^^ s.lB n w : Nat)

/-- LANE_SHLI (R271). -/
def execLaneShli (n : Fin 64) (q : LaneFault) (s : State) : Out :=
  s.laneAlu n 0x09 q fun w => (s.lA n w * 2 ^ (w % 32) : Nat)

/-- LANE_SHRI (R271). -/
def execLaneShri (n : Fin 64) (q : LaneFault) (s : State) : Out :=
  s.laneAlu n 0x0A q fun w => (s.lA n w / 2 ^ (w % 32) : Nat)

/-- LANE_SARI (R271, R274). -/
def execLaneSari (n : Fin 64) (q : LaneFault) (s : State) : Out :=
  s.laneAlu n 0x0B q fun w => signed 32 (s.lA n w) / 2 ^ (w % 32)

/-- LANE_MUL (R271, R274). -/
def execLaneMul (n : Fin 64) (q : LaneFault) (s : State) : Out :=
  s.laneAlu n 0x0C q fun w => signed 16 (s.lA n w % 65536) * signed 16 (s.lB n w % 65536)

/-! ### Memory and addresses -/

/-- The first, and the second word read from data memory fails its parity. -/
def firstBad (q : LaneFault) : Bool := q == .dmem || q == .dmemBoth
def secondBad (q : LaneFault) : Bool := q == .dmem2 || q == .dmemBoth

/-- A word that a load reads at `a` fails its parity: it is delivered as read and DERR is set (R278). -/
def State.laneDerr (s : State) (n a : Nat) (bad : Bool) : State :=
  if bad then
    let b := Base.lane n
    ((s.err b 0x10 (a % 65536)).setBit b Reg.Lane.DERR true).raise b 8
  else s

/-- The update of a load's or store's address register, when U = 1 (R271). -/
def State.laneUse (s : State) (n w : Nat) : State :=
  if LaneW.u w then s.laneStep n (LaneW.ar w) (LaneW.inc w) else s

/-- The address of a load or store of `k` bytes (R273). -/
def State.laneAddr (s : State) (n w k : Nat) : Nat := s.laneA n (LaneW.ar w) / k * k

/-- LANE_LD (R271). -/
def execLaneLd (n : Fin 64) (q : LaneFault) (s : State) : Out :=
  s.laneIssue n 0x10 q fun w =>
    let a := s.laneAddr n w 4
    .next (((s.laneUse n w).setLaneD n (LaneW.d w) (s.laneWord n a)).laneDerr n a (firstBad q))

/-- LANE_ST (R271). -/
def execLaneSt (n : Fin 64) (q : LaneFault) (s : State) : Out :=
  s.laneIssue n 0x11 q fun w =>
    .next ((s.laneUse n w).setLaneWord n (s.laneAddr n w 4) (s.laneD n (LaneW.d w)))

/-- LANE_LD2 (R271). -/
def execLaneLd2 (n : Fin 64) (q : LaneFault) (s : State) : Out :=
  s.laneIssue n 0x12 q fun w =>
    let a := s.laneAddr n w 8
    let t := (s.laneUse n w).setLaneD n (LaneW.d w) (s.laneWord n a)
    let t := t.setLaneD n (LaneW.d w + 1) (s.laneWord n (a + 4))
    .next ((t.laneDerr n a (firstBad q)).laneDerr n (a + 4) (secondBad q))

/-- LANE_ST2 (R271). -/
def execLaneSt2 (n : Fin 64) (q : LaneFault) (s : State) : Out :=
  s.laneIssue n 0x13 q fun w =>
    let a := s.laneAddr n w 8
    let t := (s.laneUse n w).setLaneWord n a (s.laneD n (LaneW.d w))
    .next (t.setLaneWord n (a + 4) (s.laneD n (LaneW.d w + 1)))

/-- LANE_AMOVI (R271). -/
def execLaneAmovi (n : Fin 64) (q : LaneFault) (s : State) : Out :=
  s.laneIssue n 0x14 q fun w => .next (s.setFld (Base.lane n) Reg.Lane.A (w % 65536) (LaneW.ar w))

/-- LANE_AADD (R271, R273). -/
def execLaneAadd (n : Fin 64) (q : LaneFault) (s : State) : Out :=
  s.laneIssue n 0x15 q fun w => .next (s.laneStep n (LaneW.ar w) (LaneW.inc w))

/-- LANE_AMOV (R271). -/
def execLaneAmov (n : Fin 64) (q : LaneFault) (s : State) : Out :=
  s.laneIssue n 0x16 q fun w =>
    .next (s.setFld (Base.lane n) Reg.Lane.A (s.laneD n (LaneW.d w) % 65536) (LaneW.ar w))

/-- LANE_HSET (R271). -/
def execLaneHset (n : Fin 64) (q : LaneFault) (s : State) : Out :=
  s.laneIssue n 0x17 q fun w =>
    .next (s.setReg (Base.lane n + 0x160 + 4 * LaneW.ar w) (BitVec.ofNat 32 (s.laneD n (LaneW.d w))))

/-! ### MACs -/

/-- The parts of a word: I or h_0 in [15:0], Q or h_1 in [31:16], each signed (R271, R274). -/
def halves (v : Nat) : Cplx := (signed 16 (v % 65536), signed 16 (v / 65536 % 65536))

/-- The complex product of CMAC: conjugated when `c`, negated when `neg` (R271). -/
def laneCmul (x y : Cplx) (c neg : Bool) : Cplx :=
  let p : Cplx := if c then conjMul x y else (x.1 * y.1 - x.2 * y.2, x.1 * y.2 + x.2 * y.1)
  if neg then (-p.1, -p.2) else p

/-- An accumulator receives a value: added modulo 2^40 with OV, or assigned (R274). -/
def State.laneAcc (s : State) (n : Nat) (e : Nat × Bool × Int) : State :=
  if e.2.1 then
    let v := wrap40 (s.laneAc n e.1 + e.2.2)
    let s := s.setLaneAc n e.1 v.1
    if v.2 then
      (s.setFld (Base.lane n) Reg.Lane.OV (s.fld (Base.lane n) Reg.Lane.OV ||| 2 ^ e.1)).raise (Base.lane n) 3
    else s
  else s.setLaneAc n e.1 e.2.2

/-- A MAC hands its sums to the accumulators, or waits for a recompute when its residue check fails (R276). -/
def State.laneMac (s : State) (n : Nat) (q : LaneFault) (adds : List (Nat × Bool × Int)) : LaneStep :=
  if q = .mac then
    .stay ((s.err (Base.lane n) 0x10 (s.fld (Base.lane n) Reg.Lane.PC)).modLane n fun x => { x with wait := .recompute adds false })
  else .next (adds.foldl (fun s e => s.laneAcc n e) s)

/-- What accumulator pair `p` receives of a complex product. -/
def pairAdds (p : Nat) (add : Bool) (v : Cplx) : List (Nat × Bool × Int) :=
  [(2 * p, add, v.1), (2 * p + 1, add, v.2)]

/-- The complex product of d[A] and d[B]. -/
def State.laneProd (s : State) (n w : Nat) : Cplx :=
  laneCmul (halves (s.lA n w)) (halves (s.lB n w)) (LaneW.c w) (LaneW.n w)

/-- LANE_CMAC (R271, R274). -/
def execLaneCmac (n : Fin 64) (q : LaneFault) (s : State) : Out :=
  s.laneIssue n 0x20 q fun w => s.laneMac n q (pairAdds (LaneW.p w) true (s.laneProd n w))

/-- LANE_CMUL (R271). -/
def execLaneCmul (n : Fin 64) (q : LaneFault) (s : State) : Out :=
  s.laneIssue n 0x21 q fun w => s.laneMac n q (pairAdds (LaneW.p w) false (s.laneProd n w))

/-- The four products of QMAC (R274). -/
def State.laneQuad (s : State) (n w : Nat) (add : Bool) : List (Nat × Bool × Int) :=
  let a0 := halves (s.lA n w)
  let a1 := halves (s.laneD n (LaneW.a w + 1))
  let b0 := halves (s.lB n w)
  let b1 := halves (s.laneD n (LaneW.b w + 1))
  let g : Int := if LaneW.n w then -1 else 1
  [(0, add, g * (a0.1 * b0.1)), (1, add, g * (a0.2 * b0.2)), (2, add, g * (a1.1 * b1.1)), (3, add, g * (a1.2 * b1.2))]

/-- LANE_QMAC (R271, R274). -/
def execLaneQmac (n : Fin 64) (q : LaneFault) (s : State) : Out :=
  s.laneIssue n 0x22 q fun w => s.laneMac n q (s.laneQuad n w true)

/-- LANE_QMUL (R271). -/
def execLaneQmul (n : Fin 64) (q : LaneFault) (s : State) : Out :=
  s.laneIssue n 0x23 q fun w => s.laneMac n q (s.laneQuad n w false)

/-- LANE_CMLD (R271): with XA = YA there is one load and one update, by the sign of DX. -/
def execLaneCmld (n : Fin 64) (q : LaneFault) (s : State) : Out :=
  s.laneIssue n 0x24 q fun w =>
    let ax := s.laneA n (LaneW.xa w) / 4 * 4
    let ay := s.laneA n (LaneW.ya w) / 4 * 4
    let p := laneCmul (halves (s.laneWord n ax)) (halves (s.laneWord n ay)) (LaneW.c w) (LaneW.n w)
    let t := s.laneStep n (LaneW.xa w) (if LaneW.dx w then -4 else 4)
    let two := LaneW.xa w != LaneW.ya w
    let t := if two then t.laneStep n (LaneW.ya w) (if LaneW.dy w then -4 else 4) else t
    ((t.laneDerr n ax (firstBad q)).laneDerr n ay (two && secondBad q)).laneMac n q (pairAdds (LaneW.p w) true p)

/-- LANE_ACLR (R271). -/
def execLaneAclr (n : Fin 64) (q : LaneFault) (s : State) : Out :=
  s.laneIssue n 0x25 q fun w => .next ((s.setLaneAc n (2 * LaneW.p w) 0).setLaneAc n (2 * LaneW.p w + 1) 0)

/-- A value saturated to `k` bits; SAT records that it was (R274). -/
def State.laneSat (s : State) (n k : Nat) (v : Int) : Int × State :=
  let c := clamp (-2 ^ (k - 1)) (2 ^ (k - 1) - 1) v
  (c, if c = v then s else (s.setBit (Base.lane n) Reg.Lane.SAT true).raise (Base.lane n) 2)

/-- LANE_MOVA (R271, R274). -/
def execLaneMova (n : Fin 64) (q : LaneFault) (s : State) : Out :=
  s.laneIssue n 0x28 q fun w =>
    let r := s.laneSat n 32 (s.laneAc n (LaneW.ac w) / 2 ^ LaneW.sh w)
    .next (r.2.setLaneD n (LaneW.d w) (unsigned 32 r.1))

/-- LANE_PACK (R271, R274). -/
def execLanePack (n : Fin 64) (q : LaneFault) (s : State) : Out :=
  s.laneIssue n 0x29 q fun w =>
    let r := s.laneSat n 16 (s.laneAc n (LaneW.ac w) / 2 ^ LaneW.sh w)
    let u := r.2.laneSat n 16 (s.laneAc n (LaneW.ac w + 1) / 2 ^ LaneW.sh w)
    .next (u.2.setLaneD n (LaneW.d w) (unsigned 16 r.1 + 65536 * unsigned 16 u.1))

/-- The bits from bit `k` down that equal a sign bit, stopping at the first that differs. -/
def signRun (v : Nat) (sign : Bool) : Nat → Nat
  | 0 => 0
  | k + 1 => if v.testBit k = sign then signRun v sign k + 1 else 0

/-- rsb(v, w) (R271). -/
def rsb (v w : Nat) : Nat := signRun v (v.testBit (w - 1)) (w - 1)

/-- LANE_NORM (R275). -/
def execLaneNorm (n : Fin 64) (q : LaneFault) (s : State) : Out :=
  s.laneIssue n 0x2A q fun w =>
    let v := s.laneAc n (LaneW.ac w)
    let k := rsb (unsigned 40 v) 40
    .next ((s.setLaneAc n (LaneW.ac w) (v * 2 ^ k)).setLaneD n (LaneW.d w) k)

/-- LANE_EXP (R275). -/
def execLaneExp (n : Fin 64) (q : LaneFault) (s : State) : Out :=
  s.laneAlu n 0x2B q fun w => rsb (unsigned 40 (s.laneAc n (LaneW.ac w))) 40

/-- LANE_EXPD (R275). -/
def execLaneExpd (n : Fin 64) (q : LaneFault) (s : State) : Out :=
  s.laneAlu n 0x2C q fun w => rsb (s.lA n w) 32

/-- LANE_ASET (R271). -/
def execLaneAset (n : Fin 64) (q : LaneFault) (s : State) : Out :=
  s.laneIssue n 0x2D q fun w => .next (s.setLaneAc n (LaneW.ac w) (signed 32 (s.lA n w) * 2 ^ LaneW.sh w))

/-- LANE_CLOV (R271). -/
def execLaneClov (n : Fin 64) (q : LaneFault) (s : State) : Out :=
  s.laneIssue n 0x2E q fun w =>
    let b := Base.lane n
    let f := s.fld b Reg.Lane.OV
    .next (s.setFld b Reg.Lane.OV (if f.testBit (LaneW.ac w) then f - 2 ^ LaneW.ac w else f))

/-! ### Flow -/

/-- LANE_JMP (R271). -/
def execLaneJmp (n : Fin 64) (q : LaneFault) (s : State) : Out :=
  s.laneIssue n 0x30 q fun w => .jump s (LaneW.target w)

/-- A branch on d[A]. -/
def State.laneBranch (s : State) (n o : Nat) (q : LaneFault) (cond : Int → Bool) : Out :=
  s.laneIssue n o q fun w => if cond (signed 32 (s.lA n w)) then .jump s (LaneW.target w) else .next s

/-- LANE_BEQZ (R271). -/
def execLaneBeqz (n : Fin 64) (q : LaneFault) (s : State) : Out := s.laneBranch n 0x31 q fun v => v == 0

/-- LANE_BNEZ (R271). -/
def execLaneBnez (n : Fin 64) (q : LaneFault) (s : State) : Out := s.laneBranch n 0x32 q fun v => v != 0

/-- LANE_BLTZ (R271). -/
def execLaneBltz (n : Fin 64) (q : LaneFault) (s : State) : Out := s.laneBranch n 0x33 q fun v => decide (v < 0)

/-- LANE_BGEZ (R271). -/
def execLaneBgez (n : Fin 64) (q : LaneFault) (s : State) : Out := s.laneBranch n 0x34 q fun v => decide (0 ≤ v)

/-- LANE_DBNZ (R271). -/
def execLaneDbnz (n : Fin 64) (q : LaneFault) (s : State) : Out :=
  s.laneIssue n 0x35 q fun w =>
    let v := unsigned 32 ((s.lA n w : Int) - 1)
    let t := s.setLaneD n (LaneW.a w) v
    if v ≠ 0 then .jump t (LaneW.target w) else .next t

/-- LANE_CALL (R271, R272). -/
def execLaneCall (n : Fin 64) (q : LaneFault) (s : State) : Out :=
  s.laneIssue n 0x36 q fun w =>
    if 4 ≤ (s.lane n).stack.length then .fault
    else
      let ra := (s.fld (Base.lane n) Reg.Lane.PC + 1) % 4096
      .jump (s.modLane n fun x => { x with stack := ra :: x.stack }) (LaneW.target w)

/-- LANE_RET (R271, R272). -/
def execLaneRet (n : Fin 64) (q : LaneFault) (s : State) : Out :=
  s.laneIssue n 0x37 q fun _ =>
    match (s.lane n).stack with
    | [] => .fault
    | ra :: _ => .jump (s.modLane n fun x => { x with stack := x.stack.tail }) ra

/-- LANE_RPT (R271). For an IMM outside 1 to 4,095 the number of issues is a free value of that range (assumption log
13). -/
def execLaneRpt (n : Fin 64) (q : LaneFault) (s : State) : Out :=
  s.laneIssue n 0x38 q fun w =>
    let t := s.setFld (Base.lane n) Reg.Lane.PC (s.fld (Base.lane n) Reg.Lane.PC + 1)
    let ok := decide (1 ≤ LaneW.imm w ∧ LaneW.imm w ≤ 4095)
    let k := if ok then (LaneW.imm w).toNat else 1 + (s.freeVal 12).toNat % 4095
    let t := if ok then t else t.tookFree
    .stay ((t.modLane n fun x => { x with rpt := k }).laneBoundary n)

/-! ### Input channels -/

/-- Bytes of a unit of a kind (R267). -/
def unitBytes (kind : Nat) : Nat := if kind = 1 then 4 else 16

/-- The capacity of channel `c` in units (R268). -/
def State.laneCap (s : State) (n c : Nat) : Nat :=
  s.fld (Base.lane n) Reg.Lane.IL c / unitBytes (s.fld (Base.lane n) Reg.Lane.KIND c)

/-- The conditions of an attach of channel `c`, as its registers stand (R267). -/
def State.laneAttachOk (s : State) (n c : Nat) : Bool :=
  let b := Base.lane n
  let rate := ((List.range 4).map fun i =>
    if s.fld b Reg.Lane.KIND i = 1 then
      (if s.fld b Reg.Lane.ROUT i < 256 then 256 / 2 ^ s.routK (s.fld b Reg.Lane.ROUT i) else 0) else 0).sum
  s.fld b Reg.Lane.KIND c == 0 ||
    (s.owner (Base.rout (s.fld b Reg.Lane.ROUT c)) == s.owner b && s.fld b Reg.Lane.IB c % 16 == 0 &&
      s.fld b Reg.Lane.IL c % 16 == 0 && decide (rate ≤ 96))

/-- `k` units of channel `c` are consumed; a negative IMM of TAKE gives units back. -/
def State.laneTake (s : State) (n c : Nat) (k : Int) : State :=
  s.setFld (Base.lane n) Reg.Lane.ITAKE (unsigned 32 (s.fld (Base.lane n) Reg.Lane.ITAKE c + k)) c

/-- Unit `num` of channel `c` is written with its stamp: stamps of units that no hoop region holds any more go. -/
def keepStamp (c num stamp : Nat) (l : List (Nat × Nat × Nat)) : List (Nat × Nat × Nat) :=
  (c, num, stamp) :: l.filter fun e => e.1 != c || decide ((num + 2 ^ 32 - e.2.1) % 2 ^ 32 < 2 ^ 14)

/-- LANE_INPUT_UNIT (R268): the oldest unit offered to channel `c` is written into the hoop region. -/
def execLaneInputUnit (n : Fin 64) (c : Fin 4) (s : State) : Out :=
  match (s.lane n).inbox.find? fun e => e.1 == c.val with
  | none => .next s
  | some e =>
    let b := Base.lane n
    let s := s.modLane n fun x => { x with inbox := x.inbox.erase e }
    let kind := s.fld b Reg.Lane.KIND c
    let u := e.2
    if u.words.length * 4 ≠ unitBytes kind ∨ kind = 0 then finish s
    else
      let cap := s.laneCap n c
      let pos := s.fld b Reg.Lane.IWCNT c % max 1 cap
      let full := decide (cap ≤ s.laneAvail n c)
      let s := if cap = 0 then s else
        (u.words.zipIdx).foldl (fun s v =>
          s.setLaneWord n (s.fld b Reg.Lane.IB c + pos * unitBytes kind + 4 * v.2) v.1) s
      let num := s.fld b Reg.Lane.IWCNT c
      let s := s.setFld b Reg.Lane.IWCNT (num + 1) c
      let s := s.modLane n fun x => { x with stamps := keepStamp c num u.stamp x.stamps }
      if full then
        finish ((((s.laneTake n c 1).modLane n fun x => { x with overrun := true }).inc b Reg.Lane.OVR_COUNT).raise b 1)
      else finish s

/-- LANE_WAITI (R271, R279). -/
def execLaneWaiti (n : Fin 64) (q : LaneFault) (s : State) : Out :=
  s.laneIssue n 0x39 q fun w =>
    let c := LaneW.a w % 4
    if s.laneMet n c (LaneW.imm w) then .next s
    else if (s.lane n).norm then .stay (s.laneStop n)
    else .stay (s.modLane n fun x => { x with wait := .waiti c (LaneW.imm w).toNat })

/-- WAITI_RELEASE (R271). -/
def execWaitiRelease (n : Fin 64) (s : State) : Out :=
  match (s.lane n).wait with
  | .waiti c k =>
    if s.laneMay && s.laneMet n c k then finish ((s.modLane n fun x => { x with wait := .none }).laneNext n) else .next s
  | _ => .next s

/-- LANE_TAKE (R271). -/
def execLaneTake (n : Fin 64) (q : LaneFault) (s : State) : Out :=
  s.laneIssue n 0x3A q fun w =>
    let c := LaneW.a w % 4
    .next (s.laneTake n c (min (LaneW.imm w) (s.laneAvail n c)))

/-- LANE_STMP (R271). With no unit unconsumed the stamp is a free value (assumption log 13). -/
def execLaneStmp (n : Fin 64) (q : LaneFault) (s : State) : Out :=
  s.laneIssue n 0x3B q fun w =>
    let c := LaneW.a w % 4
    let old := s.fld (Base.lane n) Reg.Lane.ITAKE c
    match (s.lane n).stamps.find? fun e => e.1 == c && e.2.1 == old && s.laneAvail n c != 0 with
    | some e => .next (s.setLaneD n (LaneW.d w) (e.2.2 % 2 ^ 32))
    | none => .next ((s.setLaneD n (LaneW.d w) (s.freeVal 32).toNat).tookFree)

/-! ### Outputs -/

/-- LANE_DEC (R277). -/
def execLaneDec (n : Fin 64) (q : LaneFault) (s : State) : Out :=
  s.laneIssue n 0x3C q fun w =>
    let v := s.lA n w
    .next (s.feed (8 * (s.count + 1)) 2 n (mkSlot (v.testBit 30 || s.bit (Base.lane n) Reg.Lane.DERR) (v % 4) (v / 4 % 256) (s.lB n w)))

/-- The lane record (R277). -/
def State.laneRecord (s : State) (n : Nat) : List Byte :=
  let b := Base.lane n
  let x := s.lane n
  let f := (s.bit b Reg.Lane.DERR).toNat + 2 * (s.bit b Reg.Lane.SAT).toNat + 4 * (s.bit b Reg.Lane.OV).toNat +
    8 * x.overrun.toNat
  packBytes ([(0x4C41, 2), (n, 1), (f, 1), (x.words.length, 2), (x.recSeq, 2)] ++
    (List.range 14).map fun i => (x.words.getD i 0, 4))

/-- The record in hand is written (R277). -/
def State.laneWrite (s : State) (n : Nat) : State :=
  let b := Base.lane n
  let ring := s.fld b Reg.Lane.OUT_RING
  let rec' := s.laneRecord n
  let s := s.modLane n fun x => { x with words := [], recSeq := (x.recSeq + 1) % 65536, overrun := false }
  if s.ringValid ring 4 (s.owner b) then s.ringPush ring rec' else s.err b 0x15 ring

/-- LANE_OUTW (R277). -/
def execLaneOutw (n : Fin 64) (q : LaneFault) (s : State) : Out :=
  s.laneIssue n 0x3D q fun w =>
    let t := s.modLane n fun x => { x with words := x.words ++ [s.lA n w] }
    .next (if LaneW.fl w || decide (14 ≤ (t.lane n).words.length) then t.laneWrite n else t)

/-- LANE_EVT (R271, R272). -/
def execLaneEvt (n : Fin 64) (q : LaneFault) (s : State) : Out :=
  s.laneIssue n 0x3E q fun w =>
    let k := w % 256
    if s.owner (evgPage k) = s.owner (Base.lane n) then .next (s.newWindow.publish k) else .fault

/-- LANE_HALT (R279). -/
def execLaneHalt (n : Fin 64) (q : LaneFault) (s : State) : Out :=
  s.laneIssue n 0x3F q fun _ =>
    let t := s.setFld (Base.lane n) Reg.Lane.PC (s.fld (Base.lane n) Reg.Lane.PC + 1)
    .stay ((t.laneStop n).raise (Base.lane n) 0)

/-! ### Recompute and re-fetch -/

/-- LANE_RECOMPUTE (R276): `ok` says that the recompute passes; one that fails for good counts as one that passes (R35). -/
def execLaneRecompute (n : Fin 64) (ok : Bool) (s : State) : Out :=
  let b := Base.lane n
  match (s.lane n).wait with
  | .recompute adds second =>
    match s.chargeRes (b + 0x024) (s.limitOf b) with
    | none => .next s
    | some t =>
      let done := t.inc b Reg.Lane.RECOMP_COUNT
      if ok then
        finish ((adds.foldl (fun s e => s.laneAcc n e) (done.modLane n fun x => { x with wait := .none })).laneNext n)
      else if second then finish ((done.err b 0x13 (s.fld b Reg.Lane.PC)).laneKill n)
      else finish (t.modLane n fun x => { x with wait := .recompute adds true })
  | _ => .next s

/-- LANE_IMEM_REFETCH_COMPLETE (R278): the lane resumes with the instruction at its pc. -/
def execLaneImemRefetchComplete (n : Fin 64) (s : State) : Out :=
  let out := s.refetchOut (shadowAt (laneCode n + 4 * s.fld (Base.lane n) Reg.Lane.PC))
  if (s.lane n).wait = .refetch ∧ !s.frozen ∧ !out then
    finish ((s.modLane n fun x => { x with wait := .none }).laneBoundary n)
  else .next s

/-! ### Reading -/

/-- STAT of a lane page, and WAIT_REASON (R282). -/
def State.laneStat (s : State) (n : Nat) : Nat :=
  let x := s.lane n
  let waiting := match x.wait with
    | .waiti _ _ => true
    | _ => false
  (x.issuing && s.laneMay).toNat + 4 * waiting.toNat + 8 * x.norm.toNat

def LaneSt.reason (x : LaneSt) : Nat :=
  match x.wait with
  | .none => 0
  | .waiti _ _ => 1
  | .recompute _ _ => 2
  | .refetch => 3

/-- Instruction memory of the lane is active (R278). -/
def State.laneActive (s : State) (n : Nat) : Bool := s.enabled (Base.lane n) || (s.laneStat n).testBit 0

/-- A byte of the lane's data memory lies in the hoop region of an attached channel (R278). -/
def State.laneHoop (s : State) (n a : Nat) : Bool :=
  (List.range 4).any fun c =>
    let b := Base.lane n
    let ib := s.fld b Reg.Lane.IB c
    s.fld b Reg.Lane.KIND c != 0 && decide ((a + 65536 - ib) % 65536 < s.fld b Reg.Lane.IL c)

end Sys2Proof.Machine
end

