-- ==== Sys2Proof/Machine/Targets.lean ====
section
/-!
DEFINITION. Chapter 04: the targets of timed commands and their queues (R103, R104, R107), shots and result records
(R117 to R125), and the immediate disable of a sequencer (R129).
-/
namespace Sys2Proof.Machine

/-! ### Targets -/

/-- A target of timed commands (R103). -/
inductive Tgt where
  | tone (n : Nat)
  | rout (n : Nat)
  | flux (n : Nat)
  | acq (n : Nat)
  | evch (n : Nat)
deriving DecidableEq, Repr

/-- The target at a TGT address (R103). -/
def tgtOf (t : Nat) : Option Tgt :=
  if t < 0x200 then some (.tone t)
  else if t < 0x300 then some (.rout (t - 0x200))
  else if t < 0x360 then some (.flux (t - 0x300))
  else if 0x380 ≤ t ∧ t < 0x3A0 then some (.acq (t - 0x380))
  else if 0x400 ≤ t ∧ t < 0x500 then some (.evch (t - 0x400))
  else none

/-- The TGT address of a target. -/
def Tgt.num : Tgt → Nat
  | .tone n => n
  | .rout n => 0x200 + n
  | .flux n => 0x300 + n
  | .acq n => 0x380 + n
  | .evch n => 0x400 + n

/-- How many command codes a target type has, from 0 up (R104). -/
def Tgt.codes : Tgt → Nat
  | .tone _ => 7
  | .rout _ => 3
  | .flux _ => 4
  | .acq _ => 3
  | .evch _ => 1

/-- Entries of a target's queue (R107). -/
def Tgt.cap : Tgt → Nat
  | .tone _ => 16
  | .flux _ => 16
  | _ => 8

/-- The page of a target. -/
def Tgt.page : Tgt → Nat
  | .tone n => Base.tone n
  | .rout n => Base.rout n
  | .flux n => Base.flux n
  | .acq n => Base.acq n
  | .evch n => evgPage n

/-- The queue of a target. -/
def State.tgtQueue (s : State) : Tgt → List TCmd
  | .tone n => (s.tone n).queue
  | .rout n => (s.rout n).queue
  | .flux n => (s.flux n).queue
  | .acq n => (s.acqU n).queue
  | .evch n => (s.evch n).queue

/-- Change the queue of a target. -/
def State.modQueue (s : State) (t : Tgt) (f : List TCmd → List TCmd) : State :=
  match t with
  | .tone n => s.modTone n fun x => { x with queue := f x.queue }
  | .rout n => s.modRout n fun x => { x with queue := f x.queue }
  | .flux n => s.modFlux n fun x => { x with queue := f x.queue }
  | .acq n => s.modAcq n fun x => { x with queue := f x.queue }
  | .evch n => s.modEvch n fun x => { x with queue := f x.queue }

/-- The targets whose queue may hold a command. -/
def State.liveTgts (s : State) : List Tgt :=
  s.tones.map (fun e => .tone e.1) ++ s.routs.map (fun e => .rout e.1) ++ s.fluxes.map (fun e => .flux e.1) ++
    s.acqs.map (fun e => .acq e.1) ++ s.evchs.map fun e => .evch e.1

/-- All queued commands with their targets. -/
def State.queued (s : State) : List (Tgt × TCmd) :=
  s.liveTgts.flatMap fun t => (s.tgtQueue t).map fun c => (t, c)

/-- Keep only the queued commands that satisfy a condition. -/
def State.keepCmds (s : State) (keep : TCmd → Bool) : State :=
  s.liveTgts.foldl (fun s t => s.modQueue t fun q => q.filter keep) s

/-! ### Shots -/

/-- The open shot of a sequencer. -/
def SeqSt.openShot (q : SeqSt) : Option Shot := if q.isOpen then q.shots.getLast? else none

/-- The tag of the open shot (R119). -/
def State.openTag (s : State) (n : Nat) : Tag := (s.seq n).openShot.map fun x => (n, x.num)

/-- Change the open shot, if there is one. -/
def State.modOpen (s : State) (n : Nat) (f : Shot → Shot) : State :=
  match (s.seq n).openShot with
  | some x => s.modShot n x.num f
  | none => s

/-- Set a flag of the open shot. -/
def State.flagOpen (s : State) (n i : Nat) : State := s.modOpen n fun x => x.flag i

/-- A command of sequencer `n` is refused with a code (R109). -/
def State.refuseCmd (s : State) (n code tgt : Nat) (tag : Tag) : State :=
  ((s.err (Base.seq n) code tgt).raise (Base.seq n) 2).charge tag Flag.CMD_FAULT

/-- The boundary that the open shot takes when it is closed at step `k`: not before its start (R118). -/
def State.boundAt (s : State) (n k : Nat) : Nat :=
  match (s.seq n).openShot with
  | some x => max x.start k
  | none => k

/-- Close the open shot with its boundary at step `k` (R109, R118). -/
def State.closeShot (s : State) (n k : Nat) : State :=
  match (s.seq n).openShot with
  | none => s
  | some x =>
    let tag : Tag := some (n, x.num)
    let b := max x.start k
    let s := if k < x.start then (s.raise (Base.seq n) 2).charge tag Flag.CMD_FAULT else s
    let late (c : TCmd) : Bool := c.tag == tag && decide (b ≤ c.step)
    let cut := s.queued.filter fun e => late e.2
    let s := s.keepCmds fun c => !late c
    let s := cut.foldl (fun s e => s.refuseCmd n 0x14 e.1.num tag) s
    (s.modShot n x.num fun x => { x with boundary := some b }).modSeq n fun q => { q with isOpen := false }

/-- The network nanoseconds of a shot (R120). -/
def State.shotNt (s : State) (x : Shot) : Nat := x.nt.getD (s.ntAt (x.start / 2))

/-- The flags of a shot's record: TILE_SKEW when a tile that a command of it executed through had its condition bit set
(R42, R121). -/
def Shot.finalFlags (x : Shot) : BitVec 16 :=
  if x.skew.any fun e => x.tiles.getLsbD e.1 && x.inFlight e.2 then (x.flag Flag.TILE_SKEW).flags else x.flags

/-- A function-level reset of the owner of sequencer `n` is in progress (R412, R413). -/
def State.seqFlr (s : State) (n : Nat) : Bool := (s.fnSt (s.owner (Base.seq n))).flr.isSome

/-- The result record (R120): one written during a function-level reset carries TENANT_RESET (R413). -/
def State.resultRecord (s : State) (n : Nat) (x : Shot) : List Byte :=
  let x := if s.seqFlr n then x.flag Flag.TENANT_RESET else x
  withCrc (packBytes [(x.num, 8), (x.start / 2, 8), (s.shotNt x, 4), (s.owner (Base.seq n), 2),
    (x.finalFlags.toNat, 2), (x.bitmap.toNat, 32), (x.user.toNat, 4)])

/-- A shot's record can be written: its end has come, it is closed, and none of its commands is queued (R120, R123). -/
def State.recordDue (s : State) (n : Nat) (x : Shot) : Bool :=
  x.aborted ||
    ((x.boundary.any fun b => decide (b < s.step0 + 2)) && !(s.queued.any fun e => e.2.tag == some (n, x.num)))

/-- Write a result record into RES_RING, or count its loss (R120, R405). Where OWNER.FN names no function, no function's page can
count the loss, and the record is discarded (DESIGN CHOICE, assumption log 55: the spec gives no such case). -/
def State.writeRecord (s : State) (n : Nat) (x : Shot) : State :=
  let b := Base.seq n
  let f := s.owner b
  let ring := s.fld b Reg.Seq.RES_RING
  if s.ringValid ring 1 f then s.ringPush ring (s.resultRecord n x)
  else if f < 64 then
    ((s.inc (Base.fn f) Reg.Fn.REC_DROP_COUNT).err (Base.fn f) 0x16 ring).raise (Base.fn f) 3
  else s

/-- RESULT_RECORD_WRITE (R120, R123): the sequencer's oldest unwritten shot. -/
def execResultRecordWrite (n : Fin 256) (s : State) : Out :=
  match (s.seq n).shots with
  | x :: _ =>
    if s.recordDue n x then
      finish ((s.writeRecord n x).modSeq n fun q =>
        { q with shots := q.shots.tail, isOpen := q.isOpen && 1 < q.shots.length })
    else .next s
  | [] => .next s

/-! ### What a sequencer is doing -/

/-- Commands carrying the sequencer's number are queued. -/
def State.seqQueued (s : State) (n : Nat) : Bool := s.queued.any fun e => e.2.poster == n

/-- The start is still held pending: Running has not begun since the enable (R94). -/
def State.startHeld (s : State) (n : Nat) : Bool := (s.seq n).fresh && !(s.running && s.run)

/-- STAT.ACTIVE of a sequencer page: it stays set until the sequencer has stopped (R127). -/
def State.seqActive (s : State) (n : Nat) : Bool :=
  ((s.seq n).issuing && !s.startHeld n) || (s.seq n).isOpen || (s.seq n).ending || s.seqQueued n

/-- The sequencer is stopped: ENABLE = 0 and ACTIVE = 0 (R96, R126). -/
def State.seqStopped (s : State) (n : Nat) : Bool := !s.enabled (Base.seq n) && !s.seqActive n

/-- STAT of a sequencer page. -/
def State.seqStat (s : State) (n : Nat) : Nat :=
  let q := s.seq n
  (s.seqActive n).toNat + 4 * (q.wait != .none).toNat + 8 * q.halted.toNat + 16 * q.isOpen.toNat

/-- Something of the sequencer runs, or is left over, that an immediate disable would end. -/
def State.seqAlive (s : State) (n : Nat) : Bool :=
  s.enabled (Base.seq n) || (s.seq n).issuing || (s.seq n).ending || !(s.seq n).shots.isEmpty || s.seqActive n

/-- An immediate disable of the sequencer is requested (R129, R146). -/
def State.seqKillReq (s : State) (n : Nat) : State :=
  if s.seqAlive n then s.modSeq n fun q => { q with killReq := true } else s

/-- Request the immediate disable of every sequencer, or of those that satisfy a condition. -/
def State.seqKillAll (s : State) (p : Nat → Bool) : State :=
  (List.range 256).foldl (fun s n => if p n then s.seqKillReq n else s) s

/-! ### The immediate disable -/

/-- What a command of sequencer `n` started and is still under way receives its own immediate disable at step `t`
(R129, R190, R242, R357, R369). -/
def State.killStarted (s : State) (n t : Nat) : State :=
  let mine (p : Option Play) : Bool := p.any fun p => p.poster == n
  let ts := (s.tones.filter fun e => mine e.2.play).map Prod.fst
  let fs := (s.fluxes.filter fun e => mine e.2.play).map Prod.fst
  let rs := (s.routs.filter fun e => e.2.wins.any fun w => e.2.winOpen w && w.poster == n).map Prod.fst
  let us := (s.acqs.filter fun e => e.2.cap.any fun c => c.posters.contains n).map Prod.fst
  let s := ts.foldl (fun s k => s.toneKill k t) s
  let s := fs.foldl (fun s k => s.fluxKill k t) s
  let s := rs.foldl (fun s k => s.routKill k t false) s
  us.foldl (fun s k => s.acqKill k) s

/-- A shot ends at step `p` under an immediate disable: a boundary not reached makes it ABORTED (R123, R129). -/
def Shot.cutAt (x : Shot) (p : Nat) : Shot :=
  match x.boundary with
  | some b => if b ≤ p then x else { x.flag Flag.ABORTED with aborted := true }
  | none => { (x.flag Flag.TRUNCATED).flag Flag.ABORTED with aborted := true }

/-- The immediate disable of sequencer `n` at step `p` (R129). Requests of a lower order stay pending (R146): a debug halt is
taken at the first boundary after the next start, a hand-over before its first SHOT. -/
def State.seqKill (s : State) (n p : Nat) : State :=
  let b := Base.seq n
  let cut := s.queued.filter fun e => e.2.poster == n
  let cutOpen := (s.seq n).isOpen
  let s := s.keepCmds fun c => c.poster != n
  let s := s.addSat b Reg.Seq.TRUNC_COUNT cut.length
  let s := cut.foldl (fun s e => s.charge e.2.tag Flag.TRUNCATED) s
  let s := s.killStarted n (p + 1)
  let s := if cut.isEmpty && !cutOpen then s else s.raise b 8
  let s := s.setEnable b false
  s.modSeq n fun q =>
    { q with
      shots := q.shots.map fun x => x.cutAt p
      isOpen := false, issuing := false, fresh := false, wait := .none, restart := none, stall := .none, stopReq := false
      killReq := false, halted := false, stepping := false, stepped := false, pass := false
      ending := true, held := false }

/-- A program fault at step `p` (R102). -/
def State.seqFault (s : State) (n p : Nat) : State :=
  let b := Base.seq n
  ((s.err b 0x11 (s.fld b Reg.Seq.PC)).raise b 4).seqKill n p

/-- SEQ_STOPPED (R127 to R129): the records are written and no command of the sequencer is queued. -/
def execSeqStopped (n : Fin 256) (s : State) : Out :=
  let b := Base.seq n
  let q := s.seq n
  if q.ending && q.shots.isEmpty && !s.seqQueued n then
    let s := (s.setEnable b false).setBit b Reg.Hdr.DISABLE_NOW false
    finish ((s.modSeq n fun q => { q with ending := false, stopReq := false }).raise b 0)
  else .next s

/-! ### Starting and stopping by register -/

/-- The sequencer starts at START_PC (R126): outside Running its start is held pending, and then takes place at the first step of
Running (R94). -/
def State.seqStart (s : State) (n : Nat) : State :=
  let b := Base.seq n
  let go := s.running && s.run
  let next := if go then s.nextStep else 0
  let s := (s.setEnable b true).setFld b Reg.Seq.PC (s.fld b Reg.Seq.START_PC)
  s.modSeq n fun q =>
    { q with
      stack := [], issuing := true, fresh := !go, nextStep := next, wait := .none, restart := none, stall := .none
      stopReq := false, halted := false, stepping := false, stepped := false, pass := false, held := false }

/-- The loader is applying an image to the sequencer's cluster (R155). -/
def State.applying (s : State) (n : Nat) : Bool := s.loader.job == .apply && s.loader.mask.getLsbD (n / 16)

/-- A write of 1 to ENABLE (R126, R128, R150, R155). -/
def State.seqEnable (s : State) (n : Nat) : State :=
  let q := s.seq n
  if (s.fld Base.sec Reg.Sec.CL_FAIL).testBit (n / 16) then s
  else if s.applying n then s.modSeq n fun q => { q with held := true }
  else if s.enabled (Base.seq n) || q.ending then s
  else if q.issuing then (s.setEnable (Base.seq n) true).modSeq n fun q => { q with stopReq := false }
  else if s.seqStopped n then s.seqStart n
  else s

/-- A write of 0 to ENABLE (R128): a sequencer whose start is still held pending stops at once, having nothing to end (R94). -/
def State.seqDisable (s : State) (n : Nat) : State :=
  let b := Base.seq n
  let s := s.modSeq n fun q => { q with held := false }
  if !s.enabled b then s
  else if (s.seq n).issuing && s.startHeld n then
    ((s.setEnable b false).modSeq n fun q => { q with issuing := false, fresh := false }).raise b 0
  else if !(s.seq n).issuing then s.setEnable b false
  else (s.setEnable b false).modSeq n fun q => { q with stopReq := true }

/-- A write of 1 to DISABLE_NOW (R129). -/
def State.seqDisableNow (s : State) (n : Nat) : State :=
  if s.seqAlive n then
    (s.setBit (Base.seq n) Reg.Hdr.DISABLE_NOW true).modSeq n fun q => { q with killReq := true }
  else s

/-! ### Hand-over -/

/-- The program memory of a sequencer: its cells, by offset (R93). -/
def State.program (s : State) (n : Nat) : List Host.Cell :=
  (s.bar2.filter fun e => decide (0x0240_0000 + 16384 * n ≤ e.1 ∧ e.1 < 0x0240_0000 + 16384 * (n + 1))).map fun e =>
    (e.1 - (0x0240_0000 + 16384 * n), e.2)

/-- The destination of a hand-over meets R130. -/
def State.handOk (s : State) (n d : Nat) : Bool :=
  s.seqStopped d && s.owner (Base.seq d) == s.owner (Base.seq n) &&
    !(s.seqs.any fun e => e.1 != n && e.2.handTo == some d) && s.program d == s.program n

/-- A hand-over is refused (R131). -/
def State.handRefuse (s : State) (n d : Nat) : State :=
  ((s.setFld (Base.seq n) Reg.Seq.GO 0).modSeq n fun q => { q with handTo := none }).err (Base.seq n) 0x16 d

/-- A write of 1 to GO (R131). While a hand-over is pending a further GO does nothing, and the destination stays the one that
DEST named at the first (DESIGN CHOICE, assumption log 55: the spec gives no such case). -/
def State.handGo (s : State) (n : Nat) : State :=
  let b := Base.seq n
  let d := s.fld b Reg.Seq.DEST
  if (s.seq n).handTo.isSome then s
  else if s.handOk n d then
    ((s.setFld b Reg.Seq.GO 1).setFld b Reg.Seq.DONE 0).modSeq n fun q => { q with handTo := some d }
  else s.handRefuse n d

end Sys2Proof.Machine
end

