-- ==== Sys2Proof/Machine/Sequencer.lean ====
section
/-!
DEFINITION. Chapter 04: the instruction set of the sequencers, their waits, boundaries and the hand-over (R97 to R116,
R140 to R149, R540).
-/
namespace Sys2Proof.Machine

/-! ### Instruction words -/

/-- The value of bits `hi` to `lo` of a word. -/
def bitsOf (w hi lo : Nat) : Nat := w / 2 ^ lo % 2 ^ (hi + 1 - lo)

/-- The bits `hi` to `lo`, as a mask. -/
def bitsAt (hi lo : Nat) : Nat := (2 ^ (hi + 1 - lo) - 1) * 2 ^ lo

namespace SeqW
/-! The fields of an instruction word (R97). -/
def op (w : Nat) : Nat := bitsOf w 63 58
def f1 (w : Nat) : Nat := bitsOf w 57 53
def f2 (w : Nat) : Nat := bitsOf w 52 48
def i (w : Nat) : Bool := w.testBit 47
def gbA (w : Nat) : Nat := bitsOf w 46 42
def target (w : Nat) : Nat := bitsOf w 42 32
def imm (w : Nat) : Nat := bitsOf w 31 0
def tgt (w : Nat) : Nat := bitsOf w 57 46
def cmd (w : Nat) : Nat := bitsOf w 45 42
def areg (w : Nat) : Bool := w.testBit 41
def now (w : Nat) : Bool := w.testBit 40
def dt (w : Nat) : Nat := bitsOf w 39 24
def arg (w : Nat) : Nat := bitsOf w 23 0
def slot (w : Nat) : Nat := bitsOf w 57 45
def base (w : Nat) : Nat := bitsOf w 44 34
def tmo (w : Nat) : Nat := bitsOf w 33 18
def gs (w : Nat) : Nat := bitsOf w 17 13
def gd (w : Nat) : Nat := bitsOf w 12 8
def bit (w : Nat) : Nat := bitsOf w 12 5
/-! The masks of fields used together. -/
def mOp : Nat := bitsAt 47 42 + bitsAt 31 0
def mGD : Nat := bitsAt 57 53
def mGA : Nat := bitsAt 52 48
end SeqW

open SeqW in
/-- The bits below the opcode that an instruction uses; none for a reserved opcode (R97, R99, R100). -/
def seqMask (o : Nat) : Option Nat :=
  match o with
  | 0x00 | 0x38 | 0x3F | 0x16 => some 0
  | 0x01 => some (mGD + bitsAt 31 0)
  | 0x02 | 0x03 | 0x04 | 0x05 | 0x06 | 0x07 | 0x08 => some (mGD + mGA + mOp)
  | 0x10 | 0x15 => some (bitsAt 42 32)
  | 0x11 | 0x12 | 0x13 | 0x14 => some (bitsAt 57 47 + bitsAt 42 0)
  | 0x17 => some (bitsAt 54 53 + mOp)
  | 0x18 => some (bitsAt 54 53 + bitsAt 42 32)
  | 0x20 | 0x21 | 0x22 | 0x25 | 0x34 | 0x39 | 0x3B | 0x3C => some mOp
  | 0x23 | 0x24 => some mGD
  | 0x28 => some (bitsAt 57 0)
  | 0x30 => some (bitsAt 57 13)
  | 0x31 => some (bitsAt 57 45 + bitsAt 17 8)
  | 0x32 => some (mGD + mOp)
  | 0x33 => some (bitsAt 52 18)
  | 0x3A => some (bitsAt 57 45 + bitsAt 12 5)
  | _ => none

/-- An instruction that uses op: where its GB field begins (R97, R99). -/
def seqGb (o : Nat) : Option Nat :=
  match o with
  | 0x11 | 0x12 | 0x13 | 0x14 => some 48
  | 0x02 | 0x03 | 0x04 | 0x05 | 0x06 | 0x07 | 0x08 | 0x17 | 0x20 | 0x21 | 0x22 | 0x25 | 0x32 | 0x34 | 0x39 | 0x3B | 0x3C =>
    some 42
  | _ => none

/-- The rule of R99 for the operand fields: I = 1 leaves GB at 0, I = 0 leaves IMM32 at 0. -/
def seqOpBad (w : Nat) : Bool :=
  match seqGb (SeqW.op w) with
  | some lo => if SeqW.i w then w / 2 ^ lo % 32 != 0 else SeqW.imm w != 0
  | none => false

/-- A word is a program fault by its form alone (R99, R100). -/
def seqBad (w : Nat) : Bool :=
  let o := SeqW.op w
  match seqMask o with
  | none => true
  | some m =>
    w % 2 ^ 58 != w &&& m || seqOpBad w ||
    ((o == 0x23 || o == 0x24) && SeqW.f1 w % 2 == 1) ||
    (o == 0x28 && SeqW.areg w && decide (32 ≤ SeqW.arg w)) ||
    (o == 0x30 && decide (2038 < SeqW.base w))

/-! ### Registers -/

/-- General register `i`. -/
def State.g (s : State) (n i : Nat) : Nat := s.fld (Base.seq n) Reg.Seq.G i

/-- Write general register `i`, modulo 2^32. -/
def State.setG (s : State) (n i v : Nat) : State := s.setFld (Base.seq n) Reg.Seq.G v i

/-- op (R98). -/
def State.op (s : State) (n w : Nat) : Nat :=
  if SeqW.i w then SeqW.imm w else s.g n (w / 2 ^ (seqGb (SeqW.op w)).getD 42 % 32)

/-- The timeline pointer. -/
def State.tp (s : State) (n : Nat) : Nat := (s.seq n).tp

/-- Write the timeline pointer, modulo 2^64. -/
def State.setTp (s : State) (n v : Nat) : State := s.modSeq n fun q => { q with tp := v % 2 ^ 64 }

/-- The instruction at the sequencer's pc. -/
def State.seqWord (s : State) (n : Nat) : Nat :=
  rdLE s.bar2 (0x0240_0000 + 16384 * n + 8 * s.fld (Base.seq n) Reg.Seq.PC) 8

/-! ### Conditions of waits -/

/-- A slot value, or NO_DECISION, is acceptable for a since-stamp (R111, R284). -/
def Slot.accepts (x : Slot) (since : Nat) : Bool :=
  match x.cond with
  | .empty => false
  | .absent => true
  | _ => stampGe x.stamp since

/-- The step in which the sequencer's instruction was dispatched first, `p` when it is dispatched now (R144). -/
def State.dispatched (s : State) (n p : Nat) : Nat := ((s.seq n).restart.map Prod.fst).getD p

/-- The first version of a slot that a BRD accepts of those visible from its dispatch up to its last step and the present one
(R111, R144). -/
def State.brdPick (s : State) (n slot since last p : Nat) : Option Slot :=
  ((s.slotVersions slot (s.dispatched n p) (min p last)).find? fun e => decide (e.1 ≤ last) && e.2.accepts since).map Prod.snd

/-- A firing of the channel after the WAITE's issue is seen by its last step and the present one (R115, R144): one of a timed
command, seen from the step after it, after the step of issue; another one, when it had not occurred at issue. -/
def State.waiteHit (s : State) (n ch last seen p : Nat) : Bool :=
  (s.evch ch).log.any fun e =>
    decide (e.2.2 ≤ min p last) && (if e.2.2 = e.2.1 + 1 then decide (s.dispatched n p < e.2.1) else decide (seen < e.1))

/-- The sequencers that a barrier waits for: enabled members of the group, of one owner (R116). -/
def State.barMembers (s : State) (n k : Nat) : List Nat :=
  (List.range 256).filter fun m =>
    (s.fld (Base.seq m) Reg.Seq.BAR_MASK).testBit k && (s.enabled (Base.seq m) || (s.seq m).issuing) &&
      s.owner (Base.seq m) == s.owner (Base.seq n)

/-- Every member of the group is waiting on it (R116). -/
def State.barMet (s : State) (n k : Nat) : Bool := (s.barMembers n k).all fun m => (s.seq m).wait == .barw k

/-- The step of a POST that enters its queue in step `p` (R105). -/
def postStep (now : Bool) (dt tp p : Nat) : Nat := if now then p + 3 + dt else (tp + dt) % 2 ^ 64

/-- A stalled POST may enter its queue in step `p` (R107, R110). -/
def State.postMay (s : State) (n tgt : Nat) (now : Bool) (dt tp p : Nat) : Bool :=
  decide (postStep now dt tp p ≤ p + s.fld (Base.seq n) Reg.Seq.LOOKAHEAD) &&
    match tgtOf tgt with
    | some t => decide ((s.tgtQueue t).length < t.cap)
    | none => true

/-- The wait's condition is met in step `p`, or its time is over (R142). -/
def State.seqMet (s : State) (n p : Nat) : Bool :=
  match (s.seq n).wait with
  | .none => true
  | .brd slot since _ last => (s.brdPick n slot since last p).isSome || decide (last < p)
  | .waitt til => decide (til ≤ p)
  | .waite ch _ last seen => s.waiteHit n ch last seen p || decide (last < p)
  | .barw k => s.barMet n k
  | .post tgt _ now dt tp => s.postMay n tgt now dt tp p

/-- WAIT_REASON (R134). -/
def State.waitReason (s : State) (n : Nat) : Nat :=
  if (s.seq n).halted then 7
  else
    match (s.seq n).wait with
    | .none => 0
    | .brd _ _ _ _ => 1
    | .waitt _ => 2
    | .waite _ _ _ _ => 3
    | .barw _ => 4
    | .post _ _ now dt tp =>
      if postStep now dt tp s.step0 ≤ s.step0 + s.fld (Base.seq n) Reg.Seq.LOOKAHEAD then 5 else 6

/-! ### Boundaries -/

/-- A partial boundary falls due in step `p` (R143). -/
def State.partialDue (s : State) (n p : Nat) : Bool :=
  let q := s.seq n
  q.wait != .none && q.stall == .none && decide (q.micro < p) && (p - q.micro) % 16 == 0 && !s.seqMet n p

/-- The sequencer stands at a boundary in step `p` (R146, R149). Nothing issues while the count stands, so that a disable
which the loss of REFCLK requests is taken at once (R87, R129; assumption log 61). -/
def State.seqBound (s : State) (n p : Nat) : Bool :=
  let q := s.seq n
  !s.run || q.wait == .none || q.stall != .none || q.micro == p || s.partialDue n p

/-- MICRO_PARTIAL_BOUNDARY (R143): the requests that this boundary samples are taken by the commands that carry them
out. -/
def execMicroPartialBoundary (n : Fin 256) (h : Fin 2) (s : State) : Out :=
  let p := s.stepOf h
  if s.partialDue n p then .next (s.modSeq n fun q => { q with micro := p }) else .next s

/-- MICRO_STEP_LIMIT (R145): 16 steps without a boundary are a program fault. -/
def execMicroStepLimit (n : Fin 256) (h : Fin 2) (s : State) : Out :=
  let p := s.stepOf h
  let q := s.seq n
  if q.wait != .none && q.stall == .none && decide (q.micro + 16 ≤ p) && !s.seqMet n p then finish (s.seqFault n p)
  else .next s

/-- SEQ_IMMEDIATE_DISABLE (R129, R146): a requested immediate disable is taken at a boundary. -/
def execSeqImmediateDisable (n : Fin 256) (h : Fin 2) (s : State) : Out :=
  let p := s.stepOf h
  if (s.seq n).killReq && s.seqBound n p then finish (s.seqKill n p) else .next s

/-! ### Issue -/

/-- The sequencer may dispatch the instruction at its pc in step `p` (R94, R101, R146, R540). -/
def State.seqMay (s : State) (n p : Nat) : Bool :=
  let q := s.seq n
  q.issuing && s.running && s.run && q.wait == .none && q.stall == .none && decide (q.nextStep ≤ p) && !q.killReq &&
    !q.haltReq && !q.stepped && (!q.halted || q.stepping) &&
    (q.pass || (s.bpAt n (s.fld (Base.seq n) Reg.Seq.PC)).isNone)

/-- The instruction at the pc fails its parity: the fetch stalls (R33, R133). -/
def State.seqParity (s : State) (n : Nat) : State :=
  let b := Base.seq n
  let pc := s.fld b Reg.Seq.PC
  (((s.err b 0x10 pc).raise b 7).modSeq n fun q => { q with stall := .program pc }).refetch
    (shadowAt (0x0240_0000 + 16384 * n + 8 * pc))

/-! ### The control store -/

/-- A control word with its check bits (R135). -/
def csProtect (w : BitVec 192) : BitVec 208 := BitVec.ofNat 16 (crc16 0x1021 0xFFFF (bytesLE w.toNat 24)) ++ w

/-- A stored control word agrees with its check bits (R135). -/
def csGood (x : BitVec 208) : Bool := csProtect (x.setWidth 192) == x

/-- What a copy holds before an image is loaded: zero words, protected. -/
def cs0 : Nat → BitVec 208 := fun _ => csProtect 0

/-- Word `a` of cluster `k`'s copy of the control store. -/
def State.csWord (s : State) (k a : Nat) : BitVec 208 := SMap.get cs0 s.cs (k * 4096 + a)

/-- Write a word of cluster `k`'s copy. -/
def State.setCs (s : State) (k a : Nat) (x : BitVec 208) : State := { s with cs := SMap.set cs0 s.cs (k * 4096 + a) x }

/-- Word `a` of cluster `k`'s copy has been upset: its check bits no longer agree. -/
def State.csUpset (s : State) (k a : Nat) : State :=
  if csGood (s.csWord k a) then s.setCs k a (s.csWord k a ^^^ (0xFFFF#16 ++ 0#192)) else s

/-- Where the routine of an instruction comes to from its dispatch entry. -/
inductive CsEnd where
  /-- A word fails its check. -/
  | bad (a : Nat)
  /-- FAULT, or 16 steps without a boundary. -/
  | fault
  /-- RETIRE, PARTIAL, or a word whose action rests on a condition. -/
  | go
deriving DecidableEq, Repr

/-- The words that a routine executes from word `a` on, in core cycle `cyc` since its dispatch, as far as their sequencing
actions alone decide it (R139, R145). The spec gives no coding of TEST and of the operation slots: where the words come to a
RETIRE, a PARTIAL, a BRANCH or a WAIT, the instruction has the effect of R100 (assumption log 63). -/
def State.csWalk (s : State) (k : Nat) : Nat → Nat → Nat → CsEnd
  | 0, _, _ => .fault
  | f + 1, a, cyc =>
    if 32 ≤ cyc then .fault
    else
      let x := s.csWord k a
      if csGood x = false then .bad a
      else
        match x.toNat / 2 ^ 176 % 16 with
        | 0 => s.csWalk k f ((a + 1) % 4096) (cyc + 1)
        | 1 => s.csWalk k f (x.toNat / 2 ^ 180 % 4096) (cyc + 1)
        | 6 => .fault
        | 7 => s.csWalk k f ((a + 1) % 4096) (cyc / 2 * 2 + 2)
        | _ => .go

/-- The routine of opcode `o` in cluster `k`'s copy, from its dispatch entry (R136, R140). -/
def State.csEnd (s : State) (k o : Nat) : CsEnd := s.csWalk k 33 o 0

/-- Control-store word `a` of the sequencer's cluster fails its CRC: the sequencer stalls and the word is fetched again
(R147). -/
def State.csDetect (s : State) (n a p : Nat) : State :=
  let key := n / 16 * 4096 + a
  let s := s.modSeq n fun q => { q with stall := .control a, stalledAt := p }
  if s.loader.refetch.contains key then s
  else
    let slot := s.fld Base.sec Reg.Sec.CL_SLOT / 2 ^ (n / 16) % 2
    let s := ((s.err Base.sec 0x10 key).inc Base.sec Reg.Sec.CS_DETECT_COUNT).raise Base.sec 11
    { s with loader := { s.loader with refetch := s.loader.refetch ++ [key] } }.refetch (imageAt slot a)

/-- The instruction is dispatched in step `p` (R94, R144, R145, R540). -/
def State.seqDispatch (s : State) (n p : Nat) : State :=
  s.modSeq n fun q => { q with micro := p, stepped := q.stepping, stepping := false, fresh := false }

/-- The instruction retires in step `p`: the next one, at `pc`, issues `lag` steps later (R101, R141). -/
def State.seqRetire (s : State) (n p pc : Nat) (lag : Nat := 1) : State :=
  (s.setFld (Base.seq n) Reg.Seq.PC pc).modSeq n fun q =>
    { q with wait := .none, restart := none, nextStep := p + lag, pass := false }

/-- What one instruction leads to. -/
inductive SeqStep where
  /-- It retires; the next instruction follows. -/
  | next (s : State)
  /-- It retires; the instruction at `pc` follows. -/
  | jump (s : State) (pc : Nat)
  /-- It waits. -/
  | wait (s : State) (w : SeqWait)
  /-- Issue stops, or the instruction is held back: nothing more happens. -/
  | stay (s : State)
  /-- A program fault. -/
  | fault

/-- The routine of a waiting instruction reads its WAIT word in this step (R142). -/
def State.waitReads (s : State) (n : Nat) : Bool :=
  s.running && s.run && (s.seq n).wait != .none && (s.seq n).stall == .none

/-- Sequencer `n` issues the instruction at its pc in half `h` of the count, when it can and when that instruction has
opcode `o`; a word that is a program fault is one whichever row issues it (R100 to R102, R140). A control word that fails its
check is detected first, at dispatch or by a waiting routine (R147). The body gets the state, the word and the step. -/
def State.seqIssue (s : State) (n h o : Nat) (q : Fetch) (body : State → Nat → Nat → SeqStep) : Out :=
  let p := s.stepOf h
  if !s.seqMay n p then
    match q with
    | .csCrc a => if s.waitReads n then finish ((s.csUpset (n / 16) a).csDetect n a p) else .next s
    | _ => .next s
  else
    match q with
    | .progParity => finish (s.seqParity n)
    | .csCrc a => finish ((s.csUpset (n / 16) a).csDetect n a p)
    | .ok =>
      let w := s.seqWord n
      match s.csEnd (n / 16) (SeqW.op w) with
      | .bad a => finish (s.csDetect n a p)
      | .fault => finish (s.seqFault n p)
      | .go =>
        if seqBad w then finish (s.seqFault n p)
        else if SeqW.op w ≠ o then .next s
        else
          let pc := s.fld (Base.seq n) Reg.Seq.PC
          let d := s.seqDispatch n p
          match body d w p with
          | .next t => finish (t.seqRetire n p ((pc + 1) % 2048))
          | .jump t pc => finish (t.seqRetire n p pc)
          | .wait t w =>
            let seen := match w with
              | .waite _ _ _ k => k
              | _ => 0
            finish (t.modSeq n fun q => { q with wait := w, restart := some (q.restart.getD (p, seen)), pass := false })
          | .stay t => finish t
          | .fault => finish (s.seqFault n p)

/-! ### Arithmetic -/

/-- An instruction that writes g[GD] from g[GA] and op. -/
def State.seqAlu (s : State) (n h o : Nat) (q : Fetch) (f : Nat → Nat → Nat) : Out :=
  s.seqIssue n h o q fun s w _ => .next (s.setG n (SeqW.f1 w) (f (s.g n (SeqW.f2 w)) (s.op n w)))

/-- SEQ_NOP (R100). -/
def execSeqNop (n : Fin 256) (h : Fin 2) (q : Fetch) (s : State) : Out := s.seqIssue n h 0x00 q fun s _ _ => .next s

/-- SEQ_MOVI (R100). -/
def execSeqMovi (n : Fin 256) (h : Fin 2) (q : Fetch) (s : State) : Out :=
  s.seqIssue n h 0x01 q fun s w _ => .next (s.setG n (SeqW.f1 w) (SeqW.imm w))

/-- SEQ_ADD (R98, R100). -/
def execSeqAdd (n : Fin 256) (h : Fin 2) (q : Fetch) (s : State) : Out := s.seqAlu n h 0x02 q fun a b => a + b

/-- SEQ_SUB (R98, R100). -/
def execSeqSub (n : Fin 256) (h : Fin 2) (q : Fetch) (s : State) : Out := s.seqAlu n h 0x03 q fun a b => a + 2 ^ 32 - b

/-- SEQ_AND (R100). -/
def execSeqAnd (n : Fin 256) (h : Fin 2) (q : Fetch) (s : State) : Out := s.seqAlu n h 0x04 q fun a b => a &&& b

/-- SEQ_OR (R100). -/
def execSeqOr (n : Fin 256) (h : Fin 2) (q : Fetch) (s : State) : Out := s.seqAlu n h 0x05 q fun a b => a ||| b

/-- SEQ_XOR (R100). -/
def execSeqXor (n : Fin 256) (h : Fin 2) (q : Fetch) (s : State) : Out := s.seqAlu n h 0x06 q fun a b => a ^^^ b

/-- SEQ_SHL (R99, R100). -/
def execSeqShl (n : Fin 256) (h : Fin 2) (q : Fetch) (s : State) : Out := s.seqAlu n h 0x07 q fun a b => a * 2 ^ (b % 32)

/-- SEQ_SHR (R99, R100). -/
def execSeqShr (n : Fin 256) (h : Fin 2) (q : Fetch) (s : State) : Out := s.seqAlu n h 0x08 q fun a b => a / 2 ^ (b % 32)

/-- SEQ_LDF (R100): Pauli-frame word op[3:0]. -/
def execSeqLdf (n : Fin 256) (h : Fin 2) (q : Fetch) (s : State) : Out :=
  s.seqIssue n h 0x32 q fun s w p => .next (s.setG n (SeqW.f1 w) (s.frameWord (s.op n w % 16) p).toNat)

/-! ### Branches and loops -/

/-- A branch that compares g[GA] and op. -/
def State.seqBranch (s : State) (n h o : Nat) (q : Fetch) (c : Nat → Nat → Bool) : Out :=
  s.seqIssue n h o q fun s w _ =>
    if c (s.g n (SeqW.f1 w)) (s.op n w) then .jump s (SeqW.target w) else .next s

/-- SEQ_JMP (R100). -/
def execSeqJmp (n : Fin 256) (h : Fin 2) (q : Fetch) (s : State) : Out :=
  s.seqIssue n h 0x10 q fun s w _ => .jump s (SeqW.target w)

/-- SEQ_BEQ (R100). -/
def execSeqBeq (n : Fin 256) (h : Fin 2) (q : Fetch) (s : State) : Out := s.seqBranch n h 0x11 q fun a b => a == b

/-- SEQ_BNE (R100). -/
def execSeqBne (n : Fin 256) (h : Fin 2) (q : Fetch) (s : State) : Out := s.seqBranch n h 0x12 q fun a b => a != b

/-- SEQ_BLT (R98, R100): unsigned. -/
def execSeqBlt (n : Fin 256) (h : Fin 2) (q : Fetch) (s : State) : Out := s.seqBranch n h 0x13 q fun a b => decide (a < b)

/-- SEQ_BGE (R98, R100): unsigned. -/
def execSeqBge (n : Fin 256) (h : Fin 2) (q : Fetch) (s : State) : Out := s.seqBranch n h 0x14 q fun a b => decide (b ≤ a)

/-- SEQ_CALL (R100): a full return stack is a program fault. -/
def execSeqCall (n : Fin 256) (h : Fin 2) (q : Fetch) (s : State) : Out :=
  s.seqIssue n h 0x15 q fun s w _ =>
    if 8 ≤ (s.seq n).stack.length then .fault
    else
      let back := (s.fld (Base.seq n) Reg.Seq.PC + 1) % 2048
      .jump (s.modSeq n fun q => { q with stack := back :: q.stack }) (SeqW.target w)

/-- SEQ_RET (R100): an empty return stack is a program fault. -/
def execSeqRet (n : Fin 256) (h : Fin 2) (q : Fetch) (s : State) : Out :=
  s.seqIssue n h 0x16 q fun s _ _ =>
    match (s.seq n).stack with
    | [] => .fault
    | a :: as => .jump (s.modSeq n fun q => { q with stack := as }) a

/-- SEQ_LCSET (R99, R100). -/
def execSeqLcset (n : Fin 256) (h : Fin 2) (q : Fetch) (s : State) : Out :=
  s.seqIssue n h 0x17 q fun s w _ => .next (s.setFld (Base.seq n) Reg.Seq.LC (s.op n w) (SeqW.f1 w % 4))

/-- SEQ_DJNZ (R100). -/
def execSeqDjnz (n : Fin 256) (h : Fin 2) (q : Fetch) (s : State) : Out :=
  s.seqIssue n h 0x18 q fun s w _ =>
    let j := SeqW.f1 w % 4
    let v := (s.fld (Base.seq n) Reg.Seq.LC j + 0xFF_FFFF) % 0x100_0000
    let s := s.setFld (Base.seq n) Reg.Seq.LC v j
    if v ≠ 0 then .jump s (SeqW.target w) else .next s

/-! ### The timeline pointer -/

/-- A step index rounded up to an even one. -/
def evenUp (k : Nat) : Nat := (k + 1) / 2 * 2

/-- SEQ_TPNOW (R100). -/
def execSeqTpnow (n : Fin 256) (h : Fin 2) (q : Fetch) (s : State) : Out :=
  s.seqIssue n h 0x20 q fun s w p => .next (s.setTp n (evenUp (p + s.op n w)))

/-- SEQ_TPADD (R100). -/
def execSeqTpadd (n : Fin 256) (h : Fin 2) (q : Fetch) (s : State) : Out :=
  s.seqIssue n h 0x21 q fun s w _ => .next (s.setTp n (s.tp n + s.op n w))

/-- SEQ_TPALN (R100): k outside 1 to 20 is a program fault. -/
def execSeqTpaln (n : Fin 256) (h : Fin 2) (q : Fetch) (s : State) : Out :=
  s.seqIssue n h 0x22 q fun s w _ =>
    let k := s.op n w % 32
    if 1 ≤ k ∧ k ≤ 20 then .next (s.setTp n ((s.tp n + 2 ^ k - 1) / 2 ^ k * 2 ^ k)) else .fault

/-- An instruction that writes a 64-bit value into a register pair. -/
def State.setPair (s : State) (n i v : Nat) : State := (s.setG n i v).setG n (i + 1) (v / 2 ^ 32)

/-- SEQ_TPRD (R100). -/
def execSeqTprd (n : Fin 256) (h : Fin 2) (q : Fetch) (s : State) : Out :=
  s.seqIssue n h 0x23 q fun s w _ => .next (s.setPair n (SeqW.f1 w) (s.tp n))

/-- SEQ_RDNOW (R100). -/
def execSeqRdnow (n : Fin 256) (h : Fin 2) (q : Fetch) (s : State) : Out :=
  s.seqIssue n h 0x24 q fun s w p => .next (s.setPair n (SeqW.f1 w) p)

/-- SEQ_WAITT (R100, R101): it retires at once when its step has come. -/
def execSeqWaitt (n : Fin 256) (h : Fin 2) (q : Fetch) (s : State) : Out :=
  s.seqIssue n h 0x25 q fun s w p =>
    let k := s.tp n + s.op n w
    if k ≤ p then .next s else .wait s (.waitt k)

/-- A waiting instruction may retire: the sequencer runs and does not stand in a re-fetch (R94, R142, R147). -/
def State.waitRuns (s : State) (n : Nat) : Bool := s.running && s.run && (s.seq n).stall == .none

/-- The waiting instruction retires in step `p` with the next instruction. -/
def State.waitOver (s : State) (n p : Nat) : State := s.seqRetire n p ((s.fld (Base.seq n) Reg.Seq.PC + 1) % 2048)

/-- WAITT_EXPIRY (R101). -/
def execWaittExpiry (n : Fin 256) (h : Fin 2) (s : State) : Out :=
  let p := s.stepOf h
  match (s.seq n).wait with
  | .waitt k => if s.waitRuns n ∧ k ≤ p then finish (s.waitOver n p) else .next s
  | _ => .next s

/-! ### Timed commands -/

/-- Command `d` reaches the queue in the same step as `c` and enters it after `c`: its sequencer has the higher number (R108). -/
def TCmd.follows (c d : TCmd) : Bool := d.entry == c.entry && decide (c.poster < d.poster)

/-- Commands enter a queue in order; one whose step is earlier than that of the last command there does not (R109). The queue,
and the commands that did not enter it. -/
def enterAll (q cs : List TCmd) : List TCmd × List TCmd :=
  cs.foldl (fun r c =>
    if r.1.getLast?.any fun d => decide (c.step < d.step) then (r.1, r.2 ++ [c]) else (r.1 ++ [c], r.2)) (q, [])

/-- The command enters its queue in step `p`, or is judged there (R105, R106, R109): before the commands of sequencers with higher
numbers that entered it in the same step, which are judged again after it (R108; assumption log 4). -/
def State.postEnter (s : State) (n tgt : Nat) (t : Tgt) (c : TCmd) (p : Nat) : State :=
  if c.step < p + 3 then
    ((s.inc (Base.seq n) Reg.Seq.LATE_COUNT).raise (Base.seq n) 1).charge c.tag Flag.LATE
  else
    let c := { c with entry := p }
    let q := s.tgtQueue t
    let r := enterAll (q.filter fun d => !c.follows d) (c :: q.filter c.follows)
    r.2.foldl (fun s d => s.refuseCmd d.poster 0x13 tgt d.tag) (s.modQueue t fun _ => r.1)

/-- SEQ_POST (R103 to R110, R119); under a function-level reset of the owner the command is discarded (R412). -/
def execSeqPost (n : Fin 256) (h : Fin 2) (q : Fetch) (s : State) : Out :=
  s.seqIssue n h 0x28 q fun s w p =>
    let tgt := SeqW.tgt w
    let tag := s.openTag n
    let arg := if SeqW.areg w then s.g n (SeqW.arg w % 32) % 2 ^ 24 else SeqW.arg w
    match tgtOf tgt with
    | none => .next (s.refuseCmd n 0x15 tgt tag)
    | some t =>
      if s.seqFlr n then .next (s.inc (Base.seq n) Reg.Seq.TRUNC_COUNT)
      else if t.codes ≤ SeqW.cmd w then .next (s.refuseCmd n 0x15 tgt tag)
      else if s.owner t.page ≠ s.owner (Base.seq n) then .next (s.refuseCmd n 0x12 tgt tag)
      else
        let c : TCmd := ⟨postStep (SeqW.now w) (SeqW.dt w) (s.tp n) p, n, tag, SeqW.cmd w, arg, p⟩
        if s.postMay n tgt (SeqW.now w) (SeqW.dt w) (s.tp n) p then .next (s.postEnter n tgt t c p)
        else .wait s (.post tgt c (SeqW.now w) (SeqW.dt w) (s.tp n))

/-- POST_QUEUE_ENTRY (R105, R107, R110). -/
def execPostQueueEntry (n : Fin 256) (h : Fin 2) (s : State) : Out :=
  let p := s.stepOf h
  match (s.seq n).wait with
  | .post tgt c now dt tp =>
    if s.waitRuns n && s.postMay n tgt now dt tp p then
      match tgtOf tgt with
      | some t => finish ((s.postEnter n tgt t { c with step := postStep now dt tp p } p).waitOver n p)
      | none => .next s
    else .next s
  | _ => .next s

/-! ### Decisions -/

/-- A sequencer of owner `f` may name the slot at mesh address `a` (R288). -/
def State.slotMay (s : State) (f a : Nat) : Bool :=
  if s.slotLocal a then
    let k := a % 256
    let num := s.fld Base.dec Reg.Dec.SRC_NUM k
    match s.fld Base.dec Reg.Dec.SRC_KIND k with
    | 0 => true
    | 1 => s.owner (Base.rout num) == f
    | 2 => s.owner (Base.lane num) == f
    | _ => s.owner Base.syn == f
  else decide (f < 64) && (s.fld64 Base.dec Reg.Dec.MESH_FN_LO Reg.Dec.MESH_FN_HI).testBit f

/-- A value or NO_DECISION is accepted from a slot (R111, R113, R114): the open shot remembers it. -/
def State.acceptSlot (s : State) (n slot : Nat) (x : Slot) : State :=
  match x.cond with
  | .value v _ => s.modOpen n fun x => { x with accepted := (slot, some v) :: x.accepted }
  | _ => s.modOpen n fun x => { x.flag Flag.NO_DECISION with accepted := (slot, none) :: x.accepted }

/-- The arm that an acceptable slot selects (R111). -/
def Slot.arm (x : Slot) (base : Nat) : Nat :=
  match x.cond with
  | .value v _ => base + 2 * v
  | _ => base + 8

/-- The timeout of a BRD (R111). -/
def State.decTimeout (s : State) (n : Nat) : State :=
  ((s.inc (Base.seq n) Reg.Seq.TIMEOUT_COUNT).raise (Base.seq n) 3).flagOpen n Flag.DEC_TIMEOUT

/-- SEQ_BRD (R111, R112, R288). -/
def execSeqBrd (n : Fin 256) (h : Fin 2) (q : Fetch) (s : State) : Out :=
  s.seqIssue n h 0x30 q fun s w p =>
    let slot := SeqW.slot w
    let base := SeqW.base w
    let since := s.g n (SeqW.gs w)
    let last := s.tp n + SeqW.tmo w
    if !s.slotMay (s.owner (Base.seq n)) slot then .fault
    else
      match s.brdPick n slot since last p with
      | some x => .jump (s.acceptSlot n slot x) (x.arm base)
      | none => if last < p then .jump (s.decTimeout n) (base + 8) else .wait s (.brd slot since base last)

/-- BRD_ACCEPT (R111). -/
def execBrdAccept (n : Fin 256) (h : Fin 2) (s : State) : Out :=
  let p := s.stepOf h
  match (s.seq n).wait with
  | .brd slot since base last =>
    match s.brdPick n slot since last p with
    | some x => if s.waitRuns n then finish ((s.acceptSlot n slot x).seqRetire n p (x.arm base)) else .next s
    | none => .next s
  | _ => .next s

/-- DEC_TIMEOUT (R111). -/
def execDecTimeout (n : Fin 256) (h : Fin 2) (s : State) : Out :=
  let p := s.stepOf h
  match (s.seq n).wait with
  | .brd slot since base last =>
    if s.waitRuns n ∧ last < p ∧ (s.brdPick n slot since last p).isNone then
      finish ((s.decTimeout n).seqRetire n p (base + 8))
    else .next s
  | _ => .next s

/-- What LDD reads from a slot (R113). With ACCEPT = 0 the other fields are those of the value held, whose stamp is too early
(DESIGN CHOICE, assumption log 55: the spec does not say what they read). -/
def Slot.reading (x : Slot) (since : Nat) : Nat :=
  let nodec := match x.cond with
    | .nodec => true
    | .absent => true
    | _ => false
  let body := match x.cond with
    | .value st cf => cf % 256 * 4 + st % 4
    | .nodec => x.raw.2 % 256 * 4 + x.raw.1 % 4
    | _ => 0
  2 ^ 31 * (x.accepts since).toNat + 2 ^ 30 * nodec.toNat + body

/-- SEQ_LDD (R113, R288). -/
def execSeqLdd (n : Fin 256) (h : Fin 2) (q : Fetch) (s : State) : Out :=
  s.seqIssue n h 0x31 q fun s w p =>
    let slot := SeqW.slot w
    let since := s.g n (SeqW.gs w)
    let x := s.slotSeen slot p
    if !s.slotMay (s.owner (Base.seq n)) slot then .fault
    else
      let t := if x.accepts since then s.acceptSlot n slot x else s
      .next (t.setG n (SeqW.gd w) (x.reading since))

/-- RECD in the open shot (R114). -/
def Shot.record (x : Shot) (slot bit : Nat) : Shot :=
  let one := BitVec.ofNat 256 (2 ^ bit)
  let clear := x.bitmap &&& ~~~ one
  match x.accepted.find? fun e => e.1 == slot with
  | none => { x.flag Flag.NO_DECISION with bitmap := clear }
  | some (_, none) => { x with bitmap := clear }
  | some (_, some v) =>
    let y := { x with bitmap := if v = 1 then x.bitmap ||| one else clear }
    if 2 ≤ v then y.flag Flag.LEAKAGE else y

/-- SEQ_RECD (R114, R288). -/
def execSeqRecd (n : Fin 256) (h : Fin 2) (q : Fetch) (s : State) : Out :=
  s.seqIssue n h 0x3A q fun s w _ =>
    if !s.slotMay (s.owner (Base.seq n)) (SeqW.slot w) then .fault
    else .next (s.modOpen n fun x => x.record (SeqW.slot w) (SeqW.bit w))

/-! ### Events and barriers -/

/-- SEQ_WAITE (R115): a channel of another function is a program fault. -/
def execSeqWaite (n : Fin 256) (h : Fin 2) (q : Fetch) (s : State) : Out :=
  s.seqIssue n h 0x33 q fun s w p =>
    let ch := bitsOf w 52 45
    let last := s.tp n + SeqW.tmo w
    let seen := match (s.seq n).restart with
      | some (_, k) => k
      | none => (s.evch ch).fires
    if s.owner (evgPage ch) ≠ s.owner (Base.seq n) then .fault
    else if s.waiteHit n ch last seen p then .next s
    else if last < p then .jump s (SeqW.base w)
    else .wait s (.waite ch (SeqW.base w) last seen)

/-- WAITE_RELEASE (R115). -/
def execWaiteRelease (n : Fin 256) (h : Fin 2) (s : State) : Out :=
  let p := s.stepOf h
  match (s.seq n).wait with
  | .waite ch _ last seen =>
    if s.waitRuns n && s.waiteHit n ch last seen p then finish (s.waitOver n p) else .next s
  | _ => .next s

/-- WAITE_TIMEOUT (R115). -/
def execWaiteTimeout (n : Fin 256) (h : Fin 2) (s : State) : Out :=
  let p := s.stepOf h
  match (s.seq n).wait with
  | .waite ch base last seen =>
    if s.waitRuns n ∧ last < p ∧ s.waiteHit n ch last seen p = false then finish (s.seqRetire n p base) else .next s
  | _ => .next s

/-- SEQ_BARW (R116): a sequencer that is not a member goes on two steps later. -/
def execSeqBarw (n : Fin 256) (h : Fin 2) (q : Fetch) (s : State) : Out :=
  s.seqIssue n h 0x34 q fun s w p =>
    let k := s.op n w % 32
    if (s.fld (Base.seq n) Reg.Seq.BAR_MASK).testBit k then .wait s (.barw k)
    else .stay (s.seqRetire n p ((s.fld (Base.seq n) Reg.Seq.PC + 1) % 2048) 2)

/-- BARRIER_RELEASE (R116): all waiting members issue two steps later. -/
def execBarrierRelease (n : Fin 256) (h : Fin 2) (s : State) : Out :=
  let p := s.stepOf h
  match (s.seq n).wait with
  | .barw k =>
    if s.waitRuns n && s.barMet n k then
      finish ((s.barMembers n k).foldl
        (fun t m => t.seqRetire m p ((t.fld (Base.seq m) Reg.Seq.PC + 1) % 2048) 2) s)
    else .next s
  | _ => .next s

/-! ### Shots -/

/-- The shot counter. -/
def State.shotCount (s : State) (n : Nat) : Nat := s.fld64 (Base.seq n) Reg.Seq.SHOT_LO Reg.Seq.SHOT_HI

/-- A shot with its number, start and first flags (R117). -/
def mkShot (num start : Nat) (nt : Option Nat) (flags : BitVec 16) : Shot where
  num := num
  start := start
  boundary := none
  nt := nt
  flags := flags
  bitmap := 0
  user := 0
  accepted := []
  tiles := 0
  skew := []
  aborted := false

/-- A shot that opens after its start sees the conditions that its tiles have had since (R42, R121). -/
def State.seesOpen (s : State) (x : Shot) : Shot :=
  (List.range 8).foldl (fun x t =>
    if s.stat (Base.tile t) 1 then x.seesNow t s.count else x.sees t ((s.tile t).condEnd - 1)) x

/-- Open a shot at tp, already rounded, with the pauses that apply (R117, R125, R132, R490). -/
def State.openShot (s : State) (n : Nat) : State :=
  let q := s.seq n
  let due := q.pauses.filter fun e => decide (e.1 ≤ q.tp)
  let start := (q.tp + (due.map Prod.snd).sum) % 2 ^ 64
  let num := s.shotCount n
  let thr : BitVec 16 := if due.isEmpty then 0 else BitVec.ofNat 16 (2 ^ Flag.THROTTLED)
  let han : BitVec 16 := if q.handed then BitVec.ofNat 16 (2 ^ Flag.HANDOVER) else 0
  let nt := if start / 2 ≤ s.count then some (s.ntAt (start / 2)) else none
  (s.setFld64 (Base.seq n) Reg.Seq.SHOT_LO Reg.Seq.SHOT_HI ((num + 1) % 2 ^ 64)).modSeq n fun q =>
    { q with
      tp := start, shots := q.shots ++ [s.seesOpen (mkShot num start nt (thr ||| han))], isOpen := true, handed := false
      pauses := q.pauses.filter fun e => !decide (e.1 ≤ q.tp) }

/-- Issue stops: the sequencer is ending (R127, R128). -/
def State.seqEnd (s : State) (n : Nat) : State :=
  s.modSeq n fun q => { q with issuing := false, ending := true, stopReq := false, stepped := false, stepping := false }

/-- ENDS at step `k`: the open shot is closed, and tp is set to the boundary (R118). -/
def State.endShot (s : State) (n k : Nat) : State := (s.closeShot n k).setTp n (s.boundAt n k)

/-- SEQ_SHOT (R117, R128, R131): a pending normal disable stops issue before it; a pending hand-over holds it back. -/
def execSeqShot (n : Fin 256) (h : Fin 2) (q : Fetch) (s : State) : Out :=
  if (s.seq n).handTo.isSome then .next s
  else
    s.seqIssue n h 0x38 q fun s _ _ =>
      let s := s.endShot n (s.tp n)
      if (s.seq n).stopReq then .stay (s.seqEnd n)
      else .next ((s.setTp n (evenUp (s.tp n))).openShot n)

/-- SEQ_ENDS (R100, R118). -/
def execSeqEnds (n : Fin 256) (h : Fin 2) (q : Fetch) (s : State) : Out :=
  s.seqIssue n h 0x39 q fun s w _ =>
    .next (s.endShot n ((s.tp n + s.op n w) % 2 ^ 64))

/-- SEQ_USRW (R100). -/
def execSeqUsrw (n : Fin 256) (h : Fin 2) (q : Fetch) (s : State) : Out :=
  s.seqIssue n h 0x3B q fun s w _ => .next (s.modOpen n fun x => { x with user := BitVec.ofNat 32 (s.op n w) })

/-- SEQ_SIG (R100). -/
def execSeqSig (n : Fin 256) (h : Fin 2) (q : Fetch) (s : State) : Out :=
  s.seqIssue n h 0x3C q fun s w _ =>
    .next ((s.setFld (Base.seq n) Reg.Seq.SIG_CODE (s.op n w)).raise (Base.seq n) 5)

/-- SEQ_STOP (R127). A hand-over that is still pending stays so, with GO set, until a SHOT of a later run
(DESIGN CHOICE, assumption log 55: the spec gives no such case). -/
def execSeqStop (n : Fin 256) (h : Fin 2) (q : Fetch) (s : State) : Out :=
  s.seqIssue n h 0x3F q fun s _ p =>
    .stay (((s.endShot n (s.tp n)).seqRetire n p ((s.fld (Base.seq n) Reg.Seq.PC + 1) % 2048)).seqEnd n)

/-! ### Hand-over -/

/-- The state that a hand-over copies (R131, R132). -/
def State.handCopy (s : State) (n d p : Nat) : State :=
  let b := Base.seq n
  let e := Base.seq d
  let q := s.seq n
  let s := (List.range 32).foldl (fun s i => s.setG d i (s.g n i)) s
  let s := (List.range 4).foldl (fun s j => s.setFld e Reg.Seq.LC (s.fld b Reg.Seq.LC j) j) s
  let s := (s.setFld e Reg.Seq.PC (s.fld b Reg.Seq.PC)).setFld64 e Reg.Seq.SHOT_LO Reg.Seq.SHOT_HI (s.shotCount n)
  let s := (s.setEnable e true).modSeq d fun x =>
    { x with
      tp := q.tp, stack := q.stack, issuing := true, fresh := false, nextStep := p + 1, wait := .none, restart := none, stall := .none
      stopReq := false, handed := true, halted := false, stepping := false, stepped := false, pass := false }
  let s := (s.setFld b Reg.Seq.DONE 1).setFld b Reg.Seq.GO 0
  let s := ((s.setEnable b false).modSeq n fun x => { x with handTo := none }).seqEnd n
  (s.raise b 6).raise e 6

/-- HANDOVER_COPY (R131): the source stands before a SHOT. A destination that no longer meets R130 refuses the hand-over (DESIGN
CHOICE, assumption log 55: the spec judges it at the request only). -/
def execHandoverCopy (n : Fin 256) (h : Fin 2) (s : State) : Out :=
  let p := s.stepOf h
  match (s.seq n).handTo with
  | some d =>
    if s.seqMay n p ∧ SeqW.op (s.seqWord n) = 0x38 ∧ seqBad (s.seqWord n) = false then
      finish (if s.handOk n d then (s.endShot n (s.tp n)).handCopy n d p else s.handRefuse n d)
    else .next s
  | none => .next s

/-! ### Re-fetches -/

/-- The sequencers of cluster `k`. -/
def clusterSeqs (k : Nat) : List Nat := (List.range 16).map fun i => 16 * k + i

/-- CS_REFETCH_COMPLETE (R147, R150): `good` says that the word passes its check on the first read after write-back. -/
def execCsRefetchComplete (k : Fin 16) (a : Fin 4096) (good : Bool) (s : State) : Out :=
  let key := k.val * 4096 + a.val
  let slot := s.fld Base.sec Reg.Sec.CL_SLOT / 2 ^ k.val % 2
  if s.frozen || !s.loader.refetch.contains key || s.refetchOut (imageAt slot a) then .next s
  else
    let s := { s with
      loader := { s.loader with refetch := s.loader.refetch.erase key } }
    let s := s.setCs k a (csProtect (SMap.get (fun _ => 0#192) s.csImage (slot * 4096 + a)))
    if good then
      finish ((clusterSeqs k).foldl (fun s n =>
        if (s.seq n).stall = .control a then
          s.modSeq n fun q => { q with stall := .none, micro := q.micro + (s.step0 - q.stalledAt) }
        else s) s)
    else
      let s := ((((s.csUpset k a).err Base.sec 0x10 key).inc Base.sec Reg.Sec.CS_DETECT_COUNT).raise Base.sec 11)
      let s := (s.setFld Base.sec Reg.Sec.CL_FAIL (s.fld Base.sec Reg.Sec.CL_FAIL ||| 2 ^ k.val)).raise Base.sec 10
      finish ((clusterSeqs k).foldl (fun s n => s.seqKillReq n) s)

/-- PROGRAM_REFETCH_COMPLETE (R33, R37). -/
def execProgramRefetchComplete (n : Fin 256) (s : State) : Out :=
  match (s.seq n).stall with
  | .program pc =>
    if s.frozen || s.refetchOut (shadowAt (0x0240_0000 + 16384 * n + 8 * pc)) then .next s
    else finish (s.modSeq n fun q => { q with stall := .none })
  | _ => .next s

/-! ### Debug halts -/

/-- The reason for which the sequencer halts in step `p`, and the breakpoint number (R539, R540). -/
def State.haltReason (s : State) (n p : Nat) : Option (Nat × Nat) :=
  let q := s.seq n
  if !q.issuing || q.killReq || !s.seqBound n p then none
  else if q.haltReq then some (1, 0)
  else if q.stepped then some (2, 0)
  else if q.wait == .none && !q.pass && !q.halted then
    (s.bpAt n (s.fld (Base.seq n) Reg.Seq.PC)).map fun k => (3, k)
  else none

/-- The plays that the sequencer's commands started end at their own boundaries, as for STOP (R540). -/
def State.haltPlays (s : State) (n p : Nat) : State :=
  let mine (x : Option Play) : Bool := x.any fun x => x.poster == n
  let ts := (s.tones.filter fun e => mine e.2.play).map Prod.fst
  let fs := (s.fluxes.filter fun e => mine e.2.play).map Prod.fst
  let s := ts.foldl (fun s k => (s.toneEnd k p).modTone k fun x => { x with stop := true }) s
  fs.foldl (fun s k => (s.fluxEnd k).modFlux k fun x => { x with stop := true }) s

/-- The sequencer halts in step `p` (R540): a waiting instruction is abandoned and keeps its restart word. -/
def State.seqHalt (s : State) (n p reason bp : Nat) : State :=
  let s := (s.modOpen n fun x => x.flag Flag.SPOILED).haltPlays n p
  let s := s.modSeq n fun q =>
    { q with wait := .none, stall := .none, haltReq := false, halted := true, stepping := false, stepped := false }
  s.noteHalt n reason bp

end Sys2Proof.Machine
end

