-- ==== Sys2Proof/Machine/Loader.lean ====
section
/-!
DEFINITION. Chapter 05: microcode images, their verification and their application to clusters (R151 to R157).
-/
namespace Sys2Proof.Machine

/-! ### Images -/

/-- Where the image that MCL_ADDR names stands, in the physical function's address space (R153). -/
def State.imgBase (s : State) : Nat := s.fld64 Base.sec Reg.Sec.MCL_ADDR_LO Reg.Sec.MCL_ADDR_HI

/-- A field of `k` bytes at offset `o` of that image (R151). -/
def State.imgField (s : State) (o k : Nat) : Nat := rdLE s.host (hostKey 0 (s.imgBase + o)) k

/-- An image of `n` records at an address of the physical function carries a valid signature of the key in slot `k` over its
header and records (R151). -/
def State.imgSigned (s : State) (base n k : Nat) : Bool :=
  signedBy k (rdBytes s.host (hostKey 0 base) (64 + 32 * n)) (rdBytes s.host (hostKey 0 (base + 64 + 32 * n)) 96)

/-- An image may be signed with the key in slot `k`: there is such a slot, and it is not revoked (R529). -/
def State.keyLive (s : State) (k : Nat) : Bool :=
  decide (k < 4) && !(s.fld Base.sec Reg.Sec.KEY_REVOKE).testBit k

namespace Img
/-! The header fields (R151). -/
def magic (s : State) : Nat := s.imgField 0 4
def format (s : State) : Nat := s.imgField 4 2
def kind (s : State) : Nat := s.imgField 6 2
def version (s : State) : Nat := s.imgField 8 4
def baseVersion (s : State) : Nat := s.imgField 12 4
def svn (s : State) : Nat := s.imgField 16 2
def stepping (s : State) : Nat := s.imgField 18 2
def count (s : State) : Nat := s.imgField 20 4
def keyIndex (s : State) : Nat := s.imgField 24 2
/-- Micro-address word, reserved bytes and control word of record `i`. -/
def addr (s : State) (i : Nat) : Nat := s.imgField (64 + 32 * i) 2
def rsvd (s : State) (i : Nat) : Nat := s.imgField (64 + 32 * i + 2) 6
def word (s : State) (i : Nat) : Nat := s.imgField (64 + 32 * i + 8) 24
end Img

/-- Byte offset of the first bad header field, if any (R153, check 1). -/
def State.imgFormat (s : State) : Option Nat :=
  let n := Img.count s
  if Img.magic s ≠ 0x4D43_4931 then some 0
  else if Img.format s ≠ 1 then some 4
  else if 1 < Img.kind s then some 6
  else if (Img.kind s = 0 ∧ n ≠ 4096) ∨ n = 0 ∨ 4096 < n ∨ s.fld Base.sec Reg.Sec.MCL_LEN ≠ 64 + 32 * n + 96 then some 20
  else none

/-- A control word meets R152: reserved bits 0, no reserved SEQ value (R138, R139). -/
def wordOk (w : Nat) : Bool :=
  bitsOf w 168 160 == 0 && bitsOf w 29 0 == 0 && bitsOf w 93 64 == 0 && decide (bitsOf w 179 176 < 8)

/-- Record `i` meets R152. -/
def State.recordOk (s : State) (i : Nat) : Bool :=
  decide (Img.addr s i < 4096) && Img.rsvd s i == 0 && wordOk (Img.word s i) &&
    (i == 0 || decide (Img.addr s (i - 1) < Img.addr s i))

/-- Image slot `k`: 0 for A, 1 for B. -/
def State.mcSlot (s : State) (k : Nat) : McSlot := if k = 0 then s.loader.slotA else s.loader.slotB

/-- The slot that holds a version, if any. -/
def State.slotWith (s : State) (v : Nat) : Option Nat :=
  [0, 1].find? fun k => (s.mcSlot k).valid && (s.mcSlot k).version == v

/-- A slot that no cluster uses (R154). -/
def State.freeSlot (s : State) : Option Nat :=
  [0, 1].find? fun k => (List.range 16).all fun c => (s.fld Base.sec Reg.Sec.CL_SLOT).testBit c != (k == 1)

/-- The first check of R153 that fails: its code and INFO. `dmaErr` is the offset at which the DMA or the DRAM failed. -/
def State.imgCheck (s : State) (dmaErr : Option Nat) : Option (Nat × Nat) :=
  match dmaErr with
  | some o => some (0x28, o)
  | none =>
    match s.imgFormat with
    | some o => some (0x20, o)
    | none =>
      if Img.stepping s ≠ 0x00B0 then some (0x22, Img.stepping s)
      else if !s.keyLive (Img.keyIndex s) || !s.imgSigned s.imgBase (Img.count s) (Img.keyIndex s) then
        some (0x21, Img.keyIndex s)
      else if Img.svn s < s.fld Base.sec Reg.Sec.MC_SVN then some (0x24, Img.svn s)
      else if Img.kind s = 1 ∧ s.slotWith (Img.baseVersion s) = none then some (0x23, Img.baseVersion s % 2 ^ 24)
      else
        match (List.range (Img.count s)).find? fun i => !s.recordOk i with
        | some i => some (0x25, i)
        | none => if s.freeSlot = none then some (0x26, s.fld Base.sec Reg.Sec.CL_SLOT) else none

/-- The words of image slot `k`, by micro-address. -/
def State.slotWords (s : State) (k : Nat) : SMap (BitVec 192) :=
  (s.csImage.filter fun e => e.1 / 4096 == k).map fun e => (e.1 % 4096, e.2)

/-- Put words into a map, from key `o` on. -/
def listWords (o : Nat) (ws m : SMap (BitVec 192)) : SMap (BitVec 192) :=
  ws.foldl (fun m e => SMap.set (fun _ => 0#192) m (o + e.1) e.2) m

/-- Put words into image slot `k`, in place of what it held. -/
def State.setSlotWords (s : State) (k : Nat) (ws : SMap (BitVec 192)) : State :=
  let other := s.csImage.filter fun e => e.1 / 4096 != k
  { s with csImage := listWords (k * 4096) ws other }

/-- Put the words of an image, protected, into cluster `k`'s copy, in place of what it held (R135). -/
def State.setCopyWords (s : State) (k : Nat) (ws : SMap (BitVec 192)) : State :=
  let other := s.cs.filter fun e => e.1 / 4096 != k
  { s with cs := ws.foldl (fun m e => SMap.set cs0 m (k * 4096 + e.1) (csProtect e.2)) other }

/-- The merged image (R153): the records over the base slot's words, or alone. -/
def State.merged (s : State) : SMap (BitVec 192) :=
  let base := if Img.kind s = 1 then s.slotWords ((s.slotWith (Img.baseVersion s)).getD 0) else []
  (List.range (Img.count s)).foldl
    (fun m i => SMap.set (fun _ => 0#192) m (Img.addr s i) (BitVec.ofNat 192 (Img.word s i))) base

/-- The loader ends its job with a result. -/
def State.loaderEnd (s : State) (code : Nat) : State :=
  { (s.setFld Base.sec Reg.Sec.RESULT code).setFld Base.sec Reg.Sec.BUSY 0 with
    loader := { s.loader with job := .idle, mask := 0 } }

/-- An image is held in slot `k` and staged. -/
def State.stage (s : State) (k : Nat) (ws : SMap (BitVec 192)) (version svn : Nat) : State :=
  let s := s.setSlotWords k ws
  let slot : McSlot := ⟨version, svn, true⟩
  let s := { s with loader := if k = 0 then { s.loader with slotA := slot } else { s.loader with slotB := slot } }
  (s.setFld Base.sec Reg.Sec.STAGED 1).setFld Base.sec Reg.Sec.STAGED_SLOT k

/-! ### Verify and apply -/

/-- A write of 1 to VERIFY (R153). -/
def State.verifyGo (s : State) : State :=
  { s.setFld Base.sec Reg.Sec.BUSY 1 with loader := { s.loader with job := .verify } }

/-- VERIFY_COMPLETE (R153). -/
def execVerifyComplete (dmaErr : Option Nat) (s : State) : Out :=
  if s.loader.job ≠ .verify then .next s
  else
    match s.imgCheck dmaErr with
    | some (code, info) => finish (((s.loaderEnd code).err Base.sec code info).raise Base.sec 8)
    | none =>
      let s := s.stage (s.freeSlot.getD 0) s.merged (Img.version s) (Img.svn s)
      finish ((s.loaderEnd 0).raise Base.sec 8)

/-- The clusters of a mask with a sequencer that is enabled or active (R155). -/
def State.busyClusters (s : State) (mask : Nat) : Nat :=
  ((List.range 16).map fun k =>
    if mask.testBit k && (clusterSeqs k).any fun n => s.enabled (Base.seq n) || s.seqActive n then 2 ^ k else 0).sum

/-- A write of 1 to APPLY (R155). -/
def State.applyGo (s : State) : State :=
  let mask := s.fld Base.sec Reg.Sec.CL_MASK
  let refuse (info : Nat) : State := (s.setFld Base.sec Reg.Sec.RESULT 0x27).err Base.sec 0x27 info
  if !s.bit Base.sec Reg.Sec.STAGED then refuse 0
  else if s.busyClusters mask ≠ 0 then refuse (s.busyClusters mask)
  else
    { s.setFld Base.sec Reg.Sec.BUSY 1 with loader := { s.loader with job := .apply, mask := BitVec.ofNat 16 mask } }

/-- Cluster `k` receives the words of an image slot (R155). -/
def State.loadCluster (s : State) (k slot : Nat) : State :=
  let s := s.setCopyWords k (s.slotWords slot)
  let bit := 2 ^ k
  let old := s.fld Base.sec Reg.Sec.CL_SLOT
  let s := s.setFld Base.sec Reg.Sec.CL_SLOT (old - old / bit % 2 * bit + slot * bit)
  let s := s.setFld Base.sec Reg.Sec.MC_CL_VER (s.mcSlot slot).version k
  let fail := s.fld Base.sec Reg.Sec.CL_FAIL
  s.setFld Base.sec Reg.Sec.CL_FAIL (fail - fail / bit % 2 * bit)

/-- The versions and security versions that the clusters run. -/
def State.clVers (s : State) : List Nat := (List.range 16).map fun k => s.fld Base.sec Reg.Sec.MC_CL_VER k
def State.clSvns (s : State) : List Nat :=
  (List.range 16).map fun k => (s.mcSlot (s.fld Base.sec Reg.Sec.CL_SLOT / 2 ^ k % 2)).svn

/-- The least of a list of numbers. -/
def leastOf (l : List Nat) : Nat := l.foldl min (l.headD 0)

/-- MC_VERSION, MIXED and MC_SVN follow what the clusters run (R155, R157). -/
def State.showVersions (s : State) : State :=
  let vs := s.clVers
  let s := s.setFld Base.sec Reg.Sec.MC_VERSION (leastOf vs)
  let s := s.setBit Base.sec Reg.Sec.MIXED (vs.any fun v => v != leastOf vs)
  s.setFld Base.sec Reg.Sec.MC_SVN (max (s.fld Base.sec Reg.Sec.MC_SVN) (leastOf s.clSvns))

/-- Sequencers whose ENABLE was held during the APPLY start (R155). -/
def State.releaseHeld (s : State) (mask : Nat) : State :=
  (List.range 256).foldl (fun s n =>
    if mask.testBit (n / 16) && (s.seq n).held then (s.modSeq n fun q => { q with held := false }).seqEnable n else s) s

/-- APPLY_COMPLETE (R155). -/
def execApplyComplete (s : State) : Out :=
  if s.loader.job ≠ .apply then .next s
  else
    let mask := s.loader.mask.toNat
    let slot := s.fld Base.sec Reg.Sec.STAGED_SLOT
    let s := (List.range 16).foldl (fun s k => if mask.testBit k then s.loadCluster k slot else s) s
    let s := (s.showVersions.loaderEnd 0).releaseHeld mask
    finish (s.raise Base.sec 9)

end Sys2Proof.Machine
end

