-- ==== Sys2Proof/Machine/Windows.lean ====
section
/-!
DEFINITION. Chapter 02: who may access a page (R55 to R57, R391), and the BAR2 windows: ownership, units, the write-active
rule and the shadow (R49, R50, R169, R185 to R187, R278, R307, R343).
-/
namespace Sys2Proof.Machine

/-! ### Permission -/

/-- INFO of an access error: requester, word offset, direction (R54). -/
def accInfo (who : Req) (off : Nat) (wr : Bool) : Nat := reqNum who * 2 ^ 16 + off % 4096 / 4 * 4 + wr.toNat

/-- The page is a function page. -/
def isFnPage (b : Nat) : Bool := decide (Base.fn 0 ≤ b ∧ b < Base.fn 64)

/-- Why an access to the page at `b` is not permitted: code 0x01, or 0x02 when SEC is the cause (R55, R56, R391). A requester
that neither OWNER.FN nor SEC admits is recorded with 0x01 (DESIGN CHOICE, assumption log 62). -/
def State.denied (s : State) (who : Req) (b : Nat) : Option Nat :=
  let mine := reqMgmt who || s.owner b == reqNum who || (reqFn0 who && isFnPage b)
  if !mine then some 0x01
  else if s.bit b Reg.Hdr.SEC && !reqSecure who then some 0x02
  else none

/-- Capture a refused access in the page at `b` (R56). -/
def State.accErr (s : State) (b code : Nat) (who : Req) (off : Nat) (wr : Bool) : State :=
  s.err b code (accInfo who off wr)

/-- The PCIe link is up: from Starter to Cellar, while PERST_N is high (R521, R526). -/
def State.linkUp (s : State) : Bool :=
  decide (2 ≤ s.fld Base.pwr Reg.Pwr.STATE ∧ s.fld Base.pwr Reg.Pwr.STATE ≤ 6) && !s.power.perst

/-- The host can reach more than the pages of R532: the device has come to Configured. -/
def State.hostOpen (s : State) : Bool := s.linkUp && decide (3 ≤ s.fld Base.pwr Reg.Pwr.STATE)

/-- The function number of virtual function `v`: First VF Offset and VF Stride are 1; InitialVFs and TotalVFs are 63, so `v`
goes from 1 to 63 (R390). -/
def vfFunction (v : Nat) : Nat := 1 + (v - 1) * 1

/-- Function `f` is there: function 0, or a virtual function that NumVFs takes in while VF Enable is set; without ARI those are at most
7 (R390). -/
def State.fnOn (s : State) (f : Nat) : Bool :=
  f == 0 || ((s.fnSt 0).vfEnable && (List.range (min (if (s.fnSt 0).ari then 63 else 7) (s.fnSt 0).numVfs)).any fun v => vfFunction (v + 1) == f)

/-! ### Windows -/

/-- The windows of BAR2 (R49). -/
inductive Window where
  /-- Record of parameter memory; segment-table entry; correction-table entry. -/
  | param (r : Nat)
  | segment (i : Nat)
  | correction (i : Nat)
  /-- Control-store view: word, and byte of its slot. -/
  | control (a byte : Nat)
  /-- Instruction of a sequencer; byte address of a lane's data memory; instruction of a lane. -/
  | program (n pc : Nat)
  | laneData (n a : Nat)
  | laneCode (n pc : Nat)
  /-- 8-byte word of the curd store. -/
  | curd (w : Nat)
  | reserved
deriving DecidableEq, Repr

/-- The window and the entry at a BAR2 offset (R49). -/
def windowAt (o : Nat) : Window :=
  if o < 0x0200_0000 then .param (o / 8)
  else if o < 0x0210_0000 then .segment ((o - 0x0200_0000) / 16)
  else if o < 0x0218_0000 then .correction ((o - 0x0210_0000) / 8)
  else if 0x0220_0000 ≤ o ∧ o < 0x0222_0000 then .control ((o - 0x0220_0000) / 32) (o % 32)
  else if 0x0240_0000 ≤ o ∧ o < 0x0280_0000 then .program ((o - 0x0240_0000) / 16384) (o % 16384 / 8)
  else if 0x0280_0000 ≤ o ∧ o < 0x02C0_0000 then .laneData ((o - 0x0280_0000) / 65536) (o % 65536)
  else if 0x02C0_0000 ≤ o ∧ o < 0x02D0_0000 then .laneCode ((o - 0x02C0_0000) / 16384) (o % 16384 / 4)
  else if 0x0300_0000 ≤ o ∧ o < 0x0600_0000 then .curd ((o - 0x0300_0000) / 8)
  else .reserved

/-- Bytes of a unit (R186, R278, R343). -/
def Window.unit : Window → Nat
  | .segment _ => 16
  | .laneData _ _ => 4
  | .laneCode _ _ => 4
  | .control _ _ => 32
  | _ => 8

/-- The function whose partition holds a record or an entry (R169). -/
def State.partFn (s : State) (w : Window) : Option Nat :=
  (List.range 64).find? fun f =>
    match w with
    | .param r => s.inPm f r 1
    | .segment i => s.inSt f i
    | _ => false

/-- The page that owns a BAR2 range; none where no page does (R50, R169, R342). -/
def State.windowPage (s : State) : Window → Option Nat
  | .param r => (s.partFn (.param r)).map Base.fn
  | .segment i => (s.partFn (.segment i)).map Base.fn
  | .correction _ => some Base.syn
  | .control _ _ => some Base.sec
  | .program n _ => some (Base.seq n)
  | .laneData n _ => some (Base.lane n)
  | .laneCode n _ => some (Base.lane n)
  | .curd w => (s.blockUnit (w / 8192)).map Base.acq
  | .reserved => none

/-- Why an access to a window is not permitted, with the page that records it. A partition belongs to its function alone,
and management firmware reaches both partitioned windows in full (R169). -/
def State.windowDenied (s : State) (who : Req) (w : Window) : Option (Nat × Nat) :=
  match s.windowPage w with
  | some b =>
    if isFnPage b then (if reqMgmt who || b == Base.fn (reqNum who) then none else some (b, 0x01))
    else (s.denied who b).map fun c => (b, c)
  | none => if reqMgmt who then none else some (Base.glob, 0x01)

/-! ### Active units -/

/-- A record lies in the range of an entry that is neither streamed nor quiet (R185). -/
def Entry.holds (e : Entry) (r : Nat) : Bool := !e.strm && !e.quiet && decide (e.pbase ≤ r ∧ r < e.pbase + 4 * e.len)

/-- The segment-table entries that are active (R185). -/
def State.activeEntries (s : State) : List Nat :=
  s.tones.flatMap (fun e => e.2.entries) ++ s.fluxes.flatMap fun e => e.2.entries

/-- A unit is active: writes to it are rejected (R185, R186, R278, R307, R343). -/
def State.unitActive (s : State) (dbg : Bool) (w : Window) : Bool :=
  match w with
  | .param r => s.activeEntries.any fun i => (s.entry i).holds r
  | .segment i => s.activeEntries.contains i
  | .correction i => s.ctActive i
  | .program n pc =>
    (s.enabled (Base.seq n) || s.seqActive n) &&
      !(dbg && (s.seq n).halted && pc != s.fld (Base.seq n) Reg.Seq.PC)
  | .laneData n a => s.laneHoop n a
  | .laneCode n _ => s.laneActive n
  | .curd w => (s.blockUnit (w / 8192)).any fun n => s.acqActive n
  | _ => false

/-- The window has a DRAM shadow (R187, R278, R307, R423). -/
def Window.shadowed : Window → Bool
  | .param _ => true
  | .segment _ => true
  | .correction _ => true
  | .program _ _ => true
  | .laneCode _ _ => true
  | _ => false

/-- The flux channels that make a record or an entry active (R185, R364). -/
def State.fluxHolds (s : State) (w : Window) : List Nat :=
  (s.fluxes.filter fun e => e.2.entries.any fun i =>
    match w with
    | .segment j => i == j
    | .param r => (s.entry i).holds r
    | _ => false).map Prod.fst

/-- WRITE_ACTIVE of the blocks whose active unit was written: the syndrome unit's table, a unit's region of the curd store,
a flux channel's entries and records (R312, R360, R386; assumption log 61). -/
def State.blockHit (s : State) (w : Window) : State :=
  match w with
  | .correction i => if s.ctActive i then s.raise Base.syn 5 else s
  | .curd w =>
    match s.blockUnit (w / 8192) with
    | some n => s.raise (Base.acq n) 9
    | none => s
  | w => (s.fluxHolds w).foldl (fun s n => s.raise (Base.flux n) 15) s

/-- A rejected unit is recorded in the page of the writing function, and by WRITE_ACTIVE in the page of the block that holds
it active; management firmware's writes are not. A lane's hoop region sets WRITE_ACTIVE in the lane's page (R186, R278). -/
def State.rejectUnit (s : State) (who : Req) (w : Window) (o : Nat) : State :=
  let s := match w with
    | .laneData n _ => s.raise (Base.lane n) 6
    | _ => s
  match who with
  | .mgmt => s
  | .dbgSecure => s
  | _ =>
    let b := Base.fn (reqNum who)
    (((s.setFld b Reg.Fn.WA_OFFSET o).inc b Reg.Fn.WA_COUNT).raise b 0).blockHit w

/-- Store bytes in a window, and in its shadow, whose DRAM write is charged to the host-ring budget (R27, R187). -/
def State.storeUnit (s : State) (who : Req) (w : Window) (o : Nat) (bs : List Byte) : State :=
  let s := { s with bar2 := wrBytes s.bar2 o bs }
  if w.shadowed then s.shadowWrite (if reqMgmt who then 64 else reqNum who) o bs else s

/-- What becomes of one unit of a write. -/
inductive UnitEnd where
  | written | rejected | refused
deriving DecidableEq, Repr

/-- Write the bytes of one unit (R50, R186, R436). -/
def State.writeUnit (s : State) (who : Req) (dbg : Bool) (o : Nat) (bs : List Byte) : State × UnitEnd :=
  let w := windowAt o
  if w = .reserved then (s, .refused)
  else
    match s.windowDenied who w with
    | some (b, c) => (s.accErr b c who o true, .refused)
    | none =>
      match w with
      | .control _ _ => (s, .refused)
      | _ =>
        if s.unitActive dbg w || (s.frozen && w.shadowed) then (s.rejectUnit who w (o / w.unit * w.unit), .rejected)
        else (s.storeUnit who w o bs, .written)

/-- Cut bytes from offset `o` up into pieces that each lie in one unit. The first argument bounds the number of pieces. -/
def cutUnits : Nat → Nat → List Byte → List (Nat × List Byte)
  | 0, _, _ => []
  | _, _, [] => []
  | k + 1, o, bs =>
    let u := (windowAt o).unit
    let m := u - o % u
    (o, bs.take m) :: cutUnits k (o + m) (bs.drop m)

/-- Write bytes through BAR2, unit by unit: the state, the units written and the units rejected. -/
def State.bar2Put (s : State) (who : Req) (dbg : Bool) (o : Nat) (bs : List Byte) : State × Nat × Nat :=
  (cutUnits bs.length o bs).foldl (fun a u =>
    let r := a.1.writeUnit who dbg u.1 u.2
    match r.2 with
    | .written => (r.1, a.2.1 + u.2.length, a.2.2)
    | .rejected => (r.1, a.2.1, a.2.2 + 1)
    | .refused => (r.1, a.2.1, a.2.2)) (s, 0, 0)

/-- The 32-bit word of a window at a BAR2 offset, whoever asks (R49, R137). -/
def State.windowWord (s : State) (o : Nat) : Nat :=
  match windowAt o with
  | .control a byte =>
    if byte < 24 then
      ((s.csWord (s.fld Base.sec Reg.Sec.CS_VIEW) a).setWidth 192).toNat / 2 ^ (8 * byte) % 2 ^ 32
    else 0
  | .reserved => 0
  | _ => rdLE s.bar2 o 4

/-- Read a word through BAR2 (R50, R56, R169). -/
def State.bar2Get (s : State) (who : Req) (o : Nat) : State :=
  let w := windowAt o
  if w = .reserved then s.respond 0
  else
    match s.windowDenied who w with
    | some (b, c) => (s.accErr b c who o false).respond 0
    | none => s.respond (s.windowWord o)

end Sys2Proof.Machine
end

