-- ==== Sys2Proof/Machine/Host.lean ====
section
/-!
DEFINITION. Chapter 14: ring contexts, doorbells, the mover, the job service, MSI-X hold and release, function-level
reset (R393 to R416).
-/
namespace Sys2Proof.Machine

/-! ### Ring contexts -/

/-- The address multiple that HADDR and DADDR must keep (R399, condition 2). -/
def ringAlign (k : Nat) : Nat := min 4096 (64 * 2 ^ k)

/-- The device copies of two rings overlap (R399, condition 4). -/
def RingSt.overlaps (x y : RingSt) : Bool :=
  decide (x.daddr < y.daddr + y.size) && decide (y.daddr < x.daddr + x.size)

/-- The first condition of R399 that an enable breaks; 0 when none. -/
def State.ringCond (s : State) (r : Nat) (keep : Bool) : Nat :=
  let x := s.ring r
  let a := ringAlign x.log2
  let inRegion := if x.kind = 2 then s.inVat (x.daddr * 64) (x.size * 64) else s.inRrg (x.daddr * 64) (x.size * 64)
  if !(decide (4 ≤ x.log2 ∧ x.log2 ≤ 20) && x.kind != 7) then 1
  else if x.haddr % a ≠ 0 ∨ x.daddr * 64 % a ≠ 0 then 2
  else if !inRegion then 3
  else if s.rings.any fun e => e.1 != r && e.2.en && e.2.overlaps x then 4
  else if keep ∧ x.size < x.retain then 5
  else 0

/-- Put the kept entries into the device copy as entries 0 onward (R407). -/
def State.restoreKept (s : State) (r : Nat) : State :=
  let x := s.ring r
  let put (m : List Host.Cell) (e : List Byte × Nat) : List Host.Cell := wrBytes m (x.devSlot e.2) e.1
  let s := { s with dram := x.kept.zipIdx.foldl put s.dram }
  s.modRing r fun x => { x with prod := x.kept.length }

/-- The ring is enabled (R399, R407). -/
def State.ringOn (s : State) (r : Nat) (keep : Bool) : State :=
  let s := s.modRing r fun x =>
    { x with
      en := true, keep := keep, prod := 0, cons := 0, moved := 0, err := false, unsignalled := 0, firstFrame := 0
      wbLast := 0, wbTick := none, asked := [] }
  let s := if keep then s.restoreKept r else s
  s.modRing r fun x => { x with kept := [], retain := 0 }

/-- Ring `r` is disabled by a write of 0 to EN (R407): the mover has still to stop. -/
def State.ringOff (s : State) (r : Nat) : State :=
  if (s.ring r).en then s.modRing r fun x => { x with en := false, stopping := true } else s

/-- The configuration fields of the word at 0x064; KIND 7 is a reserved encoding (R14, R398). -/
def RingSt.config (x : RingSt) (w : Word) : RingSt :=
  { x with
    keep := Reg.Fn.KEEP.get w == 1
    kind := if Reg.Fn.KIND.get w = 7 then x.kind else Reg.Fn.KIND.get w
    log2 := Reg.Fn.LOG2.get w
    vector := Reg.Fn.VECTOR.get w }

/-- The word at 0x064, as read. -/
def RingSt.ctlWord (x : RingSt) : Nat :=
  x.en.toNat * 2 ^ 31 + x.keep.toNat * 2 ^ 30 + x.kind * 2 ^ 24 + x.log2 * 2 ^ 16 + x.vector * 2 ^ 8

/-- A refused write of the context (R407, R416). -/
def State.ringRefuse (s : State) (f off : Nat) : State := s.err (Base.fn f) 0x12 off

/-- A write of the word at 0x064 of ring `r`, through the page of function `f` (R399, R407, R416). -/
def State.ringCtl (s : State) (f r : Nat) (w : Word) : State :=
  let x := s.ring r
  let on := Reg.Fn.EN.get w = 1
  if x.stopping then s.ringRefuse f 0x064
  else if x.en then
    if on then s.ringRefuse f 0x064
    else
      let s := if (x.config w) = x then s else s.ringRefuse f 0x064
      s.ringOff r
  else
    let s := s.modRing r fun x => x.config w
    if !on then s
    else
      let c := s.ringCond r (Reg.Fn.KEEP.get w == 1)
      if c = 0 then s.ringOn r (Reg.Fn.KEEP.get w == 1) else s.err (Base.fn f) 0x13 c

/-- A write of another word of the context of ring `r` (R416). -/
def State.ringField (s : State) (f r off : Nat) (w : Word) : State :=
  let x := s.ring r
  let v := w.toNat
  if off = 0x08C then s.modRing r fun x => { x with drop := v }
  else if x.en || x.stopping then s.ringRefuse f off
  else
    s.modRing r fun x =>
      match off with
      | 0x068 => { x with haddr := x.haddr / 2 ^ 32 * 2 ^ 32 + v }
      | 0x06C => { x with haddr := x.haddr % 2 ^ 32 + v * 2 ^ 32 }
      | 0x070 => { x with daddr := v % 2 ^ 30 }
      | 0x074 => { x with wb := x.wb / 2 ^ 32 * 2 ^ 32 + v / 8 * 8 }
      | 0x078 => { x with wb := x.wb % 2 ^ 32 + v * 2 ^ 32 }
      | 0x07C => { x with aux := v % 2 ^ 18 }
      | 0x080 => { x with modTime := v / 2 ^ 16, modCount := v % 2 ^ 16 }
      | _ => x

/-- A word of the context of ring `r`, as read (R416). -/
def State.ringWord (s : State) (r off : Nat) : Nat :=
  let x := s.ring r
  match off with
  | 0x064 => x.ctlWord
  | 0x068 => x.haddr % 2 ^ 32
  | 0x06C => x.haddr / 2 ^ 32
  | 0x070 => x.daddr
  | 0x074 => x.wb % 2 ^ 32
  | 0x078 => x.wb / 2 ^ 32
  | 0x07C => x.aux
  | 0x080 => x.modTime * 2 ^ 16 + x.modCount
  | 0x084 => x.prod
  | 0x088 => x.cons
  | 0x08C => x.drop
  | 0x090 => x.retain
  | 0x094 => 8 * x.stopping.toNat + 4 * (decide (0 < x.retain)).toNat + 2 * x.full.toNat + x.err.toNat
  | _ => 0

/-- RING_STOPPED (R407): the mover has stopped, its reads having returned; what is discarded and what is kept is settled. -/
def execRingStopped (r : Fin 262144) (s : State) : Out :=
  let x := s.ring r
  if !x.stopping || !x.asked.isEmpty then .next s
  else
    let host := hostProduced x.kind
    let n := idxSub x.prod x.moved
    let kept := (List.range n).map fun i => rdBytes s.dram (x.devSlot (x.moved + i)) 64
    finish (s.modRing r fun x =>
      { x with
        stopping := false
        cons := if host then x.prod else x.cons
        moved := x.prod
        kept := if host then x.kept else kept
        retain := if host then x.retain else kept.length })

/-! ### Doorbells -/

/-- A doorbell that is discarded (R403). -/
def State.dbFault (s : State) (f r : Nat) : State := (s.err (Base.fn f) 0x15 r).raise (Base.fn f) 1

/-- The doorbell is valid (R403). -/
def State.dbOk (s : State) (d : Doorbell) (single : Bool) : Bool :=
  let r := d.data.toNat % 2 ^ 18
  let v := d.data.toNat / 2 ^ 32
  let x := s.ring r
  let old := if d.prod then x.prod else x.cons
  let held := if d.prod then idxSub v x.cons else idxSub x.prod v
  single && s.ringFn r == some d.fn && x.en && hostProduced x.kind == d.prod && decide (idxSub v old < 2 ^ 31) &&
    decide (held ≤ x.size)

/-- Carry out a doorbell (R400, R401). -/
def State.dbApply (s : State) (d : Doorbell) : State :=
  let r := d.data.toNat % 2 ^ 18
  let v := d.data.toNat / 2 ^ 32
  (s.touchRing r).modRing r fun x => if d.prod then { x with prod := v } else { x with cons := v }

/-- A doorbell recorded during a freeze is carried out, if its ring still stands (R436, R438). -/
def State.bellOut (s : State) (d : Doorbell) : State := if s.dbOk d true then s.dbApply d else s

/-- A doorbell arrives: it is checked, beside the indices recorded before it, and carried out, or recorded during a freeze
(R403, R412, R436, R532). -/
def State.doorbell (s : State) (f : Nat) (prod single : Bool) (data : Word64) : State :=
  let d : Doorbell := ⟨f, prod, data⟩
  if !s.hostOpen || (s.fnSt f).flr.isSome then s
  else if !(s.doorbells.foldl State.bellOut s).dbOk d single then s.dbFault f (data.toNat % 2 ^ 18)
  else if s.frozen then { s with doorbells := s.doorbells ++ [d] }
  else s.dbApply d

/-- DB_PROD (R394, R400, R403). -/
def execDbProd (f : Fin 64) (single : Bool) (data : BitVec 64) (s : State) : Out := finish (s.doorbell f true single data)

/-- DB_CONS (R394, R401, R403). -/
def execDbCons (f : Fin 64) (single : Bool) (data : BitVec 64) (s : State) : Out := finish (s.doorbell f false single data)

/-! ### The mover -/

/-- A ring signals its vector (R402, R461). -/
def State.ringSignal (s : State) (f v : Nat) : State :=
  let s := if s.msixHeld f v then s.modFn f fun x => { x with ringPend := x.ringPend ||| BitVec.ofNat 64 (2 ^ v) } else s
  s.msixSignal f v

/-- One more entry has been copied (R400 to R402). -/
def State.noteMoved (s : State) (r : Nat) : State :=
  s.modRing r fun x =>
    { x with
      moved := (x.moved + 1) % 2 ^ 32, unsignalled := x.unsignalled + 1
      firstFrame := if x.unsignalled = 0 then s.count / 256 else x.firstFrame }

/-- Begin to copy the next entry of ring `r`: one of a host-produced ring goes into the device copy, one of a
device-produced ring is read from it, and goes into the host copy when the read returns (R400, R401). -/
def State.moveOne (s : State) (f r : Nat) : State :=
  let x := s.ring r
  if hostProduced x.kind then
    let d := x.devSlot x.moved
    let s := { s with dram := wrBytes s.dram d (rdBytes s.host (hostKey f (x.hostSlot x.moved)) 64) }
    (s.dramEnter 4 true d false .none).noteMoved r
  else s.ringAsk r (x.next x.moved) 4 false (.move f r (x.next x.moved))

/-- Copy up to `k` entries, while there are any and while the function's budget lasts (R27, R402). -/
def State.moveMany (s : State) (f r : Nat) : Nat → State
  | 0 => s
  | k + 1 =>
    let x := s.ring r
    if x.next x.moved = x.prod || s.dramWaits 4 f then s
    else
      match s.chargeHost f with
      | some t => State.moveMany (t.moveOne f r) f r k
      | none => s

/-- The index that WB shows, and RC_DROP beside it (R400, R401). -/
def RingSt.wbValue (x : RingSt) : Nat := if hostProduced x.kind then x.cons else x.moved + 2 ^ 32 * x.drop

/-- The signal of R402 is due after a WB write. -/
def State.signalDue (s : State) (r : Nat) : Bool :=
  let x := s.ring r
  decide (0 < x.modCount ∧ x.modCount ≤ x.unsignalled) ||
    decide (0 < x.modTime ∧ 0 < x.unsignalled ∧ x.firstFrame + x.modTime ≤ s.count / 256)

/-- Signal ring `r`'s vector. -/
def State.signalRing (s : State) (f r : Nat) : State :=
  (s.ringSignal f (s.ring r).vector).modRing r fun x => { x with unsignalled := 0 }

/-- Write WB when its value has changed, at most once in 256 ns, and signal the vector when moderation allows (R402). -/
def State.wbWrite (s : State) (f r : Nat) : State :=
  let x := s.ring r
  let v := x.wbValue
  if v ≠ x.wbLast ∧ (x.wbTick.all fun t => decide (t + 64 ≤ s.ticks)) then
    let s := { s with host := wrLE s.host (hostKey f x.wb) 8 v }
    let s := s.modRing r fun x => { x with wbLast := v, wbTick := some s.ticks }
    if (x.modTime = 0 ∧ x.modCount = 0) ∨ s.signalDue r then s.signalRing f r else s
  else if v = x.wbLast ∧ s.signalDue r then s.signalRing f r
  else s

/-- The mover serves ring `r` of function `f` (R406, R412, R436). -/
def State.moverRuns (s : State) (f r : Nat) : Bool :=
  ((s.ring r).en || (s.ring r).stopping) && !(s.ring r).err && !s.dramShut && (s.fnSt f).flr.isNone

/-- The mover has an entry of a device-produced ring: it goes into the host copy, unless the ring has stopped moving (R401,
R406). -/
def State.moveIn (s : State) (f r i : Nat) (bs : List Byte) : State :=
  if (s.ring r).err then s
  else { s with host := wrBytes s.host (hostKey f ((s.ring r).hostSlot i)) bs }.noteMoved r

/-- MOVER_TRANSFER (R400 to R402): up to `cnt` entries of ring `r`. -/
def execMoverTransfer (r : Fin 262144) (cnt : Nat) (s : State) : Out :=
  match s.ringFn r with
  | some f => if s.moverRuns f r then finish (((s.touchRing r).moveMany f r cnt).wbWrite f r) else .next s
  | none => .next s

/-- MOVER_DMA_ERROR (R406). -/
def execMoverDmaError (r : Fin 262144) (s : State) : Out :=
  match s.ringFn r with
  | some f =>
    if s.moverRuns f r then
      finish (((s.modRing r fun x => { x with err := true }).err (Base.fn f) 0x17 r).raise (Base.fn f) 5)
    else .next s
  | none => .next s

/-! ### Quotas and partitions -/

/-- Two half-open ranges overlap. -/
def overlap (a n b m : Nat) : Bool := decide (a < b + m ∧ b < a + n) && decide (0 < n ∧ 0 < m)

/-- A write of RING_BASE and RING_COUNT by function 0 or management firmware (R397). -/
def State.quotaWrite (s : State) (f : Nat) (w : Word) : State :=
  let b := Base.fn f
  let base := Reg.Fn.RING_BASE.get w
  let count := Reg.Fn.RING_COUNT.get w
  let clash := (List.range 64).any fun g =>
    g != f && overlap base count (s.fld (Base.fn g) Reg.Fn.RING_BASE) (s.fld (Base.fn g) Reg.Fn.RING_COUNT)
  let lost := s.rings.any fun e =>
    e.2.en && s.ringFn e.1 == some f && !decide (base * 64 ≤ e.1 ∧ e.1 < (base + count) * 64)
  if base = s.fld b Reg.Fn.RING_BASE ∧ count = s.fld b Reg.Fn.RING_COUNT then s
  else if clash || decide (262144 < (base + count) * 64) || lost then s.err b 0x14 0x048
  else (s.setFld b Reg.Fn.RING_BASE base).setFld b Reg.Fn.RING_COUNT count

/-- Some tone engine or flux channel of function `f` has STAT.ACTIVE = 1 (R169). -/
def State.playersBusy (s : State) (f : Nat) : Bool :=
  (s.tones.any fun e => s.owner (Base.tone e.1) == f && (s.toneStat e.1).testBit 0) ||
    s.fluxes.any fun e => s.owner (Base.flux e.1) == f && (s.fluxStat e.1).testBit 0

/-- A write of a partition register by function 0 or management firmware (R169): parameter memory at 0x040, segment table
at 0x044. -/
def State.partitionWrite (s : State) (f : Nat) (seg : Bool) (w : Word) : State :=
  let b := Base.fn f
  let lo := if seg then Reg.Fn.ST_BASE else Reg.Fn.PM_BASE
  let n := if seg then Reg.Fn.ST_SIZE else Reg.Fn.PM_SIZE
  let clash := (List.range 64).any fun g =>
    g != f && overlap (lo.get w) (n.get w) (s.fld (Base.fn g) lo) (s.fld (Base.fn g) n)
  if lo.get w = s.fld b lo ∧ n.get w = s.fld b n then s
  else if clash || s.playersBusy f then s.err b 0x14 lo.off
  else (s.setFld b lo (lo.get w)).setFld b n (n.get w)

/-! ### The job service -/

/-- The fields of a job entry (R408). -/
structure JobEntry where
  ty : Nat
  op : Nat
  tag : Nat
  addr : Nat
  len : Nat
  dest : Nat
  mask : Nat
  rsvd : Nat
  crcOk : Bool

/-- Read a job entry from its 64 bytes (R408). -/
def jobEntry (bs : List Byte) : JobEntry :=
  let f (o k : Nat) : Nat := ofBytesLE ((bs.drop o).take k)
  { ty := f 0 2, op := f 2 1, tag := f 4 4, addr := f 8 8, len := f 16 4, dest := f 20 4, mask := f 24 32
    rsvd := f 3 1 + f 56 4, crcOk := f 60 4 == crc32 (bs.take 60) }

/-- A field that the operation does not use is not 0, or a used one is out of its range (R408). -/
def JobEntry.bad (e : JobEntry) : Bool :=
  e.ty != 0x4A42 || !e.crcOk || e.rsvd != 0 || !decide (1 ≤ e.op ∧ e.op ≤ 4) ||
    (if e.op = 1 then
      e.mask != 0 || e.len % 8 != 0 || !decide (8 ≤ e.len ∧ e.len ≤ 16777216) || e.dest % 8 != 0
    else e.len != 0 || e.dest != 0 || (e.op != 2 && e.addr != 0))

/-- The sequencers that a mask selects. -/
def maskSeqs (m : Nat) : List Nat := (List.range 256).filter fun n => m.testBit n

/-- A byte range lies within the windows and partitions of function `f` (R50, R169, R410). -/
def State.loadRangeOk (s : State) (f dest len : Nat) : Bool :=
  (List.range (len / 8)).all fun i =>
    let w := windowAt (dest + 8 * i)
    w != .reserved && match f, w with
      | _, .control _ _ => false
      | f, w => if h : f < 64 then (s.windowDenied (.fn ⟨f, h⟩) w).isNone else false

/-- Why a job fails whole, as its completion status; 0 when it does not (R410, R411). -/
def State.jobFault (s : State) (f : Nat) (e : JobEntry) : Nat :=
  if e.bad then 0x01
  else if e.op = 1 then (if s.loadRangeOk f e.dest e.len then 0 else 0x02)
  else if (maskSeqs e.mask).any fun n => s.owner (Base.seq n) != f then 0x02
  else if e.op = 2 ∧ ((maskSeqs e.mask).any fun n => s.enabled (Base.seq n) || s.seqActive n) then 0x06
  else if e.op = 2 ∧ e.addr < s.step0 + 2048 then 0x05
  else 0

/-- JOB_TAKE (R410): the next job of a JOB ring is taken and checked. -/
def execJobTake (r : Fin 262144) (s : State) : Out :=
  let x := s.ring r
  match s.ringFn r with
  | some f =>
    if x.en && x.kind == 0 && x.job.isNone && s.ringUnread r && !s.frozen && (s.fnSt f).flr.isNone then
      let e := jobEntry (s.ringHead r)
      let st := s.jobFault f e
      let j : Job :=
        { op := e.op, tag := e.tag, addr := e.addr, len := e.len, dest := e.dest, mask := BitVec.ofNat 256 e.mask
          status := st, pos := 0, written := 0, rejected := 0, phase := if st = 0 then .taken else .done }
      finish ((s.ringTake r).modRing r fun x => { x with job := some j })
    else .next s
  | none => .next s

/-- The job in hand of ring `r`, when it has the operation and the phase. -/
def State.jobIn (s : State) (r op : Nat) (ph : JobPhase) : Option Job :=
  (s.ring r).job.filter fun j => j.op == op && decide (j.phase = ph)

/-- Put a job back. -/
def State.setJob (s : State) (r : Nat) (j : Job) : State := s.modRing r fun x => { x with job := some j }

/-- A function with a lower number than `f` waits for a unit of the pool (R30). -/
def State.lowerWaits (s : State) (f : Nat) : Bool :=
  (List.range f).any fun g => !(s.fnSt g).held.isEmpty && decide (s.limitOf (Base.fn g) ≤ s.usedOf (Base.fn g + 0x024))

/-- Charge one host register access to function `f`, or to the unassigned pool of 512, whose last unit goes to the lower
function number (R28, R30, R395). -/
def State.chargeAccess (s : State) (f : Nat) : Option State :=
  let key := Base.fn f + 0x024
  let given := ((List.range 64).map fun g => s.limitOf (Base.fn g)).sum
  let pool := Base.fn 0 + 0x026
  if s.usedOf key < s.limitOf (Base.fn f) then some (s.useUnits key 1)
  else if s.usedOf pool + (s.lowerWaits f).toNat < 512 - given then some (s.useUnits pool 1)
  else none

/-- One block of a LOAD is copied (R409): the bytes up to the next multiple of 64. -/
def State.loadBlock (s : State) (f : Fin 64) (r : Nat) (j : Job) : State :=
  let o := j.dest + j.pos
  let k := min (64 - o % 64) (j.len - j.pos)
  let p := s.bar2Put (.fn f) false o (rdBytes s.host (hostKey f (j.addr + j.pos)) k)
  let j := { j with pos := j.pos + k, written := j.written + p.2.1, rejected := j.rejected + p.2.2 }
  let j := if j.len ≤ j.pos then { j with phase := .done, status := if j.rejected = 0 then 0x00 else 0x03 } else j
  p.1.setJob r j

/-- JOB_LOAD (R409): the next block of the LOAD in hand, within the function's access budget. -/
def execJobLoad (r : Fin 262144) (dmaErr : Bool) (s : State) : Out :=
  match s.ringFn r, s.jobIn r 1 .taken with
  | some f, some j =>
    if h : f < 64 then
      if dmaErr then finish (s.setJob r { j with phase := .done, status := 0x04 })
      else
        match s.chargeAccess f with
        | some t => finish (t.loadBlock ⟨f, h⟩ r j)
        | none => .next s
    else .next s
  | _, _ => .next s

/-- JOB_START (R409): the selected sequencers wait for the start step. -/
def execJobStart (r : Fin 262144) (s : State) : Out :=
  match s.jobIn r 2 .taken with
  | some j => finish (s.setJob r { j with phase := .waiting })
  | none => .next s

/-- Sequencer `n` is enabled by a START at a step (R409). -/
def State.seqStartAt (s : State) (n k : Nat) : State :=
  let s := s.seqEnable n
  if (s.seq n).issuing then s.modSeq n fun q => { q with nextStep := k } else s

/-- JOB_START_STEP (R409). -/
def execJobStartStep (r : Fin 262144) (s : State) : Out :=
  match s.jobIn r 2 .waiting with
  | some j =>
    if s.due j.addr then
      finish (((maskSeqs j.mask.toNat).foldl (fun s n => s.seqStartAt n j.addr) s).setJob r { j with phase := .done })
    else .next s
  | none => .next s

/-- JOB_STOP (R409). -/
def execJobStop (r : Fin 262144) (s : State) : Out :=
  match s.jobIn r 3 .taken with
  | some j => finish (((maskSeqs j.mask.toNat).foldl (fun s n => s.seqDisable n) s).setJob r { j with phase := .waiting })
  | none => .next s

/-- JOB_FENCE (R409). -/
def execJobFence (r : Fin 262144) (s : State) : Out :=
  match s.jobIn r 4 .taken with
  | some j => finish (s.setJob r { j with phase := .waiting })
  | none => .next s

/-- The job's operation is over (R409). -/
def State.jobOver (s : State) (j : Job) : Bool :=
  j.phase == .done ||
    (j.phase == .waiting && (j.op == 3 || j.op == 4) && (maskSeqs j.mask.toNat).all fun n => s.seqStopped n)

/-- The completion of a job (R411). -/
def State.jobRecord (s : State) (j : Job) : List Byte :=
  let load := j.op == 1
  withCrc (packBytes [(0x4A43, 2), (j.op, 1), (j.status, 1), (j.tag, 4), (s.step0, 8), (if load then j.written else 0, 4),
    (if load then j.rejected else 0, 4), (0, 36)])

/-- JOB_COMPLETE (R411): the completion goes to the LOG ring that AUX names. -/
def execJobComplete (r : Fin 262144) (s : State) : Out :=
  match s.ringFn r, (s.ring r).job with
  | some f, some j =>
    if s.jobOver j then
      let log := (s.ring r).aux
      let s := if s.ringValid log 6 f then s.ringPush log (s.jobRecord j) else s
      finish (s.modRing r fun x => { x with job := none })
    else .next s
  | _, _ => .next s

/-! ### MSI-X -/

/-- A source routed to vector `v` of function `f` is asserted (R461). -/
def State.vecLive (s : State) (f v : Nat) : Bool :=
  (v == 0 && s.irqLive (Base.fn f) != 0) ||
    (List.range 1344).any fun n =>
      routeFld (s.route n) Reg.Intc.MSIX_EN == 1 && routeFld (s.route n) Reg.Intc.VEC == v &&
        (srcPages n).any fun pg => s.owner pg.1 == f && s.irqLive pg.1 &&& s.srcMask n pg != 0

/-- The pending bit of a vector as it reads (R461). -/
def State.pbaBit (s : State) (f v : Nat) : Bool :=
  (s.fnSt f).pba.getLsbD v && ((s.fnSt f).ringPend.getLsbD v || s.vecLive f v)

/-- MSIX_COALESCED_MESSAGE (R461): the 64 ns after a message are over and further changes have come. -/
def execMsixCoalescedMessage (f : Fin 64) (v : Fin 64) (s : State) : Out :=
  let e := s.msixEntry (64 * f.val + v.val)
  if e.again && (e.window.all fun t => decide (t ≤ s.ticks)) then
    let s := s.modMsix (64 * f.val + v.val) fun e => { e with again := false, window := none }
    finish (s.msixSignal f v)
  else .next s

/-- MSIX_HELD_RELEASE (R461): the obstacle has ended; the message is sent if its pending bit is still set. -/
def execMsixHeldRelease (f : Fin 64) (v : Fin 64) (s : State) : Out :=
  if !(s.fnSt f).pba.getLsbD v then .next s
  else if !s.pbaBit f v then finish (s.setPba f v false)
  else if s.msixHeld f v then .next s
  else
    let s := (s.setPba f v false).modFn f fun x => { x with ringPend := x.ringPend &&& ~~~ BitVec.ofNat 64 (2 ^ v.val) }
    finish (s.msixWrite f v)

/-- A write of a word of the MSI-X table of function `f`, at an offset from 0x800 (R394). -/
def State.msixTableWrite (s : State) (f off : Nat) (be : BitVec 4) (w : Word) : State :=
  let mask : Word := BitVec.ofNat 32
    (((List.range 4).map fun i => if be.getLsbD i then 0xFF * 2 ^ (8 * i) else 0).sum)
  let put (old : Word) : Word := (old &&& ~~~ mask) ||| (w &&& mask)
  s.modMsix (64 * f + (off - 0x800) / 16) fun e =>
    match off % 16 / 4 with
    | 0 => { e with addr := (put (BitVec.ofNat 32 e.addr.toNat)).setWidth 64 ||| (e.addr &&& 0xFFFF_FFFF_0000_0000#64) }
    | 1 => { e with addr := BitVec.ofNat 64 ((put (BitVec.ofNat 32 (e.addr.toNat / 2 ^ 32))).toNat * 2 ^ 32 +
        e.addr.toNat % 2 ^ 32) }
    | 2 => { e with data := put e.data }
    | _ => { e with masked := (put (BitVec.ofNat 32 e.masked.toNat)).getLsbD 0 }

/-- A word of the doorbell page of function `f`, as read (R394). -/
def State.bar4Word (s : State) (f off : Nat) : Nat :=
  if 0x800 ≤ off ∧ off < 0xC00 then
    let e := s.msixEntry (64 * f + (off - 0x800) / 16)
    match off % 16 / 4 with
    | 0 => e.addr.toNat % 2 ^ 32
    | 1 => e.addr.toNat / 2 ^ 32
    | 2 => e.data.toNat
    | _ => e.masked.toNat
  else if off = 0xC00 ∨ off = 0xC04 then
    ((List.range 32).map fun i => if s.pbaBit f (8 * (off - 0xC00) + i) then 2 ^ i else 0).sum
  else 0

/-! ### Function-level reset -/

/-- The instances of a page type that function `f` owns. -/
def State.ownedPages (s : State) (f : Nat) (base : Nat → Nat) (n : Nat) : List Nat :=
  (List.range n).filter fun i => s.owner (base i) == f

/-- The disables that the pages of function `f` receive at t0 (R412, R454, R477). -/
def State.flrPages (s : State) (f : Nat) : State :=
  let s := (s.ownedPages f Base.tone 512).foldl (fun s n => s.toneKill n s.nextStep) s
  let s := (s.ownedPages f Base.out 48).foldl (fun s k => s.outKill k) s
  let s := (s.ownedPages f Base.rout 256).foldl (fun s n => s.routKill n s.nextStep true) s
  let s := (s.ownedPages f Base.lane 64).foldl (fun s n => s.laneKill n) s
  let s := if s.owner Base.syn = f then s.synKill else s
  let s := (s.ownedPages f Base.flux 96).foldl (fun s n => ((s.fluxKill n s.nextStep).calHit 1 n).dcFlush n) s
  let s := (s.ownedPages f Base.acq 32).foldl (fun s n => s.acqKill n) s
  let s := (s.ownedPages f Base.adc 16).foldl (fun s a => s.adcDisable a) s
  let s := (s.ownedPages f Base.jport 8).foldl (fun s p => s.jportKill p) s
  let s := (s.ownedPages f Base.evg 32).foldl (fun s g => s.evgKill g) s
  let s := (s.ownedPages f Base.eth 2).foldl (fun s p => s.ethKill p) s
  (s.ownedPages f Base.seq 256).foldl (fun s n => s.seqDisable n) s

/-- The rings that function `f` owns and that hold anything but their reset state. -/
def State.ringsOf (s : State) (f : Nat) : List Nat := (s.rings.map Prod.fst).filter fun r => s.ringFn r == some f

/-- One function's reset starts (R412). -/
def State.flrStart (s : State) (f : Nat) : State :=
  if (s.fnSt f).flr.isSome then s
  else
    let t0 := s.nextStep
    let s := s.modFn f fun x => { x with flr := some (t0, .stopping), held := [] }
    let s := (s.ringsOf f).foldl (fun s r => s.modRing r fun x => { x with job := none }) s
    s.flrPages f

/-- A function-level reset of `f`; of function 0 it resets all (R412). -/
def State.flrGo (s : State) (f : Nat) : State :=
  if f = 0 then (List.range 64).foldl (fun s g => s.flrStart g) s else s.flrStart f

/-- FLR_INITIATE (R412). -/
def execFlrInitiate (f : Fin 64) (s : State) : Out := finish (s.flrGo f)

/-- LINK_DOWN_RESET (R389): a function-level reset of function 0. -/
def execLinkDownReset (s : State) : Out := finish (s.flrGo 0)

/-- FLR_SEQUENCER_DEADLINE (R412): 200 µs after t0. -/
def execFlrSequencerDeadline (f : Fin 64) (s : State) : Out :=
  match (s.fnSt f).flr with
  | some (t0, .stopping) =>
    if s.due (t0 + 100000) then
      let s := s.modFn f fun x => { x with flr := some (t0, .cut) }
      finish (s.seqKillAll fun n => s.owner (Base.seq n) == f.val)
    else .next s
  | _ => .next s

/-- Every record that the reset of `f` caused is in a device copy (R412). -/
def State.flrQuiet (s : State) (f : Nat) : Bool :=
  (s.ownedPages f Base.seq 256).all (fun n => s.seqStopped n && (s.seq n).shots.isEmpty && !(s.seq n).ending &&
    !(s.seq n).killReq) &&
  (s.dwait.all fun w =>
    match w.act with
    | .record r _ => s.ringFn r != some f
    | _ => true) &&
  (s.ownedPages f Base.acq 32).all (fun n => !s.acqActive n) && (s.owner Base.syn != f || s.syn.rounds.isEmpty)

/-- FLR_RINGS_DISABLE (R407, R412). -/
def execFlrRingsDisable (f : Fin 64) (s : State) : Out :=
  match (s.fnSt f).flr with
  | some (t0, .rings) => .next (s.modFn f fun x => { x with flr := some (t0, .rings) })
  | some (t0, _) =>
    if s.flrQuiet f then
      finish ((s.ringsOf f).foldl (fun s r => s.ringOff r) (s.modFn f fun x => { x with flr := some (t0, .rings) }))
    else .next s
  | none => .next s

/-- FLR_COMPLETE (R412, R415). The reset of function 0 leaves VF Enable clear; `ari` and `vfs` are what the host's writes of
the SR-IOV capability make of ARI Capable Hierarchy and NumVFs after it, and `vfs` > 0 sets VF Enable again (R390;
assumption log 8). -/
def execFlrComplete (f : Fin 64) (ari : Bool) (vfs : Fin 64) (s : State) : Out :=
  match (s.fnSt f).flr with
  | some (_, .rings) =>
    if (s.ringsOf f).any fun r => (s.ring r).stopping then .next s
    else
      let b := Base.fn f
      let s := (List.range 64).foldl (fun s v => s.modMsix (64 * f.val + v) fun _ => .reset) s
      let s := (((s.setReg (b + 0x010) 0).setReg (b + 0x014) 0).setFld b Reg.Fn.WA_COUNT 0).setFld b Reg.Fn.REC_DROP_COUNT 0
      let s := s.setFld b Reg.Fn.RA_DROP_COUNT 0
      let s := s.modFn f fun x =>
        { x with flr := none, pba := 0, ringPend := 0 }
      let s := if f.val = 0 then s.modFn 0 fun x => { x with vfEnable := decide (0 < vfs.val), numVfs := vfs, ari := ari } else s
      finish (s.raise b 6)
  | _ => .next s

end Sys2Proof.Machine
end

