-- ==== Sys2Proof/Machine/DramSteps.lean ====
section
/-!
DEFINITION. The DRAM controller's own steps (chapter 15): the choice and issue of commands, the check of what is read,
refresh, the readings of MR4 and the oscillators, the freeze and the way out of it, Cellar, the configuration in NVM.
-/
namespace Sys2Proof.Machine

/-! ### The freeze -/

/-- What the freeze registers hold of a cause (R440). -/
structure FreezeInfo where
  cause : Nat
  ch : Nat
  /-- The port of the request; 7 for a refresh or MR4 command. -/
  port : Nat
  blk : Nat
  cmd : Nat
  rank : Nat
  bank : Nat
  bg : Nat
  row : Nat
  col : Nat
  param : Nat
  crc : Nat
  rd : Nat
deriving DecidableEq, Repr

/-- The freeze registers capture a cause (R437, R440). -/
def State.captureFreeze (s : State) (i : FreezeInfo) : State :=
  let b := Base.mc
  let s := s.setReg (b + 0x074) (BitVec.ofNat 32 (2 ^ 31 + i.port * 2 ^ 8 + i.ch * 2 ^ 4 + i.cause))
  let s := s.setFld b Reg.Mc.FRZ_BLK i.blk
  let s := s.setReg (b + 0x07C)
    (BitVec.ofNat 32 (i.cmd * 2 ^ 28 + i.rank * 2 ^ 24 + i.bank * 2 ^ 22 + i.bg * 2 ^ 20 + i.row % 2 ^ 17))
  let s := s.setReg (b + 0x080) (BitVec.ofNat 32 (i.col * 2 ^ 24 + i.param))
  let s := s.setReg (b + 0x084) (BitVec.ofNat 32 (i.crc * 2 ^ 16 + i.rd))
  s.setFld64 b Reg.Mc.FRZ_TC_LO Reg.Mc.FRZ_TC_HI s.count

/-- The requester of a poisoned read asks again after the freeze: of a re-fetch, that is a request that waits (R436). -/
def DchSt.askAgain (d : DchSt) : List DramWait :=
  (((d.failing.toList.map Prod.fst) ++ d.inflight ++ d.reads).filter fun r => r.port == 0).map fun r =>
    ⟨0, 64, .req false r.da true⟩

/-- Every read in flight or queued ends without its data: a re-fetch is asked for again, the entries of rings stay
unconsumed, and their consumers ask for them anew (R432, R436). -/
def State.dropReads (s : State) : State :=
  let again := (List.range 4).flatMap fun c => (s.dch c).askAgain
  let s := { s with dwait := again ++ s.dwait }
  let s := forN 4 (fun c s => s.modDch c fun d => { d with reads := [], inflight := [], failing := none }) s
  (s.rings.filter fun e => !e.2.asked.isEmpty).foldl (fun s e => s.modRing e.1 fun x => { x with asked := [] }) s

/-- A cause freezes the controller: reads end with poison, an unfreeze under way has no further effect, and the first
cause is captured (R436, R437, R438). -/
def State.freeze (s : State) (i : FreezeInfo) : State :=
  let b := Base.mc
  let s := if s.bit b Reg.Mc.FRZ_VALID then s.setBit b Reg.Mc.FRZ_MORE true else s.captureFreeze i
  ({ s with unfreezing := false }.dropReads.setBit b Reg.Mc.FROZEN true).raise b 0

/-! ### The CRC cache -/

/-- Whether the CRC block of the block at `da` is cached at channel `c`, and modified (R433). -/
def State.crcCached (s : State) (c da : Nat) : Option Bool :=
  ((s.dch c).crcs.find? fun e => e.1 == crcBlock da).map Prod.snd

/-- Channel `c` uses the CRC block of the block at `da`, and modifies it for a write. Of the 512 cached blocks the one used
least recently goes, written back where it is modified (R433; assumption log 10). -/
def State.crcUse (s : State) (c da : Nat) (write : Bool) : State :=
  let m := write || s.crcCached c da == some true
  s.modDch c fun d => { d with crcs := ((crcBlock da, m) :: d.crcs.filter fun e => e.1 != crcBlock da).take 512 }

/-- The queued writes are issued in their order (R432, R438). -/
def State.issueWrites (s : State) (c : Nat) : State :=
  let s := (s.dch c).writes.foldl (fun s w => s.crcUse c w.da true) s
  s.modDch c fun d => { d with writes := [] }

/-! ### Issue -/

/-- The controller and its PHY are clocked: not in Off, Reset or Shutdown, and not in self-refresh (R432). -/
def State.mcClocked (s : State) (c : Nat) : Bool :=
  decide (2 ≤ s.fld Base.pwr Reg.Pwr.STATE ∧ s.fld Base.pwr Reg.Pwr.STATE ≤ 6) &&
    s.fld (Base.dch c) Reg.Dch.SR_STATE == 0

/-- The remaining slack of a request in ns (R427). -/
def State.slack (s : State) (r : DramReq) : Int := (2 * r.arrival + r.target : Int) - 2 * s.step0

/-- The urgency of a request (R427). -/
def State.urgency (s : State) (r : DramReq) : Nat :=
  if 3 * (r.target : Int) < 4 * s.slack r then 0
  else if (r.target : Int) < 2 * s.slack r then 1
  else if (r.target : Int) < 4 * s.slack r then 2 else 3

/-- Flux channel `n` raises panic: its bias queue holds fewer than 16 entries, and its ring an unread entry (R424). -/
def State.biasPanic (s : State) (n : Nat) : Bool :=
  s.enabled (Base.flux n) && decide ((s.flux n).dcq.length < 16) && s.ringUnread (s.fld (Base.flux n) Reg.Flux.BIAS_RING)

/-- The requester of a request raises panic now; of a spill write, it did so as the write entered (R424). -/
def State.panics (s : State) (r : DramReq) : Bool :=
  match r.use with
  | .stream n _ _ => s.tonePanic n
  | .bias n _ _ => s.biasPanic n
  | _ => r.panic || r.port == 0

/-- The index of a bank in the table of open rows. -/
def bankIdx (rank bg bank : Nat) : Nat := rank * 16 + bg * 4 + bank

/-- The row of a bank that is open, if one is. -/
def State.openRow (s : State) (c i : Nat) : Option Nat := SMap.find? (s.dch c).rows i

/-- The request's row is open (R426). -/
def State.rowHit (s : State) (c : Nat) (r : DramReq) : Bool :=
  let d := s.dramDecode (dramLa r.da)
  s.openRow c (bankIdx d.2.2.2.1 d.2.1 d.2.2.1) == some d.2.2.2.2

/-- Request `x` is chosen before request `y` (R426). -/
def State.before (s : State) (c : Nat) (x y : DramReq) : Bool :=
  if s.panics x != s.panics y then s.panics x
  else if s.urgency x != s.urgency y then decide (s.urgency y < s.urgency x)
  else if s.rowHit c x != s.rowHit c y then s.rowHit c x
  else if x.arrival != y.arrival then decide (x.arrival < y.arrival)
  else decide (x.port < y.port)

/-- The request to choose from a list (R426); of requests that no rule distinguishes, the first. -/
def State.chooseReq (s : State) (c : Nat) (l : List DramReq) : Option DramReq :=
  l.foldl (fun o x =>
    match o with
    | none => some x
    | some y => if s.before c x y then some x else some y) none

/-- A group of writes is to go on or to start (R426). -/
def State.writeTurn (s : State) (c : Nat) : Bool :=
  let d := s.dch c
  let q := min 64 d.writes.length
  let noRead := d.reads.isEmpty
  let stop := decide (q ≤ 16) || d.reads.any fun r => s.panics r || s.urgency r == 3
  q != 0 && (noRead || ((d.writing || decide (48 ≤ q)) && !stop))

/-- The request whose next command channel `c` issues: a read, or a write of the queue. -/
def State.nextReq (s : State) (c : Nat) : Option DramReq :=
  if s.writeTurn c then s.chooseReq c ((s.dch c).writes.take 64) else s.chooseReq c (s.dch c).reads

/-- The command that a request needs next, by its code in FRZ_CMD, and what it does to the open rows and queues. -/
def State.issueFor (s : State) (c : Nat) (r : DramReq) : State × Nat :=
  let d := s.dramDecode (dramLa r.da)
  let i := bankIdx d.2.2.2.1 d.2.1 d.2.2.1
  match s.openRow c i with
  | none => (s.modDch c fun x => { x with rows := SMap.insert x.rows i d.2.2.2.2 }, 1)
  | some row =>
    if row ≠ d.2.2.2.2 then (s.modDch c fun x => { x with rows := SMap.erase x.rows i }, 4)
    else if r.write then (s.modDch c fun x => { x with writes := x.writes.erase r }, 3)
    else (s.modDch c fun x => { x with reads := x.reads.erase r, inflight := x.inflight ++ [r] }, 2)

/-- What the freeze registers say of a command for a request. -/
def State.freezeInfo (s : State) (c : Nat) (r : DramReq) (cause cmd param crc rd : Nat) : FreezeInfo :=
  let d := s.dramDecode (dramLa r.da)
  ⟨cause, c, r.port, r.da / 64, cmd, d.2.2.2.1, d.2.2.1, d.2.1, d.2.2.2.2, d.1, param, crc, rd⟩

/-- The finding `v` holds of a command: cause 4 is a modified CRC block that fails its parity as a write needs it (R433). -/
def State.findingOk (s : State) (c : Nat) (r : DramReq) (cmd : Nat) (v : Nat × Nat) : Bool :=
  v.1 != 4 || (cmd == 3 && s.crcCached c r.da == some true)

/-- DRAM_COMMAND_ISSUE (R426, R428, R433, R435): channel `c` issues the next command of the request it chooses. `v` is what
the checks of that command find: cause and parameter. A refresh at its limit is issued by REFRESH. -/
def execDramCommandIssue (c : Fin 4) (v : Option (Nat × Nat)) (s : State) : Out :=
  if s.frozen || !s.mcClocked c then .next s
  else
    let s := s.modDch c fun d => { d with writing := s.writeTurn c }
    match s.nextReq c with
    | none => .next s
    | some r =>
      let t := s.issueFor c r
      match v.filter (s.findingOk c r t.2) with
      | none => finish (if t.2 = 3 then t.1.crcUse c r.da true else t.1)
      | some (cause, param) =>
        finish (t.1.freeze (s.freezeInfo c r cause t.2 (if cause = 2 then param else 0) 0 0))

/-! ### Reads return -/

/-- A read's data is delivered: MAX_LAT follows (R442). -/
def State.noteLatency (s : State) (c : Nat) (r : DramReq) : State :=
  let ns := 2 * (s.step0 - r.arrival)
  if s.fld (Base.dch c) Reg.Dch.MAX_LAT < ns then s.setFld (Base.dch c) Reg.Dch.MAX_LAT (min ns 0xFFFF) else s

/-- What a read brings back: the 64 bytes and the CRC read with them. Unless `back` says otherwise they are the block as it
was written, and its CRC (R433; assumption log 10). -/
def DramReq.got (r : DramReq) (back : Option (BitVec 512 × BitVec 16)) : List Byte × Nat :=
  match back with
  | some (bits, crc) => (bytesLE bits.toNat 64, crc.toNat)
  | none => (r.data, blockCrc r.da r.data)

/-- The data matches its CRC (R433). -/
def DramReq.good (r : DramReq) (got : List Byte × Nat) : Bool := blockCrc r.da got.1 == got.2

/-- The data is delivered to its requester (R33, R181, R373, R401, R434). -/
def State.deliverRead (s : State) (r : DramReq) (bs : List Byte) : State :=
  match r.use with
  | .none => s
  | .stream n ring i =>
    let s := s.ringData ring i bs
    State.ringDrain ring (fun s i bs => s.streamIn n ring i bs) (s.ring ring).asked.length s
  | .bias n ring i =>
    let s := s.ringData ring i bs
    State.ringDrain ring (fun s i bs => s.biasIn n ring i bs) (s.ring ring).asked.length s
  | .move f ring i =>
    let s := s.ringData ring i bs
    (State.ringDrain ring (fun s i bs => s.moveIn f ring i bs) (s.ring ring).asked.length s).wbWrite f ring

/-- A read ends well at channel `c`. -/
def State.readDone (s : State) (c : Nat) (r : DramReq) (bs : List Byte) : State := (s.noteLatency c r).deliverRead r bs

/-- The first failure of a read is counted and captured (R434). -/
def State.readFails (s : State) (c : Nat) (r : DramReq) : State :=
  let s := (s.inc (Base.dch c) Reg.Dch.CRC_FAIL_COUNT).err (Base.dch c) 0x10 (r.da / 64)
  s.modDch c fun d => { d with failing := some (r, 0) }

/-- DRAM_READ_COMPLETE (R428, R433, R434): the oldest read in flight returns, with its data or, as `back` says, other bytes
or another CRC. `parity`: the cached CRC block that checks it fails its parity; a clean one is read again from DRAM. -/
def execDramReadComplete (c : Fin 4) (back : Option (BitVec 512 × BitVec 16)) (parity : Bool) (s : State) : Out :=
  match (s.dch c).inflight, (s.dch c).failing with
  | r :: rs, none =>
    let s := s.modDch c fun d => { d with inflight := rs }
    let got := r.got back
    if r.fwd then
      finish (if r.good got then s.readDone c r got.1 else s.freeze (s.freezeInfo c r 4 0 0 0 0))
    else if parity && s.crcCached c r.da == some true then finish (s.freeze (s.freezeInfo c r 4 2 0 0 0))
    else
      let s := s.crcUse c r.da false
      finish (if r.good got then s.readDone c r got.1 else s.readFails c r)
  | _, _ => .next s

/-- DRAM_REREAD_COMPLETE (R434): a re-read of the failed block and of its CRC returns, `back` as for DRAM_READ_COMPLETE. -/
def execDramRereadComplete (c : Fin 4) (back : Option (BitVec 512 × BitVec 16)) (s : State) : Out :=
  match (s.dch c).failing with
  | none => .next s
  | some (r, k) =>
    let got := r.got back
    if r.good got then
      let s := s.modDch c fun d => { d with failing := none }
      finish (((s.inc (Base.dch c) Reg.Dch.RECRC_COUNT).readDone c r got.1).raise (Base.dch c) 0)
    else if k = 0 then finish (s.modDch c fun d => { d with failing := some (r, 1) })
    else finish (s.freeze (s.freezeInfo c r 1 2 0 (blockCrc r.da got.1) got.2))

/-! ### Refresh and readings -/

/-- What the checker finds of a refresh or MR4 command, which goes to no request's block, freezes the controller; a freeze
that stands already takes note (R435, R436, R437). -/
def State.checked (s : State) (c : Nat) (cmd rank bank : Nat) (v : Option (Nat × Nat)) : State :=
  match v with
  | some (cause, param) =>
    s.freeze ⟨cause, c, 7, 0, cmd, rank, bank % 4, bank / 4, 0, 0, if cause = 2 then param else 0, 0, 0⟩
  | none => s

/-- REFRESH (R429, R435): bank `bank` (4 × bank group + bank) of a rank is precharged where it is open, and refreshed. `v` is
what the checker finds of the command: cause and parameter. -/
def execRefresh (c : Fin 4) (rank : Fin 2) (bank : Fin 16) (v : Option (Nat × Nat)) (s : State) : Out :=
  if !s.mcClocked c || decide (s.fld Base.mc Reg.Mc.RANKS < rank.val) then .next s
  else
    let s := s.modDch c fun d => { d with rows := SMap.erase d.rows (rank.val * 16 + bank.val) }
    let s := s.setFld (Base.dch c) Reg.Dch.REF_COUNT (s.fld (Base.dch c) Reg.Dch.REF_COUNT + 1)
    finish (s.checked c 5 rank bank v)

/-- An MR4 reading asks for more than 4 times the base rate, or reports the high-temperature limit (R430; the codes are
those of the LPDDR5X family, assumption log 16). -/
def mr4Hot (m : BitVec 5) : Bool := m == 0x0E#5 || m == 0x0F#5 || m == 0x1F#5

/-- How many taps one oscillator asks to move, and the baseline after the move (R430; assumption log 16). -/
def oscMove (base now : Nat) : Nat × Nat :=
  if base + Config.dqTapCounts < now then (1, base + Config.dqTapCounts)
  else if now + Config.dqTapCounts < base then (1, base - Config.dqTapCounts)
  else (0, base)

/-- MR4_OSC_READ (R430, R435): MR4 of each rank and the two oscillator counts; only MR4 is read during a freeze (R436). `v`
is what the checker finds of the command. -/
def execMr4OscRead (c : Fin 4) (mr4a mr4b : BitVec 5) (dqi dqo : BitVec 16) (v : Option (Nat × Nat)) (s : State) : Out :=
  let b := Base.dch c
  if !s.mcClocked c then .next s
  else
    let s := s.checked c 8 0 0 v
    let two := s.fld Base.mc Reg.Mc.RANKS = 1
    let s := s.setFld b Reg.Dch.MR4_R0 mr4a.toNat
    let s := if two then s.setFld b Reg.Dch.MR4_R1 mr4b.toNat else s
    let hot := mr4Hot mr4a || (two && mr4Hot mr4b)
    let s := s.setStat b 1 hot
    let s := if hot then (s.raise b 3).raise Base.mc 2 else s
    if s.frozen then finish s
    else
      let s := (s.setFld b Reg.Dch.OSC_DQI dqi.toNat).setFld b Reg.Dch.OSC_DQO dqo.toNat
      match (s.dch c).base with
      | none => finish (s.modDch c fun d => { d with base := some (dqi.toNat, dqo.toNat) })
      | some (bi, bo) =>
        let i := oscMove bi dqi.toNat
        let o := oscMove bo dqo.toNat
        finish (s.modDch c fun d => { d with base := some (i.2, o.2), moves := d.moves + i.1 + o.1 })

/-- The timing moves that a frame boundary makes, and the budgets that resume at the first one after Cellar (R430, R432). -/
def State.dramMoves (s : State) : State :=
  forN 4 (fun c s =>
    let s := if (s.dch c).resting then s.modDch c fun d => { d with resting := false } else s
    if (s.dch c).moves = 0 then s
    else
      let s := s.addSat (Base.dch c) Reg.Dch.ADJ_COUNT (s.dch c).moves
      (s.raise (Base.dch c) 1).modDch c fun d => { d with moves := 0 }) s

/-! ### Out of a freeze -/

/-- Step `k` of full training fails on channel `c` (R431). -/
def State.dramFails (s : State) (c k : Nat) : State := (s.err (Base.dch c) 0x11 k).raise (Base.dch c) 2

/-- A write of 1 to MC_UNFREEZE (R438). -/
def State.unfreezeGo (s : State) : State :=
  if !s.frozen then s.err Base.mc 0x12 0 else { s with unfreezing := true }

/-- UNFREEZE_COMPLETE (R438, R431): `fail` is the channel and the number of a training step that failed, where RETRAIN
asked for training. -/
def execUnfreezeComplete (fail : Option (Fin 4 × Fin 9)) (s : State) : Out :=
  let b := Base.mc
  let retrain := s.bit b Reg.Mc.RETRAIN
  if !s.unfreezing then .next s
  else
    let s := { s with unfreezing := false }
    match (if retrain then fail else none) with
    | some (c, k) => finish (s.dramFails c k.val)
    | none =>
      let s := if retrain then forN 4 (fun c s => s.modDch c fun d => { d with base := none, rows := [] }) s else s
      let s := (forN 4 (fun c s => s.issueWrites c) s).setBit b Reg.Mc.FROZEN false
      let s := s.serveWaits
      let bells := s.doorbells
      let s := bells.foldl State.bellOut { s with doorbells := [] }
      finish ((s.inc b Reg.Mc.FREEZE_COUNT).raise b 1)

/-! ### Cellar -/

/-- The DRAM enters self-refresh: queued writes are issued, except those that a freeze holds, and every modified CRC block
is written back; reads end without their data; every rank gets one all-bank refresh (R432, R438; assumption log 16). -/
def State.dramSleep (s : State) : State :=
  forN 4 (fun c s =>
    let s := if s.frozen then s else s.issueWrites c
    let s := s.setFld (Base.dch c) Reg.Dch.REF_COUNT
      (s.fld (Base.dch c) Reg.Dch.REF_COUNT + 1 + s.fld Base.mc Reg.Mc.RANKS)
    (s.setFld (Base.dch c) Reg.Dch.SR_STATE 2).modDch c fun d =>
      { d with writing := false, rows := [], crcs := d.crcs.map fun e => (e.1, false) }) s.dropReads

/-- The DRAM is active again, its oscillator baseline to be taken anew (R432). -/
def State.dramWake (s : State) : State :=
  forN 4 (fun c s => (s.setFld (Base.dch c) Reg.Dch.SR_STATE 0).modDch c fun d => { d with base := none, resting := true }) s

/-! ### Configuration -/

/-- A region word, base and size in MiB, satisfies R423 beside the other region's word. -/
def State.regionOk (s : State) (w other : Word) : Bool :=
  let lo (w : Word) := (w.toNat % 2 ^ 16) * 2 ^ 20
  let size (w : Word) := (w.toNat / 2 ^ 16) * 2 ^ 20
  size w == 0 ||
    (decide (256 * 2 ^ 20 ≤ lo w) && decide (lo w + size w ≤ s.dramEnd) &&
      (size other == 0 || decide (lo w + size w ≤ lo other) || decide (lo other + size other ≤ lo w)))

/-- A write of the vat region's word, or of the ring region's (R423). -/
def State.regionWrite (s : State) (ring : Bool) (w : Word) : State :=
  let off := if ring then 0x050 else 0x04C
  let other := s.reg (Base.mc + (if ring then 0x04C else 0x050))
  if s.rings.any (fun e : Nat × RingSt => e.2.en) || !s.regionOk w other then s.err Base.mc 0x11 off
  else s.setReg (Base.mc + off) w

/-- A write of 1 to NV_STORE; one while a store is in progress changes nothing (R419). -/
def State.nvStoreGo (s : State) : State :=
  let b := Base.mc
  if s.dramNvm.storing.isSome then s
  else if 1000 ≤ s.dramNvm.stores then s.err b 0x14 s.dramNvm.stores
  else
    let v := (s.fld b Reg.Mc.NV_DATA_RATE, s.fld b Reg.Mc.NV_CAP, s.fld b Reg.Mc.NV_RANKS)
    let s := s.setBit b Reg.Mc.NV_BUSY true
    { s with dramNvm := { s.dramNvm with storing := some v } }

/-- NV_STORE_COMPLETE (R419). -/
def execNvStoreComplete (s : State) : Out :=
  match s.dramNvm.storing with
  | none => .next s
  | some (rate, cap, ranks) =>
    let s := s.setBit Base.mc Reg.Mc.NV_BUSY false
    finish { s with dramNvm := { s.dramNvm with
      stored := true, rate := rate, cap := cap, ranks := ranks, stores := s.dramNvm.stores + 1, storing := none } }

/-- The ceiling of a data rate (R32). -/
def dramCeiling (rate : Nat) : Nat := if rate = 0 then 1536 else if rate = 1 then 1800 else 2048

/-- Starter applies the configuration in NVM, or the defaults where none was stored or it fails its check (R418, R419). -/
def State.dramApply (s : State) (good : Bool) : State :=
  let b := Base.mc
  let n := { s.dramNvm with stored := s.dramNvm.stored && good }
  let rate := if n.stored then n.rate else 0
  let cap := if n.stored then n.cap else n.found.1
  let ranks := if n.stored then n.ranks else n.found.2
  let s := ((s.setFld b Reg.Mc.DATA_RATE rate).setFld b Reg.Mc.CAP cap).setFld b Reg.Mc.RANKS ranks
  let s := s.setFld b Reg.Mc.CEILING (dramCeiling rate)
  let s := ((s.setFld b Reg.Mc.NV_DATA_RATE rate).setFld b Reg.Mc.NV_CAP cap).setFld b Reg.Mc.NV_RANKS ranks
  s.setBit b Reg.Mc.NV_DEFAULT (!n.stored)

/-- Ports that raise panic now: a re-fetch always, the others by their conditions (R424). -/
def State.panicLive (s : State) : Nat :=
  let re := (s.dwait.any fun w => w.port == 0) || (List.range 4).any fun c => (s.dch c).reads.any fun r => r.port == 0
  re.toNat + 2 * ((List.range 512).any s.tonePanic).toNat + 4 * ((List.range 32).any s.acqPanic).toNat +
    8 * ((List.range 96).any s.biasPanic).toNat

/-- Requests queued at a channel (STAT.ACTIVE). -/
def State.dchActive (s : State) (c : Nat) : Bool :=
  !(s.dch c).reads.isEmpty || !(s.dch c).writes.isEmpty || !(s.dch c).inflight.isEmpty || (s.dch c).failing.isSome

/-- The controller page's STAT: ACTIVE and COND (R440). -/
def State.mcStat (s : State) : Nat := ((List.range 4).any s.dchActive).toNat + 2 * s.frozen.toNat

end Sys2Proof.Machine
end

