-- ==== Sys2Proof/Machine/Timeline.lean ====
section
/-!
DEFINITION. Chapter 03: SYNC and the loading of the timeline, the tiles and their conditions (R38 to R42), frame
boundaries, the loss and the return of REFCLK; and what leaving a device state does to the blocks (R521 to R523).
-/
namespace Sys2Proof.Machine

/-- Change what is held of power, reset and debug. -/
def State.modPower (s : State) (f : PowerSt → PowerSt) : State := { s with power := f s.power }

/-! ### Leaving device states -/

/-- The device leaves Running: every sequencer receives its immediate disable, and so does what a sequencer already
stopped left under way (R129); the syndrome unit receives its own (R309). -/
def State.leaveRunning (s : State) : State :=
  let s := (List.range 256).foldl (fun s n => if s.seqAlive n then s.seqKillReq n else s.killStarted n s.nextStep) s
  if s.enabled Base.syn || s.synActive then s.synKill else s

/-- The device leaves Ready and Running: the lanes receive their immediate disable (R279). -/
def State.leaveLanes (s : State) : State :=
  forN 64 (fun n s => if s.enabled (Base.lane n) || (s.lane n).issuing then s.laneKill n else s) s

/-- The output channels, ADCs and tone engines of a tile. -/
def tileOuts (t : Nat) : List Nat := (List.range 48).filter fun k => outTile k == t
def tileAdcs (t : Nat) : List Nat := (List.range 16).filter fun a => adcTile a == t

/-- Change what the thermal block holds. -/
def State.modTherm (s : State) (f : ThermSt → ThermSt) : State := { s with therm := f s.therm }

/-- The temperature of die sensor `d`, as TEMP holds it (R482). -/
def State.dieTemp (s : State) (d : Nat) : Int := signed 16 (s.fld Base.thm Reg.Thm.TEMP (16 + d))

/-- Bit `i` of COMP_EN (R494). -/
def State.compOn (s : State) (i : Nat) : Bool := (s.fld Base.thm Reg.Thm.COMP_EN).testBit i

/-- Change the compensation of a die's PLL. -/
def State.modPll (s : State) (d : Nat) (f : PllComp → PllComp) : State :=
  s.modTherm fun x =>
    { x with plls := SMap.set (fun _ => PllComp.reset) x.plls d (f (SMap.get (fun _ => PllComp.reset) x.plls d)) }

/-- The PLL of die `d` locks: with compensation on it chooses its VCO band, and the loop settings with it, from the die sensor
(R494; assumption log 68). -/
def State.pllLocks (s : State) (d : Nat) : State :=
  if s.compOn 0 then s.modPll d fun _ => ⟨Config.vcoBand d (s.dieTemp d), Config.loopCode d (s.dieTemp d)⟩ else s

/-- A tile's lock bit, in its page and in TL_STATE (R90, R92). -/
def State.setLock (s : State) (t : Nat) (on : Bool) : State :=
  let w := s.fld Base.tl Reg.Tl.TILE_LOCK
  let w' := if on then w ||| 2 ^ t else if w.testBit t then w - 2 ^ t else w
  (s.setFld Base.tl Reg.Tl.TILE_LOCK w').setBit (Base.tile t) Reg.Tile.LOCK on

/-- A tile's PLL is not locked: it is not aligned, its outputs and ADCs are Off (R78, R79, R209, R239). -/
def State.tileOff (s : State) (t : Nat) : State :=
  let s := (s.setLock t false).setBit (Base.tile t) Reg.Tile.ALIGNED false
  let s := (tileOuts t).foldl State.outCells s
  (tileAdcs t).foldl State.adcCells s

/-- The tiles are powered down (R522). -/
def State.tilesDown (s : State) : State :=
  forN 8 (fun t s => (s.tileOff t).modTile t fun x => { x with pll := false }) s

/-- The enabled tiles are powered and their PLLs started (R79, R522). -/
def State.tilesUp (s : State) : State :=
  forN 8 (fun t s => s.modTile t fun x => { x with pll := (s.fld Base.tl Reg.Tl.TILE_EN).testBit t }) s

/-- STATE shows a state (R522). -/
def State.setDev (s : State) (code : Nat) : State :=
  (s.setFld Base.pwr Reg.Pwr.STATE code).raise Base.pwr 9

/-- What leaving Ready or Running for a state with unpowered tiles does. -/
def State.powerDown (s : State) : State :=
  let s := if s.running then s.leaveRunning else s
  if s.inDev .ready || s.running then s.leaveLanes.tilesDown else s

/-- A cause of waking (R535): an entry into Cellar that has not yet reached the DRAM is abandoned; in Cellar, the
transition back begins. -/
def State.wakeGo (s : State) : State :=
  match s.power.trans with
  | some x =>
    if x.dest = 6 then
      let s := s.modPower fun p => { p with trans := none }
      if x.origin = 4 then s.tilesUp else s
    else s
  | none =>
    if s.inDev .cellar then
      let s := forN 4 (fun c s => s.setFld (Base.dch c) Reg.Dch.SR_STATE 3) s
      s.modPower fun p => { p with trans := some ⟨p.origin, 6, false⟩ }
    else s

/-! ### SYNC -/

/-- TL_EPOCH as held (R70). -/
def State.tlEpoch (s : State) : Nat := s.fld Base.tl Reg.Tl.EPOCH_LO * 2 ^ 16 + s.fld Base.tl Reg.Tl.EPOCH_HI * 2 ^ 32

/-- SYNC is sampled: the core die is powered and out of POR_N, and REFCLK is there (R68, R73, R521). -/
def State.syncAlive (s : State) : Bool := !s.refLost && !s.inDev .off && !s.power.por

/-- The count that the 16th period after the present one will have (R71): a load still pending then counts on from its own
value. -/
def State.countIn16 (s : State) : Nat :=
  match s.loadIn with
  | some (left, e) => e + (16 - left)
  | none => s.count + 16

/-- SYNC_EDGE (R68, R69, R71): a rising edge is sampled in the present period; `early` and `late` are what the
neighbouring taps say. -/
def execSyncEdge (early late : Bool) (s : State) : Out :=
  let b := Base.tl
  if !s.syncAlive then .next s
  else
    let s := s.setFld b Reg.Tl.EDGES (s.fld b Reg.Tl.EDGES + 1)
    let s := (s.setBit b Reg.Tl.MARGIN_EARLY early).setBit b Reg.Tl.MARGIN_LATE late
    if s.bit b Reg.Tl.ARM && s.loadIn.isNone then finish { s with loadIn := some (16, s.tlEpoch) }
    else if s.bit b Reg.Tl.CHECK && s.bit b Reg.Tl.LOADED &&
        s.countIn16 % 2 ^ (16 + s.fld b Reg.Tl.SYNC_PER) != 0 then
      finish ((s.setBit b Reg.Tl.SLIP true).raise b 1)
    else finish s

/-- TIMELINE_LOAD (R69): in the 16th period after a loading edge the count takes TL_EPOCH. What has been carried out at
boundaries of the old count is forgotten: the boundaries of the new count are others. -/
def execTimelineLoad (s : State) : Out :=
  let b := Base.tl
  match s.loadIn with
  | some (0, e) =>
    let s : State := { s with loadIn := none, count := e, frameAt := none, epochAt := none,
                              cal := { s.cal with ripeAt := none }, nt := { s.nt with hist := [] } }
    let s := (s.fluxes.map Prod.fst).foldl (fun s n => s.modFlux n fun x => { x with edgeAt := none }) s
    finish ((((s.setBit b Reg.Tl.LOADED true).setBit b Reg.Tl.RUN true).setBit b Reg.Tl.ARM false).raise b 0)
  | _ => .next s

/-- A write of 1 to SYNC_CTL.ARM (R72). -/
def State.armSync (s : State) : State :=
  if s.running then s.err Base.tl 0x11 0 else s.setBit Base.tl Reg.Tl.ARM true

/-- A read of TL_NOW_LO (R90). -/
def State.tlNowGet (s : State) : State :=
  (s.setFld Base.tl Reg.Tl.TL_NOW_HI (s.count / 2 ^ 32)).respond (s.count % 2 ^ 32)

/-- A write of 1 to CTL.SNAP (R89). -/
def State.snapGo (s : State) : State :=
  let b := Base.tl
  let s := s.setFld64 b Reg.Tl.LATCH_TC_LO Reg.Tl.LATCH_TC_HI s.latch.1
  (s.setFld b Reg.Tl.LATCH_NT_NS s.latch.2.1).setFld b Reg.Tl.LATCH_NT_FRAC s.latch.2.2

/-- The transition from Configured to Ready is under way: the tiles have been powered (R522). -/
def State.tilesRising (s : State) : Bool := s.inDev .configured && s.power.trans.any fun x => x.dest == 4

/-- A write of TILE_EN (R79). While the transition to Ready is under way, the PLLs follow the new value: that of a tile whose
bit is now 0 does not run, and what the tile had locked is Off (DEDUCED, assumption log 62). -/
def State.tileEnPut (s : State) (v : Nat) : State :=
  if s.inDev .configured then
    let s := s.setFld Base.tl Reg.Tl.TILE_EN v
    if s.tilesRising then forN 8 (fun t s => if v.testBit t then s else s.tileOff t) s.tilesUp else s
  else s.err Base.tl 0x13 (v % 256)

/-! ### Tile conditions -/

/-- TRIM of a tile, in units of 20 fs. -/
def State.tileTrim (s : State) (t : Nat) : Int := signed 16 (s.fld (Base.tile t) Reg.Tile.TRIM)

/-- The phase wander of a tile, in units of 10 fs (R38, R80). -/
def State.wander (s : State) (t : Nat) : Nat :=
  let held := if s.bit (Base.tile t) Reg.Tile.TRACK_HOLD then signed 16 (s.fld (Base.tile t) Reg.Tile.TRACK_ERR) else 0
  (2 * s.tileTrim t + held).natAbs

/-- The condition of a tile is evaluated: causes above their maxima, TILE_SKEW, and the condition bit with its release
below 80 % (R38, R40, R41). Shots in flight see a bit that is set (R42). -/
def State.tileCond (s : State) (t : Nat) : State :=
  let b := Base.tile t
  let x := s.tile t
  let temp := decide (480 < x.dTemp)
  let supply := decide (50 < x.dSupply)
  let phase := decide (10000 < s.wander t)
  let s := ((s.setBit b Reg.Tile.CAUSE_TEMP temp).setBit b Reg.Tile.CAUSE_SUPPLY supply).setBit b Reg.Tile.CAUSE_PHASE phase
  if temp || supply || phase then ((s.setStat b 1 true).raise b 0).shotsSkew t
  else if s.stat b 1 ∧ x.dTemp < 384 ∧ x.dSupply < 40 ∧ s.wander t < 8000 then
    (s.setStat b 1 false).modTile t fun x => { x with condEnd := s.step0 + 1 }
  else s

/-- The drift tracker of a locked tile measures `err`, in units of 10 fs, and moves TRIM by one step of 20 fs towards
zero error (R80, R81). An error of less than a step moves nothing. An error that TRACK_ERR cannot hold is held at the limit
of its 16 bits (DESIGN CHOICE, assumption log 62: the spec gives no such case). -/
def State.track (s : State) (t : Nat) (err : Int) : State :=
  let b := Base.tile t
  let s := s.setFld b Reg.Tile.TRACK_ERR (unsigned 16 (clamp (-32768) 32767 err))
  let trim := s.tileTrim t
  let next := if 2 ≤ err then min 12500 (trim + 1) else if err ≤ -2 then max (-12500) (trim - 1) else trim
  let s :=
    if s.bit b Reg.Tile.TRACK_HOLD || next == trim then s
    else
      let s := s.setFld b Reg.Tile.TRIM (unsigned 16 next)
      if next.natAbs = 12500 then s.raise b 1 else s
  s.tileCond t

/-- The tile's PLL is locked; only then the tile is measured, and raises its conditions (R79). -/
def State.tileLive (s : State) (t : Nat) : Bool := s.bit (Base.tile t) Reg.Tile.LOCK

/-- TILE_ALIGNMENT (R77, R78, R494): a started PLL has locked and the marker's link delay has been measured, in tc. -/
def execTileAlignment (t : Fin 8) (delay : Int) (s : State) : Out :=
  let b := Base.tile t
  let off := 12 - delay
  if !(s.tile t).pll || s.tileLive t || s.refLost then .next s
  else
    let s := (s.setLock t true).pllLocks (t + 1)
    if off.natAbs ≤ 8 then
      let s := (s.setFld b Reg.Tile.EB_OFFSET (unsigned 5 off)).setBit b Reg.Tile.ALIGNED true
      let s := (tileOuts t).foldl State.outEnterReady s
      finish ((tileAdcs t).foldl State.adcEnterReady s)
    else
      let s := (s.err b 0x12 (unsigned 8 off)).raise b 3
      finish ((tileAdcs t).foldl State.adcEnterReady s)

/-- TILE_PLL_LOCK_LOST (R76). -/
def execTilePllLockLost (t : Fin 8) (s : State) : Out :=
  let b := Base.tile t
  if !s.tileLive t || s.refLost then .next s
  else
    let s := ((s.inc b Reg.Tile.LOSS_COUNT).raise b 2).raise Base.tl 4
    let spoil (x : Shot) := if x.tiles.getLsbD t then x.flag Flag.SPOILED else x
    let s := (s.seqs.map Prod.fst).foldl (fun s n => s.modSeq n fun q => { q with shots := q.shots.map spoil }) s
    let s := (tileOuts t).foldl State.outKill s
    let s := (tileAdcs t).foldl State.adcKill s
    let s := ((s.fluxes.map Prod.fst).filter fun n => fluxTile n == t.val).foldl (fun s n => s.fluxKill n s.nextStep) s
    finish (s.tileOff t)

/-! ### Frame boundaries -/

/-- The budget registers as they stand come into force, and the units used return to 0 (R26, R29). -/
def State.budgetReload (s : State) : State :=
  { s with used := [], limits := s.regs.filter fun e => isBudgetReg e.1 }

/-- FRAME_BOUNDARY (R26, R29, R80, R89, R206, R210 to R212, R231, R237, R239 to R243, R430): `phase` is what the drift
trackers measure, in units of 10 fs, and `ctPhase` the phase of CAL_TONE (R520). -/
def execFrameBoundary (phase : List Int) (ctPhase : BitVec 32) (s : State) : Out :=
  if !s.run || s.count % 256 != 0 || s.frameAt == some s.count then .next s
  else
    let s := s.budgetReload.setFld Base.cal Reg.Cal.CT_PHASE ctPhase.toNat
    let s := { s with latch := (s.count, s.fld Base.nclk Reg.Nclk.NT_NS, s.fld Base.nclk Reg.Nclk.NT_FRAC) }
    let s := forN 8 (fun t s => if s.tileLive t then s.track t (phase.getD t 0) else s) s
    let s := (s.outs.map Prod.fst).foldl State.outFrame s
    let s := (s.adcs.map Prod.fst).foldl State.adcFrame s
    let s := (s.routs.map Prod.fst).foldl State.routFrame s
    let s := s.dramMoves.serveWaits
    let s := s.modPower fun p => { p with trans := p.trans.map fun x => { x with framed := true } }
    finish { s with frameAt := some s.count }

/-! ### Loss of REFCLK -/

/-- What a loss of REFCLK leaves of the transition under way (R87, R522, R523): an entry into Cellar and the end of a warm
reset go on, a wake ends in Configured, any other gives way to Configured. The table of R522 has no transition out of Cellar
for the loss: the device stays there until it wakes, and then returns to Configured (DEDUCED, assumption log 62). -/
def State.transLost (s : State) : Option Trans :=
  s.power.trans.bind fun x =>
    if x.dest == 6 || s.inDev .reset then some x
    else if s.inDev .cellar then some { x with dest := 3 }
    else none

/-- REFCLK_LOST (R87): flags and clocks, immediate disables, shots, and the device enters Configured. A device that is not
powered, or that POR_N holds in reset, has no flag to set. -/
def execRefclkLost (s : State) : Out :=
  let b := Base.tl
  if s.refLost then .next s
  else if s.inDev .off || s.power.por then .next { s with refLost := true }
  else
    let s : State := { s with refLost := true, loadIn := none }
    let s := ((s.setBit b Reg.Tl.RUN false).setBit b Reg.Tl.LOADED false).setBit b Reg.Tl.REF_PRESENT false
    let s := ((s.setBit b Reg.Tl.CORE_LOCK false).setBit b Reg.Tl.REF_LOST true).raise b 2
    let s := s.raise Base.nclk 3
    let spoil (x : Shot) := if x.inFlight s.step0 then x.flag Flag.SPOILED else x
    let s := (s.seqs.map Prod.fst).foldl (fun s n => s.modSeq n fun q => { q with shots := q.shots.map spoil }) s
    let s := s.leaveRunning
    let s := forN 48 (fun k s => s.outKill k) s
    let s := forN 16 (fun a s => s.adcKill a) s
    let s := (s.tones.map Prod.fst).foldl (fun s n => s.toneKill n s.nextStep) s
    let s := (s.fluxes.map Prod.fst).foldl (fun s n =>
      (s.fluxKill n s.nextStep).modFlux n fun x => { x with ramp := none }) s
    let s := (s.routs.map Prod.fst).foldl (fun s n => s.routKill n s.nextStep true) s
    let s := (s.acqs.map Prod.fst).foldl State.acqKill s
    let left := s.transLost
    let s := s.modPower fun p => { p with origin := 3, trans := left }
    let up := s.inDev .ready || s.running
    let s := s.leaveLanes.tilesDown
    finish (if up then s.setDev 3 else s)

/-- REFCLK_RETURN (R88, R494): the core PLL relocks; the count holds its value until a SYNC edge loads it. -/
def execRefclkReturn (s : State) : Out :=
  if !s.refLost then .next s
  else
    let s : State := { s with refLost := false }
    if s.inDev .off || s.power.por then .next s
    else finish (((s.setBit Base.tl Reg.Tl.REF_PRESENT true).setBit Base.tl Reg.Tl.CORE_LOCK true).pllLocks 0)

end Sys2Proof.Machine
end

