-- ==== Sys2Proof/Machine/Events.lean ====
section
/-!
DEFINITION. Chapter 16: the steps of the event fabric (R443 to R457) and the accesses to the interrupt routes (R460,
R464). Publishing and firing are in Machine/Irq.lean.
-/
namespace Sys2Proof.Machine

/-! ### Publishing -/

/-- FIRE bits written to a group page: one window, one publish on each channel (R445, R447). -/
def State.evFire (s : State) (g bits : Nat) : State :=
  (List.range 8).foldl (fun s i => if bits.testBit i then s.publish (8 * g + i) else s) s.newWindow

/-- Further publishes on channel `k` in the window of one already carried out (R447). -/
def State.coincide (s : State) (k n : Nat) : State :=
  let b := evgPage k
  if n = 0 then s
  else
    (s.setFld b Reg.Evg.COINCIDE (s.fld b Reg.Evg.COINCIDE ||| 2 ^ (k % 8))).addSat b Reg.Evg.MERGE_COUNT n (k % 8)

/-- EVCH_PUBLISH (R104, R445 to R447): the PUBLISH commands queued for one step execute together. -/
def execEvchPublish (k : Fin 256) (s : State) : Out :=
  match s.dueCmd (s.evch k).queue 0 with
  | none => .next s
  | some c =>
    let now := (s.evch k).queue.filter fun x => x.step == c.step
    let s := s.modEvch k fun e => { e with queue := e.queue.filter fun x => x.step != c.step }
    let off := s.evOff k
    let s := (s.newWindow.publish k (occ := some c.step)).coincide k (now.length - 1)
    finish (if off then now.foldl (fun s x => s.charge x.tag Flag.CMD_FAULT) s else s)

/-! ### Completion -/

/-- A firing reaches the ENABLE or DISABLE input of group `g`; firings of one window act once, and DISABLE governs
(R451, R452, R454). -/
def State.groupInput (s : State) (g window : Nat) (dis : Bool) : State :=
  let b := Base.evg g
  let x := s.evg g
  let x := if x.window = window then x else ⟨window, false, false⟩
  if (if dis then x.dis else x.en) then
    let s := s.setFld b (if dis then Reg.Evg.CO_DIS else Reg.Evg.CO_EN) 1
    s.inc b Reg.Evg.GMERGE_COUNT
  else
    let s := s.modEvg g fun _ => { x with en := x.en || !dis, dis := x.dis || dis }
    s.setEnable b (!(x.dis || dis))

/-- The action of a firing of channel `k` on its group ACT_GRP. -/
def State.groupAct (s : State) (k : Nat) : State :=
  let b := evgPage k
  let grp := s.fld b Reg.Evg.ACT_GRP (k % 8)
  match s.fld b Reg.Evg.ACT (k % 8) with
  | 1 => s.groupInput grp (s.evch k).window false
  | 2 => s.groupInput grp (s.evch k).window true
  | _ => s

/-- The channel has reached its loop limit: CH_EN is cleared and LOOP set (R453). -/
def State.loopEnd (s : State) (k : Nat) : State :=
  let b := evgPage k
  if s.fld b Reg.Evg.LOOP_RUN (k % 8) = 16 then (s.setFld b Reg.Evg.CH_EN 0 (k % 8)).raise b (24 + k % 8) else s

/-- FIRING_COMPLETE (R325, R448, R449, R451, R453, R455): the subscribers of a firing have taken it; the channel is idle
again, and its chain publishes. -/
def execFiringComplete (k : Fin 256) (s : State) : Out :=
  let b := evgPage k
  let i := k.val % 8
  let e := s.evch k
  if !e.busy then .next s
  else
    let s := if e.imported then s else s.exportEv k
    let s := s.groupAct k
    let s := if s.inDev .cellar && s.bit b Reg.Evg.WAKE i then s.wakeGo else s
    let s := (s.modEvch k fun e => { e with busy := false }).setFld b Reg.Evg.BUSY 0 i
    let s := s.loopEnd k
    if s.bit b Reg.Evg.CHAIN_EN i then finish (s.newWindow.publish (s.fld b Reg.Evg.CHAIN_CH i)) else finish s

/-! ### Group pages -/

/-- A configuration word of channel `k` names a channel or a group that R451 forbids: the target. -/
def State.evTarget (s : State) (k : Nat) (w : Word) : Option Nat :=
  let b := evgPage k
  let ch := Reg.Evg.CHAIN_CH.get w
  let grp := Reg.Evg.ACT_GRP.get w
  let act := Reg.Evg.ACT.get w
  if Reg.Evg.CHAIN_EN.get w = 1 && !s.sameOwner b (evgPage ch) then some ch
  else if (act == 1 || act == 2) && !s.sameOwner b (Base.evg grp) then some grp
  else none

/-- A write of a channel's configuration word (R451, R453, R457). -/
def State.evConfig (s : State) (k : Nat) (w : Word) : State :=
  let b := evgPage k
  let i := k % 8
  let a := b + 0x040 + 8 * i
  match s.evTarget k w with
  | some t => s.err b 0x11 (i + t * 2 ^ 8)
  | none =>
    let keep := s.fld b Reg.Evg.BUSY i
    let s := (s.setReg a (w &&& 0xF1F1_FF00#32)).setFld b Reg.Evg.BUSY keep i
    if Reg.Evg.CH_EN.get w = 1 then s.setFld b Reg.Evg.LOOP_RUN 0 i else s

/-- STAT of a group page (R454). -/
def State.evgStat (s : State) (g : Nat) : Nat :=
  let live := (List.range 8).any fun i => (s.evch (8 * g + i)).busy || !(s.evch (8 * g + i)).queue.isEmpty
  let loop := (List.range 8).any fun i => s.fld (Base.evg g) Reg.Evg.LOOP_RUN i == 16
  live.toNat + 2 * loop.toNat

/-! ### Routes -/

/-- The pages whose bits raise a source. -/
def sourcePages (n : Nat) : List Nat := (srcPages n).map Prod.fst

/-- A route word for source `n` is refused (R460). Of a source with several pages, the channel is checked against the
first page listed for it, and SEC against all. -/
def State.routeBad (s : State) (n : Nat) (w : Word) : Bool :=
  let ev := Reg.Intc.EV_EN.get w == 1
  let out := Reg.Intc.MSIX_EN.get w == 1 || Reg.Intc.INTN_EN.get w == 1
  (ev && (sourcePages n).head?.any fun b => !s.sameOwner b (evgPage (Reg.Intc.EV_CH.get w))) ||
    (out && (sourcePages n).any fun b => s.bit b Reg.Hdr.SEC)

/-- What RT_DATA reads for source `n` (R464). -/
def State.routeWord (s : State) (n : Nat) : Nat :=
  (s.route n).toNat + 2 ^ 20 * (s.srcLive n).toNat + 2 ^ 19 * ((sourcePages n).any fun b => s.bit b Reg.Hdr.SEC).toNat

/-- An access to RT_DATA: a read, or a write of a word; RT_SEL advances (R460, R464). -/
def State.rtAccess (s : State) (w : Option Word) : State :=
  let b := Base.intc
  let n := s.fld b Reg.Intc.RT_SEL
  let s :=
    match w with
    | none => s.respond (s.routeWord n)
    | some w =>
      if s.routeBad n w then (s.err b 0x11 n).raise b 0
      else { s with routes := SMap.set routeReset s.routes n (w &&& 0xBFE0_00FF#32) }
  s.setFld b Reg.Intc.RT_SEL ((n + 1) % 1344)

/-- Source `n` contributes to INT_N (R462). -/
def State.intnSrc (s : State) (n : Nat) : Bool := routeFld (s.route n) Reg.Intc.INTN_EN == 1 && s.srcLive n

/-- INTN_FIRST (R464). -/
def State.intnFirst (s : State) : Nat := ((List.range 1344).find? s.intnSrc).getD 0x7FF

/-- SRC_LIVE[j] (R464). -/
def State.srcWord (s : State) (j : Nat) : Nat :=
  ((List.range 32).map fun i => if s.srcLive (32 * j + i) then 2 ^ i else 0).sum

end Sys2Proof.Machine
end

