-- ==== Sys2Proof/Machine/Sensors.lean ====
section
/-!
DEFINITION. Chapter 18: the sensor front end: conversions, ranges, the compliance monitor, words on request.
-/
namespace Sys2Proof.Machine

/-- The number that a binary32 word spells, when it is finite. -/
def f32 (w : Word) : Rat :=
  let e : Nat := w.toNat / 2 ^ 23 % 256
  let m : Nat := w.toNat % 2 ^ 23
  let v : Rat := if e = 0 then (m : Rat) / 2 ^ 149 else ((2 ^ 23 + m : Nat) : Rat) * 2 ^ e / 2 ^ 150
  if w.getLsbD 31 then -v else v

/-- A binary32 word is finite. -/
def f32Finite (w : Word) : Bool := w.toNat / 2 ^ 23 % 256 != 255

/-- The binary32 word of a number. -/
def toF32 (x : Rat) : Word := Config.binary32 x.num x.den

/-- The coefficient words of the page, from X_OFF to A[7] (R504). -/
def State.sfeRegs (s : State) (k : Nat) : SfeCoef :=
  let b := Base.sfe k
  [s.reg (b + 0x060), s.reg (b + 0x064), s.reg (b + 0x068), s.reg (b + 0x06C), s.reg (b + 0x070), s.reg (b + 0x074)] ++
    (List.range 8).map fun i => s.reg (b + 0x080 + 4 * i)

/-- Page offset of coefficient `i` in the order of the page. -/
def sfeOffset (i : Nat) : Nat := if i < 6 then 0x060 + 4 * i else 0x080 + 4 * (i - 6)

/-- A write of 1 to COEF_GO (R498). -/
def State.coefGo (s : State) (k : Nat) : State :=
  let c := s.sfeRegs k
  match (List.range 14).find? fun i => !f32Finite (c.getD i 0) || (i == 1 && (c.getD 1 0).toNat % 2 ^ 31 == 0) with
  | some i => s.err (Base.sfe k) 0x12 (sfeOffset i)
  | none => s.modSfe k fun x => { x with pend := some c }

/-- The die sensor of the channel's flux tile (R498). -/
def sfeDie (k : Nat) : Nat := 23 + k / 8

/-- x of a conversion of `v`, in units of 2^−23 of full scale: ohms in MODE 1, volts in MODE 2 (R495). -/
def sfeX (mode exc : Nat) (v : Int) : Rat :=
  if mode = 1 then (v : Rat) * 2000000 / (2 ^ 23 * 10 ^ exc) else (v : Rat) * 5 / 2 ^ 24

/-- VALUE of x with coefficients and a front-end temperature in units of 1/16 °C (R498). -/
def sfeLinear (c : SfeCoef) (t : Int) (x : Rat) : Rat :=
  let k (i : Nat) := f32 (c.getD i 0)
  let d : Rat := (t : Rat) / 16 - 25
  let xc := x * (1 + k 2 * d + k 3 * d * d) + k 4 * d + k 5 * d * d
  let xn := (xc - k 0) / k 1
  (List.range 8).foldr (fun i acc => acc * xn + k (6 + i)) 0

/-- The range of a channel changes (R496): the next conversion spans it, and the word after it is marked. -/
def State.sfeRange (s : State) (k exc : Nat) : State :=
  let s := s.modSfe k fun x => { x with exc := exc, spans := true, changed := true }
  (s.inc (Base.sfe k) Reg.Sfe.RCHG_COUNT).raise (Base.sfe k) 2

/-- The range that follows a conversion of `v` (R495, R496): a write of EXC comes first, then AUTO. -/
def State.sfeNext (s : State) (k : Nat) (v : Int) (produced : Bool) : Nat :=
  let b := Base.sfe k
  let exc := (s.sfe k).exc
  if s.fld b Reg.Sfe.EXC ≠ exc then s.fld b Reg.Sfe.EXC
  else if s.bit b Reg.Sfe.AUTO && produced then
    if 9 * 2 ^ 23 < 10 * v.natAbs then exc - 1
    else if 100 * v.natAbs < 7 * 2 ^ 23 ∧ exc < s.fld b Reg.Sfe.EXC_MAX then exc + 1
    else exc
  else exc

/-- The excitation goes off, and no conversion runs. -/
def State.sfeOff (s : State) (k : Nat) : State := s.modSfe k fun x => { x with on := false, openLive := false, spans := false }

/-- A conversion is produced (R495, R496, R498). -/
def State.sfeProduce (s : State) (k : Nat) (v : Int) (num : Nat) : State :=
  let b := Base.sfe k
  let x := s.sfe k
  let mode := s.fld b Reg.Sfe.MODE
  let high := mode == 1 && x.exc == 0 && decide (2 ^ 23 < v.natAbs)
  let t := s.fld Base.thm Reg.Thm.TEMP (sfeDie k)
  let r := sfeX mode x.exc v
  let w : SfeWord := ⟨toF32 (sfeLinear x.coef (signed 16 t) r), toF32 r, num, x.exc, t, x.changed, high⟩
  let s := s.modSfe k fun y => { y with word := some w, fresh := true, changed := false }
  let s := if high then s.raise b 3 else s
  s.raise b 0

/-- SFE_CONVERSION (R495 to R500): a conversion ends with `v`, in units of 2^−23 of full scale. -/
def execSfeConversion (k : Fin 16) (v : Int) (s : State) : Out :=
  let b := Base.sfe k
  let x := s.sfe k
  if !x.on || x.openLive || s.calHolds 2 k then .next s
  else
    let s := match x.pend with
      | some c => (s.modSfe k fun y => { y with coef := c, pend := none }).raise b 5
      | none => s
    let s := s.modSfe k fun y => { y with seq := (x.seq + 1) % 65536, spans := false }
    let s := if x.spans then s else s.sfeProduce k v x.seq
    let next := s.sfeNext k v (!x.spans)
    let s := if s.fld b Reg.Sfe.MODE = 1 ∧ next ≠ x.exc then (s.setFld b Reg.Sfe.EXC next).sfeRange k next else s
    finish (if s.enabled b then s else s.sfeOff k)

/-- SFE_OPEN_TRIP (R497). -/
def execSfeOpenTrip (k : Fin 16) (s : State) : Out :=
  let b := Base.sfe k
  let x := s.sfe k
  if !x.on || x.openLive then .next s
  else
    let s := s.modSfe k fun y => { y with openLive := true, prevExc := y.exc, exc := 0, spans := false }
    let s := (s.inc b Reg.Sfe.OPEN_COUNT).raise b 1
    finish (if s.enabled b then s else s.sfeOff k)

/-- SFE_OPEN_RECOVER (R497): 64 ms clear at 10 nA. -/
def execSfeOpenRecover (k : Fin 16) (s : State) : Out :=
  let x := s.sfe k
  if !x.openLive then .next s
  else finish ((s.modSfe k fun y => { y with openLive := false }).sfeRange k x.prevExc)

/-- A write of 1 to REQ (R499): the latest produced word is latched, with its flags. -/
def State.sfeReq (s : State) (k : Nat) : State :=
  let b := Base.sfe k
  let x := s.sfe k
  let live := 2 * x.openLive.toNat + 16 * (s.calHolds 2 k).toNat
  match x.word with
  | none => s.setFld b Reg.Sfe.WORD_FLAGS live
  | some w =>
    let s := (s.setFld b Reg.Sfe.WORD_VALUE w.value.toNat).setFld b Reg.Sfe.WORD_RAW w.raw.toNat
    let s := ((s.setFld b Reg.Sfe.WORD_SEQ w.seq).setFld b Reg.Sfe.WORD_EXC w.exc).setFld b Reg.Sfe.T_FE w.tfe
    let s := s.setFld b Reg.Sfe.WORD_FLAGS (x.fresh.toNat + 4 * w.rangeChanged.toNat + 8 * w.beyond.toNat + 32 + live)
    s.modSfe k fun y => { y with fresh := false }

/-- A write of 1 to ENABLE: excitation and conversions start, unless MODE is off (R495, R500). -/
def State.sfeEnable (s : State) (k : Nat) : State :=
  let b := Base.sfe k
  let s := s.setEnable b true
  if (s.sfe k).on || s.fld b Reg.Sfe.MODE = 0 then s
  else s.modSfe k fun x => { x with on := true, exc := s.fld b Reg.Sfe.EXC, spans := false }

/-- A write of 0 to ENABLE (R500): the conversion in progress completes; while OPEN is live there is none. -/
def State.sfeDisable (s : State) (k : Nat) : State :=
  let s := s.setEnable (Base.sfe k) false
  if (s.sfe k).openLive then s.sfeOff k else s

/-- DISABLE_NOW (R500, R560). A channel that a calibration holds is taken to have a conversion in progress, though it produces
none (R511), so that TRUNCATED is set (DESIGN CHOICE, assumption log 46). -/
def State.sfeDisableNow (s : State) (k : Nat) : State :=
  let b := Base.sfe k
  let x := s.sfe k
  let s := ((s.setEnable b false).sfeOff k).calHit 2 k
  if x.on && !x.openLive then s.raise b 4 else s

/-- STAT of a sensor channel page. -/
def State.sfeStat (s : State) (k : Nat) : Nat :=
  let x := s.sfe k
  x.on.toNat + 2 * x.openLive.toNat + 4 * (x.on && !s.enabled (Base.sfe k)).toNat

end Sys2Proof.Machine
end

