-- ==== Sys2Proof/Machine/Thermal.lean ====
section
/-!
DEFINITION. Chapter 18: measurement rounds, limits, throttling, thermal shutdown; the supply supervisors (R525) and the
reference checks (R506) of a slow round; entry to Shutdown.
-/
namespace Sys2Proof.Machine

/-! ### Entry to Shutdown -/

/-- The device enters Shutdown (R382, R522), with the bit of RESET_CAUSE that records why. -/
def State.shutdownGo (s : State) (bit : Nat) : State :=
  if s.inDev .shutdown || s.inDev .off then s
  else
    let s := s.powerDown
    let s := s.modPower fun p => { p with trans := none }
    let s := s.setFld Base.pwr Reg.Pwr.RESET_CAUSE (s.fld Base.pwr Reg.Pwr.RESET_CAUSE ||| 2 ^ bit)
    let s := s.setDev 7
    forN 96 (fun n s => s.fluxFaultSeq n 4) s

/-! ### One sample -/

/-- What a measurement gives for a sensor (R484). -/
inductive Sampled where
  | temp (t : Int)
  | open
  | fault
  /-- No measurement of this sensor. -/
  | none

/-- The reading of sensor `i` (R482, R484). -/
def State.sampled (s : State) (i : Nat) (r : Reading) : Sampled :=
  match r with
  | .diode v10 v40 v160 =>
    if 8 ≤ i then .none
    else if v10 < 200000 then .fault
    else .temp (Config.diodeTemp (s.fld Base.thm Reg.Thm.IDEALITY i) v10 v40 v160)
  | .noCurrent => if i < 8 then .open else .none
  | .res r =>
    if i < 8 || 16 ≤ i then .none
    else if 100000000 < r then .open
    else if r < 10000 then .fault
    else .temp (Config.thermistorTemp (s.fld Base.thm Reg.Thm.IDEALITY i) (s.fld Base.thm Reg.Thm.RES_REF i) r)
  | .die t => if i < 16 then .none else .temp t

/-- A signed register field of a sensor. -/
def State.thmS (s : State) (r : Row) (i : Nat) : Int := signed 16 (s.fld Base.thm r i)

/-- Bit `j` of the enables of a sensor: ALM_EN, THR_EN, SHUT_EN, RATE_THR. -/
def State.thmAct (s : State) (i j : Nat) : Bool := (s.fld Base.thm Reg.Thm.ACT i).testBit j

/-- A sensor takes limit actions: it has a temperature, and neither OPEN nor FAULT is live (R484). -/
def State.thmActs (s : State) (i : Nat) : Bool :=
  s.bit Base.thm Reg.Thm.VALID i && !s.bit Base.thm Reg.Thm.OPEN i && !s.bit Base.thm Reg.Thm.FAULT i

/-- The quotient of R488, cut to 16 bits. -/
def rateOf (num den : Int) : Int :=
  if den ≤ 0 then 0
  else clamp (-32768) 32767 (num / den + if num % den = 0 then 0 else (Config.roundUp num den).toNat)

/-- RATE of a sensor from its four latest samples (R488); a tick is 4 ns. -/
def SensorSt.rate (x : SensorSt) : Int :=
  match x.hist with
  | [a, _, _, d] => rateOf ((a.1 - d.1) * 250000000) ((a.2 : Int) - d.2)
  | _ => 0

/-- Four samples exist (R488). -/
def State.rated (s : State) (i : Nat) : Bool := (s.sensor i).hist.length == 4

/-- The rate limit of a sensor is met. -/
def State.rateHit (s : State) (i : Nat) : Bool :=
  s.rated i && decide (s.thmS Reg.Thm.RATE_LIM i ≤ s.thmS Reg.Thm.RATE i)

/-- A sensor meets a shutdown condition by level, by rate (R487). -/
def State.shutLevel (s : State) (i : Nat) : Bool :=
  s.thmActs i && s.thmAct i 2 && decide (s.thmS Reg.Thm.SHUT_LIM i ≤ s.thmS Reg.Thm.TEMP i)
def State.shutRate (s : State) (i : Nat) : Bool := s.thmActs i && s.bit Base.thm Reg.Thm.RATE_SHUT i && s.rateHit i

/-- A sensor meets a throttle condition (R487). -/
def State.throttles (s : State) (i : Nat) : Bool :=
  s.thmActs i && ((s.thmAct i 1 && decide (s.thmS Reg.Thm.THR_LIM i ≤ s.thmS Reg.Thm.TEMP i)) ||
    (s.thmAct i 3 && s.rateHit i))

/-- The sensor lies far enough below for throttling to end (R491). -/
def State.cool (s : State) (i : Nat) : Bool :=
  !(s.thmAct i 1 || s.thmAct i 3) || !s.thmActs i ||
    (decide (s.thmS Reg.Thm.TEMP i < s.thmS Reg.Thm.THR_LIM i - s.fld Base.thm Reg.Thm.THR_HYST) && !s.rateHit i)

/-! ### Throttling -/

/-- Throttling becomes active (R489). -/
def State.throttleStart (s : State) : State :=
  let b := Base.thm
  if s.bit b Reg.Thm.THR_ACTIVE then s
  else
    let t := (2 * s.count + 131072 + 511) / 512 * 512
    let s := (s.modTherm fun x => { x with next := some t }).setBit b Reg.Thm.THR_ACTIVE true
    (s.setFld64 b Reg.Thm.T_APPLY_LO Reg.Thm.T_APPLY_HI t).raise b 25

/-- Throttling ends when nothing holds it (R491). -/
def State.throttleEnd (s : State) : State :=
  let b := Base.thm
  if s.bit b Reg.Thm.THR_ACTIVE && !s.bit b Reg.Thm.THR_FORCE && (List.range 25).all s.cool then
    ((s.modTherm fun x => { x with next := none }).setBit b Reg.Thm.THR_ACTIVE false).raise b 26
  else s

/-- After a write of THR_FORCE (R489): 1 starts throttling; 0 lets the next sample end it (R491). -/
def State.forceWritten (s : State) : State := if s.bit Base.thm Reg.Thm.THR_FORCE then s.throttleStart else s

/-- PAUSE_ANNOUNCE (R125, R489, R490): the next pause is announced to every sequencer. -/
def execPauseAnnounce (s : State) : Out :=
  let b := Base.thm
  match s.therm.next with
  | some t =>
    if s.run && decide (t ≤ s.step0 + 1 + 131072) then
      let len := s.fld b Reg.Thm.THR_PAUSE * 512
      let s := forN 256 (fun n s => s.modSeq n fun q => { q with pauses := q.pauses ++ [(t, len)] }) s
      let t' := t + s.fld b Reg.Thm.THR_PERIOD * 512
      let s := (s.modTherm fun x => { x with next := some t' }).inc b Reg.Thm.PAUSE_COUNT
      finish (s.setFld64 b Reg.Thm.T_APPLY_LO Reg.Thm.T_APPLY_HI t')
    else .next s
  | none => .next s

/-! ### Limits -/

/-- A temperature lies within MARGIN of an enabled level limit, or above one (R485). -/
def State.thmNear (s : State) (i : Nat) (t : Int) : Bool :=
  let m : Int := s.fld Base.thm Reg.Thm.MARGIN
  (s.thmAct i 0 && decide (s.thmS Reg.Thm.ALM_LIM i - m ≤ t)) ||
  (s.thmAct i 1 && decide (s.thmS Reg.Thm.THR_LIM i - m ≤ t)) ||
  (s.thmAct i 2 && decide (s.thmS Reg.Thm.SHUT_LIM i - m ≤ t))

/-- A sample moves the sensor into or out of the fast round (R485). -/
def State.fastRound (s : State) (i : Nat) (t : Int) : State :=
  if s.thmNear i t then (s.modSensor i fun x => { x with below := 0 }).setBit Base.thm Reg.Thm.FAST true i
  else
    let n := (s.sensor i).below + 1
    let s := s.modSensor i fun x => { x with below := min n 4 }
    if 4 ≤ n then s.setBit Base.thm Reg.Thm.FAST false i else s

/-- OPEN or FAULT of a sensor becomes live, or stays so (R484). -/
def State.thmBad (s : State) (i : Nat) (op : Bool) : State :=
  let b := Base.thm
  let was := if op then s.bit b Reg.Thm.OPEN i else s.bit b Reg.Thm.FAULT i
  let s := (s.setBit b Reg.Thm.OPEN op i).setBit b Reg.Thm.FAULT (!op) i
  if was then s else s.raise b i

/-- A measurement of sensor `i` completes (R484 to R491). -/
def State.sample (s : State) (i : Nat) (r : Reading) : State :=
  let b := Base.thm
  match s.sampled i r with
  | .none => s
  | .open => (s.thmBad i true).throttleEnd
  | .fault => (s.thmBad i false).throttleEnd
  | .temp t =>
    let t := clamp (-32768) 32767 t
    let s := ((s.setBit b Reg.Thm.OPEN false i).setBit b Reg.Thm.FAULT false i).setBit b Reg.Thm.VALID true i
    let s := (s.setFld b Reg.Thm.TEMP (unsigned 16 t) i).modSensor i fun x =>
      { x with hist := ((t, s.ticks) :: x.hist).take 4 }
    let s := s.setFld b Reg.Thm.RATE (unsigned 16 (s.sensor i).rate) i
    let s := s.fastRound i t
    let s := if s.thmAct i 0 && decide (s.thmS Reg.Thm.ALM_LIM i ≤ t) then (s.setBit b Reg.Thm.ALM_HIT true i).raise b i else s
    let s := if s.thmAct i 1 && decide (s.thmS Reg.Thm.THR_LIM i ≤ t) then s.setBit b Reg.Thm.THR_HIT true i else s
    let s := if s.thmAct i 3 && s.rateHit i then s.setBit b Reg.Thm.RATE_HIT true i else s
    if s.throttles i then s.throttleStart else s.throttleEnd

/-! ### Shutdown -/

/-- The sensors that meet a shutdown condition, in ascending order. -/
def State.shutSensors (s : State) : List Nat := (List.range 25).filter fun i => s.shutLevel i || s.shutRate i

/-- No shutdown condition holds any more (R492). -/
def State.shutCleared (s : State) : Bool :=
  (List.range 25).all fun i =>
    (!s.thmAct i 2 || !s.thmActs i || decide (s.thmS Reg.Thm.TEMP i ≤ s.thmS Reg.Thm.SHUT_LIM i - 160)) && !s.shutRate i

/-- Bytes 0 to 43 of the record of a shutdown (R493). -/
def State.shutRecord (s : State) (is : List Nat) : List Byte :=
  let i := is.headD 0
  let cause := (s.shutLevel i).toNat + 2 * (s.shutRate i).toNat
  packBytes ([(s.therm.seq, 4), (if s.bit Base.tl Reg.Tl.LOADED then s.count else 0, 8),
    (s.fld Base.nclk Reg.Nclk.NT_NS, 4), (i, 1), (cause, 1), (s.fld Base.thm Reg.Thm.TEMP i, 2),
    (s.fld Base.thm Reg.Thm.RATE i, 2)] ++
    ((List.range 9).map fun d => (s.fld Base.thm Reg.Thm.TEMP (16 + d), 2)) ++ [((is.map fun j => 2 ^ j).sum, 4)])

/-- The samples of a round are over: shutdown conditions (R492, R530). In Starter before BOOT_STAGE 1 a live condition
only holds the boot. -/
def State.roundEnd (s : State) : State :=
  match s.shutSensors with
  | [] => if s.shutCleared then s.modTherm fun x => { x with shutLive := false } else s
  | is =>
    let s := s.modTherm fun x => { x with shutLive := true }
    if s.inDev .shutdown || s.inDev .off || s.inDev .reset ||
        (s.inDev .starter && s.fld Base.pwr Reg.Pwr.BOOT_STAGE == 0) then s
    else
      let rec' := s.shutRecord is
      (s.modTherm fun x => { x with record := some rec' }).shutdownGo 5

/-- SHUTDOWN_RECORD (R493): the record and its CRC go into the ring in NVM. -/
def execShutdownRecord (s : State) : Out :=
  match s.therm.record with
  | some r =>
    finish (s.modTherm fun x =>
      { x with
        record := none, seq := (x.seq + 1) % 2 ^ 32, unread := true
        ring := wrBytes x.ring (x.seq % 256 * 48) (withCrc r) })
  | none => .next s

/-- A read of SH_DATA (R493, R502): word SH_WORD of record SH_REC, and SH_WORD advances. -/
def State.shDataGet (s : State) : State :=
  let w := s.fld Base.thm Reg.Thm.SH_WORD
  let v := if w < 12 then rdLE s.therm.ring (s.fld Base.thm Reg.Thm.SH_REC * 48 + 4 * w) 4 else 0
  (s.setFld Base.thm Reg.Thm.SH_WORD (w + 1)).respond v

/-! ### Rounds -/

/-- The sensors are measured where the always-on supply is valid and POR_N is high. -/
def State.thmAlive (s : State) : Bool := !s.inDev .off && !s.power.por

/-! ### Temperature compensation -/

/-- The PLL of die `d` is locked. -/
def State.pllLocked (s : State) (d : Nat) : Bool := if d = 0 then s.bit Base.tl Reg.Tl.CORE_LOCK else s.tileLive (d - 1)

/-- From a slow round, the loop settings of each locked PLL follow its die sensor by at most one code (R494). -/
def State.compPlls (s : State) : State :=
  if s.compOn 0 then
    forN 9 (fun d s =>
      if s.pllLocked d then
        s.modPll d fun x => { x with loop := x.loop + clamp (-1) 1 (Config.loopCode d (s.dieTemp d) - x.loop) }
      else s) s
  else s

/-- The correction of flux tile `i`'s bias reference moves towards what the coefficients in NVM give for its die sensor, by at
most 0.5 ppm of full scale (R494). -/
def State.biasMove (s : State) (i : Nat) : State :=
  let old := SMap.get (fun _ => 0) s.therm.biasRef i
  let new := old + clamp (-500) 500 (Config.biasTarget i (s.dieTemp (7 + i)) - old)
  s.modTherm fun x => { x with biasRef := SMap.set (fun _ => 0) x.biasRef i new }

/-- The bias references are corrected in every round (R494). -/
def State.compBias (s : State) : State := if s.compOn 1 then forN 2 (fun i s => s.biasMove i) s else s

/-- FAST_ROUND (R485, R494): the sensors in the fast round are measured again. -/
def execFastRound (rs : List Reading) (s : State) : Out :=
  if !s.thmAlive then .next s
  else
    let is := (List.range 25).filter fun i => s.bit Base.thm Reg.Thm.FAST i
    let s := is.foldl (fun s i => match rs[i]? with
      | some r => s.sample i r
      | none => s) s
    finish s.compBias.roundEnd

/-- The nominal voltages of the rails of die `d`, in mV (R549). The always-on logic is on the core die. -/
def dieRails (d : Nat) : List Int :=
  if d = 0 then [750, 1800, 750, 500, 750, 1200, 900, 1800]
  else if d < 7 then [900, 1800]
  else [900, 1800, 7000, -7000]

/-- A rail of die `d` lies outside ±5 % of its nominal value (R525). -/
def railsOut (d : Nat) (vs : List Int) : Bool :=
  ((dieRails d).zip vs).any fun e => decide (e.1.natAbs < 20 * (e.2 - e.1).natAbs)

/-- A rail of die `d` is found outside its limits (R382, R525). -/
def State.supplyOut (s : State) (d : Nat) : State :=
  let b := Base.pwr
  let w := s.fld b Reg.Pwr.SUPPLY_LIVE
  let new := !w.testBit d
  let s := (s.setFld b Reg.Pwr.SUPPLY_LIVE (w ||| 2 ^ d)).raise b d
  if new && 7 ≤ d then forN 48 (fun i s => s.fluxFaultSeq (48 * (d - 7) + i) 3) s else s

/-- The supervisor of die `d` reads its rails in a slow round. -/
def State.supplyRead (s : State) (d : Nat) (vs : List Int) : State :=
  if railsOut d vs then s.supplyOut d
  else
    let w := s.fld Base.pwr Reg.Pwr.SUPPLY_LIVE
    if w.testBit d then s.setFld Base.pwr Reg.Pwr.SUPPLY_LIVE (w - 2 ^ d) else s

/-- The tiles alike to tile `t` (R38). -/
def likeTiles (t : Nat) : List Nat := if t < 4 then [0, 1, 2, 3] else if t < 6 then [4, 5] else [6, 7]

/-- The largest difference of a list of pairs. -/
def maxDiff (ps : List (Int × Int)) : Int := ps.foldl (fun m p => max m (p.1 - p.2).natAbs) 0

/-- The differences of R38 between dies are evaluated (R486). -/
def State.diffs (s : State) (sup : List (List Int)) : State :=
  let temp (d : Nat) : Int := s.thmS Reg.Thm.TEMP (16 + d)
  let dTemp (d : Nat) : Int := maxDiff ((List.range 9).map fun e => (temp d, temp e))
  let dSup (t : Nat) : Int := maxDiff ((likeTiles t).flatMap fun u => (sup.getD (1 + t) []).zip (sup.getD (1 + u) []))
  let most := (List.range 9).foldl (fun m d => max m (dTemp d)) 0
  let s := s.setFld Base.thm Reg.Thm.DIFF_MAX (unsigned 16 most)
  let s := if 480 < most then s.raise Base.thm 27 else s
  forN 8 (fun t s =>
    let s := s.modTile t fun x => { x with dTemp := dTemp (1 + t), dSupply := dSup t }
    if s.tileLive t then s.tileCond t else s) s

/-- The reference checks (R506). -/
def State.refCheck (s : State) (r : RefInput) : State :=
  let b := Base.cal
  let v : Int := s.fld b Reg.Cal.VREF_VAL
  let f := s.fld b Reg.Cal.TONE_FREQ
  let vOk := decide (2500000 ≤ v ∧ v ≤ 5000000 ∧ 200 * ((r.vref - v).natAbs : Int) ≤ v)
  let tOk := decide (-160 ≤ r.level ∧ r.level ≤ 80 ∧ 10000 * ((r.tone : Int) - f).natAbs ≤ f)
  let fell := (s.bit b Reg.Cal.VREF_OK && !vOk) || (s.bit b Reg.Cal.TONE_OK && !tOk)
  let s := ((s.setBit b Reg.Cal.VREF_OK vOk).setBit b Reg.Cal.TONE_OK tOk).setFld b Reg.Cal.CT_LEVEL (unsigned 16 r.level)
  if fell then s.raise b 3 else s

/-- SLOW_ROUND (R485, R486, R494, R506, R525): every sensor, supervisor and reference is measured. -/
def execSlowRound (rs : List Reading) (sup : List (List Int)) (ref : RefInput) (s : State) : Out :=
  if !s.thmAlive then .next s
  else
    let s := (rs.take 25).zipIdx.foldl (fun s e => s.sample e.2 e.1) s
    let s := sup.take 9 |>.zipIdx.foldl (fun s e => s.supplyRead e.2 e.1) s
    let s := s.diffs sup
    let s := s.refCheck ref
    finish s.compPlls.compBias.roundEnd

/-- STAT of the thermal page. -/
def State.thmStat (s : State) : Nat :=
  (s.bit Base.thm Reg.Thm.THR_ACTIVE).toNat +
    2 * ((List.range 25).any fun i =>
      s.thmActs i && s.thmAct i 0 && decide (s.thmS Reg.Thm.ALM_LIM i ≤ s.thmS Reg.Thm.TEMP i)).toNat

end Sys2Proof.Machine
end

