-- ==== Sys2Proof/Machine/Power.lean ====
section
/-!
DEFINITION. Chapter 20: device states and requests, supplies, resets, boot, keys, the locks of the debug port, the TAP;
and the SMBus of chapter 21.
-/
namespace Sys2Proof.Machine

/-! ### Requests for a state (R522, R533) -/

/-- A request is refused (R522). -/
def State.reqRefuse (s : State) (code info : Nat) : State := (s.err Base.pwr code info).raise Base.pwr 10

/-- Every enabled tile shows a bit of its page (R522). -/
def State.tilesAll (s : State) (r : Row) : Bool :=
  (List.range 8).all fun t => !(s.fld Base.tl Reg.Tl.TILE_EN).testBit t || s.bit (Base.tile t) r

/-- A request to Running may be accepted: RUN = 1, ARM = 0, every enabled tile aligned (R72, R522). -/
def State.mayRun (s : State) : Bool := s.run && !s.bit Base.tl Reg.Tl.ARM && s.tilesAll Reg.Tile.ALIGNED

/-- The type of the first active block that forbids Cellar, 0 for none: sequencers, tone engines, fast flux parts,
acquisition units, a foreground calibration (R533). -/
def State.cellarBlock (s : State) : Nat :=
  if (List.range 256).any s.seqActive then PageType.seq.code
  else if s.tones.any fun e => e.2.play.isSome || e.2.cont.isSome || !e.2.queue.isEmpty then PageType.tone.code
  else if s.fluxes.any fun e => e.2.play.isSome || !e.2.queue.isEmpty then PageType.flux.code
  else if (List.range 32).any s.acqActive then PageType.acq.code
  else if s.cal.job.isSome then PageType.cal.code
  else 0

/-- A transition is accepted. -/
def State.transTo (s : State) (goal : Nat) : State :=
  s.modPower fun p => { p with trans := some ⟨goal, s.fld Base.pwr Reg.Pwr.STATE, false⟩ }

/-- An accepted entry into Cellar carries out steps 1 and 2 (R513, R533). -/
def State.cellarEnter (s : State) : State :=
  let from' := s.fld Base.pwr Reg.Pwr.STATE
  let s := s.transTo 6
  let s := s.powerDown.modCal fun c => { c with bg := [] }
  s.modPower fun p => { p with origin := from' }

/-- A write of 1 to REQ_GO, REQ_STATE being in the page (R522, R533). -/
def State.reqGo (s : State) : State :=
  let v := s.fld Base.pwr Reg.Pwr.REQ_STATE
  let no := s.reqRefuse 0x11 v
  if s.power.trans.isSome then no
  else
    match v with
    | 3 => if s.inDev .ready || s.running then s.transTo 3 else no
    | 4 =>
      if s.running then s.transTo 4
      else if s.inDev .configured && s.bit Base.tl Reg.Tl.REF_PRESENT then s.tilesUp.transTo 4
      else no
    | 5 => if s.inDev .ready && s.mayRun then s.transTo 5 else no
    | 6 =>
      if s.inDev .configured || s.inDev .ready then
        if s.cellarBlock = 0 then s.cellarEnter else s.reqRefuse 0x12 s.cellarBlock
      else no
    | _ => no

/-- The device enters Ready: outputs and ADCs left enabled rise (R210, R239). -/
def State.enterReady (s : State) : State :=
  let s := s.setDev 4
  let s := forN 48 (fun k s => s.outEnterReady k) s
  forN 16 (fun a s => s.adcEnterReady a) s

/-- What a failed step of DRAM training does (R431). -/
def State.trained (s : State) (boot : BootEnd) : State :=
  match boot with
  | .training c k => s.dramFails c k.val
  | _ => s

/-- The stage of the boot at which an error of BOOT_ERR arises (R530, R542). -/
def bootStageOf (err : Nat) : Nat := if err ≤ 5 then 2 else if err = 6 then 5 else 4

/-- Starter begins, and stops where `boot` says so (R530, R531). -/
def State.starterBegin (s : State) (boot : BootEnd) : State :=
  let s := (s.setFld Base.pwr Reg.Pwr.STATE 2).trained boot
  match boot.err with
  | some e => (s.setFld Base.pwr Reg.Pwr.BOOT_ERR e).setFld Base.pwr Reg.Pwr.BOOT_STAGE (bootStageOf e)
  | none => s

/-- The device leaves Cellar (R432, R473, R535). `boot` is how full training ended, where the exit took it; a failed step is
recorded and the device goes on (assumption log 16). It comes to Configured, and goes on to Ready where it was entered from
there. -/
def State.cellarLeave (s : State) (goal : Nat) (boot : BootEnd) : State :=
  let s := (s.dramWake.trained boot).raise Base.nclk 4 |>.setDev 3
  let s := s.modPower fun p => { p with trans := none }
  if goal = 4 && s.bit Base.tl Reg.Tl.REF_PRESENT then s.tilesUp.transTo 4 else s

/-- No transition is under way any more. -/
def State.transDone (s : State) : State := s.modPower fun p => { p with trans := none }

/-- STATE_TRANSITION_COMPLETE (R431, R522, R526, R531, R533, R535): what the transition waits for has come. `boot` is how the
boot after a warm reset, or the training on the way out of Cellar, ends. -/
def execStateTransitionComplete (boot : BootEnd) (s : State) : Out :=
  match s.power.trans with
  | none => .next s
  | some x =>
    if s.inDev .reset then
      if x.dest = 2 && !s.power.por then finish (s.transDone.starterBegin boot) else .next s
    else if s.inDev .cellar then finish (s.cellarLeave x.dest boot)
    else
      match x.dest with
      | 3 => finish (s.transDone.powerDown.setDev 3)
      | 4 =>
        if s.running then (if x.framed && s.onFrame then finish (s.transDone.leaveRunning.setDev 4) else .next s)
        else if s.tilesAll Reg.Tile.LOCK then finish s.transDone.enterReady
        else .next s
      | 5 =>
        if x.framed && s.onFrame then
          finish (if s.mayRun then s.transDone.setDev 5 else s.transDone.reqRefuse 0x11 5)
        else .next s
      | 6 => finish (s.transDone.dramSleep.setDev 6)
      | _ => .next s

/-- PCIE_D0_WAKE (R535). -/
def execPcieD0Wake (s : State) : Out := finish s.wakeGo

/-! ### Resets (R526) -/

/-- The registers that every reset keeps: OTP and NVM fields (R520, R543, R157, R64). -/
def nvmReg (a : Nat) : Bool :=
  let off := a % 0x1000
  match pageOf a with
  | some (.cal, _) => off == 0x058
  | some (.sec, _) => off == 0x040 || off == 0x044 || off == 0x04C || off == 0x050 || off == 0x054 || off == 0x118
  | some (.glob, _) => off == 0x048 || off == 0x04C
  | _ => false

/-- The registers that a warm reset keeps beside them: the always-on domain, the network clock, the DRAM configuration,
and the two of the power page that describe the supplies and resets (R387, R418, R526). -/
def warmReg (a : Nat) : Bool :=
  let off := a % 0x1000
  match pageOf a with
  | some (.thm, _) => true
  | some (.sfe, _) => true
  | some (.evg, _) => true
  | some (.flux, _) => decide (0x048 ≤ off ∧ off ≤ 0x07C)
  | some (.nclk, _) => decide (0x040 ≤ off ∧ off ≤ 0x04C)
  | some (.mc, _) => off == 0x040 || off == 0x044
  | some (.pwr, _) => off == 0x04C || off == 0x050
  | _ => nvmReg a

/-- Sources whose route entries are in the always-on domain (R462, R463). -/
def alwaysOnSrc (n : Nat) : Bool :=
  decide ((1024 ≤ n ∧ n < 1120) ∨ (1216 ≤ n ∧ n < 1248) ∨ (1276 ≤ n ∧ n < 1308) ∨ (1333 ≤ n ∧ n < 1342))

/-- A flux channel after POR_N: only what is in NVM stands (R379). -/
def FluxSt.por (x : FluxSt) : FluxSt := { FluxSt.reset with nvm := x.nvm, stores := x.stores }

/-- A flux channel after a warm reset: the DC part stands (R380, R526). -/
def FluxSt.warm (x : FluxSt) : FluxSt :=
  { FluxSt.reset with
    nvm := x.nvm, stores := x.stores, storing := x.storing, change := x.change, busyTil := x.busyTil
    edgeAt := x.edgeAt, compLive := x.compLive, openLive := x.openLive, refLive := x.refLive, faultHeld := x.faultHeld
    powered := x.powered, changed := x.changed, ringSeen := x.ringSeen }

/-- What every reset leaves of the surroundings and of the model's own fields: the host's memory, NVM, the reference
clock, the clock of the always-on domain, the commands that wait. -/
def State.resetBase (s : State) : State :=
  { State.reset with
    ticks := s.ticks, refLost := s.refLost, host := s.host, respVal := s.respVal, free := s.free, pending := s.pending
    regs := s.regs.filter fun e => nvmReg e.1
    dramNvm := { s.dramNvm with storing := none }
    fluxes := (s.fluxes.map fun e => (e.1, e.2.por)).filter fun e => e.2 != FluxSt.reset
    therm := { ThermSt.reset with seq := s.therm.seq, ring := s.therm.ring, unread := s.therm.unread }
    cal := { CalSt.reset with factory := s.cal.factory, user := s.cal.user, stores := s.cal.stores }
    power := { PowerSt.reset with por := s.power.por, perst := s.power.perst, tap := s.power.tap, preload := s.power.preload } }

/-- RESET_CAUSE takes a value. -/
def State.setCause (s : State) (v : Nat) : State := s.setFld Base.pwr Reg.Pwr.RESET_CAUSE v

/-- POR_N is low: everything is reset but NVM and the bits of RESET_CAUSE that record a shutdown. -/
def State.porReset (s : State) (dev : Nat) : State :=
  let cause := s.fld Base.pwr Reg.Pwr.RESET_CAUSE
  (s.resetBase.setCause (cause / 16 * 16)).setFld Base.pwr Reg.Pwr.STATE dev

/-- A warm reset for a cause, as a bit of RESET_CAUSE (R380, R526). -/
def State.warmGo (s : State) (cause : Nat) : State :=
  if s.inDev .off || s.inDev .shutdown || s.power.por then s
  else
    let s := (s.fluxes.map Prod.fst).foldl (fun s n => s.dcFlush n) s
    let tl := [Reg.Tl.LOADED, Reg.Tl.RUN, Reg.Tl.REF_PRESENT, Reg.Tl.CORE_LOCK].map fun r => (r, s.fld Base.tl r)
    let t : State :=
      { s.resetBase with
        regs := s.regs.filter fun e => warmReg e.1
        count := s.count, frameAt := s.frameAt, epochAt := s.epochAt, loadIn := s.loadIn, latch := s.latch
        routes := s.routes.filter fun e => alwaysOnSrc e.1
        evchs := s.evchs, evgs := s.evgs, window := s.window
        fluxes := (s.fluxes.map fun e => (e.1, e.2.warm)).filter fun e => e.2 != FluxSt.reset
        therm := s.therm, sensors := s.sensors, sfes := s.sfes, nt := s.nt, dramNvm := s.dramNvm
        cal := { s.resetBase.cal with trims := s.cal.trims, storing := s.cal.storing } }
    let t := tl.foldl (fun t e => t.setFld Base.tl e.1 e.2) t
    let t := t.setCause (s.fld Base.pwr Reg.Pwr.RESET_CAUSE ||| 2 ^ cause)
    (t.setFld Base.pwr Reg.Pwr.STATE 1).modPower fun p => { p with trans := some ⟨2, 1, false⟩ }

/-- WATCHDOG_EXPIRY (R526). -/
def execWatchdogExpiry (s : State) : Out := finish (s.warmGo 3)

/-- PERST_N_ASSERT (R526): the falling edge; a pin that is low already stays so. -/
def execPerstNAssert (s : State) : Out :=
  if s.power.perst then .next s else finish ((s.modPower fun p => { p with perst := true }).warmGo 2)

/-- PERST_N_RELEASE (R532). -/
def execPerstNRelease (s : State) : Out := .next (s.modPower fun p => { p with perst := false })

/-- POR_N_ASSERT (R522, R526). -/
def execPorNAssert (s : State) : Out :=
  let s := s.modPower fun p => { p with por := true }
  .next (if s.inDev .off then s else s.porReset 1)

/-- POR_N_RELEASE (R418, R419, R493, R517, R526, R530, R531): Starter begins; `dramOk` says whether the DRAM record in NVM
passes its check, `badTrims` names the targets whose trims fail theirs, and `boot` is how the boot ends. -/
def execPorNRelease (dramOk : Bool) (badTrims : List Nat) (boot : BootEnd) (s : State) : Out :=
  if !s.inDev .reset || !s.power.por then .next s
  else
    let s := s.modPower fun p => { p with por := false }
    let s := s.setCause (s.fld Base.pwr Reg.Pwr.RESET_CAUSE / 16 * 16 + 1)
    let s := (s.trimsLoad badTrims).dramApply dramOk
    let s := if s.therm.unread then (s.modTherm fun x => { x with unread := false }).raise Base.thm 28 else s
    finish (s.starterBegin boot)

/-- ALWAYS_ON_VALID (R522, R550). -/
def execAlwaysOnValid (s : State) : Out :=
  .next (if s.inDev .off then s.setFld Base.pwr Reg.Pwr.STATE 1 else s)

/-- ALWAYS_ON_INVALID (R522, R526, R550): everything but NVM is lost, the bits of RESET_CAUSE too. -/
def execAlwaysOnInvalid (s : State) : Out :=
  let s := s.modPower fun p => { p with por := true }
  .next ((s.porReset 0).setCause 0)

/-! ### Supplies -/

/-- SUPPLY_FAULT (R525): a comparator trips on a rail of die `d`. -/
def execSupplyFault (d : Fin 9) (s : State) : Out := if s.thmAlive then finish (s.supplyOut d) else .next s

/-- SUPPLY_SHUTDOWN (R525): a rail of die `d` has been below 90 % for 10 µs. -/
def execSupplyShutdown (d : Fin 9) (s : State) : Out :=
  if s.thmAlive then finish ((s.supplyOut d).shutdownGo 4) else .next s

/-! ### Boot -/

/-- The device-wide pages and their owners after boot (R559). -/
def bootOwners : List (Nat × Nat) :=
  [(Base.glob, 0), (Base.tl, 0), (Base.dec, 0), (Base.intc, 0), (Base.mc, 0), (Base.nclk, 0), (Base.thm, 0)] ++
  [(Base.sec, 0), (Base.pwr, 0), (Base.mesh, 0x80)] ++ ((List.range 8).map fun t => (Base.tile t, 0)) ++
  (List.range 4).map fun c => (Base.dch c, 0)

/-- The key slot is revoked (R529). -/
def State.revoked (s : State) (slot : Nat) : Bool := (s.fld Base.sec Reg.Sec.KEY_REVOKE).testBit slot

/-- The base microcode image is written into slot A and all cluster copies (R530). -/
def State.bootMicrocode (s : State) (version svn : Nat) (words : List (BitVec 192)) : State :=
  let ws := words.zipIdx.foldl (fun m e => SMap.set (fun _ => 0#192) m e.2 e.1) []
  let s := s.setSlotWords 0 ws
  let s : State := { s with loader := { s.loader with slotA := ⟨version, svn, true⟩ } }
  ((List.range 16).foldl (fun s k => s.loadCluster k 0) s).showVersions

/-- A device-wide page gets its owner, with SEC = 0 (R559). -/
def State.bootOwn (s : State) (e : Nat × Nat) : State := (s.setFld e.1 Reg.Hdr.FN e.2).setBit e.1 Reg.Hdr.SEC false

/-- BOOT_COMPLETE (R530, R531, R559): the last stage of Starter completes, `ms` after its begin, having booted a firmware
copy signed with a key slot, or the recovery image (R531), and a base microcode image. The rows give the stages of R530 no
command of their own: REF_PRESENT and CORE_LOCK, which follow a release of POR_N at stage 3, and BOOT_STAGE 1 to 5 show with
the last stage (DESIGN CHOICE, assumption log 62). -/
def execBootComplete (ms : BitVec 16) (copyB : Bool) (fwVersion : BitVec 32) (fwSvn : BitVec 16) (slot : Fin 4)
    (mcVersion : BitVec 32) (mcSvn : BitVec 16) (base : List (BitVec 192)) (s : State) : Out :=
  let b := Base.pwr
  let rec' := s.power.recovery
  let fw : Nat × Nat := if rec' then s.power.recImg else (fwVersion.toNat, slot.val)
  if !s.inDev .starter || s.fld b Reg.Pwr.BOOT_ERR != 0 || s.refLost || s.therm.shutLive || s.revoked fw.2 ||
      decide ((rec' = false ∧ fwSvn.toNat < s.fld Base.sec Reg.Sec.FW_SVN) ∨ mcSvn.toNat < s.fld Base.sec Reg.Sec.MC_SVN) then
    .next s
  else
    let s := ((s.setBit Base.tl Reg.Tl.REF_PRESENT true).setBit Base.tl Reg.Tl.CORE_LOCK true).pllLocks 0
    let s := (s.setFld b Reg.Pwr.BOOT_STAGE 6).setFld b Reg.Pwr.BOOT_TIME ms.toNat
    let s := s.setFld Base.sec Reg.Sec.FW_VERSION fw.1
    let s := if rec' then s
      else
        let s := s.setBit Base.sec Reg.Sec.BOOT_COPY copyB
        if copyB != s.bit Base.sec Reg.Sec.BOOT_PREF then s.raise Base.sec 0 else s
    let s := s.modPower fun p => { p with fwSlot := fw.2 }
    let s := s.bootMicrocode mcVersion.toNat mcSvn.toNat base
    let s := bootOwners.foldl State.bootOwn s
    finish ((s.setBit Base.thm Reg.Hdr.LOCK true).setDev 3)

/-- Where the recovery image that FW_ADDR names stands in the physical function's address space (R531). -/
def State.fwBase (s : State) : Nat := s.fld64 Base.pwr Reg.Pwr.FW_ADDR_LO Reg.Pwr.FW_ADDR_HI

/-- A field of `k` bytes at offset `o` of the recovery image (R151, R528). -/
def State.fwField (s : State) (o k : Nat) : Nat := rdLE s.host (hostKey 0 (s.fwBase + o)) k

/-- The first of checks 1 to 4 of R528 that the recovery image fails, as BOOT_ERR shows it (R528, R531, R542). -/
def State.fwCheck (s : State) : Option Nat :=
  let n := s.fwField 20 4
  let key := s.fwField 24 2
  if s.fwField 0 4 ≠ 0x4657_4931 ∨ s.fwField 4 2 ≠ 1 ∨ s.fwField 6 2 ≠ 2 ∨ n = 0 ∨ 131067 < n ∨
      s.fld Base.pwr Reg.Pwr.FW_LEN ≠ 64 + 32 * n + 96 then some 0x02
  else if s.fwField 18 2 ≠ 0x00B0 then some 0x03
  else if !s.keyLive key || !s.imgSigned s.fwBase n key then some 0x04
  else if s.fwField 16 2 < s.fld Base.sec Reg.Sec.FW_SVN then some 0x05
  else none

/-- Why the boot from the recovery image fails: the image fails a check, else `boot` says what stops a later stage (R531). -/
def State.recoverErr (s : State) (boot : BootEnd) : Option Nat :=
  match s.fwCheck with
  | some e => some e
  | none => boot.err

/-- A write of 1 to RECOVER (R531): the image named by FW_ADDR and FW_LEN is read and checked. -/
def State.recoverGo (s : State) (boot : BootEnd) : State :=
  if s.inDev .starter && s.fld Base.pwr Reg.Pwr.BOOT_ERR != 0 then
    match s.recoverErr boot with
    | some e => (if s.fwCheck.isNone then s.trained boot else s).setFld Base.pwr Reg.Pwr.BOOT_ERR e
    | none =>
      let img := (s.fwField 8 4, s.fwField 24 2)
      let s := (s.setFld Base.pwr Reg.Pwr.BOOT_ERR 0).setFld Base.pwr Reg.Pwr.BOOT_STAGE 2
      (s.modPower fun p => { p with recovery := true, recImg := img }).raise Base.sec 1
  else s

/-- A write to KEY_REVOKE by management firmware (R529): each slot that the running image was not signed with is revoked,
provided the image's own slot is not. -/
def State.keyRevoke (s : State) (who : Req) (v : Nat) : State :=
  let old := s.fld Base.sec Reg.Sec.KEY_REVOKE
  let new := ((List.range 4).filter fun k =>
    v.testBit k && !old.testBit k && k != s.power.fwSlot && !s.revoked s.power.fwSlot)
  if reqMgmt who && !new.isEmpty then
    (s.setFld Base.sec Reg.Sec.KEY_REVOKE (old ||| (new.map fun k => 2 ^ k).sum)).raise Base.sec 2
  else s

/-! ### The debug port's lock, and the TAP -/

/-- The unlock level (R537). -/
def State.dbgLevel (s : State) : Nat := s.fld Base.pwr Reg.Pwr.DBG_LEVEL

/-- A write of DBG_CODE (R537): by function 0. -/
def State.dbgCode (s : State) (who : Req) (v : Word) : State :=
  if reqFn0 who then s.modPower fun p => { p with code := some v } else s

/-- The TAP instruction register takes a code. -/
def State.tapIs (s : State) (code : Nat) : State := s.modPower fun p => { p with tap := code }

/-- The always-on supply of the debug port is valid and POR_N is high. -/
def State.dbgAlive (s : State) : Bool := !s.inDev .off && !s.power.por

/-- The challenge that DBG_AUTH shows: a nonce of 40 bytes, which is a free value, and the serial number (R537; assumption
log 64). -/
def State.challenge (s : State) : List Byte :=
  bytesLE (s.freeVal 320).toNat 40 ++ bytesLE (s.fld64 Base.sec Reg.Sec.SERIAL_LO Reg.Sec.SERIAL_HI) 8

/-- A response signs the challenge with the key in slot `k` (R537). -/
def State.authSigned (s : State) (k : Nat) (sig : BitVec 768) : Bool :=
  s.keyLive k && signedBy k s.challenge (bytesLE sig.toNat 96)

/-- DBG_AUTH (R529, R537). -/
def execDbgAuth (a : AuthTry) (s : State) : Out :=
  let b := Base.pwr
  let s := s.tapIs 0x10
  if !s.dbgAlive || decide (8 ≤ s.fld b Reg.Pwr.DBG_FAIL_COUNT) then .next s
  else
    let level := match a with
      | .code c => if s.power.code = some c then 1 else 0
      | .signed k sig => if s.authSigned k sig then 2 else 0
    let s := match a with
      | .code _ => s
      | .signed _ _ => s.tookFree
    if level = 0 then finish ((s.inc b Reg.Pwr.DBG_FAIL_COUNT).setFld b Reg.Pwr.DBG_LEVEL 0)
    else finish ((s.setFld b Reg.Pwr.DBG_LEVEL level).raise b 11)

/-- A write of 1 to DBG_LOCK (R537). -/
def State.dbgLock (s : State) : State := s.setFld Base.pwr Reg.Pwr.DBG_LEVEL 0

/-- EXTEST (R536): accepted only while POR_N is low. -/
def execExtest (s : State) : Out := .next (if s.power.por then s.tapIs 0x00 else s)

/-- EXTEST_PULSE (R536). -/
def execExtestPulse (s : State) : Out := .next (if s.power.por then s.tapIs 0x08 else s)

/-- EXTEST_TRAIN (R536). -/
def execExtestTrain (s : State) : Out := .next (if s.power.por then s.tapIs 0x09 else s)

/-- SAMPLE_PRELOAD (R536): the boundary register takes `bits`; what the balls show is not the device's state. -/
def execSamplePreload (bits : BitVec 64) (s : State) : Out :=
  let s := (s.tapIs 0x01).modPower fun p => { p with preload := bits }
  let v := s.freeVal 64
  .next { s.tookFree with respVal := v }

/-- IDCODE (R536). -/
def execIdcode (s : State) : Out := .next ((s.tapIs 0x02).respond 0x1960_05A9)

/-- BYPASS (R536), selected by every unlisted code as well. -/
def execBypass (s : State) : Out := .next (s.tapIs 0xFF)

/-! ### SMBus (R555) -/

/-- The word that a Read Word command returns; none for a command that is not acknowledged. -/
def State.smbWord (s : State) (cmd : Nat) : Option Nat :=
  if s.inDev .off then none
  else if cmd < 25 then
    some (if s.power.por || !s.bit Base.thm Reg.Thm.VALID cmd then 0x8000 else s.fld Base.thm Reg.Thm.TEMP cmd)
  else
    match cmd with
    | 0x20 => some (s.fld Base.pwr Reg.Pwr.STATE)
    | 0x21 => some (s.fld Base.pwr Reg.Pwr.RESET_CAUSE)
    | 0x22 => some (s.fld Base.pwr Reg.Pwr.SUPPLY_LIVE)
    | 0x23 =>
      let w := (s.reg (Base.thm + 0x010)).toNat
      some ((w % 2 ^ 25 != 0).toNat + 2 * (s.bit Base.thm Reg.Thm.THR_ACTIVE).toNat + 4 * (w.testBit 28).toNat)
    | _ => none

/-- SMB_READ_WORD (R555). -/
def execSmbReadWord (cmd : BitVec 8) (s : State) : Out :=
  match s.smbWord cmd.toNat with
  | some v => .next (s.respond v)
  | none => .next s

/-- SMB_ALERT_N is low (R555). -/
def State.smbAlert (s : State) : Bool := s.thmStat / 2 % 2 == 1 || s.inDev .shutdown

/-- SMB_ALERT_RESPONSE (R555): the device answers while it holds SMB_ALERT_N low. -/
def execSmbAlertResponse (s : State) : Out :=
  .next (if s.smbAlert && !s.inDev .off then s.respond 0x4C else s)

/-- STAT of the power page (R541). -/
def State.pwrStat (s : State) : Nat := 2 * (s.fld Base.pwr Reg.Pwr.SUPPLY_LIVE != 0).toNat

end Sys2Proof.Machine
end

