-- ==== Sys2Proof/Machine/Clock.lean ====
section
/-!
DEFINITION. One REFCLK period (R65, R66): the count advances, the network clock ticks, and the signal paths compute the
two steps of the new count.
-/
namespace Sys2Proof.Machine

/-- The output channels that have anything to compute, that an acquisition unit captures, or whose lanes fail a check; the
others emit nothing. -/
def State.outLive (s : State) (fs : List Residue) : List Nat :=
  let cap := ((List.range 32).filter fun n => s.acqActive n && s.acqKind n == 3).map s.acqIndex
  (List.range 48).filter fun k =>
    (SMap.find? s.outs k).isSome || !(s.liveTones k).isEmpty || cap.contains k || outNamed fs k

/-- The flux channels that have anything to compute, or that an acquisition unit captures. -/
def State.fluxLive (s : State) : List Nat :=
  let cap := ((List.range 32).filter fun n => s.acqActive n && s.acqKind n == 4).map s.acqIndex
  (s.fluxes.map Prod.fst) ++ cap.filter fun n => (SMap.find? s.fluxes n).isNone && decide (n < 96)

/-- A source of the kind has offered, by the end of step `x`, every sample stamped before step `k` (R218, R236, R341). -/
def State.acqPassed (s : State) (kind idx k x : Nat) : Bool :=
  match kind with
  | 1 => decide (k + 3 ≤ x)
  | 2 => decide (4 * k + s.routLat idx ≤ 4 * (x + 1))
  | _ => decide (k ≤ x + 1)

/-- Captures under a STOP end once no sample stamped before its step can come any more, by the end of step `x` (R357). -/
def State.acqStops (s : State) (x : Nat) : State :=
  ((s.acqs.filter fun e => e.2.cap.any fun c => c.stopAt.isSome).map Prod.fst).foldl (fun s n =>
    let k := (((s.acqU n).cap.bind Capture.stopAt).getD 0)
    if s.aState n = 2 ∧ s.acqPassed (s.acqKind n) (s.acqIndex n) k x then s.acqEndAt n else s) s

/-- The signal paths compute step `x`, half `h` of its count. -/
def State.computeStep (s : State) (adc : List (List Int)) (fs : List Residue) (h x : Nat) : State :=
  let s := (s.outLive fs).foldl (fun s k => s.outStep fs k h x) s
  let s := (s.adcs.map Prod.fst).foldl (fun s a => s.adcStep a x (((adc.getD a []).drop (16 * h)).take 16)) s
  let s := (s.routs.map Prod.fst).foldl (fun s n => s.routStep fs n h x) s
  (s.fluxLive.foldl (fun s n => s.fluxStep fs n x) s).acqStops x

/-- The tiles whose condition bit is set. -/
def State.condTiles (s : State) : List Nat := (List.range 8).filter fun t => s.stat (Base.tile t) 1

/-- A shot sees the present count (R42, R120): its network time where it starts in the count, and the tile conditions
while it lasts. -/
def Shot.tick (x : Shot) (count nt : Nat) (cond : List Nat) : Shot :=
  let x := if x.start / 2 = count ∧ x.nt.isNone then { x with nt := some nt } else x
  cond.foldl (fun x t => x.seesNow t count) x

/-- Every unwritten shot sees the present count. -/
def State.shotsTick (s : State) : State :=
  let nt := s.fld Base.nclk Reg.Nclk.NT_NS
  let cond := s.condTiles
  ((s.seqs.filter fun e => !e.2.shots.isEmpty).map Prod.fst).foldl (fun s n =>
    s.modSeq n fun q => { q with shots := q.shots.map fun x => x.tick s.count nt cond }) s

/-- REFCLK_PERIOD: `adc` holds for each ADC the 32 codes converted in the new count, `fs` the checks that fail in it. While
REFCLK is lost the command stands for a tick of the holdover clock (R473). -/
def execRefclkPeriod (adc : List (List Int)) (faults : List Residue) (s : State) : Out :=
  if s.inDev .off then .next s
  else
    let s : State := { s with ticks := s.ticks + 1, loadIn := s.loadIn.map fun l => (l.1 - 1, l.2) }
    let s := if s.inDev .cellar || s.power.por then s else s.ntTick
    if s.refLost || !s.run then finish s
    else
      let s : State := { s with count := (s.count + 1) % 2 ^ 64 }
      let s := if s.count % 256 = 0 then (s.outs.map Prod.fst).foldl State.outFrame s else s
      let s := s.ntNote.shotsTick
      let s := s.computeStep adc faults 0 s.step0
      finish (s.newCycle.computeStep adc faults 1 (s.step0 + 1))

end Sys2Proof.Machine
end

