-- ==== Sys2Proof/Machine/Pages.lean ====
section
/-!
DEFINITION. Chapter 02 and the register tables: what the fields of a page accept (R10, R13, R14, R58), which fields a page
holds closed, and what its registers read as.
-/
namespace Sys2Proof.Machine

/-! ### Header -/

/-- CTL.ENABLE and DISABLE_NOW are ignored, and ENABLE reads 1. -/
def enableIgnored : PageType → Bool
  | .glob => true | .tl => true | .dec => true | .intc => true | .mc => true | .dch => true | .nclk => true
  | .thm => true | .cal => true | .fn => true | .pwr => true | _ => false

/-- The page has a BUDGET (R53). -/
def hasBudget : PageType → Bool
  | .tone => true | .rout => true | .lane => true | .flux => true | .acq => true | .jport => true | .fn => true
  | _ => false

/-- The bits of IRQ_STAT that a page defines (R13, R52). -/
def irqBits : PageType → Word
  | .glob => 0x1#32 | .tl => 0x1F#32 | .tile => 0xF#32 | .seq => 0x1FF#32 | .tone => 0x3FF#32 | .rout => 0x1FF3F#32
  | .lane => 0x1FF#32 | .dec => 0x3#32 | .syn => 0x1FF#32 | .flux => 0xFFFF#32 | .out => 0x1F#32 | .adc => 0x1F#32
  | .acq => 0x7FF#32 | .evg => 0xFFFF_FFFF#32 | .intc => 0x1#32 | .mc => 0xF#32 | .dch => 0xF#32 | .jport => 0x7FF#32
  | .mesh => 0x3F#32 | .eth => 0x7F#32 | .nclk => 0x1F#32 | .thm => 0x1FFF_FFFF#32 | .sfe => 0x3F#32 | .cal => 0xFF#32
  | .fn => 0x7F#32 | .sec => 0xF07#32 | .pwr => 0x1FFF#32

/-- STAT of a page. -/
def State.statWord (s : State) (t : PageType) (n : Nat) : Nat :=
  match t with
  | .tile => 2 * (s.stat (Base.tile n) 1).toNat
  | .seq => s.seqStat n
  | .tone => s.toneStat n
  | .rout => s.routStat n
  | .lane => s.laneStat n
  | .syn => s.synActive.toNat
  | .flux => s.fluxStat n
  | .out => s.outStat n
  | .adc => s.adcStat n
  | .acq => s.acqStat n
  | .evg => s.evgStat n
  | .mc => s.mcStat
  | .dch => (s.dchActive n).toNat + 2 * (s.stat (Base.dch n) 1).toNat
  | .jport => s.jportStat n
  | .eth => s.ethStat n
  | .thm => s.thmStat
  | .sfe => s.sfeStat n
  | .cal => s.calStat
  | .fn => 5 * (s.fnSt n).flr.isSome.toNat
  | .pwr => s.pwrStat
  | _ => 0

/-- STAT.ACTIVE of a page. -/
def State.pageActive (s : State) (t : PageType) (n : Nat) : Bool := (s.statWord t n).testBit 0

/-- The page shows CTL.ENABLE = 1 or STAT.ACTIVE = 1. -/
def State.pageBusy (s : State) (t : PageType) (n : Nat) : Bool := s.enabled (pageBase t n) || s.pageActive t n

/-! ### Words -/

/-- The bits that byte enables select (R59). -/
def beMask (be : BitVec 4) : Word :=
  BitVec.ofNat 32 (((List.range 4).map fun i => if be.getLsbD i then 0xFF * 2 ^ (8 * i) else 0).sum)

/-- A word with the bits of a mask taken from another. -/
def mergeWord (old new mask : Word) : Word := (old &&& ~~~ mask) ||| (new &&& mask)

/-! ### Reserved encodings (R14) -/

/-- The fields whose value tables reserve encodings, with the test of the values that they accept. -/
def accepts : PageType → List (Row × (Nat → Bool))
  | .seq => [(Reg.Seq.LOOKAHEAD, fun v => decide (64 ≤ v ∧ v ≤ 65536))]
  | .tone => [(Reg.Tone.PANIC_LVL, fun v => decide (v ≤ 1024))]
  | .rout =>
    [(Reg.Rout.K, fun v => decide (v ≤ 8)), (Reg.Rout.FIR_TAPS, fun v => decide (v ≤ 384)),
      (Reg.Rout.DSH, fun v => decide (v ≤ 16))]
  | .lane => [(Reg.Lane.KIND, fun v => v != 3)]
  | .syn => [(Reg.Syn.NCHECK, fun v => decide (v ≤ 512)), (Reg.Syn.W, fun v => decide (v ≤ 16))]
  | .flux =>
    [(Reg.Flux.FAST_FS, fun v => v != 3), (Reg.Flux.BCLK_DIV, fun v => decide (250 ≤ v ∧ v ≤ 250000)),
      (Reg.Flux.LOOP_COMP, fun v => v != 3), (Reg.Flux.D_RANGE, fun v => v != 7), (Reg.Flux.PU_RANGE, fun v => v != 7),
      (Reg.Flux.FLT_RANGE, fun v => v != 7)]
  | .out => [(Reg.Out.SHIFT, fun v => decide (v ≤ 4))]
  | .adc => [(Reg.Adc.ZONE, fun v => v != 0), (Reg.Adc.FS_SEL, fun v => v != 3)]
  | .acq =>
    [(Reg.Acq.KIND, fun v => decide (v ≤ 4)), (Reg.Acq.POST, fun v => v != 0), (Reg.Acq.COMP, fun v => decide (v ≤ 3))]
  | .evg => [(Reg.Evg.ACT, fun v => v != 3), (Reg.Evg.MIN_GAP, fun v => decide (4 ≤ v))]
  | .intc => [(Reg.Intc.RT_SEL, fun v => decide (v < 1344))]
  | .mc => [(Reg.Mc.LT, fun v => decide (100 ≤ v)), (Reg.Mc.NV_DATA_RATE, fun v => v != 3)]
  | .mesh => [(Reg.Mesh.RENNET_DLY, fun v => decide (16 ≤ v))]
  | .eth => [(Reg.Eth.FEC, fun v => v != 3)]
  | .nclk => [(Reg.Nclk.TC_MODE, fun v => v != 3)]
  | .thm => [(Reg.Thm.THR_PAUSE, fun v => v != 0)]
  | .sfe =>
    [(Reg.Sfe.EXC_MAX, fun v => decide (v ≤ 4)), (Reg.Sfe.EXC, fun v => decide (v ≤ 4)), (Reg.Sfe.MODE, fun v => v != 3)]
  | .cal =>
    [(Reg.Cal.KIND, fun v => decide (1 ≤ v ∧ v ≤ 4)), (Reg.Cal.TRIM_KIND, fun v => decide (1 ≤ v ∧ v ≤ 4)), (Reg.Cal.MODE, fun v => v != 3), (Reg.Cal.RIPEN_INT, fun v => v != 0)]
  | .pwr => [(Reg.Pwr.REQ_STATE, fun v => decide (3 ≤ v ∧ v ≤ 6))]
  | _ => []

/-- The field accepts the value that the word gives it. -/
def rowAccepts (t : PageType) (r : Row) (w : Word) : Bool :=
  (accepts t).all fun e => e.1 != r || e.2 (r.get w)

/-- The bits of the word at an offset that keep their value, because two fields together spell a reserved encoding: a
period below the pause, RS-FEC at 10 Gb/s, a source number that its kind does not have (R14, R285, R465, R502). -/
def pairKeeps (t : PageType) (off : Nat) (w : Word) : Word :=
  match t with
  | .thm =>
    if off = 0x040 ∧ Reg.Thm.THR_PERIOD.get w < Reg.Thm.THR_PAUSE.get w then Reg.Thm.THR_PERIOD.mask else 0
  | .eth =>
    if off = 0x040 ∧ Reg.Eth.FEC.get w = 2 ∧ Reg.Eth.SPEED.get w = 0 then Reg.Eth.FEC.mask ||| Reg.Eth.SPEED.mask else 0
  | .dec =>
    if 0x400 ≤ off ∧ off < 0x800 ∧ Reg.Dec.SRC_KIND.get w = 2 ∧ 63 < Reg.Dec.SRC_NUM.get w then
      Reg.Dec.SRC_KIND.mask ||| Reg.Dec.SRC_NUM.mask
    else 0
  | _ => 0

/-! ### Plain writes -/

/-- SHUT_EN is the one RWL bit of an RW field (R502). -/
def shutEnBit (t : PageType) (off : Nat) : Word :=
  if t == .thm && decide (0x100 ≤ off ∧ off < 0x290) && off % 16 == 12 then BitVec.ofNat 32 (2 ^ 18) else 0

/-- The bits of a word that a write stores: those of RW fields, and of RWL fields while the page is not locked, whose new
values are not reserved encodings (R10, R14, R58). -/
def storeMask (t : PageType) (off : Nat) (lock : Bool) (old w : Word) : Word :=
  let m := (rowsAt t off).foldl (fun m r =>
    match r.acc with
    | .rw => if rowAccepts t r w then m ||| r.mask else m
    | .rwl => if !lock && rowAccepts t r w then m ||| r.mask else m
    | _ => m) 0#32
  (if lock then m &&& ~~~ shutEnBit t off else m) &&& ~~~ pairKeeps t off (mergeWord old w m)

/-- The bits of a word that a write of 1 clears. -/
def clearMask (t : PageType) (off : Nat) : Word :=
  (rowsAt t off).foldl (fun m r => if r.acc = .w1c then m ||| r.mask else m) 0#32

/-- The word that a plain write leaves (R10, R14, R58, R59). -/
def plainWord (t : PageType) (off : Nat) (lock : Bool) (old data mask : Word) : Word :=
  let w := mergeWord old data mask
  mergeWord old data (mask &&& storeMask t off lock old w) &&& ~~~ (data &&& mask &&& clearMask t off)

/-! ### Fields that a page holds closed -/

/-- Fields that may be written only under a condition: when it does not hold, the fields keep their values and an error is
recorded. With `onChange`, a write that leaves the fields as they are passes. -/
structure Guard where
  rows : List Row
  closed : Bool
  code : Nat
  info : Nat
  onChange : Bool := false

/-- The unit whose region a region word of acquisition unit `n` overlaps, 0x1F when it passes block 767 (R342). -/
def State.csClash (s : State) (n : Nat) (w : Word) : Option Nat :=
  let base := Reg.Acq.CS_BASE.get w
  let size := Reg.Acq.CS_SIZE.get w
  if 768 < base + size then some 0x1F
  else (List.range 32).find? fun m => m != n && overlap base size (s.csBase m) (s.csSize m)

/-- SPILL_RES lies outside its range (R345). -/
def spillBad (size spill : Nat) : Bool := !decide (1 ≤ spill ∧ spill < size)

/-- The Idle fields of an acquisition page (R361). -/
def acqIdleRows : List Row :=
  [Reg.Acq.KIND, Reg.Acq.INDEX, Reg.Acq.CS_SIZE, Reg.Acq.CS_BASE, Reg.Acq.PRE, Reg.Acq.POST, Reg.Acq.SPILL_RES,
    Reg.Acq.FALL, Reg.Acq.COMP, Reg.Acq.TRIG_EN, Reg.Acq.LVL_HI, Reg.Acq.LVL_LO] ++
  [Reg.Acq.TRIG_STEP_LO, Reg.Acq.TRIG_STEP_HI, Reg.Acq.RNT_OUT, Reg.Acq.RNT_EN, Reg.Acq.RGRP, Reg.Acq.MASTER,
    Reg.Acq.LGRP, Reg.Acq.TRIG_EV]

/-- The guards of the word at an offset, for a write that would leave the word `w`; they apply in order. -/
def State.guards (s : State) (t : PageType) (n off : Nat) (w : Word) : List Guard :=
  let b := pageBase t n
  let busy := s.pageBusy t n
  match t with
  | .out => if off = 0x050 then [⟨[Reg.Out.FSC, Reg.Out.MODE], busy, 0x11, w.toNat % 64, false⟩] else []
  | .adc => if off = 0x040 then [⟨[Reg.Adc.ZONE, Reg.Adc.FS_SEL], busy, 0x11, off, false⟩] else []
  | .rout =>
    [⟨[Reg.Rout.K, Reg.Rout.SH, Reg.Rout.FIR_TAPS, Reg.Rout.FIR_GD, Reg.Rout.FIR_SH], busy, 0x11, off, false⟩]
  | .syn =>
    [⟨[Reg.Syn.NCHECK, Reg.Syn.ERASE_POLICY, Reg.Syn.T0_LO, Reg.Syn.T0_HI, Reg.Syn.TMO, Reg.Syn.PERIOD], busy, 0x11, off,
      false⟩]
  | .acq =>
    let idle : Guard := ⟨acqIdleRows, s.pageActive t n, 0x13, off, false⟩
    if s.pageActive t n then [idle]
    else if off = 0x044 then
      [⟨[Reg.Acq.CS_SIZE, Reg.Acq.CS_BASE], (s.csClash n w).isSome, 0x12, (s.csClash n w).getD 0, false⟩,
        ⟨[Reg.Acq.CS_SIZE], spillBad (Reg.Acq.CS_SIZE.get w) (s.fld b Reg.Acq.SPILL_RES), 0x13, off, false⟩]
    else if off = 0x050 then [⟨[Reg.Acq.SPILL_RES], spillBad (s.csSize n) (Reg.Acq.SPILL_RES.get w), 0x13, off, false⟩]
    else []
  | .flux =>
    match off with
    | 0x040 => [⟨[Reg.Flux.FAST_FS], (s.flux n).play.isSome || !(s.flux n).queue.isEmpty, 0x13, off, false⟩]
    | 0x04C =>
      let v := Reg.Flux.BCLK_DIV.get w
      [⟨[Reg.Flux.BCLK_DIV], !s.dcIdle n || decide (250 ≤ v ∧ v ≤ s.fld b Reg.Flux.BCLK_PH), 0x13, off, false⟩]
    | 0x050 =>
      [⟨[Reg.Flux.BCLK_PH], !s.dcIdle n || decide (s.fld b Reg.Flux.BCLK_DIV ≤ Reg.Flux.BCLK_PH.get w), 0x13, off, false⟩]
    | 0x054 => [⟨[Reg.Flux.LOOP_COMP], !s.dcIdle n, 0x13, off, false⟩]
    | _ => []
  | .mesh => if off = 0x040 then [⟨[Reg.Mesh.MESH_ID], s.bit b Reg.Mesh.MEMBER, 0x12, w.toNat % 32, false⟩] else []
  | .eth => if off = 0x040 then [⟨[Reg.Eth.TS_POINT, Reg.Eth.FEC, Reg.Eth.SPEED], busy, 0x11, off, false⟩] else []
  | .nclk =>
    if off = 0x060 then
      [⟨[Reg.Nclk.OC_EN, Reg.Nclk.OC_PORT, Reg.Nclk.TC_MODE], s.enabled (Base.eth 0) || s.enabled (Base.eth 1), 0x13, off,
        false⟩]
    else []
  | .thm =>
    if 0x100 ≤ off ∧ off < 0x290 ∧ off % 16 = 8 then
      let v := Reg.Thm.SHUT_LIM.get w
      [⟨[⟨off, 4, 1, 31, 16, .rwl, 0⟩], !s.bit b Reg.Hdr.LOCK && !decide (0x640 ≤ v ∧ v ≤ 0x870), 0x11, (off - 0x100) / 16,
        false⟩]
    else []
  | .sfe => if off = 0x040 then [⟨[Reg.Sfe.AUTO, Reg.Sfe.EXC_MAX, Reg.Sfe.MODE], busy, 0x11, off, true⟩] else []
  | _ => []

/-- Fields whose writes a page ignores without a record: SHOT while ENABLE = 1, G and LC of a sequencer that is not stopped
(R96, R134), the registers of a lane that is not (R282), the transmit words of a port that sends (R340). -/
def State.ignores (s : State) (t : PageType) (n off : Nat) : Bool :=
  match t with
  | .seq =>
    ((off == 0x050 || off == 0x054) && s.enabled (Base.seq n)) ||
      (decide (0x080 ≤ off ∧ off < 0x110) && s.pageBusy t n)
  | .lane => decide (0x100 ≤ off ∧ off < 0x190) && s.pageBusy t n
  | .jport => decide (0x080 ≤ off ∧ off < 0x0C0) && (s.port n).tx.isSome
  | _ => false

/-- The state and the word after one guard. -/
def Guard.apply (g : Guard) (b off : Nat) (mask old : Word) (a : State × Word) : State × Word :=
  let hit := g.closed && g.rows.any fun r =>
    r.covers off && r.mask &&& mask != 0 && (!g.onChange || r.get a.2 != r.get old)
  if hit then
    (a.1.err b g.code g.info, g.rows.foldl (fun w r => if r.covers off then mergeWord w old r.mask else w) a.2)
  else a

/-- A plain write of a word: the guards of its fields are applied to the word that it would leave. -/
def State.plainWrite (s : State) (t : PageType) (n off : Nat) (mask data : Word) : State :=
  let b := pageBase t n
  let old := s.reg (b + off)
  let w := plainWord t off (s.bit b Reg.Hdr.LOCK) old data mask
  if s.ignores t n off then s
  else
    let r := (s.guards t n off (mergeWord old data mask)).foldl (fun a g => g.apply b off mask old a) (s, w)
    r.1.setReg (b + off) r.2

/-! ### What registers read as -/

/-- BUDGET as it reads: LIMIT as written, and the units used in the present frame (R29, R53, R235). -/
def State.budgetWord (s : State) (t : PageType) (n : Nat) : Nat :=
  let b := pageBase t n
  let used := match t with
    | .rout => if (s.rout n).since.isSome && decide (0 < s.firTaps n) then s.firDemand n else 0
    | _ => s.usedOf (b + 0x024)
  if hasBudget t then s.fld b Reg.Hdr.LIMIT + 2 ^ 16 * min used 65535 else 0

/-- Word `j` of a map of calibration targets (R520). -/
def calMapWord (held : List Nat) (j : Nat) : Nat :=
  let at' (kind i : Nat) : Bool := held.contains (calKey kind i)
  ((List.range 32).map fun b =>
    let on :=
      if j < 3 then at' 1 (32 * j + b)
      else if j = 3 then (if b < 16 then at' 2 b else at' 4 (b - 16))
      else if j < 6 then at' 3 (32 * (j - 4) + b)
      else false
    if on then 2 ^ b else 0).sum

/-- The words of a page that do not read as they are stored. -/
def State.liveWord (s : State) (t : PageType) (n off : Nat) : Option Nat :=
  let b := pageBase t n
  match t with
  | .tl => if off = 0x040 then some (s.count % 2 ^ 32) else none
  | .seq =>
    if off = 0x048 then some ((s.seq n).tp % 2 ^ 32)
    else if off = 0x04C then some (s.seq n).tpHi.toNat
    else if off = 0x068 then some (s.waitReason n)
    else if 0x080 ≤ off ∧ off < 0x110 ∧ s.pageBusy t n then some 0
    else none
  | .tone =>
    if off = 0x058 then some ((s.reg (b + off)).toNat + (s.tone n).buf.length)
    else if off = 0x078 then some (s.tone n).accStep
    else none
  | .rout =>
    if off = 0x064 then some (s.routLat n % 2 ^ 16)
    else if off = 0x140 then some ((s.rout n).res.accI % 2 ^ 32)
    else if 0x800 ≤ off then some (s.coefRead n ((off - 0x800) / 4)).toNat
    else none
  | .lane => if off = 0x0AC then some (s.lane n).reason else none
  | .dec =>
    if off = 0x064 then some (s.slotAt (s.fld b Reg.Dec.MS_ADDR)).stamp
    else if off = 0x068 then some (s.slotAt (s.fld b Reg.Dec.MS_ADDR)).word
    else if 0x100 ≤ off ∧ off < 0x120 then some (s.port ((off - 0x100) / 4)).decs.length
    else if 0x800 ≤ off then
      some (if off % 8 = 0 then (s.slot ((off - 0x800) / 8)).stamp else (s.slot ((off - 0x800) / 8)).word)
    else none
  | .flux => if off = 0x060 then some (s.fluxQueueWord n) else none
  | .fn =>
    let r := s.fld b Reg.Fn.RING_SEL
    if 0x064 ≤ off ∧ off < 0x098 then some (if s.ringFn r = some n then s.ringWord r off else 0) else none
  | .mc =>
    if off = 0x048 then some (s.sumRes + 2 ^ 16 * s.sumBe) else if off = 0x094 then some s.panicLive else none
  | .dch => if off = 0x060 then some (min 64 (s.dch n).writes.length) else none
  | .intc =>
    if off = 0x044 then some (s.routeWord (s.fld b Reg.Intc.RT_SEL))
    else if off = 0x048 then some (decide (s.intnFirst ≠ 0x7FF)).toNat
    else if off = 0x04C then some s.intnFirst
    else if 0x100 ≤ off ∧ off < 0x1A8 then some (s.srcWord ((off - 0x100) / 4))
    else none
  | .eth => if off = 0x054 then some (macCorr (s.fld b Reg.Eth.SPEED) (s.fld b Reg.Eth.FEC)) else none
  | .nclk => if off = 0x044 then some s.nt.frac.toNat else none
  | .cal =>
    if 0x080 ≤ off ∧ off < 0x0A0 then some (calMapWord s.calHeldList ((off - 0x080) / 4))
    else if 0x0A0 ≤ off ∧ off < 0x0C0 then some (calMapWord s.ripeningAll ((off - 0x0A0) / 4))
    else if 0x0C0 ≤ off ∧ off < 0x0E0 then some (calMapWord s.cal.bg ((off - 0x0C0) / 4))
    else none
  | .pwr => if off = 0x060 then some 0 else none
  | _ => none

/-- The word at a page offset, as it reads, for reads without an effect (R10, R13, R52). -/
def State.pageWord (s : State) (t : PageType) (n off : Nat) : Nat :=
  let b := pageBase t n
  if off = 0x008 then (s.reg (b + off)).toNat + (enableIgnored t).toNat
  else if off = 0x00C then s.statWord t n
  else if off = 0x018 then 0
  else if off = 0x024 then s.budgetWord t n
  else if (rowsAt t off).isEmpty then 0
  else (s.liveWord t n off).getD (s.reg (b + off)).toNat

end Sys2Proof.Machine
end

