-- ==== Sys2Proof/Machine/Bus.lean ====
section
/-!
DEFINITION. Register accesses (chapter 02): the header registers, what a write of each block register does beyond storing its
fields, reads with an effect, reserved offsets, and the host's access budget (R395, R396).
-/
namespace Sys2Proof.Machine

/-! ### CTL -/

/-- A write of 1 to ENABLE, as the page's chapter defines it. -/
def State.pageEnable (s : State) (t : PageType) (n : Nat) : State :=
  match t with
  | .seq => s.seqEnable n
  | .tone => s.toneEnable n
  | .out => s.outEnable n
  | .adc => s.adcEnable n
  | .rout => s.routEnable n
  | .lane => s.laneStart n
  | .syn => s.synEnable
  | .flux => s.fluxEnable n
  | .acq => s.acqEnable n
  | .eth => s.ethOn n
  | .sfe => s.sfeEnable n
  | _ => s.setEnable (pageBase t n) true

/-- A write of 0 to ENABLE, as the page's chapter defines it. -/
def State.pageDisable (s : State) (t : PageType) (n : Nat) : State :=
  match t with
  | .seq => s.seqDisable n
  | .tone => s.toneDisable n
  | .out => s.outDisable n
  | .adc => s.adcDisable n
  | .rout => s.routDisable n
  | .lane => s.laneEnd n
  | .syn => s.synDisable
  | .flux => s.fluxDisable n
  | .acq => s.acqDisable n
  | .eth => s.ethOff n
  | .sfe => s.sfeDisable n
  | _ => s.setEnable (pageBase t n) false

/-- A write of 1 to DISABLE_NOW, as the page's chapter defines it. -/
def State.pageKill (s : State) (t : PageType) (n : Nat) : State :=
  match t with
  | .seq => s.seqDisableNow n
  | .tone => s.toneDisableNow n
  | .out => s.outKillNow n
  | .adc => s.adcKillNow n
  | .rout => s.routKill n s.nextStep true
  | .lane => s.laneKill n
  | .syn => s.synKill
  | .flux => s.fluxDisableNow n
  | .acq => s.acqKillNow n
  | .evg => s.evgKill n
  | .jport => s.jportKill n
  | .eth => s.ethKill n
  | .sfe => s.sfeDisableNow n
  | _ => s

/-- A write of CTL: ENABLE first, then the block-specific bits, then DISABLE_NOW (R52, R89, R361). -/
def State.ctlWrite (s : State) (t : PageType) (n : Nat) (mask data : Word) : State :=
  let b := pageBase t n
  let v := data &&& mask
  let on := data.getLsbD 0
  let s := if t = .tl && v.getLsbD 2 then s.snapGo else s
  if enableIgnored t || t == .mesh then s
  else
    let s :=
      if mask.getLsbD 0 && (t == .seq || on != s.enabled b) then (if on then s.pageEnable t n else s.pageDisable t n) else s
    let s := if t == .acq && v.getLsbD 2 then s.armNow n else s
    let s := if t == .acq && v.getLsbD 3 then s.fireNow n else s
    if v.getLsbD 1 then s.pageKill t n else s

/-! ### OWNER and BUDGET -/

/-- The encodings of OWNER.FN that are not reserved (R52). -/
def fnEncoding (v : Nat) : Bool := decide (v < 64) || v == 0x80 || v == 0xFF

/-- A write of OWNER (R57, R58). -/
def State.ownerPut (s : State) (who : Req) (t : PageType) (n : Nat) (mask data : Word) : State :=
  let b := pageBase t n
  let old := s.reg (b + 0x020)
  if !(reqMgmt who || reqFn0 who) then s.accErr b 0x01 who 0x020 true
  else if s.bit b Reg.Hdr.SEC && !reqSecure who then s.accErr b 0x02 who 0x020 true
  else if s.bit b Reg.Hdr.LOCK then s
  else
    let w := mergeWord old data (mask &&& 0x8000_01FF#32)
    let w := if fnEncoding (Reg.Hdr.FN.get w) then w else mergeWord w old Reg.Hdr.FN.mask
    if Reg.Hdr.FN.get w ≠ s.owner b ∧ ((s.enabled b && !enableIgnored t) || s.pageActive t n) = true then
      s.err b 0x06 (Reg.Hdr.FN.get w)
    else s.setReg (b + 0x020) w

/-- The sum of the budgets that share a resource with the budget register at an offset, and its ceiling (R31). -/
def State.budgetSum (s : State) (t : PageType) (n off : Nat) : Nat × Nat :=
  match t with
  | .rout => (((List.range 16).map fun i => s.fld (Base.rout (n / 16 * 16 + i)) Reg.Hdr.LIMIT).sum, 524)
  | .lane => (s.fld (Base.lane n) Reg.Hdr.LIMIT, 32)
  | .jport => (s.fld (Base.jport n) Reg.Hdr.LIMIT + s.fld Base.mesh Reg.Mesh.MGMT_LIMIT n, 256)
  | .mesh =>
    let p := (off - 0x0C0) / 4
    (s.fld (Base.jport p) Reg.Hdr.LIMIT + s.fld Base.mesh Reg.Mesh.MGMT_LIMIT p, 256)
  | .fn =>
    if off = 0x024 then (((List.range 64).map fun f => s.fld (Base.fn f) Reg.Hdr.LIMIT).sum, 512)
    else (s.sumRes + s.sumBe, s.fld Base.mc Reg.Mc.CEILING)
  | _ => (s.sumRes + s.sumBe, s.fld Base.mc Reg.Mc.CEILING)

/-- A write of a budget register (R29): refused, when it would raise the sum above the ceiling, or a read-out tone's LIMIT
falls below its demand while the tone is enabled (R235). INFO holds the limit asked for. -/
def State.budgetPut (s : State) (t : PageType) (n off : Nat) (mask data : Word) : State :=
  let b := pageBase t n
  let old := s.reg (b + off)
  let w := mergeWord old data mask
  let asked := if w.toNat % 2 ^ 16 = old.toNat % 2 ^ 16 then w.toNat / 2 ^ 16 else w.toNat % 2 ^ 16
  let r := s.setReg (b + off) w
  let before := s.budgetSum t n off
  let after := r.budgetSum t n off
  if t = .rout ∧ s.enabled b = true ∧ w.toNat % 2 ^ 16 < old.toNat % 2 ^ 16 ∧ w.toNat % 2 ^ 16 < s.firDemand n then
    s.err b 0x14 asked
  else if after.2 < after.1 ∧ before.1 < after.1 then s.err b 0x05 asked
  else r

/-- A write of BUDGET: ignored where the page has none, and while it is locked; the function pages are locked for good, and
their LIMIT is for function 0 and management firmware to write (R53, R58, R391, R395). -/
def State.budgetWrite (s : State) (who : Req) (t : PageType) (n : Nat) (mask data : Word) : State :=
  let b := pageBase t n
  if !hasBudget t then s
  else if t = .fn then
    (if reqMgmt who || reqFn0 who then s.budgetPut t n 0x024 (mask &&& 0xFFFF#32) data else s.accErr b 0x01 who 0x024 true)
  else if s.bit b Reg.Hdr.LOCK then s
  else s.budgetPut t n 0x024 (mask &&& 0xFFFF#32) data

/-! ### Header writes -/

/-- A write of a header register other than OWNER. -/
def State.headerWrite (s : State) (who : Req) (t : PageType) (n off : Nat) (mask data : Word) : State :=
  let b := pageBase t n
  match off with
  | 0x008 => s.ctlWrite t n mask data
  | 0x010 => s.setReg (b + 0x010) (s.reg (b + 0x010) &&& ~~~ (data &&& mask))
  | 0x014 => (s.setReg (b + 0x014) (mergeWord (s.reg (b + 0x014)) data mask)).edge b (s.irqLive b)
  | 0x018 => s.raiseBits b (data &&& mask &&& irqBits t)
  | 0x01C => if (data &&& mask).getLsbD 31 then s.setReg (b + 0x01C) 0 else s
  | 0x024 => s.budgetWrite who t n mask data
  | _ => s

/-! ### Block writes with a form of their own -/

/-- A write of a register of a function page that is reserved to function 0, or that acts on the selected ring (R169, R391,
R397, R416); none for the others. -/
def State.fnSpecial (s : State) (who : Req) (f off : Nat) (mask data : Word) : Option State :=
  let b := Base.fn f
  let w := mergeWord (s.reg (b + off)) data mask
  let pf := reqMgmt who || reqFn0 who
  let no := s.accErr b 0x01 who off true
  let r := s.fld b Reg.Fn.RING_SEL
  match off with
  | 0x040 => some (if pf then s.partitionWrite f false w else no)
  | 0x044 => some (if pf then s.partitionWrite f true w else no)
  | 0x048 => some (if pf then s.quotaWrite f w else no)
  | 0x04C => some (if pf then s.budgetPut .fn f 0x04C (mask &&& 0xFFFF#32) data else no)
  | 0x060 =>
    let sel := Reg.Fn.RING_SEL.get w
    some (if s.ringFn sel = some f then s.setFld b Reg.Fn.RING_SEL sel else s.err b 0x11 sel)
  | _ =>
    if 0x064 ≤ off ∧ off < 0x098 then
      let w := mergeWord (BitVec.ofNat 32 (s.ringWord r off)) data mask
      some (if s.ringFn r ≠ some f then s.err b 0x11 r
        else if off = 0x064 then s.ringCtl f r w
        else if off ≤ 0x080 ∨ off = 0x08C then s.ringField f r off w
        else s)
    else none

/-- A write to the loader's control register (R153, R155). -/
def State.loaderWrite (s : State) (mask data : Word) : State :=
  let b := Base.sec
  let v := data &&& mask
  if s.bit b Reg.Sec.BUSY then s.err b 0x29 0
  else
    let s := s.plainWrite .sec 0 0x100 mask data
    let s := if v.getLsbD 0 then s.verifyGo else s
    if !v.getLsbD 1 then s else if s.bit b Reg.Sec.BUSY then s.err b 0x29 0 else s.applyGo

/-- A write of an input register of a lane: an attach that R267 refuses leaves the register as it is. -/
def State.attachWrite (s : State) (n off : Nat) (mask data : Word) : State :=
  let r := s.plainWrite .lane n off mask data
  if r.laneAttachOk n ((off - 0x060) / 16) then r else s.err (Base.lane n) 0x12 ((off - 0x060) / 16)

/-- The registers whose writes have a form of their own; none for those that store their fields first. -/
def State.special (s : State) (who : Req) (t : PageType) (n off : Nat) (mask data : Word) : Option State :=
  let b := pageBase t n
  let v := data &&& mask
  let w := mergeWord (s.reg (b + off)) data mask
  match t with
  | .fn => s.fnSpecial who n off mask data
  | .tl => if off = 0x05C then some (if mask.getLsbD 0 then s.tileEnPut (w.toNat % 256) else s) else none
  | .sec =>
    if off = 0x100 then some (s.loaderWrite mask data) else if off = 0x050 then some (s.keyRevoke who v.toNat) else none
  | .rout =>
    if off = 0x164 then
      some (s.kdataWrite n (mergeWord (SMap.get (fun _ => 0#32) s.kernel (4096 * n + s.fld b Reg.Rout.KADDR)) data mask))
    else if 0x800 ≤ off then
      some (s.coefWrite n ((off - 0x800) / 4) (mergeWord (s.coefRead n ((off - 0x800) / 4)) data mask))
    else none
  | .lane => if 0x060 ≤ off ∧ off < 0x0A0 ∧ off % 16 < 8 then some (s.attachWrite n off mask data) else none
  | .syn =>
    match off with
    | 0x05C => some (s.cmapAccess (some (mergeWord (BitVec.ofNat 32 (s.cmapAt (s.fld b Reg.Syn.CMAP_ADDR))) data mask)))
    | 0x078 => some (s.frameXor v)
    | 0x07C => some (if v.getLsbD 0 then s.frameClear else s)
    | _ => none
  | .evg =>
    if 0x040 ≤ off ∧ off < 0x080 ∧ off % 8 = 0 then
      let w := if Reg.Evg.ACT.get w = 3 then mergeWord w (s.reg (b + off)) Reg.Evg.ACT.mask else w
      some (s.evConfig (8 * n + (off - 0x040) / 8) w)
    else if off = 0x080 then some (if s.inDev .cellar && !reqMgmt who then s else s.evFire n (v.toNat % 256))
    else none
  | .intc => if off = 0x044 then some (s.rtAccess (some (mergeWord (s.route (s.fld b Reg.Intc.RT_SEL)) data mask))) else none
  | .mc =>
    match off with
    | 0x04C => some (s.regionWrite false w)
    | 0x050 => some (s.regionWrite true w)
    | 0x054 => some (s.budgetPut .mc 0 0x054 mask data)
    | 0x074 =>
      some (if v.getLsbD 31 then (List.range 7).foldl (fun s i => s.setReg (Base.mc + 0x074 + 4 * i) 0) s else s)
    | _ => none
  | .mesh => if 0x0C0 ≤ off ∧ off < 0x0E0 then some (s.budgetPut .mesh 0 off (mask &&& 0xFFFF#32) data) else none
  | .flux => if off = 0x058 ∧ v.getLsbD 31 = true then some (s.dGoWrite n w) else none
  | .pwr => if off = 0x060 then some (s.dbgCode who v) else none
  | _ => none

/-! ### Effects beside the fields -/

/-- What happens before a setting that comes into force at a frame boundary is written (R206, R237). -/
def State.preWrite (s : State) (t : PageType) (n off : Nat) : State :=
  match t with
  | .out => if 0x040 ≤ off ∧ off ≤ 0x04C then s.outBeforeWrite n else s
  | .adc => if 0x044 ≤ off ∧ off ≤ 0x04C then s.adcBeforeWrite n else s
  | .rout => if 0x048 ≤ off ∧ off ≤ 0x050 then s.routBeforeWrite n else s
  | _ => s

/-- A write of CAL_CTL: the request bits act with the fields of the same write. -/
def State.calWritten (s : State) (v : Word) : State :=
  let s := if v.getLsbD 30 then s.calAbort else s
  let s := if v.getLsbD 31 then s.calGo else s
  let s := if v.getLsbD 29 then s.calStore else s
  if v.getLsbD 28 then s.calRestore else s

/-- What stops a later stage of a boot from a recovery image, where a plain register write says nothing of it: a free value
(R531). -/
def State.recoverFree (s : State) : State :=
  let e := s.freeVal 7
  let k : Fin 9 := ⟨e.toNat / 16 + 1, by omega⟩
  s.tookFree.recoverGo
    (if !e.getLsbD 0 then .good
    else if e.getLsbD 1 then .stops 0x06
    else .training ⟨e.toNat / 4 % 4, Nat.mod_lt _ (by decide)⟩ k)

/-- What a write does after its fields are stored: `old` is the word before, `v` the bits written as 1. -/
def State.after (s : State) (who : Req) (t : PageType) (n off : Nat) (old v mask : Word) : State :=
  let b := pageBase t n
  match t with
  | .tl => if off = 0x050 ∧ v.getLsbD 0 = true then s.armSync else s
  | .seq => if off = 0x064 ∧ v.getLsbD 31 = true then s.handGo n else s
  | .tone => s.toneWritten n off old
  | .out =>
    match off with
    | 0x040 => s.outWritten n false
    | 0x048 => s.outWritten n true
    | 0x04C => s.outWritten n false
    | _ => s
  | .adc =>
    match off with
    | 0x048 => s.adcWritten n true
    | 0x04C => s.adcWritten n false
    | _ => s
  | .rout =>
    match off with
    | 0x048 => s.routWritten n
    | 0x04C => s.routWritten n
    | 0x050 => s.routWritten n
    | 0x05C => if v.getLsbD 9 then s.routSwap n else s
    | 0x100 => s.kstartWritten n old
    | _ => s
  | .flux =>
    match off with
    | 0x040 => if mask &&& Reg.Flux.FLEVEL.mask ≠ 0 then s.levelWritten n old else s
    | 0x048 => s.modFlux n fun x => { x with ringSeen := false }
    | 0x070 =>
      let s := if v.getLsbD 0 then s.faultClear n else s
      if v.getLsbD 1 then s.fluxStore n else s
    | _ => s
  | .jport => if off = 0x064 ∧ v.getLsbD 31 = true then s.btxGo n else s
  | .mesh =>
    match off with
    | 0x054 => if v.getLsbD 0 then s.announceChange else s
    | 0x058 => s.portsWritten (Reg.Mesh.PORT_EN.get old) (Reg.Mesh.PORT_KILL.get v)
    | _ => s
  | .mc =>
    match off with
    | 0x070 =>
      if v.getLsbD 0 then
        (if s.owner b = reqNum who then s.unfreezeGo else s.accErr b 0x01 who off true)
      else s
    | 0x09C => if v.getLsbD 0 then s.nvStoreGo else s
    | _ => s
  | .eth => if off = 0x060 ∧ v.getLsbD 31 = true then s.txGo n else s
  | .nclk =>
    match off with
    | 0x04C => s.ntIncWritten
    | 0x058 => if v.getLsbD 0 then s.ntStepGo else s
    | _ => s
  | .thm => if off = 0x040 ∧ mask &&& Reg.Thm.THR_FORCE.mask ≠ 0 then s.forceWritten else s
  | .sfe =>
    if off = 0x044 then
      let s := if v.getLsbD 1 then s.coefGo n else s
      if v.getLsbD 0 then s.sfeReq n else s
    else s
  | .cal => if off = 0x040 then s.calWritten v else s
  | .pwr =>
    match off with
    | 0x044 => if v.getLsbD 31 then s.reqGo else s
    | 0x048 => if v.getLsbD 0 && (reqMgmt who || reqFn0 who) then s.warmGo 1 else s
    | 0x05C => if v.getLsbD 0 then s.wakeGo else s
    | 0x064 => if v.getLsbD 31 then s.dbgLock else s
    | 0x074 => if v.getLsbD 0 then s.recoverFree else s
    | _ => s
  | _ => s

/-- A write of a block register. -/
def State.blockWrite (s : State) (who : Req) (t : PageType) (n off : Nat) (mask data : Word) : State :=
  match s.special who t n off mask data with
  | some r => r
  | none =>
    let s := s.preWrite t n off
    let old := s.reg (pageBase t n + off)
    (s.plainWrite t n off mask data).after who t n off old (data &&& mask) mask

/-! ### One word -/

/-- The offset holds a register (R52, R60). -/
def hasWord (t : PageType) (off : Nat) : Bool := decide (off < 0x028) || !(rowsAt t off).isEmpty

/-- The pages that answer in Cellar: those of the always-on domain, the global page and the power page (R526, R534). -/
def cellarShows : PageType → Bool
  | .glob => true | .pwr => true | .thm => true | .sfe => true | .evg => true | .flux => true | _ => false

/-- The pages that function 0 reaches before Configured (R532). -/
def starterShows : PageType → Bool
  | .glob => true | .pwr => true | .sec => true | _ => false

/-- An access to a page of a type, or to a reserved range, reaches it in the present device state (R521, R532, R534). -/
def State.shows (s : State) (who : Req) (t : Option PageType) : Bool :=
  let st := s.fld Base.pwr Reg.Pwr.STATE
  let cellar := st != 6 || t.any cellarShows
  match who with
  | .fn _ => s.linkUp && cellar && (st != 2 || t.any starterShows)
  | _ => decide (2 ≤ st) && cellar

/-- A write to a word of a page (R55 to R60). -/
def State.pageWrite (s : State) (who : Req) (t : PageType) (n off : Nat) (mask data : Word) : State :=
  let b := pageBase t n
  if off = 0x020 then s.ownerPut who t n mask data
  else
    match s.denied who b with
    | some c => s.accErr b c who off true
    | none =>
      if !hasWord t off then s.accErr b 0x03 who off true
      else if off < 0x040 then s.headerWrite who t n off mask data
      else s.blockWrite who t n off mask data

/-- An access to a reserved range of BAR0: every one is counted; a write, which R60 records, is recorded and sets RSVD_ACCESS
(R60, R64; DEDUCED, assumption log 62). -/
def State.reservedAccess (s : State) (who : Req) (a : Nat) (wr : Bool) : State :=
  let s := s.inc Base.glob Reg.Glob.RSVD_COUNT
  if wr then (s.accErr Base.glob 0x03 who a true).raise Base.glob 0 else s

/-- A write of one BAR0 word. -/
def State.wordWrite (s : State) (who : Req) (a : Nat) (be : BitVec 4) (data : Word) : State :=
  match pageOf a with
  | some (t, n) =>
    if s.shows who (some t) then s.pageWrite who t n (a % 0x1000 / 4 * 4) (beMask be) data else s
  | none => if s.shows who none then s.reservedAccess who a true else s

/-- Reading the word at a page offset, with what the read does (R90, R134, R255, R265, R313, R464, R481, R502, R520). -/
def State.pageGet (s : State) (t : PageType) (n off : Nat) : State :=
  match t, off with
  | .tl, 0x040 => s.tlNowGet
  | .seq, 0x048 =>
    let tp := (s.seq n).tp
    (s.modSeq n fun q => { q with tpHi := BitVec.ofNat 32 (tp / 2 ^ 32) }).respond (tp % 2 ^ 32)
  | .rout, 0x140 => s.resRead n
  | .rout, 0x164 => s.kdataRead n
  | .syn, 0x05C => s.cmapAccess none
  | .intc, 0x044 => s.rtAccess none
  | .nclk, 0x040 => s.ntGet
  | .thm, 0x05C => s.shDataGet
  | .cal, 0x074 => s.trimGet
  | _, _ => s.respond (s.pageWord t n off)

/-- The words that every requester may read (R55): PAGE_ID, PAGE_VER, OWNER, and the identification registers. -/
def freeToRead (t : PageType) (off : Nat) : Bool :=
  off == 0x000 || off == 0x004 || off == 0x020 || (t == .glob && decide (0x040 ≤ off ∧ off < 0x050))

/-- A read of one BAR0 word. -/
def State.wordRead (s : State) (who : Req) (a : Nat) : State :=
  let off := a % 0x1000 / 4 * 4
  match pageOf a with
  | some (t, n) =>
    let b := pageBase t n
    if !s.shows who (some t) then s.respond 0
    else if freeToRead t off then s.pageGet t n off
    else
      match s.denied who b with
      | some c => (s.accErr b c who off false).respond 0
      | none => s.pageGet t n off
  | none => if s.shows who none then (s.reservedAccess who a false).respond 0 else s.respond 0

/-! ### BAR4 -/

/-- A write of a word of the doorbell page of function `f`, beside the 64-bit doorbells (R394, R403). -/
def State.bar4Write (s : State) (who : Req) (f off : Nat) (be : BitVec 4) (data : Word) : State :=
  if off < 0x010 then
    s.doorbell f (decide (off < 0x008)) false (BitVec.ofNat 64 (data.toNat * 2 ^ (8 * (off % 8))))
  else if 0x800 ≤ off ∧ off < 0xC00 then s.msixTableWrite f off be data
  else if off = 0xC00 ∨ off = 0xC04 then s
  else s.accErr (Base.fn f) 0x03 who off true

/-! ### Host accesses -/

/-- Requests of function `f` reach the device: the link is up, the function is there, and no reset of it is in progress (R390,
R412, R532). -/
def State.hostReaches (s : State) (f : Nat) : Bool :=
  s.linkUp && (s.fnSt f).flr.isNone && s.fnOn f && (f == 0 || s.hostOpen)

/-- The function's BAR4 shows page `f`, and the device answers (R47, R412, R532). -/
def State.bar4Open (s : State) (who : Req) (f : Nat) : Bool :=
  match who with
  | .fn g => s.hostReaches g && s.hostOpen && decide (f < 64) && (g.val == 0 || g.val == f) && (s.fnSt f).flr.isNone
  | _ => false

/-- The charge of one host access (R63, R395). -/
def State.chargeHostWord (s : State) (f : Nat) : Option State := s.chargeAccess f

/-- The request is posted. -/
def HeldAccess.posted : HeldAccess → Bool
  | .write _ _ => true
  | .write2 _ _ => true
  | _ => false

/-- An access waits for budget; a full queue loses it (R396). -/
def State.holdAccess (s : State) (f : Nat) (x : HeldAccess) : State :=
  let same := ((s.fnSt f).held.filter fun y => y.posted == x.posted).length
  if same < (if x.posted then 64 else 16) then s.modFn f fun y => { y with held := y.held ++ [x] }
  else (s.inc (Base.fn f) Reg.Fn.RA_DROP_COUNT).raise (Base.fn f) 4

/-- Carry out the words of a write while the function's budget lasts: the state, and the words that are left. -/
def State.hostWords (s : State) (f : Fin 64) : Nat → List (BitVec 4 × Word) → State × Nat × List (BitVec 4 × Word)
  | a, [] => (s, a, [])
  | a, w :: ws =>
    match s.chargeHostWord f with
    | some t => State.hostWords (t.newCycle.wordWrite (.fn f) a w.1 w.2) f (a + 4) ws
    | none => (s, a, w :: ws)

/-- Carry out the bytes of a BAR2 write, one aligned 64-byte block at a time. The first argument bounds the blocks. -/
def State.hostBlocks (s : State) (f : Fin 64) : Nat → Nat → List Byte → State × Nat × List Byte
  | 0, o, bs => (s, o, bs)
  | _ + 1, o, [] => (s, o, [])
  | k + 1, o, bs =>
    match s.chargeHostWord f with
    | some t =>
      let m := 64 - o % 64
      State.hostBlocks (t.newCycle.bar2Put (.fn f) false o (bs.take m)).1 f k (o + m) (bs.drop m)
    | none => (s, o, bs)

/-- A read through BAR2; a word of the curd store may fail its parity (R343). -/
def State.bar2Read (s : State) (who : Req) (o : Nat) (bad : Bool) : State :=
  let t := s.bar2Get who o
  match windowAt o with
  | .curd w =>
    match s.blockUnit (w / 8192) with
    | some n =>
      if bad && (s.windowDenied who (.curd w)).isNone then
        let b := Base.acq n
        ((t.setFld b Reg.Acq.BAD_ADDR ((o - 0x0300_0000) / 8 * 8)).err b 0x10 w).raise b 4
      else t
    | none => t
  | _ => t

/-- BAR2 answers the host (R532, R534). -/
def State.bar2Open (s : State) : Bool := s.hostOpen && !s.inDev .cellar

/-- One host access: the state, and what of it still waits for budget. -/
def State.tryAccess (s : State) (f : Fin 64) (x : HeldAccess) : State × Option HeldAccess :=
  match x with
  | .write a ws =>
    let r := s.hostWords f a ws
    (r.1, if r.2.2.isEmpty then none else some (.write r.2.1 r.2.2))
  | .write2 o bs =>
    if !s.bar2Open then (s, none)
    else
      let r := s.hostBlocks f (bs.length + 1) o bs
      (r.1, if r.2.2.isEmpty then none else some (.write2 r.2.1 r.2.2))
  | .read a =>
    match s.chargeHostWord f with
    | some t => (t.newCycle.wordRead (.fn f) a, none)
    | none => (s, some x)
  | .read2 o bad =>
    if !s.bar2Open then (s.respond 0, none)
    else
      match s.chargeHostWord f with
      | some t => (t.newCycle.bar2Read (.fn f) o bad, none)
      | none => (s, some x)

/-- A host access arrives: behind others that wait, it waits too (R396). -/
def State.hostAccess (s : State) (f : Fin 64) (x : HeldAccess) : State :=
  if !s.hostReaches f then (if x.posted then s else s.respond 0)
  else if !(s.fnSt f).held.isEmpty then s.holdAccess f x
  else
    match s.tryAccess f x with
    | (t, none) => t
    | (t, some y) => t.holdAccess f y

/-- Carry out held accesses in order, while budget lasts. The first argument bounds their number. -/
def State.serveHeld (s : State) (f : Fin 64) : Nat → State
  | 0 => s
  | k + 1 =>
    match (s.fnSt f).held with
    | [] => s
    | x :: xs =>
      match s.tryAccess f x with
      | (t, none) => State.serveHeld (t.modFn f fun y => { y with held := y.held.drop 1 }) f k
      | (t, some y) => t.modFn f fun z => { z with held := y :: xs }

/-! ### Accesses by any requester -/

/-- The words of a write, one at a time in ascending order (R59), each in a cycle of its own. -/
def State.writeWords (s : State) (who : Req) : Nat → List (BitVec 4 × Word) → State
  | _, [] => s
  | a, w :: ws => State.writeWords (s.newCycle.wordWrite who a w.1 w.2) who (a + 4) ws

/-- A write of `k` words from `a` crosses a page boundary (R61). -/
def crossesPage (a k : Nat) : Bool := decide (0x1000 < a % 0x1000 + 4 * k)

/-- The page whose ERR_CAP records an access that starts at `a`. -/
def errPage (a : Nat) : Nat :=
  match pageOf a with
  | some (t, n) => pageBase t n
  | none => Base.glob

/-- A write of consecutive words of BAR0, or of a doorbell page at 0x400_0000 + f × 0x1000. -/
def State.busWrite (s : State) (who : Req) (a : Nat) (ws : List (BitVec 4 × Word)) : State :=
  if 0x0400_0000 ≤ a then
    let f := (a - 0x0400_0000) / 0x1000
    if s.bar4Open who f then
      ws.zipIdx.foldl (fun s w => s.bar4Write who f (a % 0x1000 / 4 * 4 + 4 * w.2) w.1.1 w.1.2) s
    else s
  else
    match who with
    | .fn f => s.hostAccess f (.write a ws)
    | _ => if crossesPage a ws.length then s.accErr (errPage a) 0x04 who a true else s.writeWords who a ws

/-- A write of one whole word of BAR0. -/
def State.busPut (s : State) (who : Req) (a : Nat) (data : Word) : State := s.busWrite who a [(0xF#4, data)]

/-- A read of one word of BAR0. -/
def State.busGet (s : State) (who : Req) (a : Nat) : State :=
  match who with
  | .fn f => s.hostAccess f (.read a)
  | _ => s.newCycle.wordRead who a

/-- A write of bytes through BAR2. -/
def State.busWrite2 (s : State) (who : Req) (o : Nat) (bs : List Byte) : State :=
  match who with
  | .fn f => s.hostAccess f (.write2 o bs)
  | _ => if s.shows who none then (s.bar2Put who (!(who == .mgmt)) o bs).1 else s

/-- A read of one word through BAR2. -/
def State.busGet2 (s : State) (who : Req) (o : Nat) (bad : Bool) : State :=
  match who with
  | .fn f => s.hostAccess f (.read2 o bad)
  | _ => if s.shows who none then s.bar2Read who o bad else s.respond 0

end Sys2Proof.Machine
end

