-- ==== Sys2Proof/Machine/Debug.lean ====
section
/-!
DEFINITION. Chapter 20: the debug port's accesses (R538), the debug space (R539), and halts (R540).
-/
namespace Sys2Proof.Machine

/-! ### Targets -/

/-- The page of a debug target. -/
def dbgPage : DbgTarget → Nat
  | .seq n => Base.seq n
  | .lane n => Base.lane n

/-- The number of a target's debug block. -/
def dbgNum : DbgTarget → Nat
  | .seq n => n
  | .lane n => laneDbg n

/-- The target whose block holds an address of the debug space (R539). -/
def dbgTargetAt (a : Nat) : Option DbgTarget :=
  if a < 0x4000 then some (.seq (Fin.ofNat 256 (a / 0x40)))
  else if a < 0x5000 then some (.lane (Fin.ofNat 64 ((a - 0x4000) / 0x40)))
  else none

/-- The target is halted. -/
def State.dbgHalted (s : State) : DbgTarget → Bool
  | .seq n => (s.seq n).halted
  | .lane n => (s.lane n).halted

/-- The requester that the debug port acts as at its level (R537). -/
def State.dbgWho (s : State) : Req := if s.dbgLevel = 2 then .dbgSecure else .dbgUser

/-- The debug port is unlocked. -/
def State.dbgOpen (s : State) : Bool := s.dbgAlive && s.dbgLevel != 0

/-! ### Registers of a target -/

/-- The register that REG_SEL selects, as read (R539). The g registers and loop counters read 0 while the sequencer neither
is halted nor stands stopped (R96). -/
def State.dbgReg (s : State) (t : DbgTarget) (sel : Nat) : Nat :=
  match t with
  | .seq n =>
    let b := Base.seq n
    let shown := (s.seq n).halted || !s.pageBusy .seq n
    if sel < 32 then (if shown then s.fld b Reg.Seq.G sel else 0)
    else if sel < 36 then (if shown then s.fld b Reg.Seq.LC (sel - 32) else 0)
    else if sel = 36 then (s.seq n).tp % 2 ^ 32
    else if sel = 37 then (s.seq n).tp / 2 ^ 32
    else if sel = 38 then s.fld b Reg.Seq.PC
    else 0
  | .lane n =>
    let b := Base.lane n
    if sel < 16 then s.fld b Reg.Lane.D sel
    else if sel < 24 then s.fld b Reg.Lane.A (sel - 16)
    else if sel < 32 then
      (if sel % 2 = 0 then s.fld b Reg.Lane.AC_LO ((sel - 24) / 2) else s.fld b Reg.Lane.AC_HI ((sel - 24) / 2))
    else if sel = 32 then s.fld b Reg.Lane.PC
    else 0

/-- A write of REG_DATA, accepted only while the target is halted (R539). A sequencer that is given another pc dispatches
there with no restart word. -/
def State.dbgRegPut (s : State) (t : DbgTarget) (sel : Nat) (w : Word) : State :=
  if !s.dbgHalted t then s
  else
    let v := w.toNat
    match t with
    | .seq n =>
      let b := Base.seq n
      if sel < 32 then s.setFld b Reg.Seq.G v sel
      else if sel < 36 then s.setFld b Reg.Seq.LC v (sel - 32)
      else if sel = 36 then s.modSeq n fun q => { q with tp := q.tp / 2 ^ 32 * 2 ^ 32 + v }
      else if sel = 37 then s.modSeq n fun q => { q with tp := q.tp % 2 ^ 32 + v * 2 ^ 32 }
      else if sel = 38 then
        (if v % 2048 = s.fld b Reg.Seq.PC then s
          else (s.setFld b Reg.Seq.PC v).modSeq n fun q => { q with restart := none })
      else s
    | .lane n =>
      let b := Base.lane n
      if sel < 16 then s.setFld b Reg.Lane.D v sel
      else if sel < 24 then s.setFld b Reg.Lane.A v (sel - 16)
      else if sel < 32 then
        (if sel % 2 = 0 then s.setFld b Reg.Lane.AC_LO v ((sel - 24) / 2) else s.setFld b Reg.Lane.AC_HI v ((sel - 24) / 2))
      else if sel = 32 then s.setFld b Reg.Lane.PC v
      else s

/-! ### Control -/

/-- A write of 1 to HALT (R540): the halt is taken at the next boundary. -/
def State.dbgHalt (s : State) : DbgTarget → State
  | .seq n => if (s.seq n).halted then s else s.modSeq n fun q => { q with haltReq := true }
  | .lane n => if (s.lane n).halted then s else s.modLane n fun x => { x with haltReq := true }

/-- A write of 1 to RESUME (R540): the abandoned instruction is dispatched again, whatever breakpoint stands on it. -/
def State.dbgResume (s : State) : DbgTarget → State
  | .seq n =>
    let q := s.seq n
    if q.halted then s.modSeq n fun q => { q with halted := false, stepping := false, stepped := false, pass := true } else s
  | .lane n => if (s.lane n).halted then s.modLane n fun x => { x with halted := false, stepping := false } else s

/-- A write of 1 to STEP (R540): one instruction of a halted target is issued. -/
def State.dbgStep (s : State) : DbgTarget → State
  | .seq n => if (s.seq n).halted then s.modSeq n fun q => { q with stepping := true, stepped := false, pass := true } else s
  | .lane n => if (s.lane n).halted then s.modLane n fun x => { x with stepping := true } else s

/-- DSTAT (R539). -/
def State.dbgDstat (s : State) (t : DbgTarget) : Nat :=
  let d := s.dbg (dbgNum t)
  (s.dbgHalted t).toNat + 2 * d.reason + 16 * d.bpNum

/-- A word of the debug space, as read (R539). -/
def State.dbgWord (s : State) (t : DbgTarget) (off : Nat) : Nat :=
  let d := s.dbg (dbgNum t)
  match off with
  | 0x04 => s.dbgDstat t
  | 0x18 => d.regSel
  | 0x1C => s.dbgReg t d.regSel
  | _ => if 0x08 ≤ off ∧ off < 0x18 then (d.bps.getD ((off - 0x08) / 4) 0).toNat else 0

/-- A write of a word of the debug space (R539, R540). -/
def State.dbgPut (s : State) (t : DbgTarget) (off : Nat) (w : Word) : State :=
  match off with
  | 0x00 =>
    let s := if w.getLsbD 0 then s.dbgHalt t else s
    let s := if w.getLsbD 1 then s.dbgResume t else s
    if w.getLsbD 2 then s.dbgStep t else s
  | 0x18 => s.modDbg (dbgNum t) fun d => { d with regSel := w.toNat }
  | 0x1C => s.dbgRegPut t (s.dbg (dbgNum t)).regSel w
  | _ =>
    if 0x08 ≤ off ∧ off < 0x18 then
      s.modDbg (dbgNum t) fun d => { d with bps := d.bps.set ((off - 0x08) / 4) (w &&& 0x8000_0FFF#32) }
    else s

/-! ### DBG_ACCESS -/

/-- The operation ends with a status and data (R538). -/
def State.dbgDone (s : State) (stat : Nat) (data : Nat := 0) : State :=
  s.modPower fun p => { p with dbgStat := stat, dbgData := BitVec.ofNat 32 data }

/-- An access to the debug space: refused where the target's page refuses the port (R55, R538, R539). -/
def State.dbgSpace (s : State) (a : Nat) (w : Option Word) : State :=
  match dbgTargetAt a with
  | none => s.dbgDone 2
  | some t =>
    match s.denied s.dbgWho (dbgPage t) with
    | some c => (s.accErr (dbgPage t) c s.dbgWho (a % 0x40) w.isSome).dbgDone 2
    | none =>
      match w with
      | none => s.dbgDone 0 (s.dbgWord t (a % 0x40))
      | some w => (s.dbgPut t (a % 0x40) w).dbgDone 0

/-- An access to BAR0 is refused to the port (R55). -/
def State.dbgRefused (s : State) (a : Nat) (wr : Bool) : Bool :=
  match pageOf a with
  | some (t, n) =>
    let off := a % 0x1000
    if wr && off == 0x020 then s.bit (pageBase t n) Reg.Hdr.SEC && !reqSecure s.dbgWho
    else !(freeToRead t off && !wr) && (s.denied s.dbgWho (pageBase t n)).isSome
  | none => false

/-- A read or write through the debug port (R538). -/
def State.dbgAccess (s : State) (space a : Nat) (w : Option Word) : State :=
  if !s.dbgOpen then s.dbgDone 3
  else if space = 0 ∧ 0xFFC < a % 0x1000 ∧ a < 0x0400_0000 then
    (s.accErr (errPage a) 0x04 s.dbgWho (a % 0x1000) w.isSome).dbgDone 2
  else if space = 3 ∨ a % 4 ≠ 0 ∨ (space = 0 ∧ 0x0400_0000 ≤ a) ∨ (space = 1 ∧ 0x0800_0000 ≤ a) then s.dbgDone 2
  else if space = 2 then s.dbgSpace a w
  else if space = 0 then
    let no := s.dbgRefused a w.isSome
    match w with
    | none =>
      let r := s.busGet s.dbgWho a
      if no then r.dbgDone 2 else r.dbgDone 0 r.respVal.toNat
    | some w => (s.busPut s.dbgWho a w).dbgDone (if no then 2 else 0)
  else
    let no := (s.windowDenied s.dbgWho (windowAt a)).isSome && windowAt a != .reserved
    match w with
    | none =>
      let r := s.busGet2 s.dbgWho a false
      if no then r.dbgDone 2 else r.dbgDone 0 r.respVal.toNat
    | some w =>
      let lost := (s.bar2Put s.dbgWho true a (bytesLE w.toNat 4)).2.2
      (s.busWrite2 s.dbgWho a (bytesLE w.toNat 4)).dbgDone (if no || lost != 0 then 2 else 0)

/-- DBG_ACCESS_READ (R538). -/
def execDbgAccessRead (space : Fin 4) (addr : BitVec 32) (s : State) : Out :=
  finish (if s.dbgAlive then s.dbgAccess space addr.toNat none else s)

/-- DBG_ACCESS_WRITE (R538). -/
def execDbgAccessWrite (space : Fin 4) (addr data : BitVec 32) (s : State) : Out :=
  finish (if s.dbgAlive then s.dbgAccess space addr.toNat (some data) else s)

/-- DBG_ACCESS_POLL (R538): the status of the last operation in [1:0], its data in [63:32]. -/
def execDbgAccessPoll (s : State) : Out :=
  .next (if s.dbgAlive then s.respond ((if s.dbgOpen then s.power.dbgStat else 3) + s.power.dbgData.toNat * 2 ^ 32) else s)

/-- Where the debug space holds a target's block (R539). -/
def dbgAddr : DbgTarget → Nat
  | .seq n => 0x40 * n
  | .lane n => 0x4000 + 0x40 * n

/-- DEBUG_HALT (R539, R540): a write of 1 to DCTL.HALT. -/
def execDebugHalt (t : DbgTarget) (s : State) : Out := finish (if s.dbgAlive then s.dbgAccess 2 (dbgAddr t) (some 1) else s)

/-- DEBUG_RESUME (R540). -/
def execDebugResume (t : DbgTarget) (s : State) : Out := finish (if s.dbgAlive then s.dbgAccess 2 (dbgAddr t) (some 2) else s)

/-- DEBUG_STEP (R540). -/
def execDebugStep (t : DbgTarget) (s : State) : Out := finish (if s.dbgAlive then s.dbgAccess 2 (dbgAddr t) (some 4) else s)

/-- REG_DATA_WRITE (R539). -/
def execRegDataWrite (t : DbgTarget) (data : BitVec 32) (s : State) : Out :=
  finish (if s.dbgAlive then s.dbgAccess 2 (dbgAddr t + 0x1C) (some data) else s)

/-- DEBUG_HALT_TAKEN (R540): the halt that a request, a step or a breakpoint asks for is taken at a boundary. -/
def execDebugHaltTaken (t : DbgTarget) (h : Fin 2) (s : State) : Out :=
  match t with
  | .seq n =>
    match s.haltReason n (s.stepOf h) with
    | some r => finish (s.seqHalt n (s.stepOf h) r.1 r.2)
    | none => .next s
  | .lane n => finish (s.laneBoundary n)

end Sys2Proof.Machine
end

