-- ==== Sys2Proof/Machine/RegRows.lean ====
section
/-!
DEFINITION. The commands that are one register access each: every one is the access of its requester to its register, with
what chapter 02 and the register's chapter make of it. Where a command has no data of its own, only the byte that holds its
bit is written, and the other fields of that byte are written as they stand.
-/
namespace Sys2Proof.Machine

/-- A write of the low byte of a register. -/
def State.putByte (s : State) (who : Req) (a : Nat) (v : Word) : State := s.busWrite who a [(0x1#4, v)]

/-- A write of the high byte of a register. -/
def State.putTop (s : State) (who : Req) (a : Nat) (v : Word) : State := s.busWrite who a [(0x8#4, v)]

/-- A write of 1 to ENABLE of the page at `b`. -/
def State.putEnable (s : State) (who : Req) (b : Nat) : State := s.putByte who (b + 0x008) 1

/-- A write of 0 to ENABLE of the page at `b`. -/
def State.putDisable (s : State) (who : Req) (b : Nat) : State := s.putByte who (b + 0x008) 0

/-- A write of a bit of CTL, ENABLE written as it stands. -/
def State.putCtl (s : State) (who : Req) (b i : Nat) : State :=
  s.putByte who (b + 0x008) (BitVec.ofNat 32 (2 ^ i + (s.enabled b).toNat))

/-- A word with bit `i` set. -/
def withBit (w : Word) (i : Nat) : Word := w ||| BitVec.ofNat 32 (2 ^ i)

/-! ### Any page (chapter 02) -/

/-- REGISTER_WRITE (R59). -/
def execRegisterWrite (who : Req) (addr : BitVec 27) (ws : List (BitVec 4 × BitVec 32)) (s : State) : Out :=
  finish (s.busWrite who addr.toNat ws)

/-- OWNER_WRITE (R57). -/
def execOwnerWrite (who : Req) (pg : Fin 2304) (data : BitVec 32) (s : State) : Out :=
  finish (s.busPut who (pg * 0x1000 + 0x020) data)

/-- BUDGET_WRITE (R29). -/
def execBudgetWrite (who : Req) (pg : Fin 2304) (data : BitVec 32) (s : State) : Out :=
  finish (s.busPut who (pg * 0x1000 + 0x024) data)

/-- IRQ_FORCE_WRITE (R52). -/
def execIrqForceWrite (who : Req) (pg : Fin 2304) (data : BitVec 32) (s : State) : Out :=
  finish (s.busPut who (pg * 0x1000 + 0x018) data)

/-- ERR_CAP_CLEAR (R54). -/
def execErrCapClear (who : Req) (pg : Fin 2304) (s : State) : Out :=
  finish (s.putTop who (pg * 0x1000 + 0x01C) (withBit 0 31))

/-- HOST_ACCESS_RELEASE (R396). -/
def execHostAccessRelease (f : Fin 64) (s : State) : Out := finish (s.serveHeld f 80)

/-! ### Timeline (chapter 03) -/

/-- ARM (R69, R72). -/
def execArm (who : Req) (data : BitVec 32) (s : State) : Out := finish (s.busPut who (Base.tl + 0x050) (withBit data 0))

/-- TL_NOW_READ (R90). -/
def execTlNowRead (who : Req) (s : State) : Out := finish (s.busGet who (Base.tl + 0x040))

/-- SNAP (R89). -/
def execSnap (who : Req) (s : State) : Out := finish (s.putByte who (Base.tl + 0x008) 4)

/-- TILE_EN_WRITE (R79). -/
def execTileEnWrite (who : Req) (data : BitVec 32) (s : State) : Out := finish (s.busPut who (Base.tl + 0x05C) data)

/-! ### Sequencers and microcode (chapters 04 and 05) -/

/-- SEQ_ENABLE (R126, R128). -/
def execSeqEnable (who : Req) (n : Fin 256) (s : State) : Out := finish (s.putEnable who (Base.seq n))

/-- SEQ_NORMAL_DISABLE (R128). -/
def execSeqNormalDisable (who : Req) (n : Fin 256) (s : State) : Out := finish (s.putDisable who (Base.seq n))

/-- SEQ_DISABLE_NOW (R129). -/
def execSeqDisableNow (who : Req) (n : Fin 256) (s : State) : Out := finish (s.putCtl who (Base.seq n) 1)

/-- HANDOVER_GO (R131). -/
def execHandoverGo (who : Req) (n : Fin 256) (data : BitVec 32) (s : State) : Out :=
  finish (s.busPut who (Base.seq n + 0x064) (withBit data 31))

/-- VERIFY (R153). -/
def execVerify (who : Req) (s : State) : Out := finish (s.putByte who (Base.sec + 0x100) 1)

/-- APPLY (R155). -/
def execApply (who : Req) (s : State) : Out := finish (s.putByte who (Base.sec + 0x100) 2)

/-! ### Tone engines and BAR2 (chapter 06) -/

/-- TONE_ENABLE (R180, R189). -/
def execToneEnable (who : Req) (n : Fin 512) (s : State) : Out := finish (s.putEnable who (Base.tone n))

/-- TONE_NORMAL_DISABLE (R189). -/
def execToneNormalDisable (who : Req) (n : Fin 512) (s : State) : Out := finish (s.putDisable who (Base.tone n))

/-- TONE_DISABLE_NOW (R190). -/
def execToneDisableNow (who : Req) (n : Fin 512) (s : State) : Out := finish (s.putCtl who (Base.tone n) 1)

/-- BAR2_WRITE (R49, R50, R186). -/
def execBar2Write (who : Req) (off : BitVec 27) (bytes : List (BitVec 8)) (s : State) : Out :=
  finish (s.busWrite2 who off.toNat bytes)

/-- PARTITION_WRITE (R169). -/
def execPartitionWrite (who : Req) (f : Fin 64) (seg : Bool) (data : BitVec 32) (s : State) : Out :=
  finish (s.busPut who (Base.fn f + (if seg then 0x044 else 0x040)) data)

/-! ### Converters and read-out (chapters 07 to 09) -/

/-- OUT_ENABLE (R210). -/
def execOutEnable (who : Req) (k : Fin 48) (s : State) : Out := finish (s.putEnable who (Base.out k))

/-- OUT_NORMAL_DISABLE (R211). -/
def execOutNormalDisable (who : Req) (k : Fin 48) (s : State) : Out := finish (s.putDisable who (Base.out k))

/-- OUT_DISABLE_NOW (R212). -/
def execOutDisableNow (who : Req) (k : Fin 48) (s : State) : Out := finish (s.putCtl who (Base.out k) 1)

/-- NCO_FREQ_HI_WRITE (R206). -/
def execNcoFreqHiWrite (who : Req) (k : Fin 48) (data : BitVec 32) (s : State) : Out :=
  finish (s.busPut who (Base.out k + 0x048) data)

/-- ADC_ENABLE (R239). -/
def execAdcEnable (who : Req) (a : Fin 16) (s : State) : Out := finish (s.putEnable who (Base.adc a))

/-- ADC_NORMAL_DISABLE (R243). -/
def execAdcNormalDisable (who : Req) (a : Fin 16) (s : State) : Out := finish (s.putDisable who (Base.adc a))

/-- ADC_DISABLE_NOW (R243). -/
def execAdcDisableNow (who : Req) (a : Fin 16) (s : State) : Out := finish (s.putCtl who (Base.adc a) 1)

/-- DNCO_FREQ_HI_WRITE (R237). -/
def execDncoFreqHiWrite (who : Req) (a : Fin 16) (data : BitVec 32) (s : State) : Out :=
  finish (s.busPut who (Base.adc a + 0x048) data)

/-- ROUT_ENABLE (R240). -/
def execRoutEnable (who : Req) (n : Fin 256) (s : State) : Out := finish (s.putEnable who (Base.rout n))

/-- ROUT_NORMAL_DISABLE (R241). -/
def execRoutNormalDisable (who : Req) (n : Fin 256) (s : State) : Out := finish (s.putDisable who (Base.rout n))

/-- ROUT_DISABLE_NOW (R242). -/
def execRoutDisableNow (who : Req) (n : Fin 256) (s : State) : Out := finish (s.putCtl who (Base.rout n) 1)

/-- SWAP (R231). -/
def execSwap (who : Req) (n : Fin 256) (data : BitVec 32) (s : State) : Out :=
  finish (s.busPut who (Base.rout n + 0x05C) (withBit data 9))

/-- COEFFICIENT_WRITE (R231). -/
def execCoefficientWrite (who : Req) (n : Fin 256) (j : Fin 384) (data : BitVec 32) (s : State) : Out :=
  finish (s.busPut who (Base.rout n + 0x800 + 4 * j) data)

/-- KDATA_WRITE (R255). -/
def execKdataWrite (who : Req) (n : Fin 256) (data : BitVec 32) (s : State) : Out :=
  finish (s.busPut who (Base.rout n + 0x164) data)

/-- KDATA_READ (R255). -/
def execKdataRead (who : Req) (n : Fin 256) (s : State) : Out := finish (s.busGet who (Base.rout n + 0x164))

/-- RES_ACC_READ (R265). -/
def execResAccRead (who : Req) (n : Fin 256) (s : State) : Out := finish (s.busGet who (Base.rout n + 0x140))

/-- LANE_ENABLE (R279). -/
def execLaneEnable (who : Req) (n : Fin 64) (s : State) : Out := finish (s.putEnable who (Base.lane n))

/-- LANE_NORMAL_DISABLE (R279). -/
def execLaneNormalDisable (who : Req) (n : Fin 64) (s : State) : Out := finish (s.putDisable who (Base.lane n))

/-- LANE_DISABLE_NOW (R279). -/
def execLaneDisableNow (who : Req) (n : Fin 64) (s : State) : Out := finish (s.putCtl who (Base.lane n) 1)

/-! ### Syndrome unit (chapter 10) -/

/-- FRAME_XOR (R306). -/
def execFrameXor (who : Req) (data : BitVec 32) (s : State) : Out := finish (s.busPut who (Base.syn + 0x078) data)

/-- FRAME_CLR (R306). -/
def execFrameClr (who : Req) (s : State) : Out := finish (s.putByte who (Base.syn + 0x07C) 1)

/-- CMAP_DATA_ACCESS (R309, R313). -/
def execCmapDataAccess (who : Req) (w : Option (BitVec 32)) (s : State) : Out :=
  finish (match w with
    | some d => s.busPut who (Base.syn + 0x05C) d
    | none => s.busGet who (Base.syn + 0x05C))

/-- SYNDROME_ENABLE (R309). -/
def execSyndromeEnable (who : Req) (s : State) : Out := finish (s.putEnable who Base.syn)

/-- SYNDROME_NORMAL_DISABLE (R309). -/
def execSyndromeNormalDisable (who : Req) (s : State) : Out := finish (s.putDisable who Base.syn)

/-- SYNDROME_DISABLE_NOW (R309). -/
def execSyndromeDisableNow (who : Req) (s : State) : Out := finish (s.putCtl who Base.syn 1)

/-! ### The Jency link (chapter 11) -/

/-- BTX_GO (R328). -/
def execBtxGo (who : Req) (p : Fin 8) (data : BitVec 32) (s : State) : Out :=
  finish (s.busPut who (Base.jport p + 0x064) (withBit data 31))

/-- BRX_VALID_CLEAR (R329). -/
def execBrxValidClear (who : Req) (p : Fin 8) (s : State) : Out :=
  finish (s.putTop who (Base.jport p + 0x068) (withBit 0 31))

/-- JPORT_NORMAL_DISABLE (R330). -/
def execJportNormalDisable (who : Req) (p : Fin 8) (s : State) : Out := finish (s.putDisable who (Base.jport p))

/-- JPORT_DISABLE_NOW (R330). -/
def execJportDisableNow (who : Req) (p : Fin 8) (s : State) : Out := finish (s.putCtl who (Base.jport p) 1)

/-- ANNOUNCE (R331). -/
def execAnnounce (who : Req) (data : BitVec 32) (s : State) : Out :=
  finish (s.busPut who (Base.mesh + 0x054) (withBit data 0))

/-- PORT_EN_WRITE (R320, R335): the low byte of the register. -/
def execPortEnWrite (who : Req) (data : BitVec 32) (s : State) : Out := finish (s.putByte who (Base.mesh + 0x058) data)

/-- PORT_KILL (R335): the second byte of the register. -/
def execPortKill (who : Req) (data : BitVec 32) (s : State) : Out :=
  finish (s.busWrite who (Base.mesh + 0x058) [(0x2#4, data)])

/-! ### Acquisition (chapter 12) -/

/-- ARM_NOW (R344). -/
def execArmNow (who : Req) (n : Fin 32) (s : State) : Out := finish (s.putCtl who (Base.acq n) 2)

/-- FIRE_NOW (R347). -/
def execFireNow (who : Req) (n : Fin 32) (s : State) : Out := finish (s.putCtl who (Base.acq n) 3)

/-- CURD_READ (R343). -/
def execCurdRead (who : Req) (off : BitVec 26) (bad : Bool) (s : State) : Out :=
  finish (s.busGet2 who (0x0300_0000 + off.toNat) bad)

/-- ACQ_ENABLE (R344, R357). -/
def execAcqEnable (who : Req) (n : Fin 32) (s : State) : Out := finish (s.putEnable who (Base.acq n))

/-- ACQ_NORMAL_DISABLE (R357). -/
def execAcqNormalDisable (who : Req) (n : Fin 32) (s : State) : Out := finish (s.putDisable who (Base.acq n))

/-- ACQ_DISABLE_NOW (R357). -/
def execAcqDisableNow (who : Req) (n : Fin 32) (s : State) : Out := finish (s.putCtl who (Base.acq n) 1)

/-! ### Flux channels (chapter 13) -/

/-- FLUX_ENABLE (R368). -/
def execFluxEnable (who : Req) (n : Fin 96) (s : State) : Out := finish (s.putEnable who (Base.flux n))

/-- FLUX_NORMAL_DISABLE (R369). -/
def execFluxNormalDisable (who : Req) (n : Fin 96) (s : State) : Out := finish (s.putDisable who (Base.flux n))

/-- FLUX_DISABLE_NOW (R369). -/
def execFluxDisableNow (who : Req) (n : Fin 96) (s : State) : Out := finish (s.putCtl who (Base.flux n) 1)

/-- D_GO (R376). -/
def execDGo (who : Req) (n : Fin 96) (data : BitVec 32) (s : State) : Out :=
  finish (s.busPut who (Base.flux n + 0x058) (withBit data 31))

/-- FAULT_CLR (R382). -/
def execFaultClr (who : Req) (n : Fin 96) (s : State) : Out := finish (s.putByte who (Base.flux n + 0x070) 1)

/-- FLUX_NVM_STORE (R379, R387). -/
def execFluxNvmStore (who : Req) (n : Fin 96) (s : State) : Out := finish (s.putByte who (Base.flux n + 0x070) 2)

/-! ### Function pages (chapter 14) -/

/-- RING_ENABLE (R399). -/
def execRingEnable (who : Req) (f : Fin 64) (data : BitVec 32) (s : State) : Out :=
  finish (s.busPut who (Base.fn f + 0x064) (withBit data 31))

/-- RING_DISABLE (R407). -/
def execRingDisable (who : Req) (f : Fin 64) (data : BitVec 32) (s : State) : Out :=
  finish (s.busPut who (Base.fn f + 0x064) (data &&& 0x7FFF_FFFF#32))

/-- RING_SEL_WRITE (R416). -/
def execRingSelWrite (who : Req) (f : Fin 64) (data : BitVec 32) (s : State) : Out :=
  finish (s.busPut who (Base.fn f + 0x060) data)

/-- QUOTA_WRITE (R397). -/
def execQuotaWrite (who : Req) (f : Fin 64) (data : BitVec 32) (s : State) : Out :=
  finish (s.busPut who (Base.fn f + 0x048) data)

/-! ### DRAM controller (chapter 15) -/

/-- MC_UNFREEZE (R438). -/
def execMcUnfreeze (who : Req) (s : State) : Out :=
  finish (s.putByte who (Base.mc + 0x070) (withBit (BitVec.ofNat 32 (2 * s.fld Base.mc Reg.Mc.RETRAIN)) 0))

/-- FRZ_VALID_CLEAR (R437). -/
def execFrzValidClear (who : Req) (s : State) : Out := finish (s.putTop who (Base.mc + 0x074) (withBit 0 31))

/-- NV_STORE (R419). -/
def execNvStore (who : Req) (s : State) : Out := finish (s.putByte who (Base.mc + 0x09C) 1)

/-- REGION_WRITE (R423). -/
def execRegionWrite (who : Req) (ring : Bool) (data : BitVec 32) (s : State) : Out :=
  finish (s.busPut who (Base.mc + (if ring then 0x050 else 0x04C)) data)

/-! ### Events and interrupts (chapter 16) -/

/-- EVENT_FIRE (R445). -/
def execEventFire (who : Req) (g : Fin 32) (data : BitVec 32) (s : State) : Out :=
  finish (s.busPut who (Base.evg g + 0x080) data)

/-- CH_EN_WRITE (R451, R453). -/
def execChEnWrite (who : Req) (k : Fin 256) (data : BitVec 32) (s : State) : Out :=
  finish (s.busPut who (evgPage k + 0x040 + 8 * (k % 8)) data)

/-- EVENT_GROUP_ENABLE (R443). -/
def execEventGroupEnable (who : Req) (g : Fin 32) (s : State) : Out := finish (s.putEnable who (Base.evg g))

/-- EVENT_GROUP_NORMAL_DISABLE (R454). -/
def execEventGroupNormalDisable (who : Req) (g : Fin 32) (s : State) : Out := finish (s.putDisable who (Base.evg g))

/-- EVENT_GROUP_DISABLE_NOW (R454). -/
def execEventGroupDisableNow (who : Req) (g : Fin 32) (s : State) : Out := finish (s.putCtl who (Base.evg g) 1)

/-- RT_DATA_ACCESS (R460, R464). -/
def execRtDataAccess (who : Req) (w : Option (BitVec 32)) (s : State) : Out :=
  finish (match w with
    | some d => s.busPut who (Base.intc + 0x044) d
    | none => s.busGet who (Base.intc + 0x044))

/-! ### Network (chapter 17) -/

/-- TX_GO (R475). -/
def execTxGo (who : Req) (p : Fin 2) (data : BitVec 32) (s : State) : Out :=
  finish (s.busPut who (Base.eth p + 0x060) (withBit data 31))

/-- ETH_ENABLE (R465). -/
def execEthEnable (who : Req) (p : Fin 2) (s : State) : Out := finish (s.putEnable who (Base.eth p))

/-- ETH_NORMAL_DISABLE (R477). -/
def execEthNormalDisable (who : Req) (p : Fin 2) (s : State) : Out := finish (s.putDisable who (Base.eth p))

/-- ETH_DISABLE_NOW (R477). -/
def execEthDisableNow (who : Req) (p : Fin 2) (s : State) : Out := finish (s.putCtl who (Base.eth p) 1)

/-- NT_INC_NS_WRITE (R469). -/
def execNtIncNsWrite (who : Req) (data : BitVec 32) (s : State) : Out := finish (s.busPut who (Base.nclk + 0x04C) data)

/-- STEP_GO (R470). -/
def execStepGo (who : Req) (s : State) : Out := finish (s.putByte who (Base.nclk + 0x058) 1)

/-- NT_NS_READ (R481). -/
def execNtNsRead (who : Req) (s : State) : Out := finish (s.busGet who (Base.nclk + 0x040))

/-! ### Housekeeping (chapter 18) -/

/-- THR_FORCE_WRITE (R489). -/
def execThrForceWrite (who : Req) (data : BitVec 32) (s : State) : Out := finish (s.busPut who (Base.thm + 0x040) data)

/-- SH_DATA_READ (R502). -/
def execShDataRead (who : Req) (s : State) : Out := finish (s.busGet who (Base.thm + 0x05C))

/-- SFE_REQ (R499). -/
def execSfeReq (who : Req) (k : Fin 16) (s : State) : Out := finish (s.putByte who (Base.sfe k + 0x044) 1)

/-- COEF_GO (R498). -/
def execCoefGo (who : Req) (k : Fin 16) (s : State) : Out := finish (s.putByte who (Base.sfe k + 0x044) 2)

/-- SFE_ENABLE (R495). -/
def execSfeEnable (who : Req) (k : Fin 16) (s : State) : Out := finish (s.putEnable who (Base.sfe k))

/-- SFE_NORMAL_DISABLE (R500). -/
def execSfeNormalDisable (who : Req) (k : Fin 16) (s : State) : Out := finish (s.putDisable who (Base.sfe k))

/-- SFE_DISABLE_NOW (R500). -/
def execSfeDisableNow (who : Req) (k : Fin 16) (s : State) : Out := finish (s.putCtl who (Base.sfe k) 1)

/-! ### Calibration (chapter 19) -/

/-- A request word of CAL_CTL: the fields of `w`, a mode, and one request bit. -/
def calWord (w : Word) (mode bit : Nat) : Word := (w &&& 0x00FF_FFFF#32) ||| BitVec.ofNat 32 (mode * 2 ^ 24 + 2 ^ bit)

/-- CAL_FOREGROUND (R509, R510). -/
def execCalForeground (who : Req) (data : BitVec 32) (s : State) : Out :=
  finish (s.busPut who (Base.cal + 0x040) (calWord data 0 31))

/-- CAL_BACKGROUND_START (R513). -/
def execCalBackgroundStart (who : Req) (data : BitVec 32) (s : State) : Out :=
  finish (s.busPut who (Base.cal + 0x040) (calWord data 1 31))

/-- CAL_BACKGROUND_STOP (R513). -/
def execCalBackgroundStop (who : Req) (data : BitVec 32) (s : State) : Out :=
  finish (s.busPut who (Base.cal + 0x040) (calWord data 2 31))

/-- CAL_ABORT (R512). -/
def execCalAbort (who : Req) (s : State) : Out :=
  finish (s.putTop who (Base.cal + 0x040) (calWord 0 (s.fld Base.cal Reg.Cal.MODE) 30))

/-- CAL_STORE (R516). -/
def execCalStore (who : Req) (data : BitVec 32) (s : State) : Out :=
  finish (s.busPut who (Base.cal + 0x040) (calWord data (s.fld Base.cal Reg.Cal.MODE) 29))

/-- CAL_RESTORE (R516). -/
def execCalRestore (who : Req) (data : BitVec 32) (s : State) : Out :=
  finish (s.busPut who (Base.cal + 0x040) (calWord data (s.fld Base.cal Reg.Cal.MODE) 28))

/-- TRIM_DATA_READ (R508, R520). -/
def execTrimDataRead (who : Req) (s : State) : Out := finish (s.busGet who (Base.cal + 0x074))

/-! ### Power, reset and debug (chapter 20) -/

/-- A request for a device state: REQ_STATE and REQ_GO in one write (R522). -/
def State.request (s : State) (who : Req) (st : Nat) : State :=
  s.busPut who (Base.pwr + 0x044) (withBit (BitVec.ofNat 32 st) 31)

/-- REQ_CONFIGURED (R522). -/
def execReqConfigured (who : Req) (s : State) : Out := finish (s.request who 3)

/-- REQ_READY (R522). -/
def execReqReady (who : Req) (s : State) : Out := finish (s.request who 4)

/-- REQ_RUNNING (R522). -/
def execReqRunning (who : Req) (s : State) : Out := finish (s.request who 5)

/-- REQ_CELLAR (R522, R533). -/
def execReqCellar (who : Req) (s : State) : Out := finish (s.request who 6)

/-- WAKE_REQ (R535). -/
def execWakeReq (who : Req) (s : State) : Out := finish (s.putByte who (Base.pwr + 0x05C) 1)

/-- WARM_RESET (R526). -/
def execWarmReset (who : Req) (s : State) : Out := finish (s.putByte who (Base.pwr + 0x048) 1)

/-- A write by `who` to the BAR0 word at `a` is carried out at once. -/
def State.reachesNow (s : State) (who : Req) (a : Nat) : Bool :=
  (match who with
    | .fn f => s.hostReaches f && (s.fnSt f).held.isEmpty && (s.chargeHostWord f).isSome
    | _ => true) &&
  match pageOf a with
  | some (t, n) => s.shows who (some t) && (s.denied who (pageBase t n)).isNone
  | none => false

/-- RECOVER (R531): where the write is carried out at once, the boot from the image ends as its checks and then the operand
say. -/
def execRecover (who : Req) (boot : BootEnd) (s : State) : Out :=
  let a := Base.pwr + 0x074
  finish (if s.reachesNow who a then (s.putByte who a 0).recoverGo boot else s.putByte who a 1)

/-- KEY_REVOKE_WRITE (R529). -/
def execKeyRevokeWrite (who : Req) (data : BitVec 32) (s : State) : Out := finish (s.busPut who (Base.sec + 0x050) data)

/-- DBG_CODE_WRITE (R537). -/
def execDbgCodeWrite (who : Req) (data : BitVec 32) (s : State) : Out := finish (s.busPut who (Base.pwr + 0x060) data)

/-- DBG_LOCK (R537). -/
def execDbgLock (who : Req) (s : State) : Out := finish (s.putTop who (Base.pwr + 0x064) (withBit 0 31))

end Sys2Proof.Machine
end

