-- ==== Sys2Proof/Machine/Dispatch.lean ====
section
/-!
DEFINITION. The meaning of every command: one arm for each row of the opcode table.
-/
namespace Sys2Proof.Machine

/-- What a command does to everything but the queue. -/
def exec (i : Instr) (s : State) : Host.Outcome State Fault Refusal :=
  match i with
  | .registerWrite who addr ws => Sys2Proof.Machine.execRegisterWrite who addr ws s
  | .ownerWrite who pg data => Sys2Proof.Machine.execOwnerWrite who pg data s
  | .budgetWrite who pg data => Sys2Proof.Machine.execBudgetWrite who pg data s
  | .irqForceWrite who pg data => Sys2Proof.Machine.execIrqForceWrite who pg data s
  | .errCapClear who pg => Sys2Proof.Machine.execErrCapClear who pg s
  | .hostAccessRelease f => Sys2Proof.Machine.execHostAccessRelease f s
  | .frameBoundary phase ctPhase => Sys2Proof.Machine.execFrameBoundary phase ctPhase s
  | .syncEdge early late => Sys2Proof.Machine.execSyncEdge early late s
  | .timelineLoad => Sys2Proof.Machine.execTimelineLoad s
  | .arm who data => Sys2Proof.Machine.execArm who data s
  | .tlNowRead who => Sys2Proof.Machine.execTlNowRead who s
  | .snap who => Sys2Proof.Machine.execSnap who s
  | .tileEnWrite who data => Sys2Proof.Machine.execTileEnWrite who data s
  | .refclkLost => Sys2Proof.Machine.execRefclkLost s
  | .refclkReturn => Sys2Proof.Machine.execRefclkReturn s
  | .tilePllLockLost t => Sys2Proof.Machine.execTilePllLockLost t s
  | .tileAlignment t delay => Sys2Proof.Machine.execTileAlignment t delay s
  | .seqNop n h q => Sys2Proof.Machine.execSeqNop n h q s
  | .seqMovi n h q => Sys2Proof.Machine.execSeqMovi n h q s
  | .seqAdd n h q => Sys2Proof.Machine.execSeqAdd n h q s
  | .seqSub n h q => Sys2Proof.Machine.execSeqSub n h q s
  | .seqAnd n h q => Sys2Proof.Machine.execSeqAnd n h q s
  | .seqOr n h q => Sys2Proof.Machine.execSeqOr n h q s
  | .seqXor n h q => Sys2Proof.Machine.execSeqXor n h q s
  | .seqShl n h q => Sys2Proof.Machine.execSeqShl n h q s
  | .seqShr n h q => Sys2Proof.Machine.execSeqShr n h q s
  | .seqJmp n h q => Sys2Proof.Machine.execSeqJmp n h q s
  | .seqBeq n h q => Sys2Proof.Machine.execSeqBeq n h q s
  | .seqBne n h q => Sys2Proof.Machine.execSeqBne n h q s
  | .seqBlt n h q => Sys2Proof.Machine.execSeqBlt n h q s
  | .seqBge n h q => Sys2Proof.Machine.execSeqBge n h q s
  | .seqCall n h q => Sys2Proof.Machine.execSeqCall n h q s
  | .seqRet n h q => Sys2Proof.Machine.execSeqRet n h q s
  | .seqLcset n h q => Sys2Proof.Machine.execSeqLcset n h q s
  | .seqDjnz n h q => Sys2Proof.Machine.execSeqDjnz n h q s
  | .seqTpnow n h q => Sys2Proof.Machine.execSeqTpnow n h q s
  | .seqTpadd n h q => Sys2Proof.Machine.execSeqTpadd n h q s
  | .seqTpaln n h q => Sys2Proof.Machine.execSeqTpaln n h q s
  | .seqTprd n h q => Sys2Proof.Machine.execSeqTprd n h q s
  | .seqRdnow n h q => Sys2Proof.Machine.execSeqRdnow n h q s
  | .seqWaitt n h q => Sys2Proof.Machine.execSeqWaitt n h q s
  | .waittExpiry n h => Sys2Proof.Machine.execWaittExpiry n h s
  | .seqPost n h q => Sys2Proof.Machine.execSeqPost n h q s
  | .postQueueEntry n h => Sys2Proof.Machine.execPostQueueEntry n h s
  | .seqBrd n h q => Sys2Proof.Machine.execSeqBrd n h q s
  | .brdAccept n h => Sys2Proof.Machine.execBrdAccept n h s
  | .decTimeout n h => Sys2Proof.Machine.execDecTimeout n h s
  | .seqLdd n h q => Sys2Proof.Machine.execSeqLdd n h q s
  | .seqLdf n h q => Sys2Proof.Machine.execSeqLdf n h q s
  | .seqWaite n h q => Sys2Proof.Machine.execSeqWaite n h q s
  | .waiteRelease n h => Sys2Proof.Machine.execWaiteRelease n h s
  | .waiteTimeout n h => Sys2Proof.Machine.execWaiteTimeout n h s
  | .seqBarw n h q => Sys2Proof.Machine.execSeqBarw n h q s
  | .barrierRelease n h => Sys2Proof.Machine.execBarrierRelease n h s
  | .seqShot n h q => Sys2Proof.Machine.execSeqShot n h q s
  | .seqEnds n h q => Sys2Proof.Machine.execSeqEnds n h q s
  | .seqRecd n h q => Sys2Proof.Machine.execSeqRecd n h q s
  | .seqUsrw n h q => Sys2Proof.Machine.execSeqUsrw n h q s
  | .seqSig n h q => Sys2Proof.Machine.execSeqSig n h q s
  | .seqStop n h q => Sys2Proof.Machine.execSeqStop n h q s
  | .resultRecordWrite n => Sys2Proof.Machine.execResultRecordWrite n s
  | .seqStopped n => Sys2Proof.Machine.execSeqStopped n s
  | .seqEnable who n => Sys2Proof.Machine.execSeqEnable who n s
  | .seqNormalDisable who n => Sys2Proof.Machine.execSeqNormalDisable who n s
  | .seqDisableNow who n => Sys2Proof.Machine.execSeqDisableNow who n s
  | .seqImmediateDisable n h => Sys2Proof.Machine.execSeqImmediateDisable n h s
  | .microPartialBoundary n h => Sys2Proof.Machine.execMicroPartialBoundary n h s
  | .microStepLimit n h => Sys2Proof.Machine.execMicroStepLimit n h s
  | .handoverGo who n data => Sys2Proof.Machine.execHandoverGo who n data s
  | .handoverCopy n h => Sys2Proof.Machine.execHandoverCopy n h s
  | .csRefetchComplete k a good => Sys2Proof.Machine.execCsRefetchComplete k a good s
  | .verify who => Sys2Proof.Machine.execVerify who s
  | .verifyComplete dmaErr => Sys2Proof.Machine.execVerifyComplete dmaErr s
  | .apply who => Sys2Proof.Machine.execApply who s
  | .applyComplete => Sys2Proof.Machine.execApplyComplete s
  | .toneStart n bad => Sys2Proof.Machine.execToneStart n bad s
  | .toneJump n bad => Sys2Proof.Machine.execToneJump n bad s
  | .toneStop n => Sys2Proof.Machine.execToneStop n s
  | .toneKill n => Sys2Proof.Machine.execToneKill n s
  | .toneFdelay n => Sys2Proof.Machine.execToneFdelay n s
  | .tonePhase n => Sys2Proof.Machine.execTonePhase n s
  | .toneFrame n => Sys2Proof.Machine.execToneFrame n s
  | .toneDecisionPoint n bad => Sys2Proof.Machine.execToneDecisionPoint n bad s
  | .tonePlayBoundary n => Sys2Proof.Machine.execTonePlayBoundary n s
  | .toneGranuleCheck n bad => Sys2Proof.Machine.execToneGranuleCheck n bad s
  | .toneStreamRefill n => Sys2Proof.Machine.execToneStreamRefill n s
  | .toneRefetchComplete n => Sys2Proof.Machine.execToneRefetchComplete n s
  | .toneEnable who n => Sys2Proof.Machine.execToneEnable who n s
  | .toneNormalDisable who n => Sys2Proof.Machine.execToneNormalDisable who n s
  | .toneDisableNow who n => Sys2Proof.Machine.execToneDisableNow who n s
  | .bar2Write who off bytes => Sys2Proof.Machine.execBar2Write who off bytes s
  | .partitionWrite who f seg data => Sys2Proof.Machine.execPartitionWrite who f seg data s
  | .outEnable who k => Sys2Proof.Machine.execOutEnable who k s
  | .outNormalDisable who k => Sys2Proof.Machine.execOutNormalDisable who k s
  | .outDisableNow who k => Sys2Proof.Machine.execOutDisableNow who k s
  | .ncoFreqHiWrite who k data => Sys2Proof.Machine.execNcoFreqHiWrite who k data s
  | .dacClockMissing k => Sys2Proof.Machine.execDacClockMissing k s
  | .adcEnable who a => Sys2Proof.Machine.execAdcEnable who a s
  | .adcNormalDisable who a => Sys2Proof.Machine.execAdcNormalDisable who a s
  | .adcDisableNow who a => Sys2Proof.Machine.execAdcDisableNow who a s
  | .adcClockMissing a => Sys2Proof.Machine.execAdcClockMissing a s
  | .dncoFreqHiWrite who a data => Sys2Proof.Machine.execDncoFreqHiWrite who a data s
  | .routEnable who n => Sys2Proof.Machine.execRoutEnable who n s
  | .routNormalDisable who n => Sys2Proof.Machine.execRoutNormalDisable who n s
  | .routDisabled n => Sys2Proof.Machine.execRoutDisabled n s
  | .routDisableNow who n => Sys2Proof.Machine.execRoutDisableNow who n s
  | .swap who n data => Sys2Proof.Machine.execSwap who n data s
  | .coefficientWrite who n j data => Sys2Proof.Machine.execCoefficientWrite who n j data s
  | .firRefetchComplete n => Sys2Proof.Machine.execFirRefetchComplete n s
  | .routOpen n => Sys2Proof.Machine.execRoutOpen n s
  | .routClose n => Sys2Proof.Machine.execRoutClose n s
  | .routKernel n => Sys2Proof.Machine.execRoutKernel n s
  | .windowValue n => Sys2Proof.Machine.execWindowValue n s
  | .integratorRecompute n ok => Sys2Proof.Machine.execIntegratorRecompute n ok s
  | .kdataWrite who n data => Sys2Proof.Machine.execKdataWrite who n data s
  | .kdataRead who n => Sys2Proof.Machine.execKdataRead who n s
  | .kernelRefetchComplete n => Sys2Proof.Machine.execKernelRefetchComplete n s
  | .resAccRead who n => Sys2Proof.Machine.execResAccRead who n s
  | .laneNop n q => Sys2Proof.Machine.execLaneNop n q s
  | .laneMovi n q => Sys2Proof.Machine.execLaneMovi n q s
  | .laneMovh n q => Sys2Proof.Machine.execLaneMovh n q s
  | .laneAdd n q => Sys2Proof.Machine.execLaneAdd n q s
  | .laneAddi n q => Sys2Proof.Machine.execLaneAddi n q s
  | .laneSub n q => Sys2Proof.Machine.execLaneSub n q s
  | .laneAnd n q => Sys2Proof.Machine.execLaneAnd n q s
  | .laneOr n q => Sys2Proof.Machine.execLaneOr n q s
  | .laneXor n q => Sys2Proof.Machine.execLaneXor n q s
  | .laneShli n q => Sys2Proof.Machine.execLaneShli n q s
  | .laneShri n q => Sys2Proof.Machine.execLaneShri n q s
  | .laneSari n q => Sys2Proof.Machine.execLaneSari n q s
  | .laneMul n q => Sys2Proof.Machine.execLaneMul n q s
  | .laneLd n q => Sys2Proof.Machine.execLaneLd n q s
  | .laneSt n q => Sys2Proof.Machine.execLaneSt n q s
  | .laneLd2 n q => Sys2Proof.Machine.execLaneLd2 n q s
  | .laneSt2 n q => Sys2Proof.Machine.execLaneSt2 n q s
  | .laneAmovi n q => Sys2Proof.Machine.execLaneAmovi n q s
  | .laneAadd n q => Sys2Proof.Machine.execLaneAadd n q s
  | .laneAmov n q => Sys2Proof.Machine.execLaneAmov n q s
  | .laneHset n q => Sys2Proof.Machine.execLaneHset n q s
  | .laneCmac n q => Sys2Proof.Machine.execLaneCmac n q s
  | .laneCmul n q => Sys2Proof.Machine.execLaneCmul n q s
  | .laneQmac n q => Sys2Proof.Machine.execLaneQmac n q s
  | .laneQmul n q => Sys2Proof.Machine.execLaneQmul n q s
  | .laneCmld n q => Sys2Proof.Machine.execLaneCmld n q s
  | .laneAclr n q => Sys2Proof.Machine.execLaneAclr n q s
  | .laneMova n q => Sys2Proof.Machine.execLaneMova n q s
  | .lanePack n q => Sys2Proof.Machine.execLanePack n q s
  | .laneNorm n q => Sys2Proof.Machine.execLaneNorm n q s
  | .laneExp n q => Sys2Proof.Machine.execLaneExp n q s
  | .laneExpd n q => Sys2Proof.Machine.execLaneExpd n q s
  | .laneAset n q => Sys2Proof.Machine.execLaneAset n q s
  | .laneClov n q => Sys2Proof.Machine.execLaneClov n q s
  | .laneJmp n q => Sys2Proof.Machine.execLaneJmp n q s
  | .laneBeqz n q => Sys2Proof.Machine.execLaneBeqz n q s
  | .laneBnez n q => Sys2Proof.Machine.execLaneBnez n q s
  | .laneBltz n q => Sys2Proof.Machine.execLaneBltz n q s
  | .laneBgez n q => Sys2Proof.Machine.execLaneBgez n q s
  | .laneDbnz n q => Sys2Proof.Machine.execLaneDbnz n q s
  | .laneCall n q => Sys2Proof.Machine.execLaneCall n q s
  | .laneRet n q => Sys2Proof.Machine.execLaneRet n q s
  | .laneRpt n q => Sys2Proof.Machine.execLaneRpt n q s
  | .laneWaiti n q => Sys2Proof.Machine.execLaneWaiti n q s
  | .waitiRelease n => Sys2Proof.Machine.execWaitiRelease n s
  | .laneTake n q => Sys2Proof.Machine.execLaneTake n q s
  | .laneStmp n q => Sys2Proof.Machine.execLaneStmp n q s
  | .laneDec n q => Sys2Proof.Machine.execLaneDec n q s
  | .laneOutw n q => Sys2Proof.Machine.execLaneOutw n q s
  | .laneEvt n q => Sys2Proof.Machine.execLaneEvt n q s
  | .laneHalt n q => Sys2Proof.Machine.execLaneHalt n q s
  | .laneInputUnit n c => Sys2Proof.Machine.execLaneInputUnit n c s
  | .laneRecompute n ok => Sys2Proof.Machine.execLaneRecompute n ok s
  | .laneImemRefetchComplete n => Sys2Proof.Machine.execLaneImemRefetchComplete n s
  | .laneEnable who n => Sys2Proof.Machine.execLaneEnable who n s
  | .laneNormalDisable who n => Sys2Proof.Machine.execLaneNormalDisable who n s
  | .laneDisableNow who n => Sys2Proof.Machine.execLaneDisableNow who n s
  | .roundStart => Sys2Proof.Machine.execRoundStart s
  | .roundDeadline => Sys2Proof.Machine.execRoundDeadline s
  | .ctEntryReturn j bad => Sys2Proof.Machine.execCtEntryReturn j bad s
  | .roundCommit => Sys2Proof.Machine.execRoundCommit s
  | .ctRefetchComplete e => Sys2Proof.Machine.execCtRefetchComplete e s
  | .frameXor who data => Sys2Proof.Machine.execFrameXor who data s
  | .frameClr who => Sys2Proof.Machine.execFrameClr who s
  | .cmapDataAccess who w => Sys2Proof.Machine.execCmapDataAccess who w s
  | .syndromeEnable who => Sys2Proof.Machine.execSyndromeEnable who s
  | .syndromeNormalDisable who => Sys2Proof.Machine.execSyndromeNormalDisable who s
  | .syndromeDisableNow who => Sys2Proof.Machine.execSyndromeDisableNow who s
  | .jencyFlitLaunch p => Sys2Proof.Machine.execJencyFlitLaunch p s
  | .jencyFlitDelivery p b0 b1 b2 b3 time => Sys2Proof.Machine.execJencyFlitDelivery p b0 b1 b2 b3 time s
  | .flitLost p => Sys2Proof.Machine.execFlitLost p s
  | .portTrainingStart p => Sys2Proof.Machine.execPortTrainingStart p s
  | .portLinked p r => Sys2Proof.Machine.execPortLinked p r s
  | .trainRetry p => Sys2Proof.Machine.execTrainRetry p s
  | .rennetAction g fire => Sys2Proof.Machine.execRennetAction g fire s
  | .btxGo who p data => Sys2Proof.Machine.execBtxGo who p data s
  | .bulkChunkRelease p => Sys2Proof.Machine.execBulkChunkRelease p s
  | .brxValidClear who p => Sys2Proof.Machine.execBrxValidClear who p s
  | .jportNormalDisable who p => Sys2Proof.Machine.execJportNormalDisable who p s
  | .jportDisableNow who p => Sys2Proof.Machine.execJportDisableNow who p s
  | .announce who data => Sys2Proof.Machine.execAnnounce who data s
  | .membershipArm r => Sys2Proof.Machine.execMembershipArm r s
  | .epochBoundary agree => Sys2Proof.Machine.execEpochBoundary agree s
  | .portEnWrite who data => Sys2Proof.Machine.execPortEnWrite who data s
  | .portKill who data => Sys2Proof.Machine.execPortKill who data s
  | .acqArm n => Sys2Proof.Machine.execAcqArm n s
  | .armNow who n => Sys2Proof.Machine.execArmNow who n s
  | .acqFire n => Sys2Proof.Machine.execAcqFire n s
  | .fireNow who n => Sys2Proof.Machine.execFireNow who n s
  | .acqStop n => Sys2Proof.Machine.execAcqStop n s
  | .acqTrigger n => Sys2Proof.Machine.execAcqTrigger n s
  | .spillDrain n => Sys2Proof.Machine.execSpillDrain n s
  | .captureComplete n badAt badWords => Sys2Proof.Machine.execCaptureComplete n badAt badWords s
  | .curdRead who off bad => Sys2Proof.Machine.execCurdRead who off bad s
  | .acqEnable who n => Sys2Proof.Machine.execAcqEnable who n s
  | .acqNormalDisable who n => Sys2Proof.Machine.execAcqNormalDisable who n s
  | .acqDisableNow who n => Sys2Proof.Machine.execAcqDisableNow who n s
  | .fluxPlay n bad => Sys2Proof.Machine.execFluxPlay n bad s
  | .fluxSet n => Sys2Proof.Machine.execFluxSet n s
  | .fluxStop n => Sys2Proof.Machine.execFluxStop n s
  | .fluxKill n => Sys2Proof.Machine.execFluxKill n s
  | .fluxPlayBoundary n bad => Sys2Proof.Machine.execFluxPlayBoundary n bad s
  | .fluxEnable who n => Sys2Proof.Machine.execFluxEnable who n s
  | .fluxNormalDisable who n => Sys2Proof.Machine.execFluxNormalDisable who n s
  | .fluxDisableNow who n => Sys2Proof.Machine.execFluxDisableNow who n s
  | .fluxRefetchComplete n => Sys2Proof.Machine.execFluxRefetchComplete n s
  | .biasEdge n => Sys2Proof.Machine.execBiasEdge n s
  | .biasRefill n => Sys2Proof.Machine.execBiasRefill n s
  | .rangeChangeComplete n => Sys2Proof.Machine.execRangeChangeComplete n s
  | .dGo who n data => Sys2Proof.Machine.execDGo who n data s
  | .dcDirectApply n => Sys2Proof.Machine.execDcDirectApply n s
  | .compliance n => Sys2Proof.Machine.execCompliance n s
  | .openDetect n => Sys2Proof.Machine.execOpenDetect n s
  | .faultClr who n => Sys2Proof.Machine.execFaultClr who n s
  | .monitorMeasure n v cur => Sys2Proof.Machine.execMonitorMeasure n v cur s
  | .dcPowerUp n good => Sys2Proof.Machine.execDcPowerUp n good s
  | .fluxNvmStore who n => Sys2Proof.Machine.execFluxNvmStore who n s
  | .fluxNvmStoreComplete n => Sys2Proof.Machine.execFluxNvmStoreComplete n s
  | .linkDownReset => Sys2Proof.Machine.execLinkDownReset s
  | .flrInitiate f => Sys2Proof.Machine.execFlrInitiate f s
  | .flrSequencerDeadline f => Sys2Proof.Machine.execFlrSequencerDeadline f s
  | .flrRingsDisable f => Sys2Proof.Machine.execFlrRingsDisable f s
  | .flrComplete f ari vfs => Sys2Proof.Machine.execFlrComplete f ari vfs s
  | .dbProd f single data => Sys2Proof.Machine.execDbProd f single data s
  | .dbCons f single data => Sys2Proof.Machine.execDbCons f single data s
  | .moverTransfer r cnt => Sys2Proof.Machine.execMoverTransfer r cnt s
  | .moverDmaError r => Sys2Proof.Machine.execMoverDmaError r s
  | .ringEnable who f data => Sys2Proof.Machine.execRingEnable who f data s
  | .ringDisable who f data => Sys2Proof.Machine.execRingDisable who f data s
  | .ringStopped r => Sys2Proof.Machine.execRingStopped r s
  | .ringSelWrite who f data => Sys2Proof.Machine.execRingSelWrite who f data s
  | .quotaWrite who f data => Sys2Proof.Machine.execQuotaWrite who f data s
  | .jobTake r => Sys2Proof.Machine.execJobTake r s
  | .jobLoad r dmaErr => Sys2Proof.Machine.execJobLoad r dmaErr s
  | .jobStart r => Sys2Proof.Machine.execJobStart r s
  | .jobStartStep r => Sys2Proof.Machine.execJobStartStep r s
  | .jobStop r => Sys2Proof.Machine.execJobStop r s
  | .jobFence r => Sys2Proof.Machine.execJobFence r s
  | .jobComplete r => Sys2Proof.Machine.execJobComplete r s
  | .msixCoalescedMessage f v => Sys2Proof.Machine.execMsixCoalescedMessage f v s
  | .msixHeldRelease f v => Sys2Proof.Machine.execMsixHeldRelease f v s
  | .dramCommandIssue c v => Sys2Proof.Machine.execDramCommandIssue c v s
  | .dramReadComplete c back parity => Sys2Proof.Machine.execDramReadComplete c back parity s
  | .dramRereadComplete c back => Sys2Proof.Machine.execDramRereadComplete c back s
  | .refresh c rank bank v => Sys2Proof.Machine.execRefresh c rank bank v s
  | .mr4OscRead c mr4a mr4b dqi dqo v => Sys2Proof.Machine.execMr4OscRead c mr4a mr4b dqi dqo v s
  | .mcUnfreeze who => Sys2Proof.Machine.execMcUnfreeze who s
  | .unfreezeComplete step => Sys2Proof.Machine.execUnfreezeComplete step s
  | .frzValidClear who => Sys2Proof.Machine.execFrzValidClear who s
  | .nvStore who => Sys2Proof.Machine.execNvStore who s
  | .nvStoreComplete => Sys2Proof.Machine.execNvStoreComplete s
  | .regionWrite who ring data => Sys2Proof.Machine.execRegionWrite who ring data s
  | .eventFire who g data => Sys2Proof.Machine.execEventFire who g data s
  | .firingComplete k => Sys2Proof.Machine.execFiringComplete k s
  | .chEnWrite who k data => Sys2Proof.Machine.execChEnWrite who k data s
  | .eventGroupEnable who g => Sys2Proof.Machine.execEventGroupEnable who g s
  | .eventGroupNormalDisable who g => Sys2Proof.Machine.execEventGroupNormalDisable who g s
  | .eventGroupDisableNow who g => Sys2Proof.Machine.execEventGroupDisableNow who g s
  | .evchPublish k => Sys2Proof.Machine.execEvchPublish k s
  | .rtDataAccess who w => Sys2Proof.Machine.execRtDataAccess who w s
  | .ethFrameRx p bytes fcs ts => Sys2Proof.Machine.execEthFrameRx p bytes fcs ts s
  | .ethForwardEgress p ts => Sys2Proof.Machine.execEthForwardEgress p ts s
  | .txGo who p data => Sys2Proof.Machine.execTxGo who p data s
  | .txDone p ts => Sys2Proof.Machine.execTxDone p ts s
  | .ethLinkUp p => Sys2Proof.Machine.execEthLinkUp p s
  | .ethLinkLost p => Sys2Proof.Machine.execEthLinkLost p s
  | .ethEnable who p => Sys2Proof.Machine.execEthEnable who p s
  | .ethNormalDisable who p => Sys2Proof.Machine.execEthNormalDisable who p s
  | .ethDisableNow who p => Sys2Proof.Machine.execEthDisableNow who p s
  | .ntIncNsWrite who data => Sys2Proof.Machine.execNtIncNsWrite who data s
  | .stepGo who => Sys2Proof.Machine.execStepGo who s
  | .ntWrap => Sys2Proof.Machine.execNtWrap s
  | .ntNsRead who => Sys2Proof.Machine.execNtNsRead who s
  | .slowRound rs sup ref => Sys2Proof.Machine.execSlowRound rs sup ref s
  | .fastRound rs => Sys2Proof.Machine.execFastRound rs s
  | .thrForceWrite who data => Sys2Proof.Machine.execThrForceWrite who data s
  | .pauseAnnounce => Sys2Proof.Machine.execPauseAnnounce s
  | .shutdownRecord => Sys2Proof.Machine.execShutdownRecord s
  | .shDataRead who => Sys2Proof.Machine.execShDataRead who s
  | .sfeConversion k v => Sys2Proof.Machine.execSfeConversion k v s
  | .sfeOpenTrip k => Sys2Proof.Machine.execSfeOpenTrip k s
  | .sfeOpenRecover k => Sys2Proof.Machine.execSfeOpenRecover k s
  | .sfeReq who k => Sys2Proof.Machine.execSfeReq who k s
  | .coefGo who k => Sys2Proof.Machine.execCoefGo who k s
  | .sfeEnable who k => Sys2Proof.Machine.execSfeEnable who k s
  | .sfeNormalDisable who k => Sys2Proof.Machine.execSfeNormalDisable who k s
  | .sfeDisableNow who k => Sys2Proof.Machine.execSfeDisableNow who k s
  | .calForeground who data => Sys2Proof.Machine.execCalForeground who data s
  | .calBackgroundStart who data => Sys2Proof.Machine.execCalBackgroundStart who data s
  | .calBackgroundStop who data => Sys2Proof.Machine.execCalBackgroundStop who data s
  | .calHoldStart => Sys2Proof.Machine.execCalHoldStart s
  | .calRelease vals => Sys2Proof.Machine.execCalRelease vals s
  | .calAbort who => Sys2Proof.Machine.execCalAbort who s
  | .calAbandon => Sys2Proof.Machine.execCalAbandon s
  | .calBgPass kind idx vals => Sys2Proof.Machine.execCalBgPass kind idx vals s
  | .ripenBoundary => Sys2Proof.Machine.execRipenBoundary s
  | .calStore who data => Sys2Proof.Machine.execCalStore who data s
  | .calStoreComplete => Sys2Proof.Machine.execCalStoreComplete s
  | .calRestore who data => Sys2Proof.Machine.execCalRestore who data s
  | .trimDataRead who => Sys2Proof.Machine.execTrimDataRead who s
  | .reqConfigured who => Sys2Proof.Machine.execReqConfigured who s
  | .reqReady who => Sys2Proof.Machine.execReqReady who s
  | .reqRunning who => Sys2Proof.Machine.execReqRunning who s
  | .reqCellar who => Sys2Proof.Machine.execReqCellar who s
  | .stateTransitionComplete boot => Sys2Proof.Machine.execStateTransitionComplete boot s
  | .wakeReq who => Sys2Proof.Machine.execWakeReq who s
  | .pcieD0Wake => Sys2Proof.Machine.execPcieD0Wake s
  | .alwaysOnValid => Sys2Proof.Machine.execAlwaysOnValid s
  | .alwaysOnInvalid => Sys2Proof.Machine.execAlwaysOnInvalid s
  | .porNAssert => Sys2Proof.Machine.execPorNAssert s
  | .porNRelease dramOk badTrims boot => Sys2Proof.Machine.execPorNRelease dramOk badTrims boot s
  | .warmReset who => Sys2Proof.Machine.execWarmReset who s
  | .watchdogExpiry => Sys2Proof.Machine.execWatchdogExpiry s
  | .perstNAssert => Sys2Proof.Machine.execPerstNAssert s
  | .perstNRelease => Sys2Proof.Machine.execPerstNRelease s
  | .supplyFault d => Sys2Proof.Machine.execSupplyFault d s
  | .supplyShutdown d => Sys2Proof.Machine.execSupplyShutdown d s
  | .bootComplete ms copyB fwVersion fwSvn slot mcVersion mcSvn base => Sys2Proof.Machine.execBootComplete ms copyB fwVersion fwSvn slot mcVersion mcSvn base s
  | .recover who boot => Sys2Proof.Machine.execRecover who boot s
  | .keyRevokeWrite who data => Sys2Proof.Machine.execKeyRevokeWrite who data s
  | .dbgCodeWrite who data => Sys2Proof.Machine.execDbgCodeWrite who data s
  | .dbgAuth a => Sys2Proof.Machine.execDbgAuth a s
  | .dbgLock who => Sys2Proof.Machine.execDbgLock who s
  | .dbgAccessRead space addr => Sys2Proof.Machine.execDbgAccessRead space addr s
  | .dbgAccessWrite space addr data => Sys2Proof.Machine.execDbgAccessWrite space addr data s
  | .dbgAccessPoll => Sys2Proof.Machine.execDbgAccessPoll s
  | .extest => Sys2Proof.Machine.execExtest s
  | .samplePreload bits => Sys2Proof.Machine.execSamplePreload bits s
  | .idcode => Sys2Proof.Machine.execIdcode s
  | .extestPulse => Sys2Proof.Machine.execExtestPulse s
  | .extestTrain => Sys2Proof.Machine.execExtestTrain s
  | .bypass => Sys2Proof.Machine.execBypass s
  | .debugHalt t => Sys2Proof.Machine.execDebugHalt t s
  | .debugHaltTaken t h => Sys2Proof.Machine.execDebugHaltTaken t h s
  | .debugResume t => Sys2Proof.Machine.execDebugResume t s
  | .debugStep t => Sys2Proof.Machine.execDebugStep t s
  | .regDataWrite t data => Sys2Proof.Machine.execRegDataWrite t data s
  | .smbReadWord cmd => Sys2Proof.Machine.execSmbReadWord cmd s
  | .smbAlertResponse => Sys2Proof.Machine.execSmbAlertResponse s
  | .refclkPeriod adc faults => Sys2Proof.Machine.execRefclkPeriod adc faults s
  | .programRefetchComplete n => Sys2Proof.Machine.execProgramRefetchComplete n s
  | .complianceClear n => Sys2Proof.Machine.execComplianceClear n s

end Sys2Proof.Machine
end

