-- ==== Sys2Proof/WellFormed.lean ====
section
/-!
DEFINITION. What the operands of a command must meet beside their types for the command to be one that the device's
surroundings can send. The meanings do not rest on it: they answer for every operand.
-/
namespace Sys2Proof

/-- An access of `k` bytes from `a`: it has at least one byte and at most 4,096, and a PCIe request crosses no 4 KiB boundary
(R59, R61). -/
def accessOk (who : Req) (a k : Nat) : Bool :=
  decide (0 < k ∧ k ≤ 4096) &&
  match who with
  | .fn _ => decide (a % 4096 + k ≤ 4096)
  | _ => true

/-- A 12-bit converter code (R218). -/
def adcCode (v : Int) : Bool := decide (-2048 ≤ v ∧ v ≤ 2047)

/-- Word `a` of a base image: its reserved fields are 0 and its SEQ value is not reserved (R152), and the patch area holds words
with SEQ = FAULT (R136). -/
def baseWordOk (a : Nat) (w : BitVec 192) : Bool :=
  w.extractLsb' 160 9 == 0 && w.extractLsb' 0 30 == 0 && w.extractLsb' 64 30 == 0 && !w.getLsbD 179 &&
    (decide (a < 0xE00) || w.extractLsb' 176 4 == 6)

/-- A training result: a failed step has one of four reasons (R320). -/
def trainOk : TrainResult → Bool
  | .ok => true
  | .fail reason => decide (1 ≤ reason.toNat ∧ reason.toNat ≤ 4)

/-- How a boot ends: an error of R542, or a training step from 1 to 8 (R431). -/
def bootOk : BootEnd → Bool
  | .good => true
  | .stops e => decide (2 ≤ e.toNat ∧ e.toNat ≤ 7)
  | .training _ k => decide (1 ≤ k.val)

/-- The operands of a command are well formed. -/
def Instr.wellFormed : Instr → Bool
  | .registerWrite who addr ws => accessOk who addr.toNat (4 * ws.length) && decide (addr.toNat % 4 = 0)
  | .ownerWrite _ _ _ => true
  | .budgetWrite _ _ _ => true
  | .irqForceWrite _ _ _ => true
  | .errCapClear _ _ => true
  | .hostAccessRelease _ => true
  | .frameBoundary phase _ => decide (phase.length = 8)
  | .syncEdge _ _ => true
  | .timelineLoad => true
  | .arm _ _ => true
  | .tlNowRead _ => true
  | .snap _ => true
  | .tileEnWrite _ _ => true
  | .refclkLost => true
  | .refclkReturn => true
  | .tilePllLockLost _ => true
  | .tileAlignment _ _ => true
  | .seqNop _ _ _ => true
  | .seqMovi _ _ _ => true
  | .seqAdd _ _ _ => true
  | .seqSub _ _ _ => true
  | .seqAnd _ _ _ => true
  | .seqOr _ _ _ => true
  | .seqXor _ _ _ => true
  | .seqShl _ _ _ => true
  | .seqShr _ _ _ => true
  | .seqJmp _ _ _ => true
  | .seqBeq _ _ _ => true
  | .seqBne _ _ _ => true
  | .seqBlt _ _ _ => true
  | .seqBge _ _ _ => true
  | .seqCall _ _ _ => true
  | .seqRet _ _ _ => true
  | .seqLcset _ _ _ => true
  | .seqDjnz _ _ _ => true
  | .seqTpnow _ _ _ => true
  | .seqTpadd _ _ _ => true
  | .seqTpaln _ _ _ => true
  | .seqTprd _ _ _ => true
  | .seqRdnow _ _ _ => true
  | .seqWaitt _ _ _ => true
  | .waittExpiry _ _ => true
  | .seqPost _ _ _ => true
  | .postQueueEntry _ _ => true
  | .seqBrd _ _ _ => true
  | .brdAccept _ _ => true
  | .decTimeout _ _ => true
  | .seqLdd _ _ _ => true
  | .seqLdf _ _ _ => true
  | .seqWaite _ _ _ => true
  | .waiteRelease _ _ => true
  | .waiteTimeout _ _ => true
  | .seqBarw _ _ _ => true
  | .barrierRelease _ _ => true
  | .seqShot _ _ _ => true
  | .seqEnds _ _ _ => true
  | .seqRecd _ _ _ => true
  | .seqUsrw _ _ _ => true
  | .seqSig _ _ _ => true
  | .seqStop _ _ _ => true
  | .resultRecordWrite _ => true
  | .seqStopped _ => true
  | .seqEnable _ _ => true
  | .seqNormalDisable _ _ => true
  | .seqDisableNow _ _ => true
  | .seqImmediateDisable _ _ => true
  | .microPartialBoundary _ _ => true
  | .microStepLimit _ _ => true
  | .handoverGo _ _ _ => true
  | .handoverCopy _ _ => true
  | .csRefetchComplete _ _ _ => true
  | .verify _ => true
  | .verifyComplete _ => true
  | .apply _ => true
  | .applyComplete => true
  | .toneStart _ _ => true
  | .toneJump _ _ => true
  | .toneStop _ => true
  | .toneKill _ => true
  | .toneFdelay _ => true
  | .tonePhase _ => true
  | .toneFrame _ => true
  | .toneDecisionPoint _ _ => true
  | .tonePlayBoundary _ => true
  | .toneGranuleCheck _ _ => true
  | .toneStreamRefill _ => true
  | .toneRefetchComplete _ => true
  | .toneEnable _ _ => true
  | .toneNormalDisable _ _ => true
  | .toneDisableNow _ _ => true
  | .bar2Write who off bytes => accessOk who off.toNat bytes.length
  | .partitionWrite _ _ _ _ => true
  | .outEnable _ _ => true
  | .outNormalDisable _ _ => true
  | .outDisableNow _ _ => true
  | .ncoFreqHiWrite _ _ _ => true
  | .dacClockMissing _ => true
  | .adcEnable _ _ => true
  | .adcNormalDisable _ _ => true
  | .adcDisableNow _ _ => true
  | .adcClockMissing _ => true
  | .dncoFreqHiWrite _ _ _ => true
  | .routEnable _ _ => true
  | .routNormalDisable _ _ => true
  | .routDisabled _ => true
  | .routDisableNow _ _ => true
  | .swap _ _ _ => true
  | .coefficientWrite _ _ _ _ => true
  | .firRefetchComplete _ => true
  | .routOpen _ => true
  | .routClose _ => true
  | .routKernel _ => true
  | .windowValue _ => true
  | .integratorRecompute _ _ => true
  | .kdataWrite _ _ _ => true
  | .kdataRead _ _ => true
  | .kernelRefetchComplete _ => true
  | .resAccRead _ _ => true
  | .laneNop _ _ => true
  | .laneMovi _ _ => true
  | .laneMovh _ _ => true
  | .laneAdd _ _ => true
  | .laneAddi _ _ => true
  | .laneSub _ _ => true
  | .laneAnd _ _ => true
  | .laneOr _ _ => true
  | .laneXor _ _ => true
  | .laneShli _ _ => true
  | .laneShri _ _ => true
  | .laneSari _ _ => true
  | .laneMul _ _ => true
  | .laneLd _ _ => true
  | .laneSt _ _ => true
  | .laneLd2 _ _ => true
  | .laneSt2 _ _ => true
  | .laneAmovi _ _ => true
  | .laneAadd _ _ => true
  | .laneAmov _ _ => true
  | .laneHset _ _ => true
  | .laneCmac _ _ => true
  | .laneCmul _ _ => true
  | .laneQmac _ _ => true
  | .laneQmul _ _ => true
  | .laneCmld _ _ => true
  | .laneAclr _ _ => true
  | .laneMova _ _ => true
  | .lanePack _ _ => true
  | .laneNorm _ _ => true
  | .laneExp _ _ => true
  | .laneExpd _ _ => true
  | .laneAset _ _ => true
  | .laneClov _ _ => true
  | .laneJmp _ _ => true
  | .laneBeqz _ _ => true
  | .laneBnez _ _ => true
  | .laneBltz _ _ => true
  | .laneBgez _ _ => true
  | .laneDbnz _ _ => true
  | .laneCall _ _ => true
  | .laneRet _ _ => true
  | .laneRpt _ _ => true
  | .laneWaiti _ _ => true
  | .waitiRelease _ => true
  | .laneTake _ _ => true
  | .laneStmp _ _ => true
  | .laneDec _ _ => true
  | .laneOutw _ _ => true
  | .laneEvt _ _ => true
  | .laneHalt _ _ => true
  | .laneInputUnit _ _ => true
  | .laneRecompute _ _ => true
  | .laneImemRefetchComplete _ => true
  | .laneEnable _ _ => true
  | .laneNormalDisable _ _ => true
  | .laneDisableNow _ _ => true
  | .roundStart => true
  | .roundDeadline => true
  | .ctEntryReturn _ _ => true
  | .roundCommit => true
  | .ctRefetchComplete _ => true
  | .frameXor _ _ => true
  | .frameClr _ => true
  | .cmapDataAccess _ _ => true
  | .syndromeEnable _ => true
  | .syndromeNormalDisable _ => true
  | .syndromeDisableNow _ => true
  | .jencyFlitLaunch _ => true
  | .jencyFlitDelivery _ _ _ _ _ _ => true
  | .flitLost _ => true
  | .portTrainingStart _ => true
  | .portLinked _ r => trainOk r
  | .trainRetry _ => true
  | .rennetAction _ _ => true
  | .btxGo _ _ _ => true
  | .bulkChunkRelease _ => true
  | .brxValidClear _ _ => true
  | .jportNormalDisable _ _ => true
  | .jportDisableNow _ _ => true
  | .announce _ _ => true
  | .membershipArm _ => true
  | .epochBoundary _ => true
  | .portEnWrite _ _ => true
  | .portKill _ _ => true
  | .acqArm _ => true
  | .armNow _ _ => true
  | .acqFire _ => true
  | .fireNow _ _ => true
  | .acqStop _ => true
  | .acqTrigger _ => true
  | .spillDrain _ => true
  | .captureComplete _ _ _ => true
  | .curdRead _ off _ => decide (off.toNat % 4 = 0)
  | .acqEnable _ _ => true
  | .acqNormalDisable _ _ => true
  | .acqDisableNow _ _ => true
  | .fluxPlay _ _ => true
  | .fluxSet _ => true
  | .fluxStop _ => true
  | .fluxKill _ => true
  | .fluxPlayBoundary _ _ => true
  | .fluxEnable _ _ => true
  | .fluxNormalDisable _ _ => true
  | .fluxDisableNow _ _ => true
  | .fluxRefetchComplete _ => true
  | .biasEdge _ => true
  | .biasRefill _ => true
  | .rangeChangeComplete _ => true
  | .dGo _ _ _ => true
  | .dcDirectApply _ => true
  | .compliance _ => true
  | .openDetect _ => true
  | .faultClr _ _ => true
  | .monitorMeasure _ v cur => decide (-(2 ^ 23) ≤ v ∧ v < 2 ^ 23 ∧ -(2 ^ 24) ≤ cur ∧ cur < 2 ^ 24)
  | .dcPowerUp _ _ => true
  | .fluxNvmStore _ _ => true
  | .fluxNvmStoreComplete _ => true
  | .linkDownReset => true
  | .flrInitiate _ => true
  | .flrSequencerDeadline _ => true
  | .flrRingsDisable _ => true
  | .flrComplete _ ari vfs => ari || decide (vfs.val ≤ 7)
  | .dbProd _ _ _ => true
  | .dbCons _ _ _ => true
  | .moverTransfer _ cnt => decide (0 < cnt)
  | .moverDmaError _ => true
  | .ringEnable _ _ _ => true
  | .ringDisable _ _ _ => true
  | .ringStopped _ => true
  | .ringSelWrite _ _ _ => true
  | .quotaWrite _ _ _ => true
  | .jobTake _ => true
  | .jobLoad _ _ => true
  | .jobStart _ => true
  | .jobStartStep _ => true
  | .jobStop _ => true
  | .jobFence _ => true
  | .jobComplete _ => true
  | .msixCoalescedMessage _ _ => true
  | .msixHeldRelease _ _ => true
  | .dramCommandIssue _ v => v.all fun e => decide ((e.1 = 2 ∧ 1 ≤ e.2 ∧ e.2 ≤ 15) ∨ e.1 = 3 ∨ e.1 = 4)
  | .dramReadComplete _ _ _ => true
  | .dramRereadComplete _ _ => true
  | .refresh _ _ _ v => v.all fun e => decide ((e.1 = 2 ∧ 1 ≤ e.2 ∧ e.2 ≤ 15) ∨ e.1 = 3)
  | .mr4OscRead _ _ _ _ _ v => v.all fun e => decide ((e.1 = 2 ∧ 1 ≤ e.2 ∧ e.2 ≤ 15) ∨ e.1 = 3)
  | .mcUnfreeze _ => true
  | .unfreezeComplete _ => true
  | .frzValidClear _ => true
  | .nvStore _ => true
  | .nvStoreComplete => true
  | .regionWrite _ _ _ => true
  | .eventFire _ _ _ => true
  | .firingComplete _ => true
  | .chEnWrite _ _ _ => true
  | .eventGroupEnable _ _ => true
  | .eventGroupNormalDisable _ _ => true
  | .eventGroupDisableNow _ _ => true
  | .evchPublish _ => true
  | .rtDataAccess _ _ => true
  | .ethFrameRx _ bytes _ _ => decide (14 ≤ bytes.length)
  | .ethForwardEgress _ _ => true
  | .txGo _ _ _ => true
  | .txDone _ _ => true
  | .ethLinkUp _ => true
  | .ethLinkLost _ => true
  | .ethEnable _ _ => true
  | .ethNormalDisable _ _ => true
  | .ethDisableNow _ _ => true
  | .ntIncNsWrite _ _ => true
  | .stepGo _ => true
  | .ntWrap => true
  | .ntNsRead _ => true
  | .slowRound rs sup _ => decide (rs.length = 25 ∧ sup.length = 9)
  | .fastRound rs => decide (rs.length = 25)
  | .thrForceWrite _ _ => true
  | .pauseAnnounce => true
  | .shutdownRecord => true
  | .shDataRead _ => true
  | .sfeConversion _ v => decide (-(2 ^ 24) ≤ v ∧ v < 2 ^ 24)
  | .sfeOpenTrip _ => true
  | .sfeOpenRecover _ => true
  | .sfeReq _ _ => true
  | .coefGo _ _ => true
  | .sfeEnable _ _ => true
  | .sfeNormalDisable _ _ => true
  | .sfeDisableNow _ _ => true
  | .calForeground _ _ => true
  | .calBackgroundStart _ _ => true
  | .calBackgroundStop _ _ => true
  | .calHoldStart => true
  | .calRelease vals => decide (vals ≠ [])
  | .calAbort _ => true
  | .calAbandon => true
  | .calBgPass kind _ vals => decide (1 ≤ kind.val ∧ kind.val < 5 ∧ vals ≠ [])
  | .ripenBoundary => true
  | .calStore _ _ => true
  | .calStoreComplete => true
  | .calRestore _ _ => true
  | .trimDataRead _ => true
  | .reqConfigured _ => true
  | .reqReady _ => true
  | .reqRunning _ => true
  | .reqCellar _ => true
  | .stateTransitionComplete boot => bootOk boot
  | .wakeReq _ => true
  | .pcieD0Wake => true
  | .alwaysOnValid => true
  | .alwaysOnInvalid => true
  | .porNAssert => true
  | .porNRelease _ _ boot => bootOk boot
  | .warmReset _ => true
  | .watchdogExpiry => true
  | .perstNAssert => true
  | .perstNRelease => true
  | .supplyFault _ => true
  | .supplyShutdown _ => true
  | .bootComplete _ _ _ _ _ _ _ base => decide (base.length = 4096) && base.zipIdx.all fun e => baseWordOk e.2 e.1
  | .recover _ boot => bootOk boot && boot.err.all fun e => e == 0x06 || e == 0x07
  | .keyRevokeWrite _ _ => true
  | .dbgCodeWrite _ _ => true
  | .dbgAuth _ => true
  | .dbgLock _ => true
  | .dbgAccessRead _ _ => true
  | .dbgAccessWrite _ _ _ => true
  | .dbgAccessPoll => true
  | .extest => true
  | .samplePreload _ => true
  | .idcode => true
  | .extestPulse => true
  | .extestTrain => true
  | .bypass => true
  | .debugHalt _ => true
  | .debugHaltTaken _ _ => true
  | .debugResume _ => true
  | .debugStep _ => true
  | .regDataWrite _ _ => true
  | .smbReadWord _ => true
  | .smbAlertResponse => true
  | .refclkPeriod adc _ => decide (adc.length = 16) && adc.all fun cs => decide (cs.length = 32) && cs.all adcCode
  | .programRefetchComplete _ => true
  | .complianceClear _ => true

end Sys2Proof
end

