-- ==== Sys2Proof/Safety.lean ====
section
/-!
DEFINITION. The notions in which statements about the machine are made: when an access is carried out at once, and the
canonical form of the memories.
-/
namespace Sys2Proof.Machine

/-- The number of pages of a type (R48). -/
def pageCount (t : PageType) : Nat := ((pageMap.find? fun e => e.1 == t).map fun e => e.2.2).getD 0

/-- The state after the charge of one access, in the access's own cycle, where the access is made at once: requests of a PCIe
function must reach the device, find none of the function's waiting before them, and find budget (R54, R395, R396). -/
def State.charged (s : State) (who : Req) : Option State :=
  match who with
  | .fn f => if s.hostReaches f && (s.fnSt f).held.isEmpty then (s.chargeHostWord f).map State.newCycle else none
  | _ => some s.newCycle

/-- The state in which an access by `who` to page `n` of a type is carried out, where it is carried out at once and is
permitted (R55, R395, R396, R521, R532). -/
def State.granted (s : State) (who : Req) (t : PageType) (n : Nat) : Option State :=
  match s.charged who with
  | some r => if r.shows who (some t) && (r.denied who (pageBase t n)).isNone then some r else none
  | none => none

/-- Every memory of the device that has addresses is in its canonical form. -/
def State.canonical (s : State) : Prop :=
  Memory.wf s.bar2 = true ∧ Memory.wf s.dram = true ∧ Memory.wf s.host = true ∧ Memory.wf s.therm.ring = true

end Sys2Proof.Machine
end

