-- ==== Sys2Proof/Certificates/Slice0/Obligations.lean ====
section
/-!
DEFINITION. The statements for the provers, family by family, and the notions they are made with.
-/
open Sys2Proof Sys2Proof.Machine

/-- Between two commands: every change of an interrupt condition has been delivered, and no capture of the last command's cycle
can be replaced (R54, R458). -/
abbrev Settled (s : State) : Prop := s.edges = [] ∧ s.errNow = []

/-- A step runs the command at the front of the queue, and idles on an empty one: For every command c, queue rest cs
and state s whose queue is c followed by cs, a step is exec of c on s with the queue cs. The model's choice
(assumption log 11): with no command waiting, a step answers the state as it stands. The table gives no command a
word, so no word puts one in front. (INDEX, 95_what_each_step_holds, assumption log 11) -/
def Obligations.StepRunsFront : Prop :=
  (∀ (c : Instr) (cs : List Instr) (s : State), s.pending = c :: cs → step s = exec c { s with pending := cs }) ∧
  (∀ s : State, s.pending = [] → step s = .next s) ∧ (∀ (s : State) (nbits w : Nat), s.withFetchWord nbits w = s)

/-- Every command answers a next state and leaves the queue alone: For every command and every state, exec answers a
next state: no command ends in a fault or a refusal, and none reads or changes the queue of waiting commands.
(95_what_each_step_holds, assumption log 11) -/
def Obligations.EveryCommandAnswers : Prop :=
  ∀ (c : Instr) (s : State), ∃ t, exec c s = .next t ∧ t.pending = s.pending

/-- Every step keeps the memories canonical and leaves nothing of its cycle open: For every state that meets the
invariant - the bytes of BAR2, of the DRAM, of host memory and of the shutdown records in canonical form, no change of
an interrupt condition waiting for its delivery, and no error capture that a further error of the same cycle could
still replace - the state after a step meets it, whatever command the step runs. (R5, R8, R54, R458, R461) -/
def Obligations.StepKeepsInvariant : Prop :=
  ∀ s t : State, s.canonical ∧ Settled s → step s = .next t → t.canonical ∧ Settled t

/-- The invariant holds after reset: After reset the memories are in canonical form, no interrupt edge waits, and no
capture is open. (R5, R8, R458, R461) -/
def Obligations.InvariantAtReset : Prop := State.reset.canonical ∧ Settled State.reset

/-- A register that the delivery of an interrupt may write: one of an event group's page or of the interrupt controller's
(R446, R450, R460). -/
def irqWrites (a : Nat) : Prop := (0x0068_0000 ≤ a ∧ a < 0x006A_0000) ∨ (0x006C_0000 ≤ a ∧ a < 0x006C_1000)

/-- `t` is `s` but for registers, the access budget used, and what the delivery of an interrupt may change: event channels,
messages in host memory, MSI-X state. -/
def OnlyRegs (s t : State) : Prop :=
  t = { s with
    regs := t.regs, used := t.used, evchs := t.evchs, host := t.host, msix := t.msix, fns := t.fns, window := t.window
    edges := t.edges, errNow := t.errNow }

/-- Registers that a command may change: those listed, and those that the delivery of an interrupt writes. -/
def KeepsRegs (s t : State) (except : List Nat) : Prop := ∀ a, a ∉ except → ¬ irqWrites a → t.reg a = s.reg a

/-! ### Pages (chapters 01, 02 and 14) -/

/-- What ERR_CAP of the page at `b` holds after a refused access by function `f`: a capture that was held, with MORE, or the
new one (R54, R56). -/
def refusalWord (s : State) (b code : Nat) (f : Fin 64) (off : Nat) (wr : Bool) : Word :=
  if s.bit b Reg.Hdr.VALID then s.reg (b + 0x01C) ||| 0x4000_0000#32
  else BitVec.ofNat 32 (2 ^ 31 + code * 2 ^ 24 + f * 2 ^ 16 + off + wr.toNat)

/-- Why function `f` may not reach page `n` of a type: it does not own it (code 0x01), or SEC is set (code 0x02). -/
def Refused (s : State) (f : Fin 64) (t : PageType) (n code : Nat) : Prop :=
  s.owner (pageBase t n) ≠ f ∧ ¬ (f = 0 ∧ t = .fn) ∧ code = 1 ∨
    s.owner (pageBase t n) = f ∧ s.bit (pageBase t n) Reg.Hdr.SEC = true ∧ code = 2

/-- An access that is not permitted changes nothing but ERR_CAP, and a read returns 0: An access by a function to a
page of which it is not the owner, or whose SEC is 1, that reaches the page at once: the command answers a next state.
A write is discarded and a read (here of TL_NOW_LO) returns 0. ERR_CAP of the page holds code 0x01, or 0x02 where SEC
is the cause, with the requester, the word offset and the write bit, or, where a capture was held, that capture with
MORE set; every other register and all other state are unchanged, but for the access charged to the function's budget.
(R56) -/
def Obligations.DeniedAccessIsRecordedOnly : Prop :=
  (∀ (f : Fin 64) (t : PageType) (n off code : Nat) (be : BitVec 4) (w : Word) (s r : State),
    Settled s → s.charged (.fn f) = some r → r.shows (.fn f) (some t) = true →
    n < pageCount t → off < 0x1000 → off % 4 = 0 → off ≠ 0x020 → Refused s f t n code →
    ∃ u, exec (.registerWrite (.fn f) (BitVec.ofNat 27 (pageBase t n + off)) [(be, w)]) s = .next u ∧
      u.reg (pageBase t n + 0x01C) = refusalWord s (pageBase t n) code f off true ∧
      (∀ a, a ≠ pageBase t n + 0x01C → u.reg a = s.reg a) ∧ u = { s with regs := u.regs, used := r.used }) ∧
  (∀ (f : Fin 64) (code : Nat) (s r : State),
    Settled s → s.charged (.fn f) = some r → r.shows (.fn f) (some .tl) = true → Refused s f .tl 0 code →
    ∃ u, exec (.tlNowRead (.fn f)) s = .next u ∧ u.respVal = 0 ∧
      u.reg (Base.tl + 0x01C) = refusalWord s Base.tl code f 0x040 false ∧
      (∀ a, a ≠ Base.tl + 0x01C → u.reg a = s.reg a) ∧ u = { s with regs := u.regs, used := r.used, respVal := 0 })

/-- OWNER_WRITE, BUDGET_WRITE, IRQ_FORCE_WRITE and ERR_CAP_CLEAR: A write of OWNER that is made at once, in a page
that is not locked, by a requester that may write it: with a requester number that is not reserved and, where FN
changes, the page neither enabled nor active, FN, SEC and LOCK take the values written and nothing else changes; where
FN changes and the page is enabled (and its ENABLE not ignored) or active, OWNER keeps its value and ERR_CAP records
code 0x06 with the FN asked for. In a locked page nothing changes. A granted write of BUDGET in an unlocked tone
engine, lane, flux, acquisition or Jency port page: where the sum of the resource's budgets with the new limit does
not exceed the ceiling, LIMIT reads back as written, the limits in force stay those of the present frame, and no other
register changes; where the new sum exceeds the ceiling and the old sum, LIMIT keeps its value and ERR_CAP records
code 0x05 with the limit asked for. In a page without a budget nothing changes. A granted write of IRQ_FORCE sets the
bits of IRQ_STAT that the page defines and the word selects, and changes no other register but those that interrupt
delivery writes; a granted write of 1 to ERR_CAP.VALID leaves ERR_CAP at zero and changes nothing else. (R26, R29,
R52, R53, R54, R57, R58, R458) -/
def Obligations.HeaderWrites : Prop :=
  (∀ (who : Req) (t : PageType) (n : Nat) (pg : Fin 2304) (w : Word) (s r : State),
    Settled s → s.charged who = some r → r.shows who (some t) = true → n < pageCount t →
    pg.val * 0x1000 = pageBase t n → (reqMgmt who || reqFn0 who) = true →
    (s.bit (pageBase t n) Reg.Hdr.SEC = true → reqSecure who = true) →
    let b := pageBase t n
    let busy := (s.enabled b && !enableIgnored t) || r.pageActive t n
    ∃ u, exec (.ownerWrite who pg w) s = .next u ∧
      (s.bit b Reg.Hdr.LOCK = true → u = r) ∧
      (s.bit b Reg.Hdr.LOCK = false → fnEncoding (w.toNat % 256) = true → (w.toNat % 256 = s.owner b ∨ busy = false) →
        u.owner b = w.toNat % 256 ∧ u.bit b Reg.Hdr.SEC = w.getLsbD 8 ∧ u.bit b Reg.Hdr.LOCK = w.getLsbD 31 ∧
        (∀ a, a ≠ b + 0x020 → u.reg a = s.reg a) ∧ u = { s with regs := u.regs, used := r.used }) ∧
      (s.bit b Reg.Hdr.LOCK = false → fnEncoding (w.toNat % 256) = true → w.toNat % 256 ≠ s.owner b → busy = true →
        s.bit b Reg.Hdr.VALID = false →
        u.fld b Reg.Hdr.CODE = 0x06 ∧ u.fld b Reg.Hdr.INFO = w.toNat % 256 ∧
        (∀ a, a ≠ b + 0x01C → u.reg a = s.reg a) ∧ u = { s with regs := u.regs, used := r.used })) ∧
  (∀ (who : Req) (t : PageType) (n : Nat) (pg : Fin 2304) (w : Word) (s r : State),
    Settled s → s.granted who t n = some r → n < pageCount t → pg.val * 0x1000 = pageBase t n →
    let b := pageBase t n
    let asked := w.toNat % 65536
    let sums (v : Nat) : Nat × Nat := (r.setFld b Reg.Hdr.LIMIT v).budgetSum t n 0x024
    ∃ u, exec (.budgetWrite who pg w) s = .next u ∧
      (hasBudget t = false → u = r) ∧
      (t ∈ [PageType.tone, .lane, .flux, .acq, .jport] → s.bit b Reg.Hdr.LOCK = false →
        (sums asked).1 ≤ (sums asked).2 →
        u.fld b Reg.Hdr.LIMIT = asked ∧ u.limits = s.limits ∧ (∀ a, a ≠ b + 0x024 → u.reg a = s.reg a) ∧
        u = { s with regs := u.regs, used := r.used }) ∧
      (t ∈ [PageType.tone, .lane, .flux, .acq, .jport] → s.bit b Reg.Hdr.LOCK = false →
        (sums asked).2 < (sums asked).1 → (r.budgetSum t n 0x024).1 < (sums asked).1 → asked ≠ s.fld b Reg.Hdr.LIMIT →
        s.bit b Reg.Hdr.VALID = false →
        u.fld b Reg.Hdr.CODE = 0x05 ∧ u.fld b Reg.Hdr.INFO = asked ∧
        (∀ a, a ≠ b + 0x01C → u.reg a = s.reg a) ∧ u = { s with regs := u.regs, used := r.used })) ∧
  (∀ (who : Req) (t : PageType) (n : Nat) (pg : Fin 2304) (w : Word) (s r : State),
    Settled s → s.granted who t n = some r → n < pageCount t → pg.val * 0x1000 = pageBase t n →
    let b := pageBase t n
    (∃ u, exec (.irqForceWrite who pg w) s = .next u ∧
      (irqWrites b → s.reg (b + 0x014) = 0 → u.reg (b + 0x010) = s.reg (b + 0x010) ||| (w &&& irqBits t)) ∧
      (¬ irqWrites b → u.reg (b + 0x010) = s.reg (b + 0x010) ||| (w &&& irqBits t)) ∧
      KeepsRegs s u [b + 0x010] ∧ OnlyRegs s u) ∧
    (∃ u, exec (.errCapClear who pg) s = .next u ∧ u.reg (b + 0x01C) = 0 ∧ (∀ a, a ≠ b + 0x01C → u.reg a = s.reg a) ∧
      u = { s with regs := u.regs, used := r.used }))

/-- REGISTER_WRITE: word order, byte enables, reserved ranges, page crossings; HOST_ACCESS_RELEASE: A write by
management firmware that stays within a page carries out its first word and then the others at the addresses that
follow. A write that would cross a page is discarded and recorded with code 0x04 in the page at which it starts. A
granted write of RSVD_COUNT sets it, byte by byte as the byte enables select. A write to a reserved range of BAR0
counts in RSVD_COUNT, and changes no page but the global one. Where the first access that function f holds is a write
of one word and its charge is granted, the command carries the write out after the charge and takes it out of the
queue; where the charge is not granted, nothing changes. (R27, R59, R60, R61, R64, R395, R396) -/
def Obligations.RegisterAccesses : Prop :=
  (∀ (a : BitVec 27) (w : BitVec 4 × Word) (ws : List (BitVec 4 × Word)) (s : State),
    a.toNat < 0x0400_0000 → crossesPage a.toNat (ws.length + 1) = false →
    exec (.registerWrite .mgmt a (w :: ws)) s =
      .next ((s.newCycle.wordWrite .mgmt a.toNat w.1 w.2).writeWords .mgmt (a.toNat + 4) ws).settle) ∧
  (∀ (a : BitVec 27) (ws : List (BitVec 4 × Word)) (t : PageType) (n : Nat) (s : State),
    Settled s → pageOf a.toNat = some (t, n) → crossesPage a.toNat ws.length = true →
    s.bit (pageBase t n) Reg.Hdr.VALID = false →
    ∃ u, exec (.registerWrite .mgmt a ws) s = .next u ∧ u.fld (pageBase t n) Reg.Hdr.CODE = 0x04 ∧
      u.bit (pageBase t n) Reg.Hdr.VALID = true ∧
      (∀ c, c ≠ pageBase t n + 0x01C → u.reg c = s.reg c) ∧ u = { s with regs := u.regs }) ∧
  (∀ (who : Req) (be : BitVec 4) (w : Word) (s r : State), Settled s → s.granted who .glob 0 = some r →
    ∃ u, exec (.registerWrite who (BitVec.ofNat 27 0x050) [(be, w)]) s = .next u ∧
      u.reg 0x050 = mergeWord (s.reg 0x050) w (beMask be) ∧ (∀ a, a ≠ 0x050 → u.reg a = s.reg a) ∧
      u = { s with regs := u.regs, used := r.used }) ∧
  (∀ (a : BitVec 27) (be : BitVec 4) (w : Word) (s : State), Settled s → a.toNat < 0x0400_0000 → a.toNat % 4 = 0 →
    pageOf a.toNat = none → s.shows .mgmt none = true →
    ∃ u, exec (.registerWrite .mgmt a [(be, w)]) s = .next u ∧
      u.fld Base.glob Reg.Glob.RSVD_COUNT = min (s.fld Base.glob Reg.Glob.RSVD_COUNT + 1) (2 ^ 32 - 1) ∧
      (u.reg (Base.glob + 0x010)).getLsbD 0 = true ∧
      KeepsRegs s u [Base.glob + 0x010, Base.glob + 0x01C, Base.glob + 0x050] ∧ OnlyRegs s u) ∧
  (∀ (f : Fin 64) (a : Nat) (be : BitVec 4) (w : Word) (s : State), (s.fnSt f).held = [.write a [(be, w)]] →
    (∀ r, s.chargeHostWord f = some r → Settled r →
      ((r.newCycle.wordWrite (.fn f) a be w).fnSt f).held = (s.fnSt f).held →
      ∃ u, exec (.hostAccessRelease f) s = .next u ∧ (u.fnSt f).held = [] ∧
        ∀ c, ¬ irqWrites c → u.reg c = (r.newCycle.wordWrite (.fn f) a be w).reg c) ∧
    (s.chargeHostWord f = none → Settled s →
      ∃ u, exec (.hostAccessRelease f) s = .next u ∧ (u.fnSt f).held = (s.fnSt f).held ∧ ∀ c, u.reg c = s.reg c))

/-! ### Timeline (chapter 03) -/

/-- SYNC edges and loads change registers, the pending load and what interrupt delivery changes. -/
def OnlySync (s t : State) : Prop :=
  t = { s with
    regs := t.regs, evchs := t.evchs, host := t.host, msix := t.msix, fns := t.fns, window := t.window, edges := t.edges, errNow := t.errNow
    loadIn := t.loadIn }

/-- SYNC_EDGE counts every edge, arms one load, and checks the others; TIMELINE_LOAD: the count takes TL_EPOCH and
runs: With REFCLK present, the device not in Off and POR_N high, a sampled SYNC edge advances EDGES modulo 256 and
writes both margin flags. With ARM = 1 and no load pending it makes TL_EPOCH, as held, the count of the 16th period
from now. With ARM = 0 or a load pending it changes no pending load; then, with CHECK = 1 and LOADED = 1, SLIP is set
exactly when the count that the 16th period from now will have - the epoch and 16 less the periods that a pending load
still waits, or else the present count and 16 - is not a multiple of 2^(16 + SYNC_PER). Otherwise an edge changes
nothing. The count does not change, nor any register but SYNC_STAT and IRQ_STAT of the timeline page and those that
interrupt delivery writes. When the 16th period after a loading edge has come, the count takes the epoch that was held
at the edge, LOADED and RUN are set and ARM clears; no other register changes but IRQ_STAT of the timeline page and
those that interrupt delivery writes. Before that period TIMELINE_LOAD changes nothing. (R68, R69, R70, R71) -/
def Obligations.SyncEdgesAndLoad : Prop :=
  (∀ (early late : Bool) (s : State), s.refLost = false → s.inDev .off = false → s.power.por = false →
    let b := Base.tl
    let then16 := match s.loadIn with
      | some (left, e) => e + (16 - left)
      | none => s.count + 16
    let free := s.bit b Reg.Tl.ARM && s.loadIn.isNone
    let bad := s.bit b Reg.Tl.CHECK && s.bit b Reg.Tl.LOADED && then16 % 2 ^ (16 + s.fld b Reg.Tl.SYNC_PER) != 0
    ∃ t, exec (.syncEdge early late) s = .next t ∧
      t.fld b Reg.Tl.EDGES = (s.fld b Reg.Tl.EDGES + 1) % 256 ∧
      t.bit b Reg.Tl.MARGIN_EARLY = early ∧ t.bit b Reg.Tl.MARGIN_LATE = late ∧
      (free = true → t.loadIn = some (16, s.tlEpoch) ∧ t.bit b Reg.Tl.SLIP = s.bit b Reg.Tl.SLIP) ∧
      (free = false → t.loadIn = s.loadIn ∧ t.bit b Reg.Tl.SLIP = (s.bit b Reg.Tl.SLIP || bad)) ∧
      KeepsRegs s t [b + 0x010, b + 0x054] ∧ OnlySync s t) ∧
  (∀ (early late : Bool) (s : State), s.refLost = true ∨ s.inDev .off = true ∨ s.power.por = true →
    exec (.syncEdge early late) s = .next s) ∧
  (∀ (e : Nat) (s : State), s.loadIn = some (0, e) →
    let b := Base.tl
    ∃ t, exec .timelineLoad s = .next t ∧ t.count = e ∧ t.loadIn = none ∧
      t.bit b Reg.Tl.LOADED = true ∧ t.bit b Reg.Tl.RUN = true ∧ t.bit b Reg.Tl.ARM = false ∧
      KeepsRegs s t [b + 0x010, b + 0x050, b + 0x054, b + 0x058] ∧
      t = { s with
        regs := t.regs, evchs := t.evchs, host := t.host, msix := t.msix, fns := t.fns, window := t.window, edges := t.edges, errNow := t.errNow
        loadIn := none, count := e, frameAt := none, epochAt := none, fluxes := t.fluxes
        cal := { s.cal with ripeAt := none }, nt := { s.nt with hist := [] } }) ∧
  (∀ (k e : Nat) (s : State), s.loadIn = some (k + 1, e) → exec .timelineLoad s = .next s)

/-- ARM, TL_NOW_READ, SNAP and TILE_EN_WRITE: Granted accesses to the timeline page. ARM outside Running sets ARM and
stores SYNC_DLY, SYNC_PER and CHECK; in Running ARM keeps its value and ERR_CAP records code 0x11. TL_NOW_READ answers
the low half of the count and latches the high half. SNAP copies the latest latched pair into the LATCH registers.
TILE_EN_WRITE stores TILE_EN in Configured; with the transition to Ready under way a tile whose bit is 0 is not locked
afterwards, and with no transition under way no other register changes; in any other state TILE_EN keeps its value and
ERR_CAP records code 0x13 with the value. (R72, R79, R89, R90) -/
def Obligations.TimelineRegisters : Prop :=
  ∀ (who : Req) (w : Word) (s r : State), Settled s → s.granted who .tl 0 = some r →
    let b := Base.tl
    (∃ t, exec (.arm who w) s = .next t ∧
      t.fld b Reg.Tl.SYNC_DLY = Reg.Tl.SYNC_DLY.get w ∧ t.fld b Reg.Tl.SYNC_PER = Reg.Tl.SYNC_PER.get w ∧
      t.fld b Reg.Tl.CHECK = Reg.Tl.CHECK.get w ∧
      (s.running = false → t.bit b Reg.Tl.ARM = true ∧ (∀ a, a ≠ b + 0x050 → t.reg a = s.reg a)) ∧
      (s.running = true → t.bit b Reg.Tl.ARM = s.bit b Reg.Tl.ARM ∧
        (s.bit b Reg.Hdr.VALID = false → t.fld b Reg.Hdr.CODE = 0x11 ∧ t.fld b Reg.Hdr.INFO = 0) ∧
        (∀ a, a ≠ b + 0x050 → a ≠ b + 0x01C → t.reg a = s.reg a)) ∧
      t = { s with regs := t.regs, used := r.used }) ∧
    (∃ t, exec (.tlNowRead who) s = .next t ∧ t.respVal = BitVec.ofNat 64 (s.count % 2 ^ 32) ∧
      t.fld b Reg.Tl.TL_NOW_HI = s.count / 2 ^ 32 % 2 ^ 32 ∧ (∀ a, a ≠ b + 0x044 → t.reg a = s.reg a) ∧
      t = { s with regs := t.regs, used := r.used, respVal := t.respVal }) ∧
    (∃ t, exec (.snap who) s = .next t ∧
      t.fld64 b Reg.Tl.LATCH_TC_LO Reg.Tl.LATCH_TC_HI = s.latch.1 % 2 ^ 64 ∧
      t.fld b Reg.Tl.LATCH_NT_NS = s.latch.2.1 % 2 ^ 32 ∧ t.fld b Reg.Tl.LATCH_NT_FRAC = s.latch.2.2 % 2 ^ 32 ∧
      (∀ a, a < b + 0x060 ∨ b + 0x070 ≤ a → t.reg a = s.reg a) ∧ t = { s with regs := t.regs, used := r.used }) ∧
    (∃ t, exec (.tileEnWrite who w) s = .next t ∧
      (s.inDev .configured = true → t.fld b Reg.Tl.TILE_EN = w.toNat % 256) ∧
      (s.inDev .configured = true → s.power.trans = none → (∀ a, a ≠ b + 0x05C → t.reg a = s.reg a) ∧
        t = { s with regs := t.regs, used := r.used }) ∧
      (∀ x k, s.inDev .configured = true → s.power.trans = some x → x.dest = 4 → k < 8 → w.toNat.testBit k = false →
        t.bit (Base.tile k) Reg.Tile.LOCK = false ∧ t.bit (Base.tile k) Reg.Tile.ALIGNED = false) ∧
      (s.inDev .configured = false → (s.bit b Reg.Hdr.VALID = false →
          t.fld b Reg.Hdr.CODE = 0x13 ∧ t.fld b Reg.Hdr.INFO = w.toNat % 256) ∧
        (∀ a, a ≠ b + 0x01C → t.reg a = s.reg a) ∧ t = { s with regs := t.regs, used := r.used }))

/-- Each REFCLK period advances the count by one: While the device is not in Off, REFCLK_PERIOD advances the always-on
clock and brings a pending load one period nearer; the count advances by one (modulo 2^64) exactly while REFCLK is
present and RUN = 1, and holds its value otherwise. The contents of DRAM and of the rings, the control store, the
loader, the device's power state and the queue are unchanged. (R65, R66, R69, R73) -/
def Obligations.PeriodAdvancesCount : Prop :=
  ∀ (adc : List (List Int)) (fs : List Residue) (s : State), s.inDev .off = false →
    ∃ t, exec (.refclkPeriod adc fs) s = .next t ∧ t.ticks = s.ticks + 1 ∧
      t.loadIn = s.loadIn.map (fun l => (l.1 - 1, l.2)) ∧
      (s.refLost = false → s.run = true → t.count = (s.count + 1) % 2 ^ 64) ∧
      (s.refLost = true ∨ s.run = false → t.count = s.count ∧ t.seqs = s.seqs ∧ t.tones = s.tones ∧ t.bar2 = s.bar2) ∧
      t.dram = s.dram ∧ t.rings = s.rings ∧ t.cs = s.cs ∧ t.loader = s.loader ∧ t.power = s.power ∧ t.frameAt = s.frameAt

/-- FRAME_BOUNDARY reloads every budget and latches the time pair: At a count that is a multiple of 256, once for each
boundary and with RUN = 1: the units used return to 0 (those served at once to DRAM requests that had waited for the
boundary are then used), the limit in force of every budget register is the limit as that register now stands, and the
latched pair is the count with the network time. At any other count nothing changes. The count, the memories, the
rings - but for requests that had waited - and the sequencers, but for the flags of their shots, are unchanged. (R26,
R29, R89, R532) -/
def Obligations.FrameBoundaryReloads : Prop :=
  (∀ (ph : List Int) (ct : BitVec 32) (s : State), s.run = true → s.count % 256 = 0 → s.frameAt ≠ some s.count →
    ∃ t, exec (.frameBoundary ph ct) s = .next t ∧ t.frameAt = some s.count ∧
      (∀ a, isBudgetReg a = true → t.limitWord a = s.reg a) ∧
      t.latch = (s.count, s.fld Base.nclk Reg.Nclk.NT_NS, s.fld Base.nclk Reg.Nclk.NT_FRAC) ∧
      t.count = s.count ∧ t.bar2 = s.bar2 ∧ t.tones = s.tones ∧
      (s.dwait = [] → t.used = [] ∧ t.dram = s.dram ∧ t.rings = s.rings) ∧
      ∀ n, t.seq n = { s.seq n with shots := (t.seq n).shots }) ∧
  (∀ (ph : List Int) (ct : BitVec 32) (s : State), s.count % 256 ≠ 0 ∨ s.run = false ∨ s.frameAt = some s.count →
    exec (.frameBoundary ph ct) s = .next s)

/-- REFCLK_LOST stops the count and drops a pending load; REFCLK_RETURN does not start it again: In a powered device
out of POR_N, the loss of REFCLK clears RUN, LOADED, REF_PRESENT and CORE_LOCK, sets REF_LOST in the page and in
IRQ_STAT, drops a pending load and holds the count; no tile stays locked or aligned; a device in Ready or Running
enters Configured, as STATE and the state-change flag show. The return of REFCLK sets REF_PRESENT and CORE_LOCK,
leaves RUN, LOADED and the count as they are, and changes no other register but those that interrupt delivery writes;
with compensation off (COMP_EN bit 0) the PLLs' settings stand. (R73, R87, R88) -/
def Obligations.RefclkLossAndReturn : Prop :=
  (∀ s : State, s.refLost = false → s.inDev .off = false → s.power.por = false →
    let b := Base.tl
    let st := s.fld Base.pwr Reg.Pwr.STATE
    ∃ t, exec .refclkLost s = .next t ∧ t.refLost = true ∧ t.loadIn = none ∧ t.count = s.count ∧
      t.bit b Reg.Tl.RUN = false ∧ t.bit b Reg.Tl.LOADED = false ∧ t.bit b Reg.Tl.REF_PRESENT = false ∧
      t.bit b Reg.Tl.CORE_LOCK = false ∧ t.bit b Reg.Tl.REF_LOST = true ∧ (t.reg (b + 0x010)).getLsbD 2 = true ∧
      (∀ k, k < 8 → t.bit (Base.tile k) Reg.Tile.LOCK = false ∧ t.bit (Base.tile k) Reg.Tile.ALIGNED = false) ∧
      (st = 4 ∨ st = 5 → t.fld Base.pwr Reg.Pwr.STATE = 3 ∧ (t.reg (Base.pwr + 0x010)).getLsbD 9 = true) ∧
      (st ≠ 4 → st ≠ 5 → t.fld Base.pwr Reg.Pwr.STATE = st) ∧
      t.frameAt = s.frameAt ∧ t.bar2 = s.bar2 ∧ t.cs = s.cs ∧ t.loader = s.loader ∧ t.nt = s.nt ∧ t.therm = s.therm) ∧
  (∀ s : State, s.refLost = true → s.inDev .off = false → s.power.por = false →
    let b := Base.tl
    ∃ t, exec .refclkReturn s = .next t ∧ t.refLost = false ∧ t.bit b Reg.Tl.REF_PRESENT = true ∧
      t.bit b Reg.Tl.CORE_LOCK = true ∧ t.bit b Reg.Tl.RUN = s.bit b Reg.Tl.RUN ∧
      t.bit b Reg.Tl.LOADED = s.bit b Reg.Tl.LOADED ∧ t.count = s.count ∧ KeepsRegs s t [b + 0x058] ∧
      (s.compOn 0 = false → t.therm = s.therm) ∧
      t = { s with
        therm := t.therm, refLost := false, regs := t.regs, evchs := t.evchs, host := t.host, msix := t.msix, fns := t.fns
        window := t.window, edges := t.edges, errNow := t.errNow })

/-- TILE_ALIGNMENT and TILE_PLL_LOCK_LOST: A started tile PLL that has locked is aligned where 12 tc less the measured
link delay lies within plus or minus 8 tc: LOCK and ALIGNED are set and EB_OFFSET holds the difference; outside that
range ALIGN_FAIL is set, ERR_CAP records code 0x12 with the difference, and ALIGNED is unchanged. A locked tile whose
PLL loses lock shows LOCK = 0 and ALIGNED = 0 afterwards; the timeline keeps its count. (R76, R77, R78, R92) -/
def Obligations.TileLockEffects : Prop :=
  ∀ (k : Fin 8) (s : State), s.refLost = false →
    let b := Base.tile k
    (∀ delay : Int, (s.tile k).pll = true → s.bit b Reg.Tile.LOCK = false →
      ∃ t, exec (.tileAlignment k delay) s = .next t ∧ t.count = s.count ∧ t.tiles = s.tiles ∧ t.tones = s.tones ∧
        t.bit b Reg.Tile.LOCK = true ∧ (s.fld Base.tl Reg.Tl.TILE_LOCK ||| 2 ^ k.val = t.fld Base.tl Reg.Tl.TILE_LOCK) ∧
        ((12 - delay).natAbs ≤ 8 → t.bit b Reg.Tile.ALIGNED = true ∧
          signed 5 (t.fld b Reg.Tile.EB_OFFSET) = 12 - delay) ∧
        (8 < (12 - delay).natAbs → (t.reg (b + 0x010)).getLsbD 3 = true ∧
          t.bit b Reg.Tile.ALIGNED = s.bit b Reg.Tile.ALIGNED ∧
          (s.bit b Reg.Hdr.VALID = false → t.fld b Reg.Hdr.CODE = 0x12 ∧
            t.fld b Reg.Hdr.INFO = ((12 - delay) % 256).toNat))) ∧
    (s.bit b Reg.Tile.LOCK = true →
      ∃ t, exec (.tilePllLockLost k) s = .next t ∧ t.count = s.count ∧ t.tiles = s.tiles ∧
        t.bit b Reg.Tile.LOCK = false ∧ t.bit b Reg.Tile.ALIGNED = false)

/-! ### Sequencers: the instruction set (chapter 04) -/

/-- Sequencer `n` issues, in half `h` of the present count, an instruction with opcode `o`: it runs, nothing stalls or halts
it, the word at its pc is no program fault, and the routine of the opcode in the cluster's control store is sound (R94, R97,
R99, R101, R139, R147). -/
def SeqIssues (s : State) (n : Fin 256) (h : Fin 2) (o : Nat) : Prop :=
  Settled s ∧ s.seqMay n (s.stepOf h) = true ∧ seqBad (s.seqWord n) = false ∧ SeqW.op (s.seqWord n) = o ∧
    s.csEnd (n.val / 16) o = .go

/-- The sequencer's pc. -/
def seqPc (s : State) (n : Fin 256) : Nat := s.fld (Base.seq n) Reg.Seq.PC

/-- The sequencer as dispatch leaves it (R144, R540). -/
def dispatched (s : State) (n : Fin 256) (h : Fin 2) : SeqSt :=
  { s.seq n with micro := s.stepOf h, stepped := (s.seq n).stepping, stepping := false, fresh := false }

/-- From `s` to `t` sequencer `n`, otherwise `q`, goes on at `pc`, `lag` steps after half `h`; no other sequencer changes. -/
def GoesOn (s t : State) (n : Fin 256) (h : Fin 2) (q : SeqSt) (pc : Nat) (lag : Nat := 1) : Prop :=
  seqPc t n = pc ∧ t.seq n = { q with wait := .none, restart := none, nextStep := s.stepOf h + lag, pass := false } ∧
    ∀ m, m ≠ n.val → t.seq m = s.seq m

/-- As `GoesOn`, and besides the pc only the registers listed may change. -/
def Retires (s t : State) (n : Fin 256) (h : Fin 2) (q : SeqSt) (pc : Nat) (except : List Nat) (lag : Nat := 1) : Prop :=
  GoesOn s t n h q pc lag ∧ (∀ a, a ≠ Base.seq n + 0x040 → a ∉ except → t.reg a = s.reg a) ∧
    t = { s with regs := t.regs, seqs := t.seqs }

/-- From `s` to `t` sequencer `n` begins to wait; a wait that a halt or a refetch interrupted keeps its restart word. -/
def Waits (s t : State) (n : Fin 256) (h : Fin 2) (w : SeqWait) (seen : Nat) : Prop :=
  t.seq n = { dispatched s n h with
    wait := w, restart := some ((s.seq n).restart.getD (s.stepOf h, seen)), pass := false } ∧
    (∀ m, m ≠ n.val → t.seq m = s.seq m) ∧ t = { s with seqs := t.seqs }

/-- The BAR0 address of general register `i` of a sequencer, and of loop counter `j` (R134). -/
def gAddr (n : Fin 256) (i : Nat) : Nat := Base.seq n + 0x080 + 4 * i
def lcAddr (n : Fin 256) (j : Nat) : Nat := Base.seq n + 0x100 + 4 * j

/-- `t` is `s` but for registers, sequencers and what the delivery of an interrupt may change. -/
def OnlySeqs (s t : State) : Prop :=
  t = { s with
    regs := t.regs, seqs := t.seqs, evchs := t.evchs, host := t.host, msix := t.msix, fns := t.fns, window := t.window
    edges := t.edges, errNow := t.errNow }

/-- NOP, MOVI, ADD, SUB, AND, OR, XOR, SHL, SHR and LDF: When sequencer n issues one of these, g[GD] takes the value
of R100's table, arithmetic being modulo 2^32 and shifts using op[4:0] (NOP writes nothing, LDF the Pauli-frame word
op[3:0] as its step sees it), the next instruction issues one step later at pc + 1, and no other register, no other
sequencer and nothing else of the state changes. (R98, R100, R101) -/
def Obligations.SequencerArithmetic : Prop :=
  ∀ (n : Fin 256) (h : Fin 2) (s : State),
    let w := s.seqWord n
    let a : Word := BitVec.ofNat 32 (s.g n (SeqW.f2 w))
    let b : Word := BitVec.ofNat 32 (s.op n w)
    (∀ e ∈ [(Instr.seqMovi n h .ok, 0x01, BitVec.ofNat 32 (SeqW.imm w)), (.seqAdd n h .ok, 0x02, a + b),
        (.seqSub n h .ok, 0x03, a - b), (.seqAnd n h .ok, 0x04, a &&& b), (.seqOr n h .ok, 0x05, a ||| b),
        (.seqXor n h .ok, 0x06, a ^^^ b), (.seqShl n h .ok, 0x07, a <<< (b.toNat % 32)),
        (.seqShr n h .ok, 0x08, a >>> (b.toNat % 32)),
        (.seqLdf n h .ok, 0x32, s.frameWord (b.toNat % 16) (s.stepOf h))],
      SeqIssues s n h e.2.1 →
        ∃ t, exec e.1 s = .next t ∧ t.g n (SeqW.f1 w) = e.2.2.toNat ∧
          Retires s t n h (dispatched s n h) ((seqPc s n + 1) % 2048) [gAddr n (SeqW.f1 w)]) ∧
    (SeqIssues s n h 0x00 →
      ∃ t, exec (.seqNop n h .ok) s = .next t ∧ Retires s t n h (dispatched s n h) ((seqPc s n + 1) % 2048) [])

/-- JMP, BEQ, BNE, BLT, BGE, CALL, RET, LCSET and DJNZ: When sequencer n issues a branch, the next instruction issues
one step later at TARGET where the branch is taken (comparisons unsigned) and at pc + 1 where it is not. CALL pushes
pc + 1 on a return stack of fewer than 8 entries, RET takes the newest entry, LCSET sets a loop counter to op[23:0],
DJNZ lowers one modulo 2^24 and branches while the result is not 0. Nothing else changes. (R98, R100, R101) -/
def Obligations.SequencerBranches : Prop :=
  ∀ (n : Fin 256) (h : Fin 2) (s : State),
    let w := s.seqWord n
    let a := s.g n (SeqW.f1 w)
    let b := s.op n w
    let follow := (seqPc s n + 1) % 2048
    let j := SeqW.f1 w % 4
    let lc (x : State) : Nat := x.fld (Base.seq n) Reg.Seq.LC j
    (∀ e ∈ [(Instr.seqJmp n h .ok, 0x10, true), (.seqBeq n h .ok, 0x11, decide (a = b)),
        (.seqBne n h .ok, 0x12, !decide (a = b)), (.seqBlt n h .ok, 0x13, decide (a < b)),
        (.seqBge n h .ok, 0x14, !decide (a < b))],
      SeqIssues s n h e.2.1 →
        ∃ t, exec e.1 s = .next t ∧
          Retires s t n h (dispatched s n h) (if e.2.2 then SeqW.target w else follow) []) ∧
    (SeqIssues s n h 0x15 → (s.seq n).stack.length < 8 →
      ∃ t, exec (.seqCall n h .ok) s = .next t ∧
        Retires s t n h { dispatched s n h with stack := follow :: (s.seq n).stack } (SeqW.target w) []) ∧
    (∀ x xs, SeqIssues s n h 0x16 → (s.seq n).stack = x :: xs →
      ∃ t, exec (.seqRet n h .ok) s = .next t ∧ Retires s t n h { dispatched s n h with stack := xs } (x % 2048) []) ∧
    (SeqIssues s n h 0x17 →
      ∃ t, exec (.seqLcset n h .ok) s = .next t ∧ lc t = b % 2 ^ 24 ∧
        Retires s t n h (dispatched s n h) follow [lcAddr n j]) ∧
    (SeqIssues s n h 0x18 →
      ∃ t, exec (.seqDjnz n h .ok) s = .next t ∧ (lc t + 1) % 2 ^ 24 = lc s % 2 ^ 24 ∧ lc t < 2 ^ 24 ∧
        Retires s t n h (dispatched s n h) (if lc t = 0 then follow else SeqW.target w) [lcAddr n j])

/-- TPNOW, TPADD, TPALN, TPRD, RDNOW, WAITT and WAITT_EXPIRY: When sequencer n issues one of these: TPNOW sets tp to
the first even step at or after now + op, TPADD adds op, TPALN sets tp to the smallest multiple of 2^k at or after tp
(all modulo 2^64), TPRD and RDNOW write tp and now into g[GD] and g[GD+1]. WAITT goes on where tp + op has been
reached and waits otherwise; a waiting sequencer goes on once its step has come and waits on before. Nothing else
changes. (R96, R98, R100, R101) -/
def Obligations.SequencerTimelinePointer : Prop :=
  ∀ (n : Fin 256) (h : Fin 2) (s : State),
    let w := s.seqWord n
    let b := s.op n w
    let d := SeqW.f1 w
    let now := s.stepOf h
    let follow := (seqPc s n + 1) % 2048
    (SeqIssues s n h 0x20 →
      ∃ t k, exec (.seqTpnow n h .ok) s = .next t ∧ k % 2 = 0 ∧ now + b ≤ k ∧ k < now + b + 2 ∧
        Retires s t n h { dispatched s n h with tp := k % 2 ^ 64 } follow []) ∧
    (SeqIssues s n h 0x21 →
      ∃ t, exec (.seqTpadd n h .ok) s = .next t ∧
        Retires s t n h { dispatched s n h with tp := (s.tp n + b) % 2 ^ 64 } follow []) ∧
    (SeqIssues s n h 0x22 → 1 ≤ b % 32 → b % 32 ≤ 20 →
      ∃ t k, exec (.seqTpaln n h .ok) s = .next t ∧ k % 2 ^ (b % 32) = 0 ∧ s.tp n ≤ k ∧ k < s.tp n + 2 ^ (b % 32) ∧
        Retires s t n h { dispatched s n h with tp := k % 2 ^ 64 } follow []) ∧
    (∀ e ∈ [(Instr.seqTprd n h .ok, 0x23, s.tp n), (.seqRdnow n h .ok, 0x24, now)],
      SeqIssues s n h e.2.1 →
        ∃ t, exec e.1 s = .next t ∧ t.g n d = e.2.2 % 2 ^ 32 ∧ t.g n (d + 1) = e.2.2 / 2 ^ 32 % 2 ^ 32 ∧
          Retires s t n h (dispatched s n h) follow [gAddr n d, gAddr n (d + 1)]) ∧
    (SeqIssues s n h 0x25 →
      ∃ t, exec (.seqWaitt n h .ok) s = .next t ∧
        (s.tp n + b ≤ now → Retires s t n h (dispatched s n h) follow []) ∧
        (now < s.tp n + b → Waits s t n h (.waitt (s.tp n + b)) 0)) ∧
    (∀ k, Settled s → s.running = true → s.run = true → (s.seq n).stall = .none → (s.seq n).wait = .waitt k →
      (k ≤ now → ∃ t, exec (.waittExpiry n h) s = .next t ∧ Retires s t n h (s.seq n) follow []) ∧
      (now < k → exec (.waittExpiry n h) s = .next s))

/-- A program fault stops the sequencer and applies its immediate disable: When a sequencer that may issue stands
before a word with a reserved opcode or a non-zero reserved field, or one whose routine comes to FAULT or runs for 16
steps without a boundary, any of its instruction rows takes the program fault: ENABLE is 0, nothing issues or waits,
no command of the sequencer stays queued, every shot not yet written has reached its boundary or is marked ABORTED and
SPOILED, PROG_FAULT is set, and an empty ERR_CAP records code 0x11 with the pc. (R99, R100, R102, R129, R139, R140,
R145) -/
def Obligations.ProgramFaultEffect : Prop :=
  ∀ (n : Fin 256) (h : Fin 2) (s : State), Settled s → s.seqMay n (s.stepOf h) = true →
    seqBad (s.seqWord n) = true ∧ s.csEnd (n.val / 16) (SeqW.op (s.seqWord n)) = .go ∨
      s.csEnd (n.val / 16) (SeqW.op (s.seqWord n)) = .fault →
    ∀ c ∈ [Instr.seqNop n h .ok, .seqAdd n h .ok, .seqJmp n h .ok, .seqPost n h .ok, .seqBrd n h .ok, .seqStop n h .ok],
      ∃ t, exec c s = .next t ∧ t.enabled (Base.seq n) = false ∧ (t.seq n).issuing = false ∧ (t.seq n).wait = .none ∧
        (t.seq n).isOpen = false ∧ (t.seq n).ending = true ∧ (∀ e ∈ t.queued, e.2.poster ≠ n.val) ∧
        (∀ x ∈ (t.seq n).shots, x.aborted = true ∨ ∃ b, x.boundary = some b ∧ b ≤ s.stepOf h) ∧
        (t.reg (Base.seq n + 0x010)).getLsbD 4 = true ∧
        (s.bit (Base.seq n) Reg.Hdr.VALID = false →
          t.fld (Base.seq n) Reg.Hdr.CODE = 0x11 ∧ t.fld (Base.seq n) Reg.Hdr.INFO = seqPc s n) ∧
        t.count = s.count ∧ t.bar2 = s.bar2 ∧ t.dram = s.dram ∧ t.power = s.power

/-- Where the sequencer goes on when nothing sends it elsewhere. -/
def seqFollow (s : State) (n : Fin 256) : Nat := (seqPc s n + 1) % 2048

/-- The sequencer's open shot, if any, has had `f` applied. -/
def OpenShotBy (s t : State) (n : Fin 256) (f : Shot → Shot) : Prop :=
  (t.seq n).openShot = (s.seq n).openShot.map f ∧ (t.seq n).isOpen = (s.seq n).isOpen

/-- The sequencer's record, its shots apart. -/
def withShots (q : SeqSt) (t : State) (n : Fin 256) : SeqSt := { q with shots := (t.seq n).shots }

/-- The command that the POST at the sequencer's pc enters in step `p` (R97, R104, R105, R119). -/
def postedCmd (s : State) (n : Fin 256) (p : Nat) : TCmd :=
  let w := s.seqWord n
  { step := if SeqW.now w then p + 3 + SeqW.dt w else (s.tp n + SeqW.dt w) % 2 ^ 64, poster := n, tag := s.openTag n
    code := SeqW.cmd w, entry := p, arg := if SeqW.areg w then s.g n (SeqW.arg w % 32) % 2 ^ 24 else SeqW.arg w }

/-- Command `c` may enter the queue of `T` in step `p` and executes: it is on time and in order, and no command of a sequencer
with a higher number has entered the queue in this step (R106, R108, R109). -/
def EntersInOrder (s : State) (T : Tgt) (c : TCmd) (p : Nat) : Prop :=
  p + 3 ≤ c.step ∧ (∀ d, (s.tgtQueue T).getLast? = some d → d.step ≤ c.step) ∧
    ∀ d ∈ s.tgtQueue T, d.entry = p → d.poster ≤ c.poster

/-- Command `c` enters between what the queue of `T` held before step `p` and the commands of sequencers with higher numbers
that entered it in this step, all in the order of their steps (R106, R108, R109). -/
def EntersBetween (s : State) (T : Tgt) (c : TCmd) (p : Nat) (before after : List TCmd) : Prop :=
  p + 3 ≤ c.step ∧ s.tgtQueue T = before ++ after ∧ (∀ d ∈ before, d.entry = p → d.poster ≤ c.poster) ∧
    (∀ d ∈ after, d.entry = p ∧ c.poster < d.poster) ∧ (∀ d, before.getLast? = some d → d.step ≤ c.step) ∧
    (c :: after).Pairwise fun x y => x.step ≤ y.step

/-- POST and POST_QUEUE_ENTRY: judging, stalling and entering a timed command: A POST of a sequencer whose function is
under no reset. To a target of its own function, with a listed code: once its step lies within LOOKAHEAD and the queue
has room, the command, with the open shot's tag, joins the end of the target's queue - before commands of sequencers
with higher numbers that entered it in the same step - and the next instruction follows; a late one is discarded and
counted; before that the POST stalls with its step still open. An unlisted target or code is refused with 0x15, a
foreign target with 0x12: the program continues, CMD_FAULT is set, ERR_CAP holds the code and TGT, and the open shot
is marked CMD_FAULT and SPOILED. (R95, R103, R104, R105, R106, R107, R108, R109, R110, R119) -/
def Obligations.TimedCommandEntry : Prop :=
  ∀ (n : Fin 256) (h : Fin 2) (s : State),
    let b := Base.seq n
    let p := s.stepOf h
    let tgt := SeqW.tgt (s.seqWord n)
    let ahead := p + s.fld b Reg.Seq.LOOKAHEAD
    (SeqIssues s n h 0x28 → s.seqFlr n = false →
      (∀ T, tgtOf tgt = some T → SeqW.cmd (s.seqWord n) < T.codes → s.owner T.page = s.owner b →
        let c := postedCmd s n p
        (c.step ≤ ahead → (s.tgtQueue T).length < T.cap → EntersInOrder s T c p →
          ∃ t, exec (.seqPost n h .ok) s = .next t ∧ t.tgtQueue T = s.tgtQueue T ++ [c] ∧
            GoesOn s t n h (dispatched s n h) (seqFollow s n) ∧ (∀ a, a ≠ b + 0x040 → t.reg a = s.reg a) ∧
            t = { s.modQueue T (fun q => q ++ [c]) with regs := t.regs, seqs := t.seqs }) ∧
        (∀ before after, c.step ≤ ahead → (s.tgtQueue T).length < T.cap → EntersBetween s T c p before after →
          ∃ t, exec (.seqPost n h .ok) s = .next t ∧ t.tgtQueue T = before ++ c :: after ∧
            GoesOn s t n h (dispatched s n h) (seqFollow s n) ∧ (∀ a, a ≠ b + 0x040 → t.reg a = s.reg a)) ∧
        (c.step < p + 3 → c.step ≤ ahead → (s.tgtQueue T).length < T.cap →
          ∃ t, exec (.seqPost n h .ok) s = .next t ∧ (t.reg (b + 0x010)).getLsbD 1 = true ∧
            t.fld b Reg.Seq.LATE_COUNT = min (s.fld b Reg.Seq.LATE_COUNT + 1) (2 ^ 32 - 1) ∧
            GoesOn s t n h (withShots (dispatched s n h) t n) (seqFollow s n) ∧ OpenShotBy s t n (·.flag Flag.LATE) ∧
            KeepsRegs s t [b + 0x010, b + 0x040, b + 0x06C] ∧ OnlySeqs s t) ∧
        (ahead < c.step ∨ T.cap ≤ (s.tgtQueue T).length →
          ∃ t, exec (.seqPost n h .ok) s = .next t ∧
            Waits s t n h (.post tgt c (SeqW.now (s.seqWord n)) (SeqW.dt (s.seqWord n)) (s.tp n)) 0)) ∧
      (∀ code, (code = 0x15 ∧ (∀ T, tgtOf tgt = some T → T.codes ≤ SeqW.cmd (s.seqWord n)) ∨
          code = 0x12 ∧ ∃ T, tgtOf tgt = some T ∧ SeqW.cmd (s.seqWord n) < T.codes ∧ s.owner T.page ≠ s.owner b) →
        ∃ t, exec (.seqPost n h .ok) s = .next t ∧ (t.reg (b + 0x010)).getLsbD 2 = true ∧
          (s.bit b Reg.Hdr.VALID = false → t.fld b Reg.Hdr.CODE = code ∧ t.fld b Reg.Hdr.INFO = tgt) ∧
          GoesOn s t n h (withShots (dispatched s n h) t n) (seqFollow s n) ∧ OpenShotBy s t n (·.flag Flag.CMD_FAULT) ∧
          KeepsRegs s t [b + 0x010, b + 0x01C, b + 0x040] ∧ OnlySeqs s t)) ∧
    (∀ (num : Nat) (c : TCmd) (now : Bool) (dt tp : Nat) (T : Tgt), Settled s → s.running = true → s.run = true →
      (s.seq n).stall = .none →
      (s.seq n).wait = .post num c now dt tp → tgtOf num = some T →
      let d := { c with step := if now then p + 3 + dt else (tp + dt) % 2 ^ 64, entry := p }
      (d.step ≤ ahead → (s.tgtQueue T).length < T.cap → EntersInOrder s T d p →
        ∃ t, exec (.postQueueEntry n h) s = .next t ∧ t.tgtQueue T = s.tgtQueue T ++ [d] ∧
          GoesOn s t n h (s.seq n) (seqFollow s n) ∧ (∀ a, a ≠ b + 0x040 → t.reg a = s.reg a) ∧
          t = { s.modQueue T (fun q => q ++ [d]) with regs := t.regs, seqs := t.seqs }) ∧
      (ahead < d.step ∨ T.cap ≤ (s.tgtQueue T).length → exec (.postQueueEntry n h) s = .next s))

/-- A slot's stamp is at or after a since-stamp in serial-number order, and it holds a value or NO_DECISION (R111). -/
def Visible (x : Slot) (since : Nat) : Prop :=
  x.cond = .absent ∨ x.cond ≠ .empty ∧ (x.stamp + 2 ^ 32 - since % 2 ^ 32) % 2 ^ 32 < 2 ^ 31

/-- The slot content that a BRD dispatched in step `d`, with last step `last`, accepts by step `p`: the first acceptable version
of those that sequencers see from step `d` on, up to step `last` (R111, R144). -/
def Accepts (s : State) (slot since d p last : Nat) (x : Slot) : Prop :=
  ∃ k before after, s.slotVersions slot d (min p last) = before ++ (k, x) :: after ∧ k ≤ last ∧ Visible x since ∧
    ∀ e ∈ before, ¬ (e.1 ≤ last ∧ Visible e.2 since)

/-- The arm of a BRD and what its acceptance leaves in the open shot (R111, R114). -/
def armTaken (x : Slot) (slot base : Nat) : Nat × (Shot → Shot) :=
  match x.cond with
  | .value v _ => (base + 2 * v, fun y => { y with accepted := (slot, some v) :: y.accepted })
  | _ => (base + 8, fun y => { y.flag Flag.NO_DECISION with accepted := (slot, none) :: y.accepted })

/-- BRD, BRD_ACCEPT and DEC_TIMEOUT take the arm that the slot's state selects: Sequencer n branches on a slot that
its owner may name. The first acceptable content of the slot that sequencers see from the instruction's dispatch - the
first one, where a halt or a re-fetch made it start again - up to step tp + TMO decides: a value v leads to BASE + 2v,
NO_DECISION to BASE + 8 with the open shot marked NO_DECISION and SPOILED; neither by then leads, from step tp + TMO +
1, to BASE + 8 with DEC_TIMEOUT in IRQ_STAT, in the shot and in TIMEOUT_COUNT. Until then the sequencer waits. Nothing
else changes but what interrupt delivery writes. (R111, R112, R144, R287, R288) -/
def Obligations.DecisionBranch : Prop :=
  ∀ (n : Fin 256) (h : Fin 2) (s : State),
    let b := Base.seq n
    let p := s.stepOf h
    let d := ((s.seq n).restart.map Prod.fst).getD p
    let taken (t : State) (q : SeqSt) (x : Slot) (slot base : Nat) : Prop :=
      GoesOn s t n h (withShots q t n) ((armTaken x slot base).1 % 2048) ∧
        OpenShotBy s t n (armTaken x slot base).2 ∧ (∀ a, a ≠ b + 0x040 → t.reg a = s.reg a) ∧
        t = { s with regs := t.regs, seqs := t.seqs }
    let missed (t : State) (q : SeqSt) (base : Nat) : Prop :=
      GoesOn s t n h (withShots q t n) ((base + 8) % 2048) ∧ OpenShotBy s t n (·.flag Flag.DEC_TIMEOUT) ∧
        (t.reg (b + 0x010)).getLsbD 3 = true ∧
        t.fld b Reg.Seq.TIMEOUT_COUNT = min (s.fld b Reg.Seq.TIMEOUT_COUNT + 1) (2 ^ 16 - 1) ∧
        KeepsRegs s t [b + 0x010, b + 0x040, b + 0x074] ∧ OnlySeqs s t
    (SeqIssues s n h 0x30 →
      let w := s.seqWord n
      let slot := SeqW.slot w
      let since := s.g n (SeqW.gs w)
      let last := s.tp n + SeqW.tmo w
      s.slotMay (s.owner b) slot = true →
      ∃ t, exec (.seqBrd n h .ok) s = .next t ∧
        (∀ x, Accepts s slot since d p last x → taken t (dispatched s n h) x slot (SeqW.base w)) ∧
        ((∀ x, ¬ Accepts s slot since d p last x) →
          (p ≤ last → Waits s t n h (.brd slot since (SeqW.base w) last) 0) ∧
          (last < p → missed t (dispatched s n h) (SeqW.base w)))) ∧
    (∀ slot since base last : Nat, Settled s → s.running = true → s.run = true → (s.seq n).stall = .none →
      (s.seq n).wait = .brd slot since base last →
      (∀ x, Accepts s slot since d p last x →
        (∃ t, exec (.brdAccept n h) s = .next t ∧ taken t (s.seq n) x slot base) ∧ exec (.decTimeout n h) s = .next s) ∧
      ((∀ x, ¬ Accepts s slot since d p last x) → exec (.brdAccept n h) s = .next s ∧
        (last < p → ∃ t, exec (.decTimeout n h) s = .next t ∧ missed t (s.seq n) base) ∧
        (p ≤ last → exec (.decTimeout n h) s = .next s)))

/-- LDD and RECD: the slot reading, the decision bitmap: LDD reads the slot as its step sees it: it writes g[GD] with
ACCEPT, NODEC, confidence and state, and counts as acceptance, marking the shot NO_DECISION for an accepted
NO_DECISION. RECD sets the bitmap bit of the open shot exactly when the state last accepted from the slot in that shot
is 1, marks LEAKAGE for state 2 or 3, and NO_DECISION and SPOILED where nothing was accepted. Nothing else changes.
(R113, R114, R287, R288) -/
def Obligations.DecisionReadings : Prop :=
  ∀ (n : Fin 256) (h : Fin 2) (s : State),
    let b := Base.seq n
    let w := s.seqWord n
    let slot := SeqW.slot w
    let x := s.slotSeen slot (s.stepOf h)
    s.slotMay (s.owner b) slot = true →
    (SeqIssues s n h 0x31 →
      let since := s.g n (SeqW.gs w)
      let v (t : State) : Word := BitVec.ofNat 32 (t.g n (SeqW.gd w))
      ∃ t, exec (.seqLdd n h .ok) s = .next t ∧
        ((v t).getLsbD 31 = true ↔ Visible x since) ∧
        ((v t).getLsbD 30 = true ↔ x.cond = .nodec ∨ x.cond = .absent) ∧
        (∀ st cf, x.cond = .value st cf → (v t).toNat % 2 ^ 30 = 4 * (cf % 256) + st % 4) ∧
        (x.cond = .empty → v t = 0) ∧
        (Visible x since → OpenShotBy s t n (armTaken x slot 0).2) ∧
        (¬ Visible x since → OpenShotBy s t n id) ∧
        GoesOn s t n h (withShots (dispatched s n h) t n) (seqFollow s n) ∧
        (∀ a, a ≠ b + 0x040 → a ≠ gAddr n (SeqW.gd w) → t.reg a = s.reg a) ∧
        t = { s with regs := t.regs, seqs := t.seqs }) ∧
    (SeqIssues s n h 0x3A →
      ∃ t, exec (.seqRecd n h .ok) s = .next t ∧
        (∀ y, (s.seq n).openShot = some y → ∃ z, (t.seq n).openShot = some z ∧
          let last := y.accepted.find? fun e => e.1 = slot
          (∀ i : Nat, i < 256 → z.bitmap.getLsbD i =
            if i = SeqW.bit w then decide (last = some (slot, some 1)) else y.bitmap.getLsbD i) ∧
          (last = none → z.flags = (y.flag Flag.NO_DECISION).flags) ∧
          (∀ v, last = some (slot, some v) → 2 ≤ v → z.flags = (y.flag Flag.LEAKAGE).flags) ∧
          (∀ v, last = some (slot, v) → v ≠ some 2 → v ≠ some 3 → v.getD 0 < 4 → z.flags = y.flags) ∧
          z.num = y.num ∧ z.start = y.start ∧ z.user = y.user ∧ z.accepted = y.accepted) ∧
        GoesOn s t n h (withShots (dispatched s n h) t n) (seqFollow s n) ∧
        (∀ a, a ≠ b + 0x040 → t.reg a = s.reg a) ∧ t = { s with regs := t.regs, seqs := t.seqs })

/-- A firing of channel `ch` after a WAITE's issue is seen by step `q`: the issue was in step `d`, after firing number `seen`.
A timed command's firing is seen from the step after it, and counts when it lies after the step of issue (R115, R144). -/
def FiredSince (s : State) (ch d seen q : Nat) : Prop :=
  ∃ e ∈ (s.evch ch).log, e.2.2 ≤ q ∧ if e.2.2 = e.2.1 + 1 then d < e.2.1 else seen < e.1

/-- WAITE, WAITE_RELEASE, WAITE_TIMEOUT, BARW and BARRIER_RELEASE: WAITE on a channel of the sequencer's function
waits from its issue - the first one, where a halt or a re-fetch made it start again; a firing since then, seen by
step tp + TMO, leads to the next instruction, and none by then leads to BASE from the following step on. BARW on a
group of which the sequencer is a member waits; the release, once every enabled member of its function waits on the
group, sends each of them on two steps later; on another group it goes on at once. Nothing else changes. (R101, R115,
R116, R144) -/
def Obligations.EventAndBarrierWaits : Prop :=
  ∀ (n : Fin 256) (h : Fin 2) (s : State),
    let p := s.stepOf h
    let w := s.seqWord n
    let from' (ch : Nat) := (s.seq n).restart.getD (p, (s.evch ch).fires)
    (SeqIssues s n h 0x33 →
      let ch := w / 2 ^ 45 % 256
      let last := s.tp n + SeqW.tmo w
      s.owner (evgPage ch) = s.owner (Base.seq n) →
      ∃ t, exec (.seqWaite n h .ok) s = .next t ∧
        (FiredSince s ch (from' ch).1 (from' ch).2 (min p last) →
          Retires s t n h (dispatched s n h) (seqFollow s n) []) ∧
        (¬ FiredSince s ch (from' ch).1 (from' ch).2 (min p last) →
          (p ≤ last → Waits s t n h (.waite ch (SeqW.base w) last (from' ch).2) (from' ch).2) ∧
          (last < p → Retires s t n h (dispatched s n h) (SeqW.base w) []))) ∧
    (∀ ch base last seen : Nat, Settled s → s.running = true → s.run = true → (s.seq n).stall = .none →
      (s.seq n).wait = .waite ch base last seen →
      let d := ((s.seq n).restart.map Prod.fst).getD p
      (FiredSince s ch d seen (min p last) → exec (.waiteTimeout n h) s = .next s ∧
        ∃ t, exec (.waiteRelease n h) s = .next t ∧ Retires s t n h (s.seq n) (seqFollow s n) []) ∧
      (¬ FiredSince s ch d seen (min p last) → exec (.waiteRelease n h) s = .next s ∧
        (last < p → ∃ t, exec (.waiteTimeout n h) s = .next t ∧ Retires s t n h (s.seq n) (base % 2048) []) ∧
        (p ≤ last → exec (.waiteTimeout n h) s = .next s))) ∧
    (SeqIssues s n h 0x34 →
      let k := s.op n w % 32
      ∃ t, exec (.seqBarw n h .ok) s = .next t ∧
        ((s.fld (Base.seq n) Reg.Seq.BAR_MASK).testBit k = true → Waits s t n h (.barw k) 0) ∧
        ((s.fld (Base.seq n) Reg.Seq.BAR_MASK).testBit k = false →
          Retires s t n h (dispatched s n h) (seqFollow s n) [] 2)) ∧
    (∀ k : Nat, Settled s → s.running = true → s.run = true → (s.seq n).stall = .none → (s.seq n).wait = .barw k →
      let member (m : Fin 256) : Prop :=
        (s.fld (Base.seq m) Reg.Seq.BAR_MASK).testBit k = true ∧
          (s.enabled (Base.seq m) = true ∨ (s.seq m).issuing = true) ∧ s.owner (Base.seq m) = s.owner (Base.seq n)
      ((∀ m, member m → (s.seq m).wait = .barw k) →
        ∃ t, exec (.barrierRelease n h) s = .next t ∧
          (∀ m, member m → seqPc t m = seqFollow s m ∧
            t.seq m = { s.seq m with wait := .none, restart := none, nextStep := p + 2, pass := false }) ∧
          (∀ m, ¬ member m → t.seq m = s.seq m) ∧
          (∀ a, (∀ m, member m → a ≠ Base.seq m + 0x040) → t.reg a = s.reg a) ∧
          t = { s with regs := t.regs, seqs := t.seqs }) ∧
      ((∃ m, member m ∧ (s.seq m).wait ≠ .barw k) → exec (.barrierRelease n h) s = .next s))

/-! ### Sequencers: shots, starting and stopping, hand-over (chapters 04 and 05) -/

/-- SHOT opens a shot at the even step at or after tp, with the throttle pauses that apply: Sequencer n issues SHOT
with no shot open, no normal disable and no hand-over pending. tp rounds up to an even step, takes the pauses
announced for steps at or before it, and is the start of a new open shot, which takes the number in the shot counter;
the counter advances modulo 2^64. The shot carries THROTTLED exactly where a pause was added and HANDOVER exactly
where the sequencer was handed over. Nothing else changes. With a hand-over pending SHOT is held back. (R117, R125,
R132, R119) -/
def Obligations.ShotOpens : Prop :=
  ∀ (n : Fin 256) (h : Fin 2) (s : State), SeqIssues s n h 0x38 →
    let b := Base.seq n
    let q := s.seq n
    let even := (q.tp + q.tp % 2) % 2 ^ 64
    let due := q.pauses.filter fun e => decide (e.1 ≤ even)
    let start := (even + (due.map Prod.snd).sum) % 2 ^ 64
    (q.isOpen = false → q.stopReq = false → q.handTo = none →
      ∃ t x, exec (.seqShot n h .ok) s = .next t ∧
        x.num = s.fld64 b Reg.Seq.SHOT_LO Reg.Seq.SHOT_HI ∧ x.start = start ∧ x.boundary = none ∧ x.bitmap = 0 ∧
        x.user = 0 ∧ x.accepted = [] ∧ x.aborted = false ∧
        (∀ i : Nat, i < 16 → (x.flags.getLsbD i = true ↔ i = Flag.THROTTLED ∧ due ≠ [] ∨ i = Flag.HANDOVER ∧ q.handed = true)) ∧
        GoesOn s t n h { dispatched s n h with
          tp := start, shots := q.shots ++ [x], isOpen := true, handed := false
          pauses := q.pauses.filter fun e => !decide (e.1 ≤ even) } (seqFollow s n) ∧
        t.fld64 b Reg.Seq.SHOT_LO Reg.Seq.SHOT_HI = (x.num + 1) % 2 ^ 64 ∧
        (∀ a, a ∉ [b + 0x040, b + 0x050, b + 0x054] → t.reg a = s.reg a) ∧ t = { s with regs := t.regs, seqs := t.seqs }) ∧
    (q.handTo ≠ none → exec (.seqShot n h .ok) s = .next s)

/-- The boundary that closing a shot at step `k` gives it (R118). -/
def closedAt (x : Shot) (k : Nat) : Nat := max x.start k

/-- The last shot of `q` is closed with boundary `b`; queued commands of its tag at or after `b` are gone. -/
def ClosesShot (s t : State) (n : Fin 256) (k : Nat) : Prop :=
  (t.seq n).isOpen = false ∧
    (∀ x, (s.seq n).openShot = some x →
      (∃ y, (t.seq n).shots.getLast? = some y ∧ y.num = x.num ∧ y.start = x.start ∧ y.boundary = some (closedAt x k) ∧
        y.user = x.user ∧ y.bitmap = x.bitmap ∧ (k < x.start → y.flags.getLsbD Flag.CMD_FAULT = true)) ∧
      (∀ e ∈ t.queued, e.2.tag = some (n.val, x.num) → e.2.step < closedAt x k) ∧
      (k < x.start → (t.reg (Base.seq n + 0x010)).getLsbD 2 = true)) ∧
    ((s.seq n).openShot = none → (t.seq n).shots = (s.seq n).shots ∧ t.queued = s.queued)

/-- `t` is `s` but for registers, sequencers, the queues of targets and what interrupt delivery may change. -/
def OnlyQueues (s t : State) : Prop :=
  t = { s with
    regs := t.regs, seqs := t.seqs, tones := t.tones, routs := t.routs, fluxes := t.fluxes, acqs := t.acqs
    evchs := t.evchs, host := t.host, msix := t.msix, fns := t.fns, window := t.window, edges := t.edges, errNow := t.errNow }

/-- ENDS, USRW, SIG and STOP: ENDS closes the open shot at tp + op: the boundary is that step, or the shot's start
where that is later (then with CMD_FAULT), tp is set to the boundary, and no queued command of the shot's tag at or
after it remains; without an open shot it only advances tp. STOP closes it at tp in the same way and stops issue. USRW
sets the open shot's user word, SIG the register SIG_CODE and the flag SIG. Of the sequencers only n changes, of its
page only what these rules write. (R100, R109, R118, R127) -/
def Obligations.ShotCloses : Prop :=
  ∀ (n : Fin 256) (h : Fin 2) (s : State),
    let b := Base.seq n
    let k := (s.tp n + s.op n (s.seqWord n)) % 2 ^ 64
    let page (t : State) : Prop := KeepsRegs s t [b + 0x010, b + 0x01C, b + 0x040]
    let bound (k : Nat) : Nat := ((s.seq n).openShot.map fun x => closedAt x k).getD k
    (SeqIssues s n h 0x39 →
      ∃ t, exec (.seqEnds n h .ok) s = .next t ∧ (t.seq n).tp = bound k ∧ ClosesShot s t n k ∧ seqPc t n = seqFollow s n ∧
        (t.seq n).issuing = (s.seq n).issuing ∧ (∀ m, m ≠ n.val → t.seq m = s.seq m) ∧ page t ∧ OnlyQueues s t) ∧
    (SeqIssues s n h 0x3F →
      ∃ t, exec (.seqStop n h .ok) s = .next t ∧ (t.seq n).tp = bound (s.tp n) ∧ ClosesShot s t n (s.tp n) ∧ (t.seq n).issuing = false ∧
        (t.seq n).ending = true ∧ t.enabled b = s.enabled b ∧ (∀ m, m ≠ n.val → t.seq m = s.seq m) ∧ page t ∧
        OnlyQueues s t) ∧
    (SeqIssues s n h 0x3B →
      ∃ t, exec (.seqUsrw n h .ok) s = .next t ∧
        OpenShotBy s t n (fun x => { x with user := BitVec.ofNat 32 (s.op n (s.seqWord n)) }) ∧
        Retires s t n h (withShots (dispatched s n h) t n) (seqFollow s n) []) ∧
    (SeqIssues s n h 0x3C →
      ∃ t, exec (.seqSig n h .ok) s = .next t ∧ t.fld b Reg.Seq.SIG_CODE = s.op n (s.seqWord n) % 256 ∧
        (t.reg (b + 0x010)).getLsbD 5 = true ∧ GoesOn s t n h (dispatched s n h) (seqFollow s n) ∧
        KeepsRegs s t [b + 0x010, b + 0x040, b + 0x078] ∧ OnlySeqs s t)

/-- RESULT_RECORD_WRITE and SEQ_STOPPED: records in shot order, then ENABLE 0 and STOPPED: Where the oldest unwritten
shot of sequencer n is ended (aborted, or its boundary lies in the present count or before) and no command of its tag
is queued, its record of 64 bytes, laid out as R120 states, is pushed to RES_RING, a RESULT ring of the sequencer's
function, and the shot is done; its flags show TILE_SKEW and SPOILED besides exactly where a tile that a command of
the shot executed through had its condition bit set before the shot's boundary. Where a later part is still queued
nothing happens. A stopping sequencer without unwritten shots and queued commands reads ENABLE 0, DISABLE_NOW 0 and
sets STOPPED. (R42, R120, R121, R123, R127, R402) -/
def Obligations.ResultRecords : Prop :=
  (∀ (n : Fin 256) (s : State) (x : Shot) (xs : List Shot), Settled s → (s.seq n).shots = x :: xs →
    let ready := x.aborted = true ∨
      (∃ k, x.boundary = some k ∧ k / 2 ≤ s.count) ∧ ∀ e ∈ s.queued, e.2.tag ≠ some (n.val, x.num)
    let ring := s.fld (Base.seq n) Reg.Seq.RES_RING
    (ready → s.ringValid ring 1 (s.owner (Base.seq n)) = true →
      ∃ t, exec (.resultRecordWrite n) s = .next t ∧ (t.seq n).shots = xs ∧ (∀ m, m ≠ n.val → t.seq m = s.seq m) ∧
        OnlySeqs (s.ringPush ring (s.resultRecord n x)) t ∧
        (∀ a, ¬ irqWrites a → t.reg a = (s.ringPush ring (s.resultRecord n x)).reg a)) ∧
    (¬ ready → exec (.resultRecordWrite n) s = .next s)) ∧
  (∀ (n : Fin 256) (s : State) (x : Shot), s.seqFlr n = false →
    let skewed := ∃ e ∈ x.skew, x.tiles.getLsbD e.1 = true ∧ ∀ b, x.boundary = some b → e.2 < b
    let r := s.resultRecord n x
    let part (i k : Nat) : Nat := ofBytesLE ((r.drop i).take k)
    r.length = 64 ∧ part 0 8 = x.num % 2 ^ 64 ∧ part 8 8 = x.start / 2 % 2 ^ 64 ∧ part 20 2 = s.owner (Base.seq n) ∧
      part 16 4 = s.shotNt x % 2 ^ 32 ∧ (¬ skewed → part 22 2 = x.flags.toNat) ∧
      (skewed → part 22 2 = (x.flag Flag.TILE_SKEW).flags.toNat) ∧ part 24 32 = x.bitmap.toNat ∧ part 56 4 = x.user.toNat) ∧
  (∀ (n : Fin 256) (s : State),
    let b := Base.seq n
    ((s.seq n).ending = true → (s.seq n).shots = [] → (∀ e ∈ s.queued, e.2.poster ≠ n.val) →
      ∃ t, exec (.seqStopped n) s = .next t ∧ t.enabled b = false ∧ t.bit b Reg.Hdr.DISABLE_NOW = false ∧
        (t.reg (b + 0x010)).getLsbD 0 = true ∧ t.seq n = { s.seq n with ending := false, stopReq := false } ∧
        (∀ m, m ≠ n.val → t.seq m = s.seq m) ∧ KeepsRegs s t [b + 0x008, b + 0x010] ∧ OnlySeqs s t) ∧
    ((s.seq n).ending = false → exec (.seqStopped n) s = .next s))

/-- Sequencer `n` is stopped, and its cluster may run: no failed control store, no image being applied (R96, R150, R155). -/
def SeqMayStart (s : State) (n : Fin 256) : Prop :=
  s.seqStopped n = true ∧ (s.seq n).ending = false ∧ (s.seq n).issuing = false ∧
    (s.fld Base.sec Reg.Sec.CL_FAIL).testBit (n.val / 16) = false ∧ s.applying n = false

/-- SEQ_ENABLE, SEQ_NORMAL_DISABLE, SEQ_DISABLE_NOW and SEQ_IMMEDIATE_DISABLE: Granted writes of CTL. ENABLE of a
stopped sequencer sets pc to START_PC, empties the return stack and lets issue begin with the next count in Running,
or else with Running's first step; the g registers, loop counters, tp and the shot counter keep their values. A write
of 0 makes ENABLE read 0 at once and asks an issuing sequencer to stop at its next shot boundary, one whose start
still waits for Running stops at once with STOPPED; a write of 1 before that cancels it. DISABLE_NOW requests an
immediate disable, which the sequencer takes at an instruction boundary: nothing issues, no command of it is queued,
its shots are ended. (R94, R96, R126, R128, R129) -/
def Obligations.SequencerStartStop : Prop :=
  (∀ (who : Req) (n : Fin 256) (s r : State), Settled s → s.granted who .seq n = some r →
    let b := Base.seq n
    let page (t : State) (l : List Nat) : Prop :=
      (∀ m, m ≠ n.val → t.seq m = s.seq m) ∧ (∀ a, a ∉ l → t.reg a = s.reg a) ∧
        t = { s with regs := t.regs, seqs := t.seqs, used := r.used }
    (SeqMayStart s n →
      ∃ t, exec (.seqEnable who n) s = .next t ∧ t.enabled b = true ∧ seqPc t n = s.fld b Reg.Seq.START_PC ∧
        t.seq n = { s.seq n with
          stack := [], issuing := true, fresh := !(s.running && s.run)
          nextStep := if (s.running && s.run) = true then 2 * s.count + 2 else 0, wait := .none, restart := none, stall := .none
          stopReq := false, halted := false, stepping := false, stepped := false, pass := false, held := false } ∧
        page t [b + 0x008, b + 0x040]) ∧
    (s.enabled b = true → (s.seq n).issuing = true → (s.seq n).fresh = true → (s.running && s.run) = false →
      ∃ t, exec (.seqNormalDisable who n) s = .next t ∧ t.enabled b = false ∧ (t.reg (b + 0x010)).getLsbD 0 = true ∧
        t.seq n = { s.seq n with held := false, issuing := false, fresh := false } ∧
        KeepsRegs s t [b + 0x008, b + 0x010] ∧ OnlySeqs { s with used := r.used } t) ∧
    (s.enabled b = true → (s.seq n).issuing = true → (s.seq n).fresh = false ∨ (s.running && s.run) = true →
      ∃ t, exec (.seqNormalDisable who n) s = .next t ∧ t.enabled b = false ∧
        t.seq n = { s.seq n with held := false, stopReq := true } ∧ page t [b + 0x008]) ∧
    (s.enabled b = false → (s.seq n).issuing = true → (s.seq n).ending = false →
      (s.fld Base.sec Reg.Sec.CL_FAIL).testBit (n.val / 16) = false → s.applying n = false →
      ∃ t, exec (.seqEnable who n) s = .next t ∧ t.enabled b = true ∧
        t.seq n = { s.seq n with stopReq := false } ∧ page t [b + 0x008]) ∧
    (s.enabled b = true →
      ∃ t, exec (.seqDisableNow who n) s = .next t ∧ (t.seq n).killReq = true ∧ (t.seq n).tp = (s.seq n).tp ∧
        t.bit b Reg.Hdr.DISABLE_NOW = true ∧ page t [b + 0x008])) ∧
  (∀ (n : Fin 256) (h : Fin 2) (s : State), Settled s → (s.seq n).killReq = true →
    (s.seqBound n (s.stepOf h) = true →
      ∃ t, exec (.seqImmediateDisable n h) s = .next t ∧ t.enabled (Base.seq n) = false ∧ (t.seq n).issuing = false ∧
        (t.seq n).killReq = false ∧ (t.seq n).isOpen = false ∧ (t.seq n).ending = true ∧
        (∀ e ∈ t.queued, e.2.poster ≠ n.val) ∧
        (∀ x ∈ (t.seq n).shots, x.aborted = true ∨ ∃ k, x.boundary = some k ∧ k ≤ s.stepOf h) ∧
        (t.seq n).shots.map Shot.num = (s.seq n).shots.map Shot.num ∧ t.count = s.count ∧ t.bar2 = s.bar2 ∧
        t.rings = s.rings ∧ t.dram = s.dram) ∧
    (s.seqBound n (s.stepOf h) = false → exec (.seqImmediateDisable n h) s = .next s))

/-- Partial boundaries, the step limit, and the refetch of program and control-store words: A waiting routine reaches
a partial boundary exactly every 16 steps after its dispatch while its condition is not met, and is otherwise left
alone. A routine without a boundary for 16 steps takes the program fault. Once the block read from DRAM has been
delivered, a refetched program word, and a refetched control-store word that passes its check, free exactly the
sequencers that stalled on it, and the copy holds the image's word; a control-store word that fails again is counted,
recorded with code 0x10 and its address, marks the cluster failed and requests the immediate disable of its running
sequencers. (R33, R37, R142, R143, R145, R147, R150) -/
def Obligations.MicroRoutines : Prop :=
  (∀ (n : Fin 256) (h : Fin 2) (s : State),
    let p := s.stepOf h
    let q := s.seq n
    (q.wait ≠ .none → q.stall = .none → s.seqMet n p = false → q.micro < p → (p - q.micro) % 16 = 0 →
      ∃ t, exec (.microPartialBoundary n h) s = .next t ∧ t.seq n = { q with micro := p } ∧
        (∀ m, m ≠ n.val → t.seq m = s.seq m) ∧ t = { s with seqs := t.seqs }) ∧
    (q.wait = .none ∨ q.stall ≠ .none ∨ s.seqMet n p = true ∨ (p - q.micro) % 16 ≠ 0 → exec (.microPartialBoundary n h) s = .next s) ∧
    (q.wait ≠ .none → q.stall = .none → s.seqMet n p = false → q.micro + 16 ≤ p →
      ∃ t, exec (.microStepLimit n h) s = .next t ∧ (t.seq n).issuing = false ∧ (t.seq n).wait = .none ∧
        (t.reg (Base.seq n + 0x010)).getLsbD 4 = true ∧ t.count = s.count ∧ t.bar2 = s.bar2) ∧
    (p < q.micro + 16 → exec (.microStepLimit n h) s = .next s)) ∧
  (∀ (n : Fin 256) (pc : Nat) (s : State), Settled s → (s.seq n).stall = .program pc → s.frozen = false →
    s.refetchOut (shadowAt (0x0240_0000 + 16384 * n.val + 8 * pc)) = false →
    ∃ t, exec (.programRefetchComplete n) s = .next t ∧ t.seq n = { s.seq n with stall := .none } ∧
      (∀ m, m ≠ n.val → t.seq m = s.seq m) ∧ t = { s with seqs := t.seqs }) ∧
  (∀ (k : Fin 16) (a : Fin 4096) (s : State), Settled s → s.frozen = false →
    s.loader.refetch.contains (k.val * 4096 + a.val) = true →
    let slot := s.fld Base.sec Reg.Sec.CL_SLOT / 2 ^ k.val % 2
    s.refetchOut (imageAt slot a) = false →
    (∃ t, exec (.csRefetchComplete k a true) s = .next t ∧
      (∀ i : Fin 16, (s.seq (16 * k.val + i.val)).stall = .control a → (t.seq (16 * k.val + i.val)).stall = .none) ∧
      (∀ m, (s.seq m).stall ≠ .control a ∨ m / 16 ≠ k.val → t.seq m = s.seq m) ∧
      t.loader = { s.loader with refetch := s.loader.refetch.erase (k.val * 4096 + a.val) } ∧
      t.csWord k a = csProtect (SMap.get (fun _ => 0#192) s.csImage (slot * 4096 + a)) ∧
      t = { s with seqs := t.seqs, loader := t.loader, cs := t.cs }) ∧
    (∃ t, exec (.csRefetchComplete k a false) s = .next t ∧
      (t.fld Base.sec Reg.Sec.CL_FAIL).testBit k = true ∧ (t.reg (Base.sec + 0x010)).getLsbD 10 = true ∧
      (t.reg (Base.sec + 0x010)).getLsbD 11 = true ∧
      t.fld Base.sec Reg.Sec.CS_DETECT_COUNT = min (s.fld Base.sec Reg.Sec.CS_DETECT_COUNT + 1) (2 ^ 32 - 1) ∧
      (s.bit Base.sec Reg.Hdr.VALID = false →
        t.fld Base.sec Reg.Hdr.CODE = 0x10 ∧ t.fld Base.sec Reg.Hdr.INFO = k.val * 4096 + a.val) ∧
      (∀ i : Fin 16, s.enabled (Base.seq (16 * k.val + i.val)) = true → (t.seq (16 * k.val + i.val)).killReq = true) ∧
      (∀ m, m / 16 ≠ k.val → t.seq m = s.seq m) ∧ KeepsRegs s t [Base.sec + 0x010, Base.sec + 0x01C, Base.sec + 0x120, Base.sec + 0x128]))

/-- HANDOVER_GO and HANDOVER_COPY move a program to another sequencer at a SHOT: A granted write of GO, DONE cleared,
with a destination that meets R130 holds the request; with one that does not, GO clears and ERR_CAP records code 0x16
with DEST. Standing before its next SHOT with no shot open, the source hands its g registers, loop counters, pc,
return stack, tp and shot counter to the destination, which is enabled and goes on in the step that follows, its first
shot marked as handed over; the source stops, DONE is set and GO clears, and both pages show HANDOVER_DONE. The
model's choice (assumption log 55): a destination that no longer meets R130 then refuses the hand-over with code 0x16.
(R130, R131, R132) -/
def Obligations.HandOver : Prop :=
  (∀ (who : Req) (n : Fin 256) (data : Word) (s r : State), Settled s → s.granted who .seq n = some r →
    (s.seq n).handTo = none →
    let b := Base.seq n
    let d := data.toNat % 256
    (r.handOk n d = true →
      ∃ t, exec (.handoverGo who n data) s = .next t ∧ t.seq n = { s.seq n with handTo := some d } ∧
        t.bit b Reg.Seq.GO = true ∧ t.bit b Reg.Seq.DONE = false ∧ t.fld b Reg.Seq.DEST = d ∧
        (∀ m, m ≠ n.val → t.seq m = s.seq m) ∧ (∀ a, a ≠ b + 0x064 → t.reg a = s.reg a) ∧
        t = { s with regs := t.regs, seqs := t.seqs, used := r.used }) ∧
    (r.handOk n d = false →
      ∃ t, exec (.handoverGo who n data) s = .next t ∧ t.bit b Reg.Seq.GO = false ∧
        (s.bit b Reg.Hdr.VALID = false → t.fld b Reg.Hdr.CODE = 0x16 ∧ t.fld b Reg.Hdr.INFO = d) ∧
        (∀ a, a ≠ b + 0x064 → a ≠ b + 0x01C → t.reg a = s.reg a) ∧ t = { s with regs := t.regs, used := r.used })) ∧
  (∀ (n d : Fin 256) (h : Fin 2) (s : State), n ≠ d → (s.seq n).handTo = some d.val → SeqIssues s n h 0x38 →
    (s.seq n).isOpen = false →
    let b := Base.seq n
    let e := Base.seq d
    (s.handOk n d = false → ∃ t, exec (.handoverCopy n h) s = .next t ∧ t.seq n = { s.seq n with handTo := none } ∧
      t.bit b Reg.Seq.GO = false ∧
      (s.bit b Reg.Hdr.VALID = false → t.fld b Reg.Hdr.CODE = 0x16 ∧ t.fld b Reg.Hdr.INFO = d.val)) ∧
    (s.handOk n d = true → ∃ t, exec (.handoverCopy n h) s = .next t ∧
      (∀ i : Fin 32, t.g d i = s.g n i) ∧ (∀ j : Fin 4, t.fld e Reg.Seq.LC j = s.fld b Reg.Seq.LC j) ∧
      seqPc t d = seqPc s n ∧ t.fld64 e Reg.Seq.SHOT_LO Reg.Seq.SHOT_HI = s.fld64 b Reg.Seq.SHOT_LO Reg.Seq.SHOT_HI ∧
      (t.seq d).tp = (s.seq n).tp ∧ (t.seq d).stack = (s.seq n).stack ∧ (t.seq d).issuing = true ∧
      (t.seq d).nextStep = s.stepOf h + 1 ∧ (t.seq d).handed = true ∧ t.enabled e = true ∧
      (t.seq n).issuing = false ∧ (t.seq n).ending = true ∧ (t.seq n).handTo = none ∧ t.enabled b = false ∧
      (t.seq n).shots = (s.seq n).shots ∧ t.bit b Reg.Seq.DONE = true ∧ t.bit b Reg.Seq.GO = false ∧
      (t.reg (b + 0x010)).getLsbD 6 = true ∧ (t.reg (e + 0x010)).getLsbD 6 = true ∧
      (∀ m, m ≠ n.val → m ≠ d.val → t.seq m = s.seq m) ∧ OnlySeqs s t))

/-! ### Microcode images and tone engines (chapters 05 and 06) -/

/-- VERIFY, VERIFY_COMPLETE, APPLY and APPLY_COMPLETE stage an image and load it into idle clusters: VERIFY and APPLY,
granted and with the loader idle, set BUSY; APPLY with nothing staged, or with a busy cluster in CL_MASK, is refused
with code 0x27 and the mask of the busy clusters. VERIFY_COMPLETE records the first failing check in RESULT and
ERR_CAP and stages nothing, or stages the merged image in a free slot; an image that passes is signed, over its header
and records, with a key that is not revoked. APPLY_COMPLETE gives each masked cluster the staged slot and its version
and clears its failure bit, and leaves the other clusters' slots as they are. (R151, R153, R154, R155, R157, R529) -/
def Obligations.MicrocodeLoader : Prop :=
  let b := Base.sec
  (∀ (who : Req) (s r : State), Settled s → s.granted who .sec 0 = some r → s.bit b Reg.Sec.BUSY = false →
    (∃ t, exec (.verify who) s = .next t ∧ t.bit b Reg.Sec.BUSY = true ∧
      t = { s with regs := t.regs, used := r.used, loader := { s.loader with job := .verify } } ∧
      ∀ a, a ≠ b + 0x104 → t.reg a = s.reg a) ∧
    (s.bit b Reg.Sec.STAGED = true → s.busyClusters (s.fld b Reg.Sec.CL_MASK) = 0 →
      ∃ t, exec (.apply who) s = .next t ∧ t.bit b Reg.Sec.BUSY = true ∧ t.loader.job = .apply ∧
        t.loader.mask.toNat = s.fld b Reg.Sec.CL_MASK ∧ t = { s with regs := t.regs, used := r.used, loader := t.loader } ∧
        ∀ a, a ≠ b + 0x104 → t.reg a = s.reg a) ∧
    (∀ info, (s.bit b Reg.Sec.STAGED = false ∧ info = 0 ∨
        s.bit b Reg.Sec.STAGED = true ∧ info = s.busyClusters (s.fld b Reg.Sec.CL_MASK) ∧ info ≠ 0) →
      ∃ t, exec (.apply who) s = .next t ∧ t.fld b Reg.Sec.RESULT = 0x27 ∧
        (s.bit b Reg.Hdr.VALID = false → t.fld b Reg.Hdr.CODE = 0x27 ∧ t.fld b Reg.Hdr.INFO = info % 2 ^ 24) ∧
        t = { s with regs := t.regs, used := r.used } ∧ ∀ a, a ≠ b + 0x104 → a ≠ b + 0x01C → t.reg a = s.reg a)) ∧
  (∀ (res : Option Nat) (s : State), s.loader.job = .verify →
    (s.imgCheck res = none → res = none ∧ s.keyLive (Img.keyIndex s) = true ∧
      s.imgSigned s.imgBase (Img.count s) (Img.keyIndex s) = true) ∧
    (∀ code info, s.imgCheck res = some (code, info) →
      ∃ t, exec (.verifyComplete res) s = .next t ∧ t.fld b Reg.Sec.RESULT = code % 256 ∧ t.bit b Reg.Sec.BUSY = false ∧
        t.bit b Reg.Sec.STAGED = s.bit b Reg.Sec.STAGED ∧ (t.reg (b + 0x010)).getLsbD 8 = true ∧ t.loader.job = .idle ∧
        t.loader.slotA = s.loader.slotA ∧ t.loader.slotB = s.loader.slotB ∧ t.csImage = s.csImage ∧ t.cs = s.cs ∧
        KeepsRegs s t [b + 0x010, b + 0x01C, b + 0x104]) ∧
    (∀ k, s.imgCheck res = none → s.freeSlot = some k →
      ∃ t, exec (.verifyComplete res) s = .next t ∧ t.fld b Reg.Sec.RESULT = 0 ∧ t.bit b Reg.Sec.BUSY = false ∧
        t.bit b Reg.Sec.STAGED = true ∧ t.fld b Reg.Sec.STAGED_SLOT = k ∧ t.loader.job = .idle ∧
        t.mcSlot k = ⟨Img.version s, Img.svn s, true⟩ ∧ t.mcSlot (1 - k) = s.mcSlot (1 - k) ∧
        t.csImage = (s.setSlotWords k s.merged).csImage ∧ t.cs = s.cs ∧ KeepsRegs s t [b + 0x010, b + 0x104])) ∧
  (∀ s : State, s.loader.job = .apply → (∀ k, (s.mcSlot k).svn < 2 ^ 16) →
    ∃ t, exec .applyComplete s = .next t ∧ t.loader.job = .idle ∧ t.bit b Reg.Sec.BUSY = false ∧
      t.fld b Reg.Sec.RESULT = 0 ∧ (t.reg (b + 0x010)).getLsbD 9 = true ∧ t.csImage = s.csImage ∧
      s.fld b Reg.Sec.MC_SVN ≤ t.fld b Reg.Sec.MC_SVN ∧
      (∀ k : Fin 16,
        (s.loader.mask.getLsbD k = true →
          (t.fld b Reg.Sec.CL_SLOT).testBit k = s.bit b Reg.Sec.STAGED_SLOT ∧
            (t.fld b Reg.Sec.CL_FAIL).testBit k = false ∧
            t.fld b Reg.Sec.MC_CL_VER k = (s.mcSlot (s.fld b Reg.Sec.STAGED_SLOT)).version % 2 ^ 32) ∧
        (s.loader.mask.getLsbD k = false →
          (t.fld b Reg.Sec.CL_SLOT).testBit k = (s.fld b Reg.Sec.CL_SLOT).testBit k ∧
            (t.fld b Reg.Sec.CL_FAIL).testBit k = (s.fld b Reg.Sec.CL_FAIL).testBit k ∧
            t.fld b Reg.Sec.MC_CL_VER k = s.fld b Reg.Sec.MC_CL_VER k)))

/-- Every unwritten shot that a tag names carries a flag (R121). -/
def Charged (t : State) (tag : Tag) (i : Nat) : Prop :=
  ∀ k num, tag = some (k, num) → ∀ x ∈ (t.seq k).shots, x.num = num → x.flags.getLsbD i = true

/-- `c` is at the head of a queue with code `code`, and its step lies in the present count or the next (assumption log 4). -/
def HeadDue (s : State) (q : List TCmd) (c : TCmd) (cs : List TCmd) (code : Nat) : Prop :=
  q = c :: cs ∧ c.code = code ∧ c.step < 2 * (s.count + 2)

/-- Of the tone engines only `n` changes, of the registers only those at the offsets of its page; the shots that commands
are charged to, and what interrupt delivery writes, may change. -/
def OnlyTone (s t : State) (n : Fin 512) (offs : List Nat) : Prop :=
  (∀ m, m ≠ n.val → t.tone m = s.tone m) ∧ KeepsRegs s t (offs.map (Base.tone n + ·)) ∧
    t = { s with
      regs := t.regs, tones := t.tones, seqs := t.seqs, evchs := t.evchs, host := t.host, msix := t.msix, fns := t.fns
      window := t.window, edges := t.edges, errNow := t.errNow }

/-- As OnlyTone, of a command that reads an entry or a record: a read that fails its parity also writes IRQ_STAT and ERR_CAP,
and asks the DRAM for what it read (R191). -/
def OnlyToneRead (s t : State) (n : Fin 512) (bad : Bool) (offs : List Nat) : Prop :=
  (∀ m, m ≠ n.val → t.tone m = s.tone m) ∧
    KeepsRegs s t ((if bad then 0x010 :: 0x01C :: offs else offs).map (Base.tone n + ·)) ∧
    (bad = false → t.used = s.used ∧ t.dchs = s.dchs ∧ t.dwait = s.dwait) ∧
    t = { s with
      regs := t.regs, tones := t.tones, seqs := t.seqs, evchs := t.evchs, host := t.host, msix := t.msix, fns := t.fns
      window := t.window, edges := t.edges, errNow := t.errNow, used := t.used, dchs := t.dchs, dwait := t.dwait }

/-- A read of an entry or a record that failed its parity shows in the page of tone engine `n` (R191). -/
def ToneParity (s t : State) (n : Fin 512) (bad : Bool) (i : Nat) : Prop :=
  bad = true → (t.reg (Base.tone n + 0x010)).getLsbD 8 = true ∧
    (s.bit (Base.tone n) Reg.Hdr.VALID = false →
      t.fld (Base.tone n) Reg.Hdr.CODE = 0x10 ∧ t.fld (Base.tone n) Reg.Hdr.INFO = i % 2 ^ 24)

/-- The offsets of the registers that show what a tone engine plays (R194). -/
def toneShow : List Nat := [0x040, 0x044, 0x050]

/-- START, FDELAY, PHASE and FRAME of a tone engine: The command at the head of the queue, once its step is due,
leaves the queue. START of a valid entry by an enabled engine that plays nothing at its step begins a play of LEN
granules and REP + 1 plays at the command's step; during a play it cuts that play and is counted in CUT_COUNT. An
invalid entry is an entry fault and an idle engine stays idle; a disabled engine drops the command. An entry that
fails its parity sets PARITY and code 0x10. FDELAY, PHASE and FRAME set their fields. The other engines, and the
registers not named, do not change. (R165, R172, R173, R174, R188, R191) -/
def Obligations.ToneCommandsStart : Prop :=
  ∀ (n : Fin 512) (s : State) (c : TCmd) (cs : List TCmd),
    let b := Base.tone n
    let x := s.tone n
    (HeadDue s x.queue c cs 0x0 → ∀ bad : Bool,
      let i := c.arg % 2 ^ 16
      let e := decodeEntry i (rdLE s.bar2 (0x0200_0000 + 16 * i) 16)
      let begun := mkPlay e c.step e.rep c.poster c.tag bad
      (s.enabled b = true → s.entryValid (s.owner b) e = true → x.play = none →
        ∃ t, exec (.toneStart n bad) s = .next t ∧
          t.tone n = { x with queue := cs, play := some begun, stop := (s.seq c.poster).halted } ∧
          t.fld b Reg.Tone.CUR_ENTRY = i ∧ t.fld b Reg.Tone.PLAYS_LEFT = e.rep ∧ ToneParity s t n bad i ∧
          OnlyToneRead s t n bad toneShow) ∧
      (∀ p, s.enabled b = true → s.entryValid (s.owner b) e = true → x.play = some p → c.step < p.start + 4 * p.e.len →
        ∃ t, exec (.toneStart n bad) s = .next t ∧ (t.tone n).play = some begun ∧ (t.tone n).queue = cs ∧
          (t.tone n).cont = none ∧ (∀ g ∈ (t.tone n).grans, g.start < c.step ∧ g.stop ≤ c.step) ∧
          t.fld b Reg.Tone.CUT_COUNT = min (s.fld b Reg.Tone.CUT_COUNT + 1) (2 ^ 16 - 1) ∧ ToneParity s t n bad i ∧
          OnlyToneRead s t n bad (0x05C :: 0x070 :: toneShow)) ∧
      (s.enabled b = true → s.entryValid (s.owner b) e = false → x.play = none →
        ∃ t, exec (.toneStart n bad) s = .next t ∧ t.tone n = { x with queue := cs } ∧
          (t.reg (b + 0x010)).getLsbD 5 = true ∧ Charged t c.tag Flag.CMD_FAULT ∧ Charged t c.tag Flag.SPOILED ∧
          (bad = false → s.bit b Reg.Hdr.VALID = false → t.fld b Reg.Hdr.CODE = 0x11 ∧ t.fld b Reg.Hdr.INFO = i) ∧
          ToneParity s t n bad i ∧ OnlyToneRead s t n bad (0x010 :: 0x01C :: toneShow)) ∧
      (s.enabled b = false →
        ∃ t, exec (.toneStart n bad) s = .next t ∧ t.tone n = { x with queue := cs } ∧
          t.fld b Reg.Tone.DROP_COUNT = min (s.fld b Reg.Tone.DROP_COUNT + 1) (2 ^ 16 - 1) ∧
          (t.reg (b + 0x010)).getLsbD 7 = true ∧ Charged t c.tag Flag.CMD_FAULT ∧ OnlyTone s t n [0x010, 0x06C])) ∧
    (HeadDue s x.queue c cs 0x4 → x.delayWas.step ≤ c.step →
      ∃ t, exec (.toneFdelay n) s = .next t ∧ t.fld b Reg.Tone.FDELAY = c.arg % 32 ∧
        (t.tone n).delayWas.step = c.step ∧ (t.tone n).queue = cs ∧ (t.tone n).play = x.play ∧ OnlyTone s t n [0x04C]) ∧
    (HeadDue s x.queue c cs 0x5 → x.phaseWas.step ≤ c.step →
      ∃ t, exec (.tonePhase n) s = .next t ∧ t.fld b Reg.Tone.PHASE_REG = c.arg % 2 ^ 16 ∧
        (t.tone n).phaseWas.step = c.step ∧ (t.tone n).queue = cs ∧ (t.tone n).play = x.play ∧ OnlyTone s t n [0x048]) ∧
    (HeadDue s x.queue c cs 0x6 →
      ∃ t, exec (.toneFrame n) s = .next t ∧ t.fld b Reg.Tone.FRAME_QUBIT = c.arg % 256 ∧
        t.bit b Reg.Tone.FRAME_EN = true ∧ t.tone n = { x with queue := cs, frameStep := c.step } ∧ OnlyTone s t n [0x050])

/-- What KILL or DISABLE_NOW discards at step `k`: the play, a resolved continuation, and the queued START and JUMP
commands (R190). -/
def toneGone (x : ToneSt) (cs : List TCmd) : Nat :=
  x.play.toList.length + (match x.cont with
    | some (some _) => 1
    | _ => 0) + (cs.filter fun c => c.code == 0 || c.code == 1).length

/-- JUMP, STOP, KILL and the ENABLE and DISABLE_NOW writes of a tone engine: A JUMP during a play stands for the
play's boundary B where it executes before step B - 4, and for the boundary after that, with LATE_JUMP, from B - 4 on.
STOP ends the play at its boundary and discards pending jumps. KILL discards the play, its continuation and every
queued START and JUMP, adds their number to TRUNC_COUNT, and sets TRUNCATED where there was any. ENABLE enables; a
write of 0 reads 0 at once and lets the play end at its boundary, a pending jump standing until then; DISABLE_NOW acts
as KILL and clears ENABLE. Only engine n and its page change. (R176, R189, R190, R188) -/
def Obligations.ToneCommandsEnd : Prop :=
  (∀ (n : Fin 512) (s : State) (c : TCmd) (cs : List TCmd) (p : Play),
    let b := Base.tone n
    let x := s.tone n
    x.play = some p → c.step < p.start + 4 * p.e.len →
    (∀ bad, HeadDue s x.queue c cs 0x1 → s.enabled b = true →
      (c.step + 4 < p.start + 4 * p.e.len →
        ∃ t, exec (.toneJump n bad) s = .next t ∧
          t.tone n = { x with queue := cs, play := some { p with jump := some ⟨c.arg % 2 ^ 16, c.poster, c.tag⟩ } } ∧
          OnlyTone s t n []) ∧
      (p.start + 4 * p.e.len ≤ c.step + 4 →
        ∃ t, exec (.toneJump n bad) s = .next t ∧
          t.tone n = { x with queue := cs, play := some { p with deferred := some ⟨c.arg % 2 ^ 16, c.poster, c.tag⟩ } } ∧
          t.fld b Reg.Tone.LATE_JUMP_COUNT = min (s.fld b Reg.Tone.LATE_JUMP_COUNT + 1) (2 ^ 16 - 1) ∧
          (t.reg (b + 0x010)).getLsbD 1 = true ∧ Charged t c.tag Flag.LATE_JUMP ∧ OnlyTone s t n [0x010, 0x068])) ∧
    (HeadDue s x.queue c cs 0x2 →
      ∃ t, exec (.toneStop n) s = .next t ∧ (t.tone n).play = some { p with jump := none, deferred := none } ∧
        (t.tone n).stop = true ∧ (t.tone n).queue = cs ∧ (∀ d, (t.tone n).cont ≠ some (some d)) ∧
        t.enabled b = s.enabled b ∧ OnlyTone s t n (0x05C :: toneShow)) ∧
    (HeadDue s x.queue c cs 0x3 →
      ∃ t, exec (.toneKill n) s = .next t ∧ (t.tone n).play = none ∧ (t.tone n).cont = none ∧
        (t.tone n).queue = (cs.filter fun d => !(d.code == 0 || d.code == 1)) ∧
        (∀ g ∈ (t.tone n).grans, g.start < c.step ∧ g.stop ≤ c.step) ∧
        t.fld b Reg.Tone.TRUNC_COUNT = min (s.fld b Reg.Tone.TRUNC_COUNT + toneGone x cs) (2 ^ 16 - 1) ∧
        (t.reg (b + 0x010)).getLsbD 3 = true ∧ Charged t p.tag Flag.TRUNCATED ∧ t.enabled b = s.enabled b ∧
        OnlyTone s t n (0x010 :: 0x05C :: 0x064 :: toneShow))) ∧
  (∀ (who : Req) (n : Fin 512) (s r : State), Settled s → s.granted who .tone n = some r →
    let b := Base.tone n
    let x := s.tone n
    let page (t : State) (l : List Nat) : Prop :=
      (∀ m, m ≠ n.val → t.tone m = s.tone m) ∧ KeepsRegs s t (l.map (b + ·)) ∧
        t = { s with
          regs := t.regs, tones := t.tones, seqs := t.seqs, used := r.used, evchs := t.evchs, host := t.host
          msix := t.msix, fns := t.fns, window := t.window }
    (s.enabled b = false →
      ∃ t, exec (.toneEnable who n) s = .next t ∧ t.enabled b = true ∧
        t.tone n = { x with norm := false, strmSeen := false } ∧ page t [0x008]) ∧
    (s.enabled b = true → x.play = none →
      ∃ t, exec (.toneNormalDisable who n) s = .next t ∧ t.enabled b = false ∧ t.tone n = { x with norm := false } ∧
        page t [0x008]) ∧
    (∀ p, s.enabled b = true → x.play = some p →
      ∃ t, exec (.toneNormalDisable who n) s = .next t ∧ t.enabled b = false ∧ (t.tone n).norm = true ∧
        (t.tone n).play = some p ∧ (∀ d, (t.tone n).cont ≠ some (some d)) ∧
        page t (0x008 :: 0x05C :: toneShow)) ∧
    (∃ t, exec (.toneDisableNow who n) s = .next t ∧ t.enabled b = false ∧ (t.tone n).play = none ∧
      (t.tone n).cont = none ∧ (t.tone n).queue = (x.queue.filter fun d => !(d.code == 0 || d.code == 1)) ∧
      (∀ g ∈ (t.tone n).grans, g.start < 2 * s.count + 2 ∧ g.stop ≤ 2 * s.count + 2)))

/-- A register of the memory controller or of a DRAM channel (R414, R439). -/
def memCtl (a : Nat) : Prop := 0x0070_0000 ≤ a ∧ a < 0x0070_5000

/-- What the entry in play leads to (R175): END, or the entry played next. -/
def playNext (x : ToneSt) (p : Play) : Option Nat :=
  let named (i : Nat) : Option Nat := if i = 0xFFFF then none else some i
  if x.stop || x.norm then none
  else
    match p.jump with
    | some j => if j.target = 0xFFFF then named p.e.jt else some j.target
    | none => if p.e.hold || decide (0 < p.left) then some p.e.idx else named p.e.next

/-- The plays left after the present one when entry `e` follows (R175). -/
def leftAfter (p : Play) (e : Entry) : Nat :=
  if p.jump = none ∧ p.e.hold = true then p.left
  else if p.jump = none ∧ 0 < p.left then p.left - 1
  else e.rep

/-- TONE_DECISION_POINT, TONE_PLAY_BOUNDARY, TONE_GRANULE_CHECK and TONE_REFETCH_COMPLETE: At B - 4 the engine
resolves what follows by R175's rules in order: END, or the checked entry, beginning at B; an invalid entry acts as
END with ENTRY_FAULT, and one that fails its parity sets PARITY and code 0x10. At B the continuation becomes the play,
a deferred jump with it, or the engine is idle and sets ENDED. Two steps before each granule of a resident play its
four records are read and the granule will play them; a parity failure makes it quiet, with UNDERRUN, its cause and
PARITY, and asks for the record again. A refetch whose block DRAM has delivered makes records and entries usable
again. Only engine n and its page change. (R33, R166, R172, R173, R175, R176, R183, R191) -/
def Obligations.TonePlayProgress : Prop :=
  (∀ (n : Fin 512) (s : State) (p : Play),
    let b := Base.tone n
    let x := s.tone n
    let B := p.start + 4 * p.e.len
    x.play = some p →
    (∀ bad : Bool, x.cont = none → B - 4 < 2 * (s.count + 2) →
      (playNext x p = none →
        ∃ t, exec (.toneDecisionPoint n bad) s = .next t ∧ t.tone n = { x with cont := some none } ∧
          OnlyTone s t n toneShow) ∧
      (∀ i, playNext x p = some i → s.entryValid (s.owner b) (s.entry i) = true →
        ∃ t c, exec (.toneDecisionPoint n bad) s = .next t ∧ t.tone n = { x with cont := some (some c) } ∧
          c.e = s.entry i ∧ c.start = B ∧ c.left = leftAfter p (s.entry i) ∧ c.jump = none ∧ c.bad = bad ∧
          ToneParity s t n bad i ∧ OnlyToneRead s t n bad toneShow) ∧
      (∀ i, playNext x p = some i → s.entryValid (s.owner b) (s.entry i) = false →
        ∃ t, exec (.toneDecisionPoint n bad) s = .next t ∧ t.tone n = { x with cont := some none } ∧
          (t.reg (b + 0x010)).getLsbD 5 = true ∧ ToneParity s t n bad i ∧
          OnlyToneRead s t n bad (0x010 :: 0x01C :: toneShow))) ∧
    (B < 2 * (s.count + 2) →
      (∀ c, x.cont = some (some c) →
        ∃ t, exec (.tonePlayBoundary n) s = .next t ∧ t.fld b Reg.Tone.CUR_ENTRY = c.e.idx % 2 ^ 16 ∧
          t.tone n = { x with play := some { c with jump := p.deferred }, cont := none, stop := (s.seq c.poster).halted } ∧
          OnlyTone s t n toneShow) ∧
      (x.cont = some none →
        ∃ t, exec (.tonePlayBoundary n) s = .next t ∧ (t.reg (b + 0x010)).getLsbD 0 = true ∧
          t.tone n = { x with play := none, cont := none, stop := false, norm := false } ∧
          t.fld b Reg.Tone.CUR_ENTRY = 0xFFFF ∧ OnlyTone s t n (0x010 :: toneShow))) ∧
    (2 * (s.count + 2) ≤ B - 4 → ∀ bad, exec (.toneDecisionPoint n bad) s = .next s ∧
      exec (.tonePlayBoundary n) s = .next s) ∧
    (p.e.quiet = false → p.e.strm = false → p.check < B → p.check - 2 < 2 * (s.count + 2) →
      let base := p.e.pbase + (p.check - p.start)
      (p.bad = false → (∀ i, i < 4 → base + i ∉ x.refetch) →
        ∃ t g, exec (.toneGranuleCheck n none) s = .next t ∧ (t.tone n).grans = x.grans ++ [g] ∧ g.start = p.check ∧
          g.stop = p.check + 4 ∧ g.recs = [s.record base, s.record (base + 1), s.record (base + 2), s.record (base + 3)] ∧
          (∃ q, (t.tone n).play = some q ∧ q.check = p.check + 4 ∧ q.e = p.e ∧ q.start = p.start ∧ q.left = p.left) ∧
          OnlyTone s t n (0x010 :: toneShow)) ∧
      (∀ i : Fin 4,
        ∃ t, exec (.toneGranuleCheck n (some i)) s = .next t ∧
          (∃ g, (t.tone n).grans = x.grans ++ [g] ∧ g.start = p.check ∧ g.stop = p.check + 4 ∧ g.recs = []) ∧
          t.bit b Reg.Tone.UR_CAUSE = !(s.ringUnread (s.fld b Reg.Tone.STRM_RING)) ∧
          base + i.val ∈ (t.tone n).refetch ∧ (t.reg (b + 0x010)).getLsbD 2 = true ∧
          t.fld b Reg.Tone.UNDERRUN_COUNT = min (s.fld b Reg.Tone.UNDERRUN_COUNT + 1) (2 ^ 16 - 1) ∧
          ToneParity s t n true (base + i.val) ∧
          Charged t p.tag Flag.UNDERRUN ∧ Charged t p.tag Flag.SPOILED ∧
          OnlyToneRead s t n true (0x060 :: toneShow)))) ∧
  (∀ (n : Fin 512) (s : State), Settled s → s.frozen = false →
    ∃ t, exec (.toneRefetchComplete n) s = .next t ∧ (∀ i, i ∈ (t.tone n).refetch ↔ i ∈ (s.tone n).refetch ∧ s.refetchOut (shadowAt (8 * (i % 2 ^ 22))) = true) ∧
      (∀ p, (s.tone n).play = some p → ∃ q, (t.tone n).play = some { p with bad := q } ∧
        (s.refetchOut (shadowAt (stOff (p.e.idx % 2 ^ 16))) = false → q = false)) ∧
      (t.tone n).grans = (s.tone n).grans ∧ (∀ m, m ≠ n.val → t.tone m = s.tone m) ∧ t = { s with tones := t.tones })

/-- Tone engine `n`'s refill cannot be made: it is off, its buffer has no room, no DRAM request is granted, its budget is used up,
or the ring holds no entry that it has not asked for (R181, R432, R436). -/
def NoRefill (s : State) (n : Fin 512) : Prop :=
  let b := Base.tone n
  let r := s.fld b Reg.Tone.STRM_RING
  s.enabled b = false ∧ (s.tone n).norm = false ∨
    1024 < (s.tone n).buf.length + 8 * ((s.ring r).asked.length + 1) ∨ s.dramShut = true ∨
    s.chargeRes (b + 0x024) (s.limitOf b) = none ∨
    s.strmValid n = true ∧ (s.ring r).moved = ((s.ring r).cons + (s.ring r).asked.length) % 2 ^ 32

/-- TONE_STREAM_REFILL asks for one ring entry within the budget; its eight records arrive when DRAM delivers it: An
enabled engine with room for eight records beside those it has asked for, a valid ring with an entry that it has not
asked for and a burst left in its budget asks for that entry: the buffer and the consumer index stay. Without room,
budget or such an entry nothing changes but PANIC, which is set while the level is below PANIC_LVL and the ring holds
an unread entry; an invalid ring is recorded once, as code 0x12, at a refill that the budget allows. When
DRAM_READ_COMPLETE brings the entry the engine waits for first, with a CRC that matches, its eight records, after the
SKIP_DEBT oldest are discarded, join the end of the stream buffer, the debt falls by the number discarded, and the
ring's consumer index moves past the entry. No other engine and no sequencer changes. (R33, R180, R181, R182, R183,
R184) -/
def Obligations.ToneStreamRefill : Prop :=
  (∀ (n : Fin 512) (s : State),
    let b := Base.tone n
    let x := s.tone n
    let r := s.fld b Reg.Tone.STRM_RING
    let i := ((s.ring r).cons + (s.ring r).asked.length) % 2 ^ 32
    let da := (s.ring r).devSlot i
    (s.enabled b = true → ¬ NoRefill s n → s.strmValid n = true →
      ∃ t, exec (.toneStreamRefill n) s = .next t ∧ (∀ m, t.tone m = s.tone m) ∧
        t.ring r = { s.ring r with asked := (s.ring r).asked ++ [(i, none)] } ∧
        (∃ q ∈ (t.dch (dramCh (da / 64 * 64))).reads ++ (t.dch (dramCh (da / 64 * 64))).inflight,
          q.use = .stream n r i ∧ q.port = 1 ∧ q.write = false ∧ q.data = rdBytes s.dram (da / 64 * 64) 64) ∧
        (∀ a, ¬ irqWrites a → ¬ memCtl a → a ≠ b + 0x010 → t.reg a = s.reg a) ∧
        t.seqs = s.seqs ∧ t.dram = s.dram ∧ t.bar2 = s.bar2 ∧ t.count = s.count) ∧
    (NoRefill s n →
      ∃ t, exec (.toneStreamRefill n) s = .next t ∧ t.tone n = x ∧
        (x.buf.length < s.fld b Reg.Tone.PANIC_LVL → s.strmValid n = true → s.ringUnread r = true →
          (t.reg (b + 0x010)).getLsbD 6 = true) ∧ OnlyTone s t n [0x010]) ∧
    (s.enabled b = true → ¬ NoRefill s n → s.strmValid n = false → x.strmSeen = false →
      ∃ t, exec (.toneStreamRefill n) s = .next t ∧ t.tone n = { x with strmSeen := true } ∧
        (t.reg (b + 0x010)).getLsbD 9 = true ∧ (s.bit b Reg.Hdr.VALID = false →
          t.fld b Reg.Hdr.CODE = 0x12 ∧ t.fld b Reg.Hdr.INFO = r) ∧ OnlyTone s t n [0x010, 0x01C])) ∧
  (∀ (n : Fin 512) (c : Fin 4) (q : DramReq) (qs : List DramReq) (r i : Nat) (rest : List (Nat × Option (List Byte))) (s : State),
    (s.dch c).inflight = q :: qs → (s.dch c).failing = none → q.use = .stream n r i →
    (s.ring r).asked = (i, none) :: rest → (∀ e ∈ rest, e.2 = none ∧ e.1 ≠ i) →
    let b := Base.tone n
    let debt := s.fld b Reg.Tone.SKIP_DEBT
    let recs := (List.range 8).map fun k => ofBytesLE ((q.data.drop (8 * k)).take 8)
    ∃ t, exec (.dramReadComplete c none false) s = .next t ∧
      t.tone n = { s.tone n with buf := (s.tone n).buf ++ recs.drop debt } ∧ t.fld b Reg.Tone.SKIP_DEBT = debt - 8 ∧
      t.ring r = { s.ring r with cons := (i + 1) % 2 ^ 32, asked := rest } ∧
      (∀ m, m ≠ n.val → t.tone m = s.tone m) ∧ t.seqs = s.seqs ∧ t.dram = s.dram ∧ t.bar2 = s.bar2 ∧ t.count = s.count)

/-- A write of the bytes of one unit of a window other than the control-store view: records, entries, instructions, data
words (R49, R186). -/
def OneUnit (o : BitVec 27) (bytes : List Byte) : Prop :=
  windowAt o.toNat ≠ .reserved ∧ (∀ a k, windowAt o.toNat ≠ .control a k) ∧
    bytes.length = (windowAt o.toNat).unit ∧ o.toNat % (windowAt o.toNat).unit = 0

/-- A BAR2 write by a requester is carried out at once, from the state `r`. -/
def Bar2Now (s r : State) (who : Req) : Prop :=
  match who with
  | .fn f => s.hostReaches f = true ∧ (s.fnSt f).held = [] ∧ s.bar2Open = true ∧ s.chargeHostWord f = some r
  | _ => s.shows who none = true ∧ r = s

/-- `m'` is `m` but for the bytes written from address `o` up. -/
def BytesPut (m m' : List Host.Cell) (o : Nat) (bs : List Byte) : Prop :=
  (∀ i, i < bs.length → rdByte m' (o + i) = bs.getD i 0) ∧ ∀ a, (a < o ∨ o + bs.length ≤ a) → rdByte m' a = rdByte m a

/-- BAR2_WRITE stores an inactive unit, with its shadow, and rejects an active one: For a write of one unit that
reaches the device at once and is permitted. An inactive unit is stored at its offset: exactly those bytes of BAR2
change, and in DRAM exactly the bytes of the shadow of a shadowed window. An active unit is discarded: BAR2 and DRAM
keep every byte, and for a function's write WA_COUNT advances and WA_OFFSET holds the offset of the unit. A write that
is not permitted leaves BAR2 and DRAM as they are. (R50, R169, R186, R187, R278, R307, R343) -/
def Obligations.Bar2WriteUnit : Prop :=
  ∀ (who : Req) (o : BitVec 27) (bytes : List Byte) (s r : State), Settled s → OneUnit o bytes → Bar2Now s r who →
    let w := windowAt o.toNat
    let blocked := r.unitActive (match who with
      | .dbgUser => true
      | .dbgSecure => true
      | _ => false) w || (r.frozen && w.shadowed)
    (s.windowDenied who w = none → blocked = false →
      ∃ t, exec (.bar2Write who o bytes) s = .next t ∧ BytesPut s.bar2 t.bar2 o.toNat bytes ∧
        (w.shadowed = true → BytesPut s.dram t.dram (0x0400_0000 + o.toNat) bytes) ∧
        (w.shadowed = false → t.dram = s.dram) ∧
        (∀ a, ¬ irqWrites a → ¬ memCtl a → t.reg a = s.reg a) ∧ t.tones = s.tones ∧ t.seqs = s.seqs ∧ t.rings = s.rings) ∧
    (s.windowDenied who w = none → blocked = true →
      ∃ t, exec (.bar2Write who o bytes) s = .next t ∧ t.bar2 = s.bar2 ∧ t.dram = s.dram ∧
        (∀ f, who = .fn f → t.fld (Base.fn f) Reg.Fn.WA_OFFSET = o.toNat ∧
          t.fld (Base.fn f) Reg.Fn.WA_COUNT = min (s.fld (Base.fn f) Reg.Fn.WA_COUNT + 1) (2 ^ 16 - 1) ∧
          (t.reg (Base.fn f + 0x010)).getLsbD 0 = true)) ∧
    (∀ b code, s.windowDenied who w = some (b, code) →
      ∃ t, exec (.bar2Write who o bytes) s = .next t ∧ t = { s with regs := t.regs, used := r.used } ∧
        ∀ a, a ≠ b + 0x01C → t.reg a = s.reg a)

/-- PARTITION_WRITE by function 0 or management firmware: A granted write of PM_BASE and PM_SIZE, or of ST_BASE and
ST_SIZE, of function f takes the new fields where no other function's partition overlaps and none of f's tone engines
and flux channels is active; a write that changes nothing leaves everything as it is; otherwise the fields keep their
values and ERR_CAP records code 0x14. No other register changes. (R169) -/
def Obligations.PartitionWriteEffect : Prop :=
  ∀ (who : Req) (f : Fin 64) (seg : Bool) (w : Word) (s r : State), Settled s → s.granted who .fn f = some r →
    (reqMgmt who || reqFn0 who) = true →
    let b := Base.fn f
    let lo := if seg then Reg.Fn.ST_BASE else Reg.Fn.PM_BASE
    let n := if seg then Reg.Fn.ST_SIZE else Reg.Fn.PM_SIZE
    let hits (g : Fin 64) : Prop := g ≠ f ∧ 0 < n.get w ∧ 0 < s.fld (Base.fn g) n ∧
      lo.get w < s.fld (Base.fn g) lo + s.fld (Base.fn g) n ∧ s.fld (Base.fn g) lo < lo.get w + n.get w
    let free := (∀ g, ¬ hits g) ∧ r.playersBusy f = false
    ∃ t, exec (.partitionWrite who f seg w) s = .next t ∧ t = { s with regs := t.regs, used := r.used } ∧
      (lo.get w = s.fld b lo ∧ n.get w = s.fld b n → ∀ a, t.reg a = s.reg a) ∧
      (free → t.fld b lo = lo.get w ∧ t.fld b n = n.get w ∧ ∀ a, a ≠ b + lo.off → t.reg a = s.reg a) ∧
      (¬ free → ¬ (lo.get w = s.fld b lo ∧ n.get w = s.fld b n) →
        (∀ a, a ≠ b + 0x01C → t.reg a = s.reg a) ∧ (s.bit b Reg.Hdr.VALID = false → t.fld b Reg.Hdr.CODE = 0x14))

/-! ### Converters and read-out tones (chapters 07 to 09) -/

/-- No frame boundary of the present count has still to be carried out (R206, R237). -/
def NoBoundaryDue (s : State) : Prop := s.run = false ∨ s.count % 256 ≠ 0 ∨ s.frameAt = some s.count

/-- OUT_ENABLE, OUT_NORMAL_DISABLE, OUT_DISABLE_NOW, NCO_FREQ_HI_WRITE and DAC_CLOCK_MISSING: Granted writes in the
page of output channel k. ENABLE lets a channel that is Off rise at the next boundaries where the device state and its
tile allow it, and otherwise waits in Off; it cancels a pending normal disable. A write of 0 makes the disable pending
in a rise, in Zero and in Emit; a disable that has taken effect runs on to Off. DISABLE_NOW clears ENABLE, ends the
play of every engine of the channel, and zeroes the output until Off; a missing DAC clock does the same, with
CLK_FAULT and code 0x12. A write of NCO_FREQ_HI makes the pair of frequency words pending. No other channel changes.
(R206, R208, R209, R210, R211, R212, R214) -/
def Obligations.OutputChannelSwitching : Prop :=
  (∀ (who : Req) (k : Fin 48) (s r : State), Settled s → s.granted who .out k = some r →
    let b := Base.out k
    let o := s.outCh k
    let only (t : State) (l : List Nat) : Prop :=
      (∀ m, m ≠ k.val → t.outCh m = s.outCh m) ∧ (∀ a, a ∉ l.map (b + ·) → t.reg a = s.reg a) ∧
        t = { s with regs := t.regs, outs := t.outs, used := r.used }
    (s.enabled b = false →
      ∃ t, exec (.outEnable who k) s = .next t ∧ t.enabled b = true ∧ only t [0x008, 0x05C] ∧
        (o.norm = true → t.outCh k = { o with norm := false }) ∧
        (o.norm = false → o.phase = .off → t.outCh k = { o with phase := if s.outMay k then .rising else .off }) ∧
        (o.norm = false → o.phase ≠ .off → t.outCh k = o)) ∧
    (s.enabled b = true →
      ∃ t, exec (.outNormalDisable who k) s = .next t ∧ t.enabled b = false ∧ only t [0x008, 0x05C] ∧
        (o.phase = .rising ∨ o.phase = .settling ∨ o.phase = .emit → t.outCh k = { o with norm := true }) ∧
        (o.phase = .off ∨ o.phase = .falling ∨ (∃ c, o.phase = .killed c) → t.outCh k = o)) ∧
    (∃ t, exec (.outDisableNow who k) s = .next t ∧ t.enabled b = false ∧
      (∀ n ∈ outTones k, (t.tone n).play = none ∧ (t.tone n).cont = none) ∧
      (∀ n, n ∉ outTones k → t.tone n = s.tone n) ∧ (∀ m, m ≠ k.val → t.outCh m = s.outCh m) ∧
      (t.outCh k).norm = false ∧
      (o.phase = .settling ∨ o.phase = .emit ∨ o.phase = .falling →
        (t.outCh k).phase = .killed (s.count + 1) ∧ t.bit b Reg.Hdr.DISABLE_NOW = true) ∧
      (o.phase = .off ∨ o.phase = .rising → (t.outCh k).phase = .off)) ∧
    (∀ data : Word, NoBoundaryDue s →
      ∃ t, exec (.ncoFreqHiWrite who k data) s = .next t ∧ t.fld b Reg.Out.NCO_FREQ_HI = data.toNat % 2 ^ 16 ∧
        t.outCh k = { o with
          pend := some s.count, freq := s.fld b Reg.Out.NCO_FREQ_LO + 2 ^ 32 * (data.toNat % 2 ^ 16) } ∧ only t [0x048])) ∧
  (∀ (k : Fin 48) (s : State),
    let b := Base.out k
    let ph := (s.outCh k).phase
    ∃ t, exec (.dacClockMissing k) s = .next t ∧ t.enabled b = false ∧ (t.outCh k).clkFault = true ∧
      (∀ n ∈ outTones k, (t.tone n).play = none) ∧ (∀ m, m ≠ k.val → t.outCh m = s.outCh m) ∧
      (ph = .settling ∨ ph = .emit ∨ ph = .falling → (t.outCh k).phase = .killed (s.count + 1)) ∧
      (ph = .off ∨ ph = .rising → (t.outCh k).phase = .off) ∧ (t.reg (b + 0x010)).getLsbD 2 = true ∧
      (s.bit b Reg.Hdr.VALID = false → t.fld b Reg.Hdr.CODE = 0x12) ∧ t.count = s.count ∧ t.dram = s.dram)

/-- ADC_ENABLE, ADC_NORMAL_DISABLE, ADC_DISABLE_NOW, DNCO_FREQ_HI_WRITE and ADC_CLOCK_MISSING: Granted writes in the
page of ADC a. ENABLE lets an ADC that is Off rise where the device state and its tile allow it; a write of 0 makes
the disable pending, or stops a rise at once. DISABLE_NOW clears the ENABLE of the ADC and of its 16 tones, whose
filters stop, and the ADC is Off a frame boundary at least 256 tc later; a missing ADC clock does the same with
CLK_FAULT and code 0x12. A write of DNCO_FREQ_HI makes the pair of frequency words pending. No other ADC changes.
(R237, R239, R243) -/
def Obligations.AdcSwitching : Prop :=
  (∀ (who : Req) (k : Fin 16) (s r : State), Settled s → s.granted who .adc k = some r →
    let b := Base.adc k
    let x := s.adcCh k
    let only (t : State) (l : List Nat) : Prop :=
      (∀ m, m ≠ k.val → t.adcCh m = s.adcCh m) ∧ (∀ a, a ∉ l.map (b + ·) → t.reg a = s.reg a) ∧
        t = { s with regs := t.regs, adcs := t.adcs, used := r.used }
    (s.enabled b = false →
      ∃ t, exec (.adcEnable who k) s = .next t ∧ t.enabled b = true ∧ only t [0x008, 0x058] ∧
        (x.phase = .off → t.adcCh k = { x with norm := false, phase := if s.adcMay k then .rising else .off }) ∧
        (x.phase ≠ .off → t.adcCh k = { x with norm := false })) ∧
    (s.enabled b = true →
      ∃ t, exec (.adcNormalDisable who k) s = .next t ∧ t.enabled b = false ∧ only t [0x008, 0x058] ∧
        (x.phase = .settling ∨ x.phase = .running → t.adcCh k = { x with norm := true }) ∧
        (x.phase = .rising → t.adcCh k = { x with phase := .off }) ∧ (x.phase = .off → t.adcCh k = x)) ∧
    (∃ t, exec (.adcDisableNow who k) s = .next t ∧ t.enabled b = false ∧ (t.adcCh k).norm = false ∧
      (∀ i : Fin 16, t.enabled (Base.rout (16 * k.val + i.val)) = false ∧ (t.rout (16 * k.val + i.val)).since = none) ∧
      (∀ m, m ≠ k.val → t.adcCh m = s.adcCh m) ∧
      (x.phase = .settling ∨ x.phase = .running →
        (t.adcCh k).phase = .killed (s.count + 1) ∧ t.bit b Reg.Hdr.DISABLE_NOW = true) ∧
      (x.phase = .off ∨ x.phase = .rising → (t.adcCh k).phase = .off)) ∧
    (∀ data : Word, NoBoundaryDue s →
      ∃ t, exec (.dncoFreqHiWrite who k data) s = .next t ∧ t.fld b Reg.Adc.DNCO_FREQ_HI = data.toNat % 2 ^ 16 ∧
        t.adcCh k = { x with
          pend := some s.count, freq := s.fld b Reg.Adc.DNCO_FREQ_LO + 2 ^ 32 * (data.toNat % 2 ^ 16) } ∧ only t [0x048])) ∧
  (∀ (k : Fin 16) (s : State),
    let b := Base.adc k
    let ph := (s.adcCh k).phase
    ∃ t, exec (.adcClockMissing k) s = .next t ∧ t.enabled b = false ∧ (t.adcCh k).clkFault = true ∧
      (∀ i : Fin 16, t.enabled (Base.rout (16 * k.val + i.val)) = false) ∧ (∀ m, m ≠ k.val → t.adcCh m = s.adcCh m) ∧
      (ph = .settling ∨ ph = .running → (t.adcCh k).phase = .killed (s.count + 1)) ∧
      (t.reg (b + 0x010)).getLsbD 2 = true ∧ (s.bit b Reg.Hdr.VALID = false → t.fld b Reg.Hdr.CODE = 0x12) ∧
      t.count = s.count ∧ t.dram = s.dram)

/-- Of the read-out tones only `n` changes, of the registers only those at the offsets of its page. -/
def OnlyRout (s r t : State) (n : Fin 256) (offs : List Nat) : Prop :=
  (∀ m, m ≠ n.val → t.rout m = s.rout m) ∧ (∀ a, a ∉ offs.map (Base.rout n + ·) → t.reg a = s.reg a) ∧
    t = { s with regs := t.regs, routs := t.routs, used := r.used }

/-- ROUT_ENABLE to ROUT_DISABLE_NOW, SWAP, coefficient and kernel accesses, RES_ACC_READ: Granted accesses in the page
of tone n. ENABLE is taken, the filters to be cleared at the next frame boundary, where LIMIT covers the FIR's demand
and FIR_GD is below FIR_TAPS, and cancels a pending disable; else it is refused with 0x12 or 0x13. A write of 0 is
pending until no open window, command or capture needs the tone. DISABLE_NOW stops the filters and ends open windows
with NO_DECISION and GAP. SWAP asks for the other bank, COEFFICIENT_WRITE writes the bank not in force unless SWAP is
pending, KDATA writes and reads weight KADDR and advances it, each write with its copy in the shadow, a read of
RES_ACC_I_LO latches the other result registers, and refetches free the words whose reads DRAM has delivered, but not
in a freeze. No other tone changes. (R37, R187, R231, R232, R235, R238, R240, R241, R242, R255, R261, R265) -/
def Obligations.ReadoutToneRegisters : Prop :=
  (∀ (who : Req) (n : Fin 256) (s r : State), Settled s → s.granted who .rout n = some r →
    let b := Base.rout n
    let x := s.rout n
    let taps := s.fld b Reg.Rout.FIR_TAPS
    let demand := taps * 2 ^ (8 - s.fld b Reg.Rout.K)
    let gd := s.fld b Reg.Rout.FIR_GD
    let addr := s.fld b Reg.Rout.KADDR
    let weightAt (t : State) (i : Nat) : Word := SMap.get (fun _ => 0#32) t.kernel (4096 * n.val + i)
    (s.enabled b = false →
      ∃ t, exec (.routEnable who n) s = .next t ∧
        (demand ≤ s.fld b Reg.Hdr.LIMIT → (taps = 0 ∨ gd < taps) →
          t.enabled b = true ∧ t.rout n = (if x.norm then { x with norm := false } else { x with arming := true }) ∧
            OnlyRout s r t n [0x008]) ∧
        (s.fld b Reg.Hdr.LIMIT < demand → s.bit b Reg.Hdr.VALID = false →
          t.enabled b = false ∧ t.fld b Reg.Hdr.CODE = 0x12 ∧ t.rout n = x ∧ OnlyRout s r t n [0x01C]) ∧
        (demand ≤ s.fld b Reg.Hdr.LIMIT → 0 < taps → taps ≤ gd → s.bit b Reg.Hdr.VALID = false →
          t.enabled b = false ∧ t.fld b Reg.Hdr.CODE = 0x13 ∧ t.rout n = x ∧ OnlyRout s r t n [0x01C])) ∧
    (s.enabled b = true →
      ∃ t, exec (.routNormalDisable who n) s = .next t ∧ t.enabled b = false ∧ t.rout n = { x with norm := true } ∧
        OnlyRout s r t n [0x008]) ∧
    (∃ t, exec (.routDisableNow who n) s = .next t ∧ t.enabled b = false ∧ (t.rout n).since = none ∧
      (t.rout n).norm = false ∧ (t.rout n).recomps = [] ∧ (t.rout n).wins.length = x.wins.length ∧
      (∀ w ∈ x.wins, x.winOpen w = true → ∃ v ∈ (t.rout n).wins, v.start = w.start ∧ v.nodec = true ∧
        v.ready = some (4 * (2 * s.count + 2))) ∧
      ((∃ w ∈ x.wins, x.winOpen w = true) → (t.reg (b + 0x010)).getLsbD 15 = true) ∧
      (∀ m, m ≠ n.val → t.rout m = s.rout m)) ∧
    (∀ data : Word, ∃ t, exec (.swap who n data) s = .next t ∧ t.bit b Reg.Rout.SWAP = true ∧
      t.fld b Reg.Rout.BANK = s.fld b Reg.Rout.BANK ∧ t.rout n = { x with swapAt := some (x.swapAt.getD s.count) } ∧
      OnlyRout s r t n [0x01C, 0x05C]) ∧
    (∀ (j : Fin 384) (data : Word), x.swapAt = none →
      ∃ t, exec (.coefficientWrite who n j data) s = .next t ∧
        SMap.get (fun _ => 0#32) t.fir (firKey n (1 - s.fld b Reg.Rout.BANK) j) = data ∧
        (∀ i, i ≠ firKey n (1 - s.fld b Reg.Rout.BANK) j →
          SMap.get (fun _ => 0#32) t.fir i = SMap.get (fun _ => 0#32) s.fir i) ∧
        BytesPut s.dram t.dram (shadowAt (firOff + 4 * firKey n (1 - s.fld b Reg.Rout.BANK) j)) (bytesLE data.toNat 4) ∧
        (∀ a, ¬ memCtl a → t.reg a = s.reg a) ∧
        t = { s with
          regs := t.regs, fir := t.fir, used := t.used, dram := t.dram, dchs := t.dchs, dwait := t.dwait }) ∧
    (∀ (j : Fin 384) (data : Word), x.swapAt ≠ none →
      ∃ t, exec (.coefficientWrite who n j data) s = .next t ∧ t.fir = s.fir ∧
        (t.reg (b + 0x010)).getLsbD 2 = true ∧
        (s.bit b Reg.Hdr.VALID = false → t.fld b Reg.Hdr.CODE = 0x15 ∧ t.fld b Reg.Hdr.INFO = j)) ∧
    (∀ data : Word, s.kernelActive n = false →
      ∃ t, exec (.kdataWrite who n data) s = .next t ∧ weightAt t addr = data ∧
        (∀ i, i ≠ 4096 * n.val + addr → SMap.get (fun _ => 0#32) t.kernel i = SMap.get (fun _ => 0#32) s.kernel i) ∧
        BytesPut s.dram t.dram (shadowAt (kernelOff + 4 * (4096 * n.val + addr))) (bytesLE data.toNat 4) ∧
        t.fld b Reg.Rout.KADDR = (addr + 1) % 4096 ∧ (∀ a, ¬ memCtl a → a ≠ b + 0x160 → t.reg a = s.reg a) ∧
        t = { s with
          regs := t.regs, kernel := t.kernel, used := t.used, dram := t.dram, dchs := t.dchs, dwait := t.dwait }) ∧
    (∃ t, exec (.kdataRead who n) s = .next t ∧ t.respVal = BitVec.ofNat 64 (weightAt s addr).toNat ∧
      t.fld b Reg.Rout.KADDR = (addr + 1) % 4096 ∧ (∀ a, a ≠ b + 0x160 → t.reg a = s.reg a) ∧
      t = { s with regs := t.regs, used := r.used, respVal := t.respVal }) ∧
    (∃ t, exec (.resAccRead who n) s = .next t ∧ t.respVal = BitVec.ofNat 64 (x.res.accI % 2 ^ 32) ∧
      t.reg (b + 0x144) = BitVec.ofNat 32 (x.res.accI / 2 ^ 32) ∧ t.reg (b + 0x148) = BitVec.ofNat 32 x.res.accQ ∧
      t.reg (b + 0x14C) = BitVec.ofNat 32 (x.res.accQ / 2 ^ 32) ∧ t.reg (b + 0x150) = BitVec.ofNat 32 x.res.stamp ∧
      t.reg (b + 0x154) = BitVec.ofNat 32 x.res.word ∧ (∀ a, a < b + 0x144 ∨ b + 0x158 ≤ a → t.reg a = s.reg a) ∧
      t = { s with regs := t.regs, used := r.used, respVal := t.respVal })) ∧
  (∀ (n : Fin 256) (s : State),
    let x := s.rout n
    (x.norm = true → (∀ w ∈ x.wins, x.winOpen w = false) → x.queue = [] → s.acqBusyOn 2 n = false →
      ∃ t, exec (.routDisabled n) s = .next t ∧ (t.reg (Base.rout n + 0x010)).getLsbD 5 = true ∧
        t.rout n = { x with
          norm := false, arming := false, since := none, stages := [], fir := [], outq := [], offered := [] } ∧
        (∀ m, m ≠ n.val → t.rout m = s.rout m) ∧ KeepsRegs s t [Base.rout n + 0x010]) ∧
    (Settled s → s.frozen = false →
      (∃ t, exec (.firRefetchComplete n) s = .next t ∧
        t.rout n = { x with
          firRefetch := x.firRefetch.filter fun k =>
            s.refetchOut (shadowAt (firOff + 4 * firKey n (k / 512) (k % 512))) } ∧
        (∀ m, m ≠ n.val → t.rout m = s.rout m) ∧ t = { s with routs := t.routs }) ∧
      (∃ t, exec (.kernelRefetchComplete n) s = .next t ∧
        t.rout n = { x with
          kerRefetch := x.kerRefetch.filter fun k =>
            s.refetchOut (shadowAt (kernelOff + 4 * (4096 * n.val + k))) } ∧
        (∀ m, m ≠ n.val → t.rout m = s.rout m) ∧ t = { s with routs := t.routs })) ∧
    (s.frozen = true → exec (.firRefetchComplete n) s = .next s ∧ exec (.kernelRefetchComplete n) s = .next s))

/-- The window that CLOSE at step `k`, or an OPEN at it, ends: the one opened last of those open at that step (R250,
R251). -/
def EndsWindow (ws vs : List Win) (k : Nat) : Prop :=
  let isOpen (w : Win) : Prop := w.cut = none ∧ w.start ≤ k ∧ k ≤ w.last
  vs.length = ws.length ∧ ∀ i : Nat, ∀ w v, ws[i]? = some w → vs[i]? = some v →
    ((isOpen w ∧ ∀ j, i < j → ∀ u, ws[j]? = some u → ¬ isOpen u) → v = { w with last := k - 1 }) ∧
      (¬ (isOpen w ∧ ∀ j, i < j → ∀ u, ws[j]? = some u → ¬ isOpen u) → v = w)

/-- OPEN, CLOSE and KERNEL of a read-out tone, WINDOW_VALUE and INTEGRATOR_RECOMPUTE: OPEN, due at the head of the
queue, ends the window open at its step and adds one of the length given, with the kernel start in force there; it is
refused, with a NO_DECISION to come, code 0x18 and CMD_FAULT, where the tone is disabled, K = 0 or the length is 0.
CLOSE ends the open window before its step; KERNEL sets KSTART. The window whose value is due first is taken out and
counted, and its accumulators and stamp are what the result registers latch. A granted recompute adds its product to
the window, whose value comes at most 2 ns later, or at most 4 ns after a grant in a later frame (a free value within
these bounds), or, when it fails a second time, makes it NO_DECISION with code 0x1A; both are counted. No other tone's
windows change. (R30, R35, R250, R251, R252, R253, R256, R260, R262, R263, R265) -/
def Obligations.IntegrationWindows : Prop :=
  ∀ (n : Fin 256) (s : State),
    let b := Base.rout n
    let x := s.rout n
    let others (t : State) : Prop := ∀ m, m ≠ n.val → (t.rout m).wins = (s.rout m).wins ∧ (t.rout m).queue = (s.rout m).queue
    (∀ c cs, HeadDue s x.queue c cs 0x0 →
      let len := c.arg % 2 ^ 16
      (s.enabled b = true → x.norm = false → s.fld b Reg.Rout.K ≠ 0 → len ≠ 0 →
        ∃ t w ws, exec (.routOpen n) s = .next t ∧ EndsWindow x.wins ws c.step ∧ (t.rout n).wins = ws ++ [w] ∧
          (t.rout n).queue = cs ∧ w.start = c.step ∧ w.last = c.step + len - 1 ∧ w.tag = c.tag ∧ w.poster = c.poster ∧
          w.kstart = x.kWas.at (s.fld b Reg.Rout.KSTART) c.step ∧ w.accI = 0 ∧ w.accQ = 0 ∧ w.nodec = false ∧
          w.cut = none ∧ others t ∧ KeepsRegs s t [] ∧ t.count = s.count) ∧
      (∀ why, (s.enabled b = false ∧ why = 1 ∨
          s.enabled b = true ∧ x.norm = false ∧ s.fld b Reg.Rout.K = 0 ∧ why = 2 ∨
          s.enabled b = true ∧ x.norm = false ∧ s.fld b Reg.Rout.K ≠ 0 ∧ len = 0 ∧ why = 3) →
        ∃ t w, exec (.routOpen n) s = .next t ∧ (t.rout n).wins = x.wins ++ [w] ∧ (t.rout n).queue = cs ∧
          w.nodec = true ∧ w.cut = some (if len = 0 then c.step else c.step + len - 1) ∧
          w.ready = some (4 * (c.step + 1)) ∧ (t.reg (b + 0x010)).getLsbD 16 = true ∧ Charged t c.tag Flag.CMD_FAULT ∧
          (s.bit b Reg.Hdr.VALID = false → t.fld b Reg.Hdr.CODE = 0x18 ∧ t.fld b Reg.Hdr.INFO = why) ∧ others t ∧
          KeepsRegs s t [b + 0x010, b + 0x01C])) ∧
    (∀ c cs, HeadDue s x.queue c cs 0x1 →
      ∃ t, exec (.routClose n) s = .next t ∧ EndsWindow x.wins (t.rout n).wins c.step ∧ (t.rout n).queue = cs ∧ others t ∧
        KeepsRegs s t []) ∧
    (∀ c cs, HeadDue s x.queue c cs 0x2 → x.kWas.step ≤ c.step →
      ∃ t, exec (.routKernel n) s = .next t ∧ t.fld b Reg.Rout.KSTART = c.arg % 4096 ∧ (t.rout n).queue = cs ∧
        (t.rout n).kWas.step = c.step ∧ others t ∧ KeepsRegs s t [b + 0x100]) ∧
    (∀ w r, w ∈ x.wins → w.due = some r → r < 8 * (s.count + 1) ∨ s.run = false → x.recomps = [] → w.nodec = false →
      (∀ v ∈ x.wins, v ≠ w → ∀ q, v.due = some q → r < q) →
      let d := s.discriminate n w.accI w.accQ
      ∃ t, exec (.windowValue n) s = .next t ∧ (t.rout n).wins = x.wins.erase w ∧
        (t.rout n).res = ⟨unsigned 40 w.accI, unsigned 40 w.accQ, w.stamp (s.fld b Reg.Rout.K) % 2 ^ 32,
          2 ^ 31 + 4 * d.2 + d.1⟩ ∧
        t.fld b Reg.Rout.WIN_COUNT = min (s.fld b Reg.Rout.WIN_COUNT + 1) (2 ^ 32 - 1) ∧
        (t.reg (b + 0x010)).getLsbD 8 = true ∧ others t ∧ t.count = s.count) ∧
    (∀ r rs, x.recomps = r :: rs → s.usedOf (Base.adc (n.val / 16) + 0x026) < 32 → s.recompFirst n r = true →
      (∃ t late, exec (.integratorRecompute n true) s = .next t ∧ (t.rout n).recomps = rs ∧
        (r.step / 512 = s.count / 256 → late ≤ 4) ∧ (r.step / 512 ≠ s.count / 256 → late ≤ 8) ∧
        (t.rout n).wins = (x.wins.map fun w =>
          if w.start = r.win ∧ w.cut = none then
            let v := w.add (conjMul r.x r.w)
            if r.step / 512 = s.count / 256 then { v with slip := late }
            else { v with ready := v.ready.map fun k => max k (8 * s.count + 4 + late) }
          else w) ∧
        t.fld b Reg.Rout.RECOMP_COUNT = min (s.fld b Reg.Rout.RECOMP_COUNT + 1) (2 ^ 16 - 1) ∧ others t ∧
        KeepsRegs s t [b + 0x010, b + 0x15C]) ∧
      (r.second = false → ∃ t, exec (.integratorRecompute n false) s = .next t ∧
        t.rout n = { x with recomps := { r with second := true } :: rs } ∧ others t ∧ KeepsRegs s t []) ∧
      (r.second = true → ∃ t, exec (.integratorRecompute n false) s = .next t ∧ (t.rout n).recomps = rs ∧
        (∀ w ∈ (t.rout n).wins, w.start = r.win → w.cut = none → w.nodec = true) ∧
        (s.bit b Reg.Hdr.VALID = false → t.fld b Reg.Hdr.CODE = 0x1A ∧ t.fld b Reg.Hdr.INFO = r.i % 2 ^ 24) ∧
        t.fld b Reg.Rout.RECOMP_COUNT = min (s.fld b Reg.Rout.RECOMP_COUNT + 1) (2 ^ 16 - 1) ∧
        (t.reg (b + 0x010)).getLsbD 14 = true ∧ others t ∧ KeepsRegs s t [b + 0x010, b + 0x01C, b + 0x15C]))

/-! ### DSP lanes (chapter 09) -/

/-- The instruction word at the pc of a lane, and the address of data register `i`, address register `j`, accumulator `k`. -/
def laneAt (s : State) (n : Fin 64) : Nat := rdLE s.bar2 (0x02C0_0000 + n.val * 0x4000 + 4 * s.fld (Base.lane n) Reg.Lane.PC) 4
def dAddr (n : Fin 64) (i : Nat) : Nat := Base.lane n + 0x100 + 4 * i
def aAddr (n : Fin 64) (j : Nat) : Nat := Base.lane n + 0x140 + 4 * j
def acAddrs (n : Fin 64) (k : Nat) : List Nat := [Base.lane n + 0x170 + 8 * k, Base.lane n + 0x174 + 8 * k]

/-- Lane `n` issues an instruction with opcode `o`: the word at its pc is no program fault and may be repeated where RPT
repeats it; no halt is asked for, and no single step is under way (R266, R272, R540). No interrupt edge waits. -/
def LaneIssues (s : State) (n : Fin 64) (o : Nat) : Prop :=
  Settled s ∧ s.laneReady n = true ∧ laneBad (laneAt s n) = false ∧ LaneW.op (laneAt s n) = o ∧
    (laneNoRpt o = true → (s.lane n).rpt = 0) ∧ (s.lane n).haltReq = false ∧ (s.lane n).stepping = false

/-- The pc after an instruction that does not branch: RPT holds it until the last issue (R271). -/
def laneFollow (s : State) (n : Fin 64) : Nat :=
  if 1 < (s.lane n).rpt then s.fld (Base.lane n) Reg.Lane.PC else (s.fld (Base.lane n) Reg.Lane.PC + 1) % 4096

/-- From `s` to `t` lane `n`, otherwise `x`, goes on at `pc`, where no breakpoint stands; besides the pc only the registers
listed change, and of the rest only what `t` is said to be. -/
def LaneRetires (s t : State) (n : Fin 64) (x : LaneSt) (pc : Nat) (except : List Nat) : Prop :=
  t.fld (Base.lane n) Reg.Lane.PC = pc ∧ t.lane n = { x with rpt := (s.lane n).rpt - 1 } ∧
    (∀ m, m ≠ n.val → t.lane m = s.lane m) ∧ ∀ a, a ≠ Base.lane n + 0x040 → a ∉ except → t.reg a = s.reg a

/-- NOP, MOVI, MOVH, ADD, ADDI, SUB, AND, OR, XOR, SHLI, SHRI, SARI and MUL of a lane: When lane n issues one of
these, d[D] takes the value of R271's table: sums modulo 2^32, shifts by IMM[4:0], the exact signed 16 by 16 bit
product. The lane goes on at the next instruction, or the same one while RPT repeats it, and no other register, no
other lane and nothing else of the state changes. (R270, R271, R274) -/
def Obligations.LaneArithmetic : Prop :=
  ∀ (n : Fin 64) (q : LaneFault) (s : State), q ≠ .imem → s.bpAt (256 + n.val) (laneFollow s n) = none →
    let w := laneAt s n
    let a : Word := BitVec.ofNat 32 (s.laneD n (LaneW.a w))
    let b : Word := BitVec.ofNat 32 (s.laneD n (LaneW.b w))
    let d := LaneW.d w
    let imm : Word := (BitVec.ofNat 18 w).signExtend 32
    let low (v : Word) : BitVec 16 := v.truncate 16
    let plain (t : State) (l : List Nat) : Prop :=
      LaneRetires s t n (s.lane n) (laneFollow s n) l ∧ t = { s with regs := t.regs, lanes := t.lanes }
    (LaneIssues s n 0x00 → ∃ t, exec (.laneNop n q) s = .next t ∧ plain t []) ∧
    (∀ e ∈ [(Instr.laneMovi n q, 0x01, imm),
        (.laneMovh n q, 0x02, BitVec.ofNat 16 w ++ low (BitVec.ofNat 32 (s.laneD n d))),
        (.laneAdd n q, 0x03, a + b), (.laneAddi n q, 0x04, a + imm), (.laneSub n q, 0x05, a - b),
        (.laneAnd n q, 0x06, a &&& b), (.laneOr n q, 0x07, a ||| b), (.laneXor n q, 0x08, a ^^^ b),
        (.laneShli n q, 0x09, a <<< (w % 32)), (.laneShri n q, 0x0A, a >>> (w % 32)),
        (.laneSari n q, 0x0B, a.sshiftRight (w % 32)),
        (.laneMul n q, 0x0C, (low a).signExtend 32 * (low b).signExtend 32)],
      LaneIssues s n e.2.1 →
        ∃ t, exec e.1 s = .next t ∧ t.laneD n d = e.2.2.toNat ∧ plain t [dAddr n d])

/-- The shift that normalises a value of `w` bits: the first that makes its two highest bits differ, `w - 1` for 0 and -1
(R275). -/
def NormCount (w : Nat) (v : Int) (k : Nat) : Prop :=
  let differ (i : Nat) : Prop := (BitVec.ofInt w (v * 2 ^ i)).getLsbD (w - 1) ≠ (BitVec.ofInt w (v * 2 ^ i)).getLsbD (w - 2)
  k ≤ w - 1 ∧ (∀ i, i < k → ¬ differ i) ∧ (v ≠ 0 → differ k) ∧ (v = 0 ∨ v = -1 → k = w - 1)

/-- NORM, EXP and EXPD of a lane: When lane n issues NORM, the accumulator is multiplied by 2^s, without loss, for the
first shift s that makes its bits 39 and 38 differ, s = 39 for 0 and for -1, and d[D] holds s; OV and every other
register keep their values. EXP writes the same count of an accumulator, and EXPD that of a data register of 32 bits,
into d[D], and neither changes its operand otherwise. The lane goes on at the next instruction; nothing else changes.
(R275) -/
def Obligations.LaneNormalise : Prop :=
  ∀ (n : Fin 64) (q : LaneFault) (s : State), q ≠ .imem → s.bpAt (256 + n.val) (laneFollow s n) = none →
    let w := laneAt s n
    let d := LaneW.d w
    let k := LaneW.ac w
    let plain (t : State) (l : List Nat) : Prop :=
      LaneRetires s t n (s.lane n) (laneFollow s n) l ∧ t = { s with regs := t.regs, lanes := t.lanes }
    (LaneIssues s n 0x2A →
      ∃ t, exec (.laneNorm n q) s = .next t ∧ NormCount 40 (s.laneAc n k) (t.laneD n d) ∧
        t.laneAc n k = s.laneAc n k * 2 ^ t.laneD n d ∧ plain t (dAddr n d :: acAddrs n k)) ∧
    (LaneIssues s n 0x2B →
      ∃ t, exec (.laneExp n q) s = .next t ∧ NormCount 40 (s.laneAc n k) (t.laneD n d) ∧ plain t [dAddr n d]) ∧
    (LaneIssues s n 0x2C →
      ∃ t, exec (.laneExpd n q) s = .next t ∧ NormCount 32 (signed 32 (s.laneD n (LaneW.a w))) (t.laneD n d) ∧
        plain t [dAddr n d])

/-- From `s` to `t` only registers, lanes and what the delivery of an interrupt may change are not the same. -/
def OnlyLanes (s t : State) : Prop :=
  t = { s with
    regs := t.regs, lanes := t.lanes, evchs := t.evchs, host := t.host, msix := t.msix, fns := t.fns, window := t.window
    edges := t.edges, errNow := t.errNow }

/-- What upd(a, i) of R273 makes of address register `j`. -/
def updated (s : State) (n : Fin 64) (j : Nat) (i : Int) : Int :=
  let base := s.fld (Base.lane n) Reg.Lane.HB (j % 4)
  let len := s.fld (Base.lane n) Reg.Lane.HL (j % 4)
  if j < 4 ∧ len ≠ 0 then (base + (s.laneA n j + i - base) % len) % 65536 else (s.laneA n j + i) % 65536

/-- LD, ST, LD2, ST2, AMOVI, AADD, AMOV and HSET of a lane: When lane n issues LD or LD2, d[D] (and d[D+1]) take the
words at a[AR] before the update, its low 2 (3) bits taken as 0; ST and ST2 store d[D] (and d[D+1]) there and change
no other byte. With U = 1, a[AR] becomes upd(a[AR], INC). AMOVI, AADD, AMOV and HSET set a[AR] to INC, to upd(a[AR],
INC), to d[D][15:0], and HB[AR] and HL[AR] from d[D]. A load that finds a parity error in a word delivers it as read,
sets DERR and records code 0x10 with that word's address, of LD2 the first that fails. Nothing else changes. (R270,
R271, R273, R278) -/
def Obligations.LaneMemory : Prop :=
  ∀ (n : Fin 64) (q : LaneFault) (s : State), q ≠ .imem → s.bpAt (256 + n.val) (laneFollow s n) = none →
    let w := laneAt s n
    let b := Base.lane n
    let d := LaneW.d w
    let j := LaneW.ar w
    let data := 0x0280_0000 + n.val * 0x1_0000
    let word (a : Nat) : Nat := rdLE s.bar2 (data + a) 4
    let bytes (i : Nat) : List Byte := (List.range 4).map fun k => BitVec.ofNat 8 (s.laneD n i / 256 ^ k)
    let a4 := s.laneA n j / 4 * 4
    let a8 := s.laneA n j / 8 * 8
    let next (t : State) : Prop := (t.laneA n j : Int) = if LaneW.u w then updated s n j (LaneW.inc w) else s.laneA n j
    let regs (t : State) (l : List Nat) : Prop :=
      LaneRetires s t n (s.lane n) (laneFollow s n) l ∧ t = { s with regs := t.regs, lanes := t.lanes }
    let parity (t : State) (a : Nat) (l : List Nat) : Prop :=
      t.bit b Reg.Lane.DERR = true ∧ (t.reg (b + 0x010)).getLsbD 8 = true ∧
        (s.bit b Reg.Hdr.VALID = false → t.fld b Reg.Hdr.CODE = 0x10 ∧ t.fld b Reg.Hdr.INFO = a) ∧
        KeepsRegs s t ([b + 0x040, b + 0x010, b + 0x01C, b + 0x048] ++ l) ∧ OnlyLanes s t ∧
        t.fld b Reg.Lane.PC = laneFollow s n ∧ t.lane n = { s.lane n with rpt := (s.lane n).rpt - 1 }
    (LaneIssues s n 0x10 →
      ∃ t, exec (.laneLd n q) s = .next t ∧ t.laneD n d = word a4 ∧ next t ∧
        (firstBad q = false → regs t [dAddr n d, aAddr n j]) ∧ (firstBad q = true → parity t a4 [dAddr n d, aAddr n j])) ∧
    (LaneIssues s n 0x12 →
      ∃ t, exec (.laneLd2 n q) s = .next t ∧ t.laneD n d = word a8 ∧ t.laneD n (d + 1) = word (a8 + 4) ∧ next t ∧
        (firstBad q = false → secondBad q = false → regs t [dAddr n d, dAddr n (d + 1), aAddr n j]) ∧
        (firstBad q = true → parity t a8 [dAddr n d, dAddr n (d + 1), aAddr n j]) ∧
        (firstBad q = false → secondBad q = true → parity t (a8 + 4) [dAddr n d, dAddr n (d + 1), aAddr n j])) ∧
    (∀ e ∈ [(Instr.laneSt n q, 0x11, a4, bytes d), (.laneSt2 n q, 0x13, a8, bytes d ++ bytes (d + 1))],
      LaneIssues s n e.2.1 →
        ∃ t, exec e.1 s = .next t ∧ BytesPut s.bar2 t.bar2 (data + e.2.2.1) e.2.2.2 ∧ next t ∧
          LaneRetires s t n (s.lane n) (laneFollow s n) [aAddr n j] ∧
          t = { s with regs := t.regs, lanes := t.lanes, bar2 := t.bar2 }) ∧
    (∀ e ∈ [(Instr.laneAmovi n q, 0x14, ((w % 65536 : Nat) : Int)), (.laneAadd n q, 0x15, updated s n j (LaneW.inc w)),
        (.laneAmov n q, 0x16, ((s.laneD n d % 65536 : Nat) : Int))],
      LaneIssues s n e.2.1 →
        ∃ t, exec e.1 s = .next t ∧ (t.laneA n j : Int) = e.2.2 ∧ regs t [aAddr n j]) ∧
    (LaneIssues s n 0x17 →
      ∃ t, exec (.laneHset n q) s = .next t ∧ t.fld b Reg.Lane.HB j = s.laneD n d % 65536 ∧
        t.fld b Reg.Lane.HL j = s.laneD n d / 65536 ∧ regs t [b + 0x160 + 4 * j])

/-- A complex number held in a register or word: I in [15:0], Q in [31:16], each signed (R271). -/
def partI (v : Nat) : Int := (BitVec.ofNat 16 v).toInt
def partQ (v : Nat) : Int := (BitVec.ofNat 16 (v / 65536)).toInt

/-- The parts of the product that CMAC forms of `x` and `y` (R271). -/
def macRe (w x y : Nat) : Int :=
  (if LaneW.n w then -1 else 1) * (if LaneW.c w then partI x * partI y + partQ x * partQ y else partI x * partI y - partQ x * partQ y)
def macIm (w x y : Nat) : Int :=
  (if LaneW.n w then -1 else 1) * (if LaneW.c w then partQ x * partI y - partI x * partQ y else partI x * partQ y + partQ x * partI y)

/-- Each accumulator listed received its addend modulo 2^40, with OV set where the exact sum lies outside 40 bits; OV of
the others keeps its value (R274). -/
def Accumulated (s t : State) (n : Fin 64) (l : List (Nat × Int)) : Prop :=
  let out (e : Nat × Int) : Bool := decide (s.laneAc n e.1 + e.2 < -2 ^ 39 ∨ 2 ^ 39 ≤ s.laneAc n e.1 + e.2)
  (∀ e ∈ l, (t.laneAc n e.1 - (s.laneAc n e.1 + e.2)) % 2 ^ 40 = 0) ∧
    (∀ k, k < 4 → (t.fld (Base.lane n) Reg.Lane.OV).testBit k =
      ((s.fld (Base.lane n) Reg.Lane.OV).testBit k || l.any fun e => e.1 == k && out e)) ∧
    (l.any out = true → (t.reg (Base.lane n + 0x010)).getLsbD 3 = true) ∧
    KeepsRegs s t ([Base.lane n + 0x040, Base.lane n + 0x010, Base.lane n + 0x048] ++ l.flatMap fun e => acAddrs n e.1)

/-- CMAC, CMUL, QMAC, QMUL, CMLD, ACLR, MOVA, PACK, ASET and CLOV of a lane, and a failing product: When lane n issues
a MAC, each accumulator receives its exact signed product, conjugated with C and negated with N, modulo 2^40, OV being
set where the sum lies outside 40 bits; the MUL forms and ACLR and ASET assign. CMLD reads its operands from data
memory and updates both address registers, once where they are one. MOVA and PACK divide by 2^SH towards minus
infinity and saturate, setting SAT. CLOV clears one OV bit. A MAC whose product fails its check leaves the
accumulators alone, records code 0x10, and waits; LANE_RECOMPUTE, granted, hands the sums over, or after a second
failure disables the lane with code 0x13; both count in RECOMP_COUNT. (R271, R273, R274, R276) -/
def Obligations.LaneAccumulators : Prop :=
  ∀ (n : Fin 64) (s : State),
    let w := laneAt s n
    let b := Base.lane n
    let d := LaneW.d w
    let x := s.laneD n (LaneW.a w)
    let y := s.laneD n (LaneW.b w)
    let x' := s.laneD n (LaneW.a w + 1)
    let y' := s.laneD n (LaneW.b w + 1)
    let p := 2 * LaneW.p w
    let k := LaneW.ac w
    let g : Int := if LaneW.n w then -1 else 1
    let pair : List (Nat × Int) := [(p, macRe w x y), (p + 1, macIm w x y)]
    let quad : List (Nat × Int) := [(0, g * (partI x * partI y)), (1, g * (partQ x * partQ y)),
      (2, g * (partI x' * partI y')), (3, g * (partQ x' * partQ y'))]
    let word (j : Nat) : Nat := rdLE s.bar2 (0x0280_0000 + n.val * 0x1_0000 + s.laneA n j / 4 * 4) 4
    let u := word (LaneW.xa w)
    let v := word (LaneW.ya w)
    let loaded : List (Nat × Int) := [(p, macRe w u v), (p + 1, macIm w u v)]
    let step (dir : Bool) : Int := if dir then -4 else 4
    let moved (t : State) : Prop := t.fld b Reg.Lane.PC = laneFollow s n ∧ t.lane n = { s.lane n with rpt := (s.lane n).rpt - 1 } ∧
      (∀ m, m ≠ n.val → t.lane m = s.lane m) ∧ OnlyLanes s t
    let regs (t : State) (l : List Nat) : Prop :=
      LaneRetires s t n (s.lane n) (laneFollow s n) l ∧ t = { s with regs := t.regs, lanes := t.lanes }
    let sat (i : Nat) (r : Nat) : Int := max (-2 ^ (r - 1)) (min (2 ^ (r - 1) - 1) (s.laneAc n i / 2 ^ LaneW.sh w))
    let cut (i r : Nat) : Bool := decide (s.laneAc n i / 2 ^ LaneW.sh w ≠ sat i r)
    (s.bpAt (256 + n.val) (laneFollow s n) = none →
      (∀ e ∈ [(Instr.laneCmac n .ok, 0x20, pair), (.laneQmac n .ok, 0x22, quad)], LaneIssues s n e.2.1 →
        ∃ t, exec e.1 s = .next t ∧ Accumulated s t n e.2.2 ∧ moved t) ∧
      (∀ e ∈ [(Instr.laneCmul n .ok, 0x21, pair), (.laneQmul n .ok, 0x23, quad)], LaneIssues s n e.2.1 →
        ∃ t, exec e.1 s = .next t ∧ (∀ a ∈ e.2.2, t.laneAc n a.1 = a.2) ∧
          regs t (e.2.2.flatMap fun a => acAddrs n a.1)) ∧
      (LaneIssues s n 0x24 →
        ∃ t, exec (.laneCmld n .ok) s = .next t ∧
          (∀ a ∈ loaded, (t.laneAc n a.1 - (s.laneAc n a.1 + a.2)) % 2 ^ 40 = 0) ∧ moved t ∧
          (t.laneA n (LaneW.xa w) : Int) = updated s n (LaneW.xa w) (step (LaneW.dx w)) ∧
          (LaneW.ya w ≠ LaneW.xa w → (t.laneA n (LaneW.ya w) : Int) = updated s n (LaneW.ya w) (step (LaneW.dy w))) ∧
          KeepsRegs s t ([b + 0x040, b + 0x010, b + 0x048, aAddr n (LaneW.xa w), aAddr n (LaneW.ya w)] ++
            acAddrs n p ++ acAddrs n (p + 1))) ∧
      (LaneIssues s n 0x25 →
        ∃ t, exec (.laneAclr n .ok) s = .next t ∧ t.laneAc n p = 0 ∧ t.laneAc n (p + 1) = 0 ∧
          regs t (acAddrs n p ++ acAddrs n (p + 1))) ∧
      (LaneIssues s n 0x28 →
        ∃ t, exec (.laneMova n .ok) s = .next t ∧ signed 32 (t.laneD n d) = sat k 32 ∧
          t.bit b Reg.Lane.SAT = (s.bit b Reg.Lane.SAT || cut k 32) ∧ moved t ∧
          KeepsRegs s t [b + 0x040, b + 0x010, b + 0x048, dAddr n d]) ∧
      (LaneIssues s n 0x29 →
        ∃ t, exec (.lanePack n .ok) s = .next t ∧ partI (t.laneD n d) = sat k 16 ∧ partQ (t.laneD n d) = sat (k + 1) 16 ∧
          t.bit b Reg.Lane.SAT = (s.bit b Reg.Lane.SAT || cut k 16 || cut (k + 1) 16) ∧ moved t ∧
          KeepsRegs s t [b + 0x040, b + 0x010, b + 0x048, dAddr n d]) ∧
      (LaneIssues s n 0x2D →
        ∃ t, exec (.laneAset n .ok) s = .next t ∧ (t.laneAc n k - signed 32 x * 2 ^ LaneW.sh w) % 2 ^ 40 = 0 ∧
          regs t (acAddrs n k)) ∧
      (LaneIssues s n 0x2E →
        ∃ t, exec (.laneClov n .ok) s = .next t ∧
          (∀ i, (t.fld b Reg.Lane.OV).testBit i = ((s.fld b Reg.Lane.OV).testBit i && i != k)) ∧
          t.bit b Reg.Lane.SAT = s.bit b Reg.Lane.SAT ∧ t.bit b Reg.Lane.DERR = s.bit b Reg.Lane.DERR ∧ regs t [b + 0x048])) ∧
    (∀ e ∈ [(Instr.laneCmac n .mac, 0x20, pair), (.laneQmac n .mac, 0x22, quad)], LaneIssues s n e.2.1 →
      ∃ t, exec e.1 s = .next t ∧
        t.lane n = { s.lane n with wait := .recompute (e.2.2.map fun a => (a.1, true, a.2)) false } ∧
        (s.bit b Reg.Hdr.VALID = false → t.fld b Reg.Hdr.CODE = 0x10) ∧
        (∀ a, a ≠ b + 0x01C → t.reg a = s.reg a) ∧ t = { s with regs := t.regs, lanes := t.lanes }) ∧
    (∀ (l : List (Nat × Int)) (again : Bool), (s.lane n).wait = .recompute (l.map fun a => (a.1, true, a.2)) again → (l.map (·.1)).Nodup → (∀ a ∈ l, a.1 < 4) →
      s.usedOf (b + 0x024) < s.limitOf b → Settled s → (s.lane n).haltReq = false → (s.lane n).stepping = false →
      (s.bpAt (256 + n.val) (laneFollow s n) = none →
        ∃ t, exec (.laneRecompute n true) s = .next t ∧ (t.lane n).wait = .none ∧
          (∀ a ∈ l, (t.laneAc n a.1 - (s.laneAc n a.1 + a.2)) % 2 ^ 40 = 0) ∧ t.fld b Reg.Lane.PC = laneFollow s n ∧
          t.fld b Reg.Lane.RECOMP_COUNT = min (s.fld b Reg.Lane.RECOMP_COUNT + 1) (2 ^ 16 - 1) ∧
          t.usedOf (b + 0x024) = s.usedOf (b + 0x024) + 1) ∧
      (again = false →
        ∃ t, exec (.laneRecompute n false) s = .next t ∧
          t.lane n = { s.lane n with wait := .recompute (l.map fun a => (a.1, true, a.2)) true } ∧
          t.usedOf (b + 0x024) = s.usedOf (b + 0x024) + 1 ∧ ∀ a, t.reg a = s.reg a) ∧
      (again = true →
        ∃ t, exec (.laneRecompute n false) s = .next t ∧ t.enabled b = false ∧ (t.lane n).issuing = false ∧
          (t.lane n).wait = .none ∧
          t.fld b Reg.Lane.RECOMP_COUNT = min (s.fld b Reg.Lane.RECOMP_COUNT + 1) (2 ^ 16 - 1) ∧
          (s.bit b Reg.Hdr.VALID = false →
            t.fld b Reg.Hdr.CODE = 0x13 ∧ t.fld b Reg.Hdr.INFO = s.fld b Reg.Lane.PC) ∧
          ∀ i, t.laneD n i = s.laneD n i))

/-- Branches, DBNZ, CALL, RET, RPT, WAITI, HALT, program faults and re-fetch of a lane: When lane n issues a branch,
it goes on at TARGET where its condition on d[A] as a signed number holds (DBNZ first lowers d[A]) and at the next
instruction otherwise; CALL pushes the next address on a stack of fewer than four entries and RET takes it; RPT makes
the next instruction issue IMM times. WAITI goes on when IMM units are there and waits otherwise, WAITI_RELEASE ending
the wait. HALT clears ENABLE and sets STOPPED. A bad word is a program fault: the lane is disabled at once, with code
0x11 and the pc. A parity error makes the lane wait, with code 0x10, until the re-fetch, whose DRAM read must be back,
completes. (R266, R270, R271, R272, R278, R279, R540) -/
def Obligations.LaneFlow : Prop :=
  ∀ (n : Fin 64) (q : LaneFault) (s : State),
    let w := laneAt s n
    let b := Base.lane n
    let x := s.lane n
    let pc := s.fld b Reg.Lane.PC
    let v := signed 32 (s.laneD n (LaneW.a w))
    let c := LaneW.a w % 4
    let avail : Nat := (s.fld b Reg.Lane.IWCNT c + 2 ^ 32 - s.fld b Reg.Lane.ITAKE c) % 2 ^ 32
    let free (p : Nat) : Prop := s.bpAt (256 + n.val) p = none
    let plain (t : State) (y : LaneSt) (p : Nat) (l : List Nat) : Prop :=
      LaneRetires s t n y p l ∧ t = { s with regs := t.regs, lanes := t.lanes }
    let follow := (pc + 1) % 4096
    (q ≠ .imem →
      (∀ e ∈ [(Instr.laneJmp n q, 0x30, true), (.laneBeqz n q, 0x31, decide (v = 0)), (.laneBnez n q, 0x32, decide (v ≠ 0)),
          (.laneBltz n q, 0x33, decide (v < 0)), (.laneBgez n q, 0x34, decide (0 ≤ v))],
        let next := if e.2.2 then LaneW.target w else follow
        LaneIssues s n e.2.1 → free next → ∃ t, exec e.1 s = .next t ∧ plain t x next []) ∧
      (∀ next, LaneIssues s n 0x35 → next = (if v = 1 then follow else LaneW.target w) → free next →
        ∃ t, exec (.laneDbnz n q) s = .next t ∧ (t.laneD n (LaneW.a w) + 1) % 2 ^ 32 = s.laneD n (LaneW.a w) ∧
          t.laneD n (LaneW.a w) < 2 ^ 32 ∧ plain t x next [dAddr n (LaneW.a w)]) ∧
      (LaneIssues s n 0x36 → x.stack.length < 4 → free (LaneW.target w) →
        ∃ t, exec (.laneCall n q) s = .next t ∧ plain t { x with stack := follow :: x.stack } (LaneW.target w) []) ∧
      (∀ ra l, LaneIssues s n 0x37 → x.stack = ra :: l → ra < 4096 → free ra →
        ∃ t, exec (.laneRet n q) s = .next t ∧ plain t { x with stack := l } ra []) ∧
      (LaneIssues s n 0x38 → 1 ≤ LaneW.imm w → LaneW.imm w ≤ 4095 → free follow →
        ∃ t, exec (.laneRpt n q) s = .next t ∧ t.fld b Reg.Lane.PC = follow ∧
          t.lane n = { x with rpt := (LaneW.imm w).toNat } ∧ (∀ m, m ≠ n.val → t.lane m = s.lane m) ∧
          (∀ a, a ≠ b + 0x040 → t.reg a = s.reg a) ∧ t = { s with regs := t.regs, lanes := t.lanes }) ∧
      (LaneIssues s n 0x39 → LaneW.imm w ≤ (avail : Int) → free follow →
        ∃ t, exec (.laneWaiti n q) s = .next t ∧ plain t x follow []) ∧
      (LaneIssues s n 0x39 → avail < LaneW.imm w → x.norm = false →
        ∃ t, exec (.laneWaiti n q) s = .next t ∧ t.lane n = { x with wait := .waiti c (LaneW.imm w).toNat } ∧
          (∀ m, m ≠ n.val → t.lane m = s.lane m) ∧ t = { s with lanes := t.lanes }) ∧
      (LaneIssues s n 0x39 → avail < LaneW.imm w → x.norm = true →
        ∃ t, exec (.laneWaiti n q) s = .next t ∧ t.enabled b = false ∧ (t.lane n).issuing = false ∧
          (t.lane n).wait = .none ∧ (∀ a, a ≠ b + 0x008 → t.reg a = s.reg a) ∧
          t = { s with regs := t.regs, lanes := t.lanes }) ∧
      (LaneIssues s n 0x3F →
        ∃ t, exec (.laneHalt n q) s = .next t ∧ t.enabled b = false ∧ (t.lane n).issuing = false ∧
          t.fld b Reg.Lane.PC = follow ∧ (t.reg (b + 0x010)).getLsbD 0 = true ∧ (t.lane n).words = x.words ∧
          (t.lane n).stack = x.stack ∧ KeepsRegs s t [b + 0x008, b + 0x010, b + 0x040] ∧ OnlyLanes s t) ∧
      (Settled s → s.laneReady n = true → laneBad w = true →
        ∀ i ∈ [Instr.laneNop n q, .laneAdd n q, .laneLd n q, .laneCmac n q, .laneJmp n q, .laneDec n q, .laneHalt n q],
          ∃ t, exec i s = .next t ∧ t.enabled b = false ∧ (t.lane n).issuing = false ∧ (t.lane n).words = [] ∧
            (t.lane n).stack = x.stack ∧ (t.reg (b + 0x010)).getLsbD 4 = true ∧
            (s.bit b Reg.Hdr.VALID = false → t.fld b Reg.Hdr.CODE = 0x11 ∧ t.fld b Reg.Hdr.INFO = pc) ∧
            t.fld b Reg.Lane.TRUNC_COUNT = min (s.fld b Reg.Lane.TRUNC_COUNT + x.words.length) (2 ^ 16 - 1) ∧
            KeepsRegs s t [b + 0x008, b + 0x010, b + 0x01C, b + 0x0A8] ∧ OnlyLanes s t)) ∧
    (∀ k i : Nat, x.wait = .waiti k i → s.laneMay = true → i ≤ (s.fld b Reg.Lane.IWCNT k + 2 ^ 32 - s.fld b Reg.Lane.ITAKE k) % 2 ^ 32 →
      Settled s → x.haltReq = false → x.stepping = false → x.rpt = 0 → free follow →
      ∃ t, exec (.waitiRelease n) s = .next t ∧ plain t { x with wait := .none } follow []) ∧
    (Settled s → s.laneReady n = true →
      ∃ t, exec (.laneAdd n .imem) s = .next t ∧ t.lane n = { x with wait := .refetch } ∧
        (t.reg (b + 0x010)).getLsbD 5 = true ∧
        (s.bit b Reg.Hdr.VALID = false → t.fld b Reg.Hdr.CODE = 0x10 ∧ t.fld b Reg.Hdr.INFO = pc) ∧
        (∀ i, t.laneD n i = s.laneD n i) ∧ t.fld b Reg.Lane.PC = pc ∧ t.bar2 = s.bar2) ∧
    (x.wait = .refetch → s.frozen = false →
      s.refetchOut (0x0400_0000 + 0x02C0_0000 + n.val * 0x4000 + 4 * pc) = false →
      Settled s → x.haltReq = false → x.stepping = false → free pc →
      ∃ t, exec (.laneImemRefetchComplete n) s = .next t ∧ t.lane n = { x with wait := .none } ∧
        (∀ m, m ≠ n.val → t.lane m = s.lane m) ∧ t = { s with lanes := t.lanes })

/-- INPUT_UNIT, TAKE, STMP, DEC, OUTW and EVT of a lane; LANE_ENABLE, LANE_NORMAL_DISABLE and LANE_DISABLE_NOW: A unit
offered to a channel is written at its place in the hoop region and counted, taking the place of the oldest unit when
the region is full, with OVR_COUNT and OVERRUN. TAKE consumes min(IMM, units there); STMP reads the stamp of the
oldest, unit number ITAKE. DEC writes every slot whose source the lane is, unless it holds a later stamp. OUTW appends
d[A], and after the 14th word or with FL hands the lane record to the CAPTURE ring, or records code 0x15 where the
ring is not valid. EVT publishes on its channel. ENABLE starts the lane at START_PC with an empty stack, a write of 0
is pending until a WAITI whose units are not there, DISABLE_NOW stops the lane and discards a partial record. (R52,
R266, R267, R268, R271, R277, R279, R286, R446) -/
def Obligations.LaneInputsAndOutputs : Prop :=
  (∀ (n : Fin 64) (c : Fin 4) (s : State) (u : LaneUnit),
    let b := Base.lane n
    let x := s.lane n
    let size := if s.fld b Reg.Lane.KIND c = 1 then 4 else 16
    let cap := s.fld b Reg.Lane.IL c / size
    let wr := s.fld b Reg.Lane.IWCNT c
    let tk := s.fld b Reg.Lane.ITAKE c
    let held := (wr + 2 ^ 32 - tk) % 2 ^ 32
    let full := decide (cap ≤ held)
    (x.inbox.find? fun e => e.1 == c.val) = some (c.val, u) → s.fld b Reg.Lane.KIND c ≠ 0 → u.words.length * 4 = size →
      0 < cap → s.fld b Reg.Lane.IB c + s.fld b Reg.Lane.IL c ≤ 65536 →
      ∃ t, exec (.laneInputUnit n c) s = .next t ∧ (t.lane n).inbox = x.inbox.erase (c.val, u) ∧
        BytesPut s.bar2 t.bar2 (0x0280_0000 + n.val * 0x1_0000 + s.fld b Reg.Lane.IB c + wr % cap * size)
          (u.words.flatMap fun v => (List.range 4).map fun k => BitVec.ofNat 8 (v / 256 ^ k)) ∧
        (t.lane n).stamps.head? = some (c.val, wr, u.stamp) ∧
        (∀ e ∈ x.stamps, e.1 ≠ c.val → e ∈ (t.lane n).stamps) ∧
        t.fld b Reg.Lane.IWCNT c = (wr + 1) % 2 ^ 32 ∧ t.fld b Reg.Lane.ITAKE c = (tk + full.toNat) % 2 ^ 32 ∧
        t.fld b Reg.Lane.OVR_COUNT = min (s.fld b Reg.Lane.OVR_COUNT + full.toNat) (2 ^ 16 - 1) ∧
        (full = true → (t.lane n).overrun = true ∧ (t.reg (b + 0x010)).getLsbD 1 = true) ∧
        (∀ m, m ≠ n.val → t.lane m = s.lane m) ∧
        KeepsRegs s t [b + 0x010, b + 0x068 + 16 * c.val, b + 0x06C + 16 * c.val, b + 0x0A0]) ∧
  (∀ (n : Fin 64) (q : LaneFault) (s : State), q ≠ .imem → s.bpAt (256 + n.val) (laneFollow s n) = none →
    let w := laneAt s n
    let b := Base.lane n
    let x := s.lane n
    let y := { x with rpt := x.rpt - 1 }
    let c := LaneW.a w % 4
    let d := LaneW.d w
    let v := s.laneD n (LaneW.a w)
    let stamp := s.laneD n (LaneW.b w)
    let avail : Nat := (s.fld b Reg.Lane.IWCNT c + 2 ^ 32 - s.fld b Reg.Lane.ITAKE c) % 2 ^ 32
    let got : Int := min (LaneW.imm w) avail
    let tk := s.fld b Reg.Lane.ITAKE c
    (LaneIssues s n 0x3A →
      ∃ t, exec (.laneTake n q) s = .next t ∧ (t.fld b Reg.Lane.ITAKE c : Int) = (tk + got) % 2 ^ 32 ∧
        t.lane n = y ∧ t.fld b Reg.Lane.PC = laneFollow s n ∧ (∀ m, m ≠ n.val → t.lane m = s.lane m) ∧
        (∀ a, a ≠ b + 0x040 → a ≠ b + 0x06C + 16 * c → t.reg a = s.reg a) ∧
        t = { s with regs := t.regs, lanes := t.lanes }) ∧
    (∀ e, LaneIssues s n 0x3B → avail ≠ 0 → (x.stamps.find? fun e => e.1 == c && e.2.1 == tk) = some (c, tk, e) →
      ∃ t, exec (.laneStmp n q) s = .next t ∧ t.laneD n d = e % 2 ^ 32 ∧
        LaneRetires s t n x (laneFollow s n) [dAddr n d] ∧ t = { s with regs := t.regs, lanes := t.lanes }) ∧
    (LaneIssues s n 0x3C →
      let none' := v.testBit 30 || s.bit b Reg.Lane.DERR
      ∃ t, exec (.laneDec n q) s = .next t ∧ t.fld b Reg.Lane.PC = laneFollow s n ∧ t.lane n = y ∧
        ∀ k : Fin 256,
          let fed := s.fld Base.dec Reg.Dec.SRC_KIND k = 2 ∧ s.fld Base.dec Reg.Dec.SRC_NUM k = n.val
          let late := (s.slot k).cond ≠ .empty ∧ (s.slot k).cond ≠ .absent ∧
            2 ^ 31 ≤ (stamp + 2 ^ 32 - (s.slot k).stamp % 2 ^ 32) % 2 ^ 32
          (fed ∧ ¬ late → (t.slot k).cond = (if none' then .nodec else .value (v % 4) (v / 4 % 256)) ∧
            (t.slot k).stamp = stamp) ∧
          (¬ fed ∨ late → t.slot k = s.slot k)) ∧
    (LaneIssues s n 0x3D → LaneW.fl w = false → x.words.length + 1 < 14 →
      ∃ t, exec (.laneOutw n q) s = .next t ∧ LaneRetires s t n { x with words := x.words ++ [v] } (laneFollow s n) [] ∧
        t = { s with regs := t.regs, lanes := t.lanes }) ∧
    (LaneIssues s n 0x3D → (LaneW.fl w = true ∨ x.words.length + 1 = 14) → x.words.length < 14 →
      let r := s.fld b Reg.Lane.OUT_RING
      let flags := (s.bit b Reg.Lane.DERR).toNat + 2 * (s.bit b Reg.Lane.SAT).toNat +
        4 * (decide (s.fld b Reg.Lane.OV ≠ 0)).toNat + 8 * x.overrun.toNat
      let le (k v : Nat) : List Byte := (List.range k).map fun i => BitVec.ofNat 8 (v / 256 ^ i)
      let entry : List Byte := le 2 0x4C41 ++ le 1 n ++ le 1 flags ++ le 2 (x.words.length + 1) ++ le 2 x.recSeq ++
        (x.words ++ [v]).flatMap (le 4) ++ List.replicate (4 * (13 - x.words.length)) 0
      let owned := (s.ring r).en = true ∧ (s.ring r).kind = 4 ∧ s.ringFn r = some (s.owner b)
      ∃ t, exec (.laneOutw n q) s = .next t ∧
        t.lane n = { y with words := [], recSeq := (x.recSeq + 1) % 65536, overrun := false } ∧
        t.fld b Reg.Lane.PC = laneFollow s n ∧
        (owned → t.dram = (s.ringPush r entry).dram ∧ t.rings = (s.ringPush r entry).rings ∧
          t.dwait = (s.ringPush r entry).dwait ∧ t.reg (b + 0x01C) = s.reg (b + 0x01C)) ∧
        (¬ owned → t.dram = s.dram ∧ t.rings = s.rings ∧ (s.bit b Reg.Hdr.VALID = false →
          t.fld b Reg.Hdr.CODE = 0x15 ∧ t.fld b Reg.Hdr.INFO = r))) ∧
    (LaneIssues s n 0x3E →
      let k := w % 256
      let g := Base.evg (k / 8)
      s.owner g = s.owner b →
        ∃ t, exec (.laneEvt n q) s = .next t ∧ t.fld b Reg.Lane.PC = laneFollow s n ∧ t.lane n = y ∧
          (s.evOff k = true → t.fld g Reg.Evg.DIS_DROP_COUNT = min (s.fld g Reg.Evg.DIS_DROP_COUNT + 1) (2 ^ 16 - 1)) ∧
          (s.evOff k = false → (s.evch k).busy = false → (t.evch k).busy = true ∧ (t.evch k).fires = (s.evch k).fires + 1 ∧
            t.fld g Reg.Evg.FIRE_COUNT (k % 8) = min (s.fld g Reg.Evg.FIRE_COUNT (k % 8) + 1) (2 ^ 32 - 1)))) ∧
  (∀ (who : Req) (n : Fin 64) (s r : State), Settled s → s.granted who .lane n = some r →
    let b := Base.lane n
    let x := s.lane n
    let units (k : Nat) : Nat := (s.fld b Reg.Lane.IWCNT k + 2 ^ 32 - s.fld b Reg.Lane.ITAKE k) % 2 ^ 32
    let page (t : State) (l : List Nat) : Prop :=
      (∀ m, m ≠ n.val → t.lane m = s.lane m) ∧ (∀ a, a ∉ l.map (b + ·) → t.reg a = s.reg a) ∧
        t = { s with regs := t.regs, lanes := t.lanes, used := r.used }
    (s.enabled b = false →
      ∃ t, exec (.laneEnable who n) s = .next t ∧ t.enabled b = true ∧
        t.fld b Reg.Lane.PC = s.fld b Reg.Lane.START_PC ∧
        t.lane n = { x with issuing := true, norm := false, wait := .none, rpt := 0, stack := [] } ∧ page t [0x008, 0x040]) ∧
    (s.enabled b = true →
      ∃ t, exec (.laneNormalDisable who n) s = .next t ∧ t.enabled b = false ∧ page t [0x008] ∧
        (s.laneMay = true → (∀ k i, x.wait = .waiti k i → i ≤ units k) → t.lane n = { x with norm := true }) ∧
        (s.laneMay = false ∨ (∃ k i, x.wait = .waiti k i ∧ units k < i) →
          (t.lane n).issuing = false ∧ (t.lane n).wait = .none ∧ (t.lane n).words = x.words)) ∧
    (∃ t, exec (.laneDisableNow who n) s = .next t ∧ t.enabled b = false ∧ (t.lane n).issuing = false ∧
      (t.lane n).wait = .none ∧ (t.lane n).words = [] ∧ (t.lane n).stack = x.stack ∧
      t.fld b Reg.Lane.TRUNC_COUNT = min (s.fld b Reg.Lane.TRUNC_COUNT + x.words.length) (2 ^ 16 - 1) ∧
      (x.words ≠ [] → (t.reg (b + 0x010)).getLsbD 7 = true) ∧ (∀ m, m ≠ n.val → t.lane m = s.lane m) ∧
      KeepsRegs s t [b + 0x008, b + 0x010, b + 0x0A8]))

/-! ### The syndrome unit (chapter 10) -/

/-- The XOR of the masks that a list holds for frame word `w` (R303). -/
def maskOf (l : List (Nat × Word)) (w : Nat) : Word := (l.filter fun m => m.1 == w).foldl (fun a m => a ^^^ m.2) 0

/-- The oldest round of the syndrome unit is `x`, and its number is its own. -/
def OldestRound (s : State) (x : Round) (rest : List Round) : Prop :=
  s.syn.rounds = x :: rest ∧ ∀ y ∈ rest, y.r ≠ x.r

/-- The low bytes of a number, lowest first (R8). -/
def leBytes (k v : Nat) : List Byte := (List.range k).map fun i => BitVec.ofNat 8 (v / 256 ^ i)

/-- Rounds, lookups, commit, the Pauli frame and the accesses of the syndrome unit: ENABLE, with PERIOD at least 8 and
above TMO, starts at the first round after the present step, and is refused with 0x12 otherwise; a write of 0 lets
started rounds commit; DISABLE_NOW abandons them without a frame change. A started round starts in its step. At its
deadline every check still open is evaluated, missing members erased, with ERASED. A returned entry adds its mask to
the round and follows its LINK up to three times; a reserved bit stops the chain with 0x14, a fourth LINK with 0x13, a
parity error asks for a re-fetch of the copy as it then stands, whose mask joins its round or, once that has
committed, goes into the frame on return (log 63). A commit, in its count, XORs the round's masks into the frame
unless the round is skipped, writes the slots of kind 3 and hands the record to ROUND_RING. FRAME_XOR, FRAME_CLR and
CMAP_DATA act at once. (R297, R299, R300, R302, R303, R304, R306, R307, R308, R309) -/
def Obligations.SyndromeRounds : Prop :=
  let b := Base.syn
  let frame (t : State) (w : Nat) : Word := t.reg (b + 0x080 + 4 * w)
  (∀ (who : Req) (s r : State), Settled s → s.granted who .syn 0 = some r →
    let rest (t : State) (l : List Nat) : Prop := (∀ a, a ∉ l.map (b + ·) → t.reg a = s.reg a) ∧
      t = { s with regs := t.regs, used := r.used, syn := t.syn, cmap := t.cmap, respVal := t.respVal }
    let a := s.fld b Reg.Syn.CMAP_ADDR
    let start (k : Nat) : Nat := s.synT0 + k * s.synPeriod
    (s.enabled b = false → 8 ≤ s.synPeriod → s.synTmo < s.synPeriod →
      ∃ t k, exec (.syndromeEnable who) s = .next t ∧ t.enabled b = true ∧ t.syn.next = some k ∧
        t.syn.rounds = s.syn.rounds ∧ 2 * s.count + 1 < start k ∧ (∀ j, 2 * s.count + 1 < start j → k ≤ j) ∧
        t.cmap = s.cmap ∧ rest t [0x008]) ∧
    (∀ why, s.enabled b = false → s.bit b Reg.Hdr.VALID = false →
      (s.synPeriod < 8 ∧ why = 1 ∨ 8 ≤ s.synPeriod ∧ s.synPeriod ≤ s.synTmo ∧ why = 2) →
      ∃ t, exec (.syndromeEnable who) s = .next t ∧ t.enabled b = false ∧ t.fld b Reg.Hdr.CODE = 0x12 ∧
        t.fld b Reg.Hdr.INFO = why ∧ t.syn = s.syn ∧ t.cmap = s.cmap ∧ rest t [0x01C]) ∧
    (s.enabled b = true →
      ∃ t, exec (.syndromeNormalDisable who) s = .next t ∧ t.enabled b = false ∧ t.syn = { s.syn with next := none } ∧
        t.cmap = s.cmap ∧ rest t [0x008]) ∧
    (∃ t, exec (.syndromeDisableNow who) s = .next t ∧ t.enabled b = false ∧ t.syn.next = none ∧ t.syn.rounds = [] ∧
      t.fld b Reg.Syn.ABANDON_COUNT = min (s.fld b Reg.Syn.ABANDON_COUNT + s.syn.rounds.length) (2 ^ 16 - 1) ∧
      (s.syn.rounds ≠ [] → (t.reg (b + 0x010)).getLsbD 6 = true) ∧ (∀ w, w < 16 → frame t w = frame s w)) ∧
    (∀ data : Word, ∃ t, exec (.frameXor who data) s = .next t ∧
      frame t (s.fld b Reg.Syn.FX_WORD) = frame s (s.fld b Reg.Syn.FX_WORD) ^^^ data ∧
      t.syn = { s.syn with frames := t.syn.frames } ∧ t.cmap = s.cmap ∧
      rest t [0x080 + 4 * s.fld b Reg.Syn.FX_WORD]) ∧
    (∃ t, exec (.frameClr who) s = .next t ∧ (∀ w, w < 16 → frame t w = 0) ∧
      t.syn = { s.syn with frames := t.syn.frames } ∧ t.cmap = s.cmap ∧
      rest t ((List.range 16).map fun w => 0x080 + 4 * w)) ∧
    ((∃ t, exec (.cmapDataAccess who none) s = .next t ∧ t.respVal = BitVec.ofNat 64 (s.cmapAt a) ∧
        t.fld b Reg.Syn.CMAP_ADDR = (a + 1) % 8192 ∧ t.syn = s.syn ∧ t.cmap = s.cmap ∧ rest t [0x058]) ∧
      (∀ data : Word, s.enabled b = false → s.syn.rounds = [] →
        ∃ t, exec (.cmapDataAccess who (some data)) s = .next t ∧ t.cmapAt a = (data &&& 0x9FFF#32).toNat ∧
          (∀ i, i ≠ a → t.cmapAt i = s.cmapAt i) ∧ t.fld b Reg.Syn.CMAP_ADDR = (a + 1) % 8192 ∧ t.syn = s.syn ∧
          rest t [0x058]) ∧
      (∀ data : Word, s.enabled b = true ∨ s.syn.rounds ≠ [] → s.bit b Reg.Hdr.VALID = false →
        ∃ t, exec (.cmapDataAccess who (some data)) s = .next t ∧ t.cmap = s.cmap ∧ t.fld b Reg.Hdr.CODE = 0x11 ∧
          t.fld b Reg.Hdr.INFO = 0x05C ∧ rest t [0x058, 0x01C]))) ∧
  (∀ (k : Nat) (s : State), Settled s → s.enabled b = true → s.syn.next = some k →
    s.synT0 + k * s.synPeriod ≤ 2 * s.count + 1 →
    ∃ t x, exec .roundStart s = .next t ∧ t.syn = { s.syn with next := some (k + 1), rounds := s.syn.rounds ++ [x] } ∧
      x.r = k ∧ x.start = s.synT0 + k * s.synPeriod ∧ x.masks = [] ∧ x.deadline = false ∧ t = { s with syn := t.syn }) ∧
  (∀ (x : Round) (rest : List Round) (s : State), OldestRound s x rest → x.checks.length < s.nCheck →
    x.start + s.synPeriod + s.synTmo ≤ 2 * s.count → s.nCheck ≤ 512 →
    let had (i : Nat) : Option (Option Bool) := (x.members.find? fun e => e.1 == i).map Prod.snd
    ∃ t y, exec .roundDeadline s = .next t ∧ t.syn.rounds = y :: rest ∧ y.r = x.r ∧ y.start = x.start ∧ y.deadline = true ∧
      (t.reg (b + 0x010)).getLsbD 1 = true ∧ (∀ w, w < 16 → frame t w = frame s w) ∧
      ∀ c, c < s.nCheck → (∀ e ∈ x.checks, e.1 ≠ c) →
        (c, ((s.members c).map fun i => (had i == some (some true))).foldl (fun a v => a != v) false,
          (s.members c).any fun i => !(had i == some (some true) || had i == some (some false))) ∈ y.checks) ∧
  (∀ (x : Round) (rest : List Round) (rd : CtRead) (rds : List CtRead) (j : Fin 32) (s : State), OldestRound s x rest →
    s.syn.late = [] → x.reads = rd :: rds → rd.word = j.val → rd.refetch = false →
    let v := rdLE s.bar2 (0x0210_0000 + 8 * rd.idx) 8
    let link := v / 2 ^ 40 % 2 ^ 16
    let good : Prop := v / 2 ^ 56 = 0 ∧ v / 2 ^ 36 % 16 = 0
    let mask : Nat × Word := (v / 2 ^ 32 % 16, BitVec.ofNat 32 v)
    let more : CtRead := { rd with idx := link, links := rd.links + 1, refetch := false, copy := none }
    (∃ t y, exec (.ctEntryReturn j false) s = .next t ∧ t.syn.rounds = y :: rest ∧ y.r = x.r ∧ y.checks = x.checks ∧
      (∀ w, w < 16 → frame t w = frame s w) ∧
      (¬ good → y.masks = x.masks ∧ y.reads = rds ∧ y.linkFault = true ∧
        (s.bit b Reg.Hdr.VALID = false → t.fld b Reg.Hdr.CODE = 0x14 ∧ t.fld b Reg.Hdr.INFO = rd.idx % 2 ^ 24)) ∧
      (good → y.masks = x.masks ++ [mask]) ∧
      (good → link = 0xFFFF → y.reads = rds ∧ y.linkFault = x.linkFault) ∧
      (good → link ≠ 0xFFFF → rd.links ≠ 3 → y.reads = rds ++ [more] ∧ y.linkFault = x.linkFault) ∧
      (good → link ≠ 0xFFFF → rd.links = 3 → y.reads = rds ∧ y.linkFault = true ∧ (t.reg (b + 0x010)).getLsbD 3 = true ∧
        (s.bit b Reg.Hdr.VALID = false → t.fld b Reg.Hdr.CODE = 0x13 ∧ t.fld b Reg.Hdr.INFO = rd.idx % 2 ^ 24))) ∧
    (∃ t y, exec (.ctEntryReturn j true) s = .next t ∧ t.syn.rounds = y :: rest ∧ y.r = x.r ∧ y.masks = x.masks ∧
      y.reads.head? = some { rd with
        refetch := true, copy := some (rdLE s.dram (0x0400_0000 + 0x0210_0000 + 8 * rd.idx) 8) } ∧ (t.reg (b + 0x010)).getLsbD 4 = true ∧
      (s.bit b Reg.Hdr.VALID = false → t.fld b Reg.Hdr.CODE = 0x10 ∧ t.fld b Reg.Hdr.INFO = rd.idx % 2 ^ 24) ∧
      ∀ w, w < 16 → frame t w = frame s w)) ∧
  (∀ (rd : CtRead) (i : Fin 65536) (v : Nat) (s : State), rd.idx = i.val → rd.refetch = true → rd.copy = some v →
    s.frozen = false → s.refetchOut (0x0400_0000 + 0x0210_0000 + 8 * i.val) = false →
    v / 2 ^ 56 = 0 → v / 2 ^ 36 % 16 = 0 → v / 2 ^ 40 % 2 ^ 16 = 0xFFFF →
    (s.syn.late = [rd] →
      ∃ t, exec (.ctRefetchComplete i) s = .next t ∧ t.syn.late = [] ∧ t.syn.rounds = s.syn.rounds ∧
        ∀ w, w < 16 → frame t w = if w = v / 2 ^ 32 % 16 then frame s w ^^^ BitVec.ofNat 32 v else frame s w) ∧
    (∀ (x : Round) (rest : List Round), OldestRound s x rest → x.reads = [rd] → s.syn.late = [] →
      ∃ t y, exec (.ctRefetchComplete i) s = .next t ∧ t.syn.late = [] ∧ t.syn.rounds = y :: rest ∧ y.r = x.r ∧
        y.reads = [] ∧ y.masks = x.masks ++ [(v / 2 ^ 32 % 16, BitVec.ofNat 32 v)] ∧
        ∀ w, w < 16 → frame t w = frame s w)) ∧
  (∀ (x : Round) (rest : List Round) (s : State), OldestRound s x rest → s.nCheck ≤ x.checks.length →
    (∀ rd ∈ x.reads, rd.refetch = true) → x.r < 2 ^ 64 →
    (∀ m ∈ x.masks, m.1 < 16) →
    let erased := x.checks.any fun e => e.2.2
    let skip := s.bit b Reg.Syn.ERASE_POLICY && erased
    let ring := s.fld b Reg.Syn.ROUND_RING
    let q := s.ring ring
    let valid := q.en = true ∧ q.kind = 5 ∧ s.ringFn ring = some (s.owner b)
    let flags := erased.toNat + 2 * x.deadline.toNat + 4 * skip.toNat + 16 * (x.ctLate && !skip).toNat + 32 * x.linkFault.toNat
    ∃ t, exec .roundCommit s = .next t ∧ t.syn.rounds.map (·.r) = rest.map (·.r) ∧
      t.syn.late = (if skip then s.syn.late else s.syn.late ++ x.reads) ∧
      (∀ w, w < 16 → frame t w = if skip then frame s w else frame s w ^^^ maskOf x.masks w) ∧
      t.fld64 b Reg.Syn.ROUND_LO Reg.Syn.ROUND_HI = x.r ∧ (t.reg (b + 0x010)).getLsbD 0 = true ∧
      t.fld b Reg.Syn.ERASE_COUNT = min (s.fld b Reg.Syn.ERASE_COUNT + erased.toNat) (2 ^ 16 - 1) ∧
      (∀ k : Fin 256, s.fld Base.dec Reg.Dec.SRC_KIND k = 3 → (s.slot k).cond = .empty →
        (t.slot k).cond = (if skip then .nodec else .value erased.toNat 255) ∧ (t.slot k).stamp = x.start % 2 ^ 32) ∧
      (∀ k : Fin 256, s.fld Base.dec Reg.Dec.SRC_KIND k ≠ 3 → t.slot k = s.slot k) ∧ t.bar2 = s.bar2 ∧
      (valid → s.nCheck ≤ 256 →
        ∃ (bytes : List Byte) (step : Nat), bytes.length = 64 ∧ step / 2 = s.count ∧
          t.dram = (s.ringPush ring bytes).dram ∧ t.rings = (s.ringPush ring bytes).rings ∧
          t.dwait = (s.ringPush ring bytes).dwait ∧
          bytes.take 24 = leBytes 2 0x5359 ++ leBytes 1 0 ++ leBytes 1 flags ++ leBytes 8 x.r ++ leBytes 8 x.start ++
            leBytes 4 step) ∧
      (¬ valid → t.dram = s.dram ∧ (t.reg (b + 0x010)).getLsbD 7 = true ∧
        (s.bit b Reg.Hdr.VALID = false → t.fld b Reg.Hdr.CODE = 0x15 ∧ t.fld b Reg.Hdr.INFO = ring)))

/-! ### The Jency link and the mesh (chapter 11) -/

/-- A decision entry whose fields have the widths of R317. -/
def EntryFits (e : PendDec) : Prop := e.dev < 32 ∧ e.slot < 256 ∧ e.state < 4 ∧ e.conf < 256 ∧ e.stamp < 65536

/-- Of the ports only `p` changes. -/
def OtherPorts (s t : State) (p : Fin 8) : Prop := ∀ m, m ≠ p.val → t.port m = s.port m

/-- Launch, delivery, loss and training of a Jency port: What four lanes scramble under a valid header, lanes inverted
or not, the receiver reads back. Once in each count a port in TRAINING launches a TRAIN flit and a linked port one
flit: a replay that is due, with its original's content, or new content, on a member port from what is pending, eight
decisions and two events at most; it carries its count and its CRC, and entries survive coding. A good flit is
compared with the local count, and on a member port its decision is written into the copy of its source, with the
latest stamp not after now; an own source counts in LOOP_COUNT, an absent one in ABSENT_DROP_COUNT. A bad flit counts,
and becomes missing; 8 invalid headers in a row on a lane take the port down. A missing original past its time is
LOST. Training hears the peer's TRAIN flits, and ends LINKED with JLAT and RA, or starts again after 1 ms with code
0x11. (R291, R292, R314, R315, R316, R317, R318, R319, R320, R321, R323, R324) -/
def Obligations.JencyFlits : Prop :=
  (∀ e : PendDec, EntryFits e → e.bits < 2 ^ 41 ∧ decOf e.bits = e) ∧
  (∀ (f : BitVec 512) (scr : List Nat) (h : Nat), h < 4 → lanesIn [] scr (lanesOut h scr f).1 = f ∧
    lanesIn [true, true, true, true] scr ((lanesOut h scr f).1.map (~~~ ·)) = f) ∧
  ∀ (p : Fin 8) (s : State), Settled s →
    let b := Base.jport p
    let x := s.port p
    let c := s.count
    let jlat := s.jlat p
    let ra := s.jra p
    let status := match x.rxs.find? fun r => r.1 + 1 == c with
      | some (_, good) => if good then 1 else 2
      | none => 0
    let launched (t : State) (kind orig : Nat) (body : BitVec 512) : Prop :=
      let f := (t.port p).txFlit
      (t.port p).launched = some c ∧ (t.port p).sent = x.sent ++ [⟨c, kind, orig, body⟩] ∧ flitGet f 0 3 = kind + 1 ∧
        flitGet f 3 2 = status ∧ flitGet f 8 32 = c % 2 ^ 32 ∧ flitGet f 480 32 = flitCrc (flitGet f 0 480) ∧
        f &&& flitBody = body &&& flitBody ∧ (t.port p).txBlocks = (lanesOut 1 x.txScr f).1 ∧ t.count = c ∧ t.copies = s.copies ∧ t.slots = s.slots
    (s.pState p = 1 → x.launched ≠ some c → (∀ h, x.train.heard = some h → h.1 < 2 ^ 16) →
      ∃ t, exec (.jencyFlitLaunch p) s = .next t ∧
        let f := (t.port p).txFlit
        (t.port p).launched = some c ∧ (t.port p).txBlocks = (lanesOut 2 x.txScr f).1 ∧
          (∀ l, l < 4 → flitGet f (128 * l) 3 = 4 ∧ flitGet f (128 * l + 3) 2 = l ∧
            flitGet f (128 * l + 8) 32 = c % 2 ^ 32) ∧
          flitGet f 480 32 = flitCrc (flitGet f 0 480) ∧ t.pState p = 1 ∧ t.copies = s.copies ∧ OtherPorts s t p) ∧
    (2 ≤ s.pState p → x.launched ≠ some c → (∀ r ∈ x.replays, r.tc ≠ c) →
      (s.pState p = 3 → x.tx = none → x.abort = false →
        ∃ t body, exec (.jencyFlitLaunch p) s = .next t ∧ launched t 0 c body ∧ (t.port p).decs = x.decs.drop 8 ∧
          (t.port p).evs = x.evs.drop 2 ∧ (t.port p).rennets = x.rennets.tail ∧ (t.port p).replays = x.replays ∧
          OtherPorts s t p) ∧
      (s.pState p = 2 →
        ∃ t, exec (.jencyFlitLaunch p) s = .next t ∧ launched t 0 c 0 ∧ (t.port p).decs = x.decs ∧
          (t.port p).evs = x.evs ∧ (t.port p).rennets = x.rennets ∧ (t.port p).replays = x.replays ∧ OtherPorts s t p)) ∧
    (∀ r, 2 ≤ s.pState p → x.launched ≠ some c → x.replays = [r] → r.tc = c → (r.kind = 1 ∨ r.kind = 2) →
      ∃ t, exec (.jencyFlitLaunch p) s = .next t ∧ launched t r.kind r.orig r.body ∧ (t.port p).decs = x.decs ∧
        (t.port p).replays = [] ∧
        t.fld b Reg.Jport.REPLAY_COUNT = min (s.fld b Reg.Jport.REPLAY_COUNT + 1) (2 ^ 16 - 1) ∧ OtherPorts s t p) ∧
    (∀ (b0 b1 b2 b3 : BitVec 130) (moved : Int), 2 ≤ s.pState p → x.rxs.any (fun r => r.1 == c) = false →
      let bs := [b0, b1, b2, b3]
      let f := lanesIn x.pol x.rxScr bs
      let hdr := bs.any hdrWrong
      let lost := (hdrBads x.hdrBad bs).any fun k => decide (8 ≤ k)
      (lost = false → flitBad f hdr = true → x.badRun < 15 →
        ∃ t, exec (.jencyFlitDelivery p b0 b1 b2 b3 moved) s = .next t ∧ (t.port p).rxs = ((c, false) :: x.rxs).take 2 ∧
          (t.port p).badRun = x.badRun + 1 ∧ t.pState p = s.pState p ∧ (t.reg (b + 0x010)).getLsbD 2 = true ∧
          t.fld b Reg.Jport.CRC_ERR_COUNT = min (s.fld b Reg.Jport.CRC_ERR_COUNT + 1) (2 ^ 32 - 1) ∧
          (24 < moved.natAbs → (t.reg (b + 0x010)).getLsbD 5 = true) ∧ t.copies = s.copies ∧ OtherPorts s t p) ∧
      (lost = false → flitBad f hdr = false → flitGet f 0 3 = 1 → flitGet f 40 4 = 1 → flitGet f 44 2 = 0 → flitGet f 394 1 = 0 →
        s.pState p = 3 → (∀ k, x.memFrom = some k → k ≤ c - jlat) →
        let e := decOf (flitGet f 48 41)
        let a := 256 * e.dev + e.slot
        let own := s.fld Base.mesh Reg.Mesh.MESH_ID
        let diff := (s.count : Int) - flitGet f 8 32 - jlat
        let member := s.isMember e.dev && s.bit Base.mesh Reg.Mesh.MEMBER
        ∃ t, exec (.jencyFlitDelivery p b0 b1 b2 b3 moved) s = .next t ∧ (t.port p).rxs = ((c, true) :: x.rxs).take 2 ∧
          (t.port p).badRun = 0 ∧ t.bit Base.tl Reg.Tl.VALID p = true ∧
          ((t.fld Base.tl Reg.Tl.MISMATCH_LIVE).testBit p = decide (diff % 2 ^ 32 ≠ 0)) ∧
          (diff % 2 ^ 32 ≠ 0 → (t.fld Base.tl Reg.Tl.MISMATCH).testBit p = true) ∧
          (e.dev ≠ own → member = true → (s.copy a).cond = .empty →
            (t.copy a).cond = (if e.nodec then .nodec else .value e.state e.conf) ∧
            (t.copy a).stamp % 65536 = e.stamp ∧ (t.copy a).stamp < 2 ^ 32 ∧
            ((2 * s.count : Int) - (t.copy a).stamp) % 2 ^ 32 < 65536 ∧
            ∀ i, i ≠ a → t.copy i = s.copy i) ∧
          (e.dev = own → t.copies = s.copies ∧
            t.fld Base.dec Reg.Dec.LOOP_COUNT = min (s.fld Base.dec Reg.Dec.LOOP_COUNT + 1) (2 ^ 16 - 1)) ∧
          (e.dev ≠ own → member = false → t.copies = s.copies ∧
            t.fld Base.mesh Reg.Mesh.ABSENT_DROP_COUNT =
              min (s.fld Base.mesh Reg.Mesh.ABSENT_DROP_COUNT + 1) (2 ^ 32 - 1))) ∧
      (lost = true → ∃ t, exec (.jencyFlitDelivery p b0 b1 b2 b3 moved) s = .next t ∧ t.pState p = 0 ∧ (t.port p).decs = [] ∧
        (t.port p).evs = [] ∧ (t.port p).rennets = [] ∧ (t.reg (b + 0x010)).getLsbD 1 = true ∧
        t.fld b Reg.Jport.DROP_COUNT =
          min (s.fld b Reg.Jport.DROP_COUNT + (x.decs.length + x.evs.length + x.rennets.length)) (2 ^ 16 - 1) ∧
        t.fld Base.mesh Reg.Mesh.MEMBERS = s.fld Base.mesh Reg.Mesh.MEMBERS ∧ t.copies = s.copies ∧ OtherPorts s t p)) ∧
    (∀ (b0 b1 b2 b3 : BitVec 130) (at' : Int), s.pState p = 1 → x.rxs.any (fun r => r.1 == c) = false → x.rxScr ≠ [] →
      let bs := [b0, b1, b2, b3]
      let f := lanesIn x.pol x.rxScr bs
      let bad := hdrBads x.hdrBad bs
      (∀ k ∈ hdrRuns x.hdrRun bad bs, k = 64) → trainFlitOk f = true →
      ∃ t, exec (.jencyFlitDelivery p b0 b1 b2 b3 at') s = .next t ∧ t.pState p = 1 ∧
        (t.port p).train.heard = some (flitGet f 8 16, 64 * c + at'.toNat) ∧ (t.port p).train.peer = flitGet f 64 5 ∧
        (t.port p).train.serial = flitGet f 192 64 ∧ (t.port p).train.since = x.train.since ∧
        (f.getLsbD 62 = true → (t.port p).train.rtt =
          some (64 * ((c % 65536 + 65536 - flitGet f 40 16) % 65536) + at'.toNat, flitGet f 56 6)) ∧
        (f.getLsbD 62 = false → (t.port p).train.rtt = x.train.rtt) ∧ OtherPorts s t p ∧ t = { s with ports := t.ports }) ∧
    (∀ k late ks, x.missing = (k, late) :: ks →
      (late < c →
        ∃ t, exec (.flitLost p) s = .next t ∧ (t.port p).missing = ks ∧ (t.reg (b + 0x010)).getLsbD 3 = true ∧
          t.fld b Reg.Jport.LOST_COUNT = min (s.fld b Reg.Jport.LOST_COUNT + 1) (2 ^ 16 - 1) ∧ (t.port p).asm = none ∧
          t.copies = s.copies ∧ OtherPorts s t p) ∧
      (c < late → exec (.flitLost p) s = .next s)) ∧
    (s.portEn p = true → s.pState p = 0 → s.run = true → x.retryAt = none →
      ∃ t, exec (.portTrainingStart p) s = .next t ∧ t.pState p = 1 ∧ (∀ a, a ≠ b + 0x040 → t.reg a = s.reg a) ∧
        (t.port p).txScr = [0, 1, 2, 3] ∧ (t.port p).train.rtt = none ∧ OtherPorts s t p ∧
        t = { s with regs := t.regs, ports := t.ports }) ∧
    (∀ (rt wait : Nat), s.pState p = 1 → x.train.rtt = some (rt, wait) →
      let fine := (rt - wait) / 2
      (fine ≤ 29 * 64 → x.train.peer < 32 → x.train.serial < 2 ^ 64 →
        ∃ t k, exec (.portLinked p .ok) s = .next t ∧ t.pState p = 2 ∧
        64 * k < fine + 64 ∧ fine ≤ 64 * k ∧ t.jlat p = k + 2 ∧ t.jra p = 2 * (k + 2) + 2 ∧
        t.fld b Reg.Jport.F_FINE = fine ∧ t.fld b Reg.Jport.PEER_ID = x.train.peer ∧
        t.fld64 b Reg.Jport.PEER_SERIAL_LO Reg.Jport.PEER_SERIAL_HI = x.train.serial ∧
        (t.reg (b + 0x010)).getLsbD 0 = true ∧ t.ports = s.ports ∧
        KeepsRegs s t [b + 0x010, b + 0x040, b + 0x044, b + 0x048, b + 0x04C, b + 0x050]) ∧
      (29 * 64 < fine → ∃ t, exec (.portLinked p .ok) s = .next t ∧ t.pState p = 0 ∧
        (s.bit b Reg.Hdr.VALID = false → t.fld b Reg.Hdr.CODE = 0x11 ∧ t.fld b Reg.Hdr.INFO = 3))) ∧
    (∀ reason : BitVec 8, s.pState p = 1 →
      (reason = 1 ∧ (∃ l, l < 4 ∧ x.hdrRun.getD l 0 ≠ 64) ∨ reason = 2 ∧ (∀ l, l < 4 → x.hdrRun.getD l 0 = 64) ∨
        reason = 4 ∧ x.train.rtt = none ∧ x.train.since + 250000 ≤ c) →
      ∃ t, exec (.portLinked p (.fail reason)) s = .next t ∧ t.pState p = 0 ∧ (t.port p).retryAt = some (c + 250000) ∧
        (t.reg (b + 0x010)).getLsbD 4 = true ∧ OtherPorts s t p ∧ KeepsRegs s t [b + 0x010, b + 0x01C, b + 0x040] ∧
        (s.bit b Reg.Hdr.VALID = false → t.fld b Reg.Hdr.CODE = 0x11 ∧ t.fld b Reg.Hdr.INFO = reason.toNat % 8)) ∧
    (∀ k, x.retryAt = some k →
      (k ≤ c → ∃ t, exec (.trainRetry p) s = .next t ∧ (t.port p).retryAt = none ∧ OtherPorts s t p ∧
        t.pState p = (if s.portEn p = true ∧ s.pState p = 0 ∧ s.run = true then 1 else s.pState p) ∧
        (∀ a, a ≠ b + 0x040 → t.reg a = s.reg a) ∧ t = { s with regs := t.regs, ports := t.ports }) ∧
      (c < k → exec (.trainRetry p) s = .next s))

/-- The change that the mesh holds, with a new set, its boundary and whether it is armed, and CHG_STATE. -/
def ChangeIs (t : State) (c : Option (Word × Nat × Bool)) (st : Nat) : Prop :=
  t.mesh.change = c ∧ t.fld Base.mesh Reg.Mesh.CHG_STATE = st

/-- Rennet actions, bulk messages, membership changes, PORT_EN and PORT_KILL: RENNET_ACTION takes the action whose
count has come out of the list. GO sends BTX as chunks, refused with 0x12 for a bad length; a released chunk joins the
message, the last one fills BRX or sets OVERRUN, and one of no message is BULK_LOST; BRX_VALID clears; a port's normal
disable lets a message finish, DISABLE_NOW drops it with an ABORT. ANNOUNCE takes a change two epochs ahead or refuses
it with 0x11; MEMBERSHIP_ARM brings another device's, and arms or ends it; at its boundary the set is applied:
departed peers' copies become Absent, admitted peers' Empty, ports follow, and members that disagree set
MEMBER_MISMATCH. PORT_EN starts and stops links, PORT_KILL stops them and drops what is pending. (R283, R293, R326,
R328, R329, R330, R331, R332, R333, R334, R335) -/
def Obligations.MeshChangesAndMessages : Prop :=
  let m := Base.mesh
  (∀ (g : Fin 16) (fire : Bool) (r : Rennet) (rest : List Rennet) (s : State), s.mesh.rennets = r :: rest →
    r.group = g.val → r.fire = fire →
    (r.count ≤ s.count → ∃ t, exec (.rennetAction g fire) s = .next t ∧ t.mesh = { s.mesh with rennets := rest } ∧
      (∀ n : Fin 32, fire = true → s.bit (Base.acq n) Reg.Acq.RNT_EN = true → s.fld (Base.acq n) Reg.Acq.RGRP = g →
        s.aState n = 1 →
          (t.acqU n).cap = (s.acqU n).cap.map fun c => { c with rennets := c.rennets ++ [2 * r.count] }) ∧
      (∀ n : Fin 32, fire = false → s.rennetUnits g = [n.val] → s.armReason n false = 0 → t.aState n = 1) ∧
      t.count = s.count ∧ t.ports = s.ports)) ∧
  (∀ (who : Req) (p : Fin 8) (s r : State), Settled s → s.granted who .jport p = some r →
    let b := Base.jport p
    let x := s.port p
    let page (t : State) (l : List Nat) : Prop := OtherPorts s t p ∧ (∀ a, a ∉ l.map (b + ·) → t.reg a = s.reg a) ∧
      t = { s with regs := t.regs, ports := t.ports, used := r.used }
    (∀ data : Word,
      let len := data.toNat % 128
      let chunk (i : Nat) : Word64 :=
        BitVec.ofNat 64 (s.fld b Reg.Jport.BTX (2 * i) + 2 ^ 32 * s.fld b Reg.Jport.BTX (2 * i + 1))
      (s.enabled b = true → x.tx = none → len % 8 = 0 → len ≠ 0 → len ≤ 64 →
        ∃ t, exec (.btxGo who p data) s = .next t ∧ t.fld b Reg.Jport.BTX_LEN = len ∧
          t.port p = { x with tx := some ((List.range (len / 8)).map chunk, 0) } ∧ page t [0x064]) ∧
      (s.enabled b = true → x.tx = none → (len % 8 ≠ 0 ∨ len = 0 ∨ 64 < len) → s.bit b Reg.Hdr.VALID = false →
        ∃ t, exec (.btxGo who p data) s = .next t ∧ t.fld b Reg.Hdr.CODE = 0x12 ∧ t.fld b Reg.Hdr.INFO = len ∧
          t.port p = x ∧ page t [0x064, 0x01C])) ∧
    (∃ t, exec (.brxValidClear who p) s = .next t ∧ t.bit b Reg.Jport.BRX_VALID = false ∧ t.port p = x ∧ page t [0x068]) ∧
    (s.enabled b = true →
      ∃ t, exec (.jportNormalDisable who p) s = .next t ∧ t.enabled b = false ∧ t.port p = x ∧ page t [0x008]) ∧
    (x.tx = none →
      ∃ t, exec (.jportDisableNow who p) s = .next t ∧ t.enabled b = false ∧ t.port p = x ∧ page t [0x008]) ∧
    (∀ cs i, x.tx = some (cs, i) →
      ∃ t, exec (.jportDisableNow who p) s = .next t ∧ t.enabled b = false ∧
        t.port p = { x with tx := none, abort := true } ∧ OtherPorts s t p ∧ (t.reg (b + 0x010)).getLsbD 9 = true ∧
        t.fld b Reg.Jport.DROP_COUNT = min (s.fld b Reg.Jport.DROP_COUNT + (cs.length - i)) (2 ^ 16 - 1) ∧
        KeepsRegs s t [b + 0x008, b + 0x010, b + 0x060])) ∧
  (∀ (p : Fin 8) (s : State) (k : Nat) (eom : Bool) (data : Word64) (rest : List Chunk),
    let x := s.port p
    x.bulk = ⟨k, false, eom, true, false, data, false⟩ :: rest → k ≤ s.count → x.missing = [] → x.asm = none →
    x.skip = false →
    ∃ t, exec (.bulkChunkRelease p) s = .next t ∧ (t.port p).bulk = rest ∧ OtherPorts s t p ∧ (t.port p).asm = none ∧
      (t.port p).skip = !eom ∧ (t.reg (Base.jport p + 0x010)).getLsbD 8 = true ∧
      t.fld (Base.jport p) Reg.Jport.BULK_LOST_COUNT =
        min (s.fld (Base.jport p) Reg.Jport.BULK_LOST_COUNT + 1) (2 ^ 16 - 1)) ∧
  (∀ (p : Fin 8) (s : State) (k : Nat) (som eom : Bool) (data : Word64) (rest : List Chunk),
    let b := Base.jport p
    let x := s.port p
    let before : Option (List Word64) := if som then some [] else x.asm
    x.bulk = ⟨k, som, eom, true, false, data, false⟩ :: rest → k ≤ s.count → x.missing = [] → (som = true → x.asm = none) → before ≠ none →
    ∃ t, exec (.bulkChunkRelease p) s = .next t ∧ (t.port p).bulk = rest ∧ OtherPorts s t p ∧
      (eom = false → (t.port p).asm = before.map (· ++ [data]) ∧ t.reg (b + 0x068) = s.reg (b + 0x068)) ∧
      (∀ l, eom = true → before = some l → l.length < 8 → (t.port p).asm = none ∧
        (s.bit b Reg.Jport.BRX_VALID = true → (t.reg (b + 0x010)).getLsbD 7 = true ∧
          ∀ a, 0x0C0 ≤ a → a < 0x100 → t.reg (b + a) = s.reg (b + a)) ∧
        (s.bit b Reg.Jport.BRX_VALID = false → t.bit b Reg.Jport.BRX_VALID = true ∧ (t.reg (b + 0x010)).getLsbD 6 = true ∧
          t.fld b Reg.Jport.BRX_LEN = 8 * (l.length + 1) ∧
          ∀ i v, (l ++ [data])[i]? = some v →
            BitVec.ofNat 64 (t.fld b Reg.Jport.BRX (2 * i) + 2 ^ 32 * t.fld b Reg.Jport.BRX (2 * i + 1)) = v))) ∧
  (∀ (who : Req) (data : Word) (s r : State), Settled s → s.granted who .mesh 0 = some r →
    let e := s.fld64 m Reg.Mesh.CHG_EPOCH_LO Reg.Mesh.CHG_EPOCH_HI
    let set := BitVec.ofNat 32 (s.fld m Reg.Mesh.NEXT_MEMBERS)
    let early := s.count / 65536 + 2 ≤ e
    (early → s.mesh.change = none → s.sameIds set = false →
      ∃ t, exec (.announce who data) s = .next t ∧ ChangeIs t (some (set, e, false)) 1 ∧
        (∀ a, a ≠ m + 0x054 → t.reg a = s.reg a) ∧ t = { s with regs := t.regs, mesh := t.mesh, used := r.used }) ∧
    (∀ why, (¬ early ∧ why = 1 ∨ early ∧ s.mesh.change ≠ none ∧ why = 2 ∨
        early ∧ s.mesh.change = none ∧ s.sameIds set = true ∧ why = 4) →
      ∃ t, exec (.announce who data) s = .next t ∧ ChangeIs t s.mesh.change 3 ∧ (t.reg (m + 0x010)).getLsbD 1 = true ∧
        (s.bit m Reg.Hdr.VALID = false → t.fld m Reg.Hdr.CODE = 0x11 ∧ t.fld m Reg.Hdr.INFO = why) ∧
        KeepsRegs s t [m + 0x054, m + 0x010, m + 0x01C]) ∧
    (∃ t, exec (.portEnWrite who data) s = .next t ∧ t.fld m Reg.Mesh.PORT_EN = data.toNat % 256 ∧
      ∀ p : Fin 8,
        (data.getLsbD p = s.portEn p → t.port p = s.port p ∧ t.pState p = s.pState p) ∧
        (data.getLsbD p = true → s.portEn p = false → t.port p = { s.port p with leaving := false } ∧ t.pState p = s.pState p) ∧
        (data.getLsbD p = false → s.portEn p = true → (2 ≤ s.pState p ∧ s.peerMember p = true) →
          t.port p = { s.port p with retryAt := none, leaving := true } ∧ t.pState p = s.pState p) ∧
        (data.getLsbD p = false → s.portEn p = true → ¬ (2 ≤ s.pState p ∧ s.peerMember p = true) →
          t.pState p = 0 ∧ (t.port p).retryAt = none)) ∧
    (∃ t, exec (.portKill who data) s = .next t ∧ t.fld m Reg.Mesh.PORT_EN = s.fld m Reg.Mesh.PORT_EN ∧
      ∀ p : Fin 8,
        (data.getLsbD (8 + p.val) = true → t.pState p = 0 ∧ (t.port p).decs = [] ∧ (t.port p).evs = [] ∧
          (t.port p).rennets = [] ∧ t.fld (Base.jport p) Reg.Jport.DROP_COUNT =
            min (s.fld (Base.jport p) Reg.Jport.DROP_COUNT +
              ((s.port p).decs.length + (s.port p).evs.length + (s.port p).rennets.length)) (2 ^ 16 - 1)) ∧
        (data.getLsbD (8 + p.val) = false → t.port p = s.port p ∧ t.pState p = s.pState p))) ∧
  (∀ (s : State) (set : Word) (e : Nat), Settled s → s.mesh.change = some (set, e, false) →
    s.count / 65536 + 1 < e →
    (∃ t, exec (.membershipArm .confirmed) s = .next t ∧ ChangeIs t (some (set, e, true)) 2 ∧
      (∀ a, a ≠ m + 0x054 → t.reg a = s.reg a) ∧ t = { s with regs := t.regs, mesh := t.mesh }) ∧
    (s.mesh.remote = false → ∀ e ∈ [(MeshNews.missing, 3), (.sameId, 4)],
      ∃ t, exec (.membershipArm e.1) s = .next t ∧ ChangeIs t none 3 ∧ (t.reg (m + 0x010)).getLsbD 1 = true ∧
        (s.bit m Reg.Hdr.VALID = false → t.fld m Reg.Hdr.CODE = 0x11 ∧ t.fld m Reg.Hdr.INFO = e.2) ∧
        KeepsRegs s t [m + 0x054, m + 0x010, m + 0x01C]) ∧
    (s.mesh.remote = true → ∀ e ∈ [MeshNews.missing, .sameId, .withdrawn],
      ∃ t, exec (.membershipArm e) s = .next t ∧ ChangeIs t none 0 ∧ (∀ a, a ≠ m + 0x054 → t.reg a = s.reg a) ∧
        t = { s with regs := t.regs, mesh := t.mesh })) ∧
  (∀ (s : State) (set : BitVec 32) (e : BitVec 48), Settled s → s.mesh.change = none → s.count / 65536 + 2 ≤ e.toNat →
    ∃ t, exec (.membershipArm (.announced set e)) s = .next t ∧ ChangeIs t (some (set, e.toNat, false)) 1 ∧
      t.mesh.remote = true ∧ (∀ a, a ≠ m + 0x054 → t.reg a = s.reg a) ∧
      t = { s with regs := t.regs, mesh := t.mesh }) ∧
  (∀ (s : State) (set : Word) (e : Nat), s.count % 65536 = 0 → s.epochAt ≠ some s.count → s.run = true →
    s.mesh.change = some (set, e, true) → e ≤ s.count / 65536 → s.bit m Reg.Mesh.MEMBER = true →
    let own := s.fld m Reg.Mesh.MESH_ID
    let was (d : Nat) : Bool := s.isMember d
    set.getLsbD own = true → ∀ agree : Bool,
    ∃ t, exec (.epochBoundary agree) s = .next t ∧ (agree = false → (t.reg (m + 0x010)).getLsbD 2 = true) ∧ ChangeIs t none 0 ∧ t.epochAt = some s.count ∧
      t.fld m Reg.Mesh.MEMBERS = set.toNat ∧ t.bit m Reg.Mesh.MEMBER = true ∧ (t.reg (m + 0x010)).getLsbD 0 = true ∧
      t.slots = s.slots ∧ t.fld m Reg.Mesh.MESH_ID = own ∧
      (∀ d, d < 32 → d ≠ own → ∀ k, k < 256 →
        (set.getLsbD d = true → was d = false → (t.copy (256 * d + k)).cond = .empty) ∧
        (set.getLsbD d = false → was d = true → (t.copy (256 * d + k)).cond = .absent) ∧
        (set.getLsbD d = was d → t.copy (256 * d + k) = s.copy (256 * d + k))) ∧
      (∀ p : Fin 8, s.bit (Base.jport p) Reg.Jport.PEER_VALID = true →
        let peer := set.getLsbD (s.fld (Base.jport p) Reg.Jport.PEER_ID)
        (peer = true → s.pState p = 2 → t.pState p = 3) ∧
        (peer = false → s.pState p = 3 → t.pState p = if (s.port p).leaving then 0 else 2) ∧
        (s.pState p < 2 → (s.port p).leaving = false → t.pState p = s.pState p)))

/-! ### Acquisition units (chapter 12) -/

/-- Bytes of a sample of unit `n`, and the capacity of `k` blocks of its region in samples (R341, R342). -/
def sampleSize (s : State) (n : Fin 32) : Nat :=
  if s.fld (Base.acq n) Reg.Acq.KIND = 1 ∨ s.fld (Base.acq n) Reg.Acq.KIND = 4 then 2 else 4
def blockSamples (s : State) (n : Fin 32) (k : Nat) : Nat := k * 65536 / sampleSize s n

/-- Unit `n` is armed at step `k` under a tag: ARMED, its counters fresh, its capture sized by R345's table. -/
def ArmedAt (s t : State) (n : Fin 32) (k : Nat) (tag : Tag) : Prop :=
  let b := Base.acq n
  let pre := s.fld b Reg.Acq.PRE
  let post := s.fld b Reg.Acq.POST
  let cap := blockSamples s n (s.fld b Reg.Acq.CS_SIZE)
  ∃ c, (t.acqU n).cap = some c ∧ c.step = k ∧ c.tag = tag ∧ c.plan = post ∧ c.trig = none ∧ c.ready = false ∧ c.stored = 0 ∧
    c.fifo = 0 ∧ c.ovf = none ∧
    (post ≤ cap → c.pre = min pre (cap - post) ∧ c.area = cap ∧ c.spill = false ∧ c.preTrunc = decide (cap < pre + post)) ∧
    (cap < post → c.pre = 0 ∧ c.spill = true ∧ c.preTrunc = decide (0 < pre) ∧
      c.area = blockSamples s n (s.fld b Reg.Acq.CS_SIZE - s.fld b Reg.Acq.SPILL_RES)) ∧
    (c.preTrunc = true → (t.reg (b + 0x010)).getLsbD 2 = true) ∧
    t.fld b Reg.Acq.ASTATE = 1 ∧ t.fld b Reg.Acq.SEQ = (s.fld b Reg.Acq.SEQ + 1) % 2 ^ 32 ∧ t.fld b Reg.Acq.WHEY = 0 ∧
    t.fld b Reg.Acq.OVF_INDEX = 2 ^ 32 - 1

/-- The rennet action of unit `n`'s group for a request raised at count `c` is to come (R326, R355). -/
def RennetAsked (s t : State) (n : Fin 32) (fire : Bool) (c : Nat) : Prop :=
  (⟨s.fld (Base.acq n) Reg.Acq.RGRP, fire, c + s.fld Base.mesh Reg.Mesh.RENNET_DLY⟩ : Rennet) ∈ t.mesh.rennets

/-- The unit sends its triggers and arms to its rennet group (R355). -/
def rennetOut (s : State) (n : Fin 32) : Bool :=
  s.bit (Base.acq n) Reg.Acq.RNT_EN && s.bit (Base.acq n) Reg.Acq.RNT_OUT

/-- ARM, FIRE, STOP, ACQ_TRIGGER, SPILL_DRAIN, CAPTURE_COMPLETE, CURD_READ and the accesses of an acquisition unit: An
accepted ARM, by command at its step or by ARM_NOW at the step after, arms the unit, its window sized by R345's table,
or asks for a rennet ARM; a refused one sets ARM_FAULT with code 0x11 and the reason. FIRE and FIRE_NOW reach an armed
unit and set FIRE_IGNORED otherwise. STOP and a normal disable disarm an armed unit; a capture goes on to its end, the
earlier of two STOPs. An immediate disable discards what is not stored, and leaves a capture with nothing more to
come. ACQ_TRIGGER fires the members armed at the trigger. SPILL_DRAIN moves one entry into the ring. CAPTURE_COMPLETE
hands over the record, or reports its ring, and sets DONE. CURD_READ answers the word, a bad one recorded with 0x10.
(R326, R343, R344, R345, R347, R349, R350, R354, R355, R356, R357, R358) -/
def Obligations.AcquisitionUnits : Prop :=
  (∀ (n : Fin 32) (s : State),
    let b := Base.acq n
    let x := s.acqU n
    let reason := s.armReason n true
    let refused (t : State) : Prop := t.fld b Reg.Acq.ASTATE = s.fld b Reg.Acq.ASTATE ∧ (t.acqU n).cap = x.cap ∧
      (t.reg (b + 0x010)).getLsbD 6 = true ∧
      (s.bit b Reg.Hdr.VALID = false → t.fld b Reg.Hdr.CODE = 0x11 ∧ t.fld b Reg.Hdr.INFO = reason)
    (∀ c cs, HeadDue s x.queue c cs 0x0 →
      ∃ t, exec (.acqArm n) s = .next t ∧ (t.acqU n).queue = cs ∧ t.count = s.count ∧
        (reason = 0 → rennetOut s n = false → ArmedAt s t n c.step c.tag) ∧
        (reason = 0 → rennetOut s n = true → RennetAsked s t n false (c.step / 2) ∧
          t.fld b Reg.Acq.ASTATE = s.fld b Reg.Acq.ASTATE) ∧
        (reason ≠ 0 → refused t ∧ Charged t c.tag Flag.CMD_FAULT)) ∧
    (∀ c cs, HeadDue s x.queue c cs 0x1 →
      ∃ t, exec (.acqFire n) s = .next t ∧ (t.acqU n).queue = cs ∧ (∀ m, m ≠ n.val → t.acqU m = s.acqU m) ∧
        (s.aState n = 1 → (t.acqU n).cap = x.cap.map fun k =>
          { k with fires := k.fires ++ [c.step], posters := k.posters ++ [c.poster] }) ∧
        (s.aState n ≠ 1 → (t.acqU n).cap = x.cap ∧ (t.reg (b + 0x010)).getLsbD 10 = true) ∧ KeepsRegs s t [b + 0x010]) ∧
    (∀ c cs, HeadDue s x.queue c cs 0x2 →
      ∃ t, exec (.acqStop n) s = .next t ∧ (t.acqU n).queue = cs ∧ (∀ m, m ≠ n.val → t.acqU m = s.acqU m) ∧
        (s.aState n = 1 → t.aState n = 0 ∧ (t.acqU n).cap = none) ∧
        (s.aState n = 2 → t.aState n = 2 ∧
          (t.acqU n).cap = x.cap.map fun k => { k with stopAt := some (min c.step (k.stopAt.getD c.step)), stopped := true }) ∧
        (s.aState n ≠ 1 → s.aState n ≠ 2 → (t.acqU n).cap = x.cap ∧ t.aState n = s.aState n) ∧
        KeepsRegs s t [b + 0x074]) ∧
    (∀ c k, x.cap = some c → c.note = some k →
      ∃ t, exec (.acqTrigger n) s = .next t ∧ (t.acqU n).cap = some { c with note := none } ∧
        (c.trig = none → RennetAsked s t n true k ∧ ∀ m, m ≠ n.val → t.acqU m = s.acqU m) ∧
        (∀ time mask ns, c.trig = some (time, mask, ns) → (t.reg (b + 0x010)).getLsbD 1 = true ∧
          ∀ m : Fin 32, m ≠ n →
            let y := s.acqU m
            let peer := m.val ∈ c.mates
            (¬ peer → t.acqU m = y) ∧
            (peer → s.aState m ≠ 1 → t.acqU m = y ∧ (t.reg (Base.acq m + 0x010)).getLsbD 10 = true) ∧
            (∀ d, peer → s.aState m = 1 → y.cap = some d → (∀ k ∈ d.times, k < time) → (t.acqU m).cap = some { d with group := some time }))) ∧
    (∀ c r, x.cap = some c →
      let ring := s.fld b Reg.Acq.SPILL_RING
      let q := s.ring ring
      let size := sampleSize s n
      let per := 64 / size
      let fifo := blockSamples s n (s.fld b Reg.Acq.SPILL_RES)
      let m := min per c.fifo
      let region := 0x0300_0000 + s.fld b Reg.Acq.CS_BASE * 65536
      let sample (i : Nat) : List Byte := rdBytes s.bar2 (region + (c.area + (c.fifoHead + i) % fifo) * size) size
      c.fifo ≠ 0 → (per ≤ c.fifo ∨ s.aState n = 3) → s.acqRingOk n Reg.Acq.SPILL_RING = true → q.full = false →
      s.dramShut = false → s.chargeRes (b + 0x024) (s.limitOf b) = some r →
        ∃ t, exec (.spillDrain n) s = .next t ∧ (t.ring ring).prod = (q.prod + 1) % 2 ^ 32 ∧
          BytesPut s.dram t.dram (q.daddr * 64 + q.prod % 2 ^ q.log2 * 64)
            ((List.range m).flatMap sample ++ List.replicate (64 - m * size) 0) ∧
          (t.acqU n).cap = some { c with
            fifo := c.fifo - m, fifoHead := (c.fifoHead + m) % fifo, spilled := c.spilled + m, ringBad := false } ∧
          t.bar2 = s.bar2 ∧ ∀ i, i ≠ n.val → t.acqU i = s.acqU i) ∧
    (∀ (badAt badWords : Nat) (c : Capture), x.cap = some c → s.aState n = 3 → c.fifo = 0 →
      (c.spill = true → s.frozen = false) →
      let ring := s.fld b Reg.Acq.REC_RING
      let word := (c.stored - (c.preHeld + c.postHeld) + badAt) % c.area * sampleSize s n / 8
      let trig := c.trig.getD (0, 0, 0)
      let flags := c.preTrunc.toNat + 2 * c.ovf.isSome.toNat + 4 * (decide (badWords ≠ 0)).toNat + 8 * c.killed.toNat +
        16 * c.stopped.toNat + 32 * c.spill.toNat + 64 * c.stale.toNat + 128 * c.skew.toNat +
        256 * (decide (c.preHeld < c.pre)).toNat
      ∃ t, exec (.captureComplete n badAt badWords) s = .next t ∧ t.aState n = 4 ∧ (t.acqU n).cap = none ∧
        t.bit b Reg.Hdr.DISABLE_NOW = false ∧ (t.reg (b + 0x010)).getLsbD 0 = true ∧
        (badWords ≠ 0 → badAt < c.preHeld + c.postHeld → (t.reg (b + 0x010)).getLsbD 4 = true ∧
          (s.bit b Reg.Hdr.VALID = false → t.fld b Reg.Hdr.CODE = 0x10 ∧
            t.fld b Reg.Hdr.INFO = (s.fld b Reg.Acq.CS_BASE * 8192 + word) % 2 ^ 24)) ∧
        (s.acqRingOk n Reg.Acq.REC_RING = true →
          ∃ bytes : List Byte, bytes.length = 64 ∧ t.dram = (s.ringPush ring bytes).dram ∧
            t.rings = (s.ringPush ring bytes).rings ∧ t.dwait = (s.ringPush ring bytes).dwait ∧
            bytes.take 40 = leBytes 2 0x4143 ++ leBytes 1 n ++ leBytes 1 (s.fld b Reg.Acq.KIND) ++ leBytes 2 flags ++
              leBytes 1 (s.fld b Reg.Acq.INDEX) ++ leBytes 1 trig.2.1 ++ leBytes 8 trig.1 ++ leBytes 4 trig.2.2 ++
              leBytes 2 (s.owner b) ++ leBytes 2 0 ++ leBytes 4 c.preHeld ++ leBytes 4 c.postHeld ++ leBytes 4 c.spilled ++
              leBytes 4 (c.ovf.getD 0xFFFF_FFFF)) ∧
        (s.acqRingOk n Reg.Acq.REC_RING = false → t.dram = s.dram ∧ (t.reg (b + 0x010)).getLsbD 8 = true))) ∧
  (∀ (who : Req) (n : Fin 32) (s r : State), Settled s → s.granted who .acq n = some r →
    let b := Base.acq n
    let x := s.acqU n
    let reason := s.armReason n true
    let quiet (t : State) (l : List Nat) : Prop := (∀ a, a ∉ l.map (b + ·) → t.reg a = s.reg a) ∧
      (∀ m, m ≠ n.val → t.acqU m = s.acqU m) ∧ t = { s with regs := t.regs, acqs := t.acqs, used := r.used }
    (∃ t, exec (.armNow who n) s = .next t ∧
      (reason = 0 → rennetOut s n = false → ArmedAt s t n (2 * s.count + 2) none) ∧
      (reason = 0 → rennetOut s n = true → RennetAsked s t n false (s.count + 1)) ∧
      (reason ≠ 0 → (t.acqU n).cap = x.cap ∧ (t.reg (b + 0x010)).getLsbD 6 = true ∧
        (s.bit b Reg.Hdr.VALID = false → t.fld b Reg.Hdr.CODE = 0x11 ∧ t.fld b Reg.Hdr.INFO = reason))) ∧
    (s.aState n = 1 →
      ∃ t, exec (.fireNow who n) s = .next t ∧ t.acqU n = { x with cap := x.cap.map fun c => { c with soft := true } } ∧
        quiet t []) ∧
    (s.aState n ≠ 1 →
      ∃ t, exec (.fireNow who n) s = .next t ∧ t.acqU n = x ∧ (t.reg (b + 0x010)).getLsbD 10 = true ∧
        KeepsRegs s t [b + 0x010]) ∧
    (s.enabled b = false →
      ∃ t, exec (.acqEnable who n) s = .next t ∧ t.enabled b = true ∧ t.acqU n = { x with norm := false } ∧ quiet t [0x008]) ∧
    (s.enabled b = true →
      ∃ t, exec (.acqNormalDisable who n) s = .next t ∧ t.enabled b = false ∧ quiet t [0x008, 0x074] ∧
        (s.aState n = 1 → t.aState n = 0 ∧ (t.acqU n).cap = none) ∧
        (s.aState n = 2 ∨ s.aState n = 3 → t.aState n = s.aState n ∧ t.acqU n = { x with norm := true }) ∧
        (s.aState n = 0 ∨ s.aState n = 4 → t.aState n = s.aState n ∧ t.acqU n = x)) ∧
    (∀ c, x.cap = some c → c.trig = none → c.killed = false →
      ∃ t, exec (.acqDisableNow who n) s = .next t ∧ t.aState n = 0 ∧ (t.acqU n).cap = none ∧
        t.bit b Reg.Hdr.DISABLE_NOW = false ∧ quiet t [0x008, 0x074]) ∧
    (∀ c, x.cap = some c → c.trig ≠ none → c.killed = false → c.post < c.plan ∨ c.fifo ≠ 0 →
      ∃ t, exec (.acqDisableNow who n) s = .next t ∧ t.aState n = 3 ∧ t.bit b Reg.Hdr.DISABLE_NOW = true ∧
        (t.acqU n).cap = some { c with killed := true, full := true, fifo := 0, post := c.plan } ∧
        t.fld b Reg.Acq.WHEY = min (s.fld b Reg.Acq.WHEY + (c.plan - c.post + c.fifo)) (2 ^ 32 - 1) ∧
        (t.reg (b + 0x010)).getLsbD 5 = true ∧ Charged t c.tag Flag.TRUNCATED ∧
        ∀ m, m ≠ n.val → t.acqU m = s.acqU m) ∧
    (∀ c, x.cap = some c → c.trig ≠ none → c.plan ≤ c.post → c.fifo = 0 →
      ∃ t, exec (.acqDisableNow who n) s = .next t ∧ t.acqU n = x ∧ t.aState n = s.aState n ∧
        t.bit b Reg.Hdr.DISABLE_NOW = (s.aState n == 3) ∧ quiet t [0x008])) ∧
  (∀ (who : Req) (off : BitVec 26) (bad : Bool) (n : Fin 32) (s r : State), Settled s → Bar2Now s r who →
    off.toNat < 0x0300_0000 → r.blockUnit (off.toNat / 65536) = some n.val →
    r.windowDenied who (windowAt (0x0300_0000 + off.toNat)) = none →
    let b := Base.acq n
    ∃ t, exec (.curdRead who off bad) s = .next t ∧
      t.respVal = BitVec.ofNat 64 (rdLE s.bar2 (0x0300_0000 + off.toNat) 4) ∧ t.bar2 = s.bar2 ∧ t.acqs = s.acqs ∧
      (bad = false → t = { s with used := r.used, respVal := t.respVal }) ∧
      (bad = true → t.fld b Reg.Acq.BAD_ADDR = off.toNat / 8 * 8 ∧ (t.reg (b + 0x010)).getLsbD 4 = true ∧
        (s.bit b Reg.Hdr.VALID = false → t.fld b Reg.Hdr.CODE = 0x10) ∧
        KeepsRegs s t [b + 0x010, b + 0x01C, b + 0x084]))

/-! ### Flux channels (chapter 13) -/

/-- Of the flux channels only `n` changes, of the registers only those at the offsets of its page; the shots that commands
are charged to, and what interrupt delivery writes, may change. -/
def OnlyFlux (s t : State) (n : Fin 96) (offs : List Nat) : Prop :=
  (∀ m, m ≠ n.val → t.flux m = s.flux m) ∧ KeepsRegs s t (offs.map (Base.flux n + ·)) ∧
    t = { s with
      regs := t.regs, fluxes := t.fluxes, seqs := t.seqs, evchs := t.evchs, host := t.host, msix := t.msix, fns := t.fns
      window := t.window, edges := t.edges, errNow := t.errNow }

/-- As OnlyFlux, of a command that reads an entry: a read that fails its parity also writes IRQ_STAT and ERR_CAP, and asks the
DRAM for what it read (R191, R370). -/
def OnlyFluxRead (s t : State) (n : Fin 96) (bad : Bool) (offs : List Nat) : Prop :=
  (∀ m, m ≠ n.val → t.flux m = s.flux m) ∧
    KeepsRegs s t ((if bad then 0x010 :: 0x01C :: offs else offs).map (Base.flux n + ·)) ∧
    (bad = false → t.used = s.used ∧ t.dchs = s.dchs ∧ t.dwait = s.dwait) ∧
    t = { s with
      regs := t.regs, fluxes := t.fluxes, seqs := t.seqs, evchs := t.evchs, host := t.host, msix := t.msix, fns := t.fns
      window := t.window, edges := t.edges, errNow := t.errNow, used := t.used, dchs := t.dchs, dwait := t.dwait }

/-- A read of an entry that failed its parity shows in the page of flux channel `n` (R191, R370). -/
def FluxParity (s t : State) (n : Fin 96) (bad : Bool) (i : Nat) : Prop :=
  bad = true → (t.reg (Base.flux n + 0x010)).getLsbD 5 = true ∧
    (s.bit (Base.flux n) Reg.Hdr.VALID = false →
      t.fld (Base.flux n) Reg.Hdr.CODE = 0x10 ∧ t.fld (Base.flux n) Reg.Hdr.INFO = i % 2 ^ 24)

/-- What an immediate disable of the fast part at a step finds: the play, a resolved continuation, and the queued PLAY and
SET commands; and how many of them are plays (R369). -/
def fluxGone (x : FluxSt) (cs : List TCmd) : Nat × Nat :=
  let plays := x.play.toList.length + (match x.cont with
    | some (some _) => 1
    | _ => 0)
  (plays + (cs.filter fun c => c.code == 0 || c.code == 1).length, plays + (cs.filter fun c => c.code == 0).length)

/-- PLAY, SET, STOP, KILL, play boundaries and the ENABLE and DISABLE_NOW writes of a flux channel: The command at the
head of the queue, once its step is due, leaves the queue. PLAY of a valid entry that does not stream begins a play at
its step, cutting one in progress, with CUT_COUNT; an invalid one is an entry fault, and one that fails its parity
sets PARITY and code 0x10; a channel disabled, or whose normal disable or STOP of an earlier step is pending, drops
PLAY and SET. SET sets FLEVEL. STOP lets the play end at its boundary; KILL and DISABLE_NOW discard the play, its
continuation and queued PLAY and SET commands, count the plays, set TRUNCATED where there was work, and make FLEVEL 0.
At the decision point a play resolves to a repeat, the next entry or END, and at its boundary goes there. A re-fetch
that DRAM has delivered ends what it caused. Only channel n and its page change. (R172, R364, R365, R366, R368, R369,
R370, R387, R191) -/
def Obligations.FluxFastPart : Prop :=
  (∀ (n : Fin 96) (s : State) (c : TCmd) (cs : List TCmd),
    let b := Base.flux n
    let x := s.flux n
    let show' : List Nat := [0x044]
    let runs : Prop := ∀ p, x.play = some p → c.step < p.start + 4 * p.e.len
    let takes : Prop := s.enabled b = true ∧ x.norm = false ∧ ∀ k, x.stopAt = some k → c.step ≤ k
    let drops : Prop := runs ∧ (s.enabled b = false ∨ x.norm = true ∨ ∃ k, x.stopAt = some k ∧ k < c.step)
    (HeadDue s x.queue c cs 0x0 → ∀ bad : Bool,
      let i := c.arg % 2 ^ 16
      let e := decodeEntry i (rdLE s.bar2 (0x0200_0000 + 16 * i) 16)
      let ok := s.entryValid (s.owner b) e && !e.strm
      let begun := mkPlay e c.step e.rep c.poster c.tag bad
      (takes → ok = true → x.play = none →
        ∃ t, exec (.fluxPlay n bad) s = .next t ∧ (t.flux n).play = some begun ∧ (t.flux n).queue = cs ∧
          t.fld b Reg.Flux.CUR_ENTRY = i ∧ t.fld b Reg.Flux.PLAYS_LEFT = e.rep ∧ FluxParity s t n bad i ∧
          OnlyFluxRead s t n bad show') ∧
      (∀ p, takes → ok = true → x.play = some p → c.step < p.start + 4 * p.e.len →
        ∃ t, exec (.fluxPlay n bad) s = .next t ∧ (t.flux n).play = some begun ∧ (t.flux n).queue = cs ∧
          (t.flux n).cont = none ∧ (t.flux n).stopAt = none ∧ t.fld b Reg.Flux.CUT_COUNT = min (s.fld b Reg.Flux.CUT_COUNT + 1) (2 ^ 16 - 1) ∧
          FluxParity s t n bad i ∧ OnlyFluxRead s t n bad (0x080 :: show')) ∧
      (takes → ok = false → x.play = none →
        ∃ t, exec (.fluxPlay n bad) s = .next t ∧ t.flux n = { x with queue := cs } ∧
          (t.reg (b + 0x010)).getLsbD 3 = true ∧ Charged t c.tag Flag.CMD_FAULT ∧
          (bad = false → s.bit b Reg.Hdr.VALID = false → t.fld b Reg.Hdr.CODE = 0x11 ∧ t.fld b Reg.Hdr.INFO = i) ∧
          FluxParity s t n bad i ∧ OnlyFluxRead s t n bad (0x010 :: 0x01C :: show')) ∧
      (drops →
        ∃ t, exec (.fluxPlay n bad) s = .next t ∧ t.flux n = { x with queue := cs } ∧
          t.fld b Reg.Flux.DROP_COUNT = min (s.fld b Reg.Flux.DROP_COUNT + 1) (2 ^ 16 - 1) ∧
          (t.reg (b + 0x010)).getLsbD 4 = true ∧ Charged t c.tag Flag.CMD_FAULT ∧ OnlyFlux s t n [0x010, 0x088])) ∧
    (HeadDue s x.queue c cs 0x1 →
      (takes → runs → x.stopAt = none → x.levelWas.step ≤ c.step →
        ∃ t, exec (.fluxSet n) s = .next t ∧ t.fld b Reg.Flux.FLEVEL = c.arg % 2 ^ 16 ∧ (t.flux n).queue = cs ∧
          (t.flux n).levelWas.step = c.step ∧ (t.flux n).play = x.play ∧
          t.fld b Reg.Flux.FAST_FS = s.fld b Reg.Flux.FAST_FS ∧ OnlyFlux s t n [0x040]) ∧
      (drops →
        ∃ t, exec (.fluxSet n) s = .next t ∧ t.flux n = { x with queue := cs } ∧
          t.fld b Reg.Flux.DROP_COUNT = min (s.fld b Reg.Flux.DROP_COUNT + 1) (2 ^ 16 - 1) ∧
          (t.reg (b + 0x010)).getLsbD 4 = true ∧ Charged t c.tag Flag.CMD_FAULT ∧ OnlyFlux s t n [0x010, 0x088])) ∧
    (∀ p, x.play = some p → c.step < p.start + 4 * p.e.len →
      (HeadDue s x.queue c cs 0x2 →
        ∃ t, exec (.fluxStop n) s = .next t ∧ (t.flux n).play = some p ∧ (t.flux n).stop = true ∧ (t.flux n).stopAt = some c.step ∧
          (t.flux n).queue = cs ∧ (∀ d, (t.flux n).cont ≠ some (some d)) ∧ OnlyFlux s t n []) ∧
      (HeadDue s x.queue c cs 0x3 → x.levelWas.step ≤ c.step →
        ∃ t, exec (.fluxKill n) s = .next t ∧ (t.flux n).play = none ∧ (t.flux n).cont = none ∧
          (t.flux n).queue = (cs.filter fun d => !(d.code == 0 || d.code == 1)) ∧ t.fld b Reg.Flux.FLEVEL = 0 ∧
          t.fld b Reg.Flux.TRUNC_COUNT = min (s.fld b Reg.Flux.TRUNC_COUNT + (fluxGone x cs).2) (2 ^ 16 - 1) ∧
          t.fld b Reg.Flux.CUR_ENTRY = 0xFFFF ∧ (t.reg (b + 0x010)).getLsbD 2 = true ∧ Charged t p.tag Flag.TRUNCATED ∧
          t.enabled b = s.enabled b ∧ OnlyFlux s t n (0x010 :: 0x040 :: 0x080 :: show')))) ∧
  (∀ (n : Fin 96) (bad : Bool) (s : State) (p : Play), (s.flux n).play = some p →
    let b := Base.flux n
    let x := s.flux n
    let stop := p.start + 4 * p.e.len
    let entry (i : Nat) : Entry := decodeEntry i (rdLE s.bar2 (0x0200_0000 + 16 * i) 16)
    (x.cont = none → 4 ≤ stop → stop < 2 * (s.count + 2) + 4 →
      ∃ t, exec (.fluxPlayBoundary n bad) s = .next t ∧ (t.flux n).play = some p ∧
        ((x.stop = true ∨ x.norm = true) → (t.flux n).cont = some none ∧ OnlyFlux s t n []) ∧
        (∀ i left, x.stop = false → x.norm = false →
          (p.e.hold = true ∧ i = p.e.idx ∧ left = p.left ∨
            p.e.hold = false ∧ 0 < p.left ∧ i = p.e.idx ∧ left + 1 = p.left ∨
            p.e.hold = false ∧ p.left = 0 ∧ p.e.next ≠ 0xFFFF ∧ i = p.e.next ∧ left = (entry i).rep) →
          s.entryValid (s.owner b) (entry i) = true → (entry i).strm = false →
          (t.flux n).cont = some (some (mkPlay (entry i) stop left p.poster p.tag bad)) ∧ FluxParity s t n bad i ∧
            OnlyFluxRead s t n bad []) ∧
        (x.stop = false → x.norm = false → p.e.hold = false → p.left = 0 → p.e.next = 0xFFFF →
          (t.flux n).cont = some none ∧ OnlyFlux s t n [])) ∧
    (stop < 2 * (s.count + 2) →
      (x.cont = some none →
        ∃ t, exec (.fluxPlayBoundary n bad) s = .next t ∧ (t.flux n).play = none ∧ (t.flux n).cont = none ∧
          (t.flux n).stop = false ∧ (t.flux n).norm = false ∧ t.fld b Reg.Flux.CUR_ENTRY = 0xFFFF ∧
          t.fld b Reg.Flux.PLAYS_LEFT = 0 ∧ (t.reg (b + 0x010)).getLsbD 0 = true ∧ OnlyFlux s t n [0x010, 0x044]) ∧
      (∀ d, x.cont = some (some d) →
        ∃ t, exec (.fluxPlayBoundary n bad) s = .next t ∧ (t.flux n).play = some d ∧ (t.flux n).cont = none ∧
          t.fld b Reg.Flux.CUR_ENTRY = d.e.idx % 2 ^ 16 ∧ t.fld b Reg.Flux.PLAYS_LEFT = d.left % 2 ^ 16 ∧
          OnlyFlux s t n [0x044]))) ∧
  (∀ (n : Fin 96) (s : State), s.frozen = false →
    ∃ t, exec (.fluxRefetchComplete n) s = .next t ∧
      (t.flux n).refetch = ((s.flux n).refetch.filter fun i => s.refetchOut (shadowAt (8 * (i % 2 ^ 22)))) ∧
      (t.flux n).play = (s.flux n).play.map (fun p =>
        { p with bad := p.bad && s.refetchOut (shadowAt (stOff (p.e.idx % 2 ^ 16))) }) ∧
      (t.flux n).queue = (s.flux n).queue ∧
      OnlyFlux s t n []) ∧
  (∀ (who : Req) (n : Fin 96) (s r : State), Settled s → s.granted who .flux n = some r →
    let b := Base.flux n
    let x := s.flux n
    let page (t : State) (l : List Nat) : Prop := (∀ m, m ≠ n.val → t.flux m = s.flux m) ∧
      (∀ a, a ∉ l.map (b + ·) → t.reg a = s.reg a) ∧ t = { s with regs := t.regs, fluxes := t.fluxes, used := r.used }
    (s.enabled b = false →
      ∃ t, exec (.fluxEnable who n) s = .next t ∧ t.enabled b = true ∧
        t.flux n = { x with norm := false, ringSeen := false } ∧ page t [0x008]) ∧
    (s.enabled b = true →
      ∃ t, exec (.fluxNormalDisable who n) s = .next t ∧ t.enabled b = false ∧ (t.flux n).norm = x.play.isSome ∧
        (t.flux n).play = x.play ∧ (∀ d, (t.flux n).cont ≠ some (some d)) ∧ (t.flux n).dcq = x.dcq ∧ page t [0x008]) ∧
    (x.levelWas.step ≤ 2 * s.count + 2 → (∀ p, x.play = some p → 2 * s.count + 2 < p.start + 4 * p.e.len) →
      ∃ t, exec (.fluxDisableNow who n) s = .next t ∧ t.enabled b = false ∧ (t.flux n).play = none ∧
        (t.flux n).cont = none ∧ (t.flux n).queue = (x.queue.filter fun d => !(d.code == 0 || d.code == 1)) ∧
        t.fld b Reg.Flux.FLEVEL = 0 ∧ (t.flux n).dcq = x.dcq ∧ (t.flux n).ramp = x.ramp ∧
        t.fld b Reg.Flux.CODE = s.fld b Reg.Flux.CODE ∧
        t.fld b Reg.Flux.TRUNC_COUNT = min (s.fld b Reg.Flux.TRUNC_COUNT + (fluxGone x x.queue).2) (2 ^ 16 - 1) ∧
        ((fluxGone x x.queue).1 ≠ 0 → (t.reg (b + 0x010)).getLsbD 2 = true) ∧
        ((fluxGone x x.queue).1 = 0 → t.reg (b + 0x010) = s.reg (b + 0x010))))

/-- The DC output of a flux channel: range and code in force, the code as a 20-bit two's complement number (R362). -/
def DcIs (t : State) (n : Fin 96) (range : Nat) (code : Int) : Prop :=
  t.dcRange n = range ∧ (t.dcCode n - code) % 2 ^ 20 = 0

/-- A change from the range in force of `s` is allowed: within a class of ranges, or with both codes 0 (R377). -/
def RangeAllowed (s : State) (n : Fin 96) (range : Nat) (code : Int) : Prop :=
  rangeClass range = rangeClass (s.dcRange n) ∨ s.dcCode n = 0 ∧ code = 0

/-- The bias clock, queue, ramps, range changes, DC_DIRECT, faults, monitor and NVM of a flux channel: At a bias edge
the DC part takes, in this order, the ramp's next value, a pending DC_DIRECT, or the head of the queue: a code, a
ramp, a range change, which starts or is refused with 0x14, or a bad entry, which is discarded with 0x16; an empty
queue is an underrun where CONT is set, also while the output is held. BIAS_REFILL asks for one ring entry, which its
read's return brings. A range change completes. D_GO is taken, or refused with 0x15. COMPLIANCE and OPEN raise their
bits and start the fault sequence where they act: flush, FAULT_HELD, and FLT_CODE. The monitor keeps its last good
words while OPEN is live. Power-up takes NVM's values where they check, and a store writes them. Other channels do not
change. (R371, R373, R374, R375, R376, R377, R378, R379, R381, R382, R383, R387) -/
def Obligations.FluxBiasPart : Prop :=
  (∀ (n : Fin 96) (s : State),
    let b := Base.flux n
    let x := s.flux n
    let code := s.dcCode n
    let range := s.dcRange n
    let only (t : State) (l : List Nat) : Prop := (∀ m, m ≠ n.val → t.flux m = s.flux m) ∧ KeepsRegs s t (l.map (b + ·)) ∧
      t = { s with
        regs := t.regs, fluxes := t.fluxes, evchs := t.evchs, host := t.host, msix := t.msix, fns := t.fns
        window := t.window, edges := t.edges, errNow := t.errNow }
    let fault (t : State) (cause : Nat) : Prop := (t.flux n).faultHeld = true ∧ (t.flux n).dcq = [] ∧
        (t.flux n).ramp = none ∧ (t.flux n).direct = none ∧ (t.fld b Reg.Flux.FAULT_CAUSE).testBit cause = true ∧
        (t.reg (b + 0x010)).getLsbD 10 = true ∧ (∀ m, m ≠ n.val → t.flux m = s.flux m) ∧
        (x.change = none → s.fld b Reg.Flux.FLT_RANGE = range → DcIs t n range (signed 20 (s.fld b Reg.Flux.FLT_CODE))) ∧
        (x.change = none → s.fld b Reg.Flux.FLT_RANGE ≠ range → DcIs t n range 0 ∧
          (t.flux n).change = some ⟨s.fld b Reg.Flux.FLT_RANGE, signed 20 (s.fld b Reg.Flux.FLT_CODE)⟩)
    let edge : Prop := s.run = true ∧ s.inDev .cellar = false ∧ x.edgeAt ≠ some s.count ∧
      ((s.count : Int) - s.fld b Reg.Flux.BCLK_PH) % s.fld b Reg.Flux.BCLK_DIV = 0
    (edge → x.change = none → x.busyTil ≤ s.ticks → s.calHolds 1 n = false →
      ∃ t, exec (.biasEdge n) s = .next t ∧ (t.flux n).edgeAt = some s.count ∧ (t.flux n).queue = x.queue ∧
        (∀ r, x.ramp = some r → DcIs t n range (r.p + (r.c - r.p) * (r.i + 1) / r.n) ∧ (t.flux n).dcq = x.dcq ∧
          (t.flux n).ramp = (if r.n ≤ r.i + 1 then none else some { r with i := r.i + 1 }) ∧ only t [0x05C]) ∧
        (∀ d : Nat × Int, x.ramp = none → x.direct = some d → (t.flux n).direct = none ∧ (t.flux n).dcq = x.dcq ∧
          (d.1 = range → DcIs t n range d.2 ∧ only t [0x05C]) ∧
          (d.1 ≠ range → RangeAllowed s n d.1 d.2 →
            (t.flux n).change = some ⟨d.1, d.2⟩ ∧ (t.flux n).busyTil = s.ticks + 1250 ∧ only t [])) ∧
        (∀ w ws, x.ramp = none → x.direct = none → x.dcq = w :: ws →
          let v := w.toNat
          let target := signed 20 (v % 2 ^ 20)
          (t.flux n).dcq = ws ∧
          (v / 2 ^ 20 = 0 → DcIs t n range target ∧ only t [0x05C]) ∧
          (∀ k, v / 2 ^ 20 = 2 ^ 10 + k → 0 < k → k < 2 ^ 10 →
            DcIs t n range (code + (target - code) / k) ∧ only t [0x05C] ∧
            (t.flux n).ramp = (if k ≤ 1 then none else some ⟨code, target, k, 1⟩)) ∧
          (∀ k, v / 2 ^ 20 = 2 ^ 11 + k → k < 7 →
            (RangeAllowed s n k target → (t.flux n).change = some ⟨k, target⟩ ∧ only t []) ∧
            (¬ RangeAllowed s n k target → (t.flux n).change = none ∧ DcIs t n range code ∧
              (t.reg (b + 0x010)).getLsbD 13 = true ∧
              (s.bit b Reg.Hdr.VALID = false → t.fld b Reg.Hdr.CODE = 0x14 ∧ t.fld b Reg.Hdr.INFO = k) ∧
              only t [0x010, 0x01C])) ∧
          ((v / 2 ^ 30 = 3 ∨ v / 2 ^ 20 = 2 ^ 10 ∨ v / 2 ^ 30 = 0 ∧ v / 2 ^ 20 ≠ 0) → DcIs t n range code ∧
            t.fld b Reg.Flux.QDROP_COUNT = min (s.fld b Reg.Flux.QDROP_COUNT + 1) (2 ^ 16 - 1) ∧
            (t.reg (b + 0x010)).getLsbD 11 = true ∧
            (s.bit b Reg.Hdr.VALID = false → t.fld b Reg.Hdr.CODE = 0x16 ∧ t.fld b Reg.Hdr.INFO = v % 2 ^ 24) ∧
            only t [0x010, 0x01C, 0x07C])) ∧
        (x.ramp = none → x.direct = none → x.dcq = [] → DcIs t n range code ∧
          (s.bit b Reg.Flux.CONT = true → (t.reg (b + 0x010)).getLsbD 1 = true ∧
            t.fld b Reg.Flux.UNDERRUN_COUNT = min (s.fld b Reg.Flux.UNDERRUN_COUNT + 1) (2 ^ 16 - 1)) ∧
          (s.bit b Reg.Flux.CONT = false → only t []))) ∧
    (edge → x.change ≠ none ∨ s.ticks < x.busyTil ∨ s.calHolds 1 n = true → x.ramp = none → x.direct = none → x.dcq = [] →
      s.bit b Reg.Flux.CONT = true →
      ∃ t, exec (.biasEdge n) s = .next t ∧ (t.reg (b + 0x010)).getLsbD 1 = true ∧ DcIs t n range code ∧
        t.fld b Reg.Flux.UNDERRUN_COUNT = min (s.fld b Reg.Flux.UNDERRUN_COUNT + 1) (2 ^ 16 - 1)) ∧
    (∀ (c : Fin 4) (ring i : Nat) (q : DramReq) (qs : List DramReq), (s.dch c).failing = none →
      (s.dch c).inflight = q :: qs → q.use = .bias n ring i → q.fwd = false → (s.ring ring).asked = [(i, none)] →
      let bytes := q.data
      let k := ofBytesLE (bytes.take 1)
        ∃ t, exec (.dramReadComplete c none false) s = .next t ∧ (t.ring ring).cons = (i + 1) % 2 ^ 32 ∧
          (t.ring ring).asked = [] ∧ (∀ m, m ≠ n.val → t.flux m = s.flux m) ∧
          (1 ≤ k → k ≤ 15 → ofBytesLE ((bytes.drop 1).take 3) = 0 → x.faultHeld = false →
            (t.flux n).dcq = x.dcq ++
              (List.range k).map fun i => BitVec.ofNat 32 (ofBytesLE ((bytes.drop (4 + 4 * i)).take 4))) ∧
          (1 ≤ k → k ≤ 15 → ofBytesLE ((bytes.drop 1).take 3) = 0 → x.faultHeld = true → (t.flux n).dcq = x.dcq ∧
            t.fld b Reg.Flux.QDROP_COUNT = min (s.fld b Reg.Flux.QDROP_COUNT + k) (2 ^ 16 - 1)) ∧
          ((k = 0 ∨ 15 < k) → (t.flux n).dcq = x.dcq ∧ (t.reg (b + 0x010)).getLsbD 11 = true)) ∧
    (∀ r, s.enabled b = true → s.dramShut = false →
      let ring := s.fld b Reg.Flux.BIAS_RING
      let y := s.ring ring
      let i := (y.cons + y.asked.length) % 2 ^ 32
      let da := y.daddr * 64 + i % 2 ^ y.log2 * 64
      x.dcq.length + 15 * (y.asked.length + 1) ≤ 256 →
      (s.biasRingOk n = true → s.ringUnasked ring = true → s.chargeRes (b + 0x024) (s.limitOf b) = some r →
        s.portMay 3 da = true →
        ∃ t, exec (.biasRefill n) s = .next t ∧ (t.ring ring).asked = y.asked ++ [(i, none)] ∧
          (t.ring ring).cons = y.cons ∧ t.flux n = { x with ringSeen := false } ∧
          ∃ q ∈ (t.dch (da / 256 % 4)).reads ++ (t.dch (da / 256 % 4)).inflight,
            q.da = da ∧ q.port = 3 ∧ q.use = .bias n ring i) ∧
      (s.biasRingOk n = false → x.ringSeen = false →
        ∃ t, exec (.biasRefill n) s = .next t ∧ t.flux n = { x with ringSeen := true } ∧
          (t.reg (b + 0x010)).getLsbD 12 = true ∧ only t [0x010, 0x01C] ∧
          (s.bit b Reg.Hdr.VALID = false → t.fld b Reg.Hdr.CODE = 0x12 ∧ t.fld b Reg.Hdr.INFO = ring))) ∧
    (∀ c, x.change = some c → c.range < 8 →
      ∃ t, exec (.rangeChangeComplete n) s = .next t ∧ DcIs t n c.range c.code ∧ (t.flux n).change = none ∧
        (t.flux n).changed = true ∧ (t.reg (b + 0x010)).getLsbD 7 = true ∧ only t [0x010, 0x05C]) ∧
    (∀ d : Nat × Int, x.direct = some d → s.run = false → d.1 = range → x.ramp = none → x.change = none →
      s.calHolds 1 n = false →
      ∃ t, exec (.dcDirectApply n) s = .next t ∧ DcIs t n range d.2 ∧ (t.flux n).direct = none ∧ only t [0x05C]) ∧
    ((range ≤ 3 →
        ∃ t, exec (.compliance n) s = .next t ∧ (t.reg (b + 0x010)).getLsbD 8 = true ∧
          (s.bit b Reg.Flux.COMP_ACT = false → t.flux n = { x with compLive := true } ∧ only t [0x010]) ∧
          (s.bit b Reg.Flux.COMP_ACT = true → fault t 1)) ∧
      (range ≤ 3 → x.compLive = true → 8192 ≤ code.natAbs →
        ∃ t, exec (.openDetect n) s = .next t ∧ (t.reg (b + 0x010)).getLsbD 9 = true ∧
          (s.bit b Reg.Flux.OPEN_ACT = false → t.flux n = { x with openLive := true } ∧ only t [0x010]) ∧
          (s.bit b Reg.Flux.OPEN_ACT = true → fault t 0))) ∧
    (∃ t, exec (.complianceClear n) s = .next t ∧ t.flux n = { x with compLive := false, openLive := false } ∧ only t []) ∧
    (∀ v i : Int, s.inDev .off = false → ∃ t, exec (.monitorMeasure n v i) s = .next t ∧ only t [0x064, 0x068] ∧
      t.bit b Reg.Flux.OPEN = x.openLive ∧ t.bit b Reg.Flux.COMPLIANCE = x.compLive ∧
      t.bit b Reg.Flux.RANGE_CHANGED = x.changed ∧ (t.flux n).changed = false ∧
      (x.openLive = false → (t.fld b Reg.Flux.MON_V : Int) = v % 2 ^ 24 ∧ (t.fld b Reg.Flux.MON_I : Int) = i % 2 ^ 25) ∧
      (x.openLive = true → t.fld b Reg.Flux.MON_V = s.fld b Reg.Flux.MON_V ∧ t.reg (b + 0x068) = s.reg (b + 0x068))) ∧
    (x.powered = false → s.inDev .off = false → s.power.por = false → ∀ good : Bool,
      ∃ t, exec (.dcPowerUp n good) s = .next t ∧ (t.flux n).powered = true ∧
        (∀ pu flt, good = true → x.nvm = some (pu, flt) → t.reg (b + 0x074) = pu ∧ t.reg (b + 0x078) = flt ∧
          DcIs t n (Reg.Flux.PU_RANGE.get pu) (signed 20 (Reg.Flux.PU_CODE.get pu)) ∧ only t [0x05C, 0x074, 0x078]) ∧
        (good = false ∨ x.nvm = none → (t.reg (b + 0x010)).getLsbD 14 = true ∧ DcIs t n range code ∧ only t [0x010])) ∧
    (∀ w, x.storing = some w →
      ∃ t, exec (.fluxNvmStoreComplete n) s = .next t ∧ t.bit b Reg.Flux.NVM_BUSY = false ∧
        t.flux n = { x with storing := none, nvm := some w } ∧ only t [0x070])) ∧
  (∀ (who : Req) (n : Fin 96) (s r : State), Settled s → s.granted who .flux n = some r →
    let b := Base.flux n
    let x := s.flux n
    let page (t : State) (l : List Nat) : Prop := (∀ m, m ≠ n.val → t.flux m = s.flux m) ∧
      (∀ a, a ∉ l.map (b + ·) → t.reg a = s.reg a) ∧ t = { s with regs := t.regs, fluxes := t.fluxes, used := r.used }
    (∀ data : Word,
      let range := data.toNat / 2 ^ 20 % 8
      let code := data.toNat % 2 ^ 20
      (x.faultHeld = false → x.dcq = [] → range < 7 →
        ∃ t, exec (.dGo who n data) s = .next t ∧ t.flux n = { x with direct := some (range, signed 20 code) } ∧
          t.fld b Reg.Flux.D_RANGE = range ∧ t.fld b Reg.Flux.D_CODE = code ∧ page t [0x058]) ∧
      (∀ why, (x.faultHeld = true ∧ why = 0x200 ∨ x.faultHeld = false ∧ x.dcq ≠ [] ∧ why = x.dcq.length) →
        s.bit b Reg.Hdr.VALID = false → why < 2 ^ 24 →
        ∃ t, exec (.dGo who n data) s = .next t ∧ t.flux n = x ∧ t.fld b Reg.Hdr.CODE = 0x15 ∧
          t.fld b Reg.Hdr.INFO = why ∧ page t [0x01C])) ∧
    (s.fluxCauseLive n = false →
      ∃ t, exec (.faultClr who n) s = .next t ∧ t.flux n = { x with faultHeld := false } ∧ page t []) ∧
    (s.fluxCauseLive n = true → ∃ t, exec (.faultClr who n) s = .next t ∧ t.flux n = x ∧ page t []) ∧
    (x.storing = none → x.stores < 10000 →
      ∃ t, exec (.fluxNvmStore who n) s = .next t ∧ t.bit b Reg.Flux.NVM_BUSY = true ∧
        t.flux n = { x with storing := some (s.reg (b + 0x074), s.reg (b + 0x078)), stores := x.stores + 1 } ∧
        page t [0x070]) ∧
    (x.storing = none → 10000 ≤ x.stores → x.stores < 2 ^ 24 → s.bit b Reg.Hdr.VALID = false →
      ∃ t, exec (.fluxNvmStore who n) s = .next t ∧ t.flux n = x ∧ t.fld b Reg.Hdr.CODE = 0x17 ∧
        t.fld b Reg.Hdr.INFO = x.stores ∧ page t [0x01C]))

/-! ### Functions and rings (chapter 14) -/

/-- Of the rings only `r` changes; beside it, what the queue manager touches: budgets used, cached contexts, the requests
of the DRAM channels, registers of the DRAM controller, and what interrupt delivery writes. -/
def OnlyRing (s t : State) (r : Nat) : Prop :=
  (∀ q, q ≠ r → t.ring q = s.ring q) ∧ (∀ a, ¬ irqWrites a → ¬ memCtl a → t.reg a = s.reg a) ∧
    t = { s with
      regs := t.regs, used := t.used, rings := t.rings, fns := t.fns, msix := t.msix, ctxCache := t.ctxCache
      host := t.host, dram := t.dram, dchs := t.dchs, dwait := t.dwait, evchs := t.evchs, window := t.window, edges := t.edges, errNow := t.errNow }

/-- A ring with the fields KEEP, KIND, LOG2 and VECTOR of a word for 0x064; KIND 7 is reserved and leaves KIND (R14). -/
def ringSet (x : RingSt) (w : Nat) : RingSt :=
  { x with
    keep := w.testBit 30, kind := if w / 2 ^ 24 % 8 = 7 then x.kind else w / 2 ^ 24 % 8
    log2 := w / 2 ^ 16 % 32, vector := w / 2 ^ 8 % 64 }

/-- Condition `i` of R399 for enabling ring `r` with context `x`. -/
def ringMay (s : State) (r : Nat) (x : RingSt) (i : Nat) : Prop :=
  let unit := min 4096 (64 * 2 ^ x.log2)
  let at64 := x.daddr * 64
  match i with
  | 1 => 4 ≤ x.log2 ∧ x.log2 ≤ 20 ∧ x.kind ≠ 7
  | 2 => x.haddr % unit = 0 ∧ at64 % unit = 0
  | 3 => (if x.kind = 2 then s.inVat at64 (64 * 2 ^ x.log2) else s.inRrg at64 (64 * 2 ^ x.log2)) = true
  | 4 => ∀ e ∈ s.rings, e.1 ≠ r → e.2.en = true → e.2.daddr + 2 ^ e.2.log2 ≤ x.daddr ∨ x.daddr + 2 ^ x.log2 ≤ e.2.daddr
  | _ => x.keep = true → x.retain ≤ 2 ^ x.log2

/-- Doorbells, the mover, records, ring enable, disable and stop, RING_SEL and the quota of a function: A doorbell
that R403 allows sets the producer or consumer index, or waits for the end of a freeze; any other leaves the ring,
sets DB_FAULT and records 0x15 with the ring. The mover copies entries in index order between the copies, at most as
many as asked, as are there and as the budget pays, those of a device-produced ring as DRAM returns them, and writes
WB, at most once in 256 ns, with the signal that moderation asks for. A record goes to slot P, is dropped and counted
when the ring is full or the controller frozen, and waits where no burst is left. A DMA error stops the ring, with
DMA_ERR and 0x17. An enable needs the five conditions of R399, else 0x13 with one that is broken; it sets the indices
to 0, or restores the kept entries. While EN or STOPPING is 1 the context is refused with 0x12. A write of 0 to EN
disables, and the ring is settled when the mover has stopped. RING_SEL outside the quota is refused with 0x11, a quota
that overlaps, passes ring 262,143 or takes away an enabled ring with 0x14. (R397, R398, R399, R400, R401, R402, R403,
R406, R407, R416) -/
def Obligations.HostRings : Prop :=
  (∀ (f : Fin 64) (single prod : Bool) (data : BitVec 64) (s : State),
    Settled s → s.hostOpen = true → (s.fnSt f).flr = none → s.doorbells = [] ∨ s.frozen = true →
    let b := Base.fn f
    let r := data.toNat % 2 ^ 18
    let v := data.toNat / 2 ^ 32
    let x := (s.doorbells.foldl State.bellOut s).ring r
    let ahead := (v + 2 ^ 32 - (if prod then x.prod else x.cons) % 2 ^ 32) % 2 ^ 32
    let holds := if prod then (v + 2 ^ 32 - x.cons % 2 ^ 32) % 2 ^ 32 else (x.prod + 2 ^ 32 - v) % 2 ^ 32
    let ok : Prop := single = true ∧ s.ringFn r = some f.val ∧ x.en = true ∧
      (x.kind = 0 ∨ x.kind = 2 ∨ x.kind = 3 ↔ prod = true) ∧ ahead < 2 ^ 31 ∧ holds ≤ 2 ^ x.log2
    let cmd : Instr := if prod then .dbProd f single data else .dbCons f single data
    ∃ t, exec cmd s = .next t ∧
      (ok → s.frozen = false → t.ring r = (if prod then { x with prod := v } else { x with cons := v }) ∧
        (∀ a, t.reg a = s.reg a) ∧ t.host = s.host ∧ t.dram = s.dram ∧ OnlyRing s t r) ∧
      (ok → s.frozen = true → t = { s with doorbells := s.doorbells ++ [⟨f.val, prod, data⟩] }) ∧
      (¬ ok → t.rings = s.rings ∧ t.doorbells = s.doorbells ∧ (t.reg (b + 0x010)).getLsbD 1 = true ∧
        (s.bit b Reg.Hdr.VALID = false → t.fld b Reg.Hdr.CODE = 0x15 ∧ t.fld b Reg.Hdr.INFO = r) ∧
        KeepsRegs s t [b + 0x010, b + 0x01C] ∧ OnlyRegs s t)) ∧
  (∀ (r f : Nat) (entry : List Byte) (s : State), s.ringFn r = some f → f < 64 → entry.length = 64 →
    s.ringPinned r = true ∨ s.ctxCache.contains r = true →
    let x := s.ring r
    let t := s.ringPush r entry
    let full : Prop := 2 ^ x.log2 ≤ (x.prod + 2 ^ 32 - x.cons % 2 ^ 32) % 2 ^ 32
    let turn : Prop := s.dramShut = false ∧ s.dramWaits 4 f = false
    (s.frozen = true ∨ turn ∧ full → t.ring r = { x with drop := min (x.drop + 1) (2 ^ 32 - 1) } ∧ t.dram = s.dram ∧
      t.dwait = s.dwait ∧ (t.reg (Base.fn f + 0x010)).getLsbD 2 = true ∧
      ∀ a, a ≠ Base.fn f + 0x010 → t.reg a = s.reg a) ∧
    (turn → ¬ full → (x.en || x.stopping) = true → s.chargeHost f ≠ none →
      t.ring r = { x with prod := (x.prod + 1) % 2 ^ 32 } ∧
      BytesPut s.dram t.dram (x.daddr * 64 + x.prod % 2 ^ x.log2 * 64) entry ∧ t.dwait = s.dwait ∧ OnlyRing s t r) ∧
    (s.frozen = false → s.dramShut = true ∨ s.dramWaits 4 f = true ∨
        ¬ full ∧ (x.en || x.stopping) = true ∧ s.chargeHost f = none →
      t.dwait = s.dwait ++ [⟨4, f, .record r entry⟩] ∧ t.rings = s.rings ∧ t.dram = s.dram ∧ OnlyRing s t r)) ∧
  (∀ (r : Fin 262144) (cnt f : Nat) (s : State), s.ringFn r = some f → s.dramShut = false → (s.fnSt f).flr = none →
    let x := s.ring r
    let host : Bool := x.kind == 0 || x.kind == 2 || x.kind == 3
    let left := (x.prod + 2 ^ 32 - x.moved) % 2 ^ 32
    let i := (x.moved + x.asked.length) % 2 ^ 32
    let dev := x.daddr * 64 + i % 2 ^ x.log2 * 64
    let hst := f * 2 ^ 64 + (x.haddr + x.moved % 2 ^ x.log2 * 64) % 2 ^ 64
    let wbAt := f * 2 ^ 64 + x.wb % 2 ^ 64
    let e := s.msixEntry (64 * f + x.vector)
    let still (t : State) (u : Nat) : Prop := (t.ring r).wbLast = x.wbLast ∧ (t.ring r).unsignalled = u
    let rests (idx : Nat) : Prop :=
      (idx = x.wbLast ∨ ∃ w, x.wbTick = some w ∧ s.ticks < w + 64) ∧ x.modTime = 0 ∧ x.modCount = 0
    let writesWb (t : State) (idx u : Nat) : Prop :=
      idx ≠ x.wbLast → (∀ w, x.wbTick = some w → w + 64 ≤ s.ticks) →
        (t.ring r).wbLast = idx ∧ (t.ring r).wbTick = some s.ticks ∧
        (x.modTime = 0 → (t.ring r).unsignalled = if x.modCount ≤ u then 0 else u) ∧
        (x.modTime = 0 → x.modCount = 0 → s.msixHeld f x.vector = true →
          rdBytes t.host wbAt 8 = leBytes 8 idx ∧ (t.fnSt f).pba.getLsbD x.vector = true) ∧
        (x.modTime = 0 → x.modCount = 0 → s.msixHeld f x.vector = false → e.window = none →
          rdBytes t.host (f * 2 ^ 64 + e.addr.toNat) 4 = leBytes 4 e.data.toNat)
    (x.en || x.stopping) = true → x.err = false →
    (host = true → x.asked = [] → x.prod < 2 ^ 32 → x.moved < 2 ^ 32 →
      ∃ t j, exec (.moverTransfer r cnt) s = .next t ∧ j ≤ cnt ∧ j ≤ left ∧
        (t.ring r).moved = (x.moved + j) % 2 ^ 32 ∧ (t.ring r).prod = x.prod ∧ (t.ring r).cons = x.cons ∧
        (j = cnt ∨ j = left ∨ t.dramWaits 4 f = true ∨ t.chargeHost f = none) ∧ OnlyRing s t r) ∧
    (Settled s → x.moved < 2 ^ 32 → i ≠ x.prod → (s.ringPinned r = true ∨ s.ctxCache.contains r.val = true) →
      s.dramWaits 4 f = false → s.chargeHost f ≠ none → s.portMay 4 dev = true → x.vector < 64 →
      ∃ t, exec (.moverTransfer r 1) s = .next t ∧ OnlyRing s t r ∧
        (host = true → x.asked = [] → (t.ring r).moved = (x.moved + 1) % 2 ^ 32 ∧
          BytesPut s.dram t.dram dev (rdBytes s.host hst 64) ∧
          (rests x.cons → still t (x.unsignalled + 1) ∧ t.host = s.host) ∧ writesWb t x.cons (x.unsignalled + 1)) ∧
        (host = false → (t.ring r).moved = x.moved ∧ (t.ring r).asked = x.asked ++ [(i, none)] ∧ t.dram = s.dram ∧
          (∃ q ∈ (t.dch (dev / 256 % 4)).reads ++ (t.dch (dev / 256 % 4)).inflight,
            q.da = dev ∧ q.port = 4 ∧ q.use = .move f r i) ∧
          let idx := x.moved + 2 ^ 32 * x.drop
          (rests idx → still t x.unsignalled ∧ t.host = s.host) ∧ writesWb t idx x.unsignalled)) ∧
    (∀ (c : Fin 4) (q : DramReq) (qs : List DramReq) (k : Nat), Settled s → host = false → x.vector < 64 →
      (s.dch c).failing = none → (s.dch c).inflight = q :: qs → q.use = .move f r k → q.fwd = false →
      x.asked = [(k, none)] → q.data.length = 64 →
      let at' := f * 2 ^ 64 + (x.haddr + k % 2 ^ x.log2 * 64) % 2 ^ 64
      let idx := (x.moved + 1) % 2 ^ 32 + 2 ^ 32 * x.drop
      ∃ t, exec (.dramReadComplete c none false) s = .next t ∧ (t.ring r).moved = (x.moved + 1) % 2 ^ 32 ∧
        (t.ring r).asked = [] ∧ (rests idx → still t (x.unsignalled + 1) ∧ BytesPut s.host t.host at' q.data) ∧
        writesWb t idx (x.unsignalled + 1)) ∧
    (f < 64 → ∃ t, exec (.moverDmaError r) s = .next t ∧ t.ring r = { x with err := true } ∧
      (∀ q, q ≠ r.val → t.ring q = s.ring q) ∧ (t.reg (Base.fn f + 0x010)).getLsbD 5 = true ∧
      (s.bit (Base.fn f) Reg.Hdr.VALID = false →
        t.fld (Base.fn f) Reg.Hdr.CODE = 0x17 ∧ t.fld (Base.fn f) Reg.Hdr.INFO = r) ∧
      KeepsRegs s t [Base.fn f + 0x010, Base.fn f + 0x01C])) ∧
  (∀ (r : Fin 262144) (s : State),
    let x := s.ring r
    let host : Bool := x.kind == 0 || x.kind == 2 || x.kind == 3
    let n := (x.prod + 2 ^ 32 - x.moved % 2 ^ 32) % 2 ^ 32
    let only (t : State) : Prop := (∀ q, q ≠ r.val → t.ring q = s.ring q) ∧ KeepsRegs s t [] ∧
      t = { s with
        regs := t.regs, rings := t.rings, fns := t.fns, msix := t.msix, host := t.host, evchs := t.evchs
        window := t.window, edges := t.edges, errNow := t.errNow }
    x.stopping = true → x.asked = [] →
    (host = true →
      ∃ t, exec (.ringStopped r) s = .next t ∧ t.ring r = { x with stopping := false, cons := x.prod, moved := x.prod } ∧
        only t) ∧
    (host = false →
      ∃ t, exec (.ringStopped r) s = .next t ∧ (t.ring r).stopping = false ∧ (t.ring r).retain = n ∧
        (t.ring r).kept = ((List.range n).map fun i =>
          rdBytes s.dram (x.daddr * 64 + (x.moved + i) % 2 ^ x.log2 * 64) 64) ∧
        t.ring r = { x with stopping := false, moved := x.prod, retain := n, kept := (t.ring r).kept } ∧ only t)) ∧
  (∀ (who : Req) (f : Fin 64) (data : Word) (s r : State), Settled s → s.granted who .fn f = some r →
    let b := Base.fn f
    let sel := s.fld b Reg.Fn.RING_SEL
    let x := s.ring sel
    let y := ringSet x data.toNat
    let other (t : State) : Prop := ∀ q, q ≠ sel → t.ring q = s.ring q
    let refused (t : State) (code info : Nat) : Prop :=
      (s.bit b Reg.Hdr.VALID = false → t.fld b Reg.Hdr.CODE = code ∧ t.fld b Reg.Hdr.INFO = info) ∧
        (∀ a, a ≠ b + 0x01C → t.reg a = s.reg a) ∧ t = { s with regs := t.regs, rings := t.rings, used := r.used }
    (s.ringFn sel = some f.val → x.en = false → x.stopping = false →
      (∃ t, exec (.ringEnable who f data) s = .next t ∧ other t ∧
        ((∀ i, 1 ≤ i → i ≤ 5 → ringMay s sel y i) →
          t.ring sel = { y with
            en := true, err := false, prod := if y.keep then x.kept.length else 0, cons := 0, moved := 0, kept := []
            retain := 0, unsignalled := 0, firstFrame := 0, wbLast := 0, wbTick := none, asked := [] } ∧
          (y.keep = false → t.dram = s.dram) ∧
          (y.keep = true → x.kept.length ≤ 2 ^ y.log2 → (∀ e ∈ x.kept, e.length = 64) →
            ∀ i, i < x.kept.length → rdBytes t.dram (y.daddr * 64 + i * 64) 64 = x.kept.getD i []) ∧
          t = { s with rings := t.rings, dram := t.dram, used := r.used }) ∧
        (∀ i, 1 ≤ i → i ≤ 5 → (∀ j, 1 ≤ j → j < i → ringMay s sel y j) → ¬ ringMay s sel y i →
          t.ring sel = y ∧ refused t 0x13 i)) ∧
      (∃ t, exec (.ringDisable who f data) s = .next t ∧ t.ring sel = y ∧ other t ∧
        t = { s with rings := t.rings, used := r.used })) ∧
    (s.ringFn sel = some f.val → x.stopping = true →
      (∃ t, exec (.ringEnable who f data) s = .next t ∧ t.ring sel = x ∧ other t ∧ refused t 0x12 0x064) ∧
      (∃ t, exec (.ringDisable who f data) s = .next t ∧ t.ring sel = x ∧ other t ∧ refused t 0x12 0x064)) ∧
    (s.ringFn sel = some f.val → x.stopping = false → x.en = true →
      (∃ t, exec (.ringEnable who f data) s = .next t ∧ t.ring sel = x ∧ other t ∧ refused t 0x12 0x064) ∧
      (∃ t, exec (.ringDisable who f data) s = .next t ∧ t.ring sel = { x with en := false, stopping := true } ∧ other t ∧
        (y = x → t = { s with rings := t.rings, used := r.used }) ∧ (y ≠ x → refused t 0x12 0x064))) ∧
    (s.ringFn sel ≠ some f.val → sel < 2 ^ 18 →
      ∃ t, exec (.ringEnable who f data) s = .next t ∧ t.rings = s.rings ∧ refused t 0x11 sel) ∧
    (let asked := data.toNat % 2 ^ 18
      ∃ t, exec (.ringSelWrite who f data) s = .next t ∧ t.rings = s.rings ∧
        (s.ringFn asked = some f.val → t.fld b Reg.Fn.RING_SEL = asked ∧ (∀ a, a ≠ b + 0x060 → t.reg a = s.reg a) ∧
          t = { s with regs := t.regs, used := r.used }) ∧
        (s.ringFn asked ≠ some f.val → t.fld b Reg.Fn.RING_SEL = sel ∧ refused t 0x11 asked)) ∧
    (let base := data.toNat % 2 ^ 12
      let count := data.toNat / 2 ^ 16 % 2 ^ 13
      let same : Prop := base = s.fld b Reg.Fn.RING_BASE ∧ count = s.fld b Reg.Fn.RING_COUNT
      let clash : Prop := ∃ g, g < 64 ∧ g ≠ f.val ∧ 0 < count ∧ 0 < s.fld (Base.fn g) Reg.Fn.RING_COUNT ∧
        base < s.fld (Base.fn g) Reg.Fn.RING_BASE + s.fld (Base.fn g) Reg.Fn.RING_COUNT ∧
        s.fld (Base.fn g) Reg.Fn.RING_BASE < base + count
      let lost : Prop := ∃ e ∈ s.rings, e.2.en = true ∧ s.ringFn e.1 = some f.val ∧
        ¬ (base * 64 ≤ e.1 ∧ e.1 < (base + count) * 64)
      let bad : Prop := clash ∨ 262144 < (base + count) * 64 ∨ lost
      ∃ t, exec (.quotaWrite who f data) s = .next t ∧ t.rings = s.rings ∧
        ((reqMgmt who || reqFn0 who) = true → same → t = { s with used := r.used }) ∧
        ((reqMgmt who || reqFn0 who) = true → ¬ same → ¬ bad →
          t.fld b Reg.Fn.RING_BASE = base ∧ t.fld b Reg.Fn.RING_COUNT = count ∧
          (∀ a, a ≠ b + 0x048 → t.reg a = s.reg a) ∧ t = { s with regs := t.regs, used := r.used }) ∧
        ((reqMgmt who || reqFn0 who) = true → ¬ same → bad → refused t 0x14 0x048) ∧
        ((reqMgmt who || reqFn0 who) = false → t.reg (b + 0x048) = s.reg (b + 0x048) ∧
          (s.bit b Reg.Hdr.VALID = false → t.fld b Reg.Hdr.CODE = 0x01) ∧ (∀ a, a ≠ b + 0x01C → t.reg a = s.reg a))))

/-- A job entry's field of `k` bytes from byte `o` of the entry (R408). -/
def jobAt (bytes : List Byte) (o k : Nat) : Nat := ofBytesLE ((bytes.drop o).take k)

/-- A job entry is malformed: type, CRC, reserved fields, operation, or a field that the operation does not use or that is
out of its range (R408, R410). -/
def JobMalformed (bytes : List Byte) : Prop :=
  let op := jobAt bytes 2 1
  let len := jobAt bytes 16 4
  jobAt bytes 0 2 ≠ 0x4A42 ∨ jobAt bytes 60 4 ≠ crc32 (bytes.take 60) ∨ jobAt bytes 3 1 ≠ 0 ∨ jobAt bytes 56 4 ≠ 0 ∨
    op < 1 ∨ 4 < op ∨
    (if op = 1 then jobAt bytes 24 32 ≠ 0 ∨ len % 8 ≠ 0 ∨ len < 8 ∨ 2 ^ 24 < len ∨ jobAt bytes 20 4 % 8 ≠ 0
      else len ≠ 0 ∨ jobAt bytes 20 4 ≠ 0 ∨ op ≠ 2 ∧ jobAt bytes 8 8 ≠ 0)

/-- Only the job of ring `r` changes, and what interrupt delivery writes. -/
def OnlyJob (s t : State) (r : Nat) (j : Option Job) : Prop :=
  t.ring r = { s.ring r with job := j } ∧ (∀ q, q ≠ r → t.ring q = s.ring q) ∧ KeepsRegs s t [] ∧
    t = { s with
      regs := t.regs, rings := t.rings, fns := t.fns, msix := t.msix, host := t.host, evchs := t.evchs
      window := t.window, edges := t.edges, errNow := t.errNow }

/-- Sequencer `n` takes the write of 0 to ENABLE in `s`: one whose start still waits for Running stops at once with STOPPED, and
an issuing one is asked to stop (R94, R128). -/
def AskedToStop (s t : State) (n : Nat) : Prop :=
  let q := s.seq n
  let on := s.enabled (Base.seq n) && q.issuing
  let waits := on && q.fresh && !(s.running && s.run)
  t.enabled (Base.seq n) = false ∧
    (waits = true → t.seq n = { q with held := false, issuing := false, fresh := false } ∧
      (t.reg (Base.seq n + 0x010)).getLsbD 0 = true) ∧
    (waits = false → t.seq n = { q with held := false, stopReq := q.stopReq || on } ∧
      t.reg (Base.seq n + 0x010) = s.reg (Base.seq n + 0x010))

/-- The stages of a function-level reset, and the job service: A reset notes its step t0, drops held accesses and the
function's jobs, and disables its sequencers normally (stated for a function that owns no other page with a disable);
one under way is not restarted. A link-down reset is one of function 0, which starts it in all 64. 200 µs on, living
sequencers are asked to stop at once; when the records are out, the rings are disabled; when they have stopped, MSI-X
state, IRQ_STAT, IRQ_EN and counters are reset and FLR_DONE is set; after that of function 0 VF Enable is what the
host's next write makes it (log 8). The job service takes an entry, judges it in the model's order 0x01, 0x02, 0x06,
0x05, copies a LOAD block by block within the access budget, starts the selected sequencers in the START step, stops
them, waits for them, and hands one completion to the LOG ring. (R128, R129, R389, R407, R408, R409, R410, R411, R412,
R414, R415) -/
def Obligations.ResetsAndJobs : Prop :=
  (∀ (f : Fin 64) (s : State), Settled s →
    let b := Base.fn f
    let x := s.fnSt f
    let mine (n : Nat) : Prop := s.owner (Base.seq n) = f
    (exec .linkDownReset s = exec (.flrInitiate 0) s) ∧
    (f.val ≠ 0 → x.flr ≠ none → exec (.flrInitiate f) s = .next s) ∧
    (x.flr = none →
      ∃ t, exec (.flrInitiate f) s = .next t ∧ (t.fnSt f).flr = some (2 * s.count + 2, .stopping) ∧ (t.fnSt f).held = [] ∧
        (∀ g, g < 64 → f.val = 0 → (t.fnSt g).flr ≠ none) ∧
        (∀ g, f.val ≠ 0 → g ≠ f.val → (t.fnSt g).flr = (s.fnSt g).flr ∧ (t.fnSt g).held = (s.fnSt g).held)) ∧
    (f.val ≠ 0 → x.flr = none →
      (∀ ty n, ty ∈ [PageType.tone, .out, .rout, .lane, .syn, .flux, .acq, .adc, .jport, .evg, .eth] → n < pageCount ty →
        s.owner (pageBase ty n) ≠ f) →
      ∃ t, exec (.flrInitiate f) s = .next t ∧
        (∀ q, s.ringFn q = some f.val → t.ring q = { s.ring q with job := none }) ∧
        (∀ q, s.ringFn q ≠ some f.val → t.ring q = s.ring q) ∧
        (∀ n, n < 256 → mine n → AskedToStop s t n) ∧ (∀ n, n < 256 → ¬ mine n → t.seq n = s.seq n) ∧
        (∀ a, ¬ irqWrites a → (∀ n, n < 256 → mine n → a ≠ Base.seq n + 0x008 ∧ a ≠ Base.seq n + 0x010) →
          t.reg a = s.reg a) ∧
        t = { s with
          regs := t.regs, seqs := t.seqs, rings := t.rings, fns := t.fns, evchs := t.evchs, host := t.host, msix := t.msix
          window := t.window, edges := t.edges, errNow := t.errNow }) ∧
    (∀ t0, x.flr = some (t0, .stopping) →
      (t0 + 100000 < 2 * (s.count + 2) →
        ∃ t, exec (.flrSequencerDeadline f) s = .next t ∧ t.fnSt f = { x with flr := some (t0, .cut) } ∧
          (∀ n, n < 256 → mine n → s.seqAlive n = true → t.seq n = { s.seq n with killReq := true }) ∧
          (∀ n, n < 256 → ¬ (mine n ∧ s.seqAlive n = true) → t.seq n = s.seq n) ∧
          t = { s with seqs := t.seqs, fns := t.fns }) ∧
      (2 * (s.count + 2) ≤ t0 + 100000 → exec (.flrSequencerDeadline f) s = .next s)) ∧
    (∀ t0 ph, x.flr = some (t0, ph) → ph ≠ .rings →
      let quiet : Prop := (∀ n, n < 256 → mine n → s.seqStopped n = true ∧ (s.seq n).shots = [] ∧
          (s.seq n).ending = false ∧ (s.seq n).killReq = false) ∧
        (∀ w ∈ s.dwait, ∀ q e, w.act = .record q e → s.ringFn q ≠ some f.val) ∧
        (∀ n, n < 32 → s.owner (Base.acq n) = f → s.acqActive n = false) ∧
        (s.owner Base.syn = f → s.syn.rounds = [])
      (quiet → ∃ t, exec (.flrRingsDisable f) s = .next t ∧ t.fnSt f = { x with flr := some (t0, .rings) } ∧
        (∀ q, s.ringFn q = some f.val → (s.ring q).en = true → t.ring q = { s.ring q with en := false, stopping := true }) ∧
        (∀ q, ¬ (s.ringFn q = some f.val ∧ (s.ring q).en = true) → t.ring q = s.ring q) ∧
        t = { s with rings := t.rings, fns := t.fns }) ∧
      (¬ quiet → exec (.flrRingsDisable f) s = .next s)) ∧
    (∀ (t0 : Nat) (ari : Bool) (vfs : Fin 64), x.flr = some (t0, .rings) →
      ((∀ q, s.ringFn q = some f.val → (s.ring q).stopping = false) →
        ∃ t, exec (.flrComplete f ari vfs) s = .next t ∧
          t.fnSt f = { x with
            flr := none, pba := 0, ringPend := 0, vfEnable := if f.val = 0 then decide (0 < vfs.val) else x.vfEnable
            numVfs := if f.val = 0 then vfs.val else x.numVfs, ari := if f.val = 0 then ari else x.ari } ∧
          (∀ v, v < 64 → t.msixEntry (64 * f.val + v) = MsixSt.reset) ∧
          (∀ e, e / 64 ≠ f.val → t.msixEntry e = s.msixEntry e) ∧
          t.reg (b + 0x010) = 0x40 ∧ t.reg (b + 0x014) = 0 ∧ t.fld b Reg.Fn.WA_COUNT = 0 ∧
          t.fld b Reg.Fn.REC_DROP_COUNT = 0 ∧ t.fld b Reg.Fn.RA_DROP_COUNT = 0 ∧
          (∀ a, a ∉ [b + 0x010, b + 0x014, b + 0x054, b + 0x058] → t.reg a = s.reg a) ∧
          t = { s with regs := t.regs, fns := t.fns, msix := t.msix }) ∧
      ((∃ q, s.ringFn q = some f.val ∧ (s.ring q).stopping = true) → exec (.flrComplete f ari vfs) s = .next s))) ∧
  (∀ (r : Fin 262144) (f : Fin 64) (s : State), s.ringFn r = some f.val →
    let x := s.ring r
    (x.en = true → x.kind = 0 → x.job = none → x.moved ≠ x.cons → s.frozen = false → (s.fnSt f).flr = none →
      let bytes := rdBytes s.dram (x.daddr * 64 + x.cons % 2 ^ x.log2 * 64) 64
      let op := jobAt bytes 2 1
      let sel (n : Nat) : Prop := n < 256 ∧ (jobAt bytes 24 32).testBit n = true
      let alien : Prop := if op = 1 then s.loadRangeOk f (jobAt bytes 20 4) (jobAt bytes 16 4) = false
        else ∃ n, sel n ∧ s.owner (Base.seq n) ≠ f
      let busy : Prop := op = 2 ∧ ∃ n, sel n ∧ (s.enabled (Base.seq n) = true ∨ s.seqActive n = true)
      let close : Prop := op = 2 ∧ jobAt bytes 8 8 < 2 * s.count + 2048
      ∃ t j, exec (.jobTake r) s = .next t ∧ t.ring r = { x with cons := (x.cons + 1) % 2 ^ 32, job := some j } ∧
        OnlyRing s t r ∧
        (JobMalformed bytes → j.status = 0x01 ∧ j.phase = .done) ∧
        (¬ JobMalformed bytes → alien → j.status = 0x02 ∧ j.phase = .done) ∧
        (¬ JobMalformed bytes → ¬ alien → busy → j.status = 0x06 ∧ j.phase = .done) ∧
        (¬ JobMalformed bytes → ¬ alien → ¬ busy → close → j.status = 0x05 ∧ j.phase = .done) ∧
        (¬ JobMalformed bytes → ¬ alien → ¬ busy → ¬ close →
          j = ⟨op, jobAt bytes 4 4, jobAt bytes 8 8, jobAt bytes 16 4, jobAt bytes 20 4,
            BitVec.ofNat 256 (jobAt bytes 24 32), 0, 0, 0, 0, .taken⟩)) ∧
    (∀ j, x.job = some j →
      (j.op = 1 → j.phase = .taken →
        (∃ t, exec (.jobLoad r true) s = .next t ∧ OnlyJob s t r (some { j with phase := .done, status := 0x04 })) ∧
        (s.chargeAccess f = none → exec (.jobLoad r false) s = .next s) ∧
        (∀ c, s.chargeAccess f = some c →
          let o := j.dest + j.pos
          let k := min (64 - o % 64) (j.len - j.pos)
          let p := c.bar2Put (.fn f) false o (rdBytes s.host (f.val * 2 ^ 64 + (j.addr + j.pos) % 2 ^ 64) k)
          let rejected := j.rejected + p.2.2
          ∃ t y, exec (.jobLoad r false) s = .next t ∧ t.bar2 = p.1.bar2 ∧ t.dram = p.1.dram ∧
            t.ring r = { x with job := some y } ∧ (∀ q, q ≠ r.val → t.ring q = s.ring q) ∧
            (∀ a, ¬ irqWrites a → t.reg a = p.1.reg a) ∧
            (j.pos + k < j.len → y = { j with pos := j.pos + k, written := j.written + p.2.1, rejected := rejected }) ∧
            (j.len ≤ j.pos + k → y = { j with
              pos := j.pos + k, written := j.written + p.2.1, rejected := rejected, phase := .done
              status := if rejected = 0 then 0x00 else 0x03 }))) ∧
      (j.op = 2 → j.phase = .taken →
        ∃ t, exec (.jobStart r) s = .next t ∧ OnlyJob s t r (some { j with phase := .waiting })) ∧
      (j.op = 2 → j.phase = .waiting → Settled s →
        (2 * (s.count + 2) ≤ j.addr → exec (.jobStartStep r) s = .next s) ∧
        (j.addr < 2 * (s.count + 2) →
          ∃ t, exec (.jobStartStep r) s = .next t ∧ t.ring r = { x with job := some { j with phase := .done } } ∧
            (∀ q, q ≠ r.val → t.ring q = s.ring q) ∧
            (∀ n, n < 256 → j.mask.getLsbD n = true → s.seqStopped n = true → (s.seq n).ending = false →
              (s.seq n).issuing = false → s.applying n = false →
              (s.fld Base.sec Reg.Sec.CL_FAIL).testBit (n / 16) = false →
              t.enabled (Base.seq n) = true ∧ t.fld (Base.seq n) Reg.Seq.PC = s.fld (Base.seq n) Reg.Seq.START_PC ∧
              (t.seq n).issuing = true ∧ (t.seq n).nextStep = j.addr ∧ (t.seq n).wait = .none ∧ (t.seq n).stack = []) ∧
            (∀ n, n < 256 → j.mask.getLsbD n = false → t.seq n = s.seq n) ∧
            (∀ a, (∀ n, n < 256 → j.mask.getLsbD n = true → a ≠ Base.seq n + 0x008 ∧ a ≠ Base.seq n + 0x040) →
              t.reg a = s.reg a) ∧
            t = { s with regs := t.regs, seqs := t.seqs, rings := t.rings })) ∧
      (j.op = 3 → j.phase = .taken → Settled s →
        ∃ t, exec (.jobStop r) s = .next t ∧ t.ring r = { x with job := some { j with phase := .waiting } } ∧
          (∀ q, q ≠ r.val → t.ring q = s.ring q) ∧
          (∀ n, n < 256 → j.mask.getLsbD n = true → AskedToStop s t n) ∧
          (∀ n, n < 256 → j.mask.getLsbD n = false → t.seq n = s.seq n) ∧
          (∀ a, ¬ irqWrites a → (∀ n, n < 256 → j.mask.getLsbD n = true → a ≠ Base.seq n + 0x008 ∧
            a ≠ Base.seq n + 0x010) → t.reg a = s.reg a) ∧
          t = { s with
            regs := t.regs, seqs := t.seqs, rings := t.rings, fns := t.fns, evchs := t.evchs, host := t.host
            msix := t.msix, window := t.window, edges := t.edges, errNow := t.errNow }) ∧
      (j.op = 4 → j.phase = .taken →
        ∃ t, exec (.jobFence r) s = .next t ∧ OnlyJob s t r (some { j with phase := .waiting })) ∧
      (let ended : Prop := j.phase = .done ∨ j.phase = .waiting ∧ (j.op = 3 ∨ j.op = 4) ∧
          ∀ n, n < 256 → j.mask.getLsbD n = true → s.seqStopped n = true
        let log := s.ring x.aux
        let valid : Prop := log.en = true ∧ log.kind = 6 ∧ s.ringFn x.aux = some f.val
        let count (v : Nat) : Nat := if j.op = 1 then v else 0
        let first60 := leBytes 2 0x4A43 ++ leBytes 1 j.op ++ leBytes 1 j.status ++ leBytes 4 j.tag ++ leBytes 8 (2 * s.count) ++
          leBytes 4 (count j.written) ++ leBytes 4 (count j.rejected) ++ leBytes 36 0
        let p := s.ringPush x.aux (first60 ++ leBytes 4 (crc32 first60))
        (¬ ended → exec (.jobComplete r) s = .next s) ∧
        (ended → ∃ t, exec (.jobComplete r) s = .next t ∧ (t.ring r).job = none ∧
          (∀ q, q ≠ r.val → q ≠ x.aux → t.ring q = s.ring q) ∧
          (¬ valid → OnlyJob s t r none) ∧
          (valid → t.dram = p.dram ∧ t.dwait = p.dwait ∧ (t.ring x.aux).prod = (p.ring x.aux).prod ∧
            (t.ring x.aux).drop = (p.ring x.aux).drop)))))

/-! ### The DRAM controller (chapter 15) -/

/-- Only the controller's pages and channels change, what waits for a burst, the reads that rings have out, and what interrupt
delivery writes. -/
def OnlyDram (s t : State) : Prop :=
  (∀ a, ¬ irqWrites a → ¬ memCtl a → t.reg a = s.reg a) ∧
    t = { s with
      regs := t.regs, fns := t.fns, msix := t.msix, host := t.host, dchs := t.dchs, unfreezing := t.unfreezing
      rings := t.rings, dwait := t.dwait, evchs := t.evchs, window := t.window, edges := t.edges, errNow := t.errNow }

/-- Urgency of a request by its slack in ns against its latency target (R427). -/
def urgencyOf (s : State) (r : DramReq) : Nat :=
  let slack : Int := 2 * (r.arrival : Int) + r.target - 4 * s.count
  if 3 * (r.target : Int) < 4 * slack then 0
  else if (r.target : Int) < 2 * slack then 1
  else if (r.target : Int) < 4 * slack then 2 else 3

/-- Rank and bank of a request as one number, and its row (R421). -/
def placeOf (s : State) (r : DramReq) : Nat × Nat :=
  let d := s.dramDecode (r.da / 2 ^ 10 * 256 + r.da % 256)
  (d.2.2.2.1 * 16 + d.2.1 * 4 + d.2.2.1, d.2.2.2.2)

/-- `x` goes before `y` in channel `c` (R426): panic, urgency, an open row, age, port number. -/
def GoesBefore (s : State) (c : Fin 4) (x y : DramReq) : Prop :=
  let panics (r : DramReq) : Bool := match r.use with
    | .stream n _ _ => s.tonePanic n
    | .bias n _ _ => s.biasPanic n
    | _ => r.panic || r.port == 0
  let hits (r : DramReq) : Bool := s.openRow c (placeOf s r).1 == some (placeOf s r).2
  if panics x ≠ panics y then panics x = true
  else if urgencyOf s x ≠ urgencyOf s y then urgencyOf s y < urgencyOf s x
  else if hits x ≠ hits y then hits x = true
  else if x.arrival ≠ y.arrival then x.arrival < y.arrival
  else x.port < y.port

/-- The controller freezes for a cause found on a request of channel `c`: FROZEN, its interrupt bit, reads ended, writes
held; the capture holds the first cause (R436, R437). -/
def Freezes (s t : State) (c : Fin 4) (r : DramReq) (cause : Nat) : Prop :=
  let b := Base.mc
  t.frozen = true ∧ (t.reg (b + 0x010)).getLsbD 0 = true ∧ t.unfreezing = false ∧
    (∀ k, k < 4 → (t.dch k).reads = [] ∧ (t.dch k).inflight = [] ∧ (t.dch k).failing = none ∧
      (t.dch k).writes = (s.dch k).writes) ∧
    (∀ q, t.ring q = { s.ring q with asked := [] }) ∧
    (s.bit b Reg.Mc.FRZ_VALID = false → t.bit b Reg.Mc.FRZ_VALID = true ∧ t.bit b Reg.Mc.FRZ_MORE = false ∧
      t.fld b Reg.Mc.FRZ_CAUSE = cause ∧ t.fld b Reg.Mc.FRZ_CH = c ∧ t.fld b Reg.Mc.FRZ_PORT = r.port ∧
      t.fld b Reg.Mc.FRZ_BLK = r.da / 64 % 2 ^ 30 ∧ t.fld b Reg.Mc.FRZ_ROW = (placeOf s r).2 % 2 ^ 17 ∧
      t.fld64 b Reg.Mc.FRZ_TC_LO Reg.Mc.FRZ_TC_HI = s.count % 2 ^ 64) ∧
    (s.bit b Reg.Mc.FRZ_VALID = true → t.bit b Reg.Mc.FRZ_MORE = true ∧
      t.fld b Reg.Mc.FRZ_CAUSE = s.fld b Reg.Mc.FRZ_CAUSE ∧
      ∀ a, b + 0x078 ≤ a → a < b + 0x090 → t.reg a = s.reg a)

/-- DRAM commands, read checks, refresh, readings, freeze and unfreeze, the store and the regions: Of the waiting
reads the one that R426 puts first gets the next command its bank needs: activate, precharge, or its read; a violation
freezes with its cause. A read (delivery: other statements) returns and counts its latency; one whose CRC fails is
counted, recorded with 0x10 and re-read at most twice; a re-read that matches delivers, the second that does not
freezes with cause 1, a failure of forwarded data or of a modified CRC block with 4. A freeze ends reads, holds
writes, and keeps the first cause. REFRESH closes the bank and counts. The readings show in the channel page, DRAM_HOT
where they say so (codes: the family's, log 16), and a drift beyond one tap asks for a move. MC_UNFREEZE by the owner
starts, and its completion ends, the freeze, unless a training step failed; FRZ_VALID clears the capture. A store
copies the NV fields, refused after 1,000 with 0x14. A region is written, or refused with 0x11. (R419, R423, R426,
R427, R428, R429, R430, R434, R435, R436, R437, R438) -/
def Obligations.DramController : Prop :=
  (∀ (c : Fin 4) (s : State), s.frozen = false → s.mcClocked c = true →
    let only (t : State) (l : List Nat) : Prop := OnlyDram s t ∧ (∀ k, k ≠ c.val → t.dch k = s.dch k) ∧
      t.rings = s.rings ∧ t.dwait = s.dwait ∧ KeepsRegs s t (l.map (Base.dch c + ·))
    (∀ x l, (s.dch c).reads = l → (s.dch c).writes = [] → x ∈ l → x.write = false → (∀ y ∈ l, y ≠ x → GoesBefore s c x y) →
      let place := placeOf s x
      (∃ t, exec (.dramCommandIssue c none) s = .next t ∧ only t [] ∧ (t.dch c).writes = [] ∧
        (s.openRow c place.1 = none → t.openRow c place.1 = some place.2 ∧ (t.dch c).reads = l ∧
          (t.dch c).inflight = (s.dch c).inflight) ∧
        (∀ row, s.openRow c place.1 = some row → row ≠ place.2 → t.openRow c place.1 = none ∧ (t.dch c).reads = l ∧
          (t.dch c).inflight = (s.dch c).inflight) ∧
        (s.openRow c place.1 = some place.2 → (t.dch c).rows = (s.dch c).rows ∧ (t.dch c).reads = l.erase x ∧
          (t.dch c).inflight = (s.dch c).inflight ++ [x])) ∧
      (∀ cause param, 2 ≤ cause → cause ≤ 3 → x.port < 8 →
        ∃ t, exec (.dramCommandIssue c (some (cause, param))) s = .next t ∧ Freezes s t c x cause ∧ OnlyDram s t)) ∧
    (∀ x, (s.dch c).reads = [] → (s.dch c).writes = [x] → x.write = true →
      s.openRow c (placeOf s x).1 = some (placeOf s x).2 →
      (∃ t, exec (.dramCommandIssue c none) s = .next t ∧ (t.dch c).writes = [] ∧
        (t.dch c).crcs.head? = some (crcBlock x.da, true) ∧ (t.dch c).inflight = (s.dch c).inflight ∧ only t []) ∧
      (∀ param, s.crcCached c x.da = some true →
        ∃ t, exec (.dramCommandIssue c (some (4, param))) s = .next t ∧ t.frozen = true ∧
          (s.bit Base.mc Reg.Mc.FRZ_VALID = false → t.fld Base.mc Reg.Mc.FRZ_CAUSE = 4)))) ∧
  (∀ (c : Fin 4) (s : State),
    let b := Base.dch c
    let only (t : State) (l : List Nat) : Prop := OnlyDram s t ∧ (∀ k, k ≠ c.val → t.dch k = s.dch k) ∧
      t.rings = s.rings ∧ t.dwait = s.dwait ∧ KeepsRegs s t (l.map (b + ·))
    let found (t : State) (cause cmd : Nat) : Prop := t.frozen = true ∧ (t.reg (Base.mc + 0x010)).getLsbD 0 = true ∧
      (s.bit Base.mc Reg.Mc.FRZ_VALID = false → t.fld Base.mc Reg.Mc.FRZ_CAUSE = cause ∧
        t.fld Base.mc Reg.Mc.FRZ_PORT = 7 ∧ t.fld Base.mc Reg.Mc.FRZ_CMD = cmd ∧ t.fld Base.mc Reg.Mc.FRZ_CH = c)
    let ns (r : DramReq) : Nat := 2 * (2 * s.count - r.arrival)
    let late (t : State) (r : DramReq) : Prop :=
      t.fld b Reg.Dch.MAX_LAT = max (s.fld b Reg.Dch.MAX_LAT) (min (ns r) 0xFFFF)
    (∀ r rs back parity, (s.dch c).inflight = r :: rs → (s.dch c).failing = none → r.use = .none →
      let dirty : Prop := parity = true ∧ s.crcCached c r.da = some true
      (r.good (r.got back) = true → r.fwd = true ∨ ¬ dirty →
        ∃ t, exec (.dramReadComplete c back parity) s = .next t ∧
          t.dch c = { s.dch c with inflight := rs, crcs := (t.dch c).crcs } ∧ late t r ∧ only t [0x05C]) ∧
      ((r.fwd = true ∧ r.good (r.got back) = false ∨ r.fwd = false ∧ dirty) → r.port < 8 →
        ∃ t, exec (.dramReadComplete c back parity) s = .next t ∧ Freezes s t c r 4 ∧ OnlyDram s t) ∧
      (r.fwd = false → ¬ dirty → r.good (r.got back) = false →
        ∃ t, exec (.dramReadComplete c back parity) s = .next t ∧
        t.dch c = { s.dch c with inflight := rs, failing := some (r, 0), crcs := (t.dch c).crcs } ∧
        t.fld b Reg.Dch.CRC_FAIL_COUNT = min (s.fld b Reg.Dch.CRC_FAIL_COUNT + 1) (2 ^ 16 - 1) ∧
        (s.bit b Reg.Hdr.VALID = false → t.fld b Reg.Hdr.CODE = 0x10 ∧ t.fld b Reg.Hdr.INFO = r.da / 64 % 2 ^ 24) ∧
        only t [0x01C, 0x044])) ∧
    (∀ r k back, (s.dch c).failing = some (r, k) →
      (r.good (r.got back) = true → r.use = .none →
        ∃ t, exec (.dramRereadComplete c back) s = .next t ∧ t.dch c = { s.dch c with failing := none } ∧
        t.fld b Reg.Dch.RECRC_COUNT = min (s.fld b Reg.Dch.RECRC_COUNT + 1) (2 ^ 32 - 1) ∧
        (t.reg (b + 0x010)).getLsbD 0 = true ∧ late t r ∧ only t [0x010, 0x040, 0x05C]) ∧
      (r.good (r.got back) = false → k = 0 → ∃ t, exec (.dramRereadComplete c back) s = .next t ∧
        t.dch c = { s.dch c with failing := some (r, 1) } ∧ only t []) ∧
      (r.good (r.got back) = false → k ≠ 0 → r.port < 8 →
        ∃ t, exec (.dramRereadComplete c back) s = .next t ∧ Freezes s t c r 1 ∧
        OnlyDram s t ∧ (s.bit Base.mc Reg.Mc.FRZ_VALID = false →
          t.fld Base.mc Reg.Mc.FRZ_CRC_CALC = blockCrc r.da (r.got back).1 % 2 ^ 16 ∧
          t.fld Base.mc Reg.Mc.FRZ_CRC_RD = (r.got back).2 % 2 ^ 16))) ∧
    (s.mcClocked c = true →
      (∀ (rank : Fin 2) (bank : Fin 16), rank.val ≤ s.fld Base.mc Reg.Mc.RANKS →
        (∀ cause param, 2 ≤ cause → cause < 16 →
          ∃ t, exec (.refresh c rank bank (some (cause, param))) s = .next t ∧ found t cause 5) ∧
        ∃ t, exec (.refresh c rank bank none) s = .next t ∧ t.openRow c (rank * 16 + bank.val) = none ∧
          (∀ i, i ≠ rank * 16 + bank.val → t.openRow c i = s.openRow c i) ∧
          t.fld b Reg.Dch.REF_COUNT = (s.fld b Reg.Dch.REF_COUNT + 1) % 2 ^ 32 ∧ (t.dch c).reads = (s.dch c).reads ∧
          (t.dch c).writes = (s.dch c).writes ∧ only t [0x04C]) ∧
      (∀ (m0 m1 : BitVec 5) (dqi dqo : BitVec 16),
        let two : Prop := s.fld Base.mc Reg.Mc.RANKS = 1
        let isHot (m : BitVec 5) : Prop := m = 0x0E ∨ m = 0x0F ∨ m = 0x1F
        let hot : Prop := isHot m0 ∨ two ∧ isHot m1
        let d := s.dch c
        (∀ cause param, 2 ≤ cause → cause < 16 →
          ∃ t, exec (.mr4OscRead c m0 m1 dqi dqo (some (cause, param))) s = .next t ∧ found t cause 8) ∧
        ∃ t, exec (.mr4OscRead c m0 m1 dqi dqo none) s = .next t ∧ OnlyDram s t ∧ (∀ k, k ≠ c.val → t.dch k = s.dch k) ∧
          KeepsRegs s t [b + 0x00C, b + 0x010, b + 0x048, b + 0x050, Base.mc + 0x010] ∧
          t.fld b Reg.Dch.MR4_R0 = m0.toNat ∧ (two → t.fld b Reg.Dch.MR4_R1 = m1.toNat) ∧
          (hot → t.stat b 1 = true ∧ (t.reg (b + 0x010)).getLsbD 3 = true ∧ (t.reg (Base.mc + 0x010)).getLsbD 2 = true) ∧
          (¬ hot → t.stat b 1 = false ∧ t.reg (b + 0x010) = s.reg (b + 0x010) ∧
            t.reg (Base.mc + 0x010) = s.reg (Base.mc + 0x010)) ∧
          (s.frozen = true → t.dch c = d ∧ t.reg (b + 0x050) = s.reg (b + 0x050)) ∧
          (s.frozen = false → t.fld b Reg.Dch.OSC_DQI = dqi.toNat ∧ t.fld b Reg.Dch.OSC_DQO = dqo.toNat ∧
            (d.base = none → t.dch c = { d with base := some (dqi.toNat, dqo.toNat) }) ∧
            (∀ i o, d.base = some (i, o) →
              let apart (u v : Nat) : Bool := decide (u + Config.dqTapCounts < v ∨ v + Config.dqTapCounts < u)
              (t.dch c).moves = d.moves + (apart i dqi.toNat).toNat + (apart o dqo.toNat).toNat ∧
              (apart i dqi.toNat = false → apart o dqo.toNat = false → t.dch c = d)))))) ∧
  (∀ (s : State) (step : Option (Fin 4 × Fin 9)), s.unfreezing = true → s.frozen = true →
    let b := Base.mc
    (∀ c k, step = some (c, k) → s.bit b Reg.Mc.RETRAIN = true →
      ∃ t, exec (.unfreezeComplete step) s = .next t ∧ t.frozen = true ∧ t.unfreezing = false ∧
        (t.reg (Base.dch c + 0x010)).getLsbD 2 = true ∧
        (s.bit (Base.dch c) Reg.Hdr.VALID = false →
          t.fld (Base.dch c) Reg.Hdr.CODE = 0x11 ∧ t.fld (Base.dch c) Reg.Hdr.INFO = k) ∧
        t.dchs = s.dchs ∧ KeepsRegs s t [Base.dch c + 0x010, Base.dch c + 0x01C] ∧ OnlyDram s t) ∧
    (step = none ∨ s.bit b Reg.Mc.RETRAIN = false →
      ∃ t, exec (.unfreezeComplete step) s = .next t ∧ t.frozen = false ∧ t.unfreezing = false ∧
        (t.reg (b + 0x010)).getLsbD 1 = true ∧ t.doorbells = [] ∧
        (s.dwait = [] → s.doorbells = [] → ∀ c, c < 4 → (t.dch c).writes = []) ∧
        t.fld b Reg.Mc.FREEZE_COUNT = min (s.fld b Reg.Mc.FREEZE_COUNT + 1) (2 ^ 16 - 1) ∧
        (∀ a, b + 0x074 ≤ a → a < b + 0x090 → t.reg a = s.reg a) ∧
        (s.dwait = [] → s.doorbells = [] → t.rings = s.rings) ∧
        (∀ d, s.dwait = [] → s.doorbells = [d] →
          let r := d.data.toNat % 2 ^ 18
          let v := d.data.toNat / 2 ^ 32
          let x := s.ring r
          (s.dbOk d true = true →
            t.ring r = if d.prod then { x with prod := v } else { x with cons := v }) ∧
          (s.dbOk d true = false → t.ring r = x)))) ∧
  (∀ s : State, ∀ v : Nat × Nat × Nat, s.dramNvm.storing = some v →
    ∃ t, exec .nvStoreComplete s = .next t ∧ t.bit Base.mc Reg.Mc.NV_BUSY = false ∧
      t.dramNvm = { s.dramNvm with
        stored := true, rate := v.1, cap := v.2.1, ranks := v.2.2, stores := s.dramNvm.stores + 1, storing := none } ∧
      KeepsRegs s t [Base.mc + 0x09C]) ∧
  (∀ (who : Req) (s r : State), Settled s → s.granted who .mc 0 = some r →
    let b := Base.mc
    let page (t : State) (l : List Nat) : Prop := (∀ a, a ∉ l.map (b + ·) → t.reg a = s.reg a) ∧
      t = { s with regs := t.regs, used := r.used, unfreezing := t.unfreezing, dramNvm := t.dramNvm }
    let refused (t : State) (code info : Nat) : Prop := page t [0x01C] ∧ t.unfreezing = s.unfreezing ∧
      t.dramNvm = s.dramNvm ∧
      (s.bit b Reg.Hdr.VALID = false → t.fld b Reg.Hdr.CODE = code ∧ t.fld b Reg.Hdr.INFO = info)
    (s.owner b = reqNum who →
      (s.frozen = true → ∃ t, exec (.mcUnfreeze who) s = .next t ∧ t.unfreezing = true ∧ t.dramNvm = s.dramNvm ∧
        page t []) ∧
      (s.frozen = false → ∃ t, exec (.mcUnfreeze who) s = .next t ∧ refused t 0x12 0)) ∧
    (s.owner b ≠ reqNum who → ∃ t, exec (.mcUnfreeze who) s = .next t ∧ page t [0x01C] ∧ t.unfreezing = s.unfreezing ∧
      (s.bit b Reg.Hdr.VALID = false → t.fld b Reg.Hdr.CODE = 0x01)) ∧
    (∃ t, exec (.frzValidClear who) s = .next t ∧ (∀ i, i < 7 → t.reg (b + 0x074 + 4 * i) = 0) ∧
      t.unfreezing = s.unfreezing ∧ t.frozen = s.frozen ∧
      page t ((List.range 7).map fun i => 0x074 + 4 * i)) ∧
    (let n := s.dramNvm
      ∃ t, exec (.nvStore who) s = .next t ∧ (n.storing ≠ none → page t [] ∧ t.dramNvm = n) ∧
        (n.storing = none → n.stores < 1000 → t.bit b Reg.Mc.NV_BUSY = true ∧ t.unfreezing = s.unfreezing ∧
          t.dramNvm = { n with
            storing := some (s.fld b Reg.Mc.NV_DATA_RATE, s.fld b Reg.Mc.NV_CAP, s.fld b Reg.Mc.NV_RANKS) } ∧
          page t [0x09C]) ∧
        (n.storing = none → 1000 ≤ n.stores → n.stores < 2 ^ 24 → refused t 0x14 n.stores)) ∧
    (∀ (ring : Bool) (w : Word),
      let off := if ring then 0x050 else 0x04C
      let other := (s.reg (b + (if ring then 0x04C else 0x050))).toNat
      let MiB := 2 ^ 20
      let lo := w.toNat % 2 ^ 16 * MiB
      let size := w.toNat / 2 ^ 16 * MiB
      let lo' := other % 2 ^ 16 * MiB
      let size' := other / 2 ^ 16 * MiB
      let bad : Prop := (∃ e ∈ s.rings, e.2.en = true) ∨
        size ≠ 0 ∧ (lo < 256 * MiB ∨ s.dramEnd < lo + size ∨ size' ≠ 0 ∧ lo < lo' + size' ∧ lo' < lo + size)
      ∃ t, exec (.regionWrite who ring w) s = .next t ∧
        (¬ bad → t.reg (b + off) = w ∧ t.unfreezing = s.unfreezing ∧ t.dramNvm = s.dramNvm ∧ page t [off]) ∧
        (bad → refused t 0x11 off)))

/-! ### Events and interrupts (chapter 16) -/

/-- Channel `k` fires in window `w`, from the record `x`: once, with FIRED, and OVERRUN where FIRED was set; LOOP_RUN counts
firings that follow the last one within MIN_GAP (R446, R450, R453). The firing is noted with the step `now` in which it
occurred and the first step `seen` in which a sequencer may see it (R558, assumption log 4). -/
def Fires (s t : State) (k w now seen : Nat) (imported : Bool) (x : EvSt) : Prop :=
  let b := evgPage k
  let i := k % 8
  let soon : Prop := ∃ u, x.last = some u ∧ s.ticks - u < s.fld b Reg.Evg.MIN_GAP i
  (∃ old, t.evch k = { x with
      busy := true, window := w, imported := imported, fires := x.fires + 1, last := some s.ticks
      log := (x.fires + 1, now, seen) :: old } ∧ ∀ e ∈ old, e ∈ x.log) ∧
    t.bit b Reg.Evg.BUSY i = true ∧ (t.reg (b + 0x010)).getLsbD i = true ∧
    ((s.reg (b + 0x010)).getLsbD i = true → (t.reg (b + 0x010)).getLsbD (8 + i) = true) ∧
    t.fld b Reg.Evg.FIRE_COUNT i = min (s.fld b Reg.Evg.FIRE_COUNT i + 1) (2 ^ 32 - 1) ∧
    (soon → t.fld b Reg.Evg.LOOP_RUN i = min 16 (s.fld b Reg.Evg.LOOP_RUN i + 1)) ∧
    (¬ soon → t.fld b Reg.Evg.LOOP_RUN i = 0)

/-- A publish finds channel `k` busy from an earlier window: it is merged and makes no firing (R446). -/
def Collides (s t : State) (k : Nat) (x : EvSt) : Prop :=
  let b := evgPage k
  t.evch k = x ∧ (t.reg (b + 0x010)).getLsbD (16 + k % 8) = true ∧
    t.fld b Reg.Evg.COLLIDE_COUNT (k % 8) = min (s.fld b Reg.Evg.COLLIDE_COUNT (k % 8) + 1) (2 ^ 16 - 1) ∧
    t.fld b Reg.Evg.FIRE_COUNT (k % 8) = s.fld b Reg.Evg.FIRE_COUNT (k % 8)

/-- The channel is on: its group and itself are enabled (R444). -/
def ChannelOn (s : State) (k : Nat) : Prop :=
  s.enabled (evgPage k) = true ∧ s.bit (evgPage k) Reg.Evg.CH_EN (k % 8) = true

/-- DIS_DROP_COUNT of a group page advances by `n`. -/
def DisDrops (s t : State) (b n : Nat) : Prop :=
  t.fld b Reg.Evg.DIS_DROP_COUNT = min (s.fld b Reg.Evg.DIS_DROP_COUNT + n) (2 ^ 16 - 1)

/-- The bytes that a message writes into host memory (R461). -/
def MessageSent (s t : State) (f v : Fin 64) : Prop :=
  let e := s.msixEntry (64 * f + v)
  BytesPut s.host t.host (f * 2 ^ 64 + e.addr.toNat) (leBytes 4 e.data.toNat) ∧
    (t.msixEntry (64 * f + v)).window = some (s.ticks + 16)

/-- Publishing, firings and their completion, group pages, routes and MSI-X messages: Stated where the group pages
involved have IRQ_EN = 0, so that no route acts. A publish on an idle channel fires it once, on a busy one it is
merged with COLLIDE, on one that is off it is discarded with DIS_DROP_COUNT; PUBLISH commands of one step act as one,
with COINCIDE and MERGE_COUNT. A completed firing leaves the channel idle, clears CH_EN with LOOP at LOOP_RUN 16, acts
on its group, where DISABLE governs in one window, and publishes on its chain; in Cellar with WAKE it asks for the
wake. A configuration word is taken, CH_EN = 1 resetting LOOP_RUN, or refused with 0x11. An immediate disable discards
queued PUBLISH commands and charges TRUNCATED. RT_DATA reads or writes the route of RT_SEL, refused with 0x11, and
advances RT_SEL. A coalesced message is sent at the end of its window, a held one when nothing holds it, or its
pending bit is cleared. (R444, R445, R446, R447, R449, R450, R451, R452, R453, R454, R460, R461) -/
def Obligations.EventsAndMessages : Prop :=
  (∀ (who : Req) (g : Fin 32) (data : Word) (s r : State), Settled s → s.granted who .evg g = some r →
    let b := Base.evg g
    let page (t : State) (l : List Nat) : Prop := (∀ a, a ∉ l.map (b + ·) → t.reg a = s.reg a) ∧
      t = { s with regs := t.regs, used := r.used }
    (s.reg (b + 0x014) = 0 → (∀ i, i < 8 → (s.evch (8 * g + i)).window ≤ s.window) →
      let ask (i : Nat) : Prop := data.getLsbD i = true
      let off := (List.range 8).filter fun i => data.getLsbD i && s.evOff (8 * g.val + i)
      ∃ t, exec (.eventFire who g data) s = .next t ∧ t.window = s.window + 1 ∧ DisDrops s t b off.length ∧
        (∀ i, i < 8 → ask i → ChannelOn s (8 * g + i) → (s.evch (8 * g + i)).busy = false →
          Fires s t (8 * g + i) (s.window + 1) (2 * s.count) (2 * s.count + 2) false (s.evch (8 * g + i))) ∧
        (∀ i, i < 8 → ask i → ChannelOn s (8 * g + i) → (s.evch (8 * g + i)).busy = true →
          Collides s t (8 * g + i) (s.evch (8 * g + i))) ∧
        (∀ i, i < 8 → ¬ (ask i ∧ ChannelOn s (8 * g + i)) → t.evch (8 * g + i) = s.evch (8 * g + i) ∧
          t.fld b Reg.Evg.FIRE_COUNT i = s.fld b Reg.Evg.FIRE_COUNT i) ∧
        (∀ k, k / 8 ≠ g.val → t.evch k = s.evch k) ∧ (∀ a, (a < b ∨ b + 0x1000 ≤ a) → t.reg a = s.reg a) ∧
        t = { s with regs := t.regs, used := r.used, evchs := t.evchs, window := t.window }) ∧
    (s.enabled b = false → ∃ t, exec (.eventGroupEnable who g) s = .next t ∧ t.enabled b = true ∧ page t [0x008]) ∧
    (s.enabled b = true → ∃ t, exec (.eventGroupNormalDisable who g) s = .next t ∧ t.enabled b = false ∧ page t [0x008]) ∧
    (let cut := (List.range 8).flatMap fun i => (s.evch (8 * g + i)).queue
      ∃ t, exec (.eventGroupDisableNow who g) s = .next t ∧ t.enabled b = false ∧
        t.fld b Reg.Evg.TRUNC_COUNT = min (s.fld b Reg.Evg.TRUNC_COUNT + cut.length) (2 ^ 16 - 1) ∧
        (∀ i, i < 8 → t.evch (8 * g + i) = { s.evch (8 * g + i) with queue := [] }) ∧
        (∀ k, k / 8 ≠ g.val → t.evch k = s.evch k) ∧ (∀ c ∈ cut, Charged t c.tag Flag.TRUNCATED) ∧
        (cut = [] → t.seqs = s.seqs) ∧ (∀ a, a ≠ b + 0x008 → a ≠ b + 0x0E4 → t.reg a = s.reg a) ∧
        t = { s with regs := t.regs, used := r.used, evchs := t.evchs, seqs := t.seqs })) ∧
  (∀ (who : Req) (k : Fin 256) (w : Word) (s r : State), Settled s → s.granted who .evg (k / 8) = some r →
    let b := evgPage k
    let i := k.val % 8
    let actOf (w : Word) : Nat := w.toNat / 2 ^ 28 % 4
    let act := if actOf w = 3 then s.fld b Reg.Evg.ACT i else actOf w
    let ch := w.toNat / 2 ^ 8 % 256
    let grp := w.toNat / 2 ^ 20 % 32
    let chain : Bool := w.toNat.testBit 16
    let same (c : Nat) : Prop := s.owner b = s.owner c ∧ s.fld b Reg.Hdr.SEC = s.fld c Reg.Hdr.SEC
    let bad (to' : Nat) : Prop := chain = true ∧ ¬ same (evgPage ch) ∧ to' = ch ∨
      (chain = true → same (evgPage ch)) ∧ (act = 1 ∨ act = 2) ∧ ¬ same (Base.evg grp) ∧ to' = grp
    ∃ t, exec (.chEnWrite who k w) s = .next t ∧ t = { s with regs := t.regs, used := r.used } ∧
      ((∀ u, ¬ bad u) → t.bit b Reg.Evg.CH_EN i = w.toNat.testBit 31 ∧ t.bit b Reg.Evg.WAKE i = w.toNat.testBit 30 ∧
        t.fld b Reg.Evg.ACT i = act ∧ t.fld b Reg.Evg.ACT_GRP i = grp ∧ t.bit b Reg.Evg.CHAIN_EN i = chain ∧
        t.fld b Reg.Evg.CHAIN_CH i = ch ∧ t.bit b Reg.Evg.BUSY i = s.bit b Reg.Evg.BUSY i ∧
        t.fld b Reg.Evg.LOOP_RUN i = (if w.toNat.testBit 31 then 0 else s.fld b Reg.Evg.LOOP_RUN i) ∧
        (∀ a, a ≠ b + 0x040 + 8 * i → a ≠ b + 0x044 + 8 * i → t.reg a = s.reg a)) ∧
      (∀ u, bad u → s.bit b Reg.Hdr.VALID = false → t.fld b Reg.Hdr.CODE = 0x11 ∧ t.fld b Reg.Hdr.INFO = i + u * 2 ^ 8) ∧
      (∀ u, bad u → ∀ a, a ≠ b + 0x01C → t.reg a = s.reg a)) ∧
  (∀ (k : Fin 256) (s : State), Settled s → s.reg (evgPage k + 0x014) = 0 → (s.evch k).window ≤ s.window →
    let b := evgPage k
    let i := k.val % 8
    let x := s.evch k
    (∀ c cs, x.queue = c :: cs → c.code = 0 → c.step < 2 * (s.count + 2) →
      let now := x.queue.filter fun d => d.step == c.step
      let y := { x with queue := x.queue.filter fun d => d.step != c.step }
      ∃ t, exec (.evchPublish k) s = .next t ∧ t.window = s.window + 1 ∧ (∀ j, j ≠ k.val → t.evch j = s.evch j) ∧
        (ChannelOn s k → x.busy = false → Fires s t k (s.window + 1) c.step (c.step + 1) false y ∧ t.seqs = s.seqs) ∧
        (ChannelOn s k → x.busy = true → Collides s t k y ∧ t.seqs = s.seqs) ∧
        (¬ ChannelOn s k → t.evch k = y ∧ DisDrops s t b 1 ∧ ∀ d ∈ now, Charged t d.tag Flag.CMD_FAULT) ∧
        t.fld b Reg.Evg.MERGE_COUNT i = min (s.fld b Reg.Evg.MERGE_COUNT i + (now.length - 1)) (2 ^ 16 - 1) ∧
        (1 < now.length → (t.fld b Reg.Evg.COINCIDE).testBit i = true) ∧
        (now.length = 1 → t.fld b Reg.Evg.COINCIDE = s.fld b Reg.Evg.COINCIDE) ∧
        (∀ a, (a < b ∨ b + 0x1000 ≤ a) → t.reg a = s.reg a) ∧
        t = { s with regs := t.regs, seqs := t.seqs, evchs := t.evchs, window := t.window }) ∧
    (x.busy = true → ¬ (s.inDev .cellar = true ∧ s.bit b Reg.Evg.WAKE i = true) →
      let chain := s.fld b Reg.Evg.CHAIN_CH i
      let acts := s.fld b Reg.Evg.ACT i
      let grp := s.fld b Reg.Evg.ACT_GRP i
      let full : Prop := s.fld b Reg.Evg.LOOP_RUN i = 16
      (s.bit b Reg.Evg.CHAIN_EN i = false →
        ∃ t, exec (.firingComplete k) s = .next t ∧ t.evch k = { x with busy := false } ∧ t.bit b Reg.Evg.BUSY i = false ∧
          (full → t.bit b Reg.Evg.CH_EN i = false ∧ (t.reg (b + 0x010)).getLsbD (24 + i) = true) ∧
          (¬ full → t.bit b Reg.Evg.CH_EN i = s.bit b Reg.Evg.CH_EN i ∧ t.reg (b + 0x010) = s.reg (b + 0x010)) ∧
          (∀ j, j ≠ k.val → t.evch j = s.evch j) ∧
          (acts = 0 → t.evgs = s.evgs ∧ ∀ a, a ≠ b + 0x010 → a ≠ b + 0x040 + 8 * i → t.reg a = s.reg a) ∧
          (∀ dis, (acts = 1 ∧ dis = false ∨ acts = 2 ∧ dis = true) →
            let e := s.evg grp
            let y : EvgSt := if e.window = x.window then e else ⟨x.window, false, false⟩
            (∀ a, a ≠ b + 0x010 → a ≠ b + 0x040 + 8 * i → a ∉ [Base.evg grp + 0x008, Base.evg grp + 0x084,
              Base.evg grp + 0x0E0] → t.reg a = s.reg a) ∧
            ((if dis then y.dis else y.en) = false → t.enabled (Base.evg grp) = !(y.dis || dis) ∧
              t.evg grp = { y with en := y.en || !dis, dis := y.dis || dis }) ∧
            ((if dis then y.dis else y.en) = true → t.enabled (Base.evg grp) = s.enabled (Base.evg grp) ∧
              t.bit (Base.evg grp) (if dis then Reg.Evg.CO_DIS else Reg.Evg.CO_EN) = true ∧
              t.fld (Base.evg grp) Reg.Evg.GMERGE_COUNT =
                min (s.fld (Base.evg grp) Reg.Evg.GMERGE_COUNT + 1) (2 ^ 16 - 1))) ∧
          t = { s with regs := t.regs, evchs := t.evchs, evgs := t.evgs, ports := t.ports }) ∧
      (s.bit b Reg.Evg.CHAIN_EN i = true → acts = 0 → s.reg (evgPage chain + 0x014) = 0 →
        (s.evch chain).window ≤ s.window →
        ∃ t, exec (.firingComplete k) s = .next t ∧ t.window = s.window + 1 ∧
          (chain ≠ k.val → t.evch k = { x with busy := false }) ∧
          (full → t.bit b Reg.Evg.CH_EN i = false ∧ (t.reg (b + 0x010)).getLsbD (24 + i) = true) ∧
          (chain ≠ k.val → ChannelOn s chain → (s.evch chain).busy = false →
            Fires s t chain (s.window + 1) (2 * s.count) (2 * s.count + 2) false (s.evch chain)) ∧
          (chain ≠ k.val → ChannelOn s chain → (s.evch chain).busy = true → Collides s t chain (s.evch chain)) ∧
          (chain ≠ k.val → ¬ ChannelOn s chain → DisDrops s t (evgPage chain) 1 ∧ t.evch chain = s.evch chain) ∧
          (chain = k.val → ¬ full → ChannelOn s k →
            Fires s t k (s.window + 1) (2 * s.count) (2 * s.count + 2) false { x with busy := false }) ∧
          (chain = k.val → full → t.evch k = { x with busy := false } ∧ DisDrops s t b 1) ∧
          (∀ j, j ≠ k.val → j ≠ chain → t.evch j = s.evch j))) ∧
    (x.busy = true → s.inDev .cellar = true → s.bit b Reg.Evg.WAKE i = true → s.power.trans = none →
      ∃ t, exec (.firingComplete k) s = .next t ∧ t.power = { s.power with trans := some ⟨s.power.origin, 6, false⟩ } ∧
        ∀ c, c < 4 → t.fld (Base.dch c) Reg.Dch.SR_STATE = 3) ∧
    (x.busy = false → exec (.firingComplete k) s = .next s)) ∧
  (∀ (who : Req) (s r : State), Settled s → s.granted who .intc 0 = some r →
    let b := Base.intc
    let n := s.fld b Reg.Intc.RT_SEL
    let pages := (srcPages n).map Prod.fst
    (∃ t, exec (.rtDataAccess who none) s = .next t ∧ t.routes = s.routes ∧
      t.respVal.toNat = (s.route n).toNat + 2 ^ 20 * (s.srcLive n).toNat +
        2 ^ 19 * (pages.any fun p => s.bit p Reg.Hdr.SEC).toNat ∧
      t.fld b Reg.Intc.RT_SEL = (n + 1) % 1344 ∧ (∀ a, a ≠ b + 0x040 → t.reg a = s.reg a)) ∧
    (∀ w : Word,
      let evch := evgPage (w.toNat % 256)
      let bad : Prop := w.toNat.testBit 21 = true ∧ (∃ p, pages.head? = some p ∧
          ¬ (s.owner p = s.owner evch ∧ s.fld p Reg.Hdr.SEC = s.fld evch Reg.Hdr.SEC)) ∨
        (w.toNat.testBit 31 = true ∨ w.toNat.testBit 23 = true) ∧ ∃ p ∈ pages, s.bit p Reg.Hdr.SEC = true
      ∃ t, exec (.rtDataAccess who (some w)) s = .next t ∧ t.fld b Reg.Intc.RT_SEL = (n + 1) % 1344 ∧
        (∀ m, m ≠ n → t.route m = s.route m) ∧
        (¬ bad → t.route n = w &&& 0xBFE0_00FF ∧ (∀ a, a ≠ b + 0x040 → t.reg a = s.reg a) ∧
          t = { s with regs := t.regs, used := r.used, routes := t.routes }) ∧
        (bad → t.routes = s.routes ∧ (t.reg (b + 0x010)).getLsbD 0 = true ∧
          (s.bit b Reg.Hdr.VALID = false → t.fld b Reg.Hdr.CODE = 0x11 ∧ t.fld b Reg.Hdr.INFO = n)))) ∧
  (∀ (f v : Fin 64) (s : State), Settled s →
    let e := s.msixEntry (64 * f + v)
    let x := s.fnSt f
    let only (t : State) : Prop := (∀ m, m ≠ 64 * f.val + v.val → t.msixEntry m = s.msixEntry m) ∧
      (∀ g, g ≠ f.val → t.fnSt g = s.fnSt g) ∧ t = { s with host := t.host, msix := t.msix, fns := t.fns }
    (e.again = true → (∀ w, e.window = some w → w ≤ s.ticks) →
      ∃ t, exec (.msixCoalescedMessage f v) s = .next t ∧ (t.msixEntry (64 * f + v)).again = false ∧ only t ∧
        (s.msixHeld f v = false → MessageSent s t f v ∧ t.fnSt f = x) ∧
        (s.msixHeld f v = true → t.host = s.host ∧ (t.fnSt f).pba.getLsbD v = true)) ∧
    ((e.again = false ∨ ∃ w, e.window = some w ∧ s.ticks < w) → exec (.msixCoalescedMessage f v) s = .next s) ∧
    (x.pba.getLsbD v = true → s.pbaBit f v = true → s.msixHeld f v = false →
      ∃ t, exec (.msixHeldRelease f v) s = .next t ∧ MessageSent s t f v ∧ (t.fnSt f).pba.getLsbD v = false ∧
        (t.fnSt f).ringPend.getLsbD v = false ∧ only t) ∧
    (x.pba.getLsbD v = true → s.pbaBit f v = false →
      ∃ t, exec (.msixHeldRelease f v) s = .next t ∧ (t.fnSt f).pba.getLsbD v = false ∧ t.host = s.host ∧ only t) ∧
    ((x.pba.getLsbD v = false ∨ s.pbaBit f v = true ∧ s.msixHeld f v = true) → exec (.msixHeldRelease f v) s = .next s))

/-! ### Ethernet ports and network time (chapter 17) -/

/-- Of the ports only `q` changes, and what interrupt delivery writes. -/
def OnlyEth (s t : State) (q : Fin 2) : Prop :=
  (∀ k, k ≠ q.val → t.eth k = s.eth k) ∧
    t = { s with
      regs := t.regs, eths := t.eths, fns := t.fns, msix := t.msix, host := t.host, evchs := t.evchs
      window := t.window, edges := t.edges, errNow := t.errNow }

/-- Frame `x` leaves port `p` next: the first event message of the queue, or the head where there is none (R466). -/
def LeavesNext (s : State) (p : Fin 2) (x : TxFrame) : Prop :=
  let ev (y : TxFrame) : Bool := s.isEvent y.bytes
  let q := (s.eth p).queue
  (∃ l r, q = l ++ x :: r ∧ ev x = true ∧ ∀ y ∈ l, ev y = false) ∨
    (∀ y ∈ q, ev y = false) ∧ ∃ r, q = x :: r

/-- Frame `x` has left port `p` with the bytes `bs`; after a normal disable the link goes down with it (R477). -/
def HasLeft (s t : State) (p : Fin 2) (x : TxFrame) (bs : List Byte) : Prop :=
  t.eth p = { queue := (s.eth p).queue.erase x, leaving := false, sent := bs ++ leBytes 4 (crc32 bs) } ∧
    t.bit (Base.eth p) Reg.Eth.LINK = !(s.eth p).leaving ∧
    ((s.eth p).leaving = true → (t.reg (Base.eth p + 0x010)).getLsbD 1 = true)

/-- The link of port `p` is down. -/
def IsDown (t : State) (p : Fin 2) : Prop :=
  t.bit (Base.eth p) Reg.Eth.LINK = false ∧ t.bit (Base.eth p) Reg.Eth.BLOCK_LOCK = false ∧
    t.bit (Base.eth p) Reg.Eth.FEC_LOCK = false

/-- Frames, transmission, links and disables of the Ethernet ports, and the increment, steps and wraps of the network
clock: A received frame is counted where its FCS is bad, delivered to a receive slot, queued for the other port, or
discarded, by the table of R466; header formats are the standards' (log 17). The frame that goes next leaves; the
transparent clock adds the residence, and in mode 2 the peer delay, to its correctionField. TX_GO queues TX_LEN bytes
of TX_BUF, or is refused with 0x12; TX_DONE captures the stamp of an event message. A link comes up and goes down. A
normal disable keeps the next frame, an immediate one none. A complete increment is pending for the next tick, or
refused with 0x11; a step likewise, 0x12 with JUMP_REFUSED; a wrap counts; a read of NT_NS latches NT_FRAC. (R465,
R466, R468, R469, R470, R472, R474, R475, R476, R477, R478) -/
def Obligations.NetworkPortsAndTime : Prop :=
  (∀ (p : Fin 2) (bs : List Byte) (ts : Stamp) (s : State),
    let b := Base.eth p
    let q : Fin 2 := if p.val = 0 then 1 else 0
    let m := s.ptpOf bs
    let dst := beAt bs 0 6
    let dropped : Prop := etherType bs = 0x8808 ∨ 1522 < bs.length + 4
    let peer : Prop := s.tcMode = 2 ∧ ∃ x, m = some x ∧ (x.type bs = 2 ∨ x.type bs = 3 ∨ x.type bs = 10)
    let mine : Prop := dst = s.fld64 b Reg.Eth.MAC_LO Reg.Eth.MAC_HI
    let oc : Prop := s.bit Base.nclk Reg.Nclk.OC_EN = true ∧ s.fld Base.nclk Reg.Nclk.OC_PORT = p
    let given : Prop := ¬ dropped ∧ (peer ∨ ¬ peer ∧ oc ∧ ∃ x, m = some x ∧ (x.multi = true ∨ mine ∧ x.own = true))
    let onward : Prop := ¬ dropped ∧ ¬ peer ∧ ¬ mine ∧ s.tcMode ≠ 0 ∧
      ¬ (s.tcMode = 2 ∧ ∃ x, m = some x ∧ x.type bs = 1)
    let prod := s.fld b Reg.Eth.RX_PROD
    let full : Prop := (prod + 256 - s.fld b Reg.Eth.RX_CONS) % 256 = 8
    let event : Bool := m.any fun x => decide (x.type bs < 4)
    let flags := event.toNat + 2 * (hasVlan bs).toNat + 4 * ts.stepped.toNat + 8 * (decide (240 < bs.length)).toNat
    let slot := leBytes 2 bs.length ++ leBytes 2 flags ++ leBytes 4 ts.ns.toNat ++ leBytes 2 (ts.sub.toNat / 4096 * 4096) ++
      leBytes 6 0 ++ bs.take 240 ++ List.replicate (240 - bs.length) 0
    let isFwd (x : TxFrame) : Bool := match x with
      | .fwd .. => true
      | .loc _ => false
    let room : Prop := ((s.eth q).queue.filter isFwd).length < 16 ∧ s.enabled (Base.eth q) = true
    s.enabled b = true → s.bit b Reg.Eth.LINK = true →
    (∃ t, exec (.ethFrameRx p bs false ts) s = .next t ∧ t.eths = s.eths ∧
      t.fld b Reg.Eth.FCS_ERR_COUNT = min (s.fld b Reg.Eth.FCS_ERR_COUNT + 1) (2 ^ 16 - 1) ∧ OnlyRegs s t ∧
      KeepsRegs s t [b + 0x074]) ∧
    (∃ t, exec (.ethFrameRx p bs true ts) s = .next t ∧ OnlyEth s t q ∧
      (∀ a, (a < b ∨ b + 0x1000 ≤ a) → ¬ irqWrites a → t.reg a = s.reg a) ∧
      (given → ¬ full → t.fld b Reg.Eth.RX_PROD = (prod + 1) % 256 ∧ (t.reg (b + 0x010)).getLsbD 2 = true ∧
        ∀ i, i < 64 → (t.reg (b + 0x800 + 256 * (prod % 8) + 4 * i)).toNat = ofBytesLE ((slot.drop (4 * i)).take 4)) ∧
      (given → full → t.fld b Reg.Eth.RX_PROD = prod ∧ (t.reg (b + 0x010)).getLsbD 3 = true ∧
        t.fld b Reg.Eth.RX_DROP_COUNT = min (s.fld b Reg.Eth.RX_DROP_COUNT + 1) (2 ^ 16 - 1)) ∧
      (¬ given → t.fld b Reg.Eth.RX_PROD = prod ∧ ∀ a, b + 0x800 ≤ a → t.reg a = s.reg a ∨ irqWrites a) ∧
      (onward → room → t.eth q = { s.eth q with
        queue := (s.eth q).queue ++ [.fwd bs s.ticks ts.pos.val (s.fld b Reg.Eth.PEER_DELAY)] }) ∧
      (onward → ¬ room → t.eths = s.eths ∧ (t.reg (b + 0x010)).getLsbD 5 = true ∧
        t.fld b Reg.Eth.FWD_DROP_COUNT = min (s.fld b Reg.Eth.FWD_DROP_COUNT + 1) (2 ^ 16 - 1)) ∧
      (¬ onward → t.eths = s.eths) ∧ (¬ given → ¬ onward → KeepsRegs s t []))) ∧
  (∀ (p : Fin 2) (ts : Stamp) (s : State),
    let b := Base.eth p
    let n := Base.nclk
    let page (t : State) (l : List Nat) : Prop := OnlyEth s t p ∧ KeepsRegs s t (l.map (b + ·))
    s.bit b Reg.Eth.LINK = true →
    (∀ bs tick pos delay, LeavesNext s p (.fwd bs tick pos delay) →
      let res := ((s.ticks - tick) * 64 + ts.pos.val - pos) * 4096
      let x := TxFrame.fwd bs tick pos delay
      (∀ m, s.ptpOf bs = some m → (s.tcMode = 1 ∧ m.type bs < 4 ∨ s.tcMode = 2 ∧ m.type bs = 0) →
        m.start + 16 ≤ bs.length →
        ∃ t bs', exec (.ethForwardEgress p ts) s = .next t ∧ HasLeft s t p x bs' ∧ OnlyEth s t p ∧
          KeepsRegs s t [b + 0x010, b + 0x044, n + 0x078, n + 0x07C] ∧ bs'.length = bs.length ∧
          beAt bs' (m.start + 8) 8 =
            (beAt bs (m.start + 8) 8 + res + (if s.tcMode = 2 then delay else 0)) % 2 ^ 64 ∧
          (∀ i, (i < m.start + 8 ∨ m.start + 16 ≤ i) → (∀ u, m.udp = some u → i ≠ u + 6 ∧ i ≠ u + 7) →
            bs'.getD i 0 = bs.getD i 0) ∧
          t.fld n Reg.Nclk.TC_COUNT = min (s.fld n Reg.Nclk.TC_COUNT + 1) (2 ^ 32 - 1) ∧
          t.fld n Reg.Nclk.RES_MAX = max (s.fld n Reg.Nclk.RES_MAX) (min res (2 ^ 32 - 1))) ∧
      ((∀ m, s.ptpOf bs = some m → ¬ (s.tcMode = 1 ∧ m.type bs < 4 ∨ s.tcMode = 2 ∧ m.type bs = 0)) →
        ∃ t, exec (.ethForwardEgress p ts) s = .next t ∧ HasLeft s t p x bs ∧ page t [0x010, 0x044])) ∧
    (∀ bs, LeavesNext s p (.loc bs) →
      ∃ t, exec (.txDone p ts) s = .next t ∧ HasLeft s t p (.loc bs) bs ∧ (t.reg (b + 0x010)).getLsbD 4 = true ∧
        (s.isEvent bs = true → t.fld b Reg.Eth.TX_TS_NS = ts.ns.toNat ∧ t.bit b Reg.Eth.TX_TS_VALID = true ∧
          t.fld b Reg.Eth.TX_TS_SUB = ts.sub.toNat / 4096 * 4096 ∧ t.bit b Reg.Eth.TX_STEPPED = ts.stepped ∧
          page t [0x010, 0x044, 0x064, 0x068]) ∧
        (s.isEvent bs = false → page t [0x010, 0x044])) ∧
    (∃ t, exec (.ethLinkLost p) s = .next t ∧ IsDown t p ∧ (t.reg (b + 0x010)).getLsbD 1 = true ∧
      t.eth p = { s.eth p with leaving := false } ∧ page t [0x010, 0x044])) ∧
  (∀ (p : Fin 2) (s : State), s.enabled (Base.eth p) = true → s.bit (Base.eth p) Reg.Eth.LINK = false →
    ∃ t, exec (.ethLinkUp p) s = .next t ∧ t.bit (Base.eth p) Reg.Eth.LINK = true ∧
      t.bit (Base.eth p) Reg.Eth.BLOCK_LOCK = true ∧
      t.bit (Base.eth p) Reg.Eth.FEC_LOCK = (s.fld (Base.eth p) Reg.Eth.FEC != 0) ∧
      (t.reg (Base.eth p + 0x010)).getLsbD 0 = true ∧ t.eths = s.eths ∧ OnlyRegs s t ∧
      KeepsRegs s t [Base.eth p + 0x010, Base.eth p + 0x044]) ∧
  (∀ (who : Req) (p : Fin 2) (s r : State), Settled s → s.granted who .eth p = some r →
    let b := Base.eth p
    let x := s.eth p
    let page (t : State) (l : List Nat) : Prop := (∀ k, k ≠ p.val → t.eth k = s.eth k) ∧ KeepsRegs s t (l.map (b + ·))
    (∀ data : Word,
      let len := data.toNat % 512
      let loc (y : TxFrame) : Bool := match y with
        | .loc _ => true
        | .fwd .. => false
      let bad : Prop := len < 60 ∨ 256 < len ∨ x.queue.any loc = true ∨ s.enabled b = false
      let buf := (List.range 64).flatMap fun i => leBytes 4 (s.reg (b + 0x400 + 4 * i)).toNat
      ∃ t, exec (.txGo who p data) s = .next t ∧ t.fld b Reg.Eth.TX_LEN = len ∧
        (¬ bad → t.eth p = { x with queue := x.queue ++ [.loc (buf.take len)] } ∧ page t [0x060]) ∧
        (bad → t.eth p = x ∧ page t [0x01C, 0x060] ∧
          (s.bit b Reg.Hdr.VALID = false → t.fld b Reg.Hdr.CODE = 0x12 ∧ t.fld b Reg.Hdr.INFO = len))) ∧
    (s.enabled b = false →
      ∃ t, exec (.ethEnable who p) s = .next t ∧ t.enabled b = true ∧ t.eth p = { x with leaving := false } ∧
        page t [0x008]) ∧
    (s.enabled b = true →
      (s.bit b Reg.Eth.LINK = true → ∀ y, LeavesNext s p y →
        ∃ t, exec (.ethNormalDisable who p) s = .next t ∧ t.enabled b = false ∧
          t.eth p = { x with queue := [y], leaving := true } ∧ page t [0x008, 0x078] ∧
          t.fld b Reg.Eth.FWD_DROP_COUNT = min (s.fld b Reg.Eth.FWD_DROP_COUNT + (x.queue.length - 1)) (2 ^ 16 - 1)) ∧
      ((x.queue = [] ∨ s.bit b Reg.Eth.LINK = false) →
        ∃ t, exec (.ethNormalDisable who p) s = .next t ∧ t.enabled b = false ∧ IsDown t p ∧
          t.eth p = { x with queue := [], leaving := false } ∧ page t [0x008, 0x010, 0x044, 0x078] ∧
          t.fld b Reg.Eth.FWD_DROP_COUNT = min (s.fld b Reg.Eth.FWD_DROP_COUNT + x.queue.length) (2 ^ 16 - 1))) ∧
    (∃ t, exec (.ethDisableNow who p) s = .next t ∧ t.enabled b = false ∧ IsDown t p ∧
      t.eth p = { x with queue := [], leaving := false } ∧ page t [0x008, 0x010, 0x044, 0x078] ∧
      t.fld b Reg.Eth.FWD_DROP_COUNT = min (s.fld b Reg.Eth.FWD_DROP_COUNT + x.queue.length) (2 ^ 16 - 1) ∧
      (x.queue ≠ [] → (t.reg (b + 0x010)).getLsbD 6 = true))) ∧
  (∀ s : State, 0 < s.nt.wraps →
    ∃ t, exec .ntWrap s = .next t ∧ t.nt = { s.nt with wraps := s.nt.wraps - 1 } ∧
      t.fld Base.nclk Reg.Nclk.WRAP_COUNT = (s.fld Base.nclk Reg.Nclk.WRAP_COUNT + 1) % 256 ∧
      (t.reg (Base.nclk + 0x010)).getLsbD 0 = true ∧ KeepsRegs s t [Base.nclk + 0x010, Base.nclk + 0x080]) ∧
  (∀ (who : Req) (s r : State), Settled s → s.granted who .nclk 0 = some r →
    let b := Base.nclk
    let only (t : State) (l : List Nat) : Prop := (∀ a, a ∉ l.map (b + ·) → t.reg a = s.reg a) ∧
      t = { s with regs := t.regs, used := r.used, nt := t.nt }
    (∀ data : Word,
      let ns := data.toNat % 16
      let inc := ns * 2 ^ 32 + s.fld b Reg.Nclk.NT_INC_FRAC
      let ok : Prop := 3996 * 2 ^ 32 ≤ 1000 * inc ∧ 1000 * inc ≤ 4004 * 2 ^ 32
      ∃ t, exec (.ntIncNsWrite who data) s = .next t ∧ t.fld b Reg.Nclk.NT_INC_NS = ns ∧
        (ok → t.nt = { s.nt with next := some inc } ∧ only t [0x04C]) ∧
        (¬ ok → t.nt = s.nt ∧ only t [0x01C, 0x04C] ∧
          (s.bit b Reg.Hdr.VALID = false → t.fld b Reg.Hdr.CODE = 0x11 ∧ t.fld b Reg.Hdr.INFO = ns))) ∧
    (let v := signed 32 (s.fld b Reg.Nclk.NT_STEP_NS) * 2 ^ 32 + s.fld b Reg.Nclk.NT_STEP_FRAC
      let far : Prop := s.fld b Reg.Nclk.NT_JUMP_LIMIT * 2 ^ 32 < v.natAbs
      ∃ t, exec (.stepGo who) s = .next t ∧ (¬ far → t.nt = { s.nt with step := some v } ∧ only t []) ∧
        (far → t.nt = s.nt ∧ (t.reg (b + 0x010)).getLsbD 1 = true ∧ KeepsRegs s t [b + 0x010, b + 0x01C] ∧
          (s.bit b Reg.Hdr.VALID = false → t.fld b Reg.Hdr.CODE = 0x12 ∧
            t.fld b Reg.Hdr.INFO = min (v.natAbs / 2 ^ 32) 0xFF_FFFF))) ∧
    (∃ t, exec (.ntNsRead who) s = .next t ∧ t.respVal.toNat = s.fld b Reg.Nclk.NT_NS ∧
      t.nt = { s.nt with frac := s.reg (b + 0x044) } ∧ ∀ a, t.reg a = s.reg a))

/-! ### Housekeeping (chapter 18) -/

/-- No sensor has a shutdown limit enabled. -/
def NoShutLimits (s : State) : Prop :=
  ∀ i, i < 25 → s.thmAct i 2 = false ∧ s.bit Base.thm Reg.Thm.RATE_SHUT i = false

/-- Sensor `i` now has the temperature `v`, in units of 1/16 °C (R483, R484). -/
def TempIs (t : State) (i : Nat) (v : Int) : Prop :=
  signed 16 (t.fld Base.thm Reg.Thm.TEMP i) = v ∧ t.bit Base.thm Reg.Thm.VALID i = true ∧
    t.bit Base.thm Reg.Thm.OPEN i = false ∧ t.bit Base.thm Reg.Thm.FAULT i = false

/-- What a conversion result `v` is in ohms or volts: 20 mV or 2.5 V full scale, 10 nA times a power of ten (R495). -/
def sfeReading (mode exc : Nat) (v : Int) : Rat :=
  if mode = 1 then (v : Rat) / 2 ^ 23 * (20 / 1000) / (10 ^ exc * 10 / 10 ^ 9) else (v : Rat) / 2 ^ 23 * (5 / 2)

/-- The linearised value of a reading (R498). -/
def sfeValue (c : SfeCoef) (tfe : Int) (x : Rat) : Rat :=
  let k (i : Nat) : Rat := f32 (c.getD i 0)
  let dt : Rat := (tfe : Rat) / 16 - 25
  let xc := x * (1 + k 2 * dt + k 3 * dt ^ 2) + k 4 * dt + k 5 * dt ^ 2
  let xn := (xc - k 0) / k 1
  ((List.range 8).map fun i => k (6 + i) * xn ^ i).sum

/-- The word that a conversion of channel `k` produces (R495, R496, R498, R499); the rounding to binary32 is free. -/
def sfeWordOf (s : State) (k : Fin 16) (c : SfeCoef) (v : Int) : SfeWord :=
  let x := s.sfe k
  let mode := s.fld (Base.sfe k) Reg.Sfe.MODE
  let tfe := s.fld Base.thm Reg.Thm.TEMP (if k.val < 8 then 23 else 24)
  { value := toF32 (sfeValue c (signed 16 tfe) (sfeReading mode x.exc v)), raw := toF32 (sfeReading mode x.exc v)
    seq := x.seq, exc := x.exc, tfe := tfe, rangeChanged := x.changed
    beyond := decide (mode = 1 ∧ x.exc = 0 ∧ 2 ^ 23 < v.natAbs) }

/-- Rounds, limits, throttle pauses, shutdown records, and the conversions, ranges and requests of the sensor front
end: A sample sets TEMP and VALID, or OPEN, whose ALERT comes once; at ALM_LIM it alerts, at THR_LIM throttling starts
with the first pause at the next multiple of 512 steps from 2c + 131,072, at an enabled SHUT_LIM the device enters
Shutdown and a record waits. A slow round also notes the rails outside 5 % and the references, and moves a loop
setting by at most one code, a bias reference by at most 0.5 ppm, none where COMP_EN is 0 (R494). THR_FORCE starts
throttling; a due pause is announced to all 256 sequencers, and the next follows one period on. The record goes into
the ring in NVM, read word by word. A conversion yields a word with its value, flags and number, unless it spans a
range change; EXC and AUTO then set the range; a broken wire trips the monitor, and the channel returns to its range;
REQ latches the word with its flags; COEF_GO takes the pending set, or refuses it with 0x12; ENABLE starts, the
disables stop the channel. (R484, R485, R487, R489, R490, R492, R493, R495, R496, R497, R498, R500) -/
def Obligations.ThermalAndSensors : Prop :=
  let b := Base.thm
  (∀ (i : Nat) (rs : List Reading) (s : State), i < 25 → s.inDev .off = false → s.power.por = false →
    (∀ j, j < 25 → (s.bit b Reg.Thm.FAST j = true ↔ j = i)) →
    let alert (t : State) : Prop := (t.reg (b + 0x010)).getLsbD i = true
    let t0 := (2 * s.count + 131072 + 511) / 512 * 512
    let calm (t : State) : Prop := (∀ a, (a < b ∨ b + 0x1000 ≤ a) → ¬ irqWrites a → t.reg a = s.reg a) ∧
      (∀ j, j ≠ i → j < 25 → t.reg (b + 0x100 + 16 * j) = s.reg (b + 0x100 + 16 * j))
    (∀ v : Int, 16 ≤ i → rs[i]? = some (.die v) → -32768 ≤ v → v ≤ 32767 →
      (NoShutLimits s →
        ∃ t, exec (.fastRound rs) s = .next t ∧ TempIs t i v ∧ calm t ∧ t.therm.record = s.therm.record ∧
          (t.sensor i).hist = ((v, s.ticks) :: (s.sensor i).hist).take 4 ∧
          (s.thmAct i 0 = true → s.thmS Reg.Thm.ALM_LIM i ≤ v → alert t ∧ t.bit b Reg.Thm.ALM_HIT i = true) ∧
          (s.thmAct i 1 = true → s.thmS Reg.Thm.THR_LIM i ≤ v → t.bit b Reg.Thm.THR_HIT i = true ∧
            t.bit b Reg.Thm.THR_ACTIVE = true ∧ (s.bit b Reg.Thm.THR_ACTIVE = false → t.therm.next = some t0 ∧
              t.fld64 b Reg.Thm.T_APPLY_LO Reg.Thm.T_APPLY_HI = t0 % 2 ^ 64 ∧ (t.reg (b + 0x010)).getLsbD 25 = true)) ∧
          (s.thmAct i 1 = false → s.thmAct i 3 = false → s.bit b Reg.Thm.THR_FORCE = true →
            t.bit b Reg.Thm.THR_ACTIVE = s.bit b Reg.Thm.THR_ACTIVE)) ∧
      (s.thmAct i 2 = true → s.thmS Reg.Thm.SHUT_LIM i ≤ v →
        s.inDev .configured = true ∨ s.inDev .ready = true ∨ s.inDev .running = true ∨ s.inDev .cellar = true →
        ∃ t, exec (.fastRound rs) s = .next t ∧ t.inDev .shutdown = true ∧ t.therm.shutLive = true ∧
          t.therm.record ≠ none ∧ (t.fld Base.pwr Reg.Pwr.RESET_CAUSE).testBit 5 = true)) ∧
    (i < 8 → rs[i]? = some .noCurrent → NoShutLimits s →
      ∃ t, exec (.fastRound rs) s = .next t ∧ t.bit b Reg.Thm.OPEN i = true ∧ t.bit b Reg.Thm.FAULT i = false ∧
        t.fld b Reg.Thm.TEMP i = s.fld b Reg.Thm.TEMP i ∧ calm t ∧
        (s.bit b Reg.Thm.OPEN i = false → alert t) ∧
        (s.bit b Reg.Thm.OPEN i = true → (t.reg (b + 0x010)).getLsbD i = (s.reg (b + 0x010)).getLsbD i))) ∧
  (∀ (rs : List Reading) (sup : List (List Int)) (ref : RefInput) (s : State), rs.length = 25 → sup.length = 9 →
    s.inDev .off = false → s.power.por = false → NoShutLimits s →
    let c := Base.cal
    let vref : Int := s.fld c Reg.Cal.VREF_VAL
    let tone : Int := s.fld c Reg.Cal.TONE_FREQ
    let vOk : Prop := 2500000 ≤ vref ∧ vref ≤ 5000000 ∧ 200 * ((ref.vref - vref).natAbs : Int) ≤ vref
    let tOk : Prop := -160 ≤ ref.level ∧ ref.level ≤ 80 ∧ 10000 * (((ref.tone : Int) - tone).natAbs : Int) ≤ tone
    let loop (x : State) (d : Nat) : Int := (SMap.get (fun _ => PllComp.reset) x.therm.plls d).loop
    let bias (x : State) (i : Nat) : Int := SMap.get (fun _ => 0) x.therm.biasRef i
    let out (d : Nat) : Prop := ∃ e ∈ (dieRails d).zip (sup.getD d []), e.1.natAbs < 20 * (e.2 - e.1).natAbs
    ∃ t, exec (.slowRound rs sup ref) s = .next t ∧
      (∀ i v, 16 ≤ i → i < 25 → rs[i]? = some (.die v) → -32768 ≤ v → v ≤ 32767 → TempIs t i v) ∧
      (∀ i, i < 8 → rs[i]? = some .noCurrent → t.bit b Reg.Thm.OPEN i = true ∧
        t.fld b Reg.Thm.TEMP i = s.fld b Reg.Thm.TEMP i) ∧
      (∀ d, d < 9 → (out d → (t.fld Base.pwr Reg.Pwr.SUPPLY_LIVE).testBit d = true ∧
          (t.reg (Base.pwr + 0x010)).getLsbD d = true) ∧
        (¬ out d → (t.fld Base.pwr Reg.Pwr.SUPPLY_LIVE).testBit d = false)) ∧
      (∀ d, (loop t d - loop s d).natAbs ≤ 1 ∧ (s.compOn 0 = false → loop t d = loop s d)) ∧
      (∀ i, (bias t i - bias s i).natAbs ≤ 500 ∧ (s.compOn 1 = false → bias t i = bias s i)) ∧
      (t.bit c Reg.Cal.VREF_OK = true ↔ vOk) ∧ (t.bit c Reg.Cal.TONE_OK = true ↔ tOk) ∧
      ((s.bit c Reg.Cal.VREF_OK = true ∧ ¬ vOk ∨ s.bit c Reg.Cal.TONE_OK = true ∧ ¬ tOk) →
        (t.reg (c + 0x010)).getLsbD 3 = true)) ∧
  (∀ (s : State) (x : Nat), s.therm.next = some x →
    let len := s.fld b Reg.Thm.THR_PAUSE * 512
    let x' := x + s.fld b Reg.Thm.THR_PERIOD * 512
    (s.run = true → x ≤ 2 * s.count + 1 + 131072 →
      ∃ t, exec .pauseAnnounce s = .next t ∧ t.therm = { s.therm with next := some x' } ∧
        (∀ n, n < 256 → t.seq n = { s.seq n with pauses := (s.seq n).pauses ++ [(x, len)] }) ∧
        t.fld64 b Reg.Thm.T_APPLY_LO Reg.Thm.T_APPLY_HI = x' % 2 ^ 64 ∧
        t.fld b Reg.Thm.PAUSE_COUNT = min (s.fld b Reg.Thm.PAUSE_COUNT + 1) (2 ^ 32 - 1) ∧
        KeepsRegs s t [b + 0x048, b + 0x04C, b + 0x050]) ∧
    (Settled s → s.run = false ∨ 2 * s.count + 1 + 131072 < x → exec .pauseAnnounce s = .next s)) ∧
  (∀ (s : State) (bs : List Byte), s.therm.record = some bs →
    ∃ t, exec .shutdownRecord s = .next t ∧ t.therm.record = none ∧ t.therm.seq = (s.therm.seq + 1) % 2 ^ 32 ∧
      t.therm.unread = true ∧ BytesPut s.therm.ring t.therm.ring (s.therm.seq % 256 * 48) (bs ++ leBytes 4 (crc32 bs)) ∧
      KeepsRegs s t []) ∧
  (∀ (who : Req) (s r : State), Settled s → s.granted who .thm 0 = some r →
    let t0 := (2 * s.count + 131072 + 511) / 512 * 512
    (∀ w : Word, let on := w.toNat.testBit 30
      ∃ t, exec (.thrForceWrite who w) s = .next t ∧ t.bit b Reg.Thm.THR_FORCE = on ∧
        (on = true → t.bit b Reg.Thm.THR_ACTIVE = true) ∧
        (on = true → s.bit b Reg.Thm.THR_ACTIVE = false → t.therm = { s.therm with next := some t0 } ∧
          t.fld64 b Reg.Thm.T_APPLY_LO Reg.Thm.T_APPLY_HI = t0 % 2 ^ 64 ∧ (t.reg (b + 0x010)).getLsbD 25 = true) ∧
        ((on = false ∨ s.bit b Reg.Thm.THR_ACTIVE = true) → t.therm = s.therm ∧
          t.bit b Reg.Thm.THR_ACTIVE = s.bit b Reg.Thm.THR_ACTIVE ∧ ∀ a, a ≠ b + 0x040 → t.reg a = s.reg a) ∧
        KeepsRegs s t [b + 0x010, b + 0x040, b + 0x048, b + 0x04C]) ∧
    (let w := s.fld b Reg.Thm.SH_WORD
      ∃ t, exec (.shDataRead who) s = .next t ∧ t.fld b Reg.Thm.SH_WORD = (w + 1) % 16 ∧
        (w < 12 → t.respVal.toNat =
          ofBytesLE (rdBytes s.therm.ring (s.fld b Reg.Thm.SH_REC * 48 + 4 * w) 4)) ∧
        t.therm = s.therm ∧ ∀ a, a ≠ b + 0x058 → t.reg a = s.reg a)) ∧
  (∀ (k : Fin 16) (v : Int) (s : State),
    let p := Base.sfe k
    let x := s.sfe k
    let only (t : State) (l : List Nat) : Prop := (∀ j, j ≠ k.val → t.sfe j = s.sfe j) ∧ KeepsRegs s t (l.map (p + ·)) ∧
      t = { s with
        regs := t.regs, sfes := t.sfes, fns := t.fns, msix := t.msix, host := t.host, evchs := t.evchs
        window := t.window, edges := t.edges, errNow := t.errNow }
    let raised (t : State) (i : Nat) : Prop := (t.reg (p + 0x010)).getLsbD i = true
    let exc' := if s.fld p Reg.Sfe.EXC ≠ x.exc then s.fld p Reg.Sfe.EXC
      else if s.bit p Reg.Sfe.AUTO = true ∧ x.spans = false then
        if 90 * 2 ^ 23 < 100 * v.natAbs then x.exc - 1
        else if 100 * v.natAbs < 7 * 2 ^ 23 ∧ x.exc < s.fld p Reg.Sfe.EXC_MAX then x.exc + 1 else x.exc
      else x.exc
    let moves : Bool := decide (s.fld p Reg.Sfe.MODE = 1 ∧ exc' ≠ x.exc)
    let c := x.pend.getD x.coef
    (x.on = true → x.openLive = false → s.calHolds 2 k = false → x.exc ≤ 4 →
      ∃ t, exec (.sfeConversion k v) s = .next t ∧ only t [0x010, 0x040, 0x058] ∧
        t.sfe k = { x with
          seq := (x.seq + 1) % 65536, coef := c, pend := none, on := s.enabled p, spans := moves && s.enabled p
          exc := if moves then exc' else x.exc, changed := moves || (x.spans && x.changed)
          word := if x.spans then x.word else some (sfeWordOf s k c v), fresh := !x.spans || x.fresh } ∧
        (x.spans = false → raised t 0) ∧ (x.pend ≠ none → raised t 5) ∧
        (x.spans = false → (sfeWordOf s k c v).beyond = true → raised t 3) ∧
        (moves = true → t.fld p Reg.Sfe.EXC = exc' ∧ raised t 2 ∧
          t.fld p Reg.Sfe.RCHG_COUNT = min (s.fld p Reg.Sfe.RCHG_COUNT + 1) (2 ^ 16 - 1)) ∧
        (moves = false → KeepsRegs s t [p + 0x010])) ∧
    (x.on = true → x.openLive = false →
      ∃ t, exec (.sfeOpenTrip k) s = .next t ∧ raised t 1 ∧ only t [0x010, 0x058] ∧
        t.fld p Reg.Sfe.OPEN_COUNT = min (s.fld p Reg.Sfe.OPEN_COUNT + 1) (2 ^ 16 - 1) ∧
        t.sfe k = { x with openLive := s.enabled p, prevExc := x.exc, exc := 0, spans := false, on := s.enabled p }) ∧
    (x.openLive = true →
      ∃ t, exec (.sfeOpenRecover k) s = .next t ∧ raised t 2 ∧ only t [0x010, 0x058] ∧
        t.fld p Reg.Sfe.RCHG_COUNT = min (s.fld p Reg.Sfe.RCHG_COUNT + 1) (2 ^ 16 - 1) ∧
        t.sfe k = { x with openLive := false, exc := x.prevExc, spans := true, changed := true })) ∧
  (∀ (who : Req) (k : Fin 16) (s r : State), Settled s → s.granted who .sfe k = some r →
    let p := Base.sfe k
    let x := s.sfe k
    let page (t : State) (l : List Nat) : Prop := (∀ j, j ≠ k.val → t.sfe j = s.sfe j) ∧ KeepsRegs s t (l.map (p + ·))
    let live := 2 * x.openLive.toNat + 16 * (s.calHolds 2 k).toNat
    (∀ w, x.word = some w → w.seq < 65536 → w.exc < 8 → w.tfe < 65536 →
      ∃ t, exec (.sfeReq who k) s = .next t ∧ t.sfe k = { x with fresh := false } ∧
        t.reg (p + 0x048) = w.value ∧ t.reg (p + 0x04C) = w.raw ∧ t.fld p Reg.Sfe.WORD_SEQ = w.seq ∧
        t.fld p Reg.Sfe.WORD_EXC = w.exc ∧ t.fld p Reg.Sfe.T_FE = w.tfe ∧
        t.fld p Reg.Sfe.WORD_FLAGS = x.fresh.toNat + live + 4 * w.rangeChanged.toNat + 8 * w.beyond.toNat + 32 ∧
        page t [0x048, 0x04C, 0x050, 0x054]) ∧
    (x.word = none → ∃ t, exec (.sfeReq who k) s = .next t ∧ t.sfe k = x ∧ t.fld p Reg.Sfe.WORD_FLAGS = live ∧
      page t [0x050]) ∧
    (let set := (List.range 14).map fun i => s.reg (p + (if i < 6 then 0x060 + 4 * i else 0x080 + 4 * (i - 6)))
      let wrong (i : Nat) : Prop := (set.getD i 0).toNat / 2 ^ 23 % 256 = 255 ∨ i = 1 ∧ (set.getD 1 0).toNat % 2 ^ 31 = 0
      ((∀ i, i < 14 → ¬ wrong i) →
        ∃ t, exec (.coefGo who k) s = .next t ∧ t.sfe k = { x with pend := some set } ∧ page t []) ∧
      (∀ i, i < 14 → wrong i → (∀ j, j < i → ¬ wrong j) →
        ∃ t, exec (.coefGo who k) s = .next t ∧ t.sfe k = x ∧ page t [0x01C] ∧
          (s.bit p Reg.Hdr.VALID = false → t.fld p Reg.Hdr.CODE = 0x12 ∧
            t.fld p Reg.Hdr.INFO = if i < 6 then 0x060 + 4 * i else 0x080 + 4 * (i - 6)))) ∧
    (s.enabled p = false →
      ∃ t, exec (.sfeEnable who k) s = .next t ∧ t.enabled p = true ∧ page t [0x008] ∧
        (x.on = true ∨ s.fld p Reg.Sfe.MODE = 0 → t.sfe k = x) ∧
        (x.on = false → s.fld p Reg.Sfe.MODE ≠ 0 →
          t.sfe k = { x with on := true, exc := s.fld p Reg.Sfe.EXC, spans := false })) ∧
    (s.enabled p = true →
      ∃ t, exec (.sfeNormalDisable who k) s = .next t ∧ t.enabled p = false ∧ page t [0x008] ∧
        (x.openLive = false → t.sfe k = x) ∧
        (x.openLive = true → t.sfe k = { x with on := false, openLive := false, spans := false })) ∧
    (∃ t, exec (.sfeDisableNow who k) s = .next t ∧ t.enabled p = false ∧
      t.sfe k = { x with on := false, openLive := false, spans := false } ∧ page t [0x008, 0x010] ∧
      (x.on = true → x.openLive = false → (t.reg (p + 0x010)).getLsbD 4 = true)))

/-! ### Calibration (chapter 19) -/

/-- Case `i` of R509 applies to a request with a mode for target `idx` of `kind`. -/
def CalCase (s : State) (mode kind idx : Nat) (i : Nat) : Prop :=
  let own := s.owner (calPage kind idx)
  let st := s.fld Base.pwr Reg.Pwr.STATE
  match i with
  | 1 => mode = 0 ∧ s.cal.job ≠ none
  | 2 => calTargets kind ≤ idx
  | 3 => own ≠ s.owner Base.cal ∧ own ≠ 0xFF
  | 4 => ¬ (if kind ≤ 2 then st = 3 ∨ st = 4 ∨ st = 5
      else (st = 4 ∨ st = 5) ∧ s.bit (Base.tile (calTile kind idx)) Reg.Tile.LOCK = true)
  | 5 => s.bit Base.cal (if kind = 4 then Reg.Cal.TONE_OK else Reg.Cal.VREF_OK) = false
  | _ => mode = 1 ∧ kind = 2

/-- Beside the calibration page, only what a hold shows and what interrupt delivery writes changes. -/
def OnlyCal (s t : State) (kind idx : Nat) (offs : List Nat) : Prop :=
  (kind ≤ 2 → KeepsRegs s t (offs.map (Base.cal + ·)) ∧ t.outs = s.outs ∧ t.adcs = s.adcs) ∧
    (kind ≠ 1 → t.fluxes = s.fluxes) ∧ (∀ n, n ≠ idx → t.flux n = s.flux n) ∧
    (t.flux idx = s.flux idx ∨ t.flux idx = { s.flux idx with refLive := false }) ∧
    (∀ a, a ∉ offs.map (Base.cal + ·) → (a < calPage kind idx ∨ calPage kind idx + 0x1000 ≤ a) → ¬ irqWrites a →
      t.reg a = s.reg a) ∧
    t = { s with
      regs := t.regs, cal := t.cal, outs := t.outs, adcs := t.adcs, fluxes := t.fluxes, seqs := t.seqs, acqs := t.acqs
      fns := t.fns
      msix := t.msix, host := t.host, evchs := t.evchs, window := t.window, edges := t.edges, errNow := t.errNow }

/-- The foreground calibration is over, without effect on any trim: the page is idle, with ABORTED and its count (R512). -/
def CalAborted (s t : State) : Prop :=
  t.cal.job = none ∧ t.bit Base.cal Reg.Cal.BUSY = false ∧ t.fld Base.cal Reg.Cal.PHASE = 0 ∧
    t.fld Base.cal Reg.Cal.ABORT_COUNT = min (s.fld Base.cal Reg.Cal.ABORT_COUNT + 1) (2 ^ 16 - 1) ∧
    (t.reg (Base.cal + 0x010)).getLsbD 1 = true ∧ t.cal.trims = s.cal.trims

/-- The trims of target `tg`, of `kind` and `idx`, after a measurement gave the values `vals`: those in range are the new
target values; the others leave theirs, with OUT_OF_RANGE and code 0x13. With `snap`, target values come into force. -/
def TrimsTaken (s t : State) (kind idx : Nat) (vals : List Int) (snap : Bool) : Prop :=
  let tg := calKey kind idx
  let n := calTrims kind
  (∀ i, i < n → i < vals.length →
    let v := vals.getD i 0
    let goal := if v.natAbs ≤ calRange kind then v else (s.trim tg i).2
    t.trim tg i = (if snap then goal else (s.trim tg i).1, goal)) ∧
    (∀ j i, j ≠ tg → i < 64 → t.trim j i = s.trim j i) ∧
    ((∃ i, i < n ∧ i < vals.length ∧ calRange kind < (vals.getD i 0).natAbs) →
      (t.reg (Base.cal + 0x010)).getLsbD 4 = true) ∧
    (∀ i, i < n → i < vals.length → calRange kind < (vals.getD i 0).natAbs →
      (∀ j, j < i → (vals.getD j 0).natAbs ≤ calRange kind) → s.bit Base.cal Reg.Hdr.VALID = false →
      t.fld Base.cal Reg.Hdr.CODE = 0x13 ∧ t.fld Base.cal Reg.Hdr.INFO = kind * 2 ^ 21 + idx * 2 ^ 14 + i)

/-- Requests, holds, release, abandonment, background passes, ripening, stores and reads of trims: A request with KIND
and IDX of its word is refused with 0x11 and the first case of R509, or taken: a foreground job that waits, a
background that starts or stops. The hold starts at the first frame boundary 256 tc after GO and ends at the one after
the time of R507, when the values in range become target values, in force at once with FG_SNAP; the others leave
theirs, with 0x13. ABORT and the causes of R512 end it without effect; they stop backgrounds as well. A background
pass sets target values, with BG_DRIFT, or for KIND 1 beyond 20,000 taps (the model's reading, log 18) starts the
fault sequence. At a ripening boundary each target's trim with the largest difference moves one tap. STORE copies the
values in force, refused with 0x12; RESTORE sets the factory values as target values; TRIM_DATA reads a trim and
advances TRIM_NUM. (R382, R507, R508, R509, R510, R511, R512, R513, R514, R515, R516, R520) -/
def Obligations.CalibrationService : Prop :=
  let b := Base.cal
  (∀ (who : Req) (data : Word) (s r : State), Settled s → s.granted who .cal 0 = some r →
    let kind := data.toNat / 2 ^ 16 % 8
    let idx := data.toNat % 2 ^ 7
    let tg := calKey kind idx
    let fields (t : State) : Prop := t.fld b Reg.Cal.KIND = kind ∧ t.fld b Reg.Cal.IDX = idx ∧
      t.bit b Reg.Cal.FG_SNAP = data.toNat.testBit 20
    let page (t : State) (l : List Nat) : Prop := KeepsRegs s t (l.map (b + ·)) ∧
      t = { s with regs := t.regs, used := r.used, cal := t.cal }
    (∀ mode, mode < 3 →
      let cmd : Instr := if mode = 0 then .calForeground who data else if mode = 1 then .calBackgroundStart who data
        else .calBackgroundStop who data
      (∀ i, 1 ≤ i → i ≤ 6 → CalCase s mode kind idx i → (∀ j, 1 ≤ j → j < i → ¬ CalCase s mode kind idx j) →
        ∃ t, exec cmd s = .next t ∧ fields t ∧ t.cal = s.cal ∧ t.fld b Reg.Cal.RESULT = 0x11 ∧
          (s.bit b Reg.Hdr.VALID = false → t.fld b Reg.Hdr.CODE = 0x11 ∧ t.fld b Reg.Hdr.INFO = i) ∧
          page t [0x01C, 0x040, 0x044]) ∧
      ((∀ i, 1 ≤ i → i ≤ 6 → ¬ CalCase s mode kind idx i) →
        ∃ t, exec cmd s = .next t ∧ fields t ∧ t.fld b Reg.Cal.MODE = mode ∧ t.fld b Reg.Cal.RESULT = 0 ∧
          page t [0x040, 0x044] ∧
          (mode = 0 → t.cal = { s.cal with job := some ⟨kind, idx, s.count, none⟩ } ∧ t.bit b Reg.Cal.BUSY = true ∧
            t.fld b Reg.Cal.PHASE = 1) ∧
          (mode = 1 → t.cal = { s.cal with bg := if s.cal.bg.contains tg then s.cal.bg else s.cal.bg ++ [tg] }) ∧
          (mode = 2 → t.cal = { s.cal with bg := s.cal.bg.erase tg }))) ∧
    (let made := SMap.get (fun _ => 0) s.cal.stores tg
      let values := (List.range (calTrims kind)).map fun i => (s.trim tg i).1
      let refused (t : State) (info : Nat) : Prop := t.cal = s.cal ∧ page t [0x01C, 0x040] ∧
        (s.bit b Reg.Hdr.VALID = false → t.fld b Reg.Hdr.CODE = 0x12 ∧ t.fld b Reg.Hdr.INFO = info)
      ∃ t, exec (.calStore who data) s = .next t ∧ fields t ∧
        (calTargets kind ≤ idx → t.cal = s.cal ∧ page t [0x040]) ∧
        (idx < calTargets kind → s.calHolds kind idx = true → refused t 0xFFFF) ∧
        (idx < calTargets kind → s.calHolds kind idx = false → 10000 ≤ made → made < 2 ^ 24 → refused t made) ∧
        (idx < calTargets kind → s.calHolds kind idx = false → made < 10000 → page t [0x040] ∧
          SMap.get (fun _ => 0) t.cal.stores tg = made + 1 ∧
          t.cal = { s.cal with stores := t.cal.stores, storing := s.cal.storing ++ [(tg, values)] })) ∧
    (idx < calTargets kind →
      ∃ t, exec (.calRestore who data) s = .next t ∧ fields t ∧ KeepsRegs s t [b + 0x010, b + 0x040] ∧
        t = { s with
          regs := t.regs, used := r.used, cal := t.cal, fns := t.fns, msix := t.msix, host := t.host, evchs := t.evchs
          window := t.window } ∧
        (s.ripening tg = true → t.ripening tg = false → (t.reg (b + 0x010)).getLsbD 2 = true) ∧
        (¬ (s.ripening tg = true ∧ t.ripening tg = false) → KeepsRegs s t [b + 0x040]) ∧
        (∀ i, i < calTrims kind →
          t.trim tg i = ((s.trim tg i).1, SMap.get (fun _ => 0) s.cal.factory (tg * 64 + i))) ∧
        (∀ j i, j ≠ tg → i < 64 → t.trim j i = s.trim j i) ∧ t.cal = { s.cal with trims := t.cal.trims })) ∧
  (∀ (who : Req) (s r : State), Settled s → s.granted who .cal 0 = some r →
    (s.cal.job = none → ∃ t, exec (.calAbort who) s = .next t ∧ t.cal = s.cal ∧ ∀ a, t.reg a = s.reg a) ∧
    (∀ j, s.cal.job = some j → ∃ t, exec (.calAbort who) s = .next t ∧ CalAborted s t ∧
      t.cal = { s.cal with job := none } ∧ (j.start = none → KeepsRegs s t [b + 0x010, b + 0x044, b + 0x064])) ∧
    (let num := s.fld b Reg.Cal.TRIM_NUM
      let kind := s.fld b Reg.Cal.TRIM_KIND
      let idx := s.fld b Reg.Cal.TRIM_IDX
      let v := if num < calTrims kind ∧ idx < calTargets kind then s.trim (calKey kind idx) num else (0, 0)
      ∃ t, exec (.trimDataRead who) s = .next t ∧ t.fld b Reg.Cal.TRIM_NUM = (num + 1) % 256 ∧
        (t.respVal.toNat : Int) = v.2 % 2 ^ 16 * 2 ^ 16 + v.1 % 2 ^ 16 ∧ t.cal = s.cal ∧
        ∀ a, a ≠ b + 0x070 → t.reg a = s.reg a)) ∧
  (∀ (s : State) (j : CalJob), s.cal.job = some j → j.kind < 5 → j.idx < calTargets j.kind →
    let frame : Prop := s.run = true ∧ s.count % 256 = 0
    (j.start = none → frame → j.go + 256 ≤ s.count →
      ∃ t, exec .calHoldStart s = .next t ∧ t.cal = { s.cal with job := some { j with start := some s.count } } ∧
        t.fld b Reg.Cal.PHASE = 3 ∧ OnlyCal s t j.kind j.idx [0x044] ∧
        (j.kind = 3 → t.fld (Base.out j.idx) Reg.Out.OUT_STATE = 1 ∧
          ∀ n p, n ∈ outTones j.idx → (s.tone n).play = some p → Charged t p.tag Flag.STALE) ∧
        (j.kind = 4 → t.fld (Base.adc j.idx) Reg.Adc.IN_STATE = 3 ∧ (t.reg (Base.adc j.idx + 0x010)).getLsbD 3 = true)) ∧
    ((j.start ≠ none ∨ ¬ frame ∨ s.count < j.go + 256) → exec .calHoldStart s = .next s) ∧
    (∀ (c0 : Nat) (vals : List Int), j.start = some c0 →
      (s.calCaused (calKey j.kind j.idx) = false → frame → c0 + calTime j.kind ≤ s.count →
        ∃ t, exec (.calRelease vals) s = .next t ∧ t.cal.job = none ∧ t.bit b Reg.Cal.BUSY = false ∧
          t.fld b Reg.Cal.PHASE = 0 ∧ (t.reg (b + 0x010)).getLsbD 0 = true ∧
          TrimsTaken s t j.kind j.idx vals (s.bit b Reg.Cal.FG_SNAP) ∧
          (s.ripening (calKey j.kind j.idx) = true → t.ripening (calKey j.kind j.idx) = false →
            (t.reg (b + 0x010)).getLsbD 2 = true) ∧ (j.kind = 1 → (t.flux j.idx).refLive = false) ∧
          OnlyCal s t j.kind j.idx [0x010, 0x01C, 0x044]) ∧
      (s.calCaused (calKey j.kind j.idx) = true →
        ∃ t, exec (.calRelease vals) s = .next t ∧ CalAborted s t ∧ OnlyCal s t j.kind j.idx [0x010, 0x044, 0x064]) ∧
      (s.calCaused (calKey j.kind j.idx) = false → (¬ frame ∨ s.count < c0 + calTime j.kind) →
        exec (.calRelease vals) s = .next s)) ∧
    (s.calCaused (calKey j.kind j.idx) = true →
      ∃ t, exec .calAbandon s = .next t ∧ CalAborted s t ∧ OnlyCal s t j.kind j.idx [0x010, 0x044, 0x064])) ∧
  (∀ s : State, ∃ t, exec .calAbandon s = .next t ∧ t.cal.bg = (s.cal.bg.filter fun g => !s.calCaused g) ∧
    t.cal.hits = [] ∧ t.cal.trims = s.cal.trims) ∧
  (∀ (kind : Fin 8) (idx : Fin 128) (vals : List Int) (s : State),
    let tg := calKey kind idx
    let far : Prop := kind.val = 1 ∧ 20000 < (vals.getD 0 0 - (s.trim tg 0).1).natAbs
    let drift (t : State) (i : Nat) : Prop := s.fld b Reg.Cal.DRIFT_LIM < ((t.trim tg i).2 - (t.trim tg i).1).natAbs
    1 ≤ kind.val → kind.val < 5 → idx.val < calTargets kind → s.cal.bg.contains tg = true →
    s.calHolds kind idx = false → s.calCaused tg = false →
    (¬ far → ∃ t, exec (.calBgPass kind idx vals) s = .next t ∧ TrimsTaken s t kind idx vals false ∧
      t.cal = { s.cal with trims := t.cal.trims } ∧ OnlyCal s t kind idx [0x010, 0x01C] ∧
      (s.ripening tg = true → t.ripening tg = false → (t.reg (b + 0x010)).getLsbD 2 = true) ∧
      (kind.val = 1 → (t.flux idx).refLive = false) ∧
      ((∃ i, i < calTrims kind ∧ drift t i) → (t.reg (b + 0x010)).getLsbD 7 = true)) ∧
    (far → ∃ t, exec (.calBgPass kind idx vals) s = .next t ∧ t.cal.trims = s.cal.trims ∧
      (t.flux idx).faultHeld = true ∧ (t.flux idx).dcq = [] ∧ (t.flux idx).refLive = true ∧
      (t.fld (Base.flux idx) Reg.Flux.FAULT_CAUSE).testBit 2 = true)) ∧
  (∀ s : State, s.run = true → s.count % 256 = 0 → s.count % (256 * s.fld b Reg.Cal.RIPEN_INT) = 0 →
    s.inDev .cellar = false → s.cal.ripeAt ≠ some s.count →
    ∃ t, exec .ripenBoundary s = .next t ∧ t.cal = { s.cal with trims := t.cal.trims, ripeAt := some s.count } ∧
      KeepsRegs s t [b + 0x010] ∧
      ∀ kind idx, 1 ≤ kind → kind < 5 → idx < calTargets kind →
        let tg := calKey kind idx
        let n := calTrims kind
        let apart (i : Nat) : Nat := ((s.trim tg i).2 - (s.trim tg i).1).natAbs
        ((∀ i, i < n → apart i = 0) → ∀ i, i < n → t.trim tg i = s.trim tg i) ∧
        (∀ i, i < n → 0 < apart i → (∀ j, j < n → apart j ≤ apart i) → (∀ j, j < i → apart j < apart i) →
          t.trim tg i = ((s.trim tg i).1 + (if (s.trim tg i).1 < (s.trim tg i).2 then 1 else -1), (s.trim tg i).2) ∧
          (∀ j, j < n → j ≠ i → t.trim tg j = s.trim tg j) ∧
          (apart i = 1 → (∀ j, j < n → j ≠ i → apart j = 0) → (t.reg (b + 0x010)).getLsbD 2 = true))) ∧
  (∀ (s : State) (e : Nat × List Int) (es : List (Nat × List Int)), s.cal.storing = e :: es →
    ∃ t, exec .calStoreComplete s = .next t ∧ SMap.get (fun _ => []) t.cal.user e.1 = e.2 ∧
      t.cal = { s.cal with storing := es, user := t.cal.user } ∧ (t.reg (b + 0x010)).getLsbD 5 = true ∧
      KeepsRegs s t [b + 0x010])

/-! ### Power states, resets and boot (chapter 20) -/

/-- What a command that raises an interrupt of the power page may change beside registers. -/
def OnlyPower (s t : State) (offs : List Nat) : Prop :=
  KeepsRegs s t (offs.map (Base.pwr + ·)) ∧
    t = { s with
      regs := t.regs, used := t.used, power := t.power, fns := t.fns, msix := t.msix, host := t.host, evchs := t.evchs
      window := t.window, edges := t.edges, errNow := t.errNow }

/-- A request for a state is refused with a code and INFO; nothing is under way that was not (R522, R533). -/
def RequestRefused (s t : State) (code info : Nat) : Prop :=
  (t.reg (Base.pwr + 0x010)).getLsbD 10 = true ∧ t.power = s.power ∧ OnlyPower s t [0x010, 0x01C, 0x044] ∧
    (s.bit Base.pwr Reg.Hdr.VALID = false → t.fld Base.pwr Reg.Hdr.CODE = code ∧ t.fld Base.pwr Reg.Hdr.INFO = info)

/-- A request for a state is accepted: the transition is under way, and STATE still shows the old state (R522). -/
def RequestTaken (s t : State) (goal : Nat) : Prop :=
  let st := s.fld Base.pwr Reg.Pwr.STATE
  t.power = { s.power with trans := some ⟨goal, st, false⟩ } ∧ t.fld Base.pwr Reg.Pwr.STATE = st ∧
    t.fld Base.pwr Reg.Pwr.REQ_STATE = goal ∧ KeepsRegs s t [Base.pwr + 0x044] ∧
    t = { s with regs := t.regs, used := t.used, power := t.power, tiles := t.tiles }

/-- The enabled tiles, and no others, are powered (R79, R522). -/
def TilesPowered (s t : State) : Prop :=
  ∀ i, i < 8 → (t.tile i).pll = (s.fld Base.tl Reg.Tl.TILE_EN).testBit i

/-- No tile is powered, none is locked or aligned, and outputs and ADCs are Off (R209, R239, R522). -/
def TilesUnpowered (t : State) : Prop :=
  (∀ i, i < 8 → (t.tile i).pll = false ∧ t.bit (Base.tile i) Reg.Tile.LOCK = false ∧
    t.bit (Base.tile i) Reg.Tile.ALIGNED = false) ∧
  (∀ k, k < 48 → (t.outCh k).phase = .off) ∧ ∀ a, a < 16 → (t.adcCh a).phase = .off

/-- Every enabled tile shows a bit of its page. -/
def TilesShow (s : State) (r : Row) : Prop :=
  ∀ i, i < 8 → (s.fld Base.tl Reg.Tl.TILE_EN).testBit i = true → s.bit (Base.tile i) r = true

/-- Nothing that forbids Cellar is active (R533). -/
def CellarFree (s : State) : Prop :=
  (∀ n, n < 256 → s.seqActive n = false) ∧
    (∀ e ∈ s.tones, e.2.play = none ∧ e.2.cont = none ∧ e.2.queue = []) ∧
    (∀ e ∈ s.fluxes, e.2.play = none ∧ e.2.queue = []) ∧ (∀ n, n < 32 → s.acqActive n = false) ∧ s.cal.job = none

/-- What a cause of waking does: an entry into Cellar under way is abandoned; in Cellar the way back begins (R535). -/
def WakesAs (s t : State) : Prop :=
  (∀ x, s.power.trans = some x → x.dest = 6 → t.power = { s.power with trans := none } ∧ KeepsRegs s t [] ∧
    (x.origin = 4 → TilesPowered s t) ∧ (x.origin ≠ 4 → t.tiles = s.tiles)) ∧
  (s.power.trans = none → s.inDev .cellar = true →
    t.power = { s.power with trans := some ⟨s.power.origin, 6, false⟩ } ∧
    (∀ c, c < 4 → t.fld (Base.dch c) Reg.Dch.SR_STATE = 3) ∧
    KeepsRegs s t ((List.range 4).map fun c => Base.dch c + 0x058)) ∧
  ((∀ x, s.power.trans = some x → x.dest ≠ 6) → (s.power.trans = none → s.inDev .cellar = false) →
    t.power = s.power ∧ t.tiles = s.tiles ∧ KeepsRegs s t [])

/-- The pages whose registers a warm reset keeps whole. -/
def keptPages : List PageType := [.thm, .sfe, .evg]

/-- The pages of which POR_N or a warm reset keeps no register. -/
def lostPages : List PageType :=
  [.tile, .seq, .tone, .rout, .lane, .dec, .syn, .out, .adc, .acq, .intc, .dch, .jport, .mesh, .eth, .fn]

/-- What every reset gives back its value of reset, and what none touches (R526). -/
def ResetParts (s t : State) : Prop :=
  t = { State.reset with
    ticks := s.ticks, refLost := s.refLost, host := s.host, respVal := s.respVal, free := s.free, pending := s.pending
    regs := t.regs, count := t.count, frameAt := t.frameAt, epochAt := t.epochAt, loadIn := t.loadIn, latch := t.latch
    routes := t.routes, evchs := t.evchs, evgs := t.evgs, window := t.window, fluxes := t.fluxes, therm := t.therm
    sensors := t.sensors, sfes := t.sfes, nt := t.nt, dramNvm := t.dramNvm, cal := t.cal, power := t.power } ∧
  (∀ p n off, p ∈ lostPages → n < pageCount p → off < 0x1000 →
    t.reg (pageBase p n + off) = State.reset.reg (pageBase p n + off)) ∧
  t.fld Base.sec Reg.Sec.KEY_REVOKE = s.fld Base.sec Reg.Sec.KEY_REVOKE ∧ t.cal.factory = s.cal.factory ∧
  t.cal.user = s.cal.user ∧ t.therm.ring = s.therm.ring ∧ t.fld Base.pwr Reg.Pwr.DBG_LEVEL = 0 ∧ t.power.code = none

/-- A warm reset for the cause that bit `c` of RESET_CAUSE records (R380, R526). -/
def WarmReset (s t : State) (c : Nat) : Prop :=
  ResetParts s t ∧ t.fld Base.pwr Reg.Pwr.STATE = 1 ∧ t.power.trans = some ⟨2, 1, false⟩ ∧
    t.fld Base.pwr Reg.Pwr.RESET_CAUSE = s.fld Base.pwr Reg.Pwr.RESET_CAUSE ||| 2 ^ c ∧
    (∀ p n off, p ∈ keptPages → n < pageCount p → off < 0x1000 →
      t.reg (pageBase p n + off) = s.reg (pageBase p n + off)) ∧
    (∀ n off, n < 96 → 0x048 ≤ off → off < 0x07C → t.reg (Base.flux n + off) = s.reg (Base.flux n + off)) ∧
    (∀ n, n < 96 → (t.flux n).dcq = []) ∧
    (∀ r, r ∈ [Reg.Tl.LOADED, Reg.Tl.RUN, Reg.Tl.REF_PRESENT, Reg.Tl.CORE_LOCK] → t.fld Base.tl r = s.fld Base.tl r) ∧
    t.count = s.count ∧ t.loadIn = s.loadIn ∧ t.nt = s.nt ∧ t.sensors = s.sensors ∧ t.sfes = s.sfes ∧ t.evchs = s.evchs ∧
    t.evgs = s.evgs ∧ t.therm = s.therm ∧ t.cal.trims = s.cal.trims

/-- POR_N is low, or the always-on rails are lost: state `st` and a RESET_CAUSE; all but NVM is as at reset (R526). -/
def PorReset (s t : State) (st cause : Nat) : Prop :=
  ResetParts s t ∧ t.power.por = true ∧ t.power.trans = none ∧ t.fld Base.pwr Reg.Pwr.STATE = st ∧
    t.fld Base.pwr Reg.Pwr.RESET_CAUSE = cause ∧ t.count = 0 ∧ t.nt = State.reset.nt ∧ t.sensors = [] ∧ t.sfes = [] ∧
    t.evchs = [] ∧ t.evgs = [] ∧ t.routes = [] ∧ t.cal.trims = [] ∧
    (∀ p n off, p ∈ keptPages ∨ p = .tl ∨ p = .nclk ∨ p = .flux → n < pageCount p → off < 0x1000 →
      t.reg (pageBase p n + off) = State.reset.reg (pageBase p n + off))

/-- Requests for a state, the completion of a transition, and waking: Each request is refused with 0x11, the state
asked for and REQ_REFUSED while a transition is under way, or where the table of R522 does not permit it; one for
Cellar is refused with 0x12 and the page type of the first active block while one is active. Accepted, it is under
way: Ready is left or reached for Configured, Ready, Running; an entry to Ready powers the enabled tiles, one to
Cellar from Ready unpowers them and stops background calibration. The transition completes where its condition holds
(a frame boundary, the locks, POR_N high), and STATE shows the new state with STATE_CHANGED, a boot's error and a
failed training step with it; otherwise the command changes nothing. Leaving Running for Ready requests the immediate
disable of every sequencer that is enabled or issues. A transition to Running whose condition has gone is refused (the
model's reading). WAKE_REQ and PCIE_D0_WAKE abandon an entry to Cellar under way, or begin the way back. (R522, R531,
R533, R535) -/
def Obligations.RequestsAndTransitions : Prop :=
  let b := Base.pwr
  let changed (t : State) (st : Nat) : Prop := t.fld b Reg.Pwr.STATE = st ∧ (t.reg (b + 0x010)).getLsbD 9 = true
  (∀ (who : Req) (s r : State), Settled s → s.granted who .pwr 0 = some r →
    let st := s.fld b Reg.Pwr.STATE
    let idle : Prop := s.power.trans = none
    (¬ (idle ∧ (st = 4 ∨ st = 5)) → ∃ t, exec (.reqConfigured who) s = .next t ∧ RequestRefused s t 0x11 3) ∧
    (idle → st = 4 ∨ st = 5 → ∃ t, exec (.reqConfigured who) s = .next t ∧ RequestTaken s t 3 ∧ t.tiles = s.tiles) ∧
    (¬ (idle ∧ (st = 5 ∨ (st = 3 ∧ s.bit Base.tl Reg.Tl.REF_PRESENT = true))) →
      ∃ t, exec (.reqReady who) s = .next t ∧ RequestRefused s t 0x11 4) ∧
    (idle → st = 5 → ∃ t, exec (.reqReady who) s = .next t ∧ RequestTaken s t 4 ∧ t.tiles = s.tiles) ∧
    (idle → st = 3 → s.bit Base.tl Reg.Tl.REF_PRESENT = true →
      ∃ t, exec (.reqReady who) s = .next t ∧ RequestTaken s t 4 ∧ TilesPowered s t) ∧
    (let may : Prop := s.bit Base.tl Reg.Tl.RUN = true ∧ s.bit Base.tl Reg.Tl.ARM = false ∧ TilesShow s Reg.Tile.ALIGNED;
      (¬ (idle ∧ st = 4 ∧ may) → ∃ t, exec (.reqRunning who) s = .next t ∧ RequestRefused s t 0x11 5) ∧
      (idle → st = 4 → may → ∃ t, exec (.reqRunning who) s = .next t ∧ RequestTaken s t 5 ∧ t.tiles = s.tiles)) ∧
    (¬ (idle ∧ (st = 3 ∨ st = 4)) → ∃ t, exec (.reqCellar who) s = .next t ∧ RequestRefused s t 0x11 6) ∧
    (idle → st = 3 ∨ st = 4 → ¬ CellarFree s →
      ∃ t p, exec (.reqCellar who) s = .next t ∧ p ∈ [PageType.seq, .tone, .flux, .acq, .cal] ∧
        RequestRefused s t 0x12 p.code ∧ (s.cal.job = none → p ≠ .cal)) ∧
    (idle → CellarFree s →
      (st = 3 → ∃ t, exec (.reqCellar who) s = .next t ∧
        t.power = { s.power with trans := some ⟨6, 3, false⟩, origin := 3 } ∧ t.cal = { s.cal with bg := [] } ∧
        KeepsRegs s t [b + 0x044] ∧ t = { s with regs := t.regs, used := r.used, power := t.power, cal := t.cal }) ∧
      (st = 4 → ∃ t, exec (.reqCellar who) s = .next t ∧
        t.power = { s.power with trans := some ⟨6, 4, false⟩, origin := 4 } ∧ t.cal.bg = [] ∧
        t.fld b Reg.Pwr.STATE = 4 ∧ TilesUnpowered t)) ∧
    ∃ t, exec (.wakeReq who) s = .next t ∧ WakesAs s t) ∧
  (∀ s : State, Settled s → ∃ t, exec .pcieD0Wake s = .next t ∧ WakesAs s t) ∧
  (∀ (boot : BootEnd) (s : State), s.power.trans = none → exec (.stateTransitionComplete boot) s = .next s) ∧
  ∀ (boot : BootEnd) (s : State) (x : Trans), Settled s → s.power.trans = some x →
    let st := s.fld b Reg.Pwr.STATE
    let stays : Prop := exec (.stateTransitionComplete boot) s = .next s
    let frame : Prop := s.run = true ∧ s.count % 256 = 0
    let may : Prop := s.bit Base.tl Reg.Tl.RUN = true ∧ s.bit Base.tl Reg.Tl.ARM = false ∧ TilesShow s Reg.Tile.ALIGNED
    let ended (t : State) : Prop := t.power = { s.power with trans := none }
    let dchs := (List.range 4).flatMap fun c => [Base.dch c + 0x010, Base.dch c + 0x01C, Base.dch c + 0x04C, Base.dch c + 0x058]
    let trained (t : State) : Prop := ∀ c k, boot = .training c k → (t.reg (Base.dch c + 0x010)).getLsbD 2 = true
    (st = 1 → x.dest ≠ 2 ∨ s.power.por = true → stays) ∧
    (st = 1 → x.dest = 2 → s.power.por = false →
      ∃ t, exec (.stateTransitionComplete boot) s = .next t ∧ ended t ∧ t.fld b Reg.Pwr.STATE = 2 ∧ trained t ∧
        (boot.err = none → KeepsRegs s t [b + 0x040] ∧ t = { s with regs := t.regs, power := t.power }) ∧
        (∀ e, boot.err = some e → t.fld b Reg.Pwr.BOOT_ERR = e)) ∧
    (st = 6 → ∃ t, exec (.stateTransitionComplete boot) s = .next t ∧ changed t 3 ∧
      (t.reg (Base.nclk + 0x010)).getLsbD 4 = true ∧ trained t ∧
      (∀ c, c < 4 → t.fld (Base.dch c) Reg.Dch.SR_STATE = 0 ∧ (t.dch c).base = none ∧ (t.dch c).resting = true) ∧
      (x.dest = 4 → s.bit Base.tl Reg.Tl.REF_PRESENT = true →
        t.power = { s.power with trans := some ⟨4, 3, false⟩ } ∧ TilesPowered s t) ∧
      (x.dest ≠ 4 ∨ s.bit Base.tl Reg.Tl.REF_PRESENT = false → ended t ∧ t.tiles = s.tiles) ∧
      KeepsRegs s t ([b + 0x010, b + 0x040, Base.nclk + 0x010] ++ dchs)) ∧
    (st ≠ 1 → st ≠ 6 →
      (x.dest = 3 → ∃ t, exec (.stateTransitionComplete boot) s = .next t ∧ changed t 3 ∧ ended t ∧
        (st = 4 ∨ st = 5 → TilesUnpowered t) ∧ (st ≠ 4 → st ≠ 5 → OnlyPower s t [0x010, 0x040])) ∧
      (x.dest = 4 → st = 5 → x.framed = true → frame →
        ∃ t, exec (.stateTransitionComplete boot) s = .next t ∧ changed t 4 ∧ ended t ∧
          ∀ n, n < 256 → s.enabled (Base.seq n) = true ∨ (s.seq n).issuing = true → (t.seq n).killReq = true) ∧
      (x.dest = 4 → st = 5 → ¬ (x.framed = true ∧ frame) → stays) ∧
      (x.dest = 4 → st ≠ 5 → TilesShow s Reg.Tile.LOCK →
        ∃ t, exec (.stateTransitionComplete boot) s = .next t ∧ changed t 4 ∧ ended t ∧
          (∀ k, k < 48 → (s.outCh k).phase = .off →
            (t.outCh k).phase = (if s.enabled (Base.out k) ∧ s.bit (Base.tile (outTile k)) Reg.Tile.LOCK = true ∧
              s.bit (Base.tile (outTile k)) Reg.Tile.ALIGNED = true then .rising else .off)) ∧
          ∀ a, a < 16 → (s.adcCh a).phase = .off → (t.adcCh a).phase =
            (if s.enabled (Base.adc a) ∧ s.bit (Base.tile (adcTile a)) Reg.Tile.LOCK = true then .rising else .off)) ∧
      (x.dest = 4 → st ≠ 5 → ¬ TilesShow s Reg.Tile.LOCK → stays) ∧
      (x.dest = 5 → x.framed = true → frame → may →
        ∃ t, exec (.stateTransitionComplete boot) s = .next t ∧ changed t 5 ∧ ended t ∧ OnlyPower s t [0x010, 0x040]) ∧
      (x.dest = 5 → x.framed = true → frame → ¬ may →
        ∃ t, exec (.stateTransitionComplete boot) s = .next t ∧ ended t ∧ t.fld b Reg.Pwr.STATE = st ∧
          (t.reg (b + 0x010)).getLsbD 10 = true ∧ OnlyPower s t [0x010, 0x01C]) ∧
      (x.dest = 5 → ¬ (x.framed = true ∧ frame) → stays) ∧
      (x.dest = 6 → ∃ t, exec (.stateTransitionComplete boot) s = .next t ∧ changed t 6 ∧ ended t ∧
        (∀ c, c < 4 → t.fld (Base.dch c) Reg.Dch.SR_STATE = 2 ∧ (t.dch c).reads = [] ∧
          (s.frozen = false → (t.dch c).writes = [])) ∧ t.dram = s.dram ∧
        KeepsRegs s t ([b + 0x010, b + 0x040] ++ dchs)))

/-- Warm resets, POR_N, PERST_N, the supplies, the boot, the recovery and the revocation of keys: A warm reset by
software, PERST_N or the watchdog puts the device into Reset with its bit of RESET_CAUSE; the always-on domain, DC
bias, timeline, network clock and trims stand, bias queues are flushed, all else is as at reset; in Off, in Shutdown
and while POR_N is low it does nothing. POR_N low resets all but NVM and bits [5:4] of RESET_CAUSE; loss of the
always-on rails clears these too. Its release starts Starter: bit 0 set and [3:1] clear, trims and the DRAM
configuration loaded where they check, or BOOT_ERR at the error given. A supply fault sets SUPPLY and SUPPLY_LIVE, and
for a flux tile starts the fault sequence; below 90 % the device enters Shutdown with bit 4. The last boot stage shows
BOOT_STAGE 6, BOOT_TIME, versions, owners, FALLBACK, the LOCK of the thermal page, and Configured. RECOVER boots an
image that passes its checks or records its error. KEY_REVOKE takes by management the bits of slots other than the
running image's. (R380, R382, R492, R523, R525, R526, R529, R530, R531, R543, R559) -/
def Obligations.ResetsSuppliesAndBoot : Prop :=
  let b := Base.pwr
  (∀ s : State, Settled s →
    let st := s.fld b Reg.Pwr.STATE
    let inert : Prop := st = 0 ∨ st = 7 ∨ s.power.por = true
    let low : State := { s with power := { s.power with perst := true } }
    let off : State := { s with power := { s.power with por := true } }
    let cause := s.fld b Reg.Pwr.RESET_CAUSE
    (¬ inert → ∃ t, exec .watchdogExpiry s = .next t ∧ WarmReset s t 3 ∧ t.power.perst = s.power.perst) ∧
    (inert → exec .watchdogExpiry s = .next s) ∧
    (s.power.perst = true → exec .perstNAssert s = .next s) ∧
    (¬ inert → s.power.perst = false → ∃ t, exec .perstNAssert s = .next t ∧ WarmReset s t 2 ∧ t.power.perst = true) ∧
    (inert → s.power.perst = false → exec .perstNAssert s = .next low) ∧
    exec .perstNRelease s = .next { s with power := { s.power with perst := false } } ∧
    (∀ (who : Req) (r : State), s.granted who .pwr 0 = some r → reqMgmt who = true ∨ reqFn0 who = true → ¬ inert →
      ∃ t, exec (.warmReset who) s = .next t ∧ WarmReset s t 1 ∧ t.power.perst = s.power.perst) ∧
    (st = 0 → exec .porNAssert s = .next off) ∧
    (st ≠ 0 → ∃ t, exec .porNAssert s = .next t ∧ PorReset s t 1 (cause / 16 * 16)) ∧
    (∃ t, exec .alwaysOnInvalid s = .next t ∧ PorReset s t 0 0) ∧
    (st = 0 → ∃ t, exec .alwaysOnValid s = .next t ∧ t.fld b Reg.Pwr.STATE = 1 ∧ (∀ a, a ≠ b + 0x040 → t.reg a = s.reg a) ∧
      t = { s with regs := t.regs }) ∧
    (st ≠ 0 → exec .alwaysOnValid s = .next s) ∧
    (∀ (dramOk : Bool) (bad : List Nat) (boot : BootEnd),
      (st ≠ 1 ∨ s.power.por = false → exec (.porNRelease dramOk bad boot) s = .next s) ∧
      (st = 1 → s.power.por = true →
        ∃ t, exec (.porNRelease dramOk bad boot) s = .next t ∧ t.power = { s.power with por := false } ∧
          t.fld b Reg.Pwr.STATE = 2 ∧ t.fld b Reg.Pwr.RESET_CAUSE = cause / 16 * 16 + 1 ∧
          t.fld b Reg.Pwr.BOOT_ERR = boot.err.getD (s.fld b Reg.Pwr.BOOT_ERR) ∧
          t.fld Base.mc Reg.Mc.DATA_RATE = (if s.dramNvm.stored && dramOk then s.dramNvm.rate % 4 else 0) ∧
          (s.bit Base.cal Reg.Cal.NVM_SEL = true → bad ≠ [] → (t.reg (Base.cal + 0x010)).getLsbD 6 = true) ∧
          (s.bit Base.cal Reg.Cal.NVM_SEL = true → (s.cal.factory.map Prod.fst).Nodup →
            ∀ tg i, i < 64 → t.trim tg i = (SMap.get (fun _ => 0) s.cal.factory (tg * 64 + i),
              SMap.get (fun _ => 0) s.cal.factory (tg * 64 + i))) ∧
          t.therm.unread = false ∧ (s.therm.unread = true → (t.reg (Base.thm + 0x010)).getLsbD 28 = true)))) ∧
  (∀ (d : Fin 9) (s : State), Settled s →
    let st := s.fld b Reg.Pwr.STATE
    let shows (t : State) : Prop := t.fld b Reg.Pwr.SUPPLY_LIVE = s.fld b Reg.Pwr.SUPPLY_LIVE ||| 2 ^ d.val ∧
      (t.reg (b + 0x010)).getLsbD d.val = true
    (st = 0 ∨ s.power.por = true → exec (.supplyFault d) s = .next s ∧ exec (.supplyShutdown d) s = .next s) ∧
    (st ≠ 0 → s.power.por = false →
      (∃ t, exec (.supplyFault d) s = .next t ∧ shows t ∧
        (d.val < 7 ∨ (s.fld b Reg.Pwr.SUPPLY_LIVE).testBit d.val = true → t.power = s.power ∧
          OnlyPower s t [0x010, 0x050]) ∧
        (7 ≤ d.val → (s.fld b Reg.Pwr.SUPPLY_LIVE).testBit d.val = false →
          ∀ n, 48 * (d.val - 7) ≤ n → n < 48 * (d.val - 7) + 48 →
            (t.flux n).faultHeld = true ∧ (t.fld (Base.flux n) Reg.Flux.FAULT_CAUSE).testBit 3 = true)) ∧
      (st ≠ 7 → ∃ t, exec (.supplyShutdown d) s = .next t ∧ shows t ∧ t.fld b Reg.Pwr.STATE = 7 ∧
        t.fld b Reg.Pwr.RESET_CAUSE = s.fld b Reg.Pwr.RESET_CAUSE ||| 16 ∧ t.power.trans = none ∧
        t.therm.record = s.therm.record ∧ (st = 4 ∨ st = 5 → TilesUnpowered t) ∧
        ∀ n, n < 96 → (t.flux n).faultHeld = true))) ∧
  (∀ (ms : BitVec 16) (copyB : Bool) (fw : BitVec 32) (svn : BitVec 16) (slot : Fin 4) (mc : BitVec 32) (mcSvn : BitVec 16)
      (words : List (BitVec 192)) (s : State), Settled s →
    let image : Nat × Nat := if s.power.recovery then s.power.recImg else (fw.toNat, slot.val)
    let ok : Prop := s.fld b Reg.Pwr.STATE = 2 ∧ s.fld b Reg.Pwr.BOOT_ERR = 0 ∧ s.refLost = false ∧
      s.therm.shutLive = false ∧ (s.fld Base.sec Reg.Sec.KEY_REVOKE).testBit image.2 = false ∧
      (s.power.recovery = false → s.fld Base.sec Reg.Sec.FW_SVN ≤ svn.toNat) ∧ s.fld Base.sec Reg.Sec.MC_SVN ≤ mcSvn.toNat
    let cmd := Instr.bootComplete ms copyB fw svn slot mc mcSvn words
    (¬ ok → exec cmd s = .next s) ∧
    (ok → ∃ t, exec cmd s = .next t ∧ t.fld b Reg.Pwr.STATE = 3 ∧ (t.reg (b + 0x010)).getLsbD 9 = true ∧
      t.fld b Reg.Pwr.BOOT_STAGE = 6 ∧ t.fld b Reg.Pwr.BOOT_TIME = ms.toNat ∧
      t.bit Base.tl Reg.Tl.REF_PRESENT = true ∧ t.bit Base.tl Reg.Tl.CORE_LOCK = true ∧
      t.fld Base.sec Reg.Sec.FW_VERSION = image.1 % 2 ^ 32 ∧ t.power = { s.power with fwSlot := image.2 } ∧
      t.loader.slotA = ⟨mc.toNat, mcSvn.toNat, true⟩ ∧ t.bit Base.thm Reg.Hdr.LOCK = true ∧
      t.owner Base.mesh = 0x80 ∧ (∀ i, i < 8 → t.owner (Base.tile i) = 0) ∧ (∀ c, c < 4 → t.owner (Base.dch c) = 0) ∧
      (∀ p, p ∈ [PageType.glob, .tl, .dec, .intc, .mc, .nclk, .thm, .sec, .pwr] → t.owner (pageBase p 0) = 0 ∧
        t.bit (pageBase p 0) Reg.Hdr.SEC = false) ∧
      (s.power.recovery = false → t.bit Base.sec Reg.Sec.BOOT_COPY = copyB ∧
        (copyB ≠ s.bit Base.sec Reg.Sec.BOOT_PREF → (t.reg (Base.sec + 0x010)).getLsbD 0 = true)))) ∧
  (∀ (who : Req) (boot : BootEnd) (s r : State), Settled s → s.granted who .pwr 0 = some r →
    let stopped : Prop := s.fld b Reg.Pwr.STATE = 2 ∧ s.fld b Reg.Pwr.BOOT_ERR ≠ 0
    (¬ stopped → ∃ t, exec (.recover who boot) s = .next t ∧ (∀ a, t.reg a = s.reg a) ∧ t.power = s.power) ∧
    (s.fwField 0 4 ≠ 0x4657_4931 → s.recoverErr boot = some 0x02) ∧
    (∀ e, s.recoverErr boot = some e → stopped → ∃ t, exec (.recover who boot) s = .next t ∧
      t.fld b Reg.Pwr.BOOT_ERR = e ∧ t.fld b Reg.Pwr.STATE = 2 ∧ t.power = s.power ∧
      ((∀ c k, boot ≠ .training c k) → ∀ a, a ≠ b + 0x054 → t.reg a = s.reg a)) ∧
    (s.recoverErr boot = none → stopped → ∃ t, exec (.recover who boot) s = .next t ∧ t.fld b Reg.Pwr.BOOT_ERR = 0 ∧
      t.fld b Reg.Pwr.STATE = 2 ∧ t.power = { s.power with recovery := true, recImg := (s.fwField 8 4, s.fwField 24 2) } ∧
      (t.reg (Base.sec + 0x010)).getLsbD 1 = true ∧ KeepsRegs s t [b + 0x054, Base.sec + 0x010])) ∧
  ∀ (who : Req) (data : Word) (s r : State), Settled s → s.granted who .sec 0 = some r →
    let old := s.fld Base.sec Reg.Sec.KEY_REVOKE
    let own := s.power.fwSlot
    ∃ t, exec (.keyRevokeWrite who data) s = .next t ∧ t.power = s.power ∧
      (reqMgmt who = false → ∀ a, t.reg a = s.reg a) ∧
      (reqMgmt who = true → KeepsRegs s t [Base.sec + 0x010, Base.sec + 0x050] ∧
        (∀ k, k < 4 → (t.fld Base.sec Reg.Sec.KEY_REVOKE).testBit k =
          (old.testBit k || (data.toNat.testBit k && k != own && !old.testBit own))) ∧
        (t.fld Base.sec Reg.Sec.KEY_REVOKE ≠ old → (t.reg (Base.sec + 0x010)).getLsbD 2 = true))

/-! ### The debug port, the TAP and the SMBus (chapters 20 and 21) -/

/-- The always-on supply of the debug port is valid, and POR_N is high. -/
def DbgAlive (s : State) : Prop := s.fld Base.pwr Reg.Pwr.STATE ≠ 0 ∧ s.power.por = false

/-- The debug port is unlocked, and its level may reach the page of a target (R55, R537). -/
def DbgReaches (s : State) (g : DbgTarget) : Prop :=
  DbgAlive s ∧ s.fld Base.pwr Reg.Pwr.DBG_LEVEL ≠ 0 ∧ s.denied s.dbgWho (dbgPage g) = none

/-- An operation of DBG_ACCESS ended with a status and data (R538). -/
def DbgEnds (s t : State) (stat : Nat) (data : Word) : Prop :=
  t.power = { s.power with dbgStat := stat, dbgData := data }

/-- The first enabled breakpoint of a target at an address (R539). -/
def BreakpointAt (s : State) (g : DbgTarget) (a k : Nat) : Prop :=
  let w (i : Nat) := (s.dbg (dbgNum g)).bps.getD i 0
  let hits (i : Nat) : Prop := (w i).getLsbD 31 = true ∧ (w i).toNat % 4096 = a
  k < 4 ∧ hits k ∧ ∀ i, i < k → ¬ hits i

/-- A halt of a target is shown: its reason and breakpoint, and DBG_HALT (R539, R541). -/
def HaltShown (s t : State) (g : DbgTarget) (reason bp : Nat) : Prop :=
  t.dbg (dbgNum g) = { s.dbg (dbgNum g) with reason := reason, bpNum := bp } ∧
    (∀ m, m ≠ dbgNum g → t.dbg m = s.dbg m) ∧ (t.reg (Base.pwr + 0x010)).getLsbD 12 = true

/-- Unlocking, accesses, halts, resumes and steps through the debug port, the TAP instructions, and the answers on the
SMBus: DBG_CODE by function 0 sets the user-level code, DBG_LOCK locks. DBG_AUTH with the code unlocks at user level,
a response that signs the challenge with a key that is not revoked at secure level, with DBG_UNLOCKED; any other
leaves the port locked and is counted; after 8 failures none is taken. The scan instructions are taken as R536 says
(SAMPLE answers a free value). A DBG_ACCESS ends with 3 locked, 2 refused, 0 done, one that crosses a page's end with
code 0x04 recorded; one of BAR0 or BAR2 that raises no interrupt is the access of the port's requester; in the debug
space DSTAT, breakpoints, REG_SEL and the registers of a halted target are read and written. HALT asks for a halt,
RESUME and STEP let a halted target go on. A halt is taken at a boundary, with its reason, DBG_HALT, the open shot
SPOILED and the plays stopped; a wait keeps its restart word. The SMBus reads temperatures and status words, and the
alert response is 0x4C. (R536, R537, R538, R539, R540, R541, R555) -/
def Obligations.DebugPortAndTap : Prop :=
  let b := Base.pwr
  (∀ (who : Req) (data : Word) (s r : State), Settled s → s.granted who .pwr 0 = some r →
    (∃ t, exec (.dbgCodeWrite who data) s = .next t ∧ (∀ a, t.reg a = s.reg a) ∧
      t = { s with regs := t.regs, used := r.used, power := t.power } ∧
      t.power = (if reqFn0 who then { s.power with code := some data } else s.power)) ∧
    ∃ t, exec (.dbgLock who) s = .next t ∧ t.fld b Reg.Pwr.DBG_LEVEL = 0 ∧
      t.fld b Reg.Pwr.DBG_FAIL_COUNT = s.fld b Reg.Pwr.DBG_FAIL_COUNT ∧ (∀ a, a ≠ b + 0x064 → t.reg a = s.reg a) ∧
      t = { s with regs := t.regs, used := r.used }) ∧
  (∀ (a : AuthTry) (s : State), Settled s →
    let fails := s.fld b Reg.Pwr.DBG_FAIL_COUNT
    let user : Prop := ∃ c, a = .code c ∧ s.power.code = some c
    let secure : Prop := ∃ k sig, a = .signed k sig ∧ (s.fld Base.sec Reg.Sec.KEY_REVOKE).testBit k = false ∧
      signedBy k s.challenge (leBytes 96 sig.toNat) = true
    let draws : Nat := match a with | .code _ => 0 | .signed _ _ => 1
    let tap := { s.power with tap := 0x10 }
    (¬ DbgAlive s ∨ 8 ≤ fails → exec (.dbgAuth a) s = .next { s with power := tap }) ∧
    (DbgAlive s → fails < 8 →
      ∃ t, exec (.dbgAuth a) s = .next t ∧ t.power = tap ∧
        (user ∨ secure → t.fld b Reg.Pwr.DBG_LEVEL = (match a with | .code _ => 1 | .signed _ _ => 2) ∧
          (t.reg (b + 0x010)).getLsbD 11 = true ∧ t.fld b Reg.Pwr.DBG_FAIL_COUNT = fails ∧
          t.free = s.free + draws ∧ KeepsRegs s t [b + 0x010, b + 0x064]) ∧
        (¬ (user ∨ secure) → t.fld b Reg.Pwr.DBG_LEVEL = 0 ∧ t.fld b Reg.Pwr.DBG_FAIL_COUNT = fails + 1 ∧
          (∀ x, x ≠ b + 0x064 → t.reg x = s.reg x) ∧ t = { s with regs := t.regs, power := tap, free := s.free + draws }))) ∧
  (∀ s : State,
    let low (i : Instr) (code : Nat) : Prop :=
      exec i s = .next (if s.power.por then { s with power := { s.power with tap := code } } else s)
    low .extest 0x00 ∧ low .extestPulse 0x08 ∧ low .extestTrain 0x09 ∧
    exec .bypass s = .next { s with power := { s.power with tap := 0xFF } } ∧
    exec .idcode s = .next { s with power := { s.power with tap := 0x02 }, respVal := 0x1960_05A9 } ∧
    (∀ bits : BitVec 64, ∃ v, exec (.samplePreload bits) s =
      .next { s with power := { s.power with tap := 0x01, preload := bits }, respVal := v, free := s.free + 1 }) ∧
    (¬ DbgAlive s → exec .dbgAccessPoll s = .next s) ∧
    (DbgAlive s → s.power.dbgStat < 4 → exec .dbgAccessPoll s = .next { s with
      respVal := s.power.dbgData ++ BitVec.ofNat 32 (if s.fld b Reg.Pwr.DBG_LEVEL = 0 then 3 else s.power.dbgStat) })) ∧
  (∀ (space : Fin 4) (addr data : BitVec 32) (s : State), Settled s →
    let a := addr.toNat
    let rd := Instr.dbgAccessRead space addr
    let wr := Instr.dbgAccessWrite space addr data
    let wrong : Prop := space.val = 3 ∨ a % 4 ≠ 0 ∨ (space.val = 0 ∧ 0x400_0000 ≤ a) ∨ (space.val = 1 ∧ 0x800_0000 ≤ a) ∨
      (space.val = 2 ∧ 0x5000 ≤ a)
    let ends (stat : Nat) : State := { s with power := { s.power with dbgStat := stat, dbgData := 0 } }
    let off := a % 0x1000
    let crosses : Prop := space.val = 0 ∧ 0xFFC < off ∧ a < 0x400_0000
    (DbgAlive s → s.fld b Reg.Pwr.DBG_LEVEL ≠ 0 → crosses → ∀ i ∈ [rd, wr],
      ∃ t, exec i s = .next t ∧ DbgEnds s t 2 0 ∧ (∀ x, x ≠ errPage a + 0x01C → t.reg x = s.reg x) ∧
        (s.bit (errPage a) Reg.Hdr.VALID = false → t.fld (errPage a) Reg.Hdr.CODE = 0x04)) ∧
    (¬ DbgAlive s → exec rd s = .next s ∧ exec wr s = .next s) ∧
    (DbgAlive s → s.fld b Reg.Pwr.DBG_LEVEL = 0 → exec rd s = .next (ends 3) ∧ exec wr s = .next (ends 3)) ∧
    (DbgAlive s → s.fld b Reg.Pwr.DBG_LEVEL ≠ 0 → wrong → ¬ crosses → exec rd s = .next (ends 2) ∧ exec wr s = .next (ends 2)) ∧
    (∀ ty n c, DbgAlive s → s.fld b Reg.Pwr.DBG_LEVEL ≠ 0 → ¬ wrong → space.val = 0 → n < pageCount ty →
      a = pageBase ty n + off → s.denied s.dbgWho (pageBase ty n) = some c → off ≠ 0x020 →
      (∃ t, exec wr s = .next t ∧ DbgEnds s t 2 0 ∧ ∀ x, x ≠ pageBase ty n + 0x01C → t.reg x = s.reg x) ∧
      (freeToRead ty off = false → ∃ t, exec rd s = .next t ∧ DbgEnds s t 2 0 ∧
        ∀ x, x ≠ pageBase ty n + 0x01C → t.reg x = s.reg x)) ∧
    (∀ ty n, DbgAlive s → s.fld b Reg.Pwr.DBG_LEVEL ≠ 0 → ¬ wrong → space.val = 0 → n < pageCount ty →
      a = pageBase ty n + off → s.denied s.dbgWho (pageBase ty n) = none → off ≠ 0x020 →
      (let u := s.busGet s.dbgWho a;
        Settled u → exec rd s = .next { u with
          power := { u.power with dbgStat := 0, dbgData := BitVec.ofNat 32 u.respVal.toNat } }) ∧
      (let u := s.busPut s.dbgWho a data;
        Settled u → exec wr s = .next { u with power := { u.power with dbgStat := 0, dbgData := 0 } })) ∧
    (DbgAlive s → s.fld b Reg.Pwr.DBG_LEVEL = 2 → ¬ wrong → space.val = 1 →
      let u := s.busGet2 .dbgSecure a false
      Settled u → exec rd s = .next { u with
        power := { u.power with dbgStat := 0, dbgData := BitVec.ofNat 32 u.respVal.toNat } }) ∧
    (DbgAlive s → s.fld b Reg.Pwr.DBG_LEVEL ≠ 0 → ¬ wrong → space.val = 1 →
      let u := s.busWrite2 s.dbgWho a (leBytes 4 data.toNat)
      Settled u → ∃ st, (st = 0 ∨ st = 2) ∧
        exec wr s = .next { u with power := { u.power with dbgStat := st, dbgData := 0 } })) ∧
  (∀ (g : DbgTarget) (s : State), Settled s →
    let cmds (data : Word) := [Instr.debugHalt g, .debugResume g, .debugStep g, .regDataWrite g data]
    let q (n : Fin 256) := s.seq n
    let x (n : Fin 64) := s.lane n
    let only (t : State) : Prop := DbgEnds s t 0 0 ∧ (∀ m, m < 256 → g ≠ .seq (Fin.ofNat 256 m) → t.seq m = s.seq m) ∧
      (∀ m, m < 64 → g ≠ .lane (Fin.ofNat 64 m) → t.lane m = s.lane m) ∧
      t = { s with regs := t.regs, seqs := t.seqs, lanes := t.lanes, power := t.power }
    let page (t : State) : Prop := ∀ a, t.reg a = s.reg a
    let halted := s.dbgHalted g
    let sel := (s.dbg (dbgNum g)).regSel
    (∀ data, ∀ i ∈ cmds data, ¬ DbgAlive s → exec i s = .next s) ∧
    (∀ data c, ∀ i ∈ cmds data, DbgAlive s → s.fld b Reg.Pwr.DBG_LEVEL ≠ 0 → s.denied s.dbgWho (dbgPage g) = some c →
      ∃ t, exec i s = .next t ∧ DbgEnds s t 2 0 ∧ (∀ a, a ≠ dbgPage g + 0x01C → t.reg a = s.reg a) ∧
        (s.bit (dbgPage g) Reg.Hdr.VALID = false → t.fld (dbgPage g) Reg.Hdr.CODE = c) ∧
        t = { s with regs := t.regs, power := t.power }) ∧
    (DbgReaches s g →
      (∃ t, exec (.debugHalt g) s = .next t ∧ only t ∧ page t ∧
        (∀ n, g = .seq n → t.seq n = (if halted then q n else { q n with haltReq := true })) ∧
        (∀ n, g = .lane n → t.lane n = (if halted then x n else { x n with haltReq := true }))) ∧
      (∃ t, exec (.debugResume g) s = .next t ∧ only t ∧ page t ∧
        (∀ n, g = .seq n → t.seq n = (if halted
          then { q n with halted := false, stepping := false, stepped := false, pass := true } else q n)) ∧
        (∀ n, g = .lane n → t.lane n = (if halted then { x n with halted := false, stepping := false } else x n))) ∧
      (∃ t, exec (.debugStep g) s = .next t ∧ only t ∧ page t ∧
        (∀ n, g = .seq n → t.seq n = (if halted then { q n with stepping := true, stepped := false, pass := true } else q n)) ∧
        (∀ n, g = .lane n → t.lane n = (if halted then { x n with stepping := true } else x n))) ∧
      (∀ data : Word, ∃ t, exec (.regDataWrite g data) s = .next t ∧ only t ∧
        (halted = false → page t ∧ t.seqs = s.seqs ∧ t.lanes = s.lanes) ∧
        (∀ n, g = .seq n → halted = true →
          let k := Base.seq n
          (sel < 32 → t.fld k Reg.Seq.G sel = data.toNat ∧ t.seq n = q n ∧ ∀ a, a ≠ k + 0x080 + 4 * sel → t.reg a = s.reg a) ∧
          (32 ≤ sel → sel < 36 → t.fld k Reg.Seq.LC (sel - 32) = data.toNat % 2 ^ Reg.Seq.LC.width ∧ t.seq n = q n) ∧
          (sel = 36 → page t ∧ t.seq n = { q n with tp := (q n).tp / 2 ^ 32 * 2 ^ 32 + data.toNat }) ∧
          (sel = 37 → page t ∧ t.seq n = { q n with tp := (q n).tp % 2 ^ 32 + data.toNat * 2 ^ 32 }) ∧
          (sel = 38 → t.fld k Reg.Seq.PC = data.toNat % 2048 ∧ t.seq n =
            (if data.toNat % 2048 = s.fld k Reg.Seq.PC then q n else { q n with restart := none })) ∧
          (38 < sel → page t ∧ t.seq n = q n)) ∧
        (∀ n, g = .lane n → halted = true →
          let k := Base.lane n
          t.lane n = x n ∧
          (sel < 16 → t.fld k Reg.Lane.D sel = data.toNat ∧ ∀ a, a ≠ k + 0x100 + 4 * sel → t.reg a = s.reg a) ∧
          (16 ≤ sel → sel < 24 → t.fld k Reg.Lane.A (sel - 16) = data.toNat % 2 ^ Reg.Lane.A.width) ∧
          (24 ≤ sel → sel < 32 → sel % 2 = 0 → t.fld k Reg.Lane.AC_LO ((sel - 24) / 2) = data.toNat) ∧
          (24 ≤ sel → sel < 32 → sel % 2 = 1 →
            t.fld k Reg.Lane.AC_HI ((sel - 24) / 2) = data.toNat % 2 ^ Reg.Lane.AC_HI.width) ∧
          (sel = 32 → t.fld k Reg.Lane.PC = data.toNat % 4096) ∧ (32 < sel → page t))) ∧
      (let rd (off : Nat) := Instr.dbgAccessRead 2 (BitVec.ofNat 32 (dbgAddr g + off));
        let wr (off : Nat) (w : Word) := Instr.dbgAccessWrite 2 (BitVec.ofNat 32 (dbgAddr g + off)) w;
        let d := s.dbg (dbgNum g);
        let gets (off v : Nat) : Prop := exec (rd off) s =
          .next { s with power := { s.power with dbgStat := 0, dbgData := BitVec.ofNat 32 v } };
        let sets (off : Nat) (w : Word) (d' : DbgSt) : Prop := ∃ t, exec (wr off w) s = .next t ∧ DbgEnds s t 0 0 ∧
          t.dbg (dbgNum g) = d' ∧ (∀ m, m ≠ dbgNum g → t.dbg m = s.dbg m) ∧
          t = { s with power := t.power, dbgs := t.dbgs };
        gets 0x04 (halted.toNat + 2 * d.reason + 16 * d.bpNum) ∧ gets 0x18 d.regSel ∧
        (∀ k, k < 4 → gets (0x08 + 4 * k) (d.bps.getD k 0).toNat) ∧
        (∀ w, sets 0x18 w { d with regSel := w.toNat }) ∧
        (∀ k w, k < 4 → sets (0x08 + 4 * k) w { d with bps := d.bps.set k (w &&& 0x8000_0FFF) }) ∧
        (∀ n, g = .seq n → halted = true →
          (sel < 32 → gets 0x1C (s.fld (Base.seq n) Reg.Seq.G sel)) ∧
          (32 ≤ sel → sel < 36 → gets 0x1C (s.fld (Base.seq n) Reg.Seq.LC (sel - 32))) ∧
          (sel = 36 → gets 0x1C ((q n).tp % 2 ^ 32)) ∧ (sel = 37 → gets 0x1C ((q n).tp / 2 ^ 32)) ∧
          (sel = 38 → gets 0x1C (s.fld (Base.seq n) Reg.Seq.PC))) ∧
        (∀ n, g = .lane n → (sel < 16 → gets 0x1C (s.fld (Base.lane n) Reg.Lane.D sel)) ∧
          (16 ≤ sel → sel < 24 → gets 0x1C (s.fld (Base.lane n) Reg.Lane.A (sel - 16))) ∧
          (sel = 32 → gets 0x1C (s.fld (Base.lane n) Reg.Lane.PC)))))) ∧
  (∀ (n : Fin 256) (h : Fin 2) (s : State), Settled s →
    let q := s.seq n
    let p := 2 * s.count + h.val
    let stands : Prop := q.issuing = true ∧ q.killReq = false ∧
      (s.run = false ∨ q.wait = .none ∨ q.stall ≠ .none ∨ q.micro = p ∨ s.partialDue n p = true)
    let pc := s.fld (Base.seq n) Reg.Seq.PC
    let breaks (k : Nat) : Prop := q.wait = .none ∧ q.pass = false ∧ q.halted = false ∧ BreakpointAt s (.seq n) pc k
    let taken (reason bp : Nat) : Prop := ∃ t, exec (.debugHaltTaken (.seq n) h) s = .next t ∧
      HaltShown s t (.seq n) reason bp ∧ (t.seq n).halted = true ∧ (t.seq n).wait = .none ∧ (t.seq n).haltReq = false ∧
      (t.seq n).stepping = false ∧ (t.seq n).stepped = false ∧ (t.seq n).restart = q.restart ∧ (t.seq n).isOpen = q.isOpen ∧
      (∀ x, (t.seq n).openShot = some x → x.flags.getLsbD Flag.SPOILED = true) ∧
      (∀ k c, (s.tone k).play = some c → c.poster = n.val → (t.tone k).stop = true) ∧
      (∀ k c, (s.flux k).play = some c → c.poster = n.val → (t.flux k).stop = true) ∧
      t.fld (Base.seq n) Reg.Seq.PC = pc ∧ t.bar2 = s.bar2 ∧ t.lanes = s.lanes ∧ t.power = s.power
    (stands → q.haltReq = true → taken 1 0) ∧
    (stands → q.haltReq = false → q.stepped = true → taken 2 0) ∧
    (∀ k, stands → q.haltReq = false → q.stepped = false → breaks k → taken 3 k) ∧
    ((¬ stands ∨ (q.haltReq = false ∧ q.stepped = false ∧ ∀ k, ¬ breaks k)) →
      exec (.debugHaltTaken (.seq n) h) s = .next s)) ∧
  (∀ (n : Fin 64) (h : Fin 2) (s : State), Settled s →
    let x := s.lane n
    let stands : Prop := x.issuing = true ∧ x.wait = .none
    let breaks (k : Nat) : Prop := x.halted = false ∧ BreakpointAt s (.lane n) (s.fld (Base.lane n) Reg.Lane.PC) k
    let taken (reason bp : Nat) : Prop := ∃ t, exec (.debugHaltTaken (.lane n) h) s = .next t ∧
      HaltShown s t (.lane n) reason bp ∧ t.lane n = { x with haltReq := false, halted := true, stepping := false } ∧
      (∀ m, m ≠ n.val → t.lane m = s.lane m) ∧ KeepsRegs s t [b + 0x010]
    (stands → x.haltReq = true → taken 1 0) ∧
    (stands → x.haltReq = false → x.stepping = true → taken 2 0) ∧
    (∀ k, stands → x.haltReq = false → x.stepping = false → breaks k → taken 3 k) ∧
    ((¬ stands ∨ (x.haltReq = false ∧ x.stepping = false ∧ ∀ k, ¬ breaks k)) →
      exec (.debugHaltTaken (.lane n) h) s = .next s)) ∧
  ∀ s : State,
    let gets (cmd v : Nat) : Prop := exec (.smbReadWord (BitVec.ofNat 8 cmd)) s = .next { s with respVal := BitVec.ofNat 64 v }
    let st := s.fld b Reg.Pwr.STATE
    let hot : Prop := ∃ i, i < 25 ∧ s.thmActs i = true ∧ s.thmAct i 0 = true ∧
      s.thmS Reg.Thm.ALM_LIM i ≤ s.thmS Reg.Thm.TEMP i
    let alerts := s.reg (Base.thm + 0x010)
    (st = 0 → ∀ cmd, exec (.smbReadWord cmd) s = .next s) ∧
    (st = 0 ∨ ¬ (hot ∨ st = 7) → exec .smbAlertResponse s = .next s) ∧
    (st ≠ 0 → hot ∨ st = 7 → exec .smbAlertResponse s = .next { s with respVal := 0x4C }) ∧
    (st ≠ 0 →
      (∀ i, i < 25 → gets i (if s.power.por = true ∨ s.bit Base.thm Reg.Thm.VALID i = false then 0x8000
        else s.fld Base.thm Reg.Thm.TEMP i)) ∧
      gets 0x20 st ∧ gets 0x21 (s.fld b Reg.Pwr.RESET_CAUSE) ∧ gets 0x22 (s.fld b Reg.Pwr.SUPPLY_LIVE) ∧
      gets 0x23 (((List.range 25).any fun i => alerts.getLsbD i).toNat +
        2 * (s.bit Base.thm Reg.Thm.THR_ACTIVE).toNat + 4 * (alerts.getLsbD 28).toNat) ∧
      ∀ cmd : BitVec 8, 25 ≤ cmd.toNat → ¬ (0x20 ≤ cmd.toNat ∧ cmd.toNat ≤ 0x23) → exec (.smbReadWord cmd) s = .next s)
end

