-- ==== Sys2Proof/Laws/SMap.lean ====
section
/-!
SUPPORT. Laws of sparse maps: what a read gives after a write, and that a write keeps the canonical form.
-/
namespace Sys2Proof.SMap

variable {α : Type}

/-! ### Reading an entry -/

theorem find?_insert_same (m : SMap α) (k : Nat) (v : α) : find? (insert m k v) k = some v := by
  induction m with
  | nil => simp [insert, find?]
  | cons e m ih =>
    obtain ⟨j, w⟩ := e
    unfold insert
    split
    · simp [find?]
    · split
      · simp [find?]
      · simp [find?, *]

theorem find?_insert_ne (m : SMap α) {k i : Nat} (v : α) (h : i ≠ k) : find? (insert m k v) i = find? m i := by
  induction m with
  | nil => simp [insert, find?, Ne.symm h]
  | cons e m ih =>
    obtain ⟨j, w⟩ := e
    unfold insert
    split
    · simp [find?, Ne.symm h]
    · split
      · subst j; simp [find?, Ne.symm h]
      · simp [find?, ih]

theorem find?_erase_same (m : SMap α) (k : Nat) : find? (erase m k) k = none := by
  induction m with
  | nil => rfl
  | cons e m ih =>
    obtain ⟨j, w⟩ := e
    by_cases hj : j = k
    · subst j; simp [erase, ih]
    · simp [erase, find?, hj, ih]

theorem find?_erase_ne (m : SMap α) {k i : Nat} (h : i ≠ k) : find? (erase m k) i = find? m i := by
  induction m with
  | nil => rfl
  | cons e m ih =>
    obtain ⟨j, w⟩ := e
    by_cases hj : j = k
    · subst j; simp [erase, find?, Ne.symm h, ih]
    · simp [erase, find?, hj, ih]

/-! ### The canonical form -/

theorem above_trans {m : SMap α} {j k : Nat} (h : above k m = true) (hj : j ≤ k) : above j m = true := by
  induction m with
  | nil => rfl
  | cons e m ih =>
    simp only [above, Bool.and_eq_true, decide_eq_true_eq] at h ⊢
    exact ⟨by omega, ih h.2⟩

theorem above_insert {m : SMap α} {j k : Nat} (v : α) (h : above j m = true) (hk : j < k) :
    above j (insert m k v) = true := by
  induction m with
  | nil => simp [insert, above, hk]
  | cons e m ih =>
    obtain ⟨i, w⟩ := e
    simp only [above, Bool.and_eq_true, decide_eq_true_eq] at h
    unfold insert
    split
    · simp [above, hk, h.1, h.2]
    · split
      · simp [above, hk, h.2]
      · simp [above, h.1, ih h.2]

theorem above_erase {m : SMap α} {j : Nat} (k : Nat) (h : above j m = true) : above j (erase m k) = true := by
  induction m with
  | nil => rfl
  | cons e m ih =>
    obtain ⟨i, w⟩ := e
    simp only [above, Bool.and_eq_true, decide_eq_true_eq] at h
    unfold erase
    split
    · exact ih h.2
    · simp [above, h.1, ih h.2]

variable [DecidableEq α] {d : Nat → α}

theorem wf_cons {m : SMap α} {j : Nat} {v : α} :
    wf d ((j, v) :: m) = true ↔ above j m = true ∧ v ≠ d j ∧ wf d m = true := by
  simp [wf, and_assoc]

theorem wf_insert {m : SMap α} {k : Nat} {v : α} (hm : wf d m = true) (hv : v ≠ d k) :
    wf d (insert m k v) = true := by
  induction m with
  | nil => simp [insert, wf, above, hv]
  | cons e m ih =>
    obtain ⟨j, w⟩ := e
    obtain ⟨ha, hw, ht⟩ := wf_cons.1 hm
    unfold insert
    split
    · refine wf_cons.2 ⟨?_, hv, hm⟩
      simp only [above, Bool.and_eq_true, decide_eq_true_eq]
      exact ⟨by assumption, above_trans ha (by omega)⟩
    · split
      · subst j; exact wf_cons.2 ⟨ha, hv, ht⟩
      · exact wf_cons.2 ⟨above_insert v ha (by omega), hw, ih ht⟩

theorem wf_erase {m : SMap α} (k : Nat) (hm : wf d m = true) : wf d (erase m k) = true := by
  induction m with
  | nil => rfl
  | cons e m ih =>
    obtain ⟨j, w⟩ := e
    obtain ⟨ha, hw, ht⟩ := wf_cons.1 hm
    unfold erase
    split
    · exact ih ht
    · exact wf_cons.2 ⟨above_erase k ha, hw, ih ht⟩

/-- A write keeps the canonical form. -/
theorem wf_set {m : SMap α} (k : Nat) (v : α) (hm : wf d m = true) : wf d (set d m k v) = true := by
  unfold set
  split
  · exact wf_erase k hm
  · exact wf_insert hm (by assumption)

/-- A change of one entry keeps the canonical form. -/
theorem wf_modify {m : SMap α} (k : Nat) (f : α → α) (hm : wf d m = true) : wf d (modify d m k f) = true :=
  wf_set k _ hm

/-! ### Reads after writes -/

/-- A read of the written key gives what was written. -/
@[simp] theorem get_set_same (m : SMap α) (k : Nat) (v : α) : get d (set d m k v) k = v := by
  unfold get set
  split
  · simp [find?_erase_same, *]
  · simp [find?_insert_same]

/-- A read of another key gives what it gave before. -/
@[simp] theorem get_set_ne (m : SMap α) {k i : Nat} (v : α) (h : i ≠ k) : get d (set d m k v) i = get d m i := by
  unfold get set
  split <;> simp [find?_erase_ne, find?_insert_ne, h]

theorem get_set (m : SMap α) (k i : Nat) (v : α) : get d (set d m k v) i = if i = k then v else get d m i := by
  by_cases h : i = k
  · subst h; simp
  · simp [h]

@[simp] theorem get_modify_same (m : SMap α) (k : Nat) (f : α → α) :
    get d (modify d m k f) k = f (get d m k) := get_set_same m k _

@[simp] theorem get_modify_ne (m : SMap α) {k i : Nat} (f : α → α) (h : i ≠ k) :
    get d (modify d m k f) i = get d m i := get_set_ne m _ h

theorem get_modify (m : SMap α) (k i : Nat) (f : α → α) :
    get d (modify d m k f) i = if i = k then f (get d m k) else get d m i := get_set m k i _

end Sys2Proof.SMap
end

