-- ==== Sys2Proof/Laws/State.lean ====
section
/-!
SUPPORT. What each update of the state leaves as it was, field by field; and what it makes of the field it changes.
-/
namespace Sys2Proof.Machine

variable (s : State)

/-! ### setReg -/

@[simp] theorem State.setReg_count (a : Nat) (w : Word) : (s.setReg a w).count = s.count := rfl
@[simp] theorem State.setReg_refLost (a : Nat) (w : Word) : (s.setReg a w).refLost = s.refLost := rfl
@[simp] theorem State.setReg_frameAt (a : Nat) (w : Word) : (s.setReg a w).frameAt = s.frameAt := rfl
@[simp] theorem State.setReg_epochAt (a : Nat) (w : Word) : (s.setReg a w).epochAt = s.epochAt := rfl
@[simp] theorem State.setReg_loadIn (a : Nat) (w : Word) : (s.setReg a w).loadIn = s.loadIn := rfl
@[simp] theorem State.setReg_latch (a : Nat) (w : Word) : (s.setReg a w).latch = s.latch := rfl
@[simp] theorem State.setReg_ticks (a : Nat) (w : Word) : (s.setReg a w).ticks = s.ticks := rfl
@[simp] theorem State.setReg_limits (a : Nat) (w : Word) : (s.setReg a w).limits = s.limits := rfl
@[simp] theorem State.setReg_tiles (a : Nat) (w : Word) : (s.setReg a w).tiles = s.tiles := rfl
@[simp] theorem State.setReg_seqs (a : Nat) (w : Word) : (s.setReg a w).seqs = s.seqs := rfl
@[simp] theorem State.setReg_loader (a : Nat) (w : Word) : (s.setReg a w).loader = s.loader := rfl
@[simp] theorem State.setReg_cs (a : Nat) (w : Word) : (s.setReg a w).cs = s.cs := rfl
@[simp] theorem State.setReg_csImage (a : Nat) (w : Word) : (s.setReg a w).csImage = s.csImage := rfl
@[simp] theorem State.setReg_bar2 (a : Nat) (w : Word) : (s.setReg a w).bar2 = s.bar2 := rfl
@[simp] theorem State.setReg_used (a : Nat) (w : Word) : (s.setReg a w).used = s.used := rfl
@[simp] theorem State.setReg_rings (a : Nat) (w : Word) : (s.setReg a w).rings = s.rings := rfl
@[simp] theorem State.setReg_fns (a : Nat) (w : Word) : (s.setReg a w).fns = s.fns := rfl
@[simp] theorem State.setReg_msix (a : Nat) (w : Word) : (s.setReg a w).msix = s.msix := rfl
@[simp] theorem State.setReg_ctxCache (a : Nat) (w : Word) : (s.setReg a w).ctxCache = s.ctxCache := rfl
@[simp] theorem State.setReg_host (a : Nat) (w : Word) : (s.setReg a w).host = s.host := rfl
@[simp] theorem State.setReg_dram (a : Nat) (w : Word) : (s.setReg a w).dram = s.dram := rfl
@[simp] theorem State.setReg_dchs (a : Nat) (w : Word) : (s.setReg a w).dchs = s.dchs := rfl
@[simp] theorem State.setReg_doorbells (a : Nat) (w : Word) : (s.setReg a w).doorbells = s.doorbells := rfl
@[simp] theorem State.setReg_dwait (a : Nat) (w : Word) : (s.setReg a w).dwait = s.dwait := rfl
@[simp] theorem State.setReg_dramNvm (a : Nat) (w : Word) : (s.setReg a w).dramNvm = s.dramNvm := rfl
@[simp] theorem State.setReg_unfreezing (a : Nat) (w : Word) : (s.setReg a w).unfreezing = s.unfreezing := rfl
@[simp] theorem State.setReg_evchs (a : Nat) (w : Word) : (s.setReg a w).evchs = s.evchs := rfl
@[simp] theorem State.setReg_evgs (a : Nat) (w : Word) : (s.setReg a w).evgs = s.evgs := rfl
@[simp] theorem State.setReg_window (a : Nat) (w : Word) : (s.setReg a w).window = s.window := rfl
@[simp] theorem State.setReg_routes (a : Nat) (w : Word) : (s.setReg a w).routes = s.routes := rfl
@[simp] theorem State.setReg_tones (a : Nat) (w : Word) : (s.setReg a w).tones = s.tones := rfl
@[simp] theorem State.setReg_outs (a : Nat) (w : Word) : (s.setReg a w).outs = s.outs := rfl
@[simp] theorem State.setReg_adcs (a : Nat) (w : Word) : (s.setReg a w).adcs = s.adcs := rfl
@[simp] theorem State.setReg_routs (a : Nat) (w : Word) : (s.setReg a w).routs = s.routs := rfl
@[simp] theorem State.setReg_fir (a : Nat) (w : Word) : (s.setReg a w).fir = s.fir := rfl
@[simp] theorem State.setReg_kernel (a : Nat) (w : Word) : (s.setReg a w).kernel = s.kernel := rfl
@[simp] theorem State.setReg_lanes (a : Nat) (w : Word) : (s.setReg a w).lanes = s.lanes := rfl
@[simp] theorem State.setReg_slots (a : Nat) (w : Word) : (s.setReg a w).slots = s.slots := rfl
@[simp] theorem State.setReg_copies (a : Nat) (w : Word) : (s.setReg a w).copies = s.copies := rfl
@[simp] theorem State.setReg_slotLog (a : Nat) (w : Word) : (s.setReg a w).slotLog = s.slotLog := rfl
@[simp] theorem State.setReg_syn (a : Nat) (w : Word) : (s.setReg a w).syn = s.syn := rfl
@[simp] theorem State.setReg_cmap (a : Nat) (w : Word) : (s.setReg a w).cmap = s.cmap := rfl
@[simp] theorem State.setReg_ports (a : Nat) (w : Word) : (s.setReg a w).ports = s.ports := rfl
@[simp] theorem State.setReg_mesh (a : Nat) (w : Word) : (s.setReg a w).mesh = s.mesh := rfl
@[simp] theorem State.setReg_acqs (a : Nat) (w : Word) : (s.setReg a w).acqs = s.acqs := rfl
@[simp] theorem State.setReg_fluxes (a : Nat) (w : Word) : (s.setReg a w).fluxes = s.fluxes := rfl
@[simp] theorem State.setReg_nt (a : Nat) (w : Word) : (s.setReg a w).nt = s.nt := rfl
@[simp] theorem State.setReg_eths (a : Nat) (w : Word) : (s.setReg a w).eths = s.eths := rfl
@[simp] theorem State.setReg_power (a : Nat) (w : Word) : (s.setReg a w).power = s.power := rfl
@[simp] theorem State.setReg_therm (a : Nat) (w : Word) : (s.setReg a w).therm = s.therm := rfl
@[simp] theorem State.setReg_sensors (a : Nat) (w : Word) : (s.setReg a w).sensors = s.sensors := rfl
@[simp] theorem State.setReg_sfes (a : Nat) (w : Word) : (s.setReg a w).sfes = s.sfes := rfl
@[simp] theorem State.setReg_cal (a : Nat) (w : Word) : (s.setReg a w).cal = s.cal := rfl
@[simp] theorem State.setReg_dbgs (a : Nat) (w : Word) : (s.setReg a w).dbgs = s.dbgs := rfl
@[simp] theorem State.setReg_edges (a : Nat) (w : Word) : (s.setReg a w).edges = s.edges := rfl
@[simp] theorem State.setReg_errNow (a : Nat) (w : Word) : (s.setReg a w).errNow = s.errNow := rfl
@[simp] theorem State.setReg_respVal (a : Nat) (w : Word) : (s.setReg a w).respVal = s.respVal := rfl
@[simp] theorem State.setReg_free (a : Nat) (w : Word) : (s.setReg a w).free = s.free := rfl
@[simp] theorem State.setReg_pending (a : Nat) (w : Word) : (s.setReg a w).pending = s.pending := rfl

/-! ### modTile -/

@[simp] theorem State.modTile_count (n : Nat) (f : TileSt → TileSt) : (s.modTile n f).count = s.count := rfl
@[simp] theorem State.modTile_refLost (n : Nat) (f : TileSt → TileSt) : (s.modTile n f).refLost = s.refLost := rfl
@[simp] theorem State.modTile_frameAt (n : Nat) (f : TileSt → TileSt) : (s.modTile n f).frameAt = s.frameAt := rfl
@[simp] theorem State.modTile_epochAt (n : Nat) (f : TileSt → TileSt) : (s.modTile n f).epochAt = s.epochAt := rfl
@[simp] theorem State.modTile_loadIn (n : Nat) (f : TileSt → TileSt) : (s.modTile n f).loadIn = s.loadIn := rfl
@[simp] theorem State.modTile_latch (n : Nat) (f : TileSt → TileSt) : (s.modTile n f).latch = s.latch := rfl
@[simp] theorem State.modTile_ticks (n : Nat) (f : TileSt → TileSt) : (s.modTile n f).ticks = s.ticks := rfl
@[simp] theorem State.modTile_regs (n : Nat) (f : TileSt → TileSt) : (s.modTile n f).regs = s.regs := rfl
@[simp] theorem State.modTile_limits (n : Nat) (f : TileSt → TileSt) : (s.modTile n f).limits = s.limits := rfl
@[simp] theorem State.modTile_seqs (n : Nat) (f : TileSt → TileSt) : (s.modTile n f).seqs = s.seqs := rfl
@[simp] theorem State.modTile_loader (n : Nat) (f : TileSt → TileSt) : (s.modTile n f).loader = s.loader := rfl
@[simp] theorem State.modTile_cs (n : Nat) (f : TileSt → TileSt) : (s.modTile n f).cs = s.cs := rfl
@[simp] theorem State.modTile_csImage (n : Nat) (f : TileSt → TileSt) : (s.modTile n f).csImage = s.csImage := rfl
@[simp] theorem State.modTile_bar2 (n : Nat) (f : TileSt → TileSt) : (s.modTile n f).bar2 = s.bar2 := rfl
@[simp] theorem State.modTile_used (n : Nat) (f : TileSt → TileSt) : (s.modTile n f).used = s.used := rfl
@[simp] theorem State.modTile_rings (n : Nat) (f : TileSt → TileSt) : (s.modTile n f).rings = s.rings := rfl
@[simp] theorem State.modTile_fns (n : Nat) (f : TileSt → TileSt) : (s.modTile n f).fns = s.fns := rfl
@[simp] theorem State.modTile_msix (n : Nat) (f : TileSt → TileSt) : (s.modTile n f).msix = s.msix := rfl
@[simp] theorem State.modTile_ctxCache (n : Nat) (f : TileSt → TileSt) : (s.modTile n f).ctxCache = s.ctxCache := rfl
@[simp] theorem State.modTile_host (n : Nat) (f : TileSt → TileSt) : (s.modTile n f).host = s.host := rfl
@[simp] theorem State.modTile_dram (n : Nat) (f : TileSt → TileSt) : (s.modTile n f).dram = s.dram := rfl
@[simp] theorem State.modTile_dchs (n : Nat) (f : TileSt → TileSt) : (s.modTile n f).dchs = s.dchs := rfl
@[simp] theorem State.modTile_doorbells (n : Nat) (f : TileSt → TileSt) : (s.modTile n f).doorbells = s.doorbells := rfl
@[simp] theorem State.modTile_dwait (n : Nat) (f : TileSt → TileSt) : (s.modTile n f).dwait = s.dwait := rfl
@[simp] theorem State.modTile_dramNvm (n : Nat) (f : TileSt → TileSt) : (s.modTile n f).dramNvm = s.dramNvm := rfl
@[simp] theorem State.modTile_unfreezing (n : Nat) (f : TileSt → TileSt) : (s.modTile n f).unfreezing = s.unfreezing := rfl
@[simp] theorem State.modTile_evchs (n : Nat) (f : TileSt → TileSt) : (s.modTile n f).evchs = s.evchs := rfl
@[simp] theorem State.modTile_evgs (n : Nat) (f : TileSt → TileSt) : (s.modTile n f).evgs = s.evgs := rfl
@[simp] theorem State.modTile_window (n : Nat) (f : TileSt → TileSt) : (s.modTile n f).window = s.window := rfl
@[simp] theorem State.modTile_routes (n : Nat) (f : TileSt → TileSt) : (s.modTile n f).routes = s.routes := rfl
@[simp] theorem State.modTile_tones (n : Nat) (f : TileSt → TileSt) : (s.modTile n f).tones = s.tones := rfl
@[simp] theorem State.modTile_outs (n : Nat) (f : TileSt → TileSt) : (s.modTile n f).outs = s.outs := rfl
@[simp] theorem State.modTile_adcs (n : Nat) (f : TileSt → TileSt) : (s.modTile n f).adcs = s.adcs := rfl
@[simp] theorem State.modTile_routs (n : Nat) (f : TileSt → TileSt) : (s.modTile n f).routs = s.routs := rfl
@[simp] theorem State.modTile_fir (n : Nat) (f : TileSt → TileSt) : (s.modTile n f).fir = s.fir := rfl
@[simp] theorem State.modTile_kernel (n : Nat) (f : TileSt → TileSt) : (s.modTile n f).kernel = s.kernel := rfl
@[simp] theorem State.modTile_lanes (n : Nat) (f : TileSt → TileSt) : (s.modTile n f).lanes = s.lanes := rfl
@[simp] theorem State.modTile_slots (n : Nat) (f : TileSt → TileSt) : (s.modTile n f).slots = s.slots := rfl
@[simp] theorem State.modTile_copies (n : Nat) (f : TileSt → TileSt) : (s.modTile n f).copies = s.copies := rfl
@[simp] theorem State.modTile_slotLog (n : Nat) (f : TileSt → TileSt) : (s.modTile n f).slotLog = s.slotLog := rfl
@[simp] theorem State.modTile_syn (n : Nat) (f : TileSt → TileSt) : (s.modTile n f).syn = s.syn := rfl
@[simp] theorem State.modTile_cmap (n : Nat) (f : TileSt → TileSt) : (s.modTile n f).cmap = s.cmap := rfl
@[simp] theorem State.modTile_ports (n : Nat) (f : TileSt → TileSt) : (s.modTile n f).ports = s.ports := rfl
@[simp] theorem State.modTile_mesh (n : Nat) (f : TileSt → TileSt) : (s.modTile n f).mesh = s.mesh := rfl
@[simp] theorem State.modTile_acqs (n : Nat) (f : TileSt → TileSt) : (s.modTile n f).acqs = s.acqs := rfl
@[simp] theorem State.modTile_fluxes (n : Nat) (f : TileSt → TileSt) : (s.modTile n f).fluxes = s.fluxes := rfl
@[simp] theorem State.modTile_nt (n : Nat) (f : TileSt → TileSt) : (s.modTile n f).nt = s.nt := rfl
@[simp] theorem State.modTile_eths (n : Nat) (f : TileSt → TileSt) : (s.modTile n f).eths = s.eths := rfl
@[simp] theorem State.modTile_power (n : Nat) (f : TileSt → TileSt) : (s.modTile n f).power = s.power := rfl
@[simp] theorem State.modTile_therm (n : Nat) (f : TileSt → TileSt) : (s.modTile n f).therm = s.therm := rfl
@[simp] theorem State.modTile_sensors (n : Nat) (f : TileSt → TileSt) : (s.modTile n f).sensors = s.sensors := rfl
@[simp] theorem State.modTile_sfes (n : Nat) (f : TileSt → TileSt) : (s.modTile n f).sfes = s.sfes := rfl
@[simp] theorem State.modTile_cal (n : Nat) (f : TileSt → TileSt) : (s.modTile n f).cal = s.cal := rfl
@[simp] theorem State.modTile_dbgs (n : Nat) (f : TileSt → TileSt) : (s.modTile n f).dbgs = s.dbgs := rfl
@[simp] theorem State.modTile_edges (n : Nat) (f : TileSt → TileSt) : (s.modTile n f).edges = s.edges := rfl
@[simp] theorem State.modTile_errNow (n : Nat) (f : TileSt → TileSt) : (s.modTile n f).errNow = s.errNow := rfl
@[simp] theorem State.modTile_respVal (n : Nat) (f : TileSt → TileSt) : (s.modTile n f).respVal = s.respVal := rfl
@[simp] theorem State.modTile_free (n : Nat) (f : TileSt → TileSt) : (s.modTile n f).free = s.free := rfl
@[simp] theorem State.modTile_pending (n : Nat) (f : TileSt → TileSt) : (s.modTile n f).pending = s.pending := rfl

@[simp] theorem State.tile_modTile (n : Nat) (f : TileSt → TileSt) : (s.modTile n f).tile n = f (s.tile n) :=
  SMap.get_modify_same ..
theorem State.tile_modTile_ne {n m : Nat} (f : TileSt → TileSt) (h : m ≠ n) : (s.modTile n f).tile m = s.tile m :=
  SMap.get_modify_ne _ _ h

/-! ### modSeq -/

@[simp] theorem State.modSeq_count (n : Nat) (f : SeqSt → SeqSt) : (s.modSeq n f).count = s.count := rfl
@[simp] theorem State.modSeq_refLost (n : Nat) (f : SeqSt → SeqSt) : (s.modSeq n f).refLost = s.refLost := rfl
@[simp] theorem State.modSeq_frameAt (n : Nat) (f : SeqSt → SeqSt) : (s.modSeq n f).frameAt = s.frameAt := rfl
@[simp] theorem State.modSeq_epochAt (n : Nat) (f : SeqSt → SeqSt) : (s.modSeq n f).epochAt = s.epochAt := rfl
@[simp] theorem State.modSeq_loadIn (n : Nat) (f : SeqSt → SeqSt) : (s.modSeq n f).loadIn = s.loadIn := rfl
@[simp] theorem State.modSeq_latch (n : Nat) (f : SeqSt → SeqSt) : (s.modSeq n f).latch = s.latch := rfl
@[simp] theorem State.modSeq_ticks (n : Nat) (f : SeqSt → SeqSt) : (s.modSeq n f).ticks = s.ticks := rfl
@[simp] theorem State.modSeq_regs (n : Nat) (f : SeqSt → SeqSt) : (s.modSeq n f).regs = s.regs := rfl
@[simp] theorem State.modSeq_limits (n : Nat) (f : SeqSt → SeqSt) : (s.modSeq n f).limits = s.limits := rfl
@[simp] theorem State.modSeq_tiles (n : Nat) (f : SeqSt → SeqSt) : (s.modSeq n f).tiles = s.tiles := rfl
@[simp] theorem State.modSeq_loader (n : Nat) (f : SeqSt → SeqSt) : (s.modSeq n f).loader = s.loader := rfl
@[simp] theorem State.modSeq_cs (n : Nat) (f : SeqSt → SeqSt) : (s.modSeq n f).cs = s.cs := rfl
@[simp] theorem State.modSeq_csImage (n : Nat) (f : SeqSt → SeqSt) : (s.modSeq n f).csImage = s.csImage := rfl
@[simp] theorem State.modSeq_bar2 (n : Nat) (f : SeqSt → SeqSt) : (s.modSeq n f).bar2 = s.bar2 := rfl
@[simp] theorem State.modSeq_used (n : Nat) (f : SeqSt → SeqSt) : (s.modSeq n f).used = s.used := rfl
@[simp] theorem State.modSeq_rings (n : Nat) (f : SeqSt → SeqSt) : (s.modSeq n f).rings = s.rings := rfl
@[simp] theorem State.modSeq_fns (n : Nat) (f : SeqSt → SeqSt) : (s.modSeq n f).fns = s.fns := rfl
@[simp] theorem State.modSeq_msix (n : Nat) (f : SeqSt → SeqSt) : (s.modSeq n f).msix = s.msix := rfl
@[simp] theorem State.modSeq_ctxCache (n : Nat) (f : SeqSt → SeqSt) : (s.modSeq n f).ctxCache = s.ctxCache := rfl
@[simp] theorem State.modSeq_host (n : Nat) (f : SeqSt → SeqSt) : (s.modSeq n f).host = s.host := rfl
@[simp] theorem State.modSeq_dram (n : Nat) (f : SeqSt → SeqSt) : (s.modSeq n f).dram = s.dram := rfl
@[simp] theorem State.modSeq_dchs (n : Nat) (f : SeqSt → SeqSt) : (s.modSeq n f).dchs = s.dchs := rfl
@[simp] theorem State.modSeq_doorbells (n : Nat) (f : SeqSt → SeqSt) : (s.modSeq n f).doorbells = s.doorbells := rfl
@[simp] theorem State.modSeq_dwait (n : Nat) (f : SeqSt → SeqSt) : (s.modSeq n f).dwait = s.dwait := rfl
@[simp] theorem State.modSeq_dramNvm (n : Nat) (f : SeqSt → SeqSt) : (s.modSeq n f).dramNvm = s.dramNvm := rfl
@[simp] theorem State.modSeq_unfreezing (n : Nat) (f : SeqSt → SeqSt) : (s.modSeq n f).unfreezing = s.unfreezing := rfl
@[simp] theorem State.modSeq_evchs (n : Nat) (f : SeqSt → SeqSt) : (s.modSeq n f).evchs = s.evchs := rfl
@[simp] theorem State.modSeq_evgs (n : Nat) (f : SeqSt → SeqSt) : (s.modSeq n f).evgs = s.evgs := rfl
@[simp] theorem State.modSeq_window (n : Nat) (f : SeqSt → SeqSt) : (s.modSeq n f).window = s.window := rfl
@[simp] theorem State.modSeq_routes (n : Nat) (f : SeqSt → SeqSt) : (s.modSeq n f).routes = s.routes := rfl
@[simp] theorem State.modSeq_tones (n : Nat) (f : SeqSt → SeqSt) : (s.modSeq n f).tones = s.tones := rfl
@[simp] theorem State.modSeq_outs (n : Nat) (f : SeqSt → SeqSt) : (s.modSeq n f).outs = s.outs := rfl
@[simp] theorem State.modSeq_adcs (n : Nat) (f : SeqSt → SeqSt) : (s.modSeq n f).adcs = s.adcs := rfl
@[simp] theorem State.modSeq_routs (n : Nat) (f : SeqSt → SeqSt) : (s.modSeq n f).routs = s.routs := rfl
@[simp] theorem State.modSeq_fir (n : Nat) (f : SeqSt → SeqSt) : (s.modSeq n f).fir = s.fir := rfl
@[simp] theorem State.modSeq_kernel (n : Nat) (f : SeqSt → SeqSt) : (s.modSeq n f).kernel = s.kernel := rfl
@[simp] theorem State.modSeq_lanes (n : Nat) (f : SeqSt → SeqSt) : (s.modSeq n f).lanes = s.lanes := rfl
@[simp] theorem State.modSeq_slots (n : Nat) (f : SeqSt → SeqSt) : (s.modSeq n f).slots = s.slots := rfl
@[simp] theorem State.modSeq_copies (n : Nat) (f : SeqSt → SeqSt) : (s.modSeq n f).copies = s.copies := rfl
@[simp] theorem State.modSeq_slotLog (n : Nat) (f : SeqSt → SeqSt) : (s.modSeq n f).slotLog = s.slotLog := rfl
@[simp] theorem State.modSeq_syn (n : Nat) (f : SeqSt → SeqSt) : (s.modSeq n f).syn = s.syn := rfl
@[simp] theorem State.modSeq_cmap (n : Nat) (f : SeqSt → SeqSt) : (s.modSeq n f).cmap = s.cmap := rfl
@[simp] theorem State.modSeq_ports (n : Nat) (f : SeqSt → SeqSt) : (s.modSeq n f).ports = s.ports := rfl
@[simp] theorem State.modSeq_mesh (n : Nat) (f : SeqSt → SeqSt) : (s.modSeq n f).mesh = s.mesh := rfl
@[simp] theorem State.modSeq_acqs (n : Nat) (f : SeqSt → SeqSt) : (s.modSeq n f).acqs = s.acqs := rfl
@[simp] theorem State.modSeq_fluxes (n : Nat) (f : SeqSt → SeqSt) : (s.modSeq n f).fluxes = s.fluxes := rfl
@[simp] theorem State.modSeq_nt (n : Nat) (f : SeqSt → SeqSt) : (s.modSeq n f).nt = s.nt := rfl
@[simp] theorem State.modSeq_eths (n : Nat) (f : SeqSt → SeqSt) : (s.modSeq n f).eths = s.eths := rfl
@[simp] theorem State.modSeq_power (n : Nat) (f : SeqSt → SeqSt) : (s.modSeq n f).power = s.power := rfl
@[simp] theorem State.modSeq_therm (n : Nat) (f : SeqSt → SeqSt) : (s.modSeq n f).therm = s.therm := rfl
@[simp] theorem State.modSeq_sensors (n : Nat) (f : SeqSt → SeqSt) : (s.modSeq n f).sensors = s.sensors := rfl
@[simp] theorem State.modSeq_sfes (n : Nat) (f : SeqSt → SeqSt) : (s.modSeq n f).sfes = s.sfes := rfl
@[simp] theorem State.modSeq_cal (n : Nat) (f : SeqSt → SeqSt) : (s.modSeq n f).cal = s.cal := rfl
@[simp] theorem State.modSeq_dbgs (n : Nat) (f : SeqSt → SeqSt) : (s.modSeq n f).dbgs = s.dbgs := rfl
@[simp] theorem State.modSeq_edges (n : Nat) (f : SeqSt → SeqSt) : (s.modSeq n f).edges = s.edges := rfl
@[simp] theorem State.modSeq_errNow (n : Nat) (f : SeqSt → SeqSt) : (s.modSeq n f).errNow = s.errNow := rfl
@[simp] theorem State.modSeq_respVal (n : Nat) (f : SeqSt → SeqSt) : (s.modSeq n f).respVal = s.respVal := rfl
@[simp] theorem State.modSeq_free (n : Nat) (f : SeqSt → SeqSt) : (s.modSeq n f).free = s.free := rfl
@[simp] theorem State.modSeq_pending (n : Nat) (f : SeqSt → SeqSt) : (s.modSeq n f).pending = s.pending := rfl

@[simp] theorem State.seq_modSeq (n : Nat) (f : SeqSt → SeqSt) : (s.modSeq n f).seq n = f (s.seq n) :=
  SMap.get_modify_same ..
theorem State.seq_modSeq_ne {n m : Nat} (f : SeqSt → SeqSt) (h : m ≠ n) : (s.modSeq n f).seq m = s.seq m :=
  SMap.get_modify_ne _ _ h

/-! ### modRing -/

@[simp] theorem State.modRing_count (n : Nat) (f : RingSt → RingSt) : (s.modRing n f).count = s.count := rfl
@[simp] theorem State.modRing_refLost (n : Nat) (f : RingSt → RingSt) : (s.modRing n f).refLost = s.refLost := rfl
@[simp] theorem State.modRing_frameAt (n : Nat) (f : RingSt → RingSt) : (s.modRing n f).frameAt = s.frameAt := rfl
@[simp] theorem State.modRing_epochAt (n : Nat) (f : RingSt → RingSt) : (s.modRing n f).epochAt = s.epochAt := rfl
@[simp] theorem State.modRing_loadIn (n : Nat) (f : RingSt → RingSt) : (s.modRing n f).loadIn = s.loadIn := rfl
@[simp] theorem State.modRing_latch (n : Nat) (f : RingSt → RingSt) : (s.modRing n f).latch = s.latch := rfl
@[simp] theorem State.modRing_ticks (n : Nat) (f : RingSt → RingSt) : (s.modRing n f).ticks = s.ticks := rfl
@[simp] theorem State.modRing_regs (n : Nat) (f : RingSt → RingSt) : (s.modRing n f).regs = s.regs := rfl
@[simp] theorem State.modRing_limits (n : Nat) (f : RingSt → RingSt) : (s.modRing n f).limits = s.limits := rfl
@[simp] theorem State.modRing_tiles (n : Nat) (f : RingSt → RingSt) : (s.modRing n f).tiles = s.tiles := rfl
@[simp] theorem State.modRing_seqs (n : Nat) (f : RingSt → RingSt) : (s.modRing n f).seqs = s.seqs := rfl
@[simp] theorem State.modRing_loader (n : Nat) (f : RingSt → RingSt) : (s.modRing n f).loader = s.loader := rfl
@[simp] theorem State.modRing_cs (n : Nat) (f : RingSt → RingSt) : (s.modRing n f).cs = s.cs := rfl
@[simp] theorem State.modRing_csImage (n : Nat) (f : RingSt → RingSt) : (s.modRing n f).csImage = s.csImage := rfl
@[simp] theorem State.modRing_bar2 (n : Nat) (f : RingSt → RingSt) : (s.modRing n f).bar2 = s.bar2 := rfl
@[simp] theorem State.modRing_used (n : Nat) (f : RingSt → RingSt) : (s.modRing n f).used = s.used := rfl
@[simp] theorem State.modRing_fns (n : Nat) (f : RingSt → RingSt) : (s.modRing n f).fns = s.fns := rfl
@[simp] theorem State.modRing_msix (n : Nat) (f : RingSt → RingSt) : (s.modRing n f).msix = s.msix := rfl
@[simp] theorem State.modRing_ctxCache (n : Nat) (f : RingSt → RingSt) : (s.modRing n f).ctxCache = s.ctxCache := rfl
@[simp] theorem State.modRing_host (n : Nat) (f : RingSt → RingSt) : (s.modRing n f).host = s.host := rfl
@[simp] theorem State.modRing_dram (n : Nat) (f : RingSt → RingSt) : (s.modRing n f).dram = s.dram := rfl
@[simp] theorem State.modRing_dchs (n : Nat) (f : RingSt → RingSt) : (s.modRing n f).dchs = s.dchs := rfl
@[simp] theorem State.modRing_doorbells (n : Nat) (f : RingSt → RingSt) : (s.modRing n f).doorbells = s.doorbells := rfl
@[simp] theorem State.modRing_dwait (n : Nat) (f : RingSt → RingSt) : (s.modRing n f).dwait = s.dwait := rfl
@[simp] theorem State.modRing_dramNvm (n : Nat) (f : RingSt → RingSt) : (s.modRing n f).dramNvm = s.dramNvm := rfl
@[simp] theorem State.modRing_unfreezing (n : Nat) (f : RingSt → RingSt) : (s.modRing n f).unfreezing = s.unfreezing := rfl
@[simp] theorem State.modRing_evchs (n : Nat) (f : RingSt → RingSt) : (s.modRing n f).evchs = s.evchs := rfl
@[simp] theorem State.modRing_evgs (n : Nat) (f : RingSt → RingSt) : (s.modRing n f).evgs = s.evgs := rfl
@[simp] theorem State.modRing_window (n : Nat) (f : RingSt → RingSt) : (s.modRing n f).window = s.window := rfl
@[simp] theorem State.modRing_routes (n : Nat) (f : RingSt → RingSt) : (s.modRing n f).routes = s.routes := rfl
@[simp] theorem State.modRing_tones (n : Nat) (f : RingSt → RingSt) : (s.modRing n f).tones = s.tones := rfl
@[simp] theorem State.modRing_outs (n : Nat) (f : RingSt → RingSt) : (s.modRing n f).outs = s.outs := rfl
@[simp] theorem State.modRing_adcs (n : Nat) (f : RingSt → RingSt) : (s.modRing n f).adcs = s.adcs := rfl
@[simp] theorem State.modRing_routs (n : Nat) (f : RingSt → RingSt) : (s.modRing n f).routs = s.routs := rfl
@[simp] theorem State.modRing_fir (n : Nat) (f : RingSt → RingSt) : (s.modRing n f).fir = s.fir := rfl
@[simp] theorem State.modRing_kernel (n : Nat) (f : RingSt → RingSt) : (s.modRing n f).kernel = s.kernel := rfl
@[simp] theorem State.modRing_lanes (n : Nat) (f : RingSt → RingSt) : (s.modRing n f).lanes = s.lanes := rfl
@[simp] theorem State.modRing_slots (n : Nat) (f : RingSt → RingSt) : (s.modRing n f).slots = s.slots := rfl
@[simp] theorem State.modRing_copies (n : Nat) (f : RingSt → RingSt) : (s.modRing n f).copies = s.copies := rfl
@[simp] theorem State.modRing_slotLog (n : Nat) (f : RingSt → RingSt) : (s.modRing n f).slotLog = s.slotLog := rfl
@[simp] theorem State.modRing_syn (n : Nat) (f : RingSt → RingSt) : (s.modRing n f).syn = s.syn := rfl
@[simp] theorem State.modRing_cmap (n : Nat) (f : RingSt → RingSt) : (s.modRing n f).cmap = s.cmap := rfl
@[simp] theorem State.modRing_ports (n : Nat) (f : RingSt → RingSt) : (s.modRing n f).ports = s.ports := rfl
@[simp] theorem State.modRing_mesh (n : Nat) (f : RingSt → RingSt) : (s.modRing n f).mesh = s.mesh := rfl
@[simp] theorem State.modRing_acqs (n : Nat) (f : RingSt → RingSt) : (s.modRing n f).acqs = s.acqs := rfl
@[simp] theorem State.modRing_fluxes (n : Nat) (f : RingSt → RingSt) : (s.modRing n f).fluxes = s.fluxes := rfl
@[simp] theorem State.modRing_nt (n : Nat) (f : RingSt → RingSt) : (s.modRing n f).nt = s.nt := rfl
@[simp] theorem State.modRing_eths (n : Nat) (f : RingSt → RingSt) : (s.modRing n f).eths = s.eths := rfl
@[simp] theorem State.modRing_power (n : Nat) (f : RingSt → RingSt) : (s.modRing n f).power = s.power := rfl
@[simp] theorem State.modRing_therm (n : Nat) (f : RingSt → RingSt) : (s.modRing n f).therm = s.therm := rfl
@[simp] theorem State.modRing_sensors (n : Nat) (f : RingSt → RingSt) : (s.modRing n f).sensors = s.sensors := rfl
@[simp] theorem State.modRing_sfes (n : Nat) (f : RingSt → RingSt) : (s.modRing n f).sfes = s.sfes := rfl
@[simp] theorem State.modRing_cal (n : Nat) (f : RingSt → RingSt) : (s.modRing n f).cal = s.cal := rfl
@[simp] theorem State.modRing_dbgs (n : Nat) (f : RingSt → RingSt) : (s.modRing n f).dbgs = s.dbgs := rfl
@[simp] theorem State.modRing_edges (n : Nat) (f : RingSt → RingSt) : (s.modRing n f).edges = s.edges := rfl
@[simp] theorem State.modRing_errNow (n : Nat) (f : RingSt → RingSt) : (s.modRing n f).errNow = s.errNow := rfl
@[simp] theorem State.modRing_respVal (n : Nat) (f : RingSt → RingSt) : (s.modRing n f).respVal = s.respVal := rfl
@[simp] theorem State.modRing_free (n : Nat) (f : RingSt → RingSt) : (s.modRing n f).free = s.free := rfl
@[simp] theorem State.modRing_pending (n : Nat) (f : RingSt → RingSt) : (s.modRing n f).pending = s.pending := rfl

@[simp] theorem State.ring_modRing (n : Nat) (f : RingSt → RingSt) : (s.modRing n f).ring n = f (s.ring n) :=
  SMap.get_modify_same ..
theorem State.ring_modRing_ne {n m : Nat} (f : RingSt → RingSt) (h : m ≠ n) : (s.modRing n f).ring m = s.ring m :=
  SMap.get_modify_ne _ _ h

/-! ### modFn -/

@[simp] theorem State.modFn_count (n : Nat) (f : FnSt → FnSt) : (s.modFn n f).count = s.count := rfl
@[simp] theorem State.modFn_refLost (n : Nat) (f : FnSt → FnSt) : (s.modFn n f).refLost = s.refLost := rfl
@[simp] theorem State.modFn_frameAt (n : Nat) (f : FnSt → FnSt) : (s.modFn n f).frameAt = s.frameAt := rfl
@[simp] theorem State.modFn_epochAt (n : Nat) (f : FnSt → FnSt) : (s.modFn n f).epochAt = s.epochAt := rfl
@[simp] theorem State.modFn_loadIn (n : Nat) (f : FnSt → FnSt) : (s.modFn n f).loadIn = s.loadIn := rfl
@[simp] theorem State.modFn_latch (n : Nat) (f : FnSt → FnSt) : (s.modFn n f).latch = s.latch := rfl
@[simp] theorem State.modFn_ticks (n : Nat) (f : FnSt → FnSt) : (s.modFn n f).ticks = s.ticks := rfl
@[simp] theorem State.modFn_regs (n : Nat) (f : FnSt → FnSt) : (s.modFn n f).regs = s.regs := rfl
@[simp] theorem State.modFn_limits (n : Nat) (f : FnSt → FnSt) : (s.modFn n f).limits = s.limits := rfl
@[simp] theorem State.modFn_tiles (n : Nat) (f : FnSt → FnSt) : (s.modFn n f).tiles = s.tiles := rfl
@[simp] theorem State.modFn_seqs (n : Nat) (f : FnSt → FnSt) : (s.modFn n f).seqs = s.seqs := rfl
@[simp] theorem State.modFn_loader (n : Nat) (f : FnSt → FnSt) : (s.modFn n f).loader = s.loader := rfl
@[simp] theorem State.modFn_cs (n : Nat) (f : FnSt → FnSt) : (s.modFn n f).cs = s.cs := rfl
@[simp] theorem State.modFn_csImage (n : Nat) (f : FnSt → FnSt) : (s.modFn n f).csImage = s.csImage := rfl
@[simp] theorem State.modFn_bar2 (n : Nat) (f : FnSt → FnSt) : (s.modFn n f).bar2 = s.bar2 := rfl
@[simp] theorem State.modFn_used (n : Nat) (f : FnSt → FnSt) : (s.modFn n f).used = s.used := rfl
@[simp] theorem State.modFn_rings (n : Nat) (f : FnSt → FnSt) : (s.modFn n f).rings = s.rings := rfl
@[simp] theorem State.modFn_msix (n : Nat) (f : FnSt → FnSt) : (s.modFn n f).msix = s.msix := rfl
@[simp] theorem State.modFn_ctxCache (n : Nat) (f : FnSt → FnSt) : (s.modFn n f).ctxCache = s.ctxCache := rfl
@[simp] theorem State.modFn_host (n : Nat) (f : FnSt → FnSt) : (s.modFn n f).host = s.host := rfl
@[simp] theorem State.modFn_dram (n : Nat) (f : FnSt → FnSt) : (s.modFn n f).dram = s.dram := rfl
@[simp] theorem State.modFn_dchs (n : Nat) (f : FnSt → FnSt) : (s.modFn n f).dchs = s.dchs := rfl
@[simp] theorem State.modFn_doorbells (n : Nat) (f : FnSt → FnSt) : (s.modFn n f).doorbells = s.doorbells := rfl
@[simp] theorem State.modFn_dwait (n : Nat) (f : FnSt → FnSt) : (s.modFn n f).dwait = s.dwait := rfl
@[simp] theorem State.modFn_dramNvm (n : Nat) (f : FnSt → FnSt) : (s.modFn n f).dramNvm = s.dramNvm := rfl
@[simp] theorem State.modFn_unfreezing (n : Nat) (f : FnSt → FnSt) : (s.modFn n f).unfreezing = s.unfreezing := rfl
@[simp] theorem State.modFn_evchs (n : Nat) (f : FnSt → FnSt) : (s.modFn n f).evchs = s.evchs := rfl
@[simp] theorem State.modFn_evgs (n : Nat) (f : FnSt → FnSt) : (s.modFn n f).evgs = s.evgs := rfl
@[simp] theorem State.modFn_window (n : Nat) (f : FnSt → FnSt) : (s.modFn n f).window = s.window := rfl
@[simp] theorem State.modFn_routes (n : Nat) (f : FnSt → FnSt) : (s.modFn n f).routes = s.routes := rfl
@[simp] theorem State.modFn_tones (n : Nat) (f : FnSt → FnSt) : (s.modFn n f).tones = s.tones := rfl
@[simp] theorem State.modFn_outs (n : Nat) (f : FnSt → FnSt) : (s.modFn n f).outs = s.outs := rfl
@[simp] theorem State.modFn_adcs (n : Nat) (f : FnSt → FnSt) : (s.modFn n f).adcs = s.adcs := rfl
@[simp] theorem State.modFn_routs (n : Nat) (f : FnSt → FnSt) : (s.modFn n f).routs = s.routs := rfl
@[simp] theorem State.modFn_fir (n : Nat) (f : FnSt → FnSt) : (s.modFn n f).fir = s.fir := rfl
@[simp] theorem State.modFn_kernel (n : Nat) (f : FnSt → FnSt) : (s.modFn n f).kernel = s.kernel := rfl
@[simp] theorem State.modFn_lanes (n : Nat) (f : FnSt → FnSt) : (s.modFn n f).lanes = s.lanes := rfl
@[simp] theorem State.modFn_slots (n : Nat) (f : FnSt → FnSt) : (s.modFn n f).slots = s.slots := rfl
@[simp] theorem State.modFn_copies (n : Nat) (f : FnSt → FnSt) : (s.modFn n f).copies = s.copies := rfl
@[simp] theorem State.modFn_slotLog (n : Nat) (f : FnSt → FnSt) : (s.modFn n f).slotLog = s.slotLog := rfl
@[simp] theorem State.modFn_syn (n : Nat) (f : FnSt → FnSt) : (s.modFn n f).syn = s.syn := rfl
@[simp] theorem State.modFn_cmap (n : Nat) (f : FnSt → FnSt) : (s.modFn n f).cmap = s.cmap := rfl
@[simp] theorem State.modFn_ports (n : Nat) (f : FnSt → FnSt) : (s.modFn n f).ports = s.ports := rfl
@[simp] theorem State.modFn_mesh (n : Nat) (f : FnSt → FnSt) : (s.modFn n f).mesh = s.mesh := rfl
@[simp] theorem State.modFn_acqs (n : Nat) (f : FnSt → FnSt) : (s.modFn n f).acqs = s.acqs := rfl
@[simp] theorem State.modFn_fluxes (n : Nat) (f : FnSt → FnSt) : (s.modFn n f).fluxes = s.fluxes := rfl
@[simp] theorem State.modFn_nt (n : Nat) (f : FnSt → FnSt) : (s.modFn n f).nt = s.nt := rfl
@[simp] theorem State.modFn_eths (n : Nat) (f : FnSt → FnSt) : (s.modFn n f).eths = s.eths := rfl
@[simp] theorem State.modFn_power (n : Nat) (f : FnSt → FnSt) : (s.modFn n f).power = s.power := rfl
@[simp] theorem State.modFn_therm (n : Nat) (f : FnSt → FnSt) : (s.modFn n f).therm = s.therm := rfl
@[simp] theorem State.modFn_sensors (n : Nat) (f : FnSt → FnSt) : (s.modFn n f).sensors = s.sensors := rfl
@[simp] theorem State.modFn_sfes (n : Nat) (f : FnSt → FnSt) : (s.modFn n f).sfes = s.sfes := rfl
@[simp] theorem State.modFn_cal (n : Nat) (f : FnSt → FnSt) : (s.modFn n f).cal = s.cal := rfl
@[simp] theorem State.modFn_dbgs (n : Nat) (f : FnSt → FnSt) : (s.modFn n f).dbgs = s.dbgs := rfl
@[simp] theorem State.modFn_edges (n : Nat) (f : FnSt → FnSt) : (s.modFn n f).edges = s.edges := rfl
@[simp] theorem State.modFn_errNow (n : Nat) (f : FnSt → FnSt) : (s.modFn n f).errNow = s.errNow := rfl
@[simp] theorem State.modFn_respVal (n : Nat) (f : FnSt → FnSt) : (s.modFn n f).respVal = s.respVal := rfl
@[simp] theorem State.modFn_free (n : Nat) (f : FnSt → FnSt) : (s.modFn n f).free = s.free := rfl
@[simp] theorem State.modFn_pending (n : Nat) (f : FnSt → FnSt) : (s.modFn n f).pending = s.pending := rfl

@[simp] theorem State.fnSt_modFn (n : Nat) (f : FnSt → FnSt) : (s.modFn n f).fnSt n = f (s.fnSt n) :=
  SMap.get_modify_same ..
theorem State.fnSt_modFn_ne {n m : Nat} (f : FnSt → FnSt) (h : m ≠ n) : (s.modFn n f).fnSt m = s.fnSt m :=
  SMap.get_modify_ne _ _ h

/-! ### modMsix -/

@[simp] theorem State.modMsix_count (n : Nat) (f : MsixSt → MsixSt) : (s.modMsix n f).count = s.count := rfl
@[simp] theorem State.modMsix_refLost (n : Nat) (f : MsixSt → MsixSt) : (s.modMsix n f).refLost = s.refLost := rfl
@[simp] theorem State.modMsix_frameAt (n : Nat) (f : MsixSt → MsixSt) : (s.modMsix n f).frameAt = s.frameAt := rfl
@[simp] theorem State.modMsix_epochAt (n : Nat) (f : MsixSt → MsixSt) : (s.modMsix n f).epochAt = s.epochAt := rfl
@[simp] theorem State.modMsix_loadIn (n : Nat) (f : MsixSt → MsixSt) : (s.modMsix n f).loadIn = s.loadIn := rfl
@[simp] theorem State.modMsix_latch (n : Nat) (f : MsixSt → MsixSt) : (s.modMsix n f).latch = s.latch := rfl
@[simp] theorem State.modMsix_ticks (n : Nat) (f : MsixSt → MsixSt) : (s.modMsix n f).ticks = s.ticks := rfl
@[simp] theorem State.modMsix_regs (n : Nat) (f : MsixSt → MsixSt) : (s.modMsix n f).regs = s.regs := rfl
@[simp] theorem State.modMsix_limits (n : Nat) (f : MsixSt → MsixSt) : (s.modMsix n f).limits = s.limits := rfl
@[simp] theorem State.modMsix_tiles (n : Nat) (f : MsixSt → MsixSt) : (s.modMsix n f).tiles = s.tiles := rfl
@[simp] theorem State.modMsix_seqs (n : Nat) (f : MsixSt → MsixSt) : (s.modMsix n f).seqs = s.seqs := rfl
@[simp] theorem State.modMsix_loader (n : Nat) (f : MsixSt → MsixSt) : (s.modMsix n f).loader = s.loader := rfl
@[simp] theorem State.modMsix_cs (n : Nat) (f : MsixSt → MsixSt) : (s.modMsix n f).cs = s.cs := rfl
@[simp] theorem State.modMsix_csImage (n : Nat) (f : MsixSt → MsixSt) : (s.modMsix n f).csImage = s.csImage := rfl
@[simp] theorem State.modMsix_bar2 (n : Nat) (f : MsixSt → MsixSt) : (s.modMsix n f).bar2 = s.bar2 := rfl
@[simp] theorem State.modMsix_used (n : Nat) (f : MsixSt → MsixSt) : (s.modMsix n f).used = s.used := rfl
@[simp] theorem State.modMsix_rings (n : Nat) (f : MsixSt → MsixSt) : (s.modMsix n f).rings = s.rings := rfl
@[simp] theorem State.modMsix_fns (n : Nat) (f : MsixSt → MsixSt) : (s.modMsix n f).fns = s.fns := rfl
@[simp] theorem State.modMsix_ctxCache (n : Nat) (f : MsixSt → MsixSt) : (s.modMsix n f).ctxCache = s.ctxCache := rfl
@[simp] theorem State.modMsix_host (n : Nat) (f : MsixSt → MsixSt) : (s.modMsix n f).host = s.host := rfl
@[simp] theorem State.modMsix_dram (n : Nat) (f : MsixSt → MsixSt) : (s.modMsix n f).dram = s.dram := rfl
@[simp] theorem State.modMsix_dchs (n : Nat) (f : MsixSt → MsixSt) : (s.modMsix n f).dchs = s.dchs := rfl
@[simp] theorem State.modMsix_doorbells (n : Nat) (f : MsixSt → MsixSt) : (s.modMsix n f).doorbells = s.doorbells := rfl
@[simp] theorem State.modMsix_dwait (n : Nat) (f : MsixSt → MsixSt) : (s.modMsix n f).dwait = s.dwait := rfl
@[simp] theorem State.modMsix_dramNvm (n : Nat) (f : MsixSt → MsixSt) : (s.modMsix n f).dramNvm = s.dramNvm := rfl
@[simp] theorem State.modMsix_unfreezing (n : Nat) (f : MsixSt → MsixSt) : (s.modMsix n f).unfreezing = s.unfreezing := rfl
@[simp] theorem State.modMsix_evchs (n : Nat) (f : MsixSt → MsixSt) : (s.modMsix n f).evchs = s.evchs := rfl
@[simp] theorem State.modMsix_evgs (n : Nat) (f : MsixSt → MsixSt) : (s.modMsix n f).evgs = s.evgs := rfl
@[simp] theorem State.modMsix_window (n : Nat) (f : MsixSt → MsixSt) : (s.modMsix n f).window = s.window := rfl
@[simp] theorem State.modMsix_routes (n : Nat) (f : MsixSt → MsixSt) : (s.modMsix n f).routes = s.routes := rfl
@[simp] theorem State.modMsix_tones (n : Nat) (f : MsixSt → MsixSt) : (s.modMsix n f).tones = s.tones := rfl
@[simp] theorem State.modMsix_outs (n : Nat) (f : MsixSt → MsixSt) : (s.modMsix n f).outs = s.outs := rfl
@[simp] theorem State.modMsix_adcs (n : Nat) (f : MsixSt → MsixSt) : (s.modMsix n f).adcs = s.adcs := rfl
@[simp] theorem State.modMsix_routs (n : Nat) (f : MsixSt → MsixSt) : (s.modMsix n f).routs = s.routs := rfl
@[simp] theorem State.modMsix_fir (n : Nat) (f : MsixSt → MsixSt) : (s.modMsix n f).fir = s.fir := rfl
@[simp] theorem State.modMsix_kernel (n : Nat) (f : MsixSt → MsixSt) : (s.modMsix n f).kernel = s.kernel := rfl
@[simp] theorem State.modMsix_lanes (n : Nat) (f : MsixSt → MsixSt) : (s.modMsix n f).lanes = s.lanes := rfl
@[simp] theorem State.modMsix_slots (n : Nat) (f : MsixSt → MsixSt) : (s.modMsix n f).slots = s.slots := rfl
@[simp] theorem State.modMsix_copies (n : Nat) (f : MsixSt → MsixSt) : (s.modMsix n f).copies = s.copies := rfl
@[simp] theorem State.modMsix_slotLog (n : Nat) (f : MsixSt → MsixSt) : (s.modMsix n f).slotLog = s.slotLog := rfl
@[simp] theorem State.modMsix_syn (n : Nat) (f : MsixSt → MsixSt) : (s.modMsix n f).syn = s.syn := rfl
@[simp] theorem State.modMsix_cmap (n : Nat) (f : MsixSt → MsixSt) : (s.modMsix n f).cmap = s.cmap := rfl
@[simp] theorem State.modMsix_ports (n : Nat) (f : MsixSt → MsixSt) : (s.modMsix n f).ports = s.ports := rfl
@[simp] theorem State.modMsix_mesh (n : Nat) (f : MsixSt → MsixSt) : (s.modMsix n f).mesh = s.mesh := rfl
@[simp] theorem State.modMsix_acqs (n : Nat) (f : MsixSt → MsixSt) : (s.modMsix n f).acqs = s.acqs := rfl
@[simp] theorem State.modMsix_fluxes (n : Nat) (f : MsixSt → MsixSt) : (s.modMsix n f).fluxes = s.fluxes := rfl
@[simp] theorem State.modMsix_nt (n : Nat) (f : MsixSt → MsixSt) : (s.modMsix n f).nt = s.nt := rfl
@[simp] theorem State.modMsix_eths (n : Nat) (f : MsixSt → MsixSt) : (s.modMsix n f).eths = s.eths := rfl
@[simp] theorem State.modMsix_power (n : Nat) (f : MsixSt → MsixSt) : (s.modMsix n f).power = s.power := rfl
@[simp] theorem State.modMsix_therm (n : Nat) (f : MsixSt → MsixSt) : (s.modMsix n f).therm = s.therm := rfl
@[simp] theorem State.modMsix_sensors (n : Nat) (f : MsixSt → MsixSt) : (s.modMsix n f).sensors = s.sensors := rfl
@[simp] theorem State.modMsix_sfes (n : Nat) (f : MsixSt → MsixSt) : (s.modMsix n f).sfes = s.sfes := rfl
@[simp] theorem State.modMsix_cal (n : Nat) (f : MsixSt → MsixSt) : (s.modMsix n f).cal = s.cal := rfl
@[simp] theorem State.modMsix_dbgs (n : Nat) (f : MsixSt → MsixSt) : (s.modMsix n f).dbgs = s.dbgs := rfl
@[simp] theorem State.modMsix_edges (n : Nat) (f : MsixSt → MsixSt) : (s.modMsix n f).edges = s.edges := rfl
@[simp] theorem State.modMsix_errNow (n : Nat) (f : MsixSt → MsixSt) : (s.modMsix n f).errNow = s.errNow := rfl
@[simp] theorem State.modMsix_respVal (n : Nat) (f : MsixSt → MsixSt) : (s.modMsix n f).respVal = s.respVal := rfl
@[simp] theorem State.modMsix_free (n : Nat) (f : MsixSt → MsixSt) : (s.modMsix n f).free = s.free := rfl
@[simp] theorem State.modMsix_pending (n : Nat) (f : MsixSt → MsixSt) : (s.modMsix n f).pending = s.pending := rfl

@[simp] theorem State.msixEntry_modMsix (n : Nat) (f : MsixSt → MsixSt) : (s.modMsix n f).msixEntry n = f (s.msixEntry n) :=
  SMap.get_modify_same ..
theorem State.msixEntry_modMsix_ne {n m : Nat} (f : MsixSt → MsixSt) (h : m ≠ n) : (s.modMsix n f).msixEntry m = s.msixEntry m :=
  SMap.get_modify_ne _ _ h

/-! ### modDch -/

@[simp] theorem State.modDch_count (n : Nat) (f : DchSt → DchSt) : (s.modDch n f).count = s.count := rfl
@[simp] theorem State.modDch_refLost (n : Nat) (f : DchSt → DchSt) : (s.modDch n f).refLost = s.refLost := rfl
@[simp] theorem State.modDch_frameAt (n : Nat) (f : DchSt → DchSt) : (s.modDch n f).frameAt = s.frameAt := rfl
@[simp] theorem State.modDch_epochAt (n : Nat) (f : DchSt → DchSt) : (s.modDch n f).epochAt = s.epochAt := rfl
@[simp] theorem State.modDch_loadIn (n : Nat) (f : DchSt → DchSt) : (s.modDch n f).loadIn = s.loadIn := rfl
@[simp] theorem State.modDch_latch (n : Nat) (f : DchSt → DchSt) : (s.modDch n f).latch = s.latch := rfl
@[simp] theorem State.modDch_ticks (n : Nat) (f : DchSt → DchSt) : (s.modDch n f).ticks = s.ticks := rfl
@[simp] theorem State.modDch_regs (n : Nat) (f : DchSt → DchSt) : (s.modDch n f).regs = s.regs := rfl
@[simp] theorem State.modDch_limits (n : Nat) (f : DchSt → DchSt) : (s.modDch n f).limits = s.limits := rfl
@[simp] theorem State.modDch_tiles (n : Nat) (f : DchSt → DchSt) : (s.modDch n f).tiles = s.tiles := rfl
@[simp] theorem State.modDch_seqs (n : Nat) (f : DchSt → DchSt) : (s.modDch n f).seqs = s.seqs := rfl
@[simp] theorem State.modDch_loader (n : Nat) (f : DchSt → DchSt) : (s.modDch n f).loader = s.loader := rfl
@[simp] theorem State.modDch_cs (n : Nat) (f : DchSt → DchSt) : (s.modDch n f).cs = s.cs := rfl
@[simp] theorem State.modDch_csImage (n : Nat) (f : DchSt → DchSt) : (s.modDch n f).csImage = s.csImage := rfl
@[simp] theorem State.modDch_bar2 (n : Nat) (f : DchSt → DchSt) : (s.modDch n f).bar2 = s.bar2 := rfl
@[simp] theorem State.modDch_used (n : Nat) (f : DchSt → DchSt) : (s.modDch n f).used = s.used := rfl
@[simp] theorem State.modDch_rings (n : Nat) (f : DchSt → DchSt) : (s.modDch n f).rings = s.rings := rfl
@[simp] theorem State.modDch_fns (n : Nat) (f : DchSt → DchSt) : (s.modDch n f).fns = s.fns := rfl
@[simp] theorem State.modDch_msix (n : Nat) (f : DchSt → DchSt) : (s.modDch n f).msix = s.msix := rfl
@[simp] theorem State.modDch_ctxCache (n : Nat) (f : DchSt → DchSt) : (s.modDch n f).ctxCache = s.ctxCache := rfl
@[simp] theorem State.modDch_host (n : Nat) (f : DchSt → DchSt) : (s.modDch n f).host = s.host := rfl
@[simp] theorem State.modDch_dram (n : Nat) (f : DchSt → DchSt) : (s.modDch n f).dram = s.dram := rfl
@[simp] theorem State.modDch_doorbells (n : Nat) (f : DchSt → DchSt) : (s.modDch n f).doorbells = s.doorbells := rfl
@[simp] theorem State.modDch_dwait (n : Nat) (f : DchSt → DchSt) : (s.modDch n f).dwait = s.dwait := rfl
@[simp] theorem State.modDch_dramNvm (n : Nat) (f : DchSt → DchSt) : (s.modDch n f).dramNvm = s.dramNvm := rfl
@[simp] theorem State.modDch_unfreezing (n : Nat) (f : DchSt → DchSt) : (s.modDch n f).unfreezing = s.unfreezing := rfl
@[simp] theorem State.modDch_evchs (n : Nat) (f : DchSt → DchSt) : (s.modDch n f).evchs = s.evchs := rfl
@[simp] theorem State.modDch_evgs (n : Nat) (f : DchSt → DchSt) : (s.modDch n f).evgs = s.evgs := rfl
@[simp] theorem State.modDch_window (n : Nat) (f : DchSt → DchSt) : (s.modDch n f).window = s.window := rfl
@[simp] theorem State.modDch_routes (n : Nat) (f : DchSt → DchSt) : (s.modDch n f).routes = s.routes := rfl
@[simp] theorem State.modDch_tones (n : Nat) (f : DchSt → DchSt) : (s.modDch n f).tones = s.tones := rfl
@[simp] theorem State.modDch_outs (n : Nat) (f : DchSt → DchSt) : (s.modDch n f).outs = s.outs := rfl
@[simp] theorem State.modDch_adcs (n : Nat) (f : DchSt → DchSt) : (s.modDch n f).adcs = s.adcs := rfl
@[simp] theorem State.modDch_routs (n : Nat) (f : DchSt → DchSt) : (s.modDch n f).routs = s.routs := rfl
@[simp] theorem State.modDch_fir (n : Nat) (f : DchSt → DchSt) : (s.modDch n f).fir = s.fir := rfl
@[simp] theorem State.modDch_kernel (n : Nat) (f : DchSt → DchSt) : (s.modDch n f).kernel = s.kernel := rfl
@[simp] theorem State.modDch_lanes (n : Nat) (f : DchSt → DchSt) : (s.modDch n f).lanes = s.lanes := rfl
@[simp] theorem State.modDch_slots (n : Nat) (f : DchSt → DchSt) : (s.modDch n f).slots = s.slots := rfl
@[simp] theorem State.modDch_copies (n : Nat) (f : DchSt → DchSt) : (s.modDch n f).copies = s.copies := rfl
@[simp] theorem State.modDch_slotLog (n : Nat) (f : DchSt → DchSt) : (s.modDch n f).slotLog = s.slotLog := rfl
@[simp] theorem State.modDch_syn (n : Nat) (f : DchSt → DchSt) : (s.modDch n f).syn = s.syn := rfl
@[simp] theorem State.modDch_cmap (n : Nat) (f : DchSt → DchSt) : (s.modDch n f).cmap = s.cmap := rfl
@[simp] theorem State.modDch_ports (n : Nat) (f : DchSt → DchSt) : (s.modDch n f).ports = s.ports := rfl
@[simp] theorem State.modDch_mesh (n : Nat) (f : DchSt → DchSt) : (s.modDch n f).mesh = s.mesh := rfl
@[simp] theorem State.modDch_acqs (n : Nat) (f : DchSt → DchSt) : (s.modDch n f).acqs = s.acqs := rfl
@[simp] theorem State.modDch_fluxes (n : Nat) (f : DchSt → DchSt) : (s.modDch n f).fluxes = s.fluxes := rfl
@[simp] theorem State.modDch_nt (n : Nat) (f : DchSt → DchSt) : (s.modDch n f).nt = s.nt := rfl
@[simp] theorem State.modDch_eths (n : Nat) (f : DchSt → DchSt) : (s.modDch n f).eths = s.eths := rfl
@[simp] theorem State.modDch_power (n : Nat) (f : DchSt → DchSt) : (s.modDch n f).power = s.power := rfl
@[simp] theorem State.modDch_therm (n : Nat) (f : DchSt → DchSt) : (s.modDch n f).therm = s.therm := rfl
@[simp] theorem State.modDch_sensors (n : Nat) (f : DchSt → DchSt) : (s.modDch n f).sensors = s.sensors := rfl
@[simp] theorem State.modDch_sfes (n : Nat) (f : DchSt → DchSt) : (s.modDch n f).sfes = s.sfes := rfl
@[simp] theorem State.modDch_cal (n : Nat) (f : DchSt → DchSt) : (s.modDch n f).cal = s.cal := rfl
@[simp] theorem State.modDch_dbgs (n : Nat) (f : DchSt → DchSt) : (s.modDch n f).dbgs = s.dbgs := rfl
@[simp] theorem State.modDch_edges (n : Nat) (f : DchSt → DchSt) : (s.modDch n f).edges = s.edges := rfl
@[simp] theorem State.modDch_errNow (n : Nat) (f : DchSt → DchSt) : (s.modDch n f).errNow = s.errNow := rfl
@[simp] theorem State.modDch_respVal (n : Nat) (f : DchSt → DchSt) : (s.modDch n f).respVal = s.respVal := rfl
@[simp] theorem State.modDch_free (n : Nat) (f : DchSt → DchSt) : (s.modDch n f).free = s.free := rfl
@[simp] theorem State.modDch_pending (n : Nat) (f : DchSt → DchSt) : (s.modDch n f).pending = s.pending := rfl

@[simp] theorem State.dch_modDch (n : Nat) (f : DchSt → DchSt) : (s.modDch n f).dch n = f (s.dch n) :=
  SMap.get_modify_same ..
theorem State.dch_modDch_ne {n m : Nat} (f : DchSt → DchSt) (h : m ≠ n) : (s.modDch n f).dch m = s.dch m :=
  SMap.get_modify_ne _ _ h

/-! ### modEvch -/

@[simp] theorem State.modEvch_count (n : Nat) (f : EvSt → EvSt) : (s.modEvch n f).count = s.count := rfl
@[simp] theorem State.modEvch_refLost (n : Nat) (f : EvSt → EvSt) : (s.modEvch n f).refLost = s.refLost := rfl
@[simp] theorem State.modEvch_frameAt (n : Nat) (f : EvSt → EvSt) : (s.modEvch n f).frameAt = s.frameAt := rfl
@[simp] theorem State.modEvch_epochAt (n : Nat) (f : EvSt → EvSt) : (s.modEvch n f).epochAt = s.epochAt := rfl
@[simp] theorem State.modEvch_loadIn (n : Nat) (f : EvSt → EvSt) : (s.modEvch n f).loadIn = s.loadIn := rfl
@[simp] theorem State.modEvch_latch (n : Nat) (f : EvSt → EvSt) : (s.modEvch n f).latch = s.latch := rfl
@[simp] theorem State.modEvch_ticks (n : Nat) (f : EvSt → EvSt) : (s.modEvch n f).ticks = s.ticks := rfl
@[simp] theorem State.modEvch_regs (n : Nat) (f : EvSt → EvSt) : (s.modEvch n f).regs = s.regs := rfl
@[simp] theorem State.modEvch_limits (n : Nat) (f : EvSt → EvSt) : (s.modEvch n f).limits = s.limits := rfl
@[simp] theorem State.modEvch_tiles (n : Nat) (f : EvSt → EvSt) : (s.modEvch n f).tiles = s.tiles := rfl
@[simp] theorem State.modEvch_seqs (n : Nat) (f : EvSt → EvSt) : (s.modEvch n f).seqs = s.seqs := rfl
@[simp] theorem State.modEvch_loader (n : Nat) (f : EvSt → EvSt) : (s.modEvch n f).loader = s.loader := rfl
@[simp] theorem State.modEvch_cs (n : Nat) (f : EvSt → EvSt) : (s.modEvch n f).cs = s.cs := rfl
@[simp] theorem State.modEvch_csImage (n : Nat) (f : EvSt → EvSt) : (s.modEvch n f).csImage = s.csImage := rfl
@[simp] theorem State.modEvch_bar2 (n : Nat) (f : EvSt → EvSt) : (s.modEvch n f).bar2 = s.bar2 := rfl
@[simp] theorem State.modEvch_used (n : Nat) (f : EvSt → EvSt) : (s.modEvch n f).used = s.used := rfl
@[simp] theorem State.modEvch_rings (n : Nat) (f : EvSt → EvSt) : (s.modEvch n f).rings = s.rings := rfl
@[simp] theorem State.modEvch_fns (n : Nat) (f : EvSt → EvSt) : (s.modEvch n f).fns = s.fns := rfl
@[simp] theorem State.modEvch_msix (n : Nat) (f : EvSt → EvSt) : (s.modEvch n f).msix = s.msix := rfl
@[simp] theorem State.modEvch_ctxCache (n : Nat) (f : EvSt → EvSt) : (s.modEvch n f).ctxCache = s.ctxCache := rfl
@[simp] theorem State.modEvch_host (n : Nat) (f : EvSt → EvSt) : (s.modEvch n f).host = s.host := rfl
@[simp] theorem State.modEvch_dram (n : Nat) (f : EvSt → EvSt) : (s.modEvch n f).dram = s.dram := rfl
@[simp] theorem State.modEvch_dchs (n : Nat) (f : EvSt → EvSt) : (s.modEvch n f).dchs = s.dchs := rfl
@[simp] theorem State.modEvch_doorbells (n : Nat) (f : EvSt → EvSt) : (s.modEvch n f).doorbells = s.doorbells := rfl
@[simp] theorem State.modEvch_dwait (n : Nat) (f : EvSt → EvSt) : (s.modEvch n f).dwait = s.dwait := rfl
@[simp] theorem State.modEvch_dramNvm (n : Nat) (f : EvSt → EvSt) : (s.modEvch n f).dramNvm = s.dramNvm := rfl
@[simp] theorem State.modEvch_unfreezing (n : Nat) (f : EvSt → EvSt) : (s.modEvch n f).unfreezing = s.unfreezing := rfl
@[simp] theorem State.modEvch_evgs (n : Nat) (f : EvSt → EvSt) : (s.modEvch n f).evgs = s.evgs := rfl
@[simp] theorem State.modEvch_window (n : Nat) (f : EvSt → EvSt) : (s.modEvch n f).window = s.window := rfl
@[simp] theorem State.modEvch_routes (n : Nat) (f : EvSt → EvSt) : (s.modEvch n f).routes = s.routes := rfl
@[simp] theorem State.modEvch_tones (n : Nat) (f : EvSt → EvSt) : (s.modEvch n f).tones = s.tones := rfl
@[simp] theorem State.modEvch_outs (n : Nat) (f : EvSt → EvSt) : (s.modEvch n f).outs = s.outs := rfl
@[simp] theorem State.modEvch_adcs (n : Nat) (f : EvSt → EvSt) : (s.modEvch n f).adcs = s.adcs := rfl
@[simp] theorem State.modEvch_routs (n : Nat) (f : EvSt → EvSt) : (s.modEvch n f).routs = s.routs := rfl
@[simp] theorem State.modEvch_fir (n : Nat) (f : EvSt → EvSt) : (s.modEvch n f).fir = s.fir := rfl
@[simp] theorem State.modEvch_kernel (n : Nat) (f : EvSt → EvSt) : (s.modEvch n f).kernel = s.kernel := rfl
@[simp] theorem State.modEvch_lanes (n : Nat) (f : EvSt → EvSt) : (s.modEvch n f).lanes = s.lanes := rfl
@[simp] theorem State.modEvch_slots (n : Nat) (f : EvSt → EvSt) : (s.modEvch n f).slots = s.slots := rfl
@[simp] theorem State.modEvch_copies (n : Nat) (f : EvSt → EvSt) : (s.modEvch n f).copies = s.copies := rfl
@[simp] theorem State.modEvch_slotLog (n : Nat) (f : EvSt → EvSt) : (s.modEvch n f).slotLog = s.slotLog := rfl
@[simp] theorem State.modEvch_syn (n : Nat) (f : EvSt → EvSt) : (s.modEvch n f).syn = s.syn := rfl
@[simp] theorem State.modEvch_cmap (n : Nat) (f : EvSt → EvSt) : (s.modEvch n f).cmap = s.cmap := rfl
@[simp] theorem State.modEvch_ports (n : Nat) (f : EvSt → EvSt) : (s.modEvch n f).ports = s.ports := rfl
@[simp] theorem State.modEvch_mesh (n : Nat) (f : EvSt → EvSt) : (s.modEvch n f).mesh = s.mesh := rfl
@[simp] theorem State.modEvch_acqs (n : Nat) (f : EvSt → EvSt) : (s.modEvch n f).acqs = s.acqs := rfl
@[simp] theorem State.modEvch_fluxes (n : Nat) (f : EvSt → EvSt) : (s.modEvch n f).fluxes = s.fluxes := rfl
@[simp] theorem State.modEvch_nt (n : Nat) (f : EvSt → EvSt) : (s.modEvch n f).nt = s.nt := rfl
@[simp] theorem State.modEvch_eths (n : Nat) (f : EvSt → EvSt) : (s.modEvch n f).eths = s.eths := rfl
@[simp] theorem State.modEvch_power (n : Nat) (f : EvSt → EvSt) : (s.modEvch n f).power = s.power := rfl
@[simp] theorem State.modEvch_therm (n : Nat) (f : EvSt → EvSt) : (s.modEvch n f).therm = s.therm := rfl
@[simp] theorem State.modEvch_sensors (n : Nat) (f : EvSt → EvSt) : (s.modEvch n f).sensors = s.sensors := rfl
@[simp] theorem State.modEvch_sfes (n : Nat) (f : EvSt → EvSt) : (s.modEvch n f).sfes = s.sfes := rfl
@[simp] theorem State.modEvch_cal (n : Nat) (f : EvSt → EvSt) : (s.modEvch n f).cal = s.cal := rfl
@[simp] theorem State.modEvch_dbgs (n : Nat) (f : EvSt → EvSt) : (s.modEvch n f).dbgs = s.dbgs := rfl
@[simp] theorem State.modEvch_edges (n : Nat) (f : EvSt → EvSt) : (s.modEvch n f).edges = s.edges := rfl
@[simp] theorem State.modEvch_errNow (n : Nat) (f : EvSt → EvSt) : (s.modEvch n f).errNow = s.errNow := rfl
@[simp] theorem State.modEvch_respVal (n : Nat) (f : EvSt → EvSt) : (s.modEvch n f).respVal = s.respVal := rfl
@[simp] theorem State.modEvch_free (n : Nat) (f : EvSt → EvSt) : (s.modEvch n f).free = s.free := rfl
@[simp] theorem State.modEvch_pending (n : Nat) (f : EvSt → EvSt) : (s.modEvch n f).pending = s.pending := rfl

@[simp] theorem State.evch_modEvch (n : Nat) (f : EvSt → EvSt) : (s.modEvch n f).evch n = f (s.evch n) :=
  SMap.get_modify_same ..
theorem State.evch_modEvch_ne {n m : Nat} (f : EvSt → EvSt) (h : m ≠ n) : (s.modEvch n f).evch m = s.evch m :=
  SMap.get_modify_ne _ _ h

/-! ### modEvg -/

@[simp] theorem State.modEvg_count (n : Nat) (f : EvgSt → EvgSt) : (s.modEvg n f).count = s.count := rfl
@[simp] theorem State.modEvg_refLost (n : Nat) (f : EvgSt → EvgSt) : (s.modEvg n f).refLost = s.refLost := rfl
@[simp] theorem State.modEvg_frameAt (n : Nat) (f : EvgSt → EvgSt) : (s.modEvg n f).frameAt = s.frameAt := rfl
@[simp] theorem State.modEvg_epochAt (n : Nat) (f : EvgSt → EvgSt) : (s.modEvg n f).epochAt = s.epochAt := rfl
@[simp] theorem State.modEvg_loadIn (n : Nat) (f : EvgSt → EvgSt) : (s.modEvg n f).loadIn = s.loadIn := rfl
@[simp] theorem State.modEvg_latch (n : Nat) (f : EvgSt → EvgSt) : (s.modEvg n f).latch = s.latch := rfl
@[simp] theorem State.modEvg_ticks (n : Nat) (f : EvgSt → EvgSt) : (s.modEvg n f).ticks = s.ticks := rfl
@[simp] theorem State.modEvg_regs (n : Nat) (f : EvgSt → EvgSt) : (s.modEvg n f).regs = s.regs := rfl
@[simp] theorem State.modEvg_limits (n : Nat) (f : EvgSt → EvgSt) : (s.modEvg n f).limits = s.limits := rfl
@[simp] theorem State.modEvg_tiles (n : Nat) (f : EvgSt → EvgSt) : (s.modEvg n f).tiles = s.tiles := rfl
@[simp] theorem State.modEvg_seqs (n : Nat) (f : EvgSt → EvgSt) : (s.modEvg n f).seqs = s.seqs := rfl
@[simp] theorem State.modEvg_loader (n : Nat) (f : EvgSt → EvgSt) : (s.modEvg n f).loader = s.loader := rfl
@[simp] theorem State.modEvg_cs (n : Nat) (f : EvgSt → EvgSt) : (s.modEvg n f).cs = s.cs := rfl
@[simp] theorem State.modEvg_csImage (n : Nat) (f : EvgSt → EvgSt) : (s.modEvg n f).csImage = s.csImage := rfl
@[simp] theorem State.modEvg_bar2 (n : Nat) (f : EvgSt → EvgSt) : (s.modEvg n f).bar2 = s.bar2 := rfl
@[simp] theorem State.modEvg_used (n : Nat) (f : EvgSt → EvgSt) : (s.modEvg n f).used = s.used := rfl
@[simp] theorem State.modEvg_rings (n : Nat) (f : EvgSt → EvgSt) : (s.modEvg n f).rings = s.rings := rfl
@[simp] theorem State.modEvg_fns (n : Nat) (f : EvgSt → EvgSt) : (s.modEvg n f).fns = s.fns := rfl
@[simp] theorem State.modEvg_msix (n : Nat) (f : EvgSt → EvgSt) : (s.modEvg n f).msix = s.msix := rfl
@[simp] theorem State.modEvg_ctxCache (n : Nat) (f : EvgSt → EvgSt) : (s.modEvg n f).ctxCache = s.ctxCache := rfl
@[simp] theorem State.modEvg_host (n : Nat) (f : EvgSt → EvgSt) : (s.modEvg n f).host = s.host := rfl
@[simp] theorem State.modEvg_dram (n : Nat) (f : EvgSt → EvgSt) : (s.modEvg n f).dram = s.dram := rfl
@[simp] theorem State.modEvg_dchs (n : Nat) (f : EvgSt → EvgSt) : (s.modEvg n f).dchs = s.dchs := rfl
@[simp] theorem State.modEvg_doorbells (n : Nat) (f : EvgSt → EvgSt) : (s.modEvg n f).doorbells = s.doorbells := rfl
@[simp] theorem State.modEvg_dwait (n : Nat) (f : EvgSt → EvgSt) : (s.modEvg n f).dwait = s.dwait := rfl
@[simp] theorem State.modEvg_dramNvm (n : Nat) (f : EvgSt → EvgSt) : (s.modEvg n f).dramNvm = s.dramNvm := rfl
@[simp] theorem State.modEvg_unfreezing (n : Nat) (f : EvgSt → EvgSt) : (s.modEvg n f).unfreezing = s.unfreezing := rfl
@[simp] theorem State.modEvg_evchs (n : Nat) (f : EvgSt → EvgSt) : (s.modEvg n f).evchs = s.evchs := rfl
@[simp] theorem State.modEvg_window (n : Nat) (f : EvgSt → EvgSt) : (s.modEvg n f).window = s.window := rfl
@[simp] theorem State.modEvg_routes (n : Nat) (f : EvgSt → EvgSt) : (s.modEvg n f).routes = s.routes := rfl
@[simp] theorem State.modEvg_tones (n : Nat) (f : EvgSt → EvgSt) : (s.modEvg n f).tones = s.tones := rfl
@[simp] theorem State.modEvg_outs (n : Nat) (f : EvgSt → EvgSt) : (s.modEvg n f).outs = s.outs := rfl
@[simp] theorem State.modEvg_adcs (n : Nat) (f : EvgSt → EvgSt) : (s.modEvg n f).adcs = s.adcs := rfl
@[simp] theorem State.modEvg_routs (n : Nat) (f : EvgSt → EvgSt) : (s.modEvg n f).routs = s.routs := rfl
@[simp] theorem State.modEvg_fir (n : Nat) (f : EvgSt → EvgSt) : (s.modEvg n f).fir = s.fir := rfl
@[simp] theorem State.modEvg_kernel (n : Nat) (f : EvgSt → EvgSt) : (s.modEvg n f).kernel = s.kernel := rfl
@[simp] theorem State.modEvg_lanes (n : Nat) (f : EvgSt → EvgSt) : (s.modEvg n f).lanes = s.lanes := rfl
@[simp] theorem State.modEvg_slots (n : Nat) (f : EvgSt → EvgSt) : (s.modEvg n f).slots = s.slots := rfl
@[simp] theorem State.modEvg_copies (n : Nat) (f : EvgSt → EvgSt) : (s.modEvg n f).copies = s.copies := rfl
@[simp] theorem State.modEvg_slotLog (n : Nat) (f : EvgSt → EvgSt) : (s.modEvg n f).slotLog = s.slotLog := rfl
@[simp] theorem State.modEvg_syn (n : Nat) (f : EvgSt → EvgSt) : (s.modEvg n f).syn = s.syn := rfl
@[simp] theorem State.modEvg_cmap (n : Nat) (f : EvgSt → EvgSt) : (s.modEvg n f).cmap = s.cmap := rfl
@[simp] theorem State.modEvg_ports (n : Nat) (f : EvgSt → EvgSt) : (s.modEvg n f).ports = s.ports := rfl
@[simp] theorem State.modEvg_mesh (n : Nat) (f : EvgSt → EvgSt) : (s.modEvg n f).mesh = s.mesh := rfl
@[simp] theorem State.modEvg_acqs (n : Nat) (f : EvgSt → EvgSt) : (s.modEvg n f).acqs = s.acqs := rfl
@[simp] theorem State.modEvg_fluxes (n : Nat) (f : EvgSt → EvgSt) : (s.modEvg n f).fluxes = s.fluxes := rfl
@[simp] theorem State.modEvg_nt (n : Nat) (f : EvgSt → EvgSt) : (s.modEvg n f).nt = s.nt := rfl
@[simp] theorem State.modEvg_eths (n : Nat) (f : EvgSt → EvgSt) : (s.modEvg n f).eths = s.eths := rfl
@[simp] theorem State.modEvg_power (n : Nat) (f : EvgSt → EvgSt) : (s.modEvg n f).power = s.power := rfl
@[simp] theorem State.modEvg_therm (n : Nat) (f : EvgSt → EvgSt) : (s.modEvg n f).therm = s.therm := rfl
@[simp] theorem State.modEvg_sensors (n : Nat) (f : EvgSt → EvgSt) : (s.modEvg n f).sensors = s.sensors := rfl
@[simp] theorem State.modEvg_sfes (n : Nat) (f : EvgSt → EvgSt) : (s.modEvg n f).sfes = s.sfes := rfl
@[simp] theorem State.modEvg_cal (n : Nat) (f : EvgSt → EvgSt) : (s.modEvg n f).cal = s.cal := rfl
@[simp] theorem State.modEvg_dbgs (n : Nat) (f : EvgSt → EvgSt) : (s.modEvg n f).dbgs = s.dbgs := rfl
@[simp] theorem State.modEvg_edges (n : Nat) (f : EvgSt → EvgSt) : (s.modEvg n f).edges = s.edges := rfl
@[simp] theorem State.modEvg_errNow (n : Nat) (f : EvgSt → EvgSt) : (s.modEvg n f).errNow = s.errNow := rfl
@[simp] theorem State.modEvg_respVal (n : Nat) (f : EvgSt → EvgSt) : (s.modEvg n f).respVal = s.respVal := rfl
@[simp] theorem State.modEvg_free (n : Nat) (f : EvgSt → EvgSt) : (s.modEvg n f).free = s.free := rfl
@[simp] theorem State.modEvg_pending (n : Nat) (f : EvgSt → EvgSt) : (s.modEvg n f).pending = s.pending := rfl

@[simp] theorem State.evg_modEvg (n : Nat) (f : EvgSt → EvgSt) : (s.modEvg n f).evg n = f (s.evg n) :=
  SMap.get_modify_same ..
theorem State.evg_modEvg_ne {n m : Nat} (f : EvgSt → EvgSt) (h : m ≠ n) : (s.modEvg n f).evg m = s.evg m :=
  SMap.get_modify_ne _ _ h

/-! ### modTone -/

@[simp] theorem State.modTone_count (n : Nat) (f : ToneSt → ToneSt) : (s.modTone n f).count = s.count := rfl
@[simp] theorem State.modTone_refLost (n : Nat) (f : ToneSt → ToneSt) : (s.modTone n f).refLost = s.refLost := rfl
@[simp] theorem State.modTone_frameAt (n : Nat) (f : ToneSt → ToneSt) : (s.modTone n f).frameAt = s.frameAt := rfl
@[simp] theorem State.modTone_epochAt (n : Nat) (f : ToneSt → ToneSt) : (s.modTone n f).epochAt = s.epochAt := rfl
@[simp] theorem State.modTone_loadIn (n : Nat) (f : ToneSt → ToneSt) : (s.modTone n f).loadIn = s.loadIn := rfl
@[simp] theorem State.modTone_latch (n : Nat) (f : ToneSt → ToneSt) : (s.modTone n f).latch = s.latch := rfl
@[simp] theorem State.modTone_ticks (n : Nat) (f : ToneSt → ToneSt) : (s.modTone n f).ticks = s.ticks := rfl
@[simp] theorem State.modTone_regs (n : Nat) (f : ToneSt → ToneSt) : (s.modTone n f).regs = s.regs := rfl
@[simp] theorem State.modTone_limits (n : Nat) (f : ToneSt → ToneSt) : (s.modTone n f).limits = s.limits := rfl
@[simp] theorem State.modTone_tiles (n : Nat) (f : ToneSt → ToneSt) : (s.modTone n f).tiles = s.tiles := rfl
@[simp] theorem State.modTone_seqs (n : Nat) (f : ToneSt → ToneSt) : (s.modTone n f).seqs = s.seqs := rfl
@[simp] theorem State.modTone_loader (n : Nat) (f : ToneSt → ToneSt) : (s.modTone n f).loader = s.loader := rfl
@[simp] theorem State.modTone_cs (n : Nat) (f : ToneSt → ToneSt) : (s.modTone n f).cs = s.cs := rfl
@[simp] theorem State.modTone_csImage (n : Nat) (f : ToneSt → ToneSt) : (s.modTone n f).csImage = s.csImage := rfl
@[simp] theorem State.modTone_bar2 (n : Nat) (f : ToneSt → ToneSt) : (s.modTone n f).bar2 = s.bar2 := rfl
@[simp] theorem State.modTone_used (n : Nat) (f : ToneSt → ToneSt) : (s.modTone n f).used = s.used := rfl
@[simp] theorem State.modTone_rings (n : Nat) (f : ToneSt → ToneSt) : (s.modTone n f).rings = s.rings := rfl
@[simp] theorem State.modTone_fns (n : Nat) (f : ToneSt → ToneSt) : (s.modTone n f).fns = s.fns := rfl
@[simp] theorem State.modTone_msix (n : Nat) (f : ToneSt → ToneSt) : (s.modTone n f).msix = s.msix := rfl
@[simp] theorem State.modTone_ctxCache (n : Nat) (f : ToneSt → ToneSt) : (s.modTone n f).ctxCache = s.ctxCache := rfl
@[simp] theorem State.modTone_host (n : Nat) (f : ToneSt → ToneSt) : (s.modTone n f).host = s.host := rfl
@[simp] theorem State.modTone_dram (n : Nat) (f : ToneSt → ToneSt) : (s.modTone n f).dram = s.dram := rfl
@[simp] theorem State.modTone_dchs (n : Nat) (f : ToneSt → ToneSt) : (s.modTone n f).dchs = s.dchs := rfl
@[simp] theorem State.modTone_doorbells (n : Nat) (f : ToneSt → ToneSt) : (s.modTone n f).doorbells = s.doorbells := rfl
@[simp] theorem State.modTone_dwait (n : Nat) (f : ToneSt → ToneSt) : (s.modTone n f).dwait = s.dwait := rfl
@[simp] theorem State.modTone_dramNvm (n : Nat) (f : ToneSt → ToneSt) : (s.modTone n f).dramNvm = s.dramNvm := rfl
@[simp] theorem State.modTone_unfreezing (n : Nat) (f : ToneSt → ToneSt) : (s.modTone n f).unfreezing = s.unfreezing := rfl
@[simp] theorem State.modTone_evchs (n : Nat) (f : ToneSt → ToneSt) : (s.modTone n f).evchs = s.evchs := rfl
@[simp] theorem State.modTone_evgs (n : Nat) (f : ToneSt → ToneSt) : (s.modTone n f).evgs = s.evgs := rfl
@[simp] theorem State.modTone_window (n : Nat) (f : ToneSt → ToneSt) : (s.modTone n f).window = s.window := rfl
@[simp] theorem State.modTone_routes (n : Nat) (f : ToneSt → ToneSt) : (s.modTone n f).routes = s.routes := rfl
@[simp] theorem State.modTone_outs (n : Nat) (f : ToneSt → ToneSt) : (s.modTone n f).outs = s.outs := rfl
@[simp] theorem State.modTone_adcs (n : Nat) (f : ToneSt → ToneSt) : (s.modTone n f).adcs = s.adcs := rfl
@[simp] theorem State.modTone_routs (n : Nat) (f : ToneSt → ToneSt) : (s.modTone n f).routs = s.routs := rfl
@[simp] theorem State.modTone_fir (n : Nat) (f : ToneSt → ToneSt) : (s.modTone n f).fir = s.fir := rfl
@[simp] theorem State.modTone_kernel (n : Nat) (f : ToneSt → ToneSt) : (s.modTone n f).kernel = s.kernel := rfl
@[simp] theorem State.modTone_lanes (n : Nat) (f : ToneSt → ToneSt) : (s.modTone n f).lanes = s.lanes := rfl
@[simp] theorem State.modTone_slots (n : Nat) (f : ToneSt → ToneSt) : (s.modTone n f).slots = s.slots := rfl
@[simp] theorem State.modTone_copies (n : Nat) (f : ToneSt → ToneSt) : (s.modTone n f).copies = s.copies := rfl
@[simp] theorem State.modTone_slotLog (n : Nat) (f : ToneSt → ToneSt) : (s.modTone n f).slotLog = s.slotLog := rfl
@[simp] theorem State.modTone_syn (n : Nat) (f : ToneSt → ToneSt) : (s.modTone n f).syn = s.syn := rfl
@[simp] theorem State.modTone_cmap (n : Nat) (f : ToneSt → ToneSt) : (s.modTone n f).cmap = s.cmap := rfl
@[simp] theorem State.modTone_ports (n : Nat) (f : ToneSt → ToneSt) : (s.modTone n f).ports = s.ports := rfl
@[simp] theorem State.modTone_mesh (n : Nat) (f : ToneSt → ToneSt) : (s.modTone n f).mesh = s.mesh := rfl
@[simp] theorem State.modTone_acqs (n : Nat) (f : ToneSt → ToneSt) : (s.modTone n f).acqs = s.acqs := rfl
@[simp] theorem State.modTone_fluxes (n : Nat) (f : ToneSt → ToneSt) : (s.modTone n f).fluxes = s.fluxes := rfl
@[simp] theorem State.modTone_nt (n : Nat) (f : ToneSt → ToneSt) : (s.modTone n f).nt = s.nt := rfl
@[simp] theorem State.modTone_eths (n : Nat) (f : ToneSt → ToneSt) : (s.modTone n f).eths = s.eths := rfl
@[simp] theorem State.modTone_power (n : Nat) (f : ToneSt → ToneSt) : (s.modTone n f).power = s.power := rfl
@[simp] theorem State.modTone_therm (n : Nat) (f : ToneSt → ToneSt) : (s.modTone n f).therm = s.therm := rfl
@[simp] theorem State.modTone_sensors (n : Nat) (f : ToneSt → ToneSt) : (s.modTone n f).sensors = s.sensors := rfl
@[simp] theorem State.modTone_sfes (n : Nat) (f : ToneSt → ToneSt) : (s.modTone n f).sfes = s.sfes := rfl
@[simp] theorem State.modTone_cal (n : Nat) (f : ToneSt → ToneSt) : (s.modTone n f).cal = s.cal := rfl
@[simp] theorem State.modTone_dbgs (n : Nat) (f : ToneSt → ToneSt) : (s.modTone n f).dbgs = s.dbgs := rfl
@[simp] theorem State.modTone_edges (n : Nat) (f : ToneSt → ToneSt) : (s.modTone n f).edges = s.edges := rfl
@[simp] theorem State.modTone_errNow (n : Nat) (f : ToneSt → ToneSt) : (s.modTone n f).errNow = s.errNow := rfl
@[simp] theorem State.modTone_respVal (n : Nat) (f : ToneSt → ToneSt) : (s.modTone n f).respVal = s.respVal := rfl
@[simp] theorem State.modTone_free (n : Nat) (f : ToneSt → ToneSt) : (s.modTone n f).free = s.free := rfl
@[simp] theorem State.modTone_pending (n : Nat) (f : ToneSt → ToneSt) : (s.modTone n f).pending = s.pending := rfl

@[simp] theorem State.tone_modTone (n : Nat) (f : ToneSt → ToneSt) : (s.modTone n f).tone n = f (s.tone n) :=
  SMap.get_modify_same ..
theorem State.tone_modTone_ne {n m : Nat} (f : ToneSt → ToneSt) (h : m ≠ n) : (s.modTone n f).tone m = s.tone m :=
  SMap.get_modify_ne _ _ h

/-! ### modOut -/

@[simp] theorem State.modOut_count (n : Nat) (f : OutSt → OutSt) : (s.modOut n f).count = s.count := rfl
@[simp] theorem State.modOut_refLost (n : Nat) (f : OutSt → OutSt) : (s.modOut n f).refLost = s.refLost := rfl
@[simp] theorem State.modOut_frameAt (n : Nat) (f : OutSt → OutSt) : (s.modOut n f).frameAt = s.frameAt := rfl
@[simp] theorem State.modOut_epochAt (n : Nat) (f : OutSt → OutSt) : (s.modOut n f).epochAt = s.epochAt := rfl
@[simp] theorem State.modOut_loadIn (n : Nat) (f : OutSt → OutSt) : (s.modOut n f).loadIn = s.loadIn := rfl
@[simp] theorem State.modOut_latch (n : Nat) (f : OutSt → OutSt) : (s.modOut n f).latch = s.latch := rfl
@[simp] theorem State.modOut_ticks (n : Nat) (f : OutSt → OutSt) : (s.modOut n f).ticks = s.ticks := rfl
@[simp] theorem State.modOut_regs (n : Nat) (f : OutSt → OutSt) : (s.modOut n f).regs = s.regs := rfl
@[simp] theorem State.modOut_limits (n : Nat) (f : OutSt → OutSt) : (s.modOut n f).limits = s.limits := rfl
@[simp] theorem State.modOut_tiles (n : Nat) (f : OutSt → OutSt) : (s.modOut n f).tiles = s.tiles := rfl
@[simp] theorem State.modOut_seqs (n : Nat) (f : OutSt → OutSt) : (s.modOut n f).seqs = s.seqs := rfl
@[simp] theorem State.modOut_loader (n : Nat) (f : OutSt → OutSt) : (s.modOut n f).loader = s.loader := rfl
@[simp] theorem State.modOut_cs (n : Nat) (f : OutSt → OutSt) : (s.modOut n f).cs = s.cs := rfl
@[simp] theorem State.modOut_csImage (n : Nat) (f : OutSt → OutSt) : (s.modOut n f).csImage = s.csImage := rfl
@[simp] theorem State.modOut_bar2 (n : Nat) (f : OutSt → OutSt) : (s.modOut n f).bar2 = s.bar2 := rfl
@[simp] theorem State.modOut_used (n : Nat) (f : OutSt → OutSt) : (s.modOut n f).used = s.used := rfl
@[simp] theorem State.modOut_rings (n : Nat) (f : OutSt → OutSt) : (s.modOut n f).rings = s.rings := rfl
@[simp] theorem State.modOut_fns (n : Nat) (f : OutSt → OutSt) : (s.modOut n f).fns = s.fns := rfl
@[simp] theorem State.modOut_msix (n : Nat) (f : OutSt → OutSt) : (s.modOut n f).msix = s.msix := rfl
@[simp] theorem State.modOut_ctxCache (n : Nat) (f : OutSt → OutSt) : (s.modOut n f).ctxCache = s.ctxCache := rfl
@[simp] theorem State.modOut_host (n : Nat) (f : OutSt → OutSt) : (s.modOut n f).host = s.host := rfl
@[simp] theorem State.modOut_dram (n : Nat) (f : OutSt → OutSt) : (s.modOut n f).dram = s.dram := rfl
@[simp] theorem State.modOut_dchs (n : Nat) (f : OutSt → OutSt) : (s.modOut n f).dchs = s.dchs := rfl
@[simp] theorem State.modOut_doorbells (n : Nat) (f : OutSt → OutSt) : (s.modOut n f).doorbells = s.doorbells := rfl
@[simp] theorem State.modOut_dwait (n : Nat) (f : OutSt → OutSt) : (s.modOut n f).dwait = s.dwait := rfl
@[simp] theorem State.modOut_dramNvm (n : Nat) (f : OutSt → OutSt) : (s.modOut n f).dramNvm = s.dramNvm := rfl
@[simp] theorem State.modOut_unfreezing (n : Nat) (f : OutSt → OutSt) : (s.modOut n f).unfreezing = s.unfreezing := rfl
@[simp] theorem State.modOut_evchs (n : Nat) (f : OutSt → OutSt) : (s.modOut n f).evchs = s.evchs := rfl
@[simp] theorem State.modOut_evgs (n : Nat) (f : OutSt → OutSt) : (s.modOut n f).evgs = s.evgs := rfl
@[simp] theorem State.modOut_window (n : Nat) (f : OutSt → OutSt) : (s.modOut n f).window = s.window := rfl
@[simp] theorem State.modOut_routes (n : Nat) (f : OutSt → OutSt) : (s.modOut n f).routes = s.routes := rfl
@[simp] theorem State.modOut_tones (n : Nat) (f : OutSt → OutSt) : (s.modOut n f).tones = s.tones := rfl
@[simp] theorem State.modOut_adcs (n : Nat) (f : OutSt → OutSt) : (s.modOut n f).adcs = s.adcs := rfl
@[simp] theorem State.modOut_routs (n : Nat) (f : OutSt → OutSt) : (s.modOut n f).routs = s.routs := rfl
@[simp] theorem State.modOut_fir (n : Nat) (f : OutSt → OutSt) : (s.modOut n f).fir = s.fir := rfl
@[simp] theorem State.modOut_kernel (n : Nat) (f : OutSt → OutSt) : (s.modOut n f).kernel = s.kernel := rfl
@[simp] theorem State.modOut_lanes (n : Nat) (f : OutSt → OutSt) : (s.modOut n f).lanes = s.lanes := rfl
@[simp] theorem State.modOut_slots (n : Nat) (f : OutSt → OutSt) : (s.modOut n f).slots = s.slots := rfl
@[simp] theorem State.modOut_copies (n : Nat) (f : OutSt → OutSt) : (s.modOut n f).copies = s.copies := rfl
@[simp] theorem State.modOut_slotLog (n : Nat) (f : OutSt → OutSt) : (s.modOut n f).slotLog = s.slotLog := rfl
@[simp] theorem State.modOut_syn (n : Nat) (f : OutSt → OutSt) : (s.modOut n f).syn = s.syn := rfl
@[simp] theorem State.modOut_cmap (n : Nat) (f : OutSt → OutSt) : (s.modOut n f).cmap = s.cmap := rfl
@[simp] theorem State.modOut_ports (n : Nat) (f : OutSt → OutSt) : (s.modOut n f).ports = s.ports := rfl
@[simp] theorem State.modOut_mesh (n : Nat) (f : OutSt → OutSt) : (s.modOut n f).mesh = s.mesh := rfl
@[simp] theorem State.modOut_acqs (n : Nat) (f : OutSt → OutSt) : (s.modOut n f).acqs = s.acqs := rfl
@[simp] theorem State.modOut_fluxes (n : Nat) (f : OutSt → OutSt) : (s.modOut n f).fluxes = s.fluxes := rfl
@[simp] theorem State.modOut_nt (n : Nat) (f : OutSt → OutSt) : (s.modOut n f).nt = s.nt := rfl
@[simp] theorem State.modOut_eths (n : Nat) (f : OutSt → OutSt) : (s.modOut n f).eths = s.eths := rfl
@[simp] theorem State.modOut_power (n : Nat) (f : OutSt → OutSt) : (s.modOut n f).power = s.power := rfl
@[simp] theorem State.modOut_therm (n : Nat) (f : OutSt → OutSt) : (s.modOut n f).therm = s.therm := rfl
@[simp] theorem State.modOut_sensors (n : Nat) (f : OutSt → OutSt) : (s.modOut n f).sensors = s.sensors := rfl
@[simp] theorem State.modOut_sfes (n : Nat) (f : OutSt → OutSt) : (s.modOut n f).sfes = s.sfes := rfl
@[simp] theorem State.modOut_cal (n : Nat) (f : OutSt → OutSt) : (s.modOut n f).cal = s.cal := rfl
@[simp] theorem State.modOut_dbgs (n : Nat) (f : OutSt → OutSt) : (s.modOut n f).dbgs = s.dbgs := rfl
@[simp] theorem State.modOut_edges (n : Nat) (f : OutSt → OutSt) : (s.modOut n f).edges = s.edges := rfl
@[simp] theorem State.modOut_errNow (n : Nat) (f : OutSt → OutSt) : (s.modOut n f).errNow = s.errNow := rfl
@[simp] theorem State.modOut_respVal (n : Nat) (f : OutSt → OutSt) : (s.modOut n f).respVal = s.respVal := rfl
@[simp] theorem State.modOut_free (n : Nat) (f : OutSt → OutSt) : (s.modOut n f).free = s.free := rfl
@[simp] theorem State.modOut_pending (n : Nat) (f : OutSt → OutSt) : (s.modOut n f).pending = s.pending := rfl

@[simp] theorem State.outCh_modOut (n : Nat) (f : OutSt → OutSt) : (s.modOut n f).outCh n = f (s.outCh n) :=
  SMap.get_modify_same ..
theorem State.outCh_modOut_ne {n m : Nat} (f : OutSt → OutSt) (h : m ≠ n) : (s.modOut n f).outCh m = s.outCh m :=
  SMap.get_modify_ne _ _ h

/-! ### modAdc -/

@[simp] theorem State.modAdc_count (n : Nat) (f : AdcSt → AdcSt) : (s.modAdc n f).count = s.count := rfl
@[simp] theorem State.modAdc_refLost (n : Nat) (f : AdcSt → AdcSt) : (s.modAdc n f).refLost = s.refLost := rfl
@[simp] theorem State.modAdc_frameAt (n : Nat) (f : AdcSt → AdcSt) : (s.modAdc n f).frameAt = s.frameAt := rfl
@[simp] theorem State.modAdc_epochAt (n : Nat) (f : AdcSt → AdcSt) : (s.modAdc n f).epochAt = s.epochAt := rfl
@[simp] theorem State.modAdc_loadIn (n : Nat) (f : AdcSt → AdcSt) : (s.modAdc n f).loadIn = s.loadIn := rfl
@[simp] theorem State.modAdc_latch (n : Nat) (f : AdcSt → AdcSt) : (s.modAdc n f).latch = s.latch := rfl
@[simp] theorem State.modAdc_ticks (n : Nat) (f : AdcSt → AdcSt) : (s.modAdc n f).ticks = s.ticks := rfl
@[simp] theorem State.modAdc_regs (n : Nat) (f : AdcSt → AdcSt) : (s.modAdc n f).regs = s.regs := rfl
@[simp] theorem State.modAdc_limits (n : Nat) (f : AdcSt → AdcSt) : (s.modAdc n f).limits = s.limits := rfl
@[simp] theorem State.modAdc_tiles (n : Nat) (f : AdcSt → AdcSt) : (s.modAdc n f).tiles = s.tiles := rfl
@[simp] theorem State.modAdc_seqs (n : Nat) (f : AdcSt → AdcSt) : (s.modAdc n f).seqs = s.seqs := rfl
@[simp] theorem State.modAdc_loader (n : Nat) (f : AdcSt → AdcSt) : (s.modAdc n f).loader = s.loader := rfl
@[simp] theorem State.modAdc_cs (n : Nat) (f : AdcSt → AdcSt) : (s.modAdc n f).cs = s.cs := rfl
@[simp] theorem State.modAdc_csImage (n : Nat) (f : AdcSt → AdcSt) : (s.modAdc n f).csImage = s.csImage := rfl
@[simp] theorem State.modAdc_bar2 (n : Nat) (f : AdcSt → AdcSt) : (s.modAdc n f).bar2 = s.bar2 := rfl
@[simp] theorem State.modAdc_used (n : Nat) (f : AdcSt → AdcSt) : (s.modAdc n f).used = s.used := rfl
@[simp] theorem State.modAdc_rings (n : Nat) (f : AdcSt → AdcSt) : (s.modAdc n f).rings = s.rings := rfl
@[simp] theorem State.modAdc_fns (n : Nat) (f : AdcSt → AdcSt) : (s.modAdc n f).fns = s.fns := rfl
@[simp] theorem State.modAdc_msix (n : Nat) (f : AdcSt → AdcSt) : (s.modAdc n f).msix = s.msix := rfl
@[simp] theorem State.modAdc_ctxCache (n : Nat) (f : AdcSt → AdcSt) : (s.modAdc n f).ctxCache = s.ctxCache := rfl
@[simp] theorem State.modAdc_host (n : Nat) (f : AdcSt → AdcSt) : (s.modAdc n f).host = s.host := rfl
@[simp] theorem State.modAdc_dram (n : Nat) (f : AdcSt → AdcSt) : (s.modAdc n f).dram = s.dram := rfl
@[simp] theorem State.modAdc_dchs (n : Nat) (f : AdcSt → AdcSt) : (s.modAdc n f).dchs = s.dchs := rfl
@[simp] theorem State.modAdc_doorbells (n : Nat) (f : AdcSt → AdcSt) : (s.modAdc n f).doorbells = s.doorbells := rfl
@[simp] theorem State.modAdc_dwait (n : Nat) (f : AdcSt → AdcSt) : (s.modAdc n f).dwait = s.dwait := rfl
@[simp] theorem State.modAdc_dramNvm (n : Nat) (f : AdcSt → AdcSt) : (s.modAdc n f).dramNvm = s.dramNvm := rfl
@[simp] theorem State.modAdc_unfreezing (n : Nat) (f : AdcSt → AdcSt) : (s.modAdc n f).unfreezing = s.unfreezing := rfl
@[simp] theorem State.modAdc_evchs (n : Nat) (f : AdcSt → AdcSt) : (s.modAdc n f).evchs = s.evchs := rfl
@[simp] theorem State.modAdc_evgs (n : Nat) (f : AdcSt → AdcSt) : (s.modAdc n f).evgs = s.evgs := rfl
@[simp] theorem State.modAdc_window (n : Nat) (f : AdcSt → AdcSt) : (s.modAdc n f).window = s.window := rfl
@[simp] theorem State.modAdc_routes (n : Nat) (f : AdcSt → AdcSt) : (s.modAdc n f).routes = s.routes := rfl
@[simp] theorem State.modAdc_tones (n : Nat) (f : AdcSt → AdcSt) : (s.modAdc n f).tones = s.tones := rfl
@[simp] theorem State.modAdc_outs (n : Nat) (f : AdcSt → AdcSt) : (s.modAdc n f).outs = s.outs := rfl
@[simp] theorem State.modAdc_routs (n : Nat) (f : AdcSt → AdcSt) : (s.modAdc n f).routs = s.routs := rfl
@[simp] theorem State.modAdc_fir (n : Nat) (f : AdcSt → AdcSt) : (s.modAdc n f).fir = s.fir := rfl
@[simp] theorem State.modAdc_kernel (n : Nat) (f : AdcSt → AdcSt) : (s.modAdc n f).kernel = s.kernel := rfl
@[simp] theorem State.modAdc_lanes (n : Nat) (f : AdcSt → AdcSt) : (s.modAdc n f).lanes = s.lanes := rfl
@[simp] theorem State.modAdc_slots (n : Nat) (f : AdcSt → AdcSt) : (s.modAdc n f).slots = s.slots := rfl
@[simp] theorem State.modAdc_copies (n : Nat) (f : AdcSt → AdcSt) : (s.modAdc n f).copies = s.copies := rfl
@[simp] theorem State.modAdc_slotLog (n : Nat) (f : AdcSt → AdcSt) : (s.modAdc n f).slotLog = s.slotLog := rfl
@[simp] theorem State.modAdc_syn (n : Nat) (f : AdcSt → AdcSt) : (s.modAdc n f).syn = s.syn := rfl
@[simp] theorem State.modAdc_cmap (n : Nat) (f : AdcSt → AdcSt) : (s.modAdc n f).cmap = s.cmap := rfl
@[simp] theorem State.modAdc_ports (n : Nat) (f : AdcSt → AdcSt) : (s.modAdc n f).ports = s.ports := rfl
@[simp] theorem State.modAdc_mesh (n : Nat) (f : AdcSt → AdcSt) : (s.modAdc n f).mesh = s.mesh := rfl
@[simp] theorem State.modAdc_acqs (n : Nat) (f : AdcSt → AdcSt) : (s.modAdc n f).acqs = s.acqs := rfl
@[simp] theorem State.modAdc_fluxes (n : Nat) (f : AdcSt → AdcSt) : (s.modAdc n f).fluxes = s.fluxes := rfl
@[simp] theorem State.modAdc_nt (n : Nat) (f : AdcSt → AdcSt) : (s.modAdc n f).nt = s.nt := rfl
@[simp] theorem State.modAdc_eths (n : Nat) (f : AdcSt → AdcSt) : (s.modAdc n f).eths = s.eths := rfl
@[simp] theorem State.modAdc_power (n : Nat) (f : AdcSt → AdcSt) : (s.modAdc n f).power = s.power := rfl
@[simp] theorem State.modAdc_therm (n : Nat) (f : AdcSt → AdcSt) : (s.modAdc n f).therm = s.therm := rfl
@[simp] theorem State.modAdc_sensors (n : Nat) (f : AdcSt → AdcSt) : (s.modAdc n f).sensors = s.sensors := rfl
@[simp] theorem State.modAdc_sfes (n : Nat) (f : AdcSt → AdcSt) : (s.modAdc n f).sfes = s.sfes := rfl
@[simp] theorem State.modAdc_cal (n : Nat) (f : AdcSt → AdcSt) : (s.modAdc n f).cal = s.cal := rfl
@[simp] theorem State.modAdc_dbgs (n : Nat) (f : AdcSt → AdcSt) : (s.modAdc n f).dbgs = s.dbgs := rfl
@[simp] theorem State.modAdc_edges (n : Nat) (f : AdcSt → AdcSt) : (s.modAdc n f).edges = s.edges := rfl
@[simp] theorem State.modAdc_errNow (n : Nat) (f : AdcSt → AdcSt) : (s.modAdc n f).errNow = s.errNow := rfl
@[simp] theorem State.modAdc_respVal (n : Nat) (f : AdcSt → AdcSt) : (s.modAdc n f).respVal = s.respVal := rfl
@[simp] theorem State.modAdc_free (n : Nat) (f : AdcSt → AdcSt) : (s.modAdc n f).free = s.free := rfl
@[simp] theorem State.modAdc_pending (n : Nat) (f : AdcSt → AdcSt) : (s.modAdc n f).pending = s.pending := rfl

@[simp] theorem State.adcCh_modAdc (n : Nat) (f : AdcSt → AdcSt) : (s.modAdc n f).adcCh n = f (s.adcCh n) :=
  SMap.get_modify_same ..
theorem State.adcCh_modAdc_ne {n m : Nat} (f : AdcSt → AdcSt) (h : m ≠ n) : (s.modAdc n f).adcCh m = s.adcCh m :=
  SMap.get_modify_ne _ _ h

/-! ### modRout -/

@[simp] theorem State.modRout_count (n : Nat) (f : RoutSt → RoutSt) : (s.modRout n f).count = s.count := rfl
@[simp] theorem State.modRout_refLost (n : Nat) (f : RoutSt → RoutSt) : (s.modRout n f).refLost = s.refLost := rfl
@[simp] theorem State.modRout_frameAt (n : Nat) (f : RoutSt → RoutSt) : (s.modRout n f).frameAt = s.frameAt := rfl
@[simp] theorem State.modRout_epochAt (n : Nat) (f : RoutSt → RoutSt) : (s.modRout n f).epochAt = s.epochAt := rfl
@[simp] theorem State.modRout_loadIn (n : Nat) (f : RoutSt → RoutSt) : (s.modRout n f).loadIn = s.loadIn := rfl
@[simp] theorem State.modRout_latch (n : Nat) (f : RoutSt → RoutSt) : (s.modRout n f).latch = s.latch := rfl
@[simp] theorem State.modRout_ticks (n : Nat) (f : RoutSt → RoutSt) : (s.modRout n f).ticks = s.ticks := rfl
@[simp] theorem State.modRout_regs (n : Nat) (f : RoutSt → RoutSt) : (s.modRout n f).regs = s.regs := rfl
@[simp] theorem State.modRout_limits (n : Nat) (f : RoutSt → RoutSt) : (s.modRout n f).limits = s.limits := rfl
@[simp] theorem State.modRout_tiles (n : Nat) (f : RoutSt → RoutSt) : (s.modRout n f).tiles = s.tiles := rfl
@[simp] theorem State.modRout_seqs (n : Nat) (f : RoutSt → RoutSt) : (s.modRout n f).seqs = s.seqs := rfl
@[simp] theorem State.modRout_loader (n : Nat) (f : RoutSt → RoutSt) : (s.modRout n f).loader = s.loader := rfl
@[simp] theorem State.modRout_cs (n : Nat) (f : RoutSt → RoutSt) : (s.modRout n f).cs = s.cs := rfl
@[simp] theorem State.modRout_csImage (n : Nat) (f : RoutSt → RoutSt) : (s.modRout n f).csImage = s.csImage := rfl
@[simp] theorem State.modRout_bar2 (n : Nat) (f : RoutSt → RoutSt) : (s.modRout n f).bar2 = s.bar2 := rfl
@[simp] theorem State.modRout_used (n : Nat) (f : RoutSt → RoutSt) : (s.modRout n f).used = s.used := rfl
@[simp] theorem State.modRout_rings (n : Nat) (f : RoutSt → RoutSt) : (s.modRout n f).rings = s.rings := rfl
@[simp] theorem State.modRout_fns (n : Nat) (f : RoutSt → RoutSt) : (s.modRout n f).fns = s.fns := rfl
@[simp] theorem State.modRout_msix (n : Nat) (f : RoutSt → RoutSt) : (s.modRout n f).msix = s.msix := rfl
@[simp] theorem State.modRout_ctxCache (n : Nat) (f : RoutSt → RoutSt) : (s.modRout n f).ctxCache = s.ctxCache := rfl
@[simp] theorem State.modRout_host (n : Nat) (f : RoutSt → RoutSt) : (s.modRout n f).host = s.host := rfl
@[simp] theorem State.modRout_dram (n : Nat) (f : RoutSt → RoutSt) : (s.modRout n f).dram = s.dram := rfl
@[simp] theorem State.modRout_dchs (n : Nat) (f : RoutSt → RoutSt) : (s.modRout n f).dchs = s.dchs := rfl
@[simp] theorem State.modRout_doorbells (n : Nat) (f : RoutSt → RoutSt) : (s.modRout n f).doorbells = s.doorbells := rfl
@[simp] theorem State.modRout_dwait (n : Nat) (f : RoutSt → RoutSt) : (s.modRout n f).dwait = s.dwait := rfl
@[simp] theorem State.modRout_dramNvm (n : Nat) (f : RoutSt → RoutSt) : (s.modRout n f).dramNvm = s.dramNvm := rfl
@[simp] theorem State.modRout_unfreezing (n : Nat) (f : RoutSt → RoutSt) : (s.modRout n f).unfreezing = s.unfreezing := rfl
@[simp] theorem State.modRout_evchs (n : Nat) (f : RoutSt → RoutSt) : (s.modRout n f).evchs = s.evchs := rfl
@[simp] theorem State.modRout_evgs (n : Nat) (f : RoutSt → RoutSt) : (s.modRout n f).evgs = s.evgs := rfl
@[simp] theorem State.modRout_window (n : Nat) (f : RoutSt → RoutSt) : (s.modRout n f).window = s.window := rfl
@[simp] theorem State.modRout_routes (n : Nat) (f : RoutSt → RoutSt) : (s.modRout n f).routes = s.routes := rfl
@[simp] theorem State.modRout_tones (n : Nat) (f : RoutSt → RoutSt) : (s.modRout n f).tones = s.tones := rfl
@[simp] theorem State.modRout_outs (n : Nat) (f : RoutSt → RoutSt) : (s.modRout n f).outs = s.outs := rfl
@[simp] theorem State.modRout_adcs (n : Nat) (f : RoutSt → RoutSt) : (s.modRout n f).adcs = s.adcs := rfl
@[simp] theorem State.modRout_fir (n : Nat) (f : RoutSt → RoutSt) : (s.modRout n f).fir = s.fir := rfl
@[simp] theorem State.modRout_kernel (n : Nat) (f : RoutSt → RoutSt) : (s.modRout n f).kernel = s.kernel := rfl
@[simp] theorem State.modRout_lanes (n : Nat) (f : RoutSt → RoutSt) : (s.modRout n f).lanes = s.lanes := rfl
@[simp] theorem State.modRout_slots (n : Nat) (f : RoutSt → RoutSt) : (s.modRout n f).slots = s.slots := rfl
@[simp] theorem State.modRout_copies (n : Nat) (f : RoutSt → RoutSt) : (s.modRout n f).copies = s.copies := rfl
@[simp] theorem State.modRout_slotLog (n : Nat) (f : RoutSt → RoutSt) : (s.modRout n f).slotLog = s.slotLog := rfl
@[simp] theorem State.modRout_syn (n : Nat) (f : RoutSt → RoutSt) : (s.modRout n f).syn = s.syn := rfl
@[simp] theorem State.modRout_cmap (n : Nat) (f : RoutSt → RoutSt) : (s.modRout n f).cmap = s.cmap := rfl
@[simp] theorem State.modRout_ports (n : Nat) (f : RoutSt → RoutSt) : (s.modRout n f).ports = s.ports := rfl
@[simp] theorem State.modRout_mesh (n : Nat) (f : RoutSt → RoutSt) : (s.modRout n f).mesh = s.mesh := rfl
@[simp] theorem State.modRout_acqs (n : Nat) (f : RoutSt → RoutSt) : (s.modRout n f).acqs = s.acqs := rfl
@[simp] theorem State.modRout_fluxes (n : Nat) (f : RoutSt → RoutSt) : (s.modRout n f).fluxes = s.fluxes := rfl
@[simp] theorem State.modRout_nt (n : Nat) (f : RoutSt → RoutSt) : (s.modRout n f).nt = s.nt := rfl
@[simp] theorem State.modRout_eths (n : Nat) (f : RoutSt → RoutSt) : (s.modRout n f).eths = s.eths := rfl
@[simp] theorem State.modRout_power (n : Nat) (f : RoutSt → RoutSt) : (s.modRout n f).power = s.power := rfl
@[simp] theorem State.modRout_therm (n : Nat) (f : RoutSt → RoutSt) : (s.modRout n f).therm = s.therm := rfl
@[simp] theorem State.modRout_sensors (n : Nat) (f : RoutSt → RoutSt) : (s.modRout n f).sensors = s.sensors := rfl
@[simp] theorem State.modRout_sfes (n : Nat) (f : RoutSt → RoutSt) : (s.modRout n f).sfes = s.sfes := rfl
@[simp] theorem State.modRout_cal (n : Nat) (f : RoutSt → RoutSt) : (s.modRout n f).cal = s.cal := rfl
@[simp] theorem State.modRout_dbgs (n : Nat) (f : RoutSt → RoutSt) : (s.modRout n f).dbgs = s.dbgs := rfl
@[simp] theorem State.modRout_edges (n : Nat) (f : RoutSt → RoutSt) : (s.modRout n f).edges = s.edges := rfl
@[simp] theorem State.modRout_errNow (n : Nat) (f : RoutSt → RoutSt) : (s.modRout n f).errNow = s.errNow := rfl
@[simp] theorem State.modRout_respVal (n : Nat) (f : RoutSt → RoutSt) : (s.modRout n f).respVal = s.respVal := rfl
@[simp] theorem State.modRout_free (n : Nat) (f : RoutSt → RoutSt) : (s.modRout n f).free = s.free := rfl
@[simp] theorem State.modRout_pending (n : Nat) (f : RoutSt → RoutSt) : (s.modRout n f).pending = s.pending := rfl

@[simp] theorem State.rout_modRout (n : Nat) (f : RoutSt → RoutSt) : (s.modRout n f).rout n = f (s.rout n) :=
  SMap.get_modify_same ..
theorem State.rout_modRout_ne {n m : Nat} (f : RoutSt → RoutSt) (h : m ≠ n) : (s.modRout n f).rout m = s.rout m :=
  SMap.get_modify_ne _ _ h

/-! ### modLane -/

@[simp] theorem State.modLane_count (n : Nat) (f : LaneSt → LaneSt) : (s.modLane n f).count = s.count := rfl
@[simp] theorem State.modLane_refLost (n : Nat) (f : LaneSt → LaneSt) : (s.modLane n f).refLost = s.refLost := rfl
@[simp] theorem State.modLane_frameAt (n : Nat) (f : LaneSt → LaneSt) : (s.modLane n f).frameAt = s.frameAt := rfl
@[simp] theorem State.modLane_epochAt (n : Nat) (f : LaneSt → LaneSt) : (s.modLane n f).epochAt = s.epochAt := rfl
@[simp] theorem State.modLane_loadIn (n : Nat) (f : LaneSt → LaneSt) : (s.modLane n f).loadIn = s.loadIn := rfl
@[simp] theorem State.modLane_latch (n : Nat) (f : LaneSt → LaneSt) : (s.modLane n f).latch = s.latch := rfl
@[simp] theorem State.modLane_ticks (n : Nat) (f : LaneSt → LaneSt) : (s.modLane n f).ticks = s.ticks := rfl
@[simp] theorem State.modLane_regs (n : Nat) (f : LaneSt → LaneSt) : (s.modLane n f).regs = s.regs := rfl
@[simp] theorem State.modLane_limits (n : Nat) (f : LaneSt → LaneSt) : (s.modLane n f).limits = s.limits := rfl
@[simp] theorem State.modLane_tiles (n : Nat) (f : LaneSt → LaneSt) : (s.modLane n f).tiles = s.tiles := rfl
@[simp] theorem State.modLane_seqs (n : Nat) (f : LaneSt → LaneSt) : (s.modLane n f).seqs = s.seqs := rfl
@[simp] theorem State.modLane_loader (n : Nat) (f : LaneSt → LaneSt) : (s.modLane n f).loader = s.loader := rfl
@[simp] theorem State.modLane_cs (n : Nat) (f : LaneSt → LaneSt) : (s.modLane n f).cs = s.cs := rfl
@[simp] theorem State.modLane_csImage (n : Nat) (f : LaneSt → LaneSt) : (s.modLane n f).csImage = s.csImage := rfl
@[simp] theorem State.modLane_bar2 (n : Nat) (f : LaneSt → LaneSt) : (s.modLane n f).bar2 = s.bar2 := rfl
@[simp] theorem State.modLane_used (n : Nat) (f : LaneSt → LaneSt) : (s.modLane n f).used = s.used := rfl
@[simp] theorem State.modLane_rings (n : Nat) (f : LaneSt → LaneSt) : (s.modLane n f).rings = s.rings := rfl
@[simp] theorem State.modLane_fns (n : Nat) (f : LaneSt → LaneSt) : (s.modLane n f).fns = s.fns := rfl
@[simp] theorem State.modLane_msix (n : Nat) (f : LaneSt → LaneSt) : (s.modLane n f).msix = s.msix := rfl
@[simp] theorem State.modLane_ctxCache (n : Nat) (f : LaneSt → LaneSt) : (s.modLane n f).ctxCache = s.ctxCache := rfl
@[simp] theorem State.modLane_host (n : Nat) (f : LaneSt → LaneSt) : (s.modLane n f).host = s.host := rfl
@[simp] theorem State.modLane_dram (n : Nat) (f : LaneSt → LaneSt) : (s.modLane n f).dram = s.dram := rfl
@[simp] theorem State.modLane_dchs (n : Nat) (f : LaneSt → LaneSt) : (s.modLane n f).dchs = s.dchs := rfl
@[simp] theorem State.modLane_doorbells (n : Nat) (f : LaneSt → LaneSt) : (s.modLane n f).doorbells = s.doorbells := rfl
@[simp] theorem State.modLane_dwait (n : Nat) (f : LaneSt → LaneSt) : (s.modLane n f).dwait = s.dwait := rfl
@[simp] theorem State.modLane_dramNvm (n : Nat) (f : LaneSt → LaneSt) : (s.modLane n f).dramNvm = s.dramNvm := rfl
@[simp] theorem State.modLane_unfreezing (n : Nat) (f : LaneSt → LaneSt) : (s.modLane n f).unfreezing = s.unfreezing := rfl
@[simp] theorem State.modLane_evchs (n : Nat) (f : LaneSt → LaneSt) : (s.modLane n f).evchs = s.evchs := rfl
@[simp] theorem State.modLane_evgs (n : Nat) (f : LaneSt → LaneSt) : (s.modLane n f).evgs = s.evgs := rfl
@[simp] theorem State.modLane_window (n : Nat) (f : LaneSt → LaneSt) : (s.modLane n f).window = s.window := rfl
@[simp] theorem State.modLane_routes (n : Nat) (f : LaneSt → LaneSt) : (s.modLane n f).routes = s.routes := rfl
@[simp] theorem State.modLane_tones (n : Nat) (f : LaneSt → LaneSt) : (s.modLane n f).tones = s.tones := rfl
@[simp] theorem State.modLane_outs (n : Nat) (f : LaneSt → LaneSt) : (s.modLane n f).outs = s.outs := rfl
@[simp] theorem State.modLane_adcs (n : Nat) (f : LaneSt → LaneSt) : (s.modLane n f).adcs = s.adcs := rfl
@[simp] theorem State.modLane_routs (n : Nat) (f : LaneSt → LaneSt) : (s.modLane n f).routs = s.routs := rfl
@[simp] theorem State.modLane_fir (n : Nat) (f : LaneSt → LaneSt) : (s.modLane n f).fir = s.fir := rfl
@[simp] theorem State.modLane_kernel (n : Nat) (f : LaneSt → LaneSt) : (s.modLane n f).kernel = s.kernel := rfl
@[simp] theorem State.modLane_slots (n : Nat) (f : LaneSt → LaneSt) : (s.modLane n f).slots = s.slots := rfl
@[simp] theorem State.modLane_copies (n : Nat) (f : LaneSt → LaneSt) : (s.modLane n f).copies = s.copies := rfl
@[simp] theorem State.modLane_slotLog (n : Nat) (f : LaneSt → LaneSt) : (s.modLane n f).slotLog = s.slotLog := rfl
@[simp] theorem State.modLane_syn (n : Nat) (f : LaneSt → LaneSt) : (s.modLane n f).syn = s.syn := rfl
@[simp] theorem State.modLane_cmap (n : Nat) (f : LaneSt → LaneSt) : (s.modLane n f).cmap = s.cmap := rfl
@[simp] theorem State.modLane_ports (n : Nat) (f : LaneSt → LaneSt) : (s.modLane n f).ports = s.ports := rfl
@[simp] theorem State.modLane_mesh (n : Nat) (f : LaneSt → LaneSt) : (s.modLane n f).mesh = s.mesh := rfl
@[simp] theorem State.modLane_acqs (n : Nat) (f : LaneSt → LaneSt) : (s.modLane n f).acqs = s.acqs := rfl
@[simp] theorem State.modLane_fluxes (n : Nat) (f : LaneSt → LaneSt) : (s.modLane n f).fluxes = s.fluxes := rfl
@[simp] theorem State.modLane_nt (n : Nat) (f : LaneSt → LaneSt) : (s.modLane n f).nt = s.nt := rfl
@[simp] theorem State.modLane_eths (n : Nat) (f : LaneSt → LaneSt) : (s.modLane n f).eths = s.eths := rfl
@[simp] theorem State.modLane_power (n : Nat) (f : LaneSt → LaneSt) : (s.modLane n f).power = s.power := rfl
@[simp] theorem State.modLane_therm (n : Nat) (f : LaneSt → LaneSt) : (s.modLane n f).therm = s.therm := rfl
@[simp] theorem State.modLane_sensors (n : Nat) (f : LaneSt → LaneSt) : (s.modLane n f).sensors = s.sensors := rfl
@[simp] theorem State.modLane_sfes (n : Nat) (f : LaneSt → LaneSt) : (s.modLane n f).sfes = s.sfes := rfl
@[simp] theorem State.modLane_cal (n : Nat) (f : LaneSt → LaneSt) : (s.modLane n f).cal = s.cal := rfl
@[simp] theorem State.modLane_dbgs (n : Nat) (f : LaneSt → LaneSt) : (s.modLane n f).dbgs = s.dbgs := rfl
@[simp] theorem State.modLane_edges (n : Nat) (f : LaneSt → LaneSt) : (s.modLane n f).edges = s.edges := rfl
@[simp] theorem State.modLane_errNow (n : Nat) (f : LaneSt → LaneSt) : (s.modLane n f).errNow = s.errNow := rfl
@[simp] theorem State.modLane_respVal (n : Nat) (f : LaneSt → LaneSt) : (s.modLane n f).respVal = s.respVal := rfl
@[simp] theorem State.modLane_free (n : Nat) (f : LaneSt → LaneSt) : (s.modLane n f).free = s.free := rfl
@[simp] theorem State.modLane_pending (n : Nat) (f : LaneSt → LaneSt) : (s.modLane n f).pending = s.pending := rfl

@[simp] theorem State.lane_modLane (n : Nat) (f : LaneSt → LaneSt) : (s.modLane n f).lane n = f (s.lane n) :=
  SMap.get_modify_same ..
theorem State.lane_modLane_ne {n m : Nat} (f : LaneSt → LaneSt) (h : m ≠ n) : (s.modLane n f).lane m = s.lane m :=
  SMap.get_modify_ne _ _ h

/-! ### modSlot -/

@[simp] theorem State.modSlot_count (n : Nat) (f : Slot → Slot) : (s.modSlot n f).count = s.count := rfl
@[simp] theorem State.modSlot_refLost (n : Nat) (f : Slot → Slot) : (s.modSlot n f).refLost = s.refLost := rfl
@[simp] theorem State.modSlot_frameAt (n : Nat) (f : Slot → Slot) : (s.modSlot n f).frameAt = s.frameAt := rfl
@[simp] theorem State.modSlot_epochAt (n : Nat) (f : Slot → Slot) : (s.modSlot n f).epochAt = s.epochAt := rfl
@[simp] theorem State.modSlot_loadIn (n : Nat) (f : Slot → Slot) : (s.modSlot n f).loadIn = s.loadIn := rfl
@[simp] theorem State.modSlot_latch (n : Nat) (f : Slot → Slot) : (s.modSlot n f).latch = s.latch := rfl
@[simp] theorem State.modSlot_ticks (n : Nat) (f : Slot → Slot) : (s.modSlot n f).ticks = s.ticks := rfl
@[simp] theorem State.modSlot_regs (n : Nat) (f : Slot → Slot) : (s.modSlot n f).regs = s.regs := rfl
@[simp] theorem State.modSlot_limits (n : Nat) (f : Slot → Slot) : (s.modSlot n f).limits = s.limits := rfl
@[simp] theorem State.modSlot_tiles (n : Nat) (f : Slot → Slot) : (s.modSlot n f).tiles = s.tiles := rfl
@[simp] theorem State.modSlot_seqs (n : Nat) (f : Slot → Slot) : (s.modSlot n f).seqs = s.seqs := rfl
@[simp] theorem State.modSlot_loader (n : Nat) (f : Slot → Slot) : (s.modSlot n f).loader = s.loader := rfl
@[simp] theorem State.modSlot_cs (n : Nat) (f : Slot → Slot) : (s.modSlot n f).cs = s.cs := rfl
@[simp] theorem State.modSlot_csImage (n : Nat) (f : Slot → Slot) : (s.modSlot n f).csImage = s.csImage := rfl
@[simp] theorem State.modSlot_bar2 (n : Nat) (f : Slot → Slot) : (s.modSlot n f).bar2 = s.bar2 := rfl
@[simp] theorem State.modSlot_used (n : Nat) (f : Slot → Slot) : (s.modSlot n f).used = s.used := rfl
@[simp] theorem State.modSlot_rings (n : Nat) (f : Slot → Slot) : (s.modSlot n f).rings = s.rings := rfl
@[simp] theorem State.modSlot_fns (n : Nat) (f : Slot → Slot) : (s.modSlot n f).fns = s.fns := rfl
@[simp] theorem State.modSlot_msix (n : Nat) (f : Slot → Slot) : (s.modSlot n f).msix = s.msix := rfl
@[simp] theorem State.modSlot_ctxCache (n : Nat) (f : Slot → Slot) : (s.modSlot n f).ctxCache = s.ctxCache := rfl
@[simp] theorem State.modSlot_host (n : Nat) (f : Slot → Slot) : (s.modSlot n f).host = s.host := rfl
@[simp] theorem State.modSlot_dram (n : Nat) (f : Slot → Slot) : (s.modSlot n f).dram = s.dram := rfl
@[simp] theorem State.modSlot_dchs (n : Nat) (f : Slot → Slot) : (s.modSlot n f).dchs = s.dchs := rfl
@[simp] theorem State.modSlot_doorbells (n : Nat) (f : Slot → Slot) : (s.modSlot n f).doorbells = s.doorbells := rfl
@[simp] theorem State.modSlot_dwait (n : Nat) (f : Slot → Slot) : (s.modSlot n f).dwait = s.dwait := rfl
@[simp] theorem State.modSlot_dramNvm (n : Nat) (f : Slot → Slot) : (s.modSlot n f).dramNvm = s.dramNvm := rfl
@[simp] theorem State.modSlot_unfreezing (n : Nat) (f : Slot → Slot) : (s.modSlot n f).unfreezing = s.unfreezing := rfl
@[simp] theorem State.modSlot_evchs (n : Nat) (f : Slot → Slot) : (s.modSlot n f).evchs = s.evchs := rfl
@[simp] theorem State.modSlot_evgs (n : Nat) (f : Slot → Slot) : (s.modSlot n f).evgs = s.evgs := rfl
@[simp] theorem State.modSlot_window (n : Nat) (f : Slot → Slot) : (s.modSlot n f).window = s.window := rfl
@[simp] theorem State.modSlot_routes (n : Nat) (f : Slot → Slot) : (s.modSlot n f).routes = s.routes := rfl
@[simp] theorem State.modSlot_tones (n : Nat) (f : Slot → Slot) : (s.modSlot n f).tones = s.tones := rfl
@[simp] theorem State.modSlot_outs (n : Nat) (f : Slot → Slot) : (s.modSlot n f).outs = s.outs := rfl
@[simp] theorem State.modSlot_adcs (n : Nat) (f : Slot → Slot) : (s.modSlot n f).adcs = s.adcs := rfl
@[simp] theorem State.modSlot_routs (n : Nat) (f : Slot → Slot) : (s.modSlot n f).routs = s.routs := rfl
@[simp] theorem State.modSlot_fir (n : Nat) (f : Slot → Slot) : (s.modSlot n f).fir = s.fir := rfl
@[simp] theorem State.modSlot_kernel (n : Nat) (f : Slot → Slot) : (s.modSlot n f).kernel = s.kernel := rfl
@[simp] theorem State.modSlot_lanes (n : Nat) (f : Slot → Slot) : (s.modSlot n f).lanes = s.lanes := rfl
@[simp] theorem State.modSlot_copies (n : Nat) (f : Slot → Slot) : (s.modSlot n f).copies = s.copies := rfl
@[simp] theorem State.modSlot_slotLog (n : Nat) (f : Slot → Slot) : (s.modSlot n f).slotLog = s.slotLog := rfl
@[simp] theorem State.modSlot_syn (n : Nat) (f : Slot → Slot) : (s.modSlot n f).syn = s.syn := rfl
@[simp] theorem State.modSlot_cmap (n : Nat) (f : Slot → Slot) : (s.modSlot n f).cmap = s.cmap := rfl
@[simp] theorem State.modSlot_ports (n : Nat) (f : Slot → Slot) : (s.modSlot n f).ports = s.ports := rfl
@[simp] theorem State.modSlot_mesh (n : Nat) (f : Slot → Slot) : (s.modSlot n f).mesh = s.mesh := rfl
@[simp] theorem State.modSlot_acqs (n : Nat) (f : Slot → Slot) : (s.modSlot n f).acqs = s.acqs := rfl
@[simp] theorem State.modSlot_fluxes (n : Nat) (f : Slot → Slot) : (s.modSlot n f).fluxes = s.fluxes := rfl
@[simp] theorem State.modSlot_nt (n : Nat) (f : Slot → Slot) : (s.modSlot n f).nt = s.nt := rfl
@[simp] theorem State.modSlot_eths (n : Nat) (f : Slot → Slot) : (s.modSlot n f).eths = s.eths := rfl
@[simp] theorem State.modSlot_power (n : Nat) (f : Slot → Slot) : (s.modSlot n f).power = s.power := rfl
@[simp] theorem State.modSlot_therm (n : Nat) (f : Slot → Slot) : (s.modSlot n f).therm = s.therm := rfl
@[simp] theorem State.modSlot_sensors (n : Nat) (f : Slot → Slot) : (s.modSlot n f).sensors = s.sensors := rfl
@[simp] theorem State.modSlot_sfes (n : Nat) (f : Slot → Slot) : (s.modSlot n f).sfes = s.sfes := rfl
@[simp] theorem State.modSlot_cal (n : Nat) (f : Slot → Slot) : (s.modSlot n f).cal = s.cal := rfl
@[simp] theorem State.modSlot_dbgs (n : Nat) (f : Slot → Slot) : (s.modSlot n f).dbgs = s.dbgs := rfl
@[simp] theorem State.modSlot_edges (n : Nat) (f : Slot → Slot) : (s.modSlot n f).edges = s.edges := rfl
@[simp] theorem State.modSlot_errNow (n : Nat) (f : Slot → Slot) : (s.modSlot n f).errNow = s.errNow := rfl
@[simp] theorem State.modSlot_respVal (n : Nat) (f : Slot → Slot) : (s.modSlot n f).respVal = s.respVal := rfl
@[simp] theorem State.modSlot_free (n : Nat) (f : Slot → Slot) : (s.modSlot n f).free = s.free := rfl
@[simp] theorem State.modSlot_pending (n : Nat) (f : Slot → Slot) : (s.modSlot n f).pending = s.pending := rfl

@[simp] theorem State.slot_modSlot (n : Nat) (f : Slot → Slot) : (s.modSlot n f).slot n = f (s.slot n) :=
  SMap.get_modify_same ..
theorem State.slot_modSlot_ne {n m : Nat} (f : Slot → Slot) (h : m ≠ n) : (s.modSlot n f).slot m = s.slot m :=
  SMap.get_modify_ne _ _ h

/-! ### modCopy -/

@[simp] theorem State.modCopy_count (n : Nat) (f : Slot → Slot) : (s.modCopy n f).count = s.count := rfl
@[simp] theorem State.modCopy_refLost (n : Nat) (f : Slot → Slot) : (s.modCopy n f).refLost = s.refLost := rfl
@[simp] theorem State.modCopy_frameAt (n : Nat) (f : Slot → Slot) : (s.modCopy n f).frameAt = s.frameAt := rfl
@[simp] theorem State.modCopy_epochAt (n : Nat) (f : Slot → Slot) : (s.modCopy n f).epochAt = s.epochAt := rfl
@[simp] theorem State.modCopy_loadIn (n : Nat) (f : Slot → Slot) : (s.modCopy n f).loadIn = s.loadIn := rfl
@[simp] theorem State.modCopy_latch (n : Nat) (f : Slot → Slot) : (s.modCopy n f).latch = s.latch := rfl
@[simp] theorem State.modCopy_ticks (n : Nat) (f : Slot → Slot) : (s.modCopy n f).ticks = s.ticks := rfl
@[simp] theorem State.modCopy_regs (n : Nat) (f : Slot → Slot) : (s.modCopy n f).regs = s.regs := rfl
@[simp] theorem State.modCopy_limits (n : Nat) (f : Slot → Slot) : (s.modCopy n f).limits = s.limits := rfl
@[simp] theorem State.modCopy_tiles (n : Nat) (f : Slot → Slot) : (s.modCopy n f).tiles = s.tiles := rfl
@[simp] theorem State.modCopy_seqs (n : Nat) (f : Slot → Slot) : (s.modCopy n f).seqs = s.seqs := rfl
@[simp] theorem State.modCopy_loader (n : Nat) (f : Slot → Slot) : (s.modCopy n f).loader = s.loader := rfl
@[simp] theorem State.modCopy_cs (n : Nat) (f : Slot → Slot) : (s.modCopy n f).cs = s.cs := rfl
@[simp] theorem State.modCopy_csImage (n : Nat) (f : Slot → Slot) : (s.modCopy n f).csImage = s.csImage := rfl
@[simp] theorem State.modCopy_bar2 (n : Nat) (f : Slot → Slot) : (s.modCopy n f).bar2 = s.bar2 := rfl
@[simp] theorem State.modCopy_used (n : Nat) (f : Slot → Slot) : (s.modCopy n f).used = s.used := rfl
@[simp] theorem State.modCopy_rings (n : Nat) (f : Slot → Slot) : (s.modCopy n f).rings = s.rings := rfl
@[simp] theorem State.modCopy_fns (n : Nat) (f : Slot → Slot) : (s.modCopy n f).fns = s.fns := rfl
@[simp] theorem State.modCopy_msix (n : Nat) (f : Slot → Slot) : (s.modCopy n f).msix = s.msix := rfl
@[simp] theorem State.modCopy_ctxCache (n : Nat) (f : Slot → Slot) : (s.modCopy n f).ctxCache = s.ctxCache := rfl
@[simp] theorem State.modCopy_host (n : Nat) (f : Slot → Slot) : (s.modCopy n f).host = s.host := rfl
@[simp] theorem State.modCopy_dram (n : Nat) (f : Slot → Slot) : (s.modCopy n f).dram = s.dram := rfl
@[simp] theorem State.modCopy_dchs (n : Nat) (f : Slot → Slot) : (s.modCopy n f).dchs = s.dchs := rfl
@[simp] theorem State.modCopy_doorbells (n : Nat) (f : Slot → Slot) : (s.modCopy n f).doorbells = s.doorbells := rfl
@[simp] theorem State.modCopy_dwait (n : Nat) (f : Slot → Slot) : (s.modCopy n f).dwait = s.dwait := rfl
@[simp] theorem State.modCopy_dramNvm (n : Nat) (f : Slot → Slot) : (s.modCopy n f).dramNvm = s.dramNvm := rfl
@[simp] theorem State.modCopy_unfreezing (n : Nat) (f : Slot → Slot) : (s.modCopy n f).unfreezing = s.unfreezing := rfl
@[simp] theorem State.modCopy_evchs (n : Nat) (f : Slot → Slot) : (s.modCopy n f).evchs = s.evchs := rfl
@[simp] theorem State.modCopy_evgs (n : Nat) (f : Slot → Slot) : (s.modCopy n f).evgs = s.evgs := rfl
@[simp] theorem State.modCopy_window (n : Nat) (f : Slot → Slot) : (s.modCopy n f).window = s.window := rfl
@[simp] theorem State.modCopy_routes (n : Nat) (f : Slot → Slot) : (s.modCopy n f).routes = s.routes := rfl
@[simp] theorem State.modCopy_tones (n : Nat) (f : Slot → Slot) : (s.modCopy n f).tones = s.tones := rfl
@[simp] theorem State.modCopy_outs (n : Nat) (f : Slot → Slot) : (s.modCopy n f).outs = s.outs := rfl
@[simp] theorem State.modCopy_adcs (n : Nat) (f : Slot → Slot) : (s.modCopy n f).adcs = s.adcs := rfl
@[simp] theorem State.modCopy_routs (n : Nat) (f : Slot → Slot) : (s.modCopy n f).routs = s.routs := rfl
@[simp] theorem State.modCopy_fir (n : Nat) (f : Slot → Slot) : (s.modCopy n f).fir = s.fir := rfl
@[simp] theorem State.modCopy_kernel (n : Nat) (f : Slot → Slot) : (s.modCopy n f).kernel = s.kernel := rfl
@[simp] theorem State.modCopy_lanes (n : Nat) (f : Slot → Slot) : (s.modCopy n f).lanes = s.lanes := rfl
@[simp] theorem State.modCopy_slots (n : Nat) (f : Slot → Slot) : (s.modCopy n f).slots = s.slots := rfl
@[simp] theorem State.modCopy_slotLog (n : Nat) (f : Slot → Slot) : (s.modCopy n f).slotLog = s.slotLog := rfl
@[simp] theorem State.modCopy_syn (n : Nat) (f : Slot → Slot) : (s.modCopy n f).syn = s.syn := rfl
@[simp] theorem State.modCopy_cmap (n : Nat) (f : Slot → Slot) : (s.modCopy n f).cmap = s.cmap := rfl
@[simp] theorem State.modCopy_ports (n : Nat) (f : Slot → Slot) : (s.modCopy n f).ports = s.ports := rfl
@[simp] theorem State.modCopy_mesh (n : Nat) (f : Slot → Slot) : (s.modCopy n f).mesh = s.mesh := rfl
@[simp] theorem State.modCopy_acqs (n : Nat) (f : Slot → Slot) : (s.modCopy n f).acqs = s.acqs := rfl
@[simp] theorem State.modCopy_fluxes (n : Nat) (f : Slot → Slot) : (s.modCopy n f).fluxes = s.fluxes := rfl
@[simp] theorem State.modCopy_nt (n : Nat) (f : Slot → Slot) : (s.modCopy n f).nt = s.nt := rfl
@[simp] theorem State.modCopy_eths (n : Nat) (f : Slot → Slot) : (s.modCopy n f).eths = s.eths := rfl
@[simp] theorem State.modCopy_power (n : Nat) (f : Slot → Slot) : (s.modCopy n f).power = s.power := rfl
@[simp] theorem State.modCopy_therm (n : Nat) (f : Slot → Slot) : (s.modCopy n f).therm = s.therm := rfl
@[simp] theorem State.modCopy_sensors (n : Nat) (f : Slot → Slot) : (s.modCopy n f).sensors = s.sensors := rfl
@[simp] theorem State.modCopy_sfes (n : Nat) (f : Slot → Slot) : (s.modCopy n f).sfes = s.sfes := rfl
@[simp] theorem State.modCopy_cal (n : Nat) (f : Slot → Slot) : (s.modCopy n f).cal = s.cal := rfl
@[simp] theorem State.modCopy_dbgs (n : Nat) (f : Slot → Slot) : (s.modCopy n f).dbgs = s.dbgs := rfl
@[simp] theorem State.modCopy_edges (n : Nat) (f : Slot → Slot) : (s.modCopy n f).edges = s.edges := rfl
@[simp] theorem State.modCopy_errNow (n : Nat) (f : Slot → Slot) : (s.modCopy n f).errNow = s.errNow := rfl
@[simp] theorem State.modCopy_respVal (n : Nat) (f : Slot → Slot) : (s.modCopy n f).respVal = s.respVal := rfl
@[simp] theorem State.modCopy_free (n : Nat) (f : Slot → Slot) : (s.modCopy n f).free = s.free := rfl
@[simp] theorem State.modCopy_pending (n : Nat) (f : Slot → Slot) : (s.modCopy n f).pending = s.pending := rfl

@[simp] theorem State.copy_modCopy (n : Nat) (f : Slot → Slot) : (s.modCopy n f).copy n = f (s.copy n) :=
  SMap.get_modify_same ..
theorem State.copy_modCopy_ne {n m : Nat} (f : Slot → Slot) (h : m ≠ n) : (s.modCopy n f).copy m = s.copy m :=
  SMap.get_modify_ne _ _ h

/-! ### modPort -/

@[simp] theorem State.modPort_count (n : Nat) (f : PortSt → PortSt) : (s.modPort n f).count = s.count := rfl
@[simp] theorem State.modPort_refLost (n : Nat) (f : PortSt → PortSt) : (s.modPort n f).refLost = s.refLost := rfl
@[simp] theorem State.modPort_frameAt (n : Nat) (f : PortSt → PortSt) : (s.modPort n f).frameAt = s.frameAt := rfl
@[simp] theorem State.modPort_epochAt (n : Nat) (f : PortSt → PortSt) : (s.modPort n f).epochAt = s.epochAt := rfl
@[simp] theorem State.modPort_loadIn (n : Nat) (f : PortSt → PortSt) : (s.modPort n f).loadIn = s.loadIn := rfl
@[simp] theorem State.modPort_latch (n : Nat) (f : PortSt → PortSt) : (s.modPort n f).latch = s.latch := rfl
@[simp] theorem State.modPort_ticks (n : Nat) (f : PortSt → PortSt) : (s.modPort n f).ticks = s.ticks := rfl
@[simp] theorem State.modPort_regs (n : Nat) (f : PortSt → PortSt) : (s.modPort n f).regs = s.regs := rfl
@[simp] theorem State.modPort_limits (n : Nat) (f : PortSt → PortSt) : (s.modPort n f).limits = s.limits := rfl
@[simp] theorem State.modPort_tiles (n : Nat) (f : PortSt → PortSt) : (s.modPort n f).tiles = s.tiles := rfl
@[simp] theorem State.modPort_seqs (n : Nat) (f : PortSt → PortSt) : (s.modPort n f).seqs = s.seqs := rfl
@[simp] theorem State.modPort_loader (n : Nat) (f : PortSt → PortSt) : (s.modPort n f).loader = s.loader := rfl
@[simp] theorem State.modPort_cs (n : Nat) (f : PortSt → PortSt) : (s.modPort n f).cs = s.cs := rfl
@[simp] theorem State.modPort_csImage (n : Nat) (f : PortSt → PortSt) : (s.modPort n f).csImage = s.csImage := rfl
@[simp] theorem State.modPort_bar2 (n : Nat) (f : PortSt → PortSt) : (s.modPort n f).bar2 = s.bar2 := rfl
@[simp] theorem State.modPort_used (n : Nat) (f : PortSt → PortSt) : (s.modPort n f).used = s.used := rfl
@[simp] theorem State.modPort_rings (n : Nat) (f : PortSt → PortSt) : (s.modPort n f).rings = s.rings := rfl
@[simp] theorem State.modPort_fns (n : Nat) (f : PortSt → PortSt) : (s.modPort n f).fns = s.fns := rfl
@[simp] theorem State.modPort_msix (n : Nat) (f : PortSt → PortSt) : (s.modPort n f).msix = s.msix := rfl
@[simp] theorem State.modPort_ctxCache (n : Nat) (f : PortSt → PortSt) : (s.modPort n f).ctxCache = s.ctxCache := rfl
@[simp] theorem State.modPort_host (n : Nat) (f : PortSt → PortSt) : (s.modPort n f).host = s.host := rfl
@[simp] theorem State.modPort_dram (n : Nat) (f : PortSt → PortSt) : (s.modPort n f).dram = s.dram := rfl
@[simp] theorem State.modPort_dchs (n : Nat) (f : PortSt → PortSt) : (s.modPort n f).dchs = s.dchs := rfl
@[simp] theorem State.modPort_doorbells (n : Nat) (f : PortSt → PortSt) : (s.modPort n f).doorbells = s.doorbells := rfl
@[simp] theorem State.modPort_dwait (n : Nat) (f : PortSt → PortSt) : (s.modPort n f).dwait = s.dwait := rfl
@[simp] theorem State.modPort_dramNvm (n : Nat) (f : PortSt → PortSt) : (s.modPort n f).dramNvm = s.dramNvm := rfl
@[simp] theorem State.modPort_unfreezing (n : Nat) (f : PortSt → PortSt) : (s.modPort n f).unfreezing = s.unfreezing := rfl
@[simp] theorem State.modPort_evchs (n : Nat) (f : PortSt → PortSt) : (s.modPort n f).evchs = s.evchs := rfl
@[simp] theorem State.modPort_evgs (n : Nat) (f : PortSt → PortSt) : (s.modPort n f).evgs = s.evgs := rfl
@[simp] theorem State.modPort_window (n : Nat) (f : PortSt → PortSt) : (s.modPort n f).window = s.window := rfl
@[simp] theorem State.modPort_routes (n : Nat) (f : PortSt → PortSt) : (s.modPort n f).routes = s.routes := rfl
@[simp] theorem State.modPort_tones (n : Nat) (f : PortSt → PortSt) : (s.modPort n f).tones = s.tones := rfl
@[simp] theorem State.modPort_outs (n : Nat) (f : PortSt → PortSt) : (s.modPort n f).outs = s.outs := rfl
@[simp] theorem State.modPort_adcs (n : Nat) (f : PortSt → PortSt) : (s.modPort n f).adcs = s.adcs := rfl
@[simp] theorem State.modPort_routs (n : Nat) (f : PortSt → PortSt) : (s.modPort n f).routs = s.routs := rfl
@[simp] theorem State.modPort_fir (n : Nat) (f : PortSt → PortSt) : (s.modPort n f).fir = s.fir := rfl
@[simp] theorem State.modPort_kernel (n : Nat) (f : PortSt → PortSt) : (s.modPort n f).kernel = s.kernel := rfl
@[simp] theorem State.modPort_lanes (n : Nat) (f : PortSt → PortSt) : (s.modPort n f).lanes = s.lanes := rfl
@[simp] theorem State.modPort_slots (n : Nat) (f : PortSt → PortSt) : (s.modPort n f).slots = s.slots := rfl
@[simp] theorem State.modPort_copies (n : Nat) (f : PortSt → PortSt) : (s.modPort n f).copies = s.copies := rfl
@[simp] theorem State.modPort_slotLog (n : Nat) (f : PortSt → PortSt) : (s.modPort n f).slotLog = s.slotLog := rfl
@[simp] theorem State.modPort_syn (n : Nat) (f : PortSt → PortSt) : (s.modPort n f).syn = s.syn := rfl
@[simp] theorem State.modPort_cmap (n : Nat) (f : PortSt → PortSt) : (s.modPort n f).cmap = s.cmap := rfl
@[simp] theorem State.modPort_mesh (n : Nat) (f : PortSt → PortSt) : (s.modPort n f).mesh = s.mesh := rfl
@[simp] theorem State.modPort_acqs (n : Nat) (f : PortSt → PortSt) : (s.modPort n f).acqs = s.acqs := rfl
@[simp] theorem State.modPort_fluxes (n : Nat) (f : PortSt → PortSt) : (s.modPort n f).fluxes = s.fluxes := rfl
@[simp] theorem State.modPort_nt (n : Nat) (f : PortSt → PortSt) : (s.modPort n f).nt = s.nt := rfl
@[simp] theorem State.modPort_eths (n : Nat) (f : PortSt → PortSt) : (s.modPort n f).eths = s.eths := rfl
@[simp] theorem State.modPort_power (n : Nat) (f : PortSt → PortSt) : (s.modPort n f).power = s.power := rfl
@[simp] theorem State.modPort_therm (n : Nat) (f : PortSt → PortSt) : (s.modPort n f).therm = s.therm := rfl
@[simp] theorem State.modPort_sensors (n : Nat) (f : PortSt → PortSt) : (s.modPort n f).sensors = s.sensors := rfl
@[simp] theorem State.modPort_sfes (n : Nat) (f : PortSt → PortSt) : (s.modPort n f).sfes = s.sfes := rfl
@[simp] theorem State.modPort_cal (n : Nat) (f : PortSt → PortSt) : (s.modPort n f).cal = s.cal := rfl
@[simp] theorem State.modPort_dbgs (n : Nat) (f : PortSt → PortSt) : (s.modPort n f).dbgs = s.dbgs := rfl
@[simp] theorem State.modPort_edges (n : Nat) (f : PortSt → PortSt) : (s.modPort n f).edges = s.edges := rfl
@[simp] theorem State.modPort_errNow (n : Nat) (f : PortSt → PortSt) : (s.modPort n f).errNow = s.errNow := rfl
@[simp] theorem State.modPort_respVal (n : Nat) (f : PortSt → PortSt) : (s.modPort n f).respVal = s.respVal := rfl
@[simp] theorem State.modPort_free (n : Nat) (f : PortSt → PortSt) : (s.modPort n f).free = s.free := rfl
@[simp] theorem State.modPort_pending (n : Nat) (f : PortSt → PortSt) : (s.modPort n f).pending = s.pending := rfl

@[simp] theorem State.port_modPort (n : Nat) (f : PortSt → PortSt) : (s.modPort n f).port n = f (s.port n) :=
  SMap.get_modify_same ..
theorem State.port_modPort_ne {n m : Nat} (f : PortSt → PortSt) (h : m ≠ n) : (s.modPort n f).port m = s.port m :=
  SMap.get_modify_ne _ _ h

/-! ### modAcq -/

@[simp] theorem State.modAcq_count (n : Nat) (f : AcqSt → AcqSt) : (s.modAcq n f).count = s.count := rfl
@[simp] theorem State.modAcq_refLost (n : Nat) (f : AcqSt → AcqSt) : (s.modAcq n f).refLost = s.refLost := rfl
@[simp] theorem State.modAcq_frameAt (n : Nat) (f : AcqSt → AcqSt) : (s.modAcq n f).frameAt = s.frameAt := rfl
@[simp] theorem State.modAcq_epochAt (n : Nat) (f : AcqSt → AcqSt) : (s.modAcq n f).epochAt = s.epochAt := rfl
@[simp] theorem State.modAcq_loadIn (n : Nat) (f : AcqSt → AcqSt) : (s.modAcq n f).loadIn = s.loadIn := rfl
@[simp] theorem State.modAcq_latch (n : Nat) (f : AcqSt → AcqSt) : (s.modAcq n f).latch = s.latch := rfl
@[simp] theorem State.modAcq_ticks (n : Nat) (f : AcqSt → AcqSt) : (s.modAcq n f).ticks = s.ticks := rfl
@[simp] theorem State.modAcq_regs (n : Nat) (f : AcqSt → AcqSt) : (s.modAcq n f).regs = s.regs := rfl
@[simp] theorem State.modAcq_limits (n : Nat) (f : AcqSt → AcqSt) : (s.modAcq n f).limits = s.limits := rfl
@[simp] theorem State.modAcq_tiles (n : Nat) (f : AcqSt → AcqSt) : (s.modAcq n f).tiles = s.tiles := rfl
@[simp] theorem State.modAcq_seqs (n : Nat) (f : AcqSt → AcqSt) : (s.modAcq n f).seqs = s.seqs := rfl
@[simp] theorem State.modAcq_loader (n : Nat) (f : AcqSt → AcqSt) : (s.modAcq n f).loader = s.loader := rfl
@[simp] theorem State.modAcq_cs (n : Nat) (f : AcqSt → AcqSt) : (s.modAcq n f).cs = s.cs := rfl
@[simp] theorem State.modAcq_csImage (n : Nat) (f : AcqSt → AcqSt) : (s.modAcq n f).csImage = s.csImage := rfl
@[simp] theorem State.modAcq_bar2 (n : Nat) (f : AcqSt → AcqSt) : (s.modAcq n f).bar2 = s.bar2 := rfl
@[simp] theorem State.modAcq_used (n : Nat) (f : AcqSt → AcqSt) : (s.modAcq n f).used = s.used := rfl
@[simp] theorem State.modAcq_rings (n : Nat) (f : AcqSt → AcqSt) : (s.modAcq n f).rings = s.rings := rfl
@[simp] theorem State.modAcq_fns (n : Nat) (f : AcqSt → AcqSt) : (s.modAcq n f).fns = s.fns := rfl
@[simp] theorem State.modAcq_msix (n : Nat) (f : AcqSt → AcqSt) : (s.modAcq n f).msix = s.msix := rfl
@[simp] theorem State.modAcq_ctxCache (n : Nat) (f : AcqSt → AcqSt) : (s.modAcq n f).ctxCache = s.ctxCache := rfl
@[simp] theorem State.modAcq_host (n : Nat) (f : AcqSt → AcqSt) : (s.modAcq n f).host = s.host := rfl
@[simp] theorem State.modAcq_dram (n : Nat) (f : AcqSt → AcqSt) : (s.modAcq n f).dram = s.dram := rfl
@[simp] theorem State.modAcq_dchs (n : Nat) (f : AcqSt → AcqSt) : (s.modAcq n f).dchs = s.dchs := rfl
@[simp] theorem State.modAcq_doorbells (n : Nat) (f : AcqSt → AcqSt) : (s.modAcq n f).doorbells = s.doorbells := rfl
@[simp] theorem State.modAcq_dwait (n : Nat) (f : AcqSt → AcqSt) : (s.modAcq n f).dwait = s.dwait := rfl
@[simp] theorem State.modAcq_dramNvm (n : Nat) (f : AcqSt → AcqSt) : (s.modAcq n f).dramNvm = s.dramNvm := rfl
@[simp] theorem State.modAcq_unfreezing (n : Nat) (f : AcqSt → AcqSt) : (s.modAcq n f).unfreezing = s.unfreezing := rfl
@[simp] theorem State.modAcq_evchs (n : Nat) (f : AcqSt → AcqSt) : (s.modAcq n f).evchs = s.evchs := rfl
@[simp] theorem State.modAcq_evgs (n : Nat) (f : AcqSt → AcqSt) : (s.modAcq n f).evgs = s.evgs := rfl
@[simp] theorem State.modAcq_window (n : Nat) (f : AcqSt → AcqSt) : (s.modAcq n f).window = s.window := rfl
@[simp] theorem State.modAcq_routes (n : Nat) (f : AcqSt → AcqSt) : (s.modAcq n f).routes = s.routes := rfl
@[simp] theorem State.modAcq_tones (n : Nat) (f : AcqSt → AcqSt) : (s.modAcq n f).tones = s.tones := rfl
@[simp] theorem State.modAcq_outs (n : Nat) (f : AcqSt → AcqSt) : (s.modAcq n f).outs = s.outs := rfl
@[simp] theorem State.modAcq_adcs (n : Nat) (f : AcqSt → AcqSt) : (s.modAcq n f).adcs = s.adcs := rfl
@[simp] theorem State.modAcq_routs (n : Nat) (f : AcqSt → AcqSt) : (s.modAcq n f).routs = s.routs := rfl
@[simp] theorem State.modAcq_fir (n : Nat) (f : AcqSt → AcqSt) : (s.modAcq n f).fir = s.fir := rfl
@[simp] theorem State.modAcq_kernel (n : Nat) (f : AcqSt → AcqSt) : (s.modAcq n f).kernel = s.kernel := rfl
@[simp] theorem State.modAcq_lanes (n : Nat) (f : AcqSt → AcqSt) : (s.modAcq n f).lanes = s.lanes := rfl
@[simp] theorem State.modAcq_slots (n : Nat) (f : AcqSt → AcqSt) : (s.modAcq n f).slots = s.slots := rfl
@[simp] theorem State.modAcq_copies (n : Nat) (f : AcqSt → AcqSt) : (s.modAcq n f).copies = s.copies := rfl
@[simp] theorem State.modAcq_slotLog (n : Nat) (f : AcqSt → AcqSt) : (s.modAcq n f).slotLog = s.slotLog := rfl
@[simp] theorem State.modAcq_syn (n : Nat) (f : AcqSt → AcqSt) : (s.modAcq n f).syn = s.syn := rfl
@[simp] theorem State.modAcq_cmap (n : Nat) (f : AcqSt → AcqSt) : (s.modAcq n f).cmap = s.cmap := rfl
@[simp] theorem State.modAcq_ports (n : Nat) (f : AcqSt → AcqSt) : (s.modAcq n f).ports = s.ports := rfl
@[simp] theorem State.modAcq_mesh (n : Nat) (f : AcqSt → AcqSt) : (s.modAcq n f).mesh = s.mesh := rfl
@[simp] theorem State.modAcq_fluxes (n : Nat) (f : AcqSt → AcqSt) : (s.modAcq n f).fluxes = s.fluxes := rfl
@[simp] theorem State.modAcq_nt (n : Nat) (f : AcqSt → AcqSt) : (s.modAcq n f).nt = s.nt := rfl
@[simp] theorem State.modAcq_eths (n : Nat) (f : AcqSt → AcqSt) : (s.modAcq n f).eths = s.eths := rfl
@[simp] theorem State.modAcq_power (n : Nat) (f : AcqSt → AcqSt) : (s.modAcq n f).power = s.power := rfl
@[simp] theorem State.modAcq_therm (n : Nat) (f : AcqSt → AcqSt) : (s.modAcq n f).therm = s.therm := rfl
@[simp] theorem State.modAcq_sensors (n : Nat) (f : AcqSt → AcqSt) : (s.modAcq n f).sensors = s.sensors := rfl
@[simp] theorem State.modAcq_sfes (n : Nat) (f : AcqSt → AcqSt) : (s.modAcq n f).sfes = s.sfes := rfl
@[simp] theorem State.modAcq_cal (n : Nat) (f : AcqSt → AcqSt) : (s.modAcq n f).cal = s.cal := rfl
@[simp] theorem State.modAcq_dbgs (n : Nat) (f : AcqSt → AcqSt) : (s.modAcq n f).dbgs = s.dbgs := rfl
@[simp] theorem State.modAcq_edges (n : Nat) (f : AcqSt → AcqSt) : (s.modAcq n f).edges = s.edges := rfl
@[simp] theorem State.modAcq_errNow (n : Nat) (f : AcqSt → AcqSt) : (s.modAcq n f).errNow = s.errNow := rfl
@[simp] theorem State.modAcq_respVal (n : Nat) (f : AcqSt → AcqSt) : (s.modAcq n f).respVal = s.respVal := rfl
@[simp] theorem State.modAcq_free (n : Nat) (f : AcqSt → AcqSt) : (s.modAcq n f).free = s.free := rfl
@[simp] theorem State.modAcq_pending (n : Nat) (f : AcqSt → AcqSt) : (s.modAcq n f).pending = s.pending := rfl

@[simp] theorem State.acqU_modAcq (n : Nat) (f : AcqSt → AcqSt) : (s.modAcq n f).acqU n = f (s.acqU n) :=
  SMap.get_modify_same ..
theorem State.acqU_modAcq_ne {n m : Nat} (f : AcqSt → AcqSt) (h : m ≠ n) : (s.modAcq n f).acqU m = s.acqU m :=
  SMap.get_modify_ne _ _ h

/-! ### modDbg -/

@[simp] theorem State.modDbg_count (n : Nat) (f : DbgSt → DbgSt) : (s.modDbg n f).count = s.count := rfl
@[simp] theorem State.modDbg_refLost (n : Nat) (f : DbgSt → DbgSt) : (s.modDbg n f).refLost = s.refLost := rfl
@[simp] theorem State.modDbg_frameAt (n : Nat) (f : DbgSt → DbgSt) : (s.modDbg n f).frameAt = s.frameAt := rfl
@[simp] theorem State.modDbg_epochAt (n : Nat) (f : DbgSt → DbgSt) : (s.modDbg n f).epochAt = s.epochAt := rfl
@[simp] theorem State.modDbg_loadIn (n : Nat) (f : DbgSt → DbgSt) : (s.modDbg n f).loadIn = s.loadIn := rfl
@[simp] theorem State.modDbg_latch (n : Nat) (f : DbgSt → DbgSt) : (s.modDbg n f).latch = s.latch := rfl
@[simp] theorem State.modDbg_ticks (n : Nat) (f : DbgSt → DbgSt) : (s.modDbg n f).ticks = s.ticks := rfl
@[simp] theorem State.modDbg_regs (n : Nat) (f : DbgSt → DbgSt) : (s.modDbg n f).regs = s.regs := rfl
@[simp] theorem State.modDbg_limits (n : Nat) (f : DbgSt → DbgSt) : (s.modDbg n f).limits = s.limits := rfl
@[simp] theorem State.modDbg_tiles (n : Nat) (f : DbgSt → DbgSt) : (s.modDbg n f).tiles = s.tiles := rfl
@[simp] theorem State.modDbg_seqs (n : Nat) (f : DbgSt → DbgSt) : (s.modDbg n f).seqs = s.seqs := rfl
@[simp] theorem State.modDbg_loader (n : Nat) (f : DbgSt → DbgSt) : (s.modDbg n f).loader = s.loader := rfl
@[simp] theorem State.modDbg_cs (n : Nat) (f : DbgSt → DbgSt) : (s.modDbg n f).cs = s.cs := rfl
@[simp] theorem State.modDbg_csImage (n : Nat) (f : DbgSt → DbgSt) : (s.modDbg n f).csImage = s.csImage := rfl
@[simp] theorem State.modDbg_bar2 (n : Nat) (f : DbgSt → DbgSt) : (s.modDbg n f).bar2 = s.bar2 := rfl
@[simp] theorem State.modDbg_used (n : Nat) (f : DbgSt → DbgSt) : (s.modDbg n f).used = s.used := rfl
@[simp] theorem State.modDbg_rings (n : Nat) (f : DbgSt → DbgSt) : (s.modDbg n f).rings = s.rings := rfl
@[simp] theorem State.modDbg_fns (n : Nat) (f : DbgSt → DbgSt) : (s.modDbg n f).fns = s.fns := rfl
@[simp] theorem State.modDbg_msix (n : Nat) (f : DbgSt → DbgSt) : (s.modDbg n f).msix = s.msix := rfl
@[simp] theorem State.modDbg_ctxCache (n : Nat) (f : DbgSt → DbgSt) : (s.modDbg n f).ctxCache = s.ctxCache := rfl
@[simp] theorem State.modDbg_host (n : Nat) (f : DbgSt → DbgSt) : (s.modDbg n f).host = s.host := rfl
@[simp] theorem State.modDbg_dram (n : Nat) (f : DbgSt → DbgSt) : (s.modDbg n f).dram = s.dram := rfl
@[simp] theorem State.modDbg_dchs (n : Nat) (f : DbgSt → DbgSt) : (s.modDbg n f).dchs = s.dchs := rfl
@[simp] theorem State.modDbg_doorbells (n : Nat) (f : DbgSt → DbgSt) : (s.modDbg n f).doorbells = s.doorbells := rfl
@[simp] theorem State.modDbg_dwait (n : Nat) (f : DbgSt → DbgSt) : (s.modDbg n f).dwait = s.dwait := rfl
@[simp] theorem State.modDbg_dramNvm (n : Nat) (f : DbgSt → DbgSt) : (s.modDbg n f).dramNvm = s.dramNvm := rfl
@[simp] theorem State.modDbg_unfreezing (n : Nat) (f : DbgSt → DbgSt) : (s.modDbg n f).unfreezing = s.unfreezing := rfl
@[simp] theorem State.modDbg_evchs (n : Nat) (f : DbgSt → DbgSt) : (s.modDbg n f).evchs = s.evchs := rfl
@[simp] theorem State.modDbg_evgs (n : Nat) (f : DbgSt → DbgSt) : (s.modDbg n f).evgs = s.evgs := rfl
@[simp] theorem State.modDbg_window (n : Nat) (f : DbgSt → DbgSt) : (s.modDbg n f).window = s.window := rfl
@[simp] theorem State.modDbg_routes (n : Nat) (f : DbgSt → DbgSt) : (s.modDbg n f).routes = s.routes := rfl
@[simp] theorem State.modDbg_tones (n : Nat) (f : DbgSt → DbgSt) : (s.modDbg n f).tones = s.tones := rfl
@[simp] theorem State.modDbg_outs (n : Nat) (f : DbgSt → DbgSt) : (s.modDbg n f).outs = s.outs := rfl
@[simp] theorem State.modDbg_adcs (n : Nat) (f : DbgSt → DbgSt) : (s.modDbg n f).adcs = s.adcs := rfl
@[simp] theorem State.modDbg_routs (n : Nat) (f : DbgSt → DbgSt) : (s.modDbg n f).routs = s.routs := rfl
@[simp] theorem State.modDbg_fir (n : Nat) (f : DbgSt → DbgSt) : (s.modDbg n f).fir = s.fir := rfl
@[simp] theorem State.modDbg_kernel (n : Nat) (f : DbgSt → DbgSt) : (s.modDbg n f).kernel = s.kernel := rfl
@[simp] theorem State.modDbg_lanes (n : Nat) (f : DbgSt → DbgSt) : (s.modDbg n f).lanes = s.lanes := rfl
@[simp] theorem State.modDbg_slots (n : Nat) (f : DbgSt → DbgSt) : (s.modDbg n f).slots = s.slots := rfl
@[simp] theorem State.modDbg_copies (n : Nat) (f : DbgSt → DbgSt) : (s.modDbg n f).copies = s.copies := rfl
@[simp] theorem State.modDbg_slotLog (n : Nat) (f : DbgSt → DbgSt) : (s.modDbg n f).slotLog = s.slotLog := rfl
@[simp] theorem State.modDbg_syn (n : Nat) (f : DbgSt → DbgSt) : (s.modDbg n f).syn = s.syn := rfl
@[simp] theorem State.modDbg_cmap (n : Nat) (f : DbgSt → DbgSt) : (s.modDbg n f).cmap = s.cmap := rfl
@[simp] theorem State.modDbg_ports (n : Nat) (f : DbgSt → DbgSt) : (s.modDbg n f).ports = s.ports := rfl
@[simp] theorem State.modDbg_mesh (n : Nat) (f : DbgSt → DbgSt) : (s.modDbg n f).mesh = s.mesh := rfl
@[simp] theorem State.modDbg_acqs (n : Nat) (f : DbgSt → DbgSt) : (s.modDbg n f).acqs = s.acqs := rfl
@[simp] theorem State.modDbg_fluxes (n : Nat) (f : DbgSt → DbgSt) : (s.modDbg n f).fluxes = s.fluxes := rfl
@[simp] theorem State.modDbg_nt (n : Nat) (f : DbgSt → DbgSt) : (s.modDbg n f).nt = s.nt := rfl
@[simp] theorem State.modDbg_eths (n : Nat) (f : DbgSt → DbgSt) : (s.modDbg n f).eths = s.eths := rfl
@[simp] theorem State.modDbg_power (n : Nat) (f : DbgSt → DbgSt) : (s.modDbg n f).power = s.power := rfl
@[simp] theorem State.modDbg_therm (n : Nat) (f : DbgSt → DbgSt) : (s.modDbg n f).therm = s.therm := rfl
@[simp] theorem State.modDbg_sensors (n : Nat) (f : DbgSt → DbgSt) : (s.modDbg n f).sensors = s.sensors := rfl
@[simp] theorem State.modDbg_sfes (n : Nat) (f : DbgSt → DbgSt) : (s.modDbg n f).sfes = s.sfes := rfl
@[simp] theorem State.modDbg_cal (n : Nat) (f : DbgSt → DbgSt) : (s.modDbg n f).cal = s.cal := rfl
@[simp] theorem State.modDbg_edges (n : Nat) (f : DbgSt → DbgSt) : (s.modDbg n f).edges = s.edges := rfl
@[simp] theorem State.modDbg_errNow (n : Nat) (f : DbgSt → DbgSt) : (s.modDbg n f).errNow = s.errNow := rfl
@[simp] theorem State.modDbg_respVal (n : Nat) (f : DbgSt → DbgSt) : (s.modDbg n f).respVal = s.respVal := rfl
@[simp] theorem State.modDbg_free (n : Nat) (f : DbgSt → DbgSt) : (s.modDbg n f).free = s.free := rfl
@[simp] theorem State.modDbg_pending (n : Nat) (f : DbgSt → DbgSt) : (s.modDbg n f).pending = s.pending := rfl

@[simp] theorem State.dbg_modDbg (n : Nat) (f : DbgSt → DbgSt) : (s.modDbg n f).dbg n = f (s.dbg n) :=
  SMap.get_modify_same ..
theorem State.dbg_modDbg_ne {n m : Nat} (f : DbgSt → DbgSt) (h : m ≠ n) : (s.modDbg n f).dbg m = s.dbg m :=
  SMap.get_modify_ne _ _ h

/-! ### modFlux -/

@[simp] theorem State.modFlux_count (n : Nat) (f : FluxSt → FluxSt) : (s.modFlux n f).count = s.count := rfl
@[simp] theorem State.modFlux_refLost (n : Nat) (f : FluxSt → FluxSt) : (s.modFlux n f).refLost = s.refLost := rfl
@[simp] theorem State.modFlux_frameAt (n : Nat) (f : FluxSt → FluxSt) : (s.modFlux n f).frameAt = s.frameAt := rfl
@[simp] theorem State.modFlux_epochAt (n : Nat) (f : FluxSt → FluxSt) : (s.modFlux n f).epochAt = s.epochAt := rfl
@[simp] theorem State.modFlux_loadIn (n : Nat) (f : FluxSt → FluxSt) : (s.modFlux n f).loadIn = s.loadIn := rfl
@[simp] theorem State.modFlux_latch (n : Nat) (f : FluxSt → FluxSt) : (s.modFlux n f).latch = s.latch := rfl
@[simp] theorem State.modFlux_ticks (n : Nat) (f : FluxSt → FluxSt) : (s.modFlux n f).ticks = s.ticks := rfl
@[simp] theorem State.modFlux_regs (n : Nat) (f : FluxSt → FluxSt) : (s.modFlux n f).regs = s.regs := rfl
@[simp] theorem State.modFlux_limits (n : Nat) (f : FluxSt → FluxSt) : (s.modFlux n f).limits = s.limits := rfl
@[simp] theorem State.modFlux_tiles (n : Nat) (f : FluxSt → FluxSt) : (s.modFlux n f).tiles = s.tiles := rfl
@[simp] theorem State.modFlux_seqs (n : Nat) (f : FluxSt → FluxSt) : (s.modFlux n f).seqs = s.seqs := rfl
@[simp] theorem State.modFlux_loader (n : Nat) (f : FluxSt → FluxSt) : (s.modFlux n f).loader = s.loader := rfl
@[simp] theorem State.modFlux_cs (n : Nat) (f : FluxSt → FluxSt) : (s.modFlux n f).cs = s.cs := rfl
@[simp] theorem State.modFlux_csImage (n : Nat) (f : FluxSt → FluxSt) : (s.modFlux n f).csImage = s.csImage := rfl
@[simp] theorem State.modFlux_bar2 (n : Nat) (f : FluxSt → FluxSt) : (s.modFlux n f).bar2 = s.bar2 := rfl
@[simp] theorem State.modFlux_used (n : Nat) (f : FluxSt → FluxSt) : (s.modFlux n f).used = s.used := rfl
@[simp] theorem State.modFlux_rings (n : Nat) (f : FluxSt → FluxSt) : (s.modFlux n f).rings = s.rings := rfl
@[simp] theorem State.modFlux_fns (n : Nat) (f : FluxSt → FluxSt) : (s.modFlux n f).fns = s.fns := rfl
@[simp] theorem State.modFlux_msix (n : Nat) (f : FluxSt → FluxSt) : (s.modFlux n f).msix = s.msix := rfl
@[simp] theorem State.modFlux_ctxCache (n : Nat) (f : FluxSt → FluxSt) : (s.modFlux n f).ctxCache = s.ctxCache := rfl
@[simp] theorem State.modFlux_host (n : Nat) (f : FluxSt → FluxSt) : (s.modFlux n f).host = s.host := rfl
@[simp] theorem State.modFlux_dram (n : Nat) (f : FluxSt → FluxSt) : (s.modFlux n f).dram = s.dram := rfl
@[simp] theorem State.modFlux_dchs (n : Nat) (f : FluxSt → FluxSt) : (s.modFlux n f).dchs = s.dchs := rfl
@[simp] theorem State.modFlux_doorbells (n : Nat) (f : FluxSt → FluxSt) : (s.modFlux n f).doorbells = s.doorbells := rfl
@[simp] theorem State.modFlux_dwait (n : Nat) (f : FluxSt → FluxSt) : (s.modFlux n f).dwait = s.dwait := rfl
@[simp] theorem State.modFlux_dramNvm (n : Nat) (f : FluxSt → FluxSt) : (s.modFlux n f).dramNvm = s.dramNvm := rfl
@[simp] theorem State.modFlux_unfreezing (n : Nat) (f : FluxSt → FluxSt) : (s.modFlux n f).unfreezing = s.unfreezing := rfl
@[simp] theorem State.modFlux_evchs (n : Nat) (f : FluxSt → FluxSt) : (s.modFlux n f).evchs = s.evchs := rfl
@[simp] theorem State.modFlux_evgs (n : Nat) (f : FluxSt → FluxSt) : (s.modFlux n f).evgs = s.evgs := rfl
@[simp] theorem State.modFlux_window (n : Nat) (f : FluxSt → FluxSt) : (s.modFlux n f).window = s.window := rfl
@[simp] theorem State.modFlux_routes (n : Nat) (f : FluxSt → FluxSt) : (s.modFlux n f).routes = s.routes := rfl
@[simp] theorem State.modFlux_tones (n : Nat) (f : FluxSt → FluxSt) : (s.modFlux n f).tones = s.tones := rfl
@[simp] theorem State.modFlux_outs (n : Nat) (f : FluxSt → FluxSt) : (s.modFlux n f).outs = s.outs := rfl
@[simp] theorem State.modFlux_adcs (n : Nat) (f : FluxSt → FluxSt) : (s.modFlux n f).adcs = s.adcs := rfl
@[simp] theorem State.modFlux_routs (n : Nat) (f : FluxSt → FluxSt) : (s.modFlux n f).routs = s.routs := rfl
@[simp] theorem State.modFlux_fir (n : Nat) (f : FluxSt → FluxSt) : (s.modFlux n f).fir = s.fir := rfl
@[simp] theorem State.modFlux_kernel (n : Nat) (f : FluxSt → FluxSt) : (s.modFlux n f).kernel = s.kernel := rfl
@[simp] theorem State.modFlux_lanes (n : Nat) (f : FluxSt → FluxSt) : (s.modFlux n f).lanes = s.lanes := rfl
@[simp] theorem State.modFlux_slots (n : Nat) (f : FluxSt → FluxSt) : (s.modFlux n f).slots = s.slots := rfl
@[simp] theorem State.modFlux_copies (n : Nat) (f : FluxSt → FluxSt) : (s.modFlux n f).copies = s.copies := rfl
@[simp] theorem State.modFlux_slotLog (n : Nat) (f : FluxSt → FluxSt) : (s.modFlux n f).slotLog = s.slotLog := rfl
@[simp] theorem State.modFlux_syn (n : Nat) (f : FluxSt → FluxSt) : (s.modFlux n f).syn = s.syn := rfl
@[simp] theorem State.modFlux_cmap (n : Nat) (f : FluxSt → FluxSt) : (s.modFlux n f).cmap = s.cmap := rfl
@[simp] theorem State.modFlux_ports (n : Nat) (f : FluxSt → FluxSt) : (s.modFlux n f).ports = s.ports := rfl
@[simp] theorem State.modFlux_mesh (n : Nat) (f : FluxSt → FluxSt) : (s.modFlux n f).mesh = s.mesh := rfl
@[simp] theorem State.modFlux_acqs (n : Nat) (f : FluxSt → FluxSt) : (s.modFlux n f).acqs = s.acqs := rfl
@[simp] theorem State.modFlux_nt (n : Nat) (f : FluxSt → FluxSt) : (s.modFlux n f).nt = s.nt := rfl
@[simp] theorem State.modFlux_eths (n : Nat) (f : FluxSt → FluxSt) : (s.modFlux n f).eths = s.eths := rfl
@[simp] theorem State.modFlux_power (n : Nat) (f : FluxSt → FluxSt) : (s.modFlux n f).power = s.power := rfl
@[simp] theorem State.modFlux_therm (n : Nat) (f : FluxSt → FluxSt) : (s.modFlux n f).therm = s.therm := rfl
@[simp] theorem State.modFlux_sensors (n : Nat) (f : FluxSt → FluxSt) : (s.modFlux n f).sensors = s.sensors := rfl
@[simp] theorem State.modFlux_sfes (n : Nat) (f : FluxSt → FluxSt) : (s.modFlux n f).sfes = s.sfes := rfl
@[simp] theorem State.modFlux_cal (n : Nat) (f : FluxSt → FluxSt) : (s.modFlux n f).cal = s.cal := rfl
@[simp] theorem State.modFlux_dbgs (n : Nat) (f : FluxSt → FluxSt) : (s.modFlux n f).dbgs = s.dbgs := rfl
@[simp] theorem State.modFlux_edges (n : Nat) (f : FluxSt → FluxSt) : (s.modFlux n f).edges = s.edges := rfl
@[simp] theorem State.modFlux_errNow (n : Nat) (f : FluxSt → FluxSt) : (s.modFlux n f).errNow = s.errNow := rfl
@[simp] theorem State.modFlux_respVal (n : Nat) (f : FluxSt → FluxSt) : (s.modFlux n f).respVal = s.respVal := rfl
@[simp] theorem State.modFlux_free (n : Nat) (f : FluxSt → FluxSt) : (s.modFlux n f).free = s.free := rfl
@[simp] theorem State.modFlux_pending (n : Nat) (f : FluxSt → FluxSt) : (s.modFlux n f).pending = s.pending := rfl

@[simp] theorem State.flux_modFlux (n : Nat) (f : FluxSt → FluxSt) : (s.modFlux n f).flux n = f (s.flux n) :=
  SMap.get_modify_same ..
theorem State.flux_modFlux_ne {n m : Nat} (f : FluxSt → FluxSt) (h : m ≠ n) : (s.modFlux n f).flux m = s.flux m :=
  SMap.get_modify_ne _ _ h

/-! ### modEth -/

@[simp] theorem State.modEth_count (n : Nat) (f : EthSt → EthSt) : (s.modEth n f).count = s.count := rfl
@[simp] theorem State.modEth_refLost (n : Nat) (f : EthSt → EthSt) : (s.modEth n f).refLost = s.refLost := rfl
@[simp] theorem State.modEth_frameAt (n : Nat) (f : EthSt → EthSt) : (s.modEth n f).frameAt = s.frameAt := rfl
@[simp] theorem State.modEth_epochAt (n : Nat) (f : EthSt → EthSt) : (s.modEth n f).epochAt = s.epochAt := rfl
@[simp] theorem State.modEth_loadIn (n : Nat) (f : EthSt → EthSt) : (s.modEth n f).loadIn = s.loadIn := rfl
@[simp] theorem State.modEth_latch (n : Nat) (f : EthSt → EthSt) : (s.modEth n f).latch = s.latch := rfl
@[simp] theorem State.modEth_ticks (n : Nat) (f : EthSt → EthSt) : (s.modEth n f).ticks = s.ticks := rfl
@[simp] theorem State.modEth_regs (n : Nat) (f : EthSt → EthSt) : (s.modEth n f).regs = s.regs := rfl
@[simp] theorem State.modEth_limits (n : Nat) (f : EthSt → EthSt) : (s.modEth n f).limits = s.limits := rfl
@[simp] theorem State.modEth_tiles (n : Nat) (f : EthSt → EthSt) : (s.modEth n f).tiles = s.tiles := rfl
@[simp] theorem State.modEth_seqs (n : Nat) (f : EthSt → EthSt) : (s.modEth n f).seqs = s.seqs := rfl
@[simp] theorem State.modEth_loader (n : Nat) (f : EthSt → EthSt) : (s.modEth n f).loader = s.loader := rfl
@[simp] theorem State.modEth_cs (n : Nat) (f : EthSt → EthSt) : (s.modEth n f).cs = s.cs := rfl
@[simp] theorem State.modEth_csImage (n : Nat) (f : EthSt → EthSt) : (s.modEth n f).csImage = s.csImage := rfl
@[simp] theorem State.modEth_bar2 (n : Nat) (f : EthSt → EthSt) : (s.modEth n f).bar2 = s.bar2 := rfl
@[simp] theorem State.modEth_used (n : Nat) (f : EthSt → EthSt) : (s.modEth n f).used = s.used := rfl
@[simp] theorem State.modEth_rings (n : Nat) (f : EthSt → EthSt) : (s.modEth n f).rings = s.rings := rfl
@[simp] theorem State.modEth_fns (n : Nat) (f : EthSt → EthSt) : (s.modEth n f).fns = s.fns := rfl
@[simp] theorem State.modEth_msix (n : Nat) (f : EthSt → EthSt) : (s.modEth n f).msix = s.msix := rfl
@[simp] theorem State.modEth_ctxCache (n : Nat) (f : EthSt → EthSt) : (s.modEth n f).ctxCache = s.ctxCache := rfl
@[simp] theorem State.modEth_host (n : Nat) (f : EthSt → EthSt) : (s.modEth n f).host = s.host := rfl
@[simp] theorem State.modEth_dram (n : Nat) (f : EthSt → EthSt) : (s.modEth n f).dram = s.dram := rfl
@[simp] theorem State.modEth_dchs (n : Nat) (f : EthSt → EthSt) : (s.modEth n f).dchs = s.dchs := rfl
@[simp] theorem State.modEth_doorbells (n : Nat) (f : EthSt → EthSt) : (s.modEth n f).doorbells = s.doorbells := rfl
@[simp] theorem State.modEth_dwait (n : Nat) (f : EthSt → EthSt) : (s.modEth n f).dwait = s.dwait := rfl
@[simp] theorem State.modEth_dramNvm (n : Nat) (f : EthSt → EthSt) : (s.modEth n f).dramNvm = s.dramNvm := rfl
@[simp] theorem State.modEth_unfreezing (n : Nat) (f : EthSt → EthSt) : (s.modEth n f).unfreezing = s.unfreezing := rfl
@[simp] theorem State.modEth_evchs (n : Nat) (f : EthSt → EthSt) : (s.modEth n f).evchs = s.evchs := rfl
@[simp] theorem State.modEth_evgs (n : Nat) (f : EthSt → EthSt) : (s.modEth n f).evgs = s.evgs := rfl
@[simp] theorem State.modEth_window (n : Nat) (f : EthSt → EthSt) : (s.modEth n f).window = s.window := rfl
@[simp] theorem State.modEth_routes (n : Nat) (f : EthSt → EthSt) : (s.modEth n f).routes = s.routes := rfl
@[simp] theorem State.modEth_tones (n : Nat) (f : EthSt → EthSt) : (s.modEth n f).tones = s.tones := rfl
@[simp] theorem State.modEth_outs (n : Nat) (f : EthSt → EthSt) : (s.modEth n f).outs = s.outs := rfl
@[simp] theorem State.modEth_adcs (n : Nat) (f : EthSt → EthSt) : (s.modEth n f).adcs = s.adcs := rfl
@[simp] theorem State.modEth_routs (n : Nat) (f : EthSt → EthSt) : (s.modEth n f).routs = s.routs := rfl
@[simp] theorem State.modEth_fir (n : Nat) (f : EthSt → EthSt) : (s.modEth n f).fir = s.fir := rfl
@[simp] theorem State.modEth_kernel (n : Nat) (f : EthSt → EthSt) : (s.modEth n f).kernel = s.kernel := rfl
@[simp] theorem State.modEth_lanes (n : Nat) (f : EthSt → EthSt) : (s.modEth n f).lanes = s.lanes := rfl
@[simp] theorem State.modEth_slots (n : Nat) (f : EthSt → EthSt) : (s.modEth n f).slots = s.slots := rfl
@[simp] theorem State.modEth_copies (n : Nat) (f : EthSt → EthSt) : (s.modEth n f).copies = s.copies := rfl
@[simp] theorem State.modEth_slotLog (n : Nat) (f : EthSt → EthSt) : (s.modEth n f).slotLog = s.slotLog := rfl
@[simp] theorem State.modEth_syn (n : Nat) (f : EthSt → EthSt) : (s.modEth n f).syn = s.syn := rfl
@[simp] theorem State.modEth_cmap (n : Nat) (f : EthSt → EthSt) : (s.modEth n f).cmap = s.cmap := rfl
@[simp] theorem State.modEth_ports (n : Nat) (f : EthSt → EthSt) : (s.modEth n f).ports = s.ports := rfl
@[simp] theorem State.modEth_mesh (n : Nat) (f : EthSt → EthSt) : (s.modEth n f).mesh = s.mesh := rfl
@[simp] theorem State.modEth_acqs (n : Nat) (f : EthSt → EthSt) : (s.modEth n f).acqs = s.acqs := rfl
@[simp] theorem State.modEth_fluxes (n : Nat) (f : EthSt → EthSt) : (s.modEth n f).fluxes = s.fluxes := rfl
@[simp] theorem State.modEth_nt (n : Nat) (f : EthSt → EthSt) : (s.modEth n f).nt = s.nt := rfl
@[simp] theorem State.modEth_power (n : Nat) (f : EthSt → EthSt) : (s.modEth n f).power = s.power := rfl
@[simp] theorem State.modEth_therm (n : Nat) (f : EthSt → EthSt) : (s.modEth n f).therm = s.therm := rfl
@[simp] theorem State.modEth_sensors (n : Nat) (f : EthSt → EthSt) : (s.modEth n f).sensors = s.sensors := rfl
@[simp] theorem State.modEth_sfes (n : Nat) (f : EthSt → EthSt) : (s.modEth n f).sfes = s.sfes := rfl
@[simp] theorem State.modEth_cal (n : Nat) (f : EthSt → EthSt) : (s.modEth n f).cal = s.cal := rfl
@[simp] theorem State.modEth_dbgs (n : Nat) (f : EthSt → EthSt) : (s.modEth n f).dbgs = s.dbgs := rfl
@[simp] theorem State.modEth_edges (n : Nat) (f : EthSt → EthSt) : (s.modEth n f).edges = s.edges := rfl
@[simp] theorem State.modEth_errNow (n : Nat) (f : EthSt → EthSt) : (s.modEth n f).errNow = s.errNow := rfl
@[simp] theorem State.modEth_respVal (n : Nat) (f : EthSt → EthSt) : (s.modEth n f).respVal = s.respVal := rfl
@[simp] theorem State.modEth_free (n : Nat) (f : EthSt → EthSt) : (s.modEth n f).free = s.free := rfl
@[simp] theorem State.modEth_pending (n : Nat) (f : EthSt → EthSt) : (s.modEth n f).pending = s.pending := rfl

@[simp] theorem State.eth_modEth (n : Nat) (f : EthSt → EthSt) : (s.modEth n f).eth n = f (s.eth n) :=
  SMap.get_modify_same ..
theorem State.eth_modEth_ne {n m : Nat} (f : EthSt → EthSt) (h : m ≠ n) : (s.modEth n f).eth m = s.eth m :=
  SMap.get_modify_ne _ _ h

/-! ### modSensor -/

@[simp] theorem State.modSensor_count (n : Nat) (f : SensorSt → SensorSt) : (s.modSensor n f).count = s.count := rfl
@[simp] theorem State.modSensor_refLost (n : Nat) (f : SensorSt → SensorSt) : (s.modSensor n f).refLost = s.refLost := rfl
@[simp] theorem State.modSensor_frameAt (n : Nat) (f : SensorSt → SensorSt) : (s.modSensor n f).frameAt = s.frameAt := rfl
@[simp] theorem State.modSensor_epochAt (n : Nat) (f : SensorSt → SensorSt) : (s.modSensor n f).epochAt = s.epochAt := rfl
@[simp] theorem State.modSensor_loadIn (n : Nat) (f : SensorSt → SensorSt) : (s.modSensor n f).loadIn = s.loadIn := rfl
@[simp] theorem State.modSensor_latch (n : Nat) (f : SensorSt → SensorSt) : (s.modSensor n f).latch = s.latch := rfl
@[simp] theorem State.modSensor_ticks (n : Nat) (f : SensorSt → SensorSt) : (s.modSensor n f).ticks = s.ticks := rfl
@[simp] theorem State.modSensor_regs (n : Nat) (f : SensorSt → SensorSt) : (s.modSensor n f).regs = s.regs := rfl
@[simp] theorem State.modSensor_limits (n : Nat) (f : SensorSt → SensorSt) : (s.modSensor n f).limits = s.limits := rfl
@[simp] theorem State.modSensor_tiles (n : Nat) (f : SensorSt → SensorSt) : (s.modSensor n f).tiles = s.tiles := rfl
@[simp] theorem State.modSensor_seqs (n : Nat) (f : SensorSt → SensorSt) : (s.modSensor n f).seqs = s.seqs := rfl
@[simp] theorem State.modSensor_loader (n : Nat) (f : SensorSt → SensorSt) : (s.modSensor n f).loader = s.loader := rfl
@[simp] theorem State.modSensor_cs (n : Nat) (f : SensorSt → SensorSt) : (s.modSensor n f).cs = s.cs := rfl
@[simp] theorem State.modSensor_csImage (n : Nat) (f : SensorSt → SensorSt) : (s.modSensor n f).csImage = s.csImage := rfl
@[simp] theorem State.modSensor_bar2 (n : Nat) (f : SensorSt → SensorSt) : (s.modSensor n f).bar2 = s.bar2 := rfl
@[simp] theorem State.modSensor_used (n : Nat) (f : SensorSt → SensorSt) : (s.modSensor n f).used = s.used := rfl
@[simp] theorem State.modSensor_rings (n : Nat) (f : SensorSt → SensorSt) : (s.modSensor n f).rings = s.rings := rfl
@[simp] theorem State.modSensor_fns (n : Nat) (f : SensorSt → SensorSt) : (s.modSensor n f).fns = s.fns := rfl
@[simp] theorem State.modSensor_msix (n : Nat) (f : SensorSt → SensorSt) : (s.modSensor n f).msix = s.msix := rfl
@[simp] theorem State.modSensor_ctxCache (n : Nat) (f : SensorSt → SensorSt) : (s.modSensor n f).ctxCache = s.ctxCache := rfl
@[simp] theorem State.modSensor_host (n : Nat) (f : SensorSt → SensorSt) : (s.modSensor n f).host = s.host := rfl
@[simp] theorem State.modSensor_dram (n : Nat) (f : SensorSt → SensorSt) : (s.modSensor n f).dram = s.dram := rfl
@[simp] theorem State.modSensor_dchs (n : Nat) (f : SensorSt → SensorSt) : (s.modSensor n f).dchs = s.dchs := rfl
@[simp] theorem State.modSensor_doorbells (n : Nat) (f : SensorSt → SensorSt) : (s.modSensor n f).doorbells = s.doorbells := rfl
@[simp] theorem State.modSensor_dwait (n : Nat) (f : SensorSt → SensorSt) : (s.modSensor n f).dwait = s.dwait := rfl
@[simp] theorem State.modSensor_dramNvm (n : Nat) (f : SensorSt → SensorSt) : (s.modSensor n f).dramNvm = s.dramNvm := rfl
@[simp] theorem State.modSensor_unfreezing (n : Nat) (f : SensorSt → SensorSt) : (s.modSensor n f).unfreezing = s.unfreezing := rfl
@[simp] theorem State.modSensor_evchs (n : Nat) (f : SensorSt → SensorSt) : (s.modSensor n f).evchs = s.evchs := rfl
@[simp] theorem State.modSensor_evgs (n : Nat) (f : SensorSt → SensorSt) : (s.modSensor n f).evgs = s.evgs := rfl
@[simp] theorem State.modSensor_window (n : Nat) (f : SensorSt → SensorSt) : (s.modSensor n f).window = s.window := rfl
@[simp] theorem State.modSensor_routes (n : Nat) (f : SensorSt → SensorSt) : (s.modSensor n f).routes = s.routes := rfl
@[simp] theorem State.modSensor_tones (n : Nat) (f : SensorSt → SensorSt) : (s.modSensor n f).tones = s.tones := rfl
@[simp] theorem State.modSensor_outs (n : Nat) (f : SensorSt → SensorSt) : (s.modSensor n f).outs = s.outs := rfl
@[simp] theorem State.modSensor_adcs (n : Nat) (f : SensorSt → SensorSt) : (s.modSensor n f).adcs = s.adcs := rfl
@[simp] theorem State.modSensor_routs (n : Nat) (f : SensorSt → SensorSt) : (s.modSensor n f).routs = s.routs := rfl
@[simp] theorem State.modSensor_fir (n : Nat) (f : SensorSt → SensorSt) : (s.modSensor n f).fir = s.fir := rfl
@[simp] theorem State.modSensor_kernel (n : Nat) (f : SensorSt → SensorSt) : (s.modSensor n f).kernel = s.kernel := rfl
@[simp] theorem State.modSensor_lanes (n : Nat) (f : SensorSt → SensorSt) : (s.modSensor n f).lanes = s.lanes := rfl
@[simp] theorem State.modSensor_slots (n : Nat) (f : SensorSt → SensorSt) : (s.modSensor n f).slots = s.slots := rfl
@[simp] theorem State.modSensor_copies (n : Nat) (f : SensorSt → SensorSt) : (s.modSensor n f).copies = s.copies := rfl
@[simp] theorem State.modSensor_slotLog (n : Nat) (f : SensorSt → SensorSt) : (s.modSensor n f).slotLog = s.slotLog := rfl
@[simp] theorem State.modSensor_syn (n : Nat) (f : SensorSt → SensorSt) : (s.modSensor n f).syn = s.syn := rfl
@[simp] theorem State.modSensor_cmap (n : Nat) (f : SensorSt → SensorSt) : (s.modSensor n f).cmap = s.cmap := rfl
@[simp] theorem State.modSensor_ports (n : Nat) (f : SensorSt → SensorSt) : (s.modSensor n f).ports = s.ports := rfl
@[simp] theorem State.modSensor_mesh (n : Nat) (f : SensorSt → SensorSt) : (s.modSensor n f).mesh = s.mesh := rfl
@[simp] theorem State.modSensor_acqs (n : Nat) (f : SensorSt → SensorSt) : (s.modSensor n f).acqs = s.acqs := rfl
@[simp] theorem State.modSensor_fluxes (n : Nat) (f : SensorSt → SensorSt) : (s.modSensor n f).fluxes = s.fluxes := rfl
@[simp] theorem State.modSensor_nt (n : Nat) (f : SensorSt → SensorSt) : (s.modSensor n f).nt = s.nt := rfl
@[simp] theorem State.modSensor_eths (n : Nat) (f : SensorSt → SensorSt) : (s.modSensor n f).eths = s.eths := rfl
@[simp] theorem State.modSensor_power (n : Nat) (f : SensorSt → SensorSt) : (s.modSensor n f).power = s.power := rfl
@[simp] theorem State.modSensor_therm (n : Nat) (f : SensorSt → SensorSt) : (s.modSensor n f).therm = s.therm := rfl
@[simp] theorem State.modSensor_sfes (n : Nat) (f : SensorSt → SensorSt) : (s.modSensor n f).sfes = s.sfes := rfl
@[simp] theorem State.modSensor_cal (n : Nat) (f : SensorSt → SensorSt) : (s.modSensor n f).cal = s.cal := rfl
@[simp] theorem State.modSensor_dbgs (n : Nat) (f : SensorSt → SensorSt) : (s.modSensor n f).dbgs = s.dbgs := rfl
@[simp] theorem State.modSensor_edges (n : Nat) (f : SensorSt → SensorSt) : (s.modSensor n f).edges = s.edges := rfl
@[simp] theorem State.modSensor_errNow (n : Nat) (f : SensorSt → SensorSt) : (s.modSensor n f).errNow = s.errNow := rfl
@[simp] theorem State.modSensor_respVal (n : Nat) (f : SensorSt → SensorSt) : (s.modSensor n f).respVal = s.respVal := rfl
@[simp] theorem State.modSensor_free (n : Nat) (f : SensorSt → SensorSt) : (s.modSensor n f).free = s.free := rfl
@[simp] theorem State.modSensor_pending (n : Nat) (f : SensorSt → SensorSt) : (s.modSensor n f).pending = s.pending := rfl

@[simp] theorem State.sensor_modSensor (n : Nat) (f : SensorSt → SensorSt) : (s.modSensor n f).sensor n = f (s.sensor n) :=
  SMap.get_modify_same ..
theorem State.sensor_modSensor_ne {n m : Nat} (f : SensorSt → SensorSt) (h : m ≠ n) : (s.modSensor n f).sensor m = s.sensor m :=
  SMap.get_modify_ne _ _ h

/-! ### modSfe -/

@[simp] theorem State.modSfe_count (n : Nat) (f : SfeSt → SfeSt) : (s.modSfe n f).count = s.count := rfl
@[simp] theorem State.modSfe_refLost (n : Nat) (f : SfeSt → SfeSt) : (s.modSfe n f).refLost = s.refLost := rfl
@[simp] theorem State.modSfe_frameAt (n : Nat) (f : SfeSt → SfeSt) : (s.modSfe n f).frameAt = s.frameAt := rfl
@[simp] theorem State.modSfe_epochAt (n : Nat) (f : SfeSt → SfeSt) : (s.modSfe n f).epochAt = s.epochAt := rfl
@[simp] theorem State.modSfe_loadIn (n : Nat) (f : SfeSt → SfeSt) : (s.modSfe n f).loadIn = s.loadIn := rfl
@[simp] theorem State.modSfe_latch (n : Nat) (f : SfeSt → SfeSt) : (s.modSfe n f).latch = s.latch := rfl
@[simp] theorem State.modSfe_ticks (n : Nat) (f : SfeSt → SfeSt) : (s.modSfe n f).ticks = s.ticks := rfl
@[simp] theorem State.modSfe_regs (n : Nat) (f : SfeSt → SfeSt) : (s.modSfe n f).regs = s.regs := rfl
@[simp] theorem State.modSfe_limits (n : Nat) (f : SfeSt → SfeSt) : (s.modSfe n f).limits = s.limits := rfl
@[simp] theorem State.modSfe_tiles (n : Nat) (f : SfeSt → SfeSt) : (s.modSfe n f).tiles = s.tiles := rfl
@[simp] theorem State.modSfe_seqs (n : Nat) (f : SfeSt → SfeSt) : (s.modSfe n f).seqs = s.seqs := rfl
@[simp] theorem State.modSfe_loader (n : Nat) (f : SfeSt → SfeSt) : (s.modSfe n f).loader = s.loader := rfl
@[simp] theorem State.modSfe_cs (n : Nat) (f : SfeSt → SfeSt) : (s.modSfe n f).cs = s.cs := rfl
@[simp] theorem State.modSfe_csImage (n : Nat) (f : SfeSt → SfeSt) : (s.modSfe n f).csImage = s.csImage := rfl
@[simp] theorem State.modSfe_bar2 (n : Nat) (f : SfeSt → SfeSt) : (s.modSfe n f).bar2 = s.bar2 := rfl
@[simp] theorem State.modSfe_used (n : Nat) (f : SfeSt → SfeSt) : (s.modSfe n f).used = s.used := rfl
@[simp] theorem State.modSfe_rings (n : Nat) (f : SfeSt → SfeSt) : (s.modSfe n f).rings = s.rings := rfl
@[simp] theorem State.modSfe_fns (n : Nat) (f : SfeSt → SfeSt) : (s.modSfe n f).fns = s.fns := rfl
@[simp] theorem State.modSfe_msix (n : Nat) (f : SfeSt → SfeSt) : (s.modSfe n f).msix = s.msix := rfl
@[simp] theorem State.modSfe_ctxCache (n : Nat) (f : SfeSt → SfeSt) : (s.modSfe n f).ctxCache = s.ctxCache := rfl
@[simp] theorem State.modSfe_host (n : Nat) (f : SfeSt → SfeSt) : (s.modSfe n f).host = s.host := rfl
@[simp] theorem State.modSfe_dram (n : Nat) (f : SfeSt → SfeSt) : (s.modSfe n f).dram = s.dram := rfl
@[simp] theorem State.modSfe_dchs (n : Nat) (f : SfeSt → SfeSt) : (s.modSfe n f).dchs = s.dchs := rfl
@[simp] theorem State.modSfe_doorbells (n : Nat) (f : SfeSt → SfeSt) : (s.modSfe n f).doorbells = s.doorbells := rfl
@[simp] theorem State.modSfe_dwait (n : Nat) (f : SfeSt → SfeSt) : (s.modSfe n f).dwait = s.dwait := rfl
@[simp] theorem State.modSfe_dramNvm (n : Nat) (f : SfeSt → SfeSt) : (s.modSfe n f).dramNvm = s.dramNvm := rfl
@[simp] theorem State.modSfe_unfreezing (n : Nat) (f : SfeSt → SfeSt) : (s.modSfe n f).unfreezing = s.unfreezing := rfl
@[simp] theorem State.modSfe_evchs (n : Nat) (f : SfeSt → SfeSt) : (s.modSfe n f).evchs = s.evchs := rfl
@[simp] theorem State.modSfe_evgs (n : Nat) (f : SfeSt → SfeSt) : (s.modSfe n f).evgs = s.evgs := rfl
@[simp] theorem State.modSfe_window (n : Nat) (f : SfeSt → SfeSt) : (s.modSfe n f).window = s.window := rfl
@[simp] theorem State.modSfe_routes (n : Nat) (f : SfeSt → SfeSt) : (s.modSfe n f).routes = s.routes := rfl
@[simp] theorem State.modSfe_tones (n : Nat) (f : SfeSt → SfeSt) : (s.modSfe n f).tones = s.tones := rfl
@[simp] theorem State.modSfe_outs (n : Nat) (f : SfeSt → SfeSt) : (s.modSfe n f).outs = s.outs := rfl
@[simp] theorem State.modSfe_adcs (n : Nat) (f : SfeSt → SfeSt) : (s.modSfe n f).adcs = s.adcs := rfl
@[simp] theorem State.modSfe_routs (n : Nat) (f : SfeSt → SfeSt) : (s.modSfe n f).routs = s.routs := rfl
@[simp] theorem State.modSfe_fir (n : Nat) (f : SfeSt → SfeSt) : (s.modSfe n f).fir = s.fir := rfl
@[simp] theorem State.modSfe_kernel (n : Nat) (f : SfeSt → SfeSt) : (s.modSfe n f).kernel = s.kernel := rfl
@[simp] theorem State.modSfe_lanes (n : Nat) (f : SfeSt → SfeSt) : (s.modSfe n f).lanes = s.lanes := rfl
@[simp] theorem State.modSfe_slots (n : Nat) (f : SfeSt → SfeSt) : (s.modSfe n f).slots = s.slots := rfl
@[simp] theorem State.modSfe_copies (n : Nat) (f : SfeSt → SfeSt) : (s.modSfe n f).copies = s.copies := rfl
@[simp] theorem State.modSfe_slotLog (n : Nat) (f : SfeSt → SfeSt) : (s.modSfe n f).slotLog = s.slotLog := rfl
@[simp] theorem State.modSfe_syn (n : Nat) (f : SfeSt → SfeSt) : (s.modSfe n f).syn = s.syn := rfl
@[simp] theorem State.modSfe_cmap (n : Nat) (f : SfeSt → SfeSt) : (s.modSfe n f).cmap = s.cmap := rfl
@[simp] theorem State.modSfe_ports (n : Nat) (f : SfeSt → SfeSt) : (s.modSfe n f).ports = s.ports := rfl
@[simp] theorem State.modSfe_mesh (n : Nat) (f : SfeSt → SfeSt) : (s.modSfe n f).mesh = s.mesh := rfl
@[simp] theorem State.modSfe_acqs (n : Nat) (f : SfeSt → SfeSt) : (s.modSfe n f).acqs = s.acqs := rfl
@[simp] theorem State.modSfe_fluxes (n : Nat) (f : SfeSt → SfeSt) : (s.modSfe n f).fluxes = s.fluxes := rfl
@[simp] theorem State.modSfe_nt (n : Nat) (f : SfeSt → SfeSt) : (s.modSfe n f).nt = s.nt := rfl
@[simp] theorem State.modSfe_eths (n : Nat) (f : SfeSt → SfeSt) : (s.modSfe n f).eths = s.eths := rfl
@[simp] theorem State.modSfe_power (n : Nat) (f : SfeSt → SfeSt) : (s.modSfe n f).power = s.power := rfl
@[simp] theorem State.modSfe_therm (n : Nat) (f : SfeSt → SfeSt) : (s.modSfe n f).therm = s.therm := rfl
@[simp] theorem State.modSfe_sensors (n : Nat) (f : SfeSt → SfeSt) : (s.modSfe n f).sensors = s.sensors := rfl
@[simp] theorem State.modSfe_cal (n : Nat) (f : SfeSt → SfeSt) : (s.modSfe n f).cal = s.cal := rfl
@[simp] theorem State.modSfe_dbgs (n : Nat) (f : SfeSt → SfeSt) : (s.modSfe n f).dbgs = s.dbgs := rfl
@[simp] theorem State.modSfe_edges (n : Nat) (f : SfeSt → SfeSt) : (s.modSfe n f).edges = s.edges := rfl
@[simp] theorem State.modSfe_errNow (n : Nat) (f : SfeSt → SfeSt) : (s.modSfe n f).errNow = s.errNow := rfl
@[simp] theorem State.modSfe_respVal (n : Nat) (f : SfeSt → SfeSt) : (s.modSfe n f).respVal = s.respVal := rfl
@[simp] theorem State.modSfe_free (n : Nat) (f : SfeSt → SfeSt) : (s.modSfe n f).free = s.free := rfl
@[simp] theorem State.modSfe_pending (n : Nat) (f : SfeSt → SfeSt) : (s.modSfe n f).pending = s.pending := rfl

@[simp] theorem State.sfe_modSfe (n : Nat) (f : SfeSt → SfeSt) : (s.modSfe n f).sfe n = f (s.sfe n) :=
  SMap.get_modify_same ..
theorem State.sfe_modSfe_ne {n m : Nat} (f : SfeSt → SfeSt) (h : m ≠ n) : (s.modSfe n f).sfe m = s.sfe m :=
  SMap.get_modify_ne _ _ h

/-! ### modPower -/

@[simp] theorem State.modPower_count (f : PowerSt → PowerSt) : (s.modPower f).count = s.count := rfl
@[simp] theorem State.modPower_refLost (f : PowerSt → PowerSt) : (s.modPower f).refLost = s.refLost := rfl
@[simp] theorem State.modPower_frameAt (f : PowerSt → PowerSt) : (s.modPower f).frameAt = s.frameAt := rfl
@[simp] theorem State.modPower_epochAt (f : PowerSt → PowerSt) : (s.modPower f).epochAt = s.epochAt := rfl
@[simp] theorem State.modPower_loadIn (f : PowerSt → PowerSt) : (s.modPower f).loadIn = s.loadIn := rfl
@[simp] theorem State.modPower_latch (f : PowerSt → PowerSt) : (s.modPower f).latch = s.latch := rfl
@[simp] theorem State.modPower_ticks (f : PowerSt → PowerSt) : (s.modPower f).ticks = s.ticks := rfl
@[simp] theorem State.modPower_regs (f : PowerSt → PowerSt) : (s.modPower f).regs = s.regs := rfl
@[simp] theorem State.modPower_limits (f : PowerSt → PowerSt) : (s.modPower f).limits = s.limits := rfl
@[simp] theorem State.modPower_tiles (f : PowerSt → PowerSt) : (s.modPower f).tiles = s.tiles := rfl
@[simp] theorem State.modPower_seqs (f : PowerSt → PowerSt) : (s.modPower f).seqs = s.seqs := rfl
@[simp] theorem State.modPower_loader (f : PowerSt → PowerSt) : (s.modPower f).loader = s.loader := rfl
@[simp] theorem State.modPower_cs (f : PowerSt → PowerSt) : (s.modPower f).cs = s.cs := rfl
@[simp] theorem State.modPower_csImage (f : PowerSt → PowerSt) : (s.modPower f).csImage = s.csImage := rfl
@[simp] theorem State.modPower_bar2 (f : PowerSt → PowerSt) : (s.modPower f).bar2 = s.bar2 := rfl
@[simp] theorem State.modPower_used (f : PowerSt → PowerSt) : (s.modPower f).used = s.used := rfl
@[simp] theorem State.modPower_rings (f : PowerSt → PowerSt) : (s.modPower f).rings = s.rings := rfl
@[simp] theorem State.modPower_fns (f : PowerSt → PowerSt) : (s.modPower f).fns = s.fns := rfl
@[simp] theorem State.modPower_msix (f : PowerSt → PowerSt) : (s.modPower f).msix = s.msix := rfl
@[simp] theorem State.modPower_ctxCache (f : PowerSt → PowerSt) : (s.modPower f).ctxCache = s.ctxCache := rfl
@[simp] theorem State.modPower_host (f : PowerSt → PowerSt) : (s.modPower f).host = s.host := rfl
@[simp] theorem State.modPower_dram (f : PowerSt → PowerSt) : (s.modPower f).dram = s.dram := rfl
@[simp] theorem State.modPower_dchs (f : PowerSt → PowerSt) : (s.modPower f).dchs = s.dchs := rfl
@[simp] theorem State.modPower_doorbells (f : PowerSt → PowerSt) : (s.modPower f).doorbells = s.doorbells := rfl
@[simp] theorem State.modPower_dwait (f : PowerSt → PowerSt) : (s.modPower f).dwait = s.dwait := rfl
@[simp] theorem State.modPower_dramNvm (f : PowerSt → PowerSt) : (s.modPower f).dramNvm = s.dramNvm := rfl
@[simp] theorem State.modPower_unfreezing (f : PowerSt → PowerSt) : (s.modPower f).unfreezing = s.unfreezing := rfl
@[simp] theorem State.modPower_evchs (f : PowerSt → PowerSt) : (s.modPower f).evchs = s.evchs := rfl
@[simp] theorem State.modPower_evgs (f : PowerSt → PowerSt) : (s.modPower f).evgs = s.evgs := rfl
@[simp] theorem State.modPower_window (f : PowerSt → PowerSt) : (s.modPower f).window = s.window := rfl
@[simp] theorem State.modPower_routes (f : PowerSt → PowerSt) : (s.modPower f).routes = s.routes := rfl
@[simp] theorem State.modPower_tones (f : PowerSt → PowerSt) : (s.modPower f).tones = s.tones := rfl
@[simp] theorem State.modPower_outs (f : PowerSt → PowerSt) : (s.modPower f).outs = s.outs := rfl
@[simp] theorem State.modPower_adcs (f : PowerSt → PowerSt) : (s.modPower f).adcs = s.adcs := rfl
@[simp] theorem State.modPower_routs (f : PowerSt → PowerSt) : (s.modPower f).routs = s.routs := rfl
@[simp] theorem State.modPower_fir (f : PowerSt → PowerSt) : (s.modPower f).fir = s.fir := rfl
@[simp] theorem State.modPower_kernel (f : PowerSt → PowerSt) : (s.modPower f).kernel = s.kernel := rfl
@[simp] theorem State.modPower_lanes (f : PowerSt → PowerSt) : (s.modPower f).lanes = s.lanes := rfl
@[simp] theorem State.modPower_slots (f : PowerSt → PowerSt) : (s.modPower f).slots = s.slots := rfl
@[simp] theorem State.modPower_copies (f : PowerSt → PowerSt) : (s.modPower f).copies = s.copies := rfl
@[simp] theorem State.modPower_slotLog (f : PowerSt → PowerSt) : (s.modPower f).slotLog = s.slotLog := rfl
@[simp] theorem State.modPower_syn (f : PowerSt → PowerSt) : (s.modPower f).syn = s.syn := rfl
@[simp] theorem State.modPower_cmap (f : PowerSt → PowerSt) : (s.modPower f).cmap = s.cmap := rfl
@[simp] theorem State.modPower_ports (f : PowerSt → PowerSt) : (s.modPower f).ports = s.ports := rfl
@[simp] theorem State.modPower_mesh (f : PowerSt → PowerSt) : (s.modPower f).mesh = s.mesh := rfl
@[simp] theorem State.modPower_acqs (f : PowerSt → PowerSt) : (s.modPower f).acqs = s.acqs := rfl
@[simp] theorem State.modPower_fluxes (f : PowerSt → PowerSt) : (s.modPower f).fluxes = s.fluxes := rfl
@[simp] theorem State.modPower_nt (f : PowerSt → PowerSt) : (s.modPower f).nt = s.nt := rfl
@[simp] theorem State.modPower_eths (f : PowerSt → PowerSt) : (s.modPower f).eths = s.eths := rfl
@[simp] theorem State.modPower_therm (f : PowerSt → PowerSt) : (s.modPower f).therm = s.therm := rfl
@[simp] theorem State.modPower_sensors (f : PowerSt → PowerSt) : (s.modPower f).sensors = s.sensors := rfl
@[simp] theorem State.modPower_sfes (f : PowerSt → PowerSt) : (s.modPower f).sfes = s.sfes := rfl
@[simp] theorem State.modPower_cal (f : PowerSt → PowerSt) : (s.modPower f).cal = s.cal := rfl
@[simp] theorem State.modPower_dbgs (f : PowerSt → PowerSt) : (s.modPower f).dbgs = s.dbgs := rfl
@[simp] theorem State.modPower_edges (f : PowerSt → PowerSt) : (s.modPower f).edges = s.edges := rfl
@[simp] theorem State.modPower_errNow (f : PowerSt → PowerSt) : (s.modPower f).errNow = s.errNow := rfl
@[simp] theorem State.modPower_respVal (f : PowerSt → PowerSt) : (s.modPower f).respVal = s.respVal := rfl
@[simp] theorem State.modPower_free (f : PowerSt → PowerSt) : (s.modPower f).free = s.free := rfl
@[simp] theorem State.modPower_pending (f : PowerSt → PowerSt) : (s.modPower f).pending = s.pending := rfl

/-! ### modTherm -/

@[simp] theorem State.modTherm_count (f : ThermSt → ThermSt) : (s.modTherm f).count = s.count := rfl
@[simp] theorem State.modTherm_refLost (f : ThermSt → ThermSt) : (s.modTherm f).refLost = s.refLost := rfl
@[simp] theorem State.modTherm_frameAt (f : ThermSt → ThermSt) : (s.modTherm f).frameAt = s.frameAt := rfl
@[simp] theorem State.modTherm_epochAt (f : ThermSt → ThermSt) : (s.modTherm f).epochAt = s.epochAt := rfl
@[simp] theorem State.modTherm_loadIn (f : ThermSt → ThermSt) : (s.modTherm f).loadIn = s.loadIn := rfl
@[simp] theorem State.modTherm_latch (f : ThermSt → ThermSt) : (s.modTherm f).latch = s.latch := rfl
@[simp] theorem State.modTherm_ticks (f : ThermSt → ThermSt) : (s.modTherm f).ticks = s.ticks := rfl
@[simp] theorem State.modTherm_regs (f : ThermSt → ThermSt) : (s.modTherm f).regs = s.regs := rfl
@[simp] theorem State.modTherm_limits (f : ThermSt → ThermSt) : (s.modTherm f).limits = s.limits := rfl
@[simp] theorem State.modTherm_tiles (f : ThermSt → ThermSt) : (s.modTherm f).tiles = s.tiles := rfl
@[simp] theorem State.modTherm_seqs (f : ThermSt → ThermSt) : (s.modTherm f).seqs = s.seqs := rfl
@[simp] theorem State.modTherm_loader (f : ThermSt → ThermSt) : (s.modTherm f).loader = s.loader := rfl
@[simp] theorem State.modTherm_cs (f : ThermSt → ThermSt) : (s.modTherm f).cs = s.cs := rfl
@[simp] theorem State.modTherm_csImage (f : ThermSt → ThermSt) : (s.modTherm f).csImage = s.csImage := rfl
@[simp] theorem State.modTherm_bar2 (f : ThermSt → ThermSt) : (s.modTherm f).bar2 = s.bar2 := rfl
@[simp] theorem State.modTherm_used (f : ThermSt → ThermSt) : (s.modTherm f).used = s.used := rfl
@[simp] theorem State.modTherm_rings (f : ThermSt → ThermSt) : (s.modTherm f).rings = s.rings := rfl
@[simp] theorem State.modTherm_fns (f : ThermSt → ThermSt) : (s.modTherm f).fns = s.fns := rfl
@[simp] theorem State.modTherm_msix (f : ThermSt → ThermSt) : (s.modTherm f).msix = s.msix := rfl
@[simp] theorem State.modTherm_ctxCache (f : ThermSt → ThermSt) : (s.modTherm f).ctxCache = s.ctxCache := rfl
@[simp] theorem State.modTherm_host (f : ThermSt → ThermSt) : (s.modTherm f).host = s.host := rfl
@[simp] theorem State.modTherm_dram (f : ThermSt → ThermSt) : (s.modTherm f).dram = s.dram := rfl
@[simp] theorem State.modTherm_dchs (f : ThermSt → ThermSt) : (s.modTherm f).dchs = s.dchs := rfl
@[simp] theorem State.modTherm_doorbells (f : ThermSt → ThermSt) : (s.modTherm f).doorbells = s.doorbells := rfl
@[simp] theorem State.modTherm_dwait (f : ThermSt → ThermSt) : (s.modTherm f).dwait = s.dwait := rfl
@[simp] theorem State.modTherm_dramNvm (f : ThermSt → ThermSt) : (s.modTherm f).dramNvm = s.dramNvm := rfl
@[simp] theorem State.modTherm_unfreezing (f : ThermSt → ThermSt) : (s.modTherm f).unfreezing = s.unfreezing := rfl
@[simp] theorem State.modTherm_evchs (f : ThermSt → ThermSt) : (s.modTherm f).evchs = s.evchs := rfl
@[simp] theorem State.modTherm_evgs (f : ThermSt → ThermSt) : (s.modTherm f).evgs = s.evgs := rfl
@[simp] theorem State.modTherm_window (f : ThermSt → ThermSt) : (s.modTherm f).window = s.window := rfl
@[simp] theorem State.modTherm_routes (f : ThermSt → ThermSt) : (s.modTherm f).routes = s.routes := rfl
@[simp] theorem State.modTherm_tones (f : ThermSt → ThermSt) : (s.modTherm f).tones = s.tones := rfl
@[simp] theorem State.modTherm_outs (f : ThermSt → ThermSt) : (s.modTherm f).outs = s.outs := rfl
@[simp] theorem State.modTherm_adcs (f : ThermSt → ThermSt) : (s.modTherm f).adcs = s.adcs := rfl
@[simp] theorem State.modTherm_routs (f : ThermSt → ThermSt) : (s.modTherm f).routs = s.routs := rfl
@[simp] theorem State.modTherm_fir (f : ThermSt → ThermSt) : (s.modTherm f).fir = s.fir := rfl
@[simp] theorem State.modTherm_kernel (f : ThermSt → ThermSt) : (s.modTherm f).kernel = s.kernel := rfl
@[simp] theorem State.modTherm_lanes (f : ThermSt → ThermSt) : (s.modTherm f).lanes = s.lanes := rfl
@[simp] theorem State.modTherm_slots (f : ThermSt → ThermSt) : (s.modTherm f).slots = s.slots := rfl
@[simp] theorem State.modTherm_copies (f : ThermSt → ThermSt) : (s.modTherm f).copies = s.copies := rfl
@[simp] theorem State.modTherm_slotLog (f : ThermSt → ThermSt) : (s.modTherm f).slotLog = s.slotLog := rfl
@[simp] theorem State.modTherm_syn (f : ThermSt → ThermSt) : (s.modTherm f).syn = s.syn := rfl
@[simp] theorem State.modTherm_cmap (f : ThermSt → ThermSt) : (s.modTherm f).cmap = s.cmap := rfl
@[simp] theorem State.modTherm_ports (f : ThermSt → ThermSt) : (s.modTherm f).ports = s.ports := rfl
@[simp] theorem State.modTherm_mesh (f : ThermSt → ThermSt) : (s.modTherm f).mesh = s.mesh := rfl
@[simp] theorem State.modTherm_acqs (f : ThermSt → ThermSt) : (s.modTherm f).acqs = s.acqs := rfl
@[simp] theorem State.modTherm_fluxes (f : ThermSt → ThermSt) : (s.modTherm f).fluxes = s.fluxes := rfl
@[simp] theorem State.modTherm_nt (f : ThermSt → ThermSt) : (s.modTherm f).nt = s.nt := rfl
@[simp] theorem State.modTherm_eths (f : ThermSt → ThermSt) : (s.modTherm f).eths = s.eths := rfl
@[simp] theorem State.modTherm_power (f : ThermSt → ThermSt) : (s.modTherm f).power = s.power := rfl
@[simp] theorem State.modTherm_sensors (f : ThermSt → ThermSt) : (s.modTherm f).sensors = s.sensors := rfl
@[simp] theorem State.modTherm_sfes (f : ThermSt → ThermSt) : (s.modTherm f).sfes = s.sfes := rfl
@[simp] theorem State.modTherm_cal (f : ThermSt → ThermSt) : (s.modTherm f).cal = s.cal := rfl
@[simp] theorem State.modTherm_dbgs (f : ThermSt → ThermSt) : (s.modTherm f).dbgs = s.dbgs := rfl
@[simp] theorem State.modTherm_edges (f : ThermSt → ThermSt) : (s.modTherm f).edges = s.edges := rfl
@[simp] theorem State.modTherm_errNow (f : ThermSt → ThermSt) : (s.modTherm f).errNow = s.errNow := rfl
@[simp] theorem State.modTherm_respVal (f : ThermSt → ThermSt) : (s.modTherm f).respVal = s.respVal := rfl
@[simp] theorem State.modTherm_free (f : ThermSt → ThermSt) : (s.modTherm f).free = s.free := rfl
@[simp] theorem State.modTherm_pending (f : ThermSt → ThermSt) : (s.modTherm f).pending = s.pending := rfl

/-! ### modCal -/

@[simp] theorem State.modCal_count (f : CalSt → CalSt) : (s.modCal f).count = s.count := rfl
@[simp] theorem State.modCal_refLost (f : CalSt → CalSt) : (s.modCal f).refLost = s.refLost := rfl
@[simp] theorem State.modCal_frameAt (f : CalSt → CalSt) : (s.modCal f).frameAt = s.frameAt := rfl
@[simp] theorem State.modCal_epochAt (f : CalSt → CalSt) : (s.modCal f).epochAt = s.epochAt := rfl
@[simp] theorem State.modCal_loadIn (f : CalSt → CalSt) : (s.modCal f).loadIn = s.loadIn := rfl
@[simp] theorem State.modCal_latch (f : CalSt → CalSt) : (s.modCal f).latch = s.latch := rfl
@[simp] theorem State.modCal_ticks (f : CalSt → CalSt) : (s.modCal f).ticks = s.ticks := rfl
@[simp] theorem State.modCal_regs (f : CalSt → CalSt) : (s.modCal f).regs = s.regs := rfl
@[simp] theorem State.modCal_limits (f : CalSt → CalSt) : (s.modCal f).limits = s.limits := rfl
@[simp] theorem State.modCal_tiles (f : CalSt → CalSt) : (s.modCal f).tiles = s.tiles := rfl
@[simp] theorem State.modCal_seqs (f : CalSt → CalSt) : (s.modCal f).seqs = s.seqs := rfl
@[simp] theorem State.modCal_loader (f : CalSt → CalSt) : (s.modCal f).loader = s.loader := rfl
@[simp] theorem State.modCal_cs (f : CalSt → CalSt) : (s.modCal f).cs = s.cs := rfl
@[simp] theorem State.modCal_csImage (f : CalSt → CalSt) : (s.modCal f).csImage = s.csImage := rfl
@[simp] theorem State.modCal_bar2 (f : CalSt → CalSt) : (s.modCal f).bar2 = s.bar2 := rfl
@[simp] theorem State.modCal_used (f : CalSt → CalSt) : (s.modCal f).used = s.used := rfl
@[simp] theorem State.modCal_rings (f : CalSt → CalSt) : (s.modCal f).rings = s.rings := rfl
@[simp] theorem State.modCal_fns (f : CalSt → CalSt) : (s.modCal f).fns = s.fns := rfl
@[simp] theorem State.modCal_msix (f : CalSt → CalSt) : (s.modCal f).msix = s.msix := rfl
@[simp] theorem State.modCal_ctxCache (f : CalSt → CalSt) : (s.modCal f).ctxCache = s.ctxCache := rfl
@[simp] theorem State.modCal_host (f : CalSt → CalSt) : (s.modCal f).host = s.host := rfl
@[simp] theorem State.modCal_dram (f : CalSt → CalSt) : (s.modCal f).dram = s.dram := rfl
@[simp] theorem State.modCal_dchs (f : CalSt → CalSt) : (s.modCal f).dchs = s.dchs := rfl
@[simp] theorem State.modCal_doorbells (f : CalSt → CalSt) : (s.modCal f).doorbells = s.doorbells := rfl
@[simp] theorem State.modCal_dwait (f : CalSt → CalSt) : (s.modCal f).dwait = s.dwait := rfl
@[simp] theorem State.modCal_dramNvm (f : CalSt → CalSt) : (s.modCal f).dramNvm = s.dramNvm := rfl
@[simp] theorem State.modCal_unfreezing (f : CalSt → CalSt) : (s.modCal f).unfreezing = s.unfreezing := rfl
@[simp] theorem State.modCal_evchs (f : CalSt → CalSt) : (s.modCal f).evchs = s.evchs := rfl
@[simp] theorem State.modCal_evgs (f : CalSt → CalSt) : (s.modCal f).evgs = s.evgs := rfl
@[simp] theorem State.modCal_window (f : CalSt → CalSt) : (s.modCal f).window = s.window := rfl
@[simp] theorem State.modCal_routes (f : CalSt → CalSt) : (s.modCal f).routes = s.routes := rfl
@[simp] theorem State.modCal_tones (f : CalSt → CalSt) : (s.modCal f).tones = s.tones := rfl
@[simp] theorem State.modCal_outs (f : CalSt → CalSt) : (s.modCal f).outs = s.outs := rfl
@[simp] theorem State.modCal_adcs (f : CalSt → CalSt) : (s.modCal f).adcs = s.adcs := rfl
@[simp] theorem State.modCal_routs (f : CalSt → CalSt) : (s.modCal f).routs = s.routs := rfl
@[simp] theorem State.modCal_fir (f : CalSt → CalSt) : (s.modCal f).fir = s.fir := rfl
@[simp] theorem State.modCal_kernel (f : CalSt → CalSt) : (s.modCal f).kernel = s.kernel := rfl
@[simp] theorem State.modCal_lanes (f : CalSt → CalSt) : (s.modCal f).lanes = s.lanes := rfl
@[simp] theorem State.modCal_slots (f : CalSt → CalSt) : (s.modCal f).slots = s.slots := rfl
@[simp] theorem State.modCal_copies (f : CalSt → CalSt) : (s.modCal f).copies = s.copies := rfl
@[simp] theorem State.modCal_slotLog (f : CalSt → CalSt) : (s.modCal f).slotLog = s.slotLog := rfl
@[simp] theorem State.modCal_syn (f : CalSt → CalSt) : (s.modCal f).syn = s.syn := rfl
@[simp] theorem State.modCal_cmap (f : CalSt → CalSt) : (s.modCal f).cmap = s.cmap := rfl
@[simp] theorem State.modCal_ports (f : CalSt → CalSt) : (s.modCal f).ports = s.ports := rfl
@[simp] theorem State.modCal_mesh (f : CalSt → CalSt) : (s.modCal f).mesh = s.mesh := rfl
@[simp] theorem State.modCal_acqs (f : CalSt → CalSt) : (s.modCal f).acqs = s.acqs := rfl
@[simp] theorem State.modCal_fluxes (f : CalSt → CalSt) : (s.modCal f).fluxes = s.fluxes := rfl
@[simp] theorem State.modCal_nt (f : CalSt → CalSt) : (s.modCal f).nt = s.nt := rfl
@[simp] theorem State.modCal_eths (f : CalSt → CalSt) : (s.modCal f).eths = s.eths := rfl
@[simp] theorem State.modCal_power (f : CalSt → CalSt) : (s.modCal f).power = s.power := rfl
@[simp] theorem State.modCal_therm (f : CalSt → CalSt) : (s.modCal f).therm = s.therm := rfl
@[simp] theorem State.modCal_sensors (f : CalSt → CalSt) : (s.modCal f).sensors = s.sensors := rfl
@[simp] theorem State.modCal_sfes (f : CalSt → CalSt) : (s.modCal f).sfes = s.sfes := rfl
@[simp] theorem State.modCal_dbgs (f : CalSt → CalSt) : (s.modCal f).dbgs = s.dbgs := rfl
@[simp] theorem State.modCal_edges (f : CalSt → CalSt) : (s.modCal f).edges = s.edges := rfl
@[simp] theorem State.modCal_errNow (f : CalSt → CalSt) : (s.modCal f).errNow = s.errNow := rfl
@[simp] theorem State.modCal_respVal (f : CalSt → CalSt) : (s.modCal f).respVal = s.respVal := rfl
@[simp] theorem State.modCal_free (f : CalSt → CalSt) : (s.modCal f).free = s.free := rfl
@[simp] theorem State.modCal_pending (f : CalSt → CalSt) : (s.modCal f).pending = s.pending := rfl

/-! ### tookFree -/

@[simp] theorem State.tookFree_count : s.tookFree.count = s.count := rfl
@[simp] theorem State.tookFree_refLost : s.tookFree.refLost = s.refLost := rfl
@[simp] theorem State.tookFree_frameAt : s.tookFree.frameAt = s.frameAt := rfl
@[simp] theorem State.tookFree_epochAt : s.tookFree.epochAt = s.epochAt := rfl
@[simp] theorem State.tookFree_loadIn : s.tookFree.loadIn = s.loadIn := rfl
@[simp] theorem State.tookFree_latch : s.tookFree.latch = s.latch := rfl
@[simp] theorem State.tookFree_ticks : s.tookFree.ticks = s.ticks := rfl
@[simp] theorem State.tookFree_regs : s.tookFree.regs = s.regs := rfl
@[simp] theorem State.tookFree_limits : s.tookFree.limits = s.limits := rfl
@[simp] theorem State.tookFree_tiles : s.tookFree.tiles = s.tiles := rfl
@[simp] theorem State.tookFree_seqs : s.tookFree.seqs = s.seqs := rfl
@[simp] theorem State.tookFree_loader : s.tookFree.loader = s.loader := rfl
@[simp] theorem State.tookFree_cs : s.tookFree.cs = s.cs := rfl
@[simp] theorem State.tookFree_csImage : s.tookFree.csImage = s.csImage := rfl
@[simp] theorem State.tookFree_bar2 : s.tookFree.bar2 = s.bar2 := rfl
@[simp] theorem State.tookFree_used : s.tookFree.used = s.used := rfl
@[simp] theorem State.tookFree_rings : s.tookFree.rings = s.rings := rfl
@[simp] theorem State.tookFree_fns : s.tookFree.fns = s.fns := rfl
@[simp] theorem State.tookFree_msix : s.tookFree.msix = s.msix := rfl
@[simp] theorem State.tookFree_ctxCache : s.tookFree.ctxCache = s.ctxCache := rfl
@[simp] theorem State.tookFree_host : s.tookFree.host = s.host := rfl
@[simp] theorem State.tookFree_dram : s.tookFree.dram = s.dram := rfl
@[simp] theorem State.tookFree_dchs : s.tookFree.dchs = s.dchs := rfl
@[simp] theorem State.tookFree_doorbells : s.tookFree.doorbells = s.doorbells := rfl
@[simp] theorem State.tookFree_dwait : s.tookFree.dwait = s.dwait := rfl
@[simp] theorem State.tookFree_dramNvm : s.tookFree.dramNvm = s.dramNvm := rfl
@[simp] theorem State.tookFree_unfreezing : s.tookFree.unfreezing = s.unfreezing := rfl
@[simp] theorem State.tookFree_evchs : s.tookFree.evchs = s.evchs := rfl
@[simp] theorem State.tookFree_evgs : s.tookFree.evgs = s.evgs := rfl
@[simp] theorem State.tookFree_window : s.tookFree.window = s.window := rfl
@[simp] theorem State.tookFree_routes : s.tookFree.routes = s.routes := rfl
@[simp] theorem State.tookFree_tones : s.tookFree.tones = s.tones := rfl
@[simp] theorem State.tookFree_outs : s.tookFree.outs = s.outs := rfl
@[simp] theorem State.tookFree_adcs : s.tookFree.adcs = s.adcs := rfl
@[simp] theorem State.tookFree_routs : s.tookFree.routs = s.routs := rfl
@[simp] theorem State.tookFree_fir : s.tookFree.fir = s.fir := rfl
@[simp] theorem State.tookFree_kernel : s.tookFree.kernel = s.kernel := rfl
@[simp] theorem State.tookFree_lanes : s.tookFree.lanes = s.lanes := rfl
@[simp] theorem State.tookFree_slots : s.tookFree.slots = s.slots := rfl
@[simp] theorem State.tookFree_copies : s.tookFree.copies = s.copies := rfl
@[simp] theorem State.tookFree_slotLog : s.tookFree.slotLog = s.slotLog := rfl
@[simp] theorem State.tookFree_syn : s.tookFree.syn = s.syn := rfl
@[simp] theorem State.tookFree_cmap : s.tookFree.cmap = s.cmap := rfl
@[simp] theorem State.tookFree_ports : s.tookFree.ports = s.ports := rfl
@[simp] theorem State.tookFree_mesh : s.tookFree.mesh = s.mesh := rfl
@[simp] theorem State.tookFree_acqs : s.tookFree.acqs = s.acqs := rfl
@[simp] theorem State.tookFree_fluxes : s.tookFree.fluxes = s.fluxes := rfl
@[simp] theorem State.tookFree_nt : s.tookFree.nt = s.nt := rfl
@[simp] theorem State.tookFree_eths : s.tookFree.eths = s.eths := rfl
@[simp] theorem State.tookFree_power : s.tookFree.power = s.power := rfl
@[simp] theorem State.tookFree_therm : s.tookFree.therm = s.therm := rfl
@[simp] theorem State.tookFree_sensors : s.tookFree.sensors = s.sensors := rfl
@[simp] theorem State.tookFree_sfes : s.tookFree.sfes = s.sfes := rfl
@[simp] theorem State.tookFree_cal : s.tookFree.cal = s.cal := rfl
@[simp] theorem State.tookFree_dbgs : s.tookFree.dbgs = s.dbgs := rfl
@[simp] theorem State.tookFree_edges : s.tookFree.edges = s.edges := rfl
@[simp] theorem State.tookFree_errNow : s.tookFree.errNow = s.errNow := rfl
@[simp] theorem State.tookFree_respVal : s.tookFree.respVal = s.respVal := rfl
@[simp] theorem State.tookFree_pending : s.tookFree.pending = s.pending := rfl

/-! ### respond -/

@[simp] theorem State.respond_count (v : Nat) : (s.respond v).count = s.count := rfl
@[simp] theorem State.respond_refLost (v : Nat) : (s.respond v).refLost = s.refLost := rfl
@[simp] theorem State.respond_frameAt (v : Nat) : (s.respond v).frameAt = s.frameAt := rfl
@[simp] theorem State.respond_epochAt (v : Nat) : (s.respond v).epochAt = s.epochAt := rfl
@[simp] theorem State.respond_loadIn (v : Nat) : (s.respond v).loadIn = s.loadIn := rfl
@[simp] theorem State.respond_latch (v : Nat) : (s.respond v).latch = s.latch := rfl
@[simp] theorem State.respond_ticks (v : Nat) : (s.respond v).ticks = s.ticks := rfl
@[simp] theorem State.respond_regs (v : Nat) : (s.respond v).regs = s.regs := rfl
@[simp] theorem State.respond_limits (v : Nat) : (s.respond v).limits = s.limits := rfl
@[simp] theorem State.respond_tiles (v : Nat) : (s.respond v).tiles = s.tiles := rfl
@[simp] theorem State.respond_seqs (v : Nat) : (s.respond v).seqs = s.seqs := rfl
@[simp] theorem State.respond_loader (v : Nat) : (s.respond v).loader = s.loader := rfl
@[simp] theorem State.respond_cs (v : Nat) : (s.respond v).cs = s.cs := rfl
@[simp] theorem State.respond_csImage (v : Nat) : (s.respond v).csImage = s.csImage := rfl
@[simp] theorem State.respond_bar2 (v : Nat) : (s.respond v).bar2 = s.bar2 := rfl
@[simp] theorem State.respond_used (v : Nat) : (s.respond v).used = s.used := rfl
@[simp] theorem State.respond_rings (v : Nat) : (s.respond v).rings = s.rings := rfl
@[simp] theorem State.respond_fns (v : Nat) : (s.respond v).fns = s.fns := rfl
@[simp] theorem State.respond_msix (v : Nat) : (s.respond v).msix = s.msix := rfl
@[simp] theorem State.respond_ctxCache (v : Nat) : (s.respond v).ctxCache = s.ctxCache := rfl
@[simp] theorem State.respond_host (v : Nat) : (s.respond v).host = s.host := rfl
@[simp] theorem State.respond_dram (v : Nat) : (s.respond v).dram = s.dram := rfl
@[simp] theorem State.respond_dchs (v : Nat) : (s.respond v).dchs = s.dchs := rfl
@[simp] theorem State.respond_doorbells (v : Nat) : (s.respond v).doorbells = s.doorbells := rfl
@[simp] theorem State.respond_dwait (v : Nat) : (s.respond v).dwait = s.dwait := rfl
@[simp] theorem State.respond_dramNvm (v : Nat) : (s.respond v).dramNvm = s.dramNvm := rfl
@[simp] theorem State.respond_unfreezing (v : Nat) : (s.respond v).unfreezing = s.unfreezing := rfl
@[simp] theorem State.respond_evchs (v : Nat) : (s.respond v).evchs = s.evchs := rfl
@[simp] theorem State.respond_evgs (v : Nat) : (s.respond v).evgs = s.evgs := rfl
@[simp] theorem State.respond_window (v : Nat) : (s.respond v).window = s.window := rfl
@[simp] theorem State.respond_routes (v : Nat) : (s.respond v).routes = s.routes := rfl
@[simp] theorem State.respond_tones (v : Nat) : (s.respond v).tones = s.tones := rfl
@[simp] theorem State.respond_outs (v : Nat) : (s.respond v).outs = s.outs := rfl
@[simp] theorem State.respond_adcs (v : Nat) : (s.respond v).adcs = s.adcs := rfl
@[simp] theorem State.respond_routs (v : Nat) : (s.respond v).routs = s.routs := rfl
@[simp] theorem State.respond_fir (v : Nat) : (s.respond v).fir = s.fir := rfl
@[simp] theorem State.respond_kernel (v : Nat) : (s.respond v).kernel = s.kernel := rfl
@[simp] theorem State.respond_lanes (v : Nat) : (s.respond v).lanes = s.lanes := rfl
@[simp] theorem State.respond_slots (v : Nat) : (s.respond v).slots = s.slots := rfl
@[simp] theorem State.respond_copies (v : Nat) : (s.respond v).copies = s.copies := rfl
@[simp] theorem State.respond_slotLog (v : Nat) : (s.respond v).slotLog = s.slotLog := rfl
@[simp] theorem State.respond_syn (v : Nat) : (s.respond v).syn = s.syn := rfl
@[simp] theorem State.respond_cmap (v : Nat) : (s.respond v).cmap = s.cmap := rfl
@[simp] theorem State.respond_ports (v : Nat) : (s.respond v).ports = s.ports := rfl
@[simp] theorem State.respond_mesh (v : Nat) : (s.respond v).mesh = s.mesh := rfl
@[simp] theorem State.respond_acqs (v : Nat) : (s.respond v).acqs = s.acqs := rfl
@[simp] theorem State.respond_fluxes (v : Nat) : (s.respond v).fluxes = s.fluxes := rfl
@[simp] theorem State.respond_nt (v : Nat) : (s.respond v).nt = s.nt := rfl
@[simp] theorem State.respond_eths (v : Nat) : (s.respond v).eths = s.eths := rfl
@[simp] theorem State.respond_power (v : Nat) : (s.respond v).power = s.power := rfl
@[simp] theorem State.respond_therm (v : Nat) : (s.respond v).therm = s.therm := rfl
@[simp] theorem State.respond_sensors (v : Nat) : (s.respond v).sensors = s.sensors := rfl
@[simp] theorem State.respond_sfes (v : Nat) : (s.respond v).sfes = s.sfes := rfl
@[simp] theorem State.respond_cal (v : Nat) : (s.respond v).cal = s.cal := rfl
@[simp] theorem State.respond_dbgs (v : Nat) : (s.respond v).dbgs = s.dbgs := rfl
@[simp] theorem State.respond_edges (v : Nat) : (s.respond v).edges = s.edges := rfl
@[simp] theorem State.respond_errNow (v : Nat) : (s.respond v).errNow = s.errNow := rfl
@[simp] theorem State.respond_free (v : Nat) : (s.respond v).free = s.free := rfl
@[simp] theorem State.respond_pending (v : Nat) : (s.respond v).pending = s.pending := rfl

end Sys2Proof.Machine
end

