-- ==== Sys2Proof/Laws/Ops.lean ====
section
/-!
SUPPORT. Laws of the shared operations: fields of a word, registers, sticky status and error capture, memories.
-/
namespace Sys2Proof.Machine

/-! ### Fields of a word -/

/-- The field lies within a word. -/
def Row.fits (r : Row) : Prop := r.lo ≤ r.hi ∧ r.hi < 32

/-- Two fields share no bit. -/
def Row.apart (r q : Row) : Prop := r.hi < q.lo ∨ q.hi < r.lo

theorem Row.getLsbD_mask (r : Row) (i : Nat) :
    r.mask.getLsbD i = (decide (i < 32) && decide (r.lo ≤ i) && decide (i - r.lo < r.width)) := by
  simp only [Row.mask, BitVec.getLsbD_ofNat, ← Nat.shiftLeft_eq, Nat.testBit_shiftLeft, Nat.testBit_two_pow_sub_one,
    Bool.and_assoc, ge_iff_le]

/-- A field reads as what it was set to, cut to its width. -/
theorem Row.get_set {r : Row} (h : r.fits) (w : Word) (v : Nat) : r.get (r.set w v) = v % 2 ^ r.width := by
  obtain ⟨h1, h2⟩ := h
  apply Nat.eq_of_testBit_eq
  intro i
  simp only [Row.get, Row.set, Nat.testBit_mod_two_pow, Nat.testBit_shiftRight, BitVec.testBit_toNat]
  by_cases hi : i < r.width
  · have hi' : i < r.hi + 1 - r.lo := hi
    have h32 : r.lo + i < 32 := by omega
    have hm : r.mask.getLsbD (r.lo + i) = true := by simp [Row.getLsbD_mask, h32, hi]
    simp only [BitVec.getLsbD_or, BitVec.getLsbD_and, BitVec.getLsbD_not, hm, hi, h32, BitVec.getLsbD_ofNat,
      Nat.testBit_shiftLeft]
    simp
  · simp [hi]

/-- Setting a field leaves a field apart from it as it was. -/
theorem Row.get_set_apart {r q : Row} (hq : q.fits) (h : r.apart q) (w : Word) (v : Nat) :
    q.get (r.set w v) = q.get w := by
  obtain ⟨h1, h2⟩ := hq
  apply Nat.eq_of_testBit_eq
  intro i
  simp only [Row.get, Row.set, Nat.testBit_mod_two_pow, Nat.testBit_shiftRight, BitVec.testBit_toNat]
  by_cases hi : i < q.width
  · have hi' : i < q.hi + 1 - q.lo := hi
    have h32 : q.lo + i < 32 := by omega
    have hm : r.mask.getLsbD (q.lo + i) = false := by
      rw [Row.getLsbD_mask]
      rcases h with h | h
      · have : ¬ (q.lo + i - r.lo < r.width) := by unfold Row.width; omega
        simp [this]
      · have : ¬ (r.lo ≤ q.lo + i) := by omega
        simp [this]
    simp only [BitVec.getLsbD_or, BitVec.getLsbD_and, BitVec.getLsbD_not, hm, hi, h32]
    simp
  · simp [hi]

/-! ### Registers -/

variable (s : State)

@[simp] theorem State.reg_setReg_same (a : Nat) (w : Word) : (s.setReg a w).reg a = w := SMap.get_set_same ..

theorem State.reg_setReg_ne {a c : Nat} (w : Word) (h : c ≠ a) : (s.setReg a w).reg c = s.reg c :=
  SMap.get_set_ne _ _ h

theorem State.reg_setReg (a c : Nat) (w : Word) : (s.setReg a w).reg c = if c = a then w else s.reg c := SMap.get_set ..

/-- A register reads the same in two states that hold the same registers. -/
theorem State.reg_congr {s t : State} (h : t.regs = s.regs) (a : Nat) : t.reg a = s.reg a := by
  unfold State.reg; rw [h]

theorem State.fld_congr {s t : State} (h : t.regs = s.regs) (b : Nat) (r : Row) (i : Nat) : t.fld b r i = s.fld b r i := by
  unfold State.fld; rw [State.reg_congr h]

/-- A field reads as what it was set to, cut to its width. -/
theorem State.fld_setFld_same (b : Nat) {r : Row} (h : r.fits) (v i : Nat) :
    (s.setFld b r v i).fld b r i = v % 2 ^ r.width := by
  simp [State.fld, State.setFld, Row.get_set h]

/-- Setting a field of another word leaves a field as it was. -/
theorem State.fld_setFld_ne {b c : Nat} {r q : Row} {v i j : Nat} (h : c + q.off + q.stride * j ≠ b + r.off + r.stride * i) :
    (s.setFld b r v i).fld c q j = s.fld c q j := by
  simp [State.fld, State.setFld, State.reg_setReg_ne _ _ h]

/-- Setting a field leaves a field of the same word that is apart from it as it was. -/
theorem State.fld_setFld_apart {b c : Nat} {r q : Row} (v i j : Nat) (hq : q.fits) (h : r.apart q) :
    (s.setFld b r v i).fld c q j = s.fld c q j := by
  by_cases e : c + q.off + q.stride * j = b + r.off + r.stride * i
  · simp [State.fld, State.setFld, e, Row.get_set_apart hq h]
  · exact State.fld_setFld_ne s e

/-! ### Status bits and errors -/

/-- A register and the captures of the cycle are written independently of each other. -/
theorem State.setReg_errNow_eq (a : Nat) (w : Word) (es : List Nat) :
    ({ s with errNow := es, regs := SMap.set resetWord s.regs a w } : State) = { s.setReg a w with errNow := es } := rfl

/-- An error capture writes ERR_CAP of its page, notes that the command captured there, and does nothing else. -/
theorem State.err_eq (b code info : Nat) :
    ∃ w es, s.err b code info = { s.setReg (b + 0x01C) w with errNow := es } := by
  have self (a : Nat) (w : Word) : ∃ w' es, s.setReg a w = { s.setReg a w' with errNow := es } := ⟨w, s.errNow, rfl⟩
  have more : ∃ w, s.setBit b Reg.Hdr.MORE true = s.setReg (b + 0x01C) w := ⟨_, rfl⟩
  unfold State.err
  split
  · exact ⟨_, _, State.setReg_errNow_eq s (b + 0x01C) (errWord false code info) (b :: s.errNow)⟩
  · split
    · exact self _ _
    · obtain ⟨w, h⟩ := more
      rw [h]
      exact self _ w

/-- Noting an edge adds to the edges of the command and does nothing else. -/
theorem State.edge_eq (b : Nat) (old : Word) : ∃ es, s.edge b old = { s with edges := s.edges ++ es } := by
  unfold State.edge
  split
  · exact ⟨[], by simp⟩
  · exact ⟨_, rfl⟩

/-- Setting status bits writes IRQ_STAT of its page, notes an edge, and does nothing else. -/
theorem State.raiseBits_eq (b : Nat) (bits : Word) :
    ∃ es, s.raiseBits b bits =
      { s.setReg (b + 0x010) (s.reg (b + 0x010) ||| bits) with edges := s.edges ++ es } :=
  State.edge_eq _ _ _

/-- A status bit that has been set reads as 1. -/
theorem State.raise_sets (b i : Nat) (hi : i < 32) : ((s.raise b i).reg (b + 0x010)).getLsbD i = true := by
  obtain ⟨es, h⟩ := s.raiseBits_eq b (BitVec.ofNat 32 (2 ^ i))
  have : (s.raise b i).reg (b + 0x010) = s.reg (b + 0x010) ||| BitVec.ofNat 32 (2 ^ i) := by
    unfold State.raise
    rw [h]
    exact SMap.get_set_same ..
  rw [this, BitVec.getLsbD_or, BitVec.getLsbD_ofNat, Nat.testBit_two_pow_self]
  simp [hi]

/-! ### Memories -/

@[simp] theorem rdByte_wrByte_same (m : List Host.Cell) (a : Nat) (v : Byte) : rdByte (wrByte m a v) a = v :=
  SMap.get_set_same ..

theorem rdByte_wrByte_ne (m : List Host.Cell) {a c : Nat} (v : Byte) (h : c ≠ a) :
    rdByte (wrByte m a v) c = rdByte m c := SMap.get_set_ne _ _ h

/-- A byte write keeps the canonical form. -/
theorem Memory.wf_wrByte {m : List Host.Cell} (a : Nat) (v : Byte) (h : Memory.wf m = true) :
    Memory.wf (wrByte m a v) = true := SMap.wf_set a v h

/-- Writing a number keeps the canonical form. -/
theorem Memory.wf_wrLE {m : List Host.Cell} (a k v : Nat) (h : Memory.wf m = true) : Memory.wf (wrLE m a k v) = true := by
  induction k generalizing m a v with
  | zero => exact h
  | succ k ih => exact ih _ _ (Memory.wf_wrByte _ _ h)

/-- Writing a list of bytes keeps the canonical form. -/
theorem Memory.wf_wrBytes {m : List Host.Cell} (a : Nat) (vs : List Byte) (h : Memory.wf m = true) :
    Memory.wf (wrBytes m a vs) = true := by
  induction vs generalizing m a with
  | nil => exact h
  | cons v vs ih => exact ih _ (Memory.wf_wrByte _ _ h)

/-- Writing a number leaves every byte outside it as it was. -/
theorem rdByte_wrLE_out (m : List Host.Cell) {a c : Nat} (k v : Nat) (h : c < a ∨ a + k ≤ c) :
    rdByte (wrLE m a k v) c = rdByte m c := by
  induction k generalizing m a v with
  | zero => rfl
  | succ k ih =>
    rw [wrLE, ih _ _ (by omega), rdByte_wrByte_ne _ _ (by omega)]

/-- Writing a list of bytes leaves every byte outside it as it was. -/
theorem rdByte_wrBytes_out (m : List Host.Cell) {a c : Nat} (vs : List Byte) (h : c < a ∨ a + vs.length ≤ c) :
    rdByte (wrBytes m a vs) c = rdByte m c := by
  induction vs generalizing m a with
  | nil => rfl
  | cons v vs ih =>
    simp only [List.length_cons] at h
    rw [wrBytes, ih _ (by omega), rdByte_wrByte_ne _ _ (by omega)]

/-- A byte that was written reads as what was written. -/
theorem rdByte_wrBytes (m : List Host.Cell) (a i : Nat) (vs : List Byte) (h : i < vs.length) :
    rdByte (wrBytes m a vs) (a + i) = vs[i] := by
  induction vs generalizing m a i with
  | nil => simp at h
  | cons v vs ih =>
    cases i with
    | zero => rw [wrBytes, rdByte_wrBytes_out _ _ (by omega)]; simp
    | succ i =>
      have := ih (wrByte m a v) (a + 1) i (by simpa using h)
      rw [wrBytes, show a + (i + 1) = a + 1 + i by omega, this]; simp

end Sys2Proof.Machine
end

