-- ==== Sys2Proof/Laws/Irq.lean ====
section
/-!
SUPPORT. What the delivery of interrupts at the end of a command can change: the pages of the event groups and of the
interrupt controller, the event channels, MSI-X state and messages, and nothing else.
-/
namespace Sys2Proof.Machine

/-- The address lies in a page that interrupt delivery may write: an event group's or the interrupt controller's. -/
def evPage (a : Nat) : Bool := decide (0x0068_0000 ≤ a ∧ a < 0x006A_0000) || decide (0x006C_0000 ≤ a ∧ a < 0x006C_1000)

theorem evPage_iff {a : Nat} :
    evPage a = true ↔ (0x0068_0000 ≤ a ∧ a < 0x006A_0000) ∨ (0x006C_0000 ≤ a ∧ a < 0x006C_1000) := by
  simp [evPage]

/-- `t` is `s` after some delivery of interrupts. -/
structure Delivers (s t : State) : Prop where
  rest : t = { s with regs := t.regs, evchs := t.evchs, host := t.host, msix := t.msix, fns := t.fns, window := t.window,
                      edges := t.edges, errNow := t.errNow }
  reg : ∀ a, evPage a = false → t.reg a = s.reg a
  fn : ∀ n, ∃ p, t.fnSt n = { s.fnSt n with pba := p }
  host : Memory.wf s.host = true → Memory.wf t.host = true
  now : t.errNow = [] ∨ t.errNow = s.errNow

namespace Delivers

theorem refl (s : State) : Delivers s s := ⟨rfl, fun _ _ => rfl, fun _ => ⟨_, rfl⟩, id, .inr rfl⟩

theorem trans {s t u : State} (h : Delivers s t) (k : Delivers t u) : Delivers s u := by
  refine ⟨?_, fun a ha => (k.reg a ha).trans (h.reg a ha), fun n => ?_, fun w => k.host (h.host w), ?_⟩
  · rw [k.rest, h.rest]
  · obtain ⟨p, hp⟩ := h.fn n
    obtain ⟨q, hq⟩ := k.fn n
    exact ⟨q, by rw [hq, hp]⟩
  · exact k.now.elim .inl fun e => h.now.elim (fun e' => .inl (e.trans e')) fun e' => .inr (e.trans e')

/-- A change that touches no register, function or host byte, only what delivery may change. -/
theorem of_eq {s t : State}
    (h : t = { s with evchs := t.evchs, msix := t.msix, window := t.window, edges := t.edges, errNow := t.errNow })
    (k : t.errNow = [] ∨ t.errNow = s.errNow := by exact .inr rfl) : Delivers s t := by
  refine ⟨by rw [h], fun a _ => ?_, fun n => ⟨(s.fnSt n).pba, ?_⟩, fun w => ?_, k⟩
  · exact State.reg_congr (by rw [h]) a
  · unfold State.fnSt; rw [h]
  · rw [h]; exact w

theorem setReg (s : State) {a : Nat} (w : Word) (h : evPage a = true) : Delivers s (s.setReg a w) := by
  refine ⟨rfl, fun c hc => ?_, fun n => ⟨_, rfl⟩, id, .inr rfl⟩
  apply State.reg_setReg_ne
  rintro rfl
  rw [h] at hc; cases hc

theorem setFld (s : State) {b : Nat} {r : Row} (v i : Nat) (h : evPage (b + r.off + r.stride * i) = true) :
    Delivers s (s.setFld b r v i) := setReg s _ h

theorem edge (s : State) (b : Nat) (old : Word) : Delivers s (s.edge b old) := by
  obtain ⟨es, h⟩ := s.edge_eq b old
  rw [h]
  exact of_eq rfl

theorem modEvch (s : State) (k : Nat) (f : EvSt → EvSt) : Delivers s (s.modEvch k f) := of_eq rfl

theorem modMsix (s : State) (k : Nat) (f : MsixSt → MsixSt) : Delivers s (s.modMsix k f) := of_eq rfl

theorem raise (s : State) {b : Nat} (i : Nat) (h : evPage (b + 0x010) = true) : Delivers s (s.raise b i) :=
  (setReg s _ h).trans (edge _ _ _)

end Delivers

/-! ### The parts of delivery -/

/-- An offset in a group's page belongs to a page that delivery may write. -/
theorem evPage_group {k d : Nat} (hk : k < 256) (hd : d < 0x1000) : evPage (evgPage k + d) = true := by
  rw [evPage_iff]
  simp only [evgPage, Base.evg]
  omega

theorem evPage_intc {d : Nat} (hd : d < 0x1000) : evPage (Base.intc + d) = true := by
  rw [evPage_iff]
  simp only [Base.intc]
  omega

/-- A field of copy `k % 8` of a row of a group's page. -/
theorem Delivers.group (s : State) {k : Nat} {r : Row} (v : Nat) {i : Nat} (hk : k < 256) (h : r.off + r.stride * i < 0x1000) :
    Delivers s (s.setFld (evgPage k) r v i) :=
  Delivers.setFld s v i (by rw [Nat.add_assoc]; exact evPage_group hk h)

theorem Delivers.groupInc (s : State) {k : Nat} {r : Row} {i : Nat} (hk : k < 256) (h : r.off + r.stride * i < 0x1000) :
    Delivers s (s.inc (evgPage k) r i) := Delivers.group s _ hk h

theorem fire_delivers (s : State) {k : Nat} (imp : Bool) (occ : Option Nat) (hk : k < 256) :
    Delivers s (s.fire k imp occ) := by
  have h8 : k % 8 < 8 := Nat.mod_lt _ (by decide)
  have hb : evPage (evgPage k + 0x010) = true := evPage_group hk (by decide)
  unfold State.fire
  dsimp only
  have o1 : Reg.Evg.LOOP_RUN.off + Reg.Evg.LOOP_RUN.stride * (k % 8) < 0x1000 := by simp only [Reg.Evg.LOOP_RUN]; omega
  have o2 : Reg.Evg.FIRE_COUNT.off + Reg.Evg.FIRE_COUNT.stride * (k % 8) < 0x1000 := by
    simp only [Reg.Evg.FIRE_COUNT]; omega
  have o3 : Reg.Evg.BUSY.off + Reg.Evg.BUSY.stride * (k % 8) < 0x1000 := by simp only [Reg.Evg.BUSY]; omega
  have base : ∀ f, Delivers s (((((s.setFld (evgPage k) Reg.Evg.LOOP_RUN (s.loopRun k) (k % 8)).inc (evgPage k)
      Reg.Evg.FIRE_COUNT (k % 8)).modEvch k f)).setFld (evgPage k) Reg.Evg.BUSY 1 (k % 8)) := fun f =>
    Delivers.trans (Delivers.trans (Delivers.trans (Delivers.group s _ hk o1) (Delivers.groupInc _ hk o2))
      (Delivers.modEvch _ k f)) (Delivers.group _ _ hk o3)
  refine Delivers.trans ?_ (Delivers.raise _ _ hb)
  split
  · exact Delivers.trans (base _) (Delivers.raise _ _ hb)
  · exact base _

theorem publish_delivers (s : State) {k : Nat} (imp : Bool) (occ : Option Nat) (hk : k < 256) :
    Delivers s (s.publish k imp occ) := by
  have h8 : k % 8 < 8 := Nat.mod_lt _ (by decide)
  have hb : evPage (evgPage k + 0x010) = true := evPage_group hk (by decide)
  unfold State.publish
  dsimp only
  split
  · exact Delivers.groupInc s (r := Reg.Evg.DIS_DROP_COUNT) (i := 0) hk (by decide)
  · split
    · split
      · have o : Reg.Evg.MERGE_COUNT.off + Reg.Evg.MERGE_COUNT.stride * (k % 8) < 0x1000 := by
          simp only [Reg.Evg.MERGE_COUNT]; omega
        exact Delivers.trans (Delivers.group s (r := Reg.Evg.COINCIDE) (i := 0) _ hk (by decide)) (Delivers.groupInc _ hk o)
      · have o : Reg.Evg.COLLIDE_COUNT.off + Reg.Evg.COLLIDE_COUNT.stride * (k % 8) < 0x1000 := by
          simp only [Reg.Evg.COLLIDE_COUNT]; omega
        exact Delivers.trans (Delivers.groupInc s hk o) (Delivers.raise _ _ hb)
    · exact fire_delivers s imp occ hk

theorem modFn_pba_delivers (s : State) (f : Nat) (g : BitVec 64 → BitVec 64) :
    Delivers s (s.modFn f fun x => { x with pba := g x.pba }) := by
  refine ⟨rfl, fun _ _ => rfl, fun n => ?_, id, .inr rfl⟩
  by_cases h : n = f
  · subst h; exact ⟨_, State.fnSt_modFn ..⟩
  · exact ⟨(s.fnSt n).pba, State.fnSt_modFn_ne s _ h⟩

theorem setPba_delivers (s : State) (f v : Nat) (on : Bool) : Delivers s (s.setPba f v on) :=
  modFn_pba_delivers s f fun p => if on then p ||| BitVec.ofNat 64 (2 ^ v) else p &&& ~~~ BitVec.ofNat 64 (2 ^ v)

theorem msixWrite_delivers (s : State) (f v : Nat) : Delivers s (s.msixWrite f v) := by
  refine ⟨rfl, fun _ _ => rfl, fun n => ⟨_, rfl⟩, fun w => ?_, .inr rfl⟩
  exact Memory.wf_wrLE _ _ _ w

theorem msixSignal_delivers (s : State) (f v : Nat) : Delivers s (s.msixSignal f v) := by
  unfold State.msixSignal
  split
  · exact setPba_delivers s f v true
  · split
    · split
      · exact Delivers.modMsix ..
      · exact msixWrite_delivers s f v
    · exact msixWrite_delivers s f v

theorem routeFld_lt (w : Word) (r : Row) : routeFld w r < 2 ^ r.width := Nat.mod_lt _ (Nat.two_pow_pos _)

theorem State.fld_lt (s : State) (b : Nat) (r : Row) (i : Nat) : s.fld b r i < 2 ^ r.width := Nat.mod_lt _ (Nat.two_pow_pos _)

theorem deliver_delivers (s : State) (n b : Nat) : Delivers s (s.deliver n b) := by
  unfold State.deliver
  dsimp only
  have key : Delivers s (if routeFld (s.route n) Reg.Intc.MSIX_EN = 1 then
      if s.owner b < 64 then s.msixSignal (s.owner b) (routeFld (s.route n) Reg.Intc.VEC)
      else s.inc Base.intc Reg.Intc.MSIX_SUPP_COUNT else s) := by
    split
    · split
      · exact msixSignal_delivers _ _ _
      · exact Delivers.setFld s _ 0 (evPage_intc (by decide))
    · exact Delivers.refl s
  split
  · exact key.trans (publish_delivers _ false none (routeFld_lt _ Reg.Intc.EV_CH))
  · exact key

theorem irqEvch_lt {s : State} {b k : Nat} (h : s.irqEvch b = some k) : k < 256 := by
  unfold State.irqEvch at h
  split at h <;> first
    | (split at h
       · cases h; exact State.fld_lt ..
       · cases h)
    | cases h

theorem foldl_delivers {α : Type} (l : List α) (f : State → α → State) (h : ∀ s a, Delivers s (f s a)) (s : State) :
    Delivers s (l.foldl f s) := by
  induction l generalizing s with
  | nil => exact Delivers.refl s
  | cons a l ih => exact (h s a).trans (ih _)

theorem carryEvch_delivers (s : State) (b : Nat) (old : Word) :
    Delivers s (if old = 0 then
      match s.irqEvch b with
      | some k => if s.owner b = s.owner (evgPage k) && !s.inDev .cellar then s.publish k else s
      | none => s
    else s) := by
  split
  · split
    · split
      · exact publish_delivers _ false none (irqEvch_lt (by assumption))
      · exact Delivers.refl s
    · exact Delivers.refl s
  · exact Delivers.refl s

theorem carry_delivers (s : State) (e : Nat × Word × Word) : Delivers s (s.carry e) := by
  unfold State.carry
  dsimp only
  have h1 : ∀ s n, Delivers s (if s.asserts n e.1 e.2.1 e.2.2 = true then s.deliver n e.1 else s) := by
    intro s n
    split
    · exact deliver_delivers _ _ _
    · exact Delivers.refl s
  refine Delivers.trans (Delivers.trans (foldl_delivers (pageSources e.1) _ h1 s) ?_) (carryEvch_delivers _ e.1 e.2.1)
  split
  · split
    · exact msixSignal_delivers _ _ _
    · exact Delivers.refl _
  · exact Delivers.refl _

theorem settleLoop_delivers (k : Nat) (s : State) : Delivers s (settleLoop k s) := by
  induction k generalizing s with
  | zero => exact Delivers.of_eq rfl
  | succ k ih =>
    unfold settleLoop
    split
    · exact Delivers.refl s
    · rename_i e es _
      have h : Delivers s { s with edges := es } := Delivers.of_eq rfl
      exact (h.trans (carry_delivers _ _)).trans (ih _)

/-- Once the captures of its cycle are dropped, settling the edges of a command changes only what delivery may change. -/
theorem newCycle_delivers (s : State) : Delivers s.newCycle s.settle := by
  unfold State.settle
  dsimp only
  split
  · exact Delivers.refl _
  · have h : Delivers s.newCycle s.newCycle.newWindow := Delivers.of_eq rfl
    exact h.trans (settleLoop_delivers _ _)

/-- Settling the edges of a command changes only what delivery may change. -/
theorem settle_delivers (s : State) : Delivers s s.settle :=
  (Delivers.of_eq rfl (.inl rfl)).trans (newCycle_delivers s)

/-- After a command no capture can be replaced any more. -/
theorem settle_errNow (s : State) : s.settle.errNow = [] := (newCycle_delivers s).now.elim id id

theorem settleLoop_edges (k : Nat) (s : State) : (settleLoop k s).edges = [] := by
  induction k generalizing s with
  | zero => rfl
  | succ k ih =>
    unfold settleLoop
    split
    · assumption
    · exact ih _

/-- No edge is left over after settling. -/
theorem settle_edges (s : State) : s.settle.edges = [] := by
  unfold State.settle
  dsimp only
  split
  · assumption
  · exact settleLoop_edges _ _

/-- A command that made no edge ends as it stands, but for the captures of its cycle, which can no longer be replaced. -/
theorem settle_newCycle {s : State} (h : s.edges = []) : s.settle = s.newCycle := by
  unfold State.settle
  dsimp only
  rw [show s.newCycle.edges = [] from h]

/-- A command that made no edge and captured no error ends as it stands. -/
theorem settle_quiet {s : State} (h : s.edges = []) (h' : s.errNow = []) : s.settle = s := by
  rw [settle_newCycle h]
  cases s; cases h'; rfl

/-- Every meaning that ends in `finish` answers a next state. -/
theorem finish_next (s : State) : finish s = .next s.settle := rfl

/-! ### What a command leaves, read after its edges are settled -/

section
variable (s : State)

theorem State.settle_reg {a : Nat} (h : evPage a = false) : s.settle.reg a = s.reg a := (settle_delivers s).reg a h

theorem State.settle_fld {b i : Nat} {r : Row} (h : evPage (b + r.off + r.stride * i) = false) :
    s.settle.fld b r i = s.fld b r i := by
  unfold State.fld; rw [s.settle_reg h]

@[simp] theorem State.settle_count : s.settle.count = s.count := by rw [(settle_delivers s).rest]
@[simp] theorem State.settle_refLost : s.settle.refLost = s.refLost := by rw [(settle_delivers s).rest]
@[simp] theorem State.settle_frameAt : s.settle.frameAt = s.frameAt := by rw [(settle_delivers s).rest]
@[simp] theorem State.settle_epochAt : s.settle.epochAt = s.epochAt := by rw [(settle_delivers s).rest]
@[simp] theorem State.settle_loadIn : s.settle.loadIn = s.loadIn := by rw [(settle_delivers s).rest]
@[simp] theorem State.settle_latch : s.settle.latch = s.latch := by rw [(settle_delivers s).rest]
@[simp] theorem State.settle_ticks : s.settle.ticks = s.ticks := by rw [(settle_delivers s).rest]
@[simp] theorem State.settle_limits : s.settle.limits = s.limits := by rw [(settle_delivers s).rest]
@[simp] theorem State.settle_tiles : s.settle.tiles = s.tiles := by rw [(settle_delivers s).rest]
@[simp] theorem State.settle_seqs : s.settle.seqs = s.seqs := by rw [(settle_delivers s).rest]
@[simp] theorem State.settle_loader : s.settle.loader = s.loader := by rw [(settle_delivers s).rest]
@[simp] theorem State.settle_cs : s.settle.cs = s.cs := by rw [(settle_delivers s).rest]
@[simp] theorem State.settle_csImage : s.settle.csImage = s.csImage := by rw [(settle_delivers s).rest]
@[simp] theorem State.settle_bar2 : s.settle.bar2 = s.bar2 := by rw [(settle_delivers s).rest]
@[simp] theorem State.settle_used : s.settle.used = s.used := by rw [(settle_delivers s).rest]
@[simp] theorem State.settle_rings : s.settle.rings = s.rings := by rw [(settle_delivers s).rest]
@[simp] theorem State.settle_ctxCache : s.settle.ctxCache = s.ctxCache := by rw [(settle_delivers s).rest]
@[simp] theorem State.settle_dram : s.settle.dram = s.dram := by rw [(settle_delivers s).rest]
@[simp] theorem State.settle_dchs : s.settle.dchs = s.dchs := by rw [(settle_delivers s).rest]
@[simp] theorem State.settle_doorbells : s.settle.doorbells = s.doorbells := by rw [(settle_delivers s).rest]
@[simp] theorem State.settle_dwait : s.settle.dwait = s.dwait := by rw [(settle_delivers s).rest]
@[simp] theorem State.settle_slotLog : s.settle.slotLog = s.slotLog := by rw [(settle_delivers s).rest]
@[simp] theorem State.settle_dramNvm : s.settle.dramNvm = s.dramNvm := by rw [(settle_delivers s).rest]
@[simp] theorem State.settle_unfreezing : s.settle.unfreezing = s.unfreezing := by rw [(settle_delivers s).rest]
@[simp] theorem State.settle_evgs : s.settle.evgs = s.evgs := by rw [(settle_delivers s).rest]
@[simp] theorem State.settle_routes : s.settle.routes = s.routes := by rw [(settle_delivers s).rest]
@[simp] theorem State.settle_tones : s.settle.tones = s.tones := by rw [(settle_delivers s).rest]
@[simp] theorem State.settle_outs : s.settle.outs = s.outs := by rw [(settle_delivers s).rest]
@[simp] theorem State.settle_adcs : s.settle.adcs = s.adcs := by rw [(settle_delivers s).rest]
@[simp] theorem State.settle_routs : s.settle.routs = s.routs := by rw [(settle_delivers s).rest]
@[simp] theorem State.settle_fir : s.settle.fir = s.fir := by rw [(settle_delivers s).rest]
@[simp] theorem State.settle_kernel : s.settle.kernel = s.kernel := by rw [(settle_delivers s).rest]
@[simp] theorem State.settle_lanes : s.settle.lanes = s.lanes := by rw [(settle_delivers s).rest]
@[simp] theorem State.settle_slots : s.settle.slots = s.slots := by rw [(settle_delivers s).rest]
@[simp] theorem State.settle_copies : s.settle.copies = s.copies := by rw [(settle_delivers s).rest]
@[simp] theorem State.settle_syn : s.settle.syn = s.syn := by rw [(settle_delivers s).rest]
@[simp] theorem State.settle_cmap : s.settle.cmap = s.cmap := by rw [(settle_delivers s).rest]
@[simp] theorem State.settle_ports : s.settle.ports = s.ports := by rw [(settle_delivers s).rest]
@[simp] theorem State.settle_mesh : s.settle.mesh = s.mesh := by rw [(settle_delivers s).rest]
@[simp] theorem State.settle_acqs : s.settle.acqs = s.acqs := by rw [(settle_delivers s).rest]
@[simp] theorem State.settle_fluxes : s.settle.fluxes = s.fluxes := by rw [(settle_delivers s).rest]
@[simp] theorem State.settle_nt : s.settle.nt = s.nt := by rw [(settle_delivers s).rest]
@[simp] theorem State.settle_eths : s.settle.eths = s.eths := by rw [(settle_delivers s).rest]
@[simp] theorem State.settle_power : s.settle.power = s.power := by rw [(settle_delivers s).rest]
@[simp] theorem State.settle_therm : s.settle.therm = s.therm := by rw [(settle_delivers s).rest]
@[simp] theorem State.settle_sensors : s.settle.sensors = s.sensors := by rw [(settle_delivers s).rest]
@[simp] theorem State.settle_sfes : s.settle.sfes = s.sfes := by rw [(settle_delivers s).rest]
@[simp] theorem State.settle_cal : s.settle.cal = s.cal := by rw [(settle_delivers s).rest]
@[simp] theorem State.settle_dbgs : s.settle.dbgs = s.dbgs := by rw [(settle_delivers s).rest]
@[simp] theorem State.settle_respVal : s.settle.respVal = s.respVal := by rw [(settle_delivers s).rest]
@[simp] theorem State.settle_free : s.settle.free = s.free := by rw [(settle_delivers s).rest]
@[simp] theorem State.settle_pending : s.settle.pending = s.pending := by rw [(settle_delivers s).rest]

end

end Sys2Proof.Machine
end

