-- ==== Sys2Proof/Laws/Bus.lean ====
section
/-!
SUPPORT. Register accesses: where a page lies, and what an access that is carried out at once does.
-/
namespace Sys2Proof.Machine

/-! ### The address map -/

theorem pageBase_eq (t : PageType) (n : Nat) : pageBase t n = pageBase t 0 + n * 0x1000 := by
  unfold pageBase; omega

theorem find?_range {l : List (PageType × Nat × Nat)} {e : PageType × Nat × Nat} {a : Nat}
    (he : e ∈ l) (hd : l.Pairwise fun x y => x.2.1 + x.2.2 * 0x1000 ≤ y.2.1)
    (h1 : e.2.1 ≤ a) (h2 : a < e.2.1 + e.2.2 * 0x1000) :
    (l.find? fun e => e.2.1 ≤ a && a < e.2.1 + e.2.2 * 0x1000) = some e := by
  induction l with
  | nil => cases he
  | cons x l ih =>
    rw [List.pairwise_cons] at hd
    rcases List.mem_cons.1 he with rfl | he
    · exact List.find?_cons_of_pos (by simp; omega)
    · have := hd.1 e he
      rw [List.find?_cons_of_neg (by simp; omega)]
      exact ih he hd.2

/-- No two page ranges overlap (R48). -/
theorem pageMap_apart : pageMap.Pairwise fun x y => x.2.1 + x.2.2 * 0x1000 ≤ y.2.1 := by decide

theorem pageMap_mem (t : PageType) : (t, pageBase t 0, pageCount t) ∈ pageMap := by cases t <;> decide

/-- Every word of every page is found at its page (R48). -/
theorem pageOf_page {t : PageType} {n off : Nat} (hn : n < pageCount t) (h : off < 0x1000) :
    pageOf (pageBase t n + off) = some (t, n) := by
  have e := pageBase_eq t n
  unfold pageOf
  rw [find?_range (pageMap_mem t) pageMap_apart (by simp only; omega) (by simp only; omega)]
  simp only [Option.map_some, Option.some.injEq, Prod.mk.injEq, true_and]
  omega

theorem pageBase_mod (t : PageType) (n : Nat) : pageBase t n % 0x1000 = 0 := by
  have h : pageBase t 0 % 0x1000 = 0 := by cases t <;> rfl
  have := pageBase_eq t n
  omega

theorem pageBase_lt {t : PageType} {n off : Nat} (hn : n < pageCount t) (h : off < 0x1000) :
    pageBase t n + off < 0x0400_0000 := by
  have h0 : pageBase t 0 + pageCount t * 0x1000 ≤ 0x0400_0000 := by cases t <;> decide
  have := pageBase_eq t n
  omega

/-! ### Charges -/

theorem chargeHostWord_rest {s r : State} {f : Nat} (h : s.chargeHostWord f = some r) : r = { s with used := r.used } := by
  unfold State.chargeHostWord State.chargeAccess at h
  dsimp only at h
  split at h
  · cases h; rfl
  · split at h
    · cases h; rfl
    · cases h

/-- The charge of an access changes nothing but the units used; the access has a cycle of its own. -/
theorem charged_rest {s r : State} {who : Req} (h : s.charged who = some r) :
    r = { s with used := r.used, errNow := [] } := by
  unfold State.charged at h
  split at h
  · split at h
    · obtain ⟨q, hq, rfl⟩ := Option.map_eq_some_iff.1 h
      have key : ∀ us, q = { s with used := us } → q.newCycle = { s with used := q.newCycle.used, errNow := [] } := by
        rintro us rfl; rfl
      exact key _ (chargeHostWord_rest hq)
    · cases h
  · cases h; rfl

theorem granted_charged {s r : State} {who : Req} {t : PageType} {n : Nat} (h : s.granted who t n = some r) :
    s.charged who = some r ∧ r.shows who (some t) = true ∧ r.denied who (pageBase t n) = none := by
  unfold State.granted at h
  split at h
  · rename_i q hq
    split at h
    · rename_i hc
      cases h
      simp only [Bool.and_eq_true, Option.isNone_iff_eq_none] at hc
      exact ⟨hq, hc⟩
    · cases h
  · cases h

/-- A granted access finds every part of the state but the units used as it was, and no capture of an earlier cycle. -/
theorem granted_rest {s r : State} {who : Req} {t : PageType} {n : Nat} (h : s.granted who t n = some r) :
    r = { s with used := r.used, errNow := [] } := charged_rest (granted_charged h).1

theorem granted_reg {s r : State} {who : Req} {t : PageType} {n : Nat} (h : s.granted who t n = some r) (a : Nat) :
    r.reg a = s.reg a := State.reg_congr (by rw [granted_rest h]) a

theorem granted_fld {s r : State} {who : Req} {t : PageType} {n : Nat} (h : s.granted who t n = some r) (b : Nat) (q : Row)
    (i : Nat) : r.fld b q i = s.fld b q i := State.fld_congr (by rw [granted_rest h]) b q i

/-! ### One access -/

/-- A write of one word that is made at once is the write of that word, after its charge. -/
theorem busWrite_charged {s r : State} {who : Req} {t : PageType} {n off : Nat} (h : s.charged who = some r)
    (hn : n < pageCount t) (ho : off < 0x1000) (h4 : off % 4 = 0) (be : BitVec 4) (w : Word) :
    s.busWrite who (pageBase t n + off) [(be, w)] = r.wordWrite who (pageBase t n + off) be w := by
  have hlt := pageBase_lt hn ho
  have hx : crossesPage (pageBase t n + off) 1 = false := by
    have := pageBase_mod t n
    simp [crossesPage]; omega
  unfold State.busWrite
  rw [if_neg (by omega)]
  cases who with
  | fn f =>
    simp only [State.charged] at h
    split at h
    · rename_i hc
      simp only [Bool.and_eq_true, List.isEmpty_iff] at hc
      obtain ⟨q, hq, rfl⟩ := Option.map_eq_some_iff.1 h
      simp [State.hostAccess, hc, State.tryAccess, State.hostWords, hq]
    · cases h
  | mgmt => cases h; simp [hx, State.writeWords]
  | dbgUser => cases h; simp [hx, State.writeWords]
  | dbgSecure => cases h; simp [hx, State.writeWords]

/-- A read that is made at once is the read of that word, after its charge. -/
theorem busGet_charged {s r : State} {who : Req} (h : s.charged who = some r) (a : Nat) :
    s.busGet who a = r.wordRead who a := by
  unfold State.busGet
  cases who with
  | fn f =>
    simp only [State.charged] at h
    split at h
    · rename_i hc
      simp only [Bool.and_eq_true, List.isEmpty_iff] at hc
      obtain ⟨q, hq, rfl⟩ := Option.map_eq_some_iff.1 h
      simp [State.hostAccess, hc, State.tryAccess, hq]
    · cases h
  | mgmt => cases h; rfl
  | dbgUser => cases h; rfl
  | dbgSecure => cases h; rfl

/-- A granted write of one word reaches its page. -/
theorem busWrite_granted {s r : State} {who : Req} {t : PageType} {n off : Nat} (h : s.granted who t n = some r)
    (hn : n < pageCount t) (ho : off < 0x1000) (h4 : off % 4 = 0) (be : BitVec 4) (w : Word) :
    s.busWrite who (pageBase t n + off) [(be, w)] = r.pageWrite who t n off (beMask be) w := by
  obtain ⟨hc, hs, _⟩ := granted_charged h
  have := pageBase_mod t n
  rw [busWrite_charged hc hn ho h4]
  unfold State.wordWrite
  rw [pageOf_page hn ho]
  simp only [hs, if_true]
  rw [show (pageBase t n + off) % 0x1000 / 4 * 4 = off by omega]

/-- A granted read of a word reaches its page. -/
theorem busGet_granted {s r : State} {who : Req} {t : PageType} {n off : Nat} (h : s.granted who t n = some r)
    (hn : n < pageCount t) (ho : off < 0x1000) (h4 : off % 4 = 0) :
    s.busGet who (pageBase t n + off) = r.pageGet t n off := by
  obtain ⟨hc, hs, hd⟩ := granted_charged h
  have := pageBase_mod t n
  rw [busGet_charged hc]
  unfold State.wordRead
  rw [pageOf_page hn ho]
  simp only [hs, hd, Bool.not_true, Bool.false_eq_true, if_false, ite_self]
  rw [show (pageBase t n + off) % 0x1000 / 4 * 4 = off by omega]

/-- A granted write of a header register other than OWNER. -/
theorem pageWrite_header {s r : State} {who : Req} {t : PageType} {n off : Nat} (h : s.granted who t n = some r)
    (ho : off < 0x028) (h20 : off ≠ 0x020) (mask w : Word) :
    r.pageWrite who t n off mask w = r.headerWrite who t n off mask w := by
  unfold State.pageWrite
  have h1 : hasWord t off = true := by simp [hasWord, ho]
  simp [h20, (granted_charged h).2.2, h1, show off < 0x040 by omega]

/-- A granted write of a block register. -/
theorem pageWrite_block {s r : State} {who : Req} {t : PageType} {n off : Nat} (h : s.granted who t n = some r)
    (ho : 0x040 ≤ off) (hw : hasWord t off = true) (mask w : Word) :
    r.pageWrite who t n off mask w = r.blockWrite who t n off mask w := by
  unfold State.pageWrite
  simp [show off ≠ 0x020 by omega, (granted_charged h).2.2, hw, show ¬ off < 0x040 by omega]

/-- A write that is made at once and refused records its error in the page and changes nothing else (R56). -/
theorem busWrite_denied {s r : State} {who : Req} {t : PageType} {n off code : Nat} (h : s.charged who = some r)
    (hs : r.shows who (some t) = true) (hd : r.denied who (pageBase t n) = some code)
    (hn : n < pageCount t) (ho : off < 0x1000) (h4 : off % 4 = 0) (h20 : off ≠ 0x020) (be : BitVec 4) (w : Word) :
    s.busWrite who (pageBase t n + off) [(be, w)] = r.accErr (pageBase t n) code who off true := by
  have := pageBase_mod t n
  rw [busWrite_charged h hn ho h4]
  unfold State.wordWrite
  rw [pageOf_page hn ho]
  simp only [hs, if_true]
  rw [show (pageBase t n + off) % 0x1000 / 4 * 4 = off by omega]
  unfold State.pageWrite
  simp [h20, hd]

/-! ### The word masks of the register commands -/

theorem beMask_whole : beMask 0xF#4 = 0xFFFF_FFFF#32 := by decide
theorem beMask_low : beMask 0x1#4 = 0xFF#32 := by decide
theorem beMask_top : beMask 0x8#4 = 0xFF00_0000#32 := by decide

/-- A write of all bits leaves the word written. -/
theorem mergeWord_whole (old w : Word) : mergeWord old w 0xFFFF_FFFF#32 = w := by
  unfold mergeWord
  rw [show (0xFFFF_FFFF#32 : Word) = BitVec.allOnes 32 from rfl, BitVec.not_allOnes, BitVec.and_zero, BitVec.zero_or,
    BitVec.and_allOnes]

theorem fnPage_only {t : PageType} {n : Nat} (hn : n < pageCount t) (h : isFnPage (pageBase t n) = true) : t = .fn := by
  have e := pageBase_eq t n
  have k : Base.fn 0 ≤ pageBase t n ∧ pageBase t n < Base.fn 64 := of_decide_eq_true h
  have key : ∀ t : PageType, t = .fn ∨ pageBase t 0 + pageCount t * 0x1000 ≤ Base.fn 0 ∨ Base.fn 64 ≤ pageBase t 0 := by
    intro t; cases t <;> decide
  rcases key t with h | h | h
  · exact h
  · omega
  · omega

theorem fnPage_fn (n : Nat) (hn : n < 64) : isFnPage (pageBase .fn n) = true := by
  have e := pageBase_eq .fn n
  have : pageBase .fn 0 = Base.fn 0 := rfl
  have : Base.fn 64 = Base.fn 0 + 64 * 0x1000 := rfl
  simp only [isFnPage, decide_eq_true_eq]
  omega

/-- The command's address operand holds every address of every page. -/
theorem addr27 {t : PageType} {n off : Nat} (hn : n < pageCount t) (ho : off < 0x1000) :
    (BitVec.ofNat 27 (pageBase t n + off)).toNat = pageBase t n + off := by
  rw [BitVec.toNat_ofNat]
  exact Nat.mod_eq_of_lt (by have := pageBase_lt hn ho; omega)

/-! ### CTL bits -/

/-- The page's CTL acts: ENABLE is not ignored there. -/
def ctlActs (t : PageType) : Bool := !enableIgnored t && t != .mesh

theorem ctlWrite_acts {t : PageType} (h : ctlActs t = true) (h1 : t ≠ .acq) (s : State) (n : Nat) (mask data : Word) :
    s.ctlWrite t n mask data =
      let v := data &&& mask
      let u := if mask.getLsbD 0 && (t == .seq || data.getLsbD 0 != s.enabled (pageBase t n)) then
        (if data.getLsbD 0 then s.pageEnable t n else s.pageDisable t n) else s
      if v.getLsbD 1 then u.pageKill t n else u := by
  have h2 : t ≠ .tl := by rintro rfl; cases h
  have h3 : (enableIgnored t || t == .mesh) = false := by
    revert h; simp only [ctlActs]; cases enableIgnored t <;> simp
  unfold State.ctlWrite
  simp [h3, h2, h1]

theorem putByte_ctl {s r : State} {who : Req} {t : PageType} {n : Nat} (h : s.granted who t n = some r)
    (hn : n < pageCount t) (w : Word) : s.putByte who (pageBase t n + 0x008) w = r.ctlWrite t n 0xFF#32 w := by
  unfold State.putByte
  rw [busWrite_granted h hn (by decide) (by decide), pageWrite_header h (by decide) (by decide), beMask_low]
  rfl

theorem granted_enabled {s r : State} {who : Req} {t : PageType} {n : Nat} (h : s.granted who t n = some r) (b : Nat) :
    r.enabled b = s.enabled b := by
  unfold State.enabled State.bit; rw [granted_fld h]

/-- A granted write of 1 to ENABLE of a page that is not enabled. -/
theorem putEnable_granted {s r : State} {who : Req} {t : PageType} {n : Nat} (h : s.granted who t n = some r)
    (hn : n < pageCount t) (ht : ctlActs t = true) (ha : t ≠ .acq) (he : t = .seq ∨ s.enabled (pageBase t n) = false) :
    s.putEnable who (pageBase t n) = r.pageEnable t n := by
  unfold State.putEnable
  rw [putByte_ctl h hn, ctlWrite_acts ht ha]
  rcases he with rfl | he
  · simp
  · simp [granted_enabled h, he]

/-- A granted write of 0 to ENABLE of an enabled page. -/
theorem putDisable_granted {s r : State} {who : Req} {t : PageType} {n : Nat} (h : s.granted who t n = some r)
    (hn : n < pageCount t) (ht : ctlActs t = true) (ha : t ≠ .acq) (he : t = .seq ∨ s.enabled (pageBase t n) = true) :
    s.putDisable who (pageBase t n) = r.pageDisable t n := by
  unfold State.putDisable
  rw [putByte_ctl h hn, ctlWrite_acts ht ha]
  rcases he with rfl | he
  · simp
  · simp [granted_enabled h, he]

/-- A granted write of 1 to DISABLE_NOW, ENABLE written as it stands. -/
theorem putKill_granted {s r : State} {who : Req} {t : PageType} {n : Nat} (h : s.granted who t n = some r)
    (hn : n < pageCount t) (ht : ctlActs t = true) (ha : t ≠ .acq) (hs : t ≠ .seq) :
    s.putCtl who (pageBase t n) 1 = r.pageKill t n := by
  unfold State.putCtl
  rw [putByte_ctl h hn, ctlWrite_acts ht ha, granted_enabled h]
  cases s.enabled (pageBase t n) <;> simp [hs]

/-- Two kinds of refusal of R55, for a function's request. -/
theorem denied_fn {s : State} {f : Fin 64} {t : PageType} {n : Nat} (hn : n < pageCount t) :
    s.denied (.fn f) (pageBase t n) =
      (if s.owner (pageBase t n) ≠ f ∧ ¬ (f = 0 ∧ t = .fn) then some 1
       else if s.bit (pageBase t n) Reg.Hdr.SEC = true then some 2 else none) := by
  have hp : isFnPage (pageBase t n) = true ↔ t = .fn :=
    ⟨fnPage_only hn, fun e => by subst e; exact fnPage_fn n hn⟩
  have h0 : f = 0 ↔ f.val = 0 := ⟨fun e => by rw [e]; rfl, fun e => Fin.ext e⟩
  unfold State.denied
  simp only [reqMgmt, reqNum, reqFn0, reqSecure, h0]
  by_cases a : s.owner (pageBase t n) = f.val <;> by_cases c : f.val = 0 <;> by_cases d : t = .fn <;>
    simp_all

theorem err_edges (s : State) (b code info : Nat) : (s.err b code info).edges = s.edges := by
  obtain ⟨w, es, h⟩ := s.err_eq b code info
  exact (congrArg State.edges h :)

theorem charged_edges {s r : State} {who : Req} (h : s.charged who = some r) : r.edges = s.edges := by rw [charged_rest h]

theorem charged_reg {s r : State} {who : Req} (h : s.charged who = some r) (a : Nat) : r.reg a = s.reg a :=
  State.reg_congr (by rw [charged_rest h]) a

theorem charged_fld {s r : State} {who : Req} (h : s.charged who = some r) (b : Nat) (q : Row) (i : Nat) :
    r.fld b q i = s.fld b q i := State.fld_congr (by rw [charged_rest h]) b q i

/-- One register written after a charge. -/
theorem charged_setReg {s r : State} {who : Req} (h : s.charged who = some r) (a : Nat) (w : Word) :
    r.setReg a w = { s with regs := (r.setReg a w).regs, used := r.used, errNow := [] } := by
  have key : ∀ us, r = { s with used := us, errNow := [] } →
      r.setReg a w = { s with regs := (r.setReg a w).regs, used := us, errNow := [] } := by
    intro us e; subst e; rfl
  exact key _ (charged_rest h)

/-- What ERR_CAP holds after the first error of a cycle (R54). -/
theorem err_word (s : State) (b code info : Nat) (hc : code < 64) (hi : info < 2 ^ 24) (hn : s.errNow = []) :
    (s.err b code info).regs = (s.setReg (b + 0x01C)
      (if s.bit b Reg.Hdr.VALID then s.reg (b + 0x01C) ||| 0x4000_0000#32
       else BitVec.ofNat 32 (2 ^ 31 + code * 2 ^ 24 + info))).regs := by
  have more : (s.setBit b Reg.Hdr.MORE true).regs =
      (s.setReg (b + 0x01C) (s.reg (b + 0x01C) ||| 0x4000_0000#32)).regs := by
    unfold State.setBit State.setFld
    have : ∀ w : Word, Reg.Hdr.MORE.set w 1 = w ||| 0x4000_0000#32 := by
      intro w
      have e : Reg.Hdr.MORE.set w 1 = (w &&& ~~~ 0x4000_0000#32) ||| 0x4000_0000#32 := rfl
      rw [e]; ext i hi; simp only [BitVec.getElem_or, BitVec.getElem_and, BitVec.getElem_not]
      cases w[i] <;> cases (0x4000_0000#32 : Word)[i] <;> rfl
    exact congrArg (fun w => (s.setReg (b + 0x01C) w).regs) (this _)
  unfold State.err
  cases hv : s.bit b Reg.Hdr.VALID with
  | false =>
    simp only [Bool.not_false, if_true, Bool.false_eq_true, if_false, State.setReg, errWord, Bool.toNat_false, Nat.zero_mul,
      Nat.add_zero, Nat.mod_eq_of_lt (show code < 2 ^ 6 from hc), Nat.mod_eq_of_lt hi]
  | true => simp [hn, more]

end Sys2Proof.Machine
end

