-- ==== Sys2Proof/Laws/Fields.lean ====
section
/-!
SUPPORT. What the operations on registers, status bits and error captures leave as it was, and what registers read as after
each of the other updates.
-/
namespace Sys2Proof.Machine

variable (s : State)

@[simp] theorem State.modTile_reg (n : Nat) (f : TileSt → TileSt) (c : Nat) : (s.modTile n f).reg c = s.reg c := rfl
@[simp] theorem State.modTile_fld (n : Nat) (f : TileSt → TileSt) (b : Nat) (r : Row) (i : Nat) : (s.modTile n f).fld b r i = s.fld b r i := rfl
@[simp] theorem State.modTile_enabled (n : Nat) (f : TileSt → TileSt) (b : Nat) : (s.modTile n f).enabled b = s.enabled b := rfl
@[simp] theorem State.modSeq_reg (n : Nat) (f : SeqSt → SeqSt) (c : Nat) : (s.modSeq n f).reg c = s.reg c := rfl
@[simp] theorem State.modSeq_fld (n : Nat) (f : SeqSt → SeqSt) (b : Nat) (r : Row) (i : Nat) : (s.modSeq n f).fld b r i = s.fld b r i := rfl
@[simp] theorem State.modSeq_enabled (n : Nat) (f : SeqSt → SeqSt) (b : Nat) : (s.modSeq n f).enabled b = s.enabled b := rfl
@[simp] theorem State.modRing_reg (n : Nat) (f : RingSt → RingSt) (c : Nat) : (s.modRing n f).reg c = s.reg c := rfl
@[simp] theorem State.modRing_fld (n : Nat) (f : RingSt → RingSt) (b : Nat) (r : Row) (i : Nat) : (s.modRing n f).fld b r i = s.fld b r i := rfl
@[simp] theorem State.modRing_enabled (n : Nat) (f : RingSt → RingSt) (b : Nat) : (s.modRing n f).enabled b = s.enabled b := rfl
@[simp] theorem State.modFn_reg (n : Nat) (f : FnSt → FnSt) (c : Nat) : (s.modFn n f).reg c = s.reg c := rfl
@[simp] theorem State.modFn_fld (n : Nat) (f : FnSt → FnSt) (b : Nat) (r : Row) (i : Nat) : (s.modFn n f).fld b r i = s.fld b r i := rfl
@[simp] theorem State.modFn_enabled (n : Nat) (f : FnSt → FnSt) (b : Nat) : (s.modFn n f).enabled b = s.enabled b := rfl
@[simp] theorem State.modMsix_reg (n : Nat) (f : MsixSt → MsixSt) (c : Nat) : (s.modMsix n f).reg c = s.reg c := rfl
@[simp] theorem State.modMsix_fld (n : Nat) (f : MsixSt → MsixSt) (b : Nat) (r : Row) (i : Nat) : (s.modMsix n f).fld b r i = s.fld b r i := rfl
@[simp] theorem State.modMsix_enabled (n : Nat) (f : MsixSt → MsixSt) (b : Nat) : (s.modMsix n f).enabled b = s.enabled b := rfl
@[simp] theorem State.modDch_reg (n : Nat) (f : DchSt → DchSt) (c : Nat) : (s.modDch n f).reg c = s.reg c := rfl
@[simp] theorem State.modDch_fld (n : Nat) (f : DchSt → DchSt) (b : Nat) (r : Row) (i : Nat) : (s.modDch n f).fld b r i = s.fld b r i := rfl
@[simp] theorem State.modDch_enabled (n : Nat) (f : DchSt → DchSt) (b : Nat) : (s.modDch n f).enabled b = s.enabled b := rfl
@[simp] theorem State.modEvch_reg (n : Nat) (f : EvSt → EvSt) (c : Nat) : (s.modEvch n f).reg c = s.reg c := rfl
@[simp] theorem State.modEvch_fld (n : Nat) (f : EvSt → EvSt) (b : Nat) (r : Row) (i : Nat) : (s.modEvch n f).fld b r i = s.fld b r i := rfl
@[simp] theorem State.modEvch_enabled (n : Nat) (f : EvSt → EvSt) (b : Nat) : (s.modEvch n f).enabled b = s.enabled b := rfl
@[simp] theorem State.modEvg_reg (n : Nat) (f : EvgSt → EvgSt) (c : Nat) : (s.modEvg n f).reg c = s.reg c := rfl
@[simp] theorem State.modEvg_fld (n : Nat) (f : EvgSt → EvgSt) (b : Nat) (r : Row) (i : Nat) : (s.modEvg n f).fld b r i = s.fld b r i := rfl
@[simp] theorem State.modEvg_enabled (n : Nat) (f : EvgSt → EvgSt) (b : Nat) : (s.modEvg n f).enabled b = s.enabled b := rfl
@[simp] theorem State.modTone_reg (n : Nat) (f : ToneSt → ToneSt) (c : Nat) : (s.modTone n f).reg c = s.reg c := rfl
@[simp] theorem State.modTone_fld (n : Nat) (f : ToneSt → ToneSt) (b : Nat) (r : Row) (i : Nat) : (s.modTone n f).fld b r i = s.fld b r i := rfl
@[simp] theorem State.modTone_enabled (n : Nat) (f : ToneSt → ToneSt) (b : Nat) : (s.modTone n f).enabled b = s.enabled b := rfl
@[simp] theorem State.modOut_reg (n : Nat) (f : OutSt → OutSt) (c : Nat) : (s.modOut n f).reg c = s.reg c := rfl
@[simp] theorem State.modOut_fld (n : Nat) (f : OutSt → OutSt) (b : Nat) (r : Row) (i : Nat) : (s.modOut n f).fld b r i = s.fld b r i := rfl
@[simp] theorem State.modOut_enabled (n : Nat) (f : OutSt → OutSt) (b : Nat) : (s.modOut n f).enabled b = s.enabled b := rfl
@[simp] theorem State.modAdc_reg (n : Nat) (f : AdcSt → AdcSt) (c : Nat) : (s.modAdc n f).reg c = s.reg c := rfl
@[simp] theorem State.modAdc_fld (n : Nat) (f : AdcSt → AdcSt) (b : Nat) (r : Row) (i : Nat) : (s.modAdc n f).fld b r i = s.fld b r i := rfl
@[simp] theorem State.modAdc_enabled (n : Nat) (f : AdcSt → AdcSt) (b : Nat) : (s.modAdc n f).enabled b = s.enabled b := rfl
@[simp] theorem State.modRout_reg (n : Nat) (f : RoutSt → RoutSt) (c : Nat) : (s.modRout n f).reg c = s.reg c := rfl
@[simp] theorem State.modRout_fld (n : Nat) (f : RoutSt → RoutSt) (b : Nat) (r : Row) (i : Nat) : (s.modRout n f).fld b r i = s.fld b r i := rfl
@[simp] theorem State.modRout_enabled (n : Nat) (f : RoutSt → RoutSt) (b : Nat) : (s.modRout n f).enabled b = s.enabled b := rfl
@[simp] theorem State.modLane_reg (n : Nat) (f : LaneSt → LaneSt) (c : Nat) : (s.modLane n f).reg c = s.reg c := rfl
@[simp] theorem State.modLane_fld (n : Nat) (f : LaneSt → LaneSt) (b : Nat) (r : Row) (i : Nat) : (s.modLane n f).fld b r i = s.fld b r i := rfl
@[simp] theorem State.modLane_enabled (n : Nat) (f : LaneSt → LaneSt) (b : Nat) : (s.modLane n f).enabled b = s.enabled b := rfl
@[simp] theorem State.modSlot_reg (n : Nat) (f : Slot → Slot) (c : Nat) : (s.modSlot n f).reg c = s.reg c := rfl
@[simp] theorem State.modSlot_fld (n : Nat) (f : Slot → Slot) (b : Nat) (r : Row) (i : Nat) : (s.modSlot n f).fld b r i = s.fld b r i := rfl
@[simp] theorem State.modSlot_enabled (n : Nat) (f : Slot → Slot) (b : Nat) : (s.modSlot n f).enabled b = s.enabled b := rfl
@[simp] theorem State.modCopy_reg (n : Nat) (f : Slot → Slot) (c : Nat) : (s.modCopy n f).reg c = s.reg c := rfl
@[simp] theorem State.modCopy_fld (n : Nat) (f : Slot → Slot) (b : Nat) (r : Row) (i : Nat) : (s.modCopy n f).fld b r i = s.fld b r i := rfl
@[simp] theorem State.modCopy_enabled (n : Nat) (f : Slot → Slot) (b : Nat) : (s.modCopy n f).enabled b = s.enabled b := rfl
@[simp] theorem State.modPort_reg (n : Nat) (f : PortSt → PortSt) (c : Nat) : (s.modPort n f).reg c = s.reg c := rfl
@[simp] theorem State.modPort_fld (n : Nat) (f : PortSt → PortSt) (b : Nat) (r : Row) (i : Nat) : (s.modPort n f).fld b r i = s.fld b r i := rfl
@[simp] theorem State.modPort_enabled (n : Nat) (f : PortSt → PortSt) (b : Nat) : (s.modPort n f).enabled b = s.enabled b := rfl
@[simp] theorem State.modAcq_reg (n : Nat) (f : AcqSt → AcqSt) (c : Nat) : (s.modAcq n f).reg c = s.reg c := rfl
@[simp] theorem State.modAcq_fld (n : Nat) (f : AcqSt → AcqSt) (b : Nat) (r : Row) (i : Nat) : (s.modAcq n f).fld b r i = s.fld b r i := rfl
@[simp] theorem State.modAcq_enabled (n : Nat) (f : AcqSt → AcqSt) (b : Nat) : (s.modAcq n f).enabled b = s.enabled b := rfl
@[simp] theorem State.modDbg_reg (n : Nat) (f : DbgSt → DbgSt) (c : Nat) : (s.modDbg n f).reg c = s.reg c := rfl
@[simp] theorem State.modDbg_fld (n : Nat) (f : DbgSt → DbgSt) (b : Nat) (r : Row) (i : Nat) : (s.modDbg n f).fld b r i = s.fld b r i := rfl
@[simp] theorem State.modDbg_enabled (n : Nat) (f : DbgSt → DbgSt) (b : Nat) : (s.modDbg n f).enabled b = s.enabled b := rfl
@[simp] theorem State.modFlux_reg (n : Nat) (f : FluxSt → FluxSt) (c : Nat) : (s.modFlux n f).reg c = s.reg c := rfl
@[simp] theorem State.modFlux_fld (n : Nat) (f : FluxSt → FluxSt) (b : Nat) (r : Row) (i : Nat) : (s.modFlux n f).fld b r i = s.fld b r i := rfl
@[simp] theorem State.modFlux_enabled (n : Nat) (f : FluxSt → FluxSt) (b : Nat) : (s.modFlux n f).enabled b = s.enabled b := rfl
@[simp] theorem State.modEth_reg (n : Nat) (f : EthSt → EthSt) (c : Nat) : (s.modEth n f).reg c = s.reg c := rfl
@[simp] theorem State.modEth_fld (n : Nat) (f : EthSt → EthSt) (b : Nat) (r : Row) (i : Nat) : (s.modEth n f).fld b r i = s.fld b r i := rfl
@[simp] theorem State.modEth_enabled (n : Nat) (f : EthSt → EthSt) (b : Nat) : (s.modEth n f).enabled b = s.enabled b := rfl
@[simp] theorem State.modSensor_reg (n : Nat) (f : SensorSt → SensorSt) (c : Nat) : (s.modSensor n f).reg c = s.reg c := rfl
@[simp] theorem State.modSensor_fld (n : Nat) (f : SensorSt → SensorSt) (b : Nat) (r : Row) (i : Nat) : (s.modSensor n f).fld b r i = s.fld b r i := rfl
@[simp] theorem State.modSensor_enabled (n : Nat) (f : SensorSt → SensorSt) (b : Nat) : (s.modSensor n f).enabled b = s.enabled b := rfl
@[simp] theorem State.modSfe_reg (n : Nat) (f : SfeSt → SfeSt) (c : Nat) : (s.modSfe n f).reg c = s.reg c := rfl
@[simp] theorem State.modSfe_fld (n : Nat) (f : SfeSt → SfeSt) (b : Nat) (r : Row) (i : Nat) : (s.modSfe n f).fld b r i = s.fld b r i := rfl
@[simp] theorem State.modSfe_enabled (n : Nat) (f : SfeSt → SfeSt) (b : Nat) : (s.modSfe n f).enabled b = s.enabled b := rfl
@[simp] theorem State.modPower_reg (f : PowerSt → PowerSt) (c : Nat) : (s.modPower f).reg c = s.reg c := rfl
@[simp] theorem State.modPower_fld (f : PowerSt → PowerSt) (b : Nat) (r : Row) (i : Nat) : (s.modPower f).fld b r i = s.fld b r i := rfl
@[simp] theorem State.modPower_enabled (f : PowerSt → PowerSt) (b : Nat) : (s.modPower f).enabled b = s.enabled b := rfl
@[simp] theorem State.modTherm_reg (f : ThermSt → ThermSt) (c : Nat) : (s.modTherm f).reg c = s.reg c := rfl
@[simp] theorem State.modTherm_fld (f : ThermSt → ThermSt) (b : Nat) (r : Row) (i : Nat) : (s.modTherm f).fld b r i = s.fld b r i := rfl
@[simp] theorem State.modTherm_enabled (f : ThermSt → ThermSt) (b : Nat) : (s.modTherm f).enabled b = s.enabled b := rfl
@[simp] theorem State.modCal_reg (f : CalSt → CalSt) (c : Nat) : (s.modCal f).reg c = s.reg c := rfl
@[simp] theorem State.modCal_fld (f : CalSt → CalSt) (b : Nat) (r : Row) (i : Nat) : (s.modCal f).fld b r i = s.fld b r i := rfl
@[simp] theorem State.modCal_enabled (f : CalSt → CalSt) (b : Nat) : (s.modCal f).enabled b = s.enabled b := rfl
@[simp] theorem State.tookFree_reg (c : Nat) : (s.tookFree).reg c = s.reg c := rfl
@[simp] theorem State.tookFree_fld (b : Nat) (r : Row) (i : Nat) : (s.tookFree).fld b r i = s.fld b r i := rfl
@[simp] theorem State.tookFree_enabled (b : Nat) : (s.tookFree).enabled b = s.enabled b := rfl
@[simp] theorem State.respond_reg (v : Nat) (c : Nat) : (s.respond v).reg c = s.reg c := rfl
@[simp] theorem State.respond_fld (v : Nat) (b : Nat) (r : Row) (i : Nat) : (s.respond v).fld b r i = s.fld b r i := rfl
@[simp] theorem State.respond_enabled (v : Nat) (b : Nat) : (s.respond v).enabled b = s.enabled b := rfl

/-! ### setReg -/

@[simp] theorem State.tile_setReg (a : Nat) (w : Word) (n : Nat) : (s.setReg a w).tile n = s.tile n := rfl
@[simp] theorem State.seq_setReg (a : Nat) (w : Word) (n : Nat) : (s.setReg a w).seq n = s.seq n := rfl
@[simp] theorem State.ring_setReg (a : Nat) (w : Word) (n : Nat) : (s.setReg a w).ring n = s.ring n := rfl
@[simp] theorem State.fnSt_setReg (a : Nat) (w : Word) (n : Nat) : (s.setReg a w).fnSt n = s.fnSt n := rfl
@[simp] theorem State.msixEntry_setReg (a : Nat) (w : Word) (n : Nat) : (s.setReg a w).msixEntry n = s.msixEntry n := rfl
@[simp] theorem State.dch_setReg (a : Nat) (w : Word) (n : Nat) : (s.setReg a w).dch n = s.dch n := rfl
@[simp] theorem State.evch_setReg (a : Nat) (w : Word) (n : Nat) : (s.setReg a w).evch n = s.evch n := rfl
@[simp] theorem State.evg_setReg (a : Nat) (w : Word) (n : Nat) : (s.setReg a w).evg n = s.evg n := rfl
@[simp] theorem State.tone_setReg (a : Nat) (w : Word) (n : Nat) : (s.setReg a w).tone n = s.tone n := rfl
@[simp] theorem State.outCh_setReg (a : Nat) (w : Word) (n : Nat) : (s.setReg a w).outCh n = s.outCh n := rfl
@[simp] theorem State.adcCh_setReg (a : Nat) (w : Word) (n : Nat) : (s.setReg a w).adcCh n = s.adcCh n := rfl
@[simp] theorem State.rout_setReg (a : Nat) (w : Word) (n : Nat) : (s.setReg a w).rout n = s.rout n := rfl
@[simp] theorem State.lane_setReg (a : Nat) (w : Word) (n : Nat) : (s.setReg a w).lane n = s.lane n := rfl
@[simp] theorem State.slot_setReg (a : Nat) (w : Word) (n : Nat) : (s.setReg a w).slot n = s.slot n := rfl
@[simp] theorem State.copy_setReg (a : Nat) (w : Word) (n : Nat) : (s.setReg a w).copy n = s.copy n := rfl
@[simp] theorem State.port_setReg (a : Nat) (w : Word) (n : Nat) : (s.setReg a w).port n = s.port n := rfl
@[simp] theorem State.acqU_setReg (a : Nat) (w : Word) (n : Nat) : (s.setReg a w).acqU n = s.acqU n := rfl
@[simp] theorem State.dbg_setReg (a : Nat) (w : Word) (n : Nat) : (s.setReg a w).dbg n = s.dbg n := rfl
@[simp] theorem State.flux_setReg (a : Nat) (w : Word) (n : Nat) : (s.setReg a w).flux n = s.flux n := rfl
@[simp] theorem State.eth_setReg (a : Nat) (w : Word) (n : Nat) : (s.setReg a w).eth n = s.eth n := rfl
@[simp] theorem State.sensor_setReg (a : Nat) (w : Word) (n : Nat) : (s.setReg a w).sensor n = s.sensor n := rfl
@[simp] theorem State.sfe_setReg (a : Nat) (w : Word) (n : Nat) : (s.setReg a w).sfe n = s.sfe n := rfl

/-! ### setFld -/

@[simp] theorem State.setFld_count (b : Nat) (r : Row) (v i : Nat) : (s.setFld b r v i).count = s.count := rfl
@[simp] theorem State.setFld_refLost (b : Nat) (r : Row) (v i : Nat) : (s.setFld b r v i).refLost = s.refLost := rfl
@[simp] theorem State.setFld_frameAt (b : Nat) (r : Row) (v i : Nat) : (s.setFld b r v i).frameAt = s.frameAt := rfl
@[simp] theorem State.setFld_epochAt (b : Nat) (r : Row) (v i : Nat) : (s.setFld b r v i).epochAt = s.epochAt := rfl
@[simp] theorem State.setFld_loadIn (b : Nat) (r : Row) (v i : Nat) : (s.setFld b r v i).loadIn = s.loadIn := rfl
@[simp] theorem State.setFld_latch (b : Nat) (r : Row) (v i : Nat) : (s.setFld b r v i).latch = s.latch := rfl
@[simp] theorem State.setFld_ticks (b : Nat) (r : Row) (v i : Nat) : (s.setFld b r v i).ticks = s.ticks := rfl
@[simp] theorem State.setFld_limits (b : Nat) (r : Row) (v i : Nat) : (s.setFld b r v i).limits = s.limits := rfl
@[simp] theorem State.setFld_tiles (b : Nat) (r : Row) (v i : Nat) : (s.setFld b r v i).tiles = s.tiles := rfl
@[simp] theorem State.setFld_seqs (b : Nat) (r : Row) (v i : Nat) : (s.setFld b r v i).seqs = s.seqs := rfl
@[simp] theorem State.setFld_loader (b : Nat) (r : Row) (v i : Nat) : (s.setFld b r v i).loader = s.loader := rfl
@[simp] theorem State.setFld_cs (b : Nat) (r : Row) (v i : Nat) : (s.setFld b r v i).cs = s.cs := rfl
@[simp] theorem State.setFld_csImage (b : Nat) (r : Row) (v i : Nat) : (s.setFld b r v i).csImage = s.csImage := rfl
@[simp] theorem State.setFld_bar2 (b : Nat) (r : Row) (v i : Nat) : (s.setFld b r v i).bar2 = s.bar2 := rfl
@[simp] theorem State.setFld_used (b : Nat) (r : Row) (v i : Nat) : (s.setFld b r v i).used = s.used := rfl
@[simp] theorem State.setFld_rings (b : Nat) (r : Row) (v i : Nat) : (s.setFld b r v i).rings = s.rings := rfl
@[simp] theorem State.setFld_fns (b : Nat) (r : Row) (v i : Nat) : (s.setFld b r v i).fns = s.fns := rfl
@[simp] theorem State.setFld_msix (b : Nat) (r : Row) (v i : Nat) : (s.setFld b r v i).msix = s.msix := rfl
@[simp] theorem State.setFld_ctxCache (b : Nat) (r : Row) (v i : Nat) : (s.setFld b r v i).ctxCache = s.ctxCache := rfl
@[simp] theorem State.setFld_host (b : Nat) (r : Row) (v i : Nat) : (s.setFld b r v i).host = s.host := rfl
@[simp] theorem State.setFld_dram (b : Nat) (r : Row) (v i : Nat) : (s.setFld b r v i).dram = s.dram := rfl
@[simp] theorem State.setFld_dchs (b : Nat) (r : Row) (v i : Nat) : (s.setFld b r v i).dchs = s.dchs := rfl
@[simp] theorem State.setFld_doorbells (b : Nat) (r : Row) (v i : Nat) : (s.setFld b r v i).doorbells = s.doorbells := rfl
@[simp] theorem State.setFld_dwait (b : Nat) (r : Row) (v i : Nat) : (s.setFld b r v i).dwait = s.dwait := rfl
@[simp] theorem State.setFld_dramNvm (b : Nat) (r : Row) (v i : Nat) : (s.setFld b r v i).dramNvm = s.dramNvm := rfl
@[simp] theorem State.setFld_unfreezing (b : Nat) (r : Row) (v i : Nat) : (s.setFld b r v i).unfreezing = s.unfreezing := rfl
@[simp] theorem State.setFld_evchs (b : Nat) (r : Row) (v i : Nat) : (s.setFld b r v i).evchs = s.evchs := rfl
@[simp] theorem State.setFld_evgs (b : Nat) (r : Row) (v i : Nat) : (s.setFld b r v i).evgs = s.evgs := rfl
@[simp] theorem State.setFld_window (b : Nat) (r : Row) (v i : Nat) : (s.setFld b r v i).window = s.window := rfl
@[simp] theorem State.setFld_routes (b : Nat) (r : Row) (v i : Nat) : (s.setFld b r v i).routes = s.routes := rfl
@[simp] theorem State.setFld_tones (b : Nat) (r : Row) (v i : Nat) : (s.setFld b r v i).tones = s.tones := rfl
@[simp] theorem State.setFld_outs (b : Nat) (r : Row) (v i : Nat) : (s.setFld b r v i).outs = s.outs := rfl
@[simp] theorem State.setFld_adcs (b : Nat) (r : Row) (v i : Nat) : (s.setFld b r v i).adcs = s.adcs := rfl
@[simp] theorem State.setFld_routs (b : Nat) (r : Row) (v i : Nat) : (s.setFld b r v i).routs = s.routs := rfl
@[simp] theorem State.setFld_fir (b : Nat) (r : Row) (v i : Nat) : (s.setFld b r v i).fir = s.fir := rfl
@[simp] theorem State.setFld_kernel (b : Nat) (r : Row) (v i : Nat) : (s.setFld b r v i).kernel = s.kernel := rfl
@[simp] theorem State.setFld_lanes (b : Nat) (r : Row) (v i : Nat) : (s.setFld b r v i).lanes = s.lanes := rfl
@[simp] theorem State.setFld_slots (b : Nat) (r : Row) (v i : Nat) : (s.setFld b r v i).slots = s.slots := rfl
@[simp] theorem State.setFld_copies (b : Nat) (r : Row) (v i : Nat) : (s.setFld b r v i).copies = s.copies := rfl
@[simp] theorem State.setFld_slotLog (b : Nat) (r : Row) (v i : Nat) : (s.setFld b r v i).slotLog = s.slotLog := rfl
@[simp] theorem State.setFld_syn (b : Nat) (r : Row) (v i : Nat) : (s.setFld b r v i).syn = s.syn := rfl
@[simp] theorem State.setFld_cmap (b : Nat) (r : Row) (v i : Nat) : (s.setFld b r v i).cmap = s.cmap := rfl
@[simp] theorem State.setFld_ports (b : Nat) (r : Row) (v i : Nat) : (s.setFld b r v i).ports = s.ports := rfl
@[simp] theorem State.setFld_mesh (b : Nat) (r : Row) (v i : Nat) : (s.setFld b r v i).mesh = s.mesh := rfl
@[simp] theorem State.setFld_acqs (b : Nat) (r : Row) (v i : Nat) : (s.setFld b r v i).acqs = s.acqs := rfl
@[simp] theorem State.setFld_fluxes (b : Nat) (r : Row) (v i : Nat) : (s.setFld b r v i).fluxes = s.fluxes := rfl
@[simp] theorem State.setFld_nt (b : Nat) (r : Row) (v i : Nat) : (s.setFld b r v i).nt = s.nt := rfl
@[simp] theorem State.setFld_eths (b : Nat) (r : Row) (v i : Nat) : (s.setFld b r v i).eths = s.eths := rfl
@[simp] theorem State.setFld_power (b : Nat) (r : Row) (v i : Nat) : (s.setFld b r v i).power = s.power := rfl
@[simp] theorem State.setFld_therm (b : Nat) (r : Row) (v i : Nat) : (s.setFld b r v i).therm = s.therm := rfl
@[simp] theorem State.setFld_sensors (b : Nat) (r : Row) (v i : Nat) : (s.setFld b r v i).sensors = s.sensors := rfl
@[simp] theorem State.setFld_sfes (b : Nat) (r : Row) (v i : Nat) : (s.setFld b r v i).sfes = s.sfes := rfl
@[simp] theorem State.setFld_cal (b : Nat) (r : Row) (v i : Nat) : (s.setFld b r v i).cal = s.cal := rfl
@[simp] theorem State.setFld_dbgs (b : Nat) (r : Row) (v i : Nat) : (s.setFld b r v i).dbgs = s.dbgs := rfl
@[simp] theorem State.setFld_edges (b : Nat) (r : Row) (v i : Nat) : (s.setFld b r v i).edges = s.edges := rfl
@[simp] theorem State.setFld_errNow (b : Nat) (r : Row) (v i : Nat) : (s.setFld b r v i).errNow = s.errNow := rfl
@[simp] theorem State.setFld_respVal (b : Nat) (r : Row) (v i : Nat) : (s.setFld b r v i).respVal = s.respVal := rfl
@[simp] theorem State.setFld_free (b : Nat) (r : Row) (v i : Nat) : (s.setFld b r v i).free = s.free := rfl
@[simp] theorem State.setFld_pending (b : Nat) (r : Row) (v i : Nat) : (s.setFld b r v i).pending = s.pending := rfl
@[simp] theorem State.tile_setFld (b : Nat) (r : Row) (v i : Nat) (n : Nat) : (s.setFld b r v i).tile n = s.tile n := rfl
@[simp] theorem State.seq_setFld (b : Nat) (r : Row) (v i : Nat) (n : Nat) : (s.setFld b r v i).seq n = s.seq n := rfl
@[simp] theorem State.ring_setFld (b : Nat) (r : Row) (v i : Nat) (n : Nat) : (s.setFld b r v i).ring n = s.ring n := rfl
@[simp] theorem State.fnSt_setFld (b : Nat) (r : Row) (v i : Nat) (n : Nat) : (s.setFld b r v i).fnSt n = s.fnSt n := rfl
@[simp] theorem State.msixEntry_setFld (b : Nat) (r : Row) (v i : Nat) (n : Nat) : (s.setFld b r v i).msixEntry n = s.msixEntry n := rfl
@[simp] theorem State.dch_setFld (b : Nat) (r : Row) (v i : Nat) (n : Nat) : (s.setFld b r v i).dch n = s.dch n := rfl
@[simp] theorem State.evch_setFld (b : Nat) (r : Row) (v i : Nat) (n : Nat) : (s.setFld b r v i).evch n = s.evch n := rfl
@[simp] theorem State.evg_setFld (b : Nat) (r : Row) (v i : Nat) (n : Nat) : (s.setFld b r v i).evg n = s.evg n := rfl
@[simp] theorem State.tone_setFld (b : Nat) (r : Row) (v i : Nat) (n : Nat) : (s.setFld b r v i).tone n = s.tone n := rfl
@[simp] theorem State.outCh_setFld (b : Nat) (r : Row) (v i : Nat) (n : Nat) : (s.setFld b r v i).outCh n = s.outCh n := rfl
@[simp] theorem State.adcCh_setFld (b : Nat) (r : Row) (v i : Nat) (n : Nat) : (s.setFld b r v i).adcCh n = s.adcCh n := rfl
@[simp] theorem State.rout_setFld (b : Nat) (r : Row) (v i : Nat) (n : Nat) : (s.setFld b r v i).rout n = s.rout n := rfl
@[simp] theorem State.lane_setFld (b : Nat) (r : Row) (v i : Nat) (n : Nat) : (s.setFld b r v i).lane n = s.lane n := rfl
@[simp] theorem State.slot_setFld (b : Nat) (r : Row) (v i : Nat) (n : Nat) : (s.setFld b r v i).slot n = s.slot n := rfl
@[simp] theorem State.copy_setFld (b : Nat) (r : Row) (v i : Nat) (n : Nat) : (s.setFld b r v i).copy n = s.copy n := rfl
@[simp] theorem State.port_setFld (b : Nat) (r : Row) (v i : Nat) (n : Nat) : (s.setFld b r v i).port n = s.port n := rfl
@[simp] theorem State.acqU_setFld (b : Nat) (r : Row) (v i : Nat) (n : Nat) : (s.setFld b r v i).acqU n = s.acqU n := rfl
@[simp] theorem State.dbg_setFld (b : Nat) (r : Row) (v i : Nat) (n : Nat) : (s.setFld b r v i).dbg n = s.dbg n := rfl
@[simp] theorem State.flux_setFld (b : Nat) (r : Row) (v i : Nat) (n : Nat) : (s.setFld b r v i).flux n = s.flux n := rfl
@[simp] theorem State.eth_setFld (b : Nat) (r : Row) (v i : Nat) (n : Nat) : (s.setFld b r v i).eth n = s.eth n := rfl
@[simp] theorem State.sensor_setFld (b : Nat) (r : Row) (v i : Nat) (n : Nat) : (s.setFld b r v i).sensor n = s.sensor n := rfl
@[simp] theorem State.sfe_setFld (b : Nat) (r : Row) (v i : Nat) (n : Nat) : (s.setFld b r v i).sfe n = s.sfe n := rfl

/-! ### raise -/

@[simp] theorem State.raise_count (b i : Nat) : (s.raise b i).count = s.count := by
  obtain ⟨_, h⟩ := s.raiseBits_eq b (BitVec.ofNat 32 (2 ^ i)); have e := congrArg State.count h; exact e
@[simp] theorem State.raise_refLost (b i : Nat) : (s.raise b i).refLost = s.refLost := by
  obtain ⟨_, h⟩ := s.raiseBits_eq b (BitVec.ofNat 32 (2 ^ i)); have e := congrArg State.refLost h; exact e
@[simp] theorem State.raise_frameAt (b i : Nat) : (s.raise b i).frameAt = s.frameAt := by
  obtain ⟨_, h⟩ := s.raiseBits_eq b (BitVec.ofNat 32 (2 ^ i)); have e := congrArg State.frameAt h; exact e
@[simp] theorem State.raise_epochAt (b i : Nat) : (s.raise b i).epochAt = s.epochAt := by
  obtain ⟨_, h⟩ := s.raiseBits_eq b (BitVec.ofNat 32 (2 ^ i)); have e := congrArg State.epochAt h; exact e
@[simp] theorem State.raise_loadIn (b i : Nat) : (s.raise b i).loadIn = s.loadIn := by
  obtain ⟨_, h⟩ := s.raiseBits_eq b (BitVec.ofNat 32 (2 ^ i)); have e := congrArg State.loadIn h; exact e
@[simp] theorem State.raise_latch (b i : Nat) : (s.raise b i).latch = s.latch := by
  obtain ⟨_, h⟩ := s.raiseBits_eq b (BitVec.ofNat 32 (2 ^ i)); have e := congrArg State.latch h; exact e
@[simp] theorem State.raise_ticks (b i : Nat) : (s.raise b i).ticks = s.ticks := by
  obtain ⟨_, h⟩ := s.raiseBits_eq b (BitVec.ofNat 32 (2 ^ i)); have e := congrArg State.ticks h; exact e
@[simp] theorem State.raise_limits (b i : Nat) : (s.raise b i).limits = s.limits := by
  obtain ⟨_, h⟩ := s.raiseBits_eq b (BitVec.ofNat 32 (2 ^ i)); have e := congrArg State.limits h; exact e
@[simp] theorem State.raise_tiles (b i : Nat) : (s.raise b i).tiles = s.tiles := by
  obtain ⟨_, h⟩ := s.raiseBits_eq b (BitVec.ofNat 32 (2 ^ i)); have e := congrArg State.tiles h; exact e
@[simp] theorem State.raise_seqs (b i : Nat) : (s.raise b i).seqs = s.seqs := by
  obtain ⟨_, h⟩ := s.raiseBits_eq b (BitVec.ofNat 32 (2 ^ i)); have e := congrArg State.seqs h; exact e
@[simp] theorem State.raise_loader (b i : Nat) : (s.raise b i).loader = s.loader := by
  obtain ⟨_, h⟩ := s.raiseBits_eq b (BitVec.ofNat 32 (2 ^ i)); have e := congrArg State.loader h; exact e
@[simp] theorem State.raise_cs (b i : Nat) : (s.raise b i).cs = s.cs := by
  obtain ⟨_, h⟩ := s.raiseBits_eq b (BitVec.ofNat 32 (2 ^ i)); have e := congrArg State.cs h; exact e
@[simp] theorem State.raise_csImage (b i : Nat) : (s.raise b i).csImage = s.csImage := by
  obtain ⟨_, h⟩ := s.raiseBits_eq b (BitVec.ofNat 32 (2 ^ i)); have e := congrArg State.csImage h; exact e
@[simp] theorem State.raise_bar2 (b i : Nat) : (s.raise b i).bar2 = s.bar2 := by
  obtain ⟨_, h⟩ := s.raiseBits_eq b (BitVec.ofNat 32 (2 ^ i)); have e := congrArg State.bar2 h; exact e
@[simp] theorem State.raise_used (b i : Nat) : (s.raise b i).used = s.used := by
  obtain ⟨_, h⟩ := s.raiseBits_eq b (BitVec.ofNat 32 (2 ^ i)); have e := congrArg State.used h; exact e
@[simp] theorem State.raise_rings (b i : Nat) : (s.raise b i).rings = s.rings := by
  obtain ⟨_, h⟩ := s.raiseBits_eq b (BitVec.ofNat 32 (2 ^ i)); have e := congrArg State.rings h; exact e
@[simp] theorem State.raise_fns (b i : Nat) : (s.raise b i).fns = s.fns := by
  obtain ⟨_, h⟩ := s.raiseBits_eq b (BitVec.ofNat 32 (2 ^ i)); have e := congrArg State.fns h; exact e
@[simp] theorem State.raise_msix (b i : Nat) : (s.raise b i).msix = s.msix := by
  obtain ⟨_, h⟩ := s.raiseBits_eq b (BitVec.ofNat 32 (2 ^ i)); have e := congrArg State.msix h; exact e
@[simp] theorem State.raise_ctxCache (b i : Nat) : (s.raise b i).ctxCache = s.ctxCache := by
  obtain ⟨_, h⟩ := s.raiseBits_eq b (BitVec.ofNat 32 (2 ^ i)); have e := congrArg State.ctxCache h; exact e
@[simp] theorem State.raise_host (b i : Nat) : (s.raise b i).host = s.host := by
  obtain ⟨_, h⟩ := s.raiseBits_eq b (BitVec.ofNat 32 (2 ^ i)); have e := congrArg State.host h; exact e
@[simp] theorem State.raise_dram (b i : Nat) : (s.raise b i).dram = s.dram := by
  obtain ⟨_, h⟩ := s.raiseBits_eq b (BitVec.ofNat 32 (2 ^ i)); have e := congrArg State.dram h; exact e
@[simp] theorem State.raise_dchs (b i : Nat) : (s.raise b i).dchs = s.dchs := by
  obtain ⟨_, h⟩ := s.raiseBits_eq b (BitVec.ofNat 32 (2 ^ i)); have e := congrArg State.dchs h; exact e
@[simp] theorem State.raise_doorbells (b i : Nat) : (s.raise b i).doorbells = s.doorbells := by
  obtain ⟨_, h⟩ := s.raiseBits_eq b (BitVec.ofNat 32 (2 ^ i)); have e := congrArg State.doorbells h; exact e
@[simp] theorem State.raise_dwait (b i : Nat) : (s.raise b i).dwait = s.dwait := by
  obtain ⟨_, h⟩ := s.raiseBits_eq b (BitVec.ofNat 32 (2 ^ i)); have e := congrArg State.dwait h; exact e
@[simp] theorem State.raise_dramNvm (b i : Nat) : (s.raise b i).dramNvm = s.dramNvm := by
  obtain ⟨_, h⟩ := s.raiseBits_eq b (BitVec.ofNat 32 (2 ^ i)); have e := congrArg State.dramNvm h; exact e
@[simp] theorem State.raise_unfreezing (b i : Nat) : (s.raise b i).unfreezing = s.unfreezing := by
  obtain ⟨_, h⟩ := s.raiseBits_eq b (BitVec.ofNat 32 (2 ^ i)); have e := congrArg State.unfreezing h; exact e
@[simp] theorem State.raise_evchs (b i : Nat) : (s.raise b i).evchs = s.evchs := by
  obtain ⟨_, h⟩ := s.raiseBits_eq b (BitVec.ofNat 32 (2 ^ i)); have e := congrArg State.evchs h; exact e
@[simp] theorem State.raise_evgs (b i : Nat) : (s.raise b i).evgs = s.evgs := by
  obtain ⟨_, h⟩ := s.raiseBits_eq b (BitVec.ofNat 32 (2 ^ i)); have e := congrArg State.evgs h; exact e
@[simp] theorem State.raise_window (b i : Nat) : (s.raise b i).window = s.window := by
  obtain ⟨_, h⟩ := s.raiseBits_eq b (BitVec.ofNat 32 (2 ^ i)); have e := congrArg State.window h; exact e
@[simp] theorem State.raise_routes (b i : Nat) : (s.raise b i).routes = s.routes := by
  obtain ⟨_, h⟩ := s.raiseBits_eq b (BitVec.ofNat 32 (2 ^ i)); have e := congrArg State.routes h; exact e
@[simp] theorem State.raise_tones (b i : Nat) : (s.raise b i).tones = s.tones := by
  obtain ⟨_, h⟩ := s.raiseBits_eq b (BitVec.ofNat 32 (2 ^ i)); have e := congrArg State.tones h; exact e
@[simp] theorem State.raise_outs (b i : Nat) : (s.raise b i).outs = s.outs := by
  obtain ⟨_, h⟩ := s.raiseBits_eq b (BitVec.ofNat 32 (2 ^ i)); have e := congrArg State.outs h; exact e
@[simp] theorem State.raise_adcs (b i : Nat) : (s.raise b i).adcs = s.adcs := by
  obtain ⟨_, h⟩ := s.raiseBits_eq b (BitVec.ofNat 32 (2 ^ i)); have e := congrArg State.adcs h; exact e
@[simp] theorem State.raise_routs (b i : Nat) : (s.raise b i).routs = s.routs := by
  obtain ⟨_, h⟩ := s.raiseBits_eq b (BitVec.ofNat 32 (2 ^ i)); have e := congrArg State.routs h; exact e
@[simp] theorem State.raise_fir (b i : Nat) : (s.raise b i).fir = s.fir := by
  obtain ⟨_, h⟩ := s.raiseBits_eq b (BitVec.ofNat 32 (2 ^ i)); have e := congrArg State.fir h; exact e
@[simp] theorem State.raise_kernel (b i : Nat) : (s.raise b i).kernel = s.kernel := by
  obtain ⟨_, h⟩ := s.raiseBits_eq b (BitVec.ofNat 32 (2 ^ i)); have e := congrArg State.kernel h; exact e
@[simp] theorem State.raise_lanes (b i : Nat) : (s.raise b i).lanes = s.lanes := by
  obtain ⟨_, h⟩ := s.raiseBits_eq b (BitVec.ofNat 32 (2 ^ i)); have e := congrArg State.lanes h; exact e
@[simp] theorem State.raise_slots (b i : Nat) : (s.raise b i).slots = s.slots := by
  obtain ⟨_, h⟩ := s.raiseBits_eq b (BitVec.ofNat 32 (2 ^ i)); have e := congrArg State.slots h; exact e
@[simp] theorem State.raise_copies (b i : Nat) : (s.raise b i).copies = s.copies := by
  obtain ⟨_, h⟩ := s.raiseBits_eq b (BitVec.ofNat 32 (2 ^ i)); have e := congrArg State.copies h; exact e
@[simp] theorem State.raise_slotLog (b i : Nat) : (s.raise b i).slotLog = s.slotLog := by
  obtain ⟨_, h⟩ := s.raiseBits_eq b (BitVec.ofNat 32 (2 ^ i)); have e := congrArg State.slotLog h; exact e
@[simp] theorem State.raise_syn (b i : Nat) : (s.raise b i).syn = s.syn := by
  obtain ⟨_, h⟩ := s.raiseBits_eq b (BitVec.ofNat 32 (2 ^ i)); have e := congrArg State.syn h; exact e
@[simp] theorem State.raise_cmap (b i : Nat) : (s.raise b i).cmap = s.cmap := by
  obtain ⟨_, h⟩ := s.raiseBits_eq b (BitVec.ofNat 32 (2 ^ i)); have e := congrArg State.cmap h; exact e
@[simp] theorem State.raise_ports (b i : Nat) : (s.raise b i).ports = s.ports := by
  obtain ⟨_, h⟩ := s.raiseBits_eq b (BitVec.ofNat 32 (2 ^ i)); have e := congrArg State.ports h; exact e
@[simp] theorem State.raise_mesh (b i : Nat) : (s.raise b i).mesh = s.mesh := by
  obtain ⟨_, h⟩ := s.raiseBits_eq b (BitVec.ofNat 32 (2 ^ i)); have e := congrArg State.mesh h; exact e
@[simp] theorem State.raise_acqs (b i : Nat) : (s.raise b i).acqs = s.acqs := by
  obtain ⟨_, h⟩ := s.raiseBits_eq b (BitVec.ofNat 32 (2 ^ i)); have e := congrArg State.acqs h; exact e
@[simp] theorem State.raise_fluxes (b i : Nat) : (s.raise b i).fluxes = s.fluxes := by
  obtain ⟨_, h⟩ := s.raiseBits_eq b (BitVec.ofNat 32 (2 ^ i)); have e := congrArg State.fluxes h; exact e
@[simp] theorem State.raise_nt (b i : Nat) : (s.raise b i).nt = s.nt := by
  obtain ⟨_, h⟩ := s.raiseBits_eq b (BitVec.ofNat 32 (2 ^ i)); have e := congrArg State.nt h; exact e
@[simp] theorem State.raise_eths (b i : Nat) : (s.raise b i).eths = s.eths := by
  obtain ⟨_, h⟩ := s.raiseBits_eq b (BitVec.ofNat 32 (2 ^ i)); have e := congrArg State.eths h; exact e
@[simp] theorem State.raise_power (b i : Nat) : (s.raise b i).power = s.power := by
  obtain ⟨_, h⟩ := s.raiseBits_eq b (BitVec.ofNat 32 (2 ^ i)); have e := congrArg State.power h; exact e
@[simp] theorem State.raise_therm (b i : Nat) : (s.raise b i).therm = s.therm := by
  obtain ⟨_, h⟩ := s.raiseBits_eq b (BitVec.ofNat 32 (2 ^ i)); have e := congrArg State.therm h; exact e
@[simp] theorem State.raise_sensors (b i : Nat) : (s.raise b i).sensors = s.sensors := by
  obtain ⟨_, h⟩ := s.raiseBits_eq b (BitVec.ofNat 32 (2 ^ i)); have e := congrArg State.sensors h; exact e
@[simp] theorem State.raise_sfes (b i : Nat) : (s.raise b i).sfes = s.sfes := by
  obtain ⟨_, h⟩ := s.raiseBits_eq b (BitVec.ofNat 32 (2 ^ i)); have e := congrArg State.sfes h; exact e
@[simp] theorem State.raise_cal (b i : Nat) : (s.raise b i).cal = s.cal := by
  obtain ⟨_, h⟩ := s.raiseBits_eq b (BitVec.ofNat 32 (2 ^ i)); have e := congrArg State.cal h; exact e
@[simp] theorem State.raise_dbgs (b i : Nat) : (s.raise b i).dbgs = s.dbgs := by
  obtain ⟨_, h⟩ := s.raiseBits_eq b (BitVec.ofNat 32 (2 ^ i)); have e := congrArg State.dbgs h; exact e
@[simp] theorem State.raise_errNow (b i : Nat) : (s.raise b i).errNow = s.errNow := by
  obtain ⟨_, h⟩ := s.raiseBits_eq b (BitVec.ofNat 32 (2 ^ i)); have e := congrArg State.errNow h; exact e
@[simp] theorem State.raise_respVal (b i : Nat) : (s.raise b i).respVal = s.respVal := by
  obtain ⟨_, h⟩ := s.raiseBits_eq b (BitVec.ofNat 32 (2 ^ i)); have e := congrArg State.respVal h; exact e
@[simp] theorem State.raise_free (b i : Nat) : (s.raise b i).free = s.free := by
  obtain ⟨_, h⟩ := s.raiseBits_eq b (BitVec.ofNat 32 (2 ^ i)); have e := congrArg State.free h; exact e
@[simp] theorem State.raise_pending (b i : Nat) : (s.raise b i).pending = s.pending := by
  obtain ⟨_, h⟩ := s.raiseBits_eq b (BitVec.ofNat 32 (2 ^ i)); have e := congrArg State.pending h; exact e
@[simp] theorem State.tile_raise (b i : Nat) (n : Nat) : (s.raise b i).tile n = s.tile n := by
  unfold State.tile; rw [State.raise_tiles]
@[simp] theorem State.seq_raise (b i : Nat) (n : Nat) : (s.raise b i).seq n = s.seq n := by
  unfold State.seq; rw [State.raise_seqs]
@[simp] theorem State.ring_raise (b i : Nat) (n : Nat) : (s.raise b i).ring n = s.ring n := by
  unfold State.ring; rw [State.raise_rings]
@[simp] theorem State.fnSt_raise (b i : Nat) (n : Nat) : (s.raise b i).fnSt n = s.fnSt n := by
  unfold State.fnSt; rw [State.raise_fns]
@[simp] theorem State.msixEntry_raise (b i : Nat) (n : Nat) : (s.raise b i).msixEntry n = s.msixEntry n := by
  unfold State.msixEntry; rw [State.raise_msix]
@[simp] theorem State.dch_raise (b i : Nat) (n : Nat) : (s.raise b i).dch n = s.dch n := by
  unfold State.dch; rw [State.raise_dchs]
@[simp] theorem State.evch_raise (b i : Nat) (n : Nat) : (s.raise b i).evch n = s.evch n := by
  unfold State.evch; rw [State.raise_evchs]
@[simp] theorem State.evg_raise (b i : Nat) (n : Nat) : (s.raise b i).evg n = s.evg n := by
  unfold State.evg; rw [State.raise_evgs]
@[simp] theorem State.tone_raise (b i : Nat) (n : Nat) : (s.raise b i).tone n = s.tone n := by
  unfold State.tone; rw [State.raise_tones]
@[simp] theorem State.outCh_raise (b i : Nat) (n : Nat) : (s.raise b i).outCh n = s.outCh n := by
  unfold State.outCh; rw [State.raise_outs]
@[simp] theorem State.adcCh_raise (b i : Nat) (n : Nat) : (s.raise b i).adcCh n = s.adcCh n := by
  unfold State.adcCh; rw [State.raise_adcs]
@[simp] theorem State.rout_raise (b i : Nat) (n : Nat) : (s.raise b i).rout n = s.rout n := by
  unfold State.rout; rw [State.raise_routs]
@[simp] theorem State.lane_raise (b i : Nat) (n : Nat) : (s.raise b i).lane n = s.lane n := by
  unfold State.lane; rw [State.raise_lanes]
@[simp] theorem State.slot_raise (b i : Nat) (n : Nat) : (s.raise b i).slot n = s.slot n := by
  unfold State.slot; rw [State.raise_slots]
@[simp] theorem State.copy_raise (b i : Nat) (n : Nat) : (s.raise b i).copy n = s.copy n := by
  unfold State.copy; rw [State.raise_copies]
@[simp] theorem State.port_raise (b i : Nat) (n : Nat) : (s.raise b i).port n = s.port n := by
  unfold State.port; rw [State.raise_ports]
@[simp] theorem State.acqU_raise (b i : Nat) (n : Nat) : (s.raise b i).acqU n = s.acqU n := by
  unfold State.acqU; rw [State.raise_acqs]
@[simp] theorem State.dbg_raise (b i : Nat) (n : Nat) : (s.raise b i).dbg n = s.dbg n := by
  unfold State.dbg; rw [State.raise_dbgs]
@[simp] theorem State.flux_raise (b i : Nat) (n : Nat) : (s.raise b i).flux n = s.flux n := by
  unfold State.flux; rw [State.raise_fluxes]
@[simp] theorem State.eth_raise (b i : Nat) (n : Nat) : (s.raise b i).eth n = s.eth n := by
  unfold State.eth; rw [State.raise_eths]
@[simp] theorem State.sensor_raise (b i : Nat) (n : Nat) : (s.raise b i).sensor n = s.sensor n := by
  unfold State.sensor; rw [State.raise_sensors]
@[simp] theorem State.sfe_raise (b i : Nat) (n : Nat) : (s.raise b i).sfe n = s.sfe n := by
  unfold State.sfe; rw [State.raise_sfes]

/-! ### err -/

@[simp] theorem State.err_count (b c k : Nat) : (s.err b c k).count = s.count := by
  obtain ⟨_, _, h⟩ := s.err_eq b c k; have e := congrArg State.count h; exact e
@[simp] theorem State.err_refLost (b c k : Nat) : (s.err b c k).refLost = s.refLost := by
  obtain ⟨_, _, h⟩ := s.err_eq b c k; have e := congrArg State.refLost h; exact e
@[simp] theorem State.err_frameAt (b c k : Nat) : (s.err b c k).frameAt = s.frameAt := by
  obtain ⟨_, _, h⟩ := s.err_eq b c k; have e := congrArg State.frameAt h; exact e
@[simp] theorem State.err_epochAt (b c k : Nat) : (s.err b c k).epochAt = s.epochAt := by
  obtain ⟨_, _, h⟩ := s.err_eq b c k; have e := congrArg State.epochAt h; exact e
@[simp] theorem State.err_loadIn (b c k : Nat) : (s.err b c k).loadIn = s.loadIn := by
  obtain ⟨_, _, h⟩ := s.err_eq b c k; have e := congrArg State.loadIn h; exact e
@[simp] theorem State.err_latch (b c k : Nat) : (s.err b c k).latch = s.latch := by
  obtain ⟨_, _, h⟩ := s.err_eq b c k; have e := congrArg State.latch h; exact e
@[simp] theorem State.err_ticks (b c k : Nat) : (s.err b c k).ticks = s.ticks := by
  obtain ⟨_, _, h⟩ := s.err_eq b c k; have e := congrArg State.ticks h; exact e
@[simp] theorem State.err_limits (b c k : Nat) : (s.err b c k).limits = s.limits := by
  obtain ⟨_, _, h⟩ := s.err_eq b c k; have e := congrArg State.limits h; exact e
@[simp] theorem State.err_tiles (b c k : Nat) : (s.err b c k).tiles = s.tiles := by
  obtain ⟨_, _, h⟩ := s.err_eq b c k; have e := congrArg State.tiles h; exact e
@[simp] theorem State.err_seqs (b c k : Nat) : (s.err b c k).seqs = s.seqs := by
  obtain ⟨_, _, h⟩ := s.err_eq b c k; have e := congrArg State.seqs h; exact e
@[simp] theorem State.err_loader (b c k : Nat) : (s.err b c k).loader = s.loader := by
  obtain ⟨_, _, h⟩ := s.err_eq b c k; have e := congrArg State.loader h; exact e
@[simp] theorem State.err_cs (b c k : Nat) : (s.err b c k).cs = s.cs := by
  obtain ⟨_, _, h⟩ := s.err_eq b c k; have e := congrArg State.cs h; exact e
@[simp] theorem State.err_csImage (b c k : Nat) : (s.err b c k).csImage = s.csImage := by
  obtain ⟨_, _, h⟩ := s.err_eq b c k; have e := congrArg State.csImage h; exact e
@[simp] theorem State.err_bar2 (b c k : Nat) : (s.err b c k).bar2 = s.bar2 := by
  obtain ⟨_, _, h⟩ := s.err_eq b c k; have e := congrArg State.bar2 h; exact e
@[simp] theorem State.err_used (b c k : Nat) : (s.err b c k).used = s.used := by
  obtain ⟨_, _, h⟩ := s.err_eq b c k; have e := congrArg State.used h; exact e
@[simp] theorem State.err_rings (b c k : Nat) : (s.err b c k).rings = s.rings := by
  obtain ⟨_, _, h⟩ := s.err_eq b c k; have e := congrArg State.rings h; exact e
@[simp] theorem State.err_fns (b c k : Nat) : (s.err b c k).fns = s.fns := by
  obtain ⟨_, _, h⟩ := s.err_eq b c k; have e := congrArg State.fns h; exact e
@[simp] theorem State.err_msix (b c k : Nat) : (s.err b c k).msix = s.msix := by
  obtain ⟨_, _, h⟩ := s.err_eq b c k; have e := congrArg State.msix h; exact e
@[simp] theorem State.err_ctxCache (b c k : Nat) : (s.err b c k).ctxCache = s.ctxCache := by
  obtain ⟨_, _, h⟩ := s.err_eq b c k; have e := congrArg State.ctxCache h; exact e
@[simp] theorem State.err_host (b c k : Nat) : (s.err b c k).host = s.host := by
  obtain ⟨_, _, h⟩ := s.err_eq b c k; have e := congrArg State.host h; exact e
@[simp] theorem State.err_dram (b c k : Nat) : (s.err b c k).dram = s.dram := by
  obtain ⟨_, _, h⟩ := s.err_eq b c k; have e := congrArg State.dram h; exact e
@[simp] theorem State.err_dchs (b c k : Nat) : (s.err b c k).dchs = s.dchs := by
  obtain ⟨_, _, h⟩ := s.err_eq b c k; have e := congrArg State.dchs h; exact e
@[simp] theorem State.err_doorbells (b c k : Nat) : (s.err b c k).doorbells = s.doorbells := by
  obtain ⟨_, _, h⟩ := s.err_eq b c k; have e := congrArg State.doorbells h; exact e
@[simp] theorem State.err_dwait (b c k : Nat) : (s.err b c k).dwait = s.dwait := by
  obtain ⟨_, _, h⟩ := s.err_eq b c k; have e := congrArg State.dwait h; exact e
@[simp] theorem State.err_dramNvm (b c k : Nat) : (s.err b c k).dramNvm = s.dramNvm := by
  obtain ⟨_, _, h⟩ := s.err_eq b c k; have e := congrArg State.dramNvm h; exact e
@[simp] theorem State.err_unfreezing (b c k : Nat) : (s.err b c k).unfreezing = s.unfreezing := by
  obtain ⟨_, _, h⟩ := s.err_eq b c k; have e := congrArg State.unfreezing h; exact e
@[simp] theorem State.err_evchs (b c k : Nat) : (s.err b c k).evchs = s.evchs := by
  obtain ⟨_, _, h⟩ := s.err_eq b c k; have e := congrArg State.evchs h; exact e
@[simp] theorem State.err_evgs (b c k : Nat) : (s.err b c k).evgs = s.evgs := by
  obtain ⟨_, _, h⟩ := s.err_eq b c k; have e := congrArg State.evgs h; exact e
@[simp] theorem State.err_window (b c k : Nat) : (s.err b c k).window = s.window := by
  obtain ⟨_, _, h⟩ := s.err_eq b c k; have e := congrArg State.window h; exact e
@[simp] theorem State.err_routes (b c k : Nat) : (s.err b c k).routes = s.routes := by
  obtain ⟨_, _, h⟩ := s.err_eq b c k; have e := congrArg State.routes h; exact e
@[simp] theorem State.err_tones (b c k : Nat) : (s.err b c k).tones = s.tones := by
  obtain ⟨_, _, h⟩ := s.err_eq b c k; have e := congrArg State.tones h; exact e
@[simp] theorem State.err_outs (b c k : Nat) : (s.err b c k).outs = s.outs := by
  obtain ⟨_, _, h⟩ := s.err_eq b c k; have e := congrArg State.outs h; exact e
@[simp] theorem State.err_adcs (b c k : Nat) : (s.err b c k).adcs = s.adcs := by
  obtain ⟨_, _, h⟩ := s.err_eq b c k; have e := congrArg State.adcs h; exact e
@[simp] theorem State.err_routs (b c k : Nat) : (s.err b c k).routs = s.routs := by
  obtain ⟨_, _, h⟩ := s.err_eq b c k; have e := congrArg State.routs h; exact e
@[simp] theorem State.err_fir (b c k : Nat) : (s.err b c k).fir = s.fir := by
  obtain ⟨_, _, h⟩ := s.err_eq b c k; have e := congrArg State.fir h; exact e
@[simp] theorem State.err_kernel (b c k : Nat) : (s.err b c k).kernel = s.kernel := by
  obtain ⟨_, _, h⟩ := s.err_eq b c k; have e := congrArg State.kernel h; exact e
@[simp] theorem State.err_lanes (b c k : Nat) : (s.err b c k).lanes = s.lanes := by
  obtain ⟨_, _, h⟩ := s.err_eq b c k; have e := congrArg State.lanes h; exact e
@[simp] theorem State.err_slots (b c k : Nat) : (s.err b c k).slots = s.slots := by
  obtain ⟨_, _, h⟩ := s.err_eq b c k; have e := congrArg State.slots h; exact e
@[simp] theorem State.err_copies (b c k : Nat) : (s.err b c k).copies = s.copies := by
  obtain ⟨_, _, h⟩ := s.err_eq b c k; have e := congrArg State.copies h; exact e
@[simp] theorem State.err_slotLog (b c k : Nat) : (s.err b c k).slotLog = s.slotLog := by
  obtain ⟨_, _, h⟩ := s.err_eq b c k; have e := congrArg State.slotLog h; exact e
@[simp] theorem State.err_syn (b c k : Nat) : (s.err b c k).syn = s.syn := by
  obtain ⟨_, _, h⟩ := s.err_eq b c k; have e := congrArg State.syn h; exact e
@[simp] theorem State.err_cmap (b c k : Nat) : (s.err b c k).cmap = s.cmap := by
  obtain ⟨_, _, h⟩ := s.err_eq b c k; have e := congrArg State.cmap h; exact e
@[simp] theorem State.err_ports (b c k : Nat) : (s.err b c k).ports = s.ports := by
  obtain ⟨_, _, h⟩ := s.err_eq b c k; have e := congrArg State.ports h; exact e
@[simp] theorem State.err_mesh (b c k : Nat) : (s.err b c k).mesh = s.mesh := by
  obtain ⟨_, _, h⟩ := s.err_eq b c k; have e := congrArg State.mesh h; exact e
@[simp] theorem State.err_acqs (b c k : Nat) : (s.err b c k).acqs = s.acqs := by
  obtain ⟨_, _, h⟩ := s.err_eq b c k; have e := congrArg State.acqs h; exact e
@[simp] theorem State.err_fluxes (b c k : Nat) : (s.err b c k).fluxes = s.fluxes := by
  obtain ⟨_, _, h⟩ := s.err_eq b c k; have e := congrArg State.fluxes h; exact e
@[simp] theorem State.err_nt (b c k : Nat) : (s.err b c k).nt = s.nt := by
  obtain ⟨_, _, h⟩ := s.err_eq b c k; have e := congrArg State.nt h; exact e
@[simp] theorem State.err_eths (b c k : Nat) : (s.err b c k).eths = s.eths := by
  obtain ⟨_, _, h⟩ := s.err_eq b c k; have e := congrArg State.eths h; exact e
@[simp] theorem State.err_power (b c k : Nat) : (s.err b c k).power = s.power := by
  obtain ⟨_, _, h⟩ := s.err_eq b c k; have e := congrArg State.power h; exact e
@[simp] theorem State.err_therm (b c k : Nat) : (s.err b c k).therm = s.therm := by
  obtain ⟨_, _, h⟩ := s.err_eq b c k; have e := congrArg State.therm h; exact e
@[simp] theorem State.err_sensors (b c k : Nat) : (s.err b c k).sensors = s.sensors := by
  obtain ⟨_, _, h⟩ := s.err_eq b c k; have e := congrArg State.sensors h; exact e
@[simp] theorem State.err_sfes (b c k : Nat) : (s.err b c k).sfes = s.sfes := by
  obtain ⟨_, _, h⟩ := s.err_eq b c k; have e := congrArg State.sfes h; exact e
@[simp] theorem State.err_cal (b c k : Nat) : (s.err b c k).cal = s.cal := by
  obtain ⟨_, _, h⟩ := s.err_eq b c k; have e := congrArg State.cal h; exact e
@[simp] theorem State.err_dbgs (b c k : Nat) : (s.err b c k).dbgs = s.dbgs := by
  obtain ⟨_, _, h⟩ := s.err_eq b c k; have e := congrArg State.dbgs h; exact e
@[simp] theorem State.err_edges (b c k : Nat) : (s.err b c k).edges = s.edges := by
  obtain ⟨_, _, h⟩ := s.err_eq b c k; have e := congrArg State.edges h; exact e
@[simp] theorem State.err_respVal (b c k : Nat) : (s.err b c k).respVal = s.respVal := by
  obtain ⟨_, _, h⟩ := s.err_eq b c k; have e := congrArg State.respVal h; exact e
@[simp] theorem State.err_free (b c k : Nat) : (s.err b c k).free = s.free := by
  obtain ⟨_, _, h⟩ := s.err_eq b c k; have e := congrArg State.free h; exact e
@[simp] theorem State.err_pending (b c k : Nat) : (s.err b c k).pending = s.pending := by
  obtain ⟨_, _, h⟩ := s.err_eq b c k; have e := congrArg State.pending h; exact e
@[simp] theorem State.tile_err (b c k : Nat) (n : Nat) : (s.err b c k).tile n = s.tile n := by
  unfold State.tile; rw [State.err_tiles]
@[simp] theorem State.seq_err (b c k : Nat) (n : Nat) : (s.err b c k).seq n = s.seq n := by
  unfold State.seq; rw [State.err_seqs]
@[simp] theorem State.ring_err (b c k : Nat) (n : Nat) : (s.err b c k).ring n = s.ring n := by
  unfold State.ring; rw [State.err_rings]
@[simp] theorem State.fnSt_err (b c k : Nat) (n : Nat) : (s.err b c k).fnSt n = s.fnSt n := by
  unfold State.fnSt; rw [State.err_fns]
@[simp] theorem State.msixEntry_err (b c k : Nat) (n : Nat) : (s.err b c k).msixEntry n = s.msixEntry n := by
  unfold State.msixEntry; rw [State.err_msix]
@[simp] theorem State.dch_err (b c k : Nat) (n : Nat) : (s.err b c k).dch n = s.dch n := by
  unfold State.dch; rw [State.err_dchs]
@[simp] theorem State.evch_err (b c k : Nat) (n : Nat) : (s.err b c k).evch n = s.evch n := by
  unfold State.evch; rw [State.err_evchs]
@[simp] theorem State.evg_err (b c k : Nat) (n : Nat) : (s.err b c k).evg n = s.evg n := by
  unfold State.evg; rw [State.err_evgs]
@[simp] theorem State.tone_err (b c k : Nat) (n : Nat) : (s.err b c k).tone n = s.tone n := by
  unfold State.tone; rw [State.err_tones]
@[simp] theorem State.outCh_err (b c k : Nat) (n : Nat) : (s.err b c k).outCh n = s.outCh n := by
  unfold State.outCh; rw [State.err_outs]
@[simp] theorem State.adcCh_err (b c k : Nat) (n : Nat) : (s.err b c k).adcCh n = s.adcCh n := by
  unfold State.adcCh; rw [State.err_adcs]
@[simp] theorem State.rout_err (b c k : Nat) (n : Nat) : (s.err b c k).rout n = s.rout n := by
  unfold State.rout; rw [State.err_routs]
@[simp] theorem State.lane_err (b c k : Nat) (n : Nat) : (s.err b c k).lane n = s.lane n := by
  unfold State.lane; rw [State.err_lanes]
@[simp] theorem State.slot_err (b c k : Nat) (n : Nat) : (s.err b c k).slot n = s.slot n := by
  unfold State.slot; rw [State.err_slots]
@[simp] theorem State.copy_err (b c k : Nat) (n : Nat) : (s.err b c k).copy n = s.copy n := by
  unfold State.copy; rw [State.err_copies]
@[simp] theorem State.port_err (b c k : Nat) (n : Nat) : (s.err b c k).port n = s.port n := by
  unfold State.port; rw [State.err_ports]
@[simp] theorem State.acqU_err (b c k : Nat) (n : Nat) : (s.err b c k).acqU n = s.acqU n := by
  unfold State.acqU; rw [State.err_acqs]
@[simp] theorem State.dbg_err (b c k : Nat) (n : Nat) : (s.err b c k).dbg n = s.dbg n := by
  unfold State.dbg; rw [State.err_dbgs]
@[simp] theorem State.flux_err (b c k : Nat) (n : Nat) : (s.err b c k).flux n = s.flux n := by
  unfold State.flux; rw [State.err_fluxes]
@[simp] theorem State.eth_err (b c k : Nat) (n : Nat) : (s.err b c k).eth n = s.eth n := by
  unfold State.eth; rw [State.err_eths]
@[simp] theorem State.sensor_err (b c k : Nat) (n : Nat) : (s.err b c k).sensor n = s.sensor n := by
  unfold State.sensor; rw [State.err_sensors]
@[simp] theorem State.sfe_err (b c k : Nat) (n : Nat) : (s.err b c k).sfe n = s.sfe n := by
  unfold State.sfe; rw [State.err_sfes]

theorem State.reg_raise_ne {b i c : Nat} (h : c ≠ b + 0x010) : (s.raise b i).reg c = s.reg c := by
  obtain ⟨_, e⟩ := s.raiseBits_eq b (BitVec.ofNat 32 (2 ^ i))
  exact (State.reg_congr (congrArg State.regs e) c).trans (State.reg_setReg_ne s _ h)

theorem State.reg_err_ne {b k d c : Nat} (h : c ≠ b + 0x01C) : (s.err b k d).reg c = s.reg c := by
  obtain ⟨_, _, e⟩ := s.err_eq b k d
  exact (State.reg_congr (congrArg State.regs e) c).trans (State.reg_setReg_ne s _ h)

theorem State.reg_setFld_ne {b v i c : Nat} {r : Row} (h : c ≠ b + r.off + r.stride * i) : (s.setFld b r v i).reg c = s.reg c :=
  State.reg_setReg_ne s _ h

theorem State.fld_raise_ne {b i c j : Nat} {q : Row} (h : c + q.off + q.stride * j ≠ b + 0x010) :
    (s.raise b i).fld c q j = s.fld c q j := by
  unfold State.fld; rw [State.reg_raise_ne s h]

theorem State.fld_err_ne {b k d c j : Nat} {q : Row} (h : c + q.off + q.stride * j ≠ b + 0x01C) :
    (s.err b k d).fld c q j = s.fld c q j := by
  unfold State.fld; rw [State.reg_err_ne s h]

/-- An error sets the capture of a page that holds none. -/
theorem State.err_captures {b k d : Nat} (h : s.bit b Reg.Hdr.VALID = false) :
    (s.err b k d).fld b Reg.Hdr.CODE = k % 64 ∧ (s.err b k d).fld b Reg.Hdr.INFO = d % 2 ^ 24 ∧
      (s.err b k d).bit b Reg.Hdr.VALID = true := by
  have e : (s.err b k d).regs = (s.setReg (b + 0x01C) (BitVec.ofNat 32 (2 ^ 31 + (k % 2 ^ 6) * 2 ^ 24 + d % 2 ^ 24))).regs := by
    unfold State.err; rw [h]; simp only [State.setReg, errWord, Bool.not_false, if_true, Bool.toNat_false, Nat.zero_mul, Nat.add_zero]
  have hk : k % 2 ^ 6 < 64 := Nat.mod_lt _ (by decide)
  have hd : d % 2 ^ 24 < 16777216 := Nat.mod_lt _ (by decide)
  have hw : (BitVec.ofNat 32 (2 ^ 31 + (k % 2 ^ 6) * 2 ^ 24 + d % 2 ^ 24)).toNat = 2 ^ 31 + (k % 2 ^ 6) * 2 ^ 24 + d % 2 ^ 24 := by
    rw [BitVec.toNat_ofNat]; exact Nat.mod_eq_of_lt (by omega)
  simp only [State.bit, State.fld_congr e]
  simp only [State.fld, Row.get, Reg.Hdr.CODE, Reg.Hdr.INFO, Reg.Hdr.VALID, Row.width, Nat.zero_mul, Nat.mul_zero,
    Nat.add_zero, State.reg_setReg_same, hw, Nat.shiftRight_eq_div_pow]
  refine ⟨by omega, by omega, ?_⟩
  simp only [bne_iff_ne, ne_eq]
  omega

end Sys2Proof.Machine
end

