-- ==== Sys2Proof/Laws/Frame.lean ====
section
/-!
SUPPORT. Frames at the level of the state's fields: which fields an operation may change. `Frame w s t` says that `t` differs
from `s` only in fields whose bit of `w` is set, bits being numbered as the fields of State stand, and that it keeps the
canonical form of the memories.
-/
namespace Sys2Proof.Machine

/-- The fields whose bit of `w` is clear are the same in both states. -/
structure Frame (w : Nat) (s t : State) : Prop where
  count : w.testBit 0 = false → t.count = s.count
  refLost : w.testBit 1 = false → t.refLost = s.refLost
  frameAt : w.testBit 2 = false → t.frameAt = s.frameAt
  epochAt : w.testBit 3 = false → t.epochAt = s.epochAt
  loadIn : w.testBit 4 = false → t.loadIn = s.loadIn
  latch : w.testBit 5 = false → t.latch = s.latch
  ticks : w.testBit 6 = false → t.ticks = s.ticks
  regs : w.testBit 7 = false → t.regs = s.regs
  limits : w.testBit 8 = false → t.limits = s.limits
  tiles : w.testBit 9 = false → t.tiles = s.tiles
  seqs : w.testBit 10 = false → t.seqs = s.seqs
  loader : w.testBit 11 = false → t.loader = s.loader
  cs : w.testBit 12 = false → t.cs = s.cs
  csImage : w.testBit 13 = false → t.csImage = s.csImage
  bar2 : w.testBit 14 = false → t.bar2 = s.bar2
  used : w.testBit 15 = false → t.used = s.used
  rings : w.testBit 16 = false → t.rings = s.rings
  fns : w.testBit 17 = false → t.fns = s.fns
  msix : w.testBit 18 = false → t.msix = s.msix
  ctxCache : w.testBit 19 = false → t.ctxCache = s.ctxCache
  host : w.testBit 20 = false → t.host = s.host
  dram : w.testBit 21 = false → t.dram = s.dram
  dchs : w.testBit 22 = false → t.dchs = s.dchs
  doorbells : w.testBit 23 = false → t.doorbells = s.doorbells
  dwait : w.testBit 24 = false → t.dwait = s.dwait
  dramNvm : w.testBit 25 = false → t.dramNvm = s.dramNvm
  unfreezing : w.testBit 26 = false → t.unfreezing = s.unfreezing
  evchs : w.testBit 27 = false → t.evchs = s.evchs
  evgs : w.testBit 28 = false → t.evgs = s.evgs
  window : w.testBit 29 = false → t.window = s.window
  routes : w.testBit 30 = false → t.routes = s.routes
  tones : w.testBit 31 = false → t.tones = s.tones
  outs : w.testBit 32 = false → t.outs = s.outs
  adcs : w.testBit 33 = false → t.adcs = s.adcs
  routs : w.testBit 34 = false → t.routs = s.routs
  fir : w.testBit 35 = false → t.fir = s.fir
  kernel : w.testBit 36 = false → t.kernel = s.kernel
  lanes : w.testBit 37 = false → t.lanes = s.lanes
  slots : w.testBit 38 = false → t.slots = s.slots
  copies : w.testBit 39 = false → t.copies = s.copies
  slotLog : w.testBit 40 = false → t.slotLog = s.slotLog
  syn : w.testBit 41 = false → t.syn = s.syn
  cmap : w.testBit 42 = false → t.cmap = s.cmap
  ports : w.testBit 43 = false → t.ports = s.ports
  mesh : w.testBit 44 = false → t.mesh = s.mesh
  acqs : w.testBit 45 = false → t.acqs = s.acqs
  fluxes : w.testBit 46 = false → t.fluxes = s.fluxes
  nt : w.testBit 47 = false → t.nt = s.nt
  eths : w.testBit 48 = false → t.eths = s.eths
  power : w.testBit 49 = false → t.power = s.power
  therm : w.testBit 50 = false → t.therm = s.therm
  sensors : w.testBit 51 = false → t.sensors = s.sensors
  sfes : w.testBit 52 = false → t.sfes = s.sfes
  cal : w.testBit 53 = false → t.cal = s.cal
  dbgs : w.testBit 54 = false → t.dbgs = s.dbgs
  edges : w.testBit 55 = false → t.edges = s.edges
  errNow : w.testBit 56 = false → t.errNow = s.errNow
  respVal : w.testBit 57 = false → t.respVal = s.respVal
  free : w.testBit 58 = false → t.free = s.free
  pending : w.testBit 59 = false → t.pending = s.pending
  canon : s.canonical → t.canonical

namespace Frame

theorem refl (w : Nat) (s : State) : Frame w s s := by constructor <;> first | exact fun _ => rfl | exact id

theorem sub {w v i : Nat} (h : v ||| w = w) (k : w.testBit i = false) : v.testBit i = false := by
  have := congrArg (·.testBit i) h
  simp only [Nat.testBit_or, k, Bool.or_false] at this
  exact this

theorem mono {w v : Nat} {s t : State} (k : Frame v s t) (h : v ||| w = w) : Frame w s t where
  count := fun b => k.count (sub h b)
  refLost := fun b => k.refLost (sub h b)
  frameAt := fun b => k.frameAt (sub h b)
  epochAt := fun b => k.epochAt (sub h b)
  loadIn := fun b => k.loadIn (sub h b)
  latch := fun b => k.latch (sub h b)
  ticks := fun b => k.ticks (sub h b)
  regs := fun b => k.regs (sub h b)
  limits := fun b => k.limits (sub h b)
  tiles := fun b => k.tiles (sub h b)
  seqs := fun b => k.seqs (sub h b)
  loader := fun b => k.loader (sub h b)
  cs := fun b => k.cs (sub h b)
  csImage := fun b => k.csImage (sub h b)
  bar2 := fun b => k.bar2 (sub h b)
  used := fun b => k.used (sub h b)
  rings := fun b => k.rings (sub h b)
  fns := fun b => k.fns (sub h b)
  msix := fun b => k.msix (sub h b)
  ctxCache := fun b => k.ctxCache (sub h b)
  host := fun b => k.host (sub h b)
  dram := fun b => k.dram (sub h b)
  dchs := fun b => k.dchs (sub h b)
  doorbells := fun b => k.doorbells (sub h b)
  dwait := fun b => k.dwait (sub h b)
  dramNvm := fun b => k.dramNvm (sub h b)
  unfreezing := fun b => k.unfreezing (sub h b)
  evchs := fun b => k.evchs (sub h b)
  evgs := fun b => k.evgs (sub h b)
  window := fun b => k.window (sub h b)
  routes := fun b => k.routes (sub h b)
  tones := fun b => k.tones (sub h b)
  outs := fun b => k.outs (sub h b)
  adcs := fun b => k.adcs (sub h b)
  routs := fun b => k.routs (sub h b)
  fir := fun b => k.fir (sub h b)
  kernel := fun b => k.kernel (sub h b)
  lanes := fun b => k.lanes (sub h b)
  slots := fun b => k.slots (sub h b)
  copies := fun b => k.copies (sub h b)
  slotLog := fun b => k.slotLog (sub h b)
  syn := fun b => k.syn (sub h b)
  cmap := fun b => k.cmap (sub h b)
  ports := fun b => k.ports (sub h b)
  mesh := fun b => k.mesh (sub h b)
  acqs := fun b => k.acqs (sub h b)
  fluxes := fun b => k.fluxes (sub h b)
  nt := fun b => k.nt (sub h b)
  eths := fun b => k.eths (sub h b)
  power := fun b => k.power (sub h b)
  therm := fun b => k.therm (sub h b)
  sensors := fun b => k.sensors (sub h b)
  sfes := fun b => k.sfes (sub h b)
  cal := fun b => k.cal (sub h b)
  dbgs := fun b => k.dbgs (sub h b)
  edges := fun b => k.edges (sub h b)
  errNow := fun b => k.errNow (sub h b)
  respVal := fun b => k.respVal (sub h b)
  free := fun b => k.free (sub h b)
  pending := fun b => k.pending (sub h b)
  canon := k.canon

theorem trans {w : Nat} {s t u : State} (h : Frame w s t) (k : Frame w t u) : Frame w s u where
  count := fun b => (k.count b).trans (h.count b)
  refLost := fun b => (k.refLost b).trans (h.refLost b)
  frameAt := fun b => (k.frameAt b).trans (h.frameAt b)
  epochAt := fun b => (k.epochAt b).trans (h.epochAt b)
  loadIn := fun b => (k.loadIn b).trans (h.loadIn b)
  latch := fun b => (k.latch b).trans (h.latch b)
  ticks := fun b => (k.ticks b).trans (h.ticks b)
  regs := fun b => (k.regs b).trans (h.regs b)
  limits := fun b => (k.limits b).trans (h.limits b)
  tiles := fun b => (k.tiles b).trans (h.tiles b)
  seqs := fun b => (k.seqs b).trans (h.seqs b)
  loader := fun b => (k.loader b).trans (h.loader b)
  cs := fun b => (k.cs b).trans (h.cs b)
  csImage := fun b => (k.csImage b).trans (h.csImage b)
  bar2 := fun b => (k.bar2 b).trans (h.bar2 b)
  used := fun b => (k.used b).trans (h.used b)
  rings := fun b => (k.rings b).trans (h.rings b)
  fns := fun b => (k.fns b).trans (h.fns b)
  msix := fun b => (k.msix b).trans (h.msix b)
  ctxCache := fun b => (k.ctxCache b).trans (h.ctxCache b)
  host := fun b => (k.host b).trans (h.host b)
  dram := fun b => (k.dram b).trans (h.dram b)
  dchs := fun b => (k.dchs b).trans (h.dchs b)
  doorbells := fun b => (k.doorbells b).trans (h.doorbells b)
  dwait := fun b => (k.dwait b).trans (h.dwait b)
  dramNvm := fun b => (k.dramNvm b).trans (h.dramNvm b)
  unfreezing := fun b => (k.unfreezing b).trans (h.unfreezing b)
  evchs := fun b => (k.evchs b).trans (h.evchs b)
  evgs := fun b => (k.evgs b).trans (h.evgs b)
  window := fun b => (k.window b).trans (h.window b)
  routes := fun b => (k.routes b).trans (h.routes b)
  tones := fun b => (k.tones b).trans (h.tones b)
  outs := fun b => (k.outs b).trans (h.outs b)
  adcs := fun b => (k.adcs b).trans (h.adcs b)
  routs := fun b => (k.routs b).trans (h.routs b)
  fir := fun b => (k.fir b).trans (h.fir b)
  kernel := fun b => (k.kernel b).trans (h.kernel b)
  lanes := fun b => (k.lanes b).trans (h.lanes b)
  slots := fun b => (k.slots b).trans (h.slots b)
  copies := fun b => (k.copies b).trans (h.copies b)
  slotLog := fun b => (k.slotLog b).trans (h.slotLog b)
  syn := fun b => (k.syn b).trans (h.syn b)
  cmap := fun b => (k.cmap b).trans (h.cmap b)
  ports := fun b => (k.ports b).trans (h.ports b)
  mesh := fun b => (k.mesh b).trans (h.mesh b)
  acqs := fun b => (k.acqs b).trans (h.acqs b)
  fluxes := fun b => (k.fluxes b).trans (h.fluxes b)
  nt := fun b => (k.nt b).trans (h.nt b)
  eths := fun b => (k.eths b).trans (h.eths b)
  power := fun b => (k.power b).trans (h.power b)
  therm := fun b => (k.therm b).trans (h.therm b)
  sensors := fun b => (k.sensors b).trans (h.sensors b)
  sfes := fun b => (k.sfes b).trans (h.sfes b)
  cal := fun b => (k.cal b).trans (h.cal b)
  dbgs := fun b => (k.dbgs b).trans (h.dbgs b)
  edges := fun b => (k.edges b).trans (h.edges b)
  errNow := fun b => (k.errNow b).trans (h.errNow b)
  respVal := fun b => (k.respVal b).trans (h.respVal b)
  free := fun b => (k.free b).trans (h.free b)
  pending := fun b => (k.pending b).trans (h.pending b)
  canon := fun c => k.canon (h.canon c)

/-- One more operation: it may change no more than what may change in all. -/
theorem step {w v : Nat} {s t u : State} (h : Frame w s t) (k : Frame v t u) (b : v ||| w = w) : Frame w s u :=
  h.trans (k.mono b)

theorem ite {w : Nat} {s a b : State} {c : Prop} [Decidable c] (ha : Frame w s a) (hb : Frame w s b) :
    Frame w s (if c then a else b) := by
  split <;> assumption

theorem pair {w : Nat} {α : Type} {s a : State} {x : α} (h : Frame w s a) : Frame w s (a, x).1 := h

theorem fst_ite {w : Nat} {α : Type} {s : State} {a b : State × α} {c : Prop} [Decidable c] (ha : Frame w s a.1)
    (hb : Frame w s b.1) : Frame w s (if c then a else b).1 := by
  split <;> assumption

theorem getD {w : Nat} {s a : State} {o : Option State} (h : Frame w s a) (each : ∀ t, o = some t → Frame w s t) :
    Frame w s (o.getD a) := by
  cases o with
  | none => exact h
  | some t => exact each t rfl

theorem some_ite {t : State} {o : Option State} {c : Prop} [Decidable c] (e : (if c then o else none) = some t) : o = some t := by
  split at e
  · exact e
  · cases e

theorem omap {w : Nat} {s t : State} {α : Type} {o : Option α} {f : α → State} (e : o.map f = some t)
    (each : ∀ u, o = some u → Frame w s (f u)) : Frame w s t := by
  cases o with
  | none => cases e
  | some u => cases e; exact each u rfl

theorem obind {w : Nat} {s t : State} {α : Type} {o : Option α} {f : α → Option State} (e : o.bind f = some t)
    (each : ∀ u, o = some u → ∀ t, f u = some t → Frame w s t) : Frame w s t := by
  cases o with
  | none => cases e
  | some u => exact each u rfl t e

theorem foldl {w : Nat} {α : Type} {s a : State} {l : List α} {f : State → α → State} (h : Frame w s a)
    (each : ∀ t x, Frame w t (f t x)) : Frame w s (l.foldl f a) := by
  induction l generalizing a with
  | nil => exact h
  | cons x l ih => exact ih (h.trans (each a x))

theorem foldlFst {w : Nat} {α β : Type} {s : State} {a : State × β} {l : List α} {f : State × β → α → State × β} (h : Frame w s a.1)
    (each : ∀ t x, Frame w t.1 (f t x).1) : Frame w s (l.foldl f a).1 := by
  induction l generalizing a with
  | nil => exact h
  | cons x l ih => exact ih (h.trans (each a x))

theorem forN {w : Nat} {s a : State} {n : Nat} {f : Nat → State → State} (h : Frame w s a)
    (each : ∀ i t, Frame w t (f i t)) : Frame w s (Machine.forN n f a) := by
  induction n with
  | zero => exact h
  | succ n ih => exact ih.trans (each n _)

theorem upd_count (s : State) (v0) {w : Nat} {s₀ : State} (h : Frame w s₀ s) (le : 1 ||| w = w) :
    Frame w s₀ { s with count := v0 } :=
  h.step (v := 1) (by constructor <;> first | exact fun _ => rfl | exact id | exact fun h => absurd h (by decide)) le
theorem upd_refLost (s : State) (v1) {w : Nat} {s₀ : State} (h : Frame w s₀ s) (le : 2 ||| w = w) :
    Frame w s₀ { s with refLost := v1 } :=
  h.step (v := 2) (by constructor <;> first | exact fun _ => rfl | exact id | exact fun h => absurd h (by decide)) le
theorem upd_frameAt (s : State) (v2) {w : Nat} {s₀ : State} (h : Frame w s₀ s) (le : 4 ||| w = w) :
    Frame w s₀ { s with frameAt := v2 } :=
  h.step (v := 4) (by constructor <;> first | exact fun _ => rfl | exact id | exact fun h => absurd h (by decide)) le
theorem upd_epochAt (s : State) (v3) {w : Nat} {s₀ : State} (h : Frame w s₀ s) (le : 8 ||| w = w) :
    Frame w s₀ { s with epochAt := v3 } :=
  h.step (v := 8) (by constructor <;> first | exact fun _ => rfl | exact id | exact fun h => absurd h (by decide)) le
theorem upd_loadIn (s : State) (v4) {w : Nat} {s₀ : State} (h : Frame w s₀ s) (le : 16 ||| w = w) :
    Frame w s₀ { s with loadIn := v4 } :=
  h.step (v := 16) (by constructor <;> first | exact fun _ => rfl | exact id | exact fun h => absurd h (by decide)) le
theorem upd_latch (s : State) (v5) {w : Nat} {s₀ : State} (h : Frame w s₀ s) (le : 32 ||| w = w) :
    Frame w s₀ { s with latch := v5 } :=
  h.step (v := 32) (by constructor <;> first | exact fun _ => rfl | exact id | exact fun h => absurd h (by decide)) le
theorem upd_regs (s : State) (v7) {w : Nat} {s₀ : State} (h : Frame w s₀ s) (le : 128 ||| w = w) :
    Frame w s₀ { s with regs := v7 } :=
  h.step (v := 128) (by constructor <;> first | exact fun _ => rfl | exact id | exact fun h => absurd h (by decide)) le
theorem upd_tiles (s : State) (v9) {w : Nat} {s₀ : State} (h : Frame w s₀ s) (le : 512 ||| w = w) :
    Frame w s₀ { s with tiles := v9 } :=
  h.step (v := 512) (by constructor <;> first | exact fun _ => rfl | exact id | exact fun h => absurd h (by decide)) le
theorem upd_seqs (s : State) (v10) {w : Nat} {s₀ : State} (h : Frame w s₀ s) (le : 1024 ||| w = w) :
    Frame w s₀ { s with seqs := v10 } :=
  h.step (v := 1024) (by constructor <;> first | exact fun _ => rfl | exact id | exact fun h => absurd h (by decide)) le
theorem upd_loader (s : State) (v11) {w : Nat} {s₀ : State} (h : Frame w s₀ s) (le : 2048 ||| w = w) :
    Frame w s₀ { s with loader := v11 } :=
  h.step (v := 2048) (by constructor <;> first | exact fun _ => rfl | exact id | exact fun h => absurd h (by decide)) le
theorem upd_cs (s : State) (v12) {w : Nat} {s₀ : State} (h : Frame w s₀ s) (le : 4096 ||| w = w) :
    Frame w s₀ { s with cs := v12 } :=
  h.step (v := 4096) (by constructor <;> first | exact fun _ => rfl | exact id | exact fun h => absurd h (by decide)) le
theorem upd_csImage (s : State) (v13) {w : Nat} {s₀ : State} (h : Frame w s₀ s) (le : 8192 ||| w = w) :
    Frame w s₀ { s with csImage := v13 } :=
  h.step (v := 8192) (by constructor <;> first | exact fun _ => rfl | exact id | exact fun h => absurd h (by decide)) le
theorem upd_bar2 (s : State) (v14) {w : Nat} {s₀ : State} (h : Frame w s₀ s) (le : 16384 ||| w = w)
    (keep : s.canonical → ({ s with bar2 := v14 } : State).canonical) :
    Frame w s₀ { s with bar2 := v14 } :=
  h.step (v := 16384) (by constructor <;> first | exact fun _ => rfl | exact keep | exact fun h => absurd h (by decide)) le
theorem upd_used (s : State) (v15) {w : Nat} {s₀ : State} (h : Frame w s₀ s) (le : 32768 ||| w = w) :
    Frame w s₀ { s with used := v15 } :=
  h.step (v := 32768) (by constructor <;> first | exact fun _ => rfl | exact id | exact fun h => absurd h (by decide)) le
theorem upd_rings (s : State) (v16) {w : Nat} {s₀ : State} (h : Frame w s₀ s) (le : 65536 ||| w = w) :
    Frame w s₀ { s with rings := v16 } :=
  h.step (v := 65536) (by constructor <;> first | exact fun _ => rfl | exact id | exact fun h => absurd h (by decide)) le
theorem upd_fns (s : State) (v17) {w : Nat} {s₀ : State} (h : Frame w s₀ s) (le : 131072 ||| w = w) :
    Frame w s₀ { s with fns := v17 } :=
  h.step (v := 131072) (by constructor <;> first | exact fun _ => rfl | exact id | exact fun h => absurd h (by decide)) le
theorem upd_msix (s : State) (v18) {w : Nat} {s₀ : State} (h : Frame w s₀ s) (le : 262144 ||| w = w) :
    Frame w s₀ { s with msix := v18 } :=
  h.step (v := 262144) (by constructor <;> first | exact fun _ => rfl | exact id | exact fun h => absurd h (by decide)) le
theorem upd_ctxCache (s : State) (v19) {w : Nat} {s₀ : State} (h : Frame w s₀ s) (le : 524288 ||| w = w) :
    Frame w s₀ { s with ctxCache := v19 } :=
  h.step (v := 524288) (by constructor <;> first | exact fun _ => rfl | exact id | exact fun h => absurd h (by decide)) le
theorem upd_host (s : State) (v20) {w : Nat} {s₀ : State} (h : Frame w s₀ s) (le : 1048576 ||| w = w)
    (keep : s.canonical → ({ s with host := v20 } : State).canonical) :
    Frame w s₀ { s with host := v20 } :=
  h.step (v := 1048576) (by constructor <;> first | exact fun _ => rfl | exact keep | exact fun h => absurd h (by decide)) le
theorem upd_dram (s : State) (v21) {w : Nat} {s₀ : State} (h : Frame w s₀ s) (le : 2097152 ||| w = w)
    (keep : s.canonical → ({ s with dram := v21 } : State).canonical) :
    Frame w s₀ { s with dram := v21 } :=
  h.step (v := 2097152) (by constructor <;> first | exact fun _ => rfl | exact keep | exact fun h => absurd h (by decide)) le
theorem upd_dchs (s : State) (v22) {w : Nat} {s₀ : State} (h : Frame w s₀ s) (le : 4194304 ||| w = w) :
    Frame w s₀ { s with dchs := v22 } :=
  h.step (v := 4194304) (by constructor <;> first | exact fun _ => rfl | exact id | exact fun h => absurd h (by decide)) le
theorem upd_doorbells (s : State) (v23) {w : Nat} {s₀ : State} (h : Frame w s₀ s) (le : 8388608 ||| w = w) :
    Frame w s₀ { s with doorbells := v23 } :=
  h.step (v := 8388608) (by constructor <;> first | exact fun _ => rfl | exact id | exact fun h => absurd h (by decide)) le
theorem upd_dwait (s : State) (v24) {w : Nat} {s₀ : State} (h : Frame w s₀ s) (le : 16777216 ||| w = w) :
    Frame w s₀ { s with dwait := v24 } :=
  h.step (v := 16777216) (by constructor <;> first | exact fun _ => rfl | exact id | exact fun h => absurd h (by decide)) le
theorem upd_dramNvm (s : State) (v25) {w : Nat} {s₀ : State} (h : Frame w s₀ s) (le : 33554432 ||| w = w) :
    Frame w s₀ { s with dramNvm := v25 } :=
  h.step (v := 33554432) (by constructor <;> first | exact fun _ => rfl | exact id | exact fun h => absurd h (by decide)) le
theorem upd_unfreezing (s : State) (v26) {w : Nat} {s₀ : State} (h : Frame w s₀ s) (le : 67108864 ||| w = w) :
    Frame w s₀ { s with unfreezing := v26 } :=
  h.step (v := 67108864) (by constructor <;> first | exact fun _ => rfl | exact id | exact fun h => absurd h (by decide)) le
theorem upd_evchs (s : State) (v27) {w : Nat} {s₀ : State} (h : Frame w s₀ s) (le : 134217728 ||| w = w) :
    Frame w s₀ { s with evchs := v27 } :=
  h.step (v := 134217728) (by constructor <;> first | exact fun _ => rfl | exact id | exact fun h => absurd h (by decide)) le
theorem upd_evgs (s : State) (v28) {w : Nat} {s₀ : State} (h : Frame w s₀ s) (le : 268435456 ||| w = w) :
    Frame w s₀ { s with evgs := v28 } :=
  h.step (v := 268435456) (by constructor <;> first | exact fun _ => rfl | exact id | exact fun h => absurd h (by decide)) le
theorem upd_window (s : State) (v29) {w : Nat} {s₀ : State} (h : Frame w s₀ s) (le : 536870912 ||| w = w) :
    Frame w s₀ { s with window := v29 } :=
  h.step (v := 536870912) (by constructor <;> first | exact fun _ => rfl | exact id | exact fun h => absurd h (by decide)) le
theorem upd_routes (s : State) (v30) {w : Nat} {s₀ : State} (h : Frame w s₀ s) (le : 1073741824 ||| w = w) :
    Frame w s₀ { s with routes := v30 } :=
  h.step (v := 1073741824) (by constructor <;> first | exact fun _ => rfl | exact id | exact fun h => absurd h (by decide)) le
theorem upd_tones (s : State) (v31) {w : Nat} {s₀ : State} (h : Frame w s₀ s) (le : 2147483648 ||| w = w) :
    Frame w s₀ { s with tones := v31 } :=
  h.step (v := 2147483648) (by constructor <;> first | exact fun _ => rfl | exact id | exact fun h => absurd h (by decide)) le
theorem upd_outs (s : State) (v32) {w : Nat} {s₀ : State} (h : Frame w s₀ s) (le : 4294967296 ||| w = w) :
    Frame w s₀ { s with outs := v32 } :=
  h.step (v := 4294967296) (by constructor <;> first | exact fun _ => rfl | exact id | exact fun h => absurd h (by decide)) le
theorem upd_adcs (s : State) (v33) {w : Nat} {s₀ : State} (h : Frame w s₀ s) (le : 8589934592 ||| w = w) :
    Frame w s₀ { s with adcs := v33 } :=
  h.step (v := 8589934592) (by constructor <;> first | exact fun _ => rfl | exact id | exact fun h => absurd h (by decide)) le
theorem upd_routs (s : State) (v34) {w : Nat} {s₀ : State} (h : Frame w s₀ s) (le : 17179869184 ||| w = w) :
    Frame w s₀ { s with routs := v34 } :=
  h.step (v := 17179869184) (by constructor <;> first | exact fun _ => rfl | exact id | exact fun h => absurd h (by decide)) le
theorem upd_fir (s : State) (v35) {w : Nat} {s₀ : State} (h : Frame w s₀ s) (le : 34359738368 ||| w = w) :
    Frame w s₀ { s with fir := v35 } :=
  h.step (v := 34359738368) (by constructor <;> first | exact fun _ => rfl | exact id | exact fun h => absurd h (by decide)) le
theorem upd_kernel (s : State) (v36) {w : Nat} {s₀ : State} (h : Frame w s₀ s) (le : 68719476736 ||| w = w) :
    Frame w s₀ { s with kernel := v36 } :=
  h.step (v := 68719476736) (by constructor <;> first | exact fun _ => rfl | exact id | exact fun h => absurd h (by decide)) le
theorem upd_lanes (s : State) (v37) {w : Nat} {s₀ : State} (h : Frame w s₀ s) (le : 137438953472 ||| w = w) :
    Frame w s₀ { s with lanes := v37 } :=
  h.step (v := 137438953472) (by constructor <;> first | exact fun _ => rfl | exact id | exact fun h => absurd h (by decide)) le
theorem upd_slots (s : State) (v38) {w : Nat} {s₀ : State} (h : Frame w s₀ s) (le : 274877906944 ||| w = w) :
    Frame w s₀ { s with slots := v38 } :=
  h.step (v := 274877906944) (by constructor <;> first | exact fun _ => rfl | exact id | exact fun h => absurd h (by decide)) le
theorem upd_copies (s : State) (v39) {w : Nat} {s₀ : State} (h : Frame w s₀ s) (le : 549755813888 ||| w = w) :
    Frame w s₀ { s with copies := v39 } :=
  h.step (v := 549755813888) (by constructor <;> first | exact fun _ => rfl | exact id | exact fun h => absurd h (by decide)) le
theorem upd_slotLog (s : State) (v40) {w : Nat} {s₀ : State} (h : Frame w s₀ s) (le : 1099511627776 ||| w = w) :
    Frame w s₀ { s with slotLog := v40 } :=
  h.step (v := 1099511627776) (by constructor <;> first | exact fun _ => rfl | exact id | exact fun h => absurd h (by decide)) le
theorem upd_syn (s : State) (v41) {w : Nat} {s₀ : State} (h : Frame w s₀ s) (le : 2199023255552 ||| w = w) :
    Frame w s₀ { s with syn := v41 } :=
  h.step (v := 2199023255552) (by constructor <;> first | exact fun _ => rfl | exact id | exact fun h => absurd h (by decide)) le
theorem upd_cmap (s : State) (v42) {w : Nat} {s₀ : State} (h : Frame w s₀ s) (le : 4398046511104 ||| w = w) :
    Frame w s₀ { s with cmap := v42 } :=
  h.step (v := 4398046511104) (by constructor <;> first | exact fun _ => rfl | exact id | exact fun h => absurd h (by decide)) le
theorem upd_ports (s : State) (v43) {w : Nat} {s₀ : State} (h : Frame w s₀ s) (le : 8796093022208 ||| w = w) :
    Frame w s₀ { s with ports := v43 } :=
  h.step (v := 8796093022208) (by constructor <;> first | exact fun _ => rfl | exact id | exact fun h => absurd h (by decide)) le
theorem upd_mesh (s : State) (v44) {w : Nat} {s₀ : State} (h : Frame w s₀ s) (le : 17592186044416 ||| w = w) :
    Frame w s₀ { s with mesh := v44 } :=
  h.step (v := 17592186044416) (by constructor <;> first | exact fun _ => rfl | exact id | exact fun h => absurd h (by decide)) le
theorem upd_acqs (s : State) (v45) {w : Nat} {s₀ : State} (h : Frame w s₀ s) (le : 35184372088832 ||| w = w) :
    Frame w s₀ { s with acqs := v45 } :=
  h.step (v := 35184372088832) (by constructor <;> first | exact fun _ => rfl | exact id | exact fun h => absurd h (by decide)) le
theorem upd_fluxes (s : State) (v46) {w : Nat} {s₀ : State} (h : Frame w s₀ s) (le : 70368744177664 ||| w = w) :
    Frame w s₀ { s with fluxes := v46 } :=
  h.step (v := 70368744177664) (by constructor <;> first | exact fun _ => rfl | exact id | exact fun h => absurd h (by decide)) le
theorem upd_nt (s : State) (v47) {w : Nat} {s₀ : State} (h : Frame w s₀ s) (le : 140737488355328 ||| w = w) :
    Frame w s₀ { s with nt := v47 } :=
  h.step (v := 140737488355328) (by constructor <;> first | exact fun _ => rfl | exact id | exact fun h => absurd h (by decide)) le
theorem upd_eths (s : State) (v48) {w : Nat} {s₀ : State} (h : Frame w s₀ s) (le : 281474976710656 ||| w = w) :
    Frame w s₀ { s with eths := v48 } :=
  h.step (v := 281474976710656) (by constructor <;> first | exact fun _ => rfl | exact id | exact fun h => absurd h (by decide)) le
theorem upd_power (s : State) (v49) {w : Nat} {s₀ : State} (h : Frame w s₀ s) (le : 562949953421312 ||| w = w) :
    Frame w s₀ { s with power := v49 } :=
  h.step (v := 562949953421312) (by constructor <;> first | exact fun _ => rfl | exact id | exact fun h => absurd h (by decide)) le
theorem upd_therm (s : State) (v50) {w : Nat} {s₀ : State} (h : Frame w s₀ s) (le : 1125899906842624 ||| w = w)
    (keep : s.canonical → ({ s with therm := v50 } : State).canonical) :
    Frame w s₀ { s with therm := v50 } :=
  h.step (v := 1125899906842624) (by constructor <;> first | exact fun _ => rfl | exact keep | exact fun h => absurd h (by decide)) le
theorem upd_sensors (s : State) (v51) {w : Nat} {s₀ : State} (h : Frame w s₀ s) (le : 2251799813685248 ||| w = w) :
    Frame w s₀ { s with sensors := v51 } :=
  h.step (v := 2251799813685248) (by constructor <;> first | exact fun _ => rfl | exact id | exact fun h => absurd h (by decide)) le
theorem upd_sfes (s : State) (v52) {w : Nat} {s₀ : State} (h : Frame w s₀ s) (le : 4503599627370496 ||| w = w) :
    Frame w s₀ { s with sfes := v52 } :=
  h.step (v := 4503599627370496) (by constructor <;> first | exact fun _ => rfl | exact id | exact fun h => absurd h (by decide)) le
theorem upd_cal (s : State) (v53) {w : Nat} {s₀ : State} (h : Frame w s₀ s) (le : 9007199254740992 ||| w = w) :
    Frame w s₀ { s with cal := v53 } :=
  h.step (v := 9007199254740992) (by constructor <;> first | exact fun _ => rfl | exact id | exact fun h => absurd h (by decide)) le
theorem upd_dbgs (s : State) (v54) {w : Nat} {s₀ : State} (h : Frame w s₀ s) (le : 18014398509481984 ||| w = w) :
    Frame w s₀ { s with dbgs := v54 } :=
  h.step (v := 18014398509481984) (by constructor <;> first | exact fun _ => rfl | exact id | exact fun h => absurd h (by decide)) le
theorem upd_edges (s : State) (v55) {w : Nat} {s₀ : State} (h : Frame w s₀ s) (le : 36028797018963968 ||| w = w) :
    Frame w s₀ { s with edges := v55 } :=
  h.step (v := 36028797018963968) (by constructor <;> first | exact fun _ => rfl | exact id | exact fun h => absurd h (by decide)) le
theorem upd_errNow (s : State) (v56) {w : Nat} {s₀ : State} (h : Frame w s₀ s) (le : 72057594037927936 ||| w = w) :
    Frame w s₀ { s with errNow := v56 } :=
  h.step (v := 72057594037927936) (by constructor <;> first | exact fun _ => rfl | exact id | exact fun h => absurd h (by decide)) le
theorem upd_respVal (s : State) (v57) {w : Nat} {s₀ : State} (h : Frame w s₀ s) (le : 144115188075855872 ||| w = w) :
    Frame w s₀ { s with respVal := v57 } :=
  h.step (v := 144115188075855872) (by constructor <;> first | exact fun _ => rfl | exact id | exact fun h => absurd h (by decide)) le
theorem upd_free (s : State) (v58) {w : Nat} {s₀ : State} (h : Frame w s₀ s) (le : 288230376151711744 ||| w = w) :
    Frame w s₀ { s with free := v58 } :=
  h.step (v := 288230376151711744) (by constructor <;> first | exact fun _ => rfl | exact id | exact fun h => absurd h (by decide)) le
theorem upd_pending (s : State) (v59) {w : Nat} {s₀ : State} (h : Frame w s₀ s) (le : 576460752303423488 ||| w = w) :
    Frame w s₀ { s with pending := v59 } :=
  h.step (v := 576460752303423488) (by constructor <;> first | exact fun _ => rfl | exact id | exact fun h => absurd h (by decide)) le
theorem upd_refLost_loadIn (s : State) (v1 v4) {w : Nat} {s₀ : State} (h : Frame w s₀ s) (le : 18 ||| w = w) :
    Frame w s₀ { s with refLost := v1, loadIn := v4 } :=
  h.step (v := 18) (by constructor <;> first | exact fun _ => rfl | exact id | exact fun h => absurd h (by decide)) le
theorem upd_loadIn_ticks (s : State) (v4 v6) {w : Nat} {s₀ : State} (h : Frame w s₀ s) (le : 80 ||| w = w) :
    Frame w s₀ { s with loadIn := v4, ticks := v6 } :=
  h.step (v := 80) (by constructor <;> first | exact fun _ => rfl | exact id | exact fun h => absurd h (by decide)) le
theorem upd_regs_errNow (s : State) (v7 v56) {w : Nat} {s₀ : State} (h : Frame w s₀ s) (le : 72057594037928064 ||| w = w) :
    Frame w s₀ { s with regs := v7, errNow := v56 } :=
  h.step (v := 72057594037928064) (by constructor <;> first | exact fun _ => rfl | exact id | exact fun h => absurd h (by decide)) le
theorem upd_limits_used (s : State) (v8 v15) {w : Nat} {s₀ : State} (h : Frame w s₀ s) (le : 33024 ||| w = w) :
    Frame w s₀ { s with limits := v8, used := v15 } :=
  h.step (v := 33024) (by constructor <;> first | exact fun _ => rfl | exact id | exact fun h => absurd h (by decide)) le
theorem upd_regs_routes_fluxes_cal (s : State) (v7 v30 v46 v53) {w : Nat} {s₀ : State} (h : Frame w s₀ s) (le : 9077569072660608 ||| w = w) :
    Frame w s₀ { s with regs := v7, routes := v30, fluxes := v46, cal := v53 } :=
  h.step (v := 9077569072660608) (by constructor <;> first | exact fun _ => rfl | exact id | exact fun h => absurd h (by decide)) le
theorem upd_count_frameAt_epochAt_loadIn_nt_cal (s : State) (v0 v2 v3 v4 v47 v53) {w : Nat} {s₀ : State} (h : Frame w s₀ s) (le : 9147936743096349 ||| w = w) :
    Frame w s₀ { s with count := v0, frameAt := v2, epochAt := v3, loadIn := v4, nt := v47, cal := v53 } :=
  h.step (v := 9147936743096349) (by constructor <;> first | exact fun _ => rfl | exact id | exact fun h => absurd h (by decide)) le
theorem upd_regs_dramNvm_fluxes_power_therm_cal (s : State) (v7 v25 v46 v49 v50 v53) {w : Nat} {s₀ : State} (h : Frame w s₀ s) (le : 10766417892737152 ||| w = w)
    (keep : s.canonical → ({ s with regs := v7, dramNvm := v25, fluxes := v46, power := v49, therm := v50, cal := v53 } : State).canonical) :
    Frame w s₀ { s with regs := v7, dramNvm := v25, fluxes := v46, power := v49, therm := v50, cal := v53 } :=
  h.step (v := 10766417892737152) (by constructor <;> first | exact fun _ => rfl | exact keep | exact fun h => absurd h (by decide)) le

theorem pick {α : Sort _} {b : Bool} {x y : α} (h : b = false → x = y) : x = bif b then x else y := by
  cases b
  · exact h rfl
  · rfl

/-- The state after, field by field: what may have changed, and what is as it was. -/
theorem eq {w : Nat} {s t : State} (h : Frame w s t) : t = ⟨bif w.testBit 0 then t.count else s.count, bif w.testBit 1 then t.refLost else s.refLost, bif w.testBit 2 then t.frameAt else s.frameAt, bif w.testBit 3 then t.epochAt else s.epochAt, bif w.testBit 4 then t.loadIn else s.loadIn, bif w.testBit 5 then t.latch else s.latch, bif w.testBit 6 then t.ticks else s.ticks, bif w.testBit 7 then t.regs else s.regs, bif w.testBit 8 then t.limits else s.limits, bif w.testBit 9 then t.tiles else s.tiles, bif w.testBit 10 then t.seqs else s.seqs, bif w.testBit 11 then t.loader else s.loader, bif w.testBit 12 then t.cs else s.cs, bif w.testBit 13 then t.csImage else s.csImage, bif w.testBit 14 then t.bar2 else s.bar2, bif w.testBit 15 then t.used else s.used, bif w.testBit 16 then t.rings else s.rings, bif w.testBit 17 then t.fns else s.fns, bif w.testBit 18 then t.msix else s.msix, bif w.testBit 19 then t.ctxCache else s.ctxCache, bif w.testBit 20 then t.host else s.host, bif w.testBit 21 then t.dram else s.dram, bif w.testBit 22 then t.dchs else s.dchs, bif w.testBit 23 then t.doorbells else s.doorbells, bif w.testBit 24 then t.dwait else s.dwait, bif w.testBit 25 then t.dramNvm else s.dramNvm, bif w.testBit 26 then t.unfreezing else s.unfreezing, bif w.testBit 27 then t.evchs else s.evchs, bif w.testBit 28 then t.evgs else s.evgs, bif w.testBit 29 then t.window else s.window, bif w.testBit 30 then t.routes else s.routes, bif w.testBit 31 then t.tones else s.tones, bif w.testBit 32 then t.outs else s.outs, bif w.testBit 33 then t.adcs else s.adcs, bif w.testBit 34 then t.routs else s.routs, bif w.testBit 35 then t.fir else s.fir, bif w.testBit 36 then t.kernel else s.kernel, bif w.testBit 37 then t.lanes else s.lanes, bif w.testBit 38 then t.slots else s.slots, bif w.testBit 39 then t.copies else s.copies, bif w.testBit 40 then t.slotLog else s.slotLog, bif w.testBit 41 then t.syn else s.syn, bif w.testBit 42 then t.cmap else s.cmap, bif w.testBit 43 then t.ports else s.ports, bif w.testBit 44 then t.mesh else s.mesh, bif w.testBit 45 then t.acqs else s.acqs, bif w.testBit 46 then t.fluxes else s.fluxes, bif w.testBit 47 then t.nt else s.nt, bif w.testBit 48 then t.eths else s.eths, bif w.testBit 49 then t.power else s.power, bif w.testBit 50 then t.therm else s.therm, bif w.testBit 51 then t.sensors else s.sensors, bif w.testBit 52 then t.sfes else s.sfes, bif w.testBit 53 then t.cal else s.cal, bif w.testBit 54 then t.dbgs else s.dbgs, bif w.testBit 55 then t.edges else s.edges, bif w.testBit 56 then t.errNow else s.errNow, bif w.testBit 57 then t.respVal else s.respVal, bif w.testBit 58 then t.free else s.free, bif w.testBit 59 then t.pending else s.pending⟩ := by
  cases t
  rw [State.mk.injEq]
  exact ⟨pick h.count, pick h.refLost, pick h.frameAt, pick h.epochAt, pick h.loadIn, pick h.latch, pick h.ticks, pick h.regs, pick h.limits, pick h.tiles, pick h.seqs, pick h.loader, pick h.cs, pick h.csImage, pick h.bar2, pick h.used, pick h.rings, pick h.fns, pick h.msix, pick h.ctxCache, pick h.host, pick h.dram, pick h.dchs, pick h.doorbells, pick h.dwait, pick h.dramNvm, pick h.unfreezing, pick h.evchs, pick h.evgs, pick h.window, pick h.routes, pick h.tones, pick h.outs, pick h.adcs, pick h.routs, pick h.fir, pick h.kernel, pick h.lanes, pick h.slots, pick h.copies, pick h.slotLog, pick h.syn, pick h.cmap, pick h.ports, pick h.mesh, pick h.acqs, pick h.fluxes, pick h.nt, pick h.eths, pick h.power, pick h.therm, pick h.sensors, pick h.sfes, pick h.cal, pick h.dbgs, pick h.edges, pick h.errNow, pick h.respVal, pick h.free, pick h.pending⟩

end Frame

/-- A command that answers `t` on `s` changes only fields whose bit of `w` is set, and leaves no interrupt edge and no
replaceable capture where none was. -/
structure OutFrame (w : Nat) (s : State) (o : Out) : Prop where
  frame : ∀ t, o = .next t → Frame w s t
  quiet : ∀ t, o = .next t → s.edges = [] → t.edges = []
  clean : ∀ t, o = .next t → s.errNow = [] → t.errNow = []

theorem OutFrame.next {w : Nat} {s t : State} (h : Frame w s t) (k : Frame 1044835113549955071 s t) : OutFrame w s (.next t) :=
  ⟨fun _ e => by cases e; exact h, fun _ e c => by cases e; exact (k.edges (by decide)).trans c,
    fun _ e c => by cases e; exact (k.errNow (by decide)).trans c⟩

theorem OutFrame.same {w : Nat} {s : State} : OutFrame w s (.next s) := OutFrame.next (Frame.refl _ _) (Frame.refl _ _)

theorem OutFrame.ite {w : Nat} {s : State} {a b : Out} {c : Prop} [Decidable c] (ha : OutFrame w s a) (hb : OutFrame w s b) :
    OutFrame w s (if c then a else b) := by
  split <;> assumption

theorem OutFrame.mono {w v : Nat} {s : State} {o : Out} (h : OutFrame v s o) (le : v ||| w = w) : OutFrame w s o :=
  ⟨fun t e => (h.frame t e).mono le, h.quiet, h.clean⟩

theorem mask_le {a m w : Nat} (h : a ||| m = m) (le : m ||| w = w) : a ||| w = w := by
  rw [← le, ← Nat.or_assoc, h]

theorem settle_frame (s : State) : Frame 108086391729422464 s s.settle where
  count := fun _ => s.settle_count
  refLost := fun _ => s.settle_refLost
  frameAt := fun _ => s.settle_frameAt
  epochAt := fun _ => s.settle_epochAt
  loadIn := fun _ => s.settle_loadIn
  latch := fun _ => s.settle_latch
  ticks := fun _ => s.settle_ticks
  regs := fun h => absurd h (by decide)
  limits := fun _ => s.settle_limits
  tiles := fun _ => s.settle_tiles
  seqs := fun _ => s.settle_seqs
  loader := fun _ => s.settle_loader
  cs := fun _ => s.settle_cs
  csImage := fun _ => s.settle_csImage
  bar2 := fun _ => s.settle_bar2
  used := fun _ => s.settle_used
  rings := fun _ => s.settle_rings
  fns := fun h => absurd h (by decide)
  msix := fun h => absurd h (by decide)
  ctxCache := fun _ => s.settle_ctxCache
  host := fun h => absurd h (by decide)
  dram := fun _ => s.settle_dram
  dchs := fun _ => s.settle_dchs
  doorbells := fun _ => s.settle_doorbells
  dwait := fun _ => s.settle_dwait
  dramNvm := fun _ => s.settle_dramNvm
  unfreezing := fun _ => s.settle_unfreezing
  evchs := fun h => absurd h (by decide)
  evgs := fun _ => s.settle_evgs
  window := fun h => absurd h (by decide)
  routes := fun _ => s.settle_routes
  tones := fun _ => s.settle_tones
  outs := fun _ => s.settle_outs
  adcs := fun _ => s.settle_adcs
  routs := fun _ => s.settle_routs
  fir := fun _ => s.settle_fir
  kernel := fun _ => s.settle_kernel
  lanes := fun _ => s.settle_lanes
  slots := fun _ => s.settle_slots
  copies := fun _ => s.settle_copies
  slotLog := fun _ => s.settle_slotLog
  syn := fun _ => s.settle_syn
  cmap := fun _ => s.settle_cmap
  ports := fun _ => s.settle_ports
  mesh := fun _ => s.settle_mesh
  acqs := fun _ => s.settle_acqs
  fluxes := fun _ => s.settle_fluxes
  nt := fun _ => s.settle_nt
  eths := fun _ => s.settle_eths
  power := fun _ => s.settle_power
  therm := fun _ => s.settle_therm
  sensors := fun _ => s.settle_sensors
  sfes := fun _ => s.settle_sfes
  cal := fun _ => s.settle_cal
  dbgs := fun _ => s.settle_dbgs
  edges := fun h => absurd h (by decide)
  errNow := fun h => absurd h (by decide)
  respVal := fun _ => s.settle_respVal
  free := fun _ => s.settle_free
  pending := fun _ => s.settle_pending
  canon := fun ⟨a, b, c, d⟩ => ⟨by rw [s.settle_bar2]; exact a, by rw [s.settle_dram]; exact b, (settle_delivers s).host c, by rw [s.settle_therm]; exact d⟩

theorem OutFrame.finish {w : Nat} {s t : State} (h : Frame w s t) (le : 108086391729422464 ||| w = w) : OutFrame w s (finish t) :=
  ⟨fun _ e => by cases e; exact h.step (settle_frame t) le, fun _ e _ => by cases e; exact settle_edges t,
    fun _ e _ => by cases e; exact settle_errNow t⟩

end Sys2Proof.Machine
end

