-- ==== Sys2Proof/Laws/FramesBanks.lean ====
section
/-!
SUPPORT. The field frames of the operations of Machine/Banks.lean: the fields of the state that each may change.
-/
namespace Sys2Proof.Machine

theorem State.modAcq_frame (s : State) (x0) (x1) {w : Nat} {s₀ : State} (h : Frame w s₀ s) (le : 35184372088832 ||| w = w) :
    Frame w s₀ (State.modAcq s x0 x1) := by
  refine h.step ?_ le
  unfold State.modAcq
  try dsimp -proj only
  repeat' (first
    | with_reducible exact Frame.refl _ _
    | (with_reducible apply Frame.upd_acqs (le := ?le); case le => decide))

theorem State.modAdc_frame (s : State) (x0) (x1) {w : Nat} {s₀ : State} (h : Frame w s₀ s) (le : 8589934592 ||| w = w) :
    Frame w s₀ (State.modAdc s x0 x1) := by
  refine h.step ?_ le
  unfold State.modAdc
  try dsimp -proj only
  repeat' (first
    | with_reducible exact Frame.refl _ _
    | (with_reducible apply Frame.upd_adcs (le := ?le); case le => decide))

theorem State.modCopy_frame (s : State) (x0) (x1) {w : Nat} {s₀ : State} (h : Frame w s₀ s) (le : 549755813888 ||| w = w) :
    Frame w s₀ (State.modCopy s x0 x1) := by
  refine h.step ?_ le
  unfold State.modCopy
  try dsimp -proj only
  repeat' (first
    | with_reducible exact Frame.refl _ _
    | (with_reducible apply Frame.upd_copies (le := ?le); case le => decide))

theorem State.modDbg_frame (s : State) (x0) (x1) {w : Nat} {s₀ : State} (h : Frame w s₀ s) (le : 18014398509481984 ||| w = w) :
    Frame w s₀ (State.modDbg s x0 x1) := by
  refine h.step ?_ le
  unfold State.modDbg
  try dsimp -proj only
  repeat' (first
    | with_reducible exact Frame.refl _ _
    | (with_reducible apply Frame.upd_dbgs (le := ?le); case le => decide))

theorem State.modDch_frame (s : State) (x0) (x1) {w : Nat} {s₀ : State} (h : Frame w s₀ s) (le : 4194304 ||| w = w) :
    Frame w s₀ (State.modDch s x0 x1) := by
  refine h.step ?_ le
  unfold State.modDch
  try dsimp -proj only
  repeat' (first
    | with_reducible exact Frame.refl _ _
    | (with_reducible apply Frame.upd_dchs (le := ?le); case le => decide))

theorem State.modEth_frame (s : State) (x0) (x1) {w : Nat} {s₀ : State} (h : Frame w s₀ s) (le : 281474976710656 ||| w = w) :
    Frame w s₀ (State.modEth s x0 x1) := by
  refine h.step ?_ le
  unfold State.modEth
  try dsimp -proj only
  repeat' (first
    | with_reducible exact Frame.refl _ _
    | (with_reducible apply Frame.upd_eths (le := ?le); case le => decide))

theorem State.modEvch_frame (s : State) (x0) (x1) {w : Nat} {s₀ : State} (h : Frame w s₀ s) (le : 134217728 ||| w = w) :
    Frame w s₀ (State.modEvch s x0 x1) := by
  refine h.step ?_ le
  unfold State.modEvch
  try dsimp -proj only
  repeat' (first
    | with_reducible exact Frame.refl _ _
    | (with_reducible apply Frame.upd_evchs (le := ?le); case le => decide))

theorem State.modEvg_frame (s : State) (x0) (x1) {w : Nat} {s₀ : State} (h : Frame w s₀ s) (le : 268435456 ||| w = w) :
    Frame w s₀ (State.modEvg s x0 x1) := by
  refine h.step ?_ le
  unfold State.modEvg
  try dsimp -proj only
  repeat' (first
    | with_reducible exact Frame.refl _ _
    | (with_reducible apply Frame.upd_evgs (le := ?le); case le => decide))

theorem State.modFlux_frame (s : State) (x0) (x1) {w : Nat} {s₀ : State} (h : Frame w s₀ s) (le : 70368744177664 ||| w = w) :
    Frame w s₀ (State.modFlux s x0 x1) := by
  refine h.step ?_ le
  unfold State.modFlux
  try dsimp -proj only
  repeat' (first
    | with_reducible exact Frame.refl _ _
    | (with_reducible apply Frame.upd_fluxes (le := ?le); case le => decide))

theorem State.modFn_frame (s : State) (x0) (x1) {w : Nat} {s₀ : State} (h : Frame w s₀ s) (le : 131072 ||| w = w) :
    Frame w s₀ (State.modFn s x0 x1) := by
  refine h.step ?_ le
  unfold State.modFn
  try dsimp -proj only
  repeat' (first
    | with_reducible exact Frame.refl _ _
    | (with_reducible apply Frame.upd_fns (le := ?le); case le => decide))

theorem State.modLane_frame (s : State) (x0) (x1) {w : Nat} {s₀ : State} (h : Frame w s₀ s) (le : 137438953472 ||| w = w) :
    Frame w s₀ (State.modLane s x0 x1) := by
  refine h.step ?_ le
  unfold State.modLane
  try dsimp -proj only
  repeat' (first
    | with_reducible exact Frame.refl _ _
    | (with_reducible apply Frame.upd_lanes (le := ?le); case le => decide))

theorem State.modMsix_frame (s : State) (x0) (x1) {w : Nat} {s₀ : State} (h : Frame w s₀ s) (le : 262144 ||| w = w) :
    Frame w s₀ (State.modMsix s x0 x1) := by
  refine h.step ?_ le
  unfold State.modMsix
  try dsimp -proj only
  repeat' (first
    | with_reducible exact Frame.refl _ _
    | (with_reducible apply Frame.upd_msix (le := ?le); case le => decide))

theorem State.modOut_frame (s : State) (x0) (x1) {w : Nat} {s₀ : State} (h : Frame w s₀ s) (le : 4294967296 ||| w = w) :
    Frame w s₀ (State.modOut s x0 x1) := by
  refine h.step ?_ le
  unfold State.modOut
  try dsimp -proj only
  repeat' (first
    | with_reducible exact Frame.refl _ _
    | (with_reducible apply Frame.upd_outs (le := ?le); case le => decide))

theorem State.modPort_frame (s : State) (x0) (x1) {w : Nat} {s₀ : State} (h : Frame w s₀ s) (le : 8796093022208 ||| w = w) :
    Frame w s₀ (State.modPort s x0 x1) := by
  refine h.step ?_ le
  unfold State.modPort
  try dsimp -proj only
  repeat' (first
    | with_reducible exact Frame.refl _ _
    | (with_reducible apply Frame.upd_ports (le := ?le); case le => decide))

theorem State.modRing_frame (s : State) (x0) (x1) {w : Nat} {s₀ : State} (h : Frame w s₀ s) (le : 65536 ||| w = w) :
    Frame w s₀ (State.modRing s x0 x1) := by
  refine h.step ?_ le
  unfold State.modRing
  try dsimp -proj only
  repeat' (first
    | with_reducible exact Frame.refl _ _
    | (with_reducible apply Frame.upd_rings (le := ?le); case le => decide))

theorem State.modRout_frame (s : State) (x0) (x1) {w : Nat} {s₀ : State} (h : Frame w s₀ s) (le : 17179869184 ||| w = w) :
    Frame w s₀ (State.modRout s x0 x1) := by
  refine h.step ?_ le
  unfold State.modRout
  try dsimp -proj only
  repeat' (first
    | with_reducible exact Frame.refl _ _
    | (with_reducible apply Frame.upd_routs (le := ?le); case le => decide))

theorem State.modSensor_frame (s : State) (x0) (x1) {w : Nat} {s₀ : State} (h : Frame w s₀ s) (le : 2251799813685248 ||| w = w) :
    Frame w s₀ (State.modSensor s x0 x1) := by
  refine h.step ?_ le
  unfold State.modSensor
  try dsimp -proj only
  repeat' (first
    | with_reducible exact Frame.refl _ _
    | (with_reducible apply Frame.upd_sensors (le := ?le); case le => decide))

theorem State.modSeq_frame (s : State) (x0) (x1) {w : Nat} {s₀ : State} (h : Frame w s₀ s) (le : 1024 ||| w = w) :
    Frame w s₀ (State.modSeq s x0 x1) := by
  refine h.step ?_ le
  unfold State.modSeq
  try dsimp -proj only
  repeat' (first
    | with_reducible exact Frame.refl _ _
    | (with_reducible apply Frame.upd_seqs (le := ?le); case le => decide))

theorem State.modSfe_frame (s : State) (x0) (x1) {w : Nat} {s₀ : State} (h : Frame w s₀ s) (le : 4503599627370496 ||| w = w) :
    Frame w s₀ (State.modSfe s x0 x1) := by
  refine h.step ?_ le
  unfold State.modSfe
  try dsimp -proj only
  repeat' (first
    | with_reducible exact Frame.refl _ _
    | (with_reducible apply Frame.upd_sfes (le := ?le); case le => decide))

theorem State.modSlot_frame (s : State) (x0) (x1) {w : Nat} {s₀ : State} (h : Frame w s₀ s) (le : 274877906944 ||| w = w) :
    Frame w s₀ (State.modSlot s x0 x1) := by
  refine h.step ?_ le
  unfold State.modSlot
  try dsimp -proj only
  repeat' (first
    | with_reducible exact Frame.refl _ _
    | (with_reducible apply Frame.upd_slots (le := ?le); case le => decide))

theorem State.modTile_frame (s : State) (x0) (x1) {w : Nat} {s₀ : State} (h : Frame w s₀ s) (le : 512 ||| w = w) :
    Frame w s₀ (State.modTile s x0 x1) := by
  refine h.step ?_ le
  unfold State.modTile
  try dsimp -proj only
  repeat' (first
    | with_reducible exact Frame.refl _ _
    | (with_reducible apply Frame.upd_tiles (le := ?le); case le => decide))

theorem State.modTone_frame (s : State) (x0) (x1) {w : Nat} {s₀ : State} (h : Frame w s₀ s) (le : 2147483648 ||| w = w) :
    Frame w s₀ (State.modTone s x0 x1) := by
  refine h.step ?_ le
  unfold State.modTone
  try dsimp -proj only
  repeat' (first
    | with_reducible exact Frame.refl _ _
    | (with_reducible apply Frame.upd_tones (le := ?le); case le => decide))

end Sys2Proof.Machine
end

