-- ==== Sys2Proof/Laws/FramesOps.lean ====
section
/-!
SUPPORT. The field frames of the operations of Machine/Ops.lean: the fields of the state that each may change.
-/
namespace Sys2Proof.Machine

theorem State.setReg_frame (s : State) (x0) (x1) {w : Nat} {s₀ : State} (h : Frame w s₀ s) (le : 128 ||| w = w) :
    Frame w s₀ (State.setReg s x0 x1) := by
  refine h.step ?_ le
  unfold State.setReg
  try dsimp -proj only
  repeat' (first
    | with_reducible exact Frame.refl _ _
    | (with_reducible apply Frame.upd_regs (le := ?le); case le => decide))

theorem State.setFld_frame (s : State) (x0) (x1) (x2) (x3) {w : Nat} {s₀ : State} (h : Frame w s₀ s) (le : 128 ||| w = w) :
    Frame w s₀ (State.setFld s x0 x1 x2 x3) := by
  refine h.step ?_ le
  unfold State.setFld
  try dsimp -proj only
  repeat' (first
    | with_reducible exact Frame.refl _ _
    | (with_reducible apply State.setReg_frame (le := ?le); case le => decide))

theorem State.addSat_frame (s : State) (x0) (x1) (x2) (x3) {w : Nat} {s₀ : State} (h : Frame w s₀ s) (le : 128 ||| w = w) :
    Frame w s₀ (State.addSat s x0 x1 x2 x3) := by
  refine h.step ?_ le
  unfold State.addSat
  try dsimp -proj only
  repeat' (first
    | with_reducible exact Frame.refl _ _
    | (with_reducible apply State.setFld_frame (le := ?le); case le => decide))

theorem State.calHit_frame (s : State) (x0) (x1) {w : Nat} {s₀ : State} (h : Frame w s₀ s) (le : 9007199254740992 ||| w = w) :
    Frame w s₀ (State.calHit s x0 x1) := by
  refine h.step ?_ le
  unfold State.calHit
  try dsimp -proj only
  repeat' (first
    | with_reducible exact Frame.refl _ _
    | with_reducible apply Frame.ite
    | split
    | (with_reducible apply Frame.upd_cal (le := ?le); case le => decide))

theorem State.changeFrame_frame (s : State) (x0) (x1) {w : Nat} {s₀ : State} (h : Frame w s₀ s) (le : 2199023255552 ||| w = w)
    (each : ∀ t, Frame w t (x1 t)) : Frame w s₀ (State.changeFrame s x0 x1) := by
  refine (h.trans (each s)).step ?_ le
  unfold State.changeFrame
  generalize x1 s = t
  dsimp -proj only
  exact Frame.upd_syn _ _ (Frame.refl _ _) (by decide)

theorem State.modShot_frame (s : State) (x0) (x1) (x2) {w : Nat} {s₀ : State} (h : Frame w s₀ s) (le : 1024 ||| w = w) :
    Frame w s₀ (State.modShot s x0 x1 x2) := by
  refine h.step ?_ le
  unfold State.modShot
  try dsimp -proj only
  repeat' (first
    | with_reducible exact Frame.refl _ _
    | with_reducible apply Frame.ite
    | (with_reducible apply State.modSeq_frame (le := ?le); case le => decide))

theorem State.charge_frame (s : State) (x0) (x1) {w : Nat} {s₀ : State} (h : Frame w s₀ s) (le : 1024 ||| w = w) :
    Frame w s₀ (State.charge s x0 x1) := by
  refine h.step ?_ le
  unfold State.charge
  try dsimp -proj only
  repeat' (first
    | with_reducible exact Frame.refl _ _
    | (with_reducible apply State.modShot_frame (le := ?le); case le => decide)
    | split)

theorem State.chargeHeld_frame (s : State) (x0) (x1) (x2) {w : Nat} {s₀ : State} (h : Frame w s₀ s) (le : 1024 ||| w = w) :
    Frame w s₀ (State.chargeHeld s x0 x1 x2) := by
  refine h.step ?_ le
  unfold State.chargeHeld
  try dsimp -proj only
  repeat' (first
    | with_reducible exact Frame.refl _ _
    | with_reducible apply Frame.ite
    | (with_reducible apply State.charge_frame (le := ?le); case le => decide))

theorem State.edge_frame (s : State) (x0) (x1) {w : Nat} {s₀ : State} (h : Frame w s₀ s) (le : 36028797018963968 ||| w = w) :
    Frame w s₀ (State.edge s x0 x1) := by
  refine h.step ?_ le
  unfold State.edge
  try dsimp -proj only
  repeat' (first
    | with_reducible exact Frame.refl _ _
    | with_reducible apply Frame.ite
    | (with_reducible apply Frame.upd_edges (le := ?le); case le => decide))

theorem State.setBit_frame (s : State) (x0) (x1) (x2) (x3) {w : Nat} {s₀ : State} (h : Frame w s₀ s) (le : 128 ||| w = w) :
    Frame w s₀ (State.setBit s x0 x1 x2 x3) := by
  refine h.step ?_ le
  unfold State.setBit
  try dsimp -proj only
  repeat' (first
    | with_reducible exact Frame.refl _ _
    | (with_reducible apply State.setFld_frame (le := ?le); case le => decide))

theorem State.err_frame (s : State) (x0) (x1) (x2) {w : Nat} {s₀ : State} (h : Frame w s₀ s) (le : 72057594037928064 ||| w = w) :
    Frame w s₀ (State.err s x0 x1 x2) := by
  refine h.step ?_ le
  unfold State.err
  try dsimp -proj only
  repeat' (first
    | with_reducible exact Frame.refl _ _
    | with_reducible apply Frame.ite
    | (with_reducible apply State.setBit_frame (le := ?le); case le => decide)
    | (with_reducible apply State.setReg_frame (le := ?le); case le => decide)
    | (with_reducible apply Frame.upd_regs_errNow (le := ?le); case le => decide))

theorem State.inc_frame (s : State) (x0) (x1) (x2) {w : Nat} {s₀ : State} (h : Frame w s₀ s) (le : 128 ||| w = w) :
    Frame w s₀ (State.inc s x0 x1 x2) := by
  refine h.step ?_ le
  unfold State.inc
  try dsimp -proj only
  repeat' (first
    | with_reducible exact Frame.refl _ _
    | (with_reducible apply State.addSat_frame (le := ?le); case le => decide))

theorem State.newCycle_frame (s : State) {w : Nat} {s₀ : State} (h : Frame w s₀ s) (le : 72057594037927936 ||| w = w) :
    Frame w s₀ (State.newCycle s) := by
  refine h.step ?_ le
  unfold State.newCycle
  try dsimp -proj only
  repeat' (first
    | with_reducible exact Frame.refl _ _
    | (with_reducible apply Frame.upd_errNow (le := ?le); case le => decide))

theorem State.raiseBits_frame (s : State) (x0) (x1) {w : Nat} {s₀ : State} (h : Frame w s₀ s) (le : 36028797018964096 ||| w = w) :
    Frame w s₀ (State.raiseBits s x0 x1) := by
  refine h.step ?_ le
  unfold State.raiseBits
  try dsimp -proj only
  repeat' (first
    | with_reducible exact Frame.refl _ _
    | (with_reducible apply State.edge_frame (le := ?le); case le => decide)
    | (with_reducible apply State.setReg_frame (le := ?le); case le => decide))

theorem State.raise_frame (s : State) (x0) (x1) {w : Nat} {s₀ : State} (h : Frame w s₀ s) (le : 36028797018964096 ||| w = w) :
    Frame w s₀ (State.raise s x0 x1) := by
  refine h.step ?_ le
  unfold State.raise
  try dsimp -proj only
  repeat' (first
    | with_reducible exact Frame.refl _ _
    | (with_reducible apply State.raiseBits_frame (le := ?le); case le => decide))

theorem State.respond_frame (s : State) (x0) {w : Nat} {s₀ : State} (h : Frame w s₀ s) (le : 144115188075855872 ||| w = w) :
    Frame w s₀ (State.respond s x0) := by
  refine h.step ?_ le
  unfold State.respond
  try dsimp -proj only
  repeat' (first
    | with_reducible exact Frame.refl _ _
    | (with_reducible apply Frame.upd_respVal (le := ?le); case le => decide))

theorem State.setEnable_frame (s : State) (x0) (x1) {w : Nat} {s₀ : State} (h : Frame w s₀ s) (le : 128 ||| w = w) :
    Frame w s₀ (State.setEnable s x0 x1) := by
  refine h.step ?_ le
  unfold State.setEnable
  try dsimp -proj only
  repeat' (first
    | with_reducible exact Frame.refl _ _
    | (with_reducible apply State.setBit_frame (le := ?le); case le => decide))

theorem State.setFld64_frame (s : State) (x0) (x1) (x2) (x3) (x4) {w : Nat} {s₀ : State} (h : Frame w s₀ s) (le : 128 ||| w = w) :
    Frame w s₀ (State.setFld64 s x0 x1 x2 x3 x4) := by
  refine h.step ?_ le
  unfold State.setFld64
  try dsimp -proj only
  repeat' (first
    | with_reducible exact Frame.refl _ _
    | (with_reducible apply State.setFld_frame (le := ?le); case le => decide))

theorem State.setStat_frame (s : State) (x0) (x1) (x2) {w : Nat} {s₀ : State} (h : Frame w s₀ s) (le : 128 ||| w = w) :
    Frame w s₀ (State.setStat s x0 x1 x2) := by
  refine h.step ?_ le
  unfold State.setStat
  try dsimp -proj only
  repeat' (first
    | with_reducible exact Frame.refl _ _
    | (with_reducible apply State.setBit_frame (le := ?le); case le => decide))

theorem State.shotsSkew_frame (s : State) (x0) {w : Nat} {s₀ : State} (h : Frame w s₀ s) (le : 1024 ||| w = w) :
    Frame w s₀ (State.shotsSkew s x0) := by
  refine h.step ?_ le
  unfold State.shotsSkew
  try dsimp -proj only
  repeat' (first
    | with_reducible exact Frame.refl _ _
    | with_reducible apply Frame.foldl
    | intro _ _
    | (with_reducible apply State.modSeq_frame (le := ?le); case le => decide))

theorem State.tookFree_frame (s : State) {w : Nat} {s₀ : State} (h : Frame w s₀ s) (le : 288230376151711744 ||| w = w) :
    Frame w s₀ (State.tookFree s) := by
  refine h.step ?_ le
  unfold State.tookFree
  try dsimp -proj only
  repeat' (first
    | with_reducible exact Frame.refl _ _
    | (with_reducible apply Frame.upd_free (le := ?le); case le => decide))

theorem State.useTile_frame (s : State) (x0) (x1) (x2) {w : Nat} {s₀ : State} (h : Frame w s₀ s) (le : 1024 ||| w = w) :
    Frame w s₀ (State.useTile s x0 x1 x2) := by
  refine h.step ?_ le
  unfold State.useTile
  try dsimp -proj only
  repeat' (first
    | with_reducible exact Frame.refl _ _
    | with_reducible apply Frame.ite
    | (with_reducible apply State.modShot_frame (le := ?le); case le => decide)
    | split)

end Sys2Proof.Machine
end

