-- ==== Sys2Proof/Laws/FramesIrq.lean ====
section
/-!
SUPPORT. The field frames of the operations of Machine/Irq.lean: the fields of the state that each may change.
-/
namespace Sys2Proof.Machine

theorem State.msixWrite_frame (s : State) (x0) (x1) {w : Nat} {s₀ : State} (h : Frame w s₀ s) (le : 1310720 ||| w = w) :
    Frame w s₀ (State.msixWrite s x0 x1) := by
  refine h.step ?_ le
  unfold State.msixWrite
  try dsimp -proj only
  repeat' (first
    | with_reducible exact Frame.refl _ _
    | (with_reducible apply State.modMsix_frame (le := ?le); case le => decide)
    | ((with_reducible apply Frame.upd_host (le := by decide)); swap; exact fun ⟨a, b, c, d⟩ => ⟨by first | exact a | exact Memory.wf_wrLE _ _ _ a | exact Memory.wf_wrBytes _ _ a, by first | exact b | exact Memory.wf_wrBytes _ _ b, by first | exact c | exact Memory.wf_wrLE _ _ _ c | exact Memory.wf_wrBytes _ _ c, d⟩))

theorem State.setPba_frame (s : State) (x0) (x1) (x2) {w : Nat} {s₀ : State} (h : Frame w s₀ s) (le : 131072 ||| w = w) :
    Frame w s₀ (State.setPba s x0 x1 x2) := by
  refine h.step ?_ le
  unfold State.setPba
  try dsimp -proj only
  repeat' (first
    | with_reducible exact Frame.refl _ _
    | with_reducible apply Frame.ite
    | (with_reducible apply State.modFn_frame (le := ?le); case le => decide))

theorem State.msixSignal_frame (s : State) (x0) (x1) {w : Nat} {s₀ : State} (h : Frame w s₀ s) (le : 1441792 ||| w = w) :
    Frame w s₀ (State.msixSignal s x0 x1) := by
  refine h.step ?_ le
  unfold State.msixSignal
  try dsimp -proj only
  repeat' (first
    | with_reducible exact Frame.refl _ _
    | with_reducible apply Frame.ite
    | (with_reducible apply State.modMsix_frame (le := ?le); case le => decide)
    | (with_reducible apply State.msixWrite_frame (le := ?le); case le => decide)
    | (with_reducible apply State.setPba_frame (le := ?le); case le => decide)
    | split)

theorem State.fire_frame (s : State) (x0) (x1) (x2) {w : Nat} {s₀ : State} (h : Frame w s₀ s) (le : 36028797153181824 ||| w = w) :
    Frame w s₀ (State.fire s x0 x1 x2) := by
  refine h.step ?_ le
  unfold State.fire
  try dsimp -proj only
  repeat' (first
    | with_reducible exact Frame.refl _ _
    | with_reducible apply Frame.ite
    | with_reducible apply Frame.getD
    | intro _ _
    | (with_reducible apply State.inc_frame (le := ?le); case le => decide)
    | (with_reducible apply State.modEvch_frame (le := ?le); case le => decide)
    | (with_reducible apply State.raise_frame (le := ?le); case le => decide)
    | (with_reducible apply State.setFld_frame (le := ?le); case le => decide))

theorem State.publish_frame (s : State) (x0) (x1) (x2) {w : Nat} {s₀ : State} (h : Frame w s₀ s) (le : 36028797153181824 ||| w = w) :
    Frame w s₀ (State.publish s x0 x1 x2) := by
  refine h.step ?_ le
  unfold State.publish
  try dsimp -proj only
  repeat' (first
    | with_reducible exact Frame.refl _ _
    | with_reducible apply Frame.ite
    | (with_reducible apply State.fire_frame (le := ?le); case le => decide)
    | (with_reducible apply State.inc_frame (le := ?le); case le => decide)
    | (with_reducible apply State.raise_frame (le := ?le); case le => decide)
    | (with_reducible apply State.setFld_frame (le := ?le); case le => decide))

theorem State.deliver_frame (s : State) (x0) (x1) {w : Nat} {s₀ : State} (h : Frame w s₀ s) (le : 36028797154623616 ||| w = w) :
    Frame w s₀ (State.deliver s x0 x1) := by
  refine h.step ?_ le
  unfold State.deliver
  try dsimp -proj only
  repeat' (first
    | with_reducible exact Frame.refl _ _
    | with_reducible apply Frame.ite
    | (with_reducible apply State.inc_frame (le := ?le); case le => decide)
    | (with_reducible apply State.msixSignal_frame (le := ?le); case le => decide)
    | (with_reducible apply State.publish_frame (le := ?le); case le => decide))

theorem State.evgKill_frame (s : State) (x0) {w : Nat} {s₀ : State} (h : Frame w s₀ s) (le : 134218880 ||| w = w) :
    Frame w s₀ (State.evgKill s x0) := by
  refine h.step ?_ le
  unfold State.evgKill
  try dsimp -proj only
  repeat' (first
    | with_reducible exact Frame.refl _ _
    | with_reducible apply Frame.ite
    | with_reducible apply Frame.foldl
    | with_reducible apply Frame.forN
    | intro _ _
    | (with_reducible apply State.addSat_frame (le := ?le); case le => decide)
    | (with_reducible apply State.charge_frame (le := ?le); case le => decide)
    | (with_reducible apply State.modEvch_frame (le := ?le); case le => decide)
    | (with_reducible apply State.setEnable_frame (le := ?le); case le => decide))

theorem State.newWindow_frame (s : State) {w : Nat} {s₀ : State} (h : Frame w s₀ s) (le : 536870912 ||| w = w) :
    Frame w s₀ (State.newWindow s) := by
  refine h.step ?_ le
  unfold State.newWindow
  try dsimp -proj only
  repeat' (first
    | with_reducible exact Frame.refl _ _
    | (with_reducible apply Frame.upd_window (le := ?le); case le => decide))

end Sys2Proof.Machine
end

