-- ==== Sys2Proof/Laws/FramesDram.lean ====
section
/-!
SUPPORT. The field frames of the operations of Machine/Dram.lean: the fields of the state that each may change.
-/
namespace Sys2Proof.Machine

theorem State.useUnits_frame (s : State) (x0) (x1) {w : Nat} {s₀ : State} (h : Frame w s₀ s) (le : 32768 ||| w = w) :
    Frame w s₀ (State.useUnits s x0 x1) := by
  refine h.step ?_ le
  unfold State.useUnits
  try dsimp -proj only
  repeat' (first
    | with_reducible exact Frame.refl _ _
    | (with_reducible apply Frame.upd_used (le := ?le); case le => decide))

theorem State.chargeBest_frame (s : State) (x0) (x1) {t : State} (e : State.chargeBest s x0 x1 = some t) {w : Nat} {s₀ : State} (h : Frame w s₀ s) (le : 32768 ||| w = w) :
    Frame w s₀ t := by
  refine h.step ?_ le
  unfold State.chargeBest at e
  try dsimp -proj only at e
  repeat' split at e
  all_goals first | (cases e; done) | (injection e with e; subst e) | skip
  repeat' (first
    | with_reducible exact Frame.refl _ _
    | with_reducible apply Frame.ite
    | (with_reducible apply State.useUnits_frame (le := ?le); case le => decide))

theorem State.chargeHost_frame (s : State) (x0) {t : State} (e : State.chargeHost s x0 = some t) {w : Nat} {s₀ : State} (h : Frame w s₀ s) (le : 32768 ||| w = w) :
    Frame w s₀ t := by
  refine h.step ?_ le
  unfold State.chargeHost at e
  try dsimp -proj only at e
  repeat' split at e
  all_goals first | (cases e; done) | (injection e with e; subst e) | skip
  repeat' (first
    | with_reducible exact Frame.refl _ _
    | (with_reducible apply State.chargeBest_frame (le := ?le) (e := by assumption); case le => decide))

theorem State.chargeRes_frame (s : State) (x0) (x1) {t : State} (e : State.chargeRes s x0 x1 = some t) {w : Nat} {s₀ : State} (h : Frame w s₀ s) (le : 32768 ||| w = w) :
    Frame w s₀ t := by
  refine h.step ?_ le
  unfold State.chargeRes at e
  try dsimp -proj only at e
  repeat' split at e
  all_goals first | (cases e; done) | (injection e with e; subst e) | skip
  repeat' (first
    | with_reducible exact Frame.refl _ _
    | with_reducible apply Frame.ite
    | (with_reducible apply State.useUnits_frame (le := ?le); case le => decide))

theorem State.chargeRefetch_frame (s : State) {t : State} (e : State.chargeRefetch s = some t) {w : Nat} {s₀ : State} (h : Frame w s₀ s) (le : 32768 ||| w = w) :
    Frame w s₀ t := by
  refine h.step ?_ le
  unfold State.chargeRefetch at e
  try dsimp -proj only at e
  repeat' split at e
  all_goals first | (cases e; done) | (injection e with e; subst e) | skip
  repeat' (first
    | with_reducible exact Frame.refl _ _
    | (with_reducible apply State.chargeRes_frame (le := ?le) (e := by assumption); case le => decide))

theorem State.chargePort_frame (s : State) (x0) (x1) {t : State} (e : State.chargePort s x0 x1 = some t) {w : Nat} {s₀ : State} (h : Frame w s₀ s) (le : 32768 ||| w = w) :
    Frame w s₀ t := by
  refine h.step ?_ le
  unfold State.chargePort at e
  try dsimp -proj only at e
  repeat' split at e
  all_goals first | (cases e; done) | (injection e with e; subst e) | skip
  repeat' (first
    | with_reducible exact Frame.refl _ _
    | with_reducible apply Frame.ite
    | (with_reducible apply State.chargeBest_frame (le := ?le) (e := by assumption); case le => decide)
    | (with_reducible apply State.chargeHost_frame (le := ?le) (e := by assumption); case le => decide)
    | (with_reducible apply State.chargeRefetch_frame (le := ?le) (e := by assumption); case le => decide))

theorem State.dramEnter_frame (s : State) (x0) (x1) (x2) (x3) (x4) {w : Nat} {s₀ : State} (h : Frame w s₀ s) (le : 108086391061086336 ||| w = w) :
    Frame w s₀ (State.dramEnter s x0 x1 x2 x3 x4) := by
  refine h.step ?_ le
  unfold State.dramEnter
  try dsimp -proj only
  repeat' (first
    | with_reducible exact Frame.refl _ _
    | with_reducible apply Frame.ite
    | (with_reducible apply State.err_frame (le := ?le); case le => decide)
    | (with_reducible apply State.inc_frame (le := ?le); case le => decide)
    | (with_reducible apply State.modDch_frame (le := ?le); case le => decide)
    | (with_reducible apply State.raise_frame (le := ?le); case le => decide))

theorem State.dramRequest_frame (s : State) (x0) (x1) (x2) (x3) (x4) {w : Nat} {s₀ : State} (h : Frame w s₀ s) (le : 108086391077896320 ||| w = w) :
    Frame w s₀ (State.dramRequest s x0 x1 x2 x3 x4) := by
  refine h.step ?_ le
  unfold State.dramRequest
  try dsimp -proj only
  repeat' (first
    | with_reducible exact Frame.refl _ _
    | with_reducible apply Frame.ite
    | (with_reducible apply State.chargePort_frame (le := ?le) (e := by assumption); case le => decide)
    | (with_reducible apply State.dramEnter_frame (le := ?le); case le => decide)
    | split
    | (with_reducible apply Frame.upd_dwait (le := ?le); case le => decide))

theorem State.refetch_frame (s : State) (x0) {w : Nat} {s₀ : State} (h : Frame w s₀ s) (le : 108086391077896320 ||| w = w) :
    Frame w s₀ (State.refetch s x0) := by
  refine h.step ?_ le
  unfold State.refetch
  try dsimp -proj only
  repeat' (first
    | with_reducible exact Frame.refl _ _
    | (with_reducible apply State.dramRequest_frame (le := ?le); case le => decide))

theorem State.shadowWrite_frame (s : State) (x0) (x1) (x2) {w : Nat} {s₀ : State} (h : Frame w s₀ s) (le : 108086391079993472 ||| w = w) :
    Frame w s₀ (State.shadowWrite s x0 x1 x2) := by
  refine h.step ?_ le
  unfold State.shadowWrite
  try dsimp -proj only
  repeat' (first
    | with_reducible exact Frame.refl _ _
    | (with_reducible apply State.dramRequest_frame (le := ?le); case le => decide)
    | ((with_reducible apply Frame.upd_dram (le := by decide)); swap; exact fun ⟨a, b, c, d⟩ => ⟨by first | exact a | exact Memory.wf_wrLE _ _ _ a | exact Memory.wf_wrBytes _ _ a, by first | exact b | exact Memory.wf_wrBytes _ _ b, by first | exact c | exact Memory.wf_wrLE _ _ _ c | exact Memory.wf_wrBytes _ _ c, d⟩))

end Sys2Proof.Machine
end

