-- ==== Sys2Proof/Laws/FramesRings.lean ====
section
/-!
SUPPORT. The field frames of the operations of Machine/Rings.lean: the fields of the state that each may change.
-/
namespace Sys2Proof.Machine

theorem State.ringAppend_frame (s : State) (x0) (x1) (x2) (x3) {w : Nat} {s₀ : State} (h : Frame w s₀ s) (le : 108086391063249024 ||| w = w) :
    Frame w s₀ (State.ringAppend s x0 x1 x2 x3) := by
  refine h.step ?_ le
  unfold State.ringAppend
  try dsimp -proj only
  repeat' (first
    | with_reducible exact Frame.refl _ _
    | (with_reducible apply State.dramEnter_frame (le := ?le); case le => decide)
    | (with_reducible apply State.modRing_frame (le := ?le); case le => decide)
    | ((with_reducible apply Frame.upd_dram (le := by decide)); swap; exact fun ⟨a, b, c, d⟩ => ⟨by first | exact a | exact Memory.wf_wrLE _ _ _ a | exact Memory.wf_wrBytes _ _ a, by first | exact b | exact Memory.wf_wrBytes _ _ b, by first | exact c | exact Memory.wf_wrLE _ _ _ c | exact Memory.wf_wrBytes _ _ c, d⟩))

theorem State.ringFull_frame (s : State) (x0) {w : Nat} {s₀ : State} (h : Frame w s₀ s) (le : 36028797019029632 ||| w = w) :
    Frame w s₀ (State.ringFull s x0) := by
  refine h.step ?_ le
  unfold State.ringFull
  try dsimp -proj only
  repeat' (first
    | with_reducible exact Frame.refl _ _
    | (with_reducible apply State.modRing_frame (le := ?le); case le => decide)
    | (with_reducible apply State.raise_frame (le := ?le); case le => decide)
    | split)

theorem State.dramServe_frame (s : State) (x0) {t : State} (e : State.dramServe s x0 = some t) {w : Nat} {s₀ : State} (h : Frame w s₀ s) (le : 108086391063281792 ||| w = w) :
    Frame w s₀ t := by
  refine h.step ?_ le
  unfold State.dramServe at e
  try dsimp -proj only at e
  repeat' split at e
  all_goals first | (cases e; done) | (injection e with e; subst e) | skip
  repeat' (first
    | with_reducible exact Frame.refl _ _
    | with_reducible apply Frame.ite
    | (with_reducible apply State.chargePort_frame (le := ?le) (e := by assumption); case le => decide)
    | (with_reducible apply State.dramEnter_frame (le := ?le); case le => decide)
    | (with_reducible apply State.ringAppend_frame (le := ?le); case le => decide)
    | (with_reducible apply State.ringFull_frame (le := ?le); case le => decide)
    | split
    | with_reducible refine Frame.omap (by assumption) ?_
    | (intro _ _; try dsimp -proj only))

theorem State.ringAsk_frame (s : State) (x0) (x1) (x2) (x3) (x4) {w : Nat} {s₀ : State} (h : Frame w s₀ s) (le : 108086391061151872 ||| w = w) :
    Frame w s₀ (State.ringAsk s x0 x1 x2 x3 x4) := by
  refine h.step ?_ le
  unfold State.ringAsk
  try dsimp -proj only
  repeat' (first
    | with_reducible exact Frame.refl _ _
    | with_reducible apply Frame.ite
    | (with_reducible apply State.dramEnter_frame (le := ?le); case le => decide)
    | (with_reducible apply State.modRing_frame (le := ?le); case le => decide))

theorem State.ringData_frame (s : State) (x0) (x1) (x2) {w : Nat} {s₀ : State} (h : Frame w s₀ s) (le : 65536 ||| w = w) :
    Frame w s₀ (State.ringData s x0 x1 x2) := by
  refine h.step ?_ le
  unfold State.ringData
  try dsimp -proj only
  repeat' (first
    | with_reducible exact Frame.refl _ _
    | with_reducible apply Frame.ite
    | (with_reducible apply State.modRing_frame (le := ?le); case le => decide))

theorem State.ringDrain_frame (s : State) (x0) (x1) (x2) {w : Nat} {s₀ : State} (h : Frame w s₀ s) (le : 65536 ||| w = w)
    (each : ∀ t i b, Frame w t (x1 t i b)) : Frame w s₀ (State.ringDrain x0 x1 x2 s) := by
  induction x2 generalizing s with
  | zero => exact h
  | succ n ih =>
    unfold State.ringDrain
    split
    · exact ih _ ((State.modRing_frame _ _ _ h (mask_le (by decide) le)).trans (each _ _ _))
    · exact h

theorem State.touchRing_frame (s : State) (x0) {w : Nat} {s₀ : State} (h : Frame w s₀ s) (le : 108086391078420608 ||| w = w) :
    Frame w s₀ (State.touchRing s x0) := by
  refine h.step ?_ le
  unfold State.touchRing
  try dsimp -proj only
  repeat' (first
    | with_reducible exact Frame.refl _ _
    | with_reducible apply Frame.ite
    | (with_reducible apply State.dramRequest_frame (le := ?le); case le => decide)
    | split
    | (with_reducible apply Frame.upd_ctxCache (le := ?le); case le => decide))

theorem State.ringPush_frame (s : State) (x0) (x1) {w : Nat} {s₀ : State} (h : Frame w s₀ s) (le : 108086391080583296 ||| w = w) :
    Frame w s₀ (State.ringPush s x0 x1) := by
  refine h.step ?_ le
  unfold State.ringPush
  try dsimp -proj only
  repeat' (first
    | with_reducible exact Frame.refl _ _
    | with_reducible apply Frame.ite
    | with_reducible apply Frame.getD
    | intro _ _
    | (with_reducible apply State.dramServe_frame (le := ?le) (e := by assumption); case le => decide)
    | (with_reducible apply State.ringFull_frame (le := ?le); case le => decide)
    | (with_reducible apply State.touchRing_frame (le := ?le); case le => decide)
    | (with_reducible apply Frame.upd_dwait (le := ?le); case le => decide))

theorem State.ringTake_frame (s : State) (x0) {w : Nat} {s₀ : State} (h : Frame w s₀ s) (le : 108086391078486144 ||| w = w) :
    Frame w s₀ (State.ringTake s x0) := by
  refine h.step ?_ le
  unfold State.ringTake
  try dsimp -proj only
  repeat' (first
    | with_reducible exact Frame.refl _ _
    | (with_reducible apply State.dramEnter_frame (le := ?le); case le => decide)
    | (with_reducible apply State.modRing_frame (le := ?le); case le => decide)
    | (with_reducible apply State.touchRing_frame (le := ?le); case le => decide))

theorem State.serveList_frame (s : State) (x0) {w : Nat} {s₀ : State} (h : Frame w s₀ s) (le : 108086391080059008 ||| w = w) :
    Frame w s₀ (State.serveList s x0) := by
  induction x0 generalizing s with
  | nil => exact h
  | cons a l ih =>
    unfold State.serveList
    split
    · rename_i e
      exact ih _ (Frame.upd_dwait _ _ (State.dramServe_frame _ _ e h (mask_le (by decide) le)) (mask_le (by decide) le))
    · exact h

theorem State.serveWaits_frame (s : State) {w : Nat} {s₀ : State} (h : Frame w s₀ s) (le : 108086391080059008 ||| w = w) :
    Frame w s₀ (State.serveWaits s) := by
  refine h.step ?_ le
  unfold State.serveWaits
  try dsimp -proj only
  repeat' (first
    | with_reducible exact Frame.refl _ _
    | with_reducible apply Frame.ite
    | with_reducible apply Frame.foldl
    | intro _ _
    | (with_reducible apply State.serveList_frame (le := ?le); case le => decide))

end Sys2Proof.Machine
end

