-- ==== Sys2Proof/Laws/FramesSlots.lean ====
section
/-!
SUPPORT. The field frames of the operations of Machine/Slots.lean: the fields of the state that each may change.
-/
namespace Sys2Proof.Machine

theorem State.oldWrite_frame (s : State) {w : Nat} {s₀ : State} (h : Frame w s₀ s) (le : 36028797018964096 ||| w = w) :
    Frame w s₀ (State.oldWrite s) := by
  refine h.step ?_ le
  unfold State.oldWrite
  try dsimp -proj only
  repeat' (first
    | with_reducible exact Frame.refl _ _
    | (with_reducible apply State.inc_frame (le := ?le); case le => decide)
    | (with_reducible apply State.raise_frame (le := ?le); case le => decide))

theorem State.pendDec_frame (s : State) (x0) (x1) {w : Nat} {s₀ : State} (h : Frame w s₀ s) (le : 8796093022336 ||| w = w) :
    Frame w s₀ (State.pendDec s x0 x1) := by
  refine h.step ?_ le
  unfold State.pendDec
  try dsimp -proj only
  repeat' (first
    | with_reducible exact Frame.refl _ _
    | with_reducible apply Frame.ite
    | (with_reducible apply State.inc_frame (le := ?le); case le => decide)
    | (with_reducible apply State.modPort_frame (le := ?le); case le => decide))

theorem State.pendDecs_frame (s : State) (x0) (x1) {w : Nat} {s₀ : State} (h : Frame w s₀ s) (le : 8796093022336 ||| w = w) :
    Frame w s₀ (State.pendDecs s x0 x1) := by
  refine h.step ?_ le
  unfold State.pendDecs
  try dsimp -proj only
  repeat' (first
    | with_reducible exact Frame.refl _ _
    | with_reducible apply Frame.ite
    | with_reducible apply Frame.foldl
    | intro _ _
    | (with_reducible apply State.pendDec_frame (le := ?le); case le => decide))

theorem State.logSlot_frame (s : State) (x0) (x1) (x2) (x3) {w : Nat} {s₀ : State} (h : Frame w s₀ s) (le : 1099511627776 ||| w = w) :
    Frame w s₀ (State.logSlot s x0 x1 x2 x3) := by
  refine h.step ?_ le
  unfold State.logSlot
  try dsimp -proj only
  repeat' (first
    | with_reducible exact Frame.refl _ _
    | (with_reducible apply Frame.upd_slotLog (le := ?le); case le => decide))

theorem State.putSlot_frame (s : State) (x0) (x1) (x2) {w : Nat} {s₀ : State} (h : Frame w s₀ s) (le : 1374389534720 ||| w = w) :
    Frame w s₀ (State.putSlot s x0 x1 x2) := by
  refine h.step ?_ le
  unfold State.putSlot
  try dsimp -proj only
  repeat' (first
    | with_reducible exact Frame.refl _ _
    | (with_reducible apply State.logSlot_frame (le := ?le); case le => decide)
    | (with_reducible apply State.modSlot_frame (le := ?le); case le => decide))

theorem State.modRounds_frame (s : State) (x0) {w : Nat} {s₀ : State} (h : Frame w s₀ s) (le : 2199023255552 ||| w = w) :
    Frame w s₀ (State.modRounds s x0) := by
  refine h.step ?_ le
  unfold State.modRounds
  try dsimp -proj only
  repeat' (first
    | with_reducible exact Frame.refl _ _
    | (with_reducible apply Frame.upd_syn (le := ?le); case le => decide))

theorem State.synLatch_frame (s : State) (x0) (x1) (x2) {w : Nat} {s₀ : State} (h : Frame w s₀ s) (le : 36030996042219648 ||| w = w) :
    Frame w s₀ (State.synLatch s x0 x1 x2) := by
  refine h.step ?_ le
  unfold State.synLatch
  try dsimp -proj only
  repeat' (first
    | with_reducible exact Frame.refl _ _
    | with_reducible apply Frame.ite
    | (with_reducible apply State.inc_frame (le := ?le); case le => decide)
    | (with_reducible apply State.modRounds_frame (le := ?le); case le => decide)
    | (with_reducible apply State.raise_frame (le := ?le); case le => decide))

theorem State.writeSlot_frame (s : State) (x0) (x1) (x2) {w : Nat} {s₀ : State} (h : Frame w s₀ s) (le : 36041166524776576 ||| w = w) :
    Frame w s₀ (State.writeSlot s x0 x1 x2) := by
  refine h.step ?_ le
  unfold State.writeSlot
  try dsimp -proj only
  repeat' (first
    | with_reducible exact Frame.refl _ _
    | with_reducible apply Frame.ite
    | (with_reducible apply State.oldWrite_frame (le := ?le); case le => decide)
    | (with_reducible apply State.pendDecs_frame (le := ?le); case le => decide)
    | (with_reducible apply State.putSlot_frame (le := ?le); case le => decide)
    | (with_reducible apply State.synLatch_frame (le := ?le); case le => decide))

theorem State.feed_frame (s : State) (x0) (x1) (x2) (x3) {w : Nat} {s₀ : State} (h : Frame w s₀ s) (le : 36041166524776576 ||| w = w) :
    Frame w s₀ (State.feed s x0 x1 x2 x3) := by
  refine h.step ?_ le
  unfold State.feed
  try dsimp -proj only
  repeat' (first
    | with_reducible exact Frame.refl _ _
    | with_reducible apply Frame.foldl
    | intro _ _
    | (with_reducible apply State.writeSlot_frame (le := ?le); case le => decide))

theorem State.putCopy_frame (s : State) (x0) (x1) (x2) {w : Nat} {s₀ : State} (h : Frame w s₀ s) (le : 1649267441664 ||| w = w) :
    Frame w s₀ (State.putCopy s x0 x1 x2) := by
  refine h.step ?_ le
  unfold State.putCopy
  try dsimp -proj only
  repeat' (first
    | with_reducible exact Frame.refl _ _
    | (with_reducible apply State.logSlot_frame (le := ?le); case le => decide)
    | (with_reducible apply State.modCopy_frame (le := ?le); case le => decide))

theorem State.writeCopy_frame (s : State) (x0) (x1) (x2) (x3) {w : Nat} {s₀ : State} (h : Frame w s₀ s) (le : 36032645309661312 ||| w = w) :
    Frame w s₀ (State.writeCopy s x0 x1 x2 x3) := by
  refine h.step ?_ le
  unfold State.writeCopy
  try dsimp -proj only
  repeat' (first
    | with_reducible exact Frame.refl _ _
    | with_reducible apply Frame.ite
    | (with_reducible apply State.oldWrite_frame (le := ?le); case le => decide)
    | (with_reducible apply State.putCopy_frame (le := ?le); case le => decide)
    | (with_reducible apply State.synLatch_frame (le := ?le); case le => decide))

end Sys2Proof.Machine
end

