-- ==== Sys2Proof/Laws/FramesAcq.lean ====
section
/-!
SUPPORT. The field frames of the operations of Machine/Acq.lean: the fields of the state that each may change.
-/
namespace Sys2Proof.Machine

theorem State.setAState_frame (s : State) (x0) (x1) {w : Nat} {s₀ : State} (h : Frame w s₀ s) (le : 128 ||| w = w) :
    Frame w s₀ (State.setAState s x0 x1) := by
  refine h.step ?_ le
  unfold State.setAState
  try dsimp -proj only
  repeat' (first
    | with_reducible exact Frame.refl _ _
    | (with_reducible apply State.setFld_frame (le := ?le); case le => decide))

theorem State.acqStop_frame (s : State) (x0) (x1) {w : Nat} {s₀ : State} (h : Frame w s₀ s) (le : 35184372088960 ||| w = w) :
    Frame w s₀ (State.acqStop s x0 x1) := by
  refine h.step ?_ le
  unfold State.acqStop
  try dsimp -proj only
  repeat' (first
    | with_reducible exact Frame.refl _ _
    | with_reducible apply Frame.getD
    | intro _ _
    | (with_reducible apply State.modAcq_frame (le := ?le); case le => decide)
    | (with_reducible apply State.setAState_frame (le := ?le); case le => decide)
    | split)

theorem State.acqDisable_frame (s : State) (x0) {w : Nat} {s₀ : State} (h : Frame w s₀ s) (le : 35184372088960 ||| w = w) :
    Frame w s₀ (State.acqDisable s x0) := by
  refine h.step ?_ le
  unfold State.acqDisable
  try dsimp -proj only
  repeat' (first
    | with_reducible exact Frame.refl _ _
    | (with_reducible apply State.acqStop_frame (le := ?le); case le => decide)
    | (with_reducible apply State.modAcq_frame (le := ?le); case le => decide)
    | (with_reducible apply State.setEnable_frame (le := ?le); case le => decide)
    | split)

theorem State.acqEnable_frame (s : State) (x0) {w : Nat} {s₀ : State} (h : Frame w s₀ s) (le : 35184372088960 ||| w = w) :
    Frame w s₀ (State.acqEnable s x0) := by
  refine h.step ?_ le
  unfold State.acqEnable
  try dsimp -proj only
  repeat' (first
    | with_reducible exact Frame.refl _ _
    | (with_reducible apply State.modAcq_frame (le := ?le); case le => decide)
    | (with_reducible apply State.setEnable_frame (le := ?le); case le => decide))

theorem State.acqEndAt_frame (s : State) (x0) {w : Nat} {s₀ : State} (h : Frame w s₀ s) (le : 35184372088960 ||| w = w) :
    Frame w s₀ (State.acqEndAt s x0) := by
  refine h.step ?_ le
  unfold State.acqEndAt
  try dsimp -proj only
  repeat' (first
    | with_reducible exact Frame.refl _ _
    | (with_reducible apply State.modAcq_frame (le := ?le); case le => decide)
    | (with_reducible apply State.setAState_frame (le := ?le); case le => decide))

theorem State.setCap_frame (s : State) (x0) (x1) {w : Nat} {s₀ : State} (h : Frame w s₀ s) (le : 35184372088832 ||| w = w) :
    Frame w s₀ (State.setCap s x0 x1) := by
  refine h.step ?_ le
  unfold State.setCap
  try dsimp -proj only
  repeat' (first
    | with_reducible exact Frame.refl _ _
    | (with_reducible apply State.modAcq_frame (le := ?le); case le => decide))

theorem State.showFifo_frame (s : State) (x0) (x1) {w : Nat} {s₀ : State} (h : Frame w s₀ s) (le : 36028797018964096 ||| w = w) :
    Frame w s₀ (State.showFifo s x0 x1) := by
  refine h.step ?_ le
  unfold State.showFifo
  try dsimp -proj only
  repeat' (first
    | with_reducible exact Frame.refl _ _
    | with_reducible apply Frame.ite
    | (with_reducible apply State.raise_frame (le := ?le); case le => decide)
    | (with_reducible apply State.setFld_frame (le := ?le); case le => decide)
    | split)

theorem State.acqRingFault_frame (s : State) (x0) (x1) {w : Nat} {s₀ : State} (h : Frame w s₀ s) (le : 108086391056892032 ||| w = w) :
    Frame w s₀ (State.acqRingFault s x0 x1) := by
  refine h.step ?_ le
  unfold State.acqRingFault
  try dsimp -proj only
  repeat' (first
    | with_reducible exact Frame.refl _ _
    | (with_reducible apply State.err_frame (le := ?le); case le => decide)
    | (with_reducible apply State.raise_frame (le := ?le); case le => decide))

theorem State.checkSpill_frame (s : State) (x0) (x1) {w : Nat} {s₀ : State} (h : Frame w s₀ s) (le : 108086391056892032 ||| w = w) :
    Frame w s₀ (State.checkSpill s x0 x1).1 := by
  refine h.step ?_ le
  unfold State.checkSpill
  try dsimp -proj only
  repeat' (first
    | with_reducible exact Frame.refl _ _
    | with_reducible apply Frame.ite
    | (with_reducible apply State.acqRingFault_frame (le := ?le); case le => decide)
    | with_reducible apply Frame.fst_ite
    | with_reducible apply Frame.pair)

theorem State.overflow_frame (s : State) (x0) (x1) {w : Nat} {s₀ : State} (h : Frame w s₀ s) (le : 36028797018964096 ||| w = w) :
    Frame w s₀ (State.overflow s x0 x1).1 := by
  refine h.step ?_ le
  unfold State.overflow
  try dsimp -proj only
  repeat' (first
    | with_reducible exact Frame.refl _ _
    | (with_reducible apply State.inc_frame (le := ?le); case le => decide)
    | (with_reducible apply State.raise_frame (le := ?le); case le => decide)
    | (with_reducible apply State.setFld_frame (le := ?le); case le => decide)
    | with_reducible apply Frame.pair)

theorem State.putSample_frame (s : State) (x0) (x1) (x2) {w : Nat} {s₀ : State} (h : Frame w s₀ s) (le : 16384 ||| w = w) :
    Frame w s₀ (State.putSample s x0 x1 x2) := by
  refine h.step ?_ le
  unfold State.putSample
  try dsimp -proj only
  repeat' (first
    | with_reducible exact Frame.refl _ _
    | with_reducible apply Frame.ite
    | ((with_reducible apply Frame.upd_bar2 (le := by decide)); swap; exact fun ⟨a, b, c, d⟩ => ⟨by first | exact a | exact Memory.wf_wrLE _ _ _ a | exact Memory.wf_wrBytes _ _ a, by first | exact b | exact Memory.wf_wrBytes _ _ b, by first | exact c | exact Memory.wf_wrLE _ _ _ c | exact Memory.wf_wrBytes _ _ c, d⟩))

theorem State.storePost_frame (s : State) (x0) (x1) (x2) {w : Nat} {s₀ : State} (h : Frame w s₀ s) (le : 108086391056908416 ||| w = w) :
    Frame w s₀ (State.storePost s x0 x1 x2).1 := by
  refine h.step ?_ le
  unfold State.storePost
  try dsimp -proj only
  repeat' (first
    | with_reducible exact Frame.refl _ _
    | with_reducible apply Frame.ite
    | (with_reducible apply State.checkSpill_frame (le := ?le); case le => decide)
    | (with_reducible apply State.inc_frame (le := ?le); case le => decide)
    | (with_reducible apply State.overflow_frame (le := ?le); case le => decide)
    | (with_reducible apply State.putSample_frame (le := ?le); case le => decide)
    | with_reducible apply Frame.fst_ite
    | with_reducible apply Frame.pair)

theorem State.postSample_frame (s : State) (x0) (x1) (x2) {w : Nat} {s₀ : State} (h : Frame w s₀ s) (le : 108121575428997248 ||| w = w) :
    Frame w s₀ (State.postSample s x0 x1 x2) := by
  refine h.step ?_ le
  unfold State.postSample
  try dsimp -proj only
  repeat' (first
    | with_reducible exact Frame.refl _ _
    | with_reducible apply Frame.ite
    | (with_reducible apply State.acqEndAt_frame (le := ?le); case le => decide)
    | (with_reducible apply State.setAState_frame (le := ?le); case le => decide)
    | (with_reducible apply State.setCap_frame (le := ?le); case le => decide)
    | (with_reducible apply State.showFifo_frame (le := ?le); case le => decide)
    | (with_reducible apply State.storePost_frame (le := ?le); case le => decide))

theorem State.preSample_frame (s : State) (x0) (x1) (x2) {w : Nat} {s₀ : State} (h : Frame w s₀ s) (le : 35184372105216 ||| w = w) :
    Frame w s₀ (State.preSample s x0 x1 x2) := by
  refine h.step ?_ le
  unfold State.preSample
  try dsimp -proj only
  repeat' (first
    | with_reducible exact Frame.refl _ _
    | with_reducible apply Frame.ite
    | (with_reducible apply State.putSample_frame (le := ?le); case le => decide)
    | (with_reducible apply State.setCap_frame (le := ?le); case le => decide))

theorem State.trigger_frame (s : State) (x0) (x1) (x2) (x3) (x4) {w : Nat} {s₀ : State} (h : Frame w s₀ s) (le : 35184372088960 ||| w = w) :
    Frame w s₀ (State.trigger s x0 x1 x2 x3 x4) := by
  refine h.step ?_ le
  unfold State.trigger
  try dsimp -proj only
  repeat' (first
    | with_reducible exact Frame.refl _ _
    | with_reducible apply Frame.ite
    | (with_reducible apply State.setAState_frame (le := ?le); case le => decide)
    | (with_reducible apply State.setCap_frame (le := ?le); case le => decide))

theorem State.acqSample_frame (s : State) (x0) (x1) {w : Nat} {s₀ : State} (h : Frame w s₀ s) (le : 108121575428997248 ||| w = w) :
    Frame w s₀ (State.acqSample s x0 x1) := by
  refine h.step ?_ le
  unfold State.acqSample
  try dsimp -proj only
  repeat' (first
    | with_reducible exact Frame.refl _ _
    | with_reducible apply Frame.ite
    | (with_reducible apply State.postSample_frame (le := ?le); case le => decide)
    | (with_reducible apply State.preSample_frame (le := ?le); case le => decide)
    | (with_reducible apply State.trigger_frame (le := ?le); case le => decide)
    | split)

theorem State.acqFeed_frame (s : State) (x0) (x1) (x2) {w : Nat} {s₀ : State} (h : Frame w s₀ s) (le : 108121575428997248 ||| w = w) :
    Frame w s₀ (State.acqFeed s x0 x1 x2) := by
  refine h.step ?_ le
  unfold State.acqFeed
  try dsimp -proj only
  repeat' (first
    | with_reducible exact Frame.refl _ _
    | with_reducible apply Frame.ite
    | with_reducible apply Frame.foldl
    | intro _ _
    | (with_reducible apply State.acqSample_frame (le := ?le); case le => decide))

theorem State.acqKill_frame (s : State) (x0) {w : Nat} {s₀ : State} (h : Frame w s₀ s) (le : 36063981391053952 ||| w = w) :
    Frame w s₀ (State.acqKill s x0) := by
  refine h.step ?_ le
  unfold State.acqKill
  try dsimp -proj only
  repeat' (first
    | with_reducible exact Frame.refl _ _
    | with_reducible apply Frame.ite
    | (with_reducible apply State.addSat_frame (le := ?le); case le => decide)
    | (with_reducible apply State.charge_frame (le := ?le); case le => decide)
    | (with_reducible apply State.modAcq_frame (le := ?le); case le => decide)
    | (with_reducible apply State.raise_frame (le := ?le); case le => decide)
    | (with_reducible apply State.setAState_frame (le := ?le); case le => decide)
    | (with_reducible apply State.setCap_frame (le := ?le); case le => decide)
    | (with_reducible apply State.setFld_frame (le := ?le); case le => decide)
    | split)

theorem State.acqKillNow_frame (s : State) (x0) {w : Nat} {s₀ : State} (h : Frame w s₀ s) (le : 36063981391053952 ||| w = w) :
    Frame w s₀ (State.acqKillNow s x0) := by
  refine h.step ?_ le
  unfold State.acqKillNow
  try dsimp -proj only
  repeat' (first
    | with_reducible exact Frame.refl _ _
    | (with_reducible apply State.acqKill_frame (le := ?le); case le => decide)
    | (with_reducible apply State.setBit_frame (le := ?le); case le => decide))

theorem State.acqPop_frame (s : State) (x0) (x1) {w : Nat} {s₀ : State} (h : Frame w s₀ s) (le : 35184372089856 ||| w = w) :
    Frame w s₀ (State.acqPop s x0 x1) := by
  refine h.step ?_ le
  unfold State.acqPop
  try dsimp -proj only
  repeat' (first
    | with_reducible exact Frame.refl _ _
    | (with_reducible apply State.modAcq_frame (le := ?le); case le => decide)
    | (with_reducible apply State.useTile_frame (le := ?le); case le => decide))

theorem State.acqSourceKill_frame (s : State) (x0) (x1) {w : Nat} {s₀ : State} (h : Frame w s₀ s) (le : 36063981391053952 ||| w = w) :
    Frame w s₀ (State.acqSourceKill s x0 x1) := by
  refine h.step ?_ le
  unfold State.acqSourceKill
  try dsimp -proj only
  repeat' (first
    | with_reducible exact Frame.refl _ _
    | with_reducible apply Frame.ite
    | with_reducible apply Frame.foldl
    | intro _ _
    | (with_reducible apply State.acqKill_frame (le := ?le); case le => decide))

theorem State.acqStale_frame (s : State) (x0) (x1) {w : Nat} {s₀ : State} (h : Frame w s₀ s) (le : 35184372088832 ||| w = w) :
    Frame w s₀ (State.acqStale s x0 x1) := by
  refine h.step ?_ le
  unfold State.acqStale
  try dsimp -proj only
  repeat' (first
    | with_reducible exact Frame.refl _ _
    | with_reducible apply Frame.ite
    | with_reducible apply Frame.foldl
    | intro _ _
    | (with_reducible apply State.modAcq_frame (le := ?le); case le => decide))

theorem State.addRennet_frame (s : State) (x0) {w : Nat} {s₀ : State} (h : Frame w s₀ s) (le : 17592186044416 ||| w = w) :
    Frame w s₀ (State.addRennet s x0) := by
  refine h.step ?_ le
  unfold State.addRennet
  try dsimp -proj only
  repeat' (first
    | with_reducible exact Frame.refl _ _
    | with_reducible apply Frame.ite
    | (with_reducible apply Frame.upd_mesh (le := ?le); case le => decide))

theorem State.armUnit_frame (s : State) (x0) (x1) (x2) (x3) {w : Nat} {s₀ : State} (h : Frame w s₀ s) (le : 36063981391052928 ||| w = w) :
    Frame w s₀ (State.armUnit s x0 x1 x2 x3) := by
  refine h.step ?_ le
  unfold State.armUnit
  try dsimp -proj only
  repeat' (first
    | with_reducible exact Frame.refl _ _
    | with_reducible apply Frame.ite
    | (with_reducible apply State.modAcq_frame (le := ?le); case le => decide)
    | (with_reducible apply State.raise_frame (le := ?le); case le => decide)
    | (with_reducible apply State.setAState_frame (le := ?le); case le => decide)
    | (with_reducible apply State.setFld_frame (le := ?le); case le => decide))

theorem State.armGroup_frame (s : State) (x0) (x1) (x2) (x3) {w : Nat} {s₀ : State} (h : Frame w s₀ s) (le : 36063981391052928 ||| w = w) :
    Frame w s₀ (State.armGroup s x0 x1 x2 x3) := by
  refine h.step ?_ le
  unfold State.armGroup
  try dsimp -proj only
  repeat' (first
    | with_reducible exact Frame.refl _ _
    | with_reducible apply Frame.ite
    | with_reducible apply Frame.foldl
    | intro _ _
    | (with_reducible apply State.armUnit_frame (le := ?le); case le => decide)
    | (with_reducible apply State.raise_frame (le := ?le); case le => decide))

theorem State.queueRennet_frame (s : State) (x0) (x1) (x2) {w : Nat} {s₀ : State} (h : Frame w s₀ s) (le : 36037593111986304 ||| w = w) :
    Frame w s₀ (State.queueRennet s x0 x1 x2) := by
  refine h.step ?_ le
  unfold State.queueRennet
  try dsimp -proj only
  repeat' (first
    | with_reducible exact Frame.refl _ _
    | with_reducible apply Frame.ite
    | (with_reducible apply State.inc_frame (le := ?le); case le => decide)
    | (with_reducible apply State.modPort_frame (le := ?le); case le => decide)
    | (with_reducible apply State.raise_frame (le := ?le); case le => decide))

theorem State.rennetRequest_frame (s : State) (x0) (x1) (x2) {w : Nat} {s₀ : State} (h : Frame w s₀ s) (le : 36055185298030720 ||| w = w) :
    Frame w s₀ (State.rennetRequest s x0 x1 x2) := by
  refine h.step ?_ le
  unfold State.rennetRequest
  try dsimp -proj only
  repeat' (first
    | with_reducible exact Frame.refl _ _
    | with_reducible apply Frame.ite
    | with_reducible apply Frame.foldl
    | intro _ _
    | (with_reducible apply State.addRennet_frame (le := ?le); case le => decide)
    | (with_reducible apply State.queueRennet_frame (le := ?le); case le => decide))

theorem State.arm_frame (s : State) (x0) (x1) (x2) (x3) {w : Nat} {s₀ : State} (h : Frame w s₀ s) (le : 108147963708048512 ||| w = w) :
    Frame w s₀ (State.arm s x0 x1 x2 x3) := by
  refine h.step ?_ le
  unfold State.arm
  try dsimp -proj only
  repeat' (first
    | with_reducible exact Frame.refl _ _
    | with_reducible apply Frame.ite
    | (with_reducible apply State.armGroup_frame (le := ?le); case le => decide)
    | (with_reducible apply State.charge_frame (le := ?le); case le => decide)
    | (with_reducible apply State.err_frame (le := ?le); case le => decide)
    | (with_reducible apply State.raise_frame (le := ?le); case le => decide)
    | (with_reducible apply State.rennetRequest_frame (le := ?le); case le => decide))

theorem State.armNow_frame (s : State) (x0) {w : Nat} {s₀ : State} (h : Frame w s₀ s) (le : 108147963708048512 ||| w = w) :
    Frame w s₀ (State.armNow s x0) := by
  refine h.step ?_ le
  unfold State.armNow
  try dsimp -proj only
  repeat' (first
    | with_reducible exact Frame.refl _ _
    | (with_reducible apply State.arm_frame (le := ?le); case le => decide))

theorem State.fireArmed_frame (s : State) (x0) (x1) {w : Nat} {s₀ : State} (h : Frame w s₀ s) (le : 36063981391052928 ||| w = w) :
    Frame w s₀ (State.fireArmed s x0 x1) := by
  refine h.step ?_ le
  unfold State.fireArmed
  try dsimp -proj only
  repeat' (first
    | with_reducible exact Frame.refl _ _
    | with_reducible apply Frame.ite
    | (with_reducible apply State.modAcq_frame (le := ?le); case le => decide)
    | (with_reducible apply State.raise_frame (le := ?le); case le => decide))

theorem State.fireNow_frame (s : State) (x0) {w : Nat} {s₀ : State} (h : Frame w s₀ s) (le : 36063981391052928 ||| w = w) :
    Frame w s₀ (State.fireNow s x0) := by
  refine h.step ?_ le
  unfold State.fireNow
  try dsimp -proj only
  repeat' (first
    | with_reducible exact Frame.refl _ _
    | (with_reducible apply State.fireArmed_frame (le := ?le); case le => decide))

theorem State.groupFire_frame (s : State) (x0) (x1) {w : Nat} {s₀ : State} (h : Frame w s₀ s) (le : 36063981391052928 ||| w = w) :
    Frame w s₀ (State.groupFire s x0 x1) := by
  refine h.step ?_ le
  unfold State.groupFire
  try dsimp -proj only
  repeat' (first
    | with_reducible exact Frame.refl _ _
    | with_reducible apply Frame.ite
    | (with_reducible apply State.raise_frame (le := ?le); case le => decide)
    | (with_reducible apply State.setCap_frame (le := ?le); case le => decide)
    | (with_reducible apply State.trigger_frame (le := ?le); case le => decide)
    | split)

theorem State.ntNote_frame (s : State) {w : Nat} {s₀ : State} (h : Frame w s₀ s) (le : 140737488355328 ||| w = w) :
    Frame w s₀ (State.ntNote s) := by
  refine h.step ?_ le
  unfold State.ntNote
  try dsimp -proj only
  repeat' (first
    | with_reducible exact Frame.refl _ _
    | with_reducible apply Frame.ite
    | split
    | (with_reducible apply Frame.upd_nt (le := ?le); case le => decide))

theorem State.rennetArm_frame (s : State) (x0) (x1) {w : Nat} {s₀ : State} (h : Frame w s₀ s) (le : 108121575428980864 ||| w = w) :
    Frame w s₀ (State.rennetArm s x0 x1) := by
  refine h.step ?_ le
  unfold State.rennetArm
  try dsimp -proj only
  repeat' (first
    | with_reducible exact Frame.refl _ _
    | with_reducible apply Frame.ite
    | with_reducible apply Frame.foldl
    | intro _ _
    | (with_reducible apply State.armUnit_frame (le := ?le); case le => decide)
    | (with_reducible apply State.err_frame (le := ?le); case le => decide)
    | (with_reducible apply State.raise_frame (le := ?le); case le => decide))

theorem execAcqArm_frame (x0) (s : State) :
    OutFrame 108147964380578944 s (execAcqArm x0 s) := by
  unfold execAcqArm
  try dsimp -proj only
  repeat' (first
    | (with_reducible apply OutFrame.finish (le := ?le); case le => decide)
    | with_reducible exact OutFrame.same
    | with_reducible apply OutFrame.next
    | with_reducible exact Frame.refl _ _
    | (with_reducible apply State.acqPop_frame (le := ?le); case le => decide)
    | (with_reducible apply State.arm_frame (le := ?le); case le => decide)
    | split)

theorem execAcqFire_frame (x0) (s : State) :
    OutFrame 108121576101512320 s (execAcqFire x0 s) := by
  unfold execAcqFire
  try dsimp -proj only
  repeat' (first
    | (with_reducible apply OutFrame.finish (le := ?le); case le => decide)
    | with_reducible exact OutFrame.same
    | with_reducible apply OutFrame.next
    | with_reducible exact Frame.refl _ _
    | (with_reducible apply State.acqPop_frame (le := ?le); case le => decide)
    | (with_reducible apply State.fireArmed_frame (le := ?le); case le => decide)
    | split)

theorem execAcqStop_frame (x0) (s : State) :
    OutFrame 108121576101512320 s (execAcqStop x0 s) := by
  unfold execAcqStop
  try dsimp -proj only
  repeat' (first
    | (with_reducible apply OutFrame.finish (le := ?le); case le => decide)
    | with_reducible exact OutFrame.same
    | with_reducible apply OutFrame.next
    | with_reducible exact Frame.refl _ _
    | (with_reducible apply State.acqPop_frame (le := ?le); case le => decide)
    | (with_reducible apply State.acqStop_frame (le := ?le); case le => decide)
    | split)

theorem execAcqTrigger_frame (x0) (s : State) :
    OutFrame 108147964380577920 s (execAcqTrigger x0 s) := by
  unfold execAcqTrigger
  try dsimp -proj only
  repeat' (first
    | (with_reducible apply OutFrame.finish (le := ?le); case le => decide)
    | with_reducible exact OutFrame.same
    | with_reducible apply OutFrame.next
    | with_reducible exact Frame.refl _ _
    | with_reducible apply Frame.foldl
    | intro _ _
    | (with_reducible apply State.groupFire_frame (le := ?le); case le => decide)
    | (with_reducible apply State.modAcq_frame (le := ?le); case le => decide)
    | (with_reducible apply State.raise_frame (le := ?le); case le => decide)
    | (with_reducible apply State.rennetRequest_frame (le := ?le); case le => decide)
    | split)

theorem execCaptureComplete_frame (x0) (x1) (x2) (s : State) :
    OutFrame 108121576125202560 s (execCaptureComplete x0 x1 x2 s) := by
  unfold execCaptureComplete
  try dsimp -proj only
  repeat' (first
    | (with_reducible apply OutFrame.finish (le := ?le); case le => decide)
    | with_reducible exact OutFrame.same
    | with_reducible apply OutFrame.next
    | with_reducible apply OutFrame.ite
    | with_reducible exact Frame.refl _ _
    | with_reducible apply Frame.ite
    | (with_reducible apply State.acqRingFault_frame (le := ?le); case le => decide)
    | (with_reducible apply State.err_frame (le := ?le); case le => decide)
    | (with_reducible apply State.modAcq_frame (le := ?le); case le => decide)
    | (with_reducible apply State.raise_frame (le := ?le); case le => decide)
    | (with_reducible apply State.ringPush_frame (le := ?le); case le => decide)
    | (with_reducible apply State.setAState_frame (le := ?le); case le => decide)
    | (with_reducible apply State.setBit_frame (le := ?le); case le => decide)
    | split)

theorem execRennetAction_frame (x0) (x1) (s : State) :
    OutFrame 108139168287555712 s (execRennetAction x0 x1 s) := by
  unfold execRennetAction
  try dsimp -proj only
  repeat' (first
    | (with_reducible apply OutFrame.finish (le := ?le); case le => decide)
    | with_reducible exact OutFrame.same
    | with_reducible apply OutFrame.next
    | with_reducible apply OutFrame.ite
    | with_reducible exact Frame.refl _ _
    | with_reducible apply Frame.ite
    | with_reducible apply Frame.foldl
    | intro _ _
    | (with_reducible apply State.fireArmed_frame (le := ?le); case le => decide)
    | (with_reducible apply State.rennetArm_frame (le := ?le); case le => decide)
    | split
    | (with_reducible apply Frame.upd_mesh (le := ?le); case le => decide))

theorem execSpillDrain_frame (x0) (s : State) :
    OutFrame 108121576125202560 s (execSpillDrain x0 s) := by
  unfold execSpillDrain
  try dsimp -proj only
  repeat' (first
    | (with_reducible apply OutFrame.finish (le := ?le); case le => decide)
    | with_reducible exact OutFrame.same
    | with_reducible apply OutFrame.next
    | with_reducible apply OutFrame.ite
    | with_reducible exact Frame.refl _ _
    | with_reducible apply Frame.ite
    | (with_reducible apply State.chargeRes_frame (le := ?le) (e := by assumption); case le => decide)
    | (with_reducible apply State.checkSpill_frame (le := ?le); case le => decide)
    | (with_reducible apply State.ringAppend_frame (le := ?le); case le => decide)
    | (with_reducible apply State.setCap_frame (le := ?le); case le => decide)
    | (with_reducible apply State.showFifo_frame (le := ?le); case le => decide)
    | (with_reducible apply State.touchRing_frame (le := ?le); case le => decide)
    | split)

end Sys2Proof.Machine
end

