-- ==== Sys2Proof/Laws/FramesTone.lean ====
section
/-!
SUPPORT. The field frames of the operations of Machine/Tone.lean: the fields of the state that each may change.
-/
namespace Sys2Proof.Machine

theorem State.modPlay_frame (s : State) (x0) (x1) (x2) {w : Nat} {s₀ : State} (h : Frame w s₀ s) (le : 2147483648 ||| w = w) :
    Frame w s₀ (State.modPlay s x0 x1 x2) := by
  refine h.step ?_ le
  unfold State.modPlay
  try dsimp -proj only
  repeat' (first
    | with_reducible exact Frame.refl _ _
    | with_reducible apply Frame.ite
    | (with_reducible apply State.modTone_frame (le := ?le); case le => decide))

theorem State.toneGranule_frame (s : State) (x0) (x1) (x2) (x3) {w : Nat} {s₀ : State} (h : Frame w s₀ s) (le : 2147483648 ||| w = w) :
    Frame w s₀ (State.toneGranule s x0 x1 x2 x3) := by
  refine h.step ?_ le
  unfold State.toneGranule
  try dsimp -proj only
  repeat' (first
    | with_reducible exact Frame.refl _ _
    | (with_reducible apply State.modPlay_frame (le := ?le); case le => decide)
    | (with_reducible apply State.modTone_frame (le := ?le); case le => decide))

theorem State.toneQuiet_frame (s : State) (x0) (x1) (x2) {w : Nat} {s₀ : State} (h : Frame w s₀ s) (le : 2147483648 ||| w = w) :
    Frame w s₀ (State.toneQuiet s x0 x1 x2) := by
  refine h.step ?_ le
  unfold State.toneQuiet
  try dsimp -proj only
  repeat' (first
    | with_reducible exact Frame.refl _ _
    | (with_reducible apply State.modPlay_frame (le := ?le); case le => decide)
    | (with_reducible apply State.modTone_frame (le := ?le); case le => decide))

theorem State.toneUnderrun_frame (s : State) (x0) (x1) {w : Nat} {s₀ : State} (h : Frame w s₀ s) (le : 36028797018965120 ||| w = w) :
    Frame w s₀ (State.toneUnderrun s x0 x1) := by
  refine h.step ?_ le
  unfold State.toneUnderrun
  try dsimp -proj only
  repeat' (first
    | with_reducible exact Frame.refl _ _
    | (with_reducible apply State.charge_frame (le := ?le); case le => decide)
    | (with_reducible apply State.inc_frame (le := ?le); case le => decide)
    | (with_reducible apply State.raise_frame (le := ?le); case le => decide)
    | (with_reducible apply State.setBit_frame (le := ?le); case le => decide))

theorem State.checkResident_frame (s : State) (x0) (x1) (x2) (x3) {w : Nat} {s₀ : State} (h : Frame w s₀ s) (le : 108086393225380992 ||| w = w) :
    Frame w s₀ (State.checkResident s x0 x1 x2 x3) := by
  refine h.step ?_ le
  unfold State.checkResident
  try dsimp -proj only
  repeat' (first
    | with_reducible exact Frame.refl _ _
    | with_reducible apply Frame.ite
    | (with_reducible apply State.err_frame (le := ?le); case le => decide)
    | (with_reducible apply State.modTone_frame (le := ?le); case le => decide)
    | (with_reducible apply State.raise_frame (le := ?le); case le => decide)
    | (with_reducible apply State.refetch_frame (le := ?le); case le => decide)
    | (with_reducible apply State.toneGranule_frame (le := ?le); case le => decide)
    | (with_reducible apply State.toneQuiet_frame (le := ?le); case le => decide)
    | (with_reducible apply State.toneUnderrun_frame (le := ?le); case le => decide)
    | split)

theorem State.strmFault_frame (s : State) (x0) {w : Nat} {s₀ : State} (h : Frame w s₀ s) (le : 108086391056892032 ||| w = w) :
    Frame w s₀ (State.strmFault s x0) := by
  refine h.step ?_ le
  unfold State.strmFault
  try dsimp -proj only
  repeat' (first
    | with_reducible exact Frame.refl _ _
    | (with_reducible apply State.err_frame (le := ?le); case le => decide)
    | (with_reducible apply State.raise_frame (le := ?le); case le => decide))

theorem State.checkStream_frame (s : State) (x0) (x1) (x2) (x3) {w : Nat} {s₀ : State} (h : Frame w s₀ s) (le : 108086393204376704 ||| w = w) :
    Frame w s₀ (State.checkStream s x0 x1 x2 x3) := by
  refine h.step ?_ le
  unfold State.checkStream
  try dsimp -proj only
  repeat' (first
    | with_reducible exact Frame.refl _ _
    | with_reducible apply Frame.ite
    | (with_reducible apply State.err_frame (le := ?le); case le => decide)
    | (with_reducible apply State.modTone_frame (le := ?le); case le => decide)
    | (with_reducible apply State.raise_frame (le := ?le); case le => decide)
    | (with_reducible apply State.setFld_frame (le := ?le); case le => decide)
    | (with_reducible apply State.strmFault_frame (le := ?le); case le => decide)
    | (with_reducible apply State.toneGranule_frame (le := ?le); case le => decide)
    | (with_reducible apply State.toneQuiet_frame (le := ?le); case le => decide)
    | (with_reducible apply State.toneUnderrun_frame (le := ?le); case le => decide)
    | split)

theorem State.dropStream_frame (s : State) (x0) (x1) (x2) {w : Nat} {s₀ : State} (h : Frame w s₀ s) (le : 2147483776 ||| w = w) :
    Frame w s₀ (State.dropStream s x0 x1 x2) := by
  refine h.step ?_ le
  unfold State.dropStream
  try dsimp -proj only
  repeat' (first
    | with_reducible exact Frame.refl _ _
    | with_reducible apply Frame.ite
    | (with_reducible apply State.modTone_frame (le := ?le); case le => decide)
    | (with_reducible apply State.setFld_frame (le := ?le); case le => decide))

theorem State.dropCont_frame (s : State) (x0) (x1) {w : Nat} {s₀ : State} (h : Frame w s₀ s) (le : 2147483776 ||| w = w) :
    Frame w s₀ (State.dropCont s x0 x1) := by
  refine h.step ?_ le
  unfold State.dropCont
  try dsimp -proj only
  repeat' (first
    | with_reducible exact Frame.refl _ _
    | (with_reducible apply State.dropStream_frame (le := ?le); case le => decide)
    | (with_reducible apply State.modTone_frame (le := ?le); case le => decide)
    | split)

theorem State.notePanic_frame (s : State) (x0) {w : Nat} {s₀ : State} (h : Frame w s₀ s) (le : 36028797018964096 ||| w = w) :
    Frame w s₀ (State.notePanic s x0) := by
  refine h.step ?_ le
  unfold State.notePanic
  try dsimp -proj only
  repeat' (first
    | with_reducible exact Frame.refl _ _
    | with_reducible apply Frame.ite
    | (with_reducible apply State.raise_frame (le := ?le); case le => decide))

theorem State.showTone_frame (s : State) (x0) {w : Nat} {s₀ : State} (h : Frame w s₀ s) (le : 128 ||| w = w) :
    Frame w s₀ (State.showTone s x0) := by
  refine h.step ?_ le
  unfold State.showTone
  try dsimp -proj only
  repeat' (first
    | with_reducible exact Frame.refl _ _
    | (with_reducible apply State.setFld_frame (le := ?le); case le => decide)
    | split)

theorem State.toneTakeRecords_frame (s : State) (x0) (x1) {w : Nat} {s₀ : State} (h : Frame w s₀ s) (le : 2147483776 ||| w = w) :
    Frame w s₀ (State.toneTakeRecords s x0 x1) := by
  refine h.step ?_ le
  unfold State.toneTakeRecords
  try dsimp -proj only
  repeat' (first
    | with_reducible exact Frame.refl _ _
    | (with_reducible apply State.modTone_frame (le := ?le); case le => decide)
    | (with_reducible apply State.setFld_frame (le := ?le); case le => decide))

theorem State.streamIn_frame (s : State) (x0) (x1) (x2) (x3) {w : Nat} {s₀ : State} (h : Frame w s₀ s) (le : 36028799166513280 ||| w = w) :
    Frame w s₀ (State.streamIn s x0 x1 x2 x3) := by
  refine h.step ?_ le
  unfold State.streamIn
  try dsimp -proj only
  repeat' (first
    | with_reducible exact Frame.refl _ _
    | (with_reducible apply State.modRing_frame (le := ?le); case le => decide)
    | (with_reducible apply State.notePanic_frame (le := ?le); case le => decide)
    | (with_reducible apply State.toneTakeRecords_frame (le := ?le); case le => decide))

theorem State.toneCut_frame (s : State) (x0) (x1) {w : Nat} {s₀ : State} (h : Frame w s₀ s) (le : 2147483776 ||| w = w) :
    Frame w s₀ (State.toneCut s x0 x1) := by
  refine h.step ?_ le
  unfold State.toneCut
  try dsimp -proj only
  repeat' (first
    | with_reducible exact Frame.refl _ _
    | (with_reducible apply State.dropCont_frame (le := ?le); case le => decide)
    | (with_reducible apply State.dropStream_frame (le := ?le); case le => decide)
    | (with_reducible apply State.inc_frame (le := ?le); case le => decide)
    | (with_reducible apply State.modTone_frame (le := ?le); case le => decide)
    | split)

theorem State.toneEntryFault_frame (s : State) (x0) (x1) (x2) {w : Nat} {s₀ : State} (h : Frame w s₀ s) (le : 108086391056893056 ||| w = w) :
    Frame w s₀ (State.toneEntryFault s x0 x1 x2) := by
  refine h.step ?_ le
  unfold State.toneEntryFault
  try dsimp -proj only
  repeat' (first
    | with_reducible exact Frame.refl _ _
    | (with_reducible apply State.charge_frame (le := ?le); case le => decide)
    | (with_reducible apply State.err_frame (le := ?le); case le => decide)
    | (with_reducible apply State.raise_frame (le := ?le); case le => decide))

theorem State.toneEntryParity_frame (s : State) (x0) (x1) (x2) {w : Nat} {s₀ : State} (h : Frame w s₀ s) (le : 108086391077896320 ||| w = w) :
    Frame w s₀ (State.toneEntryParity s x0 x1 x2) := by
  refine h.step ?_ le
  unfold State.toneEntryParity
  try dsimp -proj only
  repeat' (first
    | with_reducible exact Frame.refl _ _
    | with_reducible apply Frame.ite
    | (with_reducible apply State.err_frame (le := ?le); case le => decide)
    | (with_reducible apply State.raise_frame (le := ?le); case le => decide)
    | (with_reducible apply State.refetch_frame (le := ?le); case le => decide))

theorem State.toneBegin_frame (s : State) (x0) (x1) (x2) (x3) (x4) (x5) {w : Nat} {s₀ : State} (h : Frame w s₀ s) (le : 108086393225380992 ||| w = w) :
    Frame w s₀ (State.toneBegin s x0 x1 x2 x3 x4 x5) := by
  refine h.step ?_ le
  unfold State.toneBegin
  try dsimp -proj only
  repeat' (first
    | with_reducible exact Frame.refl _ _
    | with_reducible apply Frame.ite
    | (with_reducible apply State.modTone_frame (le := ?le); case le => decide)
    | (with_reducible apply State.showTone_frame (le := ?le); case le => decide)
    | (with_reducible apply State.toneCut_frame (le := ?le); case le => decide)
    | (with_reducible apply State.toneEntryFault_frame (le := ?le); case le => decide)
    | (with_reducible apply State.toneEntryParity_frame (le := ?le); case le => decide))

theorem State.toneDecide_frame (s : State) (x0) (x1) {w : Nat} {s₀ : State} (h : Frame w s₀ s) (le : 108086393225380992 ||| w = w) :
    Frame w s₀ (State.toneDecide s x0 x1) := by
  refine h.step ?_ le
  unfold State.toneDecide
  try dsimp -proj only
  repeat' (first
    | with_reducible exact Frame.refl _ _
    | with_reducible apply Frame.ite
    | (with_reducible apply State.modTone_frame (le := ?le); case le => decide)
    | (with_reducible apply State.toneEntryFault_frame (le := ?le); case le => decide)
    | (with_reducible apply State.toneEntryParity_frame (le := ?le); case le => decide)
    | split)

theorem State.toneBoundary_frame (s : State) (x0) {w : Nat} {s₀ : State} (h : Frame w s₀ s) (le : 108086393225380992 ||| w = w) :
    Frame w s₀ (State.toneBoundary s x0) := by
  refine h.step ?_ le
  unfold State.toneBoundary
  try dsimp -proj only
  repeat' (first
    | with_reducible exact Frame.refl _ _
    | with_reducible apply Frame.ite
    | (with_reducible apply State.modTone_frame (le := ?le); case le => decide)
    | (with_reducible apply State.raise_frame (le := ?le); case le => decide)
    | (with_reducible apply State.showTone_frame (le := ?le); case le => decide)
    | (with_reducible apply State.toneDecide_frame (le := ?le); case le => decide)
    | split)

theorem State.toneCatchUp_frame (s : State) (x0) (x1) {w : Nat} {s₀ : State} (h : Frame w s₀ s) (le : 108086393225380992 ||| w = w) :
    Frame w s₀ (State.toneCatchUp s x0 x1) := by
  refine h.step ?_ le
  unfold State.toneCatchUp
  try dsimp -proj only
  repeat' (first
    | with_reducible exact Frame.refl _ _
    | with_reducible apply Frame.ite
    | (with_reducible apply State.toneBoundary_frame (le := ?le); case le => decide)
    | split)

theorem State.toneCheck_frame (s : State) (x0) (x1) (x2) (x3) {w : Nat} {s₀ : State} (h : Frame w s₀ s) (le : 108086393225380992 ||| w = w) :
    Frame w s₀ (State.toneCheck s x0 x1 x2 x3) := by
  refine h.step ?_ le
  unfold State.toneCheck
  try dsimp -proj only
  repeat' (first
    | with_reducible exact Frame.refl _ _
    | with_reducible apply Frame.ite
    | (with_reducible apply State.checkResident_frame (le := ?le); case le => decide)
    | (with_reducible apply State.checkStream_frame (le := ?le); case le => decide)
    | (with_reducible apply State.modPlay_frame (le := ?le); case le => decide)
    | (with_reducible apply State.notePanic_frame (le := ?le); case le => decide)
    | (with_reducible apply State.showTone_frame (le := ?le); case le => decide)
    | (with_reducible apply State.toneQuiet_frame (le := ?le); case le => decide))

theorem State.toneEnd_frame (s : State) (x0) (x1) {w : Nat} {s₀ : State} (h : Frame w s₀ s) (le : 2147483776 ||| w = w) :
    Frame w s₀ (State.toneEnd s x0 x1) := by
  refine h.step ?_ le
  unfold State.toneEnd
  try dsimp -proj only
  repeat' (first
    | with_reducible exact Frame.refl _ _
    | with_reducible apply Frame.ite
    | (with_reducible apply State.dropCont_frame (le := ?le); case le => decide)
    | (with_reducible apply State.modTone_frame (le := ?le); case le => decide)
    | (with_reducible apply State.showTone_frame (le := ?le); case le => decide)
    | split)

theorem State.toneDisable_frame (s : State) (x0) {w : Nat} {s₀ : State} (h : Frame w s₀ s) (le : 2147483776 ||| w = w) :
    Frame w s₀ (State.toneDisable s x0) := by
  refine h.step ?_ le
  unfold State.toneDisable
  try dsimp -proj only
  repeat' (first
    | with_reducible exact Frame.refl _ _
    | with_reducible apply Frame.ite
    | (with_reducible apply State.modTone_frame (le := ?le); case le => decide)
    | (with_reducible apply State.setEnable_frame (le := ?le); case le => decide)
    | (with_reducible apply State.toneEnd_frame (le := ?le); case le => decide))

theorem State.toneKill_frame (s : State) (x0) (x1) {w : Nat} {s₀ : State} (h : Frame w s₀ s) (le : 108086393225380992 ||| w = w) :
    Frame w s₀ (State.toneKill s x0 x1) := by
  refine h.step ?_ le
  unfold State.toneKill
  try dsimp -proj only
  repeat' (first
    | with_reducible exact Frame.refl _ _
    | with_reducible apply Frame.ite
    | with_reducible apply Frame.foldl
    | intro _ _
    | (with_reducible apply State.addSat_frame (le := ?le); case le => decide)
    | (with_reducible apply State.charge_frame (le := ?le); case le => decide)
    | (with_reducible apply State.dropCont_frame (le := ?le); case le => decide)
    | (with_reducible apply State.dropStream_frame (le := ?le); case le => decide)
    | (with_reducible apply State.modTone_frame (le := ?le); case le => decide)
    | (with_reducible apply State.raise_frame (le := ?le); case le => decide)
    | (with_reducible apply State.showTone_frame (le := ?le); case le => decide)
    | (with_reducible apply State.toneCatchUp_frame (le := ?le); case le => decide)
    | split)

theorem State.toneDisableNow_frame (s : State) (x0) {w : Nat} {s₀ : State} (h : Frame w s₀ s) (le : 108086393225380992 ||| w = w) :
    Frame w s₀ (State.toneDisableNow s x0) := by
  refine h.step ?_ le
  unfold State.toneDisableNow
  try dsimp -proj only
  repeat' (first
    | with_reducible exact Frame.refl _ _
    | (with_reducible apply State.setEnable_frame (le := ?le); case le => decide)
    | (with_reducible apply State.toneKill_frame (le := ?le); case le => decide))

theorem State.toneDrop_frame (s : State) (x0) (x1) {w : Nat} {s₀ : State} (h : Frame w s₀ s) (le : 36028797018965120 ||| w = w) :
    Frame w s₀ (State.toneDrop s x0 x1) := by
  refine h.step ?_ le
  unfold State.toneDrop
  try dsimp -proj only
  repeat' (first
    | with_reducible exact Frame.refl _ _
    | (with_reducible apply State.charge_frame (le := ?le); case le => decide)
    | (with_reducible apply State.inc_frame (le := ?le); case le => decide)
    | (with_reducible apply State.raise_frame (le := ?le); case le => decide))

theorem State.toneEnable_frame (s : State) (x0) {w : Nat} {s₀ : State} (h : Frame w s₀ s) (le : 2147483776 ||| w = w) :
    Frame w s₀ (State.toneEnable s x0) := by
  refine h.step ?_ le
  unfold State.toneEnable
  try dsimp -proj only
  repeat' (first
    | with_reducible exact Frame.refl _ _
    | with_reducible apply Frame.ite
    | (with_reducible apply State.modTone_frame (le := ?le); case le => decide)
    | (with_reducible apply State.setEnable_frame (le := ?le); case le => decide))

theorem State.toneJump_frame (s : State) (x0) (x1) (x2) {w : Nat} {s₀ : State} (h : Frame w s₀ s) (le : 36028799166448768 ||| w = w) :
    Frame w s₀ (State.toneJump s x0 x1 x2) := by
  refine h.step ?_ le
  unfold State.toneJump
  try dsimp -proj only
  repeat' (first
    | with_reducible exact Frame.refl _ _
    | with_reducible apply Frame.ite
    | (with_reducible apply State.charge_frame (le := ?le); case le => decide)
    | (with_reducible apply State.inc_frame (le := ?le); case le => decide)
    | (with_reducible apply State.modTone_frame (le := ?le); case le => decide)
    | (with_reducible apply State.raise_frame (le := ?le); case le => decide))

theorem State.tonePop_frame (s : State) (x0) (x1) {w : Nat} {s₀ : State} (h : Frame w s₀ s) (le : 2147484672 ||| w = w) :
    Frame w s₀ (State.tonePop s x0 x1) := by
  refine h.step ?_ le
  unfold State.tonePop
  try dsimp -proj only
  repeat' (first
    | with_reducible exact Frame.refl _ _
    | (with_reducible apply State.chargeHeld_frame (le := ?le); case le => decide)
    | (with_reducible apply State.modTone_frame (le := ?le); case le => decide)
    | (with_reducible apply State.useTile_frame (le := ?le); case le => decide))

theorem State.toneStart_frame (s : State) (x0) (x1) (x2) (x3) {w : Nat} {s₀ : State} (h : Frame w s₀ s) (le : 108086393225380992 ||| w = w) :
    Frame w s₀ (State.toneStart s x0 x1 x2 x3) := by
  refine h.step ?_ le
  unfold State.toneStart
  try dsimp -proj only
  repeat' (first
    | with_reducible exact Frame.refl _ _
    | with_reducible apply Frame.ite
    | (with_reducible apply State.toneBegin_frame (le := ?le); case le => decide)
    | (with_reducible apply State.toneCatchUp_frame (le := ?le); case le => decide)
    | (with_reducible apply State.toneDrop_frame (le := ?le); case le => decide))

theorem State.toneWritten_frame (s : State) (x0) (x1) (x2) {w : Nat} {s₀ : State} (h : Frame w s₀ s) (le : 36028799166447744 ||| w = w) :
    Frame w s₀ (State.toneWritten s x0 x1 x2) := by
  refine h.step ?_ le
  unfold State.toneWritten
  try dsimp -proj only
  repeat' (first
    | with_reducible exact Frame.refl _ _
    | with_reducible apply Frame.ite
    | (with_reducible apply State.modTone_frame (le := ?le); case le => decide)
    | (with_reducible apply State.notePanic_frame (le := ?le); case le => decide)
    | (with_reducible apply State.setFld_frame (le := ?le); case le => decide)
    | (with_reducible apply State.setReg_frame (le := ?le); case le => decide)
    | split)

theorem execToneDecisionPoint_frame (x0) (x1) (s : State) :
    OutFrame 108086393897911424 s (execToneDecisionPoint x0 x1 s) := by
  unfold execToneDecisionPoint
  try dsimp -proj only
  repeat' (first
    | (with_reducible apply OutFrame.finish (le := ?le); case le => decide)
    | with_reducible exact OutFrame.same
    | with_reducible apply OutFrame.next
    | with_reducible apply OutFrame.ite
    | with_reducible exact Frame.refl _ _
    | with_reducible apply Frame.ite
    | (with_reducible apply State.showTone_frame (le := ?le); case le => decide)
    | (with_reducible apply State.toneDecide_frame (le := ?le); case le => decide)
    | split)

theorem execToneFdelay_frame (x0) (s : State) :
    OutFrame 108086393876907136 s (execToneFdelay x0 s) := by
  unfold execToneFdelay
  try dsimp -proj only
  repeat' (first
    | (with_reducible apply OutFrame.finish (le := ?le); case le => decide)
    | with_reducible exact OutFrame.same
    | with_reducible apply OutFrame.next
    | with_reducible exact Frame.refl _ _
    | (with_reducible apply State.modTone_frame (le := ?le); case le => decide)
    | (with_reducible apply State.setFld_frame (le := ?le); case le => decide)
    | (with_reducible apply State.tonePop_frame (le := ?le); case le => decide)
    | split)

theorem execToneFrame_frame (x0) (s : State) :
    OutFrame 108086393876907136 s (execToneFrame x0 s) := by
  unfold execToneFrame
  try dsimp -proj only
  repeat' (first
    | (with_reducible apply OutFrame.finish (le := ?le); case le => decide)
    | with_reducible exact OutFrame.same
    | with_reducible apply OutFrame.next
    | with_reducible exact Frame.refl _ _
    | (with_reducible apply State.modTone_frame (le := ?le); case le => decide)
    | (with_reducible apply State.setFld_frame (le := ?le); case le => decide)
    | (with_reducible apply State.tonePop_frame (le := ?le); case le => decide)
    | split)

theorem execToneGranuleCheck_frame (x0) (x1) (s : State) :
    OutFrame 108086393897911424 s (execToneGranuleCheck x0 x1 s) := by
  unfold execToneGranuleCheck
  try dsimp -proj only
  repeat' (first
    | (with_reducible apply OutFrame.finish (le := ?le); case le => decide)
    | with_reducible exact OutFrame.same
    | with_reducible apply OutFrame.next
    | with_reducible apply OutFrame.ite
    | with_reducible exact Frame.refl _ _
    | with_reducible apply Frame.ite
    | (with_reducible apply State.toneCheck_frame (le := ?le); case le => decide)
    | split)

theorem execToneJump_frame (x0) (x1) (s : State) :
    OutFrame 108086393897911424 s (execToneJump x0 x1 s) := by
  unfold execToneJump
  try dsimp -proj only
  repeat' (first
    | (with_reducible apply OutFrame.finish (le := ?le); case le => decide)
    | with_reducible exact OutFrame.same
    | with_reducible apply OutFrame.next
    | with_reducible apply OutFrame.ite
    | with_reducible exact Frame.refl _ _
    | with_reducible apply Frame.ite
    | (with_reducible apply State.toneBegin_frame (le := ?le); case le => decide)
    | (with_reducible apply State.toneCatchUp_frame (le := ?le); case le => decide)
    | (with_reducible apply State.toneDrop_frame (le := ?le); case le => decide)
    | (with_reducible apply State.toneJump_frame (le := ?le); case le => decide)
    | (with_reducible apply State.tonePop_frame (le := ?le); case le => decide)
    | split)

theorem execToneKill_frame (x0) (s : State) :
    OutFrame 108086393897911424 s (execToneKill x0 s) := by
  unfold execToneKill
  try dsimp -proj only
  repeat' (first
    | (with_reducible apply OutFrame.finish (le := ?le); case le => decide)
    | with_reducible exact OutFrame.same
    | with_reducible apply OutFrame.next
    | with_reducible exact Frame.refl _ _
    | (with_reducible apply State.toneKill_frame (le := ?le); case le => decide)
    | (with_reducible apply State.tonePop_frame (le := ?le); case le => decide)
    | split)

theorem execTonePhase_frame (x0) (s : State) :
    OutFrame 108086393876907136 s (execTonePhase x0 s) := by
  unfold execTonePhase
  try dsimp -proj only
  repeat' (first
    | (with_reducible apply OutFrame.finish (le := ?le); case le => decide)
    | with_reducible exact OutFrame.same
    | with_reducible apply OutFrame.next
    | with_reducible exact Frame.refl _ _
    | (with_reducible apply State.modTone_frame (le := ?le); case le => decide)
    | (with_reducible apply State.setFld_frame (le := ?le); case le => decide)
    | (with_reducible apply State.tonePop_frame (le := ?le); case le => decide)
    | split)

theorem execTonePlayBoundary_frame (x0) (s : State) :
    OutFrame 108086393897911424 s (execTonePlayBoundary x0 s) := by
  unfold execTonePlayBoundary
  try dsimp -proj only
  repeat' (first
    | (with_reducible apply OutFrame.finish (le := ?le); case le => decide)
    | with_reducible exact OutFrame.same
    | with_reducible apply OutFrame.next
    | with_reducible apply OutFrame.ite
    | with_reducible exact Frame.refl _ _
    | with_reducible apply Frame.ite
    | (with_reducible apply State.toneBoundary_frame (le := ?le); case le => decide)
    | split)

theorem execToneRefetchComplete_frame (x0) (s : State) :
    OutFrame 108086393876906112 s (execToneRefetchComplete x0 s) := by
  unfold execToneRefetchComplete
  try dsimp -proj only
  repeat' (first
    | (with_reducible apply OutFrame.finish (le := ?le); case le => decide)
    | with_reducible exact OutFrame.same
    | with_reducible apply OutFrame.next
    | with_reducible apply OutFrame.ite
    | with_reducible exact Frame.refl _ _
    | with_reducible apply Frame.ite
    | (with_reducible apply State.modTone_frame (le := ?le); case le => decide))

theorem execToneStart_frame (x0) (x1) (s : State) :
    OutFrame 108086393897911424 s (execToneStart x0 x1 s) := by
  unfold execToneStart
  try dsimp -proj only
  repeat' (first
    | (with_reducible apply OutFrame.finish (le := ?le); case le => decide)
    | with_reducible exact OutFrame.same
    | with_reducible apply OutFrame.next
    | with_reducible exact Frame.refl _ _
    | (with_reducible apply State.tonePop_frame (le := ?le); case le => decide)
    | (with_reducible apply State.toneStart_frame (le := ?le); case le => decide)
    | split)

theorem execToneStop_frame (x0) (s : State) :
    OutFrame 108086393897911424 s (execToneStop x0 s) := by
  unfold execToneStop
  try dsimp -proj only
  repeat' (first
    | (with_reducible apply OutFrame.finish (le := ?le); case le => decide)
    | with_reducible exact OutFrame.same
    | with_reducible apply OutFrame.next
    | with_reducible exact Frame.refl _ _
    | (with_reducible apply State.modTone_frame (le := ?le); case le => decide)
    | (with_reducible apply State.toneCatchUp_frame (le := ?le); case le => decide)
    | (with_reducible apply State.toneEnd_frame (le := ?le); case le => decide)
    | (with_reducible apply State.tonePop_frame (le := ?le); case le => decide)
    | split)

theorem execToneStreamRefill_frame (x0) (s : State) :
    OutFrame 108086393898500224 s (execToneStreamRefill x0 s) := by
  unfold execToneStreamRefill
  try dsimp -proj only
  repeat' (first
    | (with_reducible apply OutFrame.finish (le := ?le); case le => decide)
    | with_reducible apply OutFrame.ite
    | with_reducible exact Frame.refl _ _
    | with_reducible apply Frame.ite
    | (with_reducible apply State.chargeRes_frame (le := ?le) (e := by assumption); case le => decide)
    | (with_reducible apply State.modTone_frame (le := ?le); case le => decide)
    | (with_reducible apply State.notePanic_frame (le := ?le); case le => decide)
    | (with_reducible apply State.ringAsk_frame (le := ?le); case le => decide)
    | (with_reducible apply State.strmFault_frame (le := ?le); case le => decide)
    | (with_reducible apply State.touchRing_frame (le := ?le); case le => decide)
    | split)

end Sys2Proof.Machine
end

