-- ==== Sys2Proof/Laws/FramesFlux.lean ====
section
/-!
SUPPORT. The field frames of the operations of Machine/Flux.lean: the fields of the state that each may change.
-/
namespace Sys2Proof.Machine

theorem State.setDc_frame (s : State) (x0) (x1) (x2) {w : Nat} {s₀ : State} (h : Frame w s₀ s) (le : 70368744177792 ||| w = w) :
    Frame w s₀ (State.setDc s x0 x1 x2) := by
  refine h.step ?_ le
  unfold State.setDc
  try dsimp -proj only
  repeat' (first
    | with_reducible exact Frame.refl _ _
    | (with_reducible apply State.modFlux_frame (le := ?le); case le => decide)
    | (with_reducible apply State.setFld_frame (le := ?le); case le => decide))

theorem State.startRange_frame (s : State) (x0) (x1) (x2) {w : Nat} {s₀ : State} (h : Frame w s₀ s) (le : 108156759801069696 ||| w = w) :
    Frame w s₀ (State.startRange s x0 x1 x2) := by
  refine h.step ?_ le
  unfold State.startRange
  try dsimp -proj only
  repeat' (first
    | with_reducible exact Frame.refl _ _
    | with_reducible apply Frame.ite
    | (with_reducible apply State.err_frame (le := ?le); case le => decide)
    | (with_reducible apply State.modFlux_frame (le := ?le); case le => decide)
    | (with_reducible apply State.raise_frame (le := ?le); case le => decide))

theorem State.applyDirect_frame (s : State) (x0) (x1) {w : Nat} {s₀ : State} (h : Frame w s₀ s) (le : 108156759801069696 ||| w = w) :
    Frame w s₀ (State.applyDirect s x0 x1) := by
  refine h.step ?_ le
  unfold State.applyDirect
  try dsimp -proj only
  repeat' (first
    | with_reducible exact Frame.refl _ _
    | with_reducible apply Frame.ite
    | (with_reducible apply State.modFlux_frame (le := ?le); case le => decide)
    | (with_reducible apply State.setDc_frame (le := ?le); case le => decide)
    | (with_reducible apply State.startRange_frame (le := ?le); case le => decide))

theorem State.qDrop_frame (s : State) (x0) (x1) {w : Nat} {s₀ : State} (h : Frame w s₀ s) (le : 128 ||| w = w) :
    Frame w s₀ (State.qDrop s x0 x1) := by
  refine h.step ?_ le
  unfold State.qDrop
  try dsimp -proj only
  repeat' (first
    | with_reducible exact Frame.refl _ _
    | (with_reducible apply State.addSat_frame (le := ?le); case le => decide))

theorem State.biasTake_frame (s : State) (x0) (x1) {w : Nat} {s₀ : State} (h : Frame w s₀ s) (le : 108156759801069696 ||| w = w) :
    Frame w s₀ (State.biasTake s x0 x1) := by
  refine h.step ?_ le
  unfold State.biasTake
  try dsimp -proj only
  repeat' (first
    | with_reducible exact Frame.refl _ _
    | with_reducible apply Frame.ite
    | (with_reducible apply State.err_frame (le := ?le); case le => decide)
    | (with_reducible apply State.modFlux_frame (le := ?le); case le => decide)
    | (with_reducible apply State.qDrop_frame (le := ?le); case le => decide)
    | (with_reducible apply State.raise_frame (le := ?le); case le => decide))

theorem State.biasIn_frame (s : State) (x0) (x1) (x2) (x3) {w : Nat} {s₀ : State} (h : Frame w s₀ s) (le : 108156759801135232 ||| w = w) :
    Frame w s₀ (State.biasIn s x0 x1 x2 x3) := by
  refine h.step ?_ le
  unfold State.biasIn
  try dsimp -proj only
  repeat' (first
    | with_reducible exact Frame.refl _ _
    | (with_reducible apply State.biasTake_frame (le := ?le); case le => decide)
    | (with_reducible apply State.modRing_frame (le := ?le); case le => decide))

theorem State.dGoWrite_frame (s : State) (x0) (x1) {w : Nat} {s₀ : State} (h : Frame w s₀ s) (le : 72127962782105728 ||| w = w) :
    Frame w s₀ (State.dGoWrite s x0 x1) := by
  refine h.step ?_ le
  unfold State.dGoWrite
  try dsimp -proj only
  repeat' (first
    | with_reducible exact Frame.refl _ _
    | with_reducible apply Frame.ite
    | (with_reducible apply State.err_frame (le := ?le); case le => decide)
    | (with_reducible apply State.modFlux_frame (le := ?le); case le => decide)
    | (with_reducible apply State.setFld_frame (le := ?le); case le => decide))

theorem State.dcFlush_frame (s : State) (x0) {w : Nat} {s₀ : State} (h : Frame w s₀ s) (le : 70368744177792 ||| w = w) :
    Frame w s₀ (State.dcFlush s x0) := by
  refine h.step ?_ le
  unfold State.dcFlush
  try dsimp -proj only
  repeat' (first
    | with_reducible exact Frame.refl _ _
    | (with_reducible apply State.modFlux_frame (le := ?le); case le => decide)
    | (with_reducible apply State.qDrop_frame (le := ?le); case le => decide))

theorem State.rampStep_frame (s : State) (x0) (x1) {w : Nat} {s₀ : State} (h : Frame w s₀ s) (le : 70368744177792 ||| w = w) :
    Frame w s₀ (State.rampStep s x0 x1) := by
  refine h.step ?_ le
  unfold State.rampStep
  try dsimp -proj only
  repeat' (first
    | with_reducible exact Frame.refl _ _
    | with_reducible apply Frame.ite
    | (with_reducible apply State.modFlux_frame (le := ?le); case le => decide)
    | (with_reducible apply State.setDc_frame (le := ?le); case le => decide))

theorem State.takeEntry_frame (s : State) (x0) (x1) {w : Nat} {s₀ : State} (h : Frame w s₀ s) (le : 108156759801069696 ||| w = w) :
    Frame w s₀ (State.takeEntry s x0 x1) := by
  refine h.step ?_ le
  unfold State.takeEntry
  try dsimp -proj only
  repeat' (first
    | with_reducible exact Frame.refl _ _
    | with_reducible apply Frame.ite
    | (with_reducible apply State.err_frame (le := ?le); case le => decide)
    | (with_reducible apply State.modFlux_frame (le := ?le); case le => decide)
    | (with_reducible apply State.qDrop_frame (le := ?le); case le => decide)
    | (with_reducible apply State.raise_frame (le := ?le); case le => decide)
    | (with_reducible apply State.rampStep_frame (le := ?le); case le => decide)
    | (with_reducible apply State.setDc_frame (le := ?le); case le => decide)
    | (with_reducible apply State.startRange_frame (le := ?le); case le => decide)
    | split)

theorem State.edgeAct_frame (s : State) (x0) {w : Nat} {s₀ : State} (h : Frame w s₀ s) (le : 108156759801069696 ||| w = w) :
    Frame w s₀ (State.edgeAct s x0) := by
  refine h.step ?_ le
  unfold State.edgeAct
  try dsimp -proj only
  repeat' (first
    | with_reducible exact Frame.refl _ _
    | with_reducible apply Frame.ite
    | (with_reducible apply State.applyDirect_frame (le := ?le); case le => decide)
    | (with_reducible apply State.inc_frame (le := ?le); case le => decide)
    | (with_reducible apply State.raise_frame (le := ?le); case le => decide)
    | (with_reducible apply State.rampStep_frame (le := ?le); case le => decide)
    | (with_reducible apply State.takeEntry_frame (le := ?le); case le => decide)
    | split)

theorem State.endRange_frame (s : State) (x0) {w : Nat} {s₀ : State} (h : Frame w s₀ s) (le : 36099165763141760 ||| w = w) :
    Frame w s₀ (State.endRange s x0) := by
  refine h.step ?_ le
  unfold State.endRange
  try dsimp -proj only
  repeat' (first
    | with_reducible exact Frame.refl _ _
    | (with_reducible apply State.modFlux_frame (le := ?le); case le => decide)
    | (with_reducible apply State.raise_frame (le := ?le); case le => decide)
    | (with_reducible apply State.setDc_frame (le := ?le); case le => decide)
    | split)

theorem State.faultClear_frame (s : State) (x0) {w : Nat} {s₀ : State} (h : Frame w s₀ s) (le : 70368744177664 ||| w = w) :
    Frame w s₀ (State.faultClear s x0) := by
  refine h.step ?_ le
  unfold State.faultClear
  try dsimp -proj only
  repeat' (first
    | with_reducible exact Frame.refl _ _
    | with_reducible apply Frame.ite
    | (with_reducible apply State.modFlux_frame (le := ?le); case le => decide))

theorem State.fluxBad_frame (s : State) (x0) (x1) (x2) (x3) {w : Nat} {s₀ : State} (h : Frame w s₀ s) (le : 108156759822075008 ||| w = w) :
    Frame w s₀ (State.fluxBad s x0 x1 x2 x3) := by
  refine h.step ?_ le
  unfold State.fluxBad
  try dsimp -proj only
  repeat' (first
    | with_reducible exact Frame.refl _ _
    | (with_reducible apply State.charge_frame (le := ?le); case le => decide)
    | (with_reducible apply State.err_frame (le := ?le); case le => decide)
    | (with_reducible apply State.inc_frame (le := ?le); case le => decide)
    | (with_reducible apply State.modFlux_frame (le := ?le); case le => decide)
    | (with_reducible apply State.raise_frame (le := ?le); case le => decide)
    | (with_reducible apply State.refetch_frame (le := ?le); case le => decide)
    | split)

theorem State.fluxEntryFault_frame (s : State) (x0) (x1) (x2) {w : Nat} {s₀ : State} (h : Frame w s₀ s) (le : 108086391056893056 ||| w = w) :
    Frame w s₀ (State.fluxEntryFault s x0 x1 x2) := by
  refine h.step ?_ le
  unfold State.fluxEntryFault
  try dsimp -proj only
  repeat' (first
    | with_reducible exact Frame.refl _ _
    | (with_reducible apply State.charge_frame (le := ?le); case le => decide)
    | (with_reducible apply State.err_frame (le := ?le); case le => decide)
    | (with_reducible apply State.raise_frame (le := ?le); case le => decide))

theorem State.fluxEntryParity_frame (s : State) (x0) (x1) (x2) {w : Nat} {s₀ : State} (h : Frame w s₀ s) (le : 108086391077896320 ||| w = w) :
    Frame w s₀ (State.fluxEntryParity s x0 x1 x2) := by
  refine h.step ?_ le
  unfold State.fluxEntryParity
  try dsimp -proj only
  repeat' (first
    | with_reducible exact Frame.refl _ _
    | with_reducible apply Frame.ite
    | (with_reducible apply State.err_frame (le := ?le); case le => decide)
    | (with_reducible apply State.raise_frame (le := ?le); case le => decide)
    | (with_reducible apply State.refetch_frame (le := ?le); case le => decide))

theorem State.fluxDecide_frame (s : State) (x0) (x1) {w : Nat} {s₀ : State} (h : Frame w s₀ s) (le : 108156759822075008 ||| w = w) :
    Frame w s₀ (State.fluxDecide s x0 x1) := by
  refine h.step ?_ le
  unfold State.fluxDecide
  try dsimp -proj only
  repeat' (first
    | with_reducible exact Frame.refl _ _
    | with_reducible apply Frame.ite
    | with_reducible apply Frame.getD
    | intro _ _
    | (with_reducible apply State.fluxEntryFault_frame (le := ?le); case le => decide)
    | (with_reducible apply State.fluxEntryParity_frame (le := ?le); case le => decide)
    | (with_reducible apply State.modFlux_frame (le := ?le); case le => decide)
    | split)

theorem State.showFlux_frame (s : State) (x0) {w : Nat} {s₀ : State} (h : Frame w s₀ s) (le : 128 ||| w = w) :
    Frame w s₀ (State.showFlux s x0) := by
  refine h.step ?_ le
  unfold State.showFlux
  try dsimp -proj only
  repeat' (first
    | with_reducible exact Frame.refl _ _
    | (with_reducible apply State.setFld_frame (le := ?le); case le => decide)
    | split)

theorem State.fluxBoundary_frame (s : State) (x0) {w : Nat} {s₀ : State} (h : Frame w s₀ s) (le : 108156759822075008 ||| w = w) :
    Frame w s₀ (State.fluxBoundary s x0) := by
  refine h.step ?_ le
  unfold State.fluxBoundary
  try dsimp -proj only
  repeat' (first
    | with_reducible exact Frame.refl _ _
    | with_reducible apply Frame.ite
    | (with_reducible apply State.fluxDecide_frame (le := ?le); case le => decide)
    | (with_reducible apply State.modFlux_frame (le := ?le); case le => decide)
    | (with_reducible apply State.raise_frame (le := ?le); case le => decide)
    | (with_reducible apply State.showFlux_frame (le := ?le); case le => decide)
    | split)

theorem State.fluxCatchUp_frame (s : State) (x0) (x1) {w : Nat} {s₀ : State} (h : Frame w s₀ s) (le : 108156759822075008 ||| w = w) :
    Frame w s₀ (State.fluxCatchUp s x0 x1) := by
  refine h.step ?_ le
  unfold State.fluxCatchUp
  try dsimp -proj only
  repeat' (first
    | with_reducible exact Frame.refl _ _
    | with_reducible apply Frame.ite
    | (with_reducible apply State.fluxBoundary_frame (le := ?le); case le => decide)
    | split)

theorem State.fluxCheck_frame (s : State) (x0) (x1) (x2) {w : Nat} {s₀ : State} (h : Frame w s₀ s) (le : 108156759822075008 ||| w = w) :
    Frame w s₀ (State.fluxCheck s x0 x1 x2) := by
  refine h.step ?_ le
  unfold State.fluxCheck
  try dsimp -proj only
  repeat' (first
    | with_reducible exact Frame.refl _ _
    | with_reducible apply Frame.ite
    | (with_reducible apply State.fluxBad_frame (le := ?le); case le => decide)
    | (with_reducible apply State.modFlux_frame (le := ?le); case le => decide)
    | split)

theorem State.fluxCut_frame (s : State) (x0) (x1) {w : Nat} {s₀ : State} (h : Frame w s₀ s) (le : 70368744177792 ||| w = w) :
    Frame w s₀ (State.fluxCut s x0 x1) := by
  refine h.step ?_ le
  unfold State.fluxCut
  try dsimp -proj only
  repeat' (first
    | with_reducible exact Frame.refl _ _
    | with_reducible apply Frame.ite
    | (with_reducible apply State.inc_frame (le := ?le); case le => decide)
    | (with_reducible apply State.modFlux_frame (le := ?le); case le => decide))

theorem State.fluxEnd_frame (s : State) (x0) {w : Nat} {s₀ : State} (h : Frame w s₀ s) (le : 70368744177664 ||| w = w) :
    Frame w s₀ (State.fluxEnd s x0) := by
  refine h.step ?_ le
  unfold State.fluxEnd
  try dsimp -proj only
  repeat' (first
    | with_reducible exact Frame.refl _ _
    | with_reducible apply Frame.ite
    | (with_reducible apply State.modFlux_frame (le := ?le); case le => decide))

theorem State.fluxDisable_frame (s : State) (x0) {w : Nat} {s₀ : State} (h : Frame w s₀ s) (le : 70368744177792 ||| w = w) :
    Frame w s₀ (State.fluxDisable s x0) := by
  refine h.step ?_ le
  unfold State.fluxDisable
  try dsimp -proj only
  repeat' (first
    | with_reducible exact Frame.refl _ _
    | with_reducible apply Frame.ite
    | (with_reducible apply State.fluxEnd_frame (le := ?le); case le => decide)
    | (with_reducible apply State.modFlux_frame (le := ?le); case le => decide)
    | (with_reducible apply State.setEnable_frame (le := ?le); case le => decide))

theorem State.setLevel_frame (s : State) (x0) (x1) (x2) {w : Nat} {s₀ : State} (h : Frame w s₀ s) (le : 70368744177792 ||| w = w) :
    Frame w s₀ (State.setLevel s x0 x1 x2) := by
  refine h.step ?_ le
  unfold State.setLevel
  try dsimp -proj only
  repeat' (first
    | with_reducible exact Frame.refl _ _
    | (with_reducible apply State.modFlux_frame (le := ?le); case le => decide)
    | (with_reducible apply State.setFld_frame (le := ?le); case le => decide))

theorem State.fluxKill_frame (s : State) (x0) (x1) {w : Nat} {s₀ : State} (h : Frame w s₀ s) (le : 108156759822075008 ||| w = w) :
    Frame w s₀ (State.fluxKill s x0 x1) := by
  refine h.step ?_ le
  unfold State.fluxKill
  try dsimp -proj only
  repeat' (first
    | with_reducible exact Frame.refl _ _
    | with_reducible apply Frame.ite
    | with_reducible apply Frame.foldl
    | intro _ _
    | (with_reducible apply State.addSat_frame (le := ?le); case le => decide)
    | (with_reducible apply State.charge_frame (le := ?le); case le => decide)
    | (with_reducible apply State.fluxCatchUp_frame (le := ?le); case le => decide)
    | (with_reducible apply State.modFlux_frame (le := ?le); case le => decide)
    | (with_reducible apply State.raise_frame (le := ?le); case le => decide)
    | (with_reducible apply State.setLevel_frame (le := ?le); case le => decide)
    | (with_reducible apply State.showFlux_frame (le := ?le); case le => decide)
    | split)

theorem State.fluxDisableNow_frame (s : State) (x0) {w : Nat} {s₀ : State} (h : Frame w s₀ s) (le : 117163959076816000 ||| w = w) :
    Frame w s₀ (State.fluxDisableNow s x0) := by
  refine h.step ?_ le
  unfold State.fluxDisableNow
  try dsimp -proj only
  repeat' (first
    | with_reducible exact Frame.refl _ _
    | (with_reducible apply State.calHit_frame (le := ?le); case le => decide)
    | (with_reducible apply State.fluxKill_frame (le := ?le); case le => decide)
    | (with_reducible apply State.setEnable_frame (le := ?le); case le => decide))

theorem State.fluxDrop_frame (s : State) (x0) (x1) {w : Nat} {s₀ : State} (h : Frame w s₀ s) (le : 36028797018965120 ||| w = w) :
    Frame w s₀ (State.fluxDrop s x0 x1) := by
  refine h.step ?_ le
  unfold State.fluxDrop
  try dsimp -proj only
  repeat' (first
    | with_reducible exact Frame.refl _ _
    | (with_reducible apply State.charge_frame (le := ?le); case le => decide)
    | (with_reducible apply State.inc_frame (le := ?le); case le => decide)
    | (with_reducible apply State.raise_frame (le := ?le); case le => decide))

theorem State.fluxEnable_frame (s : State) (x0) {w : Nat} {s₀ : State} (h : Frame w s₀ s) (le : 70368744177792 ||| w = w) :
    Frame w s₀ (State.fluxEnable s x0) := by
  refine h.step ?_ le
  unfold State.fluxEnable
  try dsimp -proj only
  repeat' (first
    | with_reducible exact Frame.refl _ _
    | with_reducible apply Frame.ite
    | (with_reducible apply State.modFlux_frame (le := ?le); case le => decide)
    | (with_reducible apply State.setEnable_frame (le := ?le); case le => decide))

theorem State.fluxFaultSeq_frame (s : State) (x0) (x1) {w : Nat} {s₀ : State} (h : Frame w s₀ s) (le : 45106365017882752 ||| w = w) :
    Frame w s₀ (State.fluxFaultSeq s x0 x1) := by
  refine h.step ?_ le
  unfold State.fluxFaultSeq
  try dsimp -proj only
  repeat' (first
    | with_reducible exact Frame.refl _ _
    | with_reducible apply Frame.ite
    | (with_reducible apply State.calHit_frame (le := ?le); case le => decide)
    | (with_reducible apply State.dcFlush_frame (le := ?le); case le => decide)
    | (with_reducible apply State.endRange_frame (le := ?le); case le => decide)
    | (with_reducible apply State.modFlux_frame (le := ?le); case le => decide)
    | (with_reducible apply State.raise_frame (le := ?le); case le => decide)
    | (with_reducible apply State.setDc_frame (le := ?le); case le => decide)
    | (with_reducible apply State.setFld_frame (le := ?le); case le => decide))

theorem State.fluxPop_frame (s : State) (x0) (x1) {w : Nat} {s₀ : State} (h : Frame w s₀ s) (le : 70368744178688 ||| w = w) :
    Frame w s₀ (State.fluxPop s x0 x1) := by
  refine h.step ?_ le
  unfold State.fluxPop
  try dsimp -proj only
  repeat' (first
    | with_reducible exact Frame.refl _ _
    | (with_reducible apply State.modFlux_frame (le := ?le); case le => decide)
    | (with_reducible apply State.useTile_frame (le := ?le); case le => decide))

theorem State.fluxStep_frame (s : State) (x0) (x1) (x2) {w : Nat} {s₀ : State} (h : Frame w s₀ s) (le : 108191944194180224 ||| w = w) :
    Frame w s₀ (State.fluxStep s x0 x1 x2) := by
  refine h.step ?_ le
  unfold State.fluxStep
  try dsimp -proj only
  repeat' (first
    | with_reducible exact Frame.refl _ _
    | with_reducible apply Frame.ite
    | with_reducible apply Frame.foldl
    | intro _ _
    | (with_reducible apply State.acqFeed_frame (le := ?le); case le => decide)
    | (with_reducible apply State.fluxCheck_frame (le := ?le); case le => decide)
    | (with_reducible apply State.inc_frame (le := ?le); case le => decide)
    | (with_reducible apply State.modFlux_frame (le := ?le); case le => decide)
    | (with_reducible apply State.raise_frame (le := ?le); case le => decide)
    | split)

theorem State.fluxStore_frame (s : State) (x0) {w : Nat} {s₀ : State} (h : Frame w s₀ s) (le : 72127962782105728 ||| w = w) :
    Frame w s₀ (State.fluxStore s x0) := by
  refine h.step ?_ le
  unfold State.fluxStore
  try dsimp -proj only
  repeat' (first
    | with_reducible exact Frame.refl _ _
    | with_reducible apply Frame.ite
    | (with_reducible apply State.err_frame (le := ?le); case le => decide)
    | (with_reducible apply State.modFlux_frame (le := ?le); case le => decide)
    | (with_reducible apply State.setBit_frame (le := ?le); case le => decide))

theorem State.levelWritten_frame (s : State) (x0) (x1) {w : Nat} {s₀ : State} (h : Frame w s₀ s) (le : 70368744177792 ||| w = w) :
    Frame w s₀ (State.levelWritten s x0 x1) := by
  refine h.step ?_ le
  unfold State.levelWritten
  try dsimp -proj only
  repeat' (first
    | with_reducible exact Frame.refl _ _
    | (with_reducible apply State.modFlux_frame (le := ?le); case le => decide)
    | (with_reducible apply State.setFld_frame (le := ?le); case le => decide))

theorem execBiasEdge_frame (x0) (s : State) :
    OutFrame 108156760473600128 s (execBiasEdge x0 s) := by
  unfold execBiasEdge
  try dsimp -proj only
  repeat' (first
    | (with_reducible apply OutFrame.finish (le := ?le); case le => decide)
    | with_reducible exact OutFrame.same
    | with_reducible apply OutFrame.next
    | with_reducible apply OutFrame.ite
    | with_reducible exact Frame.refl _ _
    | with_reducible apply Frame.ite
    | (with_reducible apply State.edgeAct_frame (le := ?le); case le => decide)
    | (with_reducible apply State.modFlux_frame (le := ?le); case le => decide))

theorem execBiasRefill_frame (x0) (s : State) :
    OutFrame 108156760495194240 s (execBiasRefill x0 s) := by
  unfold execBiasRefill
  try dsimp -proj only
  repeat' (first
    | (with_reducible apply OutFrame.finish (le := ?le); case le => decide)
    | with_reducible exact OutFrame.same
    | with_reducible apply OutFrame.next
    | with_reducible apply OutFrame.ite
    | with_reducible exact Frame.refl _ _
    | with_reducible apply Frame.ite
    | (with_reducible apply State.chargeRes_frame (le := ?le) (e := by assumption); case le => decide)
    | (with_reducible apply State.chargeRes_frame (le := ?le) (e := Frame.some_ite (by assumption)); case le => decide)
    | (with_reducible apply State.err_frame (le := ?le); case le => decide)
    | (with_reducible apply State.modFlux_frame (le := ?le); case le => decide)
    | (with_reducible apply State.raise_frame (le := ?le); case le => decide)
    | (with_reducible apply State.ringAsk_frame (le := ?le); case le => decide)
    | (with_reducible apply State.touchRing_frame (le := ?le); case le => decide)
    | split)

theorem execCompliance_frame (x0) (s : State) :
    OutFrame 117163959728341120 s (execCompliance x0 s) := by
  unfold execCompliance
  try dsimp -proj only
  repeat' (first
    | (with_reducible apply OutFrame.finish (le := ?le); case le => decide)
    | with_reducible exact OutFrame.same
    | with_reducible apply OutFrame.next
    | with_reducible apply OutFrame.ite
    | with_reducible exact Frame.refl _ _
    | with_reducible apply Frame.ite
    | (with_reducible apply State.fluxFaultSeq_frame (le := ?le); case le => decide)
    | (with_reducible apply State.modFlux_frame (le := ?le); case le => decide)
    | (with_reducible apply State.raise_frame (le := ?le); case le => decide))

theorem execComplianceClear_frame (x0) (s : State) :
    OutFrame 108156760473600128 s (execComplianceClear x0 s) := by
  unfold execComplianceClear
  try dsimp -proj only
  repeat' (first
    | (with_reducible apply OutFrame.finish (le := ?le); case le => decide)
    | with_reducible exact Frame.refl _ _
    | (with_reducible apply State.modFlux_frame (le := ?le); case le => decide))

theorem execDcDirectApply_frame (x0) (s : State) :
    OutFrame 108156760473600128 s (execDcDirectApply x0 s) := by
  unfold execDcDirectApply
  try dsimp -proj only
  repeat' (first
    | (with_reducible apply OutFrame.finish (le := ?le); case le => decide)
    | with_reducible exact OutFrame.same
    | with_reducible apply OutFrame.next
    | with_reducible apply OutFrame.ite
    | with_reducible exact Frame.refl _ _
    | with_reducible apply Frame.ite
    | (with_reducible apply State.applyDirect_frame (le := ?le); case le => decide)
    | split)

theorem execDcPowerUp_frame (x0) (x1) (s : State) :
    OutFrame 108156760473600128 s (execDcPowerUp x0 x1 s) := by
  unfold execDcPowerUp
  try dsimp -proj only
  repeat' (first
    | (with_reducible apply OutFrame.finish (le := ?le); case le => decide)
    | with_reducible exact OutFrame.same
    | with_reducible apply OutFrame.next
    | with_reducible apply OutFrame.ite
    | with_reducible exact Frame.refl _ _
    | with_reducible apply Frame.ite
    | (with_reducible apply State.modFlux_frame (le := ?le); case le => decide)
    | (with_reducible apply State.raise_frame (le := ?le); case le => decide)
    | (with_reducible apply State.setDc_frame (le := ?le); case le => decide)
    | (with_reducible apply State.setReg_frame (le := ?le); case le => decide)
    | split)

theorem execFluxKill_frame (x0) (s : State) :
    OutFrame 108156760494605440 s (execFluxKill x0 s) := by
  unfold execFluxKill
  try dsimp -proj only
  repeat' (first
    | (with_reducible apply OutFrame.finish (le := ?le); case le => decide)
    | with_reducible exact OutFrame.same
    | with_reducible apply OutFrame.next
    | with_reducible exact Frame.refl _ _
    | (with_reducible apply State.fluxKill_frame (le := ?le); case le => decide)
    | (with_reducible apply State.fluxPop_frame (le := ?le); case le => decide)
    | split)

theorem execFluxNvmStoreComplete_frame (x0) (s : State) :
    OutFrame 108156760473600128 s (execFluxNvmStoreComplete x0 s) := by
  unfold execFluxNvmStoreComplete
  try dsimp -proj only
  repeat' (first
    | (with_reducible apply OutFrame.finish (le := ?le); case le => decide)
    | with_reducible exact OutFrame.same
    | with_reducible apply OutFrame.next
    | with_reducible exact Frame.refl _ _
    | (with_reducible apply State.modFlux_frame (le := ?le); case le => decide)
    | (with_reducible apply State.setBit_frame (le := ?le); case le => decide)
    | split)

theorem execFluxPlay_frame (x0) (x1) (s : State) :
    OutFrame 108156760494605440 s (execFluxPlay x0 x1 s) := by
  unfold execFluxPlay
  try dsimp -proj only
  repeat' (first
    | (with_reducible apply OutFrame.finish (le := ?le); case le => decide)
    | with_reducible exact OutFrame.same
    | with_reducible apply OutFrame.next
    | with_reducible apply OutFrame.ite
    | with_reducible exact Frame.refl _ _
    | with_reducible apply Frame.ite
    | (with_reducible apply State.fluxCatchUp_frame (le := ?le); case le => decide)
    | (with_reducible apply State.fluxCut_frame (le := ?le); case le => decide)
    | (with_reducible apply State.fluxDrop_frame (le := ?le); case le => decide)
    | (with_reducible apply State.fluxEntryFault_frame (le := ?le); case le => decide)
    | (with_reducible apply State.fluxEntryParity_frame (le := ?le); case le => decide)
    | (with_reducible apply State.fluxPop_frame (le := ?le); case le => decide)
    | (with_reducible apply State.modFlux_frame (le := ?le); case le => decide)
    | (with_reducible apply State.showFlux_frame (le := ?le); case le => decide)
    | split)

theorem execFluxPlayBoundary_frame (x0) (x1) (s : State) :
    OutFrame 108156760494605440 s (execFluxPlayBoundary x0 x1 s) := by
  unfold execFluxPlayBoundary
  try dsimp -proj only
  repeat' (first
    | (with_reducible apply OutFrame.finish (le := ?le); case le => decide)
    | with_reducible exact OutFrame.same
    | with_reducible apply OutFrame.next
    | with_reducible apply OutFrame.ite
    | with_reducible exact Frame.refl _ _
    | with_reducible apply Frame.ite
    | (with_reducible apply State.fluxBoundary_frame (le := ?le); case le => decide)
    | (with_reducible apply State.fluxDecide_frame (le := ?le); case le => decide)
    | split)

theorem execFluxRefetchComplete_frame (x0) (s : State) :
    OutFrame 108156760473600128 s (execFluxRefetchComplete x0 s) := by
  unfold execFluxRefetchComplete
  try dsimp -proj only
  repeat' (first
    | (with_reducible apply OutFrame.finish (le := ?le); case le => decide)
    | with_reducible exact OutFrame.same
    | with_reducible apply OutFrame.next
    | with_reducible apply OutFrame.ite
    | with_reducible exact Frame.refl _ _
    | with_reducible apply Frame.ite
    | (with_reducible apply State.modFlux_frame (le := ?le); case le => decide))

theorem execFluxSet_frame (x0) (s : State) :
    OutFrame 108156760494605440 s (execFluxSet x0 s) := by
  unfold execFluxSet
  try dsimp -proj only
  repeat' (first
    | (with_reducible apply OutFrame.finish (le := ?le); case le => decide)
    | with_reducible exact OutFrame.same
    | with_reducible apply OutFrame.next
    | with_reducible apply OutFrame.ite
    | with_reducible exact Frame.refl _ _
    | with_reducible apply Frame.ite
    | (with_reducible apply State.fluxCatchUp_frame (le := ?le); case le => decide)
    | (with_reducible apply State.fluxDrop_frame (le := ?le); case le => decide)
    | (with_reducible apply State.fluxPop_frame (le := ?le); case le => decide)
    | (with_reducible apply State.setLevel_frame (le := ?le); case le => decide)
    | split)

theorem execFluxStop_frame (x0) (s : State) :
    OutFrame 108156760494605440 s (execFluxStop x0 s) := by
  unfold execFluxStop
  try dsimp -proj only
  repeat' (first
    | (with_reducible apply OutFrame.finish (le := ?le); case le => decide)
    | with_reducible exact OutFrame.same
    | with_reducible apply OutFrame.next
    | with_reducible apply OutFrame.ite
    | with_reducible exact Frame.refl _ _
    | with_reducible apply Frame.ite
    | (with_reducible apply State.fluxCatchUp_frame (le := ?le); case le => decide)
    | (with_reducible apply State.fluxEnd_frame (le := ?le); case le => decide)
    | (with_reducible apply State.fluxPop_frame (le := ?le); case le => decide)
    | (with_reducible apply State.modFlux_frame (le := ?le); case le => decide)
    | split)

theorem execMonitorMeasure_frame (x0) (x1) (x2) (s : State) :
    OutFrame 108156760473600128 s (execMonitorMeasure x0 x1 x2 s) := by
  unfold execMonitorMeasure
  try dsimp -proj only
  repeat' (first
    | (with_reducible apply OutFrame.finish (le := ?le); case le => decide)
    | with_reducible exact OutFrame.same
    | with_reducible apply OutFrame.next
    | with_reducible apply OutFrame.ite
    | with_reducible exact Frame.refl _ _
    | with_reducible apply Frame.ite
    | (with_reducible apply State.modFlux_frame (le := ?le); case le => decide)
    | (with_reducible apply State.setBit_frame (le := ?le); case le => decide)
    | (with_reducible apply State.setFld_frame (le := ?le); case le => decide))

theorem execOpenDetect_frame (x0) (s : State) :
    OutFrame 117163959728341120 s (execOpenDetect x0 s) := by
  unfold execOpenDetect
  try dsimp -proj only
  repeat' (first
    | (with_reducible apply OutFrame.finish (le := ?le); case le => decide)
    | with_reducible exact OutFrame.same
    | with_reducible apply OutFrame.next
    | with_reducible apply OutFrame.ite
    | with_reducible exact Frame.refl _ _
    | with_reducible apply Frame.ite
    | (with_reducible apply State.fluxFaultSeq_frame (le := ?le); case le => decide)
    | (with_reducible apply State.modFlux_frame (le := ?le); case le => decide)
    | (with_reducible apply State.raise_frame (le := ?le); case le => decide))

theorem execRangeChangeComplete_frame (x0) (s : State) :
    OutFrame 108156760473600128 s (execRangeChangeComplete x0 s) := by
  unfold execRangeChangeComplete
  try dsimp -proj only
  repeat' (first
    | (with_reducible apply OutFrame.finish (le := ?le); case le => decide)
    | with_reducible exact OutFrame.same
    | with_reducible apply OutFrame.next
    | with_reducible apply OutFrame.ite
    | with_reducible exact Frame.refl _ _
    | with_reducible apply Frame.ite
    | (with_reducible apply State.endRange_frame (le := ?le); case le => decide))

end Sys2Proof.Machine
end

