-- ==== Sys2Proof/Laws/FramesNetwork.lean ====
section
/-!
SUPPORT. The field frames of the operations of Machine/Network.lean: the fields of the state that each may change.
-/
namespace Sys2Proof.Machine

theorem State.ethForward_frame (s : State) (x0) (x1) (x2) {w : Nat} {s₀ : State} (h : Frame w s₀ s) (le : 36310271995674752 ||| w = w) :
    Frame w s₀ (State.ethForward s x0 x1 x2) := by
  refine h.step ?_ le
  unfold State.ethForward
  try dsimp -proj only
  repeat' (first
    | with_reducible exact Frame.refl _ _
    | with_reducible apply Frame.ite
    | (with_reducible apply State.inc_frame (le := ?le); case le => decide)
    | (with_reducible apply State.modEth_frame (le := ?le); case le => decide)
    | (with_reducible apply State.raise_frame (le := ?le); case le => decide)
    | split)

theorem State.putWords_frame (s : State) (x0) (x1) (x2) (x3) {w : Nat} {s₀ : State} (h : Frame w s₀ s) (le : 128 ||| w = w) :
    Frame w s₀ (State.putWords s x0 x1 x2 x3) := by
  refine h.step ?_ le
  unfold State.putWords
  try dsimp -proj only
  repeat' (first
    | with_reducible exact Frame.refl _ _
    | with_reducible apply Frame.forN
    | intro _ _
    | (with_reducible apply State.setReg_frame (le := ?le); case le => decide))

theorem State.rxDeliver_frame (s : State) (x0) (x1) (x2) {w : Nat} {s₀ : State} (h : Frame w s₀ s) (le : 36028797018964096 ||| w = w) :
    Frame w s₀ (State.rxDeliver s x0 x1 x2) := by
  refine h.step ?_ le
  unfold State.rxDeliver
  try dsimp -proj only
  repeat' (first
    | with_reducible exact Frame.refl _ _
    | with_reducible apply Frame.ite
    | (with_reducible apply State.inc_frame (le := ?le); case le => decide)
    | (with_reducible apply State.putWords_frame (le := ?le); case le => decide)
    | (with_reducible apply State.raise_frame (le := ?le); case le => decide)
    | (with_reducible apply State.setFld_frame (le := ?le); case le => decide))

theorem State.ethHandle_frame (s : State) (x0) (x1) (x2) {w : Nat} {s₀ : State} (h : Frame w s₀ s) (le : 36310271995674752 ||| w = w) :
    Frame w s₀ (State.ethHandle s x0 x1 x2) := by
  refine h.step ?_ le
  unfold State.ethHandle
  try dsimp -proj only
  repeat' (first
    | with_reducible exact Frame.refl _ _
    | with_reducible apply Frame.ite
    | (with_reducible apply State.ethForward_frame (le := ?le); case le => decide)
    | (with_reducible apply State.rxDeliver_frame (le := ?le); case le => decide))

theorem State.linkOff_frame (s : State) (x0) {w : Nat} {s₀ : State} (h : Frame w s₀ s) (le : 36310271995674752 ||| w = w) :
    Frame w s₀ (State.linkOff s x0) := by
  refine h.step ?_ le
  unfold State.linkOff
  try dsimp -proj only
  repeat' (first
    | with_reducible exact Frame.refl _ _
    | with_reducible apply Frame.ite
    | (with_reducible apply State.modEth_frame (le := ?le); case le => decide)
    | (with_reducible apply State.raise_frame (le := ?le); case le => decide)
    | (with_reducible apply State.setFld_frame (le := ?le); case le => decide))

theorem State.ethKill_frame (s : State) (x0) {w : Nat} {s₀ : State} (h : Frame w s₀ s) (le : 36310271995674752 ||| w = w) :
    Frame w s₀ (State.ethKill s x0) := by
  refine h.step ?_ le
  unfold State.ethKill
  try dsimp -proj only
  repeat' (first
    | with_reducible exact Frame.refl _ _
    | with_reducible apply Frame.ite
    | (with_reducible apply State.addSat_frame (le := ?le); case le => decide)
    | (with_reducible apply State.linkOff_frame (le := ?le); case le => decide)
    | (with_reducible apply State.modEth_frame (le := ?le); case le => decide)
    | (with_reducible apply State.raise_frame (le := ?le); case le => decide)
    | (with_reducible apply State.setEnable_frame (le := ?le); case le => decide))

theorem State.ethOff_frame (s : State) (x0) {w : Nat} {s₀ : State} (h : Frame w s₀ s) (le : 36310271995674752 ||| w = w) :
    Frame w s₀ (State.ethOff s x0) := by
  refine h.step ?_ le
  unfold State.ethOff
  try dsimp -proj only
  repeat' (first
    | with_reducible exact Frame.refl _ _
    | with_reducible apply Frame.ite
    | (with_reducible apply State.addSat_frame (le := ?le); case le => decide)
    | (with_reducible apply State.linkOff_frame (le := ?le); case le => decide)
    | (with_reducible apply State.modEth_frame (le := ?le); case le => decide)
    | (with_reducible apply State.setEnable_frame (le := ?le); case le => decide))

theorem State.ethOn_frame (s : State) (x0) {w : Nat} {s₀ : State} (h : Frame w s₀ s) (le : 281474976710784 ||| w = w) :
    Frame w s₀ (State.ethOn s x0) := by
  refine h.step ?_ le
  unfold State.ethOn
  try dsimp -proj only
  repeat' (first
    | with_reducible exact Frame.refl _ _
    | (with_reducible apply State.modEth_frame (le := ?le); case le => decide)
    | (with_reducible apply State.setEnable_frame (le := ?le); case le => decide))

theorem State.frameLeft_frame (s : State) (x0) (x1) (x2) {w : Nat} {s₀ : State} (h : Frame w s₀ s) (le : 36310271995674752 ||| w = w) :
    Frame w s₀ (State.frameLeft s x0 x1 x2) := by
  refine h.step ?_ le
  unfold State.frameLeft
  try dsimp -proj only
  repeat' (first
    | with_reducible exact Frame.refl _ _
    | with_reducible apply Frame.ite
    | (with_reducible apply State.linkOff_frame (le := ?le); case le => decide)
    | (with_reducible apply State.modEth_frame (le := ?le); case le => decide))

theorem State.ntGet_frame (s : State) {w : Nat} {s₀ : State} (h : Frame w s₀ s) (le : 144255925564211200 ||| w = w) :
    Frame w s₀ (State.ntGet s) := by
  refine h.step ?_ le
  unfold State.ntGet
  try dsimp -proj only
  repeat' (first
    | with_reducible exact Frame.refl _ _
    | (with_reducible apply State.respond_frame (le := ?le); case le => decide)
    | (with_reducible apply Frame.upd_nt (le := ?le); case le => decide))

theorem State.ntIncWritten_frame (s : State) {w : Nat} {s₀ : State} (h : Frame w s₀ s) (le : 72198331526283392 ||| w = w) :
    Frame w s₀ (State.ntIncWritten s) := by
  refine h.step ?_ le
  unfold State.ntIncWritten
  try dsimp -proj only
  repeat' (first
    | with_reducible exact Frame.refl _ _
    | with_reducible apply Frame.ite
    | (with_reducible apply State.err_frame (le := ?le); case le => decide)
    | (with_reducible apply Frame.upd_nt (le := ?le); case le => decide))

theorem State.ntStepGo_frame (s : State) {w : Nat} {s₀ : State} (h : Frame w s₀ s) (le : 108227128545247360 ||| w = w) :
    Frame w s₀ (State.ntStepGo s) := by
  refine h.step ?_ le
  unfold State.ntStepGo
  try dsimp -proj only
  repeat' (first
    | with_reducible exact Frame.refl _ _
    | with_reducible apply Frame.ite
    | (with_reducible apply State.err_frame (le := ?le); case le => decide)
    | (with_reducible apply State.raise_frame (le := ?le); case le => decide)
    | (with_reducible apply Frame.upd_nt (le := ?le); case le => decide))

theorem State.ntTick_frame (s : State) {w : Nat} {s₀ : State} (h : Frame w s₀ s) (le : 36169534507319424 ||| w = w) :
    Frame w s₀ (State.ntTick s) := by
  refine h.step ?_ le
  unfold State.ntTick
  try dsimp -proj only
  repeat' (first
    | with_reducible exact Frame.refl _ _
    | with_reducible apply Frame.ite
    | with_reducible apply Frame.getD
    | intro _ _
    | (with_reducible apply State.raise_frame (le := ?le); case le => decide)
    | (with_reducible apply State.setFld_frame (le := ?le); case le => decide)
    | (with_reducible apply Frame.upd_nt (le := ?le); case le => decide))

theorem State.tcEgress_frame (s : State) (x0) (x1) (x2) (x3) (x4) {w : Nat} {s₀ : State} (h : Frame w s₀ s) (le : 128 ||| w = w) :
    Frame w s₀ (State.tcEgress s x0 x1 x2 x3 x4).1 := by
  refine h.step ?_ le
  unfold State.tcEgress
  try dsimp -proj only
  repeat' (first
    | with_reducible exact Frame.refl _ _
    | with_reducible apply Frame.ite
    | (with_reducible apply State.inc_frame (le := ?le); case le => decide)
    | (with_reducible apply State.setFld_frame (le := ?le); case le => decide)
    | split
    | with_reducible apply Frame.fst_ite
    | with_reducible apply Frame.pair)

theorem State.txGo_frame (s : State) (x0) {w : Nat} {s₀ : State} (h : Frame w s₀ s) (le : 72339069014638720 ||| w = w) :
    Frame w s₀ (State.txGo s x0) := by
  refine h.step ?_ le
  unfold State.txGo
  try dsimp -proj only
  repeat' (first
    | with_reducible exact Frame.refl _ _
    | with_reducible apply Frame.ite
    | (with_reducible apply State.err_frame (le := ?le); case le => decide)
    | (with_reducible apply State.modEth_frame (le := ?le); case le => decide))

theorem execEthForwardEgress_frame (x0) (x1) (s : State) :
    OutFrame 108367866706133120 s (execEthForwardEgress x0 x1 s) := by
  unfold execEthForwardEgress
  try dsimp -proj only
  repeat' (first
    | (with_reducible apply OutFrame.finish (le := ?le); case le => decide)
    | with_reducible exact OutFrame.same
    | with_reducible apply OutFrame.next
    | with_reducible apply OutFrame.ite
    | with_reducible exact Frame.refl _ _
    | with_reducible apply Frame.ite
    | (with_reducible apply State.frameLeft_frame (le := ?le); case le => decide)
    | (with_reducible apply State.tcEgress_frame (le := ?le); case le => decide)
    | split)

theorem execEthFrameRx_frame (x0) (x1) (x2) (x3) (s : State) :
    OutFrame 108367866706133120 s (execEthFrameRx x0 x1 x2 x3 s) := by
  unfold execEthFrameRx
  try dsimp -proj only
  repeat' (first
    | (with_reducible apply OutFrame.finish (le := ?le); case le => decide)
    | with_reducible exact OutFrame.same
    | with_reducible apply OutFrame.next
    | with_reducible apply OutFrame.ite
    | with_reducible exact Frame.refl _ _
    | with_reducible apply Frame.ite
    | (with_reducible apply State.ethHandle_frame (le := ?le); case le => decide)
    | (with_reducible apply State.inc_frame (le := ?le); case le => decide))

theorem execEthLinkLost_frame (x0) (s : State) :
    OutFrame 108367866706133120 s (execEthLinkLost x0 s) := by
  unfold execEthLinkLost
  try dsimp -proj only
  repeat' (first
    | (with_reducible apply OutFrame.finish (le := ?le); case le => decide)
    | with_reducible exact OutFrame.same
    | with_reducible apply OutFrame.next
    | with_reducible apply OutFrame.ite
    | with_reducible exact Frame.refl _ _
    | with_reducible apply Frame.ite
    | (with_reducible apply State.linkOff_frame (le := ?le); case le => decide))

theorem execEthLinkUp_frame (x0) (s : State) :
    OutFrame 108086391729422464 s (execEthLinkUp x0 s) := by
  unfold execEthLinkUp
  try dsimp -proj only
  repeat' (first
    | (with_reducible apply OutFrame.finish (le := ?le); case le => decide)
    | with_reducible exact OutFrame.same
    | with_reducible apply OutFrame.next
    | with_reducible apply OutFrame.ite
    | with_reducible exact Frame.refl _ _
    | with_reducible apply Frame.ite
    | (with_reducible apply State.raise_frame (le := ?le); case le => decide)
    | (with_reducible apply State.setBit_frame (le := ?le); case le => decide))

theorem execNtWrap_frame (s : State) :
    OutFrame 108227129217777792 s (execNtWrap s) := by
  unfold execNtWrap
  try dsimp -proj only
  repeat' (first
    | (with_reducible apply OutFrame.finish (le := ?le); case le => decide)
    | with_reducible exact OutFrame.same
    | with_reducible apply OutFrame.next
    | with_reducible apply OutFrame.ite
    | with_reducible exact Frame.refl _ _
    | with_reducible apply Frame.ite
    | (with_reducible apply State.raise_frame (le := ?le); case le => decide)
    | (with_reducible apply State.setFld_frame (le := ?le); case le => decide)
    | (with_reducible apply Frame.upd_nt (le := ?le); case le => decide))

theorem execTxDone_frame (x0) (x1) (s : State) :
    OutFrame 108367866706133120 s (execTxDone x0 x1 s) := by
  unfold execTxDone
  try dsimp -proj only
  repeat' (first
    | (with_reducible apply OutFrame.finish (le := ?le); case le => decide)
    | with_reducible exact OutFrame.same
    | with_reducible apply OutFrame.next
    | with_reducible apply OutFrame.ite
    | with_reducible exact Frame.refl _ _
    | with_reducible apply Frame.ite
    | (with_reducible apply State.frameLeft_frame (le := ?le); case le => decide)
    | (with_reducible apply State.raise_frame (le := ?le); case le => decide)
    | (with_reducible apply State.setBit_frame (le := ?le); case le => decide)
    | (with_reducible apply State.setFld_frame (le := ?le); case le => decide)
    | split)

end Sys2Proof.Machine
end

