-- ==== Sys2Proof/Laws/FramesSyndrome.lean ====
section
/-!
SUPPORT. The field frames of the operations of Machine/Syndrome.lean: the fields of the state that each may change.
-/
namespace Sys2Proof.Machine

theorem State.roundRecord_frame (s : State) (x0) (x1) (x2) {w : Nat} {s₀ : State} (h : Frame w s₀ s) (le : 108086391080583296 ||| w = w) :
    Frame w s₀ (State.roundRecord s x0 x1 x2) := by
  refine h.step ?_ le
  unfold State.roundRecord
  try dsimp -proj only
  repeat' (first
    | with_reducible exact Frame.refl _ _
    | with_reducible apply Frame.ite
    | (with_reducible apply State.err_frame (le := ?le); case le => decide)
    | (with_reducible apply State.raise_frame (le := ?le); case le => decide)
    | (with_reducible apply State.ringPush_frame (le := ?le); case le => decide))

theorem State.abandonRound_frame (s : State) (x0) {w : Nat} {s₀ : State} (h : Frame w s₀ s) (le : 108098760586395776 ||| w = w) :
    Frame w s₀ (State.abandonRound s x0) := by
  refine h.step ?_ le
  unfold State.abandonRound
  try dsimp -proj only
  repeat' (first
    | with_reducible exact Frame.refl _ _
    | with_reducible apply Frame.ite
    | (with_reducible apply State.feed_frame (le := ?le); case le => decide)
    | (with_reducible apply State.inc_frame (le := ?le); case le => decide)
    | (with_reducible apply State.roundRecord_frame (le := ?le); case le => decide))

theorem State.spoilOpen_frame (s : State) (x0) {w : Nat} {s₀ : State} (h : Frame w s₀ s) (le : 1024 ||| w = w) :
    Frame w s₀ (State.spoilOpen s x0) := by
  refine h.step ?_ le
  unfold State.spoilOpen
  try dsimp -proj only
  repeat' (first
    | with_reducible exact Frame.refl _ _
    | with_reducible apply Frame.ite
    | with_reducible apply Frame.foldl
    | intro _ _
    | (with_reducible apply State.modShot_frame (le := ?le); case le => decide)
    | split)

theorem State.xorFrame_frame (s : State) (x0) (x1) {w : Nat} {s₀ : State} (h : Frame w s₀ s) (le : 128 ||| w = w) :
    Frame w s₀ (State.xorFrame s x0 x1) := by
  refine h.step ?_ le
  unfold State.xorFrame
  try dsimp -proj only
  repeat' (first
    | with_reducible exact Frame.refl _ _
    | (with_reducible apply State.setFld_frame (le := ?le); case le => decide))

theorem State.applyRound_frame (s : State) (x0) (x1) {w : Nat} {s₀ : State} (h : Frame w s₀ s) (le : 2199023256704 ||| w = w) :
    Frame w s₀ (State.applyRound s x0 x1) := by
  refine h.step ?_ le
  unfold State.applyRound
  try dsimp -proj only
  repeat' (first
    | with_reducible exact Frame.refl _ _
    | with_reducible apply Frame.ite
    | with_reducible apply Frame.foldl
    | intro _ _
    | (intro _; try dsimp -proj only)
    | (with_reducible apply State.changeFrame_frame (le := ?le); case le => decide)
    | (with_reducible apply State.spoilOpen_frame (le := ?le); case le => decide)
    | (with_reducible apply State.xorFrame_frame (le := ?le); case le => decide)
    | (with_reducible apply Frame.upd_syn (le := ?le); case le => decide))

theorem State.cmapAccess_frame (s : State) (x0) {w : Nat} {s₀ : State} (h : Frame w s₀ s) (le : 216177180160295040 ||| w = w) :
    Frame w s₀ (State.cmapAccess s x0) := by
  refine h.step ?_ le
  unfold State.cmapAccess
  try dsimp -proj only
  repeat' (first
    | with_reducible exact Frame.refl _ _
    | with_reducible apply Frame.ite
    | (with_reducible apply State.err_frame (le := ?le); case le => decide)
    | (with_reducible apply State.respond_frame (le := ?le); case le => decide)
    | (with_reducible apply State.setFld_frame (le := ?le); case le => decide)
    | split
    | (with_reducible apply Frame.upd_cmap (le := ?le); case le => decide))

theorem State.commitRound_frame (s : State) (x0) {w : Nat} {s₀ : State} (h : Frame w s₀ s) (le : 108098760586396800 ||| w = w) :
    Frame w s₀ (State.commitRound s x0) := by
  refine h.step ?_ le
  unfold State.commitRound
  try dsimp -proj only
  repeat' (first
    | with_reducible exact Frame.refl _ _
    | with_reducible apply Frame.ite
    | (with_reducible apply State.applyRound_frame (le := ?le); case le => decide)
    | (with_reducible apply State.feed_frame (le := ?le); case le => decide)
    | (with_reducible apply State.inc_frame (le := ?le); case le => decide)
    | (with_reducible apply State.raise_frame (le := ?le); case le => decide)
    | (with_reducible apply State.roundRecord_frame (le := ?le); case le => decide)
    | (with_reducible apply State.setFld64_frame (le := ?le); case le => decide)
    | (with_reducible apply Frame.upd_syn (le := ?le); case le => decide))

theorem State.ctFault_frame (s : State) (x0) (x1) {w : Nat} {s₀ : State} (h : Frame w s₀ s) (le : 108086391056892032 ||| w = w) :
    Frame w s₀ (State.ctFault s x0 x1) := by
  refine h.step ?_ le
  unfold State.ctFault
  try dsimp -proj only
  repeat' (first
    | with_reducible exact Frame.refl _ _
    | (with_reducible apply State.err_frame (le := ?le); case le => decide)
    | (with_reducible apply State.raise_frame (le := ?le); case le => decide)
    | split)

theorem State.ctApply_frame (s : State) (x0) (x1) {w : Nat} {s₀ : State} (h : Frame w s₀ s) (le : 108088590080147584 ||| w = w) :
    Frame w s₀ (State.ctApply s x0 x1) := by
  refine h.step ?_ le
  unfold State.ctApply
  try dsimp -proj only
  repeat' (first
    | with_reducible exact Frame.refl _ _
    | (intro _; try dsimp -proj only)
    | (with_reducible apply State.changeFrame_frame (le := ?le); case le => decide)
    | (with_reducible apply State.ctFault_frame (le := ?le); case le => decide)
    | (with_reducible apply State.xorFrame_frame (le := ?le); case le => decide)
    | split
    | (with_reducible apply Frame.upd_syn (le := ?le); case le => decide))

theorem State.ctJoin_frame (s : State) (x0) (x1) (x2) {w : Nat} {s₀ : State} (h : Frame w s₀ s) (le : 108088590080147584 ||| w = w) :
    Frame w s₀ (State.ctJoin s x0 x1 x2) := by
  refine h.step ?_ le
  unfold State.ctJoin
  try dsimp -proj only
  repeat' (first
    | with_reducible exact Frame.refl _ _
    | with_reducible apply Frame.ite
    | (with_reducible apply State.ctFault_frame (le := ?le); case le => decide)
    | (with_reducible apply State.modRounds_frame (le := ?le); case le => decide))

theorem State.ctRefetch_frame (s : State) (x0) {w : Nat} {s₀ : State} (h : Frame w s₀ s) (le : 108086391077896320 ||| w = w) :
    Frame w s₀ (State.ctRefetch s x0) := by
  refine h.step ?_ le
  unfold State.ctRefetch
  try dsimp -proj only
  repeat' (first
    | with_reducible exact Frame.refl _ _
    | (with_reducible apply State.err_frame (le := ?le); case le => decide)
    | (with_reducible apply State.raise_frame (le := ?le); case le => decide)
    | (with_reducible apply State.refetch_frame (le := ?le); case le => decide))

theorem State.ctLateReturn_frame (s : State) (x0) (x1) {w : Nat} {s₀ : State} (h : Frame w s₀ s) (le : 108088590101151872 ||| w = w) :
    Frame w s₀ (State.ctLateReturn s x0 x1) := by
  refine h.step ?_ le
  unfold State.ctLateReturn
  try dsimp -proj only
  repeat' (first
    | with_reducible exact Frame.refl _ _
    | with_reducible apply Frame.ite
    | (with_reducible apply State.ctApply_frame (le := ?le); case le => decide)
    | (with_reducible apply State.ctRefetch_frame (le := ?le); case le => decide)
    | (with_reducible apply Frame.upd_syn (le := ?le); case le => decide))

theorem State.ctRoundReturn_frame (s : State) (x0) (x1) (x2) {w : Nat} {s₀ : State} (h : Frame w s₀ s) (le : 108088590101151872 ||| w = w) :
    Frame w s₀ (State.ctRoundReturn s x0 x1 x2) := by
  refine h.step ?_ le
  unfold State.ctRoundReturn
  try dsimp -proj only
  repeat' (first
    | with_reducible exact Frame.refl _ _
    | with_reducible apply Frame.ite
    | (with_reducible apply State.ctJoin_frame (le := ?le); case le => decide)
    | (with_reducible apply State.ctRefetch_frame (le := ?le); case le => decide)
    | (with_reducible apply State.modRounds_frame (le := ?le); case le => decide))

theorem State.frameClear_frame (s : State) {w : Nat} {s₀ : State} (h : Frame w s₀ s) (le : 2199023255680 ||| w = w) :
    Frame w s₀ (State.frameClear s) := by
  refine h.step ?_ le
  unfold State.frameClear
  try dsimp -proj only
  repeat' (first
    | with_reducible exact Frame.refl _ _
    | with_reducible apply Frame.forN
    | intro _ _
    | (intro _; try dsimp -proj only)
    | (with_reducible apply State.changeFrame_frame (le := ?le); case le => decide)
    | (with_reducible apply State.setFld_frame (le := ?le); case le => decide))

theorem State.frameXor_frame (s : State) (x0) {w : Nat} {s₀ : State} (h : Frame w s₀ s) (le : 2199023255680 ||| w = w) :
    Frame w s₀ (State.frameXor s x0) := by
  refine h.step ?_ le
  unfold State.frameXor
  try dsimp -proj only
  repeat' (first
    | with_reducible exact Frame.refl _ _
    | (intro _; try dsimp -proj only)
    | (with_reducible apply State.changeFrame_frame (le := ?le); case le => decide)
    | (with_reducible apply State.xorFrame_frame (le := ?le); case le => decide))

theorem State.synAbsent_frame (s : State) (x0) {w : Nat} {s₀ : State} (h : Frame w s₀ s) (le : 2199023255552 ||| w = w) :
    Frame w s₀ (State.synAbsent s x0) := by
  refine h.step ?_ le
  unfold State.synAbsent
  try dsimp -proj only
  repeat' (first
    | with_reducible exact Frame.refl _ _
    | (with_reducible apply State.modRounds_frame (le := ?le); case le => decide))

theorem State.synDisable_frame (s : State) {w : Nat} {s₀ : State} (h : Frame w s₀ s) (le : 2199023255680 ||| w = w) :
    Frame w s₀ (State.synDisable s) := by
  refine h.step ?_ le
  unfold State.synDisable
  try dsimp -proj only
  repeat' (first
    | with_reducible exact Frame.refl _ _
    | (with_reducible apply State.setEnable_frame (le := ?le); case le => decide)
    | (with_reducible apply Frame.upd_syn (le := ?le); case le => decide))

theorem State.synEnable_frame (s : State) {w : Nat} {s₀ : State} (h : Frame w s₀ s) (le : 72059793061183616 ||| w = w) :
    Frame w s₀ (State.synEnable s) := by
  refine h.step ?_ le
  unfold State.synEnable
  try dsimp -proj only
  repeat' (first
    | with_reducible exact Frame.refl _ _
    | with_reducible apply Frame.ite
    | (with_reducible apply State.err_frame (le := ?le); case le => decide)
    | (with_reducible apply State.setEnable_frame (le := ?le); case le => decide)
    | (with_reducible apply Frame.upd_syn (le := ?le); case le => decide))

theorem State.synKill_frame (s : State) {w : Nat} {s₀ : State} (h : Frame w s₀ s) (le : 108098760586395776 ||| w = w) :
    Frame w s₀ (State.synKill s) := by
  refine h.step ?_ le
  unfold State.synKill
  try dsimp -proj only
  repeat' (first
    | with_reducible exact Frame.refl _ _
    | with_reducible apply Frame.ite
    | with_reducible apply Frame.foldl
    | intro _ _
    | (with_reducible apply State.abandonRound_frame (le := ?le); case le => decide)
    | (with_reducible apply State.addSat_frame (le := ?le); case le => decide)
    | (with_reducible apply State.raise_frame (le := ?le); case le => decide)
    | (with_reducible apply State.setEnable_frame (le := ?le); case le => decide)
    | (with_reducible apply Frame.upd_syn (le := ?le); case le => decide))

theorem execCtEntryReturn_frame (x0) (x1) (s : State) :
    OutFrame 108088590773682304 s (execCtEntryReturn x0 x1 s) := by
  unfold execCtEntryReturn
  try dsimp -proj only
  repeat' (first
    | (with_reducible apply OutFrame.finish (le := ?le); case le => decide)
    | with_reducible exact OutFrame.same
    | with_reducible apply OutFrame.next
    | with_reducible exact Frame.refl _ _
    | (with_reducible apply State.ctLateReturn_frame (le := ?le); case le => decide)
    | (with_reducible apply State.ctRoundReturn_frame (le := ?le); case le => decide)
    | split)

theorem execCtRefetchComplete_frame (x0) (s : State) :
    OutFrame 108088590752678016 s (execCtRefetchComplete x0 s) := by
  unfold execCtRefetchComplete
  try dsimp -proj only
  repeat' (first
    | (with_reducible apply OutFrame.finish (le := ?le); case le => decide)
    | with_reducible exact OutFrame.same
    | with_reducible apply OutFrame.next
    | with_reducible apply OutFrame.ite
    | with_reducible exact Frame.refl _ _
    | with_reducible apply Frame.ite
    | with_reducible apply Frame.getD
    | intro _ _
    | (with_reducible apply State.ctApply_frame (le := ?le); case le => decide)
    | (with_reducible apply State.ctJoin_frame (le := ?le); case le => decide)
    | split)

theorem execRoundCommit_frame (s : State) :
    OutFrame 108098761258927232 s (execRoundCommit s) := by
  unfold execRoundCommit
  try dsimp -proj only
  repeat' (first
    | (with_reducible apply OutFrame.finish (le := ?le); case le => decide)
    | with_reducible exact OutFrame.same
    | with_reducible apply OutFrame.next
    | with_reducible apply OutFrame.ite
    | with_reducible exact Frame.refl _ _
    | with_reducible apply Frame.ite
    | (with_reducible apply State.commitRound_frame (le := ?le); case le => decide)
    | split)

theorem execRoundDeadline_frame (s : State) :
    OutFrame 108088590752678016 s (execRoundDeadline s) := by
  unfold execRoundDeadline
  try dsimp -proj only
  repeat' (first
    | (with_reducible apply OutFrame.finish (le := ?le); case le => decide)
    | with_reducible exact OutFrame.same
    | with_reducible apply OutFrame.next
    | with_reducible apply OutFrame.ite
    | with_reducible exact Frame.refl _ _
    | with_reducible apply Frame.ite
    | (with_reducible apply State.modRounds_frame (le := ?le); case le => decide)
    | (with_reducible apply State.raise_frame (le := ?le); case le => decide)
    | split)

theorem execRoundStart_frame (s : State) :
    OutFrame 108088590752678016 s (execRoundStart s) := by
  unfold execRoundStart
  try dsimp -proj only
  repeat' (first
    | (with_reducible apply OutFrame.finish (le := ?le); case le => decide)
    | with_reducible exact OutFrame.same
    | with_reducible apply OutFrame.next
    | with_reducible apply OutFrame.ite
    | with_reducible exact Frame.refl _ _
    | with_reducible apply Frame.ite
    | split
    | (with_reducible apply Frame.upd_syn (le := ?le); case le => decide))

end Sys2Proof.Machine
end

