-- ==== Sys2Proof/Laws/FramesJency.lean ====
section
/-!
SUPPORT. The field frames of the operations of Machine/Jency.lean: the fields of the state that each may change.
-/
namespace Sys2Proof.Machine

theorem State.holdChange_frame (s : State) (x0) (x1) (x2) {w : Nat} {s₀ : State} (h : Frame w s₀ s) (le : 17592186044544 ||| w = w) :
    Frame w s₀ (State.holdChange s x0 x1 x2) := by
  refine h.step ?_ le
  unfold State.holdChange
  try dsimp -proj only
  repeat' (first
    | with_reducible exact Frame.refl _ _
    | (with_reducible apply State.setFld_frame (le := ?le); case le => decide)
    | (with_reducible apply Frame.upd_mesh (le := ?le); case le => decide))

theorem State.refuseChange_frame (s : State) (x0) {w : Nat} {s₀ : State} (h : Frame w s₀ s) (le : 108086391056892032 ||| w = w) :
    Frame w s₀ (State.refuseChange s x0) := by
  refine h.step ?_ le
  unfold State.refuseChange
  try dsimp -proj only
  repeat' (first
    | with_reducible exact Frame.refl _ _
    | (with_reducible apply State.err_frame (le := ?le); case le => decide)
    | (with_reducible apply State.raise_frame (le := ?le); case le => decide)
    | (with_reducible apply State.setFld_frame (le := ?le); case le => decide))

theorem State.announceChange_frame (s : State) {w : Nat} {s₀ : State} (h : Frame w s₀ s) (le : 108103983242936448 ||| w = w) :
    Frame w s₀ (State.announceChange s) := by
  refine h.step ?_ le
  unfold State.announceChange
  try dsimp -proj only
  repeat' (first
    | with_reducible exact Frame.refl _ _
    | with_reducible apply Frame.ite
    | (with_reducible apply State.holdChange_frame (le := ?le); case le => decide)
    | (with_reducible apply State.refuseChange_frame (le := ?le); case le => decide))

theorem State.resetCopies_frame (s : State) (x0) (x1) {w : Nat} {s₀ : State} (h : Frame w s₀ s) (le : 1649267441664 ||| w = w) :
    Frame w s₀ (State.resetCopies s x0 x1) := by
  refine h.step ?_ le
  unfold State.resetCopies
  try dsimp -proj only
  repeat' (first
    | with_reducible exact Frame.refl _ _
    | with_reducible apply Frame.ite
    | with_reducible apply Frame.foldl
    | intro _ _
    | (with_reducible apply State.putCopy_frame (le := ?le); case le => decide))

theorem State.depart_frame (s : State) (x0) {w : Nat} {s₀ : State} (h : Frame w s₀ s) (le : 12644383719424 ||| w = w) :
    Frame w s₀ (State.depart s x0) := by
  refine h.step ?_ le
  unfold State.depart
  try dsimp -proj only
  repeat' (first
    | with_reducible exact Frame.refl _ _
    | with_reducible apply Frame.foldl
    | intro _ _
    | (with_reducible apply State.modPort_frame (le := ?le); case le => decide)
    | (with_reducible apply State.resetCopies_frame (le := ?le); case le => decide)
    | (with_reducible apply State.synAbsent_frame (le := ?le); case le => decide))

theorem State.applyChange_frame (s : State) (x0) {w : Nat} {s₀ : State} (h : Frame w s₀ s) (le : 36059033588727936 ||| w = w) :
    Frame w s₀ (State.applyChange s x0) := by
  refine h.step ?_ le
  unfold State.applyChange
  try dsimp -proj only
  repeat' (first
    | with_reducible exact Frame.refl _ _
    | with_reducible apply Frame.ite
    | with_reducible apply Frame.foldl
    | intro _ _
    | (with_reducible apply State.depart_frame (le := ?le); case le => decide)
    | (with_reducible apply State.raise_frame (le := ?le); case le => decide)
    | (with_reducible apply State.resetCopies_frame (le := ?le); case le => decide)
    | (with_reducible apply State.setBit_frame (le := ?le); case le => decide)
    | (with_reducible apply State.setFld_frame (le := ?le); case le => decide)
    | (with_reducible apply Frame.upd_mesh (le := ?le); case le => decide))

theorem State.dropPending_frame (s : State) (x0) {w : Nat} {s₀ : State} (h : Frame w s₀ s) (le : 8796093022336 ||| w = w) :
    Frame w s₀ (State.dropPending s x0) := by
  refine h.step ?_ le
  unfold State.dropPending
  try dsimp -proj only
  repeat' (first
    | with_reducible exact Frame.refl _ _
    | (with_reducible apply State.addSat_frame (le := ?le); case le => decide)
    | (with_reducible apply State.modPort_frame (le := ?le); case le => decide))

theorem State.setPState_frame (s : State) (x0) (x1) {w : Nat} {s₀ : State} (h : Frame w s₀ s) (le : 128 ||| w = w) :
    Frame w s₀ (State.setPState s x0 x1) := by
  refine h.step ?_ le
  unfold State.setPState
  try dsimp -proj only
  repeat' (first
    | with_reducible exact Frame.refl _ _
    | (with_reducible apply State.setFld_frame (le := ?le); case le => decide))

theorem State.portDown_frame (s : State) (x0) {w : Nat} {s₀ : State} (h : Frame w s₀ s) (le : 8796093022336 ||| w = w) :
    Frame w s₀ (State.portDown s x0) := by
  refine h.step ?_ le
  unfold State.portDown
  try dsimp -proj only
  repeat' (first
    | with_reducible exact Frame.refl _ _
    | with_reducible apply Frame.ite
    | (with_reducible apply State.modPort_frame (le := ?le); case le => decide)
    | (with_reducible apply State.setPState_frame (le := ?le); case le => decide))

theorem State.linkLost_frame (s : State) (x0) {w : Nat} {s₀ : State} (h : Frame w s₀ s) (le : 36037593111986304 ||| w = w) :
    Frame w s₀ (State.linkLost s x0) := by
  refine h.step ?_ le
  unfold State.linkLost
  try dsimp -proj only
  repeat' (first
    | with_reducible exact Frame.refl _ _
    | (with_reducible apply State.dropPending_frame (le := ?le); case le => decide)
    | (with_reducible apply State.portDown_frame (le := ?le); case le => decide)
    | (with_reducible apply State.raise_frame (le := ?le); case le => decide))

theorem State.badFlit_frame (s : State) (x0) (x1) {w : Nat} {s₀ : State} (h : Frame w s₀ s) (le : 36037593111986304 ||| w = w) :
    Frame w s₀ (State.badFlit s x0 x1) := by
  refine h.step ?_ le
  unfold State.badFlit
  try dsimp -proj only
  repeat' (first
    | with_reducible exact Frame.refl _ _
    | with_reducible apply Frame.ite
    | (with_reducible apply State.inc_frame (le := ?le); case le => decide)
    | (with_reducible apply State.linkLost_frame (le := ?le); case le => decide)
    | (with_reducible apply State.modPort_frame (le := ?le); case le => decide)
    | (with_reducible apply State.raise_frame (le := ?le); case le => decide))

theorem State.brxTake_frame (s : State) (x0) (x1) {w : Nat} {s₀ : State} (h : Frame w s₀ s) (le : 36037593111986304 ||| w = w) :
    Frame w s₀ (State.brxTake s x0 x1) := by
  refine h.step ?_ le
  unfold State.brxTake
  try dsimp -proj only
  repeat' (first
    | with_reducible exact Frame.refl _ _
    | with_reducible apply Frame.ite
    | with_reducible apply Frame.foldl
    | intro _ _
    | (with_reducible apply State.modPort_frame (le := ?le); case le => decide)
    | (with_reducible apply State.raise_frame (le := ?le); case le => decide)
    | (with_reducible apply State.setBit_frame (le := ?le); case le => decide)
    | (with_reducible apply State.setFld_frame (le := ?le); case le => decide))

theorem State.btxGo_frame (s : State) (x0) {w : Nat} {s₀ : State} (h : Frame w s₀ s) (le : 72066390130950272 ||| w = w) :
    Frame w s₀ (State.btxGo s x0) := by
  refine h.step ?_ le
  unfold State.btxGo
  try dsimp -proj only
  repeat' (first
    | with_reducible exact Frame.refl _ _
    | with_reducible apply Frame.ite
    | (with_reducible apply State.err_frame (le := ?le); case le => decide)
    | (with_reducible apply State.modPort_frame (le := ?le); case le => decide))

theorem State.bulkDrop_frame (s : State) (x0) {w : Nat} {s₀ : State} (h : Frame w s₀ s) (le : 36037593111986304 ||| w = w) :
    Frame w s₀ (State.bulkDrop s x0) := by
  refine h.step ?_ le
  unfold State.bulkDrop
  try dsimp -proj only
  repeat' (first
    | with_reducible exact Frame.refl _ _
    | (with_reducible apply State.inc_frame (le := ?le); case le => decide)
    | (with_reducible apply State.modPort_frame (le := ?le); case le => decide)
    | (with_reducible apply State.raise_frame (le := ?le); case le => decide))

theorem State.bulkLost_frame (s : State) (x0) {w : Nat} {s₀ : State} (h : Frame w s₀ s) (le : 36037593111986304 ||| w = w) :
    Frame w s₀ (State.bulkLost s x0) := by
  refine h.step ?_ le
  unfold State.bulkLost
  try dsimp -proj only
  repeat' (first
    | with_reducible exact Frame.refl _ _
    | with_reducible apply Frame.ite
    | (with_reducible apply State.bulkDrop_frame (le := ?le); case le => decide))

theorem State.changeDone_frame (s : State) (x0) (x1) {w : Nat} {s₀ : State} (h : Frame w s₀ s) (le : 36059033588727936 ||| w = w) :
    Frame w s₀ (State.changeDone s x0 x1) := by
  refine h.step ?_ le
  unfold State.changeDone
  try dsimp -proj only
  repeat' (first
    | with_reducible exact Frame.refl _ _
    | with_reducible apply Frame.ite
    | (with_reducible apply State.applyChange_frame (le := ?le); case le => decide)
    | (with_reducible apply State.raise_frame (le := ?le); case le => decide))

theorem State.chargeBulk_frame (s : State) (x0) {t : State} (e : State.chargeBulk s x0 = some t) {w : Nat} {s₀ : State} (h : Frame w s₀ s) (le : 32768 ||| w = w) :
    Frame w s₀ t := by
  refine h.step ?_ le
  unfold State.chargeBulk at e
  try dsimp -proj only at e
  repeat' split at e
  all_goals first | (cases e; done) | (injection e with e; subst e) | skip
  repeat' (first
    | with_reducible exact Frame.refl _ _
    | with_reducible apply Frame.ite
    | (with_reducible apply State.useUnits_frame (le := ?le); case le => decide))

theorem State.takeDec_frame (s : State) (x0) {w : Nat} {s₀ : State} (h : Frame w s₀ s) (le : 36041441402683520 ||| w = w) :
    Frame w s₀ (State.takeDec s x0) := by
  refine h.step ?_ le
  unfold State.takeDec
  try dsimp -proj only
  repeat' (first
    | with_reducible exact Frame.refl _ _
    | with_reducible apply Frame.ite
    | (with_reducible apply State.inc_frame (le := ?le); case le => decide)
    | (with_reducible apply State.pendDecs_frame (le := ?le); case le => decide)
    | (with_reducible apply State.raise_frame (le := ?le); case le => decide)
    | (with_reducible apply State.writeCopy_frame (le := ?le); case le => decide))

theorem State.pendEv_frame (s : State) (x0) (x1) (x2) {w : Nat} {s₀ : State} (h : Frame w s₀ s) (le : 8796093022208 ||| w = w) :
    Frame w s₀ (State.pendEv s x0 x1 x2) := by
  refine h.step ?_ le
  unfold State.pendEv
  try dsimp -proj only
  repeat' (first
    | with_reducible exact Frame.refl _ _
    | with_reducible apply Frame.ite
    | (with_reducible apply State.modPort_frame (le := ?le); case le => decide))

theorem State.takeEv_frame (s : State) (x0) (x1) {w : Nat} {s₀ : State} (h : Frame w s₀ s) (le : 36037593246204032 ||| w = w) :
    Frame w s₀ (State.takeEv s x0 x1) := by
  refine h.step ?_ le
  unfold State.takeEv
  try dsimp -proj only
  repeat' (first
    | with_reducible exact Frame.refl _ _
    | with_reducible apply Frame.ite
    | with_reducible apply Frame.foldl
    | intro _ _
    | (with_reducible apply State.pendEv_frame (le := ?le); case le => decide)
    | (with_reducible apply State.publish_frame (le := ?le); case le => decide))

theorem State.takeRennet_frame (s : State) (x0) (x1) {w : Nat} {s₀ : State} (h : Frame w s₀ s) (le : 36055185298030720 ||| w = w) :
    Frame w s₀ (State.takeRennet s x0 x1) := by
  refine h.step ?_ le
  unfold State.takeRennet
  try dsimp -proj only
  repeat' (first
    | with_reducible exact Frame.refl _ _
    | with_reducible apply Frame.ite
    | with_reducible apply Frame.foldl
    | intro _ _
    | (with_reducible apply State.addRennet_frame (le := ?le); case le => decide)
    | (with_reducible apply State.inc_frame (le := ?le); case le => decide)
    | (with_reducible apply State.queueRennet_frame (le := ?le); case le => decide)
    | (with_reducible apply State.raise_frame (le := ?le); case le => decide))

theorem State.takeFlit_frame (s : State) (x0) (x1) (x2) {w : Nat} {s₀ : State} (h : Frame w s₀ s) (le : 36059034259816576 ||| w = w) :
    Frame w s₀ (State.takeFlit s x0 x1 x2) := by
  refine h.step ?_ le
  unfold State.takeFlit
  try dsimp -proj only
  repeat' (first
    | with_reducible exact Frame.refl _ _
    | with_reducible apply Frame.ite
    | with_reducible apply Frame.foldl
    | intro _ _
    | (with_reducible apply State.modPort_frame (le := ?le); case le => decide)
    | (with_reducible apply State.newWindow_frame (le := ?le); case le => decide)
    | (with_reducible apply State.takeDec_frame (le := ?le); case le => decide)
    | (with_reducible apply State.takeEv_frame (le := ?le); case le => decide)
    | (with_reducible apply State.takeRennet_frame (le := ?le); case le => decide))

theorem State.tlchk_frame (s : State) (x0) (x1) {w : Nat} {s₀ : State} (h : Frame w s₀ s) (le : 36028797018964096 ||| w = w) :
    Frame w s₀ (State.tlchk s x0 x1) := by
  refine h.step ?_ le
  unfold State.tlchk
  try dsimp -proj only
  repeat' (first
    | with_reducible exact Frame.refl _ _
    | with_reducible apply Frame.ite
    | (with_reducible apply State.raise_frame (le := ?le); case le => decide)
    | (with_reducible apply State.setBit_frame (le := ?le); case le => decide)
    | (with_reducible apply State.setFld_frame (le := ?le); case le => decide))

theorem State.goodFlit_frame (s : State) (x0) (x1) (x2) {w : Nat} {s₀ : State} (h : Frame w s₀ s) (le : 36059034259816576 ||| w = w) :
    Frame w s₀ (State.goodFlit s x0 x1 x2) := by
  refine h.step ?_ le
  unfold State.goodFlit
  try dsimp -proj only
  repeat' (first
    | with_reducible exact Frame.refl _ _
    | with_reducible apply Frame.ite
    | (with_reducible apply State.inc_frame (le := ?le); case le => decide)
    | (with_reducible apply State.modPort_frame (le := ?le); case le => decide)
    | (with_reducible apply State.takeFlit_frame (le := ?le); case le => decide)
    | (with_reducible apply State.tlchk_frame (le := ?le); case le => decide)
    | split)

theorem State.readStatus_frame (s : State) (x0) (x1) (x2) {w : Nat} {s₀ : State} (h : Frame w s₀ s) (le : 8796093022208 ||| w = w) :
    Frame w s₀ (State.readStatus s x0 x1 x2) := by
  refine h.step ?_ le
  unfold State.readStatus
  try dsimp -proj only
  repeat' (first
    | with_reducible exact Frame.refl _ _
    | with_reducible apply Frame.ite
    | (with_reducible apply State.modPort_frame (le := ?le); case le => decide)
    | split)

theorem State.deliverFlit_frame (s : State) (x0) (x1) (x2) (x3) {w : Nat} {s₀ : State} (h : Frame w s₀ s) (le : 36059034259816576 ||| w = w) :
    Frame w s₀ (State.deliverFlit s x0 x1 x2 x3) := by
  refine h.step ?_ le
  unfold State.deliverFlit
  try dsimp -proj only
  repeat' (first
    | with_reducible exact Frame.refl _ _
    | with_reducible apply Frame.ite
    | (with_reducible apply State.badFlit_frame (le := ?le); case le => decide)
    | (with_reducible apply State.goodFlit_frame (le := ?le); case le => decide)
    | (with_reducible apply State.modPort_frame (le := ?le); case le => decide)
    | (with_reducible apply State.raise_frame (le := ?le); case le => decide)
    | (with_reducible apply State.readStatus_frame (le := ?le); case le => decide))

theorem State.dropChange_frame (s : State) (x0) {w : Nat} {s₀ : State} (h : Frame w s₀ s) (le : 108103983242936448 ||| w = w) :
    Frame w s₀ (State.dropChange s x0) := by
  refine h.step ?_ le
  unfold State.dropChange
  try dsimp -proj only
  repeat' (first
    | with_reducible exact Frame.refl _ _
    | with_reducible apply Frame.ite
    | (with_reducible apply State.refuseChange_frame (le := ?le); case le => decide)
    | (with_reducible apply State.setFld_frame (le := ?le); case le => decide)
    | (with_reducible apply Frame.upd_mesh (le := ?le); case le => decide))

theorem State.exportEv_frame (s : State) (x0) {w : Nat} {s₀ : State} (h : Frame w s₀ s) (le : 8796093022208 ||| w = w) :
    Frame w s₀ (State.exportEv s x0) := by
  refine h.step ?_ le
  unfold State.exportEv
  try dsimp -proj only
  repeat' (first
    | with_reducible exact Frame.refl _ _
    | with_reducible apply Frame.ite
    | with_reducible apply Frame.foldl
    | intro _ _
    | (with_reducible apply State.pendEv_frame (le := ?le); case le => decide))

theorem State.hearTrain_frame (s : State) (x0) (x1) (x2) {w : Nat} {s₀ : State} (h : Frame w s₀ s) (le : 8796093022208 ||| w = w) :
    Frame w s₀ (State.hearTrain s x0 x1 x2) := by
  refine h.step ?_ le
  unfold State.hearTrain
  try dsimp -proj only
  repeat' (first
    | with_reducible exact Frame.refl _ _
    | with_reducible apply Frame.ite
    | (with_reducible apply State.modPort_frame (le := ?le); case le => decide))

theorem State.jportKill_frame (s : State) (x0) {w : Nat} {s₀ : State} (h : Frame w s₀ s) (le : 36037593111986304 ||| w = w) :
    Frame w s₀ (State.jportKill s x0) := by
  refine h.step ?_ le
  unfold State.jportKill
  try dsimp -proj only
  repeat' (first
    | with_reducible exact Frame.refl _ _
    | (with_reducible apply State.addSat_frame (le := ?le); case le => decide)
    | (with_reducible apply State.modPort_frame (le := ?le); case le => decide)
    | (with_reducible apply State.raise_frame (le := ?le); case le => decide)
    | (with_reducible apply State.setEnable_frame (le := ?le); case le => decide)
    | split)

theorem State.sendFlit_frame (s : State) (x0) (x1) (x2) {w : Nat} {s₀ : State} (h : Frame w s₀ s) (le : 8796093022208 ||| w = w) :
    Frame w s₀ (State.sendFlit s x0 x1 x2) := by
  refine h.step ?_ le
  unfold State.sendFlit
  try dsimp -proj only
  repeat' (first
    | with_reducible exact Frame.refl _ _
    | (with_reducible apply State.modPort_frame (le := ?le); case le => decide))

theorem State.launch_frame (s : State) (x0) (x1) (x2) (x3) {w : Nat} {s₀ : State} (h : Frame w s₀ s) (le : 8796093022336 ||| w = w) :
    Frame w s₀ (State.launch s x0 x1 x2 x3) := by
  refine h.step ?_ le
  unfold State.launch
  try dsimp -proj only
  repeat' (first
    | with_reducible exact Frame.refl _ _
    | with_reducible apply Frame.ite
    | (with_reducible apply State.inc_frame (le := ?le); case le => decide)
    | (with_reducible apply State.modPort_frame (le := ?le); case le => decide)
    | (with_reducible apply State.sendFlit_frame (le := ?le); case le => decide))

theorem State.portSwitch_frame (s : State) (x0) (x1) {w : Nat} {s₀ : State} (h : Frame w s₀ s) (le : 8796093022336 ||| w = w) :
    Frame w s₀ (State.portSwitch s x0 x1) := by
  refine h.step ?_ le
  unfold State.portSwitch
  try dsimp -proj only
  repeat' (first
    | with_reducible exact Frame.refl _ _
    | with_reducible apply Frame.ite
    | (with_reducible apply State.modPort_frame (le := ?le); case le => decide)
    | (with_reducible apply State.portDown_frame (le := ?le); case le => decide))

theorem State.portsFollow_frame (s : State) {w : Nat} {s₀ : State} (h : Frame w s₀ s) (le : 8796093022336 ||| w = w) :
    Frame w s₀ (State.portsFollow s) := by
  refine h.step ?_ le
  unfold State.portsFollow
  try dsimp -proj only
  repeat' (first
    | with_reducible exact Frame.refl _ _
    | with_reducible apply Frame.ite
    | with_reducible apply Frame.foldl
    | intro _ _
    | (with_reducible apply State.modPort_frame (le := ?le); case le => decide)
    | (with_reducible apply State.portDown_frame (le := ?le); case le => decide)
    | (with_reducible apply State.setPState_frame (le := ?le); case le => decide))

theorem State.portsWritten_frame (s : State) (x0) (x1) {w : Nat} {s₀ : State} (h : Frame w s₀ s) (le : 8796093022336 ||| w = w) :
    Frame w s₀ (State.portsWritten s x0 x1) := by
  refine h.step ?_ le
  unfold State.portsWritten
  try dsimp -proj only
  repeat' (first
    | with_reducible exact Frame.refl _ _
    | with_reducible apply Frame.ite
    | with_reducible apply Frame.foldl
    | intro _ _
    | (with_reducible apply State.dropPending_frame (le := ?le); case le => decide)
    | (with_reducible apply State.portDown_frame (le := ?le); case le => decide)
    | (with_reducible apply State.portSwitch_frame (le := ?le); case le => decide))

theorem State.takeBulk_frame (s : State) (x0) {w : Nat} {s₀ : State} (h : Frame w s₀ s) (le : 36037593112019072 ||| w = w) :
    Frame w s₀ (State.takeBulk s x0).2 := by
  refine h.step ?_ le
  unfold State.takeBulk
  try dsimp -proj only
  repeat' (first
    | with_reducible exact Frame.refl _ _
    | with_reducible apply Frame.ite
    | (with_reducible apply State.chargeBulk_frame (le := ?le) (e := by assumption); case le => decide)
    | (with_reducible apply State.chargeBulk_frame (le := ?le) (e := Frame.some_ite (by assumption)); case le => decide)
    | (with_reducible apply State.modPort_frame (le := ?le); case le => decide)
    | (with_reducible apply State.raise_frame (le := ?le); case le => decide)
    | split)

theorem State.takeContent_frame (s : State) (x0) {w : Nat} {s₀ : State} (h : Frame w s₀ s) (le : 36037593112019072 ||| w = w) :
    Frame w s₀ (State.takeContent s x0).2 := by
  refine h.step ?_ le
  unfold State.takeContent
  try dsimp -proj only
  repeat' (first
    | with_reducible exact Frame.refl _ _
    | (with_reducible apply State.modPort_frame (le := ?le); case le => decide)
    | (with_reducible apply State.takeBulk_frame (le := ?le); case le => decide)
    | split)

theorem State.trainBegin_frame (s : State) (x0) {w : Nat} {s₀ : State} (h : Frame w s₀ s) (le : 8796093022336 ||| w = w) :
    Frame w s₀ (State.trainBegin s x0) := by
  refine h.step ?_ le
  unfold State.trainBegin
  try dsimp -proj only
  repeat' (first
    | with_reducible exact Frame.refl _ _
    | (with_reducible apply State.modPort_frame (le := ?le); case le => decide)
    | (with_reducible apply State.setPState_frame (le := ?le); case le => decide))

theorem State.trainBlocks_frame (s : State) (x0) (x1) (x2) {w : Nat} {s₀ : State} (h : Frame w s₀ s) (le : 8796093022208 ||| w = w) :
    Frame w s₀ (State.trainBlocks s x0 x1 x2) := by
  refine h.step ?_ le
  unfold State.trainBlocks
  try dsimp -proj only
  repeat' (first
    | with_reducible exact Frame.refl _ _
    | with_reducible apply Frame.ite
    | (with_reducible apply State.hearTrain_frame (le := ?le); case le => decide)
    | (with_reducible apply State.modPort_frame (le := ?le); case le => decide))

theorem State.trainFail_frame (s : State) (x0) (x1) {w : Nat} {s₀ : State} (h : Frame w s₀ s) (le : 108095187149914240 ||| w = w) :
    Frame w s₀ (State.trainFail s x0 x1) := by
  refine h.step ?_ le
  unfold State.trainFail
  try dsimp -proj only
  repeat' (first
    | with_reducible exact Frame.refl _ _
    | (with_reducible apply State.err_frame (le := ?le); case le => decide)
    | (with_reducible apply State.modPort_frame (le := ?le); case le => decide)
    | (with_reducible apply State.portDown_frame (le := ?le); case le => decide)
    | (with_reducible apply State.raise_frame (le := ?le); case le => decide))

theorem State.useChunk_frame (s : State) (x0) (x1) {w : Nat} {s₀ : State} (h : Frame w s₀ s) (le : 36037593111986304 ||| w = w) :
    Frame w s₀ (State.useChunk s x0 x1) := by
  refine h.step ?_ le
  unfold State.useChunk
  try dsimp -proj only
  repeat' (first
    | with_reducible exact Frame.refl _ _
    | with_reducible apply Frame.ite
    | (with_reducible apply State.brxTake_frame (le := ?le); case le => decide)
    | (with_reducible apply State.bulkDrop_frame (le := ?le); case le => decide)
    | (with_reducible apply State.bulkLost_frame (le := ?le); case le => decide)
    | (with_reducible apply State.modPort_frame (le := ?le); case le => decide)
    | split)

theorem execBulkChunkRelease_frame (x0) (s : State) :
    OutFrame 108095187822444672 s (execBulkChunkRelease x0 s) := by
  unfold execBulkChunkRelease
  try dsimp -proj only
  repeat' (first
    | (with_reducible apply OutFrame.finish (le := ?le); case le => decide)
    | with_reducible exact OutFrame.same
    | with_reducible apply OutFrame.next
    | with_reducible apply OutFrame.ite
    | with_reducible exact Frame.refl _ _
    | with_reducible apply Frame.ite
    | (with_reducible apply State.modPort_frame (le := ?le); case le => decide)
    | (with_reducible apply State.useChunk_frame (le := ?le); case le => decide)
    | split)

theorem execEpochBoundary_frame (x0) (s : State) :
    OutFrame 108116628299186312 s (execEpochBoundary x0 s) := by
  unfold execEpochBoundary
  try dsimp -proj only
  repeat' (first
    | (with_reducible apply OutFrame.finish (le := ?le); case le => decide)
    | with_reducible exact OutFrame.same
    | with_reducible apply OutFrame.next
    | with_reducible apply OutFrame.ite
    | with_reducible exact Frame.refl _ _
    | with_reducible apply Frame.ite
    | (with_reducible apply State.changeDone_frame (le := ?le); case le => decide)
    | (with_reducible apply State.dropChange_frame (le := ?le); case le => decide)
    | (with_reducible apply State.portsFollow_frame (le := ?le); case le => decide)
    | split
    | (with_reducible apply Frame.upd_epochAt (le := ?le); case le => decide))

theorem execFlitLost_frame (x0) (s : State) :
    OutFrame 108095187822444672 s (execFlitLost x0 s) := by
  unfold execFlitLost
  try dsimp -proj only
  repeat' (first
    | (with_reducible apply OutFrame.finish (le := ?le); case le => decide)
    | with_reducible exact OutFrame.same
    | with_reducible apply OutFrame.next
    | with_reducible apply OutFrame.ite
    | with_reducible exact Frame.refl _ _
    | with_reducible apply Frame.ite
    | (with_reducible apply State.bulkLost_frame (le := ?le); case le => decide)
    | (with_reducible apply State.inc_frame (le := ?le); case le => decide)
    | (with_reducible apply State.modPort_frame (le := ?le); case le => decide)
    | (with_reducible apply State.raise_frame (le := ?le); case le => decide)
    | split)

theorem execJencyFlitDelivery_frame (x0) (x1) (x2) (x3) (x4) (x5) (s : State) :
    OutFrame 108116628299186304 s (execJencyFlitDelivery x0 x1 x2 x3 x4 x5 s) := by
  unfold execJencyFlitDelivery
  try dsimp -proj only
  repeat' (first
    | (with_reducible apply OutFrame.finish (le := ?le); case le => decide)
    | with_reducible exact OutFrame.same
    | with_reducible apply OutFrame.next
    | with_reducible apply OutFrame.ite
    | with_reducible exact Frame.refl _ _
    | with_reducible apply Frame.ite
    | (with_reducible apply State.deliverFlit_frame (le := ?le); case le => decide)
    | (with_reducible apply State.linkLost_frame (le := ?le); case le => decide)
    | (with_reducible apply State.modPort_frame (le := ?le); case le => decide)
    | (with_reducible apply State.trainBlocks_frame (le := ?le); case le => decide))

theorem execJencyFlitLaunch_frame (x0) (s : State) :
    OutFrame 108095187822477440 s (execJencyFlitLaunch x0 s) := by
  unfold execJencyFlitLaunch
  try dsimp -proj only
  repeat' (first
    | (with_reducible apply OutFrame.finish (le := ?le); case le => decide)
    | with_reducible exact OutFrame.same
    | with_reducible apply OutFrame.next
    | with_reducible apply OutFrame.ite
    | with_reducible exact Frame.refl _ _
    | with_reducible apply Frame.ite
    | (with_reducible apply State.launch_frame (le := ?le); case le => decide)
    | (with_reducible apply State.modPort_frame (le := ?le); case le => decide)
    | (with_reducible apply State.sendFlit_frame (le := ?le); case le => decide)
    | (with_reducible apply State.takeContent_frame (le := ?le); case le => decide)
    | split)

theorem execMembershipArm_frame (x0) (s : State) :
    OutFrame 108103983915466880 s (execMembershipArm x0 s) := by
  unfold execMembershipArm
  try dsimp -proj only
  repeat' (first
    | (with_reducible apply OutFrame.finish (le := ?le); case le => decide)
    | with_reducible exact OutFrame.same
    | with_reducible apply OutFrame.next
    | with_reducible apply OutFrame.ite
    | with_reducible exact Frame.refl _ _
    | with_reducible apply Frame.ite
    | (with_reducible apply State.dropChange_frame (le := ?le); case le => decide)
    | (with_reducible apply State.holdChange_frame (le := ?le); case le => decide)
    | (with_reducible apply State.setFld_frame (le := ?le); case le => decide)
    | split
    | (with_reducible apply Frame.upd_mesh (le := ?le); case le => decide))

theorem execPortLinked_frame (x0) (x1) (s : State) :
    OutFrame 108095187822444672 s (execPortLinked x0 x1 s) := by
  unfold execPortLinked
  try dsimp -proj only
  repeat' (first
    | (with_reducible apply OutFrame.finish (le := ?le); case le => decide)
    | with_reducible exact OutFrame.same
    | with_reducible apply OutFrame.next
    | with_reducible apply OutFrame.ite
    | with_reducible exact Frame.refl _ _
    | with_reducible apply Frame.ite
    | (with_reducible apply State.raise_frame (le := ?le); case le => decide)
    | (with_reducible apply State.setBit_frame (le := ?le); case le => decide)
    | (with_reducible apply State.setFld_frame (le := ?le); case le => decide)
    | (with_reducible apply State.setPState_frame (le := ?le); case le => decide)
    | (with_reducible apply State.trainFail_frame (le := ?le); case le => decide)
    | split)

theorem execPortTrainingStart_frame (x0) (s : State) :
    OutFrame 108095187822444672 s (execPortTrainingStart x0 s) := by
  unfold execPortTrainingStart
  try dsimp -proj only
  repeat' (first
    | (with_reducible apply OutFrame.finish (le := ?le); case le => decide)
    | with_reducible exact OutFrame.same
    | with_reducible apply OutFrame.next
    | with_reducible apply OutFrame.ite
    | with_reducible exact Frame.refl _ _
    | with_reducible apply Frame.ite
    | (with_reducible apply State.trainBegin_frame (le := ?le); case le => decide))

theorem execTrainRetry_frame (x0) (s : State) :
    OutFrame 108095187822444672 s (execTrainRetry x0 s) := by
  unfold execTrainRetry
  try dsimp -proj only
  repeat' (first
    | (with_reducible apply OutFrame.finish (le := ?le); case le => decide)
    | with_reducible exact OutFrame.same
    | with_reducible apply OutFrame.next
    | with_reducible apply OutFrame.ite
    | with_reducible exact Frame.refl _ _
    | with_reducible apply Frame.ite
    | (with_reducible apply State.modPort_frame (le := ?le); case le => decide)
    | (with_reducible apply State.trainBegin_frame (le := ?le); case le => decide)
    | split)

end Sys2Proof.Machine
end

