-- ==== Sys2Proof/Laws/FramesOutput.lean ====
section
/-!
SUPPORT. The field frames of the operations of Machine/Output.lean: the fields of the state that each may change.
-/
namespace Sys2Proof.Machine

theorem State.toneGuard_frame (s : State) (x0) (x1) (x2) {w : Nat} {s₀ : State} (h : Frame w s₀ s) (le : 108086391056893056 ||| w = w) :
    Frame w s₀ (State.toneGuard s x0 x1 x2) := by
  refine h.step ?_ le
  unfold State.toneGuard
  try dsimp -proj only
  repeat' (first
    | with_reducible exact Frame.refl _ _
    | (with_reducible apply State.charge_frame (le := ?le); case le => decide)
    | (with_reducible apply State.err_frame (le := ?le); case le => decide)
    | (with_reducible apply State.inc_frame (le := ?le); case le => decide)
    | (with_reducible apply State.raise_frame (le := ?le); case le => decide)
    | split)

theorem State.toneStep_frame (s : State) (x0) (x1) (x2) (x3) {w : Nat} {s₀ : State} (h : Frame w s₀ s) (le : 108086393204376704 ||| w = w) :
    Frame w s₀ (State.toneStep s x0 x1 x2 x3).1 := by
  refine h.step ?_ le
  unfold State.toneStep
  try dsimp -proj only
  repeat' (first
    | with_reducible exact Frame.refl _ _
    | with_reducible apply Frame.ite
    | with_reducible apply Frame.getD
    | intro _ _
    | (with_reducible apply State.modTone_frame (le := ?le); case le => decide)
    | (with_reducible apply State.notePanic_frame (le := ?le); case le => decide)
    | (with_reducible apply State.toneGuard_frame (le := ?le); case le => decide)
    | with_reducible apply Frame.fst_ite
    | with_reducible apply Frame.pair)

theorem State.channelSum_frame (s : State) (x0) (x1) (x2) (x3) {w : Nat} {s₀ : State} (h : Frame w s₀ s)
    (le : 108086393204376704 ||| w = w) : Frame w s₀ (State.channelSum s x0 x1 x2 x3).1 := by
  unfold State.channelSum
  exact Frame.foldlFst h fun t x => State.toneStep_frame _ _ _ _ _ (Frame.refl _ _) (mask_le (by decide) le)

theorem State.outApply_frame (s : State) (x0) {w : Nat} {s₀ : State} (h : Frame w s₀ s) (le : 4294967424 ||| w = w) :
    Frame w s₀ (State.outApply s x0) := by
  refine h.step ?_ le
  unfold State.outApply
  try dsimp -proj only
  repeat' (first
    | with_reducible exact Frame.refl _ _
    | (with_reducible apply State.modOut_frame (le := ?le); case le => decide)
    | (with_reducible apply State.setFld64_frame (le := ?le); case le => decide))

theorem State.outBeforeWrite_frame (s : State) (x0) {w : Nat} {s₀ : State} (h : Frame w s₀ s) (le : 4294967424 ||| w = w) :
    Frame w s₀ (State.outBeforeWrite s x0) := by
  refine h.step ?_ le
  unfold State.outBeforeWrite
  try dsimp -proj only
  repeat' (first
    | with_reducible exact Frame.refl _ _
    | with_reducible apply Frame.ite
    | (with_reducible apply State.outApply_frame (le := ?le); case le => decide))

theorem State.outPhase_frame (s : State) (x0) (x1) {w : Nat} {s₀ : State} (h : Frame w s₀ s) (le : 4294967424 ||| w = w) :
    Frame w s₀ (State.outPhase s x0 x1) := by
  refine h.step ?_ le
  unfold State.outPhase
  try dsimp -proj only
  repeat' (first
    | with_reducible exact Frame.refl _ _
    | with_reducible apply Frame.ite
    | (with_reducible apply State.modOut_frame (le := ?le); case le => decide)
    | (with_reducible apply State.setFld_frame (le := ?le); case le => decide)
    | split)

theorem State.outReachOff_frame (s : State) (x0) {w : Nat} {s₀ : State} (h : Frame w s₀ s) (le : 36028801313931392 ||| w = w) :
    Frame w s₀ (State.outReachOff s x0) := by
  refine h.step ?_ le
  unfold State.outReachOff
  try dsimp -proj only
  repeat' (first
    | with_reducible exact Frame.refl _ _
    | with_reducible apply Frame.ite
    | (with_reducible apply State.outPhase_frame (le := ?le); case le => decide)
    | (with_reducible apply State.raise_frame (le := ?le); case le => decide)
    | (with_reducible apply State.setBit_frame (le := ?le); case le => decide))

theorem State.outBoundary_frame (s : State) (x0) {w : Nat} {s₀ : State} (h : Frame w s₀ s) (le : 36028801313931392 ||| w = w) :
    Frame w s₀ (State.outBoundary s x0) := by
  refine h.step ?_ le
  unfold State.outBoundary
  try dsimp -proj only
  repeat' (first
    | with_reducible exact Frame.refl _ _
    | with_reducible apply Frame.ite
    | (with_reducible apply State.modOut_frame (le := ?le); case le => decide)
    | (with_reducible apply State.outApply_frame (le := ?le); case le => decide)
    | (with_reducible apply State.outPhase_frame (le := ?le); case le => decide)
    | (with_reducible apply State.outReachOff_frame (le := ?le); case le => decide)
    | split)

theorem State.outCells_frame (s : State) (x0) {w : Nat} {s₀ : State} (h : Frame w s₀ s) (le : 36028801313931392 ||| w = w) :
    Frame w s₀ (State.outCells s x0) := by
  refine h.step ?_ le
  unfold State.outCells
  try dsimp -proj only
  repeat' (first
    | with_reducible exact Frame.refl _ _
    | with_reducible apply Frame.ite
    | (with_reducible apply State.modOut_frame (le := ?le); case le => decide)
    | (with_reducible apply State.outPhase_frame (le := ?le); case le => decide)
    | (with_reducible apply State.raise_frame (le := ?le); case le => decide)
    | (with_reducible apply State.setBit_frame (le := ?le); case le => decide))

theorem State.outDisable_frame (s : State) (x0) {w : Nat} {s₀ : State} (h : Frame w s₀ s) (le : 4294967424 ||| w = w) :
    Frame w s₀ (State.outDisable s x0) := by
  refine h.step ?_ le
  unfold State.outDisable
  try dsimp -proj only
  repeat' (first
    | with_reducible exact Frame.refl _ _
    | (with_reducible apply State.modOut_frame (le := ?le); case le => decide)
    | (with_reducible apply State.setEnable_frame (le := ?le); case le => decide)
    | split)

theorem State.outDrop_frame (s : State) (x0) {w : Nat} {s₀ : State} (h : Frame w s₀ s) (le : 36028797018965120 ||| w = w) :
    Frame w s₀ (State.outDrop s x0) := by
  refine h.step ?_ le
  unfold State.outDrop
  try dsimp -proj only
  repeat' (first
    | with_reducible exact Frame.refl _ _
    | with_reducible apply Frame.foldl
    | intro _ _
    | (with_reducible apply State.charge_frame (le := ?le); case le => decide)
    | (with_reducible apply State.inc_frame (le := ?le); case le => decide)
    | (with_reducible apply State.raise_frame (le := ?le); case le => decide)
    | split)

theorem State.outEnable_frame (s : State) (x0) {w : Nat} {s₀ : State} (h : Frame w s₀ s) (le : 4294967424 ||| w = w) :
    Frame w s₀ (State.outEnable s x0) := by
  refine h.step ?_ le
  unfold State.outEnable
  try dsimp -proj only
  repeat' (first
    | with_reducible exact Frame.refl _ _
    | with_reducible apply Frame.ite
    | (with_reducible apply State.modOut_frame (le := ?le); case le => decide)
    | (with_reducible apply State.outPhase_frame (le := ?le); case le => decide)
    | (with_reducible apply State.setEnable_frame (le := ?le); case le => decide)
    | split)

theorem State.outEnterReady_frame (s : State) (x0) {w : Nat} {s₀ : State} (h : Frame w s₀ s) (le : 4294967424 ||| w = w) :
    Frame w s₀ (State.outEnterReady s x0) := by
  refine h.step ?_ le
  unfold State.outEnterReady
  try dsimp -proj only
  repeat' (first
    | with_reducible exact Frame.refl _ _
    | with_reducible apply Frame.ite
    | (with_reducible apply State.outPhase_frame (le := ?le); case le => decide))

theorem State.outFrame_frame (s : State) (x0) {w : Nat} {s₀ : State} (h : Frame w s₀ s) (le : 36028801313931392 ||| w = w) :
    Frame w s₀ (State.outFrame s x0) := by
  refine h.step ?_ le
  unfold State.outFrame
  try dsimp -proj only
  repeat' (first
    | with_reducible exact Frame.refl _ _
    | with_reducible apply Frame.ite
    | (with_reducible apply State.modOut_frame (le := ?le); case le => decide)
    | (with_reducible apply State.outBoundary_frame (le := ?le); case le => decide))

theorem State.outKill_frame (s : State) (x0) {w : Nat} {s₀ : State} (h : Frame w s₀ s) (le : 117128781147178112 ||| w = w) :
    Frame w s₀ (State.outKill s x0) := by
  refine h.step ?_ le
  unfold State.outKill
  try dsimp -proj only
  repeat' (first
    | with_reducible exact Frame.refl _ _
    | with_reducible apply Frame.ite
    | with_reducible apply Frame.foldl
    | intro _ _
    | (with_reducible apply State.acqSourceKill_frame (le := ?le); case le => decide)
    | (with_reducible apply State.calHit_frame (le := ?le); case le => decide)
    | (with_reducible apply State.modOut_frame (le := ?le); case le => decide)
    | (with_reducible apply State.outPhase_frame (le := ?le); case le => decide)
    | (with_reducible apply State.setEnable_frame (le := ?le); case le => decide)
    | (with_reducible apply State.toneKill_frame (le := ?le); case le => decide)
    | split)

theorem State.outKillNow_frame (s : State) (x0) {w : Nat} {s₀ : State} (h : Frame w s₀ s) (le : 117128781147178112 ||| w = w) :
    Frame w s₀ (State.outKillNow s x0) := by
  refine h.step ?_ le
  unfold State.outKillNow
  try dsimp -proj only
  repeat' (first
    | with_reducible exact Frame.refl _ _
    | (with_reducible apply State.outKill_frame (le := ?le); case le => decide)
    | (with_reducible apply State.setBit_frame (le := ?le); case le => decide)
    | split)

theorem State.sumGuard_frame (s : State) (x0) (x1) {w : Nat} {s₀ : State} (h : Frame w s₀ s) (le : 108086391056893056 ||| w = w) :
    Frame w s₀ (State.sumGuard s x0 x1) := by
  refine h.step ?_ le
  unfold State.sumGuard
  try dsimp -proj only
  repeat' (first
    | with_reducible exact Frame.refl _ _
    | with_reducible apply Frame.foldl
    | intro _ _
    | (with_reducible apply State.charge_frame (le := ?le); case le => decide)
    | (with_reducible apply State.err_frame (le := ?le); case le => decide)
    | (with_reducible apply State.raise_frame (le := ?le); case le => decide)
    | split)

theorem State.outStep_frame (s : State) (x0) (x1) (x2) (x3) {w : Nat} {s₀ : State} (h : Frame w s₀ s) (le : 108121581871449216 ||| w = w) :
    Frame w s₀ (State.outStep s x0 x1 x2 x3) := by
  refine h.step ?_ le
  unfold State.outStep
  try dsimp -proj only
  repeat' (first
    | with_reducible exact Frame.refl _ _
    | with_reducible apply Frame.ite
    | (with_reducible apply State.acqFeed_frame (le := ?le); case le => decide)
    | (with_reducible apply State.channelSum_frame (le := ?le); case le => decide)
    | (with_reducible apply State.inc_frame (le := ?le); case le => decide)
    | (with_reducible apply State.modOut_frame (le := ?le); case le => decide)
    | (with_reducible apply State.outDrop_frame (le := ?le); case le => decide)
    | (with_reducible apply State.raise_frame (le := ?le); case le => decide)
    | (with_reducible apply State.sumGuard_frame (le := ?le); case le => decide))

theorem State.outWritten_frame (s : State) (x0) (x1) {w : Nat} {s₀ : State} (h : Frame w s₀ s) (le : 4294967296 ||| w = w) :
    Frame w s₀ (State.outWritten s x0 x1) := by
  refine h.step ?_ le
  unfold State.outWritten
  try dsimp -proj only
  repeat' (first
    | with_reducible exact Frame.refl _ _
    | with_reducible apply Frame.ite
    | (with_reducible apply State.modOut_frame (le := ?le); case le => decide))

theorem execDacClockMissing_frame (x0) (s : State) :
    OutFrame 117128781819708544 s (execDacClockMissing x0 s) := by
  unfold execDacClockMissing
  try dsimp -proj only
  repeat' (first
    | (with_reducible apply OutFrame.finish (le := ?le); case le => decide)
    | with_reducible exact Frame.refl _ _
    | (with_reducible apply State.err_frame (le := ?le); case le => decide)
    | (with_reducible apply State.modOut_frame (le := ?le); case le => decide)
    | (with_reducible apply State.outKill_frame (le := ?le); case le => decide)
    | (with_reducible apply State.raise_frame (le := ?le); case le => decide))

end Sys2Proof.Machine
end

