-- ==== Sys2Proof/Laws/FramesReadout.lean ====
section
/-!
SUPPORT. The field frames of the operations of Machine/Readout.lean: the fields of the state that each may change.
-/
namespace Sys2Proof.Machine

theorem State.adcApply_frame (s : State) (x0) (x1) {w : Nat} {s₀ : State} (h : Frame w s₀ s) (le : 8589934720 ||| w = w) :
    Frame w s₀ (State.adcApply s x0 x1) := by
  refine h.step ?_ le
  unfold State.adcApply
  try dsimp -proj only
  repeat' (first
    | with_reducible exact Frame.refl _ _
    | (with_reducible apply State.modAdc_frame (le := ?le); case le => decide)
    | (with_reducible apply State.setFld64_frame (le := ?le); case le => decide))

theorem State.adcBeforeWrite_frame (s : State) (x0) {w : Nat} {s₀ : State} (h : Frame w s₀ s) (le : 8589934720 ||| w = w) :
    Frame w s₀ (State.adcBeforeWrite s x0) := by
  refine h.step ?_ le
  unfold State.adcBeforeWrite
  try dsimp -proj only
  repeat' (first
    | with_reducible exact Frame.refl _ _
    | with_reducible apply Frame.ite
    | (with_reducible apply State.adcApply_frame (le := ?le); case le => decide))

theorem State.adcPhase_frame (s : State) (x0) (x1) {w : Nat} {s₀ : State} (h : Frame w s₀ s) (le : 8589934720 ||| w = w) :
    Frame w s₀ (State.adcPhase s x0 x1) := by
  refine h.step ?_ le
  unfold State.adcPhase
  try dsimp -proj only
  repeat' (first
    | with_reducible exact Frame.refl _ _
    | with_reducible apply Frame.ite
    | (with_reducible apply State.modAdc_frame (le := ?le); case le => decide)
    | (with_reducible apply State.setFld_frame (le := ?le); case le => decide))

theorem State.adcOff_frame (s : State) (x0) {w : Nat} {s₀ : State} (h : Frame w s₀ s) (le : 8589934720 ||| w = w) :
    Frame w s₀ (State.adcOff s x0) := by
  refine h.step ?_ le
  unfold State.adcOff
  try dsimp -proj only
  repeat' (first
    | with_reducible exact Frame.refl _ _
    | with_reducible apply Frame.ite
    | (with_reducible apply State.adcPhase_frame (le := ?le); case le => decide)
    | (with_reducible apply State.modAdc_frame (le := ?le); case le => decide)
    | (with_reducible apply State.setBit_frame (le := ?le); case le => decide))

theorem State.adcCells_frame (s : State) (x0) {w : Nat} {s₀ : State} (h : Frame w s₀ s) (le : 36028805608898688 ||| w = w) :
    Frame w s₀ (State.adcCells s x0) := by
  refine h.step ?_ le
  unfold State.adcCells
  try dsimp -proj only
  repeat' (first
    | with_reducible exact Frame.refl _ _
    | with_reducible apply Frame.ite
    | (with_reducible apply State.adcOff_frame (le := ?le); case le => decide)
    | (with_reducible apply State.raise_frame (le := ?le); case le => decide))

theorem State.adcDisable_frame (s : State) (x0) {w : Nat} {s₀ : State} (h : Frame w s₀ s) (le : 8589934720 ||| w = w) :
    Frame w s₀ (State.adcDisable s x0) := by
  refine h.step ?_ le
  unfold State.adcDisable
  try dsimp -proj only
  repeat' (first
    | with_reducible exact Frame.refl _ _
    | (with_reducible apply State.adcPhase_frame (le := ?le); case le => decide)
    | (with_reducible apply State.modAdc_frame (le := ?le); case le => decide)
    | (with_reducible apply State.setEnable_frame (le := ?le); case le => decide)
    | split)

theorem State.adcEnable_frame (s : State) (x0) {w : Nat} {s₀ : State} (h : Frame w s₀ s) (le : 8589934720 ||| w = w) :
    Frame w s₀ (State.adcEnable s x0) := by
  refine h.step ?_ le
  unfold State.adcEnable
  try dsimp -proj only
  repeat' (first
    | with_reducible exact Frame.refl _ _
    | with_reducible apply Frame.ite
    | (with_reducible apply State.adcPhase_frame (le := ?le); case le => decide)
    | (with_reducible apply State.modAdc_frame (le := ?le); case le => decide)
    | (with_reducible apply State.setEnable_frame (le := ?le); case le => decide))

theorem State.adcEnterReady_frame (s : State) (x0) {w : Nat} {s₀ : State} (h : Frame w s₀ s) (le : 8589934720 ||| w = w) :
    Frame w s₀ (State.adcEnterReady s x0) := by
  refine h.step ?_ le
  unfold State.adcEnterReady
  try dsimp -proj only
  repeat' (first
    | with_reducible exact Frame.refl _ _
    | with_reducible apply Frame.ite
    | (with_reducible apply State.adcPhase_frame (le := ?le); case le => decide))

theorem State.adcReachOff_frame (s : State) (x0) {w : Nat} {s₀ : State} (h : Frame w s₀ s) (le : 36028805608898688 ||| w = w) :
    Frame w s₀ (State.adcReachOff s x0) := by
  refine h.step ?_ le
  unfold State.adcReachOff
  try dsimp -proj only
  repeat' (first
    | with_reducible exact Frame.refl _ _
    | with_reducible apply Frame.ite
    | (with_reducible apply State.adcOff_frame (le := ?le); case le => decide)
    | (with_reducible apply State.adcPhase_frame (le := ?le); case le => decide)
    | (with_reducible apply State.raise_frame (le := ?le); case le => decide))

theorem State.adcFrame_frame (s : State) (x0) {w : Nat} {s₀ : State} (h : Frame w s₀ s) (le : 36028805608898688 ||| w = w) :
    Frame w s₀ (State.adcFrame s x0) := by
  refine h.step ?_ le
  unfold State.adcFrame
  try dsimp -proj only
  repeat' (first
    | with_reducible exact Frame.refl _ _
    | with_reducible apply Frame.ite
    | (with_reducible apply State.adcApply_frame (le := ?le); case le => decide)
    | (with_reducible apply State.adcPhase_frame (le := ?le); case le => decide)
    | (with_reducible apply State.adcReachOff_frame (le := ?le); case le => decide)
    | (with_reducible apply State.modAdc_frame (le := ?le); case le => decide)
    | split)

theorem State.adcHold_frame (s : State) (x0) (x1) {w : Nat} {s₀ : State} (h : Frame w s₀ s) (le : 36028805608898688 ||| w = w) :
    Frame w s₀ (State.adcHold s x0 x1) := by
  refine h.step ?_ le
  unfold State.adcHold
  try dsimp -proj only
  repeat' (first
    | with_reducible exact Frame.refl _ _
    | with_reducible apply Frame.ite
    | (with_reducible apply State.adcPhase_frame (le := ?le); case le => decide)
    | (with_reducible apply State.modAdc_frame (le := ?le); case le => decide)
    | (with_reducible apply State.raise_frame (le := ?le); case le => decide)
    | (with_reducible apply State.setFld_frame (le := ?le); case le => decide)
    | split)

theorem State.adcStep_frame (s : State) (x0) (x1) (x2) {w : Nat} {s₀ : State} (h : Frame w s₀ s) (le : 108121584018931840 ||| w = w) :
    Frame w s₀ (State.adcStep s x0 x1 x2) := by
  refine h.step ?_ le
  unfold State.adcStep
  try dsimp -proj only
  repeat' (first
    | with_reducible exact Frame.refl _ _
    | with_reducible apply Frame.ite
    | (with_reducible apply State.acqFeed_frame (le := ?le); case le => decide)
    | (with_reducible apply State.inc_frame (le := ?le); case le => decide)
    | (with_reducible apply State.modAdc_frame (le := ?le); case le => decide)
    | (with_reducible apply State.raise_frame (le := ?le); case le => decide))

theorem State.adcWritten_frame (s : State) (x0) (x1) {w : Nat} {s₀ : State} (h : Frame w s₀ s) (le : 8589934592 ||| w = w) :
    Frame w s₀ (State.adcWritten s x0 x1) := by
  refine h.step ?_ le
  unfold State.adcWritten
  try dsimp -proj only
  repeat' (first
    | with_reducible exact Frame.refl _ _
    | with_reducible apply Frame.ite
    | (with_reducible apply State.modAdc_frame (le := ?le); case le => decide))

theorem State.coefFault_frame (s : State) (x0) (x1) (x2) {w : Nat} {s₀ : State} (h : Frame w s₀ s) (le : 108086408257766528 ||| w = w) :
    Frame w s₀ (State.coefFault s x0 x1 x2) := by
  refine h.step ?_ le
  unfold State.coefFault
  try dsimp -proj only
  repeat' (first
    | with_reducible exact Frame.refl _ _
    | with_reducible apply Frame.ite
    | with_reducible apply Frame.foldl
    | intro _ _
    | (with_reducible apply State.charge_frame (le := ?le); case le => decide)
    | (with_reducible apply State.err_frame (le := ?le); case le => decide)
    | (with_reducible apply State.modRout_frame (le := ?le); case le => decide)
    | (with_reducible apply State.raise_frame (le := ?le); case le => decide)
    | (with_reducible apply State.refetch_frame (le := ?le); case le => decide))

theorem State.firPush_frame (s : State) (x0) (x1) (x2) (x3) {w : Nat} {s₀ : State} (h : Frame w s₀ s) (le : 108086408257766528 ||| w = w) :
    Frame w s₀ (State.firPush s x0 x1 x2 x3) := by
  refine h.step ?_ le
  unfold State.firPush
  try dsimp -proj only
  repeat' (first
    | with_reducible exact Frame.refl _ _
    | with_reducible apply Frame.ite
    | with_reducible apply Frame.foldl
    | intro _ _
    | (with_reducible apply State.coefFault_frame (le := ?le); case le => decide)
    | (with_reducible apply State.inc_frame (le := ?le); case le => decide)
    | (with_reducible apply State.modRout_frame (le := ?le); case le => decide)
    | (with_reducible apply State.raise_frame (le := ?le); case le => decide))

theorem State.toneIn_frame (s : State) (x0) (x1) (x2) (x3) (x4) {w : Nat} {s₀ : State} (h : Frame w s₀ s) (le : 108086408257766528 ||| w = w) :
    Frame w s₀ (State.toneIn s x0 x1 x2 x3 x4) := by
  refine h.step ?_ le
  unfold State.toneIn
  try dsimp -proj only
  repeat' (first
    | with_reducible exact Frame.refl _ _
    | with_reducible apply Frame.ite
    | (with_reducible apply State.addSat_frame (le := ?le); case le => decide)
    | (with_reducible apply State.firPush_frame (le := ?le); case le => decide)
    | (with_reducible apply State.modRout_frame (le := ?le); case le => decide)
    | (with_reducible apply State.raise_frame (le := ?le); case le => decide)
    | split)

theorem State.chainStep_frame (s : State) (x0) (x1) (x2) {w : Nat} {s₀ : State} (h : Frame w s₀ s) (le : 108086408257766528 ||| w = w) :
    Frame w s₀ (State.chainStep s x0 x1 x2) := by
  refine h.step ?_ le
  unfold State.chainStep
  try dsimp -proj only
  repeat' (first
    | with_reducible exact Frame.refl _ _
    | with_reducible apply Frame.ite
    | with_reducible apply Frame.foldl
    | intro _ _
    | (with_reducible apply State.charge_frame (le := ?le); case le => decide)
    | (with_reducible apply State.modRout_frame (le := ?le); case le => decide)
    | (with_reducible apply State.toneIn_frame (le := ?le); case le => decide)
    | split)

theorem State.coefWrite_frame (s : State) (x0) (x1) (x2) {w : Nat} {s₀ : State} (h : Frame w s₀ s) (le : 108086425439731840 ||| w = w) :
    Frame w s₀ (State.coefWrite s x0 x1 x2) := by
  refine h.step ?_ le
  unfold State.coefWrite
  try dsimp -proj only
  repeat' (first
    | with_reducible exact Frame.refl _ _
    | with_reducible apply Frame.ite
    | (with_reducible apply State.err_frame (le := ?le); case le => decide)
    | (with_reducible apply State.raise_frame (le := ?le); case le => decide)
    | (with_reducible apply State.shadowWrite_frame (le := ?le); case le => decide)
    | (with_reducible apply Frame.upd_fir (le := ?le); case le => decide))

theorem State.routApply_frame (s : State) (x0) (x1) {w : Nat} {s₀ : State} (h : Frame w s₀ s) (le : 17179869312 ||| w = w) :
    Frame w s₀ (State.routApply s x0 x1) := by
  refine h.step ?_ le
  unfold State.routApply
  try dsimp -proj only
  repeat' (first
    | with_reducible exact Frame.refl _ _
    | (with_reducible apply State.modRout_frame (le := ?le); case le => decide)
    | (with_reducible apply State.setFld_frame (le := ?le); case le => decide))

theorem State.routBeforeWrite_frame (s : State) (x0) {w : Nat} {s₀ : State} (h : Frame w s₀ s) (le : 17179869312 ||| w = w) :
    Frame w s₀ (State.routBeforeWrite s x0) := by
  refine h.step ?_ le
  unfold State.routBeforeWrite
  try dsimp -proj only
  repeat' (first
    | with_reducible exact Frame.refl _ _
    | with_reducible apply Frame.ite
    | (with_reducible apply State.routApply_frame (le := ?le); case le => decide))

theorem State.routFrame_frame (s : State) (x0) {w : Nat} {s₀ : State} (h : Frame w s₀ s) (le : 36028814198833280 ||| w = w) :
    Frame w s₀ (State.routFrame s x0) := by
  refine h.step ?_ le
  unfold State.routFrame
  try dsimp -proj only
  repeat' (first
    | with_reducible exact Frame.refl _ _
    | with_reducible apply Frame.ite
    | (with_reducible apply State.modRout_frame (le := ?le); case le => decide)
    | (with_reducible apply State.raise_frame (le := ?le); case le => decide)
    | (with_reducible apply State.routApply_frame (le := ?le); case le => decide)
    | (with_reducible apply State.setBit_frame (le := ?le); case le => decide)
    | (with_reducible apply State.setFld_frame (le := ?le); case le => decide))

theorem State.routSwap_frame (s : State) (x0) {w : Nat} {s₀ : State} (h : Frame w s₀ s) (le : 17179869312 ||| w = w) :
    Frame w s₀ (State.routSwap s x0) := by
  refine h.step ?_ le
  unfold State.routSwap
  try dsimp -proj only
  repeat' (first
    | with_reducible exact Frame.refl _ _
    | with_reducible apply Frame.getD
    | intro _ _
    | (with_reducible apply State.modRout_frame (le := ?le); case le => decide)
    | (with_reducible apply State.setBit_frame (le := ?le); case le => decide))

theorem State.routWritten_frame (s : State) (x0) {w : Nat} {s₀ : State} (h : Frame w s₀ s) (le : 17179869184 ||| w = w) :
    Frame w s₀ (State.routWritten s x0) := by
  refine h.step ?_ le
  unfold State.routWritten
  try dsimp -proj only
  repeat' (first
    | with_reducible exact Frame.refl _ _
    | (with_reducible apply State.modRout_frame (le := ?le); case le => decide))

theorem execFirRefetchComplete_frame (x0) (s : State) :
    OutFrame 108086408909291648 s (execFirRefetchComplete x0 s) := by
  unfold execFirRefetchComplete
  try dsimp -proj only
  repeat' (first
    | (with_reducible apply OutFrame.finish (le := ?le); case le => decide)
    | with_reducible exact OutFrame.same
    | with_reducible apply OutFrame.next
    | with_reducible apply OutFrame.ite
    | with_reducible exact Frame.refl _ _
    | with_reducible apply Frame.ite
    | (with_reducible apply State.modRout_frame (le := ?le); case le => decide))

end Sys2Proof.Machine
end

