-- ==== Sys2Proof/Laws/FramesIntegrator.lean ====
section
/-!
SUPPORT. The field frames of the operations of Machine/Integrator.lean: the fields of the state that each may change.
-/
namespace Sys2Proof.Machine

theorem State.routKill_frame (s : State) (x0) (x1) (x2) {w : Nat} {s₀ : State} (h : Frame w s₀ s) (le : 36063998570923136 ||| w = w) :
    Frame w s₀ (State.routKill s x0 x1 x2) := by
  refine h.step ?_ le
  unfold State.routKill
  try dsimp -proj only
  repeat' (first
    | with_reducible exact Frame.refl _ _
    | with_reducible apply Frame.ite
    | with_reducible apply Frame.foldl
    | intro _ _
    | (with_reducible apply State.acqSourceKill_frame (le := ?le); case le => decide)
    | (with_reducible apply State.charge_frame (le := ?le); case le => decide)
    | (with_reducible apply State.modRout_frame (le := ?le); case le => decide)
    | (with_reducible apply State.raise_frame (le := ?le); case le => decide)
    | (with_reducible apply State.setEnable_frame (le := ?le); case le => decide))

theorem State.adcKill_frame (s : State) (x0) {w : Nat} {s₀ : State} (h : Frame w s₀ s) (le : 45071206415598720 ||| w = w) :
    Frame w s₀ (State.adcKill s x0) := by
  refine h.step ?_ le
  unfold State.adcKill
  try dsimp -proj only
  repeat' (first
    | with_reducible exact Frame.refl _ _
    | with_reducible apply Frame.foldl
    | intro _ _
    | (with_reducible apply State.acqSourceKill_frame (le := ?le); case le => decide)
    | (with_reducible apply State.adcPhase_frame (le := ?le); case le => decide)
    | (with_reducible apply State.calHit_frame (le := ?le); case le => decide)
    | (with_reducible apply State.modAdc_frame (le := ?le); case le => decide)
    | (with_reducible apply State.routKill_frame (le := ?le); case le => decide)
    | (with_reducible apply State.setEnable_frame (le := ?le); case le => decide)
    | split)

theorem State.adcKillNow_frame (s : State) (x0) {w : Nat} {s₀ : State} (h : Frame w s₀ s) (le : 45071206415598720 ||| w = w) :
    Frame w s₀ (State.adcKillNow s x0) := by
  refine h.step ?_ le
  unfold State.adcKillNow
  try dsimp -proj only
  repeat' (first
    | with_reducible exact Frame.refl _ _
    | (with_reducible apply State.adcKill_frame (le := ?le); case le => decide)
    | (with_reducible apply State.setBit_frame (le := ?le); case le => decide)
    | split)

theorem State.modWin_frame (s : State) (x0) (x1) (x2) {w : Nat} {s₀ : State} (h : Frame w s₀ s) (le : 17179869184 ||| w = w) :
    Frame w s₀ (State.modWin s x0 x1 x2) := by
  refine h.step ?_ le
  unfold State.modWin
  try dsimp -proj only
  repeat' (first
    | with_reducible exact Frame.refl _ _
    | with_reducible apply Frame.ite
    | (with_reducible apply State.modRout_frame (le := ?le); case le => decide))

theorem State.addProduct_frame (s : State) (x0) (x1) (x2) {w : Nat} {s₀ : State} (h : Frame w s₀ s) (le : 36028814198833280 ||| w = w) :
    Frame w s₀ (State.addProduct s x0 x1 x2) := by
  refine h.step ?_ le
  unfold State.addProduct
  try dsimp -proj only
  repeat' (first
    | with_reducible exact Frame.refl _ _
    | with_reducible apply Frame.ite
    | (with_reducible apply State.modWin_frame (le := ?le); case le => decide)
    | (with_reducible apply State.raise_frame (le := ?le); case le => decide))

theorem State.offerLanes_frame (s : State) (x0) (x1) (x2) {w : Nat} {s₀ : State} (h : Frame w s₀ s) (le : 137438953472 ||| w = w) :
    Frame w s₀ (State.offerLanes s x0 x1 x2) := by
  refine h.step ?_ le
  unfold State.offerLanes
  try dsimp -proj only
  repeat' (first
    | with_reducible exact Frame.refl _ _
    | with_reducible apply Frame.foldl
    | intro _ _
    | (with_reducible apply State.modLane_frame (le := ?le); case le => decide))

theorem State.deliverWin_frame (s : State) (x0) (x1) {w : Nat} {s₀ : State} (h : Frame w s₀ s) (le : 324271697295310976 ||| w = w) :
    Frame w s₀ (State.deliverWin s x0 x1) := by
  refine h.step ?_ le
  unfold State.deliverWin
  try dsimp -proj only
  repeat' (first
    | with_reducible exact Frame.refl _ _
    | with_reducible apply Frame.ite
    | with_reducible apply Frame.getD
    | intro _ _
    | (with_reducible apply State.feed_frame (le := ?le); case le => decide)
    | (with_reducible apply State.inc_frame (le := ?le); case le => decide)
    | (with_reducible apply State.modRout_frame (le := ?le); case le => decide)
    | (with_reducible apply State.offerLanes_frame (le := ?le); case le => decide)
    | (with_reducible apply State.raise_frame (le := ?le); case le => decide)
    | (with_reducible apply State.tookFree_frame (le := ?le); case le => decide))

theorem State.endWin_frame (s : State) (x0) (x1) {w : Nat} {s₀ : State} (h : Frame w s₀ s) (le : 17179869184 ||| w = w) :
    Frame w s₀ (State.endWin s x0 x1) := by
  refine h.step ?_ le
  unfold State.endWin
  try dsimp -proj only
  repeat' (first
    | with_reducible exact Frame.refl _ _
    | (with_reducible apply State.modRout_frame (le := ?le); case le => decide))

theorem State.gapWin_frame (s : State) (x0) (x1) {w : Nat} {s₀ : State} (h : Frame w s₀ s) (le : 36028814198833280 ||| w = w) :
    Frame w s₀ (State.gapWin s x0 x1) := by
  refine h.step ?_ le
  unfold State.gapWin
  try dsimp -proj only
  repeat' (first
    | with_reducible exact Frame.refl _ _
    | (with_reducible apply State.modWin_frame (le := ?le); case le => decide)
    | (with_reducible apply State.raise_frame (le := ?le); case le => decide))

theorem State.readyWins_frame (s : State) (x0) (x1) {w : Nat} {s₀ : State} (h : Frame w s₀ s) (le : 17179869184 ||| w = w) :
    Frame w s₀ (State.readyWins s x0 x1) := by
  refine h.step ?_ le
  unfold State.readyWins
  try dsimp -proj only
  repeat' (first
    | with_reducible exact Frame.refl _ _
    | with_reducible apply Frame.ite
    | (with_reducible apply State.modRout_frame (le := ?le); case le => decide))

theorem State.recompLost_frame (s : State) (x0) (x1) {w : Nat} {s₀ : State} (h : Frame w s₀ s) (le : 108086408236761216 ||| w = w) :
    Frame w s₀ (State.recompLost s x0 x1) := by
  refine h.step ?_ le
  unfold State.recompLost
  try dsimp -proj only
  repeat' (first
    | with_reducible exact Frame.refl _ _
    | (with_reducible apply State.err_frame (le := ?le); case le => decide)
    | (with_reducible apply State.inc_frame (le := ?le); case le => decide)
    | (with_reducible apply State.modRout_frame (le := ?le); case le => decide)
    | (with_reducible apply State.modWin_frame (le := ?le); case le => decide)
    | (with_reducible apply State.raise_frame (le := ?le); case le => decide))

theorem State.takeSample_frame (s : State) (x0) (x1) (x2) (x3) (x4) (x5) (x6) {w : Nat} {s₀ : State} (h : Frame w s₀ s) (le : 108086408257766528 ||| w = w) :
    Frame w s₀ (State.takeSample s x0 x1 x2 x3 x4 x5 x6) := by
  refine h.step ?_ le
  unfold State.takeSample
  try dsimp -proj only
  repeat' (first
    | with_reducible exact Frame.refl _ _
    | with_reducible apply Frame.ite
    | (with_reducible apply State.addProduct_frame (le := ?le); case le => decide)
    | (with_reducible apply State.charge_frame (le := ?le); case le => decide)
    | (with_reducible apply State.err_frame (le := ?le); case le => decide)
    | (with_reducible apply State.modRout_frame (le := ?le); case le => decide)
    | (with_reducible apply State.modWin_frame (le := ?le); case le => decide)
    | (with_reducible apply State.raise_frame (le := ?le); case le => decide)
    | (with_reducible apply State.refetch_frame (le := ?le); case le => decide))

theorem State.integStep_frame (s : State) (x0) (x1) (x2) (x3) {w : Nat} {s₀ : State} (h : Frame w s₀ s) (le : 108086408257766528 ||| w = w) :
    Frame w s₀ (State.integStep s x0 x1 x2 x3) := by
  refine h.step ?_ le
  unfold State.integStep
  try dsimp -proj only
  repeat' (first
    | with_reducible exact Frame.refl _ _
    | with_reducible apply Frame.ite
    | with_reducible apply Frame.foldl
    | intro _ _
    | with_reducible apply Frame.getD
    | (with_reducible apply State.gapWin_frame (le := ?le); case le => decide)
    | (with_reducible apply State.readyWins_frame (le := ?le); case le => decide)
    | (with_reducible apply State.recompLost_frame (le := ?le); case le => decide)
    | (with_reducible apply State.takeSample_frame (le := ?le); case le => decide)
    | split)

theorem State.kaddrNext_frame (s : State) (x0) {w : Nat} {s₀ : State} (h : Frame w s₀ s) (le : 128 ||| w = w) :
    Frame w s₀ (State.kaddrNext s x0) := by
  refine h.step ?_ le
  unfold State.kaddrNext
  try dsimp -proj only
  repeat' (first
    | with_reducible exact Frame.refl _ _
    | (with_reducible apply State.setFld_frame (le := ?le); case le => decide))

theorem State.kdataRead_frame (s : State) (x0) {w : Nat} {s₀ : State} (h : Frame w s₀ s) (le : 144115188075856000 ||| w = w) :
    Frame w s₀ (State.kdataRead s x0) := by
  refine h.step ?_ le
  unfold State.kdataRead
  try dsimp -proj only
  repeat' (first
    | with_reducible exact Frame.refl _ _
    | (with_reducible apply State.kaddrNext_frame (le := ?le); case le => decide)
    | (with_reducible apply State.respond_frame (le := ?le); case le => decide))

theorem State.kdataWrite_frame (s : State) (x0) (x1) {w : Nat} {s₀ : State} (h : Frame w s₀ s) (le : 108086459799470208 ||| w = w) :
    Frame w s₀ (State.kdataWrite s x0 x1) := by
  refine h.step ?_ le
  unfold State.kdataWrite
  try dsimp -proj only
  repeat' (first
    | with_reducible exact Frame.refl _ _
    | with_reducible apply Frame.ite
    | (with_reducible apply State.err_frame (le := ?le); case le => decide)
    | (with_reducible apply State.kaddrNext_frame (le := ?le); case le => decide)
    | (with_reducible apply State.raise_frame (le := ?le); case le => decide)
    | (with_reducible apply State.shadowWrite_frame (le := ?le); case le => decide)
    | (with_reducible apply Frame.upd_kernel (le := ?le); case le => decide))

theorem State.kstartWritten_frame (s : State) (x0) (x1) {w : Nat} {s₀ : State} (h : Frame w s₀ s) (le : 17179869312 ||| w = w) :
    Frame w s₀ (State.kstartWritten s x0 x1) := by
  refine h.step ?_ le
  unfold State.kstartWritten
  try dsimp -proj only
  repeat' (first
    | with_reducible exact Frame.refl _ _
    | with_reducible apply Frame.ite
    | (with_reducible apply State.modRout_frame (le := ?le); case le => decide)
    | (with_reducible apply State.setFld_frame (le := ?le); case le => decide))

theorem State.offerStream_frame (s : State) (x0) {w : Nat} {s₀ : State} (h : Frame w s₀ s) (le : 108121712867950720 ||| w = w) :
    Frame w s₀ (State.offerStream s x0) := by
  refine h.step ?_ le
  unfold State.offerStream
  try dsimp -proj only
  repeat' (first
    | with_reducible exact Frame.refl _ _
    | with_reducible apply Frame.foldl
    | intro _ _
    | (with_reducible apply State.acqFeed_frame (le := ?le); case le => decide)
    | (with_reducible apply State.offerLanes_frame (le := ?le); case le => decide))

theorem State.resRead_frame (s : State) (x0) {w : Nat} {s₀ : State} (h : Frame w s₀ s) (le : 144115188075856000 ||| w = w) :
    Frame w s₀ (State.resRead s x0) := by
  refine h.step ?_ le
  unfold State.resRead
  try dsimp -proj only
  repeat' (first
    | with_reducible exact Frame.refl _ _
    | (with_reducible apply State.respond_frame (le := ?le); case le => decide)
    | (with_reducible apply State.setReg_frame (le := ?le); case le => decide))

theorem State.routDisable_frame (s : State) (x0) {w : Nat} {s₀ : State} (h : Frame w s₀ s) (le : 17179869312 ||| w = w) :
    Frame w s₀ (State.routDisable s x0) := by
  refine h.step ?_ le
  unfold State.routDisable
  try dsimp -proj only
  repeat' (first
    | with_reducible exact Frame.refl _ _
    | with_reducible apply Frame.ite
    | (with_reducible apply State.modRout_frame (le := ?le); case le => decide)
    | (with_reducible apply State.setEnable_frame (le := ?le); case le => decide))

theorem State.routEnable_frame (s : State) (x0) {w : Nat} {s₀ : State} (h : Frame w s₀ s) (le : 72057611217797248 ||| w = w) :
    Frame w s₀ (State.routEnable s x0) := by
  refine h.step ?_ le
  unfold State.routEnable
  try dsimp -proj only
  repeat' (first
    | with_reducible exact Frame.refl _ _
    | with_reducible apply Frame.ite
    | (with_reducible apply State.err_frame (le := ?le); case le => decide)
    | (with_reducible apply State.modRout_frame (le := ?le); case le => decide)
    | (with_reducible apply State.setEnable_frame (le := ?le); case le => decide))

theorem State.routPop_frame (s : State) (x0) (x1) {w : Nat} {s₀ : State} (h : Frame w s₀ s) (le : 17179870208 ||| w = w) :
    Frame w s₀ (State.routPop s x0 x1) := by
  refine h.step ?_ le
  unfold State.routPop
  try dsimp -proj only
  repeat' (first
    | with_reducible exact Frame.refl _ _
    | (with_reducible apply State.chargeHeld_frame (le := ?le); case le => decide)
    | (with_reducible apply State.modRout_frame (le := ?le); case le => decide)
    | (with_reducible apply State.useTile_frame (le := ?le); case le => decide))

theorem State.routStep_frame (s : State) (x0) (x1) (x2) (x3) {w : Nat} {s₀ : State} (h : Frame w s₀ s) (le : 108121730068825216 ||| w = w) :
    Frame w s₀ (State.routStep s x0 x1 x2 x3) := by
  refine h.step ?_ le
  unfold State.routStep
  try dsimp -proj only
  repeat' (first
    | with_reducible exact Frame.refl _ _
    | (with_reducible apply State.chainStep_frame (le := ?le); case le => decide)
    | (with_reducible apply State.integStep_frame (le := ?le); case le => decide)
    | (with_reducible apply State.offerStream_frame (le := ?le); case le => decide))

theorem execAdcClockMissing_frame (x0) (s : State) :
    OutFrame 117128801126057088 s (execAdcClockMissing x0 s) := by
  unfold execAdcClockMissing
  try dsimp -proj only
  repeat' (first
    | (with_reducible apply OutFrame.finish (le := ?le); case le => decide)
    | with_reducible exact Frame.refl _ _
    | (with_reducible apply State.adcKill_frame (le := ?le); case le => decide)
    | (with_reducible apply State.err_frame (le := ?le); case le => decide)
    | (with_reducible apply State.modAdc_frame (le := ?le); case le => decide)
    | (with_reducible apply State.raise_frame (le := ?le); case le => decide))

theorem execIntegratorRecompute_frame (x0) (x1) (s : State) :
    OutFrame 396316785061036160 s (execIntegratorRecompute x0 x1 s) := by
  unfold execIntegratorRecompute
  try dsimp -proj only
  repeat' (first
    | (with_reducible apply OutFrame.finish (le := ?le); case le => decide)
    | with_reducible exact OutFrame.same
    | with_reducible apply OutFrame.next
    | with_reducible apply OutFrame.ite
    | with_reducible exact Frame.refl _ _
    | with_reducible apply Frame.ite
    | (with_reducible apply State.addProduct_frame (le := ?le); case le => decide)
    | (with_reducible apply State.inc_frame (le := ?le); case le => decide)
    | (with_reducible apply State.modRout_frame (le := ?le); case le => decide)
    | (with_reducible apply State.modWin_frame (le := ?le); case le => decide)
    | (with_reducible apply State.recompLost_frame (le := ?le); case le => decide)
    | (with_reducible apply State.tookFree_frame (le := ?le); case le => decide)
    | (with_reducible apply State.useUnits_frame (le := ?le); case le => decide)
    | split)

theorem execKernelRefetchComplete_frame (x0) (s : State) :
    OutFrame 108086408909291648 s (execKernelRefetchComplete x0 s) := by
  unfold execKernelRefetchComplete
  try dsimp -proj only
  repeat' (first
    | (with_reducible apply OutFrame.finish (le := ?le); case le => decide)
    | with_reducible exact OutFrame.same
    | with_reducible apply OutFrame.next
    | with_reducible apply OutFrame.ite
    | with_reducible exact Frame.refl _ _
    | with_reducible apply Frame.ite
    | (with_reducible apply State.modRout_frame (le := ?le); case le => decide))

theorem execRoutClose_frame (x0) (s : State) :
    OutFrame 108086408909292672 s (execRoutClose x0 s) := by
  unfold execRoutClose
  try dsimp -proj only
  repeat' (first
    | (with_reducible apply OutFrame.finish (le := ?le); case le => decide)
    | with_reducible exact OutFrame.same
    | with_reducible apply OutFrame.next
    | with_reducible exact Frame.refl _ _
    | (with_reducible apply State.endWin_frame (le := ?le); case le => decide)
    | (with_reducible apply State.routPop_frame (le := ?le); case le => decide)
    | split)

theorem execRoutDisabled_frame (x0) (s : State) :
    OutFrame 108086408909291648 s (execRoutDisabled x0 s) := by
  unfold execRoutDisabled
  try dsimp -proj only
  repeat' (first
    | (with_reducible apply OutFrame.finish (le := ?le); case le => decide)
    | with_reducible exact OutFrame.same
    | with_reducible apply OutFrame.next
    | with_reducible apply OutFrame.ite
    | with_reducible exact Frame.refl _ _
    | with_reducible apply Frame.ite
    | (with_reducible apply State.modRout_frame (le := ?le); case le => decide)
    | (with_reducible apply State.raise_frame (le := ?le); case le => decide))

theorem execRoutKernel_frame (x0) (s : State) :
    OutFrame 108086408909292672 s (execRoutKernel x0 s) := by
  unfold execRoutKernel
  try dsimp -proj only
  repeat' (first
    | (with_reducible apply OutFrame.finish (le := ?le); case le => decide)
    | with_reducible exact OutFrame.same
    | with_reducible apply OutFrame.next
    | with_reducible apply OutFrame.ite
    | with_reducible exact Frame.refl _ _
    | with_reducible apply Frame.ite
    | (with_reducible apply State.modRout_frame (le := ?le); case le => decide)
    | (with_reducible apply State.routPop_frame (le := ?le); case le => decide)
    | (with_reducible apply State.setFld_frame (le := ?le); case le => decide)
    | split)

theorem execRoutOpen_frame (x0) (s : State) :
    OutFrame 108086408909292672 s (execRoutOpen x0 s) := by
  unfold execRoutOpen
  try dsimp -proj only
  repeat' (first
    | (with_reducible apply OutFrame.finish (le := ?le); case le => decide)
    | with_reducible exact OutFrame.same
    | with_reducible apply OutFrame.next
    | with_reducible apply OutFrame.ite
    | with_reducible exact Frame.refl _ _
    | with_reducible apply Frame.ite
    | (with_reducible apply State.charge_frame (le := ?le); case le => decide)
    | (with_reducible apply State.endWin_frame (le := ?le); case le => decide)
    | (with_reducible apply State.err_frame (le := ?le); case le => decide)
    | (with_reducible apply State.modRout_frame (le := ?le); case le => decide)
    | (with_reducible apply State.raise_frame (le := ?le); case le => decide)
    | (with_reducible apply State.routPop_frame (le := ?le); case le => decide)
    | split)

theorem execWindowValue_frame (x0) (s : State) :
    OutFrame 396329292005769344 s (execWindowValue x0 s) := by
  unfold execWindowValue
  try dsimp -proj only
  repeat' (first
    | (with_reducible apply OutFrame.finish (le := ?le); case le => decide)
    | with_reducible exact OutFrame.same
    | with_reducible apply OutFrame.next
    | with_reducible apply OutFrame.ite
    | with_reducible exact Frame.refl _ _
    | with_reducible apply Frame.ite
    | (with_reducible apply State.deliverWin_frame (le := ?le); case le => decide)
    | (with_reducible apply State.modRout_frame (le := ?le); case le => decide)
    | split)

end Sys2Proof.Machine
end

