-- ==== Sys2Proof/Laws/FramesLanes.lean ====
section
/-!
SUPPORT. The field frames of the operations of Machine/Lanes.lean: the fields of the state that each may change.
-/
namespace Sys2Proof.Machine

theorem State.setLaneAc_frame (s : State) (x0) (x1) (x2) {w : Nat} {s₀ : State} (h : Frame w s₀ s) (le : 128 ||| w = w) :
    Frame w s₀ (State.setLaneAc s x0 x1 x2) := by
  refine h.step ?_ le
  unfold State.setLaneAc
  try dsimp -proj only
  repeat' (first
    | with_reducible exact Frame.refl _ _
    | (with_reducible apply State.setFld64_frame (le := ?le); case le => decide))

theorem State.laneAcc_frame (s : State) (x0) (x1) {w : Nat} {s₀ : State} (h : Frame w s₀ s) (le : 36028797018964096 ||| w = w) :
    Frame w s₀ (State.laneAcc s x0 x1) := by
  refine h.step ?_ le
  unfold State.laneAcc
  try dsimp -proj only
  repeat' (first
    | with_reducible exact Frame.refl _ _
    | with_reducible apply Frame.ite
    | (with_reducible apply State.raise_frame (le := ?le); case le => decide)
    | (with_reducible apply State.setFld_frame (le := ?le); case le => decide)
    | (with_reducible apply State.setLaneAc_frame (le := ?le); case le => decide))

theorem State.laneStop_frame (s : State) (x0) {w : Nat} {s₀ : State} (h : Frame w s₀ s) (le : 137438953600 ||| w = w) :
    Frame w s₀ (State.laneStop s x0) := by
  refine h.step ?_ le
  unfold State.laneStop
  try dsimp -proj only
  repeat' (first
    | with_reducible exact Frame.refl _ _
    | (with_reducible apply State.modLane_frame (le := ?le); case le => decide)
    | (with_reducible apply State.setEnable_frame (le := ?le); case le => decide))

theorem State.laneKill_frame (s : State) (x0) {w : Nat} {s₀ : State} (h : Frame w s₀ s) (le : 36028934457917568 ||| w = w) :
    Frame w s₀ (State.laneKill s x0) := by
  refine h.step ?_ le
  unfold State.laneKill
  try dsimp -proj only
  repeat' (first
    | with_reducible exact Frame.refl _ _
    | with_reducible apply Frame.ite
    | (with_reducible apply State.addSat_frame (le := ?le); case le => decide)
    | (with_reducible apply State.laneStop_frame (le := ?le); case le => decide)
    | (with_reducible apply State.modLane_frame (le := ?le); case le => decide)
    | (with_reducible apply State.raise_frame (le := ?le); case le => decide))

theorem State.laneFault_frame (s : State) (x0) {w : Nat} {s₀ : State} (h : Frame w s₀ s) (le : 108086528495845504 ||| w = w) :
    Frame w s₀ (State.laneFault s x0) := by
  refine h.step ?_ le
  unfold State.laneFault
  try dsimp -proj only
  repeat' (first
    | with_reducible exact Frame.refl _ _
    | (with_reducible apply State.err_frame (le := ?le); case le => decide)
    | (with_reducible apply State.laneKill_frame (le := ?le); case le => decide)
    | (with_reducible apply State.raise_frame (le := ?le); case le => decide))

theorem State.noteHalt_frame (s : State) (x0) (x1) (x2) {w : Nat} {s₀ : State} (h : Frame w s₀ s) (le : 54043195528446080 ||| w = w) :
    Frame w s₀ (State.noteHalt s x0 x1 x2) := by
  refine h.step ?_ le
  unfold State.noteHalt
  try dsimp -proj only
  repeat' (first
    | with_reducible exact Frame.refl _ _
    | (with_reducible apply State.modDbg_frame (le := ?le); case le => decide)
    | (with_reducible apply State.raise_frame (le := ?le); case le => decide))

theorem State.laneHalt_frame (s : State) (x0) (x1) (x2) {w : Nat} {s₀ : State} (h : Frame w s₀ s) (le : 54043332967399552 ||| w = w) :
    Frame w s₀ (State.laneHalt s x0 x1 x2) := by
  refine h.step ?_ le
  unfold State.laneHalt
  try dsimp -proj only
  repeat' (first
    | with_reducible exact Frame.refl _ _
    | (with_reducible apply State.modLane_frame (le := ?le); case le => decide)
    | (with_reducible apply State.noteHalt_frame (le := ?le); case le => decide))

theorem State.laneBoundary_frame (s : State) (x0) {w : Nat} {s₀ : State} (h : Frame w s₀ s) (le : 54043332967399552 ||| w = w) :
    Frame w s₀ (State.laneBoundary s x0) := by
  refine h.step ?_ le
  unfold State.laneBoundary
  try dsimp -proj only
  repeat' (first
    | with_reducible exact Frame.refl _ _
    | with_reducible apply Frame.ite
    | (with_reducible apply State.laneHalt_frame (le := ?le); case le => decide)
    | split)

theorem State.laneGo_frame (s : State) (x0) (x1) {w : Nat} {s₀ : State} (h : Frame w s₀ s) (le : 54043332967399552 ||| w = w) :
    Frame w s₀ (State.laneGo s x0 x1) := by
  refine h.step ?_ le
  unfold State.laneGo
  try dsimp -proj only
  repeat' (first
    | with_reducible exact Frame.refl _ _
    | (with_reducible apply State.laneBoundary_frame (le := ?le); case le => decide)
    | (with_reducible apply State.setFld_frame (le := ?le); case le => decide))

theorem State.laneNext_frame (s : State) (x0) {w : Nat} {s₀ : State} (h : Frame w s₀ s) (le : 54043332967399552 ||| w = w) :
    Frame w s₀ (State.laneNext s x0) := by
  refine h.step ?_ le
  unfold State.laneNext
  try dsimp -proj only
  repeat' (first
    | with_reducible exact Frame.refl _ _
    | with_reducible apply Frame.ite
    | (with_reducible apply State.laneGo_frame (le := ?le); case le => decide)
    | (with_reducible apply State.modLane_frame (le := ?le); case le => decide))

theorem State.laneRefetch_frame (s : State) (x0) {w : Nat} {s₀ : State} (h : Frame w s₀ s) (le : 108086528516849792 ||| w = w) :
    Frame w s₀ (State.laneRefetch s x0) := by
  refine h.step ?_ le
  unfold State.laneRefetch
  try dsimp -proj only
  repeat' (first
    | with_reducible exact Frame.refl _ _
    | (with_reducible apply State.err_frame (le := ?le); case le => decide)
    | (with_reducible apply State.modLane_frame (le := ?le); case le => decide)
    | (with_reducible apply State.raise_frame (le := ?le); case le => decide)
    | (with_reducible apply State.refetch_frame (le := ?le); case le => decide))

/-- What a lane instruction leads to changes only fields whose bit of `w` is set. -/
def LaneStep.Framed (w : Nat) (s : State) : LaneStep → Prop
  | .next t => Frame w s t
  | .jump t _ => Frame w s t
  | .stay t => Frame w s t
  | .fault => True

theorem LaneStep.framed_next {w : Nat} {s t : State} (h : Frame w s t) : (LaneStep.next t).Framed w s := h
theorem LaneStep.framed_jump {w : Nat} {s t : State} {a : Nat} (h : Frame w s t) : (LaneStep.jump t a).Framed w s := h
theorem LaneStep.framed_stay {w : Nat} {s t : State} (h : Frame w s t) : (LaneStep.stay t).Framed w s := h
theorem LaneStep.framed_fault {w : Nat} {s : State} : LaneStep.fault.Framed w s := trivial
theorem LaneStep.framed_ite {w : Nat} {s : State} {a b : LaneStep} {c : Prop} [Decidable c] (ha : a.Framed w s)
    (hb : b.Framed w s) : (if c then a else b).Framed w s := by
  split <;> assumption
theorem LaneStep.Framed.step {w v : Nat} {s t : State} {o : LaneStep} (h : Frame w s t) (k : o.Framed v t) (le : v ||| w = w) :
    o.Framed w s := by
  cases o with
  | fault => trivial
  | next _ => exact Frame.step h k le
  | jump _ _ => exact Frame.step h k le
  | stay _ => exact Frame.step h k le

theorem LaneStep.of_next {w : Nat} {s t : State} {o : LaneStep} (e : o = .next t) (h : o.Framed w s) : Frame w s t := by
  subst e; exact h
theorem LaneStep.of_jump {w : Nat} {s t : State} {a : Nat} {o : LaneStep} (e : o = .jump t a) (h : o.Framed w s) : Frame w s t := by
  subst e; exact h
theorem LaneStep.of_stay {w : Nat} {s t : State} {o : LaneStep} (e : o = .stay t) (h : o.Framed w s) : Frame w s t := by
  subst e; exact h

theorem State.laneIssue_frame (s : State) (n o q body) {w : Nat} (le : 126100927698862208 ||| w = w)
    (each : ∀ v, (body v).Framed w s) : OutFrame w s (s.laneIssue n o q body) := by
  have le' : 108086391729422464 ||| w = w := mask_le (m := 126100927698862208) (by decide) le
  unfold State.laneIssue
  dsimp -proj only
  repeat' (first
    | with_reducible exact OutFrame.same
    | with_reducible apply OutFrame.ite
    | with_reducible apply OutFrame.finish (le := le')
    | exact State.laneRefetch_frame _ _ (Frame.refl _ _) (mask_le (by decide) le)
    | exact State.laneFault_frame _ _ (Frame.refl _ _) (mask_le (by decide) le)
    | split)
  · rename_i e
    exact State.laneNext_frame _ _ (LaneStep.of_next e (each _)) (mask_le (by decide) le)
  · rename_i e
    exact State.laneGo_frame _ _ _ (LaneStep.of_jump e (each _)) (mask_le (by decide) le)
  · rename_i e
    exact LaneStep.of_stay e (each _)

theorem State.setLaneD_frame (s : State) (x0) (x1) (x2) {w : Nat} {s₀ : State} (h : Frame w s₀ s) (le : 128 ||| w = w) :
    Frame w s₀ (State.setLaneD s x0 x1 x2) := by
  refine h.step ?_ le
  unfold State.setLaneD
  try dsimp -proj only
  repeat' (first
    | with_reducible exact Frame.refl _ _
    | (with_reducible apply State.setFld_frame (le := ?le); case le => decide))

theorem State.laneAlu_frame (s : State) (x0) (x1) (x2) (x3) :
    OutFrame 126100927698862208 s (State.laneAlu s x0 x1 x2 x3) := by
  unfold State.laneAlu
  try dsimp -proj only
  repeat' (first
    | with_reducible exact Frame.refl _ _
    | with_reducible apply LaneStep.framed_next
    | with_reducible apply LaneStep.framed_jump
    | with_reducible apply LaneStep.framed_stay
    | with_reducible apply LaneStep.framed_fault
    | with_reducible apply LaneStep.framed_ite
    | (with_reducible apply State.laneIssue_frame (le := ?le); case le => decide)
    | (intro _; try dsimp -proj only)
    | (with_reducible apply State.setLaneD_frame (le := ?le); case le => decide))

theorem State.laneBranch_frame (s : State) (x0) (x1) (x2) (x3) :
    OutFrame 126100927698862208 s (State.laneBranch s x0 x1 x2 x3) := by
  unfold State.laneBranch
  try dsimp -proj only
  repeat' (first
    | with_reducible apply OutFrame.ite
    | with_reducible exact Frame.refl _ _
    | with_reducible apply Frame.ite
    | with_reducible apply LaneStep.framed_next
    | with_reducible apply LaneStep.framed_jump
    | with_reducible apply LaneStep.framed_stay
    | with_reducible apply LaneStep.framed_fault
    | with_reducible apply LaneStep.framed_ite
    | (with_reducible apply State.laneIssue_frame (le := ?le); case le => decide)
    | (intro _; try dsimp -proj only))

theorem State.laneDerr_frame (s : State) (x0) (x1) (x2) {w : Nat} {s₀ : State} (h : Frame w s₀ s) (le : 108086391056892032 ||| w = w) :
    Frame w s₀ (State.laneDerr s x0 x1 x2) := by
  refine h.step ?_ le
  unfold State.laneDerr
  try dsimp -proj only
  repeat' (first
    | with_reducible exact Frame.refl _ _
    | with_reducible apply Frame.ite
    | (with_reducible apply State.err_frame (le := ?le); case le => decide)
    | (with_reducible apply State.raise_frame (le := ?le); case le => decide)
    | (with_reducible apply State.setBit_frame (le := ?le); case le => decide))

theorem State.laneEnd_frame (s : State) (x0) {w : Nat} {s₀ : State} (h : Frame w s₀ s) (le : 137438953600 ||| w = w) :
    Frame w s₀ (State.laneEnd s x0) := by
  refine h.step ?_ le
  unfold State.laneEnd
  try dsimp -proj only
  repeat' (first
    | with_reducible exact Frame.refl _ _
    | with_reducible apply Frame.ite
    | (with_reducible apply State.laneStop_frame (le := ?le); case le => decide)
    | (with_reducible apply State.modLane_frame (le := ?le); case le => decide)
    | (with_reducible apply State.setEnable_frame (le := ?le); case le => decide)
    | split)

theorem State.laneMac_frame (s : State) (x0) (x1) (x2) {w : Nat} {s₀ : State} (h : Frame w s₀ s)
    (le : 108086528495845504 ||| w = w) : (State.laneMac s x0 x1 x2).Framed w s₀ := by
  unfold State.laneMac
  split
  · exact State.modLane_frame _ _ _ (State.err_frame _ _ _ _ h (mask_le (by decide) le)) (mask_le (by decide) le)
  · exact Frame.foldl h fun t x => State.laneAcc_frame _ _ _ (Frame.refl _ _) (mask_le (by decide) le)

theorem State.laneSat_frame (s : State) (x0) (x1) (x2) {w : Nat} {s₀ : State} (h : Frame w s₀ s) (le : 36028797018964096 ||| w = w) :
    Frame w s₀ (State.laneSat s x0 x1 x2).2 := by
  refine h.step ?_ le
  unfold State.laneSat
  try dsimp -proj only
  repeat' (first
    | with_reducible exact Frame.refl _ _
    | with_reducible apply Frame.ite
    | (with_reducible apply State.raise_frame (le := ?le); case le => decide)
    | (with_reducible apply State.setBit_frame (le := ?le); case le => decide))

theorem State.laneStart_frame (s : State) (x0) {w : Nat} {s₀ : State} (h : Frame w s₀ s) (le : 137438953600 ||| w = w) :
    Frame w s₀ (State.laneStart s x0) := by
  refine h.step ?_ le
  unfold State.laneStart
  try dsimp -proj only
  repeat' (first
    | with_reducible exact Frame.refl _ _
    | with_reducible apply Frame.ite
    | (with_reducible apply State.modLane_frame (le := ?le); case le => decide)
    | (with_reducible apply State.setEnable_frame (le := ?le); case le => decide)
    | (with_reducible apply State.setFld_frame (le := ?le); case le => decide))

theorem State.laneStep_frame (s : State) (x0) (x1) (x2) {w : Nat} {s₀ : State} (h : Frame w s₀ s) (le : 128 ||| w = w) :
    Frame w s₀ (State.laneStep s x0 x1 x2) := by
  refine h.step ?_ le
  unfold State.laneStep
  try dsimp -proj only
  repeat' (first
    | with_reducible exact Frame.refl _ _
    | (with_reducible apply State.setFld_frame (le := ?le); case le => decide))

theorem State.laneTake_frame (s : State) (x0) (x1) (x2) {w : Nat} {s₀ : State} (h : Frame w s₀ s) (le : 128 ||| w = w) :
    Frame w s₀ (State.laneTake s x0 x1 x2) := by
  refine h.step ?_ le
  unfold State.laneTake
  try dsimp -proj only
  repeat' (first
    | with_reducible exact Frame.refl _ _
    | (with_reducible apply State.setFld_frame (le := ?le); case le => decide))

theorem State.laneUse_frame (s : State) (x0) (x1) {w : Nat} {s₀ : State} (h : Frame w s₀ s) (le : 128 ||| w = w) :
    Frame w s₀ (State.laneUse s x0 x1) := by
  refine h.step ?_ le
  unfold State.laneUse
  try dsimp -proj only
  repeat' (first
    | with_reducible exact Frame.refl _ _
    | with_reducible apply Frame.ite
    | (with_reducible apply State.laneStep_frame (le := ?le); case le => decide))

theorem State.laneWrite_frame (s : State) (x0) {w : Nat} {s₀ : State} (h : Frame w s₀ s) (le : 108086528519536768 ||| w = w) :
    Frame w s₀ (State.laneWrite s x0) := by
  refine h.step ?_ le
  unfold State.laneWrite
  try dsimp -proj only
  repeat' (first
    | with_reducible exact Frame.refl _ _
    | with_reducible apply Frame.ite
    | (with_reducible apply State.err_frame (le := ?le); case le => decide)
    | (with_reducible apply State.modLane_frame (le := ?le); case le => decide)
    | (with_reducible apply State.ringPush_frame (le := ?le); case le => decide))

theorem State.setLaneWord_frame (s : State) (x0) (x1) (x2) {w : Nat} {s₀ : State} (h : Frame w s₀ s) (le : 16384 ||| w = w) :
    Frame w s₀ (State.setLaneWord s x0 x1 x2) := by
  refine h.step ?_ le
  unfold State.setLaneWord
  try dsimp -proj only
  repeat' (first
    | with_reducible exact Frame.refl _ _
    | ((with_reducible apply Frame.upd_bar2 (le := by decide)); swap; exact fun ⟨a, b, c, d⟩ => ⟨by first | exact a | exact Memory.wf_wrLE _ _ _ a | exact Memory.wf_wrBytes _ _ a, by first | exact b | exact Memory.wf_wrBytes _ _ b, by first | exact c | exact Memory.wf_wrLE _ _ _ c | exact Memory.wf_wrBytes _ _ c, d⟩))

theorem execLaneAadd_frame (x0) (x1) (s : State) :
    OutFrame 126100927698862208 s (execLaneAadd x0 x1 s) := by
  unfold execLaneAadd
  try dsimp -proj only
  repeat' (first
    | with_reducible exact Frame.refl _ _
    | with_reducible apply LaneStep.framed_next
    | with_reducible apply LaneStep.framed_jump
    | with_reducible apply LaneStep.framed_stay
    | with_reducible apply LaneStep.framed_fault
    | with_reducible apply LaneStep.framed_ite
    | (with_reducible apply State.laneIssue_frame (le := ?le); case le => decide)
    | (intro _; try dsimp -proj only)
    | (with_reducible apply State.laneStep_frame (le := ?le); case le => decide))

theorem execLaneAclr_frame (x0) (x1) (s : State) :
    OutFrame 126100927698862208 s (execLaneAclr x0 x1 s) := by
  unfold execLaneAclr
  try dsimp -proj only
  repeat' (first
    | with_reducible exact Frame.refl _ _
    | with_reducible apply LaneStep.framed_next
    | with_reducible apply LaneStep.framed_jump
    | with_reducible apply LaneStep.framed_stay
    | with_reducible apply LaneStep.framed_fault
    | with_reducible apply LaneStep.framed_ite
    | (with_reducible apply State.laneIssue_frame (le := ?le); case le => decide)
    | (intro _; try dsimp -proj only)
    | (with_reducible apply State.setLaneAc_frame (le := ?le); case le => decide))

theorem execLaneAdd_frame (x0) (x1) (s : State) :
    OutFrame 126100927698862208 s (execLaneAdd x0 x1 s) := by
  unfold execLaneAdd
  try dsimp -proj only
  repeat' (first
    | with_reducible exact Frame.refl _ _
    | (with_reducible apply OutFrame.mono (h := State.laneAlu_frame ..) (le := ?le); case le => decide))

theorem execLaneAddi_frame (x0) (x1) (s : State) :
    OutFrame 126100927698862208 s (execLaneAddi x0 x1 s) := by
  unfold execLaneAddi
  try dsimp -proj only
  repeat' (first
    | with_reducible exact Frame.refl _ _
    | (with_reducible apply OutFrame.mono (h := State.laneAlu_frame ..) (le := ?le); case le => decide))

theorem execLaneAmov_frame (x0) (x1) (s : State) :
    OutFrame 126100927698862208 s (execLaneAmov x0 x1 s) := by
  unfold execLaneAmov
  try dsimp -proj only
  repeat' (first
    | with_reducible exact Frame.refl _ _
    | with_reducible apply LaneStep.framed_next
    | with_reducible apply LaneStep.framed_jump
    | with_reducible apply LaneStep.framed_stay
    | with_reducible apply LaneStep.framed_fault
    | with_reducible apply LaneStep.framed_ite
    | (with_reducible apply State.laneIssue_frame (le := ?le); case le => decide)
    | (intro _; try dsimp -proj only)
    | (with_reducible apply State.setFld_frame (le := ?le); case le => decide))

theorem execLaneAmovi_frame (x0) (x1) (s : State) :
    OutFrame 126100927698862208 s (execLaneAmovi x0 x1 s) := by
  unfold execLaneAmovi
  try dsimp -proj only
  repeat' (first
    | with_reducible exact Frame.refl _ _
    | with_reducible apply LaneStep.framed_next
    | with_reducible apply LaneStep.framed_jump
    | with_reducible apply LaneStep.framed_stay
    | with_reducible apply LaneStep.framed_fault
    | with_reducible apply LaneStep.framed_ite
    | (with_reducible apply State.laneIssue_frame (le := ?le); case le => decide)
    | (intro _; try dsimp -proj only)
    | (with_reducible apply State.setFld_frame (le := ?le); case le => decide))

theorem execLaneAnd_frame (x0) (x1) (s : State) :
    OutFrame 126100927698862208 s (execLaneAnd x0 x1 s) := by
  unfold execLaneAnd
  try dsimp -proj only
  repeat' (first
    | with_reducible exact Frame.refl _ _
    | (with_reducible apply OutFrame.mono (h := State.laneAlu_frame ..) (le := ?le); case le => decide))

theorem execLaneAset_frame (x0) (x1) (s : State) :
    OutFrame 126100927698862208 s (execLaneAset x0 x1 s) := by
  unfold execLaneAset
  try dsimp -proj only
  repeat' (first
    | with_reducible exact Frame.refl _ _
    | with_reducible apply LaneStep.framed_next
    | with_reducible apply LaneStep.framed_jump
    | with_reducible apply LaneStep.framed_stay
    | with_reducible apply LaneStep.framed_fault
    | with_reducible apply LaneStep.framed_ite
    | (with_reducible apply State.laneIssue_frame (le := ?le); case le => decide)
    | (intro _; try dsimp -proj only)
    | (with_reducible apply State.setLaneAc_frame (le := ?le); case le => decide))

theorem execLaneBeqz_frame (x0) (x1) (s : State) :
    OutFrame 126100927698862208 s (execLaneBeqz x0 x1 s) := by
  unfold execLaneBeqz
  try dsimp -proj only
  repeat' (first
    | with_reducible exact Frame.refl _ _
    | (with_reducible apply OutFrame.mono (h := State.laneBranch_frame ..) (le := ?le); case le => decide))

theorem execLaneBgez_frame (x0) (x1) (s : State) :
    OutFrame 126100927698862208 s (execLaneBgez x0 x1 s) := by
  unfold execLaneBgez
  try dsimp -proj only
  repeat' (first
    | with_reducible exact Frame.refl _ _
    | (with_reducible apply OutFrame.mono (h := State.laneBranch_frame ..) (le := ?le); case le => decide))

theorem execLaneBltz_frame (x0) (x1) (s : State) :
    OutFrame 126100927698862208 s (execLaneBltz x0 x1 s) := by
  unfold execLaneBltz
  try dsimp -proj only
  repeat' (first
    | with_reducible exact Frame.refl _ _
    | (with_reducible apply OutFrame.mono (h := State.laneBranch_frame ..) (le := ?le); case le => decide))

theorem execLaneBnez_frame (x0) (x1) (s : State) :
    OutFrame 126100927698862208 s (execLaneBnez x0 x1 s) := by
  unfold execLaneBnez
  try dsimp -proj only
  repeat' (first
    | with_reducible exact Frame.refl _ _
    | (with_reducible apply OutFrame.mono (h := State.laneBranch_frame ..) (le := ?le); case le => decide))

theorem execLaneCall_frame (x0) (x1) (s : State) :
    OutFrame 126100927698862208 s (execLaneCall x0 x1 s) := by
  unfold execLaneCall
  try dsimp -proj only
  repeat' (first
    | with_reducible apply OutFrame.ite
    | with_reducible exact Frame.refl _ _
    | with_reducible apply Frame.ite
    | with_reducible apply LaneStep.framed_next
    | with_reducible apply LaneStep.framed_jump
    | with_reducible apply LaneStep.framed_stay
    | with_reducible apply LaneStep.framed_fault
    | with_reducible apply LaneStep.framed_ite
    | (with_reducible apply State.laneIssue_frame (le := ?le); case le => decide)
    | (intro _; try dsimp -proj only)
    | (with_reducible apply State.modLane_frame (le := ?le); case le => decide))

theorem execLaneClov_frame (x0) (x1) (s : State) :
    OutFrame 126100927698862208 s (execLaneClov x0 x1 s) := by
  unfold execLaneClov
  try dsimp -proj only
  repeat' (first
    | with_reducible apply OutFrame.ite
    | with_reducible exact Frame.refl _ _
    | with_reducible apply Frame.ite
    | with_reducible apply LaneStep.framed_next
    | with_reducible apply LaneStep.framed_jump
    | with_reducible apply LaneStep.framed_stay
    | with_reducible apply LaneStep.framed_fault
    | with_reducible apply LaneStep.framed_ite
    | (with_reducible apply State.laneIssue_frame (le := ?le); case le => decide)
    | (intro _; try dsimp -proj only)
    | (with_reducible apply State.setFld_frame (le := ?le); case le => decide))

theorem execLaneCmac_frame (x0) (x1) (s : State) :
    OutFrame 126100927698862208 s (execLaneCmac x0 x1 s) := by
  unfold execLaneCmac
  try dsimp -proj only
  repeat' (first
    | with_reducible exact Frame.refl _ _
    | with_reducible apply LaneStep.framed_next
    | with_reducible apply LaneStep.framed_jump
    | with_reducible apply LaneStep.framed_stay
    | with_reducible apply LaneStep.framed_fault
    | with_reducible apply LaneStep.framed_ite
    | (with_reducible apply State.laneIssue_frame (le := ?le); case le => decide)
    | (intro _; try dsimp -proj only)
    | (with_reducible apply State.laneMac_frame (le := ?le); case le => decide))

theorem execLaneCmld_frame (x0) (x1) (s : State) :
    OutFrame 126100927698862208 s (execLaneCmld x0 x1 s) := by
  unfold execLaneCmld
  try dsimp -proj only
  repeat' (first
    | with_reducible apply OutFrame.ite
    | with_reducible exact Frame.refl _ _
    | with_reducible apply Frame.ite
    | with_reducible apply LaneStep.framed_next
    | with_reducible apply LaneStep.framed_jump
    | with_reducible apply LaneStep.framed_stay
    | with_reducible apply LaneStep.framed_fault
    | with_reducible apply LaneStep.framed_ite
    | (with_reducible apply State.laneDerr_frame (le := ?le); case le => decide)
    | (with_reducible apply State.laneIssue_frame (le := ?le); case le => decide)
    | (intro _; try dsimp -proj only)
    | (with_reducible apply State.laneMac_frame (le := ?le); case le => decide)
    | (with_reducible apply State.laneStep_frame (le := ?le); case le => decide))

theorem execLaneCmul_frame (x0) (x1) (s : State) :
    OutFrame 126100927698862208 s (execLaneCmul x0 x1 s) := by
  unfold execLaneCmul
  try dsimp -proj only
  repeat' (first
    | with_reducible exact Frame.refl _ _
    | with_reducible apply LaneStep.framed_next
    | with_reducible apply LaneStep.framed_jump
    | with_reducible apply LaneStep.framed_stay
    | with_reducible apply LaneStep.framed_fault
    | with_reducible apply LaneStep.framed_ite
    | (with_reducible apply State.laneIssue_frame (le := ?le); case le => decide)
    | (intro _; try dsimp -proj only)
    | (with_reducible apply State.laneMac_frame (le := ?le); case le => decide))

theorem execLaneDbnz_frame (x0) (x1) (s : State) :
    OutFrame 126100927698862208 s (execLaneDbnz x0 x1 s) := by
  unfold execLaneDbnz
  try dsimp -proj only
  repeat' (first
    | with_reducible apply OutFrame.ite
    | with_reducible exact Frame.refl _ _
    | with_reducible apply Frame.ite
    | with_reducible apply LaneStep.framed_next
    | with_reducible apply LaneStep.framed_jump
    | with_reducible apply LaneStep.framed_stay
    | with_reducible apply LaneStep.framed_fault
    | with_reducible apply LaneStep.framed_ite
    | (with_reducible apply State.laneIssue_frame (le := ?le); case le => decide)
    | (intro _; try dsimp -proj only)
    | (with_reducible apply State.setLaneD_frame (le := ?le); case le => decide))

theorem execLaneDec_frame (x0) (x1) (s : State) :
    OutFrame 126113297204674688 s (execLaneDec x0 x1 s) := by
  unfold execLaneDec
  try dsimp -proj only
  repeat' (first
    | with_reducible exact Frame.refl _ _
    | with_reducible apply LaneStep.framed_next
    | with_reducible apply LaneStep.framed_jump
    | with_reducible apply LaneStep.framed_stay
    | with_reducible apply LaneStep.framed_fault
    | with_reducible apply LaneStep.framed_ite
    | (with_reducible apply State.feed_frame (le := ?le); case le => decide)
    | (with_reducible apply State.laneIssue_frame (le := ?le); case le => decide)
    | (intro _; try dsimp -proj only))

theorem execLaneEvt_frame (x0) (x1) (s : State) :
    OutFrame 126100927698862208 s (execLaneEvt x0 x1 s) := by
  unfold execLaneEvt
  try dsimp -proj only
  repeat' (first
    | with_reducible apply OutFrame.ite
    | with_reducible exact Frame.refl _ _
    | with_reducible apply Frame.ite
    | with_reducible apply LaneStep.framed_next
    | with_reducible apply LaneStep.framed_jump
    | with_reducible apply LaneStep.framed_stay
    | with_reducible apply LaneStep.framed_fault
    | with_reducible apply LaneStep.framed_ite
    | (with_reducible apply State.laneIssue_frame (le := ?le); case le => decide)
    | (intro _; try dsimp -proj only)
    | (with_reducible apply State.newWindow_frame (le := ?le); case le => decide)
    | (with_reducible apply State.publish_frame (le := ?le); case le => decide))

theorem execLaneExp_frame (x0) (x1) (s : State) :
    OutFrame 126100927698862208 s (execLaneExp x0 x1 s) := by
  unfold execLaneExp
  try dsimp -proj only
  repeat' (first
    | with_reducible exact Frame.refl _ _
    | (with_reducible apply OutFrame.mono (h := State.laneAlu_frame ..) (le := ?le); case le => decide))

theorem execLaneExpd_frame (x0) (x1) (s : State) :
    OutFrame 126100927698862208 s (execLaneExpd x0 x1 s) := by
  unfold execLaneExpd
  try dsimp -proj only
  repeat' (first
    | with_reducible exact Frame.refl _ _
    | (with_reducible apply OutFrame.mono (h := State.laneAlu_frame ..) (le := ?le); case le => decide))

theorem execLaneHalt_frame (x0) (x1) (s : State) :
    OutFrame 126100927698862208 s (execLaneHalt x0 x1 s) := by
  unfold execLaneHalt
  try dsimp -proj only
  repeat' (first
    | with_reducible exact Frame.refl _ _
    | with_reducible apply LaneStep.framed_next
    | with_reducible apply LaneStep.framed_jump
    | with_reducible apply LaneStep.framed_stay
    | with_reducible apply LaneStep.framed_fault
    | with_reducible apply LaneStep.framed_ite
    | (with_reducible apply State.laneIssue_frame (le := ?le); case le => decide)
    | (intro _; try dsimp -proj only)
    | (with_reducible apply State.laneStop_frame (le := ?le); case le => decide)
    | (with_reducible apply State.raise_frame (le := ?le); case le => decide)
    | (with_reducible apply State.setFld_frame (le := ?le); case le => decide))

theorem execLaneHset_frame (x0) (x1) (s : State) :
    OutFrame 126100927698862208 s (execLaneHset x0 x1 s) := by
  unfold execLaneHset
  try dsimp -proj only
  repeat' (first
    | with_reducible exact Frame.refl _ _
    | with_reducible apply LaneStep.framed_next
    | with_reducible apply LaneStep.framed_jump
    | with_reducible apply LaneStep.framed_stay
    | with_reducible apply LaneStep.framed_fault
    | with_reducible apply LaneStep.framed_ite
    | (with_reducible apply State.laneIssue_frame (le := ?le); case le => decide)
    | (intro _; try dsimp -proj only)
    | (with_reducible apply State.setReg_frame (le := ?le); case le => decide))

theorem execLaneImemRefetchComplete_frame (x0) (s : State) :
    OutFrame 126100927677857920 s (execLaneImemRefetchComplete x0 s) := by
  unfold execLaneImemRefetchComplete
  try dsimp -proj only
  repeat' (first
    | (with_reducible apply OutFrame.finish (le := ?le); case le => decide)
    | with_reducible exact OutFrame.same
    | with_reducible apply OutFrame.next
    | with_reducible apply OutFrame.ite
    | with_reducible exact Frame.refl _ _
    | with_reducible apply Frame.ite
    | (with_reducible apply State.laneBoundary_frame (le := ?le); case le => decide)
    | (with_reducible apply State.modLane_frame (le := ?le); case le => decide))

theorem execLaneInputUnit_frame (x0) (x1) (s : State) :
    OutFrame 108086529168392320 s (execLaneInputUnit x0 x1 s) := by
  unfold execLaneInputUnit
  try dsimp -proj only
  repeat' (first
    | (with_reducible apply OutFrame.finish (le := ?le); case le => decide)
    | with_reducible exact OutFrame.same
    | with_reducible apply OutFrame.next
    | with_reducible apply OutFrame.ite
    | with_reducible exact Frame.refl _ _
    | with_reducible apply Frame.ite
    | with_reducible apply Frame.foldl
    | intro _ _
    | (with_reducible apply State.inc_frame (le := ?le); case le => decide)
    | (with_reducible apply State.laneTake_frame (le := ?le); case le => decide)
    | (with_reducible apply State.modLane_frame (le := ?le); case le => decide)
    | (with_reducible apply State.raise_frame (le := ?le); case le => decide)
    | (with_reducible apply State.setFld_frame (le := ?le); case le => decide)
    | (with_reducible apply State.setLaneWord_frame (le := ?le); case le => decide)
    | split)

theorem execLaneJmp_frame (x0) (x1) (s : State) :
    OutFrame 126100927698862208 s (execLaneJmp x0 x1 s) := by
  unfold execLaneJmp
  try dsimp -proj only
  repeat' (first
    | with_reducible exact Frame.refl _ _
    | with_reducible apply LaneStep.framed_next
    | with_reducible apply LaneStep.framed_jump
    | with_reducible apply LaneStep.framed_stay
    | with_reducible apply LaneStep.framed_fault
    | with_reducible apply LaneStep.framed_ite
    | (with_reducible apply State.laneIssue_frame (le := ?le); case le => decide)
    | (intro _; try dsimp -proj only))

theorem execLaneLd_frame (x0) (x1) (s : State) :
    OutFrame 126100927698862208 s (execLaneLd x0 x1 s) := by
  unfold execLaneLd
  try dsimp -proj only
  repeat' (first
    | with_reducible exact Frame.refl _ _
    | with_reducible apply LaneStep.framed_next
    | with_reducible apply LaneStep.framed_jump
    | with_reducible apply LaneStep.framed_stay
    | with_reducible apply LaneStep.framed_fault
    | with_reducible apply LaneStep.framed_ite
    | (with_reducible apply State.laneDerr_frame (le := ?le); case le => decide)
    | (with_reducible apply State.laneIssue_frame (le := ?le); case le => decide)
    | (intro _; try dsimp -proj only)
    | (with_reducible apply State.laneUse_frame (le := ?le); case le => decide)
    | (with_reducible apply State.setLaneD_frame (le := ?le); case le => decide))

theorem execLaneLd2_frame (x0) (x1) (s : State) :
    OutFrame 126100927698862208 s (execLaneLd2 x0 x1 s) := by
  unfold execLaneLd2
  try dsimp -proj only
  repeat' (first
    | with_reducible exact Frame.refl _ _
    | with_reducible apply LaneStep.framed_next
    | with_reducible apply LaneStep.framed_jump
    | with_reducible apply LaneStep.framed_stay
    | with_reducible apply LaneStep.framed_fault
    | with_reducible apply LaneStep.framed_ite
    | (with_reducible apply State.laneDerr_frame (le := ?le); case le => decide)
    | (with_reducible apply State.laneIssue_frame (le := ?le); case le => decide)
    | (intro _; try dsimp -proj only)
    | (with_reducible apply State.laneUse_frame (le := ?le); case le => decide)
    | (with_reducible apply State.setLaneD_frame (le := ?le); case le => decide))

theorem execLaneMova_frame (x0) (x1) (s : State) :
    OutFrame 126100927698862208 s (execLaneMova x0 x1 s) := by
  unfold execLaneMova
  try dsimp -proj only
  repeat' (first
    | with_reducible exact Frame.refl _ _
    | with_reducible apply LaneStep.framed_next
    | with_reducible apply LaneStep.framed_jump
    | with_reducible apply LaneStep.framed_stay
    | with_reducible apply LaneStep.framed_fault
    | with_reducible apply LaneStep.framed_ite
    | (with_reducible apply State.laneIssue_frame (le := ?le); case le => decide)
    | (intro _; try dsimp -proj only)
    | (with_reducible apply State.laneSat_frame (le := ?le); case le => decide)
    | (with_reducible apply State.setLaneD_frame (le := ?le); case le => decide))

theorem execLaneMovh_frame (x0) (x1) (s : State) :
    OutFrame 126100927698862208 s (execLaneMovh x0 x1 s) := by
  unfold execLaneMovh
  try dsimp -proj only
  repeat' (first
    | with_reducible exact Frame.refl _ _
    | (with_reducible apply OutFrame.mono (h := State.laneAlu_frame ..) (le := ?le); case le => decide))

theorem execLaneMovi_frame (x0) (x1) (s : State) :
    OutFrame 126100927698862208 s (execLaneMovi x0 x1 s) := by
  unfold execLaneMovi
  try dsimp -proj only
  repeat' (first
    | with_reducible exact Frame.refl _ _
    | (with_reducible apply OutFrame.mono (h := State.laneAlu_frame ..) (le := ?le); case le => decide))

theorem execLaneMul_frame (x0) (x1) (s : State) :
    OutFrame 126100927698862208 s (execLaneMul x0 x1 s) := by
  unfold execLaneMul
  try dsimp -proj only
  repeat' (first
    | with_reducible exact Frame.refl _ _
    | (with_reducible apply OutFrame.mono (h := State.laneAlu_frame ..) (le := ?le); case le => decide))

theorem execLaneNop_frame (x0) (x1) (s : State) :
    OutFrame 126100927698862208 s (execLaneNop x0 x1 s) := by
  unfold execLaneNop
  try dsimp -proj only
  repeat' (first
    | with_reducible exact Frame.refl _ _
    | with_reducible apply LaneStep.framed_next
    | with_reducible apply LaneStep.framed_jump
    | with_reducible apply LaneStep.framed_stay
    | with_reducible apply LaneStep.framed_fault
    | with_reducible apply LaneStep.framed_ite
    | (with_reducible apply State.laneIssue_frame (le := ?le); case le => decide)
    | (intro _; try dsimp -proj only))

theorem execLaneNorm_frame (x0) (x1) (s : State) :
    OutFrame 126100927698862208 s (execLaneNorm x0 x1 s) := by
  unfold execLaneNorm
  try dsimp -proj only
  repeat' (first
    | with_reducible exact Frame.refl _ _
    | with_reducible apply LaneStep.framed_next
    | with_reducible apply LaneStep.framed_jump
    | with_reducible apply LaneStep.framed_stay
    | with_reducible apply LaneStep.framed_fault
    | with_reducible apply LaneStep.framed_ite
    | (with_reducible apply State.laneIssue_frame (le := ?le); case le => decide)
    | (intro _; try dsimp -proj only)
    | (with_reducible apply State.setLaneAc_frame (le := ?le); case le => decide)
    | (with_reducible apply State.setLaneD_frame (le := ?le); case le => decide))

theorem execLaneOr_frame (x0) (x1) (s : State) :
    OutFrame 126100927698862208 s (execLaneOr x0 x1 s) := by
  unfold execLaneOr
  try dsimp -proj only
  repeat' (first
    | with_reducible exact Frame.refl _ _
    | (with_reducible apply OutFrame.mono (h := State.laneAlu_frame ..) (le := ?le); case le => decide))

theorem execLaneOutw_frame (x0) (x1) (s : State) :
    OutFrame 126100927701549184 s (execLaneOutw x0 x1 s) := by
  unfold execLaneOutw
  try dsimp -proj only
  repeat' (first
    | with_reducible apply OutFrame.ite
    | with_reducible exact Frame.refl _ _
    | with_reducible apply Frame.ite
    | with_reducible apply LaneStep.framed_next
    | with_reducible apply LaneStep.framed_jump
    | with_reducible apply LaneStep.framed_stay
    | with_reducible apply LaneStep.framed_fault
    | with_reducible apply LaneStep.framed_ite
    | (with_reducible apply State.laneIssue_frame (le := ?le); case le => decide)
    | (intro _; try dsimp -proj only)
    | (with_reducible apply State.laneWrite_frame (le := ?le); case le => decide)
    | (with_reducible apply State.modLane_frame (le := ?le); case le => decide))

theorem execLanePack_frame (x0) (x1) (s : State) :
    OutFrame 126100927698862208 s (execLanePack x0 x1 s) := by
  unfold execLanePack
  try dsimp -proj only
  repeat' (first
    | with_reducible exact Frame.refl _ _
    | with_reducible apply LaneStep.framed_next
    | with_reducible apply LaneStep.framed_jump
    | with_reducible apply LaneStep.framed_stay
    | with_reducible apply LaneStep.framed_fault
    | with_reducible apply LaneStep.framed_ite
    | (with_reducible apply State.laneIssue_frame (le := ?le); case le => decide)
    | (intro _; try dsimp -proj only)
    | (with_reducible apply State.laneSat_frame (le := ?le); case le => decide)
    | (with_reducible apply State.setLaneD_frame (le := ?le); case le => decide))

theorem execLaneQmac_frame (x0) (x1) (s : State) :
    OutFrame 126100927698862208 s (execLaneQmac x0 x1 s) := by
  unfold execLaneQmac
  try dsimp -proj only
  repeat' (first
    | with_reducible exact Frame.refl _ _
    | with_reducible apply LaneStep.framed_next
    | with_reducible apply LaneStep.framed_jump
    | with_reducible apply LaneStep.framed_stay
    | with_reducible apply LaneStep.framed_fault
    | with_reducible apply LaneStep.framed_ite
    | (with_reducible apply State.laneIssue_frame (le := ?le); case le => decide)
    | (intro _; try dsimp -proj only)
    | (with_reducible apply State.laneMac_frame (le := ?le); case le => decide))

theorem execLaneQmul_frame (x0) (x1) (s : State) :
    OutFrame 126100927698862208 s (execLaneQmul x0 x1 s) := by
  unfold execLaneQmul
  try dsimp -proj only
  repeat' (first
    | with_reducible exact Frame.refl _ _
    | with_reducible apply LaneStep.framed_next
    | with_reducible apply LaneStep.framed_jump
    | with_reducible apply LaneStep.framed_stay
    | with_reducible apply LaneStep.framed_fault
    | with_reducible apply LaneStep.framed_ite
    | (with_reducible apply State.laneIssue_frame (le := ?le); case le => decide)
    | (intro _; try dsimp -proj only)
    | (with_reducible apply State.laneMac_frame (le := ?le); case le => decide))

theorem execLaneRecompute_frame (x0) (x1) (s : State) :
    OutFrame 126100927677890688 s (execLaneRecompute x0 x1 s) := by
  unfold execLaneRecompute
  try dsimp -proj only
  repeat' (first
    | (with_reducible apply OutFrame.finish (le := ?le); case le => decide)
    | with_reducible exact OutFrame.same
    | with_reducible apply OutFrame.next
    | with_reducible apply OutFrame.ite
    | with_reducible exact Frame.refl _ _
    | with_reducible apply Frame.ite
    | with_reducible apply Frame.foldl
    | intro _ _
    | (with_reducible apply State.chargeRes_frame (le := ?le) (e := by assumption); case le => decide)
    | (with_reducible apply State.err_frame (le := ?le); case le => decide)
    | (with_reducible apply State.inc_frame (le := ?le); case le => decide)
    | (with_reducible apply State.laneAcc_frame (le := ?le); case le => decide)
    | (with_reducible apply State.laneKill_frame (le := ?le); case le => decide)
    | (with_reducible apply State.laneNext_frame (le := ?le); case le => decide)
    | (with_reducible apply State.modLane_frame (le := ?le); case le => decide)
    | split)

theorem execLaneRet_frame (x0) (x1) (s : State) :
    OutFrame 126100927698862208 s (execLaneRet x0 x1 s) := by
  unfold execLaneRet
  try dsimp -proj only
  repeat' (first
    | with_reducible exact Frame.refl _ _
    | with_reducible apply LaneStep.framed_next
    | with_reducible apply LaneStep.framed_jump
    | with_reducible apply LaneStep.framed_stay
    | with_reducible apply LaneStep.framed_fault
    | with_reducible apply LaneStep.framed_ite
    | (with_reducible apply State.laneIssue_frame (le := ?le); case le => decide)
    | (intro _; try dsimp -proj only)
    | (with_reducible apply State.modLane_frame (le := ?le); case le => decide)
    | split)

theorem execLaneRpt_frame (x0) (x1) (s : State) :
    OutFrame 414331303850573952 s (execLaneRpt x0 x1 s) := by
  unfold execLaneRpt
  try dsimp -proj only
  repeat' (first
    | with_reducible apply OutFrame.ite
    | with_reducible exact Frame.refl _ _
    | with_reducible apply Frame.ite
    | with_reducible apply LaneStep.framed_next
    | with_reducible apply LaneStep.framed_jump
    | with_reducible apply LaneStep.framed_stay
    | with_reducible apply LaneStep.framed_fault
    | with_reducible apply LaneStep.framed_ite
    | (with_reducible apply State.laneBoundary_frame (le := ?le); case le => decide)
    | (with_reducible apply State.laneIssue_frame (le := ?le); case le => decide)
    | (intro _; try dsimp -proj only)
    | (with_reducible apply State.modLane_frame (le := ?le); case le => decide)
    | (with_reducible apply State.setFld_frame (le := ?le); case le => decide)
    | (with_reducible apply State.tookFree_frame (le := ?le); case le => decide))

theorem execLaneSari_frame (x0) (x1) (s : State) :
    OutFrame 126100927698862208 s (execLaneSari x0 x1 s) := by
  unfold execLaneSari
  try dsimp -proj only
  repeat' (first
    | with_reducible exact Frame.refl _ _
    | (with_reducible apply OutFrame.mono (h := State.laneAlu_frame ..) (le := ?le); case le => decide))

theorem execLaneShli_frame (x0) (x1) (s : State) :
    OutFrame 126100927698862208 s (execLaneShli x0 x1 s) := by
  unfold execLaneShli
  try dsimp -proj only
  repeat' (first
    | with_reducible exact Frame.refl _ _
    | (with_reducible apply OutFrame.mono (h := State.laneAlu_frame ..) (le := ?le); case le => decide))

theorem execLaneShri_frame (x0) (x1) (s : State) :
    OutFrame 126100927698862208 s (execLaneShri x0 x1 s) := by
  unfold execLaneShri
  try dsimp -proj only
  repeat' (first
    | with_reducible exact Frame.refl _ _
    | (with_reducible apply OutFrame.mono (h := State.laneAlu_frame ..) (le := ?le); case le => decide))

theorem execLaneSt_frame (x0) (x1) (s : State) :
    OutFrame 126100927698878592 s (execLaneSt x0 x1 s) := by
  unfold execLaneSt
  try dsimp -proj only
  repeat' (first
    | with_reducible exact Frame.refl _ _
    | with_reducible apply LaneStep.framed_next
    | with_reducible apply LaneStep.framed_jump
    | with_reducible apply LaneStep.framed_stay
    | with_reducible apply LaneStep.framed_fault
    | with_reducible apply LaneStep.framed_ite
    | (with_reducible apply State.laneIssue_frame (le := ?le); case le => decide)
    | (intro _; try dsimp -proj only)
    | (with_reducible apply State.laneUse_frame (le := ?le); case le => decide)
    | (with_reducible apply State.setLaneWord_frame (le := ?le); case le => decide))

theorem execLaneSt2_frame (x0) (x1) (s : State) :
    OutFrame 126100927698878592 s (execLaneSt2 x0 x1 s) := by
  unfold execLaneSt2
  try dsimp -proj only
  repeat' (first
    | with_reducible exact Frame.refl _ _
    | with_reducible apply LaneStep.framed_next
    | with_reducible apply LaneStep.framed_jump
    | with_reducible apply LaneStep.framed_stay
    | with_reducible apply LaneStep.framed_fault
    | with_reducible apply LaneStep.framed_ite
    | (with_reducible apply State.laneIssue_frame (le := ?le); case le => decide)
    | (intro _; try dsimp -proj only)
    | (with_reducible apply State.laneUse_frame (le := ?le); case le => decide)
    | (with_reducible apply State.setLaneWord_frame (le := ?le); case le => decide))

theorem execLaneStmp_frame (x0) (x1) (s : State) :
    OutFrame 414331303850573952 s (execLaneStmp x0 x1 s) := by
  unfold execLaneStmp
  try dsimp -proj only
  repeat' (first
    | with_reducible exact Frame.refl _ _
    | with_reducible apply LaneStep.framed_next
    | with_reducible apply LaneStep.framed_jump
    | with_reducible apply LaneStep.framed_stay
    | with_reducible apply LaneStep.framed_fault
    | with_reducible apply LaneStep.framed_ite
    | (with_reducible apply State.laneIssue_frame (le := ?le); case le => decide)
    | (intro _; try dsimp -proj only)
    | (with_reducible apply State.setLaneD_frame (le := ?le); case le => decide)
    | (with_reducible apply State.tookFree_frame (le := ?le); case le => decide)
    | split)

theorem execLaneSub_frame (x0) (x1) (s : State) :
    OutFrame 126100927698862208 s (execLaneSub x0 x1 s) := by
  unfold execLaneSub
  try dsimp -proj only
  repeat' (first
    | with_reducible exact Frame.refl _ _
    | (with_reducible apply OutFrame.mono (h := State.laneAlu_frame ..) (le := ?le); case le => decide))

theorem execLaneTake_frame (x0) (x1) (s : State) :
    OutFrame 126100927698862208 s (execLaneTake x0 x1 s) := by
  unfold execLaneTake
  try dsimp -proj only
  repeat' (first
    | with_reducible exact Frame.refl _ _
    | with_reducible apply LaneStep.framed_next
    | with_reducible apply LaneStep.framed_jump
    | with_reducible apply LaneStep.framed_stay
    | with_reducible apply LaneStep.framed_fault
    | with_reducible apply LaneStep.framed_ite
    | (with_reducible apply State.laneIssue_frame (le := ?le); case le => decide)
    | (intro _; try dsimp -proj only)
    | (with_reducible apply State.laneTake_frame (le := ?le); case le => decide))

theorem execLaneWaiti_frame (x0) (x1) (s : State) :
    OutFrame 126100927698862208 s (execLaneWaiti x0 x1 s) := by
  unfold execLaneWaiti
  try dsimp -proj only
  repeat' (first
    | with_reducible apply OutFrame.ite
    | with_reducible exact Frame.refl _ _
    | with_reducible apply Frame.ite
    | with_reducible apply LaneStep.framed_next
    | with_reducible apply LaneStep.framed_jump
    | with_reducible apply LaneStep.framed_stay
    | with_reducible apply LaneStep.framed_fault
    | with_reducible apply LaneStep.framed_ite
    | (with_reducible apply State.laneIssue_frame (le := ?le); case le => decide)
    | (intro _; try dsimp -proj only)
    | (with_reducible apply State.laneStop_frame (le := ?le); case le => decide)
    | (with_reducible apply State.modLane_frame (le := ?le); case le => decide))

theorem execLaneXor_frame (x0) (x1) (s : State) :
    OutFrame 126100927698862208 s (execLaneXor x0 x1 s) := by
  unfold execLaneXor
  try dsimp -proj only
  repeat' (first
    | with_reducible exact Frame.refl _ _
    | (with_reducible apply OutFrame.mono (h := State.laneAlu_frame ..) (le := ?le); case le => decide))

theorem execWaitiRelease_frame (x0) (s : State) :
    OutFrame 126100927677857920 s (execWaitiRelease x0 s) := by
  unfold execWaitiRelease
  try dsimp -proj only
  repeat' (first
    | (with_reducible apply OutFrame.finish (le := ?le); case le => decide)
    | with_reducible exact OutFrame.same
    | with_reducible apply OutFrame.next
    | with_reducible apply OutFrame.ite
    | with_reducible exact Frame.refl _ _
    | with_reducible apply Frame.ite
    | (with_reducible apply State.laneNext_frame (le := ?le); case le => decide)
    | (with_reducible apply State.modLane_frame (le := ?le); case le => decide)
    | split)

end Sys2Proof.Machine
end

