-- ==== Sys2Proof/Laws/FramesTargets.lean ====
section
/-!
SUPPORT. The field frames of the operations of Machine/Targets.lean: the fields of the state that each may change.
-/
namespace Sys2Proof.Machine

theorem State.modQueue_frame (s : State) (x0) (x1) {w : Nat} {s₀ : State} (h : Frame w s₀ s) (le : 105572577837056 ||| w = w) :
    Frame w s₀ (State.modQueue s x0 x1) := by
  refine h.step ?_ le
  unfold State.modQueue
  try dsimp -proj only
  repeat' (first
    | with_reducible exact Frame.refl _ _
    | (with_reducible apply State.modAcq_frame (le := ?le); case le => decide)
    | (with_reducible apply State.modEvch_frame (le := ?le); case le => decide)
    | (with_reducible apply State.modFlux_frame (le := ?le); case le => decide)
    | (with_reducible apply State.modRout_frame (le := ?le); case le => decide)
    | (with_reducible apply State.modTone_frame (le := ?le); case le => decide)
    | split)

theorem State.keepCmds_frame (s : State) (x0) {w : Nat} {s₀ : State} (h : Frame w s₀ s) (le : 105572577837056 ||| w = w) :
    Frame w s₀ (State.keepCmds s x0) := by
  refine h.step ?_ le
  unfold State.keepCmds
  try dsimp -proj only
  repeat' (first
    | with_reducible exact Frame.refl _ _
    | with_reducible apply Frame.foldl
    | intro _ _
    | (with_reducible apply State.modQueue_frame (le := ?le); case le => decide))

theorem State.refuseCmd_frame (s : State) (x0) (x1) (x2) (x3) {w : Nat} {s₀ : State} (h : Frame w s₀ s) (le : 108086391056893056 ||| w = w) :
    Frame w s₀ (State.refuseCmd s x0 x1 x2 x3) := by
  refine h.step ?_ le
  unfold State.refuseCmd
  try dsimp -proj only
  repeat' (first
    | with_reducible exact Frame.refl _ _
    | (with_reducible apply State.charge_frame (le := ?le); case le => decide)
    | (with_reducible apply State.err_frame (le := ?le); case le => decide)
    | (with_reducible apply State.raise_frame (le := ?le); case le => decide))

theorem State.closeShot_frame (s : State) (x0) (x1) {w : Nat} {s₀ : State} (h : Frame w s₀ s) (le : 108191963634730112 ||| w = w) :
    Frame w s₀ (State.closeShot s x0 x1) := by
  refine h.step ?_ le
  unfold State.closeShot
  try dsimp -proj only
  repeat' (first
    | with_reducible exact Frame.refl _ _
    | with_reducible apply Frame.ite
    | with_reducible apply Frame.foldl
    | intro _ _
    | (with_reducible apply State.charge_frame (le := ?le); case le => decide)
    | (with_reducible apply State.keepCmds_frame (le := ?le); case le => decide)
    | (with_reducible apply State.modSeq_frame (le := ?le); case le => decide)
    | (with_reducible apply State.modShot_frame (le := ?le); case le => decide)
    | (with_reducible apply State.raise_frame (le := ?le); case le => decide)
    | (with_reducible apply State.refuseCmd_frame (le := ?le); case le => decide)
    | split)

theorem State.modOpen_frame (s : State) (x0) (x1) {w : Nat} {s₀ : State} (h : Frame w s₀ s) (le : 1024 ||| w = w) :
    Frame w s₀ (State.modOpen s x0 x1) := by
  refine h.step ?_ le
  unfold State.modOpen
  try dsimp -proj only
  repeat' (first
    | with_reducible exact Frame.refl _ _
    | (with_reducible apply State.modShot_frame (le := ?le); case le => decide)
    | split)

theorem State.flagOpen_frame (s : State) (x0) (x1) {w : Nat} {s₀ : State} (h : Frame w s₀ s) (le : 1024 ||| w = w) :
    Frame w s₀ (State.flagOpen s x0 x1) := by
  refine h.step ?_ le
  unfold State.flagOpen
  try dsimp -proj only
  repeat' (first
    | with_reducible exact Frame.refl _ _
    | (with_reducible apply State.modOpen_frame (le := ?le); case le => decide))

theorem State.handRefuse_frame (s : State) (x0) (x1) {w : Nat} {s₀ : State} (h : Frame w s₀ s) (le : 72057594037929088 ||| w = w) :
    Frame w s₀ (State.handRefuse s x0 x1) := by
  refine h.step ?_ le
  unfold State.handRefuse
  try dsimp -proj only
  repeat' (first
    | with_reducible exact Frame.refl _ _
    | (with_reducible apply State.err_frame (le := ?le); case le => decide)
    | (with_reducible apply State.modSeq_frame (le := ?le); case le => decide)
    | (with_reducible apply State.setFld_frame (le := ?le); case le => decide))

theorem State.handGo_frame (s : State) (x0) {w : Nat} {s₀ : State} (h : Frame w s₀ s) (le : 72057594037929088 ||| w = w) :
    Frame w s₀ (State.handGo s x0) := by
  refine h.step ?_ le
  unfold State.handGo
  try dsimp -proj only
  repeat' (first
    | with_reducible exact Frame.refl _ _
    | with_reducible apply Frame.ite
    | (with_reducible apply State.handRefuse_frame (le := ?le); case le => decide)
    | (with_reducible apply State.modSeq_frame (le := ?le); case le => decide)
    | (with_reducible apply State.setFld_frame (le := ?le); case le => decide))

theorem State.killStarted_frame (s : State) (x0) (x1) {w : Nat} {s₀ : State} (h : Frame w s₀ s) (le : 108191963521516672 ||| w = w) :
    Frame w s₀ (State.killStarted s x0 x1) := by
  refine h.step ?_ le
  unfold State.killStarted
  try dsimp -proj only
  repeat' (first
    | with_reducible exact Frame.refl _ _
    | with_reducible apply Frame.foldl
    | intro _ _
    | (with_reducible apply State.acqKill_frame (le := ?le); case le => decide)
    | (with_reducible apply State.fluxKill_frame (le := ?le); case le => decide)
    | (with_reducible apply State.routKill_frame (le := ?le); case le => decide)
    | (with_reducible apply State.toneKill_frame (le := ?le); case le => decide))

theorem State.seqDisable_frame (s : State) (x0) {w : Nat} {s₀ : State} (h : Frame w s₀ s) (le : 36028797018965120 ||| w = w) :
    Frame w s₀ (State.seqDisable s x0) := by
  refine h.step ?_ le
  unfold State.seqDisable
  try dsimp -proj only
  repeat' (first
    | with_reducible exact Frame.refl _ _
    | with_reducible apply Frame.ite
    | (with_reducible apply State.modSeq_frame (le := ?le); case le => decide)
    | (with_reducible apply State.raise_frame (le := ?le); case le => decide)
    | (with_reducible apply State.setEnable_frame (le := ?le); case le => decide))

theorem State.seqDisableNow_frame (s : State) (x0) {w : Nat} {s₀ : State} (h : Frame w s₀ s) (le : 1152 ||| w = w) :
    Frame w s₀ (State.seqDisableNow s x0) := by
  refine h.step ?_ le
  unfold State.seqDisableNow
  try dsimp -proj only
  repeat' (first
    | with_reducible exact Frame.refl _ _
    | with_reducible apply Frame.ite
    | (with_reducible apply State.modSeq_frame (le := ?le); case le => decide)
    | (with_reducible apply State.setBit_frame (le := ?le); case le => decide))

theorem State.seqStart_frame (s : State) (x0) {w : Nat} {s₀ : State} (h : Frame w s₀ s) (le : 1152 ||| w = w) :
    Frame w s₀ (State.seqStart s x0) := by
  refine h.step ?_ le
  unfold State.seqStart
  try dsimp -proj only
  repeat' (first
    | with_reducible exact Frame.refl _ _
    | with_reducible apply Frame.ite
    | (with_reducible apply State.modSeq_frame (le := ?le); case le => decide)
    | (with_reducible apply State.setEnable_frame (le := ?le); case le => decide)
    | (with_reducible apply State.setFld_frame (le := ?le); case le => decide))

theorem State.seqEnable_frame (s : State) (x0) {w : Nat} {s₀ : State} (h : Frame w s₀ s) (le : 1152 ||| w = w) :
    Frame w s₀ (State.seqEnable s x0) := by
  refine h.step ?_ le
  unfold State.seqEnable
  try dsimp -proj only
  repeat' (first
    | with_reducible exact Frame.refl _ _
    | with_reducible apply Frame.ite
    | (with_reducible apply State.modSeq_frame (le := ?le); case le => decide)
    | (with_reducible apply State.seqStart_frame (le := ?le); case le => decide)
    | (with_reducible apply State.setEnable_frame (le := ?le); case le => decide))

theorem State.seqKill_frame (s : State) (x0) (x1) {w : Nat} {s₀ : State} (h : Frame w s₀ s) (le : 108191963655734400 ||| w = w) :
    Frame w s₀ (State.seqKill s x0 x1) := by
  refine h.step ?_ le
  unfold State.seqKill
  try dsimp -proj only
  repeat' (first
    | with_reducible exact Frame.refl _ _
    | with_reducible apply Frame.ite
    | with_reducible apply Frame.foldl
    | intro _ _
    | (with_reducible apply State.addSat_frame (le := ?le); case le => decide)
    | (with_reducible apply State.charge_frame (le := ?le); case le => decide)
    | (with_reducible apply State.keepCmds_frame (le := ?le); case le => decide)
    | (with_reducible apply State.killStarted_frame (le := ?le); case le => decide)
    | (with_reducible apply State.modSeq_frame (le := ?le); case le => decide)
    | (with_reducible apply State.raise_frame (le := ?le); case le => decide)
    | (with_reducible apply State.setEnable_frame (le := ?le); case le => decide))

theorem State.seqFault_frame (s : State) (x0) (x1) {w : Nat} {s₀ : State} (h : Frame w s₀ s) (le : 108191963655734400 ||| w = w) :
    Frame w s₀ (State.seqFault s x0 x1) := by
  refine h.step ?_ le
  unfold State.seqFault
  try dsimp -proj only
  repeat' (first
    | with_reducible exact Frame.refl _ _
    | (with_reducible apply State.err_frame (le := ?le); case le => decide)
    | (with_reducible apply State.raise_frame (le := ?le); case le => decide)
    | (with_reducible apply State.seqKill_frame (le := ?le); case le => decide))

theorem State.seqKillReq_frame (s : State) (x0) {w : Nat} {s₀ : State} (h : Frame w s₀ s) (le : 1024 ||| w = w) :
    Frame w s₀ (State.seqKillReq s x0) := by
  refine h.step ?_ le
  unfold State.seqKillReq
  try dsimp -proj only
  repeat' (first
    | with_reducible exact Frame.refl _ _
    | with_reducible apply Frame.ite
    | (with_reducible apply State.modSeq_frame (le := ?le); case le => decide))

theorem State.seqKillAll_frame (s : State) (x0) {w : Nat} {s₀ : State} (h : Frame w s₀ s) (le : 1024 ||| w = w) :
    Frame w s₀ (State.seqKillAll s x0) := by
  refine h.step ?_ le
  unfold State.seqKillAll
  try dsimp -proj only
  repeat' (first
    | with_reducible exact Frame.refl _ _
    | with_reducible apply Frame.ite
    | with_reducible apply Frame.foldl
    | intro _ _
    | (with_reducible apply State.seqKillReq_frame (le := ?le); case le => decide))

theorem State.writeRecord_frame (s : State) (x0) (x1) {w : Nat} {s₀ : State} (h : Frame w s₀ s) (le : 108086391080583296 ||| w = w) :
    Frame w s₀ (State.writeRecord s x0 x1) := by
  refine h.step ?_ le
  unfold State.writeRecord
  try dsimp -proj only
  repeat' (first
    | with_reducible exact Frame.refl _ _
    | with_reducible apply Frame.ite
    | (with_reducible apply State.err_frame (le := ?le); case le => decide)
    | (with_reducible apply State.inc_frame (le := ?le); case le => decide)
    | (with_reducible apply State.raise_frame (le := ?le); case le => decide)
    | (with_reducible apply State.ringPush_frame (le := ?le); case le => decide))

theorem execResultRecordWrite_frame (x0) (s : State) :
    OutFrame 108086391753114752 s (execResultRecordWrite x0 s) := by
  unfold execResultRecordWrite
  try dsimp -proj only
  repeat' (first
    | (with_reducible apply OutFrame.finish (le := ?le); case le => decide)
    | with_reducible exact OutFrame.same
    | with_reducible apply OutFrame.next
    | with_reducible apply OutFrame.ite
    | with_reducible exact Frame.refl _ _
    | with_reducible apply Frame.ite
    | (with_reducible apply State.modSeq_frame (le := ?le); case le => decide)
    | (with_reducible apply State.writeRecord_frame (le := ?le); case le => decide)
    | split)

theorem execSeqStopped_frame (x0) (s : State) :
    OutFrame 108086391729423488 s (execSeqStopped x0 s) := by
  unfold execSeqStopped
  try dsimp -proj only
  repeat' (first
    | (with_reducible apply OutFrame.finish (le := ?le); case le => decide)
    | with_reducible exact OutFrame.same
    | with_reducible apply OutFrame.next
    | with_reducible apply OutFrame.ite
    | with_reducible exact Frame.refl _ _
    | with_reducible apply Frame.ite
    | (with_reducible apply State.modSeq_frame (le := ?le); case le => decide)
    | (with_reducible apply State.raise_frame (le := ?le); case le => decide)
    | (with_reducible apply State.setBit_frame (le := ?le); case le => decide)
    | (with_reducible apply State.setEnable_frame (le := ?le); case le => decide))

end Sys2Proof.Machine
end

