-- ==== Sys2Proof/Laws/FramesSequencer.lean ====
section
/-!
SUPPORT. The field frames of the operations of Machine/Sequencer.lean: the fields of the state that each may change.
-/
namespace Sys2Proof.Machine

theorem State.acceptSlot_frame (s : State) (x0) (x1) (x2) {w : Nat} {s₀ : State} (h : Frame w s₀ s) (le : 1024 ||| w = w) :
    Frame w s₀ (State.acceptSlot s x0 x1 x2) := by
  refine h.step ?_ le
  unfold State.acceptSlot
  try dsimp -proj only
  repeat' (first
    | with_reducible exact Frame.refl _ _
    | (with_reducible apply State.modOpen_frame (le := ?le); case le => decide)
    | split)

theorem State.csDetect_frame (s : State) (x0) (x1) (x2) {w : Nat} {s₀ : State} (h : Frame w s₀ s) (le : 108086391077899392 ||| w = w) :
    Frame w s₀ (State.csDetect s x0 x1 x2) := by
  refine h.step ?_ le
  unfold State.csDetect
  try dsimp -proj only
  repeat' (first
    | with_reducible exact Frame.refl _ _
    | with_reducible apply Frame.ite
    | (with_reducible apply State.err_frame (le := ?le); case le => decide)
    | (with_reducible apply State.inc_frame (le := ?le); case le => decide)
    | (with_reducible apply State.modSeq_frame (le := ?le); case le => decide)
    | (with_reducible apply State.raise_frame (le := ?le); case le => decide)
    | (with_reducible apply State.refetch_frame (le := ?le); case le => decide)
    | (with_reducible apply Frame.upd_loader (le := ?le); case le => decide))

theorem State.setCs_frame (s : State) (x0) (x1) (x2) {w : Nat} {s₀ : State} (h : Frame w s₀ s) (le : 4096 ||| w = w) :
    Frame w s₀ (State.setCs s x0 x1 x2) := by
  refine h.step ?_ le
  unfold State.setCs
  try dsimp -proj only
  repeat' (first
    | with_reducible exact Frame.refl _ _
    | (with_reducible apply Frame.upd_cs (le := ?le); case le => decide))

theorem State.csUpset_frame (s : State) (x0) (x1) {w : Nat} {s₀ : State} (h : Frame w s₀ s) (le : 4096 ||| w = w) :
    Frame w s₀ (State.csUpset s x0 x1) := by
  refine h.step ?_ le
  unfold State.csUpset
  try dsimp -proj only
  repeat' (first
    | with_reducible exact Frame.refl _ _
    | with_reducible apply Frame.ite
    | (with_reducible apply State.setCs_frame (le := ?le); case le => decide))

theorem State.decTimeout_frame (s : State) (x0) {w : Nat} {s₀ : State} (h : Frame w s₀ s) (le : 36028797018965120 ||| w = w) :
    Frame w s₀ (State.decTimeout s x0) := by
  refine h.step ?_ le
  unfold State.decTimeout
  try dsimp -proj only
  repeat' (first
    | with_reducible exact Frame.refl _ _
    | (with_reducible apply State.flagOpen_frame (le := ?le); case le => decide)
    | (with_reducible apply State.inc_frame (le := ?le); case le => decide)
    | (with_reducible apply State.raise_frame (le := ?le); case le => decide))

theorem State.setTp_frame (s : State) (x0) (x1) {w : Nat} {s₀ : State} (h : Frame w s₀ s) (le : 1024 ||| w = w) :
    Frame w s₀ (State.setTp s x0 x1) := by
  refine h.step ?_ le
  unfold State.setTp
  try dsimp -proj only
  repeat' (first
    | with_reducible exact Frame.refl _ _
    | (with_reducible apply State.modSeq_frame (le := ?le); case le => decide))

theorem State.endShot_frame (s : State) (x0) (x1) {w : Nat} {s₀ : State} (h : Frame w s₀ s) (le : 108191963634730112 ||| w = w) :
    Frame w s₀ (State.endShot s x0 x1) := by
  refine h.step ?_ le
  unfold State.endShot
  try dsimp -proj only
  repeat' (first
    | with_reducible exact Frame.refl _ _
    | (with_reducible apply State.closeShot_frame (le := ?le); case le => decide)
    | (with_reducible apply State.setTp_frame (le := ?le); case le => decide))

theorem State.haltPlays_frame (s : State) (x0) (x1) {w : Nat} {s₀ : State} (h : Frame w s₀ s) (le : 70370891661440 ||| w = w) :
    Frame w s₀ (State.haltPlays s x0 x1) := by
  refine h.step ?_ le
  unfold State.haltPlays
  try dsimp -proj only
  repeat' (first
    | with_reducible exact Frame.refl _ _
    | with_reducible apply Frame.foldl
    | intro _ _
    | (with_reducible apply State.fluxEnd_frame (le := ?le); case le => decide)
    | (with_reducible apply State.modFlux_frame (le := ?le); case le => decide)
    | (with_reducible apply State.modTone_frame (le := ?le); case le => decide)
    | (with_reducible apply State.toneEnd_frame (le := ?le); case le => decide))

theorem State.seqEnd_frame (s : State) (x0) {w : Nat} {s₀ : State} (h : Frame w s₀ s) (le : 1024 ||| w = w) :
    Frame w s₀ (State.seqEnd s x0) := by
  refine h.step ?_ le
  unfold State.seqEnd
  try dsimp -proj only
  repeat' (first
    | with_reducible exact Frame.refl _ _
    | (with_reducible apply State.modSeq_frame (le := ?le); case le => decide))

theorem State.setG_frame (s : State) (x0) (x1) (x2) {w : Nat} {s₀ : State} (h : Frame w s₀ s) (le : 128 ||| w = w) :
    Frame w s₀ (State.setG s x0 x1 x2) := by
  refine h.step ?_ le
  unfold State.setG
  try dsimp -proj only
  repeat' (first
    | with_reducible exact Frame.refl _ _
    | (with_reducible apply State.setFld_frame (le := ?le); case le => decide))

theorem State.handCopy_frame (s : State) (x0) (x1) (x2) {w : Nat} {s₀ : State} (h : Frame w s₀ s) (le : 36028797018965120 ||| w = w) :
    Frame w s₀ (State.handCopy s x0 x1 x2) := by
  refine h.step ?_ le
  unfold State.handCopy
  try dsimp -proj only
  repeat' (first
    | with_reducible exact Frame.refl _ _
    | with_reducible apply Frame.foldl
    | intro _ _
    | (with_reducible apply State.modSeq_frame (le := ?le); case le => decide)
    | (with_reducible apply State.raise_frame (le := ?le); case le => decide)
    | (with_reducible apply State.seqEnd_frame (le := ?le); case le => decide)
    | (with_reducible apply State.setEnable_frame (le := ?le); case le => decide)
    | (with_reducible apply State.setFld_frame (le := ?le); case le => decide)
    | (with_reducible apply State.setFld64_frame (le := ?le); case le => decide)
    | (with_reducible apply State.setG_frame (le := ?le); case le => decide))

theorem State.openShot_frame (s : State) (x0) {w : Nat} {s₀ : State} (h : Frame w s₀ s) (le : 1152 ||| w = w) :
    Frame w s₀ (State.openShot s x0) := by
  refine h.step ?_ le
  unfold State.openShot
  try dsimp -proj only
  repeat' (first
    | with_reducible exact Frame.refl _ _
    | with_reducible apply Frame.ite
    | (with_reducible apply State.modSeq_frame (le := ?le); case le => decide)
    | (with_reducible apply State.setFld64_frame (le := ?le); case le => decide))

theorem State.postEnter_frame (s : State) (x0) (x1) (x2) (x3) (x4) {w : Nat} {s₀ : State} (h : Frame w s₀ s) (le : 108191963634730112 ||| w = w) :
    Frame w s₀ (State.postEnter s x0 x1 x2 x3 x4) := by
  refine h.step ?_ le
  unfold State.postEnter
  try dsimp -proj only
  repeat' (first
    | with_reducible exact Frame.refl _ _
    | with_reducible apply Frame.ite
    | with_reducible apply Frame.foldl
    | intro _ _
    | (with_reducible apply State.charge_frame (le := ?le); case le => decide)
    | (with_reducible apply State.inc_frame (le := ?le); case le => decide)
    | (with_reducible apply State.modQueue_frame (le := ?le); case le => decide)
    | (with_reducible apply State.raise_frame (le := ?le); case le => decide)
    | (with_reducible apply State.refuseCmd_frame (le := ?le); case le => decide))

theorem State.seqDispatch_frame (s : State) (x0) (x1) {w : Nat} {s₀ : State} (h : Frame w s₀ s) (le : 1024 ||| w = w) :
    Frame w s₀ (State.seqDispatch s x0 x1) := by
  refine h.step ?_ le
  unfold State.seqDispatch
  try dsimp -proj only
  repeat' (first
    | with_reducible exact Frame.refl _ _
    | (with_reducible apply State.modSeq_frame (le := ?le); case le => decide))

theorem State.seqParity_frame (s : State) (x0) {w : Nat} {s₀ : State} (h : Frame w s₀ s) (le : 108086391077897344 ||| w = w) :
    Frame w s₀ (State.seqParity s x0) := by
  refine h.step ?_ le
  unfold State.seqParity
  try dsimp -proj only
  repeat' (first
    | with_reducible exact Frame.refl _ _
    | (with_reducible apply State.err_frame (le := ?le); case le => decide)
    | (with_reducible apply State.modSeq_frame (le := ?le); case le => decide)
    | (with_reducible apply State.raise_frame (le := ?le); case le => decide)
    | (with_reducible apply State.refetch_frame (le := ?le); case le => decide))

theorem State.seqRetire_frame (s : State) (x0) (x1) (x2) (x3) {w : Nat} {s₀ : State} (h : Frame w s₀ s) (le : 1152 ||| w = w) :
    Frame w s₀ (State.seqRetire s x0 x1 x2 x3) := by
  refine h.step ?_ le
  unfold State.seqRetire
  try dsimp -proj only
  repeat' (first
    | with_reducible exact Frame.refl _ _
    | (with_reducible apply State.modSeq_frame (le := ?le); case le => decide)
    | (with_reducible apply State.setFld_frame (le := ?le); case le => decide))

/-- What an instruction leads to changes only fields whose bit of `w` is set. -/
def SeqStep.Framed (w : Nat) (s : State) : SeqStep → Prop
  | .next t => Frame w s t
  | .jump t _ => Frame w s t
  | .wait t _ => Frame w s t
  | .stay t => Frame w s t
  | .fault => True

theorem SeqStep.framed_next {w : Nat} {s t : State} (h : Frame w s t) : (SeqStep.next t).Framed w s := h
theorem SeqStep.framed_jump {w : Nat} {s t : State} {a : Nat} (h : Frame w s t) : (SeqStep.jump t a).Framed w s := h
theorem SeqStep.framed_wait {w : Nat} {s t : State} {a : SeqWait} (h : Frame w s t) : (SeqStep.wait t a).Framed w s := h
theorem SeqStep.framed_stay {w : Nat} {s t : State} (h : Frame w s t) : (SeqStep.stay t).Framed w s := h
theorem SeqStep.framed_fault {w : Nat} {s : State} : SeqStep.fault.Framed w s := trivial
theorem SeqStep.framed_ite {w : Nat} {s : State} {a b : SeqStep} {c : Prop} [Decidable c] (ha : a.Framed w s)
    (hb : b.Framed w s) : (if c then a else b).Framed w s := by
  split <;> assumption

theorem SeqStep.of_next {w : Nat} {s t : State} {o : SeqStep} (e : o = .next t) (h : o.Framed w s) : Frame w s t := by
  subst e; exact h
theorem SeqStep.of_jump {w : Nat} {s t : State} {a : Nat} {o : SeqStep} (e : o = .jump t a) (h : o.Framed w s) : Frame w s t := by
  subst e; exact h
theorem SeqStep.of_stay {w : Nat} {s t : State} {o : SeqStep} (e : o = .stay t) (h : o.Framed w s) : Frame w s t := by
  subst e; exact h
theorem SeqStep.of_wait {w : Nat} {s t : State} {a : SeqWait} {o : SeqStep} (e : o = .wait t a) (h : o.Framed w s) : Frame w s t := by
  subst e; exact h

theorem State.seqIssue_frame (s : State) (n h o q body) {w : Nat} (le : 108191964194053248 ||| w = w)
    (each : ∀ d v p, (body d v p).Framed w d) : OutFrame w s (s.seqIssue n h o q body) := by
  have le' : 108086391729422464 ||| w = w := mask_le (m := 108191964194053248) (by decide) le
  have d : Frame w s (s.seqDispatch n (s.stepOf h)) := State.seqDispatch_frame _ _ _ (Frame.refl _ _) (mask_le (by decide) le)
  have f1 : Frame w s (s.seqParity n) := State.seqParity_frame _ _ (Frame.refl _ _) (mask_le (by decide) le)
  have f2 : ∀ a, Frame w s (s.csDetect n a (s.stepOf h)) := fun a => State.csDetect_frame _ _ _ _ (Frame.refl _ _) (mask_le (by decide) le)
  have f4 : ∀ a, Frame w s ((s.csUpset (n / 16) a).csDetect n a (s.stepOf h)) := fun a =>
    State.csDetect_frame _ _ _ _ (State.csUpset_frame _ _ _ (Frame.refl _ _) (mask_le (by decide) le)) (mask_le (by decide) le)
  have f3 : Frame w s (s.seqFault n (s.stepOf h)) := State.seqFault_frame _ _ _ (Frame.refl _ _) (mask_le (by decide) le)
  unfold State.seqIssue
  dsimp -proj only
  repeat' (first
    | with_reducible exact OutFrame.same
    | with_reducible apply OutFrame.ite
    | with_reducible apply OutFrame.finish (le := le')
    | with_reducible exact f1
    | with_reducible exact f2 _
    | with_reducible exact f4 _
    | with_reducible exact f3
    | (with_reducible apply State.modSeq_frame (le := ?le); case le => exact mask_le (by decide) le)
    | split)
  · rename_i e
    exact State.seqRetire_frame _ _ _ _ _ (d.trans (SeqStep.of_next e (each _ _ _))) (mask_le (by decide) le)
  · rename_i e
    exact State.seqRetire_frame _ _ _ _ _ (d.trans (SeqStep.of_jump e (each _ _ _))) (mask_le (by decide) le)
  · rename_i e
    exact d.trans (SeqStep.of_wait e (each _ _ _))
  · rename_i e
    exact d.trans (SeqStep.of_stay e (each _ _ _))

theorem State.seqAlu_frame (s : State) (x0) (x1) (x2) (x3) (x4) :
    OutFrame 108191964194053248 s (State.seqAlu s x0 x1 x2 x3 x4) := by
  unfold State.seqAlu
  try dsimp -proj only
  repeat' (first
    | with_reducible exact Frame.refl _ _
    | with_reducible apply SeqStep.framed_next
    | with_reducible apply SeqStep.framed_jump
    | with_reducible apply SeqStep.framed_wait
    | with_reducible apply SeqStep.framed_stay
    | with_reducible apply SeqStep.framed_fault
    | with_reducible apply SeqStep.framed_ite
    | (with_reducible apply State.seqIssue_frame (le := ?le); case le => decide)
    | (intro _ _ _; try dsimp -proj only)
    | (with_reducible apply State.setG_frame (le := ?le); case le => decide))

theorem State.seqBranch_frame (s : State) (x0) (x1) (x2) (x3) (x4) :
    OutFrame 108191964194053248 s (State.seqBranch s x0 x1 x2 x3 x4) := by
  unfold State.seqBranch
  try dsimp -proj only
  repeat' (first
    | with_reducible apply OutFrame.ite
    | with_reducible exact Frame.refl _ _
    | with_reducible apply Frame.ite
    | with_reducible apply SeqStep.framed_next
    | with_reducible apply SeqStep.framed_jump
    | with_reducible apply SeqStep.framed_wait
    | with_reducible apply SeqStep.framed_stay
    | with_reducible apply SeqStep.framed_fault
    | with_reducible apply SeqStep.framed_ite
    | (with_reducible apply State.seqIssue_frame (le := ?le); case le => decide)
    | (intro _ _ _; try dsimp -proj only))

theorem State.seqHalt_frame (s : State) (x0) (x1) (x2) (x3) {w : Nat} {s₀ : State} (h : Frame w s₀ s) (le : 54113566420108416 ||| w = w) :
    Frame w s₀ (State.seqHalt s x0 x1 x2 x3) := by
  refine h.step ?_ le
  unfold State.seqHalt
  try dsimp -proj only
  repeat' (first
    | with_reducible exact Frame.refl _ _
    | (with_reducible apply State.haltPlays_frame (le := ?le); case le => decide)
    | (with_reducible apply State.modOpen_frame (le := ?le); case le => decide)
    | (with_reducible apply State.modSeq_frame (le := ?le); case le => decide)
    | (with_reducible apply State.noteHalt_frame (le := ?le); case le => decide))

theorem State.setPair_frame (s : State) (x0) (x1) (x2) {w : Nat} {s₀ : State} (h : Frame w s₀ s) (le : 128 ||| w = w) :
    Frame w s₀ (State.setPair s x0 x1 x2) := by
  refine h.step ?_ le
  unfold State.setPair
  try dsimp -proj only
  repeat' (first
    | with_reducible exact Frame.refl _ _
    | (with_reducible apply State.setG_frame (le := ?le); case le => decide))

theorem State.waitOver_frame (s : State) (x0) (x1) {w : Nat} {s₀ : State} (h : Frame w s₀ s) (le : 1152 ||| w = w) :
    Frame w s₀ (State.waitOver s x0 x1) := by
  refine h.step ?_ le
  unfold State.waitOver
  try dsimp -proj only
  repeat' (first
    | with_reducible exact Frame.refl _ _
    | (with_reducible apply State.seqRetire_frame (le := ?le); case le => decide))

theorem execBarrierRelease_frame (x0) (x1) (s : State) :
    OutFrame 108086391729423488 s (execBarrierRelease x0 x1 s) := by
  unfold execBarrierRelease
  try dsimp -proj only
  repeat' (first
    | (with_reducible apply OutFrame.finish (le := ?le); case le => decide)
    | with_reducible exact OutFrame.same
    | with_reducible apply OutFrame.next
    | with_reducible apply OutFrame.ite
    | with_reducible exact Frame.refl _ _
    | with_reducible apply Frame.ite
    | with_reducible apply Frame.foldl
    | intro _ _
    | (with_reducible apply State.seqRetire_frame (le := ?le); case le => decide)
    | split)

theorem execBrdAccept_frame (x0) (x1) (s : State) :
    OutFrame 108086391729423488 s (execBrdAccept x0 x1 s) := by
  unfold execBrdAccept
  try dsimp -proj only
  repeat' (first
    | (with_reducible apply OutFrame.finish (le := ?le); case le => decide)
    | with_reducible exact OutFrame.same
    | with_reducible apply OutFrame.next
    | with_reducible apply OutFrame.ite
    | with_reducible exact Frame.refl _ _
    | with_reducible apply Frame.ite
    | (with_reducible apply State.acceptSlot_frame (le := ?le); case le => decide)
    | (with_reducible apply State.seqRetire_frame (le := ?le); case le => decide)
    | split)

theorem execCsRefetchComplete_frame (x0) (x1) (x2) (s : State) :
    OutFrame 108086391729429632 s (execCsRefetchComplete x0 x1 x2 s) := by
  unfold execCsRefetchComplete
  try dsimp -proj only
  repeat' (first
    | (with_reducible apply OutFrame.finish (le := ?le); case le => decide)
    | with_reducible exact OutFrame.same
    | with_reducible apply OutFrame.next
    | with_reducible apply OutFrame.ite
    | with_reducible exact Frame.refl _ _
    | with_reducible apply Frame.ite
    | with_reducible apply Frame.foldl
    | intro _ _
    | (with_reducible apply State.csUpset_frame (le := ?le); case le => decide)
    | (with_reducible apply State.err_frame (le := ?le); case le => decide)
    | (with_reducible apply State.inc_frame (le := ?le); case le => decide)
    | (with_reducible apply State.modSeq_frame (le := ?le); case le => decide)
    | (with_reducible apply State.raise_frame (le := ?le); case le => decide)
    | (with_reducible apply State.seqKillReq_frame (le := ?le); case le => decide)
    | (with_reducible apply State.setCs_frame (le := ?le); case le => decide)
    | (with_reducible apply State.setFld_frame (le := ?le); case le => decide)
    | (with_reducible apply Frame.upd_loader (le := ?le); case le => decide))

theorem execDecTimeout_frame (x0) (x1) (s : State) :
    OutFrame 108086391729423488 s (execDecTimeout x0 x1 s) := by
  unfold execDecTimeout
  try dsimp -proj only
  repeat' (first
    | (with_reducible apply OutFrame.finish (le := ?le); case le => decide)
    | with_reducible exact OutFrame.same
    | with_reducible apply OutFrame.next
    | with_reducible apply OutFrame.ite
    | with_reducible exact Frame.refl _ _
    | with_reducible apply Frame.ite
    | (with_reducible apply State.decTimeout_frame (le := ?le); case le => decide)
    | (with_reducible apply State.seqRetire_frame (le := ?le); case le => decide)
    | split)

theorem execHandoverCopy_frame (x0) (x1) (s : State) :
    OutFrame 108191964173042816 s (execHandoverCopy x0 x1 s) := by
  unfold execHandoverCopy
  try dsimp -proj only
  repeat' (first
    | (with_reducible apply OutFrame.finish (le := ?le); case le => decide)
    | with_reducible exact OutFrame.same
    | with_reducible apply OutFrame.next
    | with_reducible apply OutFrame.ite
    | with_reducible exact Frame.refl _ _
    | with_reducible apply Frame.ite
    | (with_reducible apply State.endShot_frame (le := ?le); case le => decide)
    | (with_reducible apply State.handCopy_frame (le := ?le); case le => decide)
    | (with_reducible apply State.handRefuse_frame (le := ?le); case le => decide)
    | split)

theorem execMicroPartialBoundary_frame (x0) (x1) (s : State) :
    OutFrame 1024 s (execMicroPartialBoundary x0 x1 s) := by
  unfold execMicroPartialBoundary
  try dsimp -proj only
  repeat' (first
    | with_reducible exact OutFrame.same
    | with_reducible apply OutFrame.next
    | with_reducible apply OutFrame.ite
    | with_reducible exact Frame.refl _ _
    | with_reducible apply Frame.ite
    | (with_reducible apply State.modSeq_frame (le := ?le); case le => decide))

theorem execMicroStepLimit_frame (x0) (x1) (s : State) :
    OutFrame 108191964194047104 s (execMicroStepLimit x0 x1 s) := by
  unfold execMicroStepLimit
  try dsimp -proj only
  repeat' (first
    | (with_reducible apply OutFrame.finish (le := ?le); case le => decide)
    | with_reducible exact OutFrame.same
    | with_reducible apply OutFrame.next
    | with_reducible apply OutFrame.ite
    | with_reducible exact Frame.refl _ _
    | with_reducible apply Frame.ite
    | (with_reducible apply State.seqFault_frame (le := ?le); case le => decide))

theorem execPostQueueEntry_frame (x0) (x1) (s : State) :
    OutFrame 108191964173042816 s (execPostQueueEntry x0 x1 s) := by
  unfold execPostQueueEntry
  try dsimp -proj only
  repeat' (first
    | (with_reducible apply OutFrame.finish (le := ?le); case le => decide)
    | with_reducible exact OutFrame.same
    | with_reducible apply OutFrame.next
    | with_reducible apply OutFrame.ite
    | with_reducible exact Frame.refl _ _
    | with_reducible apply Frame.ite
    | (with_reducible apply State.postEnter_frame (le := ?le); case le => decide)
    | (with_reducible apply State.waitOver_frame (le := ?le); case le => decide)
    | split)

theorem execProgramRefetchComplete_frame (x0) (s : State) :
    OutFrame 108086391729423488 s (execProgramRefetchComplete x0 s) := by
  unfold execProgramRefetchComplete
  try dsimp -proj only
  repeat' (first
    | (with_reducible apply OutFrame.finish (le := ?le); case le => decide)
    | with_reducible exact OutFrame.same
    | with_reducible apply OutFrame.next
    | with_reducible apply OutFrame.ite
    | with_reducible exact Frame.refl _ _
    | with_reducible apply Frame.ite
    | (with_reducible apply State.modSeq_frame (le := ?le); case le => decide)
    | split)

theorem execSeqAdd_frame (x0) (x1) (x2) (s : State) :
    OutFrame 108191964194053248 s (execSeqAdd x0 x1 x2 s) := by
  unfold execSeqAdd
  try dsimp -proj only
  repeat' (first
    | with_reducible exact Frame.refl _ _
    | (with_reducible apply OutFrame.mono (h := State.seqAlu_frame ..) (le := ?le); case le => decide))

theorem execSeqAnd_frame (x0) (x1) (x2) (s : State) :
    OutFrame 108191964194053248 s (execSeqAnd x0 x1 x2 s) := by
  unfold execSeqAnd
  try dsimp -proj only
  repeat' (first
    | with_reducible exact Frame.refl _ _
    | (with_reducible apply OutFrame.mono (h := State.seqAlu_frame ..) (le := ?le); case le => decide))

theorem execSeqBarw_frame (x0) (x1) (x2) (s : State) :
    OutFrame 108191964194053248 s (execSeqBarw x0 x1 x2 s) := by
  unfold execSeqBarw
  try dsimp -proj only
  repeat' (first
    | with_reducible apply OutFrame.ite
    | with_reducible exact Frame.refl _ _
    | with_reducible apply Frame.ite
    | with_reducible apply SeqStep.framed_next
    | with_reducible apply SeqStep.framed_jump
    | with_reducible apply SeqStep.framed_wait
    | with_reducible apply SeqStep.framed_stay
    | with_reducible apply SeqStep.framed_fault
    | with_reducible apply SeqStep.framed_ite
    | (with_reducible apply State.seqIssue_frame (le := ?le); case le => decide)
    | (intro _ _ _; try dsimp -proj only)
    | (with_reducible apply State.seqRetire_frame (le := ?le); case le => decide))

theorem execSeqBeq_frame (x0) (x1) (x2) (s : State) :
    OutFrame 108191964194053248 s (execSeqBeq x0 x1 x2 s) := by
  unfold execSeqBeq
  try dsimp -proj only
  repeat' (first
    | with_reducible exact Frame.refl _ _
    | (with_reducible apply OutFrame.mono (h := State.seqBranch_frame ..) (le := ?le); case le => decide))

theorem execSeqBge_frame (x0) (x1) (x2) (s : State) :
    OutFrame 108191964194053248 s (execSeqBge x0 x1 x2 s) := by
  unfold execSeqBge
  try dsimp -proj only
  repeat' (first
    | with_reducible exact Frame.refl _ _
    | (with_reducible apply OutFrame.mono (h := State.seqBranch_frame ..) (le := ?le); case le => decide))

theorem execSeqBlt_frame (x0) (x1) (x2) (s : State) :
    OutFrame 108191964194053248 s (execSeqBlt x0 x1 x2 s) := by
  unfold execSeqBlt
  try dsimp -proj only
  repeat' (first
    | with_reducible exact Frame.refl _ _
    | (with_reducible apply OutFrame.mono (h := State.seqBranch_frame ..) (le := ?le); case le => decide))

theorem execSeqBne_frame (x0) (x1) (x2) (s : State) :
    OutFrame 108191964194053248 s (execSeqBne x0 x1 x2 s) := by
  unfold execSeqBne
  try dsimp -proj only
  repeat' (first
    | with_reducible exact Frame.refl _ _
    | (with_reducible apply OutFrame.mono (h := State.seqBranch_frame ..) (le := ?le); case le => decide))

theorem execSeqBrd_frame (x0) (x1) (x2) (s : State) :
    OutFrame 108191964194053248 s (execSeqBrd x0 x1 x2 s) := by
  unfold execSeqBrd
  try dsimp -proj only
  repeat' (first
    | with_reducible apply OutFrame.ite
    | with_reducible exact Frame.refl _ _
    | with_reducible apply Frame.ite
    | with_reducible apply SeqStep.framed_next
    | with_reducible apply SeqStep.framed_jump
    | with_reducible apply SeqStep.framed_wait
    | with_reducible apply SeqStep.framed_stay
    | with_reducible apply SeqStep.framed_fault
    | with_reducible apply SeqStep.framed_ite
    | (with_reducible apply State.acceptSlot_frame (le := ?le); case le => decide)
    | (with_reducible apply State.decTimeout_frame (le := ?le); case le => decide)
    | (with_reducible apply State.seqIssue_frame (le := ?le); case le => decide)
    | (intro _ _ _; try dsimp -proj only)
    | split)

theorem execSeqCall_frame (x0) (x1) (x2) (s : State) :
    OutFrame 108191964194053248 s (execSeqCall x0 x1 x2 s) := by
  unfold execSeqCall
  try dsimp -proj only
  repeat' (first
    | with_reducible apply OutFrame.ite
    | with_reducible exact Frame.refl _ _
    | with_reducible apply Frame.ite
    | with_reducible apply SeqStep.framed_next
    | with_reducible apply SeqStep.framed_jump
    | with_reducible apply SeqStep.framed_wait
    | with_reducible apply SeqStep.framed_stay
    | with_reducible apply SeqStep.framed_fault
    | with_reducible apply SeqStep.framed_ite
    | (with_reducible apply State.modSeq_frame (le := ?le); case le => decide)
    | (with_reducible apply State.seqIssue_frame (le := ?le); case le => decide)
    | (intro _ _ _; try dsimp -proj only))

theorem execSeqDjnz_frame (x0) (x1) (x2) (s : State) : OutFrame 108191964194053248 s (execSeqDjnz x0 x1 x2 s) := by
  unfold execSeqDjnz
  refine State.seqIssue_frame _ _ _ _ _ _ (by decide) fun d v p => ?_
  dsimp -proj only
  generalize (State.fld _ _ _ _ + 16777215) % 16777216 = z
  split <;> exact State.setFld_frame _ _ _ _ _ (Frame.refl _ _) (by decide)

theorem execSeqEnds_frame (x0) (x1) (x2) (s : State) :
    OutFrame 108191964194053248 s (execSeqEnds x0 x1 x2 s) := by
  unfold execSeqEnds
  try dsimp -proj only
  repeat' (first
    | with_reducible exact Frame.refl _ _
    | with_reducible apply SeqStep.framed_next
    | with_reducible apply SeqStep.framed_jump
    | with_reducible apply SeqStep.framed_wait
    | with_reducible apply SeqStep.framed_stay
    | with_reducible apply SeqStep.framed_fault
    | with_reducible apply SeqStep.framed_ite
    | (with_reducible apply State.endShot_frame (le := ?le); case le => decide)
    | (with_reducible apply State.seqIssue_frame (le := ?le); case le => decide)
    | (intro _ _ _; try dsimp -proj only))

theorem execSeqImmediateDisable_frame (x0) (x1) (s : State) :
    OutFrame 108191964194047104 s (execSeqImmediateDisable x0 x1 s) := by
  unfold execSeqImmediateDisable
  try dsimp -proj only
  repeat' (first
    | (with_reducible apply OutFrame.finish (le := ?le); case le => decide)
    | with_reducible exact OutFrame.same
    | with_reducible apply OutFrame.next
    | with_reducible apply OutFrame.ite
    | with_reducible exact Frame.refl _ _
    | with_reducible apply Frame.ite
    | (with_reducible apply State.seqKill_frame (le := ?le); case le => decide))

theorem execSeqJmp_frame (x0) (x1) (x2) (s : State) :
    OutFrame 108191964194053248 s (execSeqJmp x0 x1 x2 s) := by
  unfold execSeqJmp
  try dsimp -proj only
  repeat' (first
    | with_reducible exact Frame.refl _ _
    | with_reducible apply SeqStep.framed_next
    | with_reducible apply SeqStep.framed_jump
    | with_reducible apply SeqStep.framed_wait
    | with_reducible apply SeqStep.framed_stay
    | with_reducible apply SeqStep.framed_fault
    | with_reducible apply SeqStep.framed_ite
    | (with_reducible apply State.seqIssue_frame (le := ?le); case le => decide)
    | (intro _ _ _; try dsimp -proj only))

theorem execSeqLcset_frame (x0) (x1) (x2) (s : State) :
    OutFrame 108191964194053248 s (execSeqLcset x0 x1 x2 s) := by
  unfold execSeqLcset
  try dsimp -proj only
  repeat' (first
    | with_reducible exact Frame.refl _ _
    | with_reducible apply SeqStep.framed_next
    | with_reducible apply SeqStep.framed_jump
    | with_reducible apply SeqStep.framed_wait
    | with_reducible apply SeqStep.framed_stay
    | with_reducible apply SeqStep.framed_fault
    | with_reducible apply SeqStep.framed_ite
    | (with_reducible apply State.seqIssue_frame (le := ?le); case le => decide)
    | (intro _ _ _; try dsimp -proj only)
    | (with_reducible apply State.setFld_frame (le := ?le); case le => decide))

theorem execSeqLdd_frame (x0) (x1) (x2) (s : State) :
    OutFrame 108191964194053248 s (execSeqLdd x0 x1 x2 s) := by
  unfold execSeqLdd
  try dsimp -proj only
  repeat' (first
    | with_reducible apply OutFrame.ite
    | with_reducible exact Frame.refl _ _
    | with_reducible apply Frame.ite
    | with_reducible apply SeqStep.framed_next
    | with_reducible apply SeqStep.framed_jump
    | with_reducible apply SeqStep.framed_wait
    | with_reducible apply SeqStep.framed_stay
    | with_reducible apply SeqStep.framed_fault
    | with_reducible apply SeqStep.framed_ite
    | (with_reducible apply State.acceptSlot_frame (le := ?le); case le => decide)
    | (with_reducible apply State.seqIssue_frame (le := ?le); case le => decide)
    | (intro _ _ _; try dsimp -proj only)
    | (with_reducible apply State.setG_frame (le := ?le); case le => decide))

theorem execSeqLdf_frame (x0) (x1) (x2) (s : State) :
    OutFrame 108191964194053248 s (execSeqLdf x0 x1 x2 s) := by
  unfold execSeqLdf
  try dsimp -proj only
  repeat' (first
    | with_reducible exact Frame.refl _ _
    | with_reducible apply SeqStep.framed_next
    | with_reducible apply SeqStep.framed_jump
    | with_reducible apply SeqStep.framed_wait
    | with_reducible apply SeqStep.framed_stay
    | with_reducible apply SeqStep.framed_fault
    | with_reducible apply SeqStep.framed_ite
    | (with_reducible apply State.seqIssue_frame (le := ?le); case le => decide)
    | (intro _ _ _; try dsimp -proj only)
    | (with_reducible apply State.setG_frame (le := ?le); case le => decide))

theorem execSeqMovi_frame (x0) (x1) (x2) (s : State) :
    OutFrame 108191964194053248 s (execSeqMovi x0 x1 x2 s) := by
  unfold execSeqMovi
  try dsimp -proj only
  repeat' (first
    | with_reducible exact Frame.refl _ _
    | with_reducible apply SeqStep.framed_next
    | with_reducible apply SeqStep.framed_jump
    | with_reducible apply SeqStep.framed_wait
    | with_reducible apply SeqStep.framed_stay
    | with_reducible apply SeqStep.framed_fault
    | with_reducible apply SeqStep.framed_ite
    | (with_reducible apply State.seqIssue_frame (le := ?le); case le => decide)
    | (intro _ _ _; try dsimp -proj only)
    | (with_reducible apply State.setG_frame (le := ?le); case le => decide))

theorem execSeqNop_frame (x0) (x1) (x2) (s : State) :
    OutFrame 108191964194053248 s (execSeqNop x0 x1 x2 s) := by
  unfold execSeqNop
  try dsimp -proj only
  repeat' (first
    | with_reducible exact Frame.refl _ _
    | with_reducible apply SeqStep.framed_next
    | with_reducible apply SeqStep.framed_jump
    | with_reducible apply SeqStep.framed_wait
    | with_reducible apply SeqStep.framed_stay
    | with_reducible apply SeqStep.framed_fault
    | with_reducible apply SeqStep.framed_ite
    | (with_reducible apply State.seqIssue_frame (le := ?le); case le => decide)
    | (intro _ _ _; try dsimp -proj only))

theorem execSeqOr_frame (x0) (x1) (x2) (s : State) :
    OutFrame 108191964194053248 s (execSeqOr x0 x1 x2 s) := by
  unfold execSeqOr
  try dsimp -proj only
  repeat' (first
    | with_reducible exact Frame.refl _ _
    | (with_reducible apply OutFrame.mono (h := State.seqAlu_frame ..) (le := ?le); case le => decide))

theorem execSeqPost_frame (x0) (x1) (x2) (s : State) :
    OutFrame 108191964194053248 s (execSeqPost x0 x1 x2 s) := by
  unfold execSeqPost
  try dsimp -proj only
  repeat' (first
    | with_reducible apply OutFrame.ite
    | with_reducible exact Frame.refl _ _
    | with_reducible apply Frame.ite
    | with_reducible apply SeqStep.framed_next
    | with_reducible apply SeqStep.framed_jump
    | with_reducible apply SeqStep.framed_wait
    | with_reducible apply SeqStep.framed_stay
    | with_reducible apply SeqStep.framed_fault
    | with_reducible apply SeqStep.framed_ite
    | (with_reducible apply State.inc_frame (le := ?le); case le => decide)
    | (with_reducible apply State.postEnter_frame (le := ?le); case le => decide)
    | (with_reducible apply State.refuseCmd_frame (le := ?le); case le => decide)
    | (with_reducible apply State.seqIssue_frame (le := ?le); case le => decide)
    | (intro _ _ _; try dsimp -proj only)
    | split)

theorem execSeqRdnow_frame (x0) (x1) (x2) (s : State) :
    OutFrame 108191964194053248 s (execSeqRdnow x0 x1 x2 s) := by
  unfold execSeqRdnow
  try dsimp -proj only
  repeat' (first
    | with_reducible exact Frame.refl _ _
    | with_reducible apply SeqStep.framed_next
    | with_reducible apply SeqStep.framed_jump
    | with_reducible apply SeqStep.framed_wait
    | with_reducible apply SeqStep.framed_stay
    | with_reducible apply SeqStep.framed_fault
    | with_reducible apply SeqStep.framed_ite
    | (with_reducible apply State.seqIssue_frame (le := ?le); case le => decide)
    | (intro _ _ _; try dsimp -proj only)
    | (with_reducible apply State.setPair_frame (le := ?le); case le => decide))

theorem execSeqRecd_frame (x0) (x1) (x2) (s : State) :
    OutFrame 108191964194053248 s (execSeqRecd x0 x1 x2 s) := by
  unfold execSeqRecd
  try dsimp -proj only
  repeat' (first
    | with_reducible apply OutFrame.ite
    | with_reducible exact Frame.refl _ _
    | with_reducible apply Frame.ite
    | with_reducible apply SeqStep.framed_next
    | with_reducible apply SeqStep.framed_jump
    | with_reducible apply SeqStep.framed_wait
    | with_reducible apply SeqStep.framed_stay
    | with_reducible apply SeqStep.framed_fault
    | with_reducible apply SeqStep.framed_ite
    | (with_reducible apply State.modOpen_frame (le := ?le); case le => decide)
    | (with_reducible apply State.seqIssue_frame (le := ?le); case le => decide)
    | (intro _ _ _; try dsimp -proj only))

theorem execSeqRet_frame (x0) (x1) (x2) (s : State) :
    OutFrame 108191964194053248 s (execSeqRet x0 x1 x2 s) := by
  unfold execSeqRet
  try dsimp -proj only
  repeat' (first
    | with_reducible exact Frame.refl _ _
    | with_reducible apply SeqStep.framed_next
    | with_reducible apply SeqStep.framed_jump
    | with_reducible apply SeqStep.framed_wait
    | with_reducible apply SeqStep.framed_stay
    | with_reducible apply SeqStep.framed_fault
    | with_reducible apply SeqStep.framed_ite
    | (with_reducible apply State.modSeq_frame (le := ?le); case le => decide)
    | (with_reducible apply State.seqIssue_frame (le := ?le); case le => decide)
    | (intro _ _ _; try dsimp -proj only)
    | split)

theorem execSeqShl_frame (x0) (x1) (x2) (s : State) :
    OutFrame 108191964194053248 s (execSeqShl x0 x1 x2 s) := by
  unfold execSeqShl
  try dsimp -proj only
  repeat' (first
    | with_reducible exact Frame.refl _ _
    | (with_reducible apply OutFrame.mono (h := State.seqAlu_frame ..) (le := ?le); case le => decide))

theorem execSeqShot_frame (x0) (x1) (x2) (s : State) :
    OutFrame 108191964194053248 s (execSeqShot x0 x1 x2 s) := by
  unfold execSeqShot
  try dsimp -proj only
  repeat' (first
    | with_reducible exact OutFrame.same
    | with_reducible apply OutFrame.next
    | with_reducible apply OutFrame.ite
    | with_reducible exact Frame.refl _ _
    | with_reducible apply Frame.ite
    | with_reducible apply SeqStep.framed_next
    | with_reducible apply SeqStep.framed_jump
    | with_reducible apply SeqStep.framed_wait
    | with_reducible apply SeqStep.framed_stay
    | with_reducible apply SeqStep.framed_fault
    | with_reducible apply SeqStep.framed_ite
    | (with_reducible apply State.endShot_frame (le := ?le); case le => decide)
    | (with_reducible apply State.openShot_frame (le := ?le); case le => decide)
    | (with_reducible apply State.seqEnd_frame (le := ?le); case le => decide)
    | (with_reducible apply State.seqIssue_frame (le := ?le); case le => decide)
    | (intro _ _ _; try dsimp -proj only)
    | (with_reducible apply State.setTp_frame (le := ?le); case le => decide))

theorem execSeqShr_frame (x0) (x1) (x2) (s : State) :
    OutFrame 108191964194053248 s (execSeqShr x0 x1 x2 s) := by
  unfold execSeqShr
  try dsimp -proj only
  repeat' (first
    | with_reducible exact Frame.refl _ _
    | (with_reducible apply OutFrame.mono (h := State.seqAlu_frame ..) (le := ?le); case le => decide))

theorem execSeqSig_frame (x0) (x1) (x2) (s : State) :
    OutFrame 108191964194053248 s (execSeqSig x0 x1 x2 s) := by
  unfold execSeqSig
  try dsimp -proj only
  repeat' (first
    | with_reducible exact Frame.refl _ _
    | with_reducible apply SeqStep.framed_next
    | with_reducible apply SeqStep.framed_jump
    | with_reducible apply SeqStep.framed_wait
    | with_reducible apply SeqStep.framed_stay
    | with_reducible apply SeqStep.framed_fault
    | with_reducible apply SeqStep.framed_ite
    | (with_reducible apply State.raise_frame (le := ?le); case le => decide)
    | (with_reducible apply State.seqIssue_frame (le := ?le); case le => decide)
    | (intro _ _ _; try dsimp -proj only)
    | (with_reducible apply State.setFld_frame (le := ?le); case le => decide))

theorem execSeqStop_frame (x0) (x1) (x2) (s : State) :
    OutFrame 108191964194053248 s (execSeqStop x0 x1 x2 s) := by
  unfold execSeqStop
  try dsimp -proj only
  repeat' (first
    | with_reducible exact Frame.refl _ _
    | with_reducible apply SeqStep.framed_next
    | with_reducible apply SeqStep.framed_jump
    | with_reducible apply SeqStep.framed_wait
    | with_reducible apply SeqStep.framed_stay
    | with_reducible apply SeqStep.framed_fault
    | with_reducible apply SeqStep.framed_ite
    | (with_reducible apply State.endShot_frame (le := ?le); case le => decide)
    | (with_reducible apply State.seqEnd_frame (le := ?le); case le => decide)
    | (with_reducible apply State.seqIssue_frame (le := ?le); case le => decide)
    | (intro _ _ _; try dsimp -proj only)
    | (with_reducible apply State.seqRetire_frame (le := ?le); case le => decide))

theorem execSeqSub_frame (x0) (x1) (x2) (s : State) :
    OutFrame 108191964194053248 s (execSeqSub x0 x1 x2 s) := by
  unfold execSeqSub
  try dsimp -proj only
  repeat' (first
    | with_reducible exact Frame.refl _ _
    | (with_reducible apply OutFrame.mono (h := State.seqAlu_frame ..) (le := ?le); case le => decide))

theorem execSeqTpadd_frame (x0) (x1) (x2) (s : State) :
    OutFrame 108191964194053248 s (execSeqTpadd x0 x1 x2 s) := by
  unfold execSeqTpadd
  try dsimp -proj only
  repeat' (first
    | with_reducible exact Frame.refl _ _
    | with_reducible apply SeqStep.framed_next
    | with_reducible apply SeqStep.framed_jump
    | with_reducible apply SeqStep.framed_wait
    | with_reducible apply SeqStep.framed_stay
    | with_reducible apply SeqStep.framed_fault
    | with_reducible apply SeqStep.framed_ite
    | (with_reducible apply State.seqIssue_frame (le := ?le); case le => decide)
    | (intro _ _ _; try dsimp -proj only)
    | (with_reducible apply State.setTp_frame (le := ?le); case le => decide))

theorem execSeqTpaln_frame (x0) (x1) (x2) (s : State) :
    OutFrame 108191964194053248 s (execSeqTpaln x0 x1 x2 s) := by
  unfold execSeqTpaln
  try dsimp -proj only
  repeat' (first
    | with_reducible apply OutFrame.ite
    | with_reducible exact Frame.refl _ _
    | with_reducible apply Frame.ite
    | with_reducible apply SeqStep.framed_next
    | with_reducible apply SeqStep.framed_jump
    | with_reducible apply SeqStep.framed_wait
    | with_reducible apply SeqStep.framed_stay
    | with_reducible apply SeqStep.framed_fault
    | with_reducible apply SeqStep.framed_ite
    | (with_reducible apply State.seqIssue_frame (le := ?le); case le => decide)
    | (intro _ _ _; try dsimp -proj only)
    | (with_reducible apply State.setTp_frame (le := ?le); case le => decide))

theorem execSeqTpnow_frame (x0) (x1) (x2) (s : State) :
    OutFrame 108191964194053248 s (execSeqTpnow x0 x1 x2 s) := by
  unfold execSeqTpnow
  try dsimp -proj only
  repeat' (first
    | with_reducible exact Frame.refl _ _
    | with_reducible apply SeqStep.framed_next
    | with_reducible apply SeqStep.framed_jump
    | with_reducible apply SeqStep.framed_wait
    | with_reducible apply SeqStep.framed_stay
    | with_reducible apply SeqStep.framed_fault
    | with_reducible apply SeqStep.framed_ite
    | (with_reducible apply State.seqIssue_frame (le := ?le); case le => decide)
    | (intro _ _ _; try dsimp -proj only)
    | (with_reducible apply State.setTp_frame (le := ?le); case le => decide))

theorem execSeqTprd_frame (x0) (x1) (x2) (s : State) :
    OutFrame 108191964194053248 s (execSeqTprd x0 x1 x2 s) := by
  unfold execSeqTprd
  try dsimp -proj only
  repeat' (first
    | with_reducible exact Frame.refl _ _
    | with_reducible apply SeqStep.framed_next
    | with_reducible apply SeqStep.framed_jump
    | with_reducible apply SeqStep.framed_wait
    | with_reducible apply SeqStep.framed_stay
    | with_reducible apply SeqStep.framed_fault
    | with_reducible apply SeqStep.framed_ite
    | (with_reducible apply State.seqIssue_frame (le := ?le); case le => decide)
    | (intro _ _ _; try dsimp -proj only)
    | (with_reducible apply State.setPair_frame (le := ?le); case le => decide))

theorem execSeqUsrw_frame (x0) (x1) (x2) (s : State) :
    OutFrame 108191964194053248 s (execSeqUsrw x0 x1 x2 s) := by
  unfold execSeqUsrw
  try dsimp -proj only
  repeat' (first
    | with_reducible exact Frame.refl _ _
    | with_reducible apply SeqStep.framed_next
    | with_reducible apply SeqStep.framed_jump
    | with_reducible apply SeqStep.framed_wait
    | with_reducible apply SeqStep.framed_stay
    | with_reducible apply SeqStep.framed_fault
    | with_reducible apply SeqStep.framed_ite
    | (with_reducible apply State.modOpen_frame (le := ?le); case le => decide)
    | (with_reducible apply State.seqIssue_frame (le := ?le); case le => decide)
    | (intro _ _ _; try dsimp -proj only))

theorem execSeqWaite_frame (x0) (x1) (x2) (s : State) :
    OutFrame 108191964194053248 s (execSeqWaite x0 x1 x2 s) := by
  unfold execSeqWaite
  try dsimp -proj only
  repeat' (first
    | with_reducible apply OutFrame.ite
    | with_reducible exact Frame.refl _ _
    | with_reducible apply Frame.ite
    | with_reducible apply SeqStep.framed_next
    | with_reducible apply SeqStep.framed_jump
    | with_reducible apply SeqStep.framed_wait
    | with_reducible apply SeqStep.framed_stay
    | with_reducible apply SeqStep.framed_fault
    | with_reducible apply SeqStep.framed_ite
    | (with_reducible apply State.seqIssue_frame (le := ?le); case le => decide)
    | (intro _ _ _; try dsimp -proj only)
    | split)

theorem execSeqWaitt_frame (x0) (x1) (x2) (s : State) :
    OutFrame 108191964194053248 s (execSeqWaitt x0 x1 x2 s) := by
  unfold execSeqWaitt
  try dsimp -proj only
  repeat' (first
    | with_reducible apply OutFrame.ite
    | with_reducible exact Frame.refl _ _
    | with_reducible apply Frame.ite
    | with_reducible apply SeqStep.framed_next
    | with_reducible apply SeqStep.framed_jump
    | with_reducible apply SeqStep.framed_wait
    | with_reducible apply SeqStep.framed_stay
    | with_reducible apply SeqStep.framed_fault
    | with_reducible apply SeqStep.framed_ite
    | (with_reducible apply State.seqIssue_frame (le := ?le); case le => decide)
    | (intro _ _ _; try dsimp -proj only))

theorem execSeqXor_frame (x0) (x1) (x2) (s : State) :
    OutFrame 108191964194053248 s (execSeqXor x0 x1 x2 s) := by
  unfold execSeqXor
  try dsimp -proj only
  repeat' (first
    | with_reducible exact Frame.refl _ _
    | (with_reducible apply OutFrame.mono (h := State.seqAlu_frame ..) (le := ?le); case le => decide))

theorem execWaiteRelease_frame (x0) (x1) (s : State) :
    OutFrame 108086391729423488 s (execWaiteRelease x0 x1 s) := by
  unfold execWaiteRelease
  try dsimp -proj only
  repeat' (first
    | (with_reducible apply OutFrame.finish (le := ?le); case le => decide)
    | with_reducible exact OutFrame.same
    | with_reducible apply OutFrame.next
    | with_reducible apply OutFrame.ite
    | with_reducible exact Frame.refl _ _
    | with_reducible apply Frame.ite
    | (with_reducible apply State.waitOver_frame (le := ?le); case le => decide)
    | split)

theorem execWaiteTimeout_frame (x0) (x1) (s : State) :
    OutFrame 108086391729423488 s (execWaiteTimeout x0 x1 s) := by
  unfold execWaiteTimeout
  try dsimp -proj only
  repeat' (first
    | (with_reducible apply OutFrame.finish (le := ?le); case le => decide)
    | with_reducible exact OutFrame.same
    | with_reducible apply OutFrame.next
    | with_reducible apply OutFrame.ite
    | with_reducible exact Frame.refl _ _
    | with_reducible apply Frame.ite
    | (with_reducible apply State.seqRetire_frame (le := ?le); case le => decide)
    | split)

theorem execWaittExpiry_frame (x0) (x1) (s : State) :
    OutFrame 108086391729423488 s (execWaittExpiry x0 x1 s) := by
  unfold execWaittExpiry
  try dsimp -proj only
  repeat' (first
    | (with_reducible apply OutFrame.finish (le := ?le); case le => decide)
    | with_reducible exact OutFrame.same
    | with_reducible apply OutFrame.next
    | with_reducible apply OutFrame.ite
    | with_reducible exact Frame.refl _ _
    | with_reducible apply Frame.ite
    | (with_reducible apply State.waitOver_frame (le := ?le); case le => decide)
    | split)

end Sys2Proof.Machine
end

