-- ==== Sys2Proof/Laws/FramesLoader.lean ====
section
/-!
SUPPORT. The field frames of the operations of Machine/Loader.lean: the fields of the state that each may change.
-/
namespace Sys2Proof.Machine

theorem State.applyGo_frame (s : State) {w : Nat} {s₀ : State} (h : Frame w s₀ s) (le : 72057594037930112 ||| w = w) :
    Frame w s₀ (State.applyGo s) := by
  refine h.step ?_ le
  unfold State.applyGo
  try dsimp -proj only
  repeat' (first
    | with_reducible exact Frame.refl _ _
    | with_reducible apply Frame.ite
    | (with_reducible apply State.err_frame (le := ?le); case le => decide)
    | (with_reducible apply State.setFld_frame (le := ?le); case le => decide)
    | (with_reducible apply Frame.upd_loader (le := ?le); case le => decide))

theorem State.setCopyWords_frame (s : State) (x0) (x1) {w : Nat} {s₀ : State} (h : Frame w s₀ s) (le : 4096 ||| w = w) :
    Frame w s₀ (State.setCopyWords s x0 x1) := by
  refine h.step ?_ le
  unfold State.setCopyWords
  try dsimp -proj only
  repeat' (first
    | with_reducible exact Frame.refl _ _
    | with_reducible apply Frame.foldl
    | intro _ _
    | (with_reducible apply Frame.upd_cs (le := ?le); case le => decide))

theorem State.loadCluster_frame (s : State) (x0) (x1) {w : Nat} {s₀ : State} (h : Frame w s₀ s) (le : 4224 ||| w = w) :
    Frame w s₀ (State.loadCluster s x0 x1) := by
  refine h.step ?_ le
  unfold State.loadCluster
  try dsimp -proj only
  repeat' (first
    | with_reducible exact Frame.refl _ _
    | (with_reducible apply State.setCopyWords_frame (le := ?le); case le => decide)
    | (with_reducible apply State.setFld_frame (le := ?le); case le => decide))

theorem State.loaderEnd_frame (s : State) (x0) {w : Nat} {s₀ : State} (h : Frame w s₀ s) (le : 2176 ||| w = w) :
    Frame w s₀ (State.loaderEnd s x0) := by
  refine h.step ?_ le
  unfold State.loaderEnd
  try dsimp -proj only
  repeat' (first
    | with_reducible exact Frame.refl _ _
    | (with_reducible apply State.setFld_frame (le := ?le); case le => decide)
    | (with_reducible apply Frame.upd_loader (le := ?le); case le => decide))

theorem State.releaseHeld_frame (s : State) (x0) {w : Nat} {s₀ : State} (h : Frame w s₀ s) (le : 1152 ||| w = w) :
    Frame w s₀ (State.releaseHeld s x0) := by
  refine h.step ?_ le
  unfold State.releaseHeld
  try dsimp -proj only
  repeat' (first
    | with_reducible exact Frame.refl _ _
    | with_reducible apply Frame.ite
    | with_reducible apply Frame.foldl
    | intro _ _
    | (with_reducible apply State.modSeq_frame (le := ?le); case le => decide)
    | (with_reducible apply State.seqEnable_frame (le := ?le); case le => decide))

theorem State.setSlotWords_frame (s : State) (x0) (x1) {w : Nat} {s₀ : State} (h : Frame w s₀ s) (le : 8192 ||| w = w) :
    Frame w s₀ (State.setSlotWords s x0 x1) := by
  refine h.step ?_ le
  unfold State.setSlotWords
  try dsimp -proj only
  repeat' (first
    | with_reducible exact Frame.refl _ _
    | (with_reducible apply Frame.upd_csImage (le := ?le); case le => decide))

theorem State.showVersions_frame (s : State) {w : Nat} {s₀ : State} (h : Frame w s₀ s) (le : 128 ||| w = w) :
    Frame w s₀ (State.showVersions s) := by
  refine h.step ?_ le
  unfold State.showVersions
  try dsimp -proj only
  repeat' (first
    | with_reducible exact Frame.refl _ _
    | (with_reducible apply State.setBit_frame (le := ?le); case le => decide)
    | (with_reducible apply State.setFld_frame (le := ?le); case le => decide))

theorem State.stage_frame (s : State) (x0) (x1) (x2) (x3) {w : Nat} {s₀ : State} (h : Frame w s₀ s) (le : 10368 ||| w = w) :
    Frame w s₀ (State.stage s x0 x1 x2 x3) := by
  refine h.step ?_ le
  unfold State.stage
  try dsimp -proj only
  repeat' (first
    | with_reducible exact Frame.refl _ _
    | with_reducible apply Frame.ite
    | (with_reducible apply State.setFld_frame (le := ?le); case le => decide)
    | (with_reducible apply State.setSlotWords_frame (le := ?le); case le => decide)
    | (with_reducible apply Frame.upd_loader (le := ?le); case le => decide))

theorem State.verifyGo_frame (s : State) {w : Nat} {s₀ : State} (h : Frame w s₀ s) (le : 2176 ||| w = w) :
    Frame w s₀ (State.verifyGo s) := by
  refine h.step ?_ le
  unfold State.verifyGo
  try dsimp -proj only
  repeat' (first
    | with_reducible exact Frame.refl _ _
    | (with_reducible apply State.setFld_frame (le := ?le); case le => decide)
    | (with_reducible apply Frame.upd_loader (le := ?le); case le => decide))

theorem execApplyComplete_frame (s : State) :
    OutFrame 108086391729429632 s (execApplyComplete s) := by
  unfold execApplyComplete
  try dsimp -proj only
  repeat' (first
    | (with_reducible apply OutFrame.finish (le := ?le); case le => decide)
    | with_reducible exact OutFrame.same
    | with_reducible apply OutFrame.next
    | with_reducible apply OutFrame.ite
    | with_reducible exact Frame.refl _ _
    | with_reducible apply Frame.ite
    | with_reducible apply Frame.foldl
    | intro _ _
    | (with_reducible apply State.loadCluster_frame (le := ?le); case le => decide)
    | (with_reducible apply State.loaderEnd_frame (le := ?le); case le => decide)
    | (with_reducible apply State.raise_frame (le := ?le); case le => decide)
    | (with_reducible apply State.releaseHeld_frame (le := ?le); case le => decide)
    | (with_reducible apply State.showVersions_frame (le := ?le); case le => decide))

theorem execVerifyComplete_frame (x0) (s : State) :
    OutFrame 108086391729432704 s (execVerifyComplete x0 s) := by
  unfold execVerifyComplete
  try dsimp -proj only
  repeat' (first
    | (with_reducible apply OutFrame.finish (le := ?le); case le => decide)
    | with_reducible exact OutFrame.same
    | with_reducible apply OutFrame.next
    | with_reducible apply OutFrame.ite
    | with_reducible exact Frame.refl _ _
    | with_reducible apply Frame.ite
    | with_reducible apply Frame.getD
    | intro _ _
    | (with_reducible apply State.err_frame (le := ?le); case le => decide)
    | (with_reducible apply State.loaderEnd_frame (le := ?le); case le => decide)
    | (with_reducible apply State.raise_frame (le := ?le); case le => decide)
    | (with_reducible apply State.stage_frame (le := ?le); case le => decide)
    | split)

end Sys2Proof.Machine
end

