-- ==== Sys2Proof/Laws/FramesWindows.lean ====
section
/-!
SUPPORT. The field frames of the operations of Machine/Windows.lean: the fields of the state that each may change.
-/
namespace Sys2Proof.Machine

theorem State.accErr_frame (s : State) (x0) (x1) (x2) (x3) (x4) {w : Nat} {s₀ : State} (h : Frame w s₀ s) (le : 72057594037928064 ||| w = w) :
    Frame w s₀ (State.accErr s x0 x1 x2 x3 x4) := by
  refine h.step ?_ le
  unfold State.accErr
  try dsimp -proj only
  repeat' (first
    | with_reducible exact Frame.refl _ _
    | (with_reducible apply State.err_frame (le := ?le); case le => decide))

theorem State.bar2Get_frame (s : State) (x0) (x1) {w : Nat} {s₀ : State} (h : Frame w s₀ s) (le : 216172782113783936 ||| w = w) :
    Frame w s₀ (State.bar2Get s x0 x1) := by
  refine h.step ?_ le
  unfold State.bar2Get
  try dsimp -proj only
  repeat' (first
    | with_reducible exact Frame.refl _ _
    | with_reducible apply Frame.ite
    | (with_reducible apply State.accErr_frame (le := ?le); case le => decide)
    | (with_reducible apply State.respond_frame (le := ?le); case le => decide)
    | split)

theorem State.blockHit_frame (s : State) (x0) {w : Nat} {s₀ : State} (h : Frame w s₀ s) (le : 36028797018964096 ||| w = w) :
    Frame w s₀ (State.blockHit s x0) := by
  refine h.step ?_ le
  unfold State.blockHit
  try dsimp -proj only
  repeat' (first
    | with_reducible exact Frame.refl _ _
    | with_reducible apply Frame.ite
    | with_reducible apply Frame.foldl
    | intro _ _
    | (with_reducible apply State.raise_frame (le := ?le); case le => decide)
    | split)

theorem State.rejectUnit_frame (s : State) (x0) (x1) (x2) {w : Nat} {s₀ : State} (h : Frame w s₀ s) (le : 36028797018964096 ||| w = w) :
    Frame w s₀ (State.rejectUnit s x0 x1 x2) := by
  refine h.step ?_ le
  unfold State.rejectUnit
  try dsimp -proj only
  repeat' (first
    | with_reducible exact Frame.refl _ _
    | (with_reducible apply State.blockHit_frame (le := ?le); case le => decide)
    | (with_reducible apply State.inc_frame (le := ?le); case le => decide)
    | (with_reducible apply State.raise_frame (le := ?le); case le => decide)
    | (with_reducible apply State.setFld_frame (le := ?le); case le => decide)
    | split)

theorem State.storeUnit_frame (s : State) (x0) (x1) (x2) (x3) {w : Nat} {s₀ : State} (h : Frame w s₀ s) (le : 108086391080009856 ||| w = w) :
    Frame w s₀ (State.storeUnit s x0 x1 x2 x3) := by
  refine h.step ?_ le
  unfold State.storeUnit
  try dsimp -proj only
  repeat' (first
    | with_reducible exact Frame.refl _ _
    | with_reducible apply Frame.ite
    | (with_reducible apply State.shadowWrite_frame (le := ?le); case le => decide)
    | ((with_reducible apply Frame.upd_bar2 (le := by decide)); swap; exact fun ⟨a, b, c, d⟩ => ⟨by first | exact a | exact Memory.wf_wrLE _ _ _ a | exact Memory.wf_wrBytes _ _ a, by first | exact b | exact Memory.wf_wrBytes _ _ b, by first | exact c | exact Memory.wf_wrLE _ _ _ c | exact Memory.wf_wrBytes _ _ c, d⟩))

theorem State.writeUnit_frame (s : State) (x0) (x1) (x2) (x3) {w : Nat} {s₀ : State} (h : Frame w s₀ s) (le : 108086391080009856 ||| w = w) :
    Frame w s₀ (State.writeUnit s x0 x1 x2 x3).1 := by
  refine h.step ?_ le
  unfold State.writeUnit
  try dsimp -proj only
  repeat' (first
    | with_reducible exact Frame.refl _ _
    | with_reducible apply Frame.ite
    | (with_reducible apply State.accErr_frame (le := ?le); case le => decide)
    | (with_reducible apply State.rejectUnit_frame (le := ?le); case le => decide)
    | (with_reducible apply State.storeUnit_frame (le := ?le); case le => decide)
    | split
    | with_reducible apply Frame.fst_ite
    | with_reducible apply Frame.pair)

theorem State.bar2Put_frame (s : State) (x0) (x1) (x2) (x3) {w : Nat} {s₀ : State} (h : Frame w s₀ s)
    (le : 108086391080009856 ||| w = w) : Frame w s₀ (State.bar2Put s x0 x1 x2 x3).1 := by
  unfold State.bar2Put
  refine Frame.foldlFst h fun t x => ?_
  dsimp -proj only
  split <;> exact State.writeUnit_frame _ _ _ _ _ (Frame.refl _ _) (mask_le (by decide) le)

end Sys2Proof.Machine
end

