-- ==== Sys2Proof/Laws/FramesHost.lean ====
section
/-!
SUPPORT. The field frames of the operations of Machine/Host.lean: the fields of the state that each may change.
-/
namespace Sys2Proof.Machine

theorem State.dbApply_frame (s : State) (x0) {w : Nat} {s₀ : State} (h : Frame w s₀ s) (le : 108086391078486144 ||| w = w) :
    Frame w s₀ (State.dbApply s x0) := by
  refine h.step ?_ le
  unfold State.dbApply
  try dsimp -proj only
  repeat' (first
    | with_reducible exact Frame.refl _ _
    | with_reducible apply Frame.ite
    | (with_reducible apply State.modRing_frame (le := ?le); case le => decide)
    | (with_reducible apply State.touchRing_frame (le := ?le); case le => decide))

theorem State.bellOut_frame (s : State) (x0) {w : Nat} {s₀ : State} (h : Frame w s₀ s) (le : 108086391078486144 ||| w = w) :
    Frame w s₀ (State.bellOut s x0) := by
  refine h.step ?_ le
  unfold State.bellOut
  try dsimp -proj only
  repeat' (first
    | with_reducible exact Frame.refl _ _
    | with_reducible apply Frame.ite
    | (with_reducible apply State.dbApply_frame (le := ?le); case le => decide))

theorem State.chargeAccess_frame (s : State) (x0) {t : State} (e : State.chargeAccess s x0 = some t) {w : Nat} {s₀ : State} (h : Frame w s₀ s) (le : 32768 ||| w = w) :
    Frame w s₀ t := by
  refine h.step ?_ le
  unfold State.chargeAccess at e
  try dsimp -proj only at e
  repeat' split at e
  all_goals first | (cases e; done) | (injection e with e; subst e) | skip
  repeat' (first
    | with_reducible exact Frame.refl _ _
    | with_reducible apply Frame.ite
    | (with_reducible apply State.useUnits_frame (le := ?le); case le => decide))

theorem State.dbFault_frame (s : State) (x0) (x1) {w : Nat} {s₀ : State} (h : Frame w s₀ s) (le : 108086391056892032 ||| w = w) :
    Frame w s₀ (State.dbFault s x0 x1) := by
  refine h.step ?_ le
  unfold State.dbFault
  try dsimp -proj only
  repeat' (first
    | with_reducible exact Frame.refl _ _
    | (with_reducible apply State.err_frame (le := ?le); case le => decide)
    | (with_reducible apply State.raise_frame (le := ?le); case le => decide))

theorem State.doorbell_frame (s : State) (x0) (x1) (x2) (x3) {w : Nat} {s₀ : State} (h : Frame w s₀ s) (le : 108086391086874752 ||| w = w) :
    Frame w s₀ (State.doorbell s x0 x1 x2 x3) := by
  refine h.step ?_ le
  unfold State.doorbell
  try dsimp -proj only
  repeat' (first
    | with_reducible exact Frame.refl _ _
    | with_reducible apply Frame.ite
    | with_reducible apply Frame.foldl
    | intro _ _
    | (with_reducible apply State.bellOut_frame (le := ?le); case le => decide)
    | (with_reducible apply State.dbApply_frame (le := ?le); case le => decide)
    | (with_reducible apply State.dbFault_frame (le := ?le); case le => decide)
    | (with_reducible apply Frame.upd_doorbells (le := ?le); case le => decide))

theorem State.flrPages_frame (s : State) (x0) {w : Nat} {s₀ : State} (h : Frame w s₀ s) (le : 117493157719540864 ||| w = w) :
    Frame w s₀ (State.flrPages s x0) := by
  refine h.step ?_ le
  unfold State.flrPages
  try dsimp -proj only
  repeat' (first
    | with_reducible exact Frame.refl _ _
    | with_reducible apply Frame.ite
    | with_reducible apply Frame.foldl
    | intro _ _
    | (with_reducible apply State.acqKill_frame (le := ?le); case le => decide)
    | (with_reducible apply State.adcDisable_frame (le := ?le); case le => decide)
    | (with_reducible apply State.calHit_frame (le := ?le); case le => decide)
    | (with_reducible apply State.dcFlush_frame (le := ?le); case le => decide)
    | (with_reducible apply State.ethKill_frame (le := ?le); case le => decide)
    | (with_reducible apply State.evgKill_frame (le := ?le); case le => decide)
    | (with_reducible apply State.fluxKill_frame (le := ?le); case le => decide)
    | (with_reducible apply State.jportKill_frame (le := ?le); case le => decide)
    | (with_reducible apply State.laneKill_frame (le := ?le); case le => decide)
    | (with_reducible apply State.outKill_frame (le := ?le); case le => decide)
    | (with_reducible apply State.routKill_frame (le := ?le); case le => decide)
    | (with_reducible apply State.seqDisable_frame (le := ?le); case le => decide)
    | (with_reducible apply State.synKill_frame (le := ?le); case le => decide)
    | (with_reducible apply State.toneKill_frame (le := ?le); case le => decide))

theorem State.flrStart_frame (s : State) (x0) {w : Nat} {s₀ : State} (h : Frame w s₀ s) (le : 117493157719671936 ||| w = w) :
    Frame w s₀ (State.flrStart s x0) := by
  refine h.step ?_ le
  unfold State.flrStart
  try dsimp -proj only
  repeat' (first
    | with_reducible exact Frame.refl _ _
    | with_reducible apply Frame.ite
    | with_reducible apply Frame.foldl
    | intro _ _
    | (with_reducible apply State.flrPages_frame (le := ?le); case le => decide)
    | (with_reducible apply State.modFn_frame (le := ?le); case le => decide)
    | (with_reducible apply State.modRing_frame (le := ?le); case le => decide))

theorem State.flrGo_frame (s : State) (x0) {w : Nat} {s₀ : State} (h : Frame w s₀ s) (le : 117493157719671936 ||| w = w) :
    Frame w s₀ (State.flrGo s x0) := by
  refine h.step ?_ le
  unfold State.flrGo
  try dsimp -proj only
  repeat' (first
    | with_reducible exact Frame.refl _ _
    | with_reducible apply Frame.ite
    | with_reducible apply Frame.foldl
    | intro _ _
    | (with_reducible apply State.flrStart_frame (le := ?le); case le => decide))

theorem State.setJob_frame (s : State) (x0) (x1) {w : Nat} {s₀ : State} (h : Frame w s₀ s) (le : 65536 ||| w = w) :
    Frame w s₀ (State.setJob s x0 x1) := by
  refine h.step ?_ le
  unfold State.setJob
  try dsimp -proj only
  repeat' (first
    | with_reducible exact Frame.refl _ _
    | (with_reducible apply State.modRing_frame (le := ?le); case le => decide))

theorem State.loadBlock_frame (s : State) (x0) (x1) (x2) {w : Nat} {s₀ : State} (h : Frame w s₀ s) (le : 108086391080075392 ||| w = w) :
    Frame w s₀ (State.loadBlock s x0 x1 x2) := by
  refine h.step ?_ le
  unfold State.loadBlock
  try dsimp -proj only
  repeat' (first
    | with_reducible exact Frame.refl _ _
    | with_reducible apply Frame.ite
    | (with_reducible apply State.bar2Put_frame (le := ?le); case le => decide)
    | (with_reducible apply State.setJob_frame (le := ?le); case le => decide))

theorem State.noteMoved_frame (s : State) (x0) {w : Nat} {s₀ : State} (h : Frame w s₀ s) (le : 65536 ||| w = w) :
    Frame w s₀ (State.noteMoved s x0) := by
  refine h.step ?_ le
  unfold State.noteMoved
  try dsimp -proj only
  repeat' (first
    | with_reducible exact Frame.refl _ _
    | with_reducible apply Frame.ite
    | (with_reducible apply State.modRing_frame (le := ?le); case le => decide))

theorem State.moveIn_frame (s : State) (x0) (x1) (x2) (x3) {w : Nat} {s₀ : State} (h : Frame w s₀ s) (le : 1114112 ||| w = w) :
    Frame w s₀ (State.moveIn s x0 x1 x2 x3) := by
  refine h.step ?_ le
  unfold State.moveIn
  try dsimp -proj only
  repeat' (first
    | with_reducible exact Frame.refl _ _
    | with_reducible apply Frame.ite
    | (with_reducible apply State.noteMoved_frame (le := ?le); case le => decide)
    | ((with_reducible apply Frame.upd_host (le := by decide)); swap; exact fun ⟨a, b, c, d⟩ => ⟨by first | exact a | exact Memory.wf_wrLE _ _ _ a | exact Memory.wf_wrBytes _ _ a, by first | exact b | exact Memory.wf_wrBytes _ _ b, by first | exact c | exact Memory.wf_wrLE _ _ _ c | exact Memory.wf_wrBytes _ _ c, d⟩))

theorem State.moveOne_frame (s : State) (x0) (x1) {w : Nat} {s₀ : State} (h : Frame w s₀ s) (le : 108086391063249024 ||| w = w) :
    Frame w s₀ (State.moveOne s x0 x1) := by
  refine h.step ?_ le
  unfold State.moveOne
  try dsimp -proj only
  repeat' (first
    | with_reducible exact Frame.refl _ _
    | with_reducible apply Frame.ite
    | (with_reducible apply State.dramEnter_frame (le := ?le); case le => decide)
    | (with_reducible apply State.noteMoved_frame (le := ?le); case le => decide)
    | (with_reducible apply State.ringAsk_frame (le := ?le); case le => decide)
    | ((with_reducible apply Frame.upd_dram (le := by decide)); swap; exact fun ⟨a, b, c, d⟩ => ⟨by first | exact a | exact Memory.wf_wrLE _ _ _ a | exact Memory.wf_wrBytes _ _ a, by first | exact b | exact Memory.wf_wrBytes _ _ b, by first | exact c | exact Memory.wf_wrLE _ _ _ c | exact Memory.wf_wrBytes _ _ c, d⟩))

theorem State.moveMany_frame (s : State) (f) (r) (k) {w : Nat} {s₀ : State} (h : Frame w s₀ s)
    (le : 108086391063281792 ||| w = w) : Frame w s₀ (State.moveMany s f r k) := by
  induction k generalizing s with
  | zero => exact h
  | succ k ih =>
    unfold State.moveMany
    dsimp -proj only
    split
    · exact h
    · split
      · rename_i t e
        exact ih _ (State.moveOne_frame _ _ _ (State.chargeHost_frame _ _ e h (mask_le (by decide) le)) (mask_le (by decide) le))
      · exact h

theorem State.msixTableWrite_frame (s : State) (x0) (x1) (x2) (x3) {w : Nat} {s₀ : State} (h : Frame w s₀ s) (le : 262144 ||| w = w) :
    Frame w s₀ (State.msixTableWrite s x0 x1 x2 x3) := by
  refine h.step ?_ le
  unfold State.msixTableWrite
  try dsimp -proj only
  repeat' (first
    | with_reducible exact Frame.refl _ _
    | with_reducible apply Frame.ite
    | (with_reducible apply State.modMsix_frame (le := ?le); case le => decide)
    | split)

theorem State.partitionWrite_frame (s : State) (x0) (x1) (x2) {w : Nat} {s₀ : State} (h : Frame w s₀ s) (le : 72057594037928064 ||| w = w) :
    Frame w s₀ (State.partitionWrite s x0 x1 x2) := by
  refine h.step ?_ le
  unfold State.partitionWrite
  try dsimp -proj only
  repeat' (first
    | with_reducible exact Frame.refl _ _
    | with_reducible apply Frame.ite
    | (with_reducible apply State.err_frame (le := ?le); case le => decide)
    | (with_reducible apply State.setFld_frame (le := ?le); case le => decide))

theorem State.quotaWrite_frame (s : State) (x0) (x1) {w : Nat} {s₀ : State} (h : Frame w s₀ s) (le : 72057594037928064 ||| w = w) :
    Frame w s₀ (State.quotaWrite s x0 x1) := by
  refine h.step ?_ le
  unfold State.quotaWrite
  try dsimp -proj only
  repeat' (first
    | with_reducible exact Frame.refl _ _
    | with_reducible apply Frame.ite
    | (with_reducible apply State.err_frame (le := ?le); case le => decide)
    | (with_reducible apply State.setFld_frame (le := ?le); case le => decide))

theorem State.restoreKept_frame (s : State) (x0) {w : Nat} {s₀ : State} (h : Frame w s₀ s)
    (le : 2162688 ||| w = w) : Frame w s₀ (State.restoreKept s x0) := by
  refine h.step ?_ le
  unfold State.restoreKept
  dsimp -proj only
  apply State.modRing_frame (le := by decide)
  apply Frame.upd_dram (le := by decide) (h := Frame.refl _ _)
  refine fun c => ⟨c.1, ?_, c.2.2.1, c.2.2.2⟩
  show Memory.wf (List.foldl _ s.dram _) = true
  have : ∀ (l : List ((List Byte × Nat))) (m : List Host.Cell), Memory.wf m = true →
      Memory.wf (l.foldl (fun m e => wrBytes m ((s.ring x0).devSlot e.2) e.1) m) = true := by
    intro l
    induction l with
    | nil => exact fun _ k => k
    | cons e l ih => exact fun m k => ih _ (Memory.wf_wrBytes _ _ k)
  exact this _ _ c.2.1

theorem State.ringOff_frame (s : State) (x0) {w : Nat} {s₀ : State} (h : Frame w s₀ s) (le : 65536 ||| w = w) :
    Frame w s₀ (State.ringOff s x0) := by
  refine h.step ?_ le
  unfold State.ringOff
  try dsimp -proj only
  repeat' (first
    | with_reducible exact Frame.refl _ _
    | with_reducible apply Frame.ite
    | (with_reducible apply State.modRing_frame (le := ?le); case le => decide))

theorem State.ringOn_frame (s : State) (x0) (x1) {w : Nat} {s₀ : State} (h : Frame w s₀ s) (le : 2162688 ||| w = w) :
    Frame w s₀ (State.ringOn s x0 x1) := by
  refine h.step ?_ le
  unfold State.ringOn
  try dsimp -proj only
  repeat' (first
    | with_reducible exact Frame.refl _ _
    | with_reducible apply Frame.ite
    | (with_reducible apply State.modRing_frame (le := ?le); case le => decide)
    | (with_reducible apply State.restoreKept_frame (le := ?le); case le => decide))

theorem State.ringRefuse_frame (s : State) (x0) (x1) {w : Nat} {s₀ : State} (h : Frame w s₀ s) (le : 72057594037928064 ||| w = w) :
    Frame w s₀ (State.ringRefuse s x0 x1) := by
  refine h.step ?_ le
  unfold State.ringRefuse
  try dsimp -proj only
  repeat' (first
    | with_reducible exact Frame.refl _ _
    | (with_reducible apply State.err_frame (le := ?le); case le => decide))

theorem State.ringCtl_frame (s : State) (x0) (x1) (x2) {w : Nat} {s₀ : State} (h : Frame w s₀ s) (le : 72057594040090752 ||| w = w) :
    Frame w s₀ (State.ringCtl s x0 x1 x2) := by
  refine h.step ?_ le
  unfold State.ringCtl
  try dsimp -proj only
  repeat' (first
    | with_reducible exact Frame.refl _ _
    | with_reducible apply Frame.ite
    | (with_reducible apply State.err_frame (le := ?le); case le => decide)
    | (with_reducible apply State.modRing_frame (le := ?le); case le => decide)
    | (with_reducible apply State.ringOff_frame (le := ?le); case le => decide)
    | (with_reducible apply State.ringOn_frame (le := ?le); case le => decide)
    | (with_reducible apply State.ringRefuse_frame (le := ?le); case le => decide))

theorem State.ringField_frame (s : State) (x0) (x1) (x2) (x3) {w : Nat} {s₀ : State} (h : Frame w s₀ s) (le : 72057594037993600 ||| w = w) :
    Frame w s₀ (State.ringField s x0 x1 x2 x3) := by
  refine h.step ?_ le
  unfold State.ringField
  try dsimp -proj only
  repeat' (first
    | with_reducible exact Frame.refl _ _
    | with_reducible apply Frame.ite
    | (with_reducible apply State.modRing_frame (le := ?le); case le => decide)
    | (with_reducible apply State.ringRefuse_frame (le := ?le); case le => decide)
    | split)

theorem State.ringSignal_frame (s : State) (x0) (x1) {w : Nat} {s₀ : State} (h : Frame w s₀ s) (le : 1441792 ||| w = w) :
    Frame w s₀ (State.ringSignal s x0 x1) := by
  refine h.step ?_ le
  unfold State.ringSignal
  try dsimp -proj only
  repeat' (first
    | with_reducible exact Frame.refl _ _
    | with_reducible apply Frame.ite
    | (with_reducible apply State.modFn_frame (le := ?le); case le => decide)
    | (with_reducible apply State.msixSignal_frame (le := ?le); case le => decide))

theorem State.seqStartAt_frame (s : State) (x0) (x1) {w : Nat} {s₀ : State} (h : Frame w s₀ s) (le : 1152 ||| w = w) :
    Frame w s₀ (State.seqStartAt s x0 x1) := by
  refine h.step ?_ le
  unfold State.seqStartAt
  try dsimp -proj only
  repeat' (first
    | with_reducible exact Frame.refl _ _
    | with_reducible apply Frame.ite
    | (with_reducible apply State.modSeq_frame (le := ?le); case le => decide)
    | (with_reducible apply State.seqEnable_frame (le := ?le); case le => decide))

theorem State.signalRing_frame (s : State) (x0) (x1) {w : Nat} {s₀ : State} (h : Frame w s₀ s) (le : 1507328 ||| w = w) :
    Frame w s₀ (State.signalRing s x0 x1) := by
  refine h.step ?_ le
  unfold State.signalRing
  try dsimp -proj only
  repeat' (first
    | with_reducible exact Frame.refl _ _
    | (with_reducible apply State.modRing_frame (le := ?le); case le => decide)
    | (with_reducible apply State.ringSignal_frame (le := ?le); case le => decide))

theorem State.wbWrite_frame (s : State) (x0) (x1) {w : Nat} {s₀ : State} (h : Frame w s₀ s) (le : 1507328 ||| w = w) :
    Frame w s₀ (State.wbWrite s x0 x1) := by
  refine h.step ?_ le
  unfold State.wbWrite
  try dsimp -proj only
  repeat' (first
    | with_reducible exact Frame.refl _ _
    | with_reducible apply Frame.ite
    | (with_reducible apply State.modRing_frame (le := ?le); case le => decide)
    | (with_reducible apply State.signalRing_frame (le := ?le); case le => decide)
    | ((with_reducible apply Frame.upd_host (le := by decide)); swap; exact fun ⟨a, b, c, d⟩ => ⟨by first | exact a | exact Memory.wf_wrLE _ _ _ a | exact Memory.wf_wrBytes _ _ a, by first | exact b | exact Memory.wf_wrBytes _ _ b, by first | exact c | exact Memory.wf_wrLE _ _ _ c | exact Memory.wf_wrBytes _ _ c, d⟩))

theorem execDbCons_frame (x0) (x1) (x2) (s : State) :
    OutFrame 108086391759405184 s (execDbCons x0 x1 x2 s) := by
  unfold execDbCons
  try dsimp -proj only
  repeat' (first
    | (with_reducible apply OutFrame.finish (le := ?le); case le => decide)
    | with_reducible exact Frame.refl _ _
    | (with_reducible apply State.doorbell_frame (le := ?le); case le => decide))

theorem execDbProd_frame (x0) (x1) (x2) (s : State) :
    OutFrame 108086391759405184 s (execDbProd x0 x1 x2 s) := by
  unfold execDbProd
  try dsimp -proj only
  repeat' (first
    | (with_reducible apply OutFrame.finish (le := ?le); case le => decide)
    | with_reducible exact Frame.refl _ _
    | (with_reducible apply State.doorbell_frame (le := ?le); case le => decide))

theorem execFlrComplete_frame (x0) (x1) (x2) (s : State) :
    OutFrame 108086391729422464 s (execFlrComplete x0 x1 x2 s) := by
  unfold execFlrComplete
  try dsimp -proj only
  repeat' (first
    | (with_reducible apply OutFrame.finish (le := ?le); case le => decide)
    | with_reducible exact OutFrame.same
    | with_reducible apply OutFrame.next
    | with_reducible apply OutFrame.ite
    | with_reducible exact Frame.refl _ _
    | with_reducible apply Frame.ite
    | with_reducible apply Frame.foldl
    | intro _ _
    | (with_reducible apply State.modFn_frame (le := ?le); case le => decide)
    | (with_reducible apply State.modMsix_frame (le := ?le); case le => decide)
    | (with_reducible apply State.raise_frame (le := ?le); case le => decide)
    | (with_reducible apply State.setFld_frame (le := ?le); case le => decide)
    | (with_reducible apply State.setReg_frame (le := ?le); case le => decide)
    | split)

theorem execFlrInitiate_frame (x0) (s : State) :
    OutFrame 117493158257853568 s (execFlrInitiate x0 s) := by
  unfold execFlrInitiate
  try dsimp -proj only
  repeat' (first
    | (with_reducible apply OutFrame.finish (le := ?le); case le => decide)
    | with_reducible exact Frame.refl _ _
    | (with_reducible apply State.flrGo_frame (le := ?le); case le => decide))

theorem execFlrRingsDisable_frame (x0) (s : State) :
    OutFrame 108086391729488000 s (execFlrRingsDisable x0 s) := by
  unfold execFlrRingsDisable
  try dsimp -proj only
  repeat' (first
    | (with_reducible apply OutFrame.finish (le := ?le); case le => decide)
    | with_reducible exact OutFrame.same
    | with_reducible apply OutFrame.next
    | with_reducible apply OutFrame.ite
    | with_reducible exact Frame.refl _ _
    | with_reducible apply Frame.ite
    | with_reducible apply Frame.foldl
    | intro _ _
    | (with_reducible apply State.modFn_frame (le := ?le); case le => decide)
    | (with_reducible apply State.ringOff_frame (le := ?le); case le => decide)
    | split)

theorem execFlrSequencerDeadline_frame (x0) (s : State) :
    OutFrame 108086391729423488 s (execFlrSequencerDeadline x0 s) := by
  unfold execFlrSequencerDeadline
  try dsimp -proj only
  repeat' (first
    | (with_reducible apply OutFrame.finish (le := ?le); case le => decide)
    | with_reducible exact OutFrame.same
    | with_reducible apply OutFrame.next
    | with_reducible apply OutFrame.ite
    | with_reducible exact Frame.refl _ _
    | with_reducible apply Frame.ite
    | (with_reducible apply State.modFn_frame (le := ?le); case le => decide)
    | (with_reducible apply State.seqKillAll_frame (le := ?le); case le => decide)
    | split)

theorem execJobComplete_frame (x0) (s : State) :
    OutFrame 108086391753113728 s (execJobComplete x0 s) := by
  unfold execJobComplete
  try dsimp -proj only
  repeat' (first
    | (with_reducible apply OutFrame.finish (le := ?le); case le => decide)
    | with_reducible exact OutFrame.same
    | with_reducible apply OutFrame.next
    | with_reducible apply OutFrame.ite
    | with_reducible exact Frame.refl _ _
    | with_reducible apply Frame.ite
    | (with_reducible apply State.modRing_frame (le := ?le); case le => decide)
    | (with_reducible apply State.ringPush_frame (le := ?le); case le => decide)
    | split)

theorem execJobFence_frame (x0) (s : State) :
    OutFrame 108086391729488000 s (execJobFence x0 s) := by
  unfold execJobFence
  try dsimp -proj only
  repeat' (first
    | (with_reducible apply OutFrame.finish (le := ?le); case le => decide)
    | with_reducible exact OutFrame.same
    | with_reducible apply OutFrame.next
    | with_reducible exact Frame.refl _ _
    | (with_reducible apply State.setJob_frame (le := ?le); case le => decide)
    | split)

theorem execJobLoad_frame (x0) (x1) (s : State) :
    OutFrame 108086391752605824 s (execJobLoad x0 x1 s) := by
  unfold execJobLoad
  try dsimp -proj only
  repeat' (first
    | (with_reducible apply OutFrame.finish (le := ?le); case le => decide)
    | with_reducible exact OutFrame.same
    | with_reducible apply OutFrame.next
    | with_reducible apply OutFrame.ite
    | with_reducible exact Frame.refl _ _
    | with_reducible apply Frame.ite
    | (with_reducible apply State.chargeAccess_frame (le := ?le) (e := by assumption); case le => decide)
    | (with_reducible apply State.loadBlock_frame (le := ?le); case le => decide)
    | (with_reducible apply State.setJob_frame (le := ?le); case le => decide)
    | split)

theorem execJobStart_frame (x0) (s : State) :
    OutFrame 108086391729488000 s (execJobStart x0 s) := by
  unfold execJobStart
  try dsimp -proj only
  repeat' (first
    | (with_reducible apply OutFrame.finish (le := ?le); case le => decide)
    | with_reducible exact OutFrame.same
    | with_reducible apply OutFrame.next
    | with_reducible exact Frame.refl _ _
    | (with_reducible apply State.setJob_frame (le := ?le); case le => decide)
    | split)

theorem execJobStartStep_frame (x0) (s : State) :
    OutFrame 108086391729489024 s (execJobStartStep x0 s) := by
  unfold execJobStartStep
  try dsimp -proj only
  repeat' (first
    | (with_reducible apply OutFrame.finish (le := ?le); case le => decide)
    | with_reducible exact OutFrame.same
    | with_reducible apply OutFrame.next
    | with_reducible apply OutFrame.ite
    | with_reducible exact Frame.refl _ _
    | with_reducible apply Frame.ite
    | with_reducible apply Frame.foldl
    | intro _ _
    | (with_reducible apply State.seqStartAt_frame (le := ?le); case le => decide)
    | (with_reducible apply State.setJob_frame (le := ?le); case le => decide)
    | split)

theorem execJobStop_frame (x0) (s : State) :
    OutFrame 108086391729489024 s (execJobStop x0 s) := by
  unfold execJobStop
  try dsimp -proj only
  repeat' (first
    | (with_reducible apply OutFrame.finish (le := ?le); case le => decide)
    | with_reducible exact OutFrame.same
    | with_reducible apply OutFrame.next
    | with_reducible exact Frame.refl _ _
    | with_reducible apply Frame.foldl
    | intro _ _
    | (with_reducible apply State.seqDisable_frame (le := ?le); case le => decide)
    | (with_reducible apply State.setJob_frame (le := ?le); case le => decide)
    | split)

theorem execJobTake_frame (x0) (s : State) :
    OutFrame 108086391751016576 s (execJobTake x0 s) := by
  unfold execJobTake
  try dsimp -proj only
  repeat' (first
    | (with_reducible apply OutFrame.finish (le := ?le); case le => decide)
    | with_reducible exact OutFrame.same
    | with_reducible apply OutFrame.next
    | with_reducible apply OutFrame.ite
    | with_reducible exact Frame.refl _ _
    | with_reducible apply Frame.ite
    | (with_reducible apply State.modRing_frame (le := ?le); case le => decide)
    | (with_reducible apply State.ringTake_frame (le := ?le); case le => decide)
    | split)

theorem execLinkDownReset_frame (s : State) :
    OutFrame 117493158257853568 s (execLinkDownReset s) := by
  unfold execLinkDownReset
  try dsimp -proj only
  repeat' (first
    | (with_reducible apply OutFrame.finish (le := ?le); case le => decide)
    | with_reducible exact Frame.refl _ _
    | (with_reducible apply State.flrGo_frame (le := ?le); case le => decide))

theorem execMoverDmaError_frame (x0) (s : State) :
    OutFrame 108086391729488000 s (execMoverDmaError x0 s) := by
  unfold execMoverDmaError
  try dsimp -proj only
  repeat' (first
    | (with_reducible apply OutFrame.finish (le := ?le); case le => decide)
    | with_reducible exact OutFrame.same
    | with_reducible apply OutFrame.next
    | with_reducible apply OutFrame.ite
    | with_reducible exact Frame.refl _ _
    | with_reducible apply Frame.ite
    | (with_reducible apply State.err_frame (le := ?le); case le => decide)
    | (with_reducible apply State.modRing_frame (le := ?le); case le => decide)
    | (with_reducible apply State.raise_frame (le := ?le); case le => decide)
    | split)

theorem execMoverTransfer_frame (x0) (x1) (s : State) :
    OutFrame 108086391753113728 s (execMoverTransfer x0 x1 s) := by
  unfold execMoverTransfer
  try dsimp -proj only
  repeat' (first
    | (with_reducible apply OutFrame.finish (le := ?le); case le => decide)
    | with_reducible exact OutFrame.same
    | with_reducible apply OutFrame.next
    | with_reducible apply OutFrame.ite
    | with_reducible exact Frame.refl _ _
    | with_reducible apply Frame.ite
    | (with_reducible apply State.moveMany_frame (le := ?le); case le => decide)
    | (with_reducible apply State.touchRing_frame (le := ?le); case le => decide)
    | (with_reducible apply State.wbWrite_frame (le := ?le); case le => decide)
    | split)

theorem execMsixCoalescedMessage_frame (x0) (x1) (s : State) :
    OutFrame 108086391729422464 s (execMsixCoalescedMessage x0 x1 s) := by
  unfold execMsixCoalescedMessage
  try dsimp -proj only
  repeat' (first
    | (with_reducible apply OutFrame.finish (le := ?le); case le => decide)
    | with_reducible exact OutFrame.same
    | with_reducible apply OutFrame.next
    | with_reducible apply OutFrame.ite
    | with_reducible exact Frame.refl _ _
    | with_reducible apply Frame.ite
    | (with_reducible apply State.modMsix_frame (le := ?le); case le => decide)
    | (with_reducible apply State.msixSignal_frame (le := ?le); case le => decide))

theorem execMsixHeldRelease_frame (x0) (x1) (s : State) :
    OutFrame 108086391729422464 s (execMsixHeldRelease x0 x1 s) := by
  unfold execMsixHeldRelease
  try dsimp -proj only
  repeat' (first
    | (with_reducible apply OutFrame.finish (le := ?le); case le => decide)
    | with_reducible exact OutFrame.same
    | with_reducible apply OutFrame.next
    | with_reducible apply OutFrame.ite
    | with_reducible exact Frame.refl _ _
    | with_reducible apply Frame.ite
    | (with_reducible apply State.modFn_frame (le := ?le); case le => decide)
    | (with_reducible apply State.msixWrite_frame (le := ?le); case le => decide)
    | (with_reducible apply State.setPba_frame (le := ?le); case le => decide))

theorem execRingStopped_frame (x0) (s : State) :
    OutFrame 108086391729488000 s (execRingStopped x0 s) := by
  unfold execRingStopped
  try dsimp -proj only
  repeat' (first
    | (with_reducible apply OutFrame.finish (le := ?le); case le => decide)
    | with_reducible exact OutFrame.same
    | with_reducible apply OutFrame.next
    | with_reducible apply OutFrame.ite
    | with_reducible exact Frame.refl _ _
    | with_reducible apply Frame.ite
    | (with_reducible apply State.modRing_frame (le := ?le); case le => decide))

end Sys2Proof.Machine
end

