-- ==== Sys2Proof/Laws/FramesDramSteps.lean ====
section
/-!
SUPPORT. The field frames of the operations of Machine/DramSteps.lean: the fields of the state that each may change.
-/
namespace Sys2Proof.Machine

theorem State.captureFreeze_frame (s : State) (x0) {w : Nat} {s₀ : State} (h : Frame w s₀ s) (le : 128 ||| w = w) :
    Frame w s₀ (State.captureFreeze s x0) := by
  refine h.step ?_ le
  unfold State.captureFreeze
  try dsimp -proj only
  repeat' (first
    | with_reducible exact Frame.refl _ _
    | (with_reducible apply State.setFld_frame (le := ?le); case le => decide)
    | (with_reducible apply State.setFld64_frame (le := ?le); case le => decide)
    | (with_reducible apply State.setReg_frame (le := ?le); case le => decide))

theorem State.dropReads_frame (s : State) {w : Nat} {s₀ : State} (h : Frame w s₀ s) (le : 21037056 ||| w = w) :
    Frame w s₀ (State.dropReads s) := by
  refine h.step ?_ le
  unfold State.dropReads
  try dsimp -proj only
  repeat' (first
    | with_reducible exact Frame.refl _ _
    | with_reducible apply Frame.foldl
    | with_reducible apply Frame.forN
    | intro _ _
    | (with_reducible apply State.modDch_frame (le := ?le); case le => decide)
    | (with_reducible apply State.modRing_frame (le := ?le); case le => decide)
    | (with_reducible apply Frame.upd_dwait (le := ?le); case le => decide))

theorem State.freeze_frame (s : State) (x0) {w : Nat} {s₀ : State} (h : Frame w s₀ s) (le : 36028797107110016 ||| w = w) :
    Frame w s₀ (State.freeze s x0) := by
  refine h.step ?_ le
  unfold State.freeze
  try dsimp -proj only
  repeat' (first
    | with_reducible exact Frame.refl _ _
    | with_reducible apply Frame.ite
    | (with_reducible apply State.captureFreeze_frame (le := ?le); case le => decide)
    | (with_reducible apply State.dropReads_frame (le := ?le); case le => decide)
    | (with_reducible apply State.raise_frame (le := ?le); case le => decide)
    | (with_reducible apply State.setBit_frame (le := ?le); case le => decide)
    | (with_reducible apply Frame.upd_unfreezing (le := ?le); case le => decide))

theorem State.checked_frame (s : State) (x0) (x1) (x2) (x3) (x4) {w : Nat} {s₀ : State} (h : Frame w s₀ s) (le : 36028797107110016 ||| w = w) :
    Frame w s₀ (State.checked s x0 x1 x2 x3 x4) := by
  refine h.step ?_ le
  unfold State.checked
  try dsimp -proj only
  repeat' (first
    | with_reducible exact Frame.refl _ _
    | with_reducible apply Frame.ite
    | (with_reducible apply State.freeze_frame (le := ?le); case le => decide)
    | split)

theorem State.crcUse_frame (s : State) (x0) (x1) (x2) {w : Nat} {s₀ : State} (h : Frame w s₀ s) (le : 4194304 ||| w = w) :
    Frame w s₀ (State.crcUse s x0 x1 x2) := by
  refine h.step ?_ le
  unfold State.crcUse
  try dsimp -proj only
  repeat' (first
    | with_reducible exact Frame.refl _ _
    | (with_reducible apply State.modDch_frame (le := ?le); case le => decide))

theorem State.deliverRead_frame (s : State) (x0) (x1) {w : Nat} {s₀ : State} (h : Frame w s₀ s) (le : 108156761950060672 ||| w = w) :
    Frame w s₀ (State.deliverRead s x0 x1) := by
  refine h.step ?_ le
  unfold State.deliverRead
  try dsimp -proj only
  repeat' (first
    | with_reducible exact Frame.refl _ _
    | (with_reducible apply State.biasIn_frame (le := ?le); case le => decide)
    | (with_reducible apply State.moveIn_frame (le := ?le); case le => decide)
    | (with_reducible apply State.ringData_frame (le := ?le); case le => decide)
    | (intro _ _ _; try dsimp -proj only)
    | (with_reducible apply State.ringDrain_frame (le := ?le); case le => decide)
    | (with_reducible apply State.streamIn_frame (le := ?le); case le => decide)
    | (with_reducible apply State.wbWrite_frame (le := ?le); case le => decide)
    | split)

theorem State.dramApply_frame (s : State) (x0) {w : Nat} {s₀ : State} (h : Frame w s₀ s) (le : 128 ||| w = w) :
    Frame w s₀ (State.dramApply s x0) := by
  refine h.step ?_ le
  unfold State.dramApply
  try dsimp -proj only
  repeat' (first
    | with_reducible exact Frame.refl _ _
    | with_reducible apply Frame.ite
    | (with_reducible apply State.setBit_frame (le := ?le); case le => decide)
    | (with_reducible apply State.setFld_frame (le := ?le); case le => decide))

theorem State.dramFails_frame (s : State) (x0) (x1) {w : Nat} {s₀ : State} (h : Frame w s₀ s) (le : 108086391056892032 ||| w = w) :
    Frame w s₀ (State.dramFails s x0 x1) := by
  refine h.step ?_ le
  unfold State.dramFails
  try dsimp -proj only
  repeat' (first
    | with_reducible exact Frame.refl _ _
    | (with_reducible apply State.err_frame (le := ?le); case le => decide)
    | (with_reducible apply State.raise_frame (le := ?le); case le => decide))

theorem State.dramMoves_frame (s : State) {w : Nat} {s₀ : State} (h : Frame w s₀ s) (le : 36028797023158400 ||| w = w) :
    Frame w s₀ (State.dramMoves s) := by
  refine h.step ?_ le
  unfold State.dramMoves
  try dsimp -proj only
  repeat' (first
    | with_reducible exact Frame.refl _ _
    | with_reducible apply Frame.ite
    | with_reducible apply Frame.forN
    | intro _ _
    | (with_reducible apply State.addSat_frame (le := ?le); case le => decide)
    | (with_reducible apply State.modDch_frame (le := ?le); case le => decide)
    | (with_reducible apply State.raise_frame (le := ?le); case le => decide))

theorem State.issueWrites_frame (s : State) (x0) {w : Nat} {s₀ : State} (h : Frame w s₀ s) (le : 4194304 ||| w = w) :
    Frame w s₀ (State.issueWrites s x0) := by
  refine h.step ?_ le
  unfold State.issueWrites
  try dsimp -proj only
  repeat' (first
    | with_reducible exact Frame.refl _ _
    | with_reducible apply Frame.foldl
    | intro _ _
    | (with_reducible apply State.crcUse_frame (le := ?le); case le => decide)
    | (with_reducible apply State.modDch_frame (le := ?le); case le => decide))

theorem State.dramSleep_frame (s : State) {w : Nat} {s₀ : State} (h : Frame w s₀ s) (le : 21037184 ||| w = w) :
    Frame w s₀ (State.dramSleep s) := by
  refine h.step ?_ le
  unfold State.dramSleep
  try dsimp -proj only
  repeat' (first
    | with_reducible exact Frame.refl _ _
    | with_reducible apply Frame.ite
    | with_reducible apply Frame.forN
    | intro _ _
    | (with_reducible apply State.dropReads_frame (le := ?le); case le => decide)
    | (with_reducible apply State.issueWrites_frame (le := ?le); case le => decide)
    | (with_reducible apply State.modDch_frame (le := ?le); case le => decide)
    | (with_reducible apply State.setFld_frame (le := ?le); case le => decide))

theorem State.dramWake_frame (s : State) {w : Nat} {s₀ : State} (h : Frame w s₀ s) (le : 4194432 ||| w = w) :
    Frame w s₀ (State.dramWake s) := by
  refine h.step ?_ le
  unfold State.dramWake
  try dsimp -proj only
  repeat' (first
    | with_reducible exact Frame.refl _ _
    | with_reducible apply Frame.forN
    | intro _ _
    | (with_reducible apply State.modDch_frame (le := ?le); case le => decide)
    | (with_reducible apply State.setFld_frame (le := ?le); case le => decide))

theorem State.issueFor_frame (s : State) (x0) (x1) {w : Nat} {s₀ : State} (h : Frame w s₀ s) (le : 4194304 ||| w = w) :
    Frame w s₀ (State.issueFor s x0 x1).1 := by
  refine h.step ?_ le
  unfold State.issueFor
  try dsimp -proj only
  repeat' (first
    | with_reducible exact Frame.refl _ _
    | with_reducible apply Frame.ite
    | (with_reducible apply State.modDch_frame (le := ?le); case le => decide)
    | split
    | with_reducible apply Frame.fst_ite
    | with_reducible apply Frame.pair)

theorem State.noteLatency_frame (s : State) (x0) (x1) {w : Nat} {s₀ : State} (h : Frame w s₀ s) (le : 128 ||| w = w) :
    Frame w s₀ (State.noteLatency s x0 x1) := by
  refine h.step ?_ le
  unfold State.noteLatency
  try dsimp -proj only
  repeat' (first
    | with_reducible exact Frame.refl _ _
    | with_reducible apply Frame.ite
    | (with_reducible apply State.setFld_frame (le := ?le); case le => decide))

theorem State.nvStoreGo_frame (s : State) {w : Nat} {s₀ : State} (h : Frame w s₀ s) (le : 72057594071482496 ||| w = w) :
    Frame w s₀ (State.nvStoreGo s) := by
  refine h.step ?_ le
  unfold State.nvStoreGo
  try dsimp -proj only
  repeat' (first
    | with_reducible exact Frame.refl _ _
    | with_reducible apply Frame.ite
    | (with_reducible apply State.err_frame (le := ?le); case le => decide)
    | (with_reducible apply State.setBit_frame (le := ?le); case le => decide)
    | (with_reducible apply Frame.upd_dramNvm (le := ?le); case le => decide))

theorem State.readDone_frame (s : State) (x0) (x1) (x2) {w : Nat} {s₀ : State} (h : Frame w s₀ s) (le : 108156761950060672 ||| w = w) :
    Frame w s₀ (State.readDone s x0 x1 x2) := by
  refine h.step ?_ le
  unfold State.readDone
  try dsimp -proj only
  repeat' (first
    | with_reducible exact Frame.refl _ _
    | (with_reducible apply State.deliverRead_frame (le := ?le); case le => decide)
    | (with_reducible apply State.noteLatency_frame (le := ?le); case le => decide))

theorem State.readFails_frame (s : State) (x0) (x1) {w : Nat} {s₀ : State} (h : Frame w s₀ s) (le : 72057594042122368 ||| w = w) :
    Frame w s₀ (State.readFails s x0 x1) := by
  refine h.step ?_ le
  unfold State.readFails
  try dsimp -proj only
  repeat' (first
    | with_reducible exact Frame.refl _ _
    | (with_reducible apply State.err_frame (le := ?le); case le => decide)
    | (with_reducible apply State.inc_frame (le := ?le); case le => decide)
    | (with_reducible apply State.modDch_frame (le := ?le); case le => decide))

theorem State.regionWrite_frame (s : State) (x0) (x1) {w : Nat} {s₀ : State} (h : Frame w s₀ s) (le : 72057594037928064 ||| w = w) :
    Frame w s₀ (State.regionWrite s x0 x1) := by
  refine h.step ?_ le
  unfold State.regionWrite
  try dsimp -proj only
  repeat' (first
    | with_reducible exact Frame.refl _ _
    | with_reducible apply Frame.ite
    | (with_reducible apply State.err_frame (le := ?le); case le => decide)
    | (with_reducible apply State.setReg_frame (le := ?le); case le => decide))

theorem State.unfreezeGo_frame (s : State) {w : Nat} {s₀ : State} (h : Frame w s₀ s) (le : 72057594105036928 ||| w = w) :
    Frame w s₀ (State.unfreezeGo s) := by
  refine h.step ?_ le
  unfold State.unfreezeGo
  try dsimp -proj only
  repeat' (first
    | with_reducible exact Frame.refl _ _
    | with_reducible apply Frame.ite
    | (with_reducible apply State.err_frame (le := ?le); case le => decide)
    | (with_reducible apply Frame.upd_unfreezing (le := ?le); case le => decide))

theorem execDramCommandIssue_frame (x0) (x1) (s : State) :
    OutFrame 108086391817568384 s (execDramCommandIssue x0 x1 s) := by
  unfold execDramCommandIssue
  try dsimp -proj only
  repeat' (first
    | (with_reducible apply OutFrame.finish (le := ?le); case le => decide)
    | with_reducible exact OutFrame.same
    | with_reducible apply OutFrame.next
    | with_reducible apply OutFrame.ite
    | with_reducible exact Frame.refl _ _
    | with_reducible apply Frame.ite
    | (with_reducible apply State.crcUse_frame (le := ?le); case le => decide)
    | (with_reducible apply State.freeze_frame (le := ?le); case le => decide)
    | (with_reducible apply State.issueFor_frame (le := ?le); case le => decide)
    | (with_reducible apply State.modDch_frame (le := ?le); case le => decide)
    | split)

theorem execDramReadComplete_frame (x0) (x1) (x2) (s : State) :
    OutFrame 108156762709229696 s (execDramReadComplete x0 x1 x2 s) := by
  unfold execDramReadComplete
  try dsimp -proj only
  repeat' (first
    | (with_reducible apply OutFrame.finish (le := ?le); case le => decide)
    | with_reducible exact OutFrame.same
    | with_reducible apply OutFrame.next
    | with_reducible apply OutFrame.ite
    | with_reducible exact Frame.refl _ _
    | with_reducible apply Frame.ite
    | (with_reducible apply State.crcUse_frame (le := ?le); case le => decide)
    | (with_reducible apply State.freeze_frame (le := ?le); case le => decide)
    | (with_reducible apply State.modDch_frame (le := ?le); case le => decide)
    | (with_reducible apply State.readDone_frame (le := ?le); case le => decide)
    | (with_reducible apply State.readFails_frame (le := ?le); case le => decide)
    | split)

theorem execDramRereadComplete_frame (x0) (x1) (s : State) :
    OutFrame 108156762709229696 s (execDramRereadComplete x0 x1 s) := by
  unfold execDramRereadComplete
  try dsimp -proj only
  repeat' (first
    | (with_reducible apply OutFrame.finish (le := ?le); case le => decide)
    | with_reducible exact OutFrame.same
    | with_reducible apply OutFrame.next
    | with_reducible apply OutFrame.ite
    | with_reducible exact Frame.refl _ _
    | with_reducible apply Frame.ite
    | (with_reducible apply State.freeze_frame (le := ?le); case le => decide)
    | (with_reducible apply State.inc_frame (le := ?le); case le => decide)
    | (with_reducible apply State.modDch_frame (le := ?le); case le => decide)
    | (with_reducible apply State.raise_frame (le := ?le); case le => decide)
    | (with_reducible apply State.readDone_frame (le := ?le); case le => decide)
    | split)

theorem execMr4OscRead_frame (x0) (x1) (x2) (x3) (x4) (x5) (s : State) :
    OutFrame 108086391817568384 s (execMr4OscRead x0 x1 x2 x3 x4 x5 s) := by
  unfold execMr4OscRead
  try dsimp -proj only
  repeat' (first
    | (with_reducible apply OutFrame.finish (le := ?le); case le => decide)
    | with_reducible exact OutFrame.same
    | with_reducible apply OutFrame.next
    | with_reducible apply OutFrame.ite
    | with_reducible exact Frame.refl _ _
    | with_reducible apply Frame.ite
    | (with_reducible apply State.checked_frame (le := ?le); case le => decide)
    | (with_reducible apply State.modDch_frame (le := ?le); case le => decide)
    | (with_reducible apply State.raise_frame (le := ?le); case le => decide)
    | (with_reducible apply State.setFld_frame (le := ?le); case le => decide)
    | (with_reducible apply State.setStat_frame (le := ?le); case le => decide)
    | split)

theorem execNvStoreComplete_frame (s : State) :
    OutFrame 108086391762976896 s (execNvStoreComplete s) := by
  unfold execNvStoreComplete
  try dsimp -proj only
  repeat' (first
    | (with_reducible apply OutFrame.finish (le := ?le); case le => decide)
    | with_reducible exact OutFrame.same
    | with_reducible apply OutFrame.next
    | with_reducible exact Frame.refl _ _
    | (with_reducible apply State.setBit_frame (le := ?le); case le => decide)
    | split
    | (with_reducible apply Frame.upd_dramNvm (le := ?le); case le => decide))

theorem execRefresh_frame (x0) (x1) (x2) (x3) (s : State) :
    OutFrame 108086391817568384 s (execRefresh x0 x1 x2 x3 s) := by
  unfold execRefresh
  try dsimp -proj only
  repeat' (first
    | (with_reducible apply OutFrame.finish (le := ?le); case le => decide)
    | with_reducible exact OutFrame.same
    | with_reducible apply OutFrame.next
    | with_reducible apply OutFrame.ite
    | with_reducible exact Frame.refl _ _
    | with_reducible apply Frame.ite
    | (with_reducible apply State.checked_frame (le := ?le); case le => decide)
    | (with_reducible apply State.modDch_frame (le := ?le); case le => decide)
    | (with_reducible apply State.setFld_frame (le := ?le); case le => decide))

theorem execUnfreezeComplete_frame (x0) (s : State) :
    OutFrame 108086391828611200 s (execUnfreezeComplete x0 s) := by
  unfold execUnfreezeComplete
  try dsimp -proj only
  repeat' (first
    | (with_reducible apply OutFrame.finish (le := ?le); case le => decide)
    | with_reducible exact OutFrame.same
    | with_reducible apply OutFrame.next
    | with_reducible apply OutFrame.ite
    | with_reducible exact Frame.refl _ _
    | with_reducible apply Frame.ite
    | with_reducible apply Frame.foldl
    | with_reducible apply Frame.forN
    | intro _ _
    | (with_reducible apply State.bellOut_frame (le := ?le); case le => decide)
    | (with_reducible apply State.dramFails_frame (le := ?le); case le => decide)
    | (with_reducible apply State.inc_frame (le := ?le); case le => decide)
    | (with_reducible apply State.issueWrites_frame (le := ?le); case le => decide)
    | (with_reducible apply State.modDch_frame (le := ?le); case le => decide)
    | (with_reducible apply State.raise_frame (le := ?le); case le => decide)
    | (with_reducible apply State.serveWaits_frame (le := ?le); case le => decide)
    | (with_reducible apply State.setBit_frame (le := ?le); case le => decide)
    | split
    | (with_reducible apply Frame.upd_doorbells (le := ?le); case le => decide)
    | (with_reducible apply Frame.upd_unfreezing (le := ?le); case le => decide))

end Sys2Proof.Machine
end

