-- ==== Sys2Proof/Laws/FramesCalibration.lean ====
section
/-!
SUPPORT. The field frames of the operations of Machine/Calibration.lean: the fields of the state that each may change.
-/
namespace Sys2Proof.Machine

theorem State.calShow_frame (s : State) (x0) (x1) (x2) {w : Nat} {s₀ : State} (h : Frame w s₀ s) (le : 36028809903865984 ||| w = w) :
    Frame w s₀ (State.calShow s x0 x1 x2) := by
  refine h.step ?_ le
  unfold State.calShow
  try dsimp -proj only
  repeat' (first
    | with_reducible exact Frame.refl _ _
    | (with_reducible apply State.adcHold_frame (le := ?le); case le => decide)
    | (with_reducible apply State.outPhase_frame (le := ?le); case le => decide)
    | split)

theorem State.modCal_frame (s : State) (x0) {w : Nat} {s₀ : State} (h : Frame w s₀ s) (le : 9007199254740992 ||| w = w) :
    Frame w s₀ (State.modCal s x0) := by
  refine h.step ?_ le
  unfold State.modCal
  try dsimp -proj only
  repeat' (first
    | with_reducible exact Frame.refl _ _
    | (with_reducible apply Frame.upd_cal (le := ?le); case le => decide))

theorem State.calOver_frame (s : State) {w : Nat} {s₀ : State} (h : Frame w s₀ s) (le : 45036009158606976 ||| w = w) :
    Frame w s₀ (State.calOver s) := by
  refine h.step ?_ le
  unfold State.calOver
  try dsimp -proj only
  repeat' (first
    | with_reducible exact Frame.refl _ _
    | with_reducible apply Frame.ite
    | (with_reducible apply State.calShow_frame (le := ?le); case le => decide)
    | (with_reducible apply State.modCal_frame (le := ?le); case le => decide)
    | (with_reducible apply State.setBit_frame (le := ?le); case le => decide)
    | (with_reducible apply State.setFld_frame (le := ?le); case le => decide)
    | split)

theorem State.calAbandon_frame (s : State) {w : Nat} {s₀ : State} (h : Frame w s₀ s) (le : 45036009158606976 ||| w = w) :
    Frame w s₀ (State.calAbandon s) := by
  refine h.step ?_ le
  unfold State.calAbandon
  try dsimp -proj only
  repeat' (first
    | with_reducible exact Frame.refl _ _
    | with_reducible apply Frame.ite
    | (with_reducible apply State.calOver_frame (le := ?le); case le => decide)
    | (with_reducible apply State.inc_frame (le := ?le); case le => decide)
    | (with_reducible apply State.raise_frame (le := ?le); case le => decide))

theorem State.calAbort_frame (s : State) {w : Nat} {s₀ : State} (h : Frame w s₀ s) (le : 45036009158606976 ||| w = w) :
    Frame w s₀ (State.calAbort s) := by
  refine h.step ?_ le
  unfold State.calAbort
  try dsimp -proj only
  repeat' (first
    | with_reducible exact Frame.refl _ _
    | (with_reducible apply State.calAbandon_frame (le := ?le); case le => decide))

theorem State.calDrop_frame (s : State) {w : Nat} {s₀ : State} (h : Frame w s₀ s) (le : 45036009158606976 ||| w = w) :
    Frame w s₀ (State.calDrop s) := by
  refine h.step ?_ le
  unfold State.calDrop
  try dsimp -proj only
  repeat' (first
    | with_reducible exact Frame.refl _ _
    | with_reducible apply Frame.ite
    | (with_reducible apply State.calAbandon_frame (le := ?le); case le => decide)
    | (with_reducible apply State.modCal_frame (le := ?le); case le => decide)
    | split)

theorem State.calGo_frame (s : State) {w : Nat} {s₀ : State} (h : Frame w s₀ s) (le : 81064793292669056 ||| w = w) :
    Frame w s₀ (State.calGo s) := by
  refine h.step ?_ le
  unfold State.calGo
  try dsimp -proj only
  repeat' (first
    | with_reducible exact Frame.refl _ _
    | with_reducible apply Frame.ite
    | (with_reducible apply State.err_frame (le := ?le); case le => decide)
    | (with_reducible apply State.modCal_frame (le := ?le); case le => decide)
    | (with_reducible apply State.setBit_frame (le := ?le); case le => decide)
    | (with_reducible apply State.setFld_frame (le := ?le); case le => decide)
    | split)

theorem State.ripeIf_frame (s : State) (x0) (x1) {w : Nat} {s₀ : State} (h : Frame w s₀ s) (le : 36028797018964096 ||| w = w) :
    Frame w s₀ (State.ripeIf s x0 x1) := by
  refine h.step ?_ le
  unfold State.ripeIf
  try dsimp -proj only
  repeat' (first
    | with_reducible exact Frame.refl _ _
    | with_reducible apply Frame.ite
    | (with_reducible apply State.raise_frame (le := ?le); case le => decide))

theorem State.setTrim_frame (s : State) (x0) (x1) (x2) {w : Nat} {s₀ : State} (h : Frame w s₀ s) (le : 9007199254740992 ||| w = w) :
    Frame w s₀ (State.setTrim s x0 x1 x2) := by
  refine h.step ?_ le
  unfold State.setTrim
  try dsimp -proj only
  repeat' (first
    | with_reducible exact Frame.refl _ _
    | (with_reducible apply State.modCal_frame (le := ?le); case le => decide))

theorem State.calRestore_frame (s : State) {w : Nat} {s₀ : State} (h : Frame w s₀ s) (le : 45035996273705088 ||| w = w) :
    Frame w s₀ (State.calRestore s) := by
  refine h.step ?_ le
  unfold State.calRestore
  try dsimp -proj only
  repeat' (first
    | with_reducible exact Frame.refl _ _
    | with_reducible apply Frame.ite
    | with_reducible apply Frame.forN
    | intro _ _
    | (with_reducible apply State.ripeIf_frame (le := ?le); case le => decide)
    | (with_reducible apply State.setTrim_frame (le := ?le); case le => decide))

theorem State.calStale_frame (s : State) (x0) (x1) {w : Nat} {s₀ : State} (h : Frame w s₀ s) (le : 35184372089856 ||| w = w) :
    Frame w s₀ (State.calStale s x0 x1) := by
  refine h.step ?_ le
  unfold State.calStale
  try dsimp -proj only
  repeat' (first
    | with_reducible exact Frame.refl _ _
    | with_reducible apply Frame.foldl
    | intro _ _
    | (with_reducible apply State.acqStale_frame (le := ?le); case le => decide)
    | (with_reducible apply State.charge_frame (le := ?le); case le => decide)
    | split)

theorem State.calStore_frame (s : State) {w : Nat} {s₀ : State} (h : Frame w s₀ s) (le : 81064793292669056 ||| w = w) :
    Frame w s₀ (State.calStore s) := by
  refine h.step ?_ le
  unfold State.calStore
  try dsimp -proj only
  repeat' (first
    | with_reducible exact Frame.refl _ _
    | with_reducible apply Frame.ite
    | (with_reducible apply State.err_frame (le := ?le); case le => decide)
    | (with_reducible apply State.modCal_frame (le := ?le); case le => decide))

theorem State.ripenOne_frame (s : State) (x0) {w : Nat} {s₀ : State} (h : Frame w s₀ s) (le : 45035996273705088 ||| w = w) :
    Frame w s₀ (State.ripenOne s x0) := by
  refine h.step ?_ le
  unfold State.ripenOne
  try dsimp -proj only
  repeat' (first
    | with_reducible exact Frame.refl _ _
    | with_reducible apply Frame.ite
    | (with_reducible apply State.ripeIf_frame (le := ?le); case le => decide)
    | (with_reducible apply State.setTrim_frame (le := ?le); case le => decide))

theorem State.takeTrim_frame (s : State) (x0) (x1) (x2) (x3) {w : Nat} {s₀ : State} (h : Frame w s₀ s) (le : 117093590311633024 ||| w = w) :
    Frame w s₀ (State.takeTrim s x0 x1 x2 x3) := by
  refine h.step ?_ le
  unfold State.takeTrim
  try dsimp -proj only
  repeat' (first
    | with_reducible exact Frame.refl _ _
    | with_reducible apply Frame.ite
    | (with_reducible apply State.err_frame (le := ?le); case le => decide)
    | (with_reducible apply State.raise_frame (le := ?le); case le => decide)
    | (with_reducible apply State.setFld_frame (le := ?le); case le => decide)
    | (with_reducible apply State.setTrim_frame (le := ?le); case le => decide))

theorem State.takeTrims_frame (s : State) (x0) (x1) (x2) {w : Nat} {s₀ : State} (h : Frame w s₀ s) (le : 117163959055810688 ||| w = w) :
    Frame w s₀ (State.takeTrims s x0 x1 x2) := by
  refine h.step ?_ le
  unfold State.takeTrims
  try dsimp -proj only
  repeat' (first
    | with_reducible exact Frame.refl _ _
    | with_reducible apply Frame.ite
    | with_reducible apply Frame.foldl
    | intro _ _
    | (with_reducible apply State.modFlux_frame (le := ?le); case le => decide)
    | (with_reducible apply State.takeTrim_frame (le := ?le); case le => decide))

theorem State.trimGet_frame (s : State) {w : Nat} {s₀ : State} (h : Frame w s₀ s) (le : 144115188075856000 ||| w = w) :
    Frame w s₀ (State.trimGet s) := by
  refine h.step ?_ le
  unfold State.trimGet
  try dsimp -proj only
  repeat' (first
    | with_reducible exact Frame.refl _ _
    | with_reducible apply Frame.ite
    | (with_reducible apply State.respond_frame (le := ?le); case le => decide)
    | (with_reducible apply State.setFld_frame (le := ?le); case le => decide))

theorem State.trimsLoad_frame (s : State) (x0) {w : Nat} {s₀ : State} (h : Frame w s₀ s) (le : 45035996273705088 ||| w = w) :
    Frame w s₀ (State.trimsLoad s x0) := by
  refine h.step ?_ le
  unfold State.trimsLoad
  try dsimp -proj only
  repeat' (first
    | with_reducible exact Frame.refl _ _
    | with_reducible apply Frame.ite
    | with_reducible apply Frame.foldl
    | intro _ _
    | (with_reducible apply State.modCal_frame (le := ?le); case le => decide)
    | (with_reducible apply State.raise_frame (le := ?le); case le => decide)
    | (with_reducible apply State.setTrim_frame (le := ?le); case le => decide))

theorem execCalAbandon_frame (s : State) :
    OutFrame 117093603869065344 s (execCalAbandon s) := by
  unfold execCalAbandon
  try dsimp -proj only
  repeat' (first
    | (with_reducible apply OutFrame.finish (le := ?le); case le => decide)
    | with_reducible exact Frame.refl _ _
    | (with_reducible apply State.calDrop_frame (le := ?le); case le => decide))

theorem execCalBgPass_frame (x0) (x1) (x2) (s : State) :
    OutFrame 117163972613243008 s (execCalBgPass x0 x1 x2 s) := by
  unfold execCalBgPass
  try dsimp -proj only
  repeat' (first
    | (with_reducible apply OutFrame.finish (le := ?le); case le => decide)
    | with_reducible exact OutFrame.same
    | with_reducible apply OutFrame.next
    | with_reducible apply OutFrame.ite
    | with_reducible exact Frame.refl _ _
    | with_reducible apply Frame.ite
    | (with_reducible apply State.calDrop_frame (le := ?le); case le => decide)
    | (with_reducible apply State.fluxFaultSeq_frame (le := ?le); case le => decide)
    | (with_reducible apply State.modFlux_frame (le := ?le); case le => decide)
    | (with_reducible apply State.raise_frame (le := ?le); case le => decide)
    | (with_reducible apply State.ripeIf_frame (le := ?le); case le => decide)
    | (with_reducible apply State.takeTrims_frame (le := ?le); case le => decide))

theorem execCalHoldStart_frame (s : State) :
    OutFrame 117128788241155200 s (execCalHoldStart s) := by
  unfold execCalHoldStart
  try dsimp -proj only
  repeat' (first
    | (with_reducible apply OutFrame.finish (le := ?le); case le => decide)
    | with_reducible exact OutFrame.same
    | with_reducible apply OutFrame.next
    | with_reducible apply OutFrame.ite
    | with_reducible exact Frame.refl _ _
    | with_reducible apply Frame.ite
    | (with_reducible apply State.calShow_frame (le := ?le); case le => decide)
    | (with_reducible apply State.calStale_frame (le := ?le); case le => decide)
    | (with_reducible apply State.modCal_frame (le := ?le); case le => decide)
    | (with_reducible apply State.setFld_frame (le := ?le); case le => decide)
    | split)

theorem execCalRelease_frame (x0) (s : State) :
    OutFrame 117163972613243008 s (execCalRelease x0 s) := by
  unfold execCalRelease
  try dsimp -proj only
  repeat' (first
    | (with_reducible apply OutFrame.finish (le := ?le); case le => decide)
    | with_reducible exact OutFrame.same
    | with_reducible apply OutFrame.next
    | with_reducible apply OutFrame.ite
    | with_reducible exact Frame.refl _ _
    | with_reducible apply Frame.ite
    | with_reducible apply Frame.forN
    | intro _ _
    | (with_reducible apply State.calDrop_frame (le := ?le); case le => decide)
    | (with_reducible apply State.calOver_frame (le := ?le); case le => decide)
    | (with_reducible apply State.raise_frame (le := ?le); case le => decide)
    | (with_reducible apply State.ripeIf_frame (le := ?le); case le => decide)
    | (with_reducible apply State.setTrim_frame (le := ?le); case le => decide)
    | (with_reducible apply State.takeTrims_frame (le := ?le); case le => decide)
    | split)

theorem execCalStoreComplete_frame (s : State) :
    OutFrame 117093590984163456 s (execCalStoreComplete s) := by
  unfold execCalStoreComplete
  try dsimp -proj only
  repeat' (first
    | (with_reducible apply OutFrame.finish (le := ?le); case le => decide)
    | with_reducible exact OutFrame.same
    | with_reducible apply OutFrame.next
    | with_reducible exact Frame.refl _ _
    | (with_reducible apply State.modCal_frame (le := ?le); case le => decide)
    | (with_reducible apply State.raise_frame (le := ?le); case le => decide)
    | split)

theorem execRipenBoundary_frame (s : State) :
    OutFrame 117093590984163456 s (execRipenBoundary s) := by
  unfold execRipenBoundary
  try dsimp -proj only
  repeat' (first
    | (with_reducible apply OutFrame.finish (le := ?le); case le => decide)
    | with_reducible exact OutFrame.same
    | with_reducible apply OutFrame.next
    | with_reducible apply OutFrame.ite
    | with_reducible exact Frame.refl _ _
    | with_reducible apply Frame.ite
    | with_reducible apply Frame.foldl
    | intro _ _
    | (with_reducible apply State.modCal_frame (le := ?le); case le => decide)
    | (with_reducible apply State.ripenOne_frame (le := ?le); case le => decide))

end Sys2Proof.Machine
end

