-- ==== Sys2Proof/Laws/FramesTimeline.lean ====
section
/-!
SUPPORT. The field frames of the operations of Machine/Timeline.lean: the fields of the state that each may change.
-/
namespace Sys2Proof.Machine

theorem State.armSync_frame (s : State) {w : Nat} {s₀ : State} (h : Frame w s₀ s) (le : 72057594037928064 ||| w = w) :
    Frame w s₀ (State.armSync s) := by
  refine h.step ?_ le
  unfold State.armSync
  try dsimp -proj only
  repeat' (first
    | with_reducible exact Frame.refl _ _
    | with_reducible apply Frame.ite
    | (with_reducible apply State.err_frame (le := ?le); case le => decide)
    | (with_reducible apply State.setBit_frame (le := ?le); case le => decide))

theorem State.budgetReload_frame (s : State) {w : Nat} {s₀ : State} (h : Frame w s₀ s) (le : 33024 ||| w = w) :
    Frame w s₀ (State.budgetReload s) := by
  refine h.step ?_ le
  unfold State.budgetReload
  try dsimp -proj only
  repeat' (first
    | with_reducible exact Frame.refl _ _
    | (with_reducible apply Frame.upd_limits_used (le := ?le); case le => decide))

theorem State.leaveLanes_frame (s : State) {w : Nat} {s₀ : State} (h : Frame w s₀ s) (le : 36028934457917568 ||| w = w) :
    Frame w s₀ (State.leaveLanes s) := by
  refine h.step ?_ le
  unfold State.leaveLanes
  try dsimp -proj only
  repeat' (first
    | with_reducible exact Frame.refl _ _
    | with_reducible apply Frame.ite
    | with_reducible apply Frame.forN
    | intro _ _
    | (with_reducible apply State.laneKill_frame (le := ?le); case le => decide))

theorem State.leaveRunning_frame (s : State) {w : Nat} {s₀ : State} (h : Frame w s₀ s) (le : 108204333030016128 ||| w = w) :
    Frame w s₀ (State.leaveRunning s) := by
  refine h.step ?_ le
  unfold State.leaveRunning
  try dsimp -proj only
  repeat' (first
    | with_reducible exact Frame.refl _ _
    | with_reducible apply Frame.ite
    | with_reducible apply Frame.foldl
    | intro _ _
    | (with_reducible apply State.killStarted_frame (le := ?le); case le => decide)
    | (with_reducible apply State.seqKillReq_frame (le := ?le); case le => decide)
    | (with_reducible apply State.synKill_frame (le := ?le); case le => decide))

theorem State.modTherm_frame (s : State) (f) {w : Nat} {s₀ : State} (h : Frame w s₀ s)
    (le : 1125899906842624 ||| w = w) (keep : ∀ x : ThermSt, Memory.wf x.ring = true → Memory.wf (f x).ring = true) :
    Frame w s₀ (State.modTherm s f) :=
  Frame.upd_therm s _ h le fun c => ⟨c.1, c.2.1, c.2.2.1, keep _ c.2.2.2⟩

theorem State.modPll_frame (s : State) (x0) (x1) {w : Nat} {s₀ : State} (h : Frame w s₀ s) (le : 1125899906842624 ||| w = w) :
    Frame w s₀ (State.modPll s x0 x1) := by
  refine h.step ?_ le
  unfold State.modPll
  try dsimp -proj only
  repeat' (first
    | with_reducible exact Frame.refl _ _
    | ((with_reducible apply State.modTherm_frame (le := by decide)); swap; first | exact fun _ h => h | exact fun _ h => Memory.wf_wrBytes _ _ h))

theorem State.modPower_frame (s : State) (x0) {w : Nat} {s₀ : State} (h : Frame w s₀ s) (le : 562949953421312 ||| w = w) :
    Frame w s₀ (State.modPower s x0) := by
  refine h.step ?_ le
  unfold State.modPower
  try dsimp -proj only
  repeat' (first
    | with_reducible exact Frame.refl _ _
    | (with_reducible apply Frame.upd_power (le := ?le); case le => decide))

theorem State.pllLocks_frame (s : State) (x0) {w : Nat} {s₀ : State} (h : Frame w s₀ s) (le : 1125899906842624 ||| w = w) :
    Frame w s₀ (State.pllLocks s x0) := by
  refine h.step ?_ le
  unfold State.pllLocks
  try dsimp -proj only
  repeat' (first
    | with_reducible exact Frame.refl _ _
    | with_reducible apply Frame.ite
    | (with_reducible apply State.modPll_frame (le := ?le); case le => decide))

theorem State.setLock_frame (s : State) (x0) (x1) {w : Nat} {s₀ : State} (h : Frame w s₀ s) (le : 128 ||| w = w) :
    Frame w s₀ (State.setLock s x0 x1) := by
  refine h.step ?_ le
  unfold State.setLock
  try dsimp -proj only
  repeat' (first
    | with_reducible exact Frame.refl _ _
    | with_reducible apply Frame.ite
    | (with_reducible apply State.setBit_frame (le := ?le); case le => decide)
    | (with_reducible apply State.setFld_frame (le := ?le); case le => decide))

theorem State.tileOff_frame (s : State) (x0) {w : Nat} {s₀ : State} (h : Frame w s₀ s) (le : 36028809903865984 ||| w = w) :
    Frame w s₀ (State.tileOff s x0) := by
  refine h.step ?_ le
  unfold State.tileOff
  try dsimp -proj only
  repeat' (first
    | with_reducible exact Frame.refl _ _
    | with_reducible apply Frame.foldl
    | intro _ _
    | (with_reducible apply State.adcCells_frame (le := ?le); case le => decide)
    | (with_reducible apply State.outCells_frame (le := ?le); case le => decide)
    | (with_reducible apply State.setBit_frame (le := ?le); case le => decide)
    | (with_reducible apply State.setLock_frame (le := ?le); case le => decide))

theorem State.tilesDown_frame (s : State) {w : Nat} {s₀ : State} (h : Frame w s₀ s) (le : 36028809903866496 ||| w = w) :
    Frame w s₀ (State.tilesDown s) := by
  refine h.step ?_ le
  unfold State.tilesDown
  try dsimp -proj only
  repeat' (first
    | with_reducible exact Frame.refl _ _
    | with_reducible apply Frame.forN
    | intro _ _
    | (with_reducible apply State.modTile_frame (le := ?le); case le => decide)
    | (with_reducible apply State.tileOff_frame (le := ?le); case le => decide))

theorem State.powerDown_frame (s : State) {w : Nat} {s₀ : State} (h : Frame w s₀ s) (le : 108204483353872000 ||| w = w) :
    Frame w s₀ (State.powerDown s) := by
  refine h.step ?_ le
  unfold State.powerDown
  try dsimp -proj only
  repeat' (first
    | with_reducible exact Frame.refl _ _
    | with_reducible apply Frame.ite
    | (with_reducible apply State.leaveLanes_frame (le := ?le); case le => decide)
    | (with_reducible apply State.leaveRunning_frame (le := ?le); case le => decide)
    | (with_reducible apply State.tilesDown_frame (le := ?le); case le => decide))

theorem State.setDev_frame (s : State) (x0) {w : Nat} {s₀ : State} (h : Frame w s₀ s) (le : 36028797018964096 ||| w = w) :
    Frame w s₀ (State.setDev s x0) := by
  refine h.step ?_ le
  unfold State.setDev
  try dsimp -proj only
  repeat' (first
    | with_reducible exact Frame.refl _ _
    | (with_reducible apply State.raise_frame (le := ?le); case le => decide)
    | (with_reducible apply State.setFld_frame (le := ?le); case le => decide))

theorem State.snapGo_frame (s : State) {w : Nat} {s₀ : State} (h : Frame w s₀ s) (le : 128 ||| w = w) :
    Frame w s₀ (State.snapGo s) := by
  refine h.step ?_ le
  unfold State.snapGo
  try dsimp -proj only
  repeat' (first
    | with_reducible exact Frame.refl _ _
    | (with_reducible apply State.setFld_frame (le := ?le); case le => decide)
    | (with_reducible apply State.setFld64_frame (le := ?le); case le => decide))

theorem State.tileCond_frame (s : State) (x0) {w : Nat} {s₀ : State} (h : Frame w s₀ s) (le : 36028797018965632 ||| w = w) :
    Frame w s₀ (State.tileCond s x0) := by
  refine h.step ?_ le
  unfold State.tileCond
  try dsimp -proj only
  repeat' (first
    | with_reducible exact Frame.refl _ _
    | with_reducible apply Frame.ite
    | (with_reducible apply State.modTile_frame (le := ?le); case le => decide)
    | (with_reducible apply State.raise_frame (le := ?le); case le => decide)
    | (with_reducible apply State.setBit_frame (le := ?le); case le => decide)
    | (with_reducible apply State.setStat_frame (le := ?le); case le => decide)
    | (with_reducible apply State.shotsSkew_frame (le := ?le); case le => decide))

theorem State.tilesUp_frame (s : State) {w : Nat} {s₀ : State} (h : Frame w s₀ s) (le : 512 ||| w = w) :
    Frame w s₀ (State.tilesUp s) := by
  refine h.step ?_ le
  unfold State.tilesUp
  try dsimp -proj only
  repeat' (first
    | with_reducible exact Frame.refl _ _
    | with_reducible apply Frame.forN
    | intro _ _
    | (with_reducible apply State.modTile_frame (le := ?le); case le => decide))

theorem State.tileEnPut_frame (s : State) (x0) {w : Nat} {s₀ : State} (h : Frame w s₀ s) (le : 108086403941794432 ||| w = w) :
    Frame w s₀ (State.tileEnPut s x0) := by
  refine h.step ?_ le
  unfold State.tileEnPut
  try dsimp -proj only
  repeat' (first
    | with_reducible exact Frame.refl _ _
    | with_reducible apply Frame.ite
    | with_reducible apply Frame.forN
    | intro _ _
    | (with_reducible apply State.err_frame (le := ?le); case le => decide)
    | (with_reducible apply State.setFld_frame (le := ?le); case le => decide)
    | (with_reducible apply State.tileOff_frame (le := ?le); case le => decide)
    | (with_reducible apply State.tilesUp_frame (le := ?le); case le => decide))

theorem State.tlNowGet_frame (s : State) {w : Nat} {s₀ : State} (h : Frame w s₀ s) (le : 144115188075856000 ||| w = w) :
    Frame w s₀ (State.tlNowGet s) := by
  refine h.step ?_ le
  unfold State.tlNowGet
  try dsimp -proj only
  repeat' (first
    | with_reducible exact Frame.refl _ _
    | (with_reducible apply State.respond_frame (le := ?le); case le => decide)
    | (with_reducible apply State.setFld_frame (le := ?le); case le => decide))

theorem State.track_frame (s : State) (x0) (x1) {w : Nat} {s₀ : State} (h : Frame w s₀ s) (le : 36028797018965632 ||| w = w) :
    Frame w s₀ (State.track s x0 x1) := by
  refine h.step ?_ le
  unfold State.track
  try dsimp -proj only
  repeat' (first
    | with_reducible exact Frame.refl _ _
    | with_reducible apply Frame.ite
    | (with_reducible apply State.raise_frame (le := ?le); case le => decide)
    | (with_reducible apply State.setFld_frame (le := ?le); case le => decide)
    | (with_reducible apply State.tileCond_frame (le := ?le); case le => decide))

theorem State.wakeGo_frame (s : State) {w : Nat} {s₀ : State} (h : Frame w s₀ s) (le : 562949953421952 ||| w = w) :
    Frame w s₀ (State.wakeGo s) := by
  refine h.step ?_ le
  unfold State.wakeGo
  try dsimp -proj only
  repeat' (first
    | with_reducible exact Frame.refl _ _
    | with_reducible apply Frame.ite
    | with_reducible apply Frame.forN
    | intro _ _
    | (with_reducible apply State.modPower_frame (le := ?le); case le => decide)
    | (with_reducible apply State.setFld_frame (le := ?le); case le => decide)
    | (with_reducible apply State.tilesUp_frame (le := ?le); case le => decide)
    | split)

theorem execFrameBoundary_frame (x0) (x1) (s : State) :
    OutFrame 108649371770783652 s (execFrameBoundary x0 x1 s) := by
  unfold execFrameBoundary
  try dsimp -proj only
  repeat' (first
    | (with_reducible apply OutFrame.finish (le := ?le); case le => decide)
    | with_reducible exact OutFrame.same
    | with_reducible apply OutFrame.next
    | with_reducible apply OutFrame.ite
    | with_reducible exact Frame.refl _ _
    | with_reducible apply Frame.ite
    | with_reducible apply Frame.foldl
    | with_reducible apply Frame.forN
    | intro _ _
    | (with_reducible apply State.adcFrame_frame (le := ?le); case le => decide)
    | (with_reducible apply State.budgetReload_frame (le := ?le); case le => decide)
    | (with_reducible apply State.dramMoves_frame (le := ?le); case le => decide)
    | (with_reducible apply State.modPower_frame (le := ?le); case le => decide)
    | (with_reducible apply State.outFrame_frame (le := ?le); case le => decide)
    | (with_reducible apply State.routFrame_frame (le := ?le); case le => decide)
    | (with_reducible apply State.serveWaits_frame (le := ?le); case le => decide)
    | (with_reducible apply State.setFld_frame (le := ?le); case le => decide)
    | (with_reducible apply State.track_frame (le := ?le); case le => decide)
    | (with_reducible apply Frame.upd_frameAt (le := ?le); case le => decide)
    | (with_reducible apply Frame.upd_latch (le := ?le); case le => decide))

theorem execRefclkLost_frame (s : State) :
    OutFrame 117774633234564754 s (execRefclkLost s) := by
  unfold execRefclkLost
  try dsimp -proj only
  repeat' (first
    | (with_reducible apply OutFrame.finish (le := ?le); case le => decide)
    | with_reducible exact OutFrame.same
    | with_reducible apply OutFrame.next
    | with_reducible apply OutFrame.ite
    | with_reducible exact Frame.refl _ _
    | with_reducible apply Frame.ite
    | with_reducible apply Frame.foldl
    | with_reducible apply Frame.forN
    | intro _ _
    | (with_reducible apply State.acqKill_frame (le := ?le); case le => decide)
    | (with_reducible apply State.adcKill_frame (le := ?le); case le => decide)
    | (with_reducible apply State.fluxKill_frame (le := ?le); case le => decide)
    | (with_reducible apply State.leaveLanes_frame (le := ?le); case le => decide)
    | (with_reducible apply State.leaveRunning_frame (le := ?le); case le => decide)
    | (with_reducible apply State.modFlux_frame (le := ?le); case le => decide)
    | (with_reducible apply State.modPower_frame (le := ?le); case le => decide)
    | (with_reducible apply State.modSeq_frame (le := ?le); case le => decide)
    | (with_reducible apply State.outKill_frame (le := ?le); case le => decide)
    | (with_reducible apply State.raise_frame (le := ?le); case le => decide)
    | (with_reducible apply State.routKill_frame (le := ?le); case le => decide)
    | (with_reducible apply State.setBit_frame (le := ?le); case le => decide)
    | (with_reducible apply State.setDev_frame (le := ?le); case le => decide)
    | (with_reducible apply State.tilesDown_frame (le := ?le); case le => decide)
    | (with_reducible apply State.toneKill_frame (le := ?le); case le => decide)
    | (with_reducible apply Frame.upd_refLost (le := ?le); case le => decide)
    | (with_reducible apply Frame.upd_refLost_loadIn (le := ?le); case le => decide))

theorem execRefclkReturn_frame (s : State) :
    OutFrame 109212291636265090 s (execRefclkReturn s) := by
  unfold execRefclkReturn
  try dsimp -proj only
  repeat' (first
    | (with_reducible apply OutFrame.finish (le := ?le); case le => decide)
    | with_reducible exact OutFrame.same
    | with_reducible apply OutFrame.next
    | with_reducible apply OutFrame.ite
    | with_reducible exact Frame.refl _ _
    | with_reducible apply Frame.ite
    | (with_reducible apply State.pllLocks_frame (le := ?le); case le => decide)
    | (with_reducible apply State.setBit_frame (le := ?le); case le => decide)
    | (with_reducible apply Frame.upd_refLost (le := ?le); case le => decide))

theorem execSyncEdge_frame (x0) (x1) (s : State) :
    OutFrame 108086391729422480 s (execSyncEdge x0 x1 s) := by
  unfold execSyncEdge
  try dsimp -proj only
  repeat' (first
    | (with_reducible apply OutFrame.finish (le := ?le); case le => decide)
    | with_reducible exact OutFrame.same
    | with_reducible apply OutFrame.next
    | with_reducible apply OutFrame.ite
    | with_reducible exact Frame.refl _ _
    | with_reducible apply Frame.ite
    | (with_reducible apply State.raise_frame (le := ?le); case le => decide)
    | (with_reducible apply State.setBit_frame (le := ?le); case le => decide)
    | (with_reducible apply State.setFld_frame (le := ?le); case le => decide)
    | (with_reducible apply Frame.upd_loadIn (le := ?le); case le => decide))

theorem execTileAlignment_frame (x0) (x1) (s : State) :
    OutFrame 109212304521166976 s (execTileAlignment x0 x1 s) := by
  unfold execTileAlignment
  try dsimp -proj only
  repeat' (first
    | (with_reducible apply OutFrame.finish (le := ?le); case le => decide)
    | with_reducible exact OutFrame.same
    | with_reducible apply OutFrame.next
    | with_reducible apply OutFrame.ite
    | with_reducible exact Frame.refl _ _
    | with_reducible apply Frame.ite
    | with_reducible apply Frame.foldl
    | intro _ _
    | (with_reducible apply State.adcEnterReady_frame (le := ?le); case le => decide)
    | (with_reducible apply State.err_frame (le := ?le); case le => decide)
    | (with_reducible apply State.outEnterReady_frame (le := ?le); case le => decide)
    | (with_reducible apply State.pllLocks_frame (le := ?le); case le => decide)
    | (with_reducible apply State.raise_frame (le := ?le); case le => decide)
    | (with_reducible apply State.setBit_frame (le := ?le); case le => decide)
    | (with_reducible apply State.setFld_frame (le := ?le); case le => decide)
    | (with_reducible apply State.setLock_frame (le := ?le); case le => decide))

theorem execTilePllLockLost_frame (x0) (s : State) :
    OutFrame 117199176333689984 s (execTilePllLockLost x0 s) := by
  unfold execTilePllLockLost
  try dsimp -proj only
  repeat' (first
    | (with_reducible apply OutFrame.finish (le := ?le); case le => decide)
    | with_reducible exact OutFrame.same
    | with_reducible apply OutFrame.next
    | with_reducible apply OutFrame.ite
    | with_reducible exact Frame.refl _ _
    | with_reducible apply Frame.ite
    | with_reducible apply Frame.foldl
    | intro _ _
    | (with_reducible apply State.adcKill_frame (le := ?le); case le => decide)
    | (with_reducible apply State.fluxKill_frame (le := ?le); case le => decide)
    | (with_reducible apply State.inc_frame (le := ?le); case le => decide)
    | (with_reducible apply State.modSeq_frame (le := ?le); case le => decide)
    | (with_reducible apply State.outKill_frame (le := ?le); case le => decide)
    | (with_reducible apply State.raise_frame (le := ?le); case le => decide)
    | (with_reducible apply State.tileOff_frame (le := ?le); case le => decide))

theorem execTimelineLoad_frame (s : State) :
    OutFrame 117304697216696477 s (execTimelineLoad s) := by
  unfold execTimelineLoad
  try dsimp -proj only
  repeat' (first
    | (with_reducible apply OutFrame.finish (le := ?le); case le => decide)
    | with_reducible exact OutFrame.same
    | with_reducible apply OutFrame.next
    | with_reducible exact Frame.refl _ _
    | with_reducible apply Frame.foldl
    | intro _ _
    | (with_reducible apply State.modFlux_frame (le := ?le); case le => decide)
    | (with_reducible apply State.raise_frame (le := ?le); case le => decide)
    | (with_reducible apply State.setBit_frame (le := ?le); case le => decide)
    | split
    | (with_reducible apply Frame.upd_count_frameAt_epochAt_loadIn_nt_cal (le := ?le); case le => decide))

end Sys2Proof.Machine
end

