-- ==== Sys2Proof/Laws/FramesEvents.lean ====
section
/-!
SUPPORT. The field frames of the operations of Machine/Events.lean: the fields of the state that each may change.
-/
namespace Sys2Proof.Machine

theorem State.coincide_frame (s : State) (x0) (x1) {w : Nat} {s₀ : State} (h : Frame w s₀ s) (le : 128 ||| w = w) :
    Frame w s₀ (State.coincide s x0 x1) := by
  refine h.step ?_ le
  unfold State.coincide
  try dsimp -proj only
  repeat' (first
    | with_reducible exact Frame.refl _ _
    | with_reducible apply Frame.ite
    | (with_reducible apply State.addSat_frame (le := ?le); case le => decide)
    | (with_reducible apply State.setFld_frame (le := ?le); case le => decide))

theorem State.evConfig_frame (s : State) (x0) (x1) {w : Nat} {s₀ : State} (h : Frame w s₀ s) (le : 72057594037928064 ||| w = w) :
    Frame w s₀ (State.evConfig s x0 x1) := by
  refine h.step ?_ le
  unfold State.evConfig
  try dsimp -proj only
  repeat' (first
    | with_reducible exact Frame.refl _ _
    | with_reducible apply Frame.ite
    | (with_reducible apply State.err_frame (le := ?le); case le => decide)
    | (with_reducible apply State.setFld_frame (le := ?le); case le => decide)
    | (with_reducible apply State.setReg_frame (le := ?le); case le => decide)
    | split)

theorem State.evFire_frame (s : State) (x0) (x1) {w : Nat} {s₀ : State} (h : Frame w s₀ s) (le : 36028797690052736 ||| w = w) :
    Frame w s₀ (State.evFire s x0 x1) := by
  refine h.step ?_ le
  unfold State.evFire
  try dsimp -proj only
  repeat' (first
    | with_reducible exact Frame.refl _ _
    | with_reducible apply Frame.ite
    | with_reducible apply Frame.foldl
    | intro _ _
    | (with_reducible apply State.newWindow_frame (le := ?le); case le => decide)
    | (with_reducible apply State.publish_frame (le := ?le); case le => decide))

theorem State.groupInput_frame (s : State) (x0) (x1) (x2) {w : Nat} {s₀ : State} (h : Frame w s₀ s) (le : 268435584 ||| w = w) :
    Frame w s₀ (State.groupInput s x0 x1 x2) := by
  refine h.step ?_ le
  unfold State.groupInput
  try dsimp -proj only
  repeat' (first
    | with_reducible exact Frame.refl _ _
    | with_reducible apply Frame.ite
    | (with_reducible apply State.inc_frame (le := ?le); case le => decide)
    | (with_reducible apply State.modEvg_frame (le := ?le); case le => decide)
    | (with_reducible apply State.setEnable_frame (le := ?le); case le => decide)
    | (with_reducible apply State.setFld_frame (le := ?le); case le => decide))

theorem State.groupAct_frame (s : State) (x0) {w : Nat} {s₀ : State} (h : Frame w s₀ s) (le : 268435584 ||| w = w) :
    Frame w s₀ (State.groupAct s x0) := by
  refine h.step ?_ le
  unfold State.groupAct
  try dsimp -proj only
  repeat' (first
    | with_reducible exact Frame.refl _ _
    | (with_reducible apply State.groupInput_frame (le := ?le); case le => decide)
    | split)

theorem State.loopEnd_frame (s : State) (x0) {w : Nat} {s₀ : State} (h : Frame w s₀ s) (le : 36028797018964096 ||| w = w) :
    Frame w s₀ (State.loopEnd s x0) := by
  refine h.step ?_ le
  unfold State.loopEnd
  try dsimp -proj only
  repeat' (first
    | with_reducible exact Frame.refl _ _
    | with_reducible apply Frame.ite
    | (with_reducible apply State.raise_frame (le := ?le); case le => decide)
    | (with_reducible apply State.setFld_frame (le := ?le); case le => decide))

theorem State.rtAccess_frame (s : State) (x0) {w : Nat} {s₀ : State} (h : Frame w s₀ s) (le : 252201580206489728 ||| w = w) :
    Frame w s₀ (State.rtAccess s x0) := by
  refine h.step ?_ le
  unfold State.rtAccess
  try dsimp -proj only
  repeat' (first
    | with_reducible exact Frame.refl _ _
    | with_reducible apply Frame.ite
    | (with_reducible apply State.err_frame (le := ?le); case le => decide)
    | (with_reducible apply State.raise_frame (le := ?le); case le => decide)
    | (with_reducible apply State.respond_frame (le := ?le); case le => decide)
    | (with_reducible apply State.setFld_frame (le := ?le); case le => decide)
    | split
    | (with_reducible apply Frame.upd_routes (le := ?le); case le => decide))

theorem execEvchPublish_frame (x0) (s : State) :
    OutFrame 108086391729423488 s (execEvchPublish x0 s) := by
  unfold execEvchPublish
  try dsimp -proj only
  repeat' (first
    | (with_reducible apply OutFrame.finish (le := ?le); case le => decide)
    | with_reducible exact OutFrame.same
    | with_reducible apply OutFrame.next
    | with_reducible apply OutFrame.ite
    | with_reducible exact Frame.refl _ _
    | with_reducible apply Frame.ite
    | with_reducible apply Frame.foldl
    | intro _ _
    | (with_reducible apply State.charge_frame (le := ?le); case le => decide)
    | (with_reducible apply State.coincide_frame (le := ?le); case le => decide)
    | (with_reducible apply State.modEvch_frame (le := ?le); case le => decide)
    | (with_reducible apply State.newWindow_frame (le := ?le); case le => decide)
    | (with_reducible apply State.publish_frame (le := ?le); case le => decide)
    | split)

theorem execFiringComplete_frame (x0) (s : State) :
    OutFrame 108658138044301952 s (execFiringComplete x0 s) := by
  unfold execFiringComplete
  try dsimp -proj only
  repeat' (first
    | (with_reducible apply OutFrame.finish (le := ?le); case le => decide)
    | with_reducible exact OutFrame.same
    | with_reducible apply OutFrame.next
    | with_reducible apply OutFrame.ite
    | with_reducible exact Frame.refl _ _
    | with_reducible apply Frame.ite
    | (with_reducible apply State.exportEv_frame (le := ?le); case le => decide)
    | (with_reducible apply State.groupAct_frame (le := ?le); case le => decide)
    | (with_reducible apply State.loopEnd_frame (le := ?le); case le => decide)
    | (with_reducible apply State.modEvch_frame (le := ?le); case le => decide)
    | (with_reducible apply State.newWindow_frame (le := ?le); case le => decide)
    | (with_reducible apply State.publish_frame (le := ?le); case le => decide)
    | (with_reducible apply State.setFld_frame (le := ?le); case le => decide)
    | (with_reducible apply State.wakeGo_frame (le := ?le); case le => decide))

end Sys2Proof.Machine
end

