-- ==== Sys2Proof/Laws/FramesSensors.lean ====
section
/-!
SUPPORT. The field frames of the operations of Machine/Sensors.lean: the fields of the state that each may change.
-/
namespace Sys2Proof.Machine

theorem State.coefGo_frame (s : State) (x0) {w : Nat} {s₀ : State} (h : Frame w s₀ s) (le : 76561193665298560 ||| w = w) :
    Frame w s₀ (State.coefGo s x0) := by
  refine h.step ?_ le
  unfold State.coefGo
  try dsimp -proj only
  repeat' (first
    | with_reducible exact Frame.refl _ _
    | (with_reducible apply State.err_frame (le := ?le); case le => decide)
    | (with_reducible apply State.modSfe_frame (le := ?le); case le => decide)
    | split)

theorem State.sfeOff_frame (s : State) (x0) {w : Nat} {s₀ : State} (h : Frame w s₀ s) (le : 4503599627370496 ||| w = w) :
    Frame w s₀ (State.sfeOff s x0) := by
  refine h.step ?_ le
  unfold State.sfeOff
  try dsimp -proj only
  repeat' (first
    | with_reducible exact Frame.refl _ _
    | (with_reducible apply State.modSfe_frame (le := ?le); case le => decide))

theorem State.sfeDisable_frame (s : State) (x0) {w : Nat} {s₀ : State} (h : Frame w s₀ s) (le : 4503599627370624 ||| w = w) :
    Frame w s₀ (State.sfeDisable s x0) := by
  refine h.step ?_ le
  unfold State.sfeDisable
  try dsimp -proj only
  repeat' (first
    | with_reducible exact Frame.refl _ _
    | with_reducible apply Frame.ite
    | (with_reducible apply State.setEnable_frame (le := ?le); case le => decide)
    | (with_reducible apply State.sfeOff_frame (le := ?le); case le => decide))

theorem State.sfeDisableNow_frame (s : State) (x0) {w : Nat} {s₀ : State} (h : Frame w s₀ s) (le : 49539595901075584 ||| w = w) :
    Frame w s₀ (State.sfeDisableNow s x0) := by
  refine h.step ?_ le
  unfold State.sfeDisableNow
  try dsimp -proj only
  repeat' (first
    | with_reducible exact Frame.refl _ _
    | with_reducible apply Frame.ite
    | (with_reducible apply State.calHit_frame (le := ?le); case le => decide)
    | (with_reducible apply State.raise_frame (le := ?le); case le => decide)
    | (with_reducible apply State.setEnable_frame (le := ?le); case le => decide)
    | (with_reducible apply State.sfeOff_frame (le := ?le); case le => decide))

theorem State.sfeEnable_frame (s : State) (x0) {w : Nat} {s₀ : State} (h : Frame w s₀ s) (le : 4503599627370624 ||| w = w) :
    Frame w s₀ (State.sfeEnable s x0) := by
  refine h.step ?_ le
  unfold State.sfeEnable
  try dsimp -proj only
  repeat' (first
    | with_reducible exact Frame.refl _ _
    | with_reducible apply Frame.ite
    | (with_reducible apply State.modSfe_frame (le := ?le); case le => decide)
    | (with_reducible apply State.setEnable_frame (le := ?le); case le => decide))

theorem State.sfeProduce_frame (s : State) (x0) (x1) (x2) {w : Nat} {s₀ : State} (h : Frame w s₀ s) (le : 40532396646334592 ||| w = w) :
    Frame w s₀ (State.sfeProduce s x0 x1 x2) := by
  refine h.step ?_ le
  unfold State.sfeProduce
  try dsimp -proj only
  repeat' (first
    | with_reducible exact Frame.refl _ _
    | with_reducible apply Frame.ite
    | (with_reducible apply State.modSfe_frame (le := ?le); case le => decide)
    | (with_reducible apply State.raise_frame (le := ?le); case le => decide))

theorem State.sfeRange_frame (s : State) (x0) (x1) {w : Nat} {s₀ : State} (h : Frame w s₀ s) (le : 40532396646334592 ||| w = w) :
    Frame w s₀ (State.sfeRange s x0 x1) := by
  refine h.step ?_ le
  unfold State.sfeRange
  try dsimp -proj only
  repeat' (first
    | with_reducible exact Frame.refl _ _
    | (with_reducible apply State.inc_frame (le := ?le); case le => decide)
    | (with_reducible apply State.modSfe_frame (le := ?le); case le => decide)
    | (with_reducible apply State.raise_frame (le := ?le); case le => decide))

theorem State.sfeReq_frame (s : State) (x0) {w : Nat} {s₀ : State} (h : Frame w s₀ s) (le : 4503599627370624 ||| w = w) :
    Frame w s₀ (State.sfeReq s x0) := by
  refine h.step ?_ le
  unfold State.sfeReq
  try dsimp -proj only
  repeat' (first
    | with_reducible exact Frame.refl _ _
    | (with_reducible apply State.modSfe_frame (le := ?le); case le => decide)
    | (with_reducible apply State.setFld_frame (le := ?le); case le => decide)
    | split)

theorem execSfeConversion_frame (x0) (x1) (s : State) :
    OutFrame 112589991356792960 s (execSfeConversion x0 x1 s) := by
  unfold execSfeConversion
  try dsimp -proj only
  repeat' (first
    | (with_reducible apply OutFrame.finish (le := ?le); case le => decide)
    | with_reducible exact OutFrame.same
    | with_reducible apply OutFrame.next
    | with_reducible apply OutFrame.ite
    | with_reducible exact Frame.refl _ _
    | with_reducible apply Frame.ite
    | (with_reducible apply State.modSfe_frame (le := ?le); case le => decide)
    | (with_reducible apply State.raise_frame (le := ?le); case le => decide)
    | (with_reducible apply State.setFld_frame (le := ?le); case le => decide)
    | (with_reducible apply State.sfeOff_frame (le := ?le); case le => decide)
    | (with_reducible apply State.sfeProduce_frame (le := ?le); case le => decide)
    | (with_reducible apply State.sfeRange_frame (le := ?le); case le => decide)
    | split)

theorem execSfeOpenRecover_frame (x0) (s : State) :
    OutFrame 112589991356792960 s (execSfeOpenRecover x0 s) := by
  unfold execSfeOpenRecover
  try dsimp -proj only
  repeat' (first
    | (with_reducible apply OutFrame.finish (le := ?le); case le => decide)
    | with_reducible exact OutFrame.same
    | with_reducible apply OutFrame.next
    | with_reducible apply OutFrame.ite
    | with_reducible exact Frame.refl _ _
    | with_reducible apply Frame.ite
    | (with_reducible apply State.modSfe_frame (le := ?le); case le => decide)
    | (with_reducible apply State.sfeRange_frame (le := ?le); case le => decide))

theorem execSfeOpenTrip_frame (x0) (s : State) :
    OutFrame 112589991356792960 s (execSfeOpenTrip x0 s) := by
  unfold execSfeOpenTrip
  try dsimp -proj only
  repeat' (first
    | (with_reducible apply OutFrame.finish (le := ?le); case le => decide)
    | with_reducible exact OutFrame.same
    | with_reducible apply OutFrame.next
    | with_reducible apply OutFrame.ite
    | with_reducible exact Frame.refl _ _
    | with_reducible apply Frame.ite
    | (with_reducible apply State.inc_frame (le := ?le); case le => decide)
    | (with_reducible apply State.modSfe_frame (le := ?le); case le => decide)
    | (with_reducible apply State.raise_frame (le := ?le); case le => decide)
    | (with_reducible apply State.sfeOff_frame (le := ?le); case le => decide))

end Sys2Proof.Machine
end

