-- ==== Sys2Proof/Laws/FramesThermal.lean ====
section
/-!
SUPPORT. The field frames of the operations of Machine/Thermal.lean: the fields of the state that each may change.
-/
namespace Sys2Proof.Machine

theorem State.biasMove_frame (s : State) (x0) {w : Nat} {s₀ : State} (h : Frame w s₀ s) (le : 1125899906842624 ||| w = w) :
    Frame w s₀ (State.biasMove s x0) := by
  refine h.step ?_ le
  unfold State.biasMove
  try dsimp -proj only
  repeat' (first
    | with_reducible exact Frame.refl _ _
    | ((with_reducible apply State.modTherm_frame (le := by decide)); swap; first | exact fun _ h => h | exact fun _ h => Memory.wf_wrBytes _ _ h))

theorem State.compBias_frame (s : State) {w : Nat} {s₀ : State} (h : Frame w s₀ s) (le : 1125899906842624 ||| w = w) :
    Frame w s₀ (State.compBias s) := by
  refine h.step ?_ le
  unfold State.compBias
  try dsimp -proj only
  repeat' (first
    | with_reducible exact Frame.refl _ _
    | with_reducible apply Frame.ite
    | with_reducible apply Frame.forN
    | intro _ _
    | (with_reducible apply State.biasMove_frame (le := ?le); case le => decide))

theorem State.compPlls_frame (s : State) {w : Nat} {s₀ : State} (h : Frame w s₀ s) (le : 1125899906842624 ||| w = w) :
    Frame w s₀ (State.compPlls s) := by
  refine h.step ?_ le
  unfold State.compPlls
  try dsimp -proj only
  repeat' (first
    | with_reducible exact Frame.refl _ _
    | with_reducible apply Frame.ite
    | with_reducible apply Frame.forN
    | intro _ _
    | (with_reducible apply State.modPll_frame (le := ?le); case le => decide))

theorem State.diffs_frame (s : State) (x0) {w : Nat} {s₀ : State} (h : Frame w s₀ s) (le : 36028797018965632 ||| w = w) :
    Frame w s₀ (State.diffs s x0) := by
  refine h.step ?_ le
  unfold State.diffs
  try dsimp -proj only
  repeat' (first
    | with_reducible exact Frame.refl _ _
    | with_reducible apply Frame.ite
    | with_reducible apply Frame.foldl
    | with_reducible apply Frame.forN
    | intro _ _
    | (with_reducible apply State.modTile_frame (le := ?le); case le => decide)
    | (with_reducible apply State.raise_frame (le := ?le); case le => decide)
    | (with_reducible apply State.setFld_frame (le := ?le); case le => decide)
    | (with_reducible apply State.tileCond_frame (le := ?le); case le => decide))

theorem State.fastRound_frame (s : State) (x0) (x1) {w : Nat} {s₀ : State} (h : Frame w s₀ s) (le : 2251799813685376 ||| w = w) :
    Frame w s₀ (State.fastRound s x0 x1) := by
  refine h.step ?_ le
  unfold State.fastRound
  try dsimp -proj only
  repeat' (first
    | with_reducible exact Frame.refl _ _
    | with_reducible apply Frame.ite
    | (with_reducible apply State.modSensor_frame (le := ?le); case le => decide)
    | (with_reducible apply State.setBit_frame (le := ?le); case le => decide))

theorem State.throttleStart_frame (s : State) {w : Nat} {s₀ : State} (h : Frame w s₀ s) (le : 37154696925806720 ||| w = w) :
    Frame w s₀ (State.throttleStart s) := by
  refine h.step ?_ le
  unfold State.throttleStart
  try dsimp -proj only
  repeat' (first
    | with_reducible exact Frame.refl _ _
    | with_reducible apply Frame.ite
    | ((with_reducible apply State.modTherm_frame (le := by decide)); swap; first | exact fun _ h => h | exact fun _ h => Memory.wf_wrBytes _ _ h)
    | (with_reducible apply State.raise_frame (le := ?le); case le => decide)
    | (with_reducible apply State.setBit_frame (le := ?le); case le => decide)
    | (with_reducible apply State.setFld64_frame (le := ?le); case le => decide))

theorem State.forceWritten_frame (s : State) {w : Nat} {s₀ : State} (h : Frame w s₀ s) (le : 37154696925806720 ||| w = w) :
    Frame w s₀ (State.forceWritten s) := by
  refine h.step ?_ le
  unfold State.forceWritten
  try dsimp -proj only
  repeat' (first
    | with_reducible exact Frame.refl _ _
    | with_reducible apply Frame.ite
    | (with_reducible apply State.throttleStart_frame (le := ?le); case le => decide))

theorem State.refCheck_frame (s : State) (x0) {w : Nat} {s₀ : State} (h : Frame w s₀ s) (le : 36028797018964096 ||| w = w) :
    Frame w s₀ (State.refCheck s x0) := by
  refine h.step ?_ le
  unfold State.refCheck
  try dsimp -proj only
  repeat' (first
    | with_reducible exact Frame.refl _ _
    | with_reducible apply Frame.ite
    | (with_reducible apply State.raise_frame (le := ?le); case le => decide)
    | (with_reducible apply State.setBit_frame (le := ?le); case le => decide)
    | (with_reducible apply State.setFld_frame (le := ?le); case le => decide))

theorem State.shutdownGo_frame (s : State) (x0) {w : Nat} {s₀ : State} (h : Frame w s₀ s) (le : 117774632562034304 ||| w = w) :
    Frame w s₀ (State.shutdownGo s x0) := by
  refine h.step ?_ le
  unfold State.shutdownGo
  try dsimp -proj only
  repeat' (first
    | with_reducible exact Frame.refl _ _
    | with_reducible apply Frame.ite
    | with_reducible apply Frame.forN
    | intro _ _
    | (with_reducible apply State.fluxFaultSeq_frame (le := ?le); case le => decide)
    | (with_reducible apply State.modPower_frame (le := ?le); case le => decide)
    | (with_reducible apply State.powerDown_frame (le := ?le); case le => decide)
    | (with_reducible apply State.setDev_frame (le := ?le); case le => decide)
    | (with_reducible apply State.setFld_frame (le := ?le); case le => decide))

theorem State.roundEnd_frame (s : State) {w : Nat} {s₀ : State} (h : Frame w s₀ s) (le : 118900532468876928 ||| w = w) :
    Frame w s₀ (State.roundEnd s) := by
  refine h.step ?_ le
  unfold State.roundEnd
  try dsimp -proj only
  repeat' (first
    | with_reducible exact Frame.refl _ _
    | with_reducible apply Frame.ite
    | ((with_reducible apply State.modTherm_frame (le := by decide)); swap; first | exact fun _ h => h | exact fun _ h => Memory.wf_wrBytes _ _ h)
    | (with_reducible apply State.shutdownGo_frame (le := ?le); case le => decide)
    | split)

theorem State.thmBad_frame (s : State) (x0) (x1) {w : Nat} {s₀ : State} (h : Frame w s₀ s) (le : 36028797018964096 ||| w = w) :
    Frame w s₀ (State.thmBad s x0 x1) := by
  refine h.step ?_ le
  unfold State.thmBad
  try dsimp -proj only
  repeat' (first
    | with_reducible exact Frame.refl _ _
    | with_reducible apply Frame.ite
    | (with_reducible apply State.raise_frame (le := ?le); case le => decide)
    | (with_reducible apply State.setBit_frame (le := ?le); case le => decide))

theorem State.throttleEnd_frame (s : State) {w : Nat} {s₀ : State} (h : Frame w s₀ s) (le : 37154696925806720 ||| w = w) :
    Frame w s₀ (State.throttleEnd s) := by
  refine h.step ?_ le
  unfold State.throttleEnd
  try dsimp -proj only
  repeat' (first
    | with_reducible exact Frame.refl _ _
    | with_reducible apply Frame.ite
    | ((with_reducible apply State.modTherm_frame (le := by decide)); swap; first | exact fun _ h => h | exact fun _ h => Memory.wf_wrBytes _ _ h)
    | (with_reducible apply State.raise_frame (le := ?le); case le => decide)
    | (with_reducible apply State.setBit_frame (le := ?le); case le => decide))

theorem State.sample_frame (s : State) (x0) (x1) {w : Nat} {s₀ : State} (h : Frame w s₀ s) (le : 39406496739491968 ||| w = w) :
    Frame w s₀ (State.sample s x0 x1) := by
  refine h.step ?_ le
  unfold State.sample
  try dsimp -proj only
  repeat' (first
    | with_reducible exact Frame.refl _ _
    | with_reducible apply Frame.ite
    | (with_reducible apply State.fastRound_frame (le := ?le); case le => decide)
    | (with_reducible apply State.modSensor_frame (le := ?le); case le => decide)
    | (with_reducible apply State.raise_frame (le := ?le); case le => decide)
    | (with_reducible apply State.setBit_frame (le := ?le); case le => decide)
    | (with_reducible apply State.setFld_frame (le := ?le); case le => decide)
    | (with_reducible apply State.thmBad_frame (le := ?le); case le => decide)
    | (with_reducible apply State.throttleEnd_frame (le := ?le); case le => decide)
    | (with_reducible apply State.throttleStart_frame (le := ?le); case le => decide)
    | split)

theorem State.shDataGet_frame (s : State) {w : Nat} {s₀ : State} (h : Frame w s₀ s) (le : 144115188075856000 ||| w = w) :
    Frame w s₀ (State.shDataGet s) := by
  refine h.step ?_ le
  unfold State.shDataGet
  try dsimp -proj only
  repeat' (first
    | with_reducible exact Frame.refl _ _
    | with_reducible apply Frame.ite
    | (with_reducible apply State.respond_frame (le := ?le); case le => decide)
    | (with_reducible apply State.setFld_frame (le := ?le); case le => decide))

theorem State.supplyOut_frame (s : State) (x0) {w : Nat} {s₀ : State} (h : Frame w s₀ s) (le : 45106365017882752 ||| w = w) :
    Frame w s₀ (State.supplyOut s x0) := by
  refine h.step ?_ le
  unfold State.supplyOut
  try dsimp -proj only
  repeat' (first
    | with_reducible exact Frame.refl _ _
    | with_reducible apply Frame.ite
    | with_reducible apply Frame.forN
    | intro _ _
    | (with_reducible apply State.fluxFaultSeq_frame (le := ?le); case le => decide)
    | (with_reducible apply State.raise_frame (le := ?le); case le => decide)
    | (with_reducible apply State.setFld_frame (le := ?le); case le => decide))

theorem State.supplyRead_frame (s : State) (x0) (x1) {w : Nat} {s₀ : State} (h : Frame w s₀ s) (le : 45106365017882752 ||| w = w) :
    Frame w s₀ (State.supplyRead s x0 x1) := by
  refine h.step ?_ le
  unfold State.supplyRead
  try dsimp -proj only
  repeat' (first
    | with_reducible exact Frame.refl _ _
    | with_reducible apply Frame.ite
    | (with_reducible apply State.setFld_frame (le := ?le); case le => decide)
    | (with_reducible apply State.supplyOut_frame (le := ?le); case le => decide))

theorem execFastRound_frame (x0) (s : State) :
    OutFrame 121152332955092608 s (execFastRound x0 s) := by
  unfold execFastRound
  try dsimp -proj only
  repeat' (first
    | (with_reducible apply OutFrame.finish (le := ?le); case le => decide)
    | with_reducible exact OutFrame.same
    | with_reducible apply OutFrame.next
    | with_reducible apply OutFrame.ite
    | with_reducible exact Frame.refl _ _
    | with_reducible apply Frame.ite
    | with_reducible apply Frame.foldl
    | intro _ _
    | (with_reducible apply State.compBias_frame (le := ?le); case le => decide)
    | (with_reducible apply State.roundEnd_frame (le := ?le); case le => decide)
    | (with_reducible apply State.sample_frame (le := ?le); case le => decide)
    | split)

theorem execPauseAnnounce_frame (s : State) :
    OutFrame 109212291636266112 s (execPauseAnnounce s) := by
  unfold execPauseAnnounce
  try dsimp -proj only
  repeat' (first
    | (with_reducible apply OutFrame.finish (le := ?le); case le => decide)
    | with_reducible exact OutFrame.same
    | with_reducible apply OutFrame.next
    | with_reducible apply OutFrame.ite
    | with_reducible exact Frame.refl _ _
    | with_reducible apply Frame.ite
    | with_reducible apply Frame.forN
    | intro _ _
    | (with_reducible apply State.inc_frame (le := ?le); case le => decide)
    | (with_reducible apply State.modSeq_frame (le := ?le); case le => decide)
    | ((with_reducible apply State.modTherm_frame (le := by decide)); swap; first | exact fun _ h => h | exact fun _ h => Memory.wf_wrBytes _ _ h)
    | (with_reducible apply State.setFld64_frame (le := ?le); case le => decide)
    | split)

theorem execShutdownRecord_frame (s : State) :
    OutFrame 109212291636265088 s (execShutdownRecord s) := by
  unfold execShutdownRecord
  try dsimp -proj only
  repeat' (first
    | (with_reducible apply OutFrame.finish (le := ?le); case le => decide)
    | with_reducible exact OutFrame.same
    | with_reducible apply OutFrame.next
    | with_reducible exact Frame.refl _ _
    | ((with_reducible apply State.modTherm_frame (le := by decide)); swap; first | exact fun _ h => h | exact fun _ h => Memory.wf_wrBytes _ _ h)
    | split)

theorem execSlowRound_frame (x0) (x1) (x2) (s : State) :
    OutFrame 121152332955092608 s (execSlowRound x0 x1 x2 s) := by
  unfold execSlowRound
  try dsimp -proj only
  repeat' (first
    | (with_reducible apply OutFrame.finish (le := ?le); case le => decide)
    | with_reducible exact OutFrame.same
    | with_reducible apply OutFrame.next
    | with_reducible apply OutFrame.ite
    | with_reducible exact Frame.refl _ _
    | with_reducible apply Frame.ite
    | with_reducible apply Frame.foldl
    | intro _ _
    | (with_reducible apply State.compBias_frame (le := ?le); case le => decide)
    | (with_reducible apply State.compPlls_frame (le := ?le); case le => decide)
    | (with_reducible apply State.diffs_frame (le := ?le); case le => decide)
    | (with_reducible apply State.refCheck_frame (le := ?le); case le => decide)
    | (with_reducible apply State.roundEnd_frame (le := ?le); case le => decide)
    | (with_reducible apply State.sample_frame (le := ?le); case le => decide)
    | (with_reducible apply State.supplyRead_frame (le := ?le); case le => decide))

end Sys2Proof.Machine
end

