-- ==== Sys2Proof/Laws/FramesPower.lean ====
section
/-!
SUPPORT. The field frames of the operations of Machine/Power.lean: the fields of the state that each may change.
-/
namespace Sys2Proof.Machine

theorem State.bootMicrocode_frame (s : State) (x0) (x1) (x2) {w : Nat} {s₀ : State} (h : Frame w s₀ s) (le : 14464 ||| w = w) :
    Frame w s₀ (State.bootMicrocode s x0 x1 x2) := by
  refine h.step ?_ le
  unfold State.bootMicrocode
  try dsimp -proj only
  repeat' (first
    | with_reducible exact Frame.refl _ _
    | with_reducible apply Frame.foldl
    | intro _ _
    | (with_reducible apply State.loadCluster_frame (le := ?le); case le => decide)
    | (with_reducible apply State.setSlotWords_frame (le := ?le); case le => decide)
    | (with_reducible apply State.showVersions_frame (le := ?le); case le => decide)
    | (with_reducible apply Frame.upd_loader (le := ?le); case le => decide))

theorem State.bootOwn_frame (s : State) (x0) {w : Nat} {s₀ : State} (h : Frame w s₀ s) (le : 128 ||| w = w) :
    Frame w s₀ (State.bootOwn s x0) := by
  refine h.step ?_ le
  unfold State.bootOwn
  try dsimp -proj only
  repeat' (first
    | with_reducible exact Frame.refl _ _
    | (with_reducible apply State.setBit_frame (le := ?le); case le => decide)
    | (with_reducible apply State.setFld_frame (le := ?le); case le => decide))

theorem State.transTo_frame (s : State) (x0) {w : Nat} {s₀ : State} (h : Frame w s₀ s) (le : 562949953421312 ||| w = w) :
    Frame w s₀ (State.transTo s x0) := by
  refine h.step ?_ le
  unfold State.transTo
  try dsimp -proj only
  repeat' (first
    | with_reducible exact Frame.refl _ _
    | (with_reducible apply State.modPower_frame (le := ?le); case le => decide))

theorem State.cellarEnter_frame (s : State) {w : Nat} {s₀ : State} (h : Frame w s₀ s) (le : 117774632562034304 ||| w = w) :
    Frame w s₀ (State.cellarEnter s) := by
  refine h.step ?_ le
  unfold State.cellarEnter
  try dsimp -proj only
  repeat' (first
    | with_reducible exact Frame.refl _ _
    | (with_reducible apply State.modCal_frame (le := ?le); case le => decide)
    | (with_reducible apply State.modPower_frame (le := ?le); case le => decide)
    | (with_reducible apply State.powerDown_frame (le := ?le); case le => decide)
    | (with_reducible apply State.transTo_frame (le := ?le); case le => decide))

theorem State.trained_frame (s : State) (x0) {w : Nat} {s₀ : State} (h : Frame w s₀ s) (le : 108086391056892032 ||| w = w) :
    Frame w s₀ (State.trained s x0) := by
  refine h.step ?_ le
  unfold State.trained
  try dsimp -proj only
  repeat' (first
    | with_reducible exact Frame.refl _ _
    | (with_reducible apply State.dramFails_frame (le := ?le); case le => decide)
    | split)

theorem State.cellarLeave_frame (s : State) (x0) (x1) {w : Nat} {s₀ : State} (h : Frame w s₀ s) (le : 108649341014508160 ||| w = w) :
    Frame w s₀ (State.cellarLeave s x0 x1) := by
  refine h.step ?_ le
  unfold State.cellarLeave
  try dsimp -proj only
  repeat' (first
    | with_reducible exact Frame.refl _ _
    | with_reducible apply Frame.ite
    | (with_reducible apply State.dramWake_frame (le := ?le); case le => decide)
    | (with_reducible apply State.modPower_frame (le := ?le); case le => decide)
    | (with_reducible apply State.raise_frame (le := ?le); case le => decide)
    | (with_reducible apply State.setDev_frame (le := ?le); case le => decide)
    | (with_reducible apply State.tilesUp_frame (le := ?le); case le => decide)
    | (with_reducible apply State.trained_frame (le := ?le); case le => decide)
    | (with_reducible apply State.transTo_frame (le := ?le); case le => decide))

theorem State.dbgCode_frame (s : State) (x0) (x1) {w : Nat} {s₀ : State} (h : Frame w s₀ s) (le : 562949953421312 ||| w = w) :
    Frame w s₀ (State.dbgCode s x0 x1) := by
  refine h.step ?_ le
  unfold State.dbgCode
  try dsimp -proj only
  repeat' (first
    | with_reducible exact Frame.refl _ _
    | with_reducible apply Frame.ite
    | (with_reducible apply State.modPower_frame (le := ?le); case le => decide))

theorem State.dbgLock_frame (s : State) {w : Nat} {s₀ : State} (h : Frame w s₀ s) (le : 128 ||| w = w) :
    Frame w s₀ (State.dbgLock s) := by
  refine h.step ?_ le
  unfold State.dbgLock
  try dsimp -proj only
  repeat' (first
    | with_reducible exact Frame.refl _ _
    | (with_reducible apply State.setFld_frame (le := ?le); case le => decide))

theorem State.enterReady_frame (s : State) {w : Nat} {s₀ : State} (h : Frame w s₀ s) (le : 36028809903865984 ||| w = w) :
    Frame w s₀ (State.enterReady s) := by
  refine h.step ?_ le
  unfold State.enterReady
  try dsimp -proj only
  repeat' (first
    | with_reducible exact Frame.refl _ _
    | with_reducible apply Frame.forN
    | intro _ _
    | (with_reducible apply State.adcEnterReady_frame (le := ?le); case le => decide)
    | (with_reducible apply State.outEnterReady_frame (le := ?le); case le => decide)
    | (with_reducible apply State.setDev_frame (le := ?le); case le => decide))

theorem State.keyRevoke_frame (s : State) (x0) (x1) {w : Nat} {s₀ : State} (h : Frame w s₀ s) (le : 36028797018964096 ||| w = w) :
    Frame w s₀ (State.keyRevoke s x0 x1) := by
  refine h.step ?_ le
  unfold State.keyRevoke
  try dsimp -proj only
  repeat' (first
    | with_reducible exact Frame.refl _ _
    | with_reducible apply Frame.ite
    | (with_reducible apply State.raise_frame (le := ?le); case le => decide)
    | (with_reducible apply State.setFld_frame (le := ?le); case le => decide))

theorem State.resetBase_frame (s : State) {w : Nat} {s₀ : State} (h : Frame w s₀ s)
    (le : 144115188074807229 ||| w = w) : Frame w s₀ (State.resetBase s) :=
  h.step (v := 144115188074807229) (by constructor <;> first | exact fun _ => rfl | exact fun c => ⟨rfl, rfl, c.2.2.1, c.2.2.2⟩ | exact fun h => absurd h (by decide)) le

theorem State.setCause_frame (s : State) (x0) {w : Nat} {s₀ : State} (h : Frame w s₀ s) (le : 128 ||| w = w) :
    Frame w s₀ (State.setCause s x0) := by
  refine h.step ?_ le
  unfold State.setCause
  try dsimp -proj only
  repeat' (first
    | with_reducible exact Frame.refl _ _
    | (with_reducible apply State.setFld_frame (le := ?le); case le => decide))

theorem State.porReset_frame (s : State) (x0) {w : Nat} {s₀ : State} (h : Frame w s₀ s) (le : 144115188074807229 ||| w = w) :
    Frame w s₀ (State.porReset s x0) := by
  refine h.step ?_ le
  unfold State.porReset
  try dsimp -proj only
  repeat' (first
    | with_reducible exact Frame.refl _ _
    | (with_reducible apply State.resetBase_frame (le := ?le); case le => decide)
    | (with_reducible apply State.setCause_frame (le := ?le); case le => decide)
    | (with_reducible apply State.setFld_frame (le := ?le); case le => decide))

theorem State.recoverGo_frame (s : State) (x0) {w : Nat} {s₀ : State} (h : Frame w s₀ s) (le : 108649341010313344 ||| w = w) :
    Frame w s₀ (State.recoverGo s x0) := by
  refine h.step ?_ le
  unfold State.recoverGo
  try dsimp -proj only
  repeat' (first
    | with_reducible exact Frame.refl _ _
    | with_reducible apply Frame.ite
    | (with_reducible apply State.modPower_frame (le := ?le); case le => decide)
    | (with_reducible apply State.raise_frame (le := ?le); case le => decide)
    | (with_reducible apply State.setFld_frame (le := ?le); case le => decide)
    | (with_reducible apply State.trained_frame (le := ?le); case le => decide)
    | split)

theorem State.reqRefuse_frame (s : State) (x0) (x1) {w : Nat} {s₀ : State} (h : Frame w s₀ s) (le : 108086391056892032 ||| w = w) :
    Frame w s₀ (State.reqRefuse s x0 x1) := by
  refine h.step ?_ le
  unfold State.reqRefuse
  try dsimp -proj only
  repeat' (first
    | with_reducible exact Frame.refl _ _
    | (with_reducible apply State.err_frame (le := ?le); case le => decide)
    | (with_reducible apply State.raise_frame (le := ?le); case le => decide))

theorem State.reqGo_frame (s : State) {w : Nat} {s₀ : State} (h : Frame w s₀ s) (le : 117774632562034304 ||| w = w) :
    Frame w s₀ (State.reqGo s) := by
  refine h.step ?_ le
  unfold State.reqGo
  try dsimp -proj only
  repeat' (first
    | with_reducible exact Frame.refl _ _
    | with_reducible apply Frame.ite
    | (with_reducible apply State.cellarEnter_frame (le := ?le); case le => decide)
    | (with_reducible apply State.reqRefuse_frame (le := ?le); case le => decide)
    | (with_reducible apply State.tilesUp_frame (le := ?le); case le => decide)
    | (with_reducible apply State.transTo_frame (le := ?le); case le => decide)
    | split)

theorem State.starterBegin_frame (s : State) (x0) {w : Nat} {s₀ : State} (h : Frame w s₀ s) (le : 108086391056892032 ||| w = w) :
    Frame w s₀ (State.starterBegin s x0) := by
  refine h.step ?_ le
  unfold State.starterBegin
  try dsimp -proj only
  repeat' (first
    | with_reducible exact Frame.refl _ _
    | (with_reducible apply State.setFld_frame (le := ?le); case le => decide)
    | (with_reducible apply State.trained_frame (le := ?le); case le => decide)
    | split)

theorem State.tapIs_frame (s : State) (x0) {w : Nat} {s₀ : State} (h : Frame w s₀ s) (le : 562949953421312 ||| w = w) :
    Frame w s₀ (State.tapIs s x0) := by
  refine h.step ?_ le
  unfold State.tapIs
  try dsimp -proj only
  repeat' (first
    | with_reducible exact Frame.refl _ _
    | (with_reducible apply State.modPower_frame (le := ?le); case le => decide))

theorem State.transDone_frame (s : State) {w : Nat} {s₀ : State} (h : Frame w s₀ s) (le : 562949953421312 ||| w = w) :
    Frame w s₀ (State.transDone s) := by
  refine h.step ?_ le
  unfold State.transDone
  try dsimp -proj only
  repeat' (first
    | with_reducible exact Frame.refl _ _
    | (with_reducible apply State.modPower_frame (le := ?le); case le => decide))

theorem State.warmGo_frame (s : State) (x0) {w : Nat} {s₀ : State} (h : Frame w s₀ s)
    (le : 144115188074807229 ||| w = w) : Frame w s₀ (State.warmGo s x0) := by
  refine h.step ?_ le
  unfold State.warmGo
  dsimp -proj only
  apply Frame.ite (Frame.refl _ _)
  have k : Frame 144115188074807229 s ((s.fluxes.map Prod.fst).foldl (fun s n => s.dcFlush n) s) :=
    Frame.foldl (Frame.refl _ _) fun t x => State.dcFlush_frame _ _ (Frame.refl _ _) (by decide)
  apply State.modPower_frame (le := by decide)
  apply State.setFld_frame (le := by decide)
  apply State.setCause_frame (le := by decide)
  apply Frame.foldl
  · refine k.trans ?_
    constructor <;> first | exact fun _ => rfl | exact fun c => ⟨rfl, rfl, c.2.2.1, c.2.2.2⟩ | exact fun h => absurd h (by decide)
  · intro t x
    exact State.setFld_frame _ _ _ _ _ (Frame.refl _ _) (by decide)

theorem execAlwaysOnInvalid_frame (s : State) : OutFrame 144115188074807229 s (execAlwaysOnInvalid s) := by
  have f : Frame 144115188074807229 s ((s.modPower fun p => { p with por := true }).porReset 0) :=
    State.porReset_frame _ _ (State.modPower_frame _ _ (Frame.refl _ _) (by decide)) (by decide)
  refine ⟨fun t e => ?_, fun t e c => ?_, fun t e c => ?_⟩
  · cases e
    exact State.setCause_frame _ _ f (by decide)
  · cases e
    rfl
  · cases e
    rfl

theorem execAlwaysOnValid_frame (s : State) :
    OutFrame 128 s (execAlwaysOnValid s) := by
  unfold execAlwaysOnValid
  try dsimp -proj only
  repeat' (first
    | with_reducible exact OutFrame.same
    | with_reducible apply OutFrame.next
    | with_reducible apply OutFrame.ite
    | with_reducible exact Frame.refl _ _
    | with_reducible apply Frame.ite
    | (with_reducible apply State.setFld_frame (le := ?le); case le => decide))

theorem execBootComplete_frame (x0) (x1) (x2) (x3) (x4) (x5) (x6) (x7) (s : State) :
    OutFrame 109775241589700736 s (execBootComplete x0 x1 x2 x3 x4 x5 x6 x7 s) := by
  unfold execBootComplete
  try dsimp -proj only
  repeat' (first
    | (with_reducible apply OutFrame.finish (le := ?le); case le => decide)
    | with_reducible exact OutFrame.same
    | with_reducible apply OutFrame.next
    | with_reducible apply OutFrame.ite
    | with_reducible exact Frame.refl _ _
    | with_reducible apply Frame.ite
    | with_reducible apply Frame.foldl
    | intro _ _
    | (with_reducible apply State.bootMicrocode_frame (le := ?le); case le => decide)
    | (with_reducible apply State.bootOwn_frame (le := ?le); case le => decide)
    | (with_reducible apply State.modPower_frame (le := ?le); case le => decide)
    | (with_reducible apply State.pllLocks_frame (le := ?le); case le => decide)
    | (with_reducible apply State.raise_frame (le := ?le); case le => decide)
    | (with_reducible apply State.setBit_frame (le := ?le); case le => decide)
    | (with_reducible apply State.setDev_frame (le := ?le); case le => decide)
    | (with_reducible apply State.setFld_frame (le := ?le); case le => decide))

theorem execBypass_frame (s : State) :
    OutFrame 562949953421312 s (execBypass s) := by
  unfold execBypass
  try dsimp -proj only
  repeat' (first
    | with_reducible exact OutFrame.same
    | with_reducible apply OutFrame.next
    | with_reducible exact Frame.refl _ _
    | (with_reducible apply State.tapIs_frame (le := ?le); case le => decide))

theorem execDbgAuth_frame (x0) (s : State) :
    OutFrame 396879717834555520 s (execDbgAuth x0 s) := by
  unfold execDbgAuth
  try dsimp -proj only
  repeat' (first
    | (with_reducible apply OutFrame.finish (le := ?le); case le => decide)
    | with_reducible exact OutFrame.same
    | with_reducible apply OutFrame.next
    | with_reducible apply OutFrame.ite
    | with_reducible exact Frame.refl _ _
    | with_reducible apply Frame.ite
    | (with_reducible apply State.inc_frame (le := ?le); case le => decide)
    | (with_reducible apply State.raise_frame (le := ?le); case le => decide)
    | (with_reducible apply State.setFld_frame (le := ?le); case le => decide)
    | (with_reducible apply State.tapIs_frame (le := ?le); case le => decide)
    | (with_reducible apply State.tookFree_frame (le := ?le); case le => decide)
    | split)

theorem execExtest_frame (s : State) :
    OutFrame 562949953421312 s (execExtest s) := by
  unfold execExtest
  try dsimp -proj only
  repeat' (first
    | with_reducible exact OutFrame.same
    | with_reducible apply OutFrame.next
    | with_reducible apply OutFrame.ite
    | with_reducible exact Frame.refl _ _
    | with_reducible apply Frame.ite
    | (with_reducible apply State.tapIs_frame (le := ?le); case le => decide))

theorem execExtestPulse_frame (s : State) :
    OutFrame 562949953421312 s (execExtestPulse s) := by
  unfold execExtestPulse
  try dsimp -proj only
  repeat' (first
    | with_reducible exact OutFrame.same
    | with_reducible apply OutFrame.next
    | with_reducible apply OutFrame.ite
    | with_reducible exact Frame.refl _ _
    | with_reducible apply Frame.ite
    | (with_reducible apply State.tapIs_frame (le := ?le); case le => decide))

theorem execExtestTrain_frame (s : State) :
    OutFrame 562949953421312 s (execExtestTrain s) := by
  unfold execExtestTrain
  try dsimp -proj only
  repeat' (first
    | with_reducible exact OutFrame.same
    | with_reducible apply OutFrame.next
    | with_reducible apply OutFrame.ite
    | with_reducible exact Frame.refl _ _
    | with_reducible apply Frame.ite
    | (with_reducible apply State.tapIs_frame (le := ?le); case le => decide))

theorem execIdcode_frame (s : State) :
    OutFrame 144678138029277184 s (execIdcode s) := by
  unfold execIdcode
  try dsimp -proj only
  repeat' (first
    | with_reducible exact OutFrame.same
    | with_reducible apply OutFrame.next
    | with_reducible exact Frame.refl _ _
    | (with_reducible apply State.respond_frame (le := ?le); case le => decide)
    | (with_reducible apply State.tapIs_frame (le := ?le); case le => decide))

theorem execPcieD0Wake_frame (s : State) :
    OutFrame 108649341682844288 s (execPcieD0Wake s) := by
  unfold execPcieD0Wake
  try dsimp -proj only
  repeat' (first
    | (with_reducible apply OutFrame.finish (le := ?le); case le => decide)
    | with_reducible exact Frame.refl _ _
    | (with_reducible apply State.wakeGo_frame (le := ?le); case le => decide))

theorem execPerstNAssert_frame (s : State) :
    OutFrame 144115188075855805 s (execPerstNAssert s) := by
  unfold execPerstNAssert
  try dsimp -proj only
  repeat' (first
    | (with_reducible apply OutFrame.finish (le := ?le); case le => decide)
    | with_reducible exact OutFrame.same
    | with_reducible apply OutFrame.next
    | with_reducible apply OutFrame.ite
    | with_reducible exact Frame.refl _ _
    | with_reducible apply Frame.ite
    | (with_reducible apply State.modPower_frame (le := ?le); case le => decide)
    | (with_reducible apply State.warmGo_frame (le := ?le); case le => decide))

theorem execPerstNRelease_frame (s : State) :
    OutFrame 562949953421312 s (execPerstNRelease s) := by
  unfold execPerstNRelease
  try dsimp -proj only
  repeat' (first
    | with_reducible exact OutFrame.same
    | with_reducible apply OutFrame.next
    | with_reducible exact Frame.refl _ _
    | (with_reducible apply State.modPower_frame (le := ?le); case le => decide))

theorem execPorNAssert_frame (s : State) : OutFrame 144115188074807229 s (execPorNAssert s) := by
  have f : Frame 144115188074807229 s ((s.modPower fun p => { p with por := true }).porReset 1) :=
    State.porReset_frame _ _ (State.modPower_frame _ _ (Frame.refl _ _) (by decide)) (by decide)
  refine ⟨fun t e => ?_, fun t e c => ?_, fun t e c => ?_⟩
  · unfold execPorNAssert at e
    dsimp only at e
    split at e <;> cases e
    · exact State.modPower_frame _ _ (Frame.refl _ _) (by decide)
    · exact f
  · unfold execPorNAssert at e
    dsimp only at e
    split at e <;> cases e
    · exact c
    · rfl
  · unfold execPorNAssert at e
    dsimp only at e
    split at e <;> cases e
    · exact c
    · rfl

theorem execPorNRelease_frame (x0) (x1) (x2) (s : State) :
    OutFrame 118782440844427392 s (execPorNRelease x0 x1 x2 s) := by
  unfold execPorNRelease
  try dsimp -proj only
  repeat' (first
    | (with_reducible apply OutFrame.finish (le := ?le); case le => decide)
    | with_reducible exact OutFrame.same
    | with_reducible apply OutFrame.next
    | with_reducible apply OutFrame.ite
    | with_reducible exact Frame.refl _ _
    | with_reducible apply Frame.ite
    | (with_reducible apply State.dramApply_frame (le := ?le); case le => decide)
    | (with_reducible apply State.modPower_frame (le := ?le); case le => decide)
    | ((with_reducible apply State.modTherm_frame (le := by decide)); swap; first | exact fun _ h => h | exact fun _ h => Memory.wf_wrBytes _ _ h)
    | (with_reducible apply State.raise_frame (le := ?le); case le => decide)
    | (with_reducible apply State.setCause_frame (le := ?le); case le => decide)
    | (with_reducible apply State.starterBegin_frame (le := ?le); case le => decide)
    | (with_reducible apply State.trimsLoad_frame (le := ?le); case le => decide))

theorem execSamplePreload_frame (x0) (s : State) :
    OutFrame 432908514180988928 s (execSamplePreload x0 s) := by
  unfold execSamplePreload
  try dsimp -proj only
  repeat' (first
    | with_reducible exact OutFrame.same
    | with_reducible apply OutFrame.next
    | with_reducible exact Frame.refl _ _
    | (with_reducible apply State.modPower_frame (le := ?le); case le => decide)
    | (with_reducible apply State.tapIs_frame (le := ?le); case le => decide)
    | (with_reducible apply State.tookFree_frame (le := ?le); case le => decide)
    | (with_reducible apply Frame.upd_respVal (le := ?le); case le => decide))

theorem execSmbAlertResponse_frame (s : State) :
    OutFrame 144115188075855872 s (execSmbAlertResponse s) := by
  unfold execSmbAlertResponse
  try dsimp -proj only
  repeat' (first
    | with_reducible exact OutFrame.same
    | with_reducible apply OutFrame.next
    | with_reducible apply OutFrame.ite
    | with_reducible exact Frame.refl _ _
    | with_reducible apply Frame.ite
    | (with_reducible apply State.respond_frame (le := ?le); case le => decide))

theorem execSmbReadWord_frame (x0) (s : State) :
    OutFrame 144115188075855872 s (execSmbReadWord x0 s) := by
  unfold execSmbReadWord
  try dsimp -proj only
  repeat' (first
    | with_reducible exact OutFrame.same
    | with_reducible apply OutFrame.next
    | with_reducible exact Frame.refl _ _
    | (with_reducible apply State.respond_frame (le := ?le); case le => decide)
    | split)

theorem execStateTransitionComplete_frame (x0) (s : State) :
    OutFrame 108767433979823744 s (execStateTransitionComplete x0 s) := by
  unfold execStateTransitionComplete
  try dsimp -proj only
  repeat' (first
    | (with_reducible apply OutFrame.finish (le := ?le); case le => decide)
    | with_reducible exact OutFrame.same
    | with_reducible apply OutFrame.next
    | with_reducible apply OutFrame.ite
    | with_reducible exact Frame.refl _ _
    | with_reducible apply Frame.ite
    | (with_reducible apply State.cellarLeave_frame (le := ?le); case le => decide)
    | (with_reducible apply State.dramSleep_frame (le := ?le); case le => decide)
    | (with_reducible apply State.enterReady_frame (le := ?le); case le => decide)
    | (with_reducible apply State.leaveRunning_frame (le := ?le); case le => decide)
    | (with_reducible apply State.powerDown_frame (le := ?le); case le => decide)
    | (with_reducible apply State.reqRefuse_frame (le := ?le); case le => decide)
    | (with_reducible apply State.setDev_frame (le := ?le); case le => decide)
    | (with_reducible apply State.starterBegin_frame (le := ?le); case le => decide)
    | (with_reducible apply State.transDone_frame (le := ?le); case le => decide)
    | split)

theorem execSupplyFault_frame (x0) (s : State) :
    OutFrame 117163959728341120 s (execSupplyFault x0 s) := by
  unfold execSupplyFault
  try dsimp -proj only
  repeat' (first
    | (with_reducible apply OutFrame.finish (le := ?le); case le => decide)
    | with_reducible exact OutFrame.same
    | with_reducible apply OutFrame.next
    | with_reducible apply OutFrame.ite
    | with_reducible exact Frame.refl _ _
    | with_reducible apply Frame.ite
    | (with_reducible apply State.supplyOut_frame (le := ?le); case le => decide))

theorem execSupplyShutdown_frame (x0) (s : State) :
    OutFrame 117774633234564736 s (execSupplyShutdown x0 s) := by
  unfold execSupplyShutdown
  try dsimp -proj only
  repeat' (first
    | (with_reducible apply OutFrame.finish (le := ?le); case le => decide)
    | with_reducible exact OutFrame.same
    | with_reducible apply OutFrame.next
    | with_reducible apply OutFrame.ite
    | with_reducible exact Frame.refl _ _
    | with_reducible apply Frame.ite
    | (with_reducible apply State.shutdownGo_frame (le := ?le); case le => decide)
    | (with_reducible apply State.supplyOut_frame (le := ?le); case le => decide))

theorem execWatchdogExpiry_frame (s : State) :
    OutFrame 144115188075855805 s (execWatchdogExpiry s) := by
  unfold execWatchdogExpiry
  try dsimp -proj only
  repeat' (first
    | (with_reducible apply OutFrame.finish (le := ?le); case le => decide)
    | with_reducible exact Frame.refl _ _
    | (with_reducible apply State.warmGo_frame (le := ?le); case le => decide))

end Sys2Proof.Machine
end

