-- ==== Sys2Proof/Laws/FramesClock.lean ====
section
/-!
SUPPORT. The field frames of the operations of Machine/Clock.lean: the fields of the state that each may change.
-/
namespace Sys2Proof.Machine

theorem State.acqStops_frame (s : State) (x0) {w : Nat} {s₀ : State} (h : Frame w s₀ s) (le : 35184372088960 ||| w = w) :
    Frame w s₀ (State.acqStops s x0) := by
  refine h.step ?_ le
  unfold State.acqStops
  try dsimp -proj only
  repeat' (first
    | with_reducible exact Frame.refl _ _
    | with_reducible apply Frame.ite
    | with_reducible apply Frame.foldl
    | intro _ _
    | with_reducible apply Frame.getD
    | (with_reducible apply State.acqEndAt_frame (le := ?le); case le => decide))

theorem State.computeStep_frame (s : State) (x0) (x1) (x2) (x3) {w : Nat} {s₀ : State} (h : Frame w s₀ s) (le : 108192113845388416 ||| w = w) :
    Frame w s₀ (State.computeStep s x0 x1 x2 x3) := by
  refine h.step ?_ le
  unfold State.computeStep
  try dsimp -proj only
  repeat' (first
    | with_reducible exact Frame.refl _ _
    | with_reducible apply Frame.foldl
    | intro _ _
    | (with_reducible apply State.acqStops_frame (le := ?le); case le => decide)
    | (with_reducible apply State.adcStep_frame (le := ?le); case le => decide)
    | (with_reducible apply State.fluxStep_frame (le := ?le); case le => decide)
    | (with_reducible apply State.outStep_frame (le := ?le); case le => decide)
    | (with_reducible apply State.routStep_frame (le := ?le); case le => decide))

theorem State.shotsTick_frame (s : State) {w : Nat} {s₀ : State} (h : Frame w s₀ s) (le : 1024 ||| w = w) :
    Frame w s₀ (State.shotsTick s) := by
  refine h.step ?_ le
  unfold State.shotsTick
  try dsimp -proj only
  repeat' (first
    | with_reducible exact Frame.refl _ _
    | with_reducible apply Frame.foldl
    | intro _ _
    | (with_reducible apply State.modSeq_frame (le := ?le); case le => decide))

theorem execRefclkPeriod_frame (x0) (x1) (s : State) :
    OutFrame 108332852006274257 s (execRefclkPeriod x0 x1 s) := by
  unfold execRefclkPeriod
  try dsimp -proj only
  repeat' (first
    | (with_reducible apply OutFrame.finish (le := ?le); case le => decide)
    | with_reducible exact OutFrame.same
    | with_reducible apply OutFrame.next
    | with_reducible apply OutFrame.ite
    | with_reducible exact Frame.refl _ _
    | with_reducible apply Frame.ite
    | with_reducible apply Frame.foldl
    | intro _ _
    | (with_reducible apply State.computeStep_frame (le := ?le); case le => decide)
    | (with_reducible apply State.newCycle_frame (le := ?le); case le => decide)
    | (with_reducible apply State.ntNote_frame (le := ?le); case le => decide)
    | (with_reducible apply State.ntTick_frame (le := ?le); case le => decide)
    | (with_reducible apply State.outFrame_frame (le := ?le); case le => decide)
    | (with_reducible apply State.shotsTick_frame (le := ?le); case le => decide)
    | (with_reducible apply Frame.upd_count (le := ?le); case le => decide)
    | (with_reducible apply Frame.upd_loadIn_ticks (le := ?le); case le => decide))

end Sys2Proof.Machine
end

