-- ==== Sys2Proof/Laws/FramesPages.lean ====
section
/-!
SUPPORT. The field frames of the operations of Machine/Pages.lean: the fields of the state that each may change.
-/
namespace Sys2Proof.Machine

theorem State.plainWrite_frame (s : State) (x0) (x1) (x2) (x3) (x4) {w : Nat} {s₀ : State} (h : Frame w s₀ s)
    (le : 72057594037928064 ||| w = w) : Frame w s₀ (State.plainWrite s x0 x1 x2 x3 x4) := by
  unfold State.plainWrite
  dsimp -proj only
  split
  · exact h
  · exact State.setReg_frame _ _ _ (Frame.foldlFst h fun t x => by
      unfold Guard.apply
      dsimp -proj only
      split
      · exact State.err_frame _ _ _ _ (Frame.refl _ _) (mask_le (by decide) le)
      · exact Frame.refl _ _) (mask_le (by decide) le)

end Sys2Proof.Machine
end

