-- ==== Sys2Proof/Laws/FramesBus.lean ====
section
/-!
SUPPORT. The field frames of the operations of Machine/Bus.lean: the fields of the state that each may change.
-/
namespace Sys2Proof.Machine

theorem State.calWritten_frame (s : State) (x0) {w : Nat} {s₀ : State} (h : Frame w s₀ s) (le : 117093603196534912 ||| w = w) :
    Frame w s₀ (State.calWritten s x0) := by
  refine h.step ?_ le
  unfold State.calWritten
  try dsimp -proj only
  repeat' (first
    | with_reducible exact Frame.refl _ _
    | with_reducible apply Frame.ite
    | (with_reducible apply State.calAbort_frame (le := ?le); case le => decide)
    | (with_reducible apply State.calGo_frame (le := ?le); case le => decide)
    | (with_reducible apply State.calRestore_frame (le := ?le); case le => decide)
    | (with_reducible apply State.calStore_frame (le := ?le); case le => decide))

theorem State.recoverFree_frame (s : State) {w : Nat} {s₀ : State} (h : Frame w s₀ s) (le : 396879717162025088 ||| w = w) :
    Frame w s₀ (State.recoverFree s) := by
  refine h.step ?_ le
  unfold State.recoverFree
  try dsimp -proj only
  repeat' (first
    | with_reducible exact Frame.refl _ _
    | with_reducible apply Frame.ite
    | (with_reducible apply State.recoverGo_frame (le := ?le); case le => decide)
    | (with_reducible apply State.tookFree_frame (le := ?le); case le => decide))

theorem State.after_frame (s : State) (x0) (x1) (x2) (x3) (x4) (x5) (x6) {w : Nat} {s₀ : State} (h : Frame w s₀ s) (le : 432345564226518973 ||| w = w) :
    Frame w s₀ (State.after s x0 x1 x2 x3 x4 x5 x6) := by
  refine h.step ?_ le
  unfold State.after
  try dsimp -proj only
  repeat' (first
    | with_reducible exact Frame.refl _ _
    | with_reducible apply Frame.ite
    | (with_reducible apply State.accErr_frame (le := ?le); case le => decide)
    | (with_reducible apply State.adcWritten_frame (le := ?le); case le => decide)
    | (with_reducible apply State.announceChange_frame (le := ?le); case le => decide)
    | (with_reducible apply State.armSync_frame (le := ?le); case le => decide)
    | (with_reducible apply State.btxGo_frame (le := ?le); case le => decide)
    | (with_reducible apply State.calWritten_frame (le := ?le); case le => decide)
    | (with_reducible apply State.coefGo_frame (le := ?le); case le => decide)
    | (with_reducible apply State.dbgLock_frame (le := ?le); case le => decide)
    | (with_reducible apply State.faultClear_frame (le := ?le); case le => decide)
    | (with_reducible apply State.fluxStore_frame (le := ?le); case le => decide)
    | (with_reducible apply State.forceWritten_frame (le := ?le); case le => decide)
    | (with_reducible apply State.handGo_frame (le := ?le); case le => decide)
    | (with_reducible apply State.kstartWritten_frame (le := ?le); case le => decide)
    | (with_reducible apply State.levelWritten_frame (le := ?le); case le => decide)
    | (with_reducible apply State.modFlux_frame (le := ?le); case le => decide)
    | (with_reducible apply State.ntIncWritten_frame (le := ?le); case le => decide)
    | (with_reducible apply State.ntStepGo_frame (le := ?le); case le => decide)
    | (with_reducible apply State.nvStoreGo_frame (le := ?le); case le => decide)
    | (with_reducible apply State.outWritten_frame (le := ?le); case le => decide)
    | (with_reducible apply State.portsWritten_frame (le := ?le); case le => decide)
    | (with_reducible apply State.recoverFree_frame (le := ?le); case le => decide)
    | (with_reducible apply State.reqGo_frame (le := ?le); case le => decide)
    | (with_reducible apply State.routSwap_frame (le := ?le); case le => decide)
    | (with_reducible apply State.routWritten_frame (le := ?le); case le => decide)
    | (with_reducible apply State.sfeReq_frame (le := ?le); case le => decide)
    | (with_reducible apply State.toneWritten_frame (le := ?le); case le => decide)
    | (with_reducible apply State.txGo_frame (le := ?le); case le => decide)
    | (with_reducible apply State.unfreezeGo_frame (le := ?le); case le => decide)
    | (with_reducible apply State.wakeGo_frame (le := ?le); case le => decide)
    | (with_reducible apply State.warmGo_frame (le := ?le); case le => decide)
    | split)

theorem State.attachWrite_frame (s : State) (x0) (x1) (x2) (x3) {w : Nat} {s₀ : State} (h : Frame w s₀ s) (le : 72057594037928064 ||| w = w) :
    Frame w s₀ (State.attachWrite s x0 x1 x2 x3) := by
  refine h.step ?_ le
  unfold State.attachWrite
  try dsimp -proj only
  repeat' (first
    | with_reducible exact Frame.refl _ _
    | with_reducible apply Frame.ite
    | (with_reducible apply State.err_frame (le := ?le); case le => decide)
    | (with_reducible apply State.plainWrite_frame (le := ?le); case le => decide))

theorem State.bar2Read_frame (s : State) (x0) (x1) (x2) {w : Nat} {s₀ : State} (h : Frame w s₀ s) (le : 252201579132747904 ||| w = w) :
    Frame w s₀ (State.bar2Read s x0 x1 x2) := by
  refine h.step ?_ le
  unfold State.bar2Read
  try dsimp -proj only
  repeat' (first
    | with_reducible exact Frame.refl _ _
    | with_reducible apply Frame.ite
    | (with_reducible apply State.bar2Get_frame (le := ?le); case le => decide)
    | (with_reducible apply State.err_frame (le := ?le); case le => decide)
    | (with_reducible apply State.raise_frame (le := ?le); case le => decide)
    | (with_reducible apply State.setFld_frame (le := ?le); case le => decide)
    | split)

theorem State.bar4Write_frame (s : State) (x0) (x1) (x2) (x3) (x4) {w : Nat} {s₀ : State} (h : Frame w s₀ s) (le : 108086391087136896 ||| w = w) :
    Frame w s₀ (State.bar4Write s x0 x1 x2 x3 x4) := by
  refine h.step ?_ le
  unfold State.bar4Write
  try dsimp -proj only
  repeat' (first
    | with_reducible exact Frame.refl _ _
    | with_reducible apply Frame.ite
    | (with_reducible apply State.accErr_frame (le := ?le); case le => decide)
    | (with_reducible apply State.doorbell_frame (le := ?le); case le => decide)
    | (with_reducible apply State.msixTableWrite_frame (le := ?le); case le => decide))

theorem State.preWrite_frame (s : State) (x0) (x1) (x2) {w : Nat} {s₀ : State} (h : Frame w s₀ s) (le : 30064771200 ||| w = w) :
    Frame w s₀ (State.preWrite s x0 x1 x2) := by
  refine h.step ?_ le
  unfold State.preWrite
  try dsimp -proj only
  repeat' (first
    | with_reducible exact Frame.refl _ _
    | with_reducible apply Frame.ite
    | (with_reducible apply State.adcBeforeWrite_frame (le := ?le); case le => decide)
    | (with_reducible apply State.outBeforeWrite_frame (le := ?le); case le => decide)
    | (with_reducible apply State.routBeforeWrite_frame (le := ?le); case le => decide)
    | split)

theorem State.budgetPut_frame (s : State) (x0) (x1) (x2) (x3) (x4) {w : Nat} {s₀ : State} (h : Frame w s₀ s) (le : 72057594037928064 ||| w = w) :
    Frame w s₀ (State.budgetPut s x0 x1 x2 x3 x4) := by
  refine h.step ?_ le
  unfold State.budgetPut
  try dsimp -proj only
  repeat' (first
    | with_reducible exact Frame.refl _ _
    | with_reducible apply Frame.ite
    | (with_reducible apply State.err_frame (le := ?le); case le => decide)
    | (with_reducible apply State.setReg_frame (le := ?le); case le => decide))

theorem State.fnSpecial_frame (s : State) (x0) (x1) (x2) (x3) (x4) {t : State} (e : State.fnSpecial s x0 x1 x2 x3 x4 = some t) {w : Nat} {s₀ : State} (h : Frame w s₀ s) (le : 72057594040090752 ||| w = w) :
    Frame w s₀ t := by
  refine h.step ?_ le
  unfold State.fnSpecial at e
  try dsimp -proj only at e
  repeat' split at e
  all_goals first | (cases e; done) | (injection e with e; subst e) | skip
  repeat' (first
    | with_reducible exact Frame.refl _ _
    | with_reducible apply Frame.ite
    | (with_reducible apply State.accErr_frame (le := ?le); case le => decide)
    | (with_reducible apply State.budgetPut_frame (le := ?le); case le => decide)
    | (with_reducible apply State.err_frame (le := ?le); case le => decide)
    | (with_reducible apply State.partitionWrite_frame (le := ?le); case le => decide)
    | (with_reducible apply State.quotaWrite_frame (le := ?le); case le => decide)
    | (with_reducible apply State.ringCtl_frame (le := ?le); case le => decide)
    | (with_reducible apply State.ringField_frame (le := ?le); case le => decide)
    | (with_reducible apply State.setFld_frame (le := ?le); case le => decide)
    | split)

theorem State.loaderWrite_frame (s : State) (x0) (x1) {w : Nat} {s₀ : State} (h : Frame w s₀ s) (le : 72057594037930112 ||| w = w) :
    Frame w s₀ (State.loaderWrite s x0 x1) := by
  refine h.step ?_ le
  unfold State.loaderWrite
  try dsimp -proj only
  repeat' (first
    | with_reducible exact Frame.refl _ _
    | with_reducible apply Frame.ite
    | (with_reducible apply State.applyGo_frame (le := ?le); case le => decide)
    | (with_reducible apply State.err_frame (le := ?le); case le => decide)
    | (with_reducible apply State.plainWrite_frame (le := ?le); case le => decide)
    | (with_reducible apply State.verifyGo_frame (le := ?le); case le => decide))

theorem State.special_frame (s : State) (x0) (x1) (x2) (x3) (x4) (x5) {t : State} (e : State.special s x0 x1 x2 x3 x4 x5 = some t) {w : Nat} {s₀ : State} (h : Frame w s₀ s) (le : 252841612632230528 ||| w = w) :
    Frame w s₀ t := by
  refine h.step ?_ le
  unfold State.special at e
  try dsimp -proj only at e
  repeat' split at e
  all_goals first | (cases e; done) | (injection e with e; subst e) | skip
  repeat' (first
    | with_reducible exact Frame.refl _ _
    | with_reducible apply Frame.ite
    | with_reducible apply Frame.foldl
    | intro _ _
    | (with_reducible apply State.attachWrite_frame (le := ?le); case le => decide)
    | (with_reducible apply State.budgetPut_frame (le := ?le); case le => decide)
    | (with_reducible apply State.cmapAccess_frame (le := ?le); case le => decide)
    | (with_reducible apply State.coefWrite_frame (le := ?le); case le => decide)
    | (with_reducible apply State.dGoWrite_frame (le := ?le); case le => decide)
    | (with_reducible apply State.dbgCode_frame (le := ?le); case le => decide)
    | (with_reducible apply State.evConfig_frame (le := ?le); case le => decide)
    | (with_reducible apply State.evFire_frame (le := ?le); case le => decide)
    | (with_reducible apply State.fnSpecial_frame (le := ?le) (e := by assumption); case le => decide)
    | (with_reducible apply State.fnSpecial_frame (le := ?le) (e := Frame.some_ite (by assumption)); case le => decide)
    | (with_reducible apply State.frameClear_frame (le := ?le); case le => decide)
    | (with_reducible apply State.frameXor_frame (le := ?le); case le => decide)
    | (with_reducible apply State.kdataWrite_frame (le := ?le); case le => decide)
    | (with_reducible apply State.keyRevoke_frame (le := ?le); case le => decide)
    | (with_reducible apply State.loaderWrite_frame (le := ?le); case le => decide)
    | (with_reducible apply State.regionWrite_frame (le := ?le); case le => decide)
    | (with_reducible apply State.rtAccess_frame (le := ?le); case le => decide)
    | (with_reducible apply State.setReg_frame (le := ?le); case le => decide)
    | (with_reducible apply State.tileEnPut_frame (le := ?le); case le => decide)
    | split)

theorem State.blockWrite_frame (s : State) (x0) (x1) (x2) (x3) (x4) (x5) {w : Nat} {s₀ : State} (h : Frame w s₀ s) (le : 576460752302374845 ||| w = w) :
    Frame w s₀ (State.blockWrite s x0 x1 x2 x3 x4 x5) := by
  refine h.step ?_ le
  unfold State.blockWrite
  try dsimp -proj only
  repeat' (first
    | with_reducible exact Frame.refl _ _
    | (with_reducible apply State.after_frame (le := ?le); case le => decide)
    | (with_reducible apply State.plainWrite_frame (le := ?le); case le => decide)
    | (with_reducible apply State.preWrite_frame (le := ?le); case le => decide)
    | (with_reducible apply State.special_frame (le := ?le) (e := by assumption); case le => decide)
    | split)

theorem State.budgetWrite_frame (s : State) (x0) (x1) (x2) (x3) (x4) {w : Nat} {s₀ : State} (h : Frame w s₀ s) (le : 72057594037928064 ||| w = w) :
    Frame w s₀ (State.budgetWrite s x0 x1 x2 x3 x4) := by
  refine h.step ?_ le
  unfold State.budgetWrite
  try dsimp -proj only
  repeat' (first
    | with_reducible exact Frame.refl _ _
    | with_reducible apply Frame.ite
    | (with_reducible apply State.accErr_frame (le := ?le); case le => decide)
    | (with_reducible apply State.budgetPut_frame (le := ?le); case le => decide))

theorem State.holdAccess_frame (s : State) (x0) (x1) {w : Nat} {s₀ : State} (h : Frame w s₀ s) (le : 36028797019095168 ||| w = w) :
    Frame w s₀ (State.holdAccess s x0 x1) := by
  refine h.step ?_ le
  unfold State.holdAccess
  try dsimp -proj only
  repeat' (first
    | with_reducible exact Frame.refl _ _
    | with_reducible apply Frame.ite
    | (with_reducible apply State.inc_frame (le := ?le); case le => decide)
    | (with_reducible apply State.modFn_frame (le := ?le); case le => decide)
    | (with_reducible apply State.raise_frame (le := ?le); case le => decide))

theorem State.chargeHostWord_frame (s : State) (x0) {t : State} (e : State.chargeHostWord s x0 = some t) {w : Nat} {s₀ : State} (h : Frame w s₀ s) (le : 32768 ||| w = w) :
    Frame w s₀ t := by
  refine h.step ?_ le
  unfold State.chargeHostWord at e
  try dsimp -proj only at e
  repeat' split at e
  all_goals first | (cases e; done) | (injection e with e; subst e) | skip
  repeat' (first
    | with_reducible exact Frame.refl _ _
    | (with_reducible apply State.chargeAccess_frame (le := ?le) (e := by assumption); case le => decide))

theorem State.hostBlocks_frame (s : State) (f) (k) (x1) (x2) {w : Nat} {s₀ : State} (h : Frame w s₀ s)
    (le : 108086391080009856 ||| w = w) : Frame w s₀ (State.hostBlocks s f k x1 x2).1 := by
  induction k generalizing s x1 x2 with
  | zero => unfold State.hostBlocks; exact h
  | succ k ih =>
    cases x2 with
    | nil => unfold State.hostBlocks; exact h
    | cons x l =>
      unfold State.hostBlocks
      split
      · rename_i t e
        exact ih _ _ _ (State.bar2Put_frame _ _ _ _ _ (State.newCycle_frame _ (State.chargeHostWord_frame _ _ e h (mask_le (by decide) le)) (mask_le (by decide) le)) (mask_le (by decide) le))
      · exact h

theorem State.pageDisable_frame (s : State) (x0) (x1) {w : Nat} {s₀ : State} (h : Frame w s₀ s) (le : 40921793413776512 ||| w = w) :
    Frame w s₀ (State.pageDisable s x0 x1) := by
  refine h.step ?_ le
  unfold State.pageDisable
  try dsimp -proj only
  repeat' (first
    | with_reducible exact Frame.refl _ _
    | (with_reducible apply State.acqDisable_frame (le := ?le); case le => decide)
    | (with_reducible apply State.adcDisable_frame (le := ?le); case le => decide)
    | (with_reducible apply State.ethOff_frame (le := ?le); case le => decide)
    | (with_reducible apply State.fluxDisable_frame (le := ?le); case le => decide)
    | (with_reducible apply State.laneEnd_frame (le := ?le); case le => decide)
    | (with_reducible apply State.outDisable_frame (le := ?le); case le => decide)
    | (with_reducible apply State.routDisable_frame (le := ?le); case le => decide)
    | (with_reducible apply State.seqDisable_frame (le := ?le); case le => decide)
    | (with_reducible apply State.setEnable_frame (le := ?le); case le => decide)
    | (with_reducible apply State.sfeDisable_frame (le := ?le); case le => decide)
    | (with_reducible apply State.synDisable_frame (le := ?le); case le => decide)
    | (with_reducible apply State.toneDisable_frame (le := ?le); case le => decide)
    | split)

theorem State.pageEnable_frame (s : State) (x0) (x1) {w : Nat} {s₀ : State} (h : Frame w s₀ s) (le : 76950590432740480 ||| w = w) :
    Frame w s₀ (State.pageEnable s x0 x1) := by
  refine h.step ?_ le
  unfold State.pageEnable
  try dsimp -proj only
  repeat' (first
    | with_reducible exact Frame.refl _ _
    | (with_reducible apply State.acqEnable_frame (le := ?le); case le => decide)
    | (with_reducible apply State.adcEnable_frame (le := ?le); case le => decide)
    | (with_reducible apply State.ethOn_frame (le := ?le); case le => decide)
    | (with_reducible apply State.fluxEnable_frame (le := ?le); case le => decide)
    | (with_reducible apply State.laneStart_frame (le := ?le); case le => decide)
    | (with_reducible apply State.outEnable_frame (le := ?le); case le => decide)
    | (with_reducible apply State.routEnable_frame (le := ?le); case le => decide)
    | (with_reducible apply State.seqEnable_frame (le := ?le); case le => decide)
    | (with_reducible apply State.setEnable_frame (le := ?le); case le => decide)
    | (with_reducible apply State.sfeEnable_frame (le := ?le); case le => decide)
    | (with_reducible apply State.synEnable_frame (le := ?le); case le => decide)
    | (with_reducible apply State.toneEnable_frame (le := ?le); case le => decide)
    | split)

theorem State.pageKill_frame (s : State) (x0) (x1) {w : Nat} {s₀ : State} (h : Frame w s₀ s) (le : 121996757346911360 ||| w = w) :
    Frame w s₀ (State.pageKill s x0 x1) := by
  refine h.step ?_ le
  unfold State.pageKill
  try dsimp -proj only
  repeat' (first
    | with_reducible exact Frame.refl _ _
    | (with_reducible apply State.acqKillNow_frame (le := ?le); case le => decide)
    | (with_reducible apply State.adcKillNow_frame (le := ?le); case le => decide)
    | (with_reducible apply State.ethKill_frame (le := ?le); case le => decide)
    | (with_reducible apply State.evgKill_frame (le := ?le); case le => decide)
    | (with_reducible apply State.fluxDisableNow_frame (le := ?le); case le => decide)
    | (with_reducible apply State.jportKill_frame (le := ?le); case le => decide)
    | (with_reducible apply State.laneKill_frame (le := ?le); case le => decide)
    | (with_reducible apply State.outKillNow_frame (le := ?le); case le => decide)
    | (with_reducible apply State.routKill_frame (le := ?le); case le => decide)
    | (with_reducible apply State.seqDisableNow_frame (le := ?le); case le => decide)
    | (with_reducible apply State.sfeDisableNow_frame (le := ?le); case le => decide)
    | (with_reducible apply State.synKill_frame (le := ?le); case le => decide)
    | (with_reducible apply State.toneDisableNow_frame (le := ?le); case le => decide)
    | split)

theorem State.ctlWrite_frame (s : State) (x0) (x1) (x2) (x3) {w : Nat} {s₀ : State} (h : Frame w s₀ s) (le : 122014349532955776 ||| w = w) :
    Frame w s₀ (State.ctlWrite s x0 x1 x2 x3) := by
  refine h.step ?_ le
  unfold State.ctlWrite
  try dsimp -proj only
  repeat' (first
    | with_reducible exact Frame.refl _ _
    | with_reducible apply Frame.ite
    | (with_reducible apply State.armNow_frame (le := ?le); case le => decide)
    | (with_reducible apply State.fireNow_frame (le := ?le); case le => decide)
    | (with_reducible apply State.pageDisable_frame (le := ?le); case le => decide)
    | (with_reducible apply State.pageEnable_frame (le := ?le); case le => decide)
    | (with_reducible apply State.pageKill_frame (le := ?le); case le => decide)
    | (with_reducible apply State.snapGo_frame (le := ?le); case le => decide))

theorem State.headerWrite_frame (s : State) (x0) (x1) (x2) (x3) (x4) (x5) {w : Nat} {s₀ : State} (h : Frame w s₀ s) (le : 122014349532955776 ||| w = w) :
    Frame w s₀ (State.headerWrite s x0 x1 x2 x3 x4 x5) := by
  refine h.step ?_ le
  unfold State.headerWrite
  try dsimp -proj only
  repeat' (first
    | with_reducible exact Frame.refl _ _
    | with_reducible apply Frame.ite
    | (with_reducible apply State.budgetWrite_frame (le := ?le); case le => decide)
    | (with_reducible apply State.ctlWrite_frame (le := ?le); case le => decide)
    | (with_reducible apply State.edge_frame (le := ?le); case le => decide)
    | (with_reducible apply State.raiseBits_frame (le := ?le); case le => decide)
    | (with_reducible apply State.setReg_frame (le := ?le); case le => decide)
    | split)

theorem State.ownerPut_frame (s : State) (x0) (x1) (x2) (x3) (x4) {w : Nat} {s₀ : State} (h : Frame w s₀ s) (le : 72057594037928064 ||| w = w) :
    Frame w s₀ (State.ownerPut s x0 x1 x2 x3 x4) := by
  refine h.step ?_ le
  unfold State.ownerPut
  try dsimp -proj only
  repeat' (first
    | with_reducible exact Frame.refl _ _
    | with_reducible apply Frame.ite
    | (with_reducible apply State.accErr_frame (le := ?le); case le => decide)
    | (with_reducible apply State.err_frame (le := ?le); case le => decide)
    | (with_reducible apply State.setReg_frame (le := ?le); case le => decide))

theorem State.pageWrite_frame (s : State) (x0) (x1) (x2) (x3) (x4) (x5) {w : Nat} {s₀ : State} (h : Frame w s₀ s) (le : 576460752302374845 ||| w = w) :
    Frame w s₀ (State.pageWrite s x0 x1 x2 x3 x4 x5) := by
  refine h.step ?_ le
  unfold State.pageWrite
  try dsimp -proj only
  repeat' (first
    | with_reducible exact Frame.refl _ _
    | with_reducible apply Frame.ite
    | (with_reducible apply State.accErr_frame (le := ?le); case le => decide)
    | (with_reducible apply State.blockWrite_frame (le := ?le); case le => decide)
    | (with_reducible apply State.headerWrite_frame (le := ?le); case le => decide)
    | (with_reducible apply State.ownerPut_frame (le := ?le); case le => decide)
    | split)

theorem State.reservedAccess_frame (s : State) (x0) (x1) (x2) {w : Nat} {s₀ : State} (h : Frame w s₀ s) (le : 108086391056892032 ||| w = w) :
    Frame w s₀ (State.reservedAccess s x0 x1 x2) := by
  refine h.step ?_ le
  unfold State.reservedAccess
  try dsimp -proj only
  repeat' (first
    | with_reducible exact Frame.refl _ _
    | with_reducible apply Frame.ite
    | (with_reducible apply State.accErr_frame (le := ?le); case le => decide)
    | (with_reducible apply State.inc_frame (le := ?le); case le => decide)
    | (with_reducible apply State.raise_frame (le := ?le); case le => decide))

theorem State.wordWrite_frame (s : State) (x0) (x1) (x2) (x3) {w : Nat} {s₀ : State} (h : Frame w s₀ s) (le : 576460752302374845 ||| w = w) :
    Frame w s₀ (State.wordWrite s x0 x1 x2 x3) := by
  refine h.step ?_ le
  unfold State.wordWrite
  try dsimp -proj only
  repeat' (first
    | with_reducible exact Frame.refl _ _
    | with_reducible apply Frame.ite
    | (with_reducible apply State.pageWrite_frame (le := ?le); case le => decide)
    | (with_reducible apply State.reservedAccess_frame (le := ?le); case le => decide)
    | split)

theorem State.hostWords_frame (s : State) (f) (x1) (x2) {w : Nat} {s₀ : State} (h : Frame w s₀ s)
    (le : 576460752302374845 ||| w = w) : Frame w s₀ (State.hostWords s f x1 x2).1 := by
  induction x2 generalizing s x1 with
  | nil => exact h
  | cons x l ih =>
    unfold State.hostWords
    split
    · rename_i t e
      exact ih _ _ (State.wordWrite_frame _ _ _ _ _ (State.newCycle_frame _ (State.chargeHostWord_frame _ _ e h (mask_le (by decide) le)) (mask_le (by decide) le)) (mask_le (by decide) le))
    · exact h

theorem State.pageGet_frame (s : State) (x0) (x1) (x2) {w : Nat} {s₀ : State} (h : Frame w s₀ s) (le : 252346715741357184 ||| w = w) :
    Frame w s₀ (State.pageGet s x0 x1 x2) := by
  refine h.step ?_ le
  unfold State.pageGet
  try dsimp -proj only
  repeat' (first
    | with_reducible exact Frame.refl _ _
    | (with_reducible apply State.cmapAccess_frame (le := ?le); case le => decide)
    | (with_reducible apply State.kdataRead_frame (le := ?le); case le => decide)
    | (with_reducible apply State.modSeq_frame (le := ?le); case le => decide)
    | (with_reducible apply State.ntGet_frame (le := ?le); case le => decide)
    | (with_reducible apply State.resRead_frame (le := ?le); case le => decide)
    | (with_reducible apply State.respond_frame (le := ?le); case le => decide)
    | (with_reducible apply State.rtAccess_frame (le := ?le); case le => decide)
    | (with_reducible apply State.shDataGet_frame (le := ?le); case le => decide)
    | (with_reducible apply State.tlNowGet_frame (le := ?le); case le => decide)
    | (with_reducible apply State.trimGet_frame (le := ?le); case le => decide)
    | split)

theorem State.wordRead_frame (s : State) (x0) (x1) {w : Nat} {s₀ : State} (h : Frame w s₀ s) (le : 252346715741357184 ||| w = w) :
    Frame w s₀ (State.wordRead s x0 x1) := by
  refine h.step ?_ le
  unfold State.wordRead
  try dsimp -proj only
  repeat' (first
    | with_reducible exact Frame.refl _ _
    | with_reducible apply Frame.ite
    | (with_reducible apply State.accErr_frame (le := ?le); case le => decide)
    | (with_reducible apply State.pageGet_frame (le := ?le); case le => decide)
    | (with_reducible apply State.reservedAccess_frame (le := ?le); case le => decide)
    | (with_reducible apply State.respond_frame (le := ?le); case le => decide)
    | split)

theorem State.tryAccess_frame (s : State) (x0) (x1) {w : Nat} {s₀ : State} (h : Frame w s₀ s) (le : 576460752302374845 ||| w = w) :
    Frame w s₀ (State.tryAccess s x0 x1).1 := by
  refine h.step ?_ le
  unfold State.tryAccess
  try dsimp -proj only
  repeat' (first
    | with_reducible exact Frame.refl _ _
    | with_reducible apply Frame.ite
    | (with_reducible apply State.bar2Read_frame (le := ?le); case le => decide)
    | (with_reducible apply State.chargeHostWord_frame (le := ?le) (e := by assumption); case le => decide)
    | (with_reducible apply State.chargeHostWord_frame (le := ?le) (e := Frame.some_ite (by assumption)); case le => decide)
    | (with_reducible apply State.hostBlocks_frame (le := ?le); case le => decide)
    | (with_reducible apply State.hostWords_frame (le := ?le); case le => decide)
    | (with_reducible apply State.newCycle_frame (le := ?le); case le => decide)
    | (with_reducible apply State.respond_frame (le := ?le); case le => decide)
    | (with_reducible apply State.wordRead_frame (le := ?le); case le => decide)
    | split
    | with_reducible apply Frame.fst_ite
    | with_reducible apply Frame.pair)

theorem State.hostAccess_frame (s : State) (x0) (x1) {w : Nat} {s₀ : State} (h : Frame w s₀ s)
    (le : 576460752302374845 ||| w = w) : Frame w s₀ (State.hostAccess s x0 x1) := by
  unfold State.hostAccess
  have k := State.tryAccess_frame s x0 x1 h (mask_le (by decide) le)
  repeat' (first
    | with_reducible apply Frame.ite
    | exact h
    | exact State.respond_frame _ _ h (mask_le (by decide) le)
    | exact State.holdAccess_frame _ _ _ h (mask_le (by decide) le)
    | split)
  · rename_i e; rw [e] at k; exact k
  · rename_i e; rw [e] at k; exact State.holdAccess_frame _ _ _ k (mask_le (by decide) le)

theorem State.busGet_frame (s : State) (x0) (x1) {w : Nat} {s₀ : State} (h : Frame w s₀ s) (le : 576460752302374845 ||| w = w) :
    Frame w s₀ (State.busGet s x0 x1) := by
  refine h.step ?_ le
  unfold State.busGet
  try dsimp -proj only
  repeat' (first
    | with_reducible exact Frame.refl _ _
    | (with_reducible apply State.hostAccess_frame (le := ?le); case le => decide)
    | (with_reducible apply State.newCycle_frame (le := ?le); case le => decide)
    | (with_reducible apply State.wordRead_frame (le := ?le); case le => decide)
    | split)

theorem State.busGet2_frame (s : State) (x0) (x1) (x2) {w : Nat} {s₀ : State} (h : Frame w s₀ s) (le : 576460752302374845 ||| w = w) :
    Frame w s₀ (State.busGet2 s x0 x1 x2) := by
  refine h.step ?_ le
  unfold State.busGet2
  try dsimp -proj only
  repeat' (first
    | with_reducible exact Frame.refl _ _
    | with_reducible apply Frame.ite
    | (with_reducible apply State.bar2Read_frame (le := ?le); case le => decide)
    | (with_reducible apply State.hostAccess_frame (le := ?le); case le => decide)
    | (with_reducible apply State.respond_frame (le := ?le); case le => decide)
    | split)

theorem State.writeWords_frame (s : State) (x0) (x1) (x2) {w : Nat} {s₀ : State} (h : Frame w s₀ s)
    (le : 576460752302374845 ||| w = w) : Frame w s₀ (State.writeWords s x0 x1 x2) := by
  induction x2 generalizing s x1 with
  | nil => exact h
  | cons x l ih => exact ih _ _ (State.wordWrite_frame _ _ _ _ _ (State.newCycle_frame _ h (mask_le (by decide) le)) (mask_le (by decide) le))

theorem State.busWrite_frame (s : State) (x0) (x1) (x2) {w : Nat} {s₀ : State} (h : Frame w s₀ s) (le : 576460752302374845 ||| w = w) :
    Frame w s₀ (State.busWrite s x0 x1 x2) := by
  refine h.step ?_ le
  unfold State.busWrite
  try dsimp -proj only
  repeat' (first
    | with_reducible exact Frame.refl _ _
    | with_reducible apply Frame.ite
    | with_reducible apply Frame.foldl
    | intro _ _
    | (with_reducible apply State.accErr_frame (le := ?le); case le => decide)
    | (with_reducible apply State.bar4Write_frame (le := ?le); case le => decide)
    | (with_reducible apply State.hostAccess_frame (le := ?le); case le => decide)
    | (with_reducible apply State.writeWords_frame (le := ?le); case le => decide)
    | split)

theorem State.busPut_frame (s : State) (x0) (x1) (x2) {w : Nat} {s₀ : State} (h : Frame w s₀ s) (le : 576460752302374845 ||| w = w) :
    Frame w s₀ (State.busPut s x0 x1 x2) := by
  refine h.step ?_ le
  unfold State.busPut
  try dsimp -proj only
  repeat' (first
    | with_reducible exact Frame.refl _ _
    | (with_reducible apply State.busWrite_frame (le := ?le); case le => decide))

theorem State.busWrite2_frame (s : State) (x0) (x1) (x2) {w : Nat} {s₀ : State} (h : Frame w s₀ s) (le : 576460752302374845 ||| w = w) :
    Frame w s₀ (State.busWrite2 s x0 x1 x2) := by
  refine h.step ?_ le
  unfold State.busWrite2
  try dsimp -proj only
  repeat' (first
    | with_reducible exact Frame.refl _ _
    | with_reducible apply Frame.ite
    | (with_reducible apply State.bar2Put_frame (le := ?le); case le => decide)
    | (with_reducible apply State.hostAccess_frame (le := ?le); case le => decide)
    | split)

theorem State.serveHeld_frame (s : State) (f) (k) {w : Nat} {s₀ : State} (h : Frame w s₀ s)
    (le : 576460752302374845 ||| w = w) : Frame w s₀ (State.serveHeld s f k) := by
  induction k generalizing s with
  | zero => unfold State.serveHeld; exact h
  | succ k ih =>
    unfold State.serveHeld
    split
    · exact h
    · rename_i x xs _
      have j := State.tryAccess_frame s f x h (mask_le (by decide) le)
      split
      · rename_i e; rw [e] at j; exact ih _ (State.modFn_frame _ _ _ j (mask_le (by decide) le))
      · rename_i e; rw [e] at j; exact State.modFn_frame _ _ _ j (mask_le (by decide) le)

end Sys2Proof.Machine
end

