-- ==== Sys2Proof/Laws/FramesDebug.lean ====
section
/-!
SUPPORT. The field frames of the operations of Machine/Debug.lean: the fields of the state that each may change.
-/
namespace Sys2Proof.Machine

theorem State.dbgDone_frame (s : State) (x0) (x1) {w : Nat} {s₀ : State} (h : Frame w s₀ s) (le : 562949953421312 ||| w = w) :
    Frame w s₀ (State.dbgDone s x0 x1) := by
  refine h.step ?_ le
  unfold State.dbgDone
  try dsimp -proj only
  repeat' (first
    | with_reducible exact Frame.refl _ _
    | (with_reducible apply State.modPower_frame (le := ?le); case le => decide))

theorem State.dbgHalt_frame (s : State) (x0) {w : Nat} {s₀ : State} (h : Frame w s₀ s) (le : 137438954496 ||| w = w) :
    Frame w s₀ (State.dbgHalt s x0) := by
  refine h.step ?_ le
  unfold State.dbgHalt
  try dsimp -proj only
  repeat' (first
    | with_reducible exact Frame.refl _ _
    | with_reducible apply Frame.ite
    | (with_reducible apply State.modLane_frame (le := ?le); case le => decide)
    | (with_reducible apply State.modSeq_frame (le := ?le); case le => decide)
    | split)

theorem State.dbgRegPut_frame (s : State) (x0) (x1) (x2) {w : Nat} {s₀ : State} (h : Frame w s₀ s) (le : 1152 ||| w = w) :
    Frame w s₀ (State.dbgRegPut s x0 x1 x2) := by
  refine h.step ?_ le
  unfold State.dbgRegPut
  try dsimp -proj only
  repeat' (first
    | with_reducible exact Frame.refl _ _
    | with_reducible apply Frame.ite
    | (with_reducible apply State.modSeq_frame (le := ?le); case le => decide)
    | (with_reducible apply State.setFld_frame (le := ?le); case le => decide)
    | split)

theorem State.dbgResume_frame (s : State) (x0) {w : Nat} {s₀ : State} (h : Frame w s₀ s) (le : 137438954496 ||| w = w) :
    Frame w s₀ (State.dbgResume s x0) := by
  refine h.step ?_ le
  unfold State.dbgResume
  try dsimp -proj only
  repeat' (first
    | with_reducible exact Frame.refl _ _
    | with_reducible apply Frame.ite
    | (with_reducible apply State.modLane_frame (le := ?le); case le => decide)
    | (with_reducible apply State.modSeq_frame (le := ?le); case le => decide)
    | split)

theorem State.dbgStep_frame (s : State) (x0) {w : Nat} {s₀ : State} (h : Frame w s₀ s) (le : 137438954496 ||| w = w) :
    Frame w s₀ (State.dbgStep s x0) := by
  refine h.step ?_ le
  unfold State.dbgStep
  try dsimp -proj only
  repeat' (first
    | with_reducible exact Frame.refl _ _
    | with_reducible apply Frame.ite
    | (with_reducible apply State.modLane_frame (le := ?le); case le => decide)
    | (with_reducible apply State.modSeq_frame (le := ?le); case le => decide)
    | split)

theorem State.dbgPut_frame (s : State) (x0) (x1) (x2) {w : Nat} {s₀ : State} (h : Frame w s₀ s) (le : 18014535948436608 ||| w = w) :
    Frame w s₀ (State.dbgPut s x0 x1 x2) := by
  refine h.step ?_ le
  unfold State.dbgPut
  try dsimp -proj only
  repeat' (first
    | with_reducible exact Frame.refl _ _
    | with_reducible apply Frame.ite
    | (with_reducible apply State.dbgHalt_frame (le := ?le); case le => decide)
    | (with_reducible apply State.dbgRegPut_frame (le := ?le); case le => decide)
    | (with_reducible apply State.dbgResume_frame (le := ?le); case le => decide)
    | (with_reducible apply State.dbgStep_frame (le := ?le); case le => decide)
    | (with_reducible apply State.modDbg_frame (le := ?le); case le => decide)
    | split)

theorem State.dbgSpace_frame (s : State) (x0) (x1) {w : Nat} {s₀ : State} (h : Frame w s₀ s) (le : 90635079939785856 ||| w = w) :
    Frame w s₀ (State.dbgSpace s x0 x1) := by
  refine h.step ?_ le
  unfold State.dbgSpace
  try dsimp -proj only
  repeat' (first
    | with_reducible exact Frame.refl _ _
    | (with_reducible apply State.accErr_frame (le := ?le); case le => decide)
    | (with_reducible apply State.dbgDone_frame (le := ?le); case le => decide)
    | (with_reducible apply State.dbgPut_frame (le := ?le); case le => decide)
    | split)

theorem State.dbgAccess_frame (s : State) (x0) (x1) (x2) {w : Nat} {s₀ : State} (h : Frame w s₀ s) (le : 576460752302374845 ||| w = w) :
    Frame w s₀ (State.dbgAccess s x0 x1 x2) := by
  refine h.step ?_ le
  unfold State.dbgAccess
  try dsimp -proj only
  repeat' (first
    | with_reducible exact Frame.refl _ _
    | with_reducible apply Frame.ite
    | (with_reducible apply State.accErr_frame (le := ?le); case le => decide)
    | (with_reducible apply State.bar2Put_frame (le := ?le); case le => decide)
    | (with_reducible apply State.busGet_frame (le := ?le); case le => decide)
    | (with_reducible apply State.busGet2_frame (le := ?le); case le => decide)
    | (with_reducible apply State.busPut_frame (le := ?le); case le => decide)
    | (with_reducible apply State.busWrite2_frame (le := ?le); case le => decide)
    | (with_reducible apply State.dbgDone_frame (le := ?le); case le => decide)
    | (with_reducible apply State.dbgSpace_frame (le := ?le); case le => decide)
    | split)

theorem execDbgAccessPoll_frame (s : State) :
    OutFrame 144115188075855872 s (execDbgAccessPoll s) := by
  unfold execDbgAccessPoll
  try dsimp -proj only
  repeat' (first
    | with_reducible exact OutFrame.same
    | with_reducible apply OutFrame.next
    | with_reducible apply OutFrame.ite
    | with_reducible exact Frame.refl _ _
    | with_reducible apply Frame.ite
    | (with_reducible apply State.respond_frame (le := ?le); case le => decide))

theorem execDbgAccessRead_frame (x0) (x1) (s : State) :
    OutFrame 576460752303423421 s (execDbgAccessRead x0 x1 s) := by
  unfold execDbgAccessRead
  try dsimp -proj only
  repeat' (first
    | (with_reducible apply OutFrame.finish (le := ?le); case le => decide)
    | with_reducible apply OutFrame.ite
    | with_reducible exact Frame.refl _ _
    | with_reducible apply Frame.ite
    | (with_reducible apply State.dbgAccess_frame (le := ?le); case le => decide))

theorem execDbgAccessWrite_frame (x0) (x1) (x2) (s : State) :
    OutFrame 576460752303423421 s (execDbgAccessWrite x0 x1 x2 s) := by
  unfold execDbgAccessWrite
  try dsimp -proj only
  repeat' (first
    | (with_reducible apply OutFrame.finish (le := ?le); case le => decide)
    | with_reducible apply OutFrame.ite
    | with_reducible exact Frame.refl _ _
    | with_reducible apply Frame.ite
    | (with_reducible apply State.dbgAccess_frame (le := ?le); case le => decide))

theorem execDebugHalt_frame (x0) (s : State) :
    OutFrame 576460752303423421 s (execDebugHalt x0 s) := by
  unfold execDebugHalt
  try dsimp -proj only
  repeat' (first
    | (with_reducible apply OutFrame.finish (le := ?le); case le => decide)
    | with_reducible apply OutFrame.ite
    | with_reducible exact Frame.refl _ _
    | with_reducible apply Frame.ite
    | (with_reducible apply State.dbgAccess_frame (le := ?le); case le => decide))

theorem execDebugHaltTaken_frame (x0) (x1) (s : State) :
    OutFrame 126171298569520256 s (execDebugHaltTaken x0 x1 s) := by
  unfold execDebugHaltTaken
  try dsimp -proj only
  repeat' (first
    | (with_reducible apply OutFrame.finish (le := ?le); case le => decide)
    | with_reducible exact OutFrame.same
    | with_reducible apply OutFrame.next
    | with_reducible exact Frame.refl _ _
    | (with_reducible apply State.laneBoundary_frame (le := ?le); case le => decide)
    | (with_reducible apply State.seqHalt_frame (le := ?le); case le => decide)
    | split)

theorem execDebugResume_frame (x0) (s : State) :
    OutFrame 576460752303423421 s (execDebugResume x0 s) := by
  unfold execDebugResume
  try dsimp -proj only
  repeat' (first
    | (with_reducible apply OutFrame.finish (le := ?le); case le => decide)
    | with_reducible apply OutFrame.ite
    | with_reducible exact Frame.refl _ _
    | with_reducible apply Frame.ite
    | (with_reducible apply State.dbgAccess_frame (le := ?le); case le => decide))

theorem execDebugStep_frame (x0) (s : State) :
    OutFrame 576460752303423421 s (execDebugStep x0 s) := by
  unfold execDebugStep
  try dsimp -proj only
  repeat' (first
    | (with_reducible apply OutFrame.finish (le := ?le); case le => decide)
    | with_reducible apply OutFrame.ite
    | with_reducible exact Frame.refl _ _
    | with_reducible apply Frame.ite
    | (with_reducible apply State.dbgAccess_frame (le := ?le); case le => decide))

theorem execRegDataWrite_frame (x0) (x1) (s : State) :
    OutFrame 576460752303423421 s (execRegDataWrite x0 x1 s) := by
  unfold execRegDataWrite
  try dsimp -proj only
  repeat' (first
    | (with_reducible apply OutFrame.finish (le := ?le); case le => decide)
    | with_reducible apply OutFrame.ite
    | with_reducible exact Frame.refl _ _
    | with_reducible apply Frame.ite
    | (with_reducible apply State.dbgAccess_frame (le := ?le); case le => decide))

end Sys2Proof.Machine
end

