-- ==== Sys2Proof/Laws/FramesRegRows.lean ====
section
/-!
SUPPORT. The field frames of the operations of Machine/RegRows.lean: the fields of the state that each may change.
-/
namespace Sys2Proof.Machine

theorem State.putByte_frame (s : State) (x0) (x1) (x2) {w : Nat} {s₀ : State} (h : Frame w s₀ s) (le : 576460752302374845 ||| w = w) :
    Frame w s₀ (State.putByte s x0 x1 x2) := by
  refine h.step ?_ le
  unfold State.putByte
  try dsimp -proj only
  repeat' (first
    | with_reducible exact Frame.refl _ _
    | (with_reducible apply State.busWrite_frame (le := ?le); case le => decide))

theorem State.putCtl_frame (s : State) (x0) (x1) (x2) {w : Nat} {s₀ : State} (h : Frame w s₀ s) (le : 576460752302374845 ||| w = w) :
    Frame w s₀ (State.putCtl s x0 x1 x2) := by
  refine h.step ?_ le
  unfold State.putCtl
  try dsimp -proj only
  repeat' (first
    | with_reducible exact Frame.refl _ _
    | (with_reducible apply State.putByte_frame (le := ?le); case le => decide))

theorem State.putDisable_frame (s : State) (x0) (x1) {w : Nat} {s₀ : State} (h : Frame w s₀ s) (le : 576460752302374845 ||| w = w) :
    Frame w s₀ (State.putDisable s x0 x1) := by
  refine h.step ?_ le
  unfold State.putDisable
  try dsimp -proj only
  repeat' (first
    | with_reducible exact Frame.refl _ _
    | (with_reducible apply State.putByte_frame (le := ?le); case le => decide))

theorem State.putEnable_frame (s : State) (x0) (x1) {w : Nat} {s₀ : State} (h : Frame w s₀ s) (le : 576460752302374845 ||| w = w) :
    Frame w s₀ (State.putEnable s x0 x1) := by
  refine h.step ?_ le
  unfold State.putEnable
  try dsimp -proj only
  repeat' (first
    | with_reducible exact Frame.refl _ _
    | (with_reducible apply State.putByte_frame (le := ?le); case le => decide))

theorem State.putTop_frame (s : State) (x0) (x1) (x2) {w : Nat} {s₀ : State} (h : Frame w s₀ s) (le : 576460752302374845 ||| w = w) :
    Frame w s₀ (State.putTop s x0 x1 x2) := by
  refine h.step ?_ le
  unfold State.putTop
  try dsimp -proj only
  repeat' (first
    | with_reducible exact Frame.refl _ _
    | (with_reducible apply State.busWrite_frame (le := ?le); case le => decide))

theorem State.request_frame (s : State) (x0) (x1) {w : Nat} {s₀ : State} (h : Frame w s₀ s) (le : 576460752302374845 ||| w = w) :
    Frame w s₀ (State.request s x0 x1) := by
  refine h.step ?_ le
  unfold State.request
  try dsimp -proj only
  repeat' (first
    | with_reducible exact Frame.refl _ _
    | (with_reducible apply State.busPut_frame (le := ?le); case le => decide))

theorem execAcqDisableNow_frame (x0) (x1) (s : State) :
    OutFrame 576460752303423421 s (execAcqDisableNow x0 x1 s) := by
  unfold execAcqDisableNow
  try dsimp -proj only
  repeat' (first
    | (with_reducible apply OutFrame.finish (le := ?le); case le => decide)
    | with_reducible exact Frame.refl _ _
    | (with_reducible apply State.putCtl_frame (le := ?le); case le => decide))

theorem execAcqEnable_frame (x0) (x1) (s : State) :
    OutFrame 576460752303423421 s (execAcqEnable x0 x1 s) := by
  unfold execAcqEnable
  try dsimp -proj only
  repeat' (first
    | (with_reducible apply OutFrame.finish (le := ?le); case le => decide)
    | with_reducible exact Frame.refl _ _
    | (with_reducible apply State.putEnable_frame (le := ?le); case le => decide))

theorem execAcqNormalDisable_frame (x0) (x1) (s : State) :
    OutFrame 576460752303423421 s (execAcqNormalDisable x0 x1 s) := by
  unfold execAcqNormalDisable
  try dsimp -proj only
  repeat' (first
    | (with_reducible apply OutFrame.finish (le := ?le); case le => decide)
    | with_reducible exact Frame.refl _ _
    | (with_reducible apply State.putDisable_frame (le := ?le); case le => decide))

theorem execAdcDisableNow_frame (x0) (x1) (s : State) :
    OutFrame 576460752303423421 s (execAdcDisableNow x0 x1 s) := by
  unfold execAdcDisableNow
  try dsimp -proj only
  repeat' (first
    | (with_reducible apply OutFrame.finish (le := ?le); case le => decide)
    | with_reducible exact Frame.refl _ _
    | (with_reducible apply State.putCtl_frame (le := ?le); case le => decide))

theorem execAdcEnable_frame (x0) (x1) (s : State) :
    OutFrame 576460752303423421 s (execAdcEnable x0 x1 s) := by
  unfold execAdcEnable
  try dsimp -proj only
  repeat' (first
    | (with_reducible apply OutFrame.finish (le := ?le); case le => decide)
    | with_reducible exact Frame.refl _ _
    | (with_reducible apply State.putEnable_frame (le := ?le); case le => decide))

theorem execAdcNormalDisable_frame (x0) (x1) (s : State) :
    OutFrame 576460752303423421 s (execAdcNormalDisable x0 x1 s) := by
  unfold execAdcNormalDisable
  try dsimp -proj only
  repeat' (first
    | (with_reducible apply OutFrame.finish (le := ?le); case le => decide)
    | with_reducible exact Frame.refl _ _
    | (with_reducible apply State.putDisable_frame (le := ?le); case le => decide))

theorem execAnnounce_frame (x0) (x1) (s : State) :
    OutFrame 576460752303423421 s (execAnnounce x0 x1 s) := by
  unfold execAnnounce
  try dsimp -proj only
  repeat' (first
    | (with_reducible apply OutFrame.finish (le := ?le); case le => decide)
    | with_reducible exact Frame.refl _ _
    | (with_reducible apply State.busPut_frame (le := ?le); case le => decide))

theorem execApply_frame (x0) (s : State) :
    OutFrame 576460752303423421 s (execApply x0 s) := by
  unfold execApply
  try dsimp -proj only
  repeat' (first
    | (with_reducible apply OutFrame.finish (le := ?le); case le => decide)
    | with_reducible exact Frame.refl _ _
    | (with_reducible apply State.putByte_frame (le := ?le); case le => decide))

theorem execArm_frame (x0) (x1) (s : State) :
    OutFrame 576460752303423421 s (execArm x0 x1 s) := by
  unfold execArm
  try dsimp -proj only
  repeat' (first
    | (with_reducible apply OutFrame.finish (le := ?le); case le => decide)
    | with_reducible exact Frame.refl _ _
    | (with_reducible apply State.busPut_frame (le := ?le); case le => decide))

theorem execArmNow_frame (x0) (x1) (s : State) :
    OutFrame 576460752303423421 s (execArmNow x0 x1 s) := by
  unfold execArmNow
  try dsimp -proj only
  repeat' (first
    | (with_reducible apply OutFrame.finish (le := ?le); case le => decide)
    | with_reducible exact Frame.refl _ _
    | (with_reducible apply State.putCtl_frame (le := ?le); case le => decide))

theorem execBar2Write_frame (x0) (x1) (x2) (s : State) :
    OutFrame 576460752303423421 s (execBar2Write x0 x1 x2 s) := by
  unfold execBar2Write
  try dsimp -proj only
  repeat' (first
    | (with_reducible apply OutFrame.finish (le := ?le); case le => decide)
    | with_reducible exact Frame.refl _ _
    | (with_reducible apply State.busWrite2_frame (le := ?le); case le => decide))

theorem execBrxValidClear_frame (x0) (x1) (s : State) :
    OutFrame 576460752303423421 s (execBrxValidClear x0 x1 s) := by
  unfold execBrxValidClear
  try dsimp -proj only
  repeat' (first
    | (with_reducible apply OutFrame.finish (le := ?le); case le => decide)
    | with_reducible exact Frame.refl _ _
    | (with_reducible apply State.putTop_frame (le := ?le); case le => decide))

theorem execBtxGo_frame (x0) (x1) (x2) (s : State) :
    OutFrame 576460752303423421 s (execBtxGo x0 x1 x2 s) := by
  unfold execBtxGo
  try dsimp -proj only
  repeat' (first
    | (with_reducible apply OutFrame.finish (le := ?le); case le => decide)
    | with_reducible exact Frame.refl _ _
    | (with_reducible apply State.busPut_frame (le := ?le); case le => decide))

theorem execBudgetWrite_frame (x0) (x1) (x2) (s : State) :
    OutFrame 576460752303423421 s (execBudgetWrite x0 x1 x2 s) := by
  unfold execBudgetWrite
  try dsimp -proj only
  repeat' (first
    | (with_reducible apply OutFrame.finish (le := ?le); case le => decide)
    | with_reducible exact Frame.refl _ _
    | (with_reducible apply State.busPut_frame (le := ?le); case le => decide))

theorem execCalAbort_frame (x0) (s : State) :
    OutFrame 576460752303423421 s (execCalAbort x0 s) := by
  unfold execCalAbort
  try dsimp -proj only
  repeat' (first
    | (with_reducible apply OutFrame.finish (le := ?le); case le => decide)
    | with_reducible exact Frame.refl _ _
    | (with_reducible apply State.putTop_frame (le := ?le); case le => decide))

theorem execCalBackgroundStart_frame (x0) (x1) (s : State) :
    OutFrame 576460752303423421 s (execCalBackgroundStart x0 x1 s) := by
  unfold execCalBackgroundStart
  try dsimp -proj only
  repeat' (first
    | (with_reducible apply OutFrame.finish (le := ?le); case le => decide)
    | with_reducible exact Frame.refl _ _
    | (with_reducible apply State.busPut_frame (le := ?le); case le => decide))

theorem execCalBackgroundStop_frame (x0) (x1) (s : State) :
    OutFrame 576460752303423421 s (execCalBackgroundStop x0 x1 s) := by
  unfold execCalBackgroundStop
  try dsimp -proj only
  repeat' (first
    | (with_reducible apply OutFrame.finish (le := ?le); case le => decide)
    | with_reducible exact Frame.refl _ _
    | (with_reducible apply State.busPut_frame (le := ?le); case le => decide))

theorem execCalForeground_frame (x0) (x1) (s : State) :
    OutFrame 576460752303423421 s (execCalForeground x0 x1 s) := by
  unfold execCalForeground
  try dsimp -proj only
  repeat' (first
    | (with_reducible apply OutFrame.finish (le := ?le); case le => decide)
    | with_reducible exact Frame.refl _ _
    | (with_reducible apply State.busPut_frame (le := ?le); case le => decide))

theorem execCalRestore_frame (x0) (x1) (s : State) :
    OutFrame 576460752303423421 s (execCalRestore x0 x1 s) := by
  unfold execCalRestore
  try dsimp -proj only
  repeat' (first
    | (with_reducible apply OutFrame.finish (le := ?le); case le => decide)
    | with_reducible exact Frame.refl _ _
    | (with_reducible apply State.busPut_frame (le := ?le); case le => decide))

theorem execCalStore_frame (x0) (x1) (s : State) :
    OutFrame 576460752303423421 s (execCalStore x0 x1 s) := by
  unfold execCalStore
  try dsimp -proj only
  repeat' (first
    | (with_reducible apply OutFrame.finish (le := ?le); case le => decide)
    | with_reducible exact Frame.refl _ _
    | (with_reducible apply State.busPut_frame (le := ?le); case le => decide))

theorem execChEnWrite_frame (x0) (x1) (x2) (s : State) :
    OutFrame 576460752303423421 s (execChEnWrite x0 x1 x2 s) := by
  unfold execChEnWrite
  try dsimp -proj only
  repeat' (first
    | (with_reducible apply OutFrame.finish (le := ?le); case le => decide)
    | with_reducible exact Frame.refl _ _
    | (with_reducible apply State.busPut_frame (le := ?le); case le => decide))

theorem execCmapDataAccess_frame (x0) (x1) (s : State) :
    OutFrame 576460752303423421 s (execCmapDataAccess x0 x1 s) := by
  unfold execCmapDataAccess
  try dsimp -proj only
  repeat' (first
    | (with_reducible apply OutFrame.finish (le := ?le); case le => decide)
    | with_reducible exact Frame.refl _ _
    | (with_reducible apply State.busGet_frame (le := ?le); case le => decide)
    | (with_reducible apply State.busPut_frame (le := ?le); case le => decide)
    | split)

theorem execCoefGo_frame (x0) (x1) (s : State) :
    OutFrame 576460752303423421 s (execCoefGo x0 x1 s) := by
  unfold execCoefGo
  try dsimp -proj only
  repeat' (first
    | (with_reducible apply OutFrame.finish (le := ?le); case le => decide)
    | with_reducible exact Frame.refl _ _
    | (with_reducible apply State.putByte_frame (le := ?le); case le => decide))

theorem execCoefficientWrite_frame (x0) (x1) (x2) (x3) (s : State) :
    OutFrame 576460752303423421 s (execCoefficientWrite x0 x1 x2 x3 s) := by
  unfold execCoefficientWrite
  try dsimp -proj only
  repeat' (first
    | (with_reducible apply OutFrame.finish (le := ?le); case le => decide)
    | with_reducible exact Frame.refl _ _
    | (with_reducible apply State.busPut_frame (le := ?le); case le => decide))

theorem execCurdRead_frame (x0) (x1) (x2) (s : State) :
    OutFrame 576460752303423421 s (execCurdRead x0 x1 x2 s) := by
  unfold execCurdRead
  try dsimp -proj only
  repeat' (first
    | (with_reducible apply OutFrame.finish (le := ?le); case le => decide)
    | with_reducible exact Frame.refl _ _
    | (with_reducible apply State.busGet2_frame (le := ?le); case le => decide))

theorem execDGo_frame (x0) (x1) (x2) (s : State) :
    OutFrame 576460752303423421 s (execDGo x0 x1 x2 s) := by
  unfold execDGo
  try dsimp -proj only
  repeat' (first
    | (with_reducible apply OutFrame.finish (le := ?le); case le => decide)
    | with_reducible exact Frame.refl _ _
    | (with_reducible apply State.busPut_frame (le := ?le); case le => decide))

theorem execDbgCodeWrite_frame (x0) (x1) (s : State) :
    OutFrame 576460752303423421 s (execDbgCodeWrite x0 x1 s) := by
  unfold execDbgCodeWrite
  try dsimp -proj only
  repeat' (first
    | (with_reducible apply OutFrame.finish (le := ?le); case le => decide)
    | with_reducible exact Frame.refl _ _
    | (with_reducible apply State.busPut_frame (le := ?le); case le => decide))

theorem execDbgLock_frame (x0) (s : State) :
    OutFrame 576460752303423421 s (execDbgLock x0 s) := by
  unfold execDbgLock
  try dsimp -proj only
  repeat' (first
    | (with_reducible apply OutFrame.finish (le := ?le); case le => decide)
    | with_reducible exact Frame.refl _ _
    | (with_reducible apply State.putTop_frame (le := ?le); case le => decide))

theorem execDncoFreqHiWrite_frame (x0) (x1) (x2) (s : State) :
    OutFrame 576460752303423421 s (execDncoFreqHiWrite x0 x1 x2 s) := by
  unfold execDncoFreqHiWrite
  try dsimp -proj only
  repeat' (first
    | (with_reducible apply OutFrame.finish (le := ?le); case le => decide)
    | with_reducible exact Frame.refl _ _
    | (with_reducible apply State.busPut_frame (le := ?le); case le => decide))

theorem execErrCapClear_frame (x0) (x1) (s : State) :
    OutFrame 576460752303423421 s (execErrCapClear x0 x1 s) := by
  unfold execErrCapClear
  try dsimp -proj only
  repeat' (first
    | (with_reducible apply OutFrame.finish (le := ?le); case le => decide)
    | with_reducible exact Frame.refl _ _
    | (with_reducible apply State.putTop_frame (le := ?le); case le => decide))

theorem execEthDisableNow_frame (x0) (x1) (s : State) :
    OutFrame 576460752303423421 s (execEthDisableNow x0 x1 s) := by
  unfold execEthDisableNow
  try dsimp -proj only
  repeat' (first
    | (with_reducible apply OutFrame.finish (le := ?le); case le => decide)
    | with_reducible exact Frame.refl _ _
    | (with_reducible apply State.putCtl_frame (le := ?le); case le => decide))

theorem execEthEnable_frame (x0) (x1) (s : State) :
    OutFrame 576460752303423421 s (execEthEnable x0 x1 s) := by
  unfold execEthEnable
  try dsimp -proj only
  repeat' (first
    | (with_reducible apply OutFrame.finish (le := ?le); case le => decide)
    | with_reducible exact Frame.refl _ _
    | (with_reducible apply State.putEnable_frame (le := ?le); case le => decide))

theorem execEthNormalDisable_frame (x0) (x1) (s : State) :
    OutFrame 576460752303423421 s (execEthNormalDisable x0 x1 s) := by
  unfold execEthNormalDisable
  try dsimp -proj only
  repeat' (first
    | (with_reducible apply OutFrame.finish (le := ?le); case le => decide)
    | with_reducible exact Frame.refl _ _
    | (with_reducible apply State.putDisable_frame (le := ?le); case le => decide))

theorem execEventFire_frame (x0) (x1) (x2) (s : State) :
    OutFrame 576460752303423421 s (execEventFire x0 x1 x2 s) := by
  unfold execEventFire
  try dsimp -proj only
  repeat' (first
    | (with_reducible apply OutFrame.finish (le := ?le); case le => decide)
    | with_reducible exact Frame.refl _ _
    | (with_reducible apply State.busPut_frame (le := ?le); case le => decide))

theorem execEventGroupDisableNow_frame (x0) (x1) (s : State) :
    OutFrame 576460752303423421 s (execEventGroupDisableNow x0 x1 s) := by
  unfold execEventGroupDisableNow
  try dsimp -proj only
  repeat' (first
    | (with_reducible apply OutFrame.finish (le := ?le); case le => decide)
    | with_reducible exact Frame.refl _ _
    | (with_reducible apply State.putCtl_frame (le := ?le); case le => decide))

theorem execEventGroupEnable_frame (x0) (x1) (s : State) :
    OutFrame 576460752303423421 s (execEventGroupEnable x0 x1 s) := by
  unfold execEventGroupEnable
  try dsimp -proj only
  repeat' (first
    | (with_reducible apply OutFrame.finish (le := ?le); case le => decide)
    | with_reducible exact Frame.refl _ _
    | (with_reducible apply State.putEnable_frame (le := ?le); case le => decide))

theorem execEventGroupNormalDisable_frame (x0) (x1) (s : State) :
    OutFrame 576460752303423421 s (execEventGroupNormalDisable x0 x1 s) := by
  unfold execEventGroupNormalDisable
  try dsimp -proj only
  repeat' (first
    | (with_reducible apply OutFrame.finish (le := ?le); case le => decide)
    | with_reducible exact Frame.refl _ _
    | (with_reducible apply State.putDisable_frame (le := ?le); case le => decide))

theorem execFaultClr_frame (x0) (x1) (s : State) :
    OutFrame 576460752303423421 s (execFaultClr x0 x1 s) := by
  unfold execFaultClr
  try dsimp -proj only
  repeat' (first
    | (with_reducible apply OutFrame.finish (le := ?le); case le => decide)
    | with_reducible exact Frame.refl _ _
    | (with_reducible apply State.putByte_frame (le := ?le); case le => decide))

theorem execFireNow_frame (x0) (x1) (s : State) :
    OutFrame 576460752303423421 s (execFireNow x0 x1 s) := by
  unfold execFireNow
  try dsimp -proj only
  repeat' (first
    | (with_reducible apply OutFrame.finish (le := ?le); case le => decide)
    | with_reducible exact Frame.refl _ _
    | (with_reducible apply State.putCtl_frame (le := ?le); case le => decide))

theorem execFluxDisableNow_frame (x0) (x1) (s : State) :
    OutFrame 576460752303423421 s (execFluxDisableNow x0 x1 s) := by
  unfold execFluxDisableNow
  try dsimp -proj only
  repeat' (first
    | (with_reducible apply OutFrame.finish (le := ?le); case le => decide)
    | with_reducible exact Frame.refl _ _
    | (with_reducible apply State.putCtl_frame (le := ?le); case le => decide))

theorem execFluxEnable_frame (x0) (x1) (s : State) :
    OutFrame 576460752303423421 s (execFluxEnable x0 x1 s) := by
  unfold execFluxEnable
  try dsimp -proj only
  repeat' (first
    | (with_reducible apply OutFrame.finish (le := ?le); case le => decide)
    | with_reducible exact Frame.refl _ _
    | (with_reducible apply State.putEnable_frame (le := ?le); case le => decide))

theorem execFluxNormalDisable_frame (x0) (x1) (s : State) :
    OutFrame 576460752303423421 s (execFluxNormalDisable x0 x1 s) := by
  unfold execFluxNormalDisable
  try dsimp -proj only
  repeat' (first
    | (with_reducible apply OutFrame.finish (le := ?le); case le => decide)
    | with_reducible exact Frame.refl _ _
    | (with_reducible apply State.putDisable_frame (le := ?le); case le => decide))

theorem execFluxNvmStore_frame (x0) (x1) (s : State) :
    OutFrame 576460752303423421 s (execFluxNvmStore x0 x1 s) := by
  unfold execFluxNvmStore
  try dsimp -proj only
  repeat' (first
    | (with_reducible apply OutFrame.finish (le := ?le); case le => decide)
    | with_reducible exact Frame.refl _ _
    | (with_reducible apply State.putByte_frame (le := ?le); case le => decide))

theorem execFrameClr_frame (x0) (s : State) :
    OutFrame 576460752303423421 s (execFrameClr x0 s) := by
  unfold execFrameClr
  try dsimp -proj only
  repeat' (first
    | (with_reducible apply OutFrame.finish (le := ?le); case le => decide)
    | with_reducible exact Frame.refl _ _
    | (with_reducible apply State.putByte_frame (le := ?le); case le => decide))

theorem execFrameXor_frame (x0) (x1) (s : State) :
    OutFrame 576460752303423421 s (execFrameXor x0 x1 s) := by
  unfold execFrameXor
  try dsimp -proj only
  repeat' (first
    | (with_reducible apply OutFrame.finish (le := ?le); case le => decide)
    | with_reducible exact Frame.refl _ _
    | (with_reducible apply State.busPut_frame (le := ?le); case le => decide))

theorem execFrzValidClear_frame (x0) (s : State) :
    OutFrame 576460752303423421 s (execFrzValidClear x0 s) := by
  unfold execFrzValidClear
  try dsimp -proj only
  repeat' (first
    | (with_reducible apply OutFrame.finish (le := ?le); case le => decide)
    | with_reducible exact Frame.refl _ _
    | (with_reducible apply State.putTop_frame (le := ?le); case le => decide))

theorem execHandoverGo_frame (x0) (x1) (x2) (s : State) :
    OutFrame 576460752303423421 s (execHandoverGo x0 x1 x2 s) := by
  unfold execHandoverGo
  try dsimp -proj only
  repeat' (first
    | (with_reducible apply OutFrame.finish (le := ?le); case le => decide)
    | with_reducible exact Frame.refl _ _
    | (with_reducible apply State.busPut_frame (le := ?le); case le => decide))

theorem execHostAccessRelease_frame (x0) (s : State) :
    OutFrame 576460752303423421 s (execHostAccessRelease x0 s) := by
  unfold execHostAccessRelease
  try dsimp -proj only
  repeat' (first
    | (with_reducible apply OutFrame.finish (le := ?le); case le => decide)
    | with_reducible exact Frame.refl _ _
    | (with_reducible apply State.serveHeld_frame (le := ?le); case le => decide))

theorem execIrqForceWrite_frame (x0) (x1) (x2) (s : State) :
    OutFrame 576460752303423421 s (execIrqForceWrite x0 x1 x2 s) := by
  unfold execIrqForceWrite
  try dsimp -proj only
  repeat' (first
    | (with_reducible apply OutFrame.finish (le := ?le); case le => decide)
    | with_reducible exact Frame.refl _ _
    | (with_reducible apply State.busPut_frame (le := ?le); case le => decide))

theorem execJportDisableNow_frame (x0) (x1) (s : State) :
    OutFrame 576460752303423421 s (execJportDisableNow x0 x1 s) := by
  unfold execJportDisableNow
  try dsimp -proj only
  repeat' (first
    | (with_reducible apply OutFrame.finish (le := ?le); case le => decide)
    | with_reducible exact Frame.refl _ _
    | (with_reducible apply State.putCtl_frame (le := ?le); case le => decide))

theorem execJportNormalDisable_frame (x0) (x1) (s : State) :
    OutFrame 576460752303423421 s (execJportNormalDisable x0 x1 s) := by
  unfold execJportNormalDisable
  try dsimp -proj only
  repeat' (first
    | (with_reducible apply OutFrame.finish (le := ?le); case le => decide)
    | with_reducible exact Frame.refl _ _
    | (with_reducible apply State.putDisable_frame (le := ?le); case le => decide))

theorem execKdataRead_frame (x0) (x1) (s : State) :
    OutFrame 576460752303423421 s (execKdataRead x0 x1 s) := by
  unfold execKdataRead
  try dsimp -proj only
  repeat' (first
    | (with_reducible apply OutFrame.finish (le := ?le); case le => decide)
    | with_reducible exact Frame.refl _ _
    | (with_reducible apply State.busGet_frame (le := ?le); case le => decide))

theorem execKdataWrite_frame (x0) (x1) (x2) (s : State) :
    OutFrame 576460752303423421 s (execKdataWrite x0 x1 x2 s) := by
  unfold execKdataWrite
  try dsimp -proj only
  repeat' (first
    | (with_reducible apply OutFrame.finish (le := ?le); case le => decide)
    | with_reducible exact Frame.refl _ _
    | (with_reducible apply State.busPut_frame (le := ?le); case le => decide))

theorem execKeyRevokeWrite_frame (x0) (x1) (s : State) :
    OutFrame 576460752303423421 s (execKeyRevokeWrite x0 x1 s) := by
  unfold execKeyRevokeWrite
  try dsimp -proj only
  repeat' (first
    | (with_reducible apply OutFrame.finish (le := ?le); case le => decide)
    | with_reducible exact Frame.refl _ _
    | (with_reducible apply State.busPut_frame (le := ?le); case le => decide))

theorem execLaneDisableNow_frame (x0) (x1) (s : State) :
    OutFrame 576460752303423421 s (execLaneDisableNow x0 x1 s) := by
  unfold execLaneDisableNow
  try dsimp -proj only
  repeat' (first
    | (with_reducible apply OutFrame.finish (le := ?le); case le => decide)
    | with_reducible exact Frame.refl _ _
    | (with_reducible apply State.putCtl_frame (le := ?le); case le => decide))

theorem execLaneEnable_frame (x0) (x1) (s : State) :
    OutFrame 576460752303423421 s (execLaneEnable x0 x1 s) := by
  unfold execLaneEnable
  try dsimp -proj only
  repeat' (first
    | (with_reducible apply OutFrame.finish (le := ?le); case le => decide)
    | with_reducible exact Frame.refl _ _
    | (with_reducible apply State.putEnable_frame (le := ?le); case le => decide))

theorem execLaneNormalDisable_frame (x0) (x1) (s : State) :
    OutFrame 576460752303423421 s (execLaneNormalDisable x0 x1 s) := by
  unfold execLaneNormalDisable
  try dsimp -proj only
  repeat' (first
    | (with_reducible apply OutFrame.finish (le := ?le); case le => decide)
    | with_reducible exact Frame.refl _ _
    | (with_reducible apply State.putDisable_frame (le := ?le); case le => decide))

theorem execMcUnfreeze_frame (x0) (s : State) :
    OutFrame 576460752303423421 s (execMcUnfreeze x0 s) := by
  unfold execMcUnfreeze
  try dsimp -proj only
  repeat' (first
    | (with_reducible apply OutFrame.finish (le := ?le); case le => decide)
    | with_reducible exact Frame.refl _ _
    | (with_reducible apply State.putByte_frame (le := ?le); case le => decide))

theorem execNcoFreqHiWrite_frame (x0) (x1) (x2) (s : State) :
    OutFrame 576460752303423421 s (execNcoFreqHiWrite x0 x1 x2 s) := by
  unfold execNcoFreqHiWrite
  try dsimp -proj only
  repeat' (first
    | (with_reducible apply OutFrame.finish (le := ?le); case le => decide)
    | with_reducible exact Frame.refl _ _
    | (with_reducible apply State.busPut_frame (le := ?le); case le => decide))

theorem execNtIncNsWrite_frame (x0) (x1) (s : State) :
    OutFrame 576460752303423421 s (execNtIncNsWrite x0 x1 s) := by
  unfold execNtIncNsWrite
  try dsimp -proj only
  repeat' (first
    | (with_reducible apply OutFrame.finish (le := ?le); case le => decide)
    | with_reducible exact Frame.refl _ _
    | (with_reducible apply State.busPut_frame (le := ?le); case le => decide))

theorem execNtNsRead_frame (x0) (s : State) :
    OutFrame 576460752303423421 s (execNtNsRead x0 s) := by
  unfold execNtNsRead
  try dsimp -proj only
  repeat' (first
    | (with_reducible apply OutFrame.finish (le := ?le); case le => decide)
    | with_reducible exact Frame.refl _ _
    | (with_reducible apply State.busGet_frame (le := ?le); case le => decide))

theorem execNvStore_frame (x0) (s : State) :
    OutFrame 576460752303423421 s (execNvStore x0 s) := by
  unfold execNvStore
  try dsimp -proj only
  repeat' (first
    | (with_reducible apply OutFrame.finish (le := ?le); case le => decide)
    | with_reducible exact Frame.refl _ _
    | (with_reducible apply State.putByte_frame (le := ?le); case le => decide))

theorem execOutDisableNow_frame (x0) (x1) (s : State) :
    OutFrame 576460752303423421 s (execOutDisableNow x0 x1 s) := by
  unfold execOutDisableNow
  try dsimp -proj only
  repeat' (first
    | (with_reducible apply OutFrame.finish (le := ?le); case le => decide)
    | with_reducible exact Frame.refl _ _
    | (with_reducible apply State.putCtl_frame (le := ?le); case le => decide))

theorem execOutEnable_frame (x0) (x1) (s : State) :
    OutFrame 576460752303423421 s (execOutEnable x0 x1 s) := by
  unfold execOutEnable
  try dsimp -proj only
  repeat' (first
    | (with_reducible apply OutFrame.finish (le := ?le); case le => decide)
    | with_reducible exact Frame.refl _ _
    | (with_reducible apply State.putEnable_frame (le := ?le); case le => decide))

theorem execOutNormalDisable_frame (x0) (x1) (s : State) :
    OutFrame 576460752303423421 s (execOutNormalDisable x0 x1 s) := by
  unfold execOutNormalDisable
  try dsimp -proj only
  repeat' (first
    | (with_reducible apply OutFrame.finish (le := ?le); case le => decide)
    | with_reducible exact Frame.refl _ _
    | (with_reducible apply State.putDisable_frame (le := ?le); case le => decide))

theorem execOwnerWrite_frame (x0) (x1) (x2) (s : State) :
    OutFrame 576460752303423421 s (execOwnerWrite x0 x1 x2 s) := by
  unfold execOwnerWrite
  try dsimp -proj only
  repeat' (first
    | (with_reducible apply OutFrame.finish (le := ?le); case le => decide)
    | with_reducible exact Frame.refl _ _
    | (with_reducible apply State.busPut_frame (le := ?le); case le => decide))

theorem execPartitionWrite_frame (x0) (x1) (x2) (x3) (s : State) :
    OutFrame 576460752303423421 s (execPartitionWrite x0 x1 x2 x3 s) := by
  unfold execPartitionWrite
  try dsimp -proj only
  repeat' (first
    | (with_reducible apply OutFrame.finish (le := ?le); case le => decide)
    | with_reducible apply OutFrame.ite
    | with_reducible exact Frame.refl _ _
    | with_reducible apply Frame.ite
    | (with_reducible apply State.busPut_frame (le := ?le); case le => decide))

theorem execPortEnWrite_frame (x0) (x1) (s : State) :
    OutFrame 576460752303423421 s (execPortEnWrite x0 x1 s) := by
  unfold execPortEnWrite
  try dsimp -proj only
  repeat' (first
    | (with_reducible apply OutFrame.finish (le := ?le); case le => decide)
    | with_reducible exact Frame.refl _ _
    | (with_reducible apply State.putByte_frame (le := ?le); case le => decide))

theorem execPortKill_frame (x0) (x1) (s : State) :
    OutFrame 576460752303423421 s (execPortKill x0 x1 s) := by
  unfold execPortKill
  try dsimp -proj only
  repeat' (first
    | (with_reducible apply OutFrame.finish (le := ?le); case le => decide)
    | with_reducible exact Frame.refl _ _
    | (with_reducible apply State.busWrite_frame (le := ?le); case le => decide))

theorem execQuotaWrite_frame (x0) (x1) (x2) (s : State) :
    OutFrame 576460752303423421 s (execQuotaWrite x0 x1 x2 s) := by
  unfold execQuotaWrite
  try dsimp -proj only
  repeat' (first
    | (with_reducible apply OutFrame.finish (le := ?le); case le => decide)
    | with_reducible exact Frame.refl _ _
    | (with_reducible apply State.busPut_frame (le := ?le); case le => decide))

theorem execRecover_frame (x0) (x1) (s : State) :
    OutFrame 576460752303423421 s (execRecover x0 x1 s) := by
  unfold execRecover
  try dsimp -proj only
  repeat' (first
    | (with_reducible apply OutFrame.finish (le := ?le); case le => decide)
    | with_reducible apply OutFrame.ite
    | with_reducible exact Frame.refl _ _
    | with_reducible apply Frame.ite
    | (with_reducible apply State.putByte_frame (le := ?le); case le => decide)
    | (with_reducible apply State.recoverGo_frame (le := ?le); case le => decide))

theorem execRegionWrite_frame (x0) (x1) (x2) (s : State) :
    OutFrame 576460752303423421 s (execRegionWrite x0 x1 x2 s) := by
  unfold execRegionWrite
  try dsimp -proj only
  repeat' (first
    | (with_reducible apply OutFrame.finish (le := ?le); case le => decide)
    | with_reducible apply OutFrame.ite
    | with_reducible exact Frame.refl _ _
    | with_reducible apply Frame.ite
    | (with_reducible apply State.busPut_frame (le := ?le); case le => decide))

theorem execRegisterWrite_frame (x0) (x1) (x2) (s : State) :
    OutFrame 576460752303423421 s (execRegisterWrite x0 x1 x2 s) := by
  unfold execRegisterWrite
  try dsimp -proj only
  repeat' (first
    | (with_reducible apply OutFrame.finish (le := ?le); case le => decide)
    | with_reducible exact Frame.refl _ _
    | (with_reducible apply State.busWrite_frame (le := ?le); case le => decide))

theorem execReqCellar_frame (x0) (s : State) :
    OutFrame 576460752303423421 s (execReqCellar x0 s) := by
  unfold execReqCellar
  try dsimp -proj only
  repeat' (first
    | (with_reducible apply OutFrame.finish (le := ?le); case le => decide)
    | with_reducible exact Frame.refl _ _
    | (with_reducible apply State.request_frame (le := ?le); case le => decide))

theorem execReqConfigured_frame (x0) (s : State) :
    OutFrame 576460752303423421 s (execReqConfigured x0 s) := by
  unfold execReqConfigured
  try dsimp -proj only
  repeat' (first
    | (with_reducible apply OutFrame.finish (le := ?le); case le => decide)
    | with_reducible exact Frame.refl _ _
    | (with_reducible apply State.request_frame (le := ?le); case le => decide))

theorem execReqReady_frame (x0) (s : State) :
    OutFrame 576460752303423421 s (execReqReady x0 s) := by
  unfold execReqReady
  try dsimp -proj only
  repeat' (first
    | (with_reducible apply OutFrame.finish (le := ?le); case le => decide)
    | with_reducible exact Frame.refl _ _
    | (with_reducible apply State.request_frame (le := ?le); case le => decide))

theorem execReqRunning_frame (x0) (s : State) :
    OutFrame 576460752303423421 s (execReqRunning x0 s) := by
  unfold execReqRunning
  try dsimp -proj only
  repeat' (first
    | (with_reducible apply OutFrame.finish (le := ?le); case le => decide)
    | with_reducible exact Frame.refl _ _
    | (with_reducible apply State.request_frame (le := ?le); case le => decide))

theorem execResAccRead_frame (x0) (x1) (s : State) :
    OutFrame 576460752303423421 s (execResAccRead x0 x1 s) := by
  unfold execResAccRead
  try dsimp -proj only
  repeat' (first
    | (with_reducible apply OutFrame.finish (le := ?le); case le => decide)
    | with_reducible exact Frame.refl _ _
    | (with_reducible apply State.busGet_frame (le := ?le); case le => decide))

theorem execRingDisable_frame (x0) (x1) (x2) (s : State) :
    OutFrame 576460752303423421 s (execRingDisable x0 x1 x2 s) := by
  unfold execRingDisable
  try dsimp -proj only
  repeat' (first
    | (with_reducible apply OutFrame.finish (le := ?le); case le => decide)
    | with_reducible exact Frame.refl _ _
    | (with_reducible apply State.busPut_frame (le := ?le); case le => decide))

theorem execRingEnable_frame (x0) (x1) (x2) (s : State) :
    OutFrame 576460752303423421 s (execRingEnable x0 x1 x2 s) := by
  unfold execRingEnable
  try dsimp -proj only
  repeat' (first
    | (with_reducible apply OutFrame.finish (le := ?le); case le => decide)
    | with_reducible exact Frame.refl _ _
    | (with_reducible apply State.busPut_frame (le := ?le); case le => decide))

theorem execRingSelWrite_frame (x0) (x1) (x2) (s : State) :
    OutFrame 576460752303423421 s (execRingSelWrite x0 x1 x2 s) := by
  unfold execRingSelWrite
  try dsimp -proj only
  repeat' (first
    | (with_reducible apply OutFrame.finish (le := ?le); case le => decide)
    | with_reducible exact Frame.refl _ _
    | (with_reducible apply State.busPut_frame (le := ?le); case le => decide))

theorem execRoutDisableNow_frame (x0) (x1) (s : State) :
    OutFrame 576460752303423421 s (execRoutDisableNow x0 x1 s) := by
  unfold execRoutDisableNow
  try dsimp -proj only
  repeat' (first
    | (with_reducible apply OutFrame.finish (le := ?le); case le => decide)
    | with_reducible exact Frame.refl _ _
    | (with_reducible apply State.putCtl_frame (le := ?le); case le => decide))

theorem execRoutEnable_frame (x0) (x1) (s : State) :
    OutFrame 576460752303423421 s (execRoutEnable x0 x1 s) := by
  unfold execRoutEnable
  try dsimp -proj only
  repeat' (first
    | (with_reducible apply OutFrame.finish (le := ?le); case le => decide)
    | with_reducible exact Frame.refl _ _
    | (with_reducible apply State.putEnable_frame (le := ?le); case le => decide))

theorem execRoutNormalDisable_frame (x0) (x1) (s : State) :
    OutFrame 576460752303423421 s (execRoutNormalDisable x0 x1 s) := by
  unfold execRoutNormalDisable
  try dsimp -proj only
  repeat' (first
    | (with_reducible apply OutFrame.finish (le := ?le); case le => decide)
    | with_reducible exact Frame.refl _ _
    | (with_reducible apply State.putDisable_frame (le := ?le); case le => decide))

theorem execRtDataAccess_frame (x0) (x1) (s : State) :
    OutFrame 576460752303423421 s (execRtDataAccess x0 x1 s) := by
  unfold execRtDataAccess
  try dsimp -proj only
  repeat' (first
    | (with_reducible apply OutFrame.finish (le := ?le); case le => decide)
    | with_reducible exact Frame.refl _ _
    | (with_reducible apply State.busGet_frame (le := ?le); case le => decide)
    | (with_reducible apply State.busPut_frame (le := ?le); case le => decide)
    | split)

theorem execSeqDisableNow_frame (x0) (x1) (s : State) :
    OutFrame 576460752303423421 s (execSeqDisableNow x0 x1 s) := by
  unfold execSeqDisableNow
  try dsimp -proj only
  repeat' (first
    | (with_reducible apply OutFrame.finish (le := ?le); case le => decide)
    | with_reducible exact Frame.refl _ _
    | (with_reducible apply State.putCtl_frame (le := ?le); case le => decide))

theorem execSeqEnable_frame (x0) (x1) (s : State) :
    OutFrame 576460752303423421 s (execSeqEnable x0 x1 s) := by
  unfold execSeqEnable
  try dsimp -proj only
  repeat' (first
    | (with_reducible apply OutFrame.finish (le := ?le); case le => decide)
    | with_reducible exact Frame.refl _ _
    | (with_reducible apply State.putEnable_frame (le := ?le); case le => decide))

theorem execSeqNormalDisable_frame (x0) (x1) (s : State) :
    OutFrame 576460752303423421 s (execSeqNormalDisable x0 x1 s) := by
  unfold execSeqNormalDisable
  try dsimp -proj only
  repeat' (first
    | (with_reducible apply OutFrame.finish (le := ?le); case le => decide)
    | with_reducible exact Frame.refl _ _
    | (with_reducible apply State.putDisable_frame (le := ?le); case le => decide))

theorem execSfeDisableNow_frame (x0) (x1) (s : State) :
    OutFrame 576460752303423421 s (execSfeDisableNow x0 x1 s) := by
  unfold execSfeDisableNow
  try dsimp -proj only
  repeat' (first
    | (with_reducible apply OutFrame.finish (le := ?le); case le => decide)
    | with_reducible exact Frame.refl _ _
    | (with_reducible apply State.putCtl_frame (le := ?le); case le => decide))

theorem execSfeEnable_frame (x0) (x1) (s : State) :
    OutFrame 576460752303423421 s (execSfeEnable x0 x1 s) := by
  unfold execSfeEnable
  try dsimp -proj only
  repeat' (first
    | (with_reducible apply OutFrame.finish (le := ?le); case le => decide)
    | with_reducible exact Frame.refl _ _
    | (with_reducible apply State.putEnable_frame (le := ?le); case le => decide))

theorem execSfeNormalDisable_frame (x0) (x1) (s : State) :
    OutFrame 576460752303423421 s (execSfeNormalDisable x0 x1 s) := by
  unfold execSfeNormalDisable
  try dsimp -proj only
  repeat' (first
    | (with_reducible apply OutFrame.finish (le := ?le); case le => decide)
    | with_reducible exact Frame.refl _ _
    | (with_reducible apply State.putDisable_frame (le := ?le); case le => decide))

theorem execSfeReq_frame (x0) (x1) (s : State) :
    OutFrame 576460752303423421 s (execSfeReq x0 x1 s) := by
  unfold execSfeReq
  try dsimp -proj only
  repeat' (first
    | (with_reducible apply OutFrame.finish (le := ?le); case le => decide)
    | with_reducible exact Frame.refl _ _
    | (with_reducible apply State.putByte_frame (le := ?le); case le => decide))

theorem execShDataRead_frame (x0) (s : State) :
    OutFrame 576460752303423421 s (execShDataRead x0 s) := by
  unfold execShDataRead
  try dsimp -proj only
  repeat' (first
    | (with_reducible apply OutFrame.finish (le := ?le); case le => decide)
    | with_reducible exact Frame.refl _ _
    | (with_reducible apply State.busGet_frame (le := ?le); case le => decide))

theorem execSnap_frame (x0) (s : State) :
    OutFrame 576460752303423421 s (execSnap x0 s) := by
  unfold execSnap
  try dsimp -proj only
  repeat' (first
    | (with_reducible apply OutFrame.finish (le := ?le); case le => decide)
    | with_reducible exact Frame.refl _ _
    | (with_reducible apply State.putByte_frame (le := ?le); case le => decide))

theorem execStepGo_frame (x0) (s : State) :
    OutFrame 576460752303423421 s (execStepGo x0 s) := by
  unfold execStepGo
  try dsimp -proj only
  repeat' (first
    | (with_reducible apply OutFrame.finish (le := ?le); case le => decide)
    | with_reducible exact Frame.refl _ _
    | (with_reducible apply State.putByte_frame (le := ?le); case le => decide))

theorem execSwap_frame (x0) (x1) (x2) (s : State) :
    OutFrame 576460752303423421 s (execSwap x0 x1 x2 s) := by
  unfold execSwap
  try dsimp -proj only
  repeat' (first
    | (with_reducible apply OutFrame.finish (le := ?le); case le => decide)
    | with_reducible exact Frame.refl _ _
    | (with_reducible apply State.busPut_frame (le := ?le); case le => decide))

theorem execSyndromeDisableNow_frame (x0) (s : State) :
    OutFrame 576460752303423421 s (execSyndromeDisableNow x0 s) := by
  unfold execSyndromeDisableNow
  try dsimp -proj only
  repeat' (first
    | (with_reducible apply OutFrame.finish (le := ?le); case le => decide)
    | with_reducible exact Frame.refl _ _
    | (with_reducible apply State.putCtl_frame (le := ?le); case le => decide))

theorem execSyndromeEnable_frame (x0) (s : State) :
    OutFrame 576460752303423421 s (execSyndromeEnable x0 s) := by
  unfold execSyndromeEnable
  try dsimp -proj only
  repeat' (first
    | (with_reducible apply OutFrame.finish (le := ?le); case le => decide)
    | with_reducible exact Frame.refl _ _
    | (with_reducible apply State.putEnable_frame (le := ?le); case le => decide))

theorem execSyndromeNormalDisable_frame (x0) (s : State) :
    OutFrame 576460752303423421 s (execSyndromeNormalDisable x0 s) := by
  unfold execSyndromeNormalDisable
  try dsimp -proj only
  repeat' (first
    | (with_reducible apply OutFrame.finish (le := ?le); case le => decide)
    | with_reducible exact Frame.refl _ _
    | (with_reducible apply State.putDisable_frame (le := ?le); case le => decide))

theorem execThrForceWrite_frame (x0) (x1) (s : State) :
    OutFrame 576460752303423421 s (execThrForceWrite x0 x1 s) := by
  unfold execThrForceWrite
  try dsimp -proj only
  repeat' (first
    | (with_reducible apply OutFrame.finish (le := ?le); case le => decide)
    | with_reducible exact Frame.refl _ _
    | (with_reducible apply State.busPut_frame (le := ?le); case le => decide))

theorem execTileEnWrite_frame (x0) (x1) (s : State) :
    OutFrame 576460752303423421 s (execTileEnWrite x0 x1 s) := by
  unfold execTileEnWrite
  try dsimp -proj only
  repeat' (first
    | (with_reducible apply OutFrame.finish (le := ?le); case le => decide)
    | with_reducible exact Frame.refl _ _
    | (with_reducible apply State.busPut_frame (le := ?le); case le => decide))

theorem execTlNowRead_frame (x0) (s : State) :
    OutFrame 576460752303423421 s (execTlNowRead x0 s) := by
  unfold execTlNowRead
  try dsimp -proj only
  repeat' (first
    | (with_reducible apply OutFrame.finish (le := ?le); case le => decide)
    | with_reducible exact Frame.refl _ _
    | (with_reducible apply State.busGet_frame (le := ?le); case le => decide))

theorem execToneDisableNow_frame (x0) (x1) (s : State) :
    OutFrame 576460752303423421 s (execToneDisableNow x0 x1 s) := by
  unfold execToneDisableNow
  try dsimp -proj only
  repeat' (first
    | (with_reducible apply OutFrame.finish (le := ?le); case le => decide)
    | with_reducible exact Frame.refl _ _
    | (with_reducible apply State.putCtl_frame (le := ?le); case le => decide))

theorem execToneEnable_frame (x0) (x1) (s : State) :
    OutFrame 576460752303423421 s (execToneEnable x0 x1 s) := by
  unfold execToneEnable
  try dsimp -proj only
  repeat' (first
    | (with_reducible apply OutFrame.finish (le := ?le); case le => decide)
    | with_reducible exact Frame.refl _ _
    | (with_reducible apply State.putEnable_frame (le := ?le); case le => decide))

theorem execToneNormalDisable_frame (x0) (x1) (s : State) :
    OutFrame 576460752303423421 s (execToneNormalDisable x0 x1 s) := by
  unfold execToneNormalDisable
  try dsimp -proj only
  repeat' (first
    | (with_reducible apply OutFrame.finish (le := ?le); case le => decide)
    | with_reducible exact Frame.refl _ _
    | (with_reducible apply State.putDisable_frame (le := ?le); case le => decide))

theorem execTrimDataRead_frame (x0) (s : State) :
    OutFrame 576460752303423421 s (execTrimDataRead x0 s) := by
  unfold execTrimDataRead
  try dsimp -proj only
  repeat' (first
    | (with_reducible apply OutFrame.finish (le := ?le); case le => decide)
    | with_reducible exact Frame.refl _ _
    | (with_reducible apply State.busGet_frame (le := ?le); case le => decide))

theorem execTxGo_frame (x0) (x1) (x2) (s : State) :
    OutFrame 576460752303423421 s (execTxGo x0 x1 x2 s) := by
  unfold execTxGo
  try dsimp -proj only
  repeat' (first
    | (with_reducible apply OutFrame.finish (le := ?le); case le => decide)
    | with_reducible exact Frame.refl _ _
    | (with_reducible apply State.busPut_frame (le := ?le); case le => decide))

theorem execVerify_frame (x0) (s : State) :
    OutFrame 576460752303423421 s (execVerify x0 s) := by
  unfold execVerify
  try dsimp -proj only
  repeat' (first
    | (with_reducible apply OutFrame.finish (le := ?le); case le => decide)
    | with_reducible exact Frame.refl _ _
    | (with_reducible apply State.putByte_frame (le := ?le); case le => decide))

theorem execWakeReq_frame (x0) (s : State) :
    OutFrame 576460752303423421 s (execWakeReq x0 s) := by
  unfold execWakeReq
  try dsimp -proj only
  repeat' (first
    | (with_reducible apply OutFrame.finish (le := ?le); case le => decide)
    | with_reducible exact Frame.refl _ _
    | (with_reducible apply State.putByte_frame (le := ?le); case le => decide))

theorem execWarmReset_frame (x0) (s : State) :
    OutFrame 576460752303423421 s (execWarmReset x0 s) := by
  unfold execWarmReset
  try dsimp -proj only
  repeat' (first
    | (with_reducible apply OutFrame.finish (le := ?le); case le => decide)
    | with_reducible exact Frame.refl _ _
    | (with_reducible apply State.putByte_frame (le := ?le); case le => decide))

end Sys2Proof.Machine
end

