-- ==== Sys2Proof/Tests/Slice0.lean ====
section
/-!
SUPPORT. Tests: ill-formed operands that WellFormed refuses, single commands on small states, and for each obligation a state
that meets its hypotheses. Expected results come from the spec's words, tables and examples.
-/
namespace Sys2Proof.Tests
open Sys2Proof.Machine
set_option Elab.async false

/-! ### Small states -/

/-- Fields set one after the other. -/
def withFields (s : State) (l : List (Nat × Row × Nat)) : State := l.foldl (fun s e => s.setFld e.1 e.2.1 e.2.2) s

/-- The device in a state of R521, with its timeline loaded and running. -/
def inState (st : Nat) : State :=
  withFields State.reset [(Base.pwr, Reg.Pwr.STATE, st), (Base.tl, Reg.Tl.RUN, 1), (Base.tl, Reg.Tl.LOADED, 1),
    (Base.tl, Reg.Tl.REF_PRESENT, 1), (Base.tl, Reg.Tl.CORE_LOCK, 1)]

/-- The device in Running, and in Configured. -/
def on5 : State := inState 5
def on3 : State := inState 3

/-- The state after a command. -/
def after (i : Instr) (s : State) : State :=
  match exec i s with
  | .next t => t
  | _ => s

/-- Management firmware may carry out an access to page `n` of a type at once. -/
def mayAccess (s : State) (t : PageType) (n : Nat) : Prop := Settled s ∧ (s.granted .mgmt t n).isSome = true

/-! ### WellFormed -/

/-- A write that crosses a page is not one that PCIe sends (R61). -/
theorem test_wf_crosses : (Instr.registerWrite (.fn 0) 0xFFC#27 [(0xF#4, 0), (0xF#4, 0)]).wellFormed = false := by decide
theorem test_wf_misaligned : (Instr.registerWrite .mgmt 0x002#27 [(0xF#4, 0)]).wellFormed = false := by decide
theorem test_wf_empty_bar2 : (Instr.bar2Write .mgmt 0#27 []).wellFormed = false := by decide
theorem test_wf_phases : (Instr.frameBoundary [0] 0).wellFormed = false := by decide
theorem test_wf_train_reason : (Instr.portLinked 0 (.fail 5)).wellFormed = false := by decide
theorem test_wf_curd_read : (Instr.curdRead .mgmt 2 false).wellFormed = false := by decide
theorem test_wf_monitor : (Instr.monitorMeasure 0 8388608 0).wellFormed = false := by decide
theorem test_wf_mover : (Instr.moverTransfer 0 0).wellFormed = false := by decide
theorem test_wf_eth_rx : (Instr.ethFrameRx 0 [0] false ⟨0, 0, false, 0⟩).wellFormed = false := by decide
theorem test_wf_slow_round : (Instr.slowRound [] [] ⟨0, 0, 0⟩).wellFormed = false := by decide
theorem test_wf_fast_round : (Instr.fastRound []).wellFormed = false := by decide
theorem test_wf_sfe : (Instr.sfeConversion 0 (-16777217)).wellFormed = false := by decide
theorem test_wf_release : (Instr.calRelease []).wellFormed = false := by decide
theorem test_wf_background : (Instr.calBgPass 0 0 [1]).wellFormed = false := by decide
theorem test_wf_base_length : (Instr.bootComplete 0 false 0 0 0 0 0 []).wellFormed = false := by decide
theorem test_wf_base_word : baseWordOk 0 (1#192 <<< 179) = false ∧ baseWordOk 0xE00 0 = false := by decide
theorem test_wf_boot_err : (Instr.stateTransitionComplete (.stops 1)).wellFormed = false := by decide
theorem test_wf_boot_step : (Instr.porNRelease true [] (.training 0 0)).wellFormed = false := by decide
theorem test_wf_recover : (Instr.recover .mgmt (.stops 2)).wellFormed = false := by decide
theorem test_wf_flr : (Instr.flrComplete 0 false 8).wellFormed = false := by decide
theorem test_wf_command_finding : (Instr.dramCommandIssue 0 (some (2, 0))).wellFormed = false := by decide
theorem test_wf_refresh_finding : (Instr.refresh 0 0 0 (some (4, 0))).wellFormed = false := by decide
theorem test_wf_mr4_finding : (Instr.mr4OscRead 0 0 0 0 0 (some (2, 16))).wellFormed = false := by decide
theorem test_wf_period : (Instr.refclkPeriod [] []).wellFormed = false := by decide
theorem test_wf_good : (Instr.registerWrite (.fn 3) 0xFF8#27 [(0xF#4, 0), (0xF#4, 0)]).wellFormed = true := by decide

/-! ### The machine, pages, registers -/

theorem test_step_front : step { State.reset with pending := [.idcode] } =
    exec .idcode { State.reset with pending := [] } := rfl
theorem test_step_idles : step State.reset = .next State.reset := rfl
theorem test_no_word_spells_a_command : decodeTableWord 64 0 = none := rfl

/-- The state meets the invariant, and a step answers. -/
theorem witness_StepKeepsInvariant :
    (State.reset.canonical ∧ State.reset.edges = []) ∧ step State.reset = .next State.reset :=
  ⟨⟨⟨by decide, by decide, by decide, by decide⟩, by decide⟩, rfl⟩

/-- Function 5 does not own the timeline page, which shows in Configured. -/
def foreign : State := on3
theorem witness_DeniedAccess : foreign.edges = [] ∧ (foreign.charged (.fn 5)).isSome = true ∧
    (foreign.charged (.fn 5)).all (fun r => r.shows (.fn 5) (some .tl)) = true ∧ 0 < pageCount .tl ∧
    Refused foreign 5 .tl 0 1 := ⟨by decide, by decide, by decide, by decide, .inl (by decide)⟩
theorem test_denied_write : (after (.registerWrite (.fn 5) 0x1_0050#27 [(0xF#4, 1)]) foreign).reg 0x1_001C =
    0x8105_0051#32 := by decide
theorem test_denied_secure : Refused (withFields foreign [(Base.tl, Reg.Hdr.SEC, 1), (Base.tl, Reg.Hdr.FN, 0)]) 0 .tl 0 2 := .inr (by decide)

theorem witness_HeaderWrites_owner : on3.edges = [] ∧ (on3.charged .mgmt).isSome = true ∧
    on3.shows .mgmt (some .tone) = true ∧ 511 < pageCount .tone ∧ (1023 : Nat) * 0x1000 = pageBase .tone 511 ∧
    on3.bit (pageBase .tone 511) Reg.Hdr.LOCK = false ∧ fnEncoding 63 = true ∧
    ((on3.enabled (pageBase .tone 511) && !enableIgnored .tone) || on3.pageActive .tone 511) = false := by decide
theorem test_owner_write : (after (.ownerWrite .mgmt 1023 0x8000_013F) on3).reg (Base.tone 511 + 0x020) = 0x8000_013F := by
  decide
theorem test_owner_enabled : (after (.ownerWrite .mgmt 1023 5) (on3.setEnable (Base.tone 511) true)).fld (Base.tone 511)
    Reg.Hdr.CODE = 0x06 := by decide
theorem test_owner_locked : (after (.ownerWrite .mgmt 1023 5) (on3.setBit (Base.tone 511) Reg.Hdr.LOCK true)).owner
    (Base.tone 511) = on3.owner (Base.tone 511) := by decide
theorem witness_HeaderWrites_granted : mayAccess on3 .tone 511 ∧ on3.bit (Base.tone 511) Reg.Hdr.LOCK = false ∧
    on3.bit (Base.tone 511) Reg.Hdr.VALID = false := ⟨⟨by decide, by decide⟩, by decide, by decide⟩
theorem test_irq_force : (after (.irqForceWrite .mgmt 1023 2) on3).reg (Base.tone 511 + 0x010) = 2 := by decide
theorem test_err_cap_clear : (after (.errCapClear .mgmt 1023) (on3.err (Base.tone 511) 0x12 7)).reg (Base.tone 511 + 0x01C) =
    0 := by decide

theorem witness_RegisterAccesses : crossesPage 0xFF8 2 = false ∧ crossesPage 0xFFC 2 = true ∧
    pageOf 0xFFC = some (.glob, 0) ∧ pageOf 0x03FF_FFFC = none ∧ on3.shows .mgmt none = true ∧ mayAccess on3 .glob 0 :=
  ⟨by decide, by decide, by decide, by decide, by decide, by decide, by decide⟩
theorem test_crossing_write : (after (.registerWrite .mgmt 0xFFC#27 [(0xF#4, 0), (0xF#4, 0)]) on3).fld Base.glob
    Reg.Hdr.CODE = 0x04 := by decide
theorem test_reserved_write : (after (.registerWrite .mgmt 0x3FF_FFFC#27 [(0xF#4, 0)]) on3).fld Base.glob
    Reg.Glob.RSVD_COUNT = 1 := by decide
theorem test_byte_enables : (after (.registerWrite .mgmt 0x050#27 [(0x5#4, 0xFFFF_FFFF)]) on3).reg 0x050 =
    0x00FF_00FF := by decide
/-- One access of function 1 waits. -/
def waiting : State := on3.modFn 1 fun f => { f with held := [.write 0x050 [(0xF#4, 0)]] }
theorem witness_HostAccessRelease : (waiting.fnSt 1).held = [.write 0x050 [(0xF#4, 0)]] ∧
    (waiting.chargeHostWord 1).isSome = true ∧ waiting.edges = [] := by decide
theorem test_host_access_release : ((after (.hostAccessRelease 1) waiting).fnSt 1).held = [] := by decide

/-! ### Timeline -/

theorem witness_SyncEdgesAndLoad : on3.refLost = false ∧
    { on3 with loadIn := some (0, 65536) }.loadIn = some (0, 65536) := by decide
theorem test_sync_arms : (after (.syncEdge false true) (withFields on3 [(Base.tl, Reg.Tl.ARM, 1),
    (Base.tl, Reg.Tl.EPOCH_LO, 3)])).loadIn = some (16, 3 * 65536) := by decide
theorem test_sync_slip : (after (.syncEdge false false) (withFields { on3 with count := 1 } [(Base.tl, Reg.Tl.CHECK, 1)])).bit
    Base.tl Reg.Tl.SLIP = true := by decide
theorem test_timeline_load : (after .timelineLoad { on3 with loadIn := some (0, 65536) }).count = 65536 := by decide
theorem witness_TimelineRegisters : mayAccess on3 .tl 0 ∧ on3.running = false ∧ mayAccess on5 .tl 0 ∧ on5.running = true :=
  ⟨⟨by decide, by decide⟩, by decide, ⟨by decide, by decide⟩, by decide⟩
theorem test_arm_running : (after (.arm .mgmt 1) on5).fld Base.tl Reg.Hdr.CODE = 0x11 := by decide
theorem test_tl_now : (after (.tlNowRead .mgmt) { on5 with count := 0x5_0000_0007 }).respVal = 7 := by decide
theorem test_tile_en : (after (.tileEnWrite .mgmt 0x81) on3).fld Base.tl Reg.Tl.TILE_EN = 0x81 := by decide
theorem test_tile_en_ready : (after (.tileEnWrite .mgmt 0x81) (inState 4)).fld Base.tl Reg.Hdr.CODE = 0x13 := by decide
theorem witness_PeriodAdvancesCount : on5.inDev .off = false ∧ on5.refLost = false ∧ on5.run = true := by decide
theorem test_period : (after (.refclkPeriod [] []) { on3 with count := 2 ^ 64 - 1 }).count = 0 := by decide +kernel
theorem witness_FrameBoundary : on5.run = true ∧ on5.count % 256 = 0 ∧ on5.frameAt ≠ some on5.count := by decide
theorem test_frame_boundary : (after (.frameBoundary [] 0) { on3 with count := 512, used := [(4, 9)] }).used = [] := by decide +kernel
theorem witness_RefclkLost : on5.refLost = false ∧ { on5 with refLost := true }.refLost = true := by decide
theorem test_refclk_return : (after .refclkReturn { on3 with refLost := true }).bit Base.tl Reg.Tl.REF_PRESENT = true := by
  decide
/-- Tile 7 is powered, its PLL not yet locked. -/
def tileUp : State := on3.modTile 7 fun x => { x with pll := true }
theorem witness_TileLock : tileUp.refLost = false ∧ (tileUp.tile 7).pll = true ∧
    tileUp.bit (Base.tile 7) Reg.Tile.LOCK = false ∧ (after (.tileAlignment 7 20) tileUp).bit (Base.tile 7) Reg.Tile.LOCK =
    true := by decide
theorem test_tile_aligned : (after (.tileAlignment 7 20) tileUp).fld (Base.tile 7) Reg.Tile.EB_OFFSET = 24 := by decide
theorem test_tile_too_far : (after (.tileAlignment 7 3) tileUp).fld (Base.tile 7) Reg.Hdr.CODE = 0x12 := by decide

/-! ### Sequencers -/

/-- A protected control word with SEQ = RETIRE (R135, R139). -/
def retireWord : BitVec 208 := csProtect (5#192 <<< 176)

/-- The worked shot program stands at step 1,000,006 in sequencer `n`, before an instruction word, whose dispatch entry holds
RETIRE. -/
def seqAt (n : Fin 256) (w : Nat) : State :=
  let s := (on5.setEnable (Base.seq n) true).modSeq n fun q => { q with issuing := true, tp := 1000258 }
  { s with
    bar2 := wrLE s.bar2 (0x0240_0000 + 16384 * n) 8 w, count := 500003
    cs := SMap.set cs0 s.cs (n / 16 * 4096 + w / 2 ^ 58) retireWord }

/-- The worked program of chapter 04: its words as the fields of R97 give them. -/
def wTpnow : Nat := 0x20 * 2 ^ 58 + 2 ^ 47 + 256
def wPost : Nat := 0xA001_4000_0000_0064
def wPostNow : Nat := 0xA001_4100_0000_0065
def wTprd : Nat := 0x23 * 2 ^ 58 + 4 * 2 ^ 53
def wAdd : Nat := 0x02 * 2 ^ 58 + 4 * 2 ^ 53 + 4 * 2 ^ 48 + 2 ^ 47 + 40
def wBrd : Nat := 0xC000_A040_0410_8000
def wRecd : Nat := 0x3A * 2 ^ 58 + 5 * 2 ^ 45 + 5 * 2 ^ 5
def wEnds : Nat := 0x39 * 2 ^ 58 + 2 ^ 47 + 600

theorem test_post_word : SeqW.op wPost = 0x28 ∧ SeqW.tgt wPost = 5 ∧ SeqW.arg wPost = 100 ∧ SeqW.dt wPost = 0 ∧
    SeqW.now wPost = false ∧ SeqW.now wPostNow = true ∧ SeqW.arg wPostNow = 101 := by decide
theorem test_brd_word : SeqW.op wBrd = 0x30 ∧ SeqW.slot wBrd = 5 ∧ SeqW.base wBrd = 0x010 ∧ SeqW.tmo wBrd = 260 ∧
    SeqW.gs wBrd = 4 := by decide

/-- Opcodes, each with operand bits under which the word is no program fault; op[4:0] = 20 for TPALN. -/
def goodWords : List (Nat × Nat) :=
  [(0x00, 0), (0x01, 2 ^ 32 - 1), (0x02, 2 ^ 47 + 1), (0x03, 31 * 2 ^ 53), (0x04, 31 * 2 ^ 42), (0x05, 0), (0x06, 0),
   (0x07, 2 ^ 47 + 32), (0x08, 2 ^ 47 + 31), (0x10, 2047 * 2 ^ 32), (0x11, 0), (0x12, 0), (0x13, 0), (0x14, 0)] ++
  [(0x15, 0), (0x16, 0), (0x17, 3 * 2 ^ 53), (0x18, 3 * 2 ^ 53), (0x20, 0), (0x21, 0), (0x22, 2 ^ 47 + 20), (0x23, 30 * 2 ^ 53),
   (0x24, 0), (0x25, 0), (0x28, 0), (0x30, 2038 * 2 ^ 34), (0x31, 0), (0x32, 2 ^ 47 + 15), (0x33, 0), (0x34, 0), (0x38, 0)] ++
  [(0x39, 0), (0x3A, 255 * 2 ^ 5), (0x3B, 0), (0x3C, 0), (0x3F, 0)]

/-- Every instruction can issue, in either half and in the last sequencer. -/
theorem witness_SeqIssues : ∀ e ∈ goodWords, SeqIssues (seqAt 255 (e.1 * 2 ^ 58 + e.2)) 255 1 e.1 := by
  unfold SeqIssues
  decide +kernel

theorem test_movi : (after (.seqMovi 0 0 .ok) (seqAt 0 (0x01 * 2 ^ 58 + 31 * 2 ^ 53 + 2 ^ 32 - 1))).g 0 31 = 2 ^ 32 - 1 := by
  decide +kernel
/-- The worked program: ADD gives the since-stamp 0x000F_436A. -/
theorem test_add : (after (.seqAdd 0 0 .ok) ((seqAt 0 wAdd).setFld (Base.seq 0) Reg.Seq.G 0x000F_4342 4)).g 0 4 = 0x000F_436A := by
  decide +kernel
theorem test_sub_wraps : (after (.seqSub 0 0 .ok) (seqAt 0 (0x03 * 2 ^ 58 + 2 ^ 47 + 1))).g 0 0 = 2 ^ 32 - 1 := by decide +kernel
theorem test_shl_low_bits : (after (.seqShl 0 0 .ok) ((seqAt 0 (0x07 * 2 ^ 58 + 2 ^ 47 + 33)).setFld (Base.seq 0) Reg.Seq.G 3
    0)).g 0 0 = 6 := by decide +kernel
theorem test_bge_taken : seqPc (after (.seqBge 0 0 .ok) (seqAt 0 (0x14 * 2 ^ 58 + 2047 * 2 ^ 32))) 0 = 2047 := by decide +kernel
theorem witness_SequencerBranches : ((seqAt 0 0).seq 0).stack.length < 8 ∧
    (((seqAt 0 0).modSeq 0 fun q => { q with stack := [7] }).seq 0).stack = [7] := by decide
theorem test_ret : seqPc (after (.seqRet 0 0 .ok) ((seqAt 0 (0x16 * 2 ^ 58)).modSeq 0 fun q => { q with stack := [7] })) 0 = 7 := by
  decide +kernel
theorem test_djnz_wraps : (after (.seqDjnz 0 0 .ok) (seqAt 0 (0x18 * 2 ^ 58 + 9 * 2 ^ 32))).fld (Base.seq 0) Reg.Seq.LC 0 =
    2 ^ 24 - 1 := by decide +kernel
/-- The worked program: TPNOW issued at step 1,000,001 makes tp 1,000,258. -/
theorem test_tpnow : ((after (.seqTpnow 0 1 .ok) { seqAt 0 wTpnow with count := 500000 }).seq 0).tp = 1000258 := by decide +kernel
/-- The worked program: TPRD writes 0x000F_4342. -/
theorem test_tprd : (after (.seqTprd 0 0 .ok) (seqAt 0 wTprd)).g 0 4 = 0x000F_4342 := by decide +kernel
theorem test_tpaln : ((after (.seqTpaln 0 0 .ok) (seqAt 0 (0x22 * 2 ^ 58 + 2 ^ 47 + 20))).seq 0).tp = 2 ^ 20 := by decide +kernel
/-- Sequencer 0 waits in WAITT for step 1,000,006. -/
def inWait (w : SeqWait) : State := (seqAt 0 0).modSeq 0 fun q => { q with wait := w }
theorem witness_SequencerTimelinePointer : Settled (inWait (.waitt 1000006)) ∧ (inWait (.waitt 1000006)).running = true ∧
    (inWait (.waitt 1000006)).run = true ∧ ((inWait (.waitt 1000006)).seq 0).stall = .none ∧ ((inWait (.waitt 1000006)).seq 0).wait = .waitt 1000006 := by decide
theorem test_waitt_expiry : ((after (.waittExpiry 0 0) (inWait (.waitt 1000006))).seq 0).wait = .none := by decide +kernel

/-- A reserved opcode is a program fault. -/
theorem witness_ProgramFault : let s := seqAt 0 (0x3E * 2 ^ 58)
    Settled s ∧ s.seqMay 0 (s.stepOf 0) = true ∧ seqBad (s.seqWord 0) = true ∧ s.csEnd 0 0x3E = .go := by decide +kernel
/-- A sound word whose routine runs through words with SEQ = CONT only (R145). -/
theorem witness_RoutineFault : let s := { seqAt 0 wAdd with cs := [] }
    s.seqMay 0 (s.stepOf 0) = true ∧ seqBad (s.seqWord 0) = false ∧ s.csEnd 0 0x02 = .fault := by decide +kernel
theorem test_routine_fault : (after (.seqAdd 0 0 .ok) { seqAt 0 wAdd with cs := [] }).fld (Base.seq 0) Reg.Hdr.CODE = 0x11 := by
  decide +kernel
/-- A shot program whose MOVI has I = 1 (R99). -/
theorem test_movi_with_i : seqBad (0x01 * 2 ^ 58 + 2 ^ 47) = true := by decide
theorem test_program_fault : (after (.seqNop 0 0 .ok) (seqAt 0 (0x3E * 2 ^ 58))).fld (Base.seq 0) Reg.Hdr.CODE = 0x11 := by
  decide +kernel

/-- Sequencer, tone engine and read-out tone of one function. -/
def shotAt (w : Nat) : State := withFields (seqAt 0 w) [(Base.seq 0, Reg.Hdr.FN, 3), (Base.tone 5, Reg.Hdr.FN, 3)]
theorem witness_TimedCommandEntry : (shotAt wPost).seqFlr 0 = false ∧ tgtOf 5 = some (.tone 5) ∧
    SeqW.cmd wPost < (Tgt.tone 5).codes ∧ (shotAt wPost).owner (Tgt.tone 5).page = (shotAt wPost).owner (Base.seq 0) ∧
    (postedCmd (shotAt wPost) 0 1000006).step ≤ 1000006 + (shotAt wPost).fld (Base.seq 0) Reg.Seq.LOOKAHEAD ∧
    ((shotAt wPost).tgtQueue (.tone 5)).length < (Tgt.tone 5).cap ∧
    EntersInOrder (shotAt wPost) (.tone 5) (postedCmd (shotAt wPost) 0 1000006) 1000006 := by
  refine ⟨by decide +kernel, by decide, by decide, by decide +kernel, by decide +kernel, by decide +kernel, by decide +kernel, ?_⟩
  have none : (shotAt wPost).tgtQueue (.tone 5) = [] := by decide +kernel
  simp [none]
/-- A command of a sequencer with a higher number has entered in the same step. -/
theorem witness_EntersBetween : let s := (shotAt wPost).modTone 5 fun x => { x with queue := [⟨1000260, 9, none, 0, 7, 1000006⟩] }
    EntersBetween s (.tone 5) (postedCmd s 0 1000006) 1000006 [] [⟨1000260, 9, none, 0, 7, 1000006⟩] :=
  ⟨by decide +kernel, by decide +kernel, by simp, by decide +kernel, by simp, by decide +kernel⟩
theorem test_post_between : ((after (.seqPost 0 0 .ok) ((shotAt wPost).modTone 5 fun x =>
    { x with queue := [⟨1000260, 9, none, 0, 7, 1000006⟩] })).tgtQueue (.tone 5)).map TCmd.poster = [0, 9] := by decide +kernel
/-- The worked program: the X90 enters the queue of TONE[5] for step 1,000,258. -/
theorem test_post : (after (.seqPost 0 0 .ok) (shotAt wPost)).tgtQueue (.tone 5) = [⟨1000258, 0, none, 0, 100, 1000006⟩] := by decide +kernel
theorem test_post_now : ((after (.seqPost 0 0 .ok) (shotAt wPostNow)).tgtQueue (.tone 5)).map TCmd.step = [1000009] := by
  decide +kernel
/-- A late command: its step has passed. -/
theorem test_post_late : (after (.seqPost 0 0 .ok) { shotAt wPost with count := 500128 }).fld (Base.seq 0) Reg.Seq.LATE_COUNT =
    1 := by decide +kernel
/-- Before LOOKAHEAD the POST stalls. -/
theorem test_post_stalls : ((after (.seqPost 0 0 .ok) { shotAt wPost with count := 490000 }).seq 0).wait ≠ .none := by
  decide +kernel
/-- A foreign target is refused with 0x12, an unlisted code with 0x15. -/
theorem test_post_foreign : (after (.seqPost 0 0 .ok) ((shotAt wPost).setFld (Base.tone 5) Reg.Hdr.FN 4)).fld (Base.seq 0)
    Reg.Hdr.CODE = 0x12 := by decide +kernel
theorem test_post_unlisted : (after (.seqPost 0 0 .ok) (shotAt (wPost + 15 * 2 ^ 42))).fld (Base.seq 0) Reg.Hdr.CODE = 0x15 := by
  decide +kernel
def postWaits : State := (shotAt 0).modSeq 0 fun q => { q with wait := .post 5 ⟨1000258, 0, none, 0, 100, 0⟩ false 0 1000258 }
theorem witness_PostQueueEntry : Settled postWaits ∧ (postWaits.seq 0).stall = .none ∧ postWaits.running = true ∧ postWaits.run = true ∧
    (postWaits.seq 0).wait = .post 5 ⟨1000258, 0, none, 0, 100, 0⟩ false 0 1000258 ∧
    (postWaits.tgtQueue (.tone 5)).length < (Tgt.tone 5).cap := by decide +kernel
theorem test_post_queue_entry : ((after (.postQueueEntry 0 0) postWaits).tgtQueue (.tone 5)).length = 1 := by decide +kernel

/-- Slot 5 of the worked program holds state 1 with stamp 1,000,457; g4 is the since-stamp. -/
def brdAt (w c : Nat) : State :=
  let s := (withFields (shotAt w) [(Base.rout 5, Reg.Hdr.FN, 3)]).setFld Base.dec Reg.Dec.SRC_NUM 5 5
  let s := (s.setFld (Base.seq 0) Reg.Seq.G 1000298 4).modSeq 0 fun q =>
    { q with isOpen := true, shots := [⟨0, 1000258, none, none, 0, 0, 0, [], 0, [], false⟩] }
  { s with count := c, slots := SMap.set (fun _ => .reset) s.slots 5 ⟨.value 1 9, 1000457, (1, 9)⟩ }
theorem witness_DecisionBranch : (brdAt wBrd 500236).slotMay ((brdAt wBrd 500236).owner (Base.seq 0)) 5 = true ∧
    SeqIssues (brdAt wBrd 500236) 0 0 0x30 ∧
    Accepts (brdAt wBrd 500236) 5 1000298 1000472 1000472 (1000258 + SeqW.tmo wBrd) ⟨.value 1 9, 1000457, (1, 9)⟩ :=
  ⟨by decide +kernel, ⟨by decide +kernel, by decide +kernel, by decide +kernel, by decide +kernel, by decide +kernel⟩,
    0, [], [], by decide +kernel, by decide, .inr ⟨by decide, by decide⟩, by simp⟩
/-- The worked program: state 1 leads to 0x012. -/
theorem test_brd : seqPc (after (.seqBrd 0 0 .ok) (brdAt wBrd 500236)) 0 = 0x012 := by decide +kernel
/-- At the since-stamp's next step, 1,000,458, the value is not acceptable and BRD waits. -/
theorem test_brd_waits : ((after (.seqBrd 0 0 .ok) ((brdAt wBrd 500236).setFld (Base.seq 0) Reg.Seq.G 1000458 4)).seq 0).wait ≠
    .none := by decide +kernel
/-- From step 1,000,519 on the timeout arm is taken where no acceptable value was visible by then. -/
theorem test_brd_timeout : seqPc (after (.seqBrd 0 1 .ok) ((brdAt wBrd 500259).setFld (Base.seq 0) Reg.Seq.G 1000458 4)) 0 =
    0x018 := by decide +kernel
/-- The halted program of chapter 20: dispatched again in step 1,000,600, the BRD takes arm 1 at once. -/
theorem test_brd_resumed : seqPc (after (.seqBrd 0 0 .ok) ((brdAt wBrd 500300).modSeq 0 fun q =>
    { q with restart := some (1000008, 0) })) 0 = 0x012 := by decide +kernel
def brdWaits (since : Nat) : State := (brdAt 0 500236).modSeq 0 fun q => { q with wait := .brd 5 since 0x010 1000518 }
theorem witness_BrdAccept : Settled (brdWaits 1000298) ∧ (brdWaits 1000298).running = true ∧ (brdWaits 1000298).run = true ∧
    ((brdWaits 1000298).seq 0).stall = .none ∧ ((brdWaits 1000298).seq 0).wait = .brd 5 1000298 0x010 1000518 ∧
    Accepts (brdWaits 1000298) 5 1000298 1000472 1000472 1000518 ⟨.value 1 9, 1000457, (1, 9)⟩ :=
  ⟨by decide +kernel, by decide +kernel, by decide +kernel, by decide +kernel, by decide +kernel,
    0, [], [], by decide +kernel, by decide, .inr ⟨by decide, by decide⟩, by simp⟩
/-- With a later since-stamp the value is not acceptable, and in step 1,000,519 the timeout has come. -/
theorem witness_DecTimeout : let s := { brdWaits 1000458 with count := 500259 }
    (∀ x, ¬ Accepts s 5 1000458 1000519 1000519 1000518 x) ∧ (1000518 < s.stepOf 1) := by
  refine ⟨?_, by decide +kernel⟩
  rintro x ⟨k, before, after, h, -, hv, -⟩
  have hs : State.slotVersions { brdWaits 1000458 with count := 500259 } 5 1000519 (min 1000519 1000518) =
    [(0, ⟨.value 1 9, 1000457, (1, 9)⟩)] := by decide +kernel
  rw [hs] at h
  rcases before with _ | ⟨b, bs⟩
  · simp only [List.nil_append, List.cons.injEq, Prod.mk.injEq] at h
    obtain ⟨⟨-, rfl⟩, -⟩ := h
    rcases hv with hv | ⟨-, hv⟩
    · exact absurd hv (by decide)
    · exact absurd hv (by decide)
  · simp at h
theorem test_brd_accept : seqPc (after (.brdAccept 0 0) (brdWaits 1000298)) 0 = 0x012 := by decide +kernel
theorem test_dec_timeout : (after (.decTimeout 0 1) { brdWaits 1000458 with count := 500259 }).fld (Base.seq 0)
    Reg.Seq.TIMEOUT_COUNT = 1 := by decide +kernel
theorem test_ldd : (after (.seqLdd 0 0 .ok) (brdAt (0x31 * 2 ^ 58 + 5 * 2 ^ 45 + 4 * 2 ^ 13 + 6 * 2 ^ 8) 500236)).g 0 6 =
    2 ^ 31 + 4 * 9 + 1 := by decide +kernel
/-- The worked program: RECD sets bitmap bit 5 for an accepted state 1. -/
theorem test_recd : (((after (.seqRecd 0 0 .ok) ((brdAt wRecd 500236).modOpen 0 fun x => { x with accepted := [(5, some 1)] })).seq
    0).openShot.map Shot.bitmap) = some 32 := by decide +kernel

/-- Event channel 7 belongs to the sequencer's function. -/
def waitsEvent : State := (inWait (.waite 7 64 1000258 0))
theorem witness_EventWaits : (seqAt 0 0).owner (evgPage 7) = (seqAt 0 0).owner (Base.seq 0) ∧ Settled waitsEvent ∧
    waitsEvent.running = true ∧ waitsEvent.run = true ∧ (waitsEvent.seq 0).stall = .none ∧
    (waitsEvent.seq 0).wait = .waite 7 64 1000258 0 := by decide +kernel
theorem witness_FiredSince : FiredSince (waitsEvent.modEvch 7 fun x => { x with log := [(1, 1000003, 1000006)] }) 7 1000006 0
    1000006 := ⟨(1, 1000003, 1000006), by decide +kernel, by decide, by decide⟩
theorem witness_not_FiredSince : ¬ FiredSince waitsEvent 7 1000006 0 1000006 := by
  have none : (waitsEvent.evch 7).log = [] := by decide +kernel
  simp [FiredSince, none]
theorem test_waite_release : ((after (.waiteRelease 0 0) (waitsEvent.modEvch 7 fun x => { x with log := [(1, 1000003, 1000006)] })).seq 0).wait =
    .none := by decide +kernel
theorem test_waite_timeout : seqPc (after (.waiteTimeout 0 0) { waitsEvent with count := 500130 }) 0 = 64 := by decide +kernel
/-- Two sequencers of a function wait in barrier group 31. -/
def atBarrier : State :=
  let s := withFields ((inWait (.barw 31)).setEnable (Base.seq 255) true) [(Base.seq 0, Reg.Seq.BAR_MASK, 2 ^ 31),
    (Base.seq 255, Reg.Seq.BAR_MASK, 2 ^ 31)]
  s.modSeq 255 fun q => { q with issuing := true, wait := .barw 31 }
theorem witness_BarrierRelease : Settled atBarrier ∧ (atBarrier.seq 0).stall = .none ∧ atBarrier.running = true ∧ atBarrier.run = true ∧
    (atBarrier.seq 0).wait = .barw 31 := by decide +kernel
theorem test_barrier_release : seqPc (after (.barrierRelease 0 0) atBarrier) 255 = 1 := by decide +kernel
theorem test_barrier_holds : ((after (.barrierRelease 0 0) (atBarrier.modSeq 255 fun q => { q with wait := .none })).seq 0).wait =
    .barw 31 := by decide +kernel

theorem witness_ShotOpens : ((seqAt 0 0).seq 0).isOpen = false ∧ ((seqAt 0 0).seq 0).stopReq = false ∧
    ((seqAt 0 0).seq 0).handTo = none := by decide
/-- The worked program: SHOT opens shot 0 at step 1,000,258. -/
theorem test_shot : ((after (.seqShot 0 0 .ok) (seqAt 0 (0x38 * 2 ^ 58))).seq 0).shots.map Shot.start = [1000258] := by
  decide +kernel
/-- The worked program: ENDS 600 sets boundary and tp to 1,000,858. -/
theorem test_ends : ((after (.seqEnds 0 0 .ok) (brdAt wEnds 500238)).seq 0).shots.map Shot.boundary = [some 1000858] := by
  decide +kernel
theorem test_stop : ((after (.seqStop 0 0 .ok) (brdAt (0x3F * 2 ^ 58) 500238)).seq 0).ending = true := by decide +kernel
theorem test_sig : (after (.seqSig 0 0 .ok) (seqAt 0 (0x3C * 2 ^ 58 + 2 ^ 47 + 0x1FF))).fld (Base.seq 0) Reg.Seq.SIG_CODE = 0xFF := by
  decide +kernel

/-- Shot 0 of the worked program has reached its boundary; ring 262,143 is a RESULT ring of its function. -/
def shotOver (c : Nat) : State :=
  let s := (brdAt 0 c).modSeq 0 fun q => { q with isOpen := false, shots := q.shots.map fun x => { x with boundary := some 1000858 } }
  let s := withFields s [(Base.fn 3, Reg.Fn.RING_BASE, 4095), (Base.fn 3, Reg.Fn.RING_COUNT, 1), (Base.seq 0, Reg.Seq.RES_RING, 262143)]
  s.modRing 262143 fun r => { r with en := true, kind := 1 }
theorem witness_ResultRecords : (shotOver 500429).ringValid 262143 1 ((shotOver 500429).owner (Base.seq 0)) = true ∧ Settled (shotOver 500429) ∧ ((shotOver 500429).seq 0).shots ≠ [] ∧
    ((shotOver 500429).seq 0).shots.map Shot.boundary = [some 1000858] ∧ 1000858 / 2 ≤ (shotOver 500429).count ∧
    (shotOver 500429).queued = [] ∧ (shotOver 500429).seqFlr 0 = false := by decide +kernel
theorem test_record_early : after (.resultRecordWrite 0) (shotOver 500428) = shotOver 500428 := by decide +kernel
/-- The worked program: the record has timeline count 500,129, function 3 and flags 0. -/
theorem test_record : (((shotOver 500429).seq 0).shots.map fun x => ((shotOver 500429).resultRecord 0 x).drop 8 |>.take 4) =
    [[0xA1, 0xA1, 0x07, 0x00]] := by decide +kernel
def stopping : State := on5.modSeq 3 fun q => { q with ending := true }
theorem witness_SeqStopped : (stopping.seq 3).ending = true ∧ (stopping.seq 3).shots = [] ∧ stopping.queued = [] := by decide +kernel
theorem test_seq_stopped : (after (.seqStopped 3) stopping).reg (Base.seq 3 + 0x010) = 1 := by decide +kernel

theorem witness_SequencerStartStop : mayAccess on5 .seq 255 ∧ SeqMayStart on5 255 ∧ mayAccess (seqAt 0 0) .seq 0 ∧
    (seqAt 0 0).enabled (Base.seq 0) = true ∧ ((seqAt 0 0).seq 0).issuing = true :=
  ⟨⟨by decide, by decide⟩, ⟨by decide +kernel, by decide, by decide, by decide, by decide⟩, ⟨by decide, by decide⟩, by decide,
    by decide⟩
theorem test_seq_enable : (after (.seqEnable .mgmt 255) on5).enabled (Base.seq 255) = true := by decide +kernel
theorem test_seq_disable : ((after (.seqNormalDisable .mgmt 0) (seqAt 0 0)).seq 0).stopReq = true := by decide +kernel
theorem test_seq_disable_now : ((after (.seqDisableNow .mgmt 0) (seqAt 0 0)).seq 0).killReq = true := by decide +kernel
def killed : State := (seqAt 0 0).modSeq 0 fun q => { q with killReq := true }
theorem witness_SeqImmediateDisable : Settled killed ∧ (killed.seq 0).killReq = true ∧
    killed.seqBound 0 (killed.stepOf 0) = true := by decide
theorem test_seq_immediate_disable : (after (.seqImmediateDisable 0 0) killed).enabled (Base.seq 0) = false := by decide +kernel

/-- A BRD dispatched at step 1,000,006 waits at step 1,000,022, its first partial boundary. -/
def routine : State := { (inWait (.brd 5 0 0 2000000)).modSeq 0 fun q => { q with micro := 1000006 } with count := 500011 }
theorem witness_MicroRoutines : (routine.seq 0).wait ≠ .none ∧ routine.seqMet 0 1000022 = false ∧
    (routine.seq 0).micro + 16 ≤ 1000022 ∧ (routine.seq 0).micro < 1000022 ∧ (1000022 - (routine.seq 0).micro) % 16 = 0 ∧ (routine.seq 0).stall = .none := by
  decide +kernel
theorem test_micro_partial_boundary : ((after (.microPartialBoundary 0 0) routine).seq 0).micro = 1000022 := by decide +kernel
theorem test_micro_step_limit : ((after (.microStepLimit 0 0) routine).seq 0).issuing = false := by decide +kernel
def stalled : State :=
  let s := (seqAt 0 0).modSeq 0 fun q => { q with stall := .program 3 }
  let s := s.modSeq 255 fun q => { q with stall := .control 4095 }
  { s with loader := { s.loader with refetch := [15 * 4096 + 4095] } }
theorem witness_Refetch : Settled stalled ∧ (stalled.seq 0).stall = .program 3 ∧ stalled.frozen = false ∧
    stalled.refetchOut (shadowAt (0x0240_0000 + 8 * 3)) = false ∧ stalled.refetchOut (imageAt 0 4095) = false ∧
    stalled.fld Base.sec Reg.Sec.CL_SLOT = 0 ∧
    stalled.loader.refetch.contains (15 * 4096 + 4095) = true := by decide
theorem test_program_refetch : ((after (.programRefetchComplete 0) stalled).seq 0).stall = .none := by decide +kernel
theorem test_cs_refetch : ((after (.csRefetchComplete 15 4095 true) stalled).seq 255).stall = .none := by decide +kernel
theorem test_cs_refetch_fails : (after (.csRefetchComplete 15 4095 false) stalled).fld Base.sec Reg.Sec.CL_FAIL = 0x8000 := by
  decide +kernel

/-- Before its SHOT a sequencer is to hand over to one that holds the same program. -/
def handing : State :=
  let s := (seqAt 0 (0x38 * 2 ^ 58)).modSeq 0 fun q => { q with handTo := some 255 }
  { s with bar2 := wrLE s.bar2 (0x0240_0000 + 16384 * 255) 8 (0x38 * 2 ^ 58) }
/-- The destination has come to life meanwhile. -/
def handingLate : State := handing.modSeq 255 fun q => { q with issuing := true }
theorem witness_HandOver : mayAccess on5 .seq 0 ∧ (on5.seq 0).handTo = none ∧ on5.handOk 0 255 = true ∧
    (on5.setFld (Base.seq 255) Reg.Hdr.FN 9).handOk 0 255 = false := by
  unfold mayAccess
  decide +kernel
theorem witness_HandOverCopy : (handing.seq 0).handTo = some 255 ∧ SeqIssues handing 0 0 0x38 ∧ (handing.seq 0).isOpen = false ∧
    handing.handOk 0 255 = true ∧ SeqIssues handingLate 0 0 0x38 ∧ handingLate.handOk 0 255 = false := by
  unfold SeqIssues
  decide +kernel
theorem test_handover_copy_refused : (after (.handoverCopy 0 0) handingLate).fld (Base.seq 0) Reg.Hdr.CODE = 0x16 := by
  decide +kernel
theorem test_handover_go : ((after (.handoverGo .mgmt 0 0x8000_00FF) on5).seq 0).handTo = some 255 := by decide +kernel
theorem test_handover_refused : (after (.handoverGo .mgmt 0 0x8000_00FF) (on5.setFld (Base.seq 255) Reg.Hdr.FN 9)).fld (Base.seq 0)
    Reg.Hdr.CODE = 0x16 := by decide +kernel
theorem test_handover_copy : ((after (.handoverCopy 0 0) handing).seq 255).tp = 1000258 := by decide +kernel

/-! ### Microcode, tone engines -/

theorem witness_MicrocodeLoader : mayAccess on3 .sec 0 ∧ on3.bit Base.sec Reg.Sec.BUSY = false ∧
    on3.bit Base.sec Reg.Sec.STAGED = false ∧ (on3.setBit Base.sec Reg.Sec.STAGED true).busyClusters 0xFFFF = 0 :=
  ⟨⟨by decide, by decide⟩, by decide, by decide, by decide +kernel⟩
theorem test_apply_refused : (after (.apply .mgmt) on3).fld Base.sec Reg.Sec.RESULT = 0x27 := by decide +kernel
/-- A VERIFY under way, of an image whose read fails at offset 64; an APPLY under way. -/
def verifying : State := { on3 with loader := { on3.loader with job := .verify } }
theorem witness_VerifyComplete : verifying.loader.job = .verify ∧ verifying.imgCheck (some 64) = some (0x28, 64) ∧
    verifying.freeSlot = some 1 := by decide +kernel
theorem test_verify_complete : (after (.verifyComplete (some 64)) verifying).fld Base.sec Reg.Sec.RESULT = 0x28 := by
  decide +kernel
def applying' : State := { on3 with loader := { on3.loader with job := .apply, mask := 0x8000 } }
theorem witness_ApplyComplete : applying'.loader.job = .apply ∧ (applying'.mcSlot 0).svn < 2 ^ 16 ∧
    (applying'.mcSlot 1).svn < 2 ^ 16 ∧ applying'.loader.mask.getLsbD 15 = true := by decide

/-- Entry 100 is valid for function 3: 4 granules from record 0, then END. A POST of START at step 1,000,008 waits. -/
def entryWord : Nat := 4 * 2 ^ 24 + 0xFFFF * 2 ^ 56 + 0xFFFF * 2 ^ 72
def toneAt (code arg : Nat) : State :=
  let s := withFields on5 [(Base.tone 511, Reg.Hdr.FN, 3), (Base.fn 3, Reg.Fn.ST_SIZE, 1), (Base.fn 3, Reg.Fn.PM_SIZE, 1)]
  let s := (s.setEnable (Base.tone 511) true).modTone 511 fun x => { x with queue := [⟨1000008, 0, none, code, arg, 0⟩] }
  { s with bar2 := wrLE s.bar2 (0x0200_0000 + 1600) 16 entryWord, count := 500003 }
theorem witness_ToneCommandsStart :
    HeadDue (toneAt 0 100) ((toneAt 0 100).tone 511).queue ⟨1000008, 0, none, 0, 100, 0⟩ [] 0 ∧
    (toneAt 0 100).enabled (Base.tone 511) = true ∧ ((toneAt 0 100).tone 511).play = none ∧
    (toneAt 0 100).entryValid 3 ((toneAt 0 100).entry 100) = true ∧
    (toneAt 0 101).entryValid 3 ((toneAt 0 101).entry 101) = false :=
  ⟨⟨by decide +kernel, rfl, by decide +kernel⟩, by decide, by decide, by decide +kernel, by decide +kernel⟩
theorem test_tone_start : ((after (.toneStart 511 true) (toneAt 0 100)).tone 511).play.map Play.bound = some 1000024 ∧
    (after (.toneStart 511 true) (toneAt 0 100)).fld (Base.tone 511) Reg.Hdr.INFO = 100 := by decide +kernel
theorem test_tone_start_invalid : (after (.toneStart 511 false) (toneAt 0 101)).fld (Base.tone 511) Reg.Hdr.CODE = 0x11 := by
  decide +kernel
theorem witness_ToneStart_disabled : ((toneAt 0 100).setEnable (Base.tone 511) false).enabled (Base.tone 511) = false ∧
    (((toneAt 0 100).setEnable (Base.tone 511) false).tone 511).queue = [⟨1000008, 0, none, 0, 100, 0⟩] := by decide +kernel
theorem witness_ToneFields : HeadDue (toneAt 4 0xFFFF) ((toneAt 4 0xFFFF).tone 511).queue ⟨1000008, 0, none, 4, 0xFFFF, 0⟩ [] 4 ∧
    ((toneAt 4 0xFFFF).tone 511).delayWas.step ≤ 1000008 ∧ ((toneAt 5 0).tone 511).phaseWas.step ≤ 1000008 :=
  ⟨⟨by decide +kernel, rfl, by decide +kernel⟩, by decide, by decide⟩
theorem test_fdelay : (after (.toneFdelay 511) (toneAt 4 0xFFFF)).fld (Base.tone 511) Reg.Tone.FDELAY = 31 := by decide +kernel
theorem test_phase : (after (.tonePhase 511) (toneAt 5 0x1_8000)).fld (Base.tone 511) Reg.Tone.PHASE_REG = 0x8000 := by
  decide +kernel
theorem test_frame : (after (.toneFrame 511) (toneAt 6 0x1FF)).fld (Base.tone 511) Reg.Tone.FRAME_QUBIT = 0xFF := by decide +kernel

/-- Entry 100 plays from step `k` on. -/
def playing (code k : Nat) : State :=
  (toneAt code 200).modTone 511 fun x => { x with play := some (mkPlay (decodeEntry 100 entryWord) k 0 0 none false) }
theorem witness_ToneCommandsEnd : ((playing 1 1000000).tone 511).play ≠ none ∧
    HeadDue (playing 1 1000000) ((playing 1 1000000).tone 511).queue ⟨1000008, 0, none, 1, 200, 0⟩ [] 1 ∧
    1000008 + 4 < 1000000 + 4 * 4 ∧ (999996 + 4 * 4 ≤ 1000008 + 4) ∧ mayAccess (playing 1 1000000) .tone 511 :=
  ⟨by decide, ⟨by decide +kernel, rfl, by decide +kernel⟩, by decide, by decide, ⟨by decide, by decide⟩⟩
/-- A JUMP before B − 4 is pending for B; one at B − 4 is late. -/
theorem test_jump : ((after (.toneJump 511 false) (playing 1 999997)).tone 511).play.map Play.jump =
    some (some ⟨200, 0, none⟩) := by decide +kernel
theorem test_jump_late : (after (.toneJump 511 false) (playing 1 999996)).fld (Base.tone 511) Reg.Tone.LATE_JUMP_COUNT = 1 := by
  decide +kernel
theorem test_tone_stop : ((after (.toneStop 511) (playing 2 1000000)).tone 511).stop = true := by decide +kernel
theorem test_tone_kill : (after (.toneKill 511) (playing 3 1000000)).fld (Base.tone 511) Reg.Tone.TRUNC_COUNT = 1 := by
  decide +kernel
theorem test_tone_enable : (after (.toneEnable .mgmt 0) on5).enabled (Base.tone 0) = true := by decide +kernel
theorem test_tone_disable : ((after (.toneNormalDisable .mgmt 511) (playing 0 1000000)).tone 511).norm = true := by
  decide +kernel
theorem test_tone_disable_now : (after (.toneDisableNow .mgmt 511) (playing 0 1000000)).enabled (Base.tone 511) = false := by
  decide +kernel

theorem witness_TonePlayProgress : ((playing 0 999996).tone 511).cont = none ∧ 999996 + 16 - 4 < 2 * (500003 + 2) ∧
    ((playing 0 999996).tone 511).play.map (playNext ((playing 0 999996).tone 511)) = some none ∧
    ((playing 0 1000008).tone 511).play.map Play.check = some 1000008 ∧ 1000008 - 2 < 2 * (500003 + 2) ∧
    Settled (playing 0 999990) ∧ (playing 0 999990).frozen = false := by decide +kernel
theorem test_tone_decision : ((after (.toneDecisionPoint 511 false) (playing 0 999996)).tone 511).cont = some none := by
  decide +kernel
theorem test_tone_boundary : ((after (.tonePlayBoundary 511) ((playing 0 999990).modTone 511 fun x =>
    { x with cont := some none })).tone 511).play = none := by decide +kernel
theorem test_granule : ((after (.toneGranuleCheck 511 none) (playing 0 1000008)).tone 511).grans.length = 1 := by decide +kernel
theorem test_granule_parity : (after (.toneGranuleCheck 511 (some 3)) (playing 0 1000008)).fld (Base.tone 511) Reg.Hdr.INFO =
    3 := by decide +kernel
theorem test_tone_refetch : ((after (.toneRefetchComplete 511) ((playing 0 0).modTone 511 fun x =>
    { x with refetch := [7] })).tone 511).refetch = [] := by decide +kernel

/-- Ring 0 of function 3 is a stream ring in the value region with one unread entry. -/
def streaming : State :=
  let s := withFields (toneAt 0 0) [(Base.fn 3, Reg.Fn.RING_COUNT, 1), (Base.mc, Reg.Mc.VAT_SIZE, 512),
    (Base.mc, Reg.Mc.VAT_BASE, 256), (Base.tone 511, Reg.Hdr.LIMIT, 1), (Base.tone 511, Reg.Tone.SKIP_DEBT, 3)]
  let s := s.modRing 0 fun x => { x with en := true, kind := 2, log2 := 6, daddr := 2 ^ 22, prod := 1, moved := 1 }
  { s with limits := [(Base.tone 511 + 0x024, 1)] }
theorem witness_ToneStreamRefill : streaming.enabled (Base.tone 511) = true ∧ (streaming.tone 511).buf.length + 8 ≤ 1024 ∧
    streaming.dramShut = false ∧ streaming.strmValid 511 = true ∧ streaming.ringUnread 0 = true ∧ (streaming.ring 0).moved ≠ (streaming.ring 0).cons ∧
    (streaming.chargeRes (Base.tone 511 + 0x024) (streaming.limitOf (Base.tone 511))).isSome = true := by decide +kernel
theorem witness_ToneStreamRefill_invalid :
    let s := streaming.setFld Base.mc Reg.Mc.VAT_SIZE 0
    s.strmValid 511 = false ∧ (s.chargeRes (Base.tone 511 + 0x024) (s.limitOf (Base.tone 511))).isSome = true ∧
      (s.tone 511).strmSeen = false := by decide +kernel
theorem test_tone_stream_refill : ((after (.toneStreamRefill 511) streaming).ring 0).asked = [(0, none)] := by decide +kernel
/-- The entry that the engine has asked for is on its way from the DRAM. -/
def streamComes : State :=
  (streaming.modRing 0 fun x => { x with asked := [(0, none)] }).modDch 0 fun d =>
    { d with inflight := [⟨1, false, 2 ^ 28, 0, 0, false, .stream 511 0 0, leBytes 64 0, false⟩] }
theorem witness_StreamDelivery : (streamComes.dch 0).inflight.map DramReq.use = [.stream 511 0 0] ∧
    (streamComes.dch 0).failing = none ∧ (streamComes.ring 0).asked = [(0, none)] := by decide +kernel
/-- Three records of the entry pay the skip debt. -/
theorem test_stream_delivery : ((after (.dramReadComplete 0 none false) streamComes).tone 511).buf.length = 5 := by decide +kernel
theorem witness_NoRefill : NoRefill ((streaming.modRing 0 fun x => { x with asked := [(0, none)] })) 511 :=
  .inr (.inr (.inr (.inr ⟨by decide +kernel, by decide +kernel⟩)))

/-- Record 5 of parameter memory. -/
theorem witness_Bar2WriteUnit : OneUnit 0x28 [1, 2, 3, 4, 5, 6, 7, 8] ∧ Bar2Now on3 on3 .mgmt ∧
    on3.windowDenied .mgmt (windowAt 0x28) = none ∧ (on3.unitActive false (windowAt 0x28) || on3.frozen) = false :=
  ⟨⟨by decide, fun a k => by simp [windowAt], by decide, by decide⟩, ⟨by decide, rfl⟩, by decide, by decide⟩
theorem test_bar2_write : rdByte (after (.bar2Write .mgmt 0x28 [1, 2, 3, 4, 5, 6, 7, 8]) on3).bar2 0x2F = 8 := by decide +kernel
theorem test_bar2_shadow : rdByte (after (.bar2Write .mgmt 0x28 [1, 2, 3, 4, 5, 6, 7, 8]) on3).dram 0x400_002F = 8 := by
  decide +kernel
/-- A record in play is active. -/
theorem test_bar2_active : (playing 0 1000000).unitActive false (windowAt 0x28) = true := by decide +kernel
theorem witness_PartitionWrite : mayAccess on3 .fn 63 ∧ on3.playersBusy 63 = false := ⟨⟨by decide, by decide⟩, by decide⟩
theorem test_partition : (after (.partitionWrite .mgmt 63 false 0x0001_0002) on3).fld (Base.fn 63) Reg.Fn.PM_SIZE = 1 := by
  decide +kernel
theorem test_partition_overlap : (after (.partitionWrite .mgmt 63 false 0x0001_0000) (on3.setFld (Base.fn 3) Reg.Fn.PM_SIZE
    1)).fld (Base.fn 63) Reg.Hdr.CODE = 0x14 := by decide +kernel

/-! ### Converters and read-out tones -/

/-- The device in Ready with tile 3 and tile 5 locked and aligned. -/
def ready : State := withFields (inState 4) [(Base.tile 3, Reg.Tile.LOCK, 1), (Base.tile 3, Reg.Tile.ALIGNED, 1),
  (Base.tile 5, Reg.Tile.LOCK, 1), (Base.tile 5, Reg.Tile.ALIGNED, 1)]
theorem witness_OutputChannelSwitching : mayAccess ready .out 47 ∧ ready.enabled (Base.out 47) = false ∧
    (ready.outCh 47).phase = .off ∧ (ready.setEnable (Base.out 47) true).enabled (Base.out 47) = true ∧
    NoBoundaryDue { ready with count := 1 } := ⟨⟨by decide, by decide⟩, by decide, by decide, by decide, .inr (.inl (by decide))⟩
theorem test_out_enable : ((after (.outEnable .mgmt 31) ready).outCh 31).phase = .rising := by decide +kernel
theorem test_out_disable : ((after (.outNormalDisable .mgmt 31) ((ready.setEnable (Base.out 31) true).modOut 31 fun o =>
    { o with phase := .emit })).outCh 31).norm = true := by decide +kernel
theorem test_out_disable_now : ((after (.outDisableNow .mgmt 31) (ready.modOut 31 fun o => { o with phase := .emit })).outCh
    31).phase = .killed 1 := by decide +kernel
theorem test_nco : ((after (.ncoFreqHiWrite .mgmt 0 0x1_8000) { ready with count := 1 }).outCh 0).freq = 0x8000 * 2 ^ 32 := by
  decide +kernel
theorem test_dac_clock : (after (.dacClockMissing 0) ready).fld (Base.out 0) Reg.Hdr.CODE = 0x12 := by decide +kernel
theorem witness_AdcSwitching : mayAccess ready .adc 15 ∧ ready.enabled (Base.adc 15) = false ∧ (ready.adcCh 15).phase = .off :=
  ⟨⟨by decide, by decide⟩, by decide, by decide⟩
theorem test_adc_enable : ((after (.adcEnable .mgmt 15) ready).adcCh 15).phase = .rising := by decide +kernel
theorem test_adc_disable : ((after (.adcNormalDisable .mgmt 15) ((ready.setEnable (Base.adc 15) true).modAdc 15 fun x =>
    { x with phase := .running })).adcCh 15).norm = true := by decide +kernel
theorem test_adc_disable_now : (after (.adcDisableNow .mgmt 15) (ready.setEnable (Base.rout 255) true)).enabled
    (Base.rout 255) = false := by decide +kernel
theorem test_adc_clock : (after (.adcClockMissing 0) ready).fld (Base.adc 0) Reg.Hdr.CODE = 0x12 := by decide +kernel

theorem witness_ReadoutToneRegisters : mayAccess on5 .rout 255 ∧ on5.enabled (Base.rout 255) = false ∧
    (on5.rout 255).norm = false ∧ on5.fld (Base.rout 255) Reg.Rout.FIR_TAPS = 0 ∧ (on5.rout 255).swapAt = none ∧
    on5.kernelActive 255 = false := ⟨⟨by decide, by decide⟩, by decide, by decide, by decide, by decide, by decide +kernel⟩
theorem test_rout_enable : (after (.routEnable .mgmt 255) on5).enabled (Base.rout 255) = true := by decide +kernel
theorem test_rout_enable_demand : (after (.routEnable .mgmt 255) (withFields on5 [(Base.rout 255, Reg.Rout.FIR_TAPS, 384)])).fld
    (Base.rout 255) Reg.Hdr.CODE = 0x12 := by decide +kernel
theorem test_rout_disable_now : (after (.routDisableNow .mgmt 0) (on5.setEnable (Base.rout 0) true)).enabled (Base.rout 0) =
    false := by decide +kernel
theorem test_swap : (after (.swap .mgmt 0 1) on5).bit (Base.rout 0) Reg.Rout.SWAP = true := by decide +kernel
theorem test_coefficient : (after (.coefficientWrite .mgmt 0 383 0x7FFF_8000) on5).fir =
    [(firKey 0 1 383, 0x7FFF_8000)] := by decide +kernel
theorem test_kdata_write : (after (.kdataWrite .mgmt 1 5) (on5.setFld (Base.rout 1) Reg.Rout.KADDR 4095)).fld (Base.rout 1)
    Reg.Rout.KADDR = 0 := by decide +kernel
theorem test_kdata_read : (after (.kdataRead .mgmt 1) { on5 with kernel := [(4096, 7)] }).respVal = 7 := by decide +kernel
theorem test_res_acc : (after (.resAccRead .mgmt 1) (on5.modRout 1 fun x => { x with res := ⟨2 ^ 39 + 3, 0, 0, 0⟩ })).reg
    (Base.rout 1 + 0x144) = 0x80 := by decide +kernel
def leaving : State := on5.modRout 2 fun x => { x with norm := true }
theorem witness_RoutDisabled : (leaving.rout 2).norm = true ∧ (leaving.rout 2).wins = [] ∧ (leaving.rout 2).queue = [] ∧
    leaving.acqBusyOn 2 2 = false ∧ Settled leaving ∧ leaving.frozen = false := by decide +kernel
theorem test_rout_disabled : (after (.routDisabled 2) leaving).reg (Base.rout 2 + 0x010) = 0x20 := by decide +kernel
theorem test_fir_refetch : ((after (.firRefetchComplete 0) (on5.modRout 0 fun x => { x with firRefetch := [1, 2] })).rout
    0).firRefetch = [] := by decide +kernel
theorem test_kernel_refetch : ((after (.kernelRefetchComplete 0) (on5.modRout 0 fun x => { x with kerRefetch := [1, 2] })).rout
    0).kerRefetch = [] := by decide +kernel

/-- A command of step 1,000,008 stands at the head of ROUT[5], which is enabled with K = 1. -/
def routAt (code arg : Nat) : State :=
  { (on5.setEnable (Base.rout 5) true).modRout 5 fun x => { x with queue := [⟨1000008, 0, none, code, arg, 0⟩] } with
    count := 500003 }
theorem witness_IntegrationWindows :
    HeadDue (routAt 0 160) ((routAt 0 160).rout 5).queue ⟨1000008, 0, none, 0, 160, 0⟩ [] 0 ∧
    (routAt 0 160).enabled (Base.rout 5) = true ∧ ((routAt 0 160).rout 5).norm = false ∧
    (routAt 0 160).fld (Base.rout 5) Reg.Rout.K ≠ 0 ∧ ((routAt 2 0).rout 5).kWas.step ≤ 1000008 :=
  ⟨⟨by decide +kernel, rfl, by decide +kernel⟩, by decide, by decide, by decide, by decide⟩
/-- The worked shot program: OPEN of 160 covers 160 steps. -/
theorem test_rout_open : ((after (.routOpen 5) (routAt 0 160)).rout 5).wins.map Win.last = [1000167] := by decide +kernel
theorem test_rout_open_empty : (after (.routOpen 5) (routAt 0 0x10000)).fld (Base.rout 5) Reg.Hdr.INFO = 3 := by decide +kernel
def window (code : Nat) : State := (routAt code 4097).modRout 5 fun x =>
  { x with wins := [⟨1000000, 1000159, 0, none, 0, 0, 0, false, false, none, some 4000024, false, 0⟩] }
theorem test_rout_close : ((after (.routClose 5) (window 1)).rout 5).wins.map Win.last = [1000007] := by decide +kernel
theorem test_rout_kernel : (after (.routKernel 5) (routAt 2 4097)).fld (Base.rout 5) Reg.Rout.KSTART = 1 := by decide +kernel
theorem witness_WindowValue : ((window 0).rout 5).wins.map Win.due = [some 4000024] ∧ ((window 0).rout 5).wins.map Win.nodec = [false] ∧ 4000024 < 8 * (500003 + 1) ∧
    ((window 0).rout 5).recomps = [] := by decide +kernel
theorem test_window_value : (after (.windowValue 5) (window 0)).fld (Base.rout 5) Reg.Rout.WIN_COUNT = 1 := by decide +kernel
def recomputing (second : Bool) : State := (window 0).modRout 5 fun x =>
  { x with recomps := [⟨1000000, 9, 3, ⟨1, 0⟩, ⟨2, 0⟩, 7, second⟩] }
theorem witness_Recompute : (recomputing true).usedOf (Base.adc 0 + 0x026) < 32 ∧
    ((recomputing true).rout 5).recomps ≠ [] ∧
    (((recomputing true).rout 5).recomps.all fun r => (recomputing true).recompFirst 5 r) = true := by decide +kernel
theorem test_recompute : ((after (.integratorRecompute 5 true) (recomputing false)).rout 5).wins.map Win.accI = [2] := by
  decide +kernel
theorem test_recompute_fails : (after (.integratorRecompute 5 false) (recomputing true)).fld (Base.rout 5) Reg.Hdr.CODE = 0x1A := by
  decide +kernel

/-! ### DSP lanes -/

/-- A lane of Running stands before an instruction word, with d[A] = `a` for A = 1 and d[B] = `b` for B = 3. -/
def laneRun (n : Fin 64) (w a b : Nat) : State :=
  let s := ((on5.setEnable (Base.lane n) true).setFld (Base.lane n) Reg.Lane.D a 1).setFld (Base.lane n) Reg.Lane.D b 3
  let s := s.modLane n fun x => { x with issuing := true }
  { s with bar2 := wrLE s.bar2 (0x02C0_0000 + n.val * 0x4000) 4 w }
/-- The word of an opcode with D = 2, A = 1, B = 3 and low bits. -/
def laneWord (o low : Nat) : Nat := o * 2 ^ 26 + 2 * 2 ^ 22 + 1 * 2 ^ 18 + 3 * 2 ^ 14 + low
/-- The words of the worked example of chapter 09, as the spec gives them. -/
theorem test_lane_words : LaneW.op 0xE400_0040 = 0x39 ∧ LaneW.imm 0xE400_0040 = 64 ∧ LaneW.op 0x9400_0000 = 0x25 ∧
    LaneW.op 0xE000_0040 = 0x38 ∧ LaneW.op 0x9100_0000 = 0x24 ∧ LaneW.c 0x9100_0000 = true ∧ LaneW.op 0xE800_0040 = 0x3A ∧
    LaneW.op 0xA080_0006 = 0x28 ∧ LaneW.d 0xA080_0006 = 2 ∧ LaneW.sh 0xA080_0006 = 6 ∧ LaneW.op 0xF408_2000 = 0x3D ∧
    LaneW.a 0xF408_2000 = 2 ∧ LaneW.fl 0xF408_2000 = true ∧ LaneW.op 0xC000_0000 = 0x30 := by decide

/-- Opcodes, each with operand bits under which the word is no program fault. -/
def laneWords : List (Nat × Nat) :=
  [(0x00, 0), (0x01, 2 ^ 18 - 1), (0x02, 0xFFFF), (0x03, 0), (0x04, 2 ^ 18 - 1), (0x05, 0), (0x06, 0), (0x07, 0), (0x08, 0)] ++
  [(0x09, 31), (0x0A, 31), (0x0B, 31), (0x0C, 0), (0x10, 0), (0x11, 0), (0x12, 0), (0x13, 0), (0x14, 0), (0x15, 0), (0x16, 0)] ++
  [(0x17, 3 * 2 ^ 19), (0x20, 0), (0x21, 0), (0x22, 0), (0x23, 0), (0x24, 0), (0x25, 2 ^ 25), (0x28, 39), (0x29, 15), (0x2A, 0)] ++
  [(0x2B, 0), (0x2C, 0), (0x2D, 39), (0x2E, 0), (0x30, 4095), (0x31, 0), (0x32, 0), (0x33, 0), (0x34, 0), (0x35, 0), (0x36, 0)] ++
  [(0x37, 0), (0x38, 1), (0x39, 0), (0x3A, 0), (0x3B, 0), (0x3C, 0), (0x3D, 2 ^ 13), (0x3E, 255), (0x3F, 0)]
/-- Every lane instruction can issue in the last lane. -/
theorem witness_LaneIssues : ∀ e ∈ laneWords, LaneIssues (laneRun 63 (e.1 * 2 ^ 26 + e.2) 0 0) 63 e.1 := by
  unfold LaneIssues
  decide +kernel
theorem witness_LaneArithmetic : LaneFault.ok ≠ .imem ∧
    (laneRun 63 0 0 0).bpAt (256 + 63) (laneFollow (laneRun 63 0 0 0) 63) = none := by decide +kernel
theorem test_lane_movi : (after (.laneMovi 0 .ok) (laneRun 0 (0x01 * 2 ^ 26 + 2 ^ 18 - 1) 0 0)).laneD 0 0 = 2 ^ 32 - 1 := by
  decide +kernel
theorem test_lane_sub : (after (.laneSub 0 .ok) (laneRun 0 (laneWord 0x05 0) 3 5)).laneD 0 2 = 2 ^ 32 - 2 := by decide +kernel
theorem test_lane_sari : (after (.laneSari 0 .ok) (laneRun 0 (0x0B * 2 ^ 26 + 2 * 2 ^ 22 + 2 ^ 18 + 4) 0x8000_0000 0)).laneD 0 2 =
    0xF800_0000 := by decide +kernel
theorem test_lane_mul : (after (.laneMul 0 .ok) (laneRun 0 (laneWord 0x0C 0) 0x1234_FFFF 3)).laneD 0 2 = 2 ^ 32 - 3 := by
  decide +kernel
theorem test_lane_norm_zero : (after (.laneNorm 0 .ok) (laneRun 0 (0x2A * 2 ^ 26 + 2 * 2 ^ 22) 0 0)).laneD 0 2 = 39 := by
  decide +kernel
theorem test_lane_expd : (after (.laneExpd 0 .ok) (laneRun 0 (0x2C * 2 ^ 26 + 2 * 2 ^ 22 + 2 ^ 18) 1 0)).laneD 0 2 = 30 := by
  decide +kernel

/-- a0 of the worked example at its last word: the hoop wraps it back to 0x2000. -/
def hoop (w : Nat) : State := withFields (laneRun 0 w 0 0) [(Base.lane 0, Reg.Lane.HB, 0x2000), (Base.lane 0, Reg.Lane.HL, 0x0400),
  (Base.lane 0, Reg.Lane.A, 0x23FC)]
theorem test_lane_ld : (after (.laneLd 0 .ok) (hoop (0x10 * 2 ^ 26 + 2 ^ 18 + 4))).laneA 0 0 = 0x2000 := by decide +kernel
theorem test_lane_st : rdByte (after (.laneSt 0 .ok) (laneRun 0 (0x11 * 2 ^ 26 + 2 ^ 22) 0x1122_3344 0)).bar2 0x0280_0003 = 0x11 := by
  decide +kernel
theorem test_lane_amov : (after (.laneAmov 0 .ok) (laneRun 0 (0x16 * 2 ^ 26 + 2 ^ 22 + 7 * 2 ^ 19) 0x1_8000 0)).laneA 0 7 = 0x8000 := by
  decide +kernel
theorem test_lane_parity : (after (.laneLd 0 .dmem) (hoop (0x10 * 2 ^ 26))).fld (Base.lane 0) Reg.Hdr.INFO = 0x23FC := by
  decide +kernel

/-- CMLD of the worked example adds |x|² to ac0 and 0 to ac1: here x = 3 − 4i. -/
def power : State :=
  let s := hoop 0x9100_0000
  { s with bar2 := wrLE s.bar2 (0x0280_0000 + 0x23FC) 4 0xFFFC_0003 }
theorem test_lane_cmld : (after (.laneCmld 0 .ok) power).laneAc 0 0 = 25 ∧ (after (.laneCmld 0 .ok) power).laneAc 0 1 = 0 := by
  decide +kernel
/-- CMAC of (−32768)² leaves OV clear; MOVA divides towards minus infinity. -/
theorem test_lane_cmac : (after (.laneCmac 0 .ok) (laneRun 0 (0x20 * 2 ^ 26 + 2 ^ 18 + 3 * 2 ^ 14) 0x0000_8000 0x0000_8000)).laneAc
    0 0 = 2 ^ 30 := by decide +kernel
theorem test_lane_mova : (after (.laneMova 0 .ok) (((laneRun 0 0xA080_0006 0 0).setFld (Base.lane 0) Reg.Lane.AC_LO
    0xFFFF_FFFF 0).setFld (Base.lane 0) Reg.Lane.AC_HI 0xFF 0)).laneD 0 2 = 2 ^ 32 - 1 := by decide +kernel
theorem test_lane_pack_saturates : (after (.lanePack 0 .ok) ((laneRun 0 (0x29 * 2 ^ 26 + 2 * 2 ^ 22) 0 0).setFld (Base.lane 0)
    Reg.Lane.AC_LO 0x8000 0)).laneD 0 2 = 0x7FFF := by decide +kernel
theorem test_lane_clov : (after (.laneClov 0 .ok) (withFields (laneRun 0 (0x2E * 2 ^ 26 + 3 * 2 ^ 16) 0 0) [(Base.lane 0,
    Reg.Lane.OV, 15)])).fld (Base.lane 0) Reg.Lane.OV = 7 := by decide +kernel
def recompute (again : Bool) : State := { (laneRun 0 0 0 0).modLane 0 fun x =>
  { x with wait := .recompute [(0, true, 25), (1, true, -1)] again } with limits := [(Base.lane 0 + 0x024, 1)] }
theorem witness_LaneRecompute : ((recompute true).lane 0).wait =
      .recompute ([((0 : Nat), (25 : Int)), (1, -1)].map fun a => (a.1, true, a.2)) true ∧
    (recompute true).usedOf (Base.lane 0 + 0x024) < (recompute true).limitOf (Base.lane 0) ∧ Settled (recompute true) ∧
    ((recompute true).lane 0).haltReq = false ∧ ((recompute true).lane 0).stepping = false := by decide +kernel
theorem test_lane_recompute : (after (.laneRecompute 0 true) (recompute false)).laneAc 0 1 = -1 := by decide +kernel
theorem test_lane_recompute_fails : (after (.laneRecompute 0 false) (recompute true)).fld (Base.lane 0) Reg.Hdr.CODE = 0x13 := by
  decide +kernel

theorem witness_LaneFlow : ((laneRun 0 0 0 0).lane 0).stack.length < 4 ∧ ((laneRun 0 0 0 0).lane 0).norm = false ∧
    (laneRun 0 (0x3F * 2 ^ 26 + 1) 0 0).laneReady 0 = true ∧ laneBad (0x3F * 2 ^ 26 + 1) = true := by decide +kernel
theorem test_lane_bltz : (after (.laneBltz 0 .ok) (laneRun 0 (0x33 * 2 ^ 26 + 2 ^ 18 + 4095) 0x8000_0000 0)).fld (Base.lane 0)
    Reg.Lane.PC = 4095 := by decide +kernel
theorem test_lane_dbnz : (after (.laneDbnz 0 .ok) (laneRun 0 (0x35 * 2 ^ 26 + 2 ^ 18 + 9) 1 0)).fld (Base.lane 0) Reg.Lane.PC = 1 := by
  decide +kernel
theorem test_lane_call : ((after (.laneCall 0 .ok) (laneRun 0 (0x36 * 2 ^ 26 + 9) 0 0)).lane 0).stack = [1] := by decide +kernel
theorem test_lane_ret : (after (.laneRet 0 .ok) ((laneRun 0 (0x37 * 2 ^ 26) 0 0).modLane 0 fun x => { x with stack := [4095] })).fld
    (Base.lane 0) Reg.Lane.PC = 4095 := by decide +kernel
theorem test_lane_rpt : ((after (.laneRpt 0 .ok) (laneRun 0 0xE000_0040 0 0)).lane 0).rpt = 64 := by decide +kernel
/-- The worked example: WAITI goes on with 64 units present, and waits with 63. -/
theorem test_lane_waiti : (after (.laneWaiti 0 .ok) (withFields (laneRun 0 0xE400_0040 0 0) [(Base.lane 0, Reg.Lane.IWCNT, 64)])).fld
    (Base.lane 0) Reg.Lane.PC = 1 := by decide +kernel
theorem test_lane_waiti_waits : ((after (.laneWaiti 0 .ok) (withFields (laneRun 0 0xE400_0040 0 0) [(Base.lane 0, Reg.Lane.IWCNT,
    63)])).lane 0).wait = .waiti 0 64 := by decide +kernel
def hungry : State := (withFields (laneRun 0 0 0 0) [(Base.lane 0, Reg.Lane.IWCNT, 64)]).modLane 0 fun x =>
  { x with wait := .waiti 0 64 }
theorem witness_WaitiRelease : (hungry.lane 0).wait = .waiti 0 64 ∧ hungry.laneMay = true ∧
    64 ≤ hungry.fld (Base.lane 0) Reg.Lane.IWCNT 0 ∧ Settled hungry ∧ (hungry.lane 0).rpt = 0 := by decide +kernel
theorem test_waiti_release : ((after (.waitiRelease 0) hungry).lane 0).wait = .none := by decide +kernel
theorem test_lane_fault : (after (.laneHalt 0 .ok) (laneRun 0 (0x3F * 2 ^ 26 + 1) 0 0)).fld (Base.lane 0) Reg.Hdr.CODE = 0x11 := by
  decide +kernel
theorem test_lane_imem : ((after (.laneAdd 0 .imem) (laneRun 0 0 0 0)).lane 0).wait = .refetch := by decide +kernel
theorem witness_LaneRefetch : (laneRun 0 0 0 0).frozen = false ∧
    (laneRun 0 0 0 0).refetchOut (0x0400_0000 + 0x02C0_0000) = false ∧ (laneRun 0 0 0 0).bpAt 256 0 = none := by decide +kernel
theorem test_lane_refetch : ((after (.laneImemRefetchComplete 0) ((laneRun 0 0 0 0).modLane 0 fun x => { x with wait :=
    .refetch })).lane 0).wait = .none := by decide +kernel

/-- Channel 0 of lane 4 as in the worked example, full, with a unit at its door. -/
def doorstep : State :=
  let s := withFields on5 [(Base.lane 4, Reg.Lane.KIND, 1), (Base.lane 4, Reg.Lane.IB, 0x2000), (Base.lane 4, Reg.Lane.IL, 0x0400),
    (Base.lane 4, Reg.Lane.IWCNT, 256)]
  s.modLane 4 fun x => { x with inbox := [(0, ⟨[0xFFFC_0003], 9⟩)] }
theorem witness_LaneInput : ((doorstep.lane 4).inbox.find? fun e => e.1 == 0) = some (0, ⟨[0xFFFC_0003], 9⟩) ∧
    doorstep.fld (Base.lane 4) Reg.Lane.KIND 0 = 1 ∧
    doorstep.fld (Base.lane 4) Reg.Lane.IB 0 + doorstep.fld (Base.lane 4) Reg.Lane.IL 0 ≤ 65536 := by decide +kernel
theorem test_lane_input : (after (.laneInputUnit 4 0) doorstep).fld (Base.lane 4) Reg.Lane.OVR_COUNT = 1 := by decide +kernel
theorem test_lane_take : (after (.laneTake 0 .ok) (withFields (laneRun 0 0xE800_0040 0 0) [(Base.lane 0, Reg.Lane.IWCNT, 9)])).fld
    (Base.lane 0) Reg.Lane.ITAKE = 9 := by decide +kernel
/-- Unit 0 of channel 0 is there, with stamp 77. -/
def stamped : State := (withFields (laneRun 0 (0x3B * 2 ^ 26 + 2 * 2 ^ 22) 0 0) [(Base.lane 0, Reg.Lane.IWCNT, 1)]).modLane 0 fun x =>
  { x with stamps := [(0, 0, 77)] }
theorem witness_LaneStmp : LaneIssues stamped 0 0x3B ∧ stamped.fld (Base.lane 0) Reg.Lane.IWCNT 0 = 1 ∧
    ((stamped.lane 0).stamps.find? fun e => e.1 == 0 && e.2.1 == 0) = some (0, 0, 77) := by
  unfold LaneIssues
  decide +kernel
theorem test_lane_stmp : (after (.laneStmp 0 .ok) stamped).laneD 0 2 = 77 := by decide +kernel
theorem test_lane_dec : ((after (.laneDec 0 .ok) (((laneRun 0 (0x3C * 2 ^ 26 + 2 ^ 18 + 3 * 2 ^ 14) 0x25 1000).setFld Base.dec
    Reg.Dec.SRC_KIND 2 255).setFld Base.dec Reg.Dec.SRC_NUM 0 255)).slot 255).cond = .value 1 9 := by decide +kernel
theorem test_lane_outw : ((after (.laneOutw 0 .ok) (laneRun 0 (0x3D * 2 ^ 26 + 2 ^ 18) 5 0)).lane 0).words = [5] := by decide +kernel
theorem test_lane_outw_no_ring : (after (.laneOutw 0 .ok) (laneRun 0 (0x3D * 2 ^ 26 + 2 ^ 18 + 2 ^ 13) 5 0)).fld (Base.lane 0)
    Reg.Hdr.CODE = 0x15 := by decide +kernel
theorem witness_LaneCtl : mayAccess on5 .lane 63 ∧ on5.enabled (Base.lane 63) = false ∧
    (laneRun 63 0 0 0).enabled (Base.lane 63) = true := ⟨⟨by decide, by decide⟩, by decide, by decide⟩
theorem test_lane_enable : ((after (.laneEnable .mgmt 63) on5).lane 63).issuing = true := by decide +kernel
theorem test_lane_disable : ((after (.laneNormalDisable .mgmt 0) (laneRun 0 0 0 0)).lane 0).norm = true := by decide +kernel
/-- A lane whose WAITI has its units goes on (R279); one whose units are not there stops. -/
theorem test_lane_disable_met : ((after (.laneNormalDisable .mgmt 0) hungry).lane 0).issuing = true ∧
    ((after (.laneNormalDisable .mgmt 0) (hungry.setFld (Base.lane 0) Reg.Lane.IWCNT 63)).lane 0).issuing = false := by
  decide +kernel
/-- LD2 whose second word fails its parity records that word's address (R278). -/
theorem test_lane_ld2_parity : (after (.laneLd2 0 .dmem2) (hoop (0x12 * 2 ^ 26))).fld (Base.lane 0) Reg.Hdr.INFO = 0x23FC := by
  decide +kernel
theorem test_lane_disable_now : (after (.laneDisableNow .mgmt 0) ((laneRun 0 0 0 0).modLane 0 fun x =>
    { x with words := [1, 2, 3] })).fld (Base.lane 0) Reg.Lane.TRUNC_COUNT = 3 := by decide +kernel

theorem test_lane_evt : (after (.laneEvt 0 .ok) ((laneRun 0 (0x3E * 2 ^ 26 + 255) 0 0).setEnable (Base.evg 31) true)).fld
    (Base.evg 31) Reg.Evg.DIS_DROP_COUNT = 1 ∨
    ((after (.laneEvt 0 .ok) ((laneRun 0 (0x3E * 2 ^ 26 + 255) 0 0).setEnable (Base.evg 31) true)).evch 255).fires = 1 := by
  decide +kernel

/-! ### Syndrome unit -/

/-- Four checks, a period of 500 steps and 100 more for the deadline. -/
def syn : State := { withFields on5 [(Base.syn, Reg.Syn.NCHECK, 2), (Base.syn, Reg.Syn.PERIOD, 500), (Base.syn, Reg.Syn.TMO, 100)] with
  count := 1000 }
theorem witness_SyndromeEnable : mayAccess syn .syn 0 ∧ syn.enabled Base.syn = false ∧ 8 ≤ syn.synPeriod ∧ syn.synTmo < syn.synPeriod ∧
    syn.bit Base.syn Reg.Hdr.VALID = false := ⟨⟨by decide, by decide⟩, by decide, by decide, by decide, by decide⟩
/-- The present count holds steps 2,000 and 2,001: the first round after it is round 5 of a period of 500. -/
theorem test_syndrome_enable : (after (.syndromeEnable .mgmt) syn).syn.next = some 5 := by decide +kernel
theorem test_syndrome_refused : (after (.syndromeEnable .mgmt) (withFields syn [(Base.syn, Reg.Syn.TMO, 500)])).fld Base.syn
    Reg.Hdr.INFO = 2 := by decide +kernel
def round' (checks : List (Nat × Bool × Bool)) (reads : List CtRead) : Round := ⟨3, 1500, [], [], checks, [], reads, [], 0, [(2, 5)],
  false, false, 0⟩
def rounds' (l : List Round) : State := { syn.setEnable Base.syn true with syn := { syn.syn with next := some 4, rounds := l } }
theorem test_syndrome_disable : (after (.syndromeNormalDisable .mgmt) (rounds' [round' [] []])).syn.next = none := by decide +kernel
theorem test_syndrome_disable_now : (after (.syndromeDisableNow .mgmt) (rounds' [round' [] []])).fld Base.syn
    Reg.Syn.ABANDON_COUNT = 1 := by decide +kernel
theorem test_frame_xor : (after (.frameXor .mgmt 6) (withFields syn [(Base.syn, Reg.Syn.FX_WORD, 15), (Base.syn, Reg.Syn.FRAME,
    1)])).fld Base.syn Reg.Syn.FRAME 15 = 6 := by decide +kernel
theorem test_frame_clr : (after (.frameClr .mgmt) (withFields syn [(Base.syn, Reg.Syn.FRAME, 1)])).fld Base.syn Reg.Syn.FRAME = 0 := by
  decide +kernel
theorem test_cmap : (after (.cmapDataAccess .mgmt (some 0xFFFF_FFFF)) (withFields syn [(Base.syn, Reg.Syn.CMAP_ADDR,
    8191)])).cmapAt 8191 = 0x9FFF := by decide +kernel
theorem test_cmap_enabled : (after (.cmapDataAccess .mgmt (some 1)) (rounds' [])).fld Base.syn Reg.Hdr.CODE = 0x11 := by decide +kernel
theorem witness_RoundStart : Settled (rounds' []) ∧ (rounds' []).enabled Base.syn = true ∧ (rounds' []).syn.next = some 4 ∧
    (rounds' []).synT0 + 4 * (rounds' []).synPeriod ≤ 2 * (rounds' []).count + 1 := by decide +kernel
theorem test_round_start : (after .roundStart (rounds' [])).syn.rounds.map Round.start = [2000] := by decide +kernel
/-- Round 3 of 500 steps from step 1,500 has no check evaluated at count 1,050. -/
def late' : State := { rounds' [round' [] []] with count := 1050 }
theorem witness_RoundDeadline : OldestRound late' (round' [] []) [] ∧ (round' [] []).checks.length < late'.nCheck ∧
    (round' [] []).start + late'.synPeriod + late'.synTmo ≤ 2 * late'.count ∧ late'.nCheck ≤ 512 :=
  ⟨⟨by decide +kernel, by simp⟩, by decide +kernel, by decide +kernel, by decide +kernel⟩
theorem test_round_deadline : (after .roundDeadline late').syn.rounds.map Round.deadline = [true] := by decide +kernel
def read' (copy : Option Nat) : CtRead := ⟨31, 65535, 3, copy.isSome, copy, 3⟩
def looked (v : Nat) : State :=
  let s := rounds' [round' [(0, true, false), (1, true, false)] [read' none]]
  { s with bar2 := wrLE s.bar2 (0x0210_0000 + 8 * 65535) 8 v }
theorem witness_CtEntryReturn : OldestRound (looked 0) (round' [(0, true, false), (1, true, false)] [read' none]) [] ∧
    (looked 0).syn.late = [] ∧ (read' none).word = 31 ∧ (read' none).refetch = false :=
  ⟨⟨by decide +kernel, by simp⟩, by decide, by decide, by decide⟩
/-- A fourth LINK stops the chain. -/
theorem test_ct_link : (after (.ctEntryReturn 31 false) (looked (7 * 2 ^ 40))).fld Base.syn Reg.Hdr.CODE = 0x13 := by decide +kernel
theorem test_ct_reserved : (after (.ctEntryReturn 31 false) (looked (2 ^ 63))).fld Base.syn Reg.Hdr.CODE = 0x14 := by
  decide +kernel
/-- Entry 65,535 with mask 9 for word 5, which the copy gives. -/
def copied : Nat := 0xFFFF * 2 ^ 40 + 5 * 2 ^ 32 + 9
/-- Its re-fetch is awaited after the commit, or by a round that has not committed. -/
def lateRead : State := { rounds' [] with syn := { (rounds' []).syn with late := [read' (some copied)] } }
def joining : Round := round' [(0, true, false), (1, true, false)] [read' (some copied)]
theorem witness_CtRefetch : (read' (some copied)).refetch = true ∧ lateRead.syn.late = [read' (some copied)] ∧
    lateRead.frozen = false ∧ lateRead.refetchOut (0x0400_0000 + 0x0210_0000 + 8 * 65535) = false ∧
    copied / 2 ^ 56 = 0 ∧ copied / 2 ^ 36 % 16 = 0 ∧ copied / 2 ^ 40 % 2 ^ 16 = 0xFFFF ∧
    OldestRound (rounds' [joining]) joining [] ∧ joining.reads = [read' (some copied)] ∧ (rounds' [joining]).syn.late = [] :=
  ⟨by decide, by decide +kernel, by decide +kernel, by decide +kernel, by decide, by decide, by decide,
    ⟨by decide +kernel, by simp⟩, by decide, by decide +kernel⟩
theorem test_ct_refetch : (after (.ctRefetchComplete 65535) lateRead).fld Base.syn Reg.Syn.FRAME 5 = 9 := by decide +kernel
theorem test_ct_refetch_joins : (after (.ctRefetchComplete 65535) (rounds' [joining])).fld Base.syn Reg.Syn.FRAME 5 = 0 ∧
    (after (.ctRefetchComplete 65535) (rounds' [joining])).syn.rounds.map Round.masks = [[(2, 5), (5, 9)]] := by decide +kernel
def decided : State := rounds' [round' [(0, true, false), (1, true, false)] []]
theorem witness_RoundCommit : OldestRound decided (round' [(0, true, false), (1, true, false)] []) [] ∧
    decided.nCheck ≤ (round' [(0, true, false), (1, true, false)] []).checks.length := ⟨⟨by decide +kernel, by simp⟩, by decide +kernel⟩
theorem test_round_commit : (after .roundCommit decided).fld Base.syn Reg.Syn.FRAME 2 = 5 := by decide +kernel

/-! ### Jency link -/

/-- Port 7 is LINKED (2) or ACTIVE (3) in a mesh of devices 0 and 5, own number 0. -/
def link (st : Nat) : State := { withFields on5 [(Base.jport 7, Reg.Jport.PSTATE, st), (Base.mesh, Reg.Mesh.MEMBERS, 0x21),
  (Base.mesh, Reg.Mesh.MEMBER, 1), (Base.mesh, Reg.Mesh.PORT_EN, 0x80)] with count := 70000 }
def entry' : PendDec := ⟨5, 255, false, false, 2, 200, 65535⟩
def linkWith (f : PortSt → PortSt) : State := (link 3).modPort 7 f
def full : State := linkWith fun x => { x with decs := [entry'] }
theorem witness_JencyFlits : EntryFits entry' ∧ Settled full ∧ full.pState 7 = 3 ∧ (full.port 7).launched = none ∧
    (full.port 7).replays = [] ∧ (full.port 7).tx = none ∧ (full.port 7).abort = false :=
  ⟨⟨by decide, by decide, by decide, by decide, by decide⟩, by decide, by decide, by decide, by decide, by decide, by decide⟩
theorem test_launch : flitGet ((after (.jencyFlitLaunch 7) full).port 7).txFlit 8 32 = 70000 := by decide +kernel
def replaying : State := linkWith fun x => { x with replays := [⟨70000, 1, 69000, 0⟩] }
theorem test_replay : (after (.jencyFlitLaunch 7) replaying).fld (Base.jport 7) Reg.Jport.REPLAY_COUNT = 1 := by decide +kernel
/-- The four blocks that the peer launches arrive here. -/
def sent' : List (BitVec 130) := ((after (.jencyFlitLaunch 7) full).port 7).txBlocks
def arrive (bs : List (BitVec 130)) (s : State) : State :=
  after (.jencyFlitDelivery 7 (bs.getD 0 0) (bs.getD 1 0) (bs.getD 2 0) (bs.getD 3 0) 0) s
theorem witness_JencyFlitDelivery : let f := lanesIn [] [] sent'
    flitBad f (sent'.any hdrWrong) = false ∧ ((hdrBads [] sent').any fun k => decide (8 ≤ k)) = false ∧ flitGet f 0 3 = 1 ∧
    flitGet f 40 4 = 1 ∧ flitGet f 44 2 = 0 ∧ flitGet f 394 1 = 0 ∧ (link 3).isMember 5 = true ∧
    (link 3).port 7 = .reset ∧ ((link 3).copy 1535).cond = .empty := by decide +kernel
theorem test_delivery : ((arrive sent' (link 3)).copy 1535).cond = .value 2 200 := by decide +kernel
theorem test_delivery_stamp : ((arrive sent' (link 3)).copy 1535).stamp = 131071 := by decide +kernel
/-- Zeros under valid sync headers are no good flit. -/
theorem witness_BadFlit : flitBad (lanesIn [] [] [1, 1, 1, 1]) false = true ∧ ([1, 1, 1, 1] : List (BitVec 130)).any hdrWrong = false := by
  decide +kernel
theorem test_bad_flit : (arrive [1, 1, 1, 1] (link 3)).fld (Base.jport 7) Reg.Jport.CRC_ERR_COUNT = 1 := by decide +kernel
/-- The eighth invalid header in a row on a lane takes block lock away (R315). -/
def unlocking : State := linkWith fun x => { x with decs := [entry'], hdrBad := [7, 0, 0, 0] }
theorem witness_LockLost : ((hdrBads (unlocking.port 7).hdrBad [0, 1, 1, 1]).any fun k => decide (8 ≤ k)) = true := by decide +kernel
theorem test_lock_lost : (arrive [0, 1, 1, 1] unlocking).fld (Base.jport 7) Reg.Jport.DROP_COUNT = 1 := by decide +kernel
/-- Port 7 in TRAINING, with block lock and aligned lanes, hears the flit that a like port sends. -/
def trained : State := (link 1).modPort 7 fun x =>
  { x with txScr := [0, 1, 2, 3], rxScr := [0, 1, 2, 3], hdrRun := [64, 64, 64, 64] }
def trainSent : List (BitVec 130) := ((after (.jencyFlitLaunch 7) trained).port 7).txBlocks
theorem witness_TrainFlit : trained.pState 7 = 1 ∧ (trained.port 7).rxScr ≠ [] ∧ trainFlitOk (lanesIn [] [0, 1, 2, 3] trainSent) = true ∧
    (∀ k ∈ hdrRuns [64, 64, 64, 64] (hdrBads [] trainSent) trainSent, k = 64) := by decide +kernel
theorem test_train_heard : ((arrive trainSent trained).port 7).train.heard = some (70000 % 65536, 64 * 70000) := by decide +kernel
def missing' : State := linkWith fun x => { x with missing := [(100, 200)] }
theorem witness_FlitLost : (missing'.port 7).missing = [(100, 200)] ∧ 200 < missing'.count := by decide +kernel
theorem test_flit_lost : (after (.flitLost 7) missing').fld (Base.jport 7) Reg.Jport.LOST_COUNT = 1 := by decide +kernel
theorem test_training : (after (.portTrainingStart 7) (link 0)).pState 7 = 1 := by decide +kernel
/-- The example of chapter 11: F_FINE 436 gives JLAT 9 and RA 20. -/
def timed : State := trained.modPort 7 fun x => { x with train := ⟨60000, some (4, 5), some (880, 8), 5, 77, true⟩ }
theorem witness_PortLinked : timed.pState 7 = 1 ∧ (timed.port 7).train.rtt = some (880, 8) ∧ (timed.port 7).train.peer < 32 ∧
    (timed.port 7).hdrRun = [64, 64, 64, 64] ∧ ((link 1).port 7).hdrRun.getD 0 0 ≠ 64 ∧ (trained.port 7).train.rtt = none := by
  decide +kernel
theorem test_linked : (after (.portLinked 7 .ok) timed).jlat 7 = 9 ∧ (after (.portLinked 7 .ok) timed).jra 7 = 20 := by
  decide +kernel
theorem test_train_fails : ((after (.portLinked 7 (.fail 2)) timed).port 7).retryAt = some 320000 := by decide +kernel
theorem test_train_retry : (after (.trainRetry 7) ((link 0).modPort 7 fun x => { x with retryAt := some 70000 })).pState 7 = 1 := by
  decide +kernel

def rennets : State := { (link 3).setFld (Base.acq 31) Reg.Acq.RNT_EN 1 with mesh := { change := none, remote := false, rennets := [⟨15, true, 70000⟩], acted := [] } }
theorem witness_RennetAction : rennets.mesh.rennets = [⟨15, true, 70000⟩] ∧ 70000 ≤ rennets.count := by decide
theorem test_rennet_action : (after (.rennetAction 15 true) rennets).mesh.rennets = [] := by decide +kernel
theorem witness_JencyMessages : mayAccess (link 3) .jport 7 ∧ (link 3).enabled (Base.jport 7) = false ∧ ((link 3).port 7).tx = none ∧
    ((link 3).setEnable (Base.jport 7) true).enabled (Base.jport 7) = true ∧ mayAccess (link 3) .mesh 0 :=
  ⟨⟨by decide, by decide⟩, by decide, by decide, by decide, ⟨by decide, by decide⟩⟩
theorem test_btx : ((after (.btxGo .mgmt 7 0x8000_0040) ((link 3).setEnable (Base.jport 7) true)).port 7).tx.map (·.1.length) =
    some 8 := by decide +kernel
theorem test_btx_length : (after (.btxGo .mgmt 7 0x8000_0048) ((link 3).setEnable (Base.jport 7) true)).fld (Base.jport 7)
    Reg.Hdr.CODE = 0x12 := by decide +kernel
theorem test_brx_clear : (after (.brxValidClear .mgmt 7) (withFields (link 3) [(Base.jport 7, Reg.Jport.BRX_VALID, 1)])).bit
    (Base.jport 7) Reg.Jport.BRX_VALID = false := by decide +kernel
theorem test_jport_disable : (after (.jportNormalDisable .mgmt 7) ((link 3).setEnable (Base.jport 7) true)).enabled (Base.jport 7) =
    false := by decide +kernel
theorem test_jport_disable_now : (after (.jportDisableNow .mgmt 7) (linkWith fun x => { x with tx := some ([1, 2, 3], 1) })).fld
    (Base.jport 7) Reg.Jport.DROP_COUNT = 2 := by decide +kernel
def chunk : State := linkWith fun x => { x with bulk := [⟨70000, true, true, true, false, 0x1_0000_0002, false⟩] }
theorem witness_BulkChunk : (chunk.port 7).bulk = [⟨70000, true, true, true, false, 0x1_0000_0002, false⟩] ∧
    (chunk.port 7).asm = none ∧ (chunk.port 7).missing = [] ∧ (chunk.port 7).skip = false ∧
    chunk.bit (Base.jport 7) Reg.Jport.BRX_VALID = false := by decide +kernel
theorem test_bulk_chunk : (after (.bulkChunkRelease 7) chunk).fld (Base.jport 7) Reg.Jport.BRX_LEN = 8 := by decide +kernel
/-- A chunk of no message in assembly. -/
theorem test_bulk_orphan : (after (.bulkChunkRelease 7) (linkWith fun x =>
    { x with bulk := [⟨70000, false, true, true, false, 1, false⟩] })).fld (Base.jport 7) Reg.Jport.BULK_LOST_COUNT = 1 := by
  decide +kernel
/-- Epoch 1 began at count 65,536: a change may be announced for epoch 3. -/
def announcing (e : Nat) : State := withFields (link 3) [(Base.mesh, Reg.Mesh.CHG_EPOCH_LO, e), (Base.mesh, Reg.Mesh.NEXT_MEMBERS, 3)]
theorem witness_Announce : (announcing 3).count / 65536 + 2 ≤ 3 ∧ (announcing 3).mesh.change = none ∧
    (announcing 3).sameIds 3 = false ∧ mayAccess (announcing 3) .mesh 0 :=
  ⟨by decide +kernel, by decide +kernel, by decide +kernel, by decide +kernel, by decide +kernel⟩
theorem test_announce : (after (.announce .mgmt 1) (announcing 3)).mesh.change = some (3, 3, false) := by decide +kernel
theorem test_announce_late : (after (.announce .mgmt 1) (announcing 2)).fld Base.mesh Reg.Hdr.INFO = 1 := by decide +kernel
theorem test_port_en : (after (.portEnWrite .mgmt 0x1) (link 1)).pState 7 = 0 := by decide +kernel
theorem test_port_kill : (after (.portKill .mgmt 0x8080) full).fld (Base.jport 7) Reg.Jport.DROP_COUNT = 1 := by decide +kernel
def change' (armed : Bool) (c : Nat) : State := { link 3 with mesh := { change := some (3, 3, armed), remote := false, rennets := [], acted := [] }, count := c }
theorem witness_Membership : Settled (change' false 70000) ∧ (change' false 70000).mesh.remote = false ∧ (change' false 70000).mesh.change = some (3, 3, false) ∧
    70000 / 65536 + 1 < 3 ∧ (change' true 196608).count % 65536 = 0 ∧ (change' true 196608).epochAt ≠ some 196608 ∧
    (change' true 196608).run = true ∧ (change' true 196608).bit Base.mesh Reg.Mesh.MEMBER = true ∧
    (3#32).getLsbD ((change' true 196608).fld Base.mesh Reg.Mesh.MESH_ID) = true := by decide +kernel
theorem test_membership_arm : (after (.membershipArm .confirmed) (change' false 70000)).fld Base.mesh Reg.Mesh.CHG_STATE = 2 := by
  decide +kernel
theorem test_membership_refused : (after (.membershipArm .missing) (change' false 70000)).fld Base.mesh Reg.Hdr.INFO = 3 := by
  decide +kernel
/-- Another device's announcement, and its withdrawal. -/
theorem witness_RemoteChange : (link 3).mesh.change = none ∧ (link 3).count / 65536 + 2 ≤ (3#48).toNat ∧
    (after (.membershipArm (.announced 3 3)) (link 3)).mesh.remote = true := by decide +kernel
theorem test_remote_withdrawn : (after (.membershipArm .withdrawn) (after (.membershipArm (.announced 3 3)) (link 3))).mesh.change =
    none := by decide +kernel
theorem test_epoch_boundary : ((after (.epochBoundary true) (change' true 196608)).copy (256 * 5)).cond = .absent := by
  decide +kernel
theorem test_member_mismatch : ((after (.epochBoundary false) (change' true 196608)).reg (Base.mesh + 0x010)).getLsbD 2 = true := by
  decide +kernel

/-! ### Acquisition units -/

/-- Unit 31 on ADC[15], one block, 32,768 samples before and 100 after the trigger; a command of step 1,000,008 waits. -/
def acqOn : State := { (withFields on5 [(Base.acq 31, Reg.Acq.KIND, 1), (Base.acq 31, Reg.Acq.INDEX, 15), (Base.acq 31,
  Reg.Acq.CS_SIZE, 1), (Base.acq 31, Reg.Acq.PRE, 32768), (Base.acq 31, Reg.Acq.POST, 100), (Base.acq 31,
  Reg.Hdr.FN, 0), (Base.adc 15, Reg.Hdr.FN, 0), (Base.acq 0, Reg.Hdr.FN, 0)]).setEnable (Base.acq 31) true with
  count := 500003 }
def acqAt (code : Nat) : State := acqOn.modAcq 31 fun x => { x with queue := [⟨1000008, 0, none, code, 0, 0⟩] }
/-- A capture of unit 31 in a state of ASTATE. -/
def capture (st : Nat) (f : Capture → Capture) (s : State) : State :=
  (s.modAcq 31 fun x => { x with cap := some (f (s.newCapture 31 1000000 none [])) }).setAState 31 st
theorem witness_AcquisitionUnits :
    HeadDue (acqAt 0) ((acqAt 0).acqU 31).queue ⟨1000008, 0, none, 0, 0, 0⟩ [] 0 ∧ (acqAt 0).armReason 31 true = 0 ∧
    rennetOut (acqAt 0) 31 = false ∧
    rennetOut (withFields (acqAt 0) [(Base.acq 31, Reg.Acq.RNT_EN, 1), (Base.acq 31, Reg.Acq.RNT_OUT, 1)]) 31 = true ∧
    ((acqAt 0).setEnable (Base.acq 31) false).armReason 31 true = 1 ∧
    HeadDue (acqAt 1) ((acqAt 1).acqU 31).queue ⟨1000008, 0, none, 1, 0, 0⟩ [] 1 ∧
    HeadDue (acqAt 2) ((acqAt 2).acqU 31).queue ⟨1000008, 0, none, 2, 0, 0⟩ [] 2 ∧ mayAccess acqOn .acq 31 :=
  ⟨⟨by decide, rfl, by decide⟩, by decide +kernel, by decide +kernel, by decide +kernel, by decide +kernel, ⟨by decide, rfl, by decide⟩,
    ⟨by decide, rfl, by decide⟩, ⟨by decide +kernel, by decide +kernel⟩⟩
/-- R345: of 32,768 samples before the trigger 32,668 fit beside 100 after it. -/
theorem test_arm : ((after (.acqArm 31) (acqAt 0)).acqU 31).cap.map Capture.pre = some 32668 ∧
    (after (.acqArm 31) (acqAt 0)).reg (Base.acq 31 + 0x010) = 4 := by decide +kernel
theorem test_arm_refused : (after (.acqArm 31) (withFields (acqAt 0) [(Base.acq 31, Reg.Acq.CS_SIZE, 0)])).fld (Base.acq 31)
    Reg.Hdr.INFO = 3 := by decide +kernel
theorem test_fire : ((after (.acqFire 31) (capture 1 id (acqAt 1))).acqU 31).cap.map Capture.fires = some [1000008] := by
  decide +kernel
theorem test_fire_ignored : (after (.acqFire 31) (capture 2 id (acqAt 1))).reg (Base.acq 31 + 0x010) = 0x400 := by decide +kernel
theorem test_acq_stop : (after (.acqStop 31) (capture 1 id (acqAt 2))).aState 31 = 0 := by decide +kernel
theorem test_acq_stop_capture : ((after (.acqStop 31) (capture 2 id (acqAt 2))).acqU 31).cap.map Capture.stopAt =
    some (some 1000008) := by decide +kernel
/-- The unit has triggered; units 0 and 2 of the same group and owner were armed then, and unit 0 still is;
unit 1 has another owner. -/
def triggered : State :=
  let s := capture 2 (fun c => { c with trig := some (16000160, 1, 4000040), note := some 500005, mates := [0, 2] }) (acqAt 0)
  let s := s.modAcq 0 fun x => { x with cap := some (s.newCapture 31 1000000 none []) }
  let s := s.modAcq 1 fun x => { x with cap := some (s.newCapture 31 1000000 none []) }
  withFields s [(Base.acq 31, Reg.Acq.LGRP, 15), (Base.acq 0, Reg.Acq.LGRP, 15), (Base.acq 1, Reg.Acq.LGRP, 15),
    (Base.acq 1, Reg.Hdr.FN, 5), (Base.acq 0, Reg.Acq.ASTATE, 1), (Base.acq 1, Reg.Acq.ASTATE, 1)]
theorem witness_AcqTrigger : (triggered.acqU 31).cap.map Capture.note = some (some 500005) ∧ triggered.aState 0 = 1 ∧
    triggered.aState 2 = 0 ∧ (triggered.acqU 0).cap.map Capture.times = some [] ∧
    ((capture 1 (fun c => { c with note := some 500005 }) (acqAt 0)).acqU 31).cap.map Capture.trig = some none := by decide +kernel
theorem test_trigger : ((after (.acqTrigger 31) triggered).acqU 0).cap.map Capture.group = some (some 16000160) ∧
    ((after (.acqTrigger 31) triggered).acqU 1).cap.map Capture.group = some none := by decide +kernel

/-- Ring 0 of function 0 is a CAPTURE ring of 16 entries; the last block is the spill FIFO and holds `k` samples from its end. -/
def spilling (st k : Nat) : State :=
  let s := withFields (capture st (fun c => { c with fifo := k, fifoHead := 32767, area := 32768, spill := true }) (acqAt 0))
    [(Base.fn 0, Reg.Fn.RING_COUNT, 1), (Base.acq 31, Reg.Acq.CS_SIZE, 2)]
  let s := s.modRing 0 fun r => { r with en := true, kind := 4, daddr := 0x1_0000 }
  { s with bar2 := wrLE (wrLE s.bar2 0x0301_FFFE 2 0xABCD) 0x0301_0000 2 0x1234, limits := [(Base.acq 31 + 0x024, 1)] }
theorem witness_SpillDrain : (spilling 2 32).acqRingOk 31 Reg.Acq.SPILL_RING = true ∧ ((spilling 2 32).ring 0).full = false ∧
    (spilling 2 32).dramShut = false ∧ (spilling 3 0).frozen = false ∧ ((spilling 2 32).chargeRes (Base.acq 31 + 0x024) ((spilling 2 32).limitOf (Base.acq 31))).isSome = true ∧
    64 / sampleSize (spilling 2 32) 31 = 32 ∧ (spilling 3 1).aState 31 = 3 := by decide +kernel
theorem test_spill_drain : rdLE (after (.spillDrain 31) (spilling 2 32)).dram 0x40_0000 4 = 0x1234_ABCD := by decide +kernel
theorem test_spill_wait : ((after (.spillDrain 31) (spilling 2 31)).ring 0).prod = 0 := by decide +kernel
/-- The capture has ended: 5 words of 1,234 had a bad code, the first at offset 16. -/
def ended : State := capture 3 (fun c => { c with trig := some (16000160, 0x41, 4000040), postHeld := 100 }) (spilling 3 0)
theorem witness_CaptureComplete : ended.aState 31 = 3 ∧ (ended.acqU 31).cap.map Capture.fifo = some 0 ∧
    ended.acqRingOk 31 Reg.Acq.REC_RING = true ∧ (ended.ring 0).full = false ∧
    (ended.setFld (Base.acq 31) Reg.Acq.REC_RING 1).acqRingOk 31 Reg.Acq.REC_RING = false := by decide +kernel
/-- R356: the marker, the unit, KIND, the flags BAD (4) and PRE_SHORT (256), INDEX and the trigger mask. -/
theorem test_capture_complete : rdBytes (after (.captureComplete 31 16 5) ended).dram 0x40_0000 8 =
    [0x43, 0x41, 31, 1, 0x04, 0x01, 15, 0x41] := by decide +kernel
theorem test_capture_bad : (after (.captureComplete 31 16 5) ended).fld (Base.acq 31) Reg.Hdr.CODE = 0x10 := by decide +kernel
theorem test_arm_now : ((after (.armNow .mgmt 31) acqOn).acqU 31).cap.map Capture.step = some 1000008 := by decide +kernel
theorem test_fire_now : ((after (.fireNow .mgmt 31) (capture 1 id acqOn)).acqU 31).cap.map Capture.soft = some true := by
  decide +kernel
theorem test_acq_enable : (after (.acqEnable .mgmt 0) on5).enabled (Base.acq 0) = true := by decide +kernel
theorem test_acq_disable : (after (.acqNormalDisable .mgmt 31) (capture 1 id acqOn)).aState 31 = 0 := by decide +kernel
/-- 90 samples were still to come and 10 stood in the FIFO. -/
theorem test_acq_disable_now : (after (.acqDisableNow .mgmt 31) (capture 2 (fun c => { c with trig := some (1, 1, 1), post := 10, fifo := 10 })
    acqOn)).fld (Base.acq 31) Reg.Acq.WHEY = 100 := by decide +kernel
/-- The capture has every sample of its plan. -/
def complete : State := capture 3 (fun c => { c with trig := some (1, 1, 1), post := 100 }) acqOn
theorem witness_AcqDisableNow : mayAccess (capture 1 id acqOn) .acq 31 ∧
    ((capture 1 id acqOn).acqU 31).cap.map (fun c => (c.trig, c.killed)) = some (none, false) ∧ mayAccess complete .acq 31 ∧
    (complete.acqU 31).cap.map (fun c => (decide (c.plan ≤ c.post), c.fifo)) = some (true, 0) ∧ complete.aState 31 = 3 ∧
    mayAccess (acqOn.setEnable (Base.acq 31) false) .acq 31 :=
  ⟨⟨by decide +kernel, by decide +kernel⟩, by decide +kernel, ⟨by decide +kernel, by decide +kernel⟩, by decide +kernel,
    by decide +kernel, ⟨by decide +kernel, by decide +kernel⟩⟩
/-- R560: nothing is cut of a capture whose samples have all been stored. -/
theorem test_acq_disable_now_complete : (after (.acqDisableNow .mgmt 31) complete).reg (Base.acq 31 + 0x010) = 0 := by decide +kernel
theorem witness_CurdRead : Bar2Now acqOn acqOn .mgmt ∧ acqOn.blockUnit (0xFFFC / 65536) = some 31 ∧
    acqOn.windowDenied .mgmt (windowAt (0x0300_0000 + 0xFFFC)) = none := by unfold Bar2Now; decide +kernel
theorem test_curd_read : (after (.curdRead .mgmt 0xFFFC true) acqOn).fld (Base.acq 31) Reg.Acq.BAD_ADDR = 0xFFF8 := by decide +kernel
theorem test_curd_value : (after (.curdRead .mgmt 0 false) { acqOn with bar2 := wrLE [] 0x0300_0000 4 0x0102_0304 }).respVal =
    0x0102_0304 := by decide +kernel

/-! ### Flux channels -/

/-- Channel 95 of function 3 is enabled; a command of step 1,000,008 waits; entry 100 is as for the tones. -/
def fluxAt (code arg : Nat) : State :=
  let s := withFields on5 [(Base.flux 95, Reg.Hdr.FN, 3), (Base.fn 3, Reg.Fn.ST_SIZE, 1), (Base.fn 3, Reg.Fn.PM_SIZE, 1)]
  let s := (s.setEnable (Base.flux 95) true).modFlux 95 fun x => { x with queue := [⟨1000008, 0, none, code, arg, 0⟩] }
  { s with bar2 := wrLE s.bar2 (0x0200_0000 + 1600) 16 entryWord, count := 500003 }
theorem witness_FluxFastPart : HeadDue (fluxAt 0 100) ((fluxAt 0 100).flux 95).queue ⟨1000008, 0, none, 0, 100, 0⟩ [] 0 ∧
    (fluxAt 0 100).enabled (Base.flux 95) = true ∧ ((fluxAt 0 100).flux 95).play = none ∧
    (((fluxAt 0 100).flux 95).norm, ((fluxAt 0 100).flux 95).stopAt) = (false, none) ∧
    (fluxAt 0 100).entryValid 3 ((fluxAt 0 100).entry 100) = true ∧ ((fluxAt 0 100).entry 100).strm = false ∧
    (fluxAt 0 101).entryValid 3 ((fluxAt 0 101).entry 101) = false ∧
    HeadDue (fluxAt 1 7) ((fluxAt 1 7).flux 95).queue ⟨1000008, 0, none, 1, 7, 0⟩ [] 1 ∧
    ((fluxAt 1 7).flux 95).levelWas.step ≤ 1000008 ∧ mayAccess (fluxAt 0 100) .flux 95 ∧ on5.enabled (Base.flux 0) = false :=
  ⟨⟨by decide +kernel, rfl, by decide⟩, by decide, by decide, by decide, by decide +kernel, by decide +kernel, by decide +kernel,
    ⟨by decide +kernel, rfl, by decide⟩, by decide, ⟨by decide, by decide +kernel⟩, by decide⟩
theorem test_flux_play : ((after (.fluxPlay 95 false) (fluxAt 0 100)).flux 95).play.map Play.start = some 1000008 := by decide +kernel
theorem test_flux_set : (after (.fluxSet 95) (fluxAt 1 0x1_8001)).fld (Base.flux 95) Reg.Flux.FLEVEL = 0x8001 := by decide +kernel
theorem test_flux_set_disabled : (after (.fluxSet 95) ((fluxAt 1 7).setEnable (Base.flux 95) false)).fld (Base.flux 95)
    Reg.Flux.DROP_COUNT = 1 := by decide +kernel
/-- A play of entry 100 from step `k`, whose end at step `k` + 16 is not resolved yet, or is, to `c`. -/
def fluxing (code k : Nat) (c : Option (Option Play)) : State :=
  (fluxAt code 100).modFlux 95 fun x => { x with play := some (mkPlay (decodeEntry 100 entryWord) k 0 0 none false), cont := c }
theorem witness_FluxEnds : ((fluxing 2 1000000 none).flux 95).play.map (fun p => p.start + 4 * p.e.len) = some 1000016 ∧
    HeadDue (fluxing 2 1000000 none) ((fluxing 2 1000000 none).flux 95).queue ⟨1000008, 0, none, 2, 100, 0⟩ [] 2 ∧
    HeadDue (fluxing 3 1000000 none) ((fluxing 3 1000000 none).flux 95).queue ⟨1000008, 0, none, 3, 100, 0⟩ [] 3 :=
  ⟨by decide +kernel, ⟨by decide +kernel, rfl, by decide +kernel⟩, ⟨by decide +kernel, rfl, by decide +kernel⟩⟩
/-- R366, R368: a STOP of the step before is pending for the PLAY and the SET. -/
def fluxStopping (code : Nat) : State := (fluxing code 1000000 none).modFlux 95 fun x => { x with stop := true, stopAt := some 1000007 }
theorem test_flux_stopping : (after (.fluxPlay 95 false) (fluxStopping 0)).fld (Base.flux 95) Reg.Flux.DROP_COUNT = 1 ∧
    (after (.fluxSet 95) (fluxStopping 1)).fld (Base.flux 95) Reg.Flux.DROP_COUNT = 1 := by decide +kernel
theorem test_flux_parity : (after (.fluxPlay 95 true) (fluxAt 0 100)).fld (Base.flux 95) Reg.Hdr.INFO = 100 := by decide +kernel
theorem test_flux_cut : (after (.fluxPlay 95 false) (fluxing 0 1000000 none)).fld (Base.flux 95) Reg.Flux.CUT_COUNT = 1 := by
  decide +kernel
theorem test_flux_stop : ((after (.fluxStop 95) (fluxing 2 1000000 none)).flux 95).stop = true := by decide +kernel
theorem test_flux_kill : (after (.fluxKill 95) (fluxing 3 1000000 none)).reg (Base.flux 95 + 0x080) = 1 := by decide +kernel
/-- A play from step 999,997 ends at step 1,000,013, at the decision point of count 500,003; one from 999,993 has ended. -/
theorem witness_FluxBoundary : 4 ≤ 999997 + 16 ∧ 999997 + 16 < 2 * ((fluxing 0 999997 none).count + 2) + 4 ∧
    999993 + 16 < 2 * ((fluxing 0 999993 (some none)).count + 2) ∧
    ((fluxing 0 999993 (some none)).flux 95).cont = some none ∧ (fluxing 0 0 none).frozen = false := by decide +kernel
theorem test_flux_decision : ((after (.fluxPlayBoundary 95 false) (fluxing 0 999997 none)).flux 95).cont = some none := by
  decide +kernel
theorem test_flux_end : ((after (.fluxPlayBoundary 95 false) (fluxing 0 999993 (some none))).flux 95).play = none ∧
    (after (.fluxPlayBoundary 95 false) (fluxing 0 999993 (some none))).reg (Base.flux 95 + 0x010) = 1 := by decide +kernel
theorem test_flux_refetch : ((after (.fluxRefetchComplete 95) (on5.modFlux 95 fun x => { x with refetch := [1, 2] })).flux
    95).refetch = [] := by decide +kernel
theorem test_flux_enable : (after (.fluxEnable .mgmt 0) on5).enabled (Base.flux 0) = true := by decide +kernel
theorem test_flux_disable : ((after (.fluxNormalDisable .mgmt 95) (fluxing 0 1000000 none)).flux 95).norm = true := by decide +kernel
theorem test_flux_disable_now : (after (.fluxDisableNow .mgmt 95) (fluxing 0 1000000 none)).fld (Base.flux 95)
    Reg.Flux.TRUNC_COUNT = 2 := by decide +kernel

/-- A bias edge falls into count 500,000 of a clock of 25,000 counts; the queue holds `q`, and the code is −2. -/
def biasAt (q : List Word) : State :=
  { (withFields on5 [(Base.flux 95, Reg.Flux.RANGE, 1), (Base.flux 95, Reg.Flux.CODE, 0xF_FFFE), (Base.flux 95, Reg.Flux.FLT_RANGE,
    1), (Base.flux 95, Reg.Flux.FLT_CODE, 5)]).modFlux 95 fun x => { x with dcq := q } with count := 500000, ticks := 10000 }
def biasWith (q : List Word) (f : FluxSt → FluxSt) : State := (biasAt q).modFlux 95 f
theorem witness_FluxBiasPart : (biasAt []).run = true ∧ (biasAt []).inDev .cellar = false ∧ ((biasAt []).flux 95).edgeAt ≠ some 500000 ∧
    (((biasAt []).count : Int) - (biasAt []).fld (Base.flux 95) Reg.Flux.BCLK_PH) % (biasAt []).fld (Base.flux 95) Reg.Flux.BCLK_DIV = 0 ∧
    ((biasAt []).flux 95).change = none ∧ ((biasAt []).flux 95).busyTil ≤ (biasAt []).ticks ∧ (biasAt []).calHolds 1 95 = false ∧
    (biasAt []).dcCode 95 = -2 ∧ ¬ RangeAllowed (biasAt []) 95 4 0 ∧ RangeAllowed (biasAt []) 95 0 5 := by
  unfold RangeAllowed
  decide +kernel
theorem test_bias_code : (after (.biasEdge 95) (biasAt [0x0008_0000])).dcCode 95 = -524288 := by decide +kernel
/-- A ramp of 4 to the code 1 begins at −2 + 3 / 4, rounded down. -/
theorem test_bias_ramp : (after (.biasEdge 95) (biasAt [0x4040_0001])).dcCode 95 = -2 ∧
    (after (.biasEdge 95) (biasWith [] fun x => { x with ramp := some ⟨-2, 1, 4, 3⟩ })).dcCode 95 = 1 := by decide +kernel
/-- A range of another class with a code other than 0 is refused. -/
theorem test_bias_range : (after (.biasEdge 95) (biasAt [0x8040_0000])).fld (Base.flux 95) Reg.Hdr.CODE = 0x14 := by decide +kernel
theorem test_bias_bad : (after (.biasEdge 95) (biasAt [0xC000_0000])).fld (Base.flux 95) Reg.Flux.QDROP_COUNT = 1 := by decide +kernel
theorem test_bias_underrun : (after (.biasEdge 95) (withFields (biasAt []) [(Base.flux 95, Reg.Flux.CONT, 1)])).fld (Base.flux 95)
    Reg.Flux.UNDERRUN_COUNT = 1 := by decide +kernel
/-- Ring 0 is a BIAS ring of function 0 with one unread entry; 241 words wait. -/
def refilling : State :=
  let s := withFields ((biasAt (List.replicate 241 0)).setEnable (Base.flux 95) true) [(Base.flux 95, Reg.Hdr.FN, 0),
    (Base.fn 0, Reg.Fn.RING_COUNT, 1), (Base.mc, Reg.Mc.RRG_SIZE, 512), (Base.mc, Reg.Mc.RRG_BASE, 256)]
  let s := s.modRing 0 fun r => { r with en := true, kind := 3, log2 := 6, daddr := 2 ^ 22, prod := 1, moved := 1 }
  { s with limits := [(Base.flux 95 + 0x024, 1)] }
/-- The entry that the channel has asked for is on its way from the DRAM: a count, and the words 7 and 9. -/
def biasComes (k : Nat) : State :=
  (refilling.modRing 0 fun x => { x with asked := [(0, none)] }).modDch 0 fun d =>
    { d with inflight := [⟨3, false, 2 ^ 28, 0, 0, false, .bias 95 0 0, leBytes 64 (k + 2 ^ 32 * 7 + 2 ^ 64 * 9), false⟩] }
theorem witness_BiasRefill : refilling.enabled (Base.flux 95) = true ∧ (refilling.flux 95).dcq.length + 15 ≤ 256 ∧
    refilling.dramShut = false ∧ refilling.biasRingOk 95 = true ∧ refilling.ringUnasked 0 = true ∧ refilling.portMay 3 (2 ^ 28) = true ∧
    (refilling.chargeRes (Base.flux 95 + 0x024) (refilling.limitOf (Base.flux 95))).isSome = true ∧
    (refilling.setFld (Base.flux 95) Reg.Flux.BIAS_RING 1).biasRingOk 95 = false := by decide +kernel
theorem test_bias_refill : ((after (.biasRefill 95) refilling).ring 0).asked = [(0, none)] := by decide +kernel
theorem witness_BiasDelivery : ((biasComes 2).dch 0).inflight.map DramReq.use = [.bias 95 0 0] ∧
    ((biasComes 2).dch 0).failing = none ∧ ((biasComes 2).ring 0).asked = [(0, none)] ∧
    ((biasComes 2).flux 95).faultHeld = false := by decide +kernel
theorem test_bias_delivery : ((after (.dramReadComplete 0 none false) (biasComes 2)).flux 95).dcq.drop 241 = [7, 9] := by
  decide +kernel
theorem test_bias_delivery_bad : (after (.dramReadComplete 0 none false) (biasComes 16)).reg (Base.flux 95 + 0x010) = 0x800 := by
  decide +kernel
theorem test_bias_delivery_held : (after (.dramReadComplete 0 none false) ((biasComes 2).modFlux 95 fun x =>
    { x with faultHeld := true })).fld (Base.flux 95) Reg.Flux.QDROP_COUNT = 2 := by decide +kernel
/-- R378: an edge that falls in a range change is an underrun too. -/
theorem test_bias_underrun_held : (after (.biasEdge 95) (withFields (biasWith [] fun x => { x with change := some ⟨5, -1⟩ })
    [(Base.flux 95, Reg.Flux.CONT, 1)])).fld (Base.flux 95) Reg.Flux.UNDERRUN_COUNT = 1 := by decide +kernel
theorem witness_BiasOther : ((biasWith [] fun x => { x with change := some ⟨5, -1⟩ }).flux 95).change = some ⟨5, -1⟩ ∧
    ((biasWith [] fun x => { x with direct := some (1, 9) }).flux 95).direct = some (1, 9) ∧
    { biasAt [] with regs := (withFields (biasAt []) [(Base.tl, Reg.Tl.RUN, 0)]).regs }.run = false ∧
    (biasAt []).dcRange 95 = 1 ∧ 8192 ≤ ((withFields (biasAt []) [(Base.flux 95, Reg.Flux.CODE, 0xF_E000)]).dcCode 95).natAbs ∧
    ((biasAt []).flux 95).powered = false ∧ (biasAt []).inDev .off = false ∧ (biasAt []).power.por = false ∧ mayAccess (biasAt []) .flux 95 ∧ (biasAt []).fluxCauseLive 95 = false :=
  ⟨by decide +kernel, by decide +kernel, by decide +kernel, by decide +kernel, by decide +kernel, by decide +kernel,
    by decide +kernel, by decide +kernel, ⟨by decide, by decide +kernel⟩, by decide +kernel⟩
theorem test_range_change : (after (.rangeChangeComplete 95) (biasWith [] fun x => { x with change := some ⟨5, -1⟩ })).fld
    (Base.flux 95) Reg.Flux.CODE = 0xF_FFFF := by decide +kernel
theorem test_direct_apply : (after (.dcDirectApply 95) (withFields (biasWith [] fun x => { x with direct := some (1, 9) })
    [(Base.tl, Reg.Tl.RUN, 0)])).dcCode 95 = 9 := by decide +kernel
theorem test_compliance : (after (.compliance 95) (withFields (biasAt []) [(Base.flux 95, Reg.Flux.COMP_ACT, 1)])).dcCode 95 = 5 := by
  decide +kernel
def open' : State := withFields (biasWith [1] fun x => { x with compLive := true }) [(Base.flux 95, Reg.Flux.CODE, 0xF_E000)]
theorem test_open : ((after (.openDetect 95) open').flux 95).dcq = [] ∧
    (after (.openDetect 95) open').fld (Base.flux 95) Reg.Flux.FAULT_CAUSE = 1 := by decide +kernel
theorem test_compliance_clear : ((after (.complianceClear 95) open').flux 95).compLive = false := by decide +kernel
theorem test_monitor : (after (.monitorMeasure 95 (-1) 2) (biasAt [])).reg (Base.flux 95 + 0x064) = 0x00FF_FFFF := by decide +kernel
theorem test_power_up : (after (.dcPowerUp 95 true) ((biasAt []).modFlux 95 fun x => { x with nvm := some (0x0020_0003, 0) })).reg
    (Base.flux 95 + 0x05C) = 0x0020_0003 := by decide +kernel
theorem test_power_up_blank : (after (.dcPowerUp 95 true) (biasAt [])).reg (Base.flux 95 + 0x010) = 0x4000 := by decide +kernel
theorem test_nvm_store : ((after (.fluxNvmStoreComplete 95) (after (.fluxNvmStore .mgmt 95) (biasAt []))).flux 95).nvm =
    some (0x0060_0000, 0x0010_0005) := by decide +kernel
theorem test_nvm_worn : (after (.fluxNvmStore .mgmt 95) (biasWith [] fun x => { x with stores := 10000 })).fld (Base.flux 95)
    Reg.Hdr.CODE = 0x17 := by decide +kernel
theorem test_d_go : ((after (.dGo .mgmt 95 0x8018_0000) (biasAt [])).flux 95).direct = some (1, -524288) := by decide +kernel
theorem test_d_go_refused : (after (.dGo .mgmt 95 0x8018_0000) (biasAt [1, 2])).fld (Base.flux 95) Reg.Hdr.INFO = 2 := by
  decide +kernel
theorem test_fault_clr : ((after (.faultClr .mgmt 95) (biasWith [] fun x => { x with faultHeld := true })).flux 95).faultHeld =
    false := by decide +kernel
theorem witness_FluxCauseLive : (withFields (biasWith [] fun x => { x with compLive := true }) [(Base.flux 95, Reg.Flux.COMP_ACT,
    1)]).fluxCauseLive 95 = true ∧ ((biasWith [] fun x => { x with storing := some (1, 2) }).flux 95).storing = some (1, 2) := by
  decide +kernel

/-! ### Rings -/

/-- Ring 262,143, the last ring, belongs to function 3; it is enabled, with 16 entries, of a kind and with indices P, M and C. -/
def ringAt (kind p m c : Nat) : State :=
  let s := withFields on5 [(Base.fn 3, Reg.Fn.RING_BASE, 4095), (Base.fn 3, Reg.Fn.RING_COUNT, 1), (Base.fn 3, Reg.Fn.RING_SEL,
    262143), (Base.fn 3, Reg.Hdr.FN, 3), (Base.fn 3, Reg.Fn.DRAM_LIMIT, 4),
    (Base.mc, Reg.Mc.RRG_BASE, 256), (Base.mc, Reg.Mc.RRG_SIZE, 1)]
  let s := { s with limits := [(Base.fn 3 + 0x04C, 4)], ctxCache := [262143], ticks := 1000 }
  s.modRing 262143 fun r => { r with en := true, kind := kind, prod := p, moved := m, cons := c, daddr := 0x40_0000, haddr := 0x1000, wb := 0x800 }
/-- A doorbell's data: the ring and an index. -/
def bell (i : Nat) : BitVec 64 := BitVec.ofNat 64 (262143 + i * 2 ^ 32)
theorem witness_Doorbells : Settled (ringAt 0 0 0 0) ∧ (ringAt 0 0 0 0).doorbells = [] ∧ (ringAt 0 0 0 0).hostOpen = true ∧ ((ringAt 0 0 0 0).fnSt 3).flr = none ∧
    (ringAt 0 0 0 0).ringFn 262143 = some 3 ∧ ((ringAt 0 0 0 0).ring 262143).en = true ∧ (ringAt 0 0 0 0).frozen = false ∧
    (bell 16).toNat % 2 ^ 18 = 262143 := by decide +kernel
/-- A producer doorbell up to a full ring of 16 is taken, one of 17 is not. -/
theorem test_db_prod : ((after (.dbProd 3 true (bell 16)) (ringAt 0 0 0 0)).ring 262143).prod = 16 := by decide +kernel
theorem test_db_prod_beyond : (after (.dbProd 3 true (bell 17)) (ringAt 0 0 0 0)).reg (Base.fn 3 + 0x01C) =
    BitVec.ofNat 32 (0x8000_0000 + 0x15 * 2 ^ 24 + 262143) := by decide +kernel
theorem test_db_cons : ((after (.dbCons 3 true (bell 3)) (ringAt 1 3 3 0)).ring 262143).cons = 3 := by decide +kernel
theorem test_db_split : ((after (.dbCons 3 false (bell 3)) (ringAt 1 3 3 0)).ring 262143).cons = 0 := by decide +kernel
theorem test_db_frozen : (after (.dbProd 3 true (bell 1)) ((ringAt 0 0 0 0).setBit Base.mc Reg.Mc.FROZEN true)).doorbells =
    [⟨3, true, bell 1⟩] := by decide +kernel

theorem witness_Mover : (ringAt 0 2 0 0).ringFn 262143 = some 3 ∧ (ringAt 0 2 0 0).dramShut = false ∧
    (ringAt 0 2 0 0).dramWaits 4 3 = false ∧ ((ringAt 0 2 0 0).fnSt 3).flr = none ∧ Settled (ringAt 0 2 0 0) ∧
    (((ringAt 0 2 0 0).ring 262143).en || ((ringAt 0 2 0 0).ring 262143).stopping) = true ∧
    ((ringAt 0 2 0 0).ring 262143).err = false ∧ ((ringAt 0 2 0 0).ring 262143).moved ≠ ((ringAt 0 2 0 0).ring 262143).prod ∧
    (ringAt 0 2 0 0).ctxCache.contains 262143 = true ∧ (ringAt 0 2 0 0).chargeHost 3 ≠ none ∧
    (ringAt 0 2 0 0).portMay 4 (0x1000_0000) = true := by decide +kernel
def fromHost : State := { ringAt 0 17 15 15 with host := wrLE [] (3 * 2 ^ 64 + 0x1000 + 15 * 64) 4 0xA5A5_A5A5 }
/-- Entry 15 of a host ring goes to the last slot of the device copy, entry 16 to the first. -/
theorem test_mover_in : rdLE (after (.moverTransfer 262143 1) fromHost).dram (0x1000_0000 + 15 * 64) 4 = 0xA5A5_A5A5 := by decide +kernel
/-- The entries of a device-produced ring are asked of the DRAM; entry 16 of `s` comes. -/
theorem test_mover_asks : ((after (.moverTransfer 262143 1) (ringAt 1 17 16 15)).ring 262143).asked = [(16, none)] := by decide +kernel
def ringComes : State :=
  ((ringAt 1 17 16 15).modRing 262143 fun x => { x with asked := [(16, none)], wbLast := 15 }).modDch 0 fun d =>
    { d with inflight := [⟨4, false, 0x1000_0000, 0, 0, false, .move 3 262143 16, leBytes 64 77, false⟩] }
theorem witness_MoverDelivery : (ringComes.dch 0).inflight.map DramReq.use = [.move 3 262143 16] ∧ (ringComes.dch 0).failing = none ∧
    (ringComes.ring 262143).asked = [(16, none)] ∧ Settled ringComes ∧ ringComes.dramShut = false ∧
    ringComes.ringFn 262143 = some 3 := by decide +kernel
theorem test_mover_out : rdLE (after (.dramReadComplete 0 none false) ringComes).host (3 * 2 ^ 64 + 0x1000) 4 = 77 ∧
    ((after (.dramReadComplete 0 none false) ringComes).ring 262143).moved = 17 := by decide +kernel
/-- R27: an earlier request of the function waits for its burst. -/
def burstless : State := { ringAt 1 3 3 0 with dwait := [⟨4, 3, .req false 0 false⟩] }
theorem witness_Records : (ringAt 1 3 3 0).ringFn 262143 = some 3 ∧ (ringAt 1 3 3 0).ctxCache.contains 262143 = true ∧
    ((ringAt 1 3 3 0).ring 262143).full = false ∧ (ringAt 1 3 3 0).chargeHost 3 ≠ none ∧
    ((ringAt 1 16 3 0).ring 262143).full = true ∧ burstless.dramWaits 4 3 = true ∧ burstless.frozen = false := by decide +kernel
theorem test_ring_record : ((ringAt 1 3 3 0).ringPush 262143 (leBytes 64 5)).ring 262143 = { (ringAt 1 3 3 0).ring 262143 with prod := 4 } ∧
    (((ringAt 1 16 3 0).ringPush 262143 (leBytes 64 5)).ring 262143).drop = 1 := by decide +kernel
theorem test_ring_record_waits : (burstless.ringPush 262143 (leBytes 64 5)).dwait.length = 2 := by decide +kernel
theorem test_mover_error : (after (.moverDmaError 262143) (ringAt 0 2 0 0)).fld (Base.fn 3) Reg.Hdr.CODE = 0x17 := by decide +kernel
/-- The ring is stopping. -/
def endRing (kind : Nat) : State := (ringAt kind 3 1 1).modRing 262143 fun r => { r with en := false, stopping := true }
theorem witness_RingStopped : ((endRing 1).ring 262143).stopping = true ∧ ((endRing 1).ring 262143).asked = [] ∧ ((endRing 0).ring 262143).stopping = true := by decide
theorem test_ring_stopped : ((after (.ringStopped 262143) (endRing 1)).ring 262143).retain = 2 := by decide +kernel
theorem test_ring_stopped_host : ((after (.ringStopped 262143) (endRing 0)).ring 262143).cons = 3 := by decide +kernel

/-- The ring is not enabled; word 0x064 for a RESULT ring of 16 entries, and for one of 8. -/
def ringOff : State := (ringAt 1 3 3 1).modRing 262143 fun r => { r with en := false }
theorem witness_RingEnable : mayAccess ringOff .fn 3 ∧ ringOff.ringFn 262143 = some 3 ∧
    (ringOff.ring 262143).en = false ∧ (ringOff.ring 262143).stopping = false ∧
    (∀ i, 1 ≤ i → i ≤ 5 → ringMay ringOff 262143 (ringSet (ringOff.ring 262143) 0x8104_0000) i) ∧
    ¬ ringMay ringOff 262143 (ringSet (ringOff.ring 262143) 0x8103_0000) 1 := by
  refine ⟨⟨by decide, by decide +kernel⟩, by decide +kernel, by decide, by decide, fun i h1 h5 => ?_, ?_⟩
  · obtain rfl | rfl | rfl | rfl | rfl : i = 1 ∨ i = 2 ∨ i = 3 ∨ i = 4 ∨ i = 5 := by omega
    all_goals simp only [ringMay]; decide +kernel
  · simp only [ringMay]; decide +kernel
theorem test_ring_enable : ((after (.ringEnable .mgmt 3 0x8104_0000) ringOff).ring 262143).en = true ∧
    ((after (.ringEnable .mgmt 3 0x8104_0000) ringOff).ring 262143).prod = 0 := by decide +kernel
theorem test_ring_enable_small : (after (.ringEnable .mgmt 3 0x8103_0000) ringOff).fld (Base.fn 3) Reg.Hdr.INFO = 1 := by decide +kernel
theorem test_ring_disable : ((after (.ringDisable .mgmt 3 0x0104_0000) (ringAt 1 3 3 1)).ring 262143).stopping = true := by
  decide +kernel
theorem test_ring_disable_twice : (after (.ringDisable .mgmt 3 0x0104_0000) (endRing 1)).fld (Base.fn 3) Reg.Hdr.CODE = 0x12 := by
  decide +kernel
theorem test_ring_sel : (after (.ringSelWrite .mgmt 3 262080) ringOff).fld (Base.fn 3) Reg.Fn.RING_SEL = 262080 := by decide +kernel
theorem test_ring_sel_foreign : (after (.ringSelWrite .mgmt 3 262079) ringOff).fld (Base.fn 3) Reg.Hdr.INFO = 262079 := by
  decide +kernel
theorem test_quota : (after (.quotaWrite .mgmt 0 0x0FFF_0000) ringOff).fld (Base.fn 0) Reg.Fn.RING_COUNT = 4095 := by decide +kernel
/-- 4,096 rings of 64 from 0 up take in those of function 3. -/
theorem test_quota_clash : (after (.quotaWrite .mgmt 0 0x1000_0000) ringOff).fld (Base.fn 0) Reg.Hdr.CODE = 0x14 := by decide +kernel
theorem witness_Quota : reqMgmt .mgmt = true ∧ (reqMgmt (.fn 5) || reqFn0 (.fn 5)) = false ∧
    (on5.granted .mgmt .fn 5).isSome = true := by decide

/-! ### Function-level resets and jobs -/

/-- Function 3 with a reset in a phase that began at step 900,000; its sequencer 0 is alive or not. -/
def resetting (ph : FlrPhase) (alive : Bool) : State :=
  let s := withFields on5 [(Base.seq 0, Reg.Hdr.FN, 3)]
  let s := if alive then (s.setEnable (Base.seq 0) true).modSeq 0 fun q => { q with issuing := true } else s
  { s.modFn 3 fun x => { x with flr := some (900000, ph), pba := 5 } with count := 499999 }
theorem witness_Flr : Settled on5 ∧ Settled (resetting .stopping true) ∧ (on5.fnSt 3).flr = none ∧ ((resetting .stopping true).fnSt 3).flr = some (900000, .stopping) ∧
    900000 + 100000 < 2 * ((resetting .stopping true).count + 2) ∧ (resetting .stopping true).seqAlive 0 = true ∧
    2 * ({ resetting .stopping true with count := 499998 }.count + 2) ≤ 900000 + 100000 ∧
    (resetting .cut true).seqStopped 0 = false ∧ ((resetting .rings false).ring 262143).stopping = false := by decide +kernel
theorem witness_FlrQuiet : (∀ n, n < 256 → (resetting .cut false).owner (Base.seq n) = 3 → (resetting .cut false).seqStopped n = true ∧
      ((resetting .cut false).seq n).shots = [] ∧ ((resetting .cut false).seq n).ending = false ∧
      ((resetting .cut false).seq n).killReq = false) ∧ (resetting .cut false).dwait = [] ∧ (resetting .cut false).syn.rounds = [] ∧
    (∀ n, n < 32 → (resetting .cut false).acqActive n = false) := by decide +kernel
theorem test_flr : ((after (.flrInitiate 3) { on5 with count := 7 }).fnSt 3).flr = some (16, .stopping) := by decide +kernel
theorem test_link_down : exec .linkDownReset (resetting .stopping true) = exec (.flrInitiate 0) (resetting .stopping true) := rfl
theorem test_flr_deadline : ((after (.flrSequencerDeadline 3) (resetting .stopping true)).seq 0).killReq = true := by decide +kernel
theorem test_flr_rings : ((after (.flrRingsDisable 3) (resetting .cut false)).fnSt 3).flr = some (900000, .rings) := by decide +kernel
theorem test_flr_complete : (after (.flrComplete 3 false 0) (resetting .rings false)).reg (Base.fn 3 + 0x010) = 0x40 ∧
    ((after (.flrComplete 3 false 0) (resetting .rings false)).fnSt 3).pba = 0 := by decide +kernel

/-- Of function 0, VF Enable is what the host's next write makes it. -/
theorem test_flr_vfs : ((after (.flrComplete 0 true 7) (on5.modFn 0 fun x => { x with flr := some (900000, .rings) })).fnSt 0).numVfs =
    7 := by decide +kernel
/-- Function 9 owns no page with a disable. -/
theorem witness_FlrFrame : ∀ ty n, ty ∈ [PageType.tone, .out, .rout, .lane, .syn, .flux, .acq, .adc, .jport, .evg, .eth] →
    n < pageCount ty → on5.owner (pageBase ty n) ≠ 9 := by
  intro ty n h hn
  simp only [List.mem_cons, List.not_mem_nil, or_false] at h
  obtain rfl | rfl | rfl | rfl | rfl | rfl | rfl | rfl | rfl | rfl | rfl := h <;> revert n <;> decide +kernel
/-- A job entry of 64 bytes: operation, tag 7, a host address or step, length, destination and mask. -/
def jobEntry (op addr len dest mask : Nat) : List Byte :=
  withCrc (leBytes 2 0x4A42 ++ leBytes 1 op ++ leBytes 1 0 ++ leBytes 4 7 ++ leBytes 8 addr ++ leBytes 4 len ++ leBytes 4 dest ++
    leBytes 32 mask ++ leBytes 4 0)
/-- Ring 262,143 is a JOB ring of function 3, with one entry, and ring 262,080 its LOG ring. -/
def jobRing (bytes : List Byte) : State :=
  let s := withFields (ringAt 0 1 1 0) [(Base.seq 255, Reg.Hdr.FN, 3), (Base.fn 3, Reg.Fn.PM_SIZE, 1), (Base.fn 3, Reg.Hdr.LIMIT, 8)]
  let s := s.modRing 262143 fun r => { r with aux := 262080 }
  let s := s.modRing 262080 fun r => { r with en := true, kind := 6, daddr := 0x40_0040 }
  { s with dram := wrBytes s.dram 0x1000_0000 bytes, limits := (Base.fn 3 + 0x024, 8) :: s.limits }
def fence : State := jobRing (jobEntry 4 0 0 0 (2 ^ 255))
theorem witness_JobTake : fence.ringFn 262143 = some 3 ∧ (fence.ring 262143).en = true ∧ (fence.ring 262143).job = none ∧
    (fence.ring 262143).moved ≠ (fence.ring 262143).cons ∧ fence.frozen = false ∧ (fence.fnSt 3).flr = none := by decide +kernel
def taken (s : State) : Option (Nat × JobPhase) := (s.ring 262143).job.map fun j => (j.status, j.phase)
theorem test_job_take : taken (after (.jobTake 262143) fence) = some (0, .taken) ∧
    taken (after (.jobTake 262143) (jobRing ((jobEntry 4 0 0 0 (2 ^ 255)).set 60 0))) = some (1, .done) := by decide +kernel
/-- Sequencer 254 belongs to no function; a START below 2T + 2,048 is too close. -/
theorem test_job_take_refused : taken (after (.jobTake 262143) (jobRing (jobEntry 4 0 0 0 (2 ^ 254)))) = some (2, .done) ∧
    taken (after (.jobTake 262143) (jobRing (jobEntry 2 2047 0 0 (2 ^ 255)))) = some (5, .done) := by decide +kernel
/-- A job in hand. -/
def job (op addr : Nat) (ph : JobPhase) : State :=
  (jobRing []).modRing 262143 fun r => { r with job := some ⟨op, 7, addr, 16, 8, BitVec.ofNat 256 (2 ^ 255), 0, 8, 8, 0, ph⟩ }
theorem witness_Jobs : ((job 1 0x100 .taken).ring 262143).job.map (fun j => (j.op, j.phase)) = some (1, .taken) ∧
    ((job 1 0x100 .taken).chargeAccess 3).isSome = true ∧
    2 * ((job 2 4 .waiting).count + 2) ≤ 4 ∧ 3 < 2 * ((job 2 3 .waiting).count + 2) ∧
    (job 2 3 .waiting).seqStopped 255 = true ∧ ((job 2 3 .waiting).seq 255).issuing = false ∧
    (job 2 3 .waiting).applying 255 = false ∧ ((job 4 0 .done).ring 262080).full = false ∧
    ((job 4 0 .done).ring 262080).en = true ∧ (job 4 0 .done).ringFn 262080 = some 3 ∧ Settled (job 2 3 .waiting) ∧
    ((job 2 3 .waiting).seq 255).ending = false ∧ ((job 2 3 .waiting).fld Base.sec Reg.Sec.CL_FAIL).testBit 15 = false := by decide +kernel
theorem test_job_load : (after (.jobLoad 262143 false) { job 1 0x100 .taken with host := wrLE [] (3 * 2 ^ 64 + 0x108) 8 0x55 }).bar2 =
    wrLE [] 16 8 0x55 := by decide +kernel
theorem test_job_load_error : ((after (.jobLoad 262143 true) (job 1 0 .taken)).ring 262143).job.map Job.status = some 4 := by
  decide +kernel
theorem test_job_start : ((after (.jobStart 262143) (job 2 3 .taken)).ring 262143).job.map Job.phase = some .waiting := by
  decide +kernel
theorem test_job_start_step : (after (.jobStartStep 262143) (job 2 3 .waiting)).enabled (Base.seq 255) = true ∧
    ((after (.jobStartStep 262143) (job 2 3 .waiting)).seq 255).nextStep = 3 := by decide +kernel
theorem test_job_stop : ((after (.jobStop 262143) ((job 3 0 .taken).modSeq 255 fun q => { q with held := true })).seq 255).held =
    false := by decide +kernel
theorem test_job_fence : ((after (.jobFence 262143) (job 4 0 .taken)).ring 262143).job.map Job.phase = some .waiting := by
  decide +kernel
theorem test_job_complete : rdBytes (after (.jobComplete 262143) (job 1 0 .done)).dram 0x1000_1000 5 = [0x43, 0x4A, 1, 0, 7] := by
  decide +kernel
theorem test_job_complete_waits : after (.jobComplete 262143) (job 2 0 .waiting) = job 2 0 .waiting := by decide +kernel

/-! ### DRAM controller -/

/-- The example under R423: one rank of 8 GB per channel, and a read of port 1 of the block at DA 0x2345_6780. -/
def dram : State := { withFields on5 [(Base.mc, Reg.Mc.CAP, 2)] with count := 80000000 }
def read (da : Nat) : DramReq := ⟨1, false, da, 159999000, 500, false, .none, leBytes 64 0x55, false⟩
def block' : DramReq := read 0x2345_6780
def channel (f : DchSt → DchSt) : State := dram.modDch 3 f
theorem test_dram_example : dramCh 0x2345_6780 = 3 ∧ dramLa 0x2345_6780 = 0x08D1_5980 ∧
    dram.dramDecode 0x08D1_5980 = (38, 1, 1, 0, 0x08D1) := by decide +kernel
/-- A younger request for another row of the same bank. -/
def younger : DramReq := { read 0x2385_6780 with arrival := 159999400 }
theorem witness_DramController : dram.frozen = false ∧ dram.mcClocked 3 = true ∧ GoesBefore dram 3 block' younger ∧ block'.write = false ∧
    block'.port < 8 ∧ (channel fun x => { x with rows := [((placeOf dram block').1, (placeOf dram block').2)] }).openRow 3
      (placeOf dram block').1 = some 0x08D1 := by
  refine ⟨by decide, by decide, ?_, by decide, by decide, by decide +kernel⟩
  simp only [GoesBefore]
  decide +kernel
theorem test_activate : ((after (.dramCommandIssue 3 none) (channel fun x => { x with reads := [block'] })).dch 3).rows.map Prod.snd =
    [0x08D1] := by decide +kernel
theorem test_read_issue : ((after (.dramCommandIssue 3 none) (channel fun x => { x with
    reads := [younger, block'], rows := [((placeOf dram block').1, 0x08D1)] })).dch 3).inflight.map DramReq.arrival = [159999000] := by
  decide +kernel
theorem witness_DramReads : ((channel fun x => { x with inflight := [block'] }).dch 3).inflight.map DramReq.use = [.none] ∧
    ((channel fun x => { x with failing := some (block', 1) }).dch 3).failing = some (block', 1) ∧
    (1 : Nat) ≤ (withFields dram [(Base.mc, Reg.Mc.RANKS, 1)]).fld Base.mc Reg.Mc.RANKS := by decide +kernel
theorem test_read_complete : (after (.dramReadComplete 3 none false) (channel fun x => { x with inflight := [block'] })).fld (Base.dch 3)
    Reg.Dch.MAX_LAT = 2000 := by decide +kernel
theorem test_read_fails : (after (.dramReadComplete 3 (some (0, 0)) false) (channel fun x => { x with inflight := [block'] })).fld (Base.dch 3)
    Reg.Hdr.INFO = 0x8D_159E := by decide +kernel
theorem test_reread : (after (.dramRereadComplete 3 none) (channel fun x => { x with failing := some (block', 0) })).fld
    (Base.dch 3) Reg.Dch.RECRC_COUNT = 1 := by decide +kernel
def rereading : State := channel fun x => { x with failing := some (block', 1) }
/-- The example under R438: the block fails its check and both re-reads. -/
theorem test_freeze : let frozen' := after (.dramRereadComplete 3 (some (0, 0x5678))) rereading
    frozen'.fld Base.mc Reg.Mc.FRZ_CAUSE = 1 ∧ frozen'.fld Base.mc Reg.Mc.FRZ_CRC_RD = 0x5678 ∧ frozen'.fld Base.mc Reg.Mc.FRZ_CH = 3 ∧
    frozen'.fld Base.mc Reg.Mc.FRZ_PORT = 1 ∧ frozen'.fld Base.mc Reg.Mc.FRZ_BLK = 0x8D_159E ∧
    frozen'.fld Base.mc Reg.Mc.FRZ_CMD = 2 ∧ frozen'.fld Base.mc Reg.Mc.FRZ_BG = 1 ∧ frozen'.fld Base.mc Reg.Mc.FRZ_BANK = 1 ∧
    frozen'.fld Base.mc Reg.Mc.FRZ_ROW = 0x08D1 ∧ frozen'.fld Base.mc Reg.Mc.FRZ_COL = 38 ∧
    frozen'.fld Base.mc Reg.Mc.FRZ_TC_LO = 0x04C4_B400 := by decide +kernel
/-- R433: a write marks its CRC block as modified; one that then fails its parity freezes with cause 4. -/
def writing : State := channel fun x => { x with
  writes := [{ block' with write := true }], rows := [((placeOf dram block').1, 0x08D1)], crcs := [(crcBlock 0x2345_6780, true)] }
theorem witness_DramWrite : (writing.dch 3).reads = [] ∧ (writing.dch 3).writes.map DramReq.write = [true] ∧
    writing.openRow 3 (placeOf writing { block' with write := true }).1 = some (placeOf writing { block' with write := true }).2 ∧
    writing.crcCached 3 0x2345_6780 = some true := by decide +kernel
theorem test_write : ((after (.dramCommandIssue 3 none) writing).dch 3).writes.length = 0 := by decide +kernel
theorem test_write_parity : (after (.dramCommandIssue 3 (some (4, 0))) writing).fld Base.mc Reg.Mc.FRZ_CAUSE = 4 := by decide +kernel
theorem test_refresh_finding : (after (.refresh 3 0 15 (some (3, 0))) dram).fld Base.mc Reg.Mc.FRZ_PORT = 7 := by decide +kernel
/-- The block fails as `back` comes with another CRC; as written it passes. -/
theorem witness_DramCheck : block'.good (block'.got none) = true ∧ block'.good (block'.got (some (0, 0))) = false := by decide +kernel
theorem test_refresh : ((after (.refresh 3 0 15 none) (channel fun x => { x with rows := [(15, 7), (14, 7)] })).dch 3).rows = [(14, 7)] := by
  decide +kernel
theorem test_mr4 : (after (.mr4OscRead 3 0x0E 0 5 6 none) dram).reg (Base.mc + 0x010) = 4 := by decide +kernel
def frozenMc : State := { dram.setBit Base.mc Reg.Mc.FROZEN true with unfreezing := true }
theorem witness_Unfreeze : frozenMc.unfreezing = true ∧ frozenMc.frozen = true ∧ mayAccess frozenMc .mc 0 ∧
    (withFields frozenMc [(Base.mc, Reg.Hdr.FN, 128)]).owner Base.mc = reqNum .mgmt ∧ frozenMc.owner Base.mc ≠ reqNum .mgmt :=
  ⟨by decide, by decide, ⟨by decide, by decide⟩, by decide, by decide⟩
theorem test_unfreeze_complete : (after (.unfreezeComplete none) frozenMc).frozen = false ∧
    (after (.unfreezeComplete none) frozenMc).fld Base.mc Reg.Mc.FREEZE_COUNT = 1 := by decide +kernel
theorem test_unfreeze_fails : (after (.unfreezeComplete (some (3, 8))) (frozenMc.setBit Base.mc Reg.Mc.RETRAIN true)).fld (Base.dch 3)
    Reg.Hdr.INFO = 8 := by decide +kernel
theorem test_unfreeze : (after (.mcUnfreeze .mgmt) { withFields frozenMc [(Base.mc, Reg.Hdr.FN, 128)] with unfreezing := false }).unfreezing = true := by decide +kernel
theorem test_unfreeze_foreign : (after (.mcUnfreeze .mgmt) frozenMc).fld Base.mc Reg.Hdr.CODE = 1 := by decide +kernel
theorem test_frz_clear : (after (.frzValidClear .mgmt) (withFields dram [(Base.mc, Reg.Mc.FRZ_VALID, 1), (Base.mc, Reg.Mc.FRZ_CH, 3)])).reg (Base.mc + 0x074) = 0 := by decide +kernel
theorem test_nv_store : ((after .nvStoreComplete (after (.nvStore .mgmt) (withFields dram [(Base.mc, Reg.Mc.NV_CAP, 3)]))).dramNvm).cap = 3 := by
  decide +kernel
theorem test_nv_worn : (after (.nvStore .mgmt) { dram with dramNvm := { dram.dramNvm with stores := 1000 } }).fld Base.mc Reg.Hdr.INFO =
    1000 := by decide +kernel
/-- A vat region from 256 MiB to the end of the 31 GiB, and one that ends one MiB above it. -/
theorem test_region : (after (.regionWrite .mgmt false 0x7B00_0100) dram).reg (Base.mc + 0x04C) = 0x7B00_0100 := by decide +kernel
theorem test_region_beyond : (after (.regionWrite .mgmt false 0x7B01_0100) dram).fld Base.mc Reg.Hdr.CODE = 0x11 := by decide +kernel

/-! ### Events and messages -/

/-- The example of R453: EVCH[42] chains to itself with MIN_GAP 0x0040; `run` firings of the loop have been counted. -/
def evOn (run : Nat) : State :=
  let b := evgPage 42
  let s := ((on5.setEnable b true).setFld b Reg.Evg.CH_EN 1 2).setFld b Reg.Evg.LOOP_RUN run 2
  { (s.setFld b Reg.Evg.CHAIN_EN 1 2).setFld b Reg.Evg.CHAIN_CH 42 2 with window := 100, ticks := 1000 }
def gap (s : State) : State := s.setFld (evgPage 42) Reg.Evg.MIN_GAP 0x40 2
def busy (run : Nat) : State := (gap (evOn run)).modEvch 42 fun x => { x with busy := true, last := some 997, window := 100, fires := 1 }
theorem witness_Events : Settled (evOn 0) ∧ ((evOn 0).granted .mgmt .evg 5).isSome = true ∧ (evOn 0).reg (Base.evg 5 + 0x014) = 0 ∧
    ((evOn 0).evch 42).window ≤ (evOn 0).window ∧ ChannelOn (evOn 0) 42 ∧ ((evOn 0).evch 42).busy = false ∧
    ((busy 0).evch 42).busy = true ∧ ¬ ChannelOn on5 42 ∧ on5.enabled (Base.evg 31) = false := by
  unfold ChannelOn
  decide +kernel
/-- Bit 2 of FIRE is EVCH[42]. -/
theorem test_event_fire : (after (.eventFire .mgmt 5 4) (evOn 7)).fld (Base.evg 5) Reg.Evg.LOOP_RUN 2 = 0 ∧
    (after (.eventFire .mgmt 5 4) (evOn 7)).reg (Base.evg 5 + 0x010) = 4 := by decide +kernel
theorem test_event_fire_off : (after (.eventFire .mgmt 5 0xC) on5).fld (Base.evg 5) Reg.Evg.DIS_DROP_COUNT = 2 := by decide +kernel
theorem test_group_enable : (after (.eventGroupEnable .mgmt 31) on5).enabled (Base.evg 31) = true := by decide +kernel
theorem test_group_disable : (after (.eventGroupNormalDisable .mgmt 5) (evOn 0)).enabled (Base.evg 5) = false := by decide +kernel
theorem test_group_disable_now : (after (.eventGroupDisableNow .mgmt 5) ((evOn 0).modEvch 42 fun x => { x with
    queue := [⟨9, 0, none, 0, 0, 0⟩] })).fld (Base.evg 5) Reg.Evg.TRUNC_COUNT = 1 := by decide +kernel
/-- A chain onto a channel of another owner is refused: INFO has the channel and the target. -/
theorem test_ch_en : (after (.chEnWrite .mgmt 42 0x8001_FF00) (gap (evOn 9))).fld (Base.evg 5) Reg.Evg.LOOP_RUN 2 = 0 ∧
    (after (.chEnWrite .mgmt 42 0x8001_FF00) (gap (evOn 9))).fld (Base.evg 5) Reg.Evg.CHAIN_CH 2 = 255 := by decide +kernel
theorem test_ch_en_foreign : (after (.chEnWrite .mgmt 42 0x8001_FF00) ((evOn 9).setFld (Base.evg 31) Reg.Hdr.FN 9)).fld (Base.evg 5)
    Reg.Hdr.INFO = 2 + 255 * 256 := by decide +kernel
/-- Two PUBLISH commands of one step. -/
def publishing : State := (evOn 0).modEvch 42 fun x => { x with queue := [⟨3, 0, none, 0, 0, 0⟩, ⟨3, 1, none, 0, 0, 0⟩, ⟨4, 0, none, 0, 0, 0⟩] }
theorem witness_Publish : (publishing.evch 42).queue.map TCmd.step = [3, 3, 4] ∧ 3 < 2 * (publishing.count + 2) := by decide +kernel
theorem test_publish : (after (.evchPublish 42) publishing).fld (Base.evg 5) Reg.Evg.MERGE_COUNT 2 = 1 ∧
    (after (.evchPublish 42) publishing).fld (Base.evg 5) Reg.Evg.FIRE_COUNT 2 = 1 := by decide +kernel
/-- Firing 2 of the example follows the first at once; firing 17 ends the loop, and its chain publish is discarded. -/
theorem test_firing_2 : (after (.firingComplete 42) (busy 0)).fld (Base.evg 5) Reg.Evg.LOOP_RUN 2 = 1 := by decide +kernel
theorem test_firing_17 : (after (.firingComplete 42) (busy 16)).fld (Base.evg 5) Reg.Evg.DIS_DROP_COUNT = 1 ∧
    (after (.firingComplete 42) (busy 16)).reg (Base.evg 5 + 0x010) = 0x0400_0000 := by decide +kernel
def cellar : State := { ((gap (evOn 0)).setFld (evgPage 42) Reg.Evg.WAKE 1 2).modEvch 42 fun x => { x with busy := true } with regs :=
  (withFields ((gap (evOn 0)).setFld (evgPage 42) Reg.Evg.WAKE 1 2) [(Base.pwr, Reg.Pwr.STATE, 6)]).regs }
theorem witness_Wake : (cellar.evch 42).busy = true ∧ cellar.inDev .cellar = true ∧ cellar.bit (evgPage 42) Reg.Evg.WAKE 2 = true ∧
    cellar.power.trans = none := by decide +kernel

/-- Route 1343 belongs to the last source. -/
def routing : State := withFields on5 [(Base.intc, Reg.Intc.RT_SEL, 1343)]
theorem witness_Routes : mayAccess routing .intc 0 ∧ routing.fld Base.intc Reg.Intc.RT_SEL = 1343 := ⟨⟨by decide, by decide⟩, by decide⟩
theorem test_route : (after (.rtDataAccess .mgmt (some 0xFFFF_FFFF)) routing).fld Base.intc Reg.Intc.RT_SEL = 0 ∧
    ((after (.rtDataAccess .mgmt (some 0x801F_FF07)) routing).route 1343).toNat = 0x8000_0007 := by decide +kernel
/-- Vector 63 of function 63, with a pending message after its window. -/
def vector (x : MsixSt) (p : BitVec 64) : State := { on5 with ticks := 1000 }.modMsix 4095 (fun _ => x) |>.modFn 63 fun f => { f with pba := p, ringPend := p }
def unmasked : MsixSt := ⟨0x1000, 0xABCD, false, some 1000, true⟩
theorem witness_Messages : Settled (vector unmasked 0) ∧ ((vector unmasked 0).msixEntry 4095).again = true ∧
    (vector unmasked 0).msixHeld 63 63 = false ∧ (vector { unmasked with masked := true } 0).msixHeld 63 63 = true ∧
    (((vector unmasked (2 ^ 63)).fnSt 63).pba.getLsbD 63) = true ∧ (vector unmasked (2 ^ 63)).pbaBit 63 63 = true := by decide +kernel
theorem test_message : rdLE (after (.msixCoalescedMessage 63 63) (vector unmasked 0)).host (63 * 2 ^ 64 + 0x1000) 4 = 0xABCD := by
  decide +kernel
theorem test_message_held : ((after (.msixCoalescedMessage 63 63) (vector { unmasked with masked := true } 0)).fnSt 63).pba.getLsbD 63 =
    true := by decide +kernel
theorem test_held_release : rdLE (after (.msixHeldRelease 63 63) (vector unmasked (2 ^ 63))).host (63 * 2 ^ 64 + 0x1000) 4 = 0xABCD := by
  decide +kernel

/-! ### Ethernet ports and network time -/

/-- E0 and E1 are enabled with their links up. -/
def net : State := withFields ((on5.setEnable (Base.eth 0) true).setEnable (Base.eth 1) true) [(Base.eth 0, Reg.Eth.LINK, 1),
  (Base.eth 1, Reg.Eth.LINK, 1)]
def stamp (n : BitVec 32) (p : Fin 64) : Stamp := ⟨n, 0, false, p⟩
/-- A Sync message of 60 bytes in a frame of type 0x88F7 to the PTP multicast address. -/
def sync : List Byte := [0x01, 0x1B, 0x19, 0, 0, 0, 2, 2, 2, 2, 2, 2, 0x88, 0xF7, 0x00, 0x02, 0, 44] ++ List.replicate 42 0
theorem witness_NetworkPorts : net.enabled (Base.eth 0) = true ∧ net.bit (Base.eth 0) Reg.Eth.LINK = true ∧
    (net.ptpOf sync).map (fun m => (m.start, m.type sync, m.multi)) = some (14, 0, true) ∧ net.ptpOf (List.replicate 60 0) = none := by
  decide +kernel
theorem test_rx_bad : (after (.ethFrameRx 0 sync false (stamp 0 0)) net).fld (Base.eth 0) Reg.Eth.FCS_ERR_COUNT = 1 := by decide +kernel
theorem test_rx_slot : (after (.ethFrameRx 1 sync true (stamp 5 0)) (withFields net [(Base.nclk, Reg.Nclk.OC_EN, 1), (Base.nclk,
    Reg.Nclk.OC_PORT, 1)])).reg (Base.eth 1 + 0x800) = BitVec.ofNat 32 (60 + 65536) := by decide +kernel
/-- The worked example: the stamps lie 312.5 ns apart, 78 ticks and 8 of 64 parts. -/
def forwarding : State := { (withFields net [(Base.nclk, Reg.Nclk.TC_MODE, 1)]).modEth 1 fun e => { e with queue := [.fwd sync 1000 8 0] } with
  ticks := 1078 }
theorem witness_Egress : LeavesNext forwarding 1 (.fwd sync 1000 8 0) := .inl ⟨[], [], rfl, by decide +kernel, by simp⟩
theorem test_egress : beAt ((after (.ethForwardEgress 1 (stamp 0 16)) forwarding).eth 1).sent 22 8 = 0x0138_8000 := by decide +kernel
def local' : State := net.modEth 0 fun e => { e with queue := [.loc sync], leaving := true }
theorem witness_TxDone : LeavesNext local' 0 (.loc sync) ∧ local'.isEvent sync = true :=
  ⟨.inl ⟨[], [], rfl, by decide +kernel, by simp⟩, by decide +kernel⟩
theorem test_tx_done : (after (.txDone 0 (stamp 77 0)) local').fld (Base.eth 0) Reg.Eth.TX_TS_NS = 77 ∧
    (after (.txDone 0 (stamp 77 0)) local').bit (Base.eth 0) Reg.Eth.LINK = false := by decide +kernel
theorem test_link_up : (after (.ethLinkUp 0) ((withFields on5 [(Base.eth 0, Reg.Eth.FEC, 1)]).setEnable (Base.eth 0) true)).bit (Base.eth 0)
    Reg.Eth.FEC_LOCK = true := by decide +kernel
theorem test_link_lost : (after (.ethLinkLost 0) net).reg (Base.eth 0 + 0x010) = 2 := by decide +kernel
theorem witness_EthAccess : mayAccess net .eth 0 ∧ on5.enabled (Base.eth 0) = false ∧ (net.eth 0).queue = [] :=
  ⟨⟨by decide, by decide +kernel⟩, by decide, by decide⟩
theorem test_tx_go : ((after (.txGo .mgmt 1 0x8000_003C) net).eth 1).queue = [.loc (List.replicate 60 0)] := by decide +kernel
theorem test_tx_go_short : (after (.txGo .mgmt 1 0x8000_003B) net).fld (Base.eth 1) Reg.Hdr.INFO = 59 := by decide +kernel
theorem test_eth_enable : (after (.ethEnable .mgmt 0) on5).enabled (Base.eth 0) = true := by decide +kernel
theorem test_eth_disable : ((after (.ethNormalDisable .mgmt 0) (net.modEth 0 fun e => { e with queue := [.loc sync, .loc []] })).eth
    0).leaving = true := by decide +kernel
theorem test_eth_disable_now : (after (.ethDisableNow .mgmt 0) local').fld (Base.eth 0) Reg.Eth.FWD_DROP_COUNT = 1 := by decide +kernel
theorem witness_NtWrap : 0 < { on5 with nt := { on5.nt with wraps := 1 } }.nt.wraps := by decide
theorem test_wrap : (after .ntWrap { on5 with nt := { on5.nt with wraps := 1 } }).fld Base.nclk Reg.Nclk.WRAP_COUNT = 1 := by decide +kernel
theorem witness_Clock : mayAccess on5 .nclk 0 := ⟨by decide, by decide⟩
/-- The worked example: 4 ns + 42,950 × 2^−32 ns, a step of 600 ns, and one of 5,000 ns. -/
theorem test_increment : (after (.ntIncNsWrite .mgmt 4) (withFields on5 [(Base.nclk, Reg.Nclk.NT_INC_FRAC, 42950)])).nt.next =
    some (4 * 2 ^ 32 + 42950) := by decide +kernel
theorem test_increment_refused : (after (.ntIncNsWrite .mgmt 5) on5).fld Base.nclk Reg.Hdr.INFO = 5 := by decide +kernel
theorem test_step : (after (.stepGo .mgmt) (withFields on5 [(Base.nclk, Reg.Nclk.NT_STEP_NS, 600)])).nt.step = some (600 * 2 ^ 32) := by
  decide +kernel
theorem test_step_refused : (after (.stepGo .mgmt) (withFields on5 [(Base.nclk, Reg.Nclk.NT_STEP_NS, 5000)])).reg (Base.nclk + 0x01C) =
    0x9200_1388 := by decide +kernel
theorem test_nt_read : (after (.ntNsRead .mgmt) (withFields on5 [(Base.nclk, Reg.Nclk.NT_FRAC, 9)])).nt.frac = 9 := by decide +kernel

/-! ### Temperatures and the sensor front end -/

/-- No sensor takes an action but the core die, 16, which is in the fast round: THR_LIM 120 °C, MARGIN and limits as at reset. -/
def therm : State :=
  let s := (List.range 25).foldl (fun s i => s.setFld Base.thm Reg.Thm.ACT 0 i) on5
  { ((s.setFld Base.thm Reg.Thm.FAST 1 16).setFld Base.thm Reg.Thm.ACT 3 16).setFld Base.thm Reg.Thm.THR_LIM 0x780 16 with
    count := 50000000 }
def dies (v : Int) : List Reading := List.replicate 16 .noCurrent ++ List.replicate 9 (.die v)
theorem witness_FastRound : therm.inDev .off = false ∧ therm.power.por = false ∧
    (∀ j, j < 25 → (therm.bit Base.thm Reg.Thm.FAST j = true ↔ j = 16)) ∧ NoShutLimits therm ∧ (dies 0x781)[16]? = some (.die 0x781) ∧
    therm.thmAct 16 1 = true ∧ therm.thmS Reg.Thm.THR_LIM 16 ≤ 0x781 := by
  unfold NoShutLimits
  decide +kernel
/-- The example of R489: at 120.0625 °C and step 100,000,000 the first pause is set for step 100,131,328. -/
theorem test_fast_round : (after (.fastRound (dies 0x781)) therm).fld Base.thm Reg.Thm.T_APPLY_LO = 100131328 ∧
    (after (.fastRound (dies 0x781)) therm).bit Base.thm Reg.Thm.THR_ACTIVE = true := by decide +kernel
theorem test_fast_round_below : (after (.fastRound (dies 0x77F)) therm).bit Base.thm Reg.Thm.THR_ACTIVE = false := by decide +kernel
def fine : RefInput := ⟨2500000, 10000000, 0⟩
theorem witness_SlowRound : (dies 0).length = 25 ∧ (List.replicate 9 ([] : List Int)).length = 9 ∧ therm.inDev .off = false := by decide +kernel
theorem test_slow_round : (after (.slowRound (dies (-16)) (List.replicate 9 []) fine) therm).fld Base.thm Reg.Thm.TEMP 24 = 0xFFF0 ∧
    (after (.slowRound (dies (-16)) (List.replicate 9 []) fine) therm).bit Base.thm Reg.Thm.OPEN 0 = true := by decide +kernel

/-- Pause 0 of the example is announced at step 100,000,256, that is in count 50,000,128. -/
def throttled (c : Nat) : State := { therm with count := c, therm := { therm.therm with next := some 100131328 } }
theorem witness_Pause : (throttled 50000128).therm.next = some 100131328 ∧ (throttled 50000128).run = true ∧
    100131328 ≤ 2 * (throttled 50000128).count + 1 + 131072 ∧ 2 * (throttled 50000127).count + 1 + 131072 < 100131328 ∧
    (throttled 50000127).edges = [] := by decide +kernel
theorem test_pause : (after .pauseAnnounce (throttled 50000128)).therm.next = some 100164096 ∧
    (after .pauseAnnounce (throttled 50000128)).fld Base.thm Reg.Thm.PAUSE_COUNT = 1 := by decide +kernel
def recording : State := { on5 with therm := { on5.therm with record := some (List.replicate 44 7), seq := 255 } }
theorem witness_ShutdownRecord : recording.therm.record = some (List.replicate 44 7) ∧ mayAccess recording .thm 0 :=
  ⟨by decide, ⟨by decide, by decide⟩⟩
theorem test_shutdown_record : rdByte (after .shutdownRecord recording).therm.ring (255 * 48 + 43) = 7 ∧
    (after .shutdownRecord recording).therm.seq = 256 := by decide +kernel
theorem test_force : (after (.thrForceWrite .mgmt 0x4004_0040) { on5 with count := 50000000 }).therm.next = some 100131328 := by
  decide +kernel
theorem test_sh_data : (after (.shDataRead .mgmt) (withFields { on5 with therm := { on5.therm with ring := wrLE [] 44 4 99 } } [(Base.thm,
    Reg.Thm.SH_WORD, 11)])).respVal = 99 := by decide +kernel

/-- Channel 15 converts in the 1 µA range. -/
def sensing (f : SfeSt → SfeSt) : State :=
  { ((on5.setEnable (Base.sfe 15) true).setFld (Base.sfe 15) Reg.Sfe.MODE 1) with sfes := [(15, f { SfeSt.reset with on := true })] }
def word' : SfeWord := ⟨5, 6, 7, 2, 9, false, true⟩
theorem witness_Sfe : ((sensing id).sfe 15).on = true ∧ ((sensing id).sfe 15).openLive = false ∧ (sensing id).calHolds 2 15 = false ∧
    ((sensing id).sfe 15).exc ≤ 4 ∧ ((sensing fun x => { x with openLive := true }).sfe 15).openLive = true ∧
    mayAccess (sensing id) .sfe 15 ∧ ((sensing fun x => { x with word := some word' }).sfe 15).word = some word' :=
  ⟨by decide, by decide, by decide, by decide, by decide, ⟨by decide, by decide⟩, by decide⟩
/-- 90 % of full scale is 7,549,747.2: beyond it AUTO lowers the range, and the word that spans the change is not produced. -/
theorem test_conversion : ((after (.sfeConversion 15 7549748) (sensing id)).sfe 15).exc = 1 ∧
    ((after (.sfeConversion 15 7549747) (sensing id)).sfe 15).exc = 2 := by decide +kernel
theorem test_conversion_spans : ((after (.sfeConversion 15 5) (sensing fun x => { x with spans := true })).sfe 15).word = none := by
  decide +kernel
theorem test_open_trip : ((after (.sfeOpenTrip 15) (sensing id)).sfe 15).exc = 0 ∧
    (after (.sfeOpenTrip 15) (sensing id)).fld (Base.sfe 15) Reg.Sfe.OPEN_COUNT = 1 := by decide +kernel
theorem test_open_recover : ((after (.sfeOpenRecover 15) (sensing fun x => { x with openLive := true, prevExc := 4, exc := 0 })).sfe
    15).exc = 4 := by decide +kernel
theorem test_req : (after (.sfeReq .mgmt 15) (sensing fun x => { x with word := some word', fresh := true })).reg (Base.sfe 15 + 0x050) =
    0x0007_0229 := by decide +kernel
theorem test_coef : (after (.coefGo .mgmt 15) ((sensing id).setFld (Base.sfe 15) Reg.Sfe.X_SCALE 0)).fld (Base.sfe 15) Reg.Hdr.INFO =
    0x064 := by decide +kernel
theorem test_sfe_enable : ((after (.sfeEnable .mgmt 0) (withFields on5 [(Base.sfe 0, Reg.Sfe.MODE, 2)])).sfe 0).on = true := by decide +kernel
theorem test_sfe_disable : (after (.sfeNormalDisable .mgmt 15) (sensing id)).enabled (Base.sfe 15) = false := by decide +kernel
theorem test_sfe_disable_now : (after (.sfeDisableNow .mgmt 15) (sensing id)).reg (Base.sfe 15 + 0x010) = 0x10 := by decide +kernel

/-! ### Calibration -/

/-- The references are good; ADC[2] (kind 4), and DC bias channel 95 (kind 1), belong to the owner of the calibration page. -/
def cal : State := { withFields on5 [(Base.cal, Reg.Cal.VREF_OK, 1), (Base.cal, Reg.Cal.TONE_OK, 1), (Base.tile 4, Reg.Tile.LOCK, 1)] with
  count := 39999744 }
def word (kind idx : Nat) : Word := BitVec.ofNat 32 (kind * 2 ^ 16 + idx + 2 ^ 20)
theorem witness_Requests : mayAccess cal .cal 0 ∧ (∀ i, 1 ≤ i → i ≤ 6 → ∀ m, m < 3 → ¬ CalCase cal m 4 2 i) ∧ CalCase cal 0 4 16 2 ∧
    CalCase cal 1 2 0 6 ∧ cal.calHolds 4 2 = false ∧ SMap.get (fun _ => 0) cal.cal.stores (calKey 4 2) < 10000 := by
  refine ⟨⟨by decide, by decide⟩, fun i h1 h6 m hm => ?_, by simp only [CalCase]; decide +kernel, by simp only [CalCase]; decide +kernel,
    by decide +kernel, by decide +kernel⟩
  obtain rfl | rfl | rfl | rfl | rfl | rfl : i = 1 ∨ i = 2 ∨ i = 3 ∨ i = 4 ∨ i = 5 ∨ i = 6 := by omega
  all_goals obtain rfl | rfl | rfl : m = 0 ∨ m = 1 ∨ m = 2 := by omega
  all_goals simp only [CalCase]; decide +kernel
theorem test_foreground : (after (.calForeground .mgmt (word 4 2)) cal).cal.job = some ⟨4, 2, 39999744, none⟩ := by decide +kernel
theorem test_foreground_refused : (after (.calForeground .mgmt (word 4 16)) cal).fld Base.cal Reg.Hdr.INFO = 2 := by decide +kernel
theorem test_background : (after (.calBackgroundStart .mgmt (word 4 2)) cal).cal.bg = [4 * 128 + 2] := by decide +kernel
theorem test_background_sfe : (after (.calBackgroundStart .mgmt (word 2 0)) cal).fld Base.cal Reg.Hdr.INFO = 6 := by decide +kernel
theorem test_background_stop : (after (.calBackgroundStop .mgmt (word 4 2)) { cal with cal := { cal.cal with bg := [514, 7] } }).cal.bg =
    [7] := by decide +kernel
theorem test_store : (after (.calStore .mgmt (word 1 95)) { cal with cal := { cal.cal with trims := [((128 + 95) * 64 + 1, (5, 6))] } }).cal.storing =
    [(128 + 95, [0, 5])] := by decide +kernel
theorem test_store_worn : (after (.calStore .mgmt (word 4 2)) { cal with cal := { cal.cal with stores := [(514, 10000)] } }).fld Base.cal
    Reg.Hdr.INFO = 10000 := by decide +kernel
theorem test_restore : (after (.calRestore .mgmt (word 4 2)) { cal with cal := { cal.cal with factory := [(514 * 64 + 50, -7)] } }).trim
    514 50 = (0, -7) := by decide +kernel
/-- A foreground calibration of ADC[2] waits, or holds since count 40,000,000. -/
def calibrating (st : Option Nat) (c : Nat) : State := { cal with count := c, cal := { cal.cal with job := some ⟨4, 2, 39999744, st⟩ } }
theorem witness_Holds : (calibrating none 40000000).cal.job = some ⟨4, 2, 39999744, none⟩ ∧ 2 < calTargets 4 ∧
    ((calibrating none 40000000).run = true ∧ (calibrating none 40000000).count % 256 = 0) ∧ 39999744 + 256 ≤ 40000000 ∧
    40000000 + calTime 4 ≤ (calibrating (some 40000000) 40500224).count ∧ 40500224 % 256 = 0 ∧
    (calibrating (some 40000000) 40500224).calCaused (calKey 4 2) = false ∧
    { calibrating (some 40000000) 5 with cal := { (calibrating (some 40000000) 5).cal with hits := [514] } }.calCaused (calKey 4 2) = true := by
  decide +kernel
theorem test_hold_start : (after .calHoldStart (calibrating none 40000000)).fld (Base.adc 2) Reg.Adc.IN_STATE = 3 := by decide +kernel
/-- A value beyond the 1,023 taps of kind 4 leaves its trim. -/
theorem test_release : (after (.calRelease [1023, 1024]) (calibrating (some 40000000) 40500224)).trim 514 0 = (0, 1023) ∧
    (after (.calRelease [1023, 1024]) (calibrating (some 40000000) 40500224)).fld Base.cal Reg.Hdr.INFO = 4 * 2 ^ 21 + 2 * 2 ^ 14 + 1 := by
  decide +kernel
theorem test_abort : (after (.calAbort .mgmt) (calibrating none 7)).fld Base.cal Reg.Cal.ABORT_COUNT = 1 := by decide +kernel
theorem test_abandon : (after .calAbandon { cal with cal := { cal.cal with bg := [514, 513], hits := [514] } }).cal.bg = [513] := by
  decide +kernel
theorem test_trim_data : (after (.trimDataRead .mgmt) (withFields { cal with cal := { cal.cal with trims := [(514 * 64 + 50, (-1, 2))] } }
    [(Base.cal, Reg.Cal.TRIM_KIND, 4), (Base.cal, Reg.Cal.TRIM_IDX, 2), (Base.cal, Reg.Cal.TRIM_NUM, 50)])).respVal = 0x0002_FFFF := by
  decide +kernel

/-- The example of R515: background of ADC[2]; the pass sets trim 3 six and trim 9 four taps from the values in force. -/
def ripening (a b : Int) (c : Nat) : State :=
  { withFields cal [(Base.cal, Reg.Cal.RIPEN_INT, 1)] with
    count := c, cal := { cal.cal with bg := [514], trims := [(514 * 64 + 3, (0, a)), (514 * 64 + 9, (0, b))] } }
theorem witness_Background : (ripening 0 0 5).cal.bg.contains (calKey 4 2) = true ∧ (ripening 0 0 5).calHolds 4 2 = false ∧
    (ripening 0 0 5).calCaused (calKey 4 2) = false ∧ 20000 < ((20001 : Int) - ((ripening 0 0 5).trim 223 0).1).natAbs := by decide +kernel
theorem test_bg_pass : (after (.calBgPass 4 2 [0, 0, 0, 6, 0, 0, 0, 0, 0, -4]) (ripening 0 0 5)).trim 514 9 = (0, -4) := by decide +kernel
theorem test_bg_departure : ((after (.calBgPass 1 95 [20001]) { ripening 0 0 5 with cal := { cal.cal with bg := [223] } }).flux 95).faultHeld =
    true := by decide +kernel
theorem witness_Ripen : (ripening 6 (-4) 40000256).run = true ∧ 40000256 % 256 = 0 ∧
    40000256 % (256 * (ripening 6 (-4) 40000256).fld Base.cal Reg.Cal.RIPEN_INT) = 0 ∧ (ripening 6 (-4) 40000256).inDev .cellar = false ∧
    (ripening 6 (-4) 40000256).cal.ripeAt ≠ some 40000256 := by decide +kernel
theorem test_ripen : (after .ripenBoundary (ripening 6 (-4) 40000256)).trim 514 3 = (1, 6) ∧
    (after .ripenBoundary (ripening 6 (-4) 40000256)).trim 514 9 = (0, -4) := by decide +kernel
/-- At 4 and 4 the lower number moves, at 3 and 4 the other, towards its value. -/
theorem test_ripen_tie : (after .ripenBoundary (ripening 4 (-4) 40000768)).trim 514 3 = (1, 4) ∧
    (after .ripenBoundary (ripening 3 (-4) 40001024)).trim 514 9 = (-1, -4) := by decide +kernel
def storing : State := { cal with cal := { cal.cal with storing := [(514, [1, 2]), (7, [])] } }
theorem witness_StoreComplete : storing.cal.storing = (514, [1, 2]) :: [(7, [])] := rfl
theorem test_store_complete : (after .calStoreComplete storing).cal.user = [(514, [1, 2])] := by decide +kernel

/-! ### Power states, resets and boot -/

/-- In a state of R521, with a transition under way at count `c`. -/
def moving (st dest : Nat) (framed : Bool) (c : Nat) : State :=
  { inState st with count := c, power := { (inState st).power with trans := some ⟨dest, st, framed⟩ } }
/-- Tile 7 alone is enabled, locked and aligned. -/
def locked (s : State) : State := withFields s [(Base.tl, Reg.Tl.TILE_EN, 0x80), (Base.tile 7, Reg.Tile.LOCK, 1),
  (Base.tile 7, Reg.Tile.ALIGNED, 1)]
theorem witness_Requests' : mayAccess on5 .pwr 0 ∧ on5.power.trans = none ∧ on3.bit Base.tl Reg.Tl.REF_PRESENT = true ∧
    (locked (inState 4)).bit Base.tl Reg.Tl.RUN = true ∧ (locked (inState 4)).bit Base.tl Reg.Tl.ARM = false ∧
    TilesShow (locked (inState 4)) Reg.Tile.ALIGNED ∧ CellarFree on3 ∧
    ¬ CellarFree (on3.modTone 0 fun x => { x with queue := [⟨0, 0, none, 0, 0, 0⟩] }) := by
  unfold TilesShow CellarFree mayAccess
  decide +kernel
theorem test_req_configured : (after (.reqConfigured .mgmt) on5).power.trans = some ⟨3, 5, false⟩ := by decide +kernel
theorem test_req_refused : (after (.reqConfigured .mgmt) on3).fld Base.pwr Reg.Hdr.INFO = 3 ∧
    (after (.reqRunning .mgmt) on3).fld Base.pwr Reg.Hdr.INFO = 5 := by decide +kernel
theorem test_req_ready : (after (.reqReady .mgmt) on5).power.trans = some ⟨4, 5, false⟩ := by decide +kernel
theorem test_req_running : (after (.reqRunning .mgmt) (locked (inState 4))).power.trans = some ⟨5, 4, false⟩ := by decide +kernel
theorem test_req_cellar : (after (.reqCellar .mgmt) on3).power.trans = some ⟨6, 3, false⟩ := by decide +kernel
theorem test_req_cellar_active : (after (.reqCellar .mgmt) (on3.modTone 0 fun x => { x with queue := [⟨0, 0, none, 0, 0, 0⟩] })).fld
    Base.pwr Reg.Hdr.CODE = 0x12 := by decide +kernel
theorem test_wake : (after (.wakeReq .mgmt) (moving 3 6 false 0)).power.trans = none := by decide +kernel
theorem test_d0_wake : (after .pcieD0Wake (inState 6)).power.trans = some ⟨3, 6, false⟩ := by decide +kernel
theorem witness_Transitions : (moving 1 2 false 0).power.trans = some ⟨2, 1, false⟩ ∧ (moving 6 3 false 0).power.trans = some ⟨3, 6, false⟩ ∧
    (moving 5 4 true 512).power.trans = some ⟨4, 5, true⟩ ∧ (moving 5 4 true 512).run = true ∧ (moving 5 4 true 512).count % 256 = 0 ∧
    TilesShow (locked (moving 3 4 false 0)) Reg.Tile.LOCK ∧ TilesShow (locked (moving 4 5 true 512)) Reg.Tile.ALIGNED := by
  unfold TilesShow
  decide +kernel
theorem test_to_configured : (after (.stateTransitionComplete .good) (moving 4 3 false 0)).fld Base.pwr Reg.Pwr.STATE = 3 := by decide +kernel
theorem test_to_running : (after (.stateTransitionComplete .good) (locked (moving 4 5 true 512))).fld Base.pwr Reg.Pwr.STATE = 5 ∧
    (after (.stateTransitionComplete .good) (locked (moving 4 5 true 513))).fld Base.pwr Reg.Pwr.STATE = 4 := by decide +kernel
theorem test_to_cellar : (after (.stateTransitionComplete .good) (moving 3 6 false 0)).fld (Base.dch 3) Reg.Dch.SR_STATE = 2 := by decide +kernel

theorem witness_WarmResets : Settled on5 ∧ ¬ (on5.fld Base.pwr Reg.Pwr.STATE = 0 ∨ on5.fld Base.pwr Reg.Pwr.STATE = 7 ∨
    on5.power.por = true) ∧ reqMgmt .mgmt = true ∧ (inState 0).fld Base.pwr Reg.Pwr.STATE = 0 := by decide +kernel
/-- Bit 0 of RESET_CAUSE stands since power-on. -/
theorem test_watchdog : (after .watchdogExpiry on5).fld Base.pwr Reg.Pwr.RESET_CAUSE = 9 ∧
    (after .watchdogExpiry on5).fld Base.pwr Reg.Pwr.STATE = 1 := by decide +kernel
theorem test_watchdog_off : after .watchdogExpiry (inState 0) = inState 0 := by decide +kernel
theorem test_perst : (after .perstNAssert on5).fld Base.pwr Reg.Pwr.RESET_CAUSE = 5 ∧ (after .perstNAssert on5).power.perst = true := by
  decide +kernel
theorem test_perst_release : (after .perstNRelease { on5 with power := { on5.power with perst := true } }).power.perst = false := by
  decide +kernel
theorem test_warm_reset : (after (.warmReset .mgmt) { on5 with count := 77 }).fld Base.pwr Reg.Pwr.RESET_CAUSE = 3 ∧
    (after (.warmReset .mgmt) { on5 with count := 77 }).count = 77 := by decide +kernel
/-- Bits [5:4] of RESET_CAUSE survive POR_N, not a loss of the always-on rails. -/
def caused (st : Nat) : State := withFields { inState st with count := 77 } [(Base.pwr, Reg.Pwr.RESET_CAUSE, 0x3F)]
theorem test_por : (after .porNAssert (caused 5)).fld Base.pwr Reg.Pwr.RESET_CAUSE = 0x30 ∧ (after .porNAssert (caused 5)).count = 0 := by
  decide +kernel
theorem test_always_on_invalid : (after .alwaysOnInvalid (caused 5)).fld Base.pwr Reg.Pwr.RESET_CAUSE = 0 ∧
    (after .alwaysOnInvalid (caused 5)).fld Base.pwr Reg.Pwr.STATE = 0 := by decide +kernel
theorem test_always_on_valid : (after .alwaysOnValid (inState 0)).fld Base.pwr Reg.Pwr.STATE = 1 := by decide +kernel
def held' : State := { caused 1 with power := { (caused 1).power with por := true } }
theorem witness_PorRelease : held'.fld Base.pwr Reg.Pwr.STATE = 1 ∧ held'.power.por = true := by decide
theorem test_por_release : (after (.porNRelease true [] .good) held').fld Base.pwr Reg.Pwr.RESET_CAUSE = 0x31 ∧
    (after (.porNRelease true [] (.stops 0x12)) held').fld Base.pwr Reg.Pwr.BOOT_ERR = 0x12 := by decide +kernel
theorem test_supply_fault : (after (.supplyFault 6) on5).fld Base.pwr Reg.Pwr.SUPPLY_LIVE = 0x40 := by decide +kernel
theorem test_supply_shutdown_off : after (.supplyShutdown 0) (inState 0) = inState 0 := by decide +kernel
/-- The device boots; the oldest images allowed have the numbers 2 and 1, and key 3 is not revoked. -/
def booting : State := withFields (inState 2) [(Base.sec, Reg.Sec.FW_SVN, 2), (Base.sec, Reg.Sec.MC_SVN, 1), (Base.sec, Reg.Sec.KEY_REVOKE, 7)]
theorem witness_Boot : booting.fld Base.pwr Reg.Pwr.STATE = 2 ∧ booting.fld Base.pwr Reg.Pwr.BOOT_ERR = 0 ∧ booting.refLost = false ∧
    booting.therm.shutLive = false ∧ (booting.fld Base.sec Reg.Sec.KEY_REVOKE).testBit 3 = false ∧
    booting.fld Base.sec Reg.Sec.FW_SVN ≤ 2 ∧ booting.fld Base.sec Reg.Sec.MC_SVN ≤ 1 := by decide +kernel
theorem test_boot : (after (.bootComplete 900 false 7 2 3 5 1 []) booting).fld Base.pwr Reg.Pwr.STATE = 3 ∧
    (after (.bootComplete 900 false 7 2 3 5 1 []) booting).owner Base.mesh = 0x80 := by decide +kernel
theorem test_boot_revoked : after (.bootComplete 900 false 7 2 2 5 1 []) booting = booting := by decide +kernel
def bootStopped : State := withFields (inState 2) [(Base.pwr, Reg.Pwr.BOOT_ERR, 0x21)]
theorem witness_Recover : mayAccess bootStopped .pwr 0 ∧ bootStopped.fld Base.pwr Reg.Pwr.BOOT_ERR ≠ 0 ∧ mayAccess on3 .sec 0 := by
  unfold mayAccess
  decide +kernel
/-- R528: no image stands where FW_ADDR points, so check 1 fails. -/
theorem test_recover : (after (.recover .mgmt .good) bootStopped).fld Base.pwr Reg.Pwr.BOOT_ERR = 2 ∧
    (after (.recover .mgmt .good) bootStopped).power.recovery = false := by decide +kernel
/-- R431, R531: a step of training fails on channel 2 as the device boots. -/
theorem test_training_fails : (after (.stateTransitionComplete (.training 2 6)) (moving 1 2 false 0)).fld Base.pwr Reg.Pwr.BOOT_ERR = 7 ∧
    (after (.stateTransitionComplete (.training 2 6)) (moving 1 2 false 0)).fld (Base.dch 2) Reg.Hdr.INFO = 6 := by decide +kernel
/-- A device that waits for an image finds one of version 7 and one record, for a family. -/
def imageAt (family : Nat) : State :=
  let s := withFields bootStopped [(Base.pwr, Reg.Pwr.FW_LEN, 192)]
  { s with host := wrLE [] 0 28 (0x4657_4931 + 2 ^ 32 + 2 ^ 49 + 7 * 2 ^ 64 + family * 2 ^ 144 + 2 ^ 160) }
/-- R528: an image for another device fails check 2. -/
theorem test_recover_family : (after (.recover .mgmt .good) (imageAt 0x00B1)).fld Base.pwr Reg.Pwr.BOOT_ERR = 3 := by decide +kernel
/-- Slot 0 signed the running image. -/
theorem test_key_revoke : (after (.keyRevokeWrite .mgmt 0xF) on3).fld Base.sec Reg.Sec.KEY_REVOKE = 0xE := by decide +kernel

/-! ### Debug port, TAP and SMBus -/

/-- The debug port at a level, with the user code 0xC0DE; sequencer 255 and lane 63 belong to function 0. -/
def dbg (level : Nat) : State :=
  let s := withFields on5 [(Base.pwr, Reg.Pwr.DBG_LEVEL, level), (Base.seq 255, Reg.Hdr.FN, 0), (Base.lane 63, Reg.Hdr.FN, 0)]
  { s with power := { s.power with code := some 0xC0DE } }
theorem witness_Debug : mayAccess on5 .pwr 0 ∧ DbgAlive (dbg 1) ∧ (dbg 1).fld Base.pwr Reg.Pwr.DBG_FAIL_COUNT < 8 ∧
    (on5.fld Base.sec Reg.Sec.KEY_REVOKE).testBit 3 = false ∧ DbgReaches (dbg 1) (.seq 255) ∧ DbgReaches (dbg 2) (.lane 63) ∧
    (dbg 1).denied (dbg 1).dbgWho (Base.seq 0) = some 1 ∧ (dbg 1).denied (dbg 1).dbgWho (Base.seq 255) = none := by
  unfold mayAccess DbgAlive DbgReaches DbgAlive
  decide +kernel
theorem test_dbg_code : (after (.dbgCodeWrite (.fn 0) 7) { on5 with limits := [(Base.fn 0 + 0x024, 1)] }).power.code = some 7 ∨
    (after (.dbgCodeWrite .mgmt 7) (dbg 0)).power.code = some 0xC0DE := by decide +kernel
theorem test_dbg_lock : (after (.dbgLock .mgmt) (dbg 2)).fld Base.pwr Reg.Pwr.DBG_LEVEL = 0 := by decide +kernel
theorem test_dbg_auth : (after (.dbgAuth (.code 0xC0DE)) (dbg 0)).fld Base.pwr Reg.Pwr.DBG_LEVEL = 1 ∧
    (after (.dbgAuth (.signed 3 0)) ((dbg 1).setFld Base.sec Reg.Sec.KEY_REVOKE 8)).fld Base.pwr Reg.Pwr.DBG_LEVEL = 0 := by
  decide +kernel
theorem test_dbg_auth_fails : (after (.dbgAuth (.code 0)) (dbg 1)).fld Base.pwr Reg.Pwr.DBG_LEVEL = 0 ∧
    (after (.dbgAuth (.code 0)) (dbg 1)).fld Base.pwr Reg.Pwr.DBG_FAIL_COUNT = 1 := by decide +kernel
def porLow : State := { on5 with power := { on5.power with por := true } }
theorem test_extest : (after .extest porLow).power.tap = 0 ∧ (after .extest on5).power.tap = 2 := by decide
theorem test_extest_pulse : (after .extestPulse porLow).power.tap = 8 := by decide
theorem test_extest_train : (after .extestTrain porLow).power.tap = 9 := by decide
theorem test_bypass : (after .bypass on5).power.tap = 0xFF := by decide
theorem test_idcode : (after .idcode on5).respVal = 0x1960_05A9 := by decide
theorem test_preload : (after (.samplePreload 5) on5).power.preload = 5 := by decide
theorem test_poll : (after .dbgAccessPoll (dbg 0)).respVal = 3 := by decide +kernel
theorem witness_DebugAccess : Settled (dbg 1) ∧ 0x0010_FFFC % 4 = 0 ∧ pageBase .seq 255 = Base.seq 255 ∧ 255 < pageCount .seq ∧
    (dbg 1).power.dbgStat < 4 ∧ freeToRead .seq 0x040 = false := by decide +kernel
/-- A page of another owner is refused with status 2, a reserved space too. -/
theorem test_access_read : (after (.dbgAccessRead 0 (BitVec.ofNat 32 (Base.seq 0 + 0x040))) (dbg 1)).power.dbgStat = 2 ∧
    (after (.dbgAccessRead 3 0) (dbg 1)).power.dbgStat = 2 := by decide +kernel
/-- R61: a read that crosses the end of a page is recorded in the page that its first byte lies in. -/
theorem test_access_crosses : (after (.dbgAccessRead 0 (BitVec.ofNat 32 (Base.seq 255 + 0xFFD))) (dbg 1)).fld (Base.seq 255)
    Reg.Hdr.CODE = 4 ∧
    (after (.dbgAccessRead 0 (BitVec.ofNat 32 (Base.seq 255 + 0xFFD))) (dbg 1)).power.dbgStat = 2 := by decide +kernel
theorem test_access_write : (after (.dbgAccessWrite 2 0x0000_3FC8 0xFFFF_FFFF) (dbg 1)).dbg 255 = ⟨0, 0, [0x8000_0FFF, 0, 0, 0], 0⟩ := by
  decide +kernel
def halted : State := ((dbg 1).modSeq 255 fun q => { q with halted := true, issuing := true }).modLane 63 fun x => { x with halted := true }
theorem test_halt : ((after (.debugHalt (.seq 255)) (dbg 1)).seq 255).haltReq = true := by decide +kernel
theorem test_resume : ((after (.debugResume (.lane 63)) halted).lane 63).halted = false := by decide +kernel
theorem test_debug_step : ((after (.debugStep (.seq 255)) halted).seq 255).stepping = true := by decide +kernel
theorem test_reg_data : (after (.regDataWrite (.seq 255) 9) { halted with dbgs := [(255, { DbgSt.reset with regSel := 31 })] }).fld
    (Base.seq 255) Reg.Seq.G 31 = 9 := by decide +kernel
theorem test_reg_data_tp : ((after (.regDataWrite (.seq 255) 9) { halted with dbgs := [(255, { DbgSt.reset with regSel := 37 })] }).seq
    255).tp = 9 * 2 ^ 32 := by decide +kernel
/-- Sequencer 255 stands before program word 7, where breakpoint 1 is set; a halt has been asked for, or not. -/
def before (ask : Bool) : State :=
  let s := ((dbg 1).modSeq 255 fun q => { q with issuing := true, haltReq := ask }).setFld (Base.seq 255) Reg.Seq.PC 7
  { s with dbgs := [(255, { DbgSt.reset with bps := [0, 0x8000_0007, 0x8000_0007, 0] })] }
theorem witness_HaltTaken : ((before true).seq 255).issuing = true ∧ ((before true).seq 255).killReq = false ∧
    ((before true).seq 255).wait = .none ∧ ((before false).seq 255).pass = false ∧
    BreakpointAt (before false) (.seq 255) 7 1 := by
  refine ⟨by decide, by decide, by decide, by decide, by decide, by unfold dbgNum; decide +kernel, fun i h => ?_⟩
  obtain rfl : i = 0 := by omega
  unfold dbgNum; decide +kernel
theorem test_halt_taken : ((after (.debugHaltTaken (.seq 255) 0) (before true)).dbg 255).reason = 1 ∧
    ((after (.debugHaltTaken (.seq 255) 0) (before false)).dbg 255).reason = 3 ∧
    ((after (.debugHaltTaken (.seq 255) 0) (before false)).dbg 255).bpNum = 1 := by decide +kernel
def laneBefore : State := (dbg 1).modLane 63 fun x => { x with issuing := true, stepping := true }
theorem witness_LaneHalt : (laneBefore.lane 63).issuing = true ∧ (laneBefore.lane 63).wait = .none ∧ (laneBefore.lane 63).haltReq = false ∧
    (laneBefore.lane 63).stepping = true := by decide
theorem test_lane_halt : ((after (.debugHaltTaken (.lane 63) 0) laneBefore).dbg (dbgNum (.lane 63))).reason = 2 := by decide +kernel
/-- Sensor 24 has reached its alert limit; the status word shows an alert that IRQ_STAT holds. -/
def hot : State := withFields on5 [(Base.pwr, Reg.Pwr.RESET_CAUSE, 0x21)]
def hot' : State := ((hot.setFld Base.thm Reg.Thm.TEMP 0x7FFF 24).setFld Base.thm Reg.Thm.VALID 1 24)
theorem witness_SmBus : (24 < 25 ∧ hot'.thmActs 24 = true ∧ hot'.thmAct 24 0 = true ∧
    hot'.thmS Reg.Thm.ALM_LIM 24 ≤ hot'.thmS Reg.Thm.TEMP 24) ∧ (inState 7).fld Base.pwr Reg.Pwr.STATE = 7 := by decide +kernel
theorem test_smb : (after (.smbReadWord 24) hot').respVal = 0x7FFF ∧ (after (.smbReadWord 23) hot').respVal = 0x8000 ∧
    (after (.smbReadWord 0x21) hot').respVal = 0x21 := by decide +kernel
theorem test_smb_alert : (after .smbAlertResponse hot').respVal = 0x4C := by decide +kernel

end Sys2Proof.Tests
end

section
/-!
The invariant of the machine: it holds after reset, and every command keeps it. The field frames of the single commands, with
what `finish` leaves of interrupt edges and captures, carry it.
-/
namespace Sys2Proof.Machine

/-- The fields of the state that a command may change, as the bits of a frame: every field but the queue, whose bit is 59. -/
abbrev butQueue : Nat := 2 ^ 59 - 1

/-- Every command leaves the queue alone, keeps the memories canonical, and leaves no interrupt edge and no replaceable capture
where none was: the frame of its row says so. -/
theorem exec_frame (c : Instr) (s : State) : OutFrame butQueue s (exec c s) :=
  match c with
  | .registerWrite who addr ws => (execRegisterWrite_frame who addr ws s).mono rfl
  | .ownerWrite who pg data => (execOwnerWrite_frame who pg data s).mono rfl
  | .budgetWrite who pg data => (execBudgetWrite_frame who pg data s).mono rfl
  | .irqForceWrite who pg data => (execIrqForceWrite_frame who pg data s).mono rfl
  | .errCapClear who pg => (execErrCapClear_frame who pg s).mono rfl
  | .hostAccessRelease f => (execHostAccessRelease_frame f s).mono rfl
  | .frameBoundary phase ctPhase => (execFrameBoundary_frame phase ctPhase s).mono rfl
  | .syncEdge early late => (execSyncEdge_frame early late s).mono rfl
  | .timelineLoad => (execTimelineLoad_frame s).mono rfl
  | .arm who data => (execArm_frame who data s).mono rfl
  | .tlNowRead who => (execTlNowRead_frame who s).mono rfl
  | .snap who => (execSnap_frame who s).mono rfl
  | .tileEnWrite who data => (execTileEnWrite_frame who data s).mono rfl
  | .refclkLost => (execRefclkLost_frame s).mono rfl
  | .refclkReturn => (execRefclkReturn_frame s).mono rfl
  | .tilePllLockLost t => (execTilePllLockLost_frame t s).mono rfl
  | .tileAlignment t delay => (execTileAlignment_frame t delay s).mono rfl
  | .seqNop n h q => (execSeqNop_frame n h q s).mono rfl
  | .seqMovi n h q => (execSeqMovi_frame n h q s).mono rfl
  | .seqAdd n h q => (execSeqAdd_frame n h q s).mono rfl
  | .seqSub n h q => (execSeqSub_frame n h q s).mono rfl
  | .seqAnd n h q => (execSeqAnd_frame n h q s).mono rfl
  | .seqOr n h q => (execSeqOr_frame n h q s).mono rfl
  | .seqXor n h q => (execSeqXor_frame n h q s).mono rfl
  | .seqShl n h q => (execSeqShl_frame n h q s).mono rfl
  | .seqShr n h q => (execSeqShr_frame n h q s).mono rfl
  | .seqJmp n h q => (execSeqJmp_frame n h q s).mono rfl
  | .seqBeq n h q => (execSeqBeq_frame n h q s).mono rfl
  | .seqBne n h q => (execSeqBne_frame n h q s).mono rfl
  | .seqBlt n h q => (execSeqBlt_frame n h q s).mono rfl
  | .seqBge n h q => (execSeqBge_frame n h q s).mono rfl
  | .seqCall n h q => (execSeqCall_frame n h q s).mono rfl
  | .seqRet n h q => (execSeqRet_frame n h q s).mono rfl
  | .seqLcset n h q => (execSeqLcset_frame n h q s).mono rfl
  | .seqDjnz n h q => (execSeqDjnz_frame n h q s).mono rfl
  | .seqTpnow n h q => (execSeqTpnow_frame n h q s).mono rfl
  | .seqTpadd n h q => (execSeqTpadd_frame n h q s).mono rfl
  | .seqTpaln n h q => (execSeqTpaln_frame n h q s).mono rfl
  | .seqTprd n h q => (execSeqTprd_frame n h q s).mono rfl
  | .seqRdnow n h q => (execSeqRdnow_frame n h q s).mono rfl
  | .seqWaitt n h q => (execSeqWaitt_frame n h q s).mono rfl
  | .waittExpiry n h => (execWaittExpiry_frame n h s).mono rfl
  | .seqPost n h q => (execSeqPost_frame n h q s).mono rfl
  | .postQueueEntry n h => (execPostQueueEntry_frame n h s).mono rfl
  | .seqBrd n h q => (execSeqBrd_frame n h q s).mono rfl
  | .brdAccept n h => (execBrdAccept_frame n h s).mono rfl
  | .decTimeout n h => (execDecTimeout_frame n h s).mono rfl
  | .seqLdd n h q => (execSeqLdd_frame n h q s).mono rfl
  | .seqLdf n h q => (execSeqLdf_frame n h q s).mono rfl
  | .seqWaite n h q => (execSeqWaite_frame n h q s).mono rfl
  | .waiteRelease n h => (execWaiteRelease_frame n h s).mono rfl
  | .waiteTimeout n h => (execWaiteTimeout_frame n h s).mono rfl
  | .seqBarw n h q => (execSeqBarw_frame n h q s).mono rfl
  | .barrierRelease n h => (execBarrierRelease_frame n h s).mono rfl
  | .seqShot n h q => (execSeqShot_frame n h q s).mono rfl
  | .seqEnds n h q => (execSeqEnds_frame n h q s).mono rfl
  | .seqRecd n h q => (execSeqRecd_frame n h q s).mono rfl
  | .seqUsrw n h q => (execSeqUsrw_frame n h q s).mono rfl
  | .seqSig n h q => (execSeqSig_frame n h q s).mono rfl
  | .seqStop n h q => (execSeqStop_frame n h q s).mono rfl
  | .resultRecordWrite n => (execResultRecordWrite_frame n s).mono rfl
  | .seqStopped n => (execSeqStopped_frame n s).mono rfl
  | .seqEnable who n => (execSeqEnable_frame who n s).mono rfl
  | .seqNormalDisable who n => (execSeqNormalDisable_frame who n s).mono rfl
  | .seqDisableNow who n => (execSeqDisableNow_frame who n s).mono rfl
  | .seqImmediateDisable n h => (execSeqImmediateDisable_frame n h s).mono rfl
  | .microPartialBoundary n h => (execMicroPartialBoundary_frame n h s).mono rfl
  | .microStepLimit n h => (execMicroStepLimit_frame n h s).mono rfl
  | .handoverGo who n data => (execHandoverGo_frame who n data s).mono rfl
  | .handoverCopy n h => (execHandoverCopy_frame n h s).mono rfl
  | .csRefetchComplete k a good => (execCsRefetchComplete_frame k a good s).mono rfl
  | .verify who => (execVerify_frame who s).mono rfl
  | .verifyComplete dmaErr => (execVerifyComplete_frame dmaErr s).mono rfl
  | .apply who => (execApply_frame who s).mono rfl
  | .applyComplete => (execApplyComplete_frame s).mono rfl
  | .toneStart n bad => (execToneStart_frame n bad s).mono rfl
  | .toneJump n bad => (execToneJump_frame n bad s).mono rfl
  | .toneStop n => (execToneStop_frame n s).mono rfl
  | .toneKill n => (execToneKill_frame n s).mono rfl
  | .toneFdelay n => (execToneFdelay_frame n s).mono rfl
  | .tonePhase n => (execTonePhase_frame n s).mono rfl
  | .toneFrame n => (execToneFrame_frame n s).mono rfl
  | .toneDecisionPoint n bad => (execToneDecisionPoint_frame n bad s).mono rfl
  | .tonePlayBoundary n => (execTonePlayBoundary_frame n s).mono rfl
  | .toneGranuleCheck n bad => (execToneGranuleCheck_frame n bad s).mono rfl
  | .toneStreamRefill n => (execToneStreamRefill_frame n s).mono rfl
  | .toneRefetchComplete n => (execToneRefetchComplete_frame n s).mono rfl
  | .toneEnable who n => (execToneEnable_frame who n s).mono rfl
  | .toneNormalDisable who n => (execToneNormalDisable_frame who n s).mono rfl
  | .toneDisableNow who n => (execToneDisableNow_frame who n s).mono rfl
  | .bar2Write who off bytes => (execBar2Write_frame who off bytes s).mono rfl
  | .partitionWrite who f seg data => (execPartitionWrite_frame who f seg data s).mono rfl
  | .outEnable who k => (execOutEnable_frame who k s).mono rfl
  | .outNormalDisable who k => (execOutNormalDisable_frame who k s).mono rfl
  | .outDisableNow who k => (execOutDisableNow_frame who k s).mono rfl
  | .ncoFreqHiWrite who k data => (execNcoFreqHiWrite_frame who k data s).mono rfl
  | .dacClockMissing k => (execDacClockMissing_frame k s).mono rfl
  | .adcEnable who a => (execAdcEnable_frame who a s).mono rfl
  | .adcNormalDisable who a => (execAdcNormalDisable_frame who a s).mono rfl
  | .adcDisableNow who a => (execAdcDisableNow_frame who a s).mono rfl
  | .adcClockMissing a => (execAdcClockMissing_frame a s).mono rfl
  | .dncoFreqHiWrite who a data => (execDncoFreqHiWrite_frame who a data s).mono rfl
  | .routEnable who n => (execRoutEnable_frame who n s).mono rfl
  | .routNormalDisable who n => (execRoutNormalDisable_frame who n s).mono rfl
  | .routDisabled n => (execRoutDisabled_frame n s).mono rfl
  | .routDisableNow who n => (execRoutDisableNow_frame who n s).mono rfl
  | .swap who n data => (execSwap_frame who n data s).mono rfl
  | .coefficientWrite who n j data => (execCoefficientWrite_frame who n j data s).mono rfl
  | .firRefetchComplete n => (execFirRefetchComplete_frame n s).mono rfl
  | .routOpen n => (execRoutOpen_frame n s).mono rfl
  | .routClose n => (execRoutClose_frame n s).mono rfl
  | .routKernel n => (execRoutKernel_frame n s).mono rfl
  | .windowValue n => (execWindowValue_frame n s).mono rfl
  | .integratorRecompute n ok => (execIntegratorRecompute_frame n ok s).mono rfl
  | .kdataWrite who n data => (execKdataWrite_frame who n data s).mono rfl
  | .kdataRead who n => (execKdataRead_frame who n s).mono rfl
  | .kernelRefetchComplete n => (execKernelRefetchComplete_frame n s).mono rfl
  | .resAccRead who n => (execResAccRead_frame who n s).mono rfl
  | .laneNop n q => (execLaneNop_frame n q s).mono rfl
  | .laneMovi n q => (execLaneMovi_frame n q s).mono rfl
  | .laneMovh n q => (execLaneMovh_frame n q s).mono rfl
  | .laneAdd n q => (execLaneAdd_frame n q s).mono rfl
  | .laneAddi n q => (execLaneAddi_frame n q s).mono rfl
  | .laneSub n q => (execLaneSub_frame n q s).mono rfl
  | .laneAnd n q => (execLaneAnd_frame n q s).mono rfl
  | .laneOr n q => (execLaneOr_frame n q s).mono rfl
  | .laneXor n q => (execLaneXor_frame n q s).mono rfl
  | .laneShli n q => (execLaneShli_frame n q s).mono rfl
  | .laneShri n q => (execLaneShri_frame n q s).mono rfl
  | .laneSari n q => (execLaneSari_frame n q s).mono rfl
  | .laneMul n q => (execLaneMul_frame n q s).mono rfl
  | .laneLd n q => (execLaneLd_frame n q s).mono rfl
  | .laneSt n q => (execLaneSt_frame n q s).mono rfl
  | .laneLd2 n q => (execLaneLd2_frame n q s).mono rfl
  | .laneSt2 n q => (execLaneSt2_frame n q s).mono rfl
  | .laneAmovi n q => (execLaneAmovi_frame n q s).mono rfl
  | .laneAadd n q => (execLaneAadd_frame n q s).mono rfl
  | .laneAmov n q => (execLaneAmov_frame n q s).mono rfl
  | .laneHset n q => (execLaneHset_frame n q s).mono rfl
  | .laneCmac n q => (execLaneCmac_frame n q s).mono rfl
  | .laneCmul n q => (execLaneCmul_frame n q s).mono rfl
  | .laneQmac n q => (execLaneQmac_frame n q s).mono rfl
  | .laneQmul n q => (execLaneQmul_frame n q s).mono rfl
  | .laneCmld n q => (execLaneCmld_frame n q s).mono rfl
  | .laneAclr n q => (execLaneAclr_frame n q s).mono rfl
  | .laneMova n q => (execLaneMova_frame n q s).mono rfl
  | .lanePack n q => (execLanePack_frame n q s).mono rfl
  | .laneNorm n q => (execLaneNorm_frame n q s).mono rfl
  | .laneExp n q => (execLaneExp_frame n q s).mono rfl
  | .laneExpd n q => (execLaneExpd_frame n q s).mono rfl
  | .laneAset n q => (execLaneAset_frame n q s).mono rfl
  | .laneClov n q => (execLaneClov_frame n q s).mono rfl
  | .laneJmp n q => (execLaneJmp_frame n q s).mono rfl
  | .laneBeqz n q => (execLaneBeqz_frame n q s).mono rfl
  | .laneBnez n q => (execLaneBnez_frame n q s).mono rfl
  | .laneBltz n q => (execLaneBltz_frame n q s).mono rfl
  | .laneBgez n q => (execLaneBgez_frame n q s).mono rfl
  | .laneDbnz n q => (execLaneDbnz_frame n q s).mono rfl
  | .laneCall n q => (execLaneCall_frame n q s).mono rfl
  | .laneRet n q => (execLaneRet_frame n q s).mono rfl
  | .laneRpt n q => (execLaneRpt_frame n q s).mono rfl
  | .laneWaiti n q => (execLaneWaiti_frame n q s).mono rfl
  | .waitiRelease n => (execWaitiRelease_frame n s).mono rfl
  | .laneTake n q => (execLaneTake_frame n q s).mono rfl
  | .laneStmp n q => (execLaneStmp_frame n q s).mono rfl
  | .laneDec n q => (execLaneDec_frame n q s).mono rfl
  | .laneOutw n q => (execLaneOutw_frame n q s).mono rfl
  | .laneEvt n q => (execLaneEvt_frame n q s).mono rfl
  | .laneHalt n q => (execLaneHalt_frame n q s).mono rfl
  | .laneInputUnit n c => (execLaneInputUnit_frame n c s).mono rfl
  | .laneRecompute n ok => (execLaneRecompute_frame n ok s).mono rfl
  | .laneImemRefetchComplete n => (execLaneImemRefetchComplete_frame n s).mono rfl
  | .laneEnable who n => (execLaneEnable_frame who n s).mono rfl
  | .laneNormalDisable who n => (execLaneNormalDisable_frame who n s).mono rfl
  | .laneDisableNow who n => (execLaneDisableNow_frame who n s).mono rfl
  | .roundStart => (execRoundStart_frame s).mono rfl
  | .roundDeadline => (execRoundDeadline_frame s).mono rfl
  | .ctEntryReturn j bad => (execCtEntryReturn_frame j bad s).mono rfl
  | .roundCommit => (execRoundCommit_frame s).mono rfl
  | .ctRefetchComplete e => (execCtRefetchComplete_frame e s).mono rfl
  | .frameXor who data => (execFrameXor_frame who data s).mono rfl
  | .frameClr who => (execFrameClr_frame who s).mono rfl
  | .cmapDataAccess who w => (execCmapDataAccess_frame who w s).mono rfl
  | .syndromeEnable who => (execSyndromeEnable_frame who s).mono rfl
  | .syndromeNormalDisable who => (execSyndromeNormalDisable_frame who s).mono rfl
  | .syndromeDisableNow who => (execSyndromeDisableNow_frame who s).mono rfl
  | .jencyFlitLaunch p => (execJencyFlitLaunch_frame p s).mono rfl
  | .jencyFlitDelivery p b0 b1 b2 b3 time => (execJencyFlitDelivery_frame p b0 b1 b2 b3 time s).mono rfl
  | .flitLost p => (execFlitLost_frame p s).mono rfl
  | .portTrainingStart p => (execPortTrainingStart_frame p s).mono rfl
  | .portLinked p r => (execPortLinked_frame p r s).mono rfl
  | .trainRetry p => (execTrainRetry_frame p s).mono rfl
  | .rennetAction g fire => (execRennetAction_frame g fire s).mono rfl
  | .btxGo who p data => (execBtxGo_frame who p data s).mono rfl
  | .bulkChunkRelease p => (execBulkChunkRelease_frame p s).mono rfl
  | .brxValidClear who p => (execBrxValidClear_frame who p s).mono rfl
  | .jportNormalDisable who p => (execJportNormalDisable_frame who p s).mono rfl
  | .jportDisableNow who p => (execJportDisableNow_frame who p s).mono rfl
  | .announce who data => (execAnnounce_frame who data s).mono rfl
  | .membershipArm r => (execMembershipArm_frame r s).mono rfl
  | .epochBoundary agree => (execEpochBoundary_frame agree s).mono rfl
  | .portEnWrite who data => (execPortEnWrite_frame who data s).mono rfl
  | .portKill who data => (execPortKill_frame who data s).mono rfl
  | .acqArm n => (execAcqArm_frame n s).mono rfl
  | .armNow who n => (execArmNow_frame who n s).mono rfl
  | .acqFire n => (execAcqFire_frame n s).mono rfl
  | .fireNow who n => (execFireNow_frame who n s).mono rfl
  | .acqStop n => (execAcqStop_frame n s).mono rfl
  | .acqTrigger n => (execAcqTrigger_frame n s).mono rfl
  | .spillDrain n => (execSpillDrain_frame n s).mono rfl
  | .captureComplete n badAt badWords => (execCaptureComplete_frame n badAt badWords s).mono rfl
  | .curdRead who off bad => (execCurdRead_frame who off bad s).mono rfl
  | .acqEnable who n => (execAcqEnable_frame who n s).mono rfl
  | .acqNormalDisable who n => (execAcqNormalDisable_frame who n s).mono rfl
  | .acqDisableNow who n => (execAcqDisableNow_frame who n s).mono rfl
  | .fluxPlay n bad => (execFluxPlay_frame n bad s).mono rfl
  | .fluxSet n => (execFluxSet_frame n s).mono rfl
  | .fluxStop n => (execFluxStop_frame n s).mono rfl
  | .fluxKill n => (execFluxKill_frame n s).mono rfl
  | .fluxPlayBoundary n bad => (execFluxPlayBoundary_frame n bad s).mono rfl
  | .fluxEnable who n => (execFluxEnable_frame who n s).mono rfl
  | .fluxNormalDisable who n => (execFluxNormalDisable_frame who n s).mono rfl
  | .fluxDisableNow who n => (execFluxDisableNow_frame who n s).mono rfl
  | .fluxRefetchComplete n => (execFluxRefetchComplete_frame n s).mono rfl
  | .biasEdge n => (execBiasEdge_frame n s).mono rfl
  | .biasRefill n => (execBiasRefill_frame n s).mono rfl
  | .rangeChangeComplete n => (execRangeChangeComplete_frame n s).mono rfl
  | .dGo who n data => (execDGo_frame who n data s).mono rfl
  | .dcDirectApply n => (execDcDirectApply_frame n s).mono rfl
  | .compliance n => (execCompliance_frame n s).mono rfl
  | .openDetect n => (execOpenDetect_frame n s).mono rfl
  | .faultClr who n => (execFaultClr_frame who n s).mono rfl
  | .monitorMeasure n v cur => (execMonitorMeasure_frame n v cur s).mono rfl
  | .dcPowerUp n good => (execDcPowerUp_frame n good s).mono rfl
  | .fluxNvmStore who n => (execFluxNvmStore_frame who n s).mono rfl
  | .fluxNvmStoreComplete n => (execFluxNvmStoreComplete_frame n s).mono rfl
  | .linkDownReset => (execLinkDownReset_frame s).mono rfl
  | .flrInitiate f => (execFlrInitiate_frame f s).mono rfl
  | .flrSequencerDeadline f => (execFlrSequencerDeadline_frame f s).mono rfl
  | .flrRingsDisable f => (execFlrRingsDisable_frame f s).mono rfl
  | .flrComplete f ari vfs => (execFlrComplete_frame f ari vfs s).mono rfl
  | .dbProd f single data => (execDbProd_frame f single data s).mono rfl
  | .dbCons f single data => (execDbCons_frame f single data s).mono rfl
  | .moverTransfer r cnt => (execMoverTransfer_frame r cnt s).mono rfl
  | .moverDmaError r => (execMoverDmaError_frame r s).mono rfl
  | .ringEnable who f data => (execRingEnable_frame who f data s).mono rfl
  | .ringDisable who f data => (execRingDisable_frame who f data s).mono rfl
  | .ringStopped r => (execRingStopped_frame r s).mono rfl
  | .ringSelWrite who f data => (execRingSelWrite_frame who f data s).mono rfl
  | .quotaWrite who f data => (execQuotaWrite_frame who f data s).mono rfl
  | .jobTake r => (execJobTake_frame r s).mono rfl
  | .jobLoad r dmaErr => (execJobLoad_frame r dmaErr s).mono rfl
  | .jobStart r => (execJobStart_frame r s).mono rfl
  | .jobStartStep r => (execJobStartStep_frame r s).mono rfl
  | .jobStop r => (execJobStop_frame r s).mono rfl
  | .jobFence r => (execJobFence_frame r s).mono rfl
  | .jobComplete r => (execJobComplete_frame r s).mono rfl
  | .msixCoalescedMessage f v => (execMsixCoalescedMessage_frame f v s).mono rfl
  | .msixHeldRelease f v => (execMsixHeldRelease_frame f v s).mono rfl
  | .dramCommandIssue c v => (execDramCommandIssue_frame c v s).mono rfl
  | .dramReadComplete c back parity => (execDramReadComplete_frame c back parity s).mono rfl
  | .dramRereadComplete c back => (execDramRereadComplete_frame c back s).mono rfl
  | .refresh c rank bank v => (execRefresh_frame c rank bank v s).mono rfl
  | .mr4OscRead c mr4a mr4b dqi dqo v => (execMr4OscRead_frame c mr4a mr4b dqi dqo v s).mono rfl
  | .mcUnfreeze who => (execMcUnfreeze_frame who s).mono rfl
  | .unfreezeComplete step => (execUnfreezeComplete_frame step s).mono rfl
  | .frzValidClear who => (execFrzValidClear_frame who s).mono rfl
  | .nvStore who => (execNvStore_frame who s).mono rfl
  | .nvStoreComplete => (execNvStoreComplete_frame s).mono rfl
  | .regionWrite who ring data => (execRegionWrite_frame who ring data s).mono rfl
  | .eventFire who g data => (execEventFire_frame who g data s).mono rfl
  | .firingComplete k => (execFiringComplete_frame k s).mono rfl
  | .chEnWrite who k data => (execChEnWrite_frame who k data s).mono rfl
  | .eventGroupEnable who g => (execEventGroupEnable_frame who g s).mono rfl
  | .eventGroupNormalDisable who g => (execEventGroupNormalDisable_frame who g s).mono rfl
  | .eventGroupDisableNow who g => (execEventGroupDisableNow_frame who g s).mono rfl
  | .evchPublish k => (execEvchPublish_frame k s).mono rfl
  | .rtDataAccess who w => (execRtDataAccess_frame who w s).mono rfl
  | .ethFrameRx p bytes fcs ts => (execEthFrameRx_frame p bytes fcs ts s).mono rfl
  | .ethForwardEgress p ts => (execEthForwardEgress_frame p ts s).mono rfl
  | .txGo who p data => (execTxGo_frame who p data s).mono rfl
  | .txDone p ts => (execTxDone_frame p ts s).mono rfl
  | .ethLinkUp p => (execEthLinkUp_frame p s).mono rfl
  | .ethLinkLost p => (execEthLinkLost_frame p s).mono rfl
  | .ethEnable who p => (execEthEnable_frame who p s).mono rfl
  | .ethNormalDisable who p => (execEthNormalDisable_frame who p s).mono rfl
  | .ethDisableNow who p => (execEthDisableNow_frame who p s).mono rfl
  | .ntIncNsWrite who data => (execNtIncNsWrite_frame who data s).mono rfl
  | .stepGo who => (execStepGo_frame who s).mono rfl
  | .ntWrap => (execNtWrap_frame s).mono rfl
  | .ntNsRead who => (execNtNsRead_frame who s).mono rfl
  | .slowRound rs sup ref => (execSlowRound_frame rs sup ref s).mono rfl
  | .fastRound rs => (execFastRound_frame rs s).mono rfl
  | .thrForceWrite who data => (execThrForceWrite_frame who data s).mono rfl
  | .pauseAnnounce => (execPauseAnnounce_frame s).mono rfl
  | .shutdownRecord => (execShutdownRecord_frame s).mono rfl
  | .shDataRead who => (execShDataRead_frame who s).mono rfl
  | .sfeConversion k v => (execSfeConversion_frame k v s).mono rfl
  | .sfeOpenTrip k => (execSfeOpenTrip_frame k s).mono rfl
  | .sfeOpenRecover k => (execSfeOpenRecover_frame k s).mono rfl
  | .sfeReq who k => (execSfeReq_frame who k s).mono rfl
  | .coefGo who k => (execCoefGo_frame who k s).mono rfl
  | .sfeEnable who k => (execSfeEnable_frame who k s).mono rfl
  | .sfeNormalDisable who k => (execSfeNormalDisable_frame who k s).mono rfl
  | .sfeDisableNow who k => (execSfeDisableNow_frame who k s).mono rfl
  | .calForeground who data => (execCalForeground_frame who data s).mono rfl
  | .calBackgroundStart who data => (execCalBackgroundStart_frame who data s).mono rfl
  | .calBackgroundStop who data => (execCalBackgroundStop_frame who data s).mono rfl
  | .calHoldStart => (execCalHoldStart_frame s).mono rfl
  | .calRelease vals => (execCalRelease_frame vals s).mono rfl
  | .calAbort who => (execCalAbort_frame who s).mono rfl
  | .calAbandon => (execCalAbandon_frame s).mono rfl
  | .calBgPass kind idx vals => (execCalBgPass_frame kind idx vals s).mono rfl
  | .ripenBoundary => (execRipenBoundary_frame s).mono rfl
  | .calStore who data => (execCalStore_frame who data s).mono rfl
  | .calStoreComplete => (execCalStoreComplete_frame s).mono rfl
  | .calRestore who data => (execCalRestore_frame who data s).mono rfl
  | .trimDataRead who => (execTrimDataRead_frame who s).mono rfl
  | .reqConfigured who => (execReqConfigured_frame who s).mono rfl
  | .reqReady who => (execReqReady_frame who s).mono rfl
  | .reqRunning who => (execReqRunning_frame who s).mono rfl
  | .reqCellar who => (execReqCellar_frame who s).mono rfl
  | .stateTransitionComplete boot => (execStateTransitionComplete_frame boot s).mono rfl
  | .wakeReq who => (execWakeReq_frame who s).mono rfl
  | .pcieD0Wake => (execPcieD0Wake_frame s).mono rfl
  | .alwaysOnValid => (execAlwaysOnValid_frame s).mono rfl
  | .alwaysOnInvalid => (execAlwaysOnInvalid_frame s).mono rfl
  | .porNAssert => (execPorNAssert_frame s).mono rfl
  | .porNRelease dramOk badTrims boot => (execPorNRelease_frame dramOk badTrims boot s).mono rfl
  | .warmReset who => (execWarmReset_frame who s).mono rfl
  | .watchdogExpiry => (execWatchdogExpiry_frame s).mono rfl
  | .perstNAssert => (execPerstNAssert_frame s).mono rfl
  | .perstNRelease => (execPerstNRelease_frame s).mono rfl
  | .supplyFault d => (execSupplyFault_frame d s).mono rfl
  | .supplyShutdown d => (execSupplyShutdown_frame d s).mono rfl
  | .bootComplete ms copyB fwVersion fwSvn slot mcVersion mcSvn base => (execBootComplete_frame ms copyB fwVersion fwSvn slot mcVersion mcSvn base s).mono rfl
  | .recover who boot => (execRecover_frame who boot s).mono rfl
  | .keyRevokeWrite who data => (execKeyRevokeWrite_frame who data s).mono rfl
  | .dbgCodeWrite who data => (execDbgCodeWrite_frame who data s).mono rfl
  | .dbgAuth a => (execDbgAuth_frame a s).mono rfl
  | .dbgLock who => (execDbgLock_frame who s).mono rfl
  | .dbgAccessRead space addr => (execDbgAccessRead_frame space addr s).mono rfl
  | .dbgAccessWrite space addr data => (execDbgAccessWrite_frame space addr data s).mono rfl
  | .dbgAccessPoll => (execDbgAccessPoll_frame s).mono rfl
  | .extest => (execExtest_frame s).mono rfl
  | .samplePreload bits => (execSamplePreload_frame bits s).mono rfl
  | .idcode => (execIdcode_frame s).mono rfl
  | .extestPulse => (execExtestPulse_frame s).mono rfl
  | .extestTrain => (execExtestTrain_frame s).mono rfl
  | .bypass => (execBypass_frame s).mono rfl
  | .debugHalt t => (execDebugHalt_frame t s).mono rfl
  | .debugHaltTaken t h => (execDebugHaltTaken_frame t h s).mono rfl
  | .debugResume t => (execDebugResume_frame t s).mono rfl
  | .debugStep t => (execDebugStep_frame t s).mono rfl
  | .regDataWrite t data => (execRegDataWrite_frame t data s).mono rfl
  | .smbReadWord cmd => (execSmbReadWord_frame cmd s).mono rfl
  | .smbAlertResponse => (execSmbAlertResponse_frame s).mono rfl
  | .refclkPeriod adc faults => (execRefclkPeriod_frame adc faults s).mono rfl
  | .programRefetchComplete n => (execProgramRefetchComplete_frame n s).mono rfl
  | .complianceClear n => (execComplianceClear_frame n s).mono rfl

/-- What a command answers meets the invariant where the state it ran on did. -/
theorem OutFrame.keepsInvariant {w : Nat} {s t : State} {o : Out} (h : OutFrame w s o) (ht : o = .next t)
    (hs : s.canonical ∧ Settled s) : t.canonical ∧ Settled t := by
  obtain ⟨hcanon, hedges, herr⟩ := hs
  exact ⟨(h.frame t ht).canon hcanon, h.quiet t ht hedges, h.clean t ht herr⟩

/-- An empty memory is in canonical form. -/
theorem Memory.wf_nil : Memory.wf [] = true := rfl

/-- Settles O3: on an empty queue the device idles; otherwise the command at the front runs, and the frame of its row carries
the invariant. Taking it off the queue touches no memory, edge or capture. -/
theorem stepKeepsInvariant : Obligations.StepKeepsInvariant := by
  unfold Obligations.StepKeepsInvariant
  intro s t hs hstep
  unfold step at hstep
  split at hstep
  · cases hstep
    exact hs
  · next c cs _ => exact (exec_frame c { s with pending := cs }).keepsInvariant hstep hs

/-- Settles O4: after reset every memory is empty, and no edge and no capture is listed. -/
theorem invariantAtReset : Obligations.InvariantAtReset :=
  ⟨⟨Memory.wf_nil, Memory.wf_nil, Memory.wf_nil, Memory.wf_nil⟩, rfl, rfl⟩

end Sys2Proof.Machine
end

section
/-!
What an access that is made at once leaves behind when its interrupt edges have been settled: one register written, or one error
captured; and the registers that interrupt delivery may write.
-/
namespace Sys2Proof.Machine

/-! ### Registers that interrupt delivery writes -/

theorem irqWrites_iff {a : Nat} : irqWrites a ↔ evPage a = true := evPage_iff.symm

theorem State.settle_reg_keep (s : State) {a : Nat} (h : ¬ irqWrites a) : s.settle.reg a = s.reg a :=
  s.settle_reg (by rwa [irqWrites_iff, Bool.not_eq_true] at h)

/-- The words of one page are all written by interrupt delivery, or none is. -/
theorem irqWrites_page {t : PageType} {n off : Nat} (h : off < 0x1000) :
    irqWrites (pageBase t n + off) ↔ irqWrites (pageBase t n) := by
  have := pageBase_mod t n
  unfold irqWrites
  omega

/-- What delivery may change is among what `OnlyRegs` lets change. -/
theorem Delivers.onlyRegs {s t : State} (h : Delivers s t) : OnlyRegs s t := by
  unfold OnlyRegs
  rw [h.rest]

theorem onlyRegs_trans {s t u : State} (h : OnlyRegs s t) (k : OnlyRegs t u) : OnlyRegs s u := by
  unfold OnlyRegs at *
  rw [k, h]

/-- The fields that `OnlyRegs` lets change, as the bits of a frame. -/
abbrev onlyRegsBits : Nat := 108086391729455232

theorem onlyRegs_of_frame {s t : State} (h : Frame onlyRegsBits s t) : OnlyRegs s t := h.eq

/-! ### Settling without edges -/

theorem State.reg_settle_quiet {s : State} (h : s.edges = []) (a : Nat) : s.settle.reg a = s.reg a := by
  rw [settle_newCycle h]; rfl

theorem State.fld_settle_quiet {s : State} (h : s.edges = []) (b : Nat) (q : Row) (i : Nat) :
    s.settle.fld b q i = s.fld b q i := by
  rw [settle_newCycle h]; rfl

/-- The charge of an access leaves a settled state settled. -/
theorem charged_settled {s r : State} {who : Req} (hq : Settled s) (h : s.charged who = some r) : Settled r :=
  ⟨by rw [charged_edges h]; exact hq.1, by rw [charged_rest h]⟩

theorem charged_used {s r : State} {who : Req} (hq : Settled s) (h : s.charged who = some r) : r = { s with used := r.used } := by
  have e := charged_rest h
  rw [← hq.2] at e
  exact e

theorem charged_settle {s r : State} {who : Req} (hq : Settled s) (h : s.charged who = some r) : r.settle = r :=
  settle_quiet (charged_settled hq h).1 (charged_settled hq h).2

/-- One register of a settled state written. -/
theorem settle_setReg {s : State} (h : Settled s) (a : Nat) (w : Word) : (s.setReg a w).settle = s.setReg a w :=
  settle_quiet h.1 h.2

/-- One error captured in a settled state: ERR_CAP of the page changes and nothing else. -/
theorem settle_err {s : State} (h : Settled s) (b code info : Nat) :
    ∃ w, (s.err b code info).settle = s.setReg (b + 0x01C) w := by
  obtain ⟨w, es, e⟩ := s.err_eq b code info
  have he : (s.err b code info).edges = [] := by rw [err_edges]; exact h.1
  refine ⟨w, ?_⟩
  rw [settle_newCycle he, e]
  show { s.setReg (b + 0x01C) w with errNow := [] } = _
  rw [← h.2]; rfl

/-- Only registers outside a list are written after a charge: what is left to say of the state. -/
theorem charged_setReg_only {s r : State} {who : Req} (hq : Settled s) (hc : s.charged who = some r) (a : Nat) (w : Word) :
    r.setReg a w = { s with regs := (r.setReg a w).regs, used := r.used } := by
  have e := charged_setReg hc a w
  rw [← hq.2] at e
  exact e

theorem charged_setReg_reg {s r : State} {who : Req} (hc : s.charged who = some r) {a c : Nat} (w : Word) (h : c ≠ a) :
    (r.setReg a w).reg c = s.reg c := by
  rw [State.reg_setReg_ne _ _ h, charged_reg hc]

/-- What a refused access leaves after its charge: the capture, where none was held, and nothing else. -/
theorem charged_err {s r : State} {who : Req} (hq : Settled s) (hc : s.charged who = some r) (b code info : Nat) :
    (∀ a, a ≠ b + 0x01C → (r.err b code info).settle.reg a = s.reg a) ∧
      (r.err b code info).settle = { s with regs := (r.err b code info).settle.regs, used := r.used } ∧
      (s.bit b Reg.Hdr.VALID = false →
        (r.err b code info).settle.fld b Reg.Hdr.CODE = code % 64 ∧
          (r.err b code info).settle.fld b Reg.Hdr.INFO = info % 2 ^ 24 ∧
          (r.err b code info).settle.bit b Reg.Hdr.VALID = true) := by
  have he : (r.err b code info).edges = [] := by rw [err_edges]; exact (charged_settled hq hc).1
  refine ⟨fun a ha => ?_, ?_, fun hv => ?_⟩
  · rw [State.reg_settle_quiet he, State.reg_err_ne _ ha, charged_reg hc]
  · obtain ⟨w, e⟩ := settle_err (charged_settled hq hc) b code info
    rw [e]
    exact charged_setReg_only hq hc _ _
  · have hv' : r.bit b Reg.Hdr.VALID = false := by
      unfold State.bit at hv ⊢; rw [charged_fld hc]; exact hv
    simp only [State.bit, State.fld_settle_quiet he]
    exact State.err_captures r hv'

/-! ### Fields of one page -/

theorem State.fld_raise_page (s : State) {b i j : Nat} {q : Row} (h : q.off + q.stride * j ≠ 0x010) :
    (s.raise b i).fld b q j = s.fld b q j :=
  s.fld_raise_ne (by omega)

theorem State.fld_err_page (s : State) {b k d j : Nat} {q : Row} (h : q.off + q.stride * j ≠ 0x01C) :
    (s.err b k d).fld b q j = s.fld b q j :=
  s.fld_err_ne (by omega)

theorem State.fld_setFld_page (s : State) {b i j v : Nat} {r q : Row} (h : q.off + q.stride * j ≠ r.off + r.stride * i) :
    (s.setFld b r v i).fld b q j = s.fld b q j :=
  s.fld_setFld_ne (by omega)

/-! ### Accesses of one whole word -/

/-- A write of one whole word that is made at once reaches its page. -/
theorem busPut_charged {s r : State} {who : Req} {t : PageType} {n off : Nat} (h : s.charged who = some r)
    (hs : r.shows who (some t) = true) (hn : n < pageCount t) (ho : off < 0x1000) (h4 : off % 4 = 0) (w : Word) :
    s.busPut who (pageBase t n + off) w = r.pageWrite who t n off 0xFFFF_FFFF#32 w := by
  have := pageBase_mod t n
  unfold State.busPut
  rw [busWrite_charged h hn ho h4, beMask_whole.symm]
  unfold State.wordWrite
  rw [pageOf_page hn ho]
  simp only [hs, if_true]
  rw [show (pageBase t n + off) % 0x1000 / 4 * 4 = off by omega]

/-- A granted write of one whole word reaches its page. -/
theorem busPut_granted {s r : State} {who : Req} {t : PageType} {n off : Nat} (h : s.granted who t n = some r)
    (hn : n < pageCount t) (ho : off < 0x1000) (h4 : off % 4 = 0) (w : Word) :
    s.busPut who (pageBase t n + off) w = r.pageWrite who t n off 0xFFFF_FFFF#32 w :=
  busPut_charged (granted_charged h).1 (granted_charged h).2.1 hn ho h4 w

end Sys2Proof.Machine
end

section
/-!
Obligation O6: what writes of the header registers OWNER, BUDGET, IRQ_FORCE and ERR_CAP do.
-/
namespace Sys2Proof.Machine

/-! ### Fields of a merged word -/

theorem Row.testBit_get (r : Row) (w : Word) (i : Nat) :
    (r.get w).testBit i = (decide (i < r.width) && w.getLsbD (r.lo + i)) := by
  simp only [Row.get, Nat.testBit_mod_two_pow, Nat.testBit_shiftRight, BitVec.testBit_toNat]

theorem getLsbD_mergeWord (old new mask : Word) (i : Nat) :
    (mergeWord old new mask).getLsbD i = if mask.getLsbD i then new.getLsbD i else old.getLsbD i := by
  by_cases h : i < 32
  · simp only [mergeWord, BitVec.getLsbD_or, BitVec.getLsbD_and, BitVec.getLsbD_not, h]
    cases mask.getLsbD i <;> simp
  · simp [show 32 ≤ i by omega]

/-- A bit of a field is set in the field's mask. -/
theorem Row.mask_bit {r : Row} (h : r.fits) {i : Nat} (hi : i < r.width) : r.mask.getLsbD (r.lo + i) = true := by
  obtain ⟨h1, h2⟩ := h
  have : r.lo + i < 32 := by unfold Row.width at hi; omega
  simp [Row.getLsbD_mask, this, hi]

/-- A field that a write takes in reads as written. -/
theorem Row.get_mergeWord {r : Row} (h : r.fits) {mask : Word} (hm : r.mask &&& mask = r.mask) (old new : Word) :
    r.get (mergeWord old new mask) = r.get new := by
  apply Nat.eq_of_testBit_eq
  intro i
  rw [Row.testBit_get, Row.testBit_get]
  by_cases hi : i < r.width
  · have hb := Row.mask_bit h hi
    rw [← hm, BitVec.getLsbD_and, Bool.and_eq_true] at hb
    rw [getLsbD_mergeWord, if_pos hb.2]
  · simp [hi]

/-- A field that a write leaves out reads as before. -/
theorem Row.get_mergeWord_out {r : Row} (h : r.fits) {mask : Word} (hm : r.mask &&& mask = 0#32) (old new : Word) :
    r.get (mergeWord old new mask) = r.get old := by
  apply Nat.eq_of_testBit_eq
  intro i
  rw [Row.testBit_get, Row.testBit_get]
  by_cases hi : i < r.width
  · have hb : (r.mask &&& mask).getLsbD (r.lo + i) = false := by rw [hm]; exact BitVec.getLsbD_zero
    rw [BitVec.getLsbD_and, Row.mask_bit h hi, Bool.true_and] at hb
    rw [getLsbD_mergeWord, hb, if_neg Bool.false_ne_true]
  · simp [hi]

/-- Setting a field to what it is in another word is merging it in. -/
theorem Row.set_get (r : Row) (old new : Word) : r.set old (r.get new) = mergeWord old new r.mask := by
  have : BitVec.ofNat 32 (r.get new <<< r.lo) &&& r.mask = new &&& r.mask := by
    apply BitVec.eq_of_getLsbD_eq
    intro i hi
    rw [BitVec.getLsbD_and, BitVec.getLsbD_and, BitVec.getLsbD_ofNat, Nat.testBit_shiftLeft, Row.testBit_get, Row.getLsbD_mask]
    by_cases hlo : r.lo ≤ i
    · rw [show r.lo + (i - r.lo) = i by omega]
      simp only [hi, hlo, decide_true, Bool.true_and, Bool.and_true]
      cases decide (i - r.lo < r.width) <;> simp
    · simp [hlo]
  unfold Row.set mergeWord
  rw [this]

/-- A field of one bit reads as that bit. -/
theorem Row.get_bit {r : Row} (h : r.lo = r.hi) (w : Word) : (r.get w != 0) = w.getLsbD r.lo := by
  have hw : r.width = 1 := by unfold Row.width; omega
  have hb := Row.testBit_get r w 0
  rw [hw, Nat.add_zero] at hb
  have hlt : r.get w < 2 := by unfold Row.get; rw [hw]; exact Nat.mod_lt _ (by decide)
  rw [Nat.testBit_zero] at hb
  simp only [Nat.lt_one_iff, decide_true, Bool.true_and] at hb
  rw [← hb]
  rcases (show r.get w = 0 ∨ r.get w = 1 by omega) with e | e <;> simp [e]

/-- A field of the word that a register holds. -/
theorem State.fld_of_reg {s : State} {b : Nat} {r : Row} {w : Word} (h : s.reg (b + r.off) = w) : s.fld b r = r.get w := by
  simp [State.fld, h]

theorem State.bit_of_reg {s : State} {b : Nat} {r : Row} {w : Word} (hr : r.lo = r.hi) (h : s.reg (b + r.off) = w) :
    s.bit b r = w.getLsbD r.lo := by
  unfold State.bit
  rw [State.fld_of_reg h, Row.get_bit hr]

theorem FN_get (w : Word) : Reg.Hdr.FN.get w = w.toNat % 256 := by simp [Row.get, Reg.Hdr.FN, Row.width]
theorem LIMIT_get (w : Word) : Reg.Hdr.LIMIT.get w = w.toNat % 65536 := by simp [Row.get, Reg.Hdr.LIMIT, Row.width]

/-! ### OWNER -/

/-- The word that a write of OWNER would leave (R52). -/
def ownerWord (old w : Word) : Word := mergeWord old w 0x8000_01FF#32

theorem ownerWord_fn (old w : Word) : Reg.Hdr.FN.get (ownerWord old w) = w.toNat % 256 := by
  rw [ownerWord, Row.get_mergeWord ⟨by decide, by decide⟩ (by decide), FN_get]

/-- OWNER of a page that is not locked, written by a requester that may, with a number that is not reserved (R57). -/
theorem ownerPut_unlocked {r : State} {who : Req} {t : PageType} {n : Nat} {w : Word}
    (hw : (reqMgmt who || reqFn0 who) = true) (hs : r.bit (pageBase t n) Reg.Hdr.SEC = true → reqSecure who = true)
    (hl : r.bit (pageBase t n) Reg.Hdr.LOCK = false) (he : fnEncoding (w.toNat % 256) = true) :
    r.ownerPut who t n 0xFFFF_FFFF#32 w =
      if w.toNat % 256 ≠ r.owner (pageBase t n) ∧
          ((r.enabled (pageBase t n) && !enableIgnored t) || r.pageActive t n) = true then
        r.err (pageBase t n) 0x06 (w.toNat % 256)
      else r.setReg (pageBase t n + 0x020) (ownerWord (r.reg (pageBase t n + 0x020)) w) := by
  have hsec : (r.bit (pageBase t n) Reg.Hdr.SEC && !reqSecure who) = false := by
    cases h : r.bit (pageBase t n) Reg.Hdr.SEC
    · rfl
    · simp [hs h]
  have hm : (0xFFFF_FFFF#32 &&& 0x8000_01FF#32 : Word) = 0x8000_01FF#32 := by decide
  have hf := ownerWord_fn (r.reg (pageBase t n + 0x020)) w
  unfold State.ownerPut
  simp only [hw, hsec, hl, hm, Bool.not_true, Bool.false_eq_true, if_false]
  unfold ownerWord at hf ⊢
  simp only [hf, he, if_true]

/-- OWNER of a locked page keeps its value, and nothing is recorded (R58). -/
theorem ownerPut_locked {r : State} {who : Req} {t : PageType} {n : Nat} {mask w : Word}
    (hw : (reqMgmt who || reqFn0 who) = true) (hs : r.bit (pageBase t n) Reg.Hdr.SEC = true → reqSecure who = true)
    (hl : r.bit (pageBase t n) Reg.Hdr.LOCK = true) : r.ownerPut who t n mask w = r := by
  have hsec : (r.bit (pageBase t n) Reg.Hdr.SEC && !reqSecure who) = false := by
    cases h : r.bit (pageBase t n) Reg.Hdr.SEC
    · rfl
    · simp [hs h]
  unfold State.ownerPut
  simp [hw, hsec, hl]

/-! ### BUDGET -/

/-- The pages whose budget the statement speaks of. -/
theorem hasBudget_unitPage {t : PageType} (h : t ∈ [PageType.tone, .lane, .flux, .acq, .jport]) :
    hasBudget t = true ∧ t ≠ .fn ∧ t ≠ .rout := by
  revert h; cases t <;> decide

/-- Writing LIMIT as a field, or as the low half of the word, is the same. -/
theorem setFld_limit (r : State) (b : Nat) (w : Word) :
    r.setFld b Reg.Hdr.LIMIT (w.toNat % 65536) = r.setReg (b + 0x024) (mergeWord (r.reg (b + 0x024)) w 0xFFFF#32) := by
  have hset := Row.set_get Reg.Hdr.LIMIT (r.reg (b + 0x024)) w
  rw [LIMIT_get, show Reg.Hdr.LIMIT.mask = 0xFFFF#32 by decide] at hset
  rw [← hset]
  rfl

/-- BUDGET of an unlocked page of a unit: the new limit is refused where it would raise the sum above the ceiling (R29, R31). -/
theorem budgetWrite_unlocked {r : State} {who : Req} {t : PageType} {n : Nat} {w : Word}
    (ht : t ∈ [PageType.tone, .lane, .flux, .acq, .jport]) (hl : r.bit (pageBase t n) Reg.Hdr.LOCK = false) :
    let u := r.setFld (pageBase t n) Reg.Hdr.LIMIT (w.toNat % 65536)
    ((u.budgetSum t n 0x024).1 ≤ (u.budgetSum t n 0x024).2 → r.budgetWrite who t n 0xFFFF_FFFF#32 w = u) ∧
      ((u.budgetSum t n 0x024).2 < (u.budgetSum t n 0x024).1 → (r.budgetSum t n 0x024).1 < (u.budgetSum t n 0x024).1 →
        w.toNat % 65536 ≠ r.fld (pageBase t n) Reg.Hdr.LIMIT →
        r.budgetWrite who t n 0xFFFF_FFFF#32 w = r.err (pageBase t n) 0x05 (w.toNat % 65536)) := by
  obtain ⟨hb, hfn, hrout⟩ := hasBudget_unitPage ht
  have hm : (0xFFFF_FFFF#32 &&& 0xFFFF#32 : Word) = 0xFFFF#32 := by decide
  have hlow : (mergeWord (r.reg (pageBase t n + 0x024)) w 0xFFFF#32).toNat % 65536 = w.toNat % 65536 := by
    rw [← LIMIT_get, ← LIMIT_get, Row.get_mergeWord ⟨by decide, by decide⟩ (by decide)]
  have hput : r.budgetWrite who t n 0xFFFF_FFFF#32 w = r.budgetPut t n 0x024 0xFFFF#32 w := by
    unfold State.budgetWrite
    simp [hb, hfn, hl, hm]
  simp only [hput, setFld_limit]
  unfold State.budgetPut
  simp only [hrout, false_and, if_false]
  refine ⟨fun h => ?_, fun h1 h2 hne => ?_⟩
  · rw [if_neg (by omega)]
  · rw [if_pos ⟨h1, h2⟩]
    have hold : (r.reg (pageBase t n + 0x024)).toNat % 65536 = r.fld (pageBase t n) Reg.Hdr.LIMIT := by
      rw [← LIMIT_get]; rfl
    simp only [Nat.reducePow, hlow, hold, if_neg hne]

/-! ### The obligation -/

/-- OWNER_WRITE: the cases of R57 and R58. -/
theorem execOwnerWrite_charged (who : Req) (t : PageType) (n : Nat) (pg : Fin 2304) (w : Word) (s r : State)
    (hc : s.charged who = some r) (hs : r.shows who (some t) = true) (hn : n < pageCount t)
    (hp : pg.val * 0x1000 = pageBase t n) : exec (.ownerWrite who pg w) s = .next (r.ownerPut who t n 0xFFFF_FFFF#32 w).settle := by
  show finish (s.busPut who (pg.val * 0x1000 + 0x020) w) = _
  rw [hp, busPut_charged hc hs hn (by decide) (by decide)]
  rfl

theorem charged_bit {s r : State} {who : Req} (h : s.charged who = some r) (b : Nat) (q : Row) (i : Nat) :
    r.bit b q i = s.bit b q i := by
  unfold State.bit; rw [charged_fld h]

theorem charged_enabled {s r : State} {who : Req} (h : s.charged who = some r) (b : Nat) : r.enabled b = s.enabled b :=
  charged_bit h b _ _

theorem charged_owner {s r : State} {who : Req} (h : s.charged who = some r) (b : Nat) : r.owner b = s.owner b :=
  charged_fld h b _ _

/-- The word that a write of OWNER leaves shows the fields written. -/
theorem ownerWord_shown {s : State} {b : Nat} {old w : Word} (h : s.reg (b + 0x020) = ownerWord old w) :
    s.owner b = w.toNat % 256 ∧ s.bit b Reg.Hdr.SEC = w.getLsbD 8 ∧ s.bit b Reg.Hdr.LOCK = w.getLsbD 31 := by
  refine ⟨?_, ?_, ?_⟩
  · rw [← ownerWord_fn old w]
    exact State.fld_of_reg h
  · rw [State.bit_of_reg (r := Reg.Hdr.SEC) rfl h, ownerWord, getLsbD_mergeWord, if_pos (by decide)]
    rfl
  · rw [State.bit_of_reg (r := Reg.Hdr.LOCK) rfl h, ownerWord, getLsbD_mergeWord, if_pos (by decide)]
    rfl

/-- A granted command that writes one whole header word. -/
theorem finish_busPut_header {s r : State} {who : Req} {t : PageType} {n off : Nat} {pg : Fin 2304} {w : Word}
    (h : s.granted who t n = some r) (hn : n < pageCount t) (hp : pg.val * 0x1000 = pageBase t n) (ho : off < 0x028)
    (h4 : off % 4 = 0) (h20 : off ≠ 0x020) :
    finish (s.busPut who (pg.val * 0x1000 + off) w) = .next (r.headerWrite who t n off 0xFFFF_FFFF#32 w).settle := by
  rw [hp, busPut_granted h hn (by omega) h4, pageWrite_header h ho h20]
  rfl

/-- Setting IRQ_STAT bits with no interrupt enabled makes no edge. -/
theorem raiseBits_edges_off {s : State} {b : Nat} (bits : Word) (h : s.reg (b + 0x014) = 0) :
    (s.raiseBits b bits).edges = s.edges := by
  have e : ((s.setReg (b + 0x010) (s.reg (b + 0x010) ||| bits)).reg (b + 0x014)) = 0 := by
    rw [State.reg_setReg_ne _ _ (by omega), h]
  unfold State.raiseBits State.edge State.irqLive
  rw [e]
  simp

theorem raiseBits_reg (s : State) (b : Nat) (bits : Word) (a : Nat) :
    (s.raiseBits b bits).reg a = if a = b + 0x010 then s.reg (b + 0x010) ||| bits else s.reg a := by
  obtain ⟨es, h⟩ := s.raiseBits_eq b bits
  rw [h]
  exact State.reg_setReg s _ _ _

/-- A change of registers and edges, and of the units used, is one that `OnlyRegs` allows. -/
theorem onlyRegs_raiseBits {s r : State} {who : Req} (hc : s.charged who = some r) (b : Nat) (bits : Word) :
    OnlyRegs s (r.raiseBits b bits).settle := by
  have hr : OnlyRegs s r := by
    unfold OnlyRegs
    rw [charged_rest hc]
  obtain ⟨es, h⟩ := r.raiseBits_eq b bits
  have hb : OnlyRegs r (r.raiseBits b bits) := by
    unfold OnlyRegs
    rw [h]
    rfl
  exact onlyRegs_trans (onlyRegs_trans hr hb) (settle_delivers _).onlyRegs

/-- Settles O6: each write reaches the header register of its page; what it does there is the case of R52, R54, R57 or R29 that
applies, and a settled state has no edge that would change anything more. -/
theorem headerWrites : Obligations.HeaderWrites := by
  unfold Obligations.HeaderWrites
  refine ⟨?_, ?_, ?_⟩
  · intro who t n pg w s r hq hc hs hn hp hw hsec b busy
    have hsec' : r.bit b Reg.Hdr.SEC = true → reqSecure who = true := by rwa [charged_bit hc]
    refine ⟨_, execOwnerWrite_charged who t n pg w s r hc hs hn hp, fun hl => ?_, fun hl he hbusy => ?_, fun hl he hne hbusy hv => ?_⟩
    · rw [ownerPut_locked hw hsec' (by rwa [charged_bit hc]), charged_settle hq hc]
    · rw [ownerPut_unlocked hw hsec' (by rwa [charged_bit hc]) he, charged_owner hc, charged_enabled hc, if_neg (by
        rintro ⟨h1, h2⟩
        rcases hbusy with h | h
        · exact h1 h
        · exact absurd (h2.symm.trans h) (by decide)), settle_setReg (charged_settled hq hc)]
      obtain ⟨hfn, hsc, hlk⟩ := ownerWord_shown (State.reg_setReg_same r (b + 0x020) (ownerWord (r.reg (b + 0x020)) w))
      exact ⟨hfn, hsc, hlk, fun a ha => charged_setReg_reg hc _ ha, charged_setReg_only hq hc _ _⟩
    · rw [ownerPut_unlocked hw hsec' (by rwa [charged_bit hc]) he, charged_owner hc, charged_enabled hc, if_pos ⟨hne, hbusy⟩]
      obtain ⟨hreg, hrest, hcap⟩ := charged_err hq hc b 0x06 (w.toNat % 256)
      obtain ⟨hcode, hinfo, _⟩ := hcap hv
      exact ⟨hcode, hinfo.trans (by omega), hreg, hrest⟩
  · intro who t n pg w s r hq hg hn hp b asked sums
    have hc := (granted_charged hg).1
    have hlock : s.bit b Reg.Hdr.LOCK = false → r.bit b Reg.Hdr.LOCK = false := by rw [charged_bit hc]; exact id
    have key : exec (.budgetWrite who pg w) s = .next (r.budgetWrite who t n 0xFFFF_FFFF#32 w).settle :=
      finish_busPut_header hg hn hp (by decide) (by decide) (by decide)
    refine ⟨_, key, fun hb => ?_, fun ht hl hle => ?_, fun ht hl hlt hmore hne hv => ?_⟩
    · rw [show r.budgetWrite who t n 0xFFFF_FFFF#32 w = r by unfold State.budgetWrite; simp [hb], charged_settle hq hc]
    · rw [(budgetWrite_unlocked ht (hlock hl)).1 hle]
      have hset : (r.setFld b Reg.Hdr.LIMIT asked).settle = r.setFld b Reg.Hdr.LIMIT asked := settle_setReg (charged_settled hq hc) _ _
      rw [hset]
      refine ⟨?_, ?_, fun a ha => charged_setReg_reg hc _ ha, charged_setReg_only hq hc _ _⟩
      · rw [State.fld_setFld_same _ _ ⟨by decide, by decide⟩]
        exact Nat.mod_eq_of_lt (Nat.mod_lt _ (by decide))
      · rw [State.setFld_limits, charged_rest hc]
    · have hne' : w.toNat % 65536 ≠ r.fld b Reg.Hdr.LIMIT := by rwa [charged_fld hc]
      rw [(budgetWrite_unlocked ht (hlock hl)).2 hlt hmore hne']
      obtain ⟨hreg, hrest, hcap⟩ := charged_err hq hc b 0x05 asked
      obtain ⟨hcode, hinfo, _⟩ := hcap hv
      exact ⟨hcode, hinfo.trans (Nat.mod_eq_of_lt (Nat.lt_trans (Nat.mod_lt _ (by decide)) (by decide))), hreg, hrest⟩
  · intro who t n pg w s r hq hg hn hp b
    have hc := (granted_charged hg).1
    constructor
    · have key : exec (.irqForceWrite who pg w) s =
          .next (r.raiseBits b (w &&& 0xFFFF_FFFF#32 &&& irqBits t)).settle :=
        finish_busPut_header hg hn hp (by decide) (by decide) (by decide)
      have hm : w &&& 0xFFFF_FFFF#32 = w := BitVec.and_allOnes
      rw [hm] at key
      have hforced : (r.raiseBits b (w &&& irqBits t)).reg (b + 0x010) = s.reg (b + 0x010) ||| (w &&& irqBits t) := by
        rw [raiseBits_reg, if_pos rfl, charged_reg hc]
      refine ⟨_, key, fun _ hen => ?_, fun hni => ?_, fun a ha hni => ?_, onlyRegs_raiseBits hc b _⟩
      · have he : (r.raiseBits b (w &&& irqBits t)).edges = [] := by
          rw [raiseBits_edges_off _ (by rw [charged_reg hc]; exact hen)]
          exact (charged_settled hq hc).1
        rw [State.reg_settle_quiet he, hforced]
      · rw [State.settle_reg_keep _ (by rwa [irqWrites_page (by decide)]), hforced]
      · rw [State.settle_reg_keep _ hni, raiseBits_reg, if_neg (by simpa using ha), charged_reg hc]
    · have key : exec (.errCapClear who pg) s = .next (r.setReg (b + 0x01C) 0).settle := by
        show finish (s.putTop who (pg.val * 0x1000 + 0x01C) _) = _
        rw [hp]
        unfold State.putTop
        rw [busWrite_granted hg hn (by decide) (by decide), pageWrite_header hg (by decide) (by decide)]
        rfl
      rw [settle_setReg (charged_settled hq hc)] at key
      exact ⟨_, key, State.reg_setReg_same _ _ _, fun a ha => charged_setReg_reg hc _ ha, charged_setReg_only hq hc _ _⟩

end Sys2Proof.Machine
end

section
/-!
Obligation O7: register writes by words, page crossings, reserved ranges, and the release of a held access.
-/
namespace Sys2Proof.Machine

/-! ### Where an address lies -/

/-- Every page lies below the doorbell pages. -/
theorem pageOf_lt {a n : Nat} {t : PageType} (h : pageOf a = some (t, n)) : a < 0x0400_0000 := by
  have hend : ∀ e ∈ pageMap, e.2.1 + e.2.2 * 0x1000 ≤ 0x0400_0000 := by decide
  unfold pageOf at h
  obtain ⟨e, he, _⟩ := Option.map_eq_some_iff.1 h
  have h1 := List.find?_some he
  have h2 := hend e (List.mem_of_find?_eq_some he)
  simp only [Bool.and_eq_true, decide_eq_true_eq] at h1
  omega

/-- In a settled state a new cycle changes nothing. -/
theorem newCycle_settled {s : State} (h : Settled s) : s.newCycle = s := by
  unfold State.newCycle
  rw [← h.2]

/-! ### Plain writes -/

/-- A write of RSVD_COUNT takes the bits selected. -/
theorem plainWord_rsvdCount (lock : Bool) (old data mask : Word) :
    plainWord .glob 0x050 lock old data mask = mergeWord old data mask := by
  have hrows : rowsAt .glob 0x050 = [Reg.Glob.RSVD_COUNT] := by decide
  have hacc : ∀ r w, rowAccepts .glob r w = true := fun _ _ => rfl
  have hs : ∀ w, storeMask .glob 0x050 lock old w = BitVec.allOnes 32 := by
    intro w
    have hpair : ∀ w, pairKeeps .glob 0x050 w = 0#32 := fun _ => rfl
    have hmask : Reg.Glob.RSVD_COUNT.mask = BitVec.allOnes 32 := by decide
    have hshut : shutEnBit .glob 0x050 = 0#32 := by decide
    unfold storeMask
    simp [hrows, hacc, hpair, hmask, hshut, show Reg.Glob.RSVD_COUNT.acc = .rw from rfl]
  have hcl : clearMask .glob 0x050 = 0#32 := by decide
  unfold plainWord
  simp only [hs, hcl, BitVec.and_allOnes, BitVec.and_zero, BitVec.not_zero]

theorem blockWrite_rsvdCount (s : State) (who : Req) (mask data : Word) :
    s.blockWrite who .glob 0 0x050 mask data = s.setReg 0x050 (mergeWord (s.reg 0x050) data mask) := by
  have hb : pageBase .glob 0 = 0 := rfl
  show (s.plainWrite .glob 0 0x050 mask data) = _
  unfold State.plainWrite
  simp only [hb, Nat.zero_add, plainWord_rsvdCount]
  rfl

/-! ### Held accesses -/

/-- A held write of one word: carried out after its charge, or held as before. -/
theorem tryAccess_oneWord (s : State) (f : Fin 64) (a : Nat) (be : BitVec 4) (w : Word) :
    s.tryAccess f (.write a [(be, w)]) =
      match s.chargeHostWord f with
      | some r => (r.newCycle.wordWrite (.fn f) a be w, none)
      | none => (s, some (.write a [(be, w)])) := by
  cases h : s.chargeHostWord f <;> simp [State.tryAccess, State.hostWords, h]

/-- With nothing held there is nothing to serve. -/
theorem serveHeld_empty (s : State) (f : Fin 64) (k : Nat) (h : (s.fnSt f).held = []) : s.serveHeld f k = s := by
  cases k with
  | zero => rfl
  | succ k => unfold State.serveHeld; rw [h]

/-- The only held access is served, and leaves the queue empty. -/
theorem serveHeld_one {s : State} {f : Fin 64} {x : HeldAccess} {t : State} (k : Nat) (h : (s.fnSt f).held = [x])
    (ht : s.tryAccess f x = (t, none)) (hk : (t.fnSt f).held = (s.fnSt f).held) :
    s.serveHeld f (k + 1) = t.modFn f fun y => { y with held := y.held.drop 1 } := by
  unfold State.serveHeld
  rw [h]
  simp only [ht]
  apply serveHeld_empty
  rw [State.fnSt_modFn, hk, h]
  rfl

/-- An access whose charge is not granted stays held. -/
theorem serveHeld_waits {s : State} {f : Fin 64} {x : HeldAccess} {xs : List HeldAccess} (k : Nat)
    (h : (s.fnSt f).held = x :: xs) (ht : s.tryAccess f x = (s, some x)) :
    s.serveHeld f (k + 1) = s.modFn f fun z => { z with held := x :: xs } := by
  unfold State.serveHeld
  rw [h]
  simp only [ht]

/-- Interrupt delivery leaves held accesses alone. -/
theorem settle_held (s : State) (f : Nat) : (s.settle.fnSt f).held = (s.fnSt f).held := by
  obtain ⟨p, hp⟩ := (settle_delivers s).fn f
  rw [hp]

/-! ### Reserved ranges -/

/-- A write to a reserved range of BAR0, registers apart from those of the global page that record it. -/
theorem reservedAccess_reg_ne (s : State) (who : Req) (a : Nat) {c : Nat}
    (h : c ∉ [Base.glob + 0x010, Base.glob + 0x01C, Base.glob + 0x050]) : (s.reservedAccess who a true).reg c = s.reg c := by
  simp only [List.mem_cons, List.not_mem_nil, or_false, not_or] at h
  obtain ⟨h10, h1c, h50⟩ := h
  show ((State.accErr _ Base.glob 0x03 who a true).raise Base.glob 0).reg c = _
  rw [State.reg_raise_ne _ h10]
  unfold State.accErr
  rw [State.reg_err_ne _ h1c]
  exact State.reg_setFld_ne s h50

theorem reservedAccess_count (s : State) (who : Req) (a : Nat) :
    (s.reservedAccess who a true).fld Base.glob Reg.Glob.RSVD_COUNT =
      min (s.fld Base.glob Reg.Glob.RSVD_COUNT + 1) (2 ^ 32 - 1) := by
  show ((State.accErr _ Base.glob 0x03 who a true).raise Base.glob 0).fld _ _ = _
  unfold State.accErr
  rw [State.fld_raise_ne _ (by decide), State.fld_err_ne _ (by decide)]
  refine (State.fld_setFld_same s Base.glob ⟨by decide, by decide⟩ _ _).trans (Nat.mod_eq_of_lt ?_)
  exact Nat.lt_of_le_of_lt (Nat.min_le_right _ _) (by decide)

/-- A write to a reserved range changes registers, and what noting an edge and a capture changes. -/
theorem reservedAccess_only (s : State) (who : Req) (a : Nat) : OnlyRegs s (s.reservedAccess who a true) := by
  exact onlyRegs_of_frame (State.reservedAccess_frame s who a true (Frame.refl _ _) (by decide))

/-- Settles O7: a write of management firmware is carried out word by word, or recorded as a crossing; RSVD_COUNT takes the
bytes selected; a reserved range counts and records; and a held access is served where its charge is granted. -/
theorem registerAccesses : Obligations.RegisterAccesses := by
  unfold Obligations.RegisterAccesses
  refine ⟨?_, ?_, ?_, ?_, ?_⟩
  · intro a w ws s ha hx
    show finish (s.busWrite .mgmt a.toNat (w :: ws)) = _
    unfold State.busWrite
    simp only [if_neg (Nat.not_le.2 ha), List.length_cons, hx, Bool.false_eq_true, if_false, finish, State.writeWords]
  · intro a ws t n s hq hp hx hv
    have key : exec (.registerWrite .mgmt a ws) s =
        .next (s.err (pageBase t n) 0x04 (accInfo .mgmt a.toNat true)).settle := by
      show finish (s.busWrite .mgmt a.toNat ws) = _
      unfold State.busWrite
      simp only [if_neg (Nat.not_le.2 (pageOf_lt hp)), hx, if_true, errPage, hp, State.accErr, finish]
    have hc : s.charged .mgmt = some s.newCycle := rfl
    obtain ⟨hreg, hrest, hcap⟩ := charged_err hq hc (pageBase t n) 0x04 (accInfo .mgmt a.toNat true)
    obtain ⟨hcode, _, hvalid⟩ := hcap hv
    rw [newCycle_settled hq] at hreg hrest hcode hvalid
    exact ⟨_, key, hcode, hvalid, hreg, hrest⟩
  · intro who be w s r hq hg
    have hc := (granted_charged hg).1
    have key : exec (.registerWrite who (BitVec.ofNat 27 0x050) [(be, w)]) s =
        .next (r.setReg 0x050 (mergeWord (r.reg 0x050) w (beMask be))).settle := by
      show finish (s.busWrite who (pageBase .glob 0 + 0x050) [(be, w)]) = _
      rw [busWrite_granted hg (by decide) (by decide) (by decide), pageWrite_block hg (by decide) (by decide),
        blockWrite_rsvdCount]
      rfl
    rw [settle_setReg (charged_settled hq hc), charged_reg hc] at key
    exact ⟨_, key, State.reg_setReg_same _ _ _, fun a ha => charged_setReg_reg hc _ ha, charged_setReg_only hq hc _ _⟩
  · intro a be w s hq ha h4 hp hs
    have hc : s.charged .mgmt = some s.newCycle := rfl
    have hx : crossesPage a.toNat 1 = false := by simp [crossesPage]; omega
    have key : exec (.registerWrite .mgmt a [(be, w)]) s = .next (s.reservedAccess .mgmt a.toNat true).settle := by
      show finish (s.busWrite .mgmt a.toNat [(be, w)]) = _
      unfold State.busWrite
      simp only [if_neg (Nat.not_le.2 ha), List.length_cons, List.length_nil, Nat.zero_add, hx, Bool.false_eq_true, if_false,
        State.writeWords, newCycle_settled hq, State.wordWrite, hp, hs, if_true, finish]
    refine ⟨_, key, ?_, ?_, fun c hc hni => ?_, ?_⟩
    · rw [State.settle_fld _ (by decide), reservedAccess_count]
    · rw [State.settle_reg _ (by decide)]
      exact State.raise_sets _ _ _ (by decide)
    · rw [State.settle_reg_keep _ hni, reservedAccess_reg_ne _ _ _ hc]
    · exact onlyRegs_trans (reservedAccess_only s .mgmt a.toNat) (settle_delivers _).onlyRegs
  · intro f a be w s hh
    constructor
    · intro r hr hq hk
      have htry : s.tryAccess f (.write a [(be, w)]) = (r.newCycle.wordWrite (.fn f) a be w, none) := by
        rw [tryAccess_oneWord, hr]
      have hserve := serveHeld_one 79 hh htry hk
      refine ⟨_, rfl, ?_, fun c hc => ?_⟩
      · rw [settle_held, hserve, State.fnSt_modFn, hk, hh]
        rfl
      · rw [State.settle_reg_keep _ hc, hserve]
        rfl
    · intro hr hq
      have htry : s.tryAccess f (.write a [(be, w)]) = (s, some (.write a [(be, w)])) := by
        rw [tryAccess_oneWord, hr]
      have hserve := serveHeld_waits 79 hh htry
      refine ⟨_, rfl, ?_, fun c => ?_⟩
      · rw [settle_held, hserve, State.fnSt_modFn, hh]
      · rw [hserve, State.reg_settle_quiet (show State.edges (State.modFn s f _) = [] from hq.1)]
        rfl

end Sys2Proof.Machine
end

section
/-!
Obligation O11: what a frame boundary reloads and latches, and what it leaves.
-/
namespace Sys2Proof.Machine

/-! ### Sequencers but for their shots -/

/-- Every sequencer of `t` is that of `s` but for its shots. -/
def ShotsOnly (s t : State) : Prop := ∀ n, t.seq n = { s.seq n with shots := (t.seq n).shots }

namespace ShotsOnly

theorem of_seqs {s t : State} (h : t.seqs = s.seqs) : ShotsOnly s t := fun n => by
  unfold State.seq; rw [h]

theorem trans {s t u : State} (h : ShotsOnly s t) (k : ShotsOnly t u) : ShotsOnly s u := fun n => by
  rw [k n, h n]

theorem keep {s t u : State} (h : ShotsOnly s t) (k : u.seqs = t.seqs) : ShotsOnly s u := h.trans (of_seqs k)

theorem ite {s a b : State} {c : Prop} [Decidable c] (ha : ShotsOnly s a) (hb : ShotsOnly s b) :
    ShotsOnly s (if c then a else b) := by
  split <;> assumption

theorem foldl {α : Type} {s a : State} {l : List α} {f : State → α → State} (h : ShotsOnly s a)
    (each : ∀ t x, ShotsOnly t (f t x)) : ShotsOnly s (l.foldl f a) := by
  induction l generalizing a with
  | nil => exact h
  | cons x l ih => exact ih (h.trans (each a x))

theorem forN {s : State} {k : Nat} {f : Nat → State → State} (each : ∀ i t, ShotsOnly t (f i t)) :
    ShotsOnly s (Machine.forN k f s) := by
  induction k with
  | zero => exact of_seqs rfl
  | succ k ih => exact ih.trans (each k _)

theorem modShots (s : State) (n : Nat) (f : SeqSt → List Shot) :
    ShotsOnly s (s.modSeq n fun q => { q with shots := f q }) := fun m => by
  unfold State.modSeq State.seq
  rw [SMap.get_modify]
  by_cases h : m = n
  · subst h; simp
  · simp [h]

end ShotsOnly

/-- A condition bit of a tile is noted in shots, and nothing else of a sequencer. -/
theorem shotsSkew_shotsOnly (s : State) (t : Nat) : ShotsOnly s (s.shotsSkew t) := by
  unfold State.shotsSkew
  refine ShotsOnly.foldl (.of_seqs rfl) fun u n => ?_
  exact ShotsOnly.modShots u n fun q => q.shots.map fun x => x.seesNow t u.count

theorem tileCond_shotsOnly (s : State) (t : Nat) : ShotsOnly s (s.tileCond t) := by
  unfold State.tileCond
  dsimp only
  generalize hu : ((s.setBit (Base.tile t) Reg.Tile.CAUSE_TEMP _).setBit (Base.tile t) Reg.Tile.CAUSE_SUPPLY _).setBit
    (Base.tile t) Reg.Tile.CAUSE_PHASE _ = u
  have base : ShotsOnly s u := .of_seqs (by rw [← hu]; rfl)
  refine base.trans (ShotsOnly.ite (ShotsOnly.trans (.of_seqs ?_) (shotsSkew_shotsOnly _ t)) (ShotsOnly.ite (.of_seqs rfl) (.of_seqs rfl)))
  rw [State.raise_seqs]
  rfl

theorem track_shotsOnly (s : State) (t : Nat) (err : Int) : ShotsOnly s (s.track t err) := by
  unfold State.track
  dsimp only
  generalize hu : s.setFld (Base.tile t) Reg.Tile.TRACK_ERR (unsigned 16 (clamp (-32768) 32767 err)) = u
  have base : ShotsOnly s u := .of_seqs (by rw [← hu]; rfl)
  generalize (if 2 ≤ err then min 12500 (u.tileTrim t + 1) else if err ≤ -2 then max (-12500) (u.tileTrim t - 1)
    else u.tileTrim t) = next
  refine base.trans (ShotsOnly.trans ?_ (tileCond_shotsOnly _ t))
  refine ShotsOnly.ite (.of_seqs rfl) (ShotsOnly.ite (.of_seqs ?_) (.of_seqs rfl))
  rw [State.raise_seqs]
  rfl

/-! ### Budgets -/

theorem find?_filter_key {α : Type} {p : Nat → Bool} (m : SMap α) {k : Nat} (h : p k = true) :
    SMap.find? (m.filter fun e => p e.1) k = SMap.find? m k := by
  induction m with
  | nil => rfl
  | cons e m ih =>
    obtain ⟨j, v⟩ := e
    by_cases hj : j = k
    · subst hj; simp [h, SMap.find?]
    · by_cases hp : p j = true
      · simp [hp, SMap.find?, hj, ih]
      · simp [hp, SMap.find?, hj, ih]

/-- The limit in force after a reload is the limit as it stands (R29). -/
theorem budgetReload_limitWord (s : State) {a : Nat} (h : isBudgetReg a = true) : s.budgetReload.limitWord a = s.reg a := by
  unfold State.limitWord State.budgetReload State.reg SMap.get
  rw [find?_filter_key s.regs h]

theorem limitWord_congr {s t : State} (h : t.limits = s.limits) (a : Nat) : t.limitWord a = s.limitWord a := by
  unfold State.limitWord; rw [h]

/-! ### The parts of a frame boundary -/

/-- The reload, and the pair that is latched (R26, R29, R89). -/
def State.frameLatch (s : State) (ct : BitVec 32) : State :=
  let s := s.budgetReload.setFld Base.cal Reg.Cal.CT_PHASE ct.toNat
  { s with latch := (s.count, s.fld Base.nclk Reg.Nclk.NT_NS, s.fld Base.nclk Reg.Nclk.NT_FRAC) }

/-- What a frame boundary does to the blocks before requests that waited for it are served. -/
def State.frameBlocks (s : State) (phase : List Int) : State :=
  let s := Machine.forN 8 (fun t s => if s.tileLive t then s.track t (phase.getD t 0) else s) s
  let s := (s.outs.map Prod.fst).foldl State.outFrame s
  let s := (s.adcs.map Prod.fst).foldl State.adcFrame s
  let s := (s.routs.map Prod.fst).foldl State.routFrame s
  s.dramMoves

/-- The end of a frame boundary: transitions that wait for one go on, and the boundary is noted. -/
def State.frameDone (s : State) : State :=
  let s := s.modPower fun p => { p with trans := p.trans.map fun x => { x with framed := true } }
  { s with frameAt := some s.count }

theorem State.frameDone_frameAt (s : State) : s.frameDone.frameAt = some s.count := rfl
theorem State.frameDone_seqs (s : State) : s.frameDone.seqs = s.seqs := rfl

/-- A frame boundary that is due: reload and latch, the blocks, the requests that waited. -/
theorem execFrameBoundary_due {s : State} (ph : List Int) (ct : BitVec 32) (hr : s.run = true) (h : s.count % 256 = 0)
    (hf : s.frameAt ≠ some s.count) :
    exec (.frameBoundary ph ct) s = .next ((s.frameLatch ct).frameBlocks ph).serveWaits.frameDone.settle := by
  show execFrameBoundary ph ct s = _
  unfold execFrameBoundary
  rw [if_neg (by simp [hr, h, hf])]
  rfl

/-- The fields that the blocks' part of a frame boundary may change, as the bits of a frame. -/
abbrev frameBlocksBits : Nat := 36028827087931008

theorem frameBlocks_frame (s : State) (ph : List Int) : Frame frameBlocksBits s (s.frameBlocks ph) := by
  unfold State.frameBlocks
  refine State.dramMoves_frame _ (Frame.foldl (Frame.foldl (Frame.foldl (Frame.forN (Frame.refl _ _) fun t u => ?_) fun u k => ?_)
    fun u k => ?_) fun u k => ?_) (by decide)
  · exact Frame.ite (State.track_frame u t _ (Frame.refl _ _) (by decide)) (Frame.refl _ _)
  · exact State.outFrame_frame u k (Frame.refl _ _) (by decide)
  · exact State.adcFrame_frame u k (Frame.refl _ _) (by decide)
  · exact State.routFrame_frame u k (Frame.refl _ _) (by decide)

theorem frameDone_frame (s : State) : Frame 562949953421316 s s.frameDone := by
  unfold State.frameDone
  exact Frame.upd_frameAt _ _ (State.modPower_frame s _ (Frame.refl _ _) (by decide)) (by decide)

/-- The fields that the blocks other than the tiles, and the requests served, may change, as the bits of a frame. -/
abbrev serveBits : Nat := 108086421144830080

theorem frameBlocks_shotsOnly (s : State) (ph : List Int) : ShotsOnly s (s.frameBlocks ph) := by
  unfold State.frameBlocks
  dsimp only
  refine ShotsOnly.keep (ShotsOnly.foldl (ShotsOnly.foldl (ShotsOnly.foldl (ShotsOnly.forN fun t u => ?_) fun u k => ?_)
    fun u k => ?_) fun u k => ?_) (State.dramMoves_frame (w := serveBits) _ (Frame.refl _ _) (by decide) |>.seqs (by decide))
  · exact ShotsOnly.ite (track_shotsOnly u t _) (.of_seqs rfl)
  · exact .of_seqs ((State.outFrame_frame (w := serveBits) u k (Frame.refl _ _) (by decide)).seqs (by decide))
  · exact .of_seqs ((State.adcFrame_frame (w := serveBits) u k (Frame.refl _ _) (by decide)).seqs (by decide))
  · exact .of_seqs ((State.routFrame_frame (w := serveBits) u k (Frame.refl _ _) (by decide)).seqs (by decide))

/-- The fields that may change at a frame boundary after the reload, as the bits of a frame: with requests that had waited, and
without. -/
abbrev frameRestBits : Nat := 108649371770783364
abbrev frameQuietBits : Nat := 108649371751810692

theorem frameBoundary_rest (s : State) (ph : List Int) :
    Frame frameRestBits s (s.frameBlocks ph).serveWaits.frameDone.settle :=
  (((frameBlocks_frame s ph).mono (by decide)).trans
    (State.serveWaits_frame _ (Frame.refl _ _) (by decide))).trans
      (((frameDone_frame _).mono (by decide)).trans ((settle_frame _).mono (by decide)))

/-- Without a request that waited, serving changes nothing. -/
theorem serveWaits_none {s : State} (h : s.dwait = []) : s.serveWaits = s := by
  unfold State.serveWaits
  simp [h]

theorem frameBoundary_quiet {s : State} (ph : List Int) (h : s.dwait = []) :
    Frame frameQuietBits s (s.frameBlocks ph).serveWaits.frameDone.settle := by
  rw [serveWaits_none (((frameBlocks_frame s ph).dwait (by decide)).trans h)]
  exact ((frameBlocks_frame s ph).mono (by decide)).trans
    (((frameDone_frame _).mono (by decide)).trans ((settle_frame _).mono (by decide)))

theorem frameBoundary_shotsOnly (s : State) (ph : List Int) :
    ShotsOnly s (s.frameBlocks ph).serveWaits.frameDone.settle := by
  refine (frameBlocks_shotsOnly s ph).trans (ShotsOnly.of_seqs ?_)
  rw [State.settle_seqs, State.frameDone_seqs]
  exact (State.serveWaits_frame (w := serveBits) _ (Frame.refl _ _) (by decide)).seqs (by decide)

/-- Settles O11: the reload and the latch come first, and no later part of a frame boundary writes the limits in force, the
latched pair or the units used, but for requests that had waited. -/
theorem frameBoundaryReloads : Obligations.FrameBoundaryReloads := by
  unfold Obligations.FrameBoundaryReloads
  refine ⟨fun ph ct s hr h hf => ?_, fun ph ct s h => ?_⟩
  · have hrest := frameBoundary_rest (s.frameLatch ct) ph
    have hcount : ((s.frameLatch ct).frameBlocks ph).serveWaits.count = s.count :=
      ((State.serveWaits_frame (w := serveBits) _ (Frame.refl _ _) (by decide)).count (by decide)).trans ((frameBlocks_frame _ ph).count (by decide))
    refine ⟨_, execFrameBoundary_due ph ct hr h hf, ?_, fun a ha => ?_, ?_, hrest.count (by decide), hrest.bar2 (by decide),
      hrest.tones (by decide), fun hw => ?_, fun n => ?_⟩
    · rw [State.settle_frameAt, State.frameDone_frameAt, hcount]
    · rw [limitWord_congr (hrest.limits (by decide))]
      exact budgetReload_limitWord s ha
    · rw [hrest.latch (by decide)]
      have hcal : ∀ q ∈ [Reg.Nclk.NT_NS, Reg.Nclk.NT_FRAC], Base.nclk + q.off + q.stride * 0 ≠
          Base.cal + Reg.Cal.CT_PHASE.off + Reg.Cal.CT_PHASE.stride * 0 := by decide
      show (s.count, _, _) = _
      rw [State.fld_setFld_ne _ (hcal _ (by simp)), State.fld_setFld_ne _ (hcal _ (by simp))]
      rfl
    · have hquiet := frameBoundary_quiet (s := s.frameLatch ct) ph hw
      exact ⟨hquiet.used (by decide), hquiet.dram (by decide), hquiet.rings (by decide)⟩
    · exact frameBoundary_shotsOnly (s.frameLatch ct) ph n
  · show execFrameBoundary ph ct s = _
    unfold execFrameBoundary
    rw [if_pos]
    rcases h with h | h | h <;> simp [h]

end Sys2Proof.Machine
end

section
/-!
Obligation O24: result records and the end of a stopping sequencer.
-/
namespace Sys2Proof.Machine

/-! ### Entries made of fields -/

theorem bytesLE_length (v k : Nat) : (bytesLE v k).length = k := by
  induction k generalizing v with
  | zero => rfl
  | succ k ih => rw [bytesLE, List.length_cons, ih]

/-- The bytes of a number spell it, cut to their number (R8). -/
theorem ofBytesLE_bytesLE (v k : Nat) : ofBytesLE (bytesLE v k) = v % 256 ^ k := by
  induction k generalizing v with
  | zero => simp [bytesLE, ofBytesLE, Nat.mod_one]
  | succ k ih =>
    rw [bytesLE, ofBytesLE, ih, Nat.pow_succ, Nat.mul_comm (256 ^ k) 256, Nat.mod_mul, BitVec.toNat_ofNat]

theorem packBytes_cons (v k : Nat) (fs : List (Nat × Nat)) : packBytes ((v, k) :: fs) = bytesLE v k ++ packBytes fs := rfl

theorem packBytes_append (fs gs : List (Nat × Nat)) : packBytes (fs ++ gs) = packBytes fs ++ packBytes gs := by
  simp [packBytes, List.flatMap_append]

theorem packBytes_length (fs : List (Nat × Nat)) : (packBytes fs).length = (fs.map Prod.snd).sum := by
  induction fs with
  | nil => rfl
  | cons f fs ih => rw [packBytes_cons, List.length_append, bytesLE_length, ih]; rfl

/-- Field `j` of an entry is found behind the fields before it. -/
theorem packBytes_part (fs : List (Nat × Nat)) (rest : List Byte) {j i v k : Nat} (hf : fs[j]? = some (v, k))
    (hi : ((fs.take j).map Prod.snd).sum = i) : ofBytesLE (((packBytes fs ++ rest).drop i).take k) = v % 256 ^ k := by
  obtain ⟨hj, hv⟩ := List.getElem?_eq_some_iff.1 hf
  have hsplit : fs = fs.take j ++ (v, k) :: fs.drop (j + 1) := by
    rw [← hv, List.getElem_cons_drop, List.take_append_drop]
  have hpack : packBytes fs = packBytes (fs.take j) ++ (bytesLE v k ++ packBytes (fs.drop (j + 1))) := by
    rw [← packBytes_cons, ← packBytes_append, ← hsplit]
  rw [hpack, List.append_assoc, List.drop_left' ((packBytes_length _).trans hi), List.append_assoc,
    List.take_left' (bytesLE_length v k), ofBytesLE_bytesLE]

/-! ### Result records -/

/-- The fields of a result record before its CRC (R120). -/
def State.recordFields (s : State) (n : Nat) (x : Shot) : List (Nat × Nat) :=
  [(x.num, 8), (x.start / 2, 8), (s.shotNt x, 4), (s.owner (Base.seq n), 2), (x.finalFlags.toNat, 2), (x.bitmap.toNat, 32),
    (x.user.toNat, 4)]

theorem resultRecord_fields {s : State} {n : Nat} (x : Shot) (h : s.seqFlr n = false) :
    s.resultRecord n x = packBytes (s.recordFields n x) ++ bytesLE (crc32 (packBytes (s.recordFields n x))) 4 := by
  unfold State.resultRecord
  rw [h]
  rfl

/-- Field `j` of a result record, at byte `i`. -/
theorem resultRecord_part {s : State} {n : Nat} {x : Shot} (h : s.seqFlr n = false) {i k v : Nat} (j : Nat)
    (hf : (s.recordFields n x)[j]? = some (v, k)) (hi : (((s.recordFields n x).take j).map Prod.snd).sum = i) :
    ofBytesLE (((s.resultRecord n x).drop i).take k) = v % 256 ^ k := by
  rw [resultRecord_fields x h]
  exact packBytes_part _ _ hf hi

/-- A tile that a command of the shot executed through had its condition bit set before the shot's boundary (R42). -/
theorem skew_any_iff (x : Shot) :
    (x.skew.any fun e => x.tiles.getLsbD e.1 && x.inFlight e.2) = true ↔
      ∃ e ∈ x.skew, x.tiles.getLsbD e.1 = true ∧ ∀ b, x.boundary = some b → e.2 < b := by
  have hfly : ∀ k, x.inFlight k = true ↔ ∀ b, x.boundary = some b → k < b := by
    intro k
    unfold Shot.inFlight
    cases x.boundary <;> simp
  simp only [List.any_eq_true, Bool.and_eq_true, hfly]

/-- A record is due where the shot has ended and none of its commands is queued (R120, R123). -/
theorem recordDue_iff (s : State) (n : Nat) (x : Shot) :
    s.recordDue n x = true ↔ x.aborted = true ∨
      (∃ k, x.boundary = some k ∧ k / 2 ≤ s.count) ∧ ∀ e ∈ s.queued, e.2.tag ≠ some (n, x.num) := by
  have hb : (x.boundary.any fun b => decide (b < s.step0 + 2)) = true ↔ ∃ k, x.boundary = some k ∧ k / 2 ≤ s.count := by
    have hk : ∀ k, k < s.step0 + 2 ↔ k / 2 ≤ s.count := fun k => by unfold State.step0; omega
    cases x.boundary <;> simp [hk]
  unfold State.recordDue
  rw [Bool.or_eq_true, Bool.and_eq_true, hb, Bool.not_eq_true', List.any_eq_false]
  simp

theorem OnlySeqs_trans {s t u : State} (h : OnlySeqs s t) (k : OnlySeqs t u) : OnlySeqs s u := by
  unfold OnlySeqs at *
  rw [k, h]

/-- What delivery may change is among what `OnlySeqs` lets change. -/
theorem Delivers.onlySeqs {s t : State} (h : Delivers s t) : OnlySeqs s t := by
  unfold OnlySeqs
  rw [h.rest]

theorem seq_congr {s t : State} (h : t.seqs = s.seqs) (n : Nat) : t.seq n = s.seq n := by unfold State.seq; rw [h]

@[simp] theorem seq_settle (s : State) (n : Nat) : s.settle.seq n = s.seq n := seq_congr s.settle_seqs n

/-- A record that is due is pushed, and its shot is done. -/
theorem execResultRecordWrite_due {n : Fin 256} {s : State} {x : Shot} {xs : List Shot} (hx : (s.seq n).shots = x :: xs)
    (hd : s.recordDue n x = true)
    (hv : s.ringValid (s.fld (Base.seq n) Reg.Seq.RES_RING) 1 (s.owner (Base.seq n)) = true) :
    exec (.resultRecordWrite n) s =
      .next ((s.ringPush (s.fld (Base.seq n) Reg.Seq.RES_RING) (s.resultRecord n x)).modSeq n fun q =>
        { q with shots := q.shots.tail, isOpen := q.isOpen && 1 < q.shots.length }).settle := by
  show execResultRecordWrite n s = _
  unfold execResultRecordWrite
  rw [hx]
  simp only [hd, if_true, State.writeRecord, hv, finish]

theorem execResultRecordWrite_early {n : Fin 256} {s : State} {x : Shot} {xs : List Shot} (hx : (s.seq n).shots = x :: xs)
    (hd : s.recordDue n x = false) : exec (.resultRecordWrite n) s = .next s := by
  show execResultRecordWrite n s = _
  unfold execResultRecordWrite
  rw [hx]
  simp only [hd, Bool.false_eq_true, if_false]

theorem seqQueued_false {s : State} {n : Nat} (h : ∀ e ∈ s.queued, e.2.poster ≠ n) : s.seqQueued n = false := by
  unfold State.seqQueued
  rw [List.any_eq_false]
  intro e he
  simpa using h e he

/-- A page of a sequencer is none of those that interrupt delivery writes. -/
theorem seq_not_irq {n : Nat} (hn : n < 256) {off : Nat} (h : off < 0x1000) : evPage (Base.seq n + off) = false := by
  have : ¬ evPage (Base.seq n + off) = true := by
    rw [evPage_iff]
    unfold Base.seq
    omega
  simpa using this

/-- A page whose CTL reads ENABLE 0 and DISABLE_NOW 0: no other word of it, and nothing else, has changed. -/
theorem ctlCleared (s : State) (b : Nat) :
    let v := (s.setEnable b false).setBit b Reg.Hdr.DISABLE_NOW false
    v.fld b Reg.Hdr.ENABLE = 0 ∧ v.fld b Reg.Hdr.DISABLE_NOW = 0 ∧ (∀ a, a ≠ b + 0x008 → v.reg a = s.reg a) ∧
      v = { s with regs := v.regs } :=
  ⟨(State.fld_setFld_apart _ _ _ 0 ⟨by decide, by decide⟩ (.inr (by decide))).trans
      (State.fld_setFld_same s b ⟨by decide, by decide⟩ 0 0),
    State.fld_setFld_same _ b ⟨by decide, by decide⟩ 0 0,
    fun _ ha => (State.reg_setFld_ne _ ha).trans (State.reg_setFld_ne _ ha), rfl⟩

/-- The sequencer stops: its page reads ENABLE 0 and DISABLE_NOW 0 with STOPPED set, and it neither ends nor is asked to stop. -/
theorem seqStopped_stops {n : Fin 256} {s : State} (he : (s.seq n).ending = true) (hx : (s.seq n).shots = [])
    (hq : ∀ e ∈ s.queued, e.2.poster ≠ n.val) :
    ∃ v : State, exec (.seqStopped n) s =
        .next (((v.modSeq n fun q => { q with ending := false, stopReq := false }).raise (Base.seq n) 0).settle) ∧
      v.fld (Base.seq n) Reg.Hdr.ENABLE = 0 ∧ v.fld (Base.seq n) Reg.Hdr.DISABLE_NOW = 0 ∧
      (∀ a, a ≠ Base.seq n + 0x008 → v.reg a = s.reg a) ∧ v = { s with regs := v.regs } := by
  refine ⟨_, ?_, ctlCleared s (Base.seq n)⟩
  show execSeqStopped n s = _
  unfold execSeqStopped
  simp only [he, hx, seqQueued_false hq, List.isEmpty_nil, Bool.not_false, Bool.and_true, if_true, finish]

/-- Settles O24: a due record goes to the ring and its shot leaves; the bytes of the record are its fields; and a stopping
sequencer with nothing left clears its bits in CTL and reports. -/
theorem resultRecords : Obligations.ResultRecords := by
  unfold Obligations.ResultRecords
  refine ⟨?_, ?_, ?_⟩
  · intro n s x xs _ hx ready ring
    refine ⟨fun hr hv => ?_, fun hr => ?_⟩
    · have hd := (recordDue_iff s n x).2 hr
      have hseqs : (s.ringPush ring (s.resultRecord n x)).seqs = s.seqs :=
        (State.ringPush_frame (w := serveBits ||| 524288) s _ _ (Frame.refl _ _) (by decide)).seqs (by decide)
      refine ⟨_, execResultRecordWrite_due hx hd hv, ?_, fun m hm => ?_, ?_, fun a ha => ?_⟩
      · rw [seq_settle, State.seq_modSeq, seq_congr hseqs, hx]
        rfl
      · rw [seq_settle, State.seq_modSeq_ne _ _ hm, seq_congr hseqs]
      · exact OnlySeqs_trans (show OnlySeqs _ (State.modSeq _ n _) from rfl) (settle_delivers _).onlySeqs
      · rw [State.settle_reg_keep _ ha]
        rfl
    · refine execResultRecordWrite_early hx ?_
      rw [Bool.eq_false_iff]
      exact fun hd => hr ((recordDue_iff s n x).1 hd)
  · intro n s x hflr skewed r part
    have hcut : ∀ {w : Nat} (v : BitVec (8 * w)), v.toNat % 256 ^ w = v.toNat := fun v =>
      Nat.mod_eq_of_lt (by rw [show (256 : Nat) = 2 ^ 8 from rfl, ← Nat.pow_mul]; exact v.isLt)
    have hfin : part 22 2 = x.finalFlags.toNat := (resultRecord_part hflr 4 rfl rfl).trans (hcut (w := 2) _)
    have hown : s.owner (Base.seq n) % 256 ^ 2 = s.owner (Base.seq n) :=
      Nat.mod_eq_of_lt (Nat.lt_trans (State.fld_lt s _ Reg.Hdr.FN 0) (by decide))
    refine ⟨?_, resultRecord_part hflr 0 rfl rfl, resultRecord_part hflr 1 rfl rfl, (resultRecord_part hflr 3 rfl rfl).trans hown,
      resultRecord_part hflr 2 rfl rfl, fun hs => ?_, fun hs => ?_, (resultRecord_part hflr 5 rfl rfl).trans (hcut (w := 32) _),
      (resultRecord_part hflr 6 rfl rfl).trans (hcut (w := 4) _)⟩
    · show (s.resultRecord n x).length = 64
      rw [resultRecord_fields x hflr, List.length_append, packBytes_length, bytesLE_length]
      rfl
    · rw [hfin]
      unfold Shot.finalFlags
      rw [if_neg fun h => hs ((skew_any_iff x).1 h)]
    · rw [hfin]
      unfold Shot.finalFlags
      rw [if_pos ((skew_any_iff x).2 hs)]
  · intro n s b
    refine ⟨fun he hx hq => ?_, fun he => ?_⟩
    · have hev : ∀ off, off < 0x1000 → evPage (b + off) = false := fun off h => seq_not_irq n.isLt h
      obtain ⟨v, key, hen, hdn, hreg, hv⟩ := seqStopped_stops he hx hq
      have hseq : ∀ m, v.seq m = s.seq m := fun m => by rw [hv]; exact seq_congr rfl m
      refine ⟨_, key, ?_, ?_, ?_, ?_, fun m hm => ?_, fun a ha hni => ?_, ?_⟩
      · unfold State.enabled State.bit
        rw [State.settle_fld _ (hev _ (by decide)), State.fld_raise_page _ (by decide)]
        exact bne_eq_false_iff_eq.2 hen
      · unfold State.bit
        rw [State.settle_fld _ (hev _ (by decide)), State.fld_raise_page _ (by decide)]
        exact bne_eq_false_iff_eq.2 hdn
      · rw [State.settle_reg _ (hev _ (by decide))]
        exact State.raise_sets _ _ _ (by decide)
      · rw [seq_settle, State.seq_raise, State.seq_modSeq, hseq]
      · rw [seq_settle, State.seq_raise, State.seq_modSeq_ne _ _ hm, hseq]
      · rw [List.mem_cons, List.mem_singleton, not_or] at ha
        rw [State.settle_reg_keep _ hni, State.reg_raise_ne _ ha.2]
        exact hreg a ha.1
      · refine OnlySeqs_trans ?_ (settle_delivers _).onlySeqs
        obtain ⟨es, e⟩ := (v.modSeq n fun q => { q with ending := false, stopReq := false }).raiseBits_eq b (BitVec.ofNat 32 (2 ^ 0))
        unfold State.raise
        rw [e, hv]
        rfl
    · show execSeqStopped n s = _
      unfold execSeqStopped
      simp only [he, Bool.false_and, Bool.false_eq_true, if_false]

end Sys2Proof.Machine
end

section
/-!
Operations that work in one page: the registers they may write, by their offsets, and the shots they charge. A parity failure that
shows in a page, and the re-fetch that it asks for.
-/
namespace Sys2Proof.Machine

/-! ### The registers of one page -/

/-- Of the registers only those at the given offsets of the page at `b` differ. -/
def PageRegs (b : Nat) (offs : List Nat) (s t : State) : Prop := ∀ a, a ∉ offs.map (b + ·) → t.reg a = s.reg a

section
variable {b : Nat} {offs : List Nat} {s t u : State}

theorem PageRegs.refl : PageRegs b offs s s := fun _ _ => rfl

theorem PageRegs.trans (h : PageRegs b offs s t) (k : PageRegs b offs t u) : PageRegs b offs s u :=
  fun a ha => (k a ha).trans (h a ha)

theorem PageRegs.mono {l : List Nat} (h : PageRegs b l s t) (hl : l ⊆ offs) : PageRegs b offs s t :=
  fun a ha => h a fun hm => ha (List.map_subset _ hl hm)

theorem PageRegs.of_regs (h : t.regs = s.regs) : PageRegs b offs s t := fun a _ => State.reg_congr h a

theorem PageRegs.of_one {o : Nat} (ho : o ∈ offs) (h : ∀ a, a ≠ b + o → t.reg a = s.reg a) : PageRegs b offs s t :=
  fun a ha => h a fun e => ha (e ▸ List.mem_map_of_mem ho)

theorem PageRegs.setFld (h : PageRegs b offs s t) {r : Row} {v i : Nat} (ho : r.off + r.stride * i ∈ offs) :
    PageRegs b offs s (t.setFld b r v i) :=
  h.trans (.of_one ho fun _ ha => State.reg_setFld_ne t (by rwa [Nat.add_assoc]))

theorem PageRegs.raise (h : PageRegs b offs s t) {i : Nat} (ho : 0x010 ∈ offs) : PageRegs b offs s (t.raise b i) :=
  h.trans (.of_one ho fun _ ha => State.reg_raise_ne t ha)

theorem PageRegs.err (h : PageRegs b offs s t) {c i : Nat} (ho : 0x01C ∈ offs) : PageRegs b offs s (t.err b c i) :=
  h.trans (.of_one ho fun _ ha => State.reg_err_ne t ha)

theorem PageRegs.keep (h : PageRegs b offs s t) (k : u.regs = t.regs) : PageRegs b offs s u := h.trans (.of_regs k)

/-- A field whose offset is not listed reads as it did. -/
theorem PageRegs.fld (h : PageRegs b offs s t) {q : Row} {j : Nat} (ho : q.off + q.stride * j ∉ offs) :
    t.fld b q j = s.fld b q j := by
  unfold State.fld
  rw [Nat.add_assoc, h _ fun hm => ho ?_]
  obtain ⟨o, hm, e⟩ := List.mem_map.1 hm
  rwa [← Nat.add_left_cancel e]

theorem PageRegs.reg (h : PageRegs b offs s t) {o : Nat} (ho : o ∉ offs) : t.reg (b + o) = s.reg (b + o) := by
  refine h _ fun hm => ho ?_
  obtain ⟨_, hm, e⟩ := List.mem_map.1 hm
  rwa [← Nat.add_left_cancel e]

/-- Seen after delivery, which writes other pages. -/
theorem PageRegs.keepsRegs (h : PageRegs b offs s t) : KeepsRegs s t.settle (offs.map (b + ·)) :=
  fun a ha hni => (State.settle_reg_keep _ hni).trans (h a ha)

end

/-- Setting a status bit leaves the status bits that were set. -/
theorem raise_keeps {s : State} {b i j : Nat} (h : (s.reg (b + 0x010)).getLsbD j = true) :
    ((s.raise b i).reg (b + 0x010)).getLsbD j = true := by
  unfold State.raise
  rw [raiseBits_reg, if_pos rfl, BitVec.getLsbD_or, h, Bool.true_or]

/-- An error leaves a capture whose code is not higher. -/
theorem err_keeps {s : State} {b k d : Nat} (hv : s.bit b Reg.Hdr.VALID = true) (hk : s.fld b Reg.Hdr.CODE ≤ k) :
    (s.err b k d).fld b Reg.Hdr.CODE = s.fld b Reg.Hdr.CODE ∧ (s.err b k d).fld b Reg.Hdr.INFO = s.fld b Reg.Hdr.INFO := by
  unfold State.err
  simp only [hv, Nat.not_lt.2 hk, decide_false, Bool.and_false, Bool.not_true, Bool.false_eq_true, if_false]
  exact ⟨State.fld_setFld_apart _ _ _ _ ⟨by decide, by decide⟩ (.inr (by decide)),
    State.fld_setFld_apart _ _ _ _ ⟨by decide, by decide⟩ (.inr (by decide))⟩

/-- A counter of 16 bits or fewer counts one more, and stops at its greatest value. -/
theorem inc_fld {s : State} {b : Nat} {r : Row} (hr : r.fits) :
    (s.inc b r).fld b r = min (s.fld b r + 1) (2 ^ r.width - 1) := by
  unfold State.inc State.addSat
  rw [State.fld_setFld_same _ _ hr, Nat.mod_eq_of_lt]
  have := Nat.two_pow_pos r.width
  omega

/-! ### Charges -/

theorem charge_regs (s : State) (tag : Tag) (i : Nat) : (s.charge tag i).regs = s.regs := by
  unfold State.charge; split <;> rfl

theorem charged_flag (s : State) (tag : Tag) {i j : Nat} (h : j < 16) (hij : i = j ∨ Flag.spoils i = true ∧ j = 0) :
    Charged (s.charge tag i) tag j := by
  rintro k num rfl x hx hn
  unfold State.charge State.modShot at hx
  rw [State.seq_modSeq] at hx
  obtain ⟨y, _, rfl⟩ := List.mem_map.1 hx
  by_cases e : y.num = num
  · simp only [e, if_true, Shot.flag]
    obtain rfl | ⟨hs, rfl⟩ := hij
    · have hb : (BitVec.ofNat 16 (2 ^ i)).getLsbD i = true := by
        rw [BitVec.getLsbD_ofNat, Nat.testBit_two_pow_self]; simpa using h
      split <;> simp only [BitVec.getLsbD_or, hb, Bool.or_true, Bool.true_or]
    · rw [if_pos hs, BitVec.getLsbD_or, show (1 : BitVec 16).getLsbD 0 = true from rfl, Bool.or_true]
  · simp only [e, if_false] at hn

theorem charged_congr {s t : State} {tag : Tag} {i : Nat} (h : Charged s tag i) (e : t.seqs = s.seqs) : Charged t tag i := by
  intro k num ht x hx
  rw [seq_congr e] at hx
  exact h k num ht x hx

/-! ### Re-fetches from the shadow -/

/-- A read that its port may make enters the queue of its channel: no register changes. -/
theorem dramEnter_read_frame {s s₀ : State} {port da w : Nat} {panic : Bool} {use : DramUse} (may : s.portMay port da = true)
    (h : Frame w s₀ s) (le : 4194304 ||| w = w) : Frame w s₀ (s.dramEnter port false da panic use) := by
  refine h.step ?_ le
  unfold State.dramEnter
  simp only [may, Bool.not_true, Bool.false_eq_true, if_false]
  split <;> exact State.modDch_frame _ _ _ (Frame.refl _ _) (by decide)

/-- A read that its port may make is granted, or waits: no register changes. -/
theorem dramRequest_read_frame {s s₀ : State} {port fn da w : Nat} {panic : Bool} (may : ∀ t : State, t.portMay port da = true)
    (h : Frame w s₀ s) (le : 21004288 ||| w = w) : Frame w s₀ (s.dramRequest port fn false da panic) := by
  refine h.step ?_ le
  unfold State.dramRequest
  dsimp only
  split
  · exact Frame.upd_dwait _ _ (Frame.refl _ _) (by decide)
  · split
    next t ht =>
      exact dramEnter_read_frame (may t) (State.chargePort_frame s port fn ht (Frame.refl _ _) (by decide)) (by decide)
    · exact Frame.upd_dwait _ _ (Frame.refl _ _) (by decide)

/-- A re-fetch reads the shadow, where port 0 may read. -/
theorem refetch_shadow_frame {s s₀ : State} {o w : Nat} (ho : o < 0x0400_0000) (h : Frame w s₀ s) (le : 21004288 ||| w = w) :
    Frame w s₀ (s.refetch (shadowAt o)) := by
  refine dramRequest_read_frame (fun t => ?_) h le
  unfold State.portMay shadowAt
  simp only [Bool.or_eq_true, decide_eq_true_eq]
  omega

theorem refetch_shadow_regs {s : State} {o : Nat} (ho : o < 0x0400_0000) : (s.refetch (shadowAt o)).regs = s.regs :=
  (refetch_shadow_frame (w := 21004288) ho (Frame.refl _ _) (by decide)).regs (by decide)

end Sys2Proof.Machine
end

section
/-!
O31: decision points, boundaries, granule checks and re-fetches of a tone engine. Each step of a play works on one engine and in the
page of that engine.
-/
namespace Sys2Proof.Machine

/-! ### Steps of one tone engine -/

/-- `t` is `s` after operations of tone engine `n` that write registers at the given offsets of its page, and otherwise the fields
whose bits are set. -/
structure ToneStep (n : Nat) (offs : List Nat) (w : Nat) (s t : State) : Prop where
  tone : ∀ m, m ≠ n → t.tone m = s.tone m
  regs : PageRegs (Base.tone n) offs s t
  frame : Frame w s t

/-- The fields that OnlyTone and OnlyToneRead let change, as the bits of a frame. -/
abbrev onlyToneBits : Nat := 108086393876907136
abbrev onlyToneReadBits : Nat := 108086393897911424

theorem tone_congr {s t : State} (h : t.tones = s.tones) (m : Nat) : t.tone m = s.tone m := by unfold State.tone; rw [h]

theorem tone_settle (s : State) (m : Nat) : s.settle.tone m = s.tone m := tone_congr s.settle_tones m

theorem tone_not_irq {n : Fin 512} {off : Nat} (h : off < 0x1000) : evPage (Base.tone n + off) = false := by
  have : ¬ evPage (Base.tone n + off) = true := by
    have := n.isLt
    rw [evPage_iff]
    unfold Base.tone
    omega
  simpa using this

theorem tone_fld_settle (s : State) (n : Fin 512) {q : Row} {j : Nat} (h : q.off + q.stride * j < 0x1000) :
    s.settle.fld (Base.tone n) q j = s.fld (Base.tone n) q j :=
  s.settle_fld (by rw [Nat.add_assoc]; exact tone_not_irq h)

theorem tone_reg_settle (s : State) (n : Fin 512) {o : Nat} (h : o < 0x1000) :
    s.settle.reg (Base.tone n + o) = s.reg (Base.tone n + o) :=
  s.settle_reg (tone_not_irq h)

section
variable {n w v : Nat} {offs : List Nat} {s t u : State}

theorem ToneStep.refl : ToneStep n offs w s s := ⟨fun _ _ => rfl, .refl, Frame.refl _ _⟩

theorem ToneStep.trans (h : ToneStep n offs w s t) (k : ToneStep n offs w t u) : ToneStep n offs w s u :=
  ⟨fun m hm => (k.tone m hm).trans (h.tone m hm), h.regs.trans k.regs, h.frame.trans k.frame⟩

theorem ToneStep.mono {l : List Nat} (h : ToneStep n l v s t) (hl : l ⊆ offs) (le : v ||| w = w) : ToneStep n offs w s t :=
  ⟨h.tone, h.regs.mono hl, h.frame.mono le⟩

/-- An operation that changes no engine. -/
theorem ToneStep.of_tones (hr : PageRegs (Base.tone n) offs s t) (hf : Frame w s t) (ht : w.testBit 31 = false) :
    ToneStep n offs w s t :=
  ⟨fun m _ => tone_congr (hf.tones ht) m, hr, hf⟩

theorem ToneStep.modTone {f : ToneSt → ToneSt} : ToneStep n [] 2147483648 s (s.modTone n f) :=
  ⟨fun _ hm => State.tone_modTone_ne s f hm, .of_regs rfl, State.modTone_frame (w := 2147483648) s n f (Frame.refl _ _) (by decide)⟩

theorem ToneStep.onlyTone {n : Fin 512} (h : ToneStep n offs w s t) (le : w ||| onlyToneBits = onlyToneBits) :
    OnlyTone s t.settle n offs :=
  ⟨fun m hm => (tone_settle t m).trans (h.tone m hm), h.regs.keepsRegs,
    ((h.frame.mono le).trans ((settle_frame t).mono (by decide))).eq⟩

theorem ToneStep.onlyToneRead {n : Fin 512} {bad : Bool}
    (h : ToneStep n (if bad then 0x010 :: 0x01C :: offs else offs) (if bad then onlyToneReadBits else onlyToneBits) s t) :
    OnlyToneRead s t.settle n bad offs := by
  refine ⟨fun m hm => (tone_settle t m).trans (h.tone m hm), h.regs.keepsRegs, ?_, ?_⟩
  · rintro rfl
    have f := h.frame.trans ((settle_frame t).mono (by decide))
    exact ⟨f.used (by decide), f.dchs (by decide), f.dwait (by decide)⟩
  · have f : Frame onlyToneReadBits s t := h.frame.mono (by cases bad <;> decide)
    exact (f.trans ((settle_frame t).mono (by decide))).eq

end

/-! ### What the operations on a play write -/

section
variable (s : State) (n : Nat)

theorem showTone_step : ToneStep n toneShow 128 s (s.showTone n) := by
  refine .of_tones ?_ (State.showTone_frame (w := 128) s n (Frame.refl _ _) (by decide)) (by decide)
  unfold State.showTone
  dsimp only
  cases (s.tone n).play <;> rcases (s.tone n).cont with _ | _ | c <;>
    repeat (first | refine PageRegs.setFld ?_ (by decide) | exact PageRegs.refl)

theorem showTone_cur {p : Play} (h : (s.tone n).play = some p) :
    (s.showTone n).fld (Base.tone n) Reg.Tone.CUR_ENTRY = p.e.idx % 2 ^ 16 := by
  unfold State.showTone
  simp only [h]
  rcases (s.tone n).cont with _ | _ | c <;>
    rw [State.fld_setFld_page _ (by decide), State.fld_setFld_page _ (by decide), State.fld_setFld_page _ (by decide),
      State.fld_setFld_apart _ _ _ _ ⟨by decide, by decide⟩ (.inr (by decide)), State.fld_setFld_same _ _ ⟨by decide, by decide⟩] <;>
    rfl

theorem showTone_cur_none (h : (s.tone n).play = none) :
    (s.showTone n).fld (Base.tone n) Reg.Tone.CUR_ENTRY = 0xFFFF := by
  unfold State.showTone
  simp only [h]
  rcases (s.tone n).cont with _ | _ | c <;>
    rw [State.fld_setFld_page _ (by decide), State.fld_setFld_page _ (by decide),
      State.fld_setFld_apart _ _ _ _ ⟨by decide, by decide⟩ (.inr (by decide)), State.fld_setFld_same _ _ ⟨by decide, by decide⟩] <;>
    rfl

theorem notePanic_step : ToneStep n [0x010] 36028797018964096 s (s.notePanic n) := by
  refine .of_tones ?_ (State.notePanic_frame (w := 36028797018964096) s n (Frame.refl _ _) (by decide)) (by decide)
  unfold State.notePanic
  split
  · exact PageRegs.refl.raise (by decide)
  · exact .refl

theorem notePanic_keeps {i : Nat} (h : (s.reg (Base.tone n + 0x010)).getLsbD i = true) :
    ((s.notePanic n).reg (Base.tone n + 0x010)).getLsbD i = true := by
  unfold State.notePanic
  split
  · exact raise_keeps h
  · exact h

theorem raise_step (i : Nat) : ToneStep n [0x010] 36028797018964096 s (s.raise (Base.tone n) i) :=
  .of_tones (PageRegs.refl.raise (by decide)) (State.raise_frame _ _ _ (Frame.refl _ _) (by decide)) (by decide)

theorem charge_step (tag : Tag) (i : Nat) : ToneStep n [] 1024 s (s.charge tag i) :=
  .of_tones (.of_regs (charge_regs s tag i)) (State.charge_frame (w := 1024) s tag i (Frame.refl _ _) (by decide)) (by decide)

theorem toneUnderrun_step (p : Play) : ToneStep n [0x010, 0x060] 36028797018965120 s (s.toneUnderrun n p) := by
  refine .of_tones ?_ (State.toneUnderrun_frame (w := 36028797018965120) s n p (Frame.refl _ _) (by decide)) (by decide)
  unfold State.toneUnderrun
  refine PageRegs.keep ?_ (charge_regs _ _ _)
  refine PageRegs.raise ?_ (by decide)
  exact (PageRegs.refl.setFld (r := Reg.Tone.UR_CAUSE) (by decide)).setFld (by decide)

/-- A read that failed its parity: PARITY and the capture. -/
def State.parityShown (s : State) (n j : Nat) : State := (s.err (Base.tone n) 0x10 j).raise (Base.tone n) 8

theorem parityShown_step (j : Nat) : ToneStep n [0x010, 0x01C] 108086391056892032 s (s.parityShown n j) := by
  refine .of_tones ((PageRegs.refl.err (by decide)).raise (by decide)) ?_ (by decide)
  exact State.raise_frame _ _ _ (State.err_frame _ _ _ _ (Frame.refl _ _) (by decide)) (by decide)

end

/-! ### Parity failures -/

section
variable {s t u : State} {n : Fin 512} {bad : Bool} {i : Nat}

theorem toneParity_shown : ToneParity s (s.parityShown n i) n bad i := by
  refine fun _ => ⟨State.raise_sets _ _ _ (by decide), fun hv => ?_⟩
  unfold State.parityShown
  rw [State.fld_raise_page _ (by decide), State.fld_raise_page _ (by decide)]
  exact ⟨(State.err_captures s hv).1, (State.err_captures s hv).2.1⟩

/-- Later work in the page leaves PARITY and the capture as they are. -/
theorem toneParity_keep {offs : List Nat} (h : ToneParity s t n bad i) (k : PageRegs (Base.tone n) offs t u) (ho : 0x01C ∉ offs)
    (hb : (t.reg (Base.tone n + 0x010)).getLsbD 8 = true → (u.reg (Base.tone n + 0x010)).getLsbD 8 = true) :
    ToneParity s u n bad i := by
  intro hbad
  obtain ⟨h8, hcap⟩ := h hbad
  refine ⟨hb h8, fun hv => ?_⟩
  rw [k.fld (q := Reg.Hdr.CODE) ho, k.fld (q := Reg.Hdr.INFO) ho]
  exact hcap hv

theorem toneParity_same {offs : List Nat} (h : ToneParity s t n bad i) (k : PageRegs (Base.tone n) offs t u) (ho : 0x01C ∉ offs)
    (hs : 0x010 ∉ offs) : ToneParity s u n bad i :=
  toneParity_keep h k ho fun h8 => by rwa [k.reg hs]

theorem toneParity_settle (h : ToneParity s t n bad i) : ToneParity s t.settle n bad i := by
  intro hbad
  obtain ⟨h8, hcap⟩ := h hbad
  rw [tone_reg_settle t n (by decide), tone_fld_settle t n (by decide), tone_fld_settle t n (by decide)]
  exact ⟨h8, hcap⟩

theorem toneEntryParity_false : s.toneEntryParity n i false = s := rfl

theorem toneEntryParity_true :
    s.toneEntryParity n i true = (s.parityShown n i).refetch (shadowAt (stOff (i % 2 ^ 16))) := rfl

theorem stOff_lt (i : Nat) : stOff (i % 2 ^ 16) < 0x0400_0000 := by
  have := Nat.mod_lt i (show 0 < 2 ^ 16 by decide)
  unfold stOff
  omega

theorem toneEntryParity_step :
    ToneStep n [0x010, 0x01C] 108086391077896320 s (s.toneEntryParity n i bad) := by
  cases bad
  · exact .refl
  · rw [toneEntryParity_true]
    refine ((parityShown_step s n i).mono (by decide) (by decide)).trans (.of_tones (.of_regs (refetch_shadow_regs (stOff_lt i))) ?_ (by decide))
    exact refetch_shadow_frame (stOff_lt i) (Frame.refl _ _) (by decide)

theorem toneParity_entry : ToneParity s (s.toneEntryParity n i bad) n bad i := by
  cases bad
  · exact fun h => absurd h (by decide)
  · rw [toneEntryParity_true]
    exact toneParity_same (offs := []) toneParity_shown (.of_regs (refetch_shadow_regs (stOff_lt i))) (by decide) (by decide)

theorem toneEntryFault_step {j : Nat} {tag : Tag} :
    ToneStep n [0x010, 0x01C] 108086391056893056 s (s.toneEntryFault n j tag) := by
  refine .of_tones ?_ (State.toneEntryFault_frame (w := 108086391056893056) s n j tag (Frame.refl _ _) (by decide)) (by decide)
  unfold State.toneEntryFault
  exact ((PageRegs.refl.err (by decide)).raise (by decide)).keep (charge_regs _ _ _)

theorem toneEntryFault_raises {j : Nat} {tag : Tag} : ((s.toneEntryFault n j tag).reg (Base.tone n + 0x010)).getLsbD 5 = true := by
  unfold State.toneEntryFault
  rw [State.reg_congr (charge_regs _ _ _)]
  exact State.raise_sets _ _ _ (by decide)

/-- The entry fault of an entry that failed its parity leaves the capture of the parity failure. -/
theorem toneParity_entryFault {j : Nat} {tag : Tag} :
    ToneParity s ((s.toneEntryParity n i bad).toneEntryFault n j tag) n bad i := by
  intro hbad
  obtain ⟨h8, hcap⟩ := toneParity_entry (s := s) (n := n) (i := i) hbad
  unfold State.toneEntryFault
  rw [State.reg_congr (charge_regs _ _ _), State.fld_congr (charge_regs _ _ _), State.fld_congr (charge_regs _ _ _),
    State.fld_raise_page _ (by decide), State.fld_raise_page _ (by decide)]
  refine ⟨raise_keeps ?_, fun hv => ?_⟩
  · rwa [State.reg_err_ne _ (by omega)]
  · have hv' : (s.toneEntryParity n i bad).bit (Base.tone n) Reg.Hdr.VALID = true := by
      rw [hbad, toneEntryParity_true]
      unfold State.bit
      rw [State.fld_congr (refetch_shadow_regs (stOff_lt i))]
      unfold State.parityShown
      rw [State.fld_raise_page _ (by decide)]
      exact (State.err_captures s hv).2.2
    obtain ⟨hc, hi⟩ := hcap hv
    obtain ⟨ec, ei⟩ := err_keeps (k := 0x11) (d := j) hv' (by rw [hc]; decide)
    exact ⟨ec.trans hc, ei.trans hi⟩

/-! ### Decision points -/

/-- Whether an entry is valid does not turn on the page of a tone engine's status. -/
theorem entryValid_step (h : PageRegs (Base.tone n) [0x010, 0x01C] s t) (e : Entry) :
    t.entryValid (t.owner (Base.tone n)) e = s.entryValid (s.owner (Base.tone n)) e := by
  have ho : t.owner (Base.tone n) = s.owner (Base.tone n) := h.fld (by decide)
  have hf (f : Nat) (q : Row) : t.fld (Base.fn f) q = s.fld (Base.fn f) q := by
    unfold State.fld
    rw [h]
    have := n.isLt
    simp only [List.map_cons, List.map_nil, List.mem_cons, List.not_mem_nil, or_false]
    unfold Base.fn Base.tone
    omega
  unfold State.entryValid State.inSt State.inPm
  simp only [ho, hf]

theorem resolve_end {x : ToneSt} {p : Play} (h : playNext x p = none) : x.resolve p = none := by
  unfold playNext at h
  unfold ToneSt.resolve
  grind

theorem resolve_entry {x : ToneSt} {p : Play} (h : playNext x p = some i) :
    ∃ left poster tag, x.resolve p = some (i, left, poster, tag) ∧ ∀ e, contLeft p e left = leftAfter p e := by
  unfold playNext at h
  unfold ToneSt.resolve contLeft leftAfter
  by_cases hs : (x.stop || x.norm) = true
  · simp only [hs, if_true, reduceCtorEq] at h
  simp only [hs] at h ⊢
  cases hj : p.jump with
  | some j =>
    simp only [hj] at h
    by_cases ht : j.target = 0xFFFF <;> simp_all
    exact h.2 ▸ h.1
  | none =>
    simp only [hj] at h
    by_cases hh : p.e.hold = true
    · simp_all
    · by_cases hl : 0 < p.left <;> simp_all
      exact h.2 ▸ h.1

theorem toneDecisionPoint_due {p : Play} (hp : (s.tone n).play = some p) (hc : (s.tone n).cont = none)
    (hd : p.start + 4 * p.e.len - 4 < 2 * (s.count + 2)) (bad : Bool) :
    exec (.toneDecisionPoint n bad) s = .next ((s.toneDecide n bad).showTone n).settle := by
  show execToneDecisionPoint n bad s = _
  unfold execToneDecisionPoint
  simp only [hp, hc, Option.isNone_none, Bool.true_and, State.due, Play.bound, hd, decide_true, if_true, finish]

theorem toneDecide_end {p : Play} (hp : (s.tone n).play = some p) (h : playNext (s.tone n) p = none) (bad : Bool) :
    s.toneDecide n bad = s.modTone n fun x => { x with cont := some none } := by
  unfold State.toneDecide
  simp only [hp, resolve_end h]

theorem toneDecide_entry {p : Play} (hp : (s.tone n).play = some p) (h : playNext (s.tone n) p = some i) (bad : Bool)
    (hv : s.entryValid (s.owner (Base.tone n)) (s.entry i) = true) :
    ∃ poster tag, s.toneDecide n bad = (s.toneEntryParity n i bad).modTone n fun x =>
      { x with cont := some (some (mkPlay (s.entry i) p.bound (leftAfter p (s.entry i)) poster tag bad)) } := by
  obtain ⟨left, poster, tag, hr, hl⟩ := resolve_entry h
  refine ⟨poster, tag, ?_⟩
  unfold State.toneDecide
  simp only [hp, hr, hl, entryValid_step toneEntryParity_step.regs, hv, if_true]

theorem toneDecide_invalid {p : Play} (hp : (s.tone n).play = some p) (h : playNext (s.tone n) p = some i) (bad : Bool)
    (hv : s.entryValid (s.owner (Base.tone n)) (s.entry i) = false) :
    ∃ tag, s.toneDecide n bad =
      ((s.toneEntryParity n i bad).toneEntryFault n i tag).modTone n fun x => { x with cont := some none } := by
  obtain ⟨left, poster, tag, hr, hl⟩ := resolve_entry h
  refine ⟨tag, ?_⟩
  unfold State.toneDecide
  simp only [hp, hr, entryValid_step toneEntryParity_step.regs, hv, Bool.false_eq_true, if_false]

theorem showTone_tone (s : State) (m k : Nat) : (s.showTone m).tone k = s.tone k :=
  tone_congr ((showTone_step s m).frame.tones (by decide)) k

theorem toneEntryParity_tone (m : Nat) : (s.toneEntryParity n i bad).tone m = s.tone m :=
  tone_congr (toneEntryParity_step.frame.tones (by decide)) m

theorem toneEntryFault_tone {j : Nat} {tag : Tag} (m : Nat) : (s.toneEntryFault n j tag).tone m = s.tone m :=
  tone_congr (toneEntryFault_step.frame.tones (by decide)) m

theorem decisionPoint_end {p : Play} (hp : (s.tone n).play = some p) (hc : (s.tone n).cont = none)
    (hd : p.start + 4 * p.e.len - 4 < 2 * (s.count + 2)) (h : playNext (s.tone n) p = none) :
    ∃ t, exec (.toneDecisionPoint n bad) s = .next t ∧ t.tone n = { s.tone n with cont := some none } ∧
      OnlyTone s t n toneShow := by
  refine ⟨_, toneDecisionPoint_due hp hc hd bad, ?_, ?_⟩
  · rw [tone_settle, showTone_tone, toneDecide_end hp h, State.tone_modTone]
  · rw [toneDecide_end hp h]
    exact ((ToneStep.modTone.mono (by decide) (by decide)).trans ((showTone_step _ n).mono (w := onlyToneBits) (by decide) (by decide))).onlyTone
      (by decide)

theorem decisionPoint_entry {p : Play} (hp : (s.tone n).play = some p) (hc : (s.tone n).cont = none)
    (hd : p.start + 4 * p.e.len - 4 < 2 * (s.count + 2)) (h : playNext (s.tone n) p = some i)
    (hv : s.entryValid (s.owner (Base.tone n)) (s.entry i) = true) :
    ∃ t c, exec (.toneDecisionPoint n bad) s = .next t ∧ t.tone n = { s.tone n with cont := some (some c) } ∧
      c.e = s.entry i ∧ c.start = p.start + 4 * p.e.len ∧ c.left = leftAfter p (s.entry i) ∧ c.jump = none ∧ c.bad = bad ∧
      ToneParity s t n bad i ∧ OnlyToneRead s t n bad toneShow := by
  obtain ⟨poster, tag, e⟩ := toneDecide_entry hp h bad hv
  refine ⟨_, mkPlay (s.entry i) p.bound (leftAfter p (s.entry i)) poster tag bad, toneDecisionPoint_due hp hc hd bad, ?_, rfl, rfl,
    rfl, rfl, rfl, ?_, ?_⟩
  · rw [tone_settle, showTone_tone, e, State.tone_modTone, toneEntryParity_tone]
  · rw [e]
    exact toneParity_settle (toneParity_same (toneParity_same toneParity_entry
      (ToneStep.modTone (n := n)).regs (by decide) (by decide)) (showTone_step _ n).regs (by decide) (by decide))
  · rw [e]
    refine ToneStep.onlyToneRead ?_
    cases bad
    · exact (ToneStep.modTone.mono (by decide) (by decide)).trans ((showTone_step _ n).mono (by decide) (by decide))
    · exact (toneEntryParity_step.mono (by decide) (by decide)).trans
        ((ToneStep.modTone.mono (by decide) (by decide)).trans ((showTone_step _ n).mono (by decide) (by decide)))

theorem decisionPoint_invalid {p : Play} (hp : (s.tone n).play = some p) (hc : (s.tone n).cont = none)
    (hd : p.start + 4 * p.e.len - 4 < 2 * (s.count + 2)) (h : playNext (s.tone n) p = some i)
    (hv : s.entryValid (s.owner (Base.tone n)) (s.entry i) = false) :
    ∃ t, exec (.toneDecisionPoint n bad) s = .next t ∧ t.tone n = { s.tone n with cont := some none } ∧
      (t.reg (Base.tone n + 0x010)).getLsbD 5 = true ∧ ToneParity s t n bad i ∧
      OnlyToneRead s t n bad (0x010 :: 0x01C :: toneShow) := by
  obtain ⟨tag, e⟩ := toneDecide_invalid hp h bad hv
  refine ⟨_, toneDecisionPoint_due hp hc hd bad, ?_, ?_, ?_, ?_⟩
  · rw [tone_settle, showTone_tone, e, State.tone_modTone, toneEntryFault_tone, toneEntryParity_tone]
  · rw [tone_reg_settle _ _ (by decide), (showTone_step _ n).regs.reg (by decide), e]
    exact toneEntryFault_raises
  · rw [e]
    exact toneParity_settle (toneParity_same (toneParity_same toneParity_entryFault
      (ToneStep.modTone (n := n)).regs (by decide) (by decide)) (showTone_step _ n).regs (by decide) (by decide))
  · rw [e]
    refine ToneStep.onlyToneRead ?_
    cases bad
    · exact (toneEntryFault_step.mono (by decide) (by decide)).trans
        ((ToneStep.modTone.mono (by decide) (by decide)).trans ((showTone_step _ n).mono (by decide) (by decide)))
    · exact (toneEntryParity_step.mono (by decide) (by decide)).trans
        ((toneEntryFault_step.mono (by decide) (by decide)).trans
          ((ToneStep.modTone.mono (by decide) (by decide)).trans ((showTone_step _ n).mono (by decide) (by decide))))

/-! ### Boundaries -/

theorem tonePlayBoundary_due {p : Play} (hp : (s.tone n).play = some p) (hd : p.start + 4 * p.e.len < 2 * (s.count + 2)) :
    exec (.tonePlayBoundary n) s = .next (s.toneBoundary n).settle := by
  show execTonePlayBoundary n s = _
  unfold execTonePlayBoundary
  simp only [hp, State.due, Play.bound, hd, decide_true, if_true, finish]

theorem playBoundary_next {p c : Play} (hp : (s.tone n).play = some p) (hd : p.start + 4 * p.e.len < 2 * (s.count + 2))
    (hc : (s.tone n).cont = some (some c)) :
    ∃ t, exec (.tonePlayBoundary n) s = .next t ∧ t.fld (Base.tone n) Reg.Tone.CUR_ENTRY = c.e.idx % 2 ^ 16 ∧
      t.tone n = { s.tone n with play := some { c with jump := p.deferred }, cont := none, stop := (s.seq c.poster).halted } ∧
      OnlyTone s t n toneShow := by
  have e : s.toneBoundary n = (s.modTone n fun x =>
      { x with play := some { c with jump := p.deferred }, cont := none, stop := (s.seq c.poster).halted }).showTone n := by
    unfold State.toneBoundary
    simp only [hp, hc, Option.isNone_some, Bool.false_eq_true, if_false]
  refine ⟨_, tonePlayBoundary_due hp hd, ?_, ?_, ?_⟩
  · rw [tone_fld_settle _ _ (by decide), e, showTone_cur (p := { c with jump := p.deferred })]
    rw [State.tone_modTone]
  · rw [tone_settle, e, showTone_tone, State.tone_modTone]
  · rw [e]
    exact ((ToneStep.modTone.mono (by decide) (by decide)).trans ((showTone_step _ n).mono (w := onlyToneBits) (by decide) (by decide))).onlyTone
      (by decide)

theorem playBoundary_end {p : Play} (hp : (s.tone n).play = some p) (hd : p.start + 4 * p.e.len < 2 * (s.count + 2))
    (hc : (s.tone n).cont = some none) :
    ∃ t, exec (.tonePlayBoundary n) s = .next t ∧ (t.reg (Base.tone n + 0x010)).getLsbD 0 = true ∧
      t.tone n = { s.tone n with play := none, cont := none, stop := false, norm := false } ∧
      t.fld (Base.tone n) Reg.Tone.CUR_ENTRY = 0xFFFF ∧ OnlyTone s t n (0x010 :: toneShow) := by
  have e : s.toneBoundary n = ((s.modTone n fun x =>
      { x with play := none, cont := none, stop := false, norm := false }).showTone n).raise (Base.tone n) 0 := by
    unfold State.toneBoundary
    simp only [hp, hc, Option.isNone_some, Bool.false_eq_true, if_false]
  refine ⟨_, tonePlayBoundary_due hp hd, ?_, ?_, ?_, ?_⟩
  · rw [tone_reg_settle _ _ (by decide), e]
    exact State.raise_sets _ _ _ (by decide)
  · rw [tone_settle, e, State.tone_raise, showTone_tone, State.tone_modTone]
  · rw [tone_fld_settle _ _ (by decide), e, State.fld_raise_page _ (by decide), showTone_cur_none]
    rw [State.tone_modTone]
  · rw [e]
    refine ToneStep.onlyTone (w := onlyToneBits) ?_ (by decide)
    refine (ToneStep.modTone.mono (by decide) (by decide)).trans (((showTone_step _ n).mono (by decide) (by decide)).trans
      ((raise_step _ n 0).mono (by decide) (by decide)))

/-- Before its last granule begins nothing is decided of a play, and it goes on. -/
theorem toneProgress_early {p : Play} (hp : (s.tone n).play = some p) (hd : 2 * (s.count + 2) ≤ p.start + 4 * p.e.len - 4)
    (bad : Bool) : exec (.toneDecisionPoint n bad) s = .next s ∧ exec (.tonePlayBoundary n) s = .next s := by
  constructor
  · show execToneDecisionPoint n bad s = _
    unfold execToneDecisionPoint
    simp only [hp, State.due, Play.bound, Nat.not_lt.2 hd, decide_false, Bool.and_false, Bool.false_eq_true, if_false]
  · show execTonePlayBoundary n s = _
    unfold execTonePlayBoundary
    simp only [hp, State.due, Play.bound, Nat.not_lt.2 (Nat.le_trans hd (Nat.sub_le _ _)), decide_false, Bool.false_eq_true,
      if_false]

/-! ### Granule checks -/

theorem toneUnderrun_tone (s : State) (m k : Nat) (p : Play) : (s.toneUnderrun m p).tone k = s.tone k :=
  tone_congr ((toneUnderrun_step s m p).frame.tones (by decide)) k

theorem notePanic_tone (s : State) (m k : Nat) : (s.notePanic m).tone k = s.tone k :=
  tone_congr ((notePanic_step s m).frame.tones (by decide)) k

theorem toneUnderrun_shows (s : State) (m : Nat) (p : Play) :
    let b := Base.tone m
    (s.toneUnderrun m p).bit b Reg.Tone.UR_CAUSE = !(s.ringUnread (s.fld b Reg.Tone.STRM_RING)) ∧
      (s.toneUnderrun m p).fld b Reg.Tone.UNDERRUN_COUNT = min (s.fld b Reg.Tone.UNDERRUN_COUNT + 1) (2 ^ 16 - 1) ∧
      ((s.toneUnderrun m p).reg (b + 0x010)).getLsbD 2 = true ∧
      ((s.reg (b + 0x010)).getLsbD 8 = true → ((s.toneUnderrun m p).reg (b + 0x010)).getLsbD 8 = true) ∧
      Charged (s.toneUnderrun m p) p.tag Flag.UNDERRUN ∧ Charged (s.toneUnderrun m p) p.tag Flag.SPOILED := by
  intro b
  unfold State.toneUnderrun
  dsimp only
  refine ⟨?_, ?_, ?_, fun h8 => ?_, charged_flag _ _ (by decide) (.inl rfl), charged_flag _ _ (by decide) (.inr ⟨rfl, rfl⟩)⟩
  · unfold State.bit
    rw [State.fld_congr (charge_regs _ _ _), State.fld_raise_page _ (by decide)]
    unfold State.inc State.addSat State.setBit
    rw [State.fld_setFld_apart _ _ _ _ ⟨by decide, by decide⟩ (.inl (by decide)), State.fld_setFld_same _ _ ⟨by decide, by decide⟩]
    cases s.ringUnread (s.fld b Reg.Tone.STRM_RING) <;> rfl
  · rw [State.fld_congr (charge_regs _ _ _), State.fld_raise_page _ (by decide), inc_fld ⟨by decide, by decide⟩]
    unfold State.setBit
    rw [State.fld_setFld_apart _ _ _ _ ⟨by decide, by decide⟩ (.inr (by decide))]
    rfl
  · rw [State.reg_congr (charge_regs _ _ _)]
    exact State.raise_sets _ _ _ (by decide)
  · rw [State.reg_congr (charge_regs _ _ _)]
    refine raise_keeps ?_
    unfold State.inc State.addSat State.setBit
    rwa [State.reg_setFld_ne _ (by simp [Reg.Tone.UNDERRUN_COUNT]), State.reg_setFld_ne _ (by simp [Reg.Tone.UR_CAUSE])]

theorem modPlay_step (m : Nat) (cont : Bool) (f : Play → Play) : ToneStep m [] 2147483648 s (s.modPlay m cont f) := .modTone

theorem toneGranule_step (m : Nat) (cont : Bool) (p : Play) (recs : List Nat) :
    ToneStep m [] 2147483648 s (s.toneGranule m cont p recs) := ToneStep.modTone.trans (modPlay_step m cont _)

theorem toneQuiet_step (m : Nat) (cont : Bool) (p : Play) : ToneStep m [] 2147483648 s (s.toneQuiet m cont p) :=
  ToneStep.modTone.trans (modPlay_step m cont _)

theorem toneCheck_resident {p : Play} (hq : p.e.quiet = false) (hs : p.e.strm = false) (m : Nat) (cont : Bool)
    (f : Option (Fin 4)) :
    ∃ fr, s.toneCheck m cont p f = (((s.modPlay m cont fun p => { p with frame := fr }).checkResident m cont
      { p with frame := fr } f).notePanic m).showTone m := by
  refine ⟨if p.check = p.start ∧ p.e.frm then s.frameFor m p.start else p.frame, ?_⟩
  unfold State.toneCheck
  simp only [hq, hs, Bool.false_eq_true, if_false]

theorem granuleCheck_due {p : Play} (hp : (s.tone n).play = some p) (hl : p.check < p.start + 4 * p.e.len)
    (hd : p.check - 2 < 2 * (s.count + 2)) (f : Option (Fin 4)) :
    exec (.toneGranuleCheck n f) s = .next (s.toneCheck n false p f).settle := by
  show execToneGranuleCheck n f s = _
  unfold execToneGranuleCheck
  simp only [hp, State.due, Play.bound, hl, hd, decide_true, if_true, finish]

theorem checkResident_good {p : Play} (hb : p.bad = false) (m : Nat) (cont : Bool)
    (h : ∀ j, j < 4 → p.e.pbase + (p.check - p.start) + j ∉ (s.tone m).refetch) :
    s.checkResident m cont p none = s.toneGranule m cont p
      ((List.range 4).map fun j => s.record (p.e.pbase + (p.check - p.start) + j)) := by
  have late : ((List.range 4).any fun j => (s.tone m).refetch.contains (p.e.pbase + (p.check - p.start) + j)) = false := by
    rw [List.any_eq_false]
    intro j hj
    simpa using h j (List.mem_range.1 hj)
  unfold State.checkResident
  simp only [late, hb, Bool.or_self, Bool.false_eq_true, if_false]

/-- The state in which a granule with a bad record goes quiet: the failure shown, the record to come, its read asked for. -/
def State.recordAsked (s : State) (m j : Nat) : State :=
  ((s.parityShown m j).modTone m fun x => { x with refetch := x.refetch ++ [j] }).refetch (shadowAt (8 * (j % 2 ^ 22)))

theorem recordOff_lt (j : Nat) : 8 * (j % 2 ^ 22) < 0x0400_0000 := by
  have := Nat.mod_lt j (show 0 < 2 ^ 22 by decide)
  omega

theorem recordAsked_step (s : State) (m j : Nat) : ToneStep m [0x010, 0x01C] 108086393225380992 s (s.recordAsked m j) :=
  ((parityShown_step s m j).mono (by decide) (by decide)).trans ((ToneStep.modTone.mono (by decide) (by decide)).trans
    (.mono (v := 21004288) (l := []) (.of_tones (.of_regs (refetch_shadow_regs (recordOff_lt j)))
      (refetch_shadow_frame (recordOff_lt j) (Frame.refl _ _) (by decide)) (by decide)) (by decide) (by decide)))

theorem recordAsked_tone (s : State) (m j : Nat) :
    (s.recordAsked m j).tone m = { s.tone m with refetch := (s.tone m).refetch ++ [j] } := by
  have h := (refetch_shadow_frame (s := (s.parityShown m j).modTone m fun x => { x with refetch := x.refetch ++ [j] })
    (w := 21004288) (recordOff_lt j) (Frame.refl _ _) (by decide)).tones (by decide)
  unfold State.recordAsked
  rw [tone_congr h, State.tone_modTone, tone_congr ((parityShown_step s m j).frame.tones (by decide))]

theorem checkResident_bad (p : Play) (m : Nat) (cont : Bool) (f : Fin 4) :
    s.checkResident m cont p (some f) =
      ((s.recordAsked m (p.e.pbase + (p.check - p.start) + f)).toneUnderrun m p).toneQuiet m cont p := by
  unfold State.checkResident
  dsimp only
  rw [if_pos]
  · rfl
  rw [Bool.or_eq_true, List.any_eq_true]
  refine .inr ⟨f, List.mem_range.2 f.isLt, ?_⟩
  show ((s.recordAsked m (p.e.pbase + (p.check - p.start) + f)).tone m).refetch.contains _ = true
  rw [recordAsked_tone]
  simp

theorem granuleCheck_good {p : Play} (hp : (s.tone n).play = some p) (hq : p.e.quiet = false) (hs : p.e.strm = false)
    (hl : p.check < p.start + 4 * p.e.len) (hd : p.check - 2 < 2 * (s.count + 2)) (hb : p.bad = false)
    (hr : ∀ i, i < 4 → p.e.pbase + (p.check - p.start) + i ∉ (s.tone n).refetch) :
    let base := p.e.pbase + (p.check - p.start)
    ∃ t g, exec (.toneGranuleCheck n none) s = .next t ∧ (t.tone n).grans = (s.tone n).grans ++ [g] ∧ g.start = p.check ∧
      g.stop = p.check + 4 ∧ g.recs = [s.record base, s.record (base + 1), s.record (base + 2), s.record (base + 3)] ∧
      (∃ q, (t.tone n).play = some q ∧ q.check = p.check + 4 ∧ q.e = p.e ∧ q.start = p.start ∧ q.left = p.left) ∧
      OnlyTone s t n (0x010 :: toneShow) := by
  intro base
  obtain ⟨fr, e⟩ := toneCheck_resident (s := s) hq hs n false none
  have h1 : (s.modPlay n false fun p => { p with frame := fr }).tone n = { s.tone n with play := some { p with frame := fr } } := by
    unfold State.modPlay
    rw [State.tone_modTone]
    simp only [Bool.false_eq_true, if_false, hp, Option.map_some]
  rw [checkResident_good (p := { p with frame := fr }) hb n false (by rw [h1]; exact hr)] at e
  have h2 : ∀ (u : State) recs, u.tone n = { s.tone n with play := some { p with frame := fr } } →
      (u.toneGranule n false { p with frame := fr } recs).tone n =
        { s.tone n with
          grans := (s.tone n).grans ++ [⟨p.check, p.check + 4, recs, fr, p.cohDue, p.e.strm, p.tag⟩]
          play := some { p with frame := fr, check := p.check + 4, cohDue := false } } := by
    intro u recs hu
    unfold State.toneGranule State.modPlay
    rw [State.tone_modTone, State.tone_modTone, hu]
    rfl
  refine ⟨_, ⟨p.check, p.check + 4, _, fr, p.cohDue, p.e.strm, p.tag⟩, granuleCheck_due hp hl hd none, ?_, rfl, rfl, rfl, ?_, ?_⟩
  · rw [tone_settle, e, showTone_tone, notePanic_tone, h2 _ _ h1]
    rfl
  · rw [tone_settle, e, showTone_tone, notePanic_tone, h2 _ _ h1]
    exact ⟨_, rfl, rfl, rfl, rfl, rfl⟩
  · rw [e]
    refine ToneStep.onlyTone (w := onlyToneBits) ?_ (by decide)
    exact ((modPlay_step _ _ _).mono (by decide) (by decide)).trans (((toneGranule_step _ _ _ _).mono (by decide) (by decide)).trans
      (((notePanic_step _ _).mono (by decide) (by decide)).trans ((showTone_step _ _).mono (by decide) (by decide))))

theorem granuleCheck_bad {p : Play} (hp : (s.tone n).play = some p) (hq : p.e.quiet = false) (hs : p.e.strm = false)
    (hl : p.check < p.start + 4 * p.e.len) (hd : p.check - 2 < 2 * (s.count + 2)) (f : Fin 4) :
    let b := Base.tone n
    let base := p.e.pbase + (p.check - p.start)
    ∃ t, exec (.toneGranuleCheck n (some f)) s = .next t ∧
      (∃ g, (t.tone n).grans = (s.tone n).grans ++ [g] ∧ g.start = p.check ∧ g.stop = p.check + 4 ∧ g.recs = []) ∧
      t.bit b Reg.Tone.UR_CAUSE = !(s.ringUnread (s.fld b Reg.Tone.STRM_RING)) ∧
      base + f.val ∈ (t.tone n).refetch ∧ (t.reg (b + 0x010)).getLsbD 2 = true ∧
      t.fld b Reg.Tone.UNDERRUN_COUNT = min (s.fld b Reg.Tone.UNDERRUN_COUNT + 1) (2 ^ 16 - 1) ∧
      ToneParity s t n true (base + f.val) ∧
      Charged t p.tag Flag.UNDERRUN ∧ Charged t p.tag Flag.SPOILED ∧
      OnlyToneRead s t n true (0x060 :: toneShow) := by
  intro b base
  obtain ⟨fr, e⟩ := toneCheck_resident (s := s) hq hs n false (some f)
  rw [checkResident_bad] at e
  have h1 : (s.modPlay n false fun p => { p with frame := fr }).tone n = { s.tone n with play := some { p with frame := fr } } := by
    unfold State.modPlay
    rw [State.tone_modTone]
    simp only [Bool.false_eq_true, if_false, hp, Option.map_some]
  have st1 := modPlay_step (s := s) n false fun p => { p with frame := fr }
  generalize (s.modPlay n false fun p => { p with frame := fr }) = s1 at e h1 st1
  change s.toneCheck n false p (some f) = ((((s1.recordAsked n (base + f)).toneUnderrun n { p with frame := fr }).toneQuiet n false
    { p with frame := fr }).notePanic n).showTone n at e
  have st2 := recordAsked_step s1 n (base + f)
  have h2 := recordAsked_tone s1 n (base + f)
  have hpar : ToneParity s1 (s1.recordAsked n (base + f)) n true (base + f) :=
    toneParity_same (toneParity_same toneParity_shown (ToneStep.modTone (n := n)).regs (by decide) (by decide))
      (.of_regs (offs := []) (refetch_shadow_regs (recordOff_lt _))) (by decide) (by decide)
  generalize s1.recordAsked n (base + f) = s2 at e st2 h2 hpar
  obtain ⟨hcause, hcount, h2b, h8, hch, hsp⟩ := toneUnderrun_shows s2 n { p with frame := fr }
  have st3 := toneUnderrun_step s2 n { p with frame := fr }
  have h3 : ((s2.toneUnderrun n { p with frame := fr }).toneQuiet n false { p with frame := fr }).tone n =
      { s2.tone n with
        grans := (s2.tone n).grans ++ [⟨p.check, p.check + 4, [], fr, false, false, p.tag⟩]
        play := (s2.tone n).play.map fun p => { p with check := p.check + 4 } } := by
    unfold State.toneQuiet State.modPlay
    rw [State.tone_modTone, State.tone_modTone, toneUnderrun_tone]
    rfl
  have st4 := (toneQuiet_step (s := s2.toneUnderrun n { p with frame := fr }) n false { p with frame := fr })
  generalize (s2.toneUnderrun n { p with frame := fr }) = s3 at *
  generalize s3.toneQuiet n false { p with frame := fr } = s4 at *
  have st5 := notePanic_step s4 n
  have st6 := showTone_step (s4.notePanic n) n
  have htone : ((s4.notePanic n).showTone n).tone n = s4.tone n := by rw [showTone_tone, notePanic_tone]
  have tail : PageRegs (Base.tone n) (0x010 :: toneShow) s3 ((s4.notePanic n).showTone n) :=
    (st4.regs.mono (by decide)).trans ((st5.regs.mono (by decide)).trans (st6.regs.mono (by decide)))
  have bits : ∀ i, (s3.reg (Base.tone n + 0x010)).getLsbD i = true →
      (((s4.notePanic n).showTone n).reg (Base.tone n + 0x010)).getLsbD i = true := fun i h => by
    rw [st6.regs.reg (by decide)]
    exact notePanic_keeps s4 n (by rwa [st4.regs.reg (by decide)])
  have hseqs : ((s4.notePanic n).showTone n).settle.seqs = s3.seqs := by
    rw [State.settle_seqs, st6.frame.seqs (by decide), st5.frame.seqs (by decide), st4.frame.seqs (by decide)]
  have head : PageRegs (Base.tone n) [0x010, 0x01C] s s2 := (st1.regs.mono (by decide)).trans st2.regs
  have hrings : s2.rings = s.rings := (st2.frame.rings (by decide)).trans (st1.frame.rings (by decide))
  refine ⟨_, granuleCheck_due hp hl hd (some f), ?_, ?_, ?_, ?_, ?_, ?_, ?_, ?_, ?_⟩ <;> rw [e]
  · rw [tone_settle, htone, h3, h2, h1]
    exact ⟨_, rfl, rfl, rfl, rfl⟩
  · unfold State.bit
    rw [tone_fld_settle _ _ (by decide), tail.fld (by decide)]
    refine hcause.trans ?_
    rw [head.fld (by decide)]
    unfold State.ringUnread State.ring
    rw [hrings]
  · rw [tone_settle, htone, h3, h2]
    simp
  · rw [tone_reg_settle _ _ (by decide)]
    exact bits 2 h2b
  · rw [tone_fld_settle _ _ (by decide), tail.fld (by decide), hcount, head.fld (by decide)]
  · have hp1 : ToneParity s s2 n true (base + f) := fun _ => ⟨(hpar rfl).1, fun hv => (hpar rfl).2 (by
      unfold State.bit at hv ⊢; rwa [st1.regs.fld (by decide)])⟩
    exact toneParity_settle (toneParity_keep (toneParity_keep hp1 st3.regs (by decide) h8) tail (by decide) (bits 8))
  · exact charged_congr hch hseqs
  · exact charged_congr hsp hseqs
  · refine ToneStep.onlyToneRead ?_
    exact (st1.mono (by decide) (by decide)).trans ((st2.mono (by decide) (by decide)).trans ((st3.mono (by decide) (by decide)).trans
      ((st4.mono (by decide) (by decide)).trans ((st5.mono (by decide) (by decide)).trans (st6.mono (by decide) (by decide))))))

/-! ### Re-fetches -/

theorem toneRefetch_back (hset : Settled s) (hf : s.frozen = false) :
    exec (.toneRefetchComplete n) s = .next (s.modTone n fun x =>
      { x with refetch := s.recordsOut x.refetch, play := x.play.map s.playBack, cont := x.cont.map fun c => c.map s.playBack }) := by
  show execToneRefetchComplete n s = _
  unfold execToneRefetchComplete
  simp only [hf, Bool.false_eq_true, if_false, finish]
  rw [settle_quiet (s := s.modTone n _) hset.1 hset.2]

end

/-- Settles O31, a lemma for each of its steps. -/
theorem tonePlayProgress : Obligations.TonePlayProgress := by
  unfold Obligations.TonePlayProgress
  refine ⟨?_, ?_⟩
  · intro n s p b x B hp
    refine ⟨fun bad hc hd => ⟨decisionPoint_end hp hc hd, fun i => decisionPoint_entry hp hc hd,
      fun i => decisionPoint_invalid hp hc hd⟩, fun hd => ⟨fun c => playBoundary_next hp hd, playBoundary_end hp hd⟩,
      fun hd => toneProgress_early hp hd, fun hq hs hl hd => ⟨granuleCheck_good hp hq hs hl hd, granuleCheck_bad hp hq hs hl hd⟩⟩
  · intro n s hset hf
    refine ⟨_, toneRefetch_back hset hf, fun i => ?_, fun p hp => ?_, ?_, fun m hm => State.tone_modTone_ne s _ hm, rfl⟩
    · rw [State.tone_modTone]
      exact List.mem_filter
    · rw [State.tone_modTone]
      refine ⟨p.bad && s.refetchOut (shadowAt (stOff (p.e.idx % 2 ^ 16))), by rw [hp]; rfl, fun h => by rw [h, Bool.and_false]⟩
    · rw [State.tone_modTone]

end Sys2Proof.Machine
end

section
/-!
O32: the refill of a stream buffer. A tone engine asks for one ring entry; the entry's records arrive when its read returns.
-/
namespace Sys2Proof.Machine

/-! ### What a note of panic leaves as it was -/

/-- Registers above the tone pages are not among those of a tone page. -/
theorem PageRegs.above {n : Fin 512} {offs : List Nat} {s t : State} (h : PageRegs (Base.tone n) offs s t)
    (ho : ∀ o ∈ offs, o < 0x1000) {a : Nat} (ha : 0x0040_0000 ≤ a) : t.reg a = s.reg a := by
  refine h a fun hm => ?_
  obtain ⟨o, hmem, rfl⟩ := List.mem_map.1 hm
  have h1 := ho o hmem
  have h2 := n.isLt
  unfold Base.tone at ha
  omega

section
variable {n : Fin 512} {s u : State} (h : ToneStep n [0x010] 36028797018964096 s u)
include h

theorem ToneStep.fldAbove {c : Nat} {q : Row} {i : Nat} (hc : 0x0040_0000 ≤ c) : u.fld c q i = s.fld c q i := by
  unfold State.fld
  rw [h.regs.above (by decide) (by omega)]

theorem ToneStep.ring (r : Nat) : u.ring r = s.ring r := by
  unfold State.ring
  rw [h.frame.rings (by decide)]

theorem ToneStep.ringFn (r : Nat) : u.ringFn r = s.ringFn r := by
  have hf (f : Nat) (q : Row) : u.fld (Base.fn f) q = s.fld (Base.fn f) q := h.fldAbove (by unfold Base.fn; omega)
  unfold State.ringFn
  simp only [hf]

theorem ToneStep.inVat (a k : Nat) : u.inVat a k = s.inVat a k := by
  have hf (q : Row) : u.fld Base.mc q = s.fld Base.mc q := h.fldAbove (by decide)
  unfold State.inVat
  simp only [hf]

theorem ToneStep.streamRing : u.fld (Base.tone n) Reg.Tone.STRM_RING = s.fld (Base.tone n) Reg.Tone.STRM_RING :=
  h.regs.fld (by decide)

theorem ToneStep.strmValid : u.strmValid n = s.strmValid n := by
  have ho : u.owner (Base.tone n) = s.owner (Base.tone n) := h.regs.fld (by decide)
  unfold State.strmValid State.ringValid
  simp only [h.streamRing, ho, h.ring, h.ringFn, h.inVat]

theorem ToneStep.same (m : Nat) : u.tone m = s.tone m := tone_congr (h.frame.tones (by decide)) m

theorem ToneStep.refillOpen : u.refillOpen n = s.refillOpen n := by
  have he : u.enabled (Base.tone n) = s.enabled (Base.tone n) := by
    unfold State.enabled State.bit
    rw [h.regs.fld (by decide)]
  unfold State.refillOpen
  simp only [he, h.same, h.streamRing, h.ring]

theorem ToneStep.dramShut : u.dramShut = s.dramShut := by
  have hc (c : Nat) (q : Row) : u.fld (Base.dch c) q = s.fld (Base.dch c) q := h.fldAbove (by unfold Base.dch; omega)
  have hm (q : Row) : u.fld Base.mc q = s.fld Base.mc q := h.fldAbove (by decide)
  have hd (c : Nat) : u.dch c = s.dch c := by unfold State.dch; rw [h.frame.dchs (by decide)]
  unfold State.dramShut State.frozen State.bit
  simp only [hc, hm, hd]

theorem ToneStep.chargeable : u.chargeRes (Base.tone n + 0x024) (u.limitOf (Base.tone n)) = none ↔
    s.chargeRes (Base.tone n + 0x024) (s.limitOf (Base.tone n)) = none := by
  unfold State.chargeRes State.usedOf State.limitOf State.limitWord
  rw [h.frame.used (by decide), h.frame.limits (by decide)]
  split <;> simp

theorem ToneStep.ringUnasked (r : Nat) : u.ringUnasked r = s.ringUnasked r := by
  unfold State.ringUnasked
  rw [h.ring]

end

/-! ### Refills that are not made -/

section
variable {n : Fin 512} {s : State}

/-- The refill asks for nothing and reports nothing. -/
theorem noRefill_notes (h : NoRefill s n) : exec (.toneStreamRefill n) s = .next (s.notePanic n).settle := by
  have st := notePanic_step s n
  show execToneStreamRefill n s = _
  unfold execToneStreamRefill
  generalize s.notePanic n = u at st
  dsimp only
  by_cases ho : (!u.refillOpen n || u.dramShut) = true
  · rw [if_pos ho]; rfl
  rw [if_neg ho]
  rw [st.refillOpen, st.dramShut] at ho
  split
  · rfl
  next t ht =>
    obtain ⟨he, hn⟩ | hb | hd | hc | ⟨hv, hm⟩ := h
    · exact absurd (by simp [State.refillOpen, he, hn]) ho
    · exact absurd (by simp only [State.refillOpen]; rw [decide_eq_false (by omega)]; simp) ho
    · exact absurd (by simp [hd]) ho
    · rw [st.chargeable.2 hc] at ht
      cases ht
    · have hu : u.ringUnasked (s.fld (Base.tone n) Reg.Tone.STRM_RING) = false := by
        rw [st.ringUnasked]
        unfold State.ringUnasked RingSt.next
        rw [hm, bne_self_eq_false]
      rw [st.strmValid, hv, hu]
      rfl

/-- A refill that can be made goes on with a unit of the budget charged. -/
theorem refill_charged (he : s.enabled (Base.tone n) = true) (h : ¬ NoRefill s n) :
    (s.notePanic n).refillOpen n = true ∧ (s.notePanic n).dramShut = false ∧
      ∃ u, (s.notePanic n).chargeRes (Base.tone n + 0x024) ((s.notePanic n).limitOf (Base.tone n)) = some u := by
  have st := notePanic_step s n
  unfold NoRefill at h
  simp only [not_or, not_and] at h
  obtain ⟨-, hb, hd, hc, -⟩ := h
  rw [st.refillOpen, st.dramShut]
  refine ⟨?_, by simpa using hd, Option.ne_none_iff_exists'.1 fun e => hc (st.chargeable.1 e)⟩
  unfold State.refillOpen
  rw [he, Bool.true_or, Bool.true_and, decide_eq_true_eq]
  omega

theorem refill_invalid (he : s.enabled (Base.tone n) = true) (h : ¬ NoRefill s n) (hv : s.strmValid n = false)
    (hs : (s.tone n).strmSeen = false) :
    exec (.toneStreamRefill n) s =
      .next (((s.notePanic n).strmFault n).modTone n fun t => { t with strmSeen := true }).settle := by
  obtain ⟨ho, hd, u, hu⟩ := refill_charged he h
  have st := notePanic_step s n
  show execToneStreamRefill n s = _
  unfold execToneStreamRefill
  simp only [ho, hd, Bool.not_true, Bool.or_self, Bool.false_eq_true, if_false, hu, st.strmValid, hv, Bool.not_false, if_true, st.same, hs,
    finish]

theorem strmFault_step (s : State) (n : Nat) : ToneStep n [0x010, 0x01C] 108086391056892032 s (s.strmFault n) :=
  .of_tones ((PageRegs.refl.err (by decide)).raise (by decide))
    (State.raise_frame _ _ _ (State.err_frame _ _ _ _ (Frame.refl _ _) (by decide)) (by decide)) (by decide)

end

/-! ### Refills that ask -/

/-- The context of a ring is read through port 4 from the context region. -/
theorem touchRing_read_frame {s s₀ : State} {r w : Nat} (hr : r < 2 ^ 18) (h : Frame w s₀ s) (le : 21528576 ||| w = w) :
    Frame w s₀ (s.touchRing r) := by
  have may (t : State) : t.portMay 4 (0x0800_0000 + r * 64) = true := by
    unfold State.portMay
    simp only [Bool.or_eq_true, decide_eq_true_eq]
    omega
  refine h.step ?_ le
  unfold State.touchRing
  split
  · exact Frame.refl _ _
  split
  · exact Frame.upd_ctxCache _ _ (Frame.refl _ _) (by decide)
  dsimp only
  split
  · exact dramRequest_read_frame may (Frame.upd_ctxCache _ _ (Frame.refl _ _) (by decide)) (by decide)
  · exact Frame.upd_ctxCache _ _ (Frame.refl _ _) (by decide)

/-- A read that its port may make stands in the queue of its channel, with the bytes of its block. -/
theorem dramEnter_read_queued {s : State} {port da : Nat} {panic : Bool} {use : DramUse} (may : s.portMay port da = true) :
    let c := dramCh (da / 64 * 64)
    let t := s.dramEnter port false da panic use
    ∃ q ∈ (t.dch c).reads ++ (t.dch c).inflight,
      q.use = use ∧ q.port = port ∧ q.write = false ∧ q.data = rdBytes s.dram (da / 64 * 64) 64 := by
  intro c t
  have ht : t = if (s.dch c).writes.any (fun w => w.da == da / 64 * 64) = true then
      s.modDch c fun d => { d with inflight := d.inflight ++
        [⟨port, false, da / 64 * 64, s.step0, s.fld Base.mc Reg.Mc.LT port, panic, use, rdBytes s.dram (da / 64 * 64) 64,
          (s.dch c).writes.any (fun w => w.da == da / 64 * 64) && !false⟩] }
    else s.modDch c fun d => { d with reads := d.reads ++
        [⟨port, false, da / 64 * 64, s.step0, s.fld Base.mc Reg.Mc.LT port, panic, use, rdBytes s.dram (da / 64 * 64) 64,
          (s.dch c).writes.any (fun w => w.da == da / 64 * 64) && !false⟩] } := by
    show State.dramEnter _ _ _ _ _ _ = _
    unfold State.dramEnter
    simp only [may, Bool.not_true, Bool.false_eq_true, if_false]
    rfl
  rw [ht]
  split <;> rw [State.dch_modDch] <;>
    exact ⟨_, by simp only [List.mem_append, List.mem_singleton]; tauto, rfl, rfl, rfl, rfl⟩

theorem inVat_congr {s t : State} (h : t.regs = s.regs) (a k : Nat) : t.inVat a k = s.inVat a k := by
  unfold State.inVat
  simp only [State.fld_congr h]

/-- Port 1 may read what lies in the vat region. -/
theorem portMay_vat {s : State} {da : Nat} (h : s.inVat da 64 = true) : s.portMay 1 da = true := by
  unfold State.portMay
  simp only [h]

/-- The slots of a ring in the vat region lie in the vat region. -/
theorem strmValid_slot {s : State} {n : Nat} (h : s.strmValid n = true) (i : Nat) :
    s.inVat ((s.ring (s.fld (Base.tone n) Reg.Tone.STRM_RING)).devSlot i) 64 = true := by
  unfold State.strmValid at h
  simp only [Bool.and_eq_true] at h
  obtain ⟨-, h⟩ := h
  unfold State.inVat at h ⊢
  generalize s.ring (s.fld (Base.tone n) Reg.Tone.STRM_RING) = x at h ⊢
  have hs : i % x.size < x.size := Nat.mod_lt _ (Nat.two_pow_pos _)
  simp only [decide_eq_true_eq] at h ⊢
  unfold RingSt.devSlot
  omega

section
variable {n : Fin 512} {s : State}

/-- The refill asks for the first entry of its ring that it has not asked for. -/
theorem refill_asks (he : s.enabled (Base.tone n) = true) (h : ¬ NoRefill s n) (hv : s.strmValid n = true) {r i : Nat}
    (hr : s.fld (Base.tone n) Reg.Tone.STRM_RING = r) (hi : (s.ring r).next (s.ring r).cons = i) :
    ∃ w panic, Frame 36028797040492672 s w ∧ PageRegs (Base.tone n) [0x010] s w ∧
      exec (.toneStreamRefill n) s = .next (((w.dramEnter 1 false ((s.ring r).devSlot i) panic (.stream n r i)).modRing r
        fun x => { x with asked := x.asked ++ [(i, none)] }).settle) ∧ w.portMay 1 ((s.ring r).devSlot i) = true := by
  obtain ⟨ho, hd, u, hu⟩ := refill_charged he h
  have st := notePanic_step s n
  have hun : s.ringUnasked r = true := by
    unfold NoRefill at h
    simp only [not_or, not_and] at h
    obtain ⟨-, -, -, -, hm⟩ := h
    unfold State.ringUnasked
    rw [bne_iff_ne]
    exact hr ▸ hm hv
  have fu : Frame 32768 (s.notePanic n) u := State.chargeRes_frame _ _ _ hu (Frame.refl _ _) (by decide)
  have hr18 : r < 2 ^ 18 := hr ▸ State.fld_lt s (Base.tone n) Reg.Tone.STRM_RING 0
  have fw : Frame 21528576 (s.notePanic n) (u.touchRing r) := touchRing_read_frame hr18 (fu.mono (by decide)) (by decide)
  have hring : (u.touchRing r).ring r = s.ring r := by
    refine Eq.trans ?_ (st.ring r)
    unfold State.ring
    rw [fw.rings (by decide)]
  have may : (u.touchRing r).portMay 1 ((s.ring r).devSlot i) = true := by
    have hslot : s.inVat ((s.ring r).devSlot i) 64 = true := hr ▸ strmValid_slot hv i
    rw [← st.inVat] at hslot
    exact portMay_vat ((inVat_congr (fw.regs (by decide)) _ _).trans hslot)
  refine ⟨u.touchRing r, (u.touchRing r).tonePanic n, (st.frame.mono (by decide)).trans (fw.mono (by decide)),
    st.regs.keep (fw.regs (by decide)), ?_, may⟩
  show execToneStreamRefill n s = _
  unfold execToneStreamRefill
  simp only [ho, hd, hu, st.strmValid, hv, st.ringUnasked, hr, hun, Bool.not_true, Bool.or_self, Bool.false_eq_true, if_false]
  unfold State.ringAsk finish
  simp only [hring, hi, may, if_true]

theorem refill_queued (he : s.enabled (Base.tone n) = true) (h : ¬ NoRefill s n) (hv : s.strmValid n = true) {r i da : Nat}
    (hr : s.fld (Base.tone n) Reg.Tone.STRM_RING = r) (hi : (s.ring r).next (s.ring r).cons = i)
    (hda : (s.ring r).devSlot i = da) :
    ∃ t, exec (.toneStreamRefill n) s = .next t ∧ (∀ m, t.tone m = s.tone m) ∧
      t.ring r = { s.ring r with asked := (s.ring r).asked ++ [(i, none)] } ∧
      (∃ q ∈ (t.dch (dramCh (da / 64 * 64))).reads ++ (t.dch (dramCh (da / 64 * 64))).inflight,
        q.use = .stream n r i ∧ q.port = 1 ∧ q.write = false ∧ q.data = rdBytes s.dram (da / 64 * 64) 64) ∧
      (∀ a, ¬ irqWrites a → ¬ memCtl a → a ≠ Base.tone n + 0x010 → t.reg a = s.reg a) ∧
      t.seqs = s.seqs ∧ t.dram = s.dram ∧ t.bar2 = s.bar2 ∧ t.count = s.count := by
  obtain ⟨w, panic, fw, hw, key, may⟩ := refill_asks he h hv hr hi
  rw [hda] at key may
  have fe := dramEnter_read_frame (w := 36028797040492672) (use := .stream n r i) (panic := panic) may fw (by decide)
  have re : PageRegs (Base.tone n) [0x010] s (w.dramEnter 1 false da panic (.stream n r i)) :=
    hw.keep ((dramEnter_read_frame (w := 4194304) may (Frame.refl _ _) (by decide)).regs (by decide))
  obtain ⟨q, hq, hq'⟩ := dramEnter_read_queued (panic := panic) (use := .stream n r i) may
  rw [show w.dram = s.dram from fw.dram (by decide)] at hq'
  generalize w.dramEnter 1 false da panic (.stream n r i) = v at fe re hq key
  have hring : v.ring r = s.ring r := by unfold State.ring; rw [fe.rings (by decide)]
  have fm : Frame 65536 v (v.modRing r fun x => { x with asked := x.asked ++ [(i, none)] }) :=
    State.modRing_frame _ _ _ (Frame.refl _ _) (by decide)
  have hz : (v.modRing r fun x => { x with asked := x.asked ++ [(i, none)] }).ring r =
      { s.ring r with asked := (s.ring r).asked ++ [(i, none)] } := by
    rw [State.ring_modRing, hring]
  generalize (v.modRing r fun x => { x with asked := x.asked ++ [(i, none)] }) = z at key fm hz
  have fs := settle_frame z
  have f : Frame 36028797040558208 s z := (fe.mono (by decide)).trans (fm.mono (by decide))
  refine ⟨_, key, fun m => ?_, ?_, ⟨q, ?_, hq'⟩, fun a hni _ ha => ?_, ?_, ?_, ?_, ?_⟩
  · rw [tone_settle]
    exact tone_congr (f.tones (by decide)) m
  · rw [← hz]
    unfold State.ring
    rw [fs.rings (by decide)]
  · unfold State.dch
    rw [fs.dchs (by decide), fm.dchs (by decide)]
    exact hq
  · rw [State.settle_reg_keep _ hni, State.reg_congr (fm.regs (by decide))]
    exact re a (by simpa using ha)
  · exact (fs.seqs (by decide)).trans (f.seqs (by decide))
  · exact (fs.dram (by decide)).trans (f.dram (by decide))
  · exact (fs.bar2 (by decide)).trans (f.bar2 (by decide))
  · exact (fs.count (by decide)).trans (f.count (by decide))

end

/-! ### Delivery -/

/-- Where the entry asked for first is delivered, and none behind it has been, that entry alone is given on. -/
theorem ringDrain_first {s : State} {r i : Nat} {bs : List Byte} {rest : List (Nat × Option (List Byte))}
    {k : State → Nat → List Byte → State} (ha : (s.ring r).asked = (i, some bs) :: rest) (hr : ∀ e ∈ rest, e.2 = none)
    (hk : ((k (s.modRing r fun x => { x with asked := rest }) i bs).ring r).asked = rest) :
    State.ringDrain r k (s.ring r).asked.length s = k (s.modRing r fun x => { x with asked := rest }) i bs := by
  rw [ha]
  unfold List.length State.ringDrain
  simp only [ha]
  generalize k (s.modRing r fun x => { x with asked := rest }) i bs = t at hk ⊢
  cases rest with
  | nil => rfl
  | cons e es =>
    obtain ⟨j, d⟩ := e
    have : d = none := hr (j, d) (List.mem_cons_self ..)
    subst this
    unfold List.length State.ringDrain
    simp only [hk]

theorem takeRecords_step (s : State) (n : Nat) (recs : List Nat) :
    ToneStep n [0x05C] 2147483776 s (s.toneTakeRecords n recs) := by
  refine ⟨fun m hm => ?_, ?_, State.toneTakeRecords_frame _ _ _ (Frame.refl _ _) (by decide)⟩
  · unfold State.toneTakeRecords
    rw [State.tone_modTone_ne _ _ hm, State.tone_setFld]
  · exact (PageRegs.refl.setFld (r := Reg.Tone.SKIP_DEBT) (by decide)).keep rfl

/-- The records taken join the buffer, and the debt falls by those discarded. -/
theorem takeRecords_takes (s : State) (n : Nat) (recs : List Nat) :
    (s.toneTakeRecords n recs).tone n =
        { s.tone n with buf := (s.tone n).buf ++ recs.drop (s.fld (Base.tone n) Reg.Tone.SKIP_DEBT) } ∧
      (s.toneTakeRecords n recs).fld (Base.tone n) Reg.Tone.SKIP_DEBT =
        s.fld (Base.tone n) Reg.Tone.SKIP_DEBT - recs.length := by
  unfold State.toneTakeRecords
  refine ⟨by rw [State.tone_modTone, State.tone_setFld], ?_⟩
  rw [State.modTone_fld, State.fld_setFld_same _ _ ⟨by decide, by decide⟩, Nat.mod_eq_of_lt]
  · omega
  · exact Nat.lt_of_le_of_lt (Nat.sub_le _ _) (State.fld_lt s (Base.tone n) Reg.Tone.SKIP_DEBT 0)

theorem modRing_step (s : State) (n r : Nat) (f : RingSt → RingSt) : ToneStep n [] 65536 s (s.modRing r f) :=
  .of_tones (.of_regs rfl) (State.modRing_frame _ _ _ (Frame.refl _ _) (by decide)) (by decide)

/-- The engine takes the eight records of an entry, and the consumer index moves past it. -/
theorem streamIn_takes (s : State) (n r i : Nat) (bs : List Byte) :
    let t := s.streamIn n r i bs
    let debt := s.fld (Base.tone n) Reg.Tone.SKIP_DEBT
    t.tone n = { s.tone n with buf := (s.tone n).buf ++ (streamRecords bs).drop debt } ∧
      t.fld (Base.tone n) Reg.Tone.SKIP_DEBT = debt - 8 ∧ t.ring r = { s.ring r with cons := (i + 1) % 2 ^ 32 } ∧
      ToneStep n [0x010, 0x05C] 36028799166513280 s t := by
  intro t debt
  show (s.streamIn n r i bs).tone n = _ ∧ (s.streamIn n r i bs).fld _ _ = _ ∧ (s.streamIn n r i bs).ring r = _ ∧
    ToneStep n _ _ s (s.streamIn n r i bs)
  unfold State.streamIn
  have h1 : (s.modRing r fun x => { x with cons := (i + 1) % 2 ^ 32 }).ring r = { s.ring r with cons := (i + 1) % 2 ^ 32 } :=
    State.ring_modRing ..
  have st1 := modRing_step s n r fun x => { x with cons := (i + 1) % 2 ^ 32 }
  have ht1 : (s.modRing r fun x => { x with cons := (i + 1) % 2 ^ 32 }).tone n = s.tone n := rfl
  generalize (s.modRing r fun x => { x with cons := (i + 1) % 2 ^ 32 }) = u at h1 st1 ht1
  have hd : u.fld (Base.tone n) Reg.Tone.SKIP_DEBT = debt := st1.regs.fld (by decide)
  obtain ⟨ht2, hd2⟩ := takeRecords_takes u n (streamRecords bs)
  have st2 := takeRecords_step u n (streamRecords bs)
  generalize u.toneTakeRecords n (streamRecords bs) = v at ht2 hd2 st2
  have st3 := notePanic_step v n
  refine ⟨?_, ?_, ?_, ?_⟩
  · rw [notePanic_tone, ht2, ht1, hd]
  · rw [st3.regs.fld (by decide), hd2, hd]
    rfl
  · unfold State.ring
    rw [st3.frame.rings (by decide), st2.frame.rings (by decide)]
    exact h1
  · exact (st1.mono (by decide) (by decide)).trans ((st2.mono (by decide) (by decide)).trans (st3.mono (by decide) (by decide)))

/-- A read of a ring entry returns: the entry's records are taken, and it no longer is asked for. -/
theorem deliverRead_stream {s : State} {n : Nat} {q : DramReq} {r i : Nat} {rest : List (Nat × Option (List Byte))}
    (hu : q.use = .stream n r i) (ha : (s.ring r).asked = (i, none) :: rest) (hr : ∀ e ∈ rest, e.2 = none ∧ e.1 ≠ i)
    (bs : List Byte) :
    s.deliverRead q bs = ((s.ringData r i bs).modRing r fun x => { x with asked := rest }).streamIn n r i bs := by
  have hdata : ((s.ringData r i bs).ring r).asked = (i, some bs) :: rest := by
    unfold State.ringData
    rw [State.ring_modRing, ha]
    simp only [List.map_cons, beq_self_eq_true, Option.isNone_none, Bool.and_self, if_true]
    congr 1
    refine (List.map_congr_left fun e he => ?_).trans (List.map_id _)
    rw [beq_false_of_ne (hr e he).2]
    rfl
  unfold State.deliverRead
  simp only [hu]
  refine ringDrain_first hdata (fun e he => (hr e he).1) ?_
  rw [(streamIn_takes _ n r i bs).2.2.1, State.ring_modRing]

theorem deliverRead_takes {s : State} {n : Nat} {q : DramReq} {r i : Nat} {rest : List (Nat × Option (List Byte))}
    (hu : q.use = .stream n r i) (ha : (s.ring r).asked = (i, none) :: rest) (hr : ∀ e ∈ rest, e.2 = none ∧ e.1 ≠ i)
    (bs : List Byte) :
    let t := s.deliverRead q bs
    let debt := s.fld (Base.tone n) Reg.Tone.SKIP_DEBT
    t.tone n = { s.tone n with buf := (s.tone n).buf ++ (streamRecords bs).drop debt } ∧
      t.fld (Base.tone n) Reg.Tone.SKIP_DEBT = debt - 8 ∧
      t.ring r = { s.ring r with cons := (i + 1) % 2 ^ 32, asked := rest } ∧
      ToneStep n [0x010, 0x05C] 36028799166513280 s t := by
  intro t debt
  have e : t = _ := deliverRead_stream hu ha hr bs
  rw [e]
  have st1 : ToneStep n [] 65536 s ((s.ringData r i bs).modRing r fun x => { x with asked := rest }) :=
    (modRing_step s n r _).trans (modRing_step _ n r _)
  have hring : ((s.ringData r i bs).modRing r fun x => { x with asked := rest }).ring r = { s.ring r with asked := rest } := by
    unfold State.ringData
    rw [State.ring_modRing, State.ring_modRing]
  have htone : ((s.ringData r i bs).modRing r fun x => { x with asked := rest }).tone n = s.tone n := rfl
  generalize (s.ringData r i bs).modRing r (fun x => { x with asked := rest }) = u at st1 hring htone
  have hd : u.fld (Base.tone n) Reg.Tone.SKIP_DEBT = debt := st1.regs.fld (by decide)
  obtain ⟨h1, h2, h3, h4⟩ := streamIn_takes u n r i bs
  refine ⟨?_, ?_, ?_, (st1.mono (by decide) (by decide)).trans h4⟩
  · rw [h1, htone, hd]
  · rw [h2, hd]
  · rw [h3, hring]

/-- What the return of a read does before its data is delivered: the channel's queue and CRC cache, and MAX_LAT. -/
theorem readComplete_delivers {s : State} {c : Fin 4} {q : DramReq} {qs : List DramReq} (hi : (s.dch c).inflight = q :: qs)
    (hf : (s.dch c).failing = none) :
    ∃ v, exec (.dramReadComplete c none false) s = .next (v.deliverRead q q.data).settle ∧ Frame 4194432 s v ∧
      ∀ a, a < 0x0040_0000 → v.reg a = s.reg a := by
  have good : q.good (q.got none) = true := beq_self_eq_true _
  have late : ∀ u : State, Frame 4194432 s u → (∀ a, u.reg a = s.reg a) →
      Frame 4194432 s (u.noteLatency c q) ∧ ∀ a, a < 0x0040_0000 → (u.noteLatency c q).reg a = s.reg a := by
    intro u hu hr
    refine ⟨State.noteLatency_frame _ _ _ hu (by decide), fun a ha => ?_⟩
    unfold State.noteLatency
    dsimp only
    split
    · rw [State.reg_setFld_ne _ (by unfold Base.dch; omega), hr]
    · exact hr a
  have f0 : Frame 4194432 s (s.modDch c fun d => { d with inflight := qs }) :=
    State.modDch_frame _ _ _ (Frame.refl _ _) (by decide)
  by_cases hw : q.fwd = true
  · obtain ⟨f1, r1⟩ := late _ f0 fun _ => rfl
    refine ⟨_, ?_, f1, r1⟩
    show execDramReadComplete c none false s = _
    unfold execDramReadComplete
    simp only [hi, hf, hw, if_true, good]
    rfl
  · obtain ⟨f1, r1⟩ := late ((s.modDch c fun d => { d with inflight := qs }).crcUse c q.da false)
      (State.crcUse_frame _ _ _ _ f0 (by decide)) fun _ => rfl
    refine ⟨_, ?_, f1, r1⟩
    show execDramReadComplete c none false s = _
    unfold execDramReadComplete
    simp only [hi, hf, hw, Bool.false_and, Bool.false_eq_true, if_false, good, if_true]
    rfl

/-- Settles O32: a refill asks, or notes panic, or reports its ring; and the delivery of the entry asked for first. -/
theorem toneStreamRefill : Obligations.ToneStreamRefill := by
  unfold Obligations.ToneStreamRefill
  refine ⟨?_, ?_⟩
  · intro n s b x r i da
    refine ⟨fun he h hv => ?_, fun h => ⟨_, noRefill_notes h, ?_, fun hl hv hu => ?_, ?_⟩, fun he h hv hs => ⟨_, refill_invalid he h hv hs, ?_, ?_, ?_, ?_⟩⟩
    · exact refill_queued he h hv rfl rfl rfl
    · rw [tone_settle, notePanic_tone]
    · rw [tone_reg_settle _ _ (by decide)]
      unfold State.notePanic State.tonePanic
      rw [if_pos (by rw [hv, show s.ringUnread (s.fld (Base.tone n) Reg.Tone.STRM_RING) = true from hu, decide_eq_true hl]; rfl)]
      exact State.raise_sets _ _ _ (by decide)
    · exact ((notePanic_step s n).mono (w := onlyToneBits) (by decide) (by decide)).onlyTone (by decide)
    · rw [tone_settle, State.tone_modTone, tone_congr ((strmFault_step _ n).frame.tones (by decide)), notePanic_tone]
    · rw [tone_reg_settle _ _ (by decide)]
      exact State.raise_sets _ _ _ (by decide)
    · intro hcap
      rw [tone_fld_settle _ _ (by decide), tone_fld_settle _ _ (by decide), State.modTone_fld, State.modTone_fld]
      unfold State.strmFault
      rw [State.fld_raise_page _ (by decide), State.fld_raise_page _ (by decide)]
      have hv' : (s.notePanic n).bit b Reg.Hdr.VALID = false := by
        unfold State.bit at hcap ⊢
        rwa [(notePanic_step s n).regs.fld (by decide)]
      obtain ⟨hc, hi, -⟩ := State.err_captures (k := 0x12) (d := (s.notePanic n).fld (Base.tone n) Reg.Tone.STRM_RING) _ hv'
      refine ⟨hc, hi.trans ?_⟩
      rw [(notePanic_step s n).streamRing]
      exact Nat.mod_eq_of_lt (Nat.lt_of_lt_of_le (State.fld_lt s b Reg.Tone.STRM_RING 0) (by decide))
    · exact (((notePanic_step s n).mono (by decide) (by decide)).trans (((strmFault_step _ n).mono (by decide) (by decide)).trans
        (ToneStep.modTone.mono (w := onlyToneBits) (by decide) (by decide)))).onlyTone (by decide)
  · intro n c q qs r i rest s hi hf hu ha hr b debt recs
    obtain ⟨v, key, fv, rv⟩ := readComplete_delivers hi hf
    have hring : v.ring r = s.ring r := by unfold State.ring; rw [fv.rings (by decide)]
    have hdebt : v.fld b Reg.Tone.SKIP_DEBT = debt := by
      show Row.get _ (v.reg _) = Row.get _ (s.reg _)
      rw [rv _ (by have := n.isLt; simp only [b, Base.tone, Reg.Tone.SKIP_DEBT]; omega)]
    obtain ⟨ht, hd, hg, st⟩ := deliverRead_takes hu (by rw [hring]; exact ha) hr q.data
    have htones (m : Nat) : v.tone m = s.tone m := tone_congr (fv.tones (by decide)) m
    rw [htones, hdebt] at ht
    rw [hdebt] at hd
    rw [hring] at hg
    generalize v.deliverRead q q.data = t at key ht hd hg st
    have f := (fv.mono (w := 36028799170707584) (by decide)).trans (st.frame.mono (by decide))
    have fs := settle_frame t
    refine ⟨_, key, ?_, ?_, ?_, fun m hm => ?_, ?_, ?_, ?_, ?_⟩
    · rw [tone_settle, ht]
      rfl
    · rw [tone_fld_settle _ _ (by decide), hd]
    · refine Eq.trans ?_ hg
      unfold State.ring
      rw [fs.rings (by decide)]
    · rw [tone_settle, st.tone m hm, htones]
    · exact (fs.seqs (by decide)).trans (f.seqs (by decide))
    · exact (fs.dram (by decide)).trans (f.dram (by decide))
    · exact (fs.bar2 (by decide)).trans (f.bar2 (by decide))
    · exact (fs.count (by decide)).trans (f.count (by decide))

end Sys2Proof.Machine
end

section
/-!
O38: integration windows. Commands and recomputes work on one read-out tone and in the page of that tone; OPEN and CLOSE end the
window that was opened last of those open at their step.
-/
namespace Sys2Proof.Machine

/-! ### Steps of one read-out tone -/

/-- `t` is `s` after operations of read-out tone `n` that write registers at the given offsets of its page, and otherwise the
fields whose bits are set. -/
structure RoutStep (n : Nat) (offs : List Nat) (w : Nat) (s t : State) : Prop where
  rout : ∀ m, m ≠ n → t.rout m = s.rout m
  regs : PageRegs (Base.rout n) offs s t
  frame : Frame w s t

theorem rout_congr {s t : State} (h : t.routs = s.routs) (m : Nat) : t.rout m = s.rout m := by unfold State.rout; rw [h]

theorem rout_settle (s : State) (m : Nat) : s.settle.rout m = s.rout m := rout_congr s.settle_routs m

theorem rout_not_irq {n : Fin 256} {off : Nat} (h : off < 0x1000) : evPage (Base.rout n + off) = false := by
  have : ¬ evPage (Base.rout n + off) = true := by
    have := n.isLt
    rw [evPage_iff]
    unfold Base.rout
    omega
  simpa using this

theorem rout_fld_settle (s : State) (n : Fin 256) {q : Row} {j : Nat} (h : q.off + q.stride * j < 0x1000) :
    s.settle.fld (Base.rout n) q j = s.fld (Base.rout n) q j :=
  s.settle_fld (by rw [Nat.add_assoc]; exact rout_not_irq h)

theorem rout_reg_settle (s : State) (n : Fin 256) {o : Nat} (h : o < 0x1000) :
    s.settle.reg (Base.rout n + o) = s.reg (Base.rout n + o) :=
  s.settle_reg (rout_not_irq h)

section
variable {n w v : Nat} {offs : List Nat} {s t u : State}

theorem RoutStep.refl : RoutStep n offs w s s := ⟨fun _ _ => rfl, .refl, Frame.refl _ _⟩

theorem RoutStep.trans (h : RoutStep n offs w s t) (k : RoutStep n offs w t u) : RoutStep n offs w s u :=
  ⟨fun m hm => (k.rout m hm).trans (h.rout m hm), h.regs.trans k.regs, h.frame.trans k.frame⟩

theorem RoutStep.mono {l : List Nat} (h : RoutStep n l v s t) (hl : l ⊆ offs) (le : v ||| w = w) : RoutStep n offs w s t :=
  ⟨h.rout, h.regs.mono hl, h.frame.mono le⟩

/-- An operation that changes no read-out tone. -/
theorem RoutStep.of_routs (hr : PageRegs (Base.rout n) offs s t) (hf : Frame w s t) (ht : w.testBit 34 = false) :
    RoutStep n offs w s t :=
  ⟨fun m _ => rout_congr (hf.routs ht) m, hr, hf⟩

theorem RoutStep.modRout {f : RoutSt → RoutSt} : RoutStep n [] 17179869184 s (s.modRout n f) :=
  ⟨fun _ hm => State.rout_modRout_ne s f hm, .of_regs rfl, State.modRout_frame (w := 17179869184) s n f (Frame.refl _ _) (by decide)⟩

theorem RoutStep.setFld {r : Row} {x i : Nat} (ho : r.off + r.stride * i ∈ offs) :
    RoutStep n offs 128 s (s.setFld (Base.rout n) r x i) :=
  .of_routs (PageRegs.refl.setFld ho) (State.setFld_frame _ _ _ _ _ (Frame.refl _ _) (by decide)) (by decide)

theorem RoutStep.raise {i : Nat} (ho : 0x010 ∈ offs) : RoutStep n offs 36028797018964096 s (s.raise (Base.rout n) i) :=
  .of_routs (PageRegs.refl.raise ho) (State.raise_frame _ _ _ (Frame.refl _ _) (by decide)) (by decide)

theorem RoutStep.err {k d : Nat} (ho : 0x01C ∈ offs) : RoutStep n offs 72057594037928064 s (s.err (Base.rout n) k d) :=
  .of_routs (PageRegs.refl.err ho) (State.err_frame _ _ _ _ (Frame.refl _ _) (by decide)) (by decide)

/-- Seen after delivery, the windows and the queue of every other tone are as they were. -/
theorem RoutStep.others (h : RoutStep n offs w s t) (m : Nat) (hm : m ≠ n) :
    (t.settle.rout m).wins = (s.rout m).wins ∧ (t.settle.rout m).queue = (s.rout m).queue := by
  rw [rout_settle, h.rout m hm]
  exact ⟨rfl, rfl⟩

theorem RoutStep.count (h : RoutStep n offs w s t) (hw : w.testBit 0 = false) : t.settle.count = s.count :=
  t.settle_count.trans (h.frame.count hw)

end

/-! ### Commands -/

section
variable {s : State} {n : Nat} {c : TCmd} {cs : List TCmd}

theorem routDue_head {code : Nat} (h : HeadDue s (s.rout n).queue c cs code) : s.routDue n code = some c := by
  obtain ⟨hq, hc, hd⟩ := h
  unfold State.routDue
  simp only [hq, hc, State.due, hd, decide_true, and_self, if_true]

/-- Taking the head of the queue changes nothing else but the shots it is charged to. -/
theorem routPop_step (s : State) (n : Nat) (c : TCmd) : RoutStep n [] 17179870208 s (s.routPop n c) := by
  have f := State.routPop_frame (w := 17179870208) s n c (Frame.refl _ _) (by decide)
  refine ⟨fun m hm => ?_, .of_regs (f.regs (by decide)), f⟩
  have h : (s.routPop n c).routs = (s.modRout n fun x => { x with queue := x.queue.tail }).routs := by
    unfold State.routPop
    exact ((State.chargeHeld_frame (w := 1024) _ _ _ _ (State.useTile_frame _ _ _ _ (Frame.refl _ _) (by decide)) (by decide)).routs
      (by decide))
  rw [rout_congr h, State.rout_modRout_ne _ _ hm]

theorem routPop_rout {code : Nat} (h : HeadDue s (s.rout n).queue c cs code) :
    (s.routPop n c).rout n = { s.rout n with queue := cs } := by
  have e : (s.routPop n c).routs = (s.modRout n fun x => { x with queue := x.queue.tail }).routs := by
    unfold State.routPop
    exact ((State.chargeHeld_frame (w := 1024) _ _ _ _ (State.useTile_frame _ _ _ _ (Frame.refl _ _) (by decide)) (by decide)).routs
      (by decide))
  rw [rout_congr e, State.rout_modRout, h.1]
  rfl

theorem endWin_rout (s : State) (n k : Nat) :
    (s.endWin n k).rout n = { s.rout n with wins := modOpenWin k (fun w => { w with last := k - 1 }) (s.rout n).wins } :=
  State.rout_modRout ..

end

/-! ### The window that ends -/

/-- In a list with one more window in front, the windows behind window `i + 1` are those behind window `i` of the rest. -/
theorem laterWins_cons {P : Win → Prop} {w : Win} {ws : List Win} {i : Nat} :
    (∀ j, i + 1 < j → ∀ u, (w :: ws)[j]? = some u → ¬ P u) ↔ ∀ j, i < j → ∀ u, ws[j]? = some u → ¬ P u := by
  refine ⟨fun h j hj u hu => h (j + 1) (by omega) u (by simpa using hu), fun h j hj u hu => ?_⟩
  obtain ⟨j, rfl⟩ : ∃ m, j = m + 1 := ⟨j - 1, by omega⟩
  exact h j (by omega) u (by simpa using hu)

/-- Where the first window is as it was and the rest ends its window, so does the whole; the first is not the one to end. -/
theorem endsWindow_cons {w : Win} {ws vs : List Win} {k : Nat} (h : EndsWindow ws vs k)
    (hw : ¬ ((w.cut = none ∧ w.start ≤ k ∧ k ≤ w.last) ∧ ∀ u ∈ ws, ¬ (u.cut = none ∧ u.start ≤ k ∧ k ≤ u.last))) :
    EndsWindow (w :: ws) (w :: vs) k := by
  obtain ⟨hl, hi⟩ := h
  refine ⟨by rw [List.length_cons, List.length_cons, hl], fun i x v hx hv => ?_⟩
  cases i with
  | zero =>
    simp only [List.getElem?_cons_zero, Option.some.injEq] at hx hv
    subst hx hv
    refine ⟨fun hc => absurd ⟨hc.1, fun u hu => ?_⟩ hw, fun _ => rfl⟩
    obtain ⟨j, hj⟩ := List.mem_iff_getElem?.1 hu
    exact hc.2 (j + 1) (Nat.succ_pos j) u (by simpa using hj)
  | succ i =>
    rw [laterWins_cons (P := fun u => u.cut = none ∧ u.start ≤ k ∧ k ≤ u.last)]
    exact hi i x v (by simpa using hx) (by simpa using hv)

/-- The window that ends is the last that is open; the others keep their last step. -/
theorem modOpenWin_ends (ws : List Win) (k : Nat) : EndsWindow ws (modOpenWin k (fun w => { w with last := k - 1 }) ws) k := by
  have isOpen (w : Win) : (w.cut.isNone && decide (w.start ≤ k ∧ k ≤ w.last)) = true ↔ w.cut = none ∧ w.start ≤ k ∧ k ≤ w.last := by
    rw [Bool.and_eq_true, Option.isNone_iff_eq_none, decide_eq_true_eq]
  induction ws with
  | nil => exact ⟨rfl, fun i w v h => by simp at h⟩
  | cons w ws ih =>
    unfold modOpenWin
    split
    next later =>
      obtain ⟨u, hu, ho⟩ := List.any_eq_true.1 later
      exact endsWindow_cons ih fun h => h.2 u hu ((isOpen u).1 ho)
    next none =>
      have none : ∀ u ∈ ws, ¬ (u.cut = Option.none ∧ u.start ≤ k ∧ k ≤ u.last) := fun u hu ho =>
        none (List.any_eq_true.2 ⟨u, hu, (isOpen u).2 ho⟩)
      split
      next this =>
        refine ⟨rfl, fun i x v hx hv => ?_⟩
        cases i with
        | zero =>
          simp only [List.getElem?_cons_zero, Option.some.injEq] at hx hv
          subst hx hv
          refine ⟨fun _ => rfl, fun h => absurd ⟨(isOpen w).1 this, fun j hj u hu => ?_⟩ h⟩
          obtain ⟨j, rfl⟩ : ∃ m, j = m + 1 := ⟨j - 1, by omega⟩
          exact none u (List.mem_iff_getElem?.2 ⟨j, by simpa using hu⟩)
        | succ i =>
          rw [List.getElem?_cons_succ] at hx hv
          obtain rfl : x = v := Option.some.inj (hx.symm.trans hv)
          exact ⟨fun h => absurd h.1 (none x (List.mem_iff_getElem?.2 ⟨i, hx⟩)), fun _ => rfl⟩
      next this => exact endsWindow_cons ih fun h => this ((isOpen w).2 h.1)

/-! ### OPEN, CLOSE and KERNEL -/

section
variable {s : State} {n : Fin 256} {c : TCmd} {cs : List TCmd}

theorem routPop_fld (s : State) (n : Nat) (c : TCmd) (b : Nat) (q : Row) (i : Nat) : (s.routPop n c).fld b q i = s.fld b q i :=
  State.fld_congr ((routPop_step s n c).frame.regs (by decide)) b q i

/-- Whether an OPEN is refused does not turn on the queue. -/
theorem openReason_routPop {code : Nat} (h : HeadDue s (s.rout n).queue c cs code) (len : Nat) :
    (s.routPop n c).openReason n len = s.openReason n len := by
  unfold State.openReason State.routK State.enabled State.bit
  rw [routPop_fld, routPop_fld, routPop_rout h]

theorem routOpen_accepted (h : HeadDue s (s.rout n).queue c cs 0x0) (hr : s.openReason n (c.arg % 2 ^ 16) = 0) :
    ∃ t w ws, exec (.routOpen n) s = .next t ∧ EndsWindow (s.rout n).wins ws c.step ∧ (t.rout n).wins = ws ++ [w] ∧
      (t.rout n).queue = cs ∧ w.start = c.step ∧ w.last = c.step + c.arg % 2 ^ 16 - 1 ∧ w.tag = c.tag ∧ w.poster = c.poster ∧
      w.kstart = (s.rout n).kWas.at (s.fld (Base.rout n) Reg.Rout.KSTART) c.step ∧ w.accI = 0 ∧ w.accQ = 0 ∧ w.nodec = false ∧
      w.cut = none ∧ (∀ m, m ≠ n.val → (t.rout m).wins = (s.rout m).wins ∧ (t.rout m).queue = (s.rout m).queue) ∧
      KeepsRegs s t [] ∧ t.count = s.count := by
  have key : exec (.routOpen n) s = .next (((s.routPop n c).endWin n c.step).modRout n fun t =>
      { t with wins := t.wins ++ [mkWin c.step (c.arg % 2 ^ 16) ((s.rout n).kWas.at (s.fld (Base.rout n) Reg.Rout.KSTART) c.step)
        c.poster c.tag] }).settle := by
    show execRoutOpen n s = _
    unfold execRoutOpen
    simp only [routDue_head h, openReason_routPop h, hr, if_true, endWin_rout, routPop_rout h, finish]
    rw [show ((s.routPop n c).endWin n c.step).fld (Base.rout n) Reg.Rout.KSTART = s.fld (Base.rout n) Reg.Rout.KSTART from
      routPop_fld ..]
  have st : RoutStep n [] 17179870208 s (((s.routPop n c).endWin n c.step).modRout n fun t =>
      { t with wins := t.wins ++ [mkWin c.step (c.arg % 2 ^ 16) ((s.rout n).kWas.at (s.fld (Base.rout n) Reg.Rout.KSTART) c.step)
        c.poster c.tag] }) :=
    (routPop_step s n c).trans ((RoutStep.modRout.mono (by decide) (by decide)).trans (RoutStep.modRout.mono (by decide) (by decide)))
  refine ⟨_, mkWin c.step (c.arg % 2 ^ 16) ((s.rout n).kWas.at (s.fld (Base.rout n) Reg.Rout.KSTART) c.step) c.poster c.tag, _, key,
    modOpenWin_ends _ c.step, ?_, ?_, rfl, rfl, rfl, rfl, rfl, rfl, rfl, rfl, rfl, st.others, st.regs.keepsRegs, st.count (by decide)⟩
  · rw [rout_settle, State.rout_modRout, endWin_rout, routPop_rout h]
  · rw [rout_settle, State.rout_modRout, endWin_rout, routPop_rout h]

/-- The reasons for which an OPEN is refused, in their order (R253). -/
theorem openReason_of {why len : Nat} (hw : s.enabled (Base.rout n) = false ∧ why = 1 ∨
    s.enabled (Base.rout n) = true ∧ (s.rout n).norm = false ∧ s.fld (Base.rout n) Reg.Rout.K = 0 ∧ why = 2 ∨
    s.enabled (Base.rout n) = true ∧ (s.rout n).norm = false ∧ s.fld (Base.rout n) Reg.Rout.K ≠ 0 ∧ len = 0 ∧ why = 3) :
    s.openReason n len = why := by
  unfold State.openReason State.routK
  obtain ⟨he, rfl⟩ | ⟨he, hn, hk, rfl⟩ | ⟨he, hn, hk, rfl, rfl⟩ := hw
  · rw [he]; rfl
  · simp only [he, hn, hk, Bool.not_true, Bool.or_self, Bool.false_eq_true, if_false, if_true]
  · simp only [he, hn, hk, Bool.not_true, Bool.or_self, Bool.false_eq_true, if_false, if_true]

theorem routOpen_refused {why : Nat} (h : HeadDue s (s.rout n).queue c cs 0x0) (hr : s.openReason n (c.arg % 2 ^ 16) = why)
    (hw : why ≠ 0) (hw4 : why < 4) :
    let b := Base.rout n
    let len := c.arg % 2 ^ 16
    ∃ t w, exec (.routOpen n) s = .next t ∧ (t.rout n).wins = (s.rout n).wins ++ [w] ∧ (t.rout n).queue = cs ∧
      w.nodec = true ∧ w.cut = some (if len = 0 then c.step else c.step + len - 1) ∧
      w.ready = some (4 * (c.step + 1)) ∧ (t.reg (b + 0x010)).getLsbD 16 = true ∧ Charged t c.tag Flag.CMD_FAULT ∧
      (s.bit b Reg.Hdr.VALID = false → t.fld b Reg.Hdr.CODE = 0x18 ∧ t.fld b Reg.Hdr.INFO = why) ∧
      (∀ m, m ≠ n.val → (t.rout m).wins = (s.rout m).wins ∧ (t.rout m).queue = (s.rout m).queue) ∧
      KeepsRegs s t [b + 0x010, b + 0x01C] := by
  intro b len
  have key : exec (.routOpen n) s = .next ((((((s.routPop n c).modRout n fun t =>
      { t with wins := t.wins ++ [refusedWin c.step (if len = 0 then c.step else c.step + len - 1) (c.step + 1) c.poster c.tag] }).err b 0x18
        why).raise b 16).charge c.tag Flag.CMD_FAULT).settle) := by
    show execRoutOpen n s = _
    unfold execRoutOpen
    simp only [routDue_head h, openReason_routPop h, hr, hw, if_false, finish]
    rfl
  have hrout := routPop_rout h
  have st := routPop_step s n c
  generalize s.routPop n c = u at key hrout st
  have hv : (u.modRout n fun t =>
      { t with wins := t.wins ++ [refusedWin c.step (if len = 0 then c.step else c.step + len - 1) (c.step + 1) c.poster c.tag] }).rout n =
      { s.rout n with queue := cs, wins := (s.rout n).wins ++ [refusedWin c.step (if len = 0 then c.step else c.step + len - 1) (c.step + 1) c.poster c.tag] } := by
    rw [State.rout_modRout, hrout]
  have st1 : RoutStep n [] 17179870208 s (u.modRout n fun t =>
      { t with wins := t.wins ++ [refusedWin c.step (if len = 0 then c.step else c.step + len - 1) (c.step + 1) c.poster c.tag] }) :=
    st.trans (RoutStep.modRout.mono (by decide) (by decide))
  generalize (u.modRout n fun t =>
      { t with wins := t.wins ++ [refusedWin c.step (if len = 0 then c.step else c.step + len - 1) (c.step + 1) c.poster c.tag] }) = v at key hv st1
  have st2 : RoutStep n [0x010, 0x01C] 108086391056893056 v (((v.err b 0x18 why).raise b 16).charge c.tag Flag.CMD_FAULT) :=
    .of_routs (((PageRegs.refl.err (by decide)).raise (by decide)).keep (charge_regs _ _ _))
      (State.charge_frame _ _ _ (State.raise_frame _ _ _ (State.err_frame _ _ _ _ (Frame.refl _ _) (by decide)) (by decide)) (by decide))
      (by decide)
  have st3 : RoutStep n [0x010, 0x01C] 108086408236762240 s _ := (st1.mono (by decide) (by decide)).trans (st2.mono (by decide) (by decide))
  have hregs := charge_regs ((v.err b 0x18 why).raise b 16) c.tag Flag.CMD_FAULT
  refine ⟨_, refusedWin c.step (if len = 0 then c.step else c.step + len - 1) (c.step + 1) c.poster c.tag, key, ?_, ?_, rfl, rfl, rfl, ?_,
    charged_congr (charged_flag _ _ (by decide) (.inl rfl)) (State.settle_seqs _), fun hcap => ?_, st3.others, st3.regs.keepsRegs⟩
  · rw [rout_settle, rout_congr (st2.frame.routs (by decide)), hv]
  · rw [rout_settle, rout_congr (st2.frame.routs (by decide)), hv]
  · rw [rout_reg_settle _ _ (by decide), State.reg_congr hregs]
    exact State.raise_sets _ _ _ (by decide)
  · have hcap' : v.bit b Reg.Hdr.VALID = false := by
      unfold State.bit at hcap ⊢
      rwa [st1.regs.fld (by decide)]
    rw [rout_fld_settle _ _ (by decide), rout_fld_settle _ _ (by decide), State.fld_congr hregs, State.fld_congr hregs,
      State.fld_raise_page _ (by decide), State.fld_raise_page _ (by decide)]
    obtain ⟨hc, hi, -⟩ := State.err_captures (k := 0x18) (d := why) v hcap'
    exact ⟨hc, hi.trans (Nat.mod_eq_of_lt (by omega))⟩

theorem routClose_ends (h : HeadDue s (s.rout n).queue c cs 0x1) :
    ∃ t, exec (.routClose n) s = .next t ∧ EndsWindow (s.rout n).wins (t.rout n).wins c.step ∧ (t.rout n).queue = cs ∧
      (∀ m, m ≠ n.val → (t.rout m).wins = (s.rout m).wins ∧ (t.rout m).queue = (s.rout m).queue) ∧ KeepsRegs s t [] := by
  have key : exec (.routClose n) s = .next ((s.routPop n c).endWin n c.step).settle := by
    show execRoutClose n s = _
    unfold execRoutClose
    simp only [routDue_head h, finish]
  have st : RoutStep n [] 17179870208 s ((s.routPop n c).endWin n c.step) :=
    (routPop_step s n c).trans (RoutStep.modRout.mono (by decide) (by decide))
  refine ⟨_, key, ?_, ?_, st.others, st.regs.keepsRegs⟩
  · rw [rout_settle, endWin_rout, routPop_rout h]
    exact modOpenWin_ends _ _
  · rw [rout_settle, endWin_rout, routPop_rout h]

theorem routKernel_sets (h : HeadDue s (s.rout n).queue c cs 0x2) (hk : (s.rout n).kWas.step ≤ c.step) :
    ∃ t, exec (.routKernel n) s = .next t ∧ t.fld (Base.rout n) Reg.Rout.KSTART = c.arg % 4096 ∧ (t.rout n).queue = cs ∧
      (t.rout n).kWas.step = c.step ∧
      (∀ m, m ≠ n.val → (t.rout m).wins = (s.rout m).wins ∧ (t.rout m).queue = (s.rout m).queue) ∧
      KeepsRegs s t [Base.rout n + 0x100] := by
  obtain ⟨x, hx⟩ : ∃ x, (s.rout n).kWas.byCmd (s.fld (Base.rout n) Reg.Rout.KSTART) c.step (c.arg % 2 ^ 12) = (x, c.arg % 2 ^ 12) ∧
      x.step = c.step := by
    unfold Held.byCmd
    rw [if_neg (by omega)]
    exact ⟨_, rfl, rfl⟩
  have key : exec (.routKernel n) s = .next (((s.routPop n c).modRout n fun t =>
      { t with kWas := x, wins := t.wins.map fun w => if w.start = c.step ∧ w.cut.isNone then { w with kstart := c.arg % 2 ^ 12 } else w }).setFld
        (Base.rout n) Reg.Rout.KSTART (c.arg % 2 ^ 12)).settle := by
    show execRoutKernel n s = _
    unfold execRoutKernel
    simp only [routDue_head h, routPop_rout h, routPop_fld, hx.1, finish]
  have st : RoutStep n [0x100] 17179870336 s (((s.routPop n c).modRout n fun t =>
      { t with kWas := x, wins := t.wins.map fun w => if w.start = c.step ∧ w.cut.isNone then { w with kstart := c.arg % 2 ^ 12 } else w }).setFld
        (Base.rout n) Reg.Rout.KSTART (c.arg % 2 ^ 12)) :=
    ((routPop_step s n c).mono (by decide) (by decide)).trans ((RoutStep.modRout.mono (by decide) (by decide)).trans
      ((RoutStep.setFld (by decide)).mono (List.Subset.refl _) (by decide)))
  refine ⟨_, key, ?_, ?_, ?_, st.others, st.regs.keepsRegs⟩
  · rw [rout_fld_settle _ _ (by decide), State.fld_setFld_same _ _ ⟨by decide, by decide⟩]
    exact Nat.mod_mod _ _
  · rw [rout_settle, State.rout_setFld, State.rout_modRout, routPop_rout h]
  · rw [rout_settle, State.rout_setFld, State.rout_modRout]
    exact hx.2

end

/-! ### Values -/

/-- One step of the search for the window whose value is due first. -/
def sooner (a : Option Win) (w : Win) : Option Win :=
  match w.due, a with
  | some t, some v => if t < v.due.getD t then some w else a
  | some _, none => some w
  | none, _ => a

theorem firstReady_eq (ws : List Win) : firstReady ws = ws.foldl sooner none := rfl

section
variable {w : Win} {r : Nat} (hr : w.due = some r)
include hr

/-- A window that is due first is not passed over for one due later. -/
theorem sooner_keeps {v : Win} (h : v ≠ w → ∀ q, v.due = some q → r < q) : sooner (some w) v = some w := by
  unfold sooner
  cases hv : v.due with
  | none => rfl
  | some q =>
    simp only [hr, Option.getD_some]
    by_cases e : v = w
    · rw [e, ite_self]
    · exact if_neg (Nat.not_lt.2 (Nat.le_of_lt (h e q hv)))

/-- A window that is due first is taken before what has been found so far. -/
theorem sooner_takes {a : Option Win} (ha : ∀ v, a = some v → ∃ q, v.due = some q ∧ r < q) : sooner a w = some w := by
  unfold sooner
  simp only [hr]
  cases a with
  | none => rfl
  | some v =>
    obtain ⟨q, hq, hlt⟩ := ha v rfl
    simp only [hq, Option.getD_some, hlt, if_true]

theorem foldl_sooner_keeps {ws : List Win} (least : ∀ v ∈ ws, v ≠ w → ∀ q, v.due = some q → r < q) :
    ws.foldl sooner (some w) = some w := by
  induction ws with
  | nil => rfl
  | cons v vs ih =>
    rw [List.foldl_cons, sooner_keeps hr (least v (List.mem_cons_self ..))]
    exact ih fun x hx => least x (List.mem_cons_of_mem _ hx)

theorem foldl_sooner_finds {ws : List Win} (hw : w ∈ ws) (least : ∀ v ∈ ws, v ≠ w → ∀ q, v.due = some q → r < q) {a : Option Win}
    (ha : ∀ v, a = some v → ∃ q, v.due = some q ∧ r < q) : ws.foldl sooner a = some w := by
  induction ws generalizing a with
  | nil => exact absurd hw (List.not_mem_nil)
  | cons v vs ih =>
    have least' : ∀ x ∈ vs, x ≠ w → ∀ q, x.due = some q → r < q := fun x hx => least x (List.mem_cons_of_mem _ hx)
    rw [List.foldl_cons]
    by_cases e : v = w
    · rw [e, sooner_takes hr ha]
      exact foldl_sooner_keeps hr least'
    · have later := least v (List.mem_cons_self ..) e
      refine ih ((List.mem_cons.1 hw).resolve_left (Ne.symm e)) least' fun x hx => ?_
      unfold sooner at hx
      cases hv : v.due with
      | none => rw [hv] at hx; exact ha x hx
      | some q =>
        have take : v = x → ∃ q, x.due = some q ∧ r < q := fun ex => ⟨q, ex ▸ hv, later q hv⟩
        cases a with
        | none => simp only [hv] at hx; exact take (Option.some.inj hx)
        | some u =>
          simp only [hv] at hx
          split at hx
          · exact take (Option.some.inj hx)
          · exact ha x hx

/-- Where every other window is due later, that window is the first whose value is due. -/
theorem firstReady_least {ws : List Win} (hw : w ∈ ws) (least : ∀ v ∈ ws, v ≠ w → ∀ q, v.due = some q → r < q) :
    firstReady ws = some w :=
  (firstReady_eq ws).trans (foldl_sooner_finds hr hw least fun _ h => nomatch h)

end

/-- Registers below the decision pages are not written when slots are. -/
theorem writeSlot_reg (s : State) (at' k : Nat) (x : Slot) {a : Nat} (ha : a < 0x0054_0000) :
    (s.writeSlot at' k x).reg a = s.reg a := by
  have pend (s : State) (ports : Nat) (e : PendDec) : (s.pendDecs ports e).reg a = s.reg a := by
    unfold State.pendDecs
    generalize List.range 8 = l
    induction l generalizing s with
    | nil => rfl
    | cons p ps ih =>
      rw [List.foldl_cons, ih]
      split
      · unfold State.pendDec
        split
        · exact State.reg_setFld_ne _ (by simp only [Base.dec, Reg.Dec.MERGE_COUNT]; omega)
        · rfl
      · rfl
  have latch (s : State) (m : Nat) : (s.synLatch m at' x).reg a = s.reg a := by
    unfold State.synLatch
    dsimp only
    split
    · rfl
    split
    · rw [State.reg_raise_ne _ (by unfold Base.syn; omega)]
      exact State.reg_setFld_ne _ (by simp only [Base.syn, Reg.Syn.LATE_BIT_COUNT]; omega)
    · rfl
  unfold State.writeSlot
  split
  · unfold State.oldWrite
    rw [State.reg_raise_ne _ (by unfold Base.dec; omega)]
    exact State.reg_setFld_ne _ (by simp only [Base.dec, Reg.Dec.OLD_COUNT]; omega)
  · dsimp only
    rw [pend, latch]
    exact State.reg_congr ((State.putSlot_frame (w := 1374389534720) _ _ _ _ (Frame.refl _ _) (by decide)).regs (by decide)) a

theorem feed_reg (s : State) (at' kind num : Nat) (x : Slot) {a : Nat} (ha : a < 0x0054_0000) :
    (s.feed at' kind num x).reg a = s.reg a := by
  unfold State.feed
  generalize s.slotsOf kind num = l
  induction l generalizing s with
  | nil => rfl
  | cons k ks ih => rw [List.foldl_cons, ih, writeSlot_reg _ _ _ _ ha]

/-- What the result registers latch of a window with a decision (R265). -/
def State.winRes (s : State) (n : Nat) (w : Win) : WinRes :=
  let d := s.discriminate n w.accI w.accQ
  ⟨unsigned 40 w.accI, unsigned 40 w.accQ, w.stamp (s.routK n) % 2 ^ 32, 2 ^ 31 + 4 * d.2 + d.1⟩

/-- The value of a window that is no NO_DECISION is counted, latched, and offered to lanes and slots. -/
theorem deliverWin_value {s : State} {n : Nat} {w : Win} (h : w.nodec = false) :
    ∃ (sat : Bool) (u : LaneUnit) (at' : Nat) (x : Slot), s.deliverWin n w =
      ((((((if sat then s.raise (Base.rout n) 11 else s).inc (Base.rout n) Reg.Rout.WIN_COUNT).raise (Base.rout n) 8).modRout n
        fun t => { t with res := s.winRes n w }).offerLanes 2 n u).feed at' 1 n x) := by
  unfold State.deliverWin State.winRes
  simp only [h, Bool.false_eq_true, if_false, Bool.toNat_false, Nat.mul_zero, Nat.add_zero]
  exact ⟨_, _, _, _, rfl⟩

theorem boundary_modRout (s : State) (n m : Nat) (f : RoutSt → RoutSt) (z : Cplx) (i : Nat) :
    (s.modRout n f).boundary m z i = s.boundary m z i := by
  unfold State.boundary
  simp only [State.modRout_fld]
  rfl

theorem winRes_modRout (s : State) (n : Nat) (f : RoutSt → RoutSt) (w : Win) : (s.modRout n f).winRes n w = s.winRes n w := by
  unfold State.winRes State.discriminate State.routK
  simp only [State.modRout_fld, boundary_modRout]

theorem deliverWin_shows {s : State} {n : Fin 256} {w : Win} (h : w.nodec = false) :
    let t := s.deliverWin n w
    t.rout n = { s.rout n with res := s.winRes n w } ∧ (∀ m, m ≠ n.val → t.rout m = s.rout m) ∧
      t.fld (Base.rout n) Reg.Rout.WIN_COUNT = min (s.fld (Base.rout n) Reg.Rout.WIN_COUNT + 1) (2 ^ 32 - 1) ∧
      (t.reg (Base.rout n + 0x010)).getLsbD 8 = true := by
  intro t
  obtain ⟨sat, u, at', x, e⟩ := deliverWin_value (s := s) (n := n) h
  change t = _ at e
  have hsat : RoutStep n [0x010] 36028797018964096 s (if sat then s.raise (Base.rout n) 11 else s) := by
    split
    · exact .raise (by decide)
    · exact .refl
  generalize (if sat then s.raise (Base.rout n) 11 else s) = v at e hsat
  have hcount : (v.inc (Base.rout n) Reg.Rout.WIN_COUNT).fld (Base.rout n) Reg.Rout.WIN_COUNT =
      min (s.fld (Base.rout n) Reg.Rout.WIN_COUNT + 1) (2 ^ 32 - 1) := by
    rw [inc_fld ⟨by decide, by decide⟩, hsat.regs.fld (by decide)]
    rfl
  have hinc : RoutStep n [0x158] 128 v (v.inc (Base.rout n) Reg.Rout.WIN_COUNT) := .setFld (by decide)
  generalize v.inc (Base.rout n) Reg.Rout.WIN_COUNT = y at e hcount hinc
  have h8 := y.raise_sets (Base.rout n) 8 (by decide)
  have hy : RoutStep n [0x010] 36028797018964096 y (y.raise (Base.rout n) 8) := .raise (by decide)
  generalize y.raise (Base.rout n) 8 = z at e h8 hy
  have hz (m : Nat) : z.rout m = s.rout m := by
    rw [rout_congr (hy.frame.routs (by decide)), rout_congr (hinc.frame.routs (by decide)), rout_congr (hsat.frame.routs (by decide))]
  have fo := State.offerLanes_frame (w := 137438953472) (z.modRout n fun t => { t with res := s.winRes n w }) 2 n u (Frame.refl _ _) (by decide)
  have hfeed (a : Nat) (ha : a < 0x0054_0000) : t.reg a = z.reg a := by
    rw [e, feed_reg _ _ _ _ _ ha, State.reg_congr (fo.regs (by decide))]
    rfl
  have hrouts (m : Nat) : t.rout m = (z.modRout n fun t => { t with res := s.winRes n w }).rout m := by
    rw [e, rout_congr ((State.feed_frame (w := 36041166524776576) _ _ _ _ _ (Frame.refl _ _) (by decide)).routs (by decide)),
      rout_congr (fo.routs (by decide))]
  have hpage (o : Nat) (ho : o < 0x1000) : Base.rout n + o < 0x0054_0000 := by
    have := n.isLt
    unfold Base.rout
    omega
  refine ⟨?_, fun m hm => ?_, ?_, ?_⟩
  · rw [hrouts, State.rout_modRout, hz]
  · rw [hrouts, State.rout_modRout_ne _ _ hm, hz]
  · refine Eq.trans ?_ hcount
    rw [← hy.regs.fld (by decide)]
    unfold State.fld
    rw [hfeed _ (by rw [Nat.add_assoc]; exact hpage _ (by decide))]
  · rw [hfeed _ (hpage _ (by decide))]
    exact h8

theorem windowValue_due {s : State} {n : Fin 256} {w : Win} {r : Nat} (hw : w ∈ (s.rout n).wins) (hr : w.due = some r)
    (hd : r < 8 * (s.count + 1) ∨ s.run = false) (hn : (s.rout n).recomps = [])
    (least : ∀ v ∈ (s.rout n).wins, v ≠ w → ∀ q, v.due = some q → r < q) :
    exec (.windowValue n) s = .next ((s.modRout n fun t => { t with wins := t.wins.erase w }).deliverWin n w).settle := by
  have hdue : (!s.run || decide (r < 8 * (s.count + 1))) = true := by
    obtain hd | hd := hd
    · rw [decide_eq_true hd, Bool.or_true]
    · rw [hd]; rfl
  show execWindowValue n s = _
  unfold execWindowValue
  simp only [firstReady_least hr hw least, hr, Option.any_some, hdue, hn, List.any_nil, Bool.not_false, Bool.and_self, if_true, finish]

theorem windowValue_taken {s : State} {n : Fin 256} {w : Win} {r : Nat} (hw : w ∈ (s.rout n).wins) (hr : w.due = some r)
    (hd : r < 8 * (s.count + 1) ∨ s.run = false) (hn : (s.rout n).recomps = []) (hdec : w.nodec = false)
    (least : ∀ v ∈ (s.rout n).wins, v ≠ w → ∀ q, v.due = some q → r < q) :
    let b := Base.rout n
    let d := s.discriminate n w.accI w.accQ
    ∃ t, exec (.windowValue n) s = .next t ∧ (t.rout n).wins = (s.rout n).wins.erase w ∧
      (t.rout n).res = ⟨unsigned 40 w.accI, unsigned 40 w.accQ, w.stamp (s.fld b Reg.Rout.K) % 2 ^ 32, 2 ^ 31 + 4 * d.2 + d.1⟩ ∧
      t.fld b Reg.Rout.WIN_COUNT = min (s.fld b Reg.Rout.WIN_COUNT + 1) (2 ^ 32 - 1) ∧ (t.reg (b + 0x010)).getLsbD 8 = true ∧
      (∀ m, m ≠ n.val → (t.rout m).wins = (s.rout m).wins ∧ (t.rout m).queue = (s.rout m).queue) ∧ t.count = s.count := by
  intro b d
  have key := windowValue_due hw hr hd hn least
  have hres := winRes_modRout s n (fun t => { t with wins := t.wins.erase w }) w
  have hrout := State.rout_modRout s n fun t => { t with wins := t.wins.erase w }
  have st : RoutStep n [] 17179869184 s (s.modRout n fun t => { t with wins := t.wins.erase w }) := .modRout
  generalize (s.modRout n fun t => { t with wins := t.wins.erase w }) = u at key hres hrout st
  obtain ⟨h1, h2, h3, h4⟩ := deliverWin_shows (s := u) (n := n) hdec
  have hcount := (State.deliverWin_frame (w := 324271697295310976) u n w (Frame.refl _ _) (by decide)).count (by decide)
  refine ⟨_, key, ?_, ?_, ?_, ?_, fun m hm => ?_, ?_⟩
  · rw [rout_settle, h1, hrout]
  · rw [rout_settle, h1, hres]
    rfl
  · rw [rout_fld_settle _ _ (by decide), h3, st.regs.fld (by decide)]
  · rw [rout_reg_settle _ _ (by decide)]
    exact h4
  · rw [rout_settle, h2 m hm, st.rout m hm]
    exact ⟨rfl, rfl⟩
  · rw [State.settle_count, hcount, st.frame.count (by decide)]

/-! ### Recomputes -/

theorem recompute_granted {s : State} {n : Fin 256} {r : Recomp} {rs : List Recomp} (hr : (s.rout n).recomps = r :: rs)
    (hu : s.usedOf (Base.adc (routAdc n) + 0x026) < 32) (hf : s.recompFirst n r = true) (ok : Bool) :
    exec (.integratorRecompute n ok) s =
      let u := s.useUnits (Base.adc (routAdc n) + 0x026) 1
      if ok then
        .next (((((u.tookFree.addProduct n r.win (conjMul r.x r.w)).modWin n r.win fun w => u.recompDelay (u.freeVal 8).toNat w r).modRout n
          fun t => { t with recomps := rs }).inc (Base.rout n) Reg.Rout.RECOMP_COUNT).settle)
      else if r.second then .next (u.recompLost n r).settle
      else .next (u.modRout n fun t => { t with recomps := { r with second := true } :: rs }).settle := by
  show execIntegratorRecompute n ok s = _
  unfold execIntegratorRecompute
  simp only [hr, hu, hf, decide_true, Bool.and_self, if_true, finish]

theorem modWin_rout (s : State) (n k : Nat) (f : Win → Win) :
    (s.modWin n k f).rout n =
      { s.rout n with wins := (s.rout n).wins.map fun w => if w.start = k ∧ w.cut.isNone then f w else w } :=
  State.rout_modRout ..

theorem modWin_step (s : State) (n k : Nat) (f : Win → Win) : RoutStep n [] 17179869184 s (s.modWin n k f) := .modRout

/-- A product is added, and OV set where a sum wraps: the windows are those of the sum. -/
theorem addProduct_rout (s : State) (n k : Nat) (p : Cplx) :
    (s.addProduct n k p).rout n =
      { s.rout n with wins := (s.rout n).wins.map fun w => if w.start = k ∧ w.cut.isNone then w.add p else w } := by
  unfold State.addProduct
  dsimp only
  rw [modWin_rout]
  split
  · rw [State.rout_raise]
  · rfl

theorem addProduct_step (s : State) (n k : Nat) (p : Cplx) :
    RoutStep n [0x010] 36028814198833280 s (s.addProduct n k p) := by
  unfold State.addProduct
  dsimp only
  refine RoutStep.trans ?_ ((modWin_step _ _ _ _).mono (by decide) (by decide))
  split
  · exact (RoutStep.raise (by decide)).mono (List.Subset.refl _) (by decide)
  · exact .refl

/-- A unit of a budget used changes no tone and no register. -/
theorem useUnits_step (s : State) (n k : Nat) : RoutStep n [] 32768 s (s.useUnits k 1) :=
  .of_routs (.of_regs rfl) (State.useUnits_frame _ _ _ (Frame.refl _ _) (by decide)) (by decide)

/-- What a recompute that passes adds to the time of the window's value is at most 2 ns, or 4 ns after a later grant (R262). -/
def recompLate (s : State) (v : Nat) (r : Recomp) : Nat :=
  if r.step / 512 = s.count / 256 then 2 * (v % 3) else 2 * (v % 5)

theorem recompDelay_late (s : State) (v : Nat) (w : Win) (r : Recomp) :
    s.recompDelay v w r = if r.step / 512 = s.count / 256 then { w with slip := recompLate s v r }
      else { w with ready := w.ready.map fun k => max k (8 * s.count + 4 + recompLate s v r) } := by
  unfold State.recompDelay recompLate
  split <;> rfl

theorem recompute_passes {s : State} {n : Fin 256} {r : Recomp} {rs : List Recomp} (hr : (s.rout n).recomps = r :: rs)
    (hu : s.usedOf (Base.adc (routAdc n) + 0x026) < 32) (hf : s.recompFirst n r = true) :
    ∃ t late, exec (.integratorRecompute n true) s = .next t ∧ (t.rout n).recomps = rs ∧
      (r.step / 512 = s.count / 256 → late ≤ 4) ∧ (r.step / 512 ≠ s.count / 256 → late ≤ 8) ∧
      (t.rout n).wins = ((s.rout n).wins.map fun w =>
        if w.start = r.win ∧ w.cut = none then
          let v := w.add (conjMul r.x r.w)
          if r.step / 512 = s.count / 256 then { v with slip := late }
          else { v with ready := v.ready.map fun k => max k (8 * s.count + 4 + late) }
        else w) ∧
      t.fld (Base.rout n) Reg.Rout.RECOMP_COUNT = min (s.fld (Base.rout n) Reg.Rout.RECOMP_COUNT + 1) (2 ^ 16 - 1) ∧
      (∀ m, m ≠ n.val → (t.rout m).wins = (s.rout m).wins ∧ (t.rout m).queue = (s.rout m).queue) ∧
      KeepsRegs s t [Base.rout n + 0x010, Base.rout n + 0x15C] := by
  have key := recompute_granted hr hu hf true
  simp only [if_true] at key
  have su := useUnits_step s n (Base.adc (routAdc n) + 0x026)
  generalize s.useUnits (Base.adc (routAdc n) + 0x026) 1 = u at key su
  have hcount : u.count = s.count := su.frame.count (by decide)
  have hrout : u.tookFree.rout n = s.rout n := rout_congr (su.frame.routs (by decide)) n
  have sf : RoutStep n [] 288230376151744512 s u.tookFree :=
    (su.mono (by decide) (by decide)).trans (.of_routs (.of_regs rfl) (State.tookFree_frame _ (Frame.refl _ _) (by decide)) (by decide))
  generalize u.tookFree = a at key hrout sf
  have sp := addProduct_step a n r.win (conjMul r.x r.w)
  have hp := addProduct_rout a n r.win (conjMul r.x r.w)
  generalize a.addProduct n r.win (conjMul r.x r.w) = b at key sp hp
  have sm := modWin_step b n r.win fun w => u.recompDelay (u.freeVal 8).toNat w r
  have hm := modWin_rout b n r.win fun w => u.recompDelay (u.freeVal 8).toNat w r
  generalize (b.modWin n r.win fun w => u.recompDelay (u.freeVal 8).toNat w r) = d at key sm hm
  have sr : RoutStep n [] 17179869184 d (d.modRout n fun t => { t with recomps := rs }) := .modRout
  have hr' := State.rout_modRout d n fun t => { t with recomps := rs }
  generalize (d.modRout n fun t => { t with recomps := rs }) = e at key sr hr'
  have si : RoutStep n [0x15C] 128 e (e.inc (Base.rout n) Reg.Rout.RECOMP_COUNT) := .setFld (by decide)
  have st : RoutStep n [0x010, 0x15C] 324259190350577792 s _ := (sf.mono (by decide) (by decide)).trans
    ((sp.mono (by decide) (by decide)).trans ((sm.mono (by decide) (by decide)).trans ((sr.mono (by decide) (by decide)).trans
      (si.mono (by decide) (by decide)))))
  refine ⟨_, recompLate u (u.freeVal 8).toNat r, key, ?_, fun h => ?_, fun h => ?_, ?_, ?_, st.others, st.regs.keepsRegs⟩
  · rw [rout_settle, rout_congr (si.frame.routs (by decide)), hr']
  · unfold recompLate
    rw [hcount, if_pos h]
    omega
  · unfold recompLate
    rw [hcount, if_neg h]
    omega
  · rw [rout_settle, rout_congr (si.frame.routs (by decide)), hr', hm, hp, hrout]
    simp only [List.map_map]
    refine List.map_congr_left fun w _ => ?_
    simp only [Function.comp_apply, Option.isNone_iff_eq_none]
    by_cases hc : w.start = r.win ∧ w.cut = none
    · rw [if_pos hc, if_pos hc, if_pos (show (w.add (conjMul r.x r.w)).start = r.win ∧ (w.add (conjMul r.x r.w)).cut = none from hc),
        recompDelay_late, hcount]
    · rw [if_neg hc, if_neg hc, if_neg hc]
  · rw [rout_fld_settle _ _ (by decide), inc_fld ⟨by decide, by decide⟩, sr.regs.fld (by decide), sm.regs.fld (by decide),
      sp.regs.fld (by decide), sf.regs.fld (by decide)]
    rfl

theorem recompute_retries {s : State} {n : Fin 256} {r : Recomp} {rs : List Recomp} (hr : (s.rout n).recomps = r :: rs)
    (hu : s.usedOf (Base.adc (routAdc n) + 0x026) < 32) (hf : s.recompFirst n r = true) (h2 : r.second = false) :
    ∃ t, exec (.integratorRecompute n false) s = .next t ∧
      t.rout n = { s.rout n with recomps := { r with second := true } :: rs } ∧
      (∀ m, m ≠ n.val → (t.rout m).wins = (s.rout m).wins ∧ (t.rout m).queue = (s.rout m).queue) ∧ KeepsRegs s t [] := by
  have key := recompute_granted hr hu hf false
  simp only [Bool.false_eq_true, if_false, h2] at key
  have su := useUnits_step s n (Base.adc (routAdc n) + 0x026)
  generalize s.useUnits (Base.adc (routAdc n) + 0x026) 1 = u at key su
  have st : RoutStep n [] 17179901952 s (u.modRout n fun t => { t with recomps := { r with second := true } :: rs }) :=
    (su.mono (by decide) (by decide)).trans (RoutStep.modRout.mono (by decide) (by decide))
  refine ⟨_, key, ?_, st.others, st.regs.keepsRegs⟩
  rw [rout_settle, State.rout_modRout, rout_congr (su.frame.routs (by decide))]

/-- A recompute that is lost leaves the request list, and its window is NO_DECISION. -/
theorem recompLost_shows (s : State) (n : Nat) {r : Recomp} {rs : List Recomp} (hr : (s.rout n).recomps = r :: rs) :
    let t := s.recompLost n r
    let b := Base.rout n
    (t.rout n).recomps = rs ∧ (∀ w ∈ (t.rout n).wins, w.start = r.win → w.cut = none → w.nodec = true) ∧
      (s.bit b Reg.Hdr.VALID = false → t.fld b Reg.Hdr.CODE = 0x1A ∧ t.fld b Reg.Hdr.INFO = r.i % 2 ^ 24) ∧
      t.fld b Reg.Rout.RECOMP_COUNT = min (s.fld b Reg.Rout.RECOMP_COUNT + 1) (2 ^ 16 - 1) ∧
      (t.reg (b + 0x010)).getLsbD 14 = true ∧ RoutStep n [0x010, 0x01C, 0x15C] 108086408236761216 s t := by
  intro t b
  have ht : t = ((((s.err b 0x1A r.i).raise b 14).inc b Reg.Rout.RECOMP_COUNT).modWin n r.win fun w => { w with nodec := true }).modRout n
    fun t => { t with recomps := t.recomps.erase r } := rfl
  have hcap : s.bit b Reg.Hdr.VALID = false → (s.err b 0x1A r.i).fld b Reg.Hdr.CODE = 0x1A ∧
      (s.err b 0x1A r.i).fld b Reg.Hdr.INFO = r.i % 2 ^ 24 := fun hv => ⟨(State.err_captures s hv).1, (State.err_captures s hv).2.1⟩
  have se : RoutStep n [0x01C] 72057594037928064 s (s.err b 0x1A r.i) := .err (by decide)
  generalize s.err b 0x1A r.i = u at ht hcap se
  have h14 := u.raise_sets b 14 (by decide)
  have sr : RoutStep n [0x010] 36028797018964096 u (u.raise b 14) := .raise (by decide)
  generalize u.raise b 14 = v at ht h14 sr
  have hc : (v.inc b Reg.Rout.RECOMP_COUNT).fld b Reg.Rout.RECOMP_COUNT = min (v.fld b Reg.Rout.RECOMP_COUNT + 1) (2 ^ 16 - 1) :=
    inc_fld ⟨by decide, by decide⟩
  have si : RoutStep n [0x15C] 128 v (v.inc b Reg.Rout.RECOMP_COUNT) := .setFld (by decide)
  generalize v.inc b Reg.Rout.RECOMP_COUNT = w at ht hc si
  have hrout : w.rout n = s.rout n := by
    rw [rout_congr (si.frame.routs (by decide)), rout_congr (sr.frame.routs (by decide)), rout_congr (se.frame.routs (by decide))]
  have sm : RoutStep n [] 17179869184 w t := ht ▸ (modWin_step w n r.win _).trans .modRout
  have htn : t.rout n = { s.rout n with
      wins := (s.rout n).wins.map fun w => if w.start = r.win ∧ w.cut.isNone then { w with nodec := true } else w
      recomps := rs } := by
    rw [ht, State.rout_modRout, modWin_rout, hrout, hr, List.erase_cons_head]
  refine ⟨by rw [htn], fun x hx hs hcut => ?_, fun hv => ?_, ?_, ?_, ?_⟩
  · rw [htn] at hx
    obtain ⟨y, _, rfl⟩ := List.mem_map.1 hx
    by_cases hy : y.start = r.win ∧ y.cut.isNone = true
    · rw [if_pos hy]
    · rw [if_neg hy] at hs hcut
      exact absurd ⟨hs, by rw [hcut]; rfl⟩ hy
  · rw [sm.regs.fld (by decide), sm.regs.fld (by decide), si.regs.fld (by decide), si.regs.fld (by decide), sr.regs.fld (by decide),
      sr.regs.fld (by decide)]
    exact hcap hv
  · rw [sm.regs.fld (by decide), hc, sr.regs.fld (by decide), se.regs.fld (by decide)]
  · rw [sm.regs.reg (by decide), si.regs.reg (by decide)]
    exact h14
  · exact (se.mono (by decide) (by decide)).trans ((sr.mono (by decide) (by decide)).trans ((si.mono (by decide) (by decide)).trans
      (sm.mono (by decide) (by decide))))

theorem recompute_fails {s : State} {n : Fin 256} {r : Recomp} {rs : List Recomp} (hr : (s.rout n).recomps = r :: rs)
    (hu : s.usedOf (Base.adc (routAdc n) + 0x026) < 32) (hf : s.recompFirst n r = true) (h2 : r.second = true) :
    let b := Base.rout n
    ∃ t, exec (.integratorRecompute n false) s = .next t ∧ (t.rout n).recomps = rs ∧
      (∀ w ∈ (t.rout n).wins, w.start = r.win → w.cut = none → w.nodec = true) ∧
      (s.bit b Reg.Hdr.VALID = false → t.fld b Reg.Hdr.CODE = 0x1A ∧ t.fld b Reg.Hdr.INFO = r.i % 2 ^ 24) ∧
      t.fld b Reg.Rout.RECOMP_COUNT = min (s.fld b Reg.Rout.RECOMP_COUNT + 1) (2 ^ 16 - 1) ∧
      (t.reg (b + 0x010)).getLsbD 14 = true ∧
      (∀ m, m ≠ n.val → (t.rout m).wins = (s.rout m).wins ∧ (t.rout m).queue = (s.rout m).queue) ∧
      KeepsRegs s t [b + 0x010, b + 0x01C, b + 0x15C] := by
  intro b
  have key := recompute_granted hr hu hf false
  simp only [Bool.false_eq_true, if_false, h2, if_true] at key
  have su := useUnits_step s n (Base.adc (routAdc n) + 0x026)
  generalize s.useUnits (Base.adc (routAdc n) + 0x026) 1 = u at key su
  obtain ⟨h1, h2, h3, h4, h5, h6⟩ := recompLost_shows u n (r := r) (rs := rs) (by rw [rout_congr (su.frame.routs (by decide)), hr])
  have st : RoutStep n [0x010, 0x01C, 0x15C] 108086408236793984 s (u.recompLost n r) :=
    (su.mono (by decide) (by decide)).trans (h6.mono (List.Subset.refl _) (by decide))
  have hbit : u.bit b Reg.Hdr.VALID = s.bit b Reg.Hdr.VALID := by
    unfold State.bit
    rw [su.regs.fld (by decide)]
  rw [su.regs.fld (by decide)] at h4
  refine ⟨_, key, ?_, ?_, ?_, ?_, ?_, st.others, st.regs.keepsRegs⟩
  · rw [rout_settle]
    exact h1
  · rw [rout_settle]
    exact h2
  · rw [rout_fld_settle _ _ (by decide), rout_fld_settle _ _ (by decide)]
    exact hbit ▸ h3
  · rw [rout_fld_settle _ _ (by decide)]
    exact h4
  · rw [rout_reg_settle _ _ (by decide)]
    exact h5

/-- Settles O38, a lemma for each command and step of a window. -/
theorem integrationWindows : Obligations.IntegrationWindows := by
  unfold Obligations.IntegrationWindows
  intro n s b x others
  refine ⟨fun c cs h => ⟨fun he hn hk hl => routOpen_accepted h ?_, fun why hw => ?_⟩, fun c cs => routClose_ends,
    fun c cs => routKernel_sets, fun w r hw hr hd hn hdec least => ?_, fun r rs hr hu hf =>
    ⟨recompute_passes hr hu hf, recompute_retries hr hu hf, recompute_fails hr hu hf⟩⟩
  · unfold State.openReason State.routK
    simp only [show s.enabled (Base.rout n) = true from he, show (s.rout n).norm = false from hn,
      show s.fld (Base.rout n) Reg.Rout.K ≠ 0 from hk, show c.arg % 2 ^ 16 ≠ 0 from hl, Bool.not_true, Bool.or_self, Bool.false_eq_true,
      if_false]
  · refine routOpen_refused h (openReason_of hw) ?_ ?_ <;> omega
  · exact windowValue_taken hw hr hd hn hdec least

end Sys2Proof.Machine
end

section
/-!
O37: the registers of a read-out tone: enables and disables, SWAP, coefficients, kernel memory, the result registers, and the
re-fetches of coefficients and weights.
-/
namespace Sys2Proof.Machine

/-! ### Granted accesses -/

theorem rout_lt (n : Fin 256) : n.val < pageCount .rout := n.isLt

/-- A bit reads as it was set. -/
theorem bit_setBit {r : Row} (h : r.fits) (hw : r.width = 1) (s : State) (b : Nat) (v : Bool) : (s.setBit b r v).bit b r = v := by
  unfold State.bit State.setBit
  rw [State.fld_setFld_same _ _ h, hw]
  cases v <;> rfl

theorem enabled_setEnable (s : State) (b : Nat) (v : Bool) : (s.setEnable b v).enabled b = v :=
  bit_setBit ⟨by decide, by decide⟩ rfl s b v

section
variable {s r u : State} {who : Req} {n : Fin 256} {offs : List Nat}

theorem granted_rout (hg : s.granted who .rout n = some r) (m : Nat) : r.rout m = s.rout m :=
  rout_congr (by rw [granted_rest hg]) m

/-- What a granted access changes, once it is over: the page of its tone, its tone, and the units used. -/
theorem onlyRout_of (hq : Settled s) (hg : s.granted who .rout n = some r) (st : RoutStep n offs 72057611217797248 r u) :
    OnlyRout s r u.settle n offs := by
  have hc := (granted_charged hg).1
  have he : u.edges = [] := (st.frame.edges (by decide)).trans (charged_settled hq hc).1
  refine ⟨fun m hm => ?_, fun a ha => ?_, ?_⟩
  · rw [rout_settle, st.rout m hm, granted_rout hg]
  · rw [State.reg_settle_quiet he, st.regs a ha, granted_reg hg]
  · rw [settle_newCycle he]
    obtain ⟨A, B, C, rfl⟩ : ∃ A B C, u = { r with regs := A, routs := B, errNow := C } := ⟨_, _, _, st.frame.eq⟩
    obtain ⟨U, rfl⟩ : ∃ U, r = { s with used := U } := ⟨_, charged_used hq hc⟩
    show ({ s with used := U, regs := A, routs := B, errNow := [] } : State) = _
    rw [← hq.2]
    rfl

theorem rout_enabled_settle (s : State) (n : Fin 256) : s.settle.enabled (Base.rout n) = s.enabled (Base.rout n) := by
  unfold State.enabled State.bit
  rw [rout_fld_settle _ _ (by decide)]

/-- Setting ENABLE, and working on the tone. -/
theorem setEnable_step (s : State) (n : Nat) (v : Bool) (f : RoutSt → RoutSt) :
    RoutStep n [0x008] 72057611217797248 s ((s.setEnable (Base.rout n) v).modRout n f) :=
  (RoutStep.setFld (by decide)).mono (List.Subset.refl _) (by decide) |>.trans (RoutStep.modRout.mono (by decide) (by decide))

/-! ### ENABLE -/

theorem execRoutEnable_granted (hg : s.granted who .rout n = some r) (he : s.enabled (Base.rout n) = false) :
    exec (.routEnable who n) s = .next (r.routEnable n).settle := by
  show finish (s.putEnable who (pageBase .rout n)) = _
  rw [putEnable_granted hg (rout_lt n) rfl (by decide) (.inr he)]
  rfl

/-- An accepted ENABLE either cancels a pending disable or asks for the filters to be cleared. -/
theorem routEnable_accepted (he : r.enabled (Base.rout n) = false) (hd : r.firDemand n ≤ r.fld (Base.rout n) Reg.Hdr.LIMIT)
    (hgd : r.firTaps n = 0 ∨ r.firGd n < r.firTaps n) :
    ∃ f, r.routEnable n = (r.setEnable (Base.rout n) true).modRout n f ∧
      f (r.rout n) = if (r.rout n).norm then { r.rout n with norm := false } else { r.rout n with arming := true } := by
  unfold State.routEnable
  simp only [he, Nat.not_lt.2 hd, show ¬ (0 < r.firTaps n ∧ r.firTaps n ≤ r.firGd n) by omega, Bool.false_eq_true, if_false]
  by_cases hn : (r.rout n).norm = true
  · exact ⟨_, if_pos hn, (if_pos hn).symm⟩
  · exact ⟨_, if_neg hn, (if_neg hn).symm⟩

theorem routEnable_overLimit (he : r.enabled (Base.rout n) = false) (hd : r.fld (Base.rout n) Reg.Hdr.LIMIT < r.firDemand n) :
    r.routEnable n = r.err (Base.rout n) 0x12 (r.firDemand n) := by
  unfold State.routEnable
  simp only [he, Bool.false_eq_true, if_false, if_pos hd]

theorem routEnable_lateDelay (he : r.enabled (Base.rout n) = false) (hd : r.firDemand n ≤ r.fld (Base.rout n) Reg.Hdr.LIMIT)
    (ht : 0 < r.firTaps n) (hgd : r.firTaps n ≤ r.firGd n) :
    r.routEnable n = r.err (Base.rout n) 0x13 (r.firGd n) := by
  unfold State.routEnable
  simp only [he, Nat.not_lt.2 hd, Bool.false_eq_true, if_false, ht, hgd, and_self, if_true]

/-- An ENABLE that is refused leaves its code in the page and the tone as it was. -/
theorem routEnable_refused (hq : Settled s) (hg : s.granted who .rout n = some r) (he : s.enabled (Base.rout n) = false)
    (code info : Nat) (hv : s.bit (Base.rout n) Reg.Hdr.VALID = false) (hcode : code < 64) :
    let t := (r.err (Base.rout n) code info).settle
    t.enabled (Base.rout n) = false ∧ t.fld (Base.rout n) Reg.Hdr.CODE = code ∧ t.rout n = s.rout n ∧ OnlyRout s r t n [0x01C] := by
  intro t
  obtain ⟨-, -, hcap⟩ := charged_err hq (granted_charged hg).1 (Base.rout n) code info
  refine ⟨?_, ?_, ?_, onlyRout_of hq hg ((RoutStep.err (by decide)).mono (List.Subset.refl _) (by decide))⟩
  · rw [rout_enabled_settle]
    unfold State.enabled State.bit at he ⊢
    rw [State.fld_err_page _ (by decide), granted_fld hg]
    exact he
  · rw [(hcap hv).1, Nat.mod_eq_of_lt hcode]
  · rw [rout_settle, State.rout_err, granted_rout hg]

theorem routEnable_taken (hq : Settled s) (hg : s.granted who .rout n = some r) (he : s.enabled (Base.rout n) = false) :
    let b := Base.rout n
    let x := s.rout n
    let taps := s.fld b Reg.Rout.FIR_TAPS
    let demand := taps * 2 ^ (8 - s.fld b Reg.Rout.K)
    let gd := s.fld b Reg.Rout.FIR_GD
    ∃ t, exec (.routEnable who n) s = .next t ∧
      (demand ≤ s.fld b Reg.Hdr.LIMIT → (taps = 0 ∨ gd < taps) →
        t.enabled b = true ∧ t.rout n = (if x.norm then { x with norm := false } else { x with arming := true }) ∧
          OnlyRout s r t n [0x008]) ∧
      (s.fld b Reg.Hdr.LIMIT < demand → s.bit b Reg.Hdr.VALID = false →
        t.enabled b = false ∧ t.fld b Reg.Hdr.CODE = 0x12 ∧ t.rout n = x ∧ OnlyRout s r t n [0x01C]) ∧
      (demand ≤ s.fld b Reg.Hdr.LIMIT → 0 < taps → taps ≤ gd → s.bit b Reg.Hdr.VALID = false →
        t.enabled b = false ∧ t.fld b Reg.Hdr.CODE = 0x13 ∧ t.rout n = x ∧ OnlyRout s r t n [0x01C]) := by
  intro b x taps demand gd
  have her : r.enabled b = false := by rw [granted_enabled hg]; exact he
  have hlim : r.fld b Reg.Hdr.LIMIT = s.fld b Reg.Hdr.LIMIT := granted_fld hg ..
  have htaps : r.firTaps n = taps := granted_fld hg ..
  have hgd : r.firGd n = gd := granted_fld hg ..
  have hdem : r.firDemand n = demand := by
    unfold State.firDemand State.routK
    rw [htaps, granted_fld hg]
  refine ⟨_, execRoutEnable_granted hg he, fun h1 h2 => ?_, fun h1 hv => ?_, fun h1 h2 h3 hv => ?_⟩
  · obtain ⟨f, hf, hx⟩ := routEnable_accepted her (by rw [hdem, hlim]; exact h1) (by rw [htaps, hgd]; exact h2)
    rw [hf]
    refine ⟨?_, ?_, onlyRout_of hq hg (setEnable_step r n true f)⟩
    · rw [rout_enabled_settle, State.modRout_enabled, enabled_setEnable]
    · rw [rout_settle, State.rout_modRout, show (r.setEnable (Base.rout n) true).rout n = r.rout n from State.rout_setFld ..,
        hx, granted_rout hg]
  · rw [routEnable_overLimit her (by rw [hdem, hlim]; exact h1)]
    exact routEnable_refused hq hg he 0x12 _ hv (by decide)
  · rw [routEnable_lateDelay her (by rw [hdem, hlim]; exact h1) (by rw [htaps]; exact h2) (by rw [htaps, hgd]; exact h3)]
    exact routEnable_refused hq hg he 0x13 _ hv (by decide)

theorem routNormalDisable_pends (hq : Settled s) (hg : s.granted who .rout n = some r) (he : s.enabled (Base.rout n) = true) :
    ∃ t, exec (.routNormalDisable who n) s = .next t ∧ t.enabled (Base.rout n) = false ∧
      t.rout n = { s.rout n with norm := true } ∧ OnlyRout s r t n [0x008] := by
  have key : exec (.routNormalDisable who n) s =
      .next ((r.setEnable (Base.rout n) false).modRout n fun t => { t with norm := true }).settle := by
    show finish (s.putDisable who (pageBase .rout n)) = _
    rw [putDisable_granted hg (rout_lt n) rfl (by decide) (.inr he)]
    show finish (r.routDisable n) = _
    unfold State.routDisable
    rw [if_pos (by rw [granted_enabled hg]; exact he)]
    rfl
  refine ⟨_, key, ?_, ?_, onlyRout_of hq hg (setEnable_step r n false _)⟩
  · rw [rout_enabled_settle, State.modRout_enabled, enabled_setEnable]
  · rw [rout_settle, State.rout_modRout, show (r.setEnable (Base.rout n) false).rout n = r.rout n from State.rout_setFld ..,
      granted_rout hg]

/-! ### DISABLE_NOW -/

/-- The tone after an immediate disable from step `t`: its filters empty, its open windows cut. -/
def RoutSt.killed (x : RoutSt) (k t : Nat) (again : Bool) : RoutSt :=
  { x with
    wins := x.wins.map fun w => if x.winOpen w then w.kill k t else w
    recomps := [], norm := false, arming := again, since := none, stages := [], fir := [], outq := [], offered := [] }

/-- Raising TRUNCATED for captures and charging their shots leaves every tone, and of the page only IRQ_STAT changes. -/
theorem truncate_step (s : State) (n : Nat) (tags : List Tag) :
    RoutStep n [0x010] 36028797018965120 s (if tags.isEmpty then s else
      tags.foldl (fun s g => s.charge g Flag.TRUNCATED) (s.raise (Base.rout n) 3)) := by
  split
  · exact RoutStep.refl
  · have hf : Frame 1024 (s.raise (Base.rout n) 3) (tags.foldl (fun s g => s.charge g Flag.TRUNCATED) (s.raise (Base.rout n) 3)) :=
      Frame.foldl (Frame.refl _ _) fun t g => State.charge_frame t g Flag.TRUNCATED (Frame.refl _ _) (by decide)
    exact ((RoutStep.raise (by decide)).mono (List.Subset.refl _) (by decide)).trans
      (.of_routs (.of_regs (hf.regs (by decide))) (hf.mono (by decide)) (by decide))

/-- Raising TRUNCATED leaves the status bits that were set. -/
theorem truncate_keeps {s : State} {n i : Nat} (tags : List Tag) (h : (s.reg (Base.rout n + 0x010)).getLsbD i = true) :
    ((if tags.isEmpty then s else
      tags.foldl (fun s g => s.charge g Flag.TRUNCATED) (s.raise (Base.rout n) 3)).reg (Base.rout n + 0x010)).getLsbD i = true := by
  split
  · exact h
  · have hf : Frame 1024 (s.raise (Base.rout n) 3) (tags.foldl (fun s g => s.charge g Flag.TRUNCATED) (s.raise (Base.rout n) 3)) :=
      Frame.foldl (Frame.refl _ _) fun t g => State.charge_frame t g Flag.TRUNCATED (Frame.refl _ _) (by decide)
    rw [State.reg_congr (hf.regs (by decide))]
    exact raise_keeps h

/-- An immediate disable of a tone clears ENABLE, cuts its open windows and reports them. -/
theorem routKill_shows (s : State) (n t : Nat) :
    (s.routKill n t true).enabled (Base.rout n) = false ∧
      (s.routKill n t true).rout n = (s.rout n).killed (s.routK n) t false ∧
      ((∃ w ∈ (s.rout n).wins, (s.rout n).winOpen w = true) → ((s.routKill n t true).reg (Base.rout n + 0x010)).getLsbD 15 = true) ∧
      ∀ m, m ≠ n → (s.routKill n t true).rout m = s.rout m := by
  unfold State.routKill
  simp only [Bool.not_true, Bool.false_and, if_true]
  generalize ((s.rout n).wins.filter (s.rout n).winOpen).map Win.tag ++ s.acqTags 2 n = tags
  have ha : (s.acqSourceKill 2 n).routs = s.routs :=
    (State.acqSourceKill_frame (w := 36063981391053952) s _ _ (Frame.refl _ _) (by decide)).routs (by decide)
  generalize s.acqSourceKill 2 n = u at ha
  generalize hv : u.modRout n _ = v
  have hu : v.rout n = (s.rout n).killed (s.routK n) t false := by
    rw [← hv, State.rout_modRout, rout_congr ha]
    rfl
  have hm : ∀ m, m ≠ n → v.rout m = s.rout m := fun m h => by rw [← hv, State.rout_modRout_ne _ _ h, rout_congr ha m]
  have he := enabled_setEnable v (Base.rout n) false
  have se : ∀ m, (v.setEnable (Base.rout n) false).rout m = v.rout m := fun m => State.rout_setFld ..
  generalize v.setEnable (Base.rout n) false = w at he se
  have h15 : (∃ w ∈ (s.rout n).wins, (s.rout n).winOpen w = true) →
      ((if ((s.rout n).wins.filter (s.rout n).winOpen).isEmpty then w else w.raise (Base.rout n) 15).reg
        (Base.rout n + 0x010)).getLsbD 15 = true := by
    rintro ⟨x, hx, ho⟩
    rw [if_neg fun h => by
      rw [List.isEmpty_iff, List.filter_eq_nil_iff] at h
      exact h x hx ho]
    exact State.raise_sets _ _ _ (by decide)
  have sr : RoutStep n [0x010] 36028797018964096 w
      (if ((s.rout n).wins.filter (s.rout n).winOpen).isEmpty then w else w.raise (Base.rout n) 15) := by
    split
    · exact RoutStep.refl
    · exact RoutStep.raise (by decide)
  generalize (if ((s.rout n).wins.filter (s.rout n).winOpen).isEmpty then w else w.raise (Base.rout n) 15) = z at h15 sr
  have st := (sr.mono (List.Subset.refl _) (by decide)).trans (truncate_step z n tags)
  have routs : ∀ m, (if tags.isEmpty then z else
      tags.foldl (fun s g => s.charge g Flag.TRUNCATED) (z.raise (Base.rout n) 3)).rout m = v.rout m := fun m =>
    (rout_congr (st.frame.routs (by decide)) m).trans (se m)
  refine ⟨?_, (routs n).trans hu, fun h => truncate_keeps tags (h15 h), fun m h => (routs m).trans (hm m h)⟩
  unfold State.enabled State.bit at he ⊢
  rw [st.regs.fld (by decide)]
  exact he

theorem routDisableNow_kills (hg : s.granted who .rout n = some r) :
    let b := Base.rout n
    let x := s.rout n
    ∃ t, exec (.routDisableNow who n) s = .next t ∧ t.enabled b = false ∧ (t.rout n).since = none ∧
      (t.rout n).norm = false ∧ (t.rout n).recomps = [] ∧ (t.rout n).wins.length = x.wins.length ∧
      (∀ w ∈ x.wins, x.winOpen w = true → ∃ v ∈ (t.rout n).wins, v.start = w.start ∧ v.nodec = true ∧
        v.ready = some (4 * (2 * s.count + 2))) ∧
      ((∃ w ∈ x.wins, x.winOpen w = true) → (t.reg (b + 0x010)).getLsbD 15 = true) ∧
      (∀ m, m ≠ n.val → t.rout m = s.rout m) := by
  intro b x
  have key : exec (.routDisableNow who n) s = .next (r.routKill n r.nextStep true).settle := by
    show finish (s.putCtl who (pageBase .rout n) 1) = _
    rw [putKill_granted hg (rout_lt n) rfl (by decide) (by decide)]
    rfl
  obtain ⟨he, hx, h15, hm⟩ := routKill_shows r n r.nextStep
  have hn : r.nextStep = 2 * s.count + 2 := by
    rw [granted_rest hg]
    rfl
  rw [granted_rout hg n] at hx h15
  generalize r.routKill n r.nextStep true = u at key he hx h15 hm
  have hx' : u.settle.rout n = x.killed (r.routK n) r.nextStep false := (rout_settle u n).trans hx
  refine ⟨_, key, ?_, by rw [hx']; rfl, by rw [hx']; rfl, by rw [hx']; rfl, ?_, fun w hw ho => ?_, fun h => ?_, fun m h => ?_⟩
  · rw [rout_enabled_settle, he]
  · rw [hx']
    exact List.length_map _
  · rw [hx']
    refine ⟨w.kill (r.routK n) r.nextStep, List.mem_map.2 ⟨w, hw, if_pos ho⟩, rfl, rfl, ?_⟩
    rw [← hn]
    rfl
  · rw [rout_reg_settle _ _ (by decide)]
    exact h15 h
  · rw [rout_settle, hm m h, granted_rout hg]

/-! ### SWAP -/

/-- A whole word written at the offset of SWAP leaves BANK. -/
theorem plainWord_bank (lock : Bool) (old data : Word) :
    Reg.Rout.BANK.get (plainWord .rout 0x05C lock old data 0xFFFF_FFFF#32) = Reg.Rout.BANK.get old := by
  have hrows : rowsAt .rout 0x05C = [Reg.Rout.SWAP, Reg.Rout.BANK, Reg.Rout.FIR_SH] := by decide
  have hm : ∀ w, storeMask .rout 0x05C lock old w = Reg.Rout.FIR_SH.mask := by
    intro w
    have hp : ∀ w, pairKeeps .rout 0x05C w = 0#32 := fun _ => rfl
    have ha : rowAccepts .rout Reg.Rout.FIR_SH w = true := rfl
    have hs : shutEnBit .rout 0x05C = 0#32 := by decide
    unfold storeMask
    simp [hrows, hp, ha, hs, show Reg.Rout.SWAP.acc = .w1s from rfl, show Reg.Rout.BANK.acc = .ro from rfl,
      show Reg.Rout.FIR_SH.acc = .rw from rfl]
    cases lock <;> rfl
  have hc : clearMask .rout 0x05C = 0#32 := by decide
  unfold plainWord
  simp only [hm, hc, BitVec.and_zero, BitVec.not_zero, show (0xFFFF_FFFF#32 : Word) = BitVec.allOnes 32 from rfl, BitVec.and_allOnes]
  exact Row.get_mergeWord_out ⟨by decide, by decide⟩ (by decide) _ _

/-- A write at the offset of SWAP stores a word with BANK as it was; in a page in use FIR_SH is refused. -/
theorem plainWrite_swap (s : State) (n : Nat) (data : Word) :
    ∃ u w, s.plainWrite .rout n 0x05C 0xFFFF_FFFF#32 data = u.setReg (Base.rout n + 0x05C) w ∧
      Reg.Rout.BANK.get w = s.fld (Base.rout n) Reg.Rout.BANK ∧ (u = s ∨ u = s.err (Base.rout n) 0x11 0x05C) := by
  have hbank := plainWord_bank (s.bit (Base.rout n) Reg.Hdr.LOCK) (s.reg (Base.rout n + 0x05C)) data
  have hw : s.plainWrite .rout n 0x05C 0xFFFF_FFFF#32 data =
      let r := Guard.apply ⟨[Reg.Rout.K, Reg.Rout.SH, Reg.Rout.FIR_TAPS, Reg.Rout.FIR_GD, Reg.Rout.FIR_SH], s.pageBusy .rout n, 0x11,
        0x05C, false⟩ (Base.rout n) 0x05C 0xFFFF_FFFF#32 (s.reg (Base.rout n + 0x05C))
        (s, plainWord .rout 0x05C (s.bit (Base.rout n) Reg.Hdr.LOCK) (s.reg (Base.rout n + 0x05C)) data 0xFFFF_FFFF#32)
      r.1.setReg (Base.rout n + 0x05C) r.2 := rfl
  generalize plainWord .rout 0x05C (s.bit (Base.rout n) Reg.Hdr.LOCK) (s.reg (Base.rout n + 0x05C)) data 0xFFFF_FFFF#32 = w at hbank hw
  rw [hw]
  unfold Guard.apply
  dsimp only
  split
  · refine ⟨_, _, rfl, ?_, .inr rfl⟩
    simp only [List.foldl_cons, List.foldl_nil, show Reg.Rout.K.covers 0x05C = false from rfl,
      show Reg.Rout.SH.covers 0x05C = false from rfl, show Reg.Rout.FIR_TAPS.covers 0x05C = false from rfl, show Reg.Rout.FIR_GD.covers 0x05C = false from rfl,
      show Reg.Rout.FIR_SH.covers 0x05C = true from rfl, if_true, Bool.false_eq_true, if_false]
    rw [Row.get_mergeWord_out ⟨by decide, by decide⟩ (by decide), hbank]
    rfl
  · exact ⟨_, _, rfl, hbank, .inl rfl⟩

/-- A write of 1 to SWAP stores the word, and asks for the other bank. -/
theorem blockWrite_swap (s : State) (who : Req) (n : Nat) (data : Word) :
    s.blockWrite who .rout n 0x05C 0xFFFF_FFFF#32 (withBit data 9) =
      (s.plainWrite .rout n 0x05C 0xFFFF_FFFF#32 (withBit data 9)).routSwap n := by
  have h9 : (withBit data 9 &&& 0xFFFF_FFFF#32).getLsbD 9 = true := by
    unfold withBit
    simp
  have key : s.blockWrite who .rout n 0x05C 0xFFFF_FFFF#32 (withBit data 9) =
      if (withBit data 9 &&& 0xFFFF_FFFF#32).getLsbD 9 then (s.plainWrite .rout n 0x05C 0xFFFF_FFFF#32 (withBit data 9)).routSwap n
      else s.plainWrite .rout n 0x05C 0xFFFF_FFFF#32 (withBit data 9) := rfl
  rw [key, if_pos h9]

theorem swap_asked (hq : Settled s) (hg : s.granted who .rout n = some r) (data : Word) :
    let b := Base.rout n
    let x := s.rout n
    ∃ t, exec (.swap who n data) s = .next t ∧ t.bit b Reg.Rout.SWAP = true ∧
      t.fld b Reg.Rout.BANK = s.fld b Reg.Rout.BANK ∧ t.rout n = { x with swapAt := some (x.swapAt.getD s.count) } ∧
      OnlyRout s r t n [0x01C, 0x05C] := by
  intro b x
  have key : exec (.swap who n data) s = .next ((r.plainWrite .rout n 0x05C 0xFFFF_FFFF#32 (withBit data 9)).routSwap n).settle := by
    show finish (s.busPut who (pageBase .rout n + 0x05C) (withBit data 9)) = _
    rw [busPut_granted hg (rout_lt n) (by decide) (by decide), pageWrite_block hg (by decide) (by decide), blockWrite_swap]
    rfl
  obtain ⟨u, w, hw, hbank, hu⟩ := plainWrite_swap r n (withBit data 9)
  rw [granted_fld hg] at hbank
  have su : RoutStep n [0x01C, 0x05C] 72057611217797248 r u := by
    obtain rfl | rfl := hu
    · exact .refl
    · exact (RoutStep.err (by decide)).mono (List.Subset.refl _) (by decide)
  have hrout : u.rout n = s.rout n := by
    obtain rfl | rfl := hu
    · exact granted_rout hg n
    · rw [State.rout_err, granted_rout hg]
  have hcount : u.count = s.count := (su.frame.count (by decide)).trans (by rw [granted_rest hg])
  rw [hw] at key
  have sw : RoutStep n [0x01C, 0x05C] 128 u (u.setReg (b + 0x05C) w) :=
    .of_routs (.of_one (o := 0x05C) (by decide) fun a ha => State.reg_setReg_ne _ _ ha)
      (State.setReg_frame _ _ _ (Frame.refl _ _) (by decide)) (by decide)
  have hv : (u.setReg (b + 0x05C) w).fld b Reg.Rout.BANK = s.fld b Reg.Rout.BANK :=
    (State.fld_of_reg (State.reg_setReg_same _ _ _)).trans hbank
  have hvr : (u.setReg (b + 0x05C) w).rout n = s.rout n := hrout
  have hvc : (u.setReg (b + 0x05C) w).count = s.count := hcount
  generalize u.setReg (b + 0x05C) w = v at key sw hv hvr hvc
  have hs := bit_setBit (r := Reg.Rout.SWAP) ⟨by decide, by decide⟩ rfl v b true
  have hb : (v.setBit b Reg.Rout.SWAP true).fld b Reg.Rout.BANK = s.fld b Reg.Rout.BANK :=
    (State.fld_setFld_apart _ _ _ _ ⟨by decide, by decide⟩ (.inr (by decide))).trans hv
  have st : RoutStep n [0x01C, 0x05C] 72057611217797248 r (v.routSwap n) :=
    su.trans ((sw.mono (List.Subset.refl _) (by decide)).trans (((RoutStep.setFld (by decide)).mono (List.Subset.refl _) (by decide)).trans
      (RoutStep.modRout.mono (by decide) (by decide))))
  refine ⟨_, key, ?_, ?_, ?_, onlyRout_of hq hg st⟩
  · unfold State.bit at hs ⊢
    rw [rout_fld_settle _ _ (by decide)]
    exact hs
  · rw [rout_fld_settle _ _ (by decide)]
    exact hb
  · rw [rout_settle]
    unfold State.routSwap
    rw [State.rout_modRout, show (v.setBit (Base.rout n) Reg.Rout.SWAP true).rout n = v.rout n from State.rout_setFld .., hvr, ← hvc]

/-! ### Writes to the shadow -/

end

/-- `t` is `s` after requests to the memory controller: of the registers only those of the controller's pages differ, and otherwise
the fields whose bits are set. -/
structure MemStep (w : Nat) (s t : State) : Prop where
  regs : ∀ a, ¬ memCtl a → t.reg a = s.reg a
  frame : Frame w s t

section
variable {s t u : State} {w : Nat}

theorem MemStep.trans (h : MemStep w s t) (k : MemStep w t u) : MemStep w s u :=
  ⟨fun a ha => (k.regs a ha).trans (h.regs a ha), h.frame.trans k.frame⟩

/-- An operation that writes no register. -/
theorem MemStep.of_regs (h : Frame w s t) (hw : w.testBit 7 = false) : MemStep w s t :=
  ⟨fun a _ => State.reg_congr (h.regs hw) a, h⟩

theorem MemStep.mono {v : Nat} (h : MemStep v s t) (le : v ||| w = w) : MemStep w s t := ⟨h.regs, h.frame.mono le⟩

/-- A tone's page is none of the controller's. -/
theorem rout_not_memCtl {n : Fin 256} {o : Nat} (h : o < 0x1000) : ¬ memCtl (Base.rout n + o) := by
  have := n.isLt
  unfold memCtl Base.rout
  omega

/-- A write merged into one that is pending counts in the page of its channel. -/
theorem mergeCount_mem (s : State) (da : Nat) : MemStep 128 s (s.inc (Base.dch (dramCh da)) Reg.Dch.MERGE_COUNT) := by
  refine ⟨fun a ha => State.reg_setFld_ne _ fun e => ha ?_, State.inc_frame _ _ _ _ (Frame.refl _ _) (by decide)⟩
  have : dramCh da < 4 := Nat.mod_lt _ (by decide)
  rw [e]
  unfold memCtl Base.dch
  simp only [show Reg.Dch.MERGE_COUNT.off = 0x064 from rfl]
  omega

theorem modDch_mem (s : State) (c : Nat) (f : DchSt → DchSt) : MemStep 4194432 s (s.modDch c f) :=
  .mono (.of_regs (w := 4194304) (State.modDch_frame _ _ _ (Frame.refl _ _) (by decide)) (by decide)) (by decide)

/-- A granted write that its port may make is pending at its channel. -/
theorem dramEnter_write_mem {port da : Nat} {panic : Bool} {use : DramUse} (may : s.portMay port da = true) :
    MemStep 4194432 s (s.dramEnter port true da panic use) := by
  unfold State.dramEnter
  simp only [may, Bool.not_true, Bool.false_eq_true, if_false, if_true]
  split
  · exact ((mergeCount_mem s _).mono (by decide)).trans (modDch_mem _ _ _)
  · exact modDch_mem _ _ _

/-- A write that its port may make is granted, or waits. -/
theorem dramRequest_write_mem {port fn da : Nat} {panic : Bool} (may : ∀ t : State, t.portMay port da = true) :
    MemStep 21004416 s (s.dramRequest port fn true da panic) := by
  have wait : ∀ l, MemStep 21004416 s { s with dwait := l } := fun l =>
    .mono (.of_regs (w := 16777216) (Frame.upd_dwait _ _ (Frame.refl _ _) (by decide)) (by decide)) (by decide)
  unfold State.dramRequest
  dsimp only
  split
  · exact wait _
  · split
    next t ht =>
      have charged : MemStep 32768 s t := .of_regs (State.chargePort_frame s port fn ht (Frame.refl _ _) (by decide)) (by decide)
      exact (charged.mono (by decide)).trans ((dramEnter_write_mem (may t)).mono (by decide))
    · exact wait _

/-- Port 4 may address the shadow. -/
theorem portMay_shadow (s : State) {o : Nat} (h : o < 0x0400_0000) : s.portMay 4 (shadowAt o) = true := by
  unfold State.portMay shadowAt
  simp only [Bool.or_eq_true, decide_eq_true_eq]
  exact .inr ⟨by omega, by omega⟩

/-- A shadow write puts its bytes into DRAM, and asks the controller for its burst. -/
theorem shadowWrite_mem (s : State) (fn : Nat) {o : Nat} (bs : List Byte) (h : o < 0x0400_0000) :
    (s.shadowWrite fn o bs).dram = wrBytes s.dram (shadowAt o) bs ∧ MemStep 23101568 s (s.shadowWrite fn o bs) := by
  have put : MemStep 2097152 s { s with dram := wrBytes s.dram (shadowAt o) bs } :=
    .of_regs (Frame.upd_dram _ _ (Frame.refl _ _) (by decide) fun ⟨a, b, c⟩ => ⟨a, Memory.wf_wrBytes _ _ b, c⟩) (by decide)
  have req := dramRequest_write_mem (s := { s with dram := wrBytes s.dram (shadowAt o) bs }) (port := 4) (fn := fn) (da := shadowAt o)
    (panic := false) fun t => portMay_shadow t h
  exact ⟨req.frame.dram (by decide), (put.mono (by decide)).trans (req.mono (by decide))⟩

/-- Bytes written read back, and the others stay. -/
theorem bytesPut_wrBytes (m : List Host.Cell) (o : Nat) (bs : List Byte) : BytesPut m (wrBytes m o bs) o bs :=
  ⟨fun i hi => by rw [rdByte_wrBytes m o i bs hi, List.getD_eq_getElem _ _ hi], fun _ ha => rdByte_wrBytes_out m bs ha⟩

end

/-! ### Coefficients -/

theorem hasWord_coefficient (j : Fin 384) : hasWord .rout (0x800 + 4 * j) = true := by
  have hmem : Reg.Rout.CI ∈ rowsAt .rout (0x800 + 4 * j) := by
    unfold rowsAt
    rw [if_neg (by omega), List.mem_filter]
    refine ⟨by decide, ?_⟩
    show (decide (0x800 ≤ 0x800 + 4 * j.val) && (0x800 + 4 * j.val - 0x800) % 4 == 0 &&
      decide ((0x800 + 4 * j.val - 0x800) / 4 < 384)) = true
    rw [Nat.add_sub_cancel_left, Nat.mul_mod_right, Nat.mul_div_cancel_left _ (by decide), decide_eq_true (Nat.le_add_right _ _),
      decide_eq_true j.isLt]
    rfl
  unfold hasWord
  rw [List.isEmpty_eq_false_iff.2 (List.ne_nil_of_mem hmem), Bool.not_false, Bool.or_true]

section
variable {s r u : State} {who : Req} {n : Fin 256}

/-- A write to the coefficient window. -/
theorem special_coefficient (s : State) (who : Req) (n : Nat) (mask data : Word) {off : Nat} (h : 0x800 ≤ off) :
    s.special who .rout n off mask data =
      some (s.coefWrite n ((off - 0x800) / 4) (mergeWord (s.coefRead n ((off - 0x800) / 4)) data mask)) :=
  (if_neg (by omega)).trans (if_pos h)

theorem execCoefficientWrite_granted (hg : s.granted who .rout n = some r) (j : Fin 384) (data : Word) :
    exec (.coefficientWrite who n j data) s = .next (r.coefWrite n j data).settle := by
  have hsp : r.special who .rout n (0x800 + 4 * j) 0xFFFF_FFFF#32 data = some (r.coefWrite n j data) := by
    rw [special_coefficient _ _ _ _ _ (by omega), mergeWord_whole, show (0x800 + 4 * j.val - 0x800) / 4 = j.val by omega]
  show finish (s.busPut who (pageBase .rout n + 0x800 + 4 * j) data) = _
  rw [Nat.add_assoc, busPut_granted hg (rout_lt n) (by omega) (by omega), pageWrite_block hg (by omega) (hasWord_coefficient j)]
  unfold State.blockWrite
  rw [hsp]
  rfl

/-- A granted access that captures no error and makes no edge is over as it stands. -/
theorem granted_over {w : Nat} (hq : Settled s) (hg : s.granted who .rout n = some r) (hf : Frame w r u)
    (he : w.testBit 56 = false ∧ w.testBit 55 = false) : u.settle = u := by
  have hr := charged_settled hq (granted_charged hg).1
  exact settle_quiet ((hf.edges he.2).trans hr.1) ((hf.errNow he.1).trans hr.2)

/-- The copies of the banks in the shadow. -/
theorem firShadow_lt (n : Fin 256) (bank : Nat) (j : Fin 384) : firOff + 4 * firKey n (1 - bank) j < 0x0400_0000 := by
  have := n.isLt
  have := j.isLt
  unfold firOff firKey
  omega

theorem coefficientWrite_stored (hq : Settled s) (hg : s.granted who .rout n = some r) (j : Fin 384) (data : Word)
    (hw : (s.rout n).swapAt = none) :
    let k := firKey n (1 - s.fld (Base.rout n) Reg.Rout.BANK) j
    ∃ t, exec (.coefficientWrite who n j data) s = .next t ∧ SMap.get (fun _ => 0#32) t.fir k = data ∧
      (∀ i, i ≠ k → SMap.get (fun _ => 0#32) t.fir i = SMap.get (fun _ => 0#32) s.fir i) ∧
      BytesPut s.dram t.dram (shadowAt (firOff + 4 * k)) (bytesLE data.toNat 4) ∧ (∀ a, ¬ memCtl a → t.reg a = s.reg a) ∧
      t = { s with regs := t.regs, fir := t.fir, used := t.used, dram := t.dram, dchs := t.dchs, dwait := t.dwait } := by
  intro k
  have key : exec (.coefficientWrite who n j data) s =
      .next (({ r with fir := SMap.set (fun _ => 0#32) r.fir k data } : State).shadowWrite (r.shadowFn (Base.rout n)) (firOff + 4 * k)
        (bytesLE data.toNat 4)).settle := by
    rw [execCoefficientWrite_granted hg]
    unfold State.coefWrite
    simp only [granted_rout hg, hw, Option.isSome_none, Bool.false_eq_true, if_false, granted_fld hg]
    rfl
  have store : MemStep 34359738368 r { r with fir := SMap.set (fun _ => 0#32) r.fir k data } :=
    .of_regs (Frame.upd_fir _ _ (Frame.refl _ _) (by decide)) (by decide)
  obtain ⟨hdram, hmem⟩ := shadowWrite_mem { r with fir := SMap.set (fun _ => 0#32) r.fir k data } (r.shadowFn (Base.rout n))
    (bytesLE data.toNat 4) (firShadow_lt n (s.fld (Base.rout n) Reg.Rout.BANK) j)
  have hfir := hmem.frame.fir (by decide)
  generalize ({ r with fir := SMap.set (fun _ => 0#32) r.fir k data } : State).shadowWrite (r.shadowFn (Base.rout n)) (firOff + 4 * k)
    (bytesLE data.toNat 4) = u at key hdram hmem hfir
  have st : MemStep 34382839936 r u := (store.mono (by decide)).trans (hmem.mono (by decide))
  rw [granted_over hq hg st.frame ⟨by decide, by decide⟩] at key
  obtain ⟨U, rfl⟩ : ∃ U, r = { s with used := U } := ⟨_, charged_used hq (granted_charged hg).1⟩
  refine ⟨u, key, ?_, fun i hi => ?_, ?_, st.regs, st.frame.eq⟩
  · rw [hfir]
    exact SMap.get_set_same ..
  · rw [hfir]
    exact SMap.get_set_ne _ _ hi
  · rw [hdram]
    exact bytesPut_wrBytes _ _ _

theorem coefficientWrite_refused (hg : s.granted who .rout n = some r) (j : Fin 384) (data : Word) (hw : (s.rout n).swapAt ≠ none) :
    let b := Base.rout n
    ∃ t, exec (.coefficientWrite who n j data) s = .next t ∧ t.fir = s.fir ∧ (t.reg (b + 0x010)).getLsbD 2 = true ∧
      (s.bit b Reg.Hdr.VALID = false → t.fld b Reg.Hdr.CODE = 0x15 ∧ t.fld b Reg.Hdr.INFO = j) := by
  intro b
  have key : exec (.coefficientWrite who n j data) s = .next ((r.err b 0x15 j).raise b 2).settle := by
    rw [execCoefficientWrite_granted hg]
    unfold State.coefWrite
    simp only [granted_rout hg, Option.isSome_iff_ne_none.2 hw, if_true]
    rfl
  have hf : ((r.err b 0x15 j).raise b 2).fir = s.fir :=
    ((State.raise_frame (w := 108086391056892032) _ _ _ (State.err_frame _ _ _ _ (Frame.refl _ _) (by decide)) (by decide)).fir
      (by decide)).trans (by rw [granted_rest hg])
  refine ⟨_, key, (State.settle_fir _).trans hf, ?_, fun hv => ?_⟩
  · rw [rout_reg_settle _ _ (by decide)]
    exact State.raise_sets _ _ _ (by decide)
  · have hv' : r.bit b Reg.Hdr.VALID = false := by
      unfold State.bit at hv ⊢
      rw [granted_fld hg]
      exact hv
    obtain ⟨hcode, hinfo, -⟩ := State.err_captures (k := 0x15) (d := j) r hv'
    rw [rout_fld_settle _ _ (by decide), rout_fld_settle _ _ (by decide), State.fld_raise_page _ (by decide),
      State.fld_raise_page _ (by decide)]
    exact ⟨hcode, hinfo.trans (Nat.mod_eq_of_lt (by omega))⟩

/-! ### Kernel memory -/

theorem kaddr_lt (s : State) (b : Nat) : s.fld b Reg.Rout.KADDR < 4096 := Nat.mod_lt _ (by decide)

/-- KADDR advances, and returns to 0 after the last weight. -/
theorem kaddrNext_fld (s : State) (n : Nat) :
    (s.kaddrNext n).fld (Base.rout n) Reg.Rout.KADDR = (s.fld (Base.rout n) Reg.Rout.KADDR + 1) % 4096 :=
  State.fld_setFld_same _ _ ⟨by decide, by decide⟩ _ _

theorem kaddrNext_reg (s : State) (n : Nat) {a : Nat} (h : a ≠ Base.rout n + 0x160) : (s.kaddrNext n).reg a = s.reg a :=
  State.reg_setFld_ne _ h

theorem kaddrNext_step (s : State) (n : Nat) : Frame 128 s (s.kaddrNext n) := State.kaddrNext_frame _ _ (Frame.refl _ _) (by decide)

theorem granted_kernelActive (hg : s.granted who .rout n = some r) : r.kernelActive n = s.kernelActive n := by
  unfold State.kernelActive
  rw [granted_rout hg]

theorem execKdataWrite_granted (hg : s.granted who .rout n = some r) (data : Word) :
    exec (.kdataWrite who n data) s = .next (r.kdataWrite n data).settle := by
  show finish (s.busPut who (pageBase .rout n + 0x164) data) = _
  rw [busPut_granted hg (rout_lt n) (by decide) (by decide), pageWrite_block hg (by decide) (by decide)]
  show finish (r.kdataWrite n (mergeWord _ data 0xFFFF_FFFF#32)) = _
  rw [mergeWord_whole]
  rfl

theorem kdataWrite_stored (hq : Settled s) (hg : s.granted who .rout n = some r) (data : Word) (hk : s.kernelActive n = false) :
    let b := Base.rout n
    let k := 4096 * n.val + s.fld b Reg.Rout.KADDR
    ∃ t, exec (.kdataWrite who n data) s = .next t ∧ SMap.get (fun _ => 0#32) t.kernel k = data ∧
      (∀ i, i ≠ k → SMap.get (fun _ => 0#32) t.kernel i = SMap.get (fun _ => 0#32) s.kernel i) ∧
      BytesPut s.dram t.dram (shadowAt (kernelOff + 4 * k)) (bytesLE data.toNat 4) ∧
      t.fld b Reg.Rout.KADDR = (s.fld b Reg.Rout.KADDR + 1) % 4096 ∧
      (∀ a, ¬ memCtl a → a ≠ b + 0x160 → t.reg a = s.reg a) ∧
      t = { s with regs := t.regs, kernel := t.kernel, used := t.used, dram := t.dram, dchs := t.dchs, dwait := t.dwait } := by
  intro b k
  have key : exec (.kdataWrite who n data) s =
      .next ((({ r with kernel := SMap.set (fun _ => 0#32) r.kernel k data } : State).shadowWrite (r.shadowFn b) (kernelOff + 4 * k)
        (bytesLE data.toNat 4)).kaddrNext n).settle := by
    rw [execKdataWrite_granted hg]
    unfold State.kdataWrite
    simp only [granted_kernelActive hg, hk, Bool.false_eq_true, if_false, granted_fld hg]
    rfl
  have hlt : kernelOff + 4 * k < 0x0400_0000 := by
    have := n.isLt
    have := kaddr_lt s b
    unfold kernelOff
    omega
  have store : MemStep 68719476736 r { r with kernel := SMap.set (fun _ => 0#32) r.kernel k data } :=
    .of_regs (Frame.upd_kernel _ _ (Frame.refl _ _) (by decide)) (by decide)
  obtain ⟨hdram, hmem⟩ := shadowWrite_mem { r with kernel := SMap.set (fun _ => 0#32) r.kernel k data } (r.shadowFn b)
    (bytesLE data.toNat 4) hlt
  have hker := hmem.frame.kernel (by decide)
  generalize ({ r with kernel := SMap.set (fun _ => 0#32) r.kernel k data } : State).shadowWrite (r.shadowFn b) (kernelOff + 4 * k)
    (bytesLE data.toNat 4) = u at key hdram hmem hker
  have st : MemStep 68742578304 r u := (store.mono (by decide)).trans (hmem.mono (by decide))
  have sk := kaddrNext_step u n
  have hf : Frame 68742578304 r (u.kaddrNext n) := st.frame.trans (sk.mono (by decide))
  have hfld : u.fld b Reg.Rout.KADDR = r.fld b Reg.Rout.KADDR := by
    show Reg.Rout.KADDR.get (u.reg (Base.rout n + 0x160)) = Reg.Rout.KADDR.get (r.reg (Base.rout n + 0x160))
    rw [st.regs _ (rout_not_memCtl (by decide))]
  rw [granted_over hq hg hf ⟨by decide, by decide⟩] at key
  obtain ⟨U, rfl⟩ : ∃ U, r = { s with used := U } := ⟨_, charged_used hq (granted_charged hg).1⟩
  refine ⟨_, key, ?_, fun i hi => ?_, ?_, ?_, fun a ha hne => ?_, hf.eq⟩
  · rw [sk.kernel (by decide), hker]
    exact SMap.get_set_same ..
  · rw [sk.kernel (by decide), hker]
    exact SMap.get_set_ne _ _ hi
  · rw [sk.dram (by decide), hdram]
    exact bytesPut_wrBytes _ _ _
  · rw [kaddrNext_fld, hfld]
    rfl
  · rw [kaddrNext_reg u n hne, st.regs a ha]
    rfl

theorem kdataRead_answers (hq : Settled s) (hg : s.granted who .rout n = some r) :
    let b := Base.rout n
    let addr := s.fld b Reg.Rout.KADDR
    ∃ t, exec (.kdataRead who n) s = .next t ∧
      t.respVal = BitVec.ofNat 64 (SMap.get (fun _ => 0#32) s.kernel (4096 * n.val + addr)).toNat ∧
      t.fld b Reg.Rout.KADDR = (addr + 1) % 4096 ∧ (∀ a, a ≠ b + 0x160 → t.reg a = s.reg a) ∧
      t = { s with regs := t.regs, used := r.used, respVal := t.respVal } := by
  intro b addr
  have hf : Frame 144115188075856000 r (r.kdataRead n) := State.kdataRead_frame _ _ (Frame.refl _ _) (by decide)
  have key : exec (.kdataRead who n) s = .next (r.kdataRead n) := by
    show finish (s.busGet who (pageBase .rout n + 0x164)) = _
    rw [busGet_granted hg (rout_lt n) (by decide) (by decide)]
    show finish (r.kdataRead n) = _
    unfold finish
    rw [granted_over hq hg hf ⟨by decide, by decide⟩]
  obtain ⟨U, rfl⟩ : ∃ U, r = { s with used := U } := ⟨_, charged_used hq (granted_charged hg).1⟩
  exact ⟨_, key, rfl, kaddrNext_fld _ _, fun a ha => kaddrNext_reg _ n ha, hf.eq⟩

/-! ### The result registers -/

/-- The registers once the other result registers are latched. -/
theorem resRead_reg (s : State) (n a : Nat) :
    (s.resRead n).reg a =
      if a = Base.rout n + 0x154 then BitVec.ofNat 32 (s.rout n).res.word
      else if a = Base.rout n + 0x150 then BitVec.ofNat 32 (s.rout n).res.stamp
      else if a = Base.rout n + 0x14C then BitVec.ofNat 32 ((s.rout n).res.accQ / 2 ^ 32)
      else if a = Base.rout n + 0x148 then BitVec.ofNat 32 (s.rout n).res.accQ
      else if a = Base.rout n + 0x144 then BitVec.ofNat 32 ((s.rout n).res.accI / 2 ^ 32) else s.reg a := by
  have hregs : (s.resRead n).regs = (((((s.setReg (Base.rout n + 0x144) (BitVec.ofNat 32 ((s.rout n).res.accI / 2 ^ 32))).setReg
      (Base.rout n + 0x148) (BitVec.ofNat 32 (s.rout n).res.accQ)).setReg (Base.rout n + 0x14C)
      (BitVec.ofNat 32 ((s.rout n).res.accQ / 2 ^ 32))).setReg (Base.rout n + 0x150) (BitVec.ofNat 32 (s.rout n).res.stamp)).setReg
      (Base.rout n + 0x154) (BitVec.ofNat 32 (s.rout n).res.word)).regs := rfl
  rw [State.reg_congr hregs]
  simp only [State.reg_setReg]

theorem resAccRead_latches (hq : Settled s) (hg : s.granted who .rout n = some r) :
    let b := Base.rout n
    let x := s.rout n
    ∃ t, exec (.resAccRead who n) s = .next t ∧ t.respVal = BitVec.ofNat 64 (x.res.accI % 2 ^ 32) ∧
      t.reg (b + 0x144) = BitVec.ofNat 32 (x.res.accI / 2 ^ 32) ∧ t.reg (b + 0x148) = BitVec.ofNat 32 x.res.accQ ∧
      t.reg (b + 0x14C) = BitVec.ofNat 32 (x.res.accQ / 2 ^ 32) ∧ t.reg (b + 0x150) = BitVec.ofNat 32 x.res.stamp ∧
      t.reg (b + 0x154) = BitVec.ofNat 32 x.res.word ∧ (∀ a, a < b + 0x144 ∨ b + 0x158 ≤ a → t.reg a = s.reg a) ∧
      t = { s with regs := t.regs, used := r.used, respVal := t.respVal } := by
  intro b x
  have hf : Frame 144115188075856000 r (r.resRead n) := State.resRead_frame _ _ (Frame.refl _ _) (by decide)
  have key : exec (.resAccRead who n) s = .next (r.resRead n) := by
    show finish (s.busGet who (pageBase .rout n + 0x140)) = _
    rw [busGet_granted hg (rout_lt n) (by decide) (by decide)]
    show finish (r.resRead n) = _
    unfold finish
    rw [granted_over hq hg hf ⟨by decide, by decide⟩]
  obtain ⟨U, rfl⟩ : ∃ U, r = { s with used := U } := ⟨_, charged_used hq (granted_charged hg).1⟩
  have hreg := resRead_reg { s with used := U } n
  refine ⟨_, key, rfl, ?_, ?_, ?_, ?_, ?_, fun a ha => ?_, hf.eq⟩
  · rw [hreg, if_neg (by omega), if_neg (by omega), if_neg (by omega), if_neg (by omega), if_pos rfl]
    rfl
  · rw [hreg, if_neg (by omega), if_neg (by omega), if_neg (by omega), if_pos rfl]
    rfl
  · rw [hreg, if_neg (by omega), if_neg (by omega), if_pos rfl]
    rfl
  · rw [hreg, if_neg (by omega), if_pos rfl]
    rfl
  · rw [hreg, if_pos rfl]
    rfl
  · rw [hreg, if_neg (by omega), if_neg (by omega), if_neg (by omega), if_neg (by omega), if_neg (by omega)]
    rfl

/-! ### The end of a disable, and re-fetches -/

theorem routDisabled_stops {s : State} (hn : (s.rout n).norm = true) (hw : ∀ w ∈ (s.rout n).wins, (s.rout n).winOpen w = false)
    (hq : (s.rout n).queue = []) (hb : s.acqBusyOn 2 n = false) :
    ∃ t, exec (.routDisabled n) s = .next t ∧ (t.reg (Base.rout n + 0x010)).getLsbD 5 = true ∧
      t.rout n = { s.rout n with
        norm := false, arming := false, since := none, stages := [], fir := [], outq := [], offered := [] } ∧
      (∀ m, m ≠ n.val → t.rout m = s.rout m) ∧ KeepsRegs s t [Base.rout n + 0x010] := by
  have hopen : (s.rout n).wins.any (s.rout n).winOpen = false := by
    rw [List.any_eq_false]
    exact fun w h => by rw [hw w h]; exact Bool.false_ne_true
  have key : exec (.routDisabled n) s = .next ((s.modRout n fun t =>
      { t with norm := false, arming := false, since := none, stages := [], fir := [], outq := [], offered := [] }).raise
      (Base.rout n) 5).settle := by
    show execRoutDisabled n s = _
    unfold execRoutDisabled
    simp only [hn, hopen, hq, hb, List.isEmpty_nil, Bool.not_false, Bool.and_self, if_true]
    rfl
  have st : RoutStep n [0x010] 36028814198833280 s _ := (RoutStep.modRout.mono (List.nil_subset _) (by decide)).trans
    ((RoutStep.raise (s := s.modRout n fun t =>
      { t with norm := false, arming := false, since := none, stages := [], fir := [], outq := [], offered := [] }) (i := 5)
      (by decide)).mono (List.Subset.refl _) (by decide))
  refine ⟨_, key, ?_, ?_, fun m hm => ?_, st.regs.keepsRegs⟩
  · rw [rout_reg_settle _ _ (by decide)]
    exact State.raise_sets _ _ _ (by decide)
  · rw [rout_settle, State.rout_raise, State.rout_modRout]
  · rw [rout_settle, st.rout m hm]

/-- An operation on one tone, in a settled state. -/
theorem modRout_only {s : State} (hq : Settled s) (n : Nat) (f : RoutSt → RoutSt) :
    finish (s.modRout n f) = .next (s.modRout n f) ∧ (s.modRout n f).rout n = f (s.rout n) ∧
      (∀ m, m ≠ n → (s.modRout n f).rout m = s.rout m) ∧ s.modRout n f = { s with routs := (s.modRout n f).routs } := by
  refine ⟨?_, State.rout_modRout .., fun m hm => State.rout_modRout_ne _ _ hm, rfl⟩
  unfold finish
  rw [settle_quiet (s := s.modRout n f) hq.1 hq.2]

end

/-- Settles O37, a lemma for each access and step of a tone. -/
theorem readoutToneRegisters : Obligations.ReadoutToneRegisters := by
  unfold Obligations.ReadoutToneRegisters
  refine ⟨fun who n s r hq hg => ?_, fun n s => ?_⟩
  · intro b x taps demand gd addr weightAt
    exact ⟨routEnable_taken hq hg, routNormalDisable_pends hq hg, routDisableNow_kills hg, swap_asked hq hg,
      coefficientWrite_stored hq hg, coefficientWrite_refused hg, kdataWrite_stored hq hg, kdataRead_answers hq hg,
      resAccRead_latches hq hg⟩
  · intro x
    refine ⟨routDisabled_stops, fun hq hf => ⟨?_, ?_⟩, fun hf => ⟨?_, ?_⟩⟩
    · obtain ⟨hfin, hrest⟩ := modRout_only hq n fun t => { t with
        firRefetch := t.firRefetch.filter fun k => s.refetchOut (shadowAt (firOff + 4 * firKey n (k / 512) (k % 512))) }
      refine ⟨_, ?_, hrest⟩
      show execFirRefetchComplete n s = _
      unfold execFirRefetchComplete
      simp only [hf, Bool.false_eq_true, if_false]
      exact hfin
    · obtain ⟨hfin, hrest⟩ := modRout_only hq n fun t => { t with
        kerRefetch := t.kerRefetch.filter fun k => s.refetchOut (shadowAt (kernelOff + 4 * (4096 * n.val + k))) }
      refine ⟨_, ?_, hrest⟩
      show execKernelRefetchComplete n s = _
      unfold execKernelRefetchComplete
      simp only [hf, Bool.false_eq_true, if_false]
      exact hfin
    · show execFirRefetchComplete n s = _
      unfold execFirRefetchComplete
      simp only [hf, if_true]
    · show execKernelRefetchComplete n s = _
      unfold execKernelRefetchComplete
      simp only [hf, if_true]

end Sys2Proof.Machine
end

section
/-!
Obligation O5: a function's access that is not permitted.
-/
namespace Sys2Proof.Machine

/-- The cause of a refusal is the code that the access check answers (R55, R56). -/
theorem refused_denied {s r : State} {f : Fin 64} {t : PageType} {n code : Nat} (hc : s.charged (.fn f) = some r)
    (hn : n < pageCount t) (h : Refused s f t n code) : r.denied (.fn f) (pageBase t n) = some code := by
  rw [denied_fn hn, charged_owner hc, charged_bit hc]
  obtain ⟨hown, hnot, rfl⟩ | ⟨hown, hsec, rfl⟩ := h
  · rw [if_pos ⟨hown, hnot⟩]
  · rw [if_neg fun k => k.1 hown, if_pos hsec]

theorem refused_code_lt {s : State} {f : Fin 64} {t : PageType} {n code : Nat} (h : Refused s f t n code) : code < 64 := by
  obtain ⟨_, _, rfl⟩ | ⟨_, _, rfl⟩ := h <;> decide

/-- INFO of a function's refused access: the function, the word's offset, and the direction (R54). -/
theorem accInfo_fn {f : Fin 64} {off : Nat} (ho : off < 0x1000) (h4 : off % 4 = 0) (wr : Bool) :
    accInfo (.fn f) off wr = f * 2 ^ 16 + off + wr.toNat := by
  show f.val * 2 ^ 16 + off % 4096 / 4 * 4 + wr.toNat = _
  omega

/-- ERR_CAP after a function's refused access that is made at once (R54, R56). -/
theorem accErr_refused_reg {s r : State} {f : Fin 64} {code off : Nat} (hq : Settled s) (hc : s.charged (.fn f) = some r)
    (hk : code < 64) (ho : off < 0x1000) (h4 : off % 4 = 0) (b : Nat) (wr : Bool) :
    (r.accErr b code (.fn f) off wr).settle.reg (b + 0x01C) = refusalWord s b code f off wr := by
  have he : (r.accErr b code (.fn f) off wr).edges = [] := (err_edges ..).trans (charged_settled hq hc).1
  have hi : f.val * 2 ^ 16 + off + wr.toNat < 2 ^ 24 := by
    have := f.isLt
    have := Bool.toNat_lt wr
    omega
  rw [State.reg_settle_quiet he]
  unfold State.accErr
  rw [accInfo_fn ho h4, State.reg_congr (err_word r b code _ hk hi (charged_settled hq hc).2), State.reg_setReg_same,
    charged_bit hc, charged_reg hc]
  simp only [refusalWord, Nat.add_assoc]

/-- A refused read records its error in the page and answers 0 (R56). -/
theorem busGet_denied {s r : State} {who : Req} {t : PageType} {n off code : Nat} (h : s.charged who = some r)
    (hs : r.shows who (some t) = true) (hd : r.denied who (pageBase t n) = some code) (hn : n < pageCount t)
    (ho : off < 0x1000) (h4 : off % 4 = 0) (hf : freeToRead t off = false) :
    s.busGet who (pageBase t n + off) = (r.accErr (pageBase t n) code who off false).respond 0 := by
  have := pageBase_mod t n
  rw [busGet_charged h]
  unfold State.wordRead
  rw [pageOf_page hn ho]
  simp only [show (pageBase t n + off) % 0x1000 / 4 * 4 = off by omega, hs, hf, hd, Bool.not_true, Bool.false_eq_true, if_false]

/-- Settles O5: the access is charged and refused, its error goes to ERR_CAP of the page, and no edge waits that settling
would deliver. -/
theorem deniedAccessIsRecordedOnly : Obligations.DeniedAccessIsRecordedOnly := by
  unfold Obligations.DeniedAccessIsRecordedOnly
  refine ⟨fun f t n off code be w s r hq hc hs hn ho h4 h20 hr => ?_, fun f code s r hq hc hs hr => ?_⟩
  · obtain ⟨hreg, hrest, _⟩ := charged_err hq hc (pageBase t n) code (accInfo (.fn f) off true)
    have key : exec (.registerWrite (.fn f) (BitVec.ofNat 27 (pageBase t n + off)) [(be, w)]) s =
        .next (r.accErr (pageBase t n) code (.fn f) off true).settle := by
      show finish (s.busWrite _ (BitVec.ofNat 27 (pageBase t n + off)).toNat _) = _
      rw [addr27 hn ho, busWrite_denied hc hs (refused_denied hc hn hr) hn ho h4 h20]
      rfl
    exact ⟨_, key, accErr_refused_reg hq hc (refused_code_lt hr) ho h4 _ _, hreg, hrest⟩
  · have hn : 0 < pageCount .tl := by decide
    obtain ⟨hreg, hrest, _⟩ := charged_err hq hc Base.tl code (accInfo (.fn f) 0x040 false)
    have key : exec (.tlNowRead (.fn f)) s = .next ((r.accErr Base.tl code (.fn f) 0x040 false).respond 0).settle := by
      show finish (s.busGet _ (pageBase .tl 0 + 0x040)) = _
      rw [busGet_denied hc hs (refused_denied hc hn hr) hn (by decide) (by decide) rfl]
      rfl
    have he : (r.accErr Base.tl code (.fn f) 0x040 false).edges = [] := (err_edges ..).trans (charged_settled hq hc).1
    have hset : ((r.accErr Base.tl code (.fn f) 0x040 false).respond 0).settle =
        (r.accErr Base.tl code (.fn f) 0x040 false).settle.respond 0 := by
      rw [settle_newCycle he, settle_newCycle (s := State.respond _ 0) he]
      rfl
    rw [hset] at key
    refine ⟨_, key, rfl, accErr_refused_reg hq hc (refused_code_lt hr) (by decide) (by decide) _ _, hreg, ?_⟩
    show (State.respond (r.err Base.tl code _).settle 0) = _
    rw [hrest]
    rfl

end Sys2Proof.Machine
end

section
/-!
Obligation O33: a write of one unit through BAR2.
-/
namespace Sys2Proof.Machine

/-! ### One unit -/

/-- A unit of a window other than the control-store view divides a block of 64 bytes. -/
theorem unit_divides {w : Window} (h : ∀ a k, w ≠ .control a k) : ∃ k, 64 = w.unit * k ∧ 0 < w.unit := by
  cases w
  case control a k => exact absurd rfl (h a k)
  case segment => exact ⟨4, rfl, Nat.zero_lt_succ _⟩
  case laneData => exact ⟨16, rfl, Nat.zero_lt_succ _⟩
  case laneCode => exact ⟨16, rfl, Nat.zero_lt_succ _⟩
  all_goals exact ⟨8, rfl, Nat.zero_lt_succ _⟩

section
variable {o : BitVec 27} {bytes : List Byte}

/-- An aligned unit ends within its block of 64 bytes. -/
theorem oneUnit_in_block (h : OneUnit o bytes) : 0 < bytes.length ∧ bytes.length ≤ 64 - o.toNat % 64 := by
  obtain ⟨-, hc, hl, ha⟩ := h
  obtain ⟨k, hk, hpos⟩ := unit_divides hc
  rw [hl]
  refine ⟨hpos, ?_⟩
  have hm : o.toNat % 64 % (windowAt o.toNat).unit = 0 := by rw [Nat.mod_mod_of_dvd _ ⟨k, hk⟩, ha]
  have hlt : o.toNat % 64 < 64 := Nat.mod_lt _ (by decide)
  obtain ⟨j, hj⟩ := Nat.dvd_of_mod_eq_zero hm
  generalize (windowAt o.toNat).unit = u at hk hj
  rw [hj] at hlt ⊢
  rw [hk] at hlt ⊢
  have : u * (j + 1) ≤ u * k := Nat.mul_le_mul_left _ (Nat.lt_of_mul_lt_mul_left hlt)
  rw [Nat.mul_add, Nat.mul_one] at this
  omega

/-- A write of one unit is one piece. -/
theorem cutUnits_unit (h : OneUnit o bytes) : cutUnits bytes.length o.toNat bytes = [(o.toNat, bytes)] := by
  have hpos := (oneUnit_in_block h).1
  obtain ⟨-, -, hl, ha⟩ := h
  cases bytes with
  | nil => exact absurd hpos (by decide)
  | cons v vs =>
    have hm : (windowAt o.toNat).unit - o.toNat % (windowAt o.toNat).unit = (v :: vs).length := by rw [ha, hl, Nat.sub_zero]
    show (_, _) :: cutUnits vs.length _ _ = _
    rw [hm, List.take_length, List.drop_length]
    cases vs <;> rfl

theorem bar2Put_unit (h : OneUnit o bytes) (s : State) (who : Req) (dbg : Bool) :
    (s.bar2Put who dbg o.toNat bytes).1 = (s.writeUnit who dbg o.toNat bytes).1 := by
  unfold State.bar2Put
  rw [cutUnits_unit h]
  simp only [List.foldl_cons, List.foldl_nil]
  split <;> rfl

/-- A function's write of one unit takes one charge. -/
theorem hostBlocks_unit (h : OneUnit o bytes) {s r : State} {f : Fin 64} (hc : s.chargeHostWord f = some r) :
    s.hostBlocks f (bytes.length + 1) o.toNat bytes =
      ((r.newCycle.bar2Put (.fn f) false o.toNat bytes).1, o.toNat + (64 - o.toNat % 64), []) := by
  obtain ⟨hpos, hle⟩ := (oneUnit_in_block h)
  cases bytes with
  | nil => exact absurd hpos (by decide)
  | cons v vs =>
    unfold State.hostBlocks
    simp only [hc, List.take_of_length_le hle, List.drop_of_length_le hle]
    rfl

end

/-! ### The access -/

/-- The requester works through the debug port, which may write the program of a halted sequencer (R538). -/
def fromDebug : Req → Bool
  | .dbgUser => true
  | .dbgSecure => true
  | _ => false

section
variable {s r : State} {who : Req} {o : BitVec 27} {bytes : List Byte}

/-- A BAR2 write that is carried out at once is charged as a register access is. -/
theorem bar2Now_charged (hq : Settled s) (h : Bar2Now s r who) : s.charged who = some r := by
  cases who with
  | fn f =>
    obtain ⟨hreach, hheld, -, hcharge⟩ := h
    have hr : Settled r := by rw [chargeHostWord_rest hcharge]; exact hq
    simp [State.charged, hreach, hheld, hcharge, newCycle_settled hr]
  | mgmt => obtain ⟨-, rfl⟩ := h; exact congrArg some (newCycle_settled hq)
  | dbgUser => obtain ⟨-, rfl⟩ := h; exact congrArg some (newCycle_settled hq)
  | dbgSecure => obtain ⟨-, rfl⟩ := h; exact congrArg some (newCycle_settled hq)

/-- A write of one unit that is carried out at once. -/
theorem exec_bar2Write_unit (hq : Settled s) (hu : OneUnit o bytes) (h : Bar2Now s r who) :
    exec (.bar2Write who o bytes) s = .next (r.writeUnit who (fromDebug who) o.toNat bytes).1.settle := by
  show Host.Outcome.next (s.busWrite2 who o.toNat bytes).settle = _
  refine congrArg (fun t : State => Host.Outcome.next t.settle) ?_
  have hr := charged_settled hq (bar2Now_charged hq h)
  rw [← bar2Put_unit hu]
  unfold State.busWrite2
  cases who with
  | fn f =>
    obtain ⟨hreach, hheld, hopen, hcharge⟩ := h
    simp only [State.hostAccess, hreach, hheld, State.tryAccess, hopen, hostBlocks_unit hu hcharge, List.isEmpty_nil, Bool.not_true,
      Bool.false_eq_true, if_false, if_true, newCycle_settled hr]
    rfl
  | mgmt => obtain ⟨hs, rfl⟩ := h; exact if_pos hs
  | dbgUser => obtain ⟨hs, rfl⟩ := h; exact if_pos hs
  | dbgSecure => obtain ⟨hs, rfl⟩ := h; exact if_pos hs

theorem charged_windowDenied (h : s.charged who = some r) (who' : Req) (w : Window) :
    r.windowDenied who' w = s.windowDenied who' w := by
  rw [charged_rest h]
  rfl

end

/-! ### What becomes of a unit -/

section
variable {s : State} {who : Req} {dbg : Bool} {o : BitVec 27} {bytes : List Byte}

theorem writeUnit_denied (hu : OneUnit o bytes) {b c : Nat} (h : s.windowDenied who (windowAt o.toNat) = some (b, c)) :
    (s.writeUnit who dbg o.toNat bytes).1 = s.accErr b c who o.toNat true := by
  unfold State.writeUnit
  simp only [hu.1, if_false, h]

/-- A permitted unit is stored, or rejected where it is active or its shadow frozen. -/
theorem writeUnit_permitted (hu : OneUnit o bytes) (h : s.windowDenied who (windowAt o.toNat) = none) :
    (s.writeUnit who dbg o.toNat bytes).1 =
      if s.unitActive dbg (windowAt o.toNat) || (s.frozen && (windowAt o.toNat).shadowed) then
        s.rejectUnit who (windowAt o.toNat) o.toNat
      else s.storeUnit who (windowAt o.toNat) o.toNat bytes := by
  obtain ⟨hw, hc, -, ha⟩ := hu
  have hal : o.toNat / (windowAt o.toNat).unit * (windowAt o.toNat).unit = o.toNat :=
    Nat.div_mul_cancel (Nat.dvd_of_mod_eq_zero ha)
  unfold State.writeUnit
  simp only [hw, if_false, h, hal]
  generalize windowAt o.toNat = w at *
  cases w
  case control a k => exact absurd rfl (hc a k)
  all_goals split <;> rfl

end

/-! ### Stored units -/

/-- The windows that have a shadow lie below the curd store. -/
theorem shadowed_lt {o : Nat} (h : (windowAt o).shadowed = true) : o < 0x0400_0000 := by
  refine Nat.lt_of_not_le fun ho => ?_
  unfold windowAt at h
  rw [if_neg (by omega), if_neg (by omega), if_neg (by omega), if_neg (by omega), if_neg (by omega), if_neg (by omega),
    if_neg (by omega)] at h
  split at h <;> cases h

/-- A unit stored: its bytes in BAR2, and in the shadow where the window has one; beside them only registers of the memory
controller and what its requests use. -/
theorem storeUnit_puts (s : State) (who : Req) (o : Nat) (bs : List Byte) :
    (s.storeUnit who (windowAt o) o bs).bar2 = wrBytes s.bar2 o bs ∧
      (s.storeUnit who (windowAt o) o bs).dram =
        (if (windowAt o).shadowed then wrBytes s.dram (shadowAt o) bs else s.dram) ∧
      MemStep 23117952 s (s.storeUnit who (windowAt o) o bs) := by
  have put : MemStep 16384 s { s with bar2 := wrBytes s.bar2 o bs } :=
    .of_regs (Frame.upd_bar2 _ _ (Frame.refl _ _) (by decide) fun ⟨a, b⟩ => ⟨Memory.wf_wrBytes _ _ a, b⟩) (by decide)
  unfold State.storeUnit
  cases hw : (windowAt o).shadowed
  · exact ⟨rfl, rfl, put.mono (by decide)⟩
  · obtain ⟨hdram, hmem⟩ := shadowWrite_mem { s with bar2 := wrBytes s.bar2 o bs } (if reqMgmt who then 64 else reqNum who) bs
      (shadowed_lt hw)
    exact ⟨hmem.frame.bar2 (by decide), hdram, (put.mono (by decide)).trans (hmem.mono (by decide))⟩

/-! ### Rejected units -/

/-- `t` is `s` with further bits of IRQ_STAT set, in whatever pages. -/
structure StatsRaised (s t : State) : Prop where
  reg : ∀ a, a % 0x1000 ≠ 0x010 → t.reg a = s.reg a
  kept : ∀ a i, (s.reg a).getLsbD i = true → (t.reg a).getLsbD i = true

theorem StatsRaised.refl (s : State) : StatsRaised s s := ⟨fun _ _ => rfl, fun _ _ h => h⟩

theorem StatsRaised.trans {s t u : State} (h : StatsRaised s t) (k : StatsRaised t u) : StatsRaised s u :=
  ⟨fun a ha => (k.reg a ha).trans (h.reg a ha), fun a i hi => k.kept a i (h.kept a i hi)⟩

/-- Setting a status bit of a page. -/
theorem StatsRaised.raise {s t : State} (h : StatsRaised s t) {b : Nat} (hb : b % 0x1000 = 0) (i : Nat) :
    StatsRaised s (t.raise b i) := by
  refine h.trans ⟨fun a ha => State.reg_raise_ne t (by omega), fun a j hj => ?_⟩
  by_cases e : a = b + 0x010
  · subst e
    exact raise_keeps hj
  · rwa [State.reg_raise_ne t e]

theorem acq_mod (n : Nat) : Base.acq n % 0x1000 = 0 := by unfold Base.acq; omega
theorem flux_mod (n : Nat) : Base.flux n % 0x1000 = 0 := by unfold Base.flux; omega
theorem lane_mod (n : Nat) : Base.lane n % 0x1000 = 0 := by unfold Base.lane; omega

/-- The flux channels that hold a unit note it. -/
theorem StatsRaised.fluxes (s : State) (l : List Nat) : StatsRaised s (l.foldl (fun s n => s.raise (Base.flux n) 15) s) := by
  induction l generalizing s with
  | nil => exact .refl s
  | cons n l ih => exact ((StatsRaised.refl s).raise (flux_mod n) 15).trans (ih _)

theorem blockHit_raised (s : State) (w : Window) : StatsRaised s (s.blockHit w) := by
  unfold State.blockHit
  split
  · split
    · exact (StatsRaised.refl s).raise (by decide) 5
    · exact .refl s
  · split
    · exact (StatsRaised.refl s).raise (acq_mod _) 9
    · exact .refl s
  · exact .fluxes s _

/-- A rejected unit of a function is recorded in the function's page (R186). -/
theorem rejectUnit_records (s : State) (f : Fin 64) (w : Window) {o : Nat} (ho : o < 2 ^ 32) :
    let b := Base.fn f
    let t := s.rejectUnit (.fn f) w o
    t.fld b Reg.Fn.WA_OFFSET = o ∧ t.fld b Reg.Fn.WA_COUNT = min (s.fld b Reg.Fn.WA_COUNT + 1) (2 ^ 16 - 1) ∧
      (t.reg (b + 0x010)).getLsbD 0 = true := by
  intro b t
  obtain ⟨u, hsu, ht⟩ : ∃ u, StatsRaised s u ∧
      t = (((u.setFld b Reg.Fn.WA_OFFSET o).inc b Reg.Fn.WA_COUNT).raise b 0).blockHit w := by
    cases w
    case laneData n a => exact ⟨_, (StatsRaised.refl s).raise (lane_mod n) 6, rfl⟩
    all_goals exact ⟨s, .refl s, rfl⟩
  have hb : b % 0x1000 = 0 := by show Base.fn f % 0x1000 = 0; unfold Base.fn; omega
  have hit := blockHit_raised (((u.setFld b Reg.Fn.WA_OFFSET o).inc b Reg.Fn.WA_COUNT).raise b 0) w
  rw [← ht] at hit
  have fld {x y : State} (h : StatsRaised x y) {q : Row} (hq : q.off < 0x1000 ∧ q.off ≠ 0x010) : y.fld b q = x.fld b q := by
    unfold State.fld
    rw [h.reg _ (by omega)]
  have raised : StatsRaised ((u.setFld b Reg.Fn.WA_OFFSET o).inc b Reg.Fn.WA_COUNT) t := ((StatsRaised.refl _).raise hb 0).trans hit
  refine ⟨?_, ?_, hit.kept _ _ (State.raise_sets _ _ _ (by decide))⟩
  · rw [fld raised ⟨by decide, by decide⟩]
    refine (State.fld_setFld_page _ (by decide)).trans ?_
    rw [State.fld_setFld_same _ _ ⟨by decide, by decide⟩]
    exact Nat.mod_eq_of_lt ho
  · rw [fld raised ⟨by decide, by decide⟩, inc_fld ⟨by decide, by decide⟩, State.fld_setFld_page _ (by decide),
      fld hsu ⟨by decide, by decide⟩]
    rfl

/-! ### Function pages -/

theorem fn_not_irq {f : Fin 64} {off : Nat} (h : off < 0x1000) : ¬ irqWrites (Base.fn f + off) := by
  have := f.isLt
  unfold irqWrites Base.fn
  omega

theorem fn_fld_settle (s : State) (f : Fin 64) {q : Row} (h : q.off + q.stride * 0 < 0x1000) :
    s.settle.fld (Base.fn f) q = s.fld (Base.fn f) q := by
  unfold State.fld
  rw [Nat.add_assoc, State.settle_reg_keep _ (fn_not_irq h)]

/-- Settles O33: the unit is refused, rejected or stored, and the DRAM write of a shadow changes registers of the memory controller
alone. -/
theorem bar2WriteUnit : Obligations.Bar2WriteUnit := by
  unfold Obligations.Bar2WriteUnit
  intro who o bytes s r hq hu hnow w blocked
  have hc := bar2Now_charged hq hnow
  have hrest := charged_used hq hc
  have hdbg : blocked = (r.unitActive (fromDebug who) w || (r.frozen && w.shadowed)) := by cases who <;> rfl
  have key := exec_bar2Write_unit hq hu hnow
  refine ⟨fun hperm hblocked => ?_, fun hperm hblocked => ?_, fun b code hden => ?_⟩
  · rw [writeUnit_permitted hu (by rw [charged_windowDenied hc]; exact hperm), if_neg (by rw [← hdbg, hblocked]; decide)] at key
    obtain ⟨hbar2, hdram, hmem⟩ := storeUnit_puts r who o.toNat bytes
    generalize r.storeUnit who (windowAt o.toNat) o.toNat bytes = t at key hbar2 hdram hmem
    rw [settle_quiet ((hmem.frame.edges (by decide)).trans (charged_settled hq hc).1)
      ((hmem.frame.errNow (by decide)).trans (charged_settled hq hc).2)] at key
    refine ⟨t, key, ?_, fun hs => ?_, fun hs => ?_, fun a _ ha => (hmem.regs a ha).trans (charged_reg hc a),
      (hmem.frame.tones (by decide)).trans (by rw [hrest]), (hmem.frame.seqs (by decide)).trans (by rw [hrest]),
      (hmem.frame.rings (by decide)).trans (by rw [hrest])⟩
    · rw [hbar2, hrest]
      exact bytesPut_wrBytes _ _ _
    · rw [hdram, if_pos hs, hrest]
      exact bytesPut_wrBytes _ _ _
    · rw [hdram, hs, hrest]
      rfl
  · rw [writeUnit_permitted hu (by rw [charged_windowDenied hc]; exact hperm), if_pos (by rw [← hdbg, hblocked])] at key
    have hf := State.rejectUnit_frame (w := 36028797018964096) r who w o.toNat (Frame.refl _ _) (by decide)
    refine ⟨_, key, ?_, ?_, ?_⟩
    · rw [State.settle_bar2, hf.bar2 (by decide), hrest]
    · rw [State.settle_dram, hf.dram (by decide), hrest]
    · rintro f rfl
      obtain ⟨hoff, hcount, hstat⟩ := rejectUnit_records r f w (o := o.toNat) (by have := o.isLt; omega)
      refine ⟨?_, ?_, ?_⟩
      · rw [fn_fld_settle _ _ (by decide)]
        exact hoff
      · rw [fn_fld_settle _ _ (by decide), ← charged_fld hc]
        exact hcount
      · rw [State.settle_reg_keep _ (fn_not_irq (by decide))]
        exact hstat
  · rw [writeUnit_denied hu (by rw [charged_windowDenied hc]; exact hden)] at key
    obtain ⟨hreg, honly, -⟩ := charged_err hq hc b code (accInfo who o.toNat true)
    exact ⟨_, key, honly, hreg⟩

end Sys2Proof.Machine
end

section
/-!
Obligation O44: the inputs, the outputs and the enables of a lane.
-/
namespace Sys2Proof.Machine

/-! ### Lanes and their pages -/

theorem lane_congr {s t : State} (h : t.lanes = s.lanes) (m : Nat) : t.lane m = s.lane m := by unfold State.lane; rw [h]

theorem lane_settle (s : State) (m : Nat) : s.settle.lane m = s.lane m := lane_congr s.settle_lanes m

/-- The pages of the lanes lie below the decision pages. -/
theorem lanePage_lt {n : Fin 64} {off : Nat} (h : off < 0x1000) : Base.lane n + off < 0x0054_0000 := by
  have := n.isLt
  unfold Base.lane
  omega

theorem lane_not_irq {n : Fin 64} {off : Nat} (h : off < 0x1000) : ¬ irqWrites (Base.lane n + off) := by
  have := lanePage_lt (n := n) h
  unfold irqWrites
  omega

theorem lane_reg_settle (s : State) (n : Fin 64) {off : Nat} (h : off < 0x1000) :
    s.settle.reg (Base.lane n + off) = s.reg (Base.lane n + off) := s.settle_reg_keep (lane_not_irq h)

theorem lane_fld_settle (s : State) (n : Fin 64) {q : Row} {j : Nat} (h : q.off + q.stride * j < 0x1000) :
    s.settle.fld (Base.lane n) q j = s.fld (Base.lane n) q j := by
  unfold State.fld
  rw [Nat.add_assoc, lane_reg_settle s n h]

theorem lane_enabled_settle (s : State) (n : Fin 64) : s.settle.enabled (Base.lane n) = s.enabled (Base.lane n) := by
  unfold State.enabled State.bit
  rw [lane_fld_settle _ _ (by decide)]

theorem lane_lt (n : Fin 64) : n.val < pageCount .lane := n.isLt

/-- Two changes of a lane are one where they agree on the lane as it stands. -/
theorem modLane_congr {s : State} {n : Nat} {f g : LaneSt → LaneSt} (h : f (s.lane n) = g (s.lane n)) :
    s.modLane n f = s.modLane n g := by
  unfold State.lane at h
  unfold State.modLane SMap.modify
  rw [h]

/-! ### The end of an instruction -/

/-- What the end of an instruction of lane `n` looks at is in `u` as it was in `s`; the record in hand may differ. -/
structure InStep (n : Fin 64) (s u : State) : Prop where
  pc : u.fld (Base.lane n) Reg.Lane.PC = s.fld (Base.lane n) Reg.Lane.PC
  dbgs : u.dbgs = s.dbgs
  lane : ∃ ws q o, u.lane n = { s.lane n with words := ws, recSeq := q, overrun := o }

/-- The lane goes on at `pc`, with one issue fewer asked for by RPT. -/
def State.laneRetire (s : State) (n pc : Nat) : State :=
  (s.modLane n fun x => { x with rpt := x.rpt - 1 }).setFld (Base.lane n) Reg.Lane.PC pc

theorem bpAt_congr {s u : State} (h : u.dbgs = s.dbgs) (t a : Nat) : u.bpAt t a = s.bpAt t a := by
  unfold State.bpAt State.dbg
  rw [h]

/-- A lane that goes on crosses the boundary without a halt (R540). -/
theorem laneBoundary_passes {s : State} {n : Nat} (hi : (s.lane n).issuing = true) (hw : (s.lane n).wait = .none)
    (hh : (s.lane n).haltReq = false) (hs : (s.lane n).stepping = false)
    (hb : s.bpAt (laneDbg n) (s.fld (Base.lane n) Reg.Lane.PC) = none) : s.laneBoundary n = s := by
  unfold State.laneBoundary
  simp only [hi, hw, hh, hs, hb, Bool.not_true, bne_self_eq_false, Bool.or_self, Bool.false_eq_true, if_false]

theorem laneFollow_lt (s : State) (n : Fin 64) : laneFollow s n < 4096 := by
  have : s.fld (Base.lane n) Reg.Lane.PC < 2 ^ Reg.Lane.PC.width := State.fld_lt ..
  rw [show Reg.Lane.PC.width = 12 from rfl] at this
  unfold laneFollow
  split <;> omega

theorem laneRetire_pc (s : State) (n : Nat) {pc : Nat} (h : pc < 4096) :
    (s.laneRetire n pc).fld (Base.lane n) Reg.Lane.PC = pc :=
  (State.fld_setFld_same _ _ ⟨by decide, by decide⟩ _ _).trans (Nat.mod_eq_of_lt h)

theorem laneRetire_lane (s : State) (n pc : Nat) :
    (s.laneRetire n pc).lane n = { s.lane n with rpt := (s.lane n).rpt - 1 } := by
  unfold State.laneRetire
  rw [State.lane_setFld, State.lane_modLane]

theorem laneRetire_lane_ne (s : State) {n m : Nat} (pc : Nat) (h : m ≠ n) : (s.laneRetire n pc).lane m = s.lane m := by
  unfold State.laneRetire
  rw [State.lane_setFld, State.lane_modLane_ne _ _ h]

theorem laneRetire_reg (s : State) {n a : Nat} (pc : Nat) (h : a ≠ Base.lane n + 0x040) :
    (s.laneRetire n pc).reg a = s.reg a := State.reg_setFld_ne _ h

section
variable {n : Fin 64} {q : LaneFault} {s u : State} {o : Nat}

/-- A lane that issues is not held by a wait or a halt. -/
theorem laneIssues_goes (hi : LaneIssues s n o) :
    (s.lane n).issuing = true ∧ (s.lane n).wait = .none ∧ (s.lane n).haltReq = false ∧ (s.lane n).stepping = false := by
  obtain ⟨-, hr, -, -, -, hh, hs⟩ := hi
  unfold State.laneReady at hr
  simp only [Bool.and_eq_true, beq_iff_eq] at hr
  exact ⟨hr.1.1.2, hr.1.2, hh, hs⟩

/-- After an instruction that does not branch the lane goes on where R271 has it follow. -/
theorem laneNext_follows (hi : LaneIssues s n o) (hb : s.bpAt (256 + n.val) (laneFollow s n) = none) (h : InStep n s u) :
    u.laneNext n = u.laneRetire n (laneFollow s n) := by
  obtain ⟨hpc, hdbgs, ws, q, ov, hl⟩ := h
  obtain ⟨hissue, hwait, hhalt, hstep⟩ := laneIssues_goes hi
  have hrpt : (u.lane n).rpt = (s.lane n).rpt := by rw [hl]
  have go : (u.modLane n fun x => { x with rpt := x.rpt - 1 }).laneGo n (laneFollow s n) = u.laneRetire n (laneFollow s n) := by
    have hlane := laneRetire_lane u n (laneFollow s n)
    rw [hl] at hlane
    refine laneBoundary_passes (s := u.laneRetire n (laneFollow s n)) ?_ ?_ ?_ ?_ ?_
    · rw [hlane]; exact hissue
    · rw [hlane]; exact hwait
    · rw [hlane]; exact hhalt
    · rw [hlane]; exact hstep
    · rw [laneRetire_pc u n (laneFollow_lt s n), bpAt_congr (u := u.laneRetire n (laneFollow s n)) (s := s) hdbgs]
      exact hb
  rw [← go]
  unfold State.laneNext laneFollow
  rw [hrpt, hpc]
  split
  · rfl
  · exact congrArg (fun v : State => v.laneGo n _) (modLane_congr (show _ = _ by rw [hrpt, show (s.lane n).rpt - 1 = 0 by omega]))

/-- An instruction that is issued and does not branch. -/
theorem laneIssue_retires (hq : q ≠ .imem) (hi : LaneIssues s n o) (hb : s.bpAt (256 + n.val) (laneFollow s n) = none)
    {body : Nat → LaneStep} (hbody : body (laneAt s n) = .next u) (h : InStep n s u) :
    s.laneIssue n o q body = .next (u.laneRetire n (laneFollow s n)).settle := by
  have hnext := laneNext_follows hi hb h
  obtain ⟨-, hr, hbad, hop, hrpt, -, -⟩ := hi
  have hrep : (laneNoRpt o && (s.lane n).rpt != 0) = false := by
    cases h : laneNoRpt o
    · rfl
    · rw [hrpt h]; rfl
  have hw : rdLE s.bar2 (laneCode n + 4 * s.fld (Base.lane n) Reg.Lane.PC) 4 = laneAt s n := rfl
  unfold State.laneIssue
  simp only [hr, hq, hw, hbad, hop, hrep, hbody, hnext, ne_eq, not_true, Bool.not_true, Bool.or_self, Bool.false_eq_true, if_false]
  rfl

/-- What an instruction leaves that has changed only registers and its lane, and made no edge. -/
theorem laneRetire_plain {x : LaneSt} {l : List Nat} (hq : Settled s) (hu : u = { s with regs := u.regs, lanes := u.lanes })
    (hx : u.lane n = x) (hr : x.rpt = (s.lane n).rpt) (hm : ∀ m, m ≠ n.val → u.lane m = s.lane m)
    (hreg : ∀ a, a ∉ l → u.reg a = s.reg a) :
    let t := (u.laneRetire n (laneFollow s n)).settle
    (∀ a, a ≠ Base.lane n + 0x040 → t.reg a = u.reg a) ∧ LaneRetires s t n x (laneFollow s n) l ∧
      t = { s with regs := t.regs, lanes := t.lanes } := by
  have he : u.edges = [] := by rw [hu]; exact hq.1
  have hn : u.errNow = [] := by rw [hu]; exact hq.2
  have ht : (u.laneRetire n (laneFollow s n)).settle = u.laneRetire n (laneFollow s n) :=
    settle_quiet (s := u.laneRetire n _) he hn
  rw [ht]
  refine ⟨fun a ha => laneRetire_reg u _ ha, ⟨laneRetire_pc u n (laneFollow_lt s n), ?_, fun m h => ?_, fun a ha hal => ?_⟩, ?_⟩
  · rw [laneRetire_lane, hx, hr]
  · rw [laneRetire_lane_ne _ _ h, hm m h]
  · rw [laneRetire_reg _ _ ha, hreg a hal]
  · show ({ u with regs := (u.laneRetire n (laneFollow s n)).regs, lanes := (u.laneRetire n (laneFollow s n)).lanes } : State) = _
    rw [hu]

/-! ### TAKE and STMP -/

theorem laneTake_takes (hq : q ≠ .imem) (hb : s.bpAt (256 + n.val) (laneFollow s n) = none) (hi : LaneIssues s n 0x3A) :
    let b := Base.lane n
    let c := LaneW.a (laneAt s n) % 4
    let avail : Nat := (s.fld b Reg.Lane.IWCNT c + 2 ^ 32 - s.fld b Reg.Lane.ITAKE c) % 2 ^ 32
    let got : Int := min (LaneW.imm (laneAt s n)) avail
    ∃ t, exec (.laneTake n q) s = .next t ∧ (t.fld b Reg.Lane.ITAKE c : Int) = (s.fld b Reg.Lane.ITAKE c + got) % 2 ^ 32 ∧
      LaneRetires s t n (s.lane n) (laneFollow s n) [b + 0x06C + 16 * c] ∧ t = { s with regs := t.regs, lanes := t.lanes } := by
  intro b c avail got
  have hc : c < 4 := Nat.mod_lt _ (by decide)
  have hstep : InStep n s (s.laneTake n c got) :=
    ⟨State.fld_setFld_page _ (by simp only [Reg.Lane.PC, Reg.Lane.ITAKE]; omega), rfl, _, _, _, rfl⟩
  have key : exec (.laneTake n q) s = .next ((s.laneTake n c got).laneRetire n (laneFollow s n)).settle := by
    show execLaneTake n q s = _
    unfold execLaneTake
    exact laneIssue_retires hq hi hb rfl hstep
  obtain ⟨hreg, hret, hrest⟩ := laneRetire_plain (u := s.laneTake n c got) (l := [b + 0x06C + 16 * c]) hi.1 rfl rfl rfl
    (fun m _ => rfl) fun a ha => State.reg_setFld_ne s (mt List.mem_singleton.2 ha)
  refine ⟨_, key, ?_, hret, hrest⟩
  have hfld : (((s.laneTake n c got).laneRetire n (laneFollow s n)).settle).fld b Reg.Lane.ITAKE c =
      unsigned 32 (s.fld b Reg.Lane.ITAKE c + got) % 2 ^ 32 := by
    unfold State.fld
    rw [hreg _ (by simp only [Reg.Lane.ITAKE, b]; omega)]
    exact State.fld_setFld_same s b (r := Reg.Lane.ITAKE) ⟨by decide, by decide⟩ _ c
  rw [hfld]
  unfold unsigned
  omega

theorem laneStmp_reads (hq : q ≠ .imem) (hb : s.bpAt (256 + n.val) (laneFollow s n) = none) {e : Nat} (hi : LaneIssues s n 0x3B) :
    let b := Base.lane n
    let c := LaneW.a (laneAt s n) % 4
    let d := LaneW.d (laneAt s n)
    let tk := s.fld b Reg.Lane.ITAKE c
    (s.fld b Reg.Lane.IWCNT c + 2 ^ 32 - tk) % 2 ^ 32 ≠ 0 →
      ((s.lane n).stamps.find? fun e => e.1 == c && e.2.1 == tk) = some (c, tk, e) →
      ∃ t, exec (.laneStmp n q) s = .next t ∧ t.laneD n d = e % 2 ^ 32 ∧
        LaneRetires s t n (s.lane n) (laneFollow s n) [dAddr n d] ∧ t = { s with regs := t.regs, lanes := t.lanes } := by
  intro b c d tk ha hf
  have hd : d < 16 := Nat.mod_lt _ (by decide)
  have hav : (s.laneAvail n c != 0) = true := bne_iff_ne.2 ha
  have hstep : InStep n s (s.setLaneD n d (e % 2 ^ 32)) :=
    ⟨State.fld_setFld_page _ (by simp only [Reg.Lane.PC, Reg.Lane.D]; omega), rfl, _, _, _, rfl⟩
  have key : exec (.laneStmp n q) s = .next ((s.setLaneD n d (e % 2 ^ 32)).laneRetire n (laneFollow s n)).settle := by
    show execLaneStmp n q s = _
    unfold execLaneStmp
    refine laneIssue_retires hq hi hb ?_ hstep
    show (match (s.lane n).stamps.find? fun e => e.1 == c && e.2.1 == tk && s.laneAvail n c != 0 with
      | some e => LaneStep.next (s.setLaneD n d (e.2.2 % 2 ^ 32))
      | none => _) = _
    simp only [hav, Bool.and_true, hf]
  obtain ⟨hreg, hret, hrest⟩ := laneRetire_plain (u := s.setLaneD n d (e % 2 ^ 32)) (l := [dAddr n d]) hi.1 rfl rfl rfl
    (fun m _ => rfl) fun a ha => State.reg_setFld_ne s (mt List.mem_singleton.2 ha)
  refine ⟨_, key, ?_, hret, hrest⟩
  unfold State.laneD State.fld
  rw [hreg _ (by simp only [Reg.Lane.D]; omega)]
  exact (State.fld_setFld_same s b (r := Reg.Lane.D) ⟨by decide, by decide⟩ _ d).trans (Nat.mod_mod _ _)

end

/-! ### Rings and lanes do not mix -/

/-- The state with other lanes. -/
def State.withLanes (s : State) (l : SMap LaneSt) : State := { s with lanes := l }

section
variable (s : State) (l : SMap LaneSt)

theorem withLanes_err (b c i : Nat) : (s.withLanes l).err b c i = (s.err b c i).withLanes l := by
  unfold State.err
  rw [apply_ite (State.withLanes · l), apply_ite (State.withLanes · l)]
  rfl

theorem withLanes_raise (b i : Nat) : (s.withLanes l).raise b i = (s.raise b i).withLanes l := by
  unfold State.raise State.raiseBits State.edge
  rw [apply_ite (State.withLanes · l)]
  rfl

theorem withLanes_dramEnter (port da : Nat) (write panic : Bool) (use : DramUse) :
    (s.withLanes l).dramEnter port write da panic use = (s.dramEnter port write da panic use).withLanes l := by
  unfold State.dramEnter
  simp only [apply_ite (State.withLanes · l), ← withLanes_raise, ← withLanes_err]
  rfl

theorem withLanes_chargePort (port fn : Nat) :
    (s.withLanes l).chargePort port fn = (s.chargePort port fn).map (State.withLanes · l) := by
  unfold State.chargePort State.chargeRefetch State.chargeRes State.chargeHost State.chargeBest
  simp only [apply_ite (Option.map (State.withLanes · l))]
  rfl

theorem withLanes_dramRequest (port fn da : Nat) (write panic : Bool) :
    (s.withLanes l).dramRequest port fn write da panic = (s.dramRequest port fn write da panic).withLanes l := by
  unfold State.dramRequest
  rw [withLanes_chargePort, apply_ite (State.withLanes · l)]
  cases s.chargePort port fn with
  | none => rfl
  | some t =>
    simp only [Option.map_some, withLanes_dramEnter]
    rfl

theorem withLanes_touchRing (r : Nat) : (s.withLanes l).touchRing r = (s.touchRing r).withLanes l := by
  unfold State.touchRing
  rw [apply_ite (State.withLanes · l), apply_ite (State.withLanes · l)]
  refine ite_congr rfl (fun _ => rfl) fun _ => ite_congr rfl (fun _ => rfl) fun _ => ?_
  show (match s.ringFn r with
      | some f => ({ s with ctxCache := (r :: s.ctxCache).take 3072 }.withLanes l).dramRequest 4 f false (0x0800_0000 + r * 64)
      | none => { s with ctxCache := (r :: s.ctxCache).take 3072 }.withLanes l) =
    State.withLanes (match s.ringFn r with
      | some f => { s with ctxCache := (r :: s.ctxCache).take 3072 }.dramRequest 4 f false (0x0800_0000 + r * 64)
      | none => { s with ctxCache := (r :: s.ctxCache).take 3072 }) l
  cases s.ringFn r with
  | none => rfl
  | some f => exact withLanes_dramRequest ..

theorem withLanes_modRing (r : Nat) (f : RingSt → RingSt) : (s.withLanes l).modRing r f = (s.modRing r f).withLanes l := rfl

theorem withLanes_ringFull (r : Nat) : (s.withLanes l).ringFull r = (s.ringFull r).withLanes l := by
  unfold State.ringFull
  dsimp only
  rw [withLanes_modRing]
  generalize s.modRing r (fun x => { x with drop := min (x.drop + 1) (2 ^ 32 - 1) }) = v
  show (match v.ringFn r with | some f => (v.withLanes l).raise (Base.fn f) 2 | none => v.withLanes l) =
    State.withLanes (match v.ringFn r with | some f => v.raise (Base.fn f) 2 | none => v) l
  cases v.ringFn r with
  | none => rfl
  | some f => exact withLanes_raise ..

theorem withLanes_ringAppend (r port : Nat) (panic : Bool) (entry : List Byte) :
    (s.withLanes l).ringAppend r port panic entry = (s.ringAppend r port panic entry).withLanes l := by
  unfold State.ringAppend
  show (State.dramEnter (State.withLanes { s with dram := wrBytes s.dram ((s.ring r).devSlot (s.ring r).prod) entry } l) port true
    ((s.ring r).devSlot (s.ring r).prod) panic .none).modRing r _ = _
  rw [withLanes_dramEnter]
  rfl

theorem withLanes_ringPush (r : Nat) (entry : List Byte) :
    (s.withLanes l).ringPush r entry = (s.ringPush r entry).withLanes l := by
  unfold State.ringPush
  rw [withLanes_touchRing]
  generalize s.touchRing r = v
  dsimp only
  rw [apply_ite (State.withLanes · l), apply_ite (State.withLanes · l), ← withLanes_ringFull]
  have serve (w : DramWait) (hw : w.act = .record r entry) :
      (v.withLanes l).dramServe w = (v.dramServe w).map (State.withLanes · l) := by
    unfold State.dramServe
    rw [hw]
    simp only [withLanes_ringFull, withLanes_chargePort, withLanes_ringAppend, Option.map_map, Function.comp_def,
      apply_ite (Option.map (State.withLanes · l)), Option.map_some]
    rfl
  rw [serve _ rfl, show (v.withLanes l).ringFn r = v.ringFn r from rfl]
  cases v.dramServe ⟨4, (v.ringFn r).getD 64, .record r entry⟩ <;> rfl

end

/-! ### What a record for a ring writes -/

/-- The memory controller writes no register below its pages. -/
theorem dramEnter_reg (s : State) (port da : Nat) (write panic : Bool) (use : DramUse) {a : Nat} (ha : a < 0x0070_0000) :
    (s.dramEnter port write da panic use).reg a = s.reg a := by
  unfold State.dramEnter
  dsimp only
  split
  · rw [State.reg_raise_ne _ (by unfold Base.mc; omega), State.reg_err_ne _ (by unfold Base.mc; omega)]
  split
  · split
    · exact State.reg_setFld_ne s (by simp only [Base.dch, Reg.Dch.MERGE_COUNT]; omega)
    · rfl
  · split <;> rfl

theorem ringFull_reg (s : State) (r : Nat) {a : Nat} (ha : a < 0x0070_0000) : (s.ringFull r).reg a = s.reg a := by
  unfold State.ringFull
  dsimp only
  split
  · rw [State.reg_raise_ne _ (by unfold Base.fn; omega)]
    rfl
  · rfl

/-- A record for a ring writes no register below the pages of the memory controller. -/
theorem ringPush_reg (s : State) {r : Nat} (hr : r < 2 ^ 18) (entry : List Byte) {a : Nat} (ha : a < 0x0070_0000) :
    (s.ringPush r entry).reg a = s.reg a := by
  have touched : (s.touchRing r).reg a = s.reg a :=
    State.reg_congr ((touchRing_read_frame (w := 21528576) hr (Frame.refl _ _) (by decide)).regs (by decide)) a
  rw [← touched]
  unfold State.ringPush
  generalize s.touchRing r = v
  dsimp only
  split
  · exact ringFull_reg v r ha
  split
  · rfl
  · unfold State.dramServe
    dsimp only
    split
    · exact ringFull_reg v r ha
    · cases hc : v.chargePort 4 ((v.ringFn r).getD 64) with
      | none => rfl
      | some t =>
        show (t.ringAppend r 4 false entry).reg a = _
        unfold State.ringAppend
        rw [State.modRing_reg, dramEnter_reg _ _ _ _ _ _ ha]
        exact State.reg_congr ((State.chargePort_frame (w := 32768) v _ _ hc (Frame.refl _ _) (by decide)).regs (by decide)) a

/-! ### OUTW -/

/-- The bytes of a number, lowest first (R8). -/
theorem bytesLE_eq_leBytes (k v : Nat) : bytesLE v k = leBytes k v := by
  induction k generalizing v with
  | zero => rfl
  | succ k ih =>
    unfold leBytes at ih ⊢
    rw [bytesLE, ih, List.range_succ_eq_map, List.map_cons, List.map_map, Nat.pow_zero, Nat.div_one]
    refine congrArg _ (List.map_congr_left fun i _ => ?_)
    rw [Function.comp_apply, Nat.div_div_eq_div_mul, Nat.pow_succ, Nat.mul_comm]

theorem packBytes_words (ws : List Nat) (k : Nat) :
    packBytes ((List.range (ws.length + k)).map fun i => (ws.getD i 0, 4)) =
      ws.flatMap (leBytes 4) ++ List.replicate (4 * k) 0 := by
  induction ws with
  | nil =>
    rw [List.length_nil, Nat.zero_add, List.flatMap_nil, List.nil_append]
    induction k with
    | zero => rfl
    | succ k ih =>
      rw [List.range_succ, List.map_append, packBytes_append, ih, Nat.mul_succ, List.replicate_add, List.map_singleton,
        List.getD_nil]
      rfl
  | cons v vs ih =>
    rw [List.length_cons, Nat.add_right_comm, List.range_succ_eq_map, List.map_cons, List.map_map, packBytes_cons, bytesLE_eq_leBytes,
      List.flatMap_cons, List.append_assoc, ← ih]
    rfl

/-- The lane record of R277 as a list of bytes. -/
theorem laneRecord_bytes (s : State) (n : Nat) (h : (s.lane n).words.length ≤ 14) :
    s.laneRecord n = leBytes 2 0x4C41 ++ leBytes 1 n ++ leBytes 1 ((s.bit (Base.lane n) Reg.Lane.DERR).toNat +
        2 * (s.bit (Base.lane n) Reg.Lane.SAT).toNat + 4 * (s.bit (Base.lane n) Reg.Lane.OV).toNat + 8 * (s.lane n).overrun.toNat) ++
      leBytes 2 (s.lane n).words.length ++ leBytes 2 (s.lane n).recSeq ++ (s.lane n).words.flatMap (leBytes 4) ++
        List.replicate (4 * (14 - (s.lane n).words.length)) 0 := by
  have hw := packBytes_words (s.lane n).words (14 - (s.lane n).words.length)
  rw [Nat.add_sub_cancel' h] at hw
  unfold State.laneRecord
  rw [packBytes_append, hw]
  simp only [packBytes_cons, bytesLE_eq_leBytes, List.append_assoc]
  rfl

section
variable {n : Fin 64} {q : LaneFault} {s u : State}

theorem laneOutw_appends (hq : q ≠ .imem) (hb : s.bpAt (256 + n.val) (laneFollow s n) = none) (hi : LaneIssues s n 0x3D)
    (hfl : LaneW.fl (laneAt s n) = false) (hlen : (s.lane n).words.length + 1 < 14) :
    ∃ t, exec (.laneOutw n q) s = .next t ∧
      LaneRetires s t n { s.lane n with words := (s.lane n).words ++ [s.laneD n (LaneW.a (laneAt s n))] } (laneFollow s n) [] ∧
        t = { s with regs := t.regs, lanes := t.lanes } := by
  let u := s.modLane n fun x => { x with words := x.words ++ [s.laneD n (LaneW.a (laneAt s n))] }
  have hu : u.lane n = { s.lane n with words := (s.lane n).words ++ [s.laneD n (LaneW.a (laneAt s n))] } := State.lane_modLane ..
  have key : exec (.laneOutw n q) s = .next (u.laneRetire n (laneFollow s n)).settle := by
    show execLaneOutw n q s = _
    unfold execLaneOutw
    refine laneIssue_retires hq hi hb ?_ ⟨rfl, rfl, _, _, _, hu⟩
    show LaneStep.next (if LaneW.fl (laneAt s n) || decide (14 ≤ (u.lane n).words.length) then u.laneWrite n else u) = _
    rw [hu]
    simp only [hfl, List.length_append, List.length_singleton, decide_eq_false (Nat.not_le.2 hlen), Bool.or_self, Bool.false_eq_true,
      if_false]
  obtain ⟨-, hret, hrest⟩ := laneRetire_plain (u := u) (l := []) hi.1 rfl hu rfl (fun m h => State.lane_modLane_ne _ _ h)
    fun _ _ => rfl
  exact ⟨_, key, hret, hrest⟩

/-- The lane record of R277 of lane `n`, with `v` for its last word. -/
def State.laneEntry (s : State) (n v : Nat) : List Byte :=
  let b := Base.lane n
  let x := s.lane n
  leBytes 2 0x4C41 ++ leBytes 1 n ++
    leBytes 1 ((s.bit b Reg.Lane.DERR).toNat + 2 * (s.bit b Reg.Lane.SAT).toNat +
      4 * (decide (s.fld b Reg.Lane.OV ≠ 0)).toNat + 8 * x.overrun.toNat) ++
    leBytes 2 (x.words.length + 1) ++ leBytes 2 x.recSeq ++ (x.words ++ [v]).flatMap (leBytes 4) ++
    List.replicate (4 * (13 - x.words.length)) 0

/-- A record goes to the lane's ring, or is refused with 0x15 where the ring is not valid (R277). -/
def State.laneHandOver (s : State) (n : Nat) (entry : List Byte) : State :=
  let r := s.fld (Base.lane n) Reg.Lane.OUT_RING
  if s.ringValid r 4 (s.owner (Base.lane n)) then s.ringPush r entry else s.err (Base.lane n) 0x15 r

theorem laneRecord_entry (s : State) (n v : Nat) (h : (s.lane n).words.length < 14) :
    (s.modLane n fun x => { x with words := x.words ++ [v] }).laneRecord n = s.laneEntry n v := by
  let z := s.modLane n fun x => { x with words := x.words ++ [v] }
  have hz : z.lane n = { s.lane n with words := (s.lane n).words ++ [v] } := State.lane_modLane ..
  have hov : z.bit (Base.lane n) Reg.Lane.OV = decide (s.fld (Base.lane n) Reg.Lane.OV ≠ 0) := by
    show (s.fld (Base.lane n) Reg.Lane.OV != 0) = _
    cases s.fld (Base.lane n) Reg.Lane.OV <;> rfl
  have hzl : (z.lane n).words.length = (s.lane n).words.length + 1 := by rw [hz]; exact List.length_append
  show z.laneRecord n = _
  rw [laneRecord_bytes z n (by omega), hzl, hz, hov,
    show 14 - ((s.lane n).words.length + 1) = 13 - (s.lane n).words.length by omega]
  rfl

/-- The record in hand, with one word more, goes to its ring or is refused; only the lane knows of its end. -/
theorem laneWrite_hands (s : State) (n v : Nat) (h : (s.lane n).words.length < 14) :
    let z := s.modLane n fun x => { x with words := x.words ++ [v] }
    z.laneWrite n = (s.laneHandOver n (s.laneEntry n v)).withLanes
      (z.modLane n fun x => { x with words := [], recSeq := (x.recSeq + 1) % 65536, overrun := false }).lanes := by
  intro z
  unfold State.laneHandOver
  dsimp only
  rw [apply_ite (State.withLanes · _), ← withLanes_ringPush, ← withLanes_err, ← laneRecord_entry s n v h]
  rfl

theorem ringValid_iff (s : State) (r kind f : Nat) :
    s.ringValid r kind f = true ↔ (s.ring r).en = true ∧ (s.ring r).kind = kind ∧ s.ringFn r = some f := by
  unfold State.ringValid
  simp only [Bool.and_eq_true, beq_iff_eq, and_assoc]

/-- The hand-over of a record changes no field of the lane's page but ERR_CAP, and no debug target. -/
theorem laneHandOver_keeps (s : State) (n : Fin 64) (entry : List Byte) :
    (s.laneHandOver n entry).dbgs = s.dbgs ∧
      ∀ a, a < 0x0054_0000 → a ≠ Base.lane n + 0x01C → (s.laneHandOver n entry).reg a = s.reg a := by
  unfold State.laneHandOver
  dsimp only
  split
  · exact ⟨(State.ringPush_frame (w := 108086391080583296) s _ _ (Frame.refl _ _) (by decide)).dbgs (by decide),
      fun a ha _ => ringPush_reg s (State.fld_lt s _ Reg.Lane.OUT_RING 0) entry (by omega)⟩
  · exact ⟨(State.err_frame (w := 72057594037928064) s _ _ _ (Frame.refl _ _) (by decide)).dbgs (by decide),
      fun a _ ha => State.reg_err_ne s ha⟩

/-- The last word of a record: the record is handed over, and the lane begins the next one. -/
theorem execLaneOutw_hands (hq : q ≠ .imem) (hb : s.bpAt (256 + n.val) (laneFollow s n) = none) (hi : LaneIssues s n 0x3D)
    (hfull : LaneW.fl (laneAt s n) = true ∨ (s.lane n).words.length + 1 = 14) (hlen : (s.lane n).words.length < 14) :
    let y := s.laneHandOver n (s.laneEntry n (s.laneD n (LaneW.a (laneAt s n))))
    ∃ l, (y.withLanes l).lane n =
        { s.lane n with words := [], recSeq := ((s.lane n).recSeq + 1) % 65536, overrun := false } ∧
      exec (.laneOutw n q) s = .next ((y.withLanes l).laneRetire n (laneFollow s n)).settle := by
  intro y
  let z := s.modLane n fun x => { x with words := x.words ++ [s.laneD n (LaneW.a (laneAt s n))] }
  have hz : z.lane n = { s.lane n with words := (s.lane n).words ++ [s.laneD n (LaneW.a (laneAt s n))] } := State.lane_modLane ..
  have hzl : (z.lane n).words.length = (s.lane n).words.length + 1 := by rw [hz]; exact List.length_append
  have hwrite := laneWrite_hands s n (s.laneD n (LaneW.a (laneAt s n))) hlen
  obtain ⟨hdbgs, hreg⟩ := laneHandOver_keeps s n (s.laneEntry n (s.laneD n (LaneW.a (laneAt s n))))
  have hpc : y.reg (Base.lane n + 0x040) = s.reg (Base.lane n + 0x040) := hreg _ (lanePage_lt (by decide)) (by omega)
  have hlane : (z.modLane n fun x => { x with words := [], recSeq := (x.recSeq + 1) % 65536, overrun := false }).lane n =
      { s.lane n with words := [], recSeq := ((s.lane n).recSeq + 1) % 65536, overrun := false } :=
    (State.lane_modLane ..).trans
      (congrArg (fun x : LaneSt => { x with words := [], recSeq := (x.recSeq + 1) % 65536, overrun := false }) hz)
  refine ⟨_, hlane, ?_⟩
  show execLaneOutw n q s = _
  unfold execLaneOutw
  refine laneIssue_retires hq hi hb ?_ ⟨congrArg Reg.Lane.PC.get hpc, hdbgs, _, _, _, hlane⟩
  show LaneStep.next (if LaneW.fl (laneAt s n) || decide (14 ≤ (z.lane n).words.length) then z.laneWrite n else z) = _
  refine congrArg LaneStep.next ((if_pos ?_).trans hwrite)
  rw [hzl, Bool.or_eq_true, decide_eq_true_eq]
  exact hfull.imp_right fun h => by omega

/-- What the end of an instruction leaves of a state but its lanes. -/
theorem laneRetire_settle_keeps (y : State) (l : SMap LaneSt) (n : Fin 64) (pc : Nat) :
    let t := ((y.withLanes l).laneRetire n pc).settle
    t.dram = y.dram ∧ t.rings = y.rings ∧ t.dwait = y.dwait ∧ t.reg (Base.lane n + 0x01C) = y.reg (Base.lane n + 0x01C) :=
  ⟨State.settle_dram _, State.settle_rings _, State.settle_dwait _,
    (lane_reg_settle _ n (by decide)).trans (laneRetire_reg (y.withLanes l) _ (by omega))⟩

theorem laneOutw_hands (hq : q ≠ .imem) (hb : s.bpAt (256 + n.val) (laneFollow s n) = none) (hi : LaneIssues s n 0x3D)
    (hfull : LaneW.fl (laneAt s n) = true ∨ (s.lane n).words.length + 1 = 14) (hlen : (s.lane n).words.length < 14) :
    let b := Base.lane n
    let x := s.lane n
    let r := s.fld b Reg.Lane.OUT_RING
    let entry := s.laneEntry n (s.laneD n (LaneW.a (laneAt s n)))
    let owned := (s.ring r).en = true ∧ (s.ring r).kind = 4 ∧ s.ringFn r = some (s.owner b)
    ∃ t, exec (.laneOutw n q) s = .next t ∧
      t.lane n = { x with rpt := x.rpt - 1, words := [], recSeq := (x.recSeq + 1) % 65536, overrun := false } ∧
      t.fld b Reg.Lane.PC = laneFollow s n ∧
      (owned → t.dram = (s.ringPush r entry).dram ∧ t.rings = (s.ringPush r entry).rings ∧
        t.dwait = (s.ringPush r entry).dwait ∧ t.reg (b + 0x01C) = s.reg (b + 0x01C)) ∧
      (¬ owned → t.dram = s.dram ∧ t.rings = s.rings ∧ (s.bit b Reg.Hdr.VALID = false →
        t.fld b Reg.Hdr.CODE = 0x15 ∧ t.fld b Reg.Hdr.INFO = r)) := by
  intro b x r entry owned
  have hr : r < 2 ^ 18 := State.fld_lt s b Reg.Lane.OUT_RING 0
  have hvalid : s.ringValid r 4 (s.owner b) = true ↔ owned := ringValid_iff ..
  obtain ⟨l, hlane, key⟩ := execLaneOutw_hands hq hb hi hfull hlen
  obtain ⟨hdram, hrings, hdwait, hcap⟩ := laneRetire_settle_keeps (s.laneHandOver n entry) l n (laneFollow s n)
  refine ⟨_, key, ?_, ?_, fun ho => ?_, fun ho => ?_⟩
  · rw [lane_settle, laneRetire_lane, hlane]
  · rw [lane_fld_settle _ _ (by decide), laneRetire_pc _ _ (laneFollow_lt s n)]
  · have hy : s.laneHandOver n entry = s.ringPush r entry := if_pos (hvalid.2 ho)
    refine ⟨hdram.trans (congrArg _ hy), hrings.trans (congrArg _ hy), hdwait.trans (congrArg _ hy), ?_⟩
    rw [hcap, hy]
    exact ringPush_reg s hr entry (Nat.lt_trans (lanePage_lt (by decide)) (by decide))
  · have hy : s.laneHandOver n entry = s.err b 0x15 r := if_neg (mt hvalid.1 ho)
    have herr := State.err_frame (w := 72057594037928064) s b 0x15 r (Frame.refl _ _) (by decide)
    refine ⟨(hdram.trans (congrArg _ hy)).trans (herr.dram (by decide)),
      (hrings.trans (congrArg _ hy)).trans (herr.rings (by decide)), fun hv => ?_⟩
    obtain ⟨hcode, hinfo, -⟩ := State.err_captures (k := 0x15) (d := r) s hv
    have herrcap := hcap.trans (congrArg (State.reg · _) hy)
    exact ⟨(congrArg Reg.Hdr.CODE.get herrcap).trans hcode,
      (congrArg Reg.Hdr.INFO.get herrcap).trans (hinfo.trans (Nat.mod_eq_of_lt (Nat.lt_trans hr (by decide))))⟩

end

/-! ### DEC -/

theorem slot_congr {s t : State} (h : t.slots = s.slots) (k : Nat) : t.slot k = s.slot k := by unfold State.slot; rw [h]

/-- A slot write takes the value unless the slot holds a later stamp (R286). -/
theorem writeSlot_slot (s : State) (at' k : Nat) (x : Slot) :
    (s.writeSlot at' k x).slot k = if (s.slot k).refuses x.stamp then s.slot k else x := by
  unfold State.writeSlot
  split
  · exact slot_congr ((State.oldWrite_frame (w := 36028797018964096) s (Frame.refl _ _) (by decide)).slots (by decide)) k
  · dsimp only
    rw [slot_congr ((State.pendDecs_frame (w := 8796093022336) _ _ _ (Frame.refl _ _) (by decide)).slots (by decide)),
      slot_congr ((State.synLatch_frame (w := 36030996042219648) _ _ _ _ (Frame.refl _ _) (by decide)).slots (by decide))]
    exact State.slot_modSlot ..

theorem writeSlot_slot_ne (s : State) {at' k m : Nat} (x : Slot) (h : m ≠ k) : (s.writeSlot at' k x).slot m = s.slot m := by
  unfold State.writeSlot
  split
  · exact slot_congr ((State.oldWrite_frame (w := 36028797018964096) s (Frame.refl _ _) (by decide)).slots (by decide)) m
  · dsimp only
    rw [slot_congr ((State.pendDecs_frame (w := 8796093022336) _ _ _ (Frame.refl _ _) (by decide)).slots (by decide)),
      slot_congr ((State.synLatch_frame (w := 36030996042219648) _ _ _ _ (Frame.refl _ _) (by decide)).slots (by decide))]
    exact State.slot_modSlot_ne _ _ h

/-- Writes of distinct slots, one after the other. -/
theorem writeSlots_slot (at' m : Nat) (x : Slot) {l : List Nat} (hl : l.Nodup) (s : State) :
    (l.foldl (fun s k => s.writeSlot at' k x) s).slot m =
      if m ∈ l ∧ (s.slot m).refuses x.stamp = false then x else s.slot m := by
  induction l generalizing s with
  | nil => rw [if_neg fun h => List.not_mem_nil h.1]; rfl
  | cons k l ih =>
    obtain ⟨hk, hl⟩ := List.nodup_cons.1 hl
    rw [List.foldl_cons, ih hl]
    by_cases e : m = k
    · subst e
      rw [if_neg fun h => hk h.1, writeSlot_slot]
      cases (s.slot m).refuses x.stamp <;> simp
    · simp only [writeSlot_slot_ne s x e, List.mem_cons, e, false_or]

/-- What a source delivers goes to the slots that it feeds (R285). -/
theorem feed_slot (s : State) (at' num : Nat) (x : Slot) (k : Fin 256) :
    (s.feed at' 2 num x).slot k =
      if (s.fld Base.dec Reg.Dec.SRC_KIND k = 2 ∧ s.fld Base.dec Reg.Dec.SRC_NUM k = num) ∧
        (s.slot k).refuses x.stamp = false then x else s.slot k := by
  have hmem : k.val ∈ s.slotsOf 2 num ↔ s.fld Base.dec Reg.Dec.SRC_KIND k = 2 ∧ s.fld Base.dec Reg.Dec.SRC_NUM k = num := by
    unfold State.slotsOf
    simp [List.mem_filter]
  have hnd : (s.slotsOf 2 num).Nodup := by
    unfold State.slotsOf
    exact List.nodup_range.filter _
  unfold State.feed
  rw [writeSlots_slot _ _ _ hnd]
  simp only [hmem]

/-- A slot that holds a value with a later stamp refuses (R286). -/
theorem refuses_iff (x : Slot) (stamp : Nat) :
    x.refuses stamp = true ↔ x.cond ≠ .empty ∧ x.cond ≠ .absent ∧ 2 ^ 31 ≤ (stamp + 2 ^ 32 - x.stamp % 2 ^ 32) % 2 ^ 32 := by
  have hge : (!stampGe stamp x.stamp) = true ↔ 2 ^ 31 ≤ (stamp + 2 ^ 32 - x.stamp % 2 ^ 32) % 2 ^ 32 := by
    unfold stampGe
    simp only [Bool.not_eq_true', decide_eq_false_iff_not, Nat.not_lt]
  unfold Slot.refuses
  cases x.cond with
  | empty => simp
  | absent => simp
  | value => simpa using hge
  | nodec => simpa using hge

section
variable {n : Fin 64} {q : LaneFault} {s : State}

theorem laneDec_feeds (hq : q ≠ .imem) (hb : s.bpAt (256 + n.val) (laneFollow s n) = none) (hi : LaneIssues s n 0x3C) :
    let v := s.laneD n (LaneW.a (laneAt s n))
    let stamp := s.laneD n (LaneW.b (laneAt s n))
    let none' := v.testBit 30 || s.bit (Base.lane n) Reg.Lane.DERR
    ∃ t, exec (.laneDec n q) s = .next t ∧ t.fld (Base.lane n) Reg.Lane.PC = laneFollow s n ∧
      t.lane n = { s.lane n with rpt := (s.lane n).rpt - 1 } ∧
      ∀ k : Fin 256,
        let fed := s.fld Base.dec Reg.Dec.SRC_KIND k = 2 ∧ s.fld Base.dec Reg.Dec.SRC_NUM k = n.val
        let late := (s.slot k).cond ≠ .empty ∧ (s.slot k).cond ≠ .absent ∧
          2 ^ 31 ≤ (stamp + 2 ^ 32 - (s.slot k).stamp % 2 ^ 32) % 2 ^ 32
        (fed ∧ ¬ late → (t.slot k).cond = (if none' then .nodec else .value (v % 4) (v / 4 % 256)) ∧ (t.slot k).stamp = stamp) ∧
          (¬ fed ∨ late → t.slot k = s.slot k) := by
  intro v stamp none'
  let x := mkSlot none' (v % 4) (v / 4 % 256) stamp
  have hx : x.stamp = stamp := Nat.mod_eq_of_lt (State.fld_lt s (Base.lane n) Reg.Lane.D (LaneW.b (laneAt s n)))
  have hf := State.feed_frame (w := 36041166524776576) s (8 * (s.count + 1)) 2 n x (Frame.refl _ _) (by decide)
  have hlane := lane_congr (hf.lanes (by decide))
  have hpc : (s.feed (8 * (s.count + 1)) 2 n x).reg (Base.lane n + 0x040) = s.reg (Base.lane n + 0x040) :=
    feed_reg _ _ _ _ _ (lanePage_lt (by decide))
  have key : exec (.laneDec n q) s = .next ((s.feed (8 * (s.count + 1)) 2 n x).laneRetire n (laneFollow s n)).settle := by
    show execLaneDec n q s = _
    unfold execLaneDec
    exact laneIssue_retires hq hi hb rfl ⟨congrArg Reg.Lane.PC.get hpc, hf.dbgs (by decide), _, _, _, hlane n⟩
  have hslot := feed_slot s (8 * (s.count + 1)) n x
  generalize s.feed (8 * (s.count + 1)) 2 n x = u at key hlane hslot
  refine ⟨_, key, ?_, ?_, fun k => ?_⟩
  · rw [lane_fld_settle _ _ (by decide), laneRetire_pc _ _ (laneFollow_lt s n)]
  · rw [lane_settle, laneRetire_lane, hlane]
  · intro fed late
    have hk : (u.laneRetire n (laneFollow s n)).settle.slot k = if fed ∧ (s.slot k).refuses x.stamp = false then x else s.slot k :=
      (slot_congr (State.settle_slots _) k).trans (hslot k)
    have hlate : (s.slot k).refuses x.stamp = true ↔ late := by rw [hx]; exact refuses_iff _ _
    rw [hk]
    constructor
    · rintro ⟨hfed, hnot⟩
      rw [if_pos ⟨hfed, Bool.eq_false_iff.2 (mt hlate.1 hnot)⟩]
      exact ⟨rfl, hx⟩
    · refine fun h => if_neg fun ⟨hfed, hnot⟩ => h.elim (· hfed) fun hl => ?_
      rw [hlate.2 hl] at hnot
      cases hnot

end

/-! ### A channel that has fired -/

/-- Where channel `k` is busy in `s`, it is busy in `t` and has not fired again. -/
def KeepsFired (k : Nat) (s t : State) : Prop :=
  (s.evch k).busy = true → (t.evch k).busy = true ∧ (t.evch k).fires = (s.evch k).fires ∧
    t.reg (evgPage k + 0x0A0 + 4 * (k % 8)) = s.reg (evgPage k + 0x0A0 + 4 * (k % 8))

section
variable {k : Nat} {s t u : State}

theorem KeepsFired.refl (s : State) : KeepsFired k s s := fun h => ⟨h, rfl, rfl⟩

theorem KeepsFired.trans (h : KeepsFired k s t) (g : KeepsFired k t u) : KeepsFired k s u := fun hs => by
  obtain ⟨h1, h2, h3⟩ := h hs
  obtain ⟨g1, g2, g3⟩ := g h1
  exact ⟨g1, g2.trans h2, g3.trans h3⟩

/-- A change that leaves the channel and its FIRE_COUNT alone. -/
theorem KeepsFired.of_eq (h : t.evch k = s.evch k)
    (hr : t.reg (evgPage k + 0x0A0 + 4 * (k % 8)) = s.reg (evgPage k + 0x0A0 + 4 * (k % 8))) : KeepsFired k s t :=
  fun hs => ⟨by rw [h]; exact hs, by rw [h], hr⟩

/-- A register other than a FIRE_COUNT of a group. -/
theorem KeepsFired.setFld (s : State) {b v i : Nat} {r : Row} (hb : b % 0x1000 = 0)
    (hr : r.off + r.stride * i < 0x0A0 ∨ 0x0C0 ≤ r.off + r.stride * i ∧ r.off + r.stride * i < 0x1000) :
    KeepsFired k s (s.setFld b r v i) := by
  refine .of_eq (State.evch_setFld ..) (State.reg_setFld_ne s ?_)
  unfold evgPage Base.evg
  omega

theorem KeepsFired.raise (s : State) {b : Nat} (hb : b % 0x1000 = 0) (i : Nat) : KeepsFired k s (s.raise b i) := by
  refine .of_eq (State.evch_raise ..) (State.reg_raise_ne s ?_)
  unfold evgPage Base.evg
  omega

theorem KeepsFired.foldl {α : Type} (l : List α) (f : State → α → State) (h : ∀ s a, KeepsFired k s (f s a)) (s : State) :
    KeepsFired k s (l.foldl f s) := by
  induction l generalizing s with
  | nil => exact .refl s
  | cons a l ih => exact (h s a).trans (ih _)

end

theorem evgPage_mod (j : Nat) : evgPage j % 0x1000 = 0 := by unfold evgPage Base.evg; omega

/-- Another channel fires. -/
theorem fire_keepsFired {j k : Nat} (s : State) (imp : Bool) (occ : Option Nat) (h : j ≠ k) : KeepsFired k s (s.fire j imp occ) := by
  have h8 : j % 8 < 8 := Nat.mod_lt _ (by decide)
  have count (s : State) : KeepsFired k s (s.inc (evgPage j) Reg.Evg.FIRE_COUNT (j % 8)) :=
    .of_eq (State.evch_setFld ..) (State.reg_setFld_ne s (by simp only [evgPage, Base.evg, Reg.Evg.FIRE_COUNT]; omega))
  have chan (s : State) (f : EvSt → EvSt) : KeepsFired k s (s.modEvch j f) :=
    .of_eq (State.evch_modEvch_ne s f (Ne.symm h)) rfl
  have run (s : State) (v : Nat) : KeepsFired k s (s.setFld (evgPage j) Reg.Evg.LOOP_RUN v (j % 8)) :=
    .setFld s (evgPage_mod j) (.inl (by simp only [Reg.Evg.LOOP_RUN]; omega))
  have busy (s : State) : KeepsFired k s (s.setFld (evgPage j) Reg.Evg.BUSY 1 (j % 8)) :=
    .setFld s (evgPage_mod j) (.inl (by simp only [Reg.Evg.BUSY]; omega))
  unfold State.fire
  dsimp only
  refine KeepsFired.trans ?_ (.raise _ (evgPage_mod j) _)
  split
  · exact ((((run s _).trans (count _)).trans (chan _ _)).trans (busy _)).trans (.raise _ (evgPage_mod j) _)
  · exact (((run s _).trans (count _)).trans (chan _ _)).trans (busy _)

/-- A publish does not make a busy channel fire (R446). -/
theorem publish_keepsFired {k : Nat} (s : State) (j : Nat) (imp : Bool) (occ : Option Nat) :
    KeepsFired k s (s.publish j imp occ) := by
  have h8 : j % 8 < 8 := Nat.mod_lt _ (by decide)
  unfold State.publish
  dsimp only
  split
  · exact .setFld s (evgPage_mod j) (.inr (by decide))
  split
  · split
    · exact (KeepsFired.setFld s (evgPage_mod j) (.inl (by decide))).trans
        (.setFld _ (evgPage_mod j) (.inr (by simp only [Reg.Evg.MERGE_COUNT]; omega)))
    · exact (KeepsFired.setFld s (evgPage_mod j) (.inr (by simp only [Reg.Evg.COLLIDE_COUNT]; omega))).trans
        (.raise _ (evgPage_mod j) _)
  · next hbusy =>
    by_cases e : j = k
    · subst e
      exact fun h => absurd h hbusy
    · exact fire_keepsFired s imp occ e

theorem msixSignal_keepsFired {k : Nat} (s : State) (f v : Nat) : KeepsFired k s (s.msixSignal f v) := by
  unfold State.msixSignal
  split
  · exact .of_eq rfl rfl
  · split
    · split <;> exact .of_eq rfl rfl
    · exact .of_eq rfl rfl

theorem deliver_keepsFired {k : Nat} (s : State) (n b : Nat) : KeepsFired k s (s.deliver n b) := by
  have msix : KeepsFired k s (if routeFld (s.route n) Reg.Intc.MSIX_EN = 1 then
      if s.owner b < 64 then s.msixSignal (s.owner b) (routeFld (s.route n) Reg.Intc.VEC)
      else s.inc Base.intc Reg.Intc.MSIX_SUPP_COUNT else s) := by
    split
    · split
      · exact msixSignal_keepsFired _ _ _
      · exact .setFld s (by decide) (.inl (by decide))
    · exact .refl s
  unfold State.deliver
  dsimp only
  split
  · exact msix.trans (publish_keepsFired _ _ _ _)
  · exact msix

theorem carryRoutes_keepsFired {k : Nat} (s : State) (b : Nat) (old new : Word) :
    KeepsFired k s ((pageSources b).foldl (fun s n => if s.asserts n b old new then s.deliver n b else s) s) := by
  refine .foldl _ _ (fun s n => ?_) s
  split
  · exact deliver_keepsFired _ _ _
  · exact .refl s

theorem carryMsix_keepsFired {k : Nat} (s : State) (b : Nat) (old : Word) :
    KeepsFired k s (match pageOf b with
      | some (.fn, f) => if old = 0 then s.msixSignal f 0 else s
      | _ => s) := by
  split
  · split
    · exact msixSignal_keepsFired _ _ _
    · exact .refl s
  · exact .refl s

theorem carryEvch_keepsFired {k : Nat} (s : State) (b : Nat) (old : Word) :
    KeepsFired k s (if old = 0 then match s.irqEvch b with
      | some j => if s.owner b = s.owner (evgPage j) && !s.inDev .cellar then s.publish j else s
      | none => s else s) := by
  split
  · split
    · split
      · exact publish_keepsFired _ _ _ _
      · exact .refl s
    · exact .refl s
  · exact .refl s

theorem carry_keepsFired {k : Nat} (s : State) (e : Nat × Word × Word) : KeepsFired k s (s.carry e) :=
  ((carryRoutes_keepsFired s e.1 e.2.1 e.2.2).trans (carryMsix_keepsFired _ e.1 e.2.1)).trans (carryEvch_keepsFired _ e.1 e.2.1)

theorem settleLoop_keepsFired {k : Nat} (i : Nat) (s : State) : KeepsFired k s (settleLoop i s) := by
  induction i generalizing s with
  | zero => exact .of_eq rfl rfl
  | succ i ih =>
    unfold settleLoop
    split
    · exact .refl s
    · next e es _ =>
      exact (KeepsFired.of_eq (t := { s with edges := es }) rfl rfl).trans ((carry_keepsFired _ _).trans (ih _))

/-- Interrupt delivery does not make a busy channel fire. -/
theorem settle_keepsFired {k : Nat} (s : State) : KeepsFired k s s.settle := by
  have start : KeepsFired k s s.newCycle := .of_eq rfl rfl
  unfold State.settle
  dsimp only
  split
  · exact start
  · exact start.trans ((KeepsFired.of_eq (t := s.newCycle.newWindow) rfl rfl).trans (settleLoop_keepsFired _ _))

/-! ### EVT -/

/-- An idle channel that fires is busy, and has fired once more. -/
theorem fire_fires {k : Nat} (s : State) (imp : Bool) (occ : Option Nat) :
    let t := s.fire k imp occ
    (t.evch k).busy = true ∧ (t.evch k).fires = (s.evch k).fires + 1 ∧
      t.fld (evgPage k) Reg.Evg.FIRE_COUNT (k % 8) = min (s.fld (evgPage k) Reg.Evg.FIRE_COUNT (k % 8) + 1) (2 ^ 32 - 1) := by
  have h8 : k % 8 < 8 := Nat.mod_lt _ (by decide)
  have hpos : Reg.Evg.FIRE_COUNT.off + Reg.Evg.FIRE_COUNT.stride * (k % 8) ≠ 0x010 := by simp only [Reg.Evg.FIRE_COUNT]; omega
  have hrun : Reg.Evg.FIRE_COUNT.off + Reg.Evg.FIRE_COUNT.stride * (k % 8) ≠
      Reg.Evg.LOOP_RUN.off + Reg.Evg.LOOP_RUN.stride * (k % 8) := by simp only [Reg.Evg.FIRE_COUNT, Reg.Evg.LOOP_RUN]; omega
  have hbusy : Reg.Evg.FIRE_COUNT.off + Reg.Evg.FIRE_COUNT.stride * (k % 8) ≠
      Reg.Evg.BUSY.off + Reg.Evg.BUSY.stride * (k % 8) := by simp only [Reg.Evg.FIRE_COUNT, Reg.Evg.BUSY]; omega
  have count (s : State) : (s.inc (evgPage k) Reg.Evg.FIRE_COUNT (k % 8)).fld (evgPage k) Reg.Evg.FIRE_COUNT (k % 8) =
      min (s.fld (evgPage k) Reg.Evg.FIRE_COUNT (k % 8) + 1) (2 ^ 32 - 1) :=
    (State.fld_setFld_same s _ ⟨by decide, by decide⟩ _ _).trans
      (Nat.mod_eq_of_lt (Nat.lt_of_le_of_lt (Nat.min_le_right _ _) (by decide)))
  intro t
  unfold t State.fire
  dsimp only
  refine ⟨?_, ?_, ?_⟩
  · rw [State.evch_raise, apply_ite (fun v : State => (v.evch k).busy), State.evch_raise, State.evch_setFld, State.evch_modEvch, ite_self]
  · rw [State.evch_raise, apply_ite (fun v : State => (v.evch k).fires), State.evch_raise, State.evch_setFld, State.evch_modEvch, ite_self]
    rfl
  · rw [State.fld_raise_page _ hpos, apply_ite (fun v : State => v.fld (evgPage k) Reg.Evg.FIRE_COUNT (k % 8)),
      State.fld_raise_page _ hpos, ite_self, State.fld_setFld_page _ hbusy, State.modEvch_fld, count, State.fld_setFld_page _ hrun]

section
variable {n : Fin 64} {q : LaneFault} {s : State}

theorem laneEvt_publishes (hq : q ≠ .imem) (hb : s.bpAt (256 + n.val) (laneFollow s n) = none) (hi : LaneIssues s n 0x3E) :
    let k := laneAt s n % 256
    let g := Base.evg (k / 8)
    s.owner g = s.owner (Base.lane n) →
      ∃ t, exec (.laneEvt n q) s = .next t ∧ t.fld (Base.lane n) Reg.Lane.PC = laneFollow s n ∧
        t.lane n = { s.lane n with rpt := (s.lane n).rpt - 1 } ∧
        (s.evOff k = true → t.fld g Reg.Evg.DIS_DROP_COUNT = min (s.fld g Reg.Evg.DIS_DROP_COUNT + 1) (2 ^ 16 - 1)) ∧
        (s.evOff k = false → (s.evch k).busy = false → (t.evch k).busy = true ∧ (t.evch k).fires = (s.evch k).fires + 1 ∧
          t.fld g Reg.Evg.FIRE_COUNT (k % 8) = min (s.fld g Reg.Evg.FIRE_COUNT (k % 8) + 1) (2 ^ 32 - 1)) := by
  intro k g hown
  have hk : k < 256 := Nat.mod_lt _ (by decide)
  let u := s.newWindow.publish k
  have hf : Frame 36028797153181824 s.newWindow u := State.publish_frame _ _ _ _ (Frame.refl _ _) (by decide)
  have hlane (m : Nat) : u.lane m = s.lane m := lane_congr (s := s.newWindow) (hf.lanes (by decide)) m
  have hpc : u.reg (Base.lane n + 0x040) = s.reg (Base.lane n + 0x040) :=
    (publish_delivers s.newWindow false none hk).reg _ (Bool.eq_false_iff.2 fun h => lane_not_irq (by decide) (irqWrites_iff.2 h))
  have key : exec (.laneEvt n q) s = .next (u.laneRetire n (laneFollow s n)).settle := by
    show execLaneEvt n q s = _
    unfold execLaneEvt
    exact laneIssue_retires hq hi hb (if_pos hown) ⟨congrArg Reg.Lane.PC.get hpc, hf.dbgs (by decide), _, _, _, hlane n⟩
  have hpage {o : Nat} (ho : o < 0x1000) : g + o ≠ Base.lane n + 0x040 := by
    have := n.isLt
    show Base.evg (k / 8) + o ≠ _
    unfold Base.evg Base.lane
    omega
  have hretire {o : Nat} (ho : o < 0x1000) : (u.laneRetire n (laneFollow s n)).reg (g + o) = u.reg (g + o) :=
    laneRetire_reg u _ (hpage ho)
  refine ⟨_, key, ?_, ?_, fun hoff => ?_, fun hon hidle => ?_⟩
  · rw [lane_fld_settle _ _ (by decide), laneRetire_pc _ _ (laneFollow_lt s n)]
  · rw [lane_settle, laneRetire_lane, hlane]
  · have hu : u = s.newWindow.inc g Reg.Evg.DIS_DROP_COUNT := if_pos hoff
    have he : (u.laneRetire n (laneFollow s n)).edges = [] := by
      show u.edges = []
      rw [hu]
      exact hi.1.1
    rw [State.fld_settle_quiet he]
    refine (congrArg Reg.Evg.DIS_DROP_COUNT.get (hretire (o := 0x0E0) (by decide))).trans ?_
    show u.fld g Reg.Evg.DIS_DROP_COUNT = _
    rw [hu, inc_fld ⟨by decide, by decide⟩]
    rfl
  · have hu : u = s.newWindow.fire k false none := by
      show s.newWindow.publish k = _
      unfold State.publish
      rw [if_neg (by rw [show s.newWindow.evOff k = s.evOff k from rfl, hon]; decide),
        if_neg (by rw [show s.newWindow.evch k = s.evch k from rfl, hidle]; decide)]
    obtain ⟨hbusy, hfires, hcount⟩ := fire_fires (k := k) s.newWindow false none
    rw [← hu] at hbusy hfires hcount
    obtain ⟨kbusy, kfires, kcount⟩ := settle_keepsFired (k := k) (u.laneRetire n (laneFollow s n)) hbusy
    have hkept := hretire (o := 0x0A0 + 4 * (k % 8)) (by omega)
    rw [← Nat.add_assoc] at hkept
    exact ⟨kbusy, kfires.trans hfires, (congrArg Reg.Evg.FIRE_COUNT.get (kcount.trans hkept)).trans hcount⟩

end

/-! ### The enables of a lane -/

/-- An access of lane `n` is over: it has changed the lane, the registers `l` of its page, and the units used. -/
def OnlyLane (s r t : State) (n : Fin 64) (l : List Nat) : Prop :=
  (∀ m, m ≠ n.val → t.lane m = s.lane m) ∧ (∀ a, a ∉ l.map (Base.lane n + ·) → t.reg a = s.reg a) ∧
    t = { s with regs := t.regs, lanes := t.lanes, used := r.used }

/-- The units of channel `k` that are there (R268). -/
def State.laneUnits (s : State) (n k : Nat) : Nat :=
  (s.fld (Base.lane n) Reg.Lane.IWCNT k + 2 ^ 32 - s.fld (Base.lane n) Reg.Lane.ITAKE k) % 2 ^ 32

section
variable {who : Req} {n : Fin 64} {s r : State}

theorem granted_lane (hg : s.granted who .lane n = some r) (m : Nat) : r.lane m = s.lane m :=
  lane_congr (by rw [granted_rest hg]) m

theorem granted_laneMay (hg : s.granted who .lane n = some r) : r.laneMay = s.laneMay := by
  rw [granted_rest hg]
  rfl

/-- Writing registers and the lane makes no edge, so nothing is delivered. -/
theorem onlyLane_of (hq : Settled s) (hg : s.granted who .lane n = some r) {l : List Nat} {u : State}
    (hu : Frame 137438953600 r u) (hm : ∀ m, m ≠ n.val → u.lane m = r.lane m)
    (hreg : ∀ a, a ∉ l.map (Base.lane n + ·) → u.reg a = r.reg a) : u.settle = u ∧ OnlyLane s r u n l := by
  have hc := (granted_charged hg).1
  obtain ⟨hr1, hr2⟩ := charged_settled hq hc
  refine ⟨settle_quiet ((hu.edges (by decide)).trans hr1) ((hu.errNow (by decide)).trans hr2), fun m h => ?_, fun a h => ?_, ?_⟩
  · rw [hm m h, granted_lane hg]
  · rw [hreg a h, granted_reg hg]
  · obtain ⟨U, rfl⟩ : ∃ U, r = { s with used := U } := ⟨_, charged_used hq hc⟩
    exact hu.eq

/-- ENABLE of the page is written, and the lane changed. -/
theorem setEnable_onlyLane (hq : Settled s) (hg : s.granted who .lane n = some r) (v : Bool) (f : LaneSt → LaneSt) :
    let u := (r.setEnable (Base.lane n) v).modLane n f
    u.settle = u ∧ u.enabled (Base.lane n) = v ∧ u.lane n = f (s.lane n) ∧ OnlyLane s r u n [0x008] := by
  have hu : Frame 137438953600 r ((r.setEnable (Base.lane n) v).modLane n f) :=
    State.modLane_frame _ _ _ (State.setEnable_frame _ _ _ (Frame.refl _ _) (by decide)) (by decide)
  obtain ⟨hset, honly⟩ := onlyLane_of (l := [0x008]) hq hg hu
    (fun m h => State.lane_modLane_ne _ _ h) fun a h => State.reg_setFld_ne r fun e => h (by simp [e, Reg.Hdr.ENABLE])
  refine ⟨hset, enabled_setEnable r _ v, ?_, honly⟩
  rw [State.lane_modLane, show (r.setEnable (Base.lane n) v).lane n = r.lane n from rfl, granted_lane hg]

/-- A lane that starts has its page enabled and stands at START_PC (R279). -/
theorem laneStart_page (he : s.enabled (Base.lane n) = false) :
    (s.laneStart n).enabled (Base.lane n) = true ∧
      (s.laneStart n).fld (Base.lane n) Reg.Lane.PC = s.fld (Base.lane n) Reg.Lane.START_PC ∧
      ∀ a, a ≠ Base.lane n + 0x008 → a ≠ Base.lane n + 0x040 → (s.laneStart n).reg a = s.reg a := by
  unfold State.laneStart
  simp only [he, Bool.false_eq_true, if_false]
  refine ⟨?_, ?_, fun a h1 h2 => ?_⟩
  · rw [State.modLane_enabled]
    unfold State.enabled State.bit
    rw [State.fld_setFld_page _ (by decide)]
    exact enabled_setEnable s _ true
  · rw [State.modLane_fld, State.fld_setFld_same _ _ ⟨by decide, by decide⟩]
    exact Nat.mod_eq_of_lt (State.fld_lt s (Base.lane n) Reg.Lane.START_PC 0)
  · rw [State.modLane_reg, State.reg_setFld_ne _ h2]
    exact State.reg_setFld_ne s h1

theorem laneStart_lane (he : s.enabled (Base.lane n) = false) :
    (s.laneStart n).lane n = { s.lane n with issuing := true, norm := false, wait := .none, rpt := 0, stack := [] } ∧
      ∀ m, m ≠ n.val → (s.laneStart n).lane m = s.lane m := by
  unfold State.laneStart
  simp only [he, Bool.false_eq_true, if_false]
  exact ⟨State.lane_modLane .., fun m h => State.lane_modLane_ne _ _ h⟩

theorem laneEnable_starts (hq : Settled s) (hg : s.granted who .lane n = some r) (he : s.enabled (Base.lane n) = false) :
    ∃ t, exec (.laneEnable who n) s = .next t ∧ t.enabled (Base.lane n) = true ∧
      t.fld (Base.lane n) Reg.Lane.PC = s.fld (Base.lane n) Reg.Lane.START_PC ∧
      t.lane n = { s.lane n with issuing := true, norm := false, wait := .none, rpt := 0, stack := [] } ∧
      OnlyLane s r t n [0x008, 0x040] := by
  have her : r.enabled (Base.lane n) = false := by rw [granted_enabled hg]; exact he
  obtain ⟨hen, hpc, hreg⟩ := laneStart_page her
  obtain ⟨hlane, hne⟩ := laneStart_lane her
  have hu : Frame 137438953600 r (r.laneStart n) := State.laneStart_frame _ _ (Frame.refl _ _) (by decide)
  obtain ⟨hset, honly⟩ := onlyLane_of (l := [0x008, 0x040]) hq hg hu hne fun a h =>
    hreg a (fun e => h (by simp [e])) fun e => h (by simp [e])
  have key : exec (.laneEnable who n) s = .next (r.laneStart n).settle := by
    show finish (s.putEnable who (pageBase .lane n)) = _
    rw [putEnable_granted hg (lane_lt n) rfl (by decide) (.inr he)]
    rfl
  rw [hset] at key
  exact ⟨_, key, hen, by rw [hpc, granted_fld hg], by rw [hlane, granted_lane hg], honly⟩

/-- A write of 0 is pending while the lane may go on and does not stand in a WAITI that is not met (R279). -/
theorem laneEnd_pends (he : s.enabled (Base.lane n) = true) (hmay : s.laneMay = true)
    (hmet : ∀ k i, (s.lane n).wait = .waiti k i → i ≤ s.laneUnits n k) :
    s.laneEnd n = (s.setEnable (Base.lane n) false).modLane n fun x => { x with norm := true } := by
  unfold State.laneEnd
  simp only [he, hmay, Bool.not_true, Bool.false_eq_true, if_false, Bool.true_and]
  refine if_pos ?_
  split
  · next c k h => exact decide_eq_true (by exact_mod_cast hmet c k h)
  · rfl

/-- A write of 0 stops a lane that stands in a WAITI that is not met, or where no lane goes on (R279). -/
theorem laneEnd_stops (he : s.enabled (Base.lane n) = true)
    (h : s.laneMay = false ∨ ∃ k i, (s.lane n).wait = .waiti k i ∧ s.laneUnits n k < i) : s.laneEnd n = s.laneStop n := by
  unfold State.laneEnd
  simp only [he, Bool.not_true, Bool.false_eq_true, if_false]
  rcases h with hmay | ⟨k, i, hw, hlt⟩
  · rw [hmay]
    rfl
  · have hunmet : s.laneMet n k i = false := decide_eq_false (by exact_mod_cast Nat.not_le.2 hlt)
    simp only [hw, hunmet, Bool.and_false, Bool.false_eq_true, if_false]

theorem laneNormalDisable_ends (hq : Settled s) (hg : s.granted who .lane n = some r) (he : s.enabled (Base.lane n) = true) :
    ∃ t, exec (.laneNormalDisable who n) s = .next t ∧ t.enabled (Base.lane n) = false ∧ OnlyLane s r t n [0x008] ∧
      (s.laneMay = true → (∀ k i, (s.lane n).wait = .waiti k i → i ≤ s.laneUnits n k) →
        t.lane n = { s.lane n with norm := true }) ∧
      (s.laneMay = false ∨ (∃ k i, (s.lane n).wait = .waiti k i ∧ s.laneUnits n k < i) →
        (t.lane n).issuing = false ∧ (t.lane n).wait = .none ∧ (t.lane n).words = (s.lane n).words) := by
  have her : r.enabled (Base.lane n) = true := by rw [granted_enabled hg]; exact he
  have hunits (k : Nat) : r.laneUnits n k = s.laneUnits n k := by unfold State.laneUnits; rw [granted_fld hg, granted_fld hg]
  have key : exec (.laneNormalDisable who n) s = .next (r.laneEnd n).settle := by
    show finish (s.putDisable who (pageBase .lane n)) = _
    rw [putDisable_granted hg (lane_lt n) rfl (by decide) (.inr he)]
    rfl
  by_cases hgo : s.laneMay = true ∧ ∀ k i, (s.lane n).wait = .waiti k i → i ≤ s.laneUnits n k
  · obtain ⟨hmay, hmet⟩ := hgo
    obtain ⟨hset, hen, hlane, honly⟩ := setEnable_onlyLane hq hg false fun x => { x with norm := true }
    rw [laneEnd_pends her ((granted_laneMay hg).trans hmay) fun k i h => by
      rw [hunits]; exact hmet k i ((congrArg LaneSt.wait (granted_lane hg n)).symm.trans h), hset] at key
    refine ⟨_, key, hen, honly, fun _ _ => hlane, fun h => ?_⟩
    rcases h with h | ⟨k, i, hw, hlt⟩
    · rw [hmay] at h
      cases h
    · exact absurd (hmet k i hw) (Nat.not_le.2 hlt)
  · have hstop : s.laneMay = false ∨ ∃ k i, (s.lane n).wait = .waiti k i ∧ s.laneUnits n k < i := by
      by_contra h
      push Not at h
      exact hgo ⟨Bool.eq_true_of_not_eq_false h.1, h.2⟩
    obtain ⟨hset, hen, hlane, honly⟩ := setEnable_onlyLane hq hg false fun x =>
      { x with issuing := false, norm := false, wait := .none, rpt := 0, haltReq := false, halted := false, stepping := false }
    rw [laneEnd_stops her (by simpa only [granted_laneMay hg, granted_lane hg, hunits] using hstop), State.laneStop, hset] at key
    refine ⟨_, key, hen, honly, fun hmay hmet => absurd ⟨hmay, hmet⟩ hgo, fun _ => ?_⟩
    show LaneSt.issuing (State.lane (State.modLane _ _ _) n) = _ ∧ _
    rw [hlane]
    exact ⟨rfl, rfl, rfl⟩

theorem laneStop_lane (r : State) (n : Nat) :
    (r.laneStop n).lane n = { r.lane n with
      issuing := false, norm := false, wait := .none, rpt := 0, haltReq := false, halted := false, stepping := false } :=
  State.lane_modLane ..

theorem laneStop_lane_ne (r : State) {n m : Nat} (h : m ≠ n) : (r.laneStop n).lane m = r.lane m :=
  State.lane_modLane_ne _ _ h

theorem laneKill_noRecord {r : State} {n : Nat} (h : (r.lane n).words = []) : r.laneKill n = r.laneStop n := by
  unfold State.laneKill
  exact if_pos (by rw [h]; rfl)

/-- A partly filled record is dropped, counted and reported (R279). -/
theorem laneKill_record {r : State} {n : Nat} (h : (r.lane n).words ≠ []) :
    r.laneKill n = (((r.laneStop n).modLane n fun x => { x with words := [] }).addSat (Base.lane n) Reg.Lane.TRUNC_COUNT
      (r.lane n).words.length).raise (Base.lane n) 7 := by
  unfold State.laneKill
  exact if_neg (mt List.eq_nil_of_length_eq_zero h)

theorem laneKill_lane (r : State) (n : Nat) :
    (r.laneKill n).lane n = { r.lane n with
      issuing := false, norm := false, wait := .none, rpt := 0, haltReq := false, halted := false, stepping := false, words := [] } := by
  by_cases h : (r.lane n).words = []
  · rw [laneKill_noRecord h, laneStop_lane, ← h]
  · rw [laneKill_record h, State.lane_raise, State.addSat, State.lane_setFld, State.lane_modLane, laneStop_lane]

theorem laneKill_lane_ne (r : State) {n m : Nat} (hm : m ≠ n) : (r.laneKill n).lane m = r.lane m := by
  by_cases h : (r.lane n).words = []
  · rw [laneKill_noRecord h, laneStop_lane_ne r hm]
  · rw [laneKill_record h, State.lane_raise, State.addSat, State.lane_setFld, State.lane_modLane_ne _ _ hm, laneStop_lane_ne r hm]

theorem laneKill_reg (r : State) {n a : Nat} (h1 : a ≠ Base.lane n + 0x008) (h2 : a ≠ Base.lane n + 0x010)
    (h3 : a ≠ Base.lane n + 0x0A8) : (r.laneKill n).reg a = r.reg a := by
  have hstop : (r.laneStop n).reg a = r.reg a := State.reg_setFld_ne r h1
  by_cases h : (r.lane n).words = []
  · rw [laneKill_noRecord h, hstop]
  · rw [laneKill_record h, State.reg_raise_ne _ h2]
    exact (State.reg_setFld_ne _ h3).trans hstop

theorem laneKill_enabled (r : State) (n : Nat) : (r.laneKill n).enabled (Base.lane n) = false := by
  have hstop : (r.laneStop n).enabled (Base.lane n) = false := enabled_setEnable r _ false
  by_cases h : (r.lane n).words = []
  · rw [laneKill_noRecord h, hstop]
  · rw [laneKill_record h]
    unfold State.enabled State.bit at hstop ⊢
    rw [State.fld_raise_page _ (by decide), State.addSat, State.fld_setFld_page _ (by decide), State.modLane_fld]
    exact hstop

/-- The truncated words are counted (R279). -/
theorem laneKill_truncCount (r : State) (n : Nat) :
    (r.laneKill n).fld (Base.lane n) Reg.Lane.TRUNC_COUNT =
      min (r.fld (Base.lane n) Reg.Lane.TRUNC_COUNT + (r.lane n).words.length) (2 ^ 16 - 1) := by
  have hlt : r.fld (Base.lane n) Reg.Lane.TRUNC_COUNT < 2 ^ 16 := State.fld_lt r _ Reg.Lane.TRUNC_COUNT 0
  have hstop : (r.laneStop n).fld (Base.lane n) Reg.Lane.TRUNC_COUNT = r.fld (Base.lane n) Reg.Lane.TRUNC_COUNT :=
    State.fld_setFld_page r (by decide)
  by_cases h : (r.lane n).words = []
  · rw [laneKill_noRecord h, hstop, h, List.length_nil]
    omega
  · rw [laneKill_record h, State.fld_raise_page _ (by decide), State.addSat, State.fld_setFld_same _ _ ⟨by decide, by decide⟩,
      State.modLane_fld, hstop]
    exact Nat.mod_eq_of_lt (Nat.lt_of_le_of_lt (Nat.min_le_right _ _) (by decide))

theorem laneKill_truncated {r : State} {n : Nat} (h : (r.lane n).words ≠ []) :
    ((r.laneKill n).reg (Base.lane n + 0x010)).getLsbD 7 = true := by
  rw [laneKill_record h]
  exact State.raise_sets _ _ _ (by decide)

theorem laneDisableNow_stops (hg : s.granted who .lane n = some r) :
    let b := Base.lane n
    ∃ t, exec (.laneDisableNow who n) s = .next t ∧ t.enabled b = false ∧ (t.lane n).issuing = false ∧
      (t.lane n).wait = .none ∧ (t.lane n).words = [] ∧ (t.lane n).stack = (s.lane n).stack ∧
      t.fld b Reg.Lane.TRUNC_COUNT = min (s.fld b Reg.Lane.TRUNC_COUNT + (s.lane n).words.length) (2 ^ 16 - 1) ∧
      ((s.lane n).words ≠ [] → (t.reg (b + 0x010)).getLsbD 7 = true) ∧ (∀ m, m ≠ n.val → t.lane m = s.lane m) ∧
      KeepsRegs s t [b + 0x008, b + 0x010, b + 0x0A8] := by
  intro b
  have key : exec (.laneDisableNow who n) s = .next (r.laneKill n).settle := by
    show finish (s.putCtl who (pageBase .lane n) 1) = _
    rw [putKill_granted hg (lane_lt n) rfl (by decide) (by decide)]
    rfl
  have hlane : (r.laneKill n).settle.lane n = _ := (lane_settle _ _).trans (laneKill_lane r n)
  rw [granted_lane hg] at hlane
  refine ⟨_, key, ?_, by rw [hlane], by rw [hlane], by rw [hlane], by rw [hlane], ?_, fun h => ?_, fun m h => ?_, fun a ha hi => ?_⟩
  · rw [lane_enabled_settle, laneKill_enabled]
  · rw [lane_fld_settle _ _ (by decide), laneKill_truncCount, granted_fld hg, granted_lane hg]
  · rw [lane_reg_settle _ _ (by decide)]
    exact laneKill_truncated (by rw [granted_lane hg]; exact h)
  · rw [lane_settle, laneKill_lane_ne _ h, granted_lane hg]
  · simp only [List.mem_cons, List.not_mem_nil, or_false, not_or] at ha
    obtain ⟨h1, h2, h3⟩ := ha
    rw [State.settle_reg_keep _ hi, laneKill_reg r h1 h2 h3, granted_reg hg]

end

/-! ### INPUT_UNIT -/

theorem wrBytes_append (m : List Host.Cell) (a : Nat) (vs ws : List Byte) :
    wrBytes m a (vs ++ ws) = wrBytes (wrBytes m a vs) (a + vs.length) ws := by
  induction vs generalizing m a with
  | nil => rfl
  | cons v vs ih =>
    rw [List.cons_append, List.length_cons, wrBytes, ih, wrBytes, Nat.add_assoc, Nat.add_comm 1]

/-- A number is written as its bytes (R8). -/
theorem wrLE_eq_wrBytes (m : List Host.Cell) (a k v : Nat) : wrLE m a k v = wrBytes m a (leBytes k v) := by
  rw [← bytesLE_eq_leBytes]
  induction k generalizing m a v with
  | zero => rfl
  | succ k ih => exact ih ..

/-- The state with `m` for the contents of BAR2. -/
def State.withBar2 (s : State) (m : List Host.Cell) : State := { s with bar2 := m }

theorem setLaneWord_eq (s : State) (n v : Nat) {a : Nat} (h : a < 65536) :
    s.setLaneWord n a v = s.withBar2 (wrBytes s.bar2 (laneData n + a) (leBytes 4 v)) := by
  rw [← wrLE_eq_wrBytes, State.setLaneWord, Nat.mod_eq_of_lt h]
  rfl

/-- The words of a unit, written one after the other in the data memory of a lane. -/
theorem setLaneWords_eq (s : State) (n b : Nat) (r : Row) (c o k : Nat) {ws : List Nat}
    (h : s.fld b r c + o + 4 * (k + ws.length) ≤ 65536) :
    (ws.zipIdx k).foldl (fun s v => s.setLaneWord n (s.fld b r c + o + 4 * v.2) v.1) s =
      s.withBar2 (wrBytes s.bar2 (laneData n + (s.fld b r c + o + 4 * k)) (ws.flatMap (leBytes 4))) := by
  induction ws generalizing s k with
  | nil => rfl
  | cons w ws ih =>
    rw [List.length_cons] at h
    have hrest := ih (s.withBar2 (wrBytes s.bar2 (laneData n + (s.fld b r c + o + 4 * k)) (leBytes 4 w))) (k + 1)
      (show s.fld b r c + o + 4 * (k + 1 + ws.length) ≤ 65536 by omega)
    rw [List.zipIdx_cons, List.foldl_cons, setLaneWord_eq s n w (by omega), hrest, List.flatMap_cons, wrBytes_append]
    rfl

/-- A unit with stamp `stamp` is written into channel `c` of lane `n` as the bytes `bs` at `a`, and counted. -/
def State.laneStore (s : State) (n c a stamp : Nat) (bs : List Byte) : State :=
  ((s.withBar2 (wrBytes s.bar2 a bs)).setFld (Base.lane n) Reg.Lane.IWCNT
    (s.fld (Base.lane n) Reg.Lane.IWCNT c + 1) c).modLane n fun x =>
      { x with stamps := keepStamp c (s.fld (Base.lane n) Reg.Lane.IWCNT c) stamp x.stamps }

/-- The oldest unit of channel `c` is lost to a newer one (R268). -/
def State.laneOverwrite (s : State) (n c : Nat) : State :=
  (((s.laneTake n c 1).modLane n fun x => { x with overrun := true }).inc (Base.lane n) Reg.Lane.OVR_COUNT).raise (Base.lane n) 1

section
variable (s : State) (n : Nat)

theorem laneStore_lane (c a stamp : Nat) (bs : List Byte) :
    (s.laneStore n c a stamp bs).lane n =
      { s.lane n with stamps := keepStamp c (s.fld (Base.lane n) Reg.Lane.IWCNT c) stamp (s.lane n).stamps } :=
  State.lane_modLane ..

theorem laneStore_lane_ne {m : Nat} (c a stamp : Nat) (bs : List Byte) (h : m ≠ n) :
    (s.laneStore n c a stamp bs).lane m = s.lane m := State.lane_modLane_ne _ _ h

theorem laneStore_reg {c i : Nat} (a stamp : Nat) (bs : List Byte) (h : i ≠ Base.lane n + 0x068 + 16 * c) :
    (s.laneStore n c a stamp bs).reg i = s.reg i :=
  State.reg_setFld_ne (s.withBar2 _) h

theorem laneStore_iwcnt (c a stamp : Nat) (bs : List Byte) :
    (s.laneStore n c a stamp bs).fld (Base.lane n) Reg.Lane.IWCNT c =
      (s.fld (Base.lane n) Reg.Lane.IWCNT c + 1) % 2 ^ 32 :=
  State.fld_setFld_same (s.withBar2 _) _ ⟨by decide, by decide⟩ _ c

theorem laneOverwrite_lane (c : Nat) : (s.laneOverwrite n c).lane n = { s.lane n with overrun := true } := by
  unfold State.laneOverwrite
  rw [State.lane_raise, State.inc, State.addSat, State.lane_setFld, State.lane_modLane]
  rfl

theorem laneOverwrite_lane_ne {m : Nat} (c : Nat) (h : m ≠ n) : (s.laneOverwrite n c).lane m = s.lane m := by
  unfold State.laneOverwrite
  rw [State.lane_raise, State.inc, State.addSat, State.lane_setFld, State.lane_modLane_ne _ _ h]
  rfl

theorem laneOverwrite_reg {c i : Nat} (h1 : i ≠ Base.lane n + 0x010) (h2 : i ≠ Base.lane n + 0x0A0)
    (h3 : i ≠ Base.lane n + 0x06C + 16 * c) : (s.laneOverwrite n c).reg i = s.reg i := by
  unfold State.laneOverwrite
  rw [State.reg_raise_ne _ h1, State.inc, State.addSat, State.reg_setFld_ne _ h2, State.modLane_reg]
  exact State.reg_setFld_ne s h3

theorem laneOverwrite_itake {c : Nat} (hc : c < 4) : (s.laneOverwrite n c).fld (Base.lane n) Reg.Lane.ITAKE c =
    (s.fld (Base.lane n) Reg.Lane.ITAKE c + 1) % 2 ^ 32 := by
  unfold State.laneOverwrite
  rw [State.fld_raise_page _ (by simp only [Reg.Lane.ITAKE]; omega), State.inc, State.addSat,
    State.fld_setFld_page _ (by simp only [Reg.Lane.ITAKE, Reg.Lane.OVR_COUNT]; omega), State.modLane_fld]
  refine (State.fld_setFld_same s _ (r := Reg.Lane.ITAKE) ⟨by decide, by decide⟩ _ c).trans ?_
  rw [show Reg.Lane.ITAKE.width = 32 from rfl]
  unfold unsigned
  omega

theorem laneOverwrite_ovrCount (c : Nat) : (s.laneOverwrite n c).fld (Base.lane n) Reg.Lane.OVR_COUNT =
    min (s.fld (Base.lane n) Reg.Lane.OVR_COUNT + 1) (2 ^ 16 - 1) := by
  have htake : (s.laneTake n c 1).fld (Base.lane n) Reg.Lane.OVR_COUNT = s.fld (Base.lane n) Reg.Lane.OVR_COUNT :=
    State.fld_setFld_page s (by simp only [Reg.Lane.ITAKE, Reg.Lane.OVR_COUNT]; omega)
  unfold State.laneOverwrite
  rw [State.fld_raise_page _ (by decide), inc_fld ⟨by decide, by decide⟩, State.modLane_fld, htake]
  rfl

theorem laneOverwrite_raised (c : Nat) : ((s.laneOverwrite n c).reg (Base.lane n + 0x010)).getLsbD 1 = true :=
  State.raise_sets _ _ _ (by decide)

theorem laneOverwrite_bar2 (c : Nat) : (s.laneOverwrite n c).bar2 = s.bar2 := State.raise_bar2 ..

end

/-- The stamps of other channels are kept. -/
theorem mem_keepStamp {c num stamp : Nat} {l : List (Nat × Nat × Nat)} {e : Nat × Nat × Nat} (he : e ∈ l) (hc : e.1 ≠ c) :
    e ∈ keepStamp c num stamp l :=
  List.mem_cons_of_mem _ (List.mem_filter.2 ⟨he, by rw [bne_iff_ne.2 hc]; rfl⟩)

section
variable {n : Fin 64} {c : Fin 4} {s : State} {u : LaneUnit}

/-- A unit that is offered to channel `c`, whose kind it has and whose region lies in the data memory. -/
structure LaneOffer (n : Fin 64) (c : Fin 4) (s : State) (u : LaneUnit) : Prop where
  head : ((s.lane n).inbox.find? fun e => e.1 == c.val) = some (c.val, u)
  kind : s.fld (Base.lane n) Reg.Lane.KIND c ≠ 0
  size : u.words.length * 4 = unitBytes (s.fld (Base.lane n) Reg.Lane.KIND c)
  room : 0 < s.laneCap n c
  fits : s.fld (Base.lane n) Reg.Lane.IB c + s.fld (Base.lane n) Reg.Lane.IL c ≤ 65536

/-- The place of the next unit of channel `c` (R268). -/
def State.laneSlotAt (s : State) (n c : Nat) : Nat :=
  0x0280_0000 + n * 0x1_0000 + s.fld (Base.lane n) Reg.Lane.IB c +
    s.fld (Base.lane n) Reg.Lane.IWCNT c % s.laneCap n c * unitBytes (s.fld (Base.lane n) Reg.Lane.KIND c)

/-- The state with the unit taken from those offered, and stored. -/
def State.laneAccept (s : State) (n c : Nat) (u : LaneUnit) : State :=
  (s.modLane n fun x => { x with inbox := x.inbox.erase (c, u) }).laneStore n c (s.laneSlotAt n c) u.stamp
    (u.words.flatMap (leBytes 4))

/-- A place of the region ends within it. -/
theorem laneSlot_fits (h : LaneOffer n c s u) :
    s.fld (Base.lane n) Reg.Lane.IB c +
        s.fld (Base.lane n) Reg.Lane.IWCNT c % s.laneCap n c * unitBytes (s.fld (Base.lane n) Reg.Lane.KIND c) +
        4 * (0 + u.words.length) ≤ 65536 := by
  obtain ⟨-, -, hsize, hroom, hfits⟩ := h
  have hlast : (s.fld (Base.lane n) Reg.Lane.IWCNT c % s.laneCap n c + 1) * unitBytes (s.fld (Base.lane n) Reg.Lane.KIND c) ≤
      s.fld (Base.lane n) Reg.Lane.IL c :=
    (Nat.mul_le_mul_right _ (Nat.mod_lt _ hroom)).trans (Nat.div_mul_le_self _ _)
  rw [Nat.add_mul, Nat.one_mul] at hlast
  omega

theorem execLaneInputUnit_stores (h : LaneOffer n c s u) :
    exec (.laneInputUnit n c) s = .next (if s.laneCap n c ≤ s.laneAvail n c then (s.laneAccept n c u).laneOverwrite n c
      else s.laneAccept n c u).settle := by
  have hfit := laneSlot_fits h
  obtain ⟨hhead, hkind, hsize, hroom, -⟩ := h
  have hcap (f : LaneSt → LaneSt) : (s.modLane n f).laneCap n c = s.laneCap n c := rfl
  have havail (f : LaneSt → LaneSt) : (s.modLane n f).laneAvail n c = s.laneAvail n c := rfl
  have haddr : laneData n + (s.fld (Base.lane n) Reg.Lane.IB c +
      s.fld (Base.lane n) Reg.Lane.IWCNT c % s.laneCap n c * unitBytes (s.fld (Base.lane n) Reg.Lane.KIND c) + 4 * 0) =
        s.laneSlotAt n c := by
    unfold laneData State.laneSlotAt
    omega
  have hstored := setLaneWords_eq (s.modLane n fun x => { x with inbox := x.inbox.erase (c.val, u) }) n (Base.lane n) Reg.Lane.IB c
    (s.fld (Base.lane n) Reg.Lane.IWCNT c % s.laneCap n c * unitBytes (s.fld (Base.lane n) Reg.Lane.KIND c)) 0 hfit
  show execLaneInputUnit n c s = _
  unfold execLaneInputUnit
  simp only [hhead]
  rw [if_neg (by simp only [State.modLane_fld]; exact fun h => h.elim (· hsize) hkind)]
  simp only [hcap, havail, hroom.ne', Nat.max_eq_right hroom, State.modLane_fld, if_false, hstored, decide_eq_true_eq, haddr]
  split
  · rfl
  · rfl

/-- The unit is stored at its place, with its stamp, and counted. -/
theorem laneAccept_keeps (s : State) (n : Fin 64) (c : Fin 4) (u : LaneUnit) :
    (∀ m, m ≠ n.val → (s.laneAccept n c u).lane m = s.lane m) ∧
      ∀ a, a ≠ Base.lane n + 0x068 + 16 * c → (s.laneAccept n c u).reg a = s.reg a :=
  ⟨fun _ h => (laneStore_lane_ne _ _ _ _ _ _ h).trans (State.lane_modLane_ne _ _ h), fun _ h => laneStore_reg _ _ _ _ _ h⟩

theorem laneAccept_lane (s : State) (n : Fin 64) (c : Fin 4) (u : LaneUnit) :
    (s.laneAccept n c u).lane n = { s.lane n with
      inbox := (s.lane n).inbox.erase (c.val, u),
      stamps := keepStamp c (s.fld (Base.lane n) Reg.Lane.IWCNT c) u.stamp (s.lane n).stamps } := by
  unfold State.laneAccept
  rw [laneStore_lane, State.lane_modLane, State.modLane_fld]

theorem laneInputUnit_stores (h : LaneOffer n c s u) :
    let b := Base.lane n
    let x := s.lane n
    let wr := s.fld b Reg.Lane.IWCNT c
    let full := decide (s.laneCap n c ≤ s.laneAvail n c)
    ∃ t, exec (.laneInputUnit n c) s = .next t ∧ (t.lane n).inbox = x.inbox.erase (c.val, u) ∧
      BytesPut s.bar2 t.bar2 (s.laneSlotAt n c) (u.words.flatMap (leBytes 4)) ∧
      (t.lane n).stamps = keepStamp c wr u.stamp x.stamps ∧
      t.fld b Reg.Lane.IWCNT c = (wr + 1) % 2 ^ 32 ∧
      t.fld b Reg.Lane.ITAKE c = (s.fld b Reg.Lane.ITAKE c + full.toNat) % 2 ^ 32 ∧
      t.fld b Reg.Lane.OVR_COUNT = min (s.fld b Reg.Lane.OVR_COUNT + full.toNat) (2 ^ 16 - 1) ∧
      (full = true → (t.lane n).overrun = true ∧ (t.reg (b + 0x010)).getLsbD 1 = true) ∧
      (∀ m, m ≠ n.val → t.lane m = s.lane m) ∧
      KeepsRegs s t [b + 0x010, b + 0x068 + 16 * c, b + 0x06C + 16 * c, b + 0x0A0] := by
  intro b x wr full
  have hc := c.isLt
  have key := execLaneInputUnit_stores h
  obtain ⟨hne, hreg⟩ := laneAccept_keeps s n c u
  have hlane := laneAccept_lane s n c u
  have hput : BytesPut s.bar2 (s.laneAccept n c u).bar2 (s.laneSlotAt n c) (u.words.flatMap (leBytes 4)) := bytesPut_wrBytes _ _ _
  have hcount : (s.laneAccept n c u).fld b Reg.Lane.IWCNT c = (wr + 1) % 2 ^ 32 := laneStore_iwcnt _ _ _ _ _ _
  have htake : (s.laneAccept n c u).fld b Reg.Lane.ITAKE c = s.fld b Reg.Lane.ITAKE c :=
    congrArg Reg.Lane.ITAKE.get (hreg _ (by simp only [Reg.Lane.ITAKE]; omega))
  have hovr : (s.laneAccept n c u).fld b Reg.Lane.OVR_COUNT = s.fld b Reg.Lane.OVR_COUNT :=
    congrArg Reg.Lane.OVR_COUNT.get (hreg _ (by simp only [Reg.Lane.OVR_COUNT]; omega))
  generalize s.laneAccept n c u = v at key hne hreg hlane hput hcount htake hovr
  by_cases hfull : s.laneCap n c ≤ s.laneAvail n c
  · rw [if_pos hfull] at key
    have hf : full = true := decide_eq_true hfull
    refine ⟨_, key, ?_, ?_, ?_, ?_, ?_, ?_, fun _ => ⟨?_, ?_⟩, fun m hm => ?_, fun a ha hi => ?_⟩
    · rw [lane_settle, laneOverwrite_lane, hlane]
    · rw [State.settle_bar2, laneOverwrite_bar2]
      exact hput
    · rw [lane_settle, laneOverwrite_lane, hlane]
    · rw [lane_fld_settle _ _ (by simp only [Reg.Lane.IWCNT]; omega), ← hcount]
      exact congrArg Reg.Lane.IWCNT.get (laneOverwrite_reg v n (by simp only [Reg.Lane.IWCNT]; omega)
        (by simp only [Reg.Lane.IWCNT]; omega) (by simp only [Reg.Lane.IWCNT]; omega))
    · rw [lane_fld_settle _ _ (by simp only [Reg.Lane.ITAKE]; omega), laneOverwrite_itake _ _ hc, htake, hf]
      rfl
    · rw [lane_fld_settle _ _ (by decide), laneOverwrite_ovrCount, hovr, hf]
      rfl
    · rw [lane_settle, laneOverwrite_lane]
    · rw [lane_reg_settle _ _ (by decide)]
      exact laneOverwrite_raised v n c
    · rw [lane_settle, laneOverwrite_lane_ne _ _ _ hm, hne m hm]
    · simp only [List.mem_cons, List.not_mem_nil, or_false, not_or] at ha
      obtain ⟨h1, h2, h3, h4⟩ := ha
      rw [State.settle_reg_keep _ hi, laneOverwrite_reg _ _ h1 h4 h3, hreg a h2]
  · rw [if_neg hfull] at key
    have hf : full = false := decide_eq_false hfull
    have htk : s.fld b Reg.Lane.ITAKE c < 2 ^ 32 := State.fld_lt s b Reg.Lane.ITAKE c
    have hov : s.fld b Reg.Lane.OVR_COUNT < 2 ^ 16 := State.fld_lt s b Reg.Lane.OVR_COUNT 0
    refine ⟨_, key, ?_, ?_, ?_, ?_, ?_, ?_, fun h => ?_, fun m hm => ?_, fun a ha hi => ?_⟩
    · rw [lane_settle, hlane]
    · rw [State.settle_bar2]
      exact hput
    · rw [lane_settle, hlane]
    · rw [lane_fld_settle _ _ (by simp only [Reg.Lane.IWCNT]; omega), hcount]
    · rw [lane_fld_settle _ _ (by simp only [Reg.Lane.ITAKE]; omega), htake, hf]
      exact (Nat.mod_eq_of_lt htk).symm
    · rw [lane_fld_settle _ _ (by decide), hovr, hf]
      exact (Nat.min_eq_left (Nat.le_of_lt_succ hov)).symm
    · rw [hf] at h
      cases h
    · rw [lane_settle, hne m hm]
    · simp only [List.mem_cons, List.not_mem_nil, or_false, not_or] at ha
      rw [State.settle_reg_keep _ hi, hreg a ha.2.1]

end

/-! ### Assembly -/

/-- Settles O44: INPUT_UNIT stores the unit at `laneSlotAt`; each instruction ends in `laneRetire` after its own effect; the enables
act on the lane's page after the charge of the access. -/
theorem laneInputsAndOutputs : Obligations.LaneInputsAndOutputs := by
  refine ⟨?_, ?_, ?_⟩
  · intro n c s u b x size cap wr tk held full hhead hkind hsize hroom hfits
    obtain ⟨t, key, hinbox, hput, hstamps, hrest⟩ := laneInputUnit_stores ⟨hhead, hkind, hsize, hroom, hfits⟩
    refine ⟨t, key, hinbox, hput, ?_, fun e he hc => ?_, hrest⟩
    · rw [hstamps]
      rfl
    · rw [hstamps]
      exact mem_keepStamp he hc
  · intro n q s hq hb w b x y c d v stamp avail got tk
    refine ⟨fun hi => ?_, fun e hi => laneStmp_reads hq hb hi, fun hi => laneDec_feeds hq hb hi,
      fun hi hfl hlen => laneOutw_appends hq hb hi hfl hlen, fun hi hfull hlen => laneOutw_hands hq hb hi hfull hlen,
      fun hi => laneEvt_publishes hq hb hi⟩
    obtain ⟨t, key, htake, ⟨hpc, hlane, hne, hreg⟩, hrest⟩ := laneTake_takes hq hb hi
    exact ⟨t, key, htake, hlane, hpc, hne, fun a h1 h2 => hreg a h1 (mt List.mem_singleton.1 h2), hrest⟩
  · intro who n s r hq hg b x units page
    exact ⟨laneEnable_starts hq hg, laneNormalDisable_ends hq hg, laneDisableNow_stops hg⟩

end Sys2Proof.Machine
end

section
/-!
What the timeline's commands write of the pages below the sequencers': the global page, the timeline page and the tiles' pages
(R48); and the lock of a tile.
-/
namespace Sys2Proof.Machine

/-- The registers below the sequencers' pages are the same in both states. -/
def LowKept (s t : State) : Prop := ∀ a, a < 0x0010_0000 → t.reg a = s.reg a

namespace LowKept

section
variable {s t u : State}

theorem refl : LowKept s s := fun _ _ => rfl

theorem trans (h : LowKept s t) (k : LowKept t u) : LowKept s u := fun a ha => (k a ha).trans (h a ha)

theorem of_regs (h : t.regs = s.regs) : LowKept s t := fun a _ => State.reg_congr h a

theorem setFld {b v i : Nat} {r : Row} (hb : 0x0010_0000 ≤ b) (h : LowKept s t) : LowKept s (t.setFld b r v i) :=
  h.trans fun _ ha => State.reg_setFld_ne t (by omega)

theorem raise {b i : Nat} (hb : 0x0010_0000 ≤ b) (h : LowKept s t) : LowKept s (t.raise b i) :=
  h.trans fun _ ha => State.reg_raise_ne t (by omega)

theorem ite {c : Prop} [Decidable c] (h : LowKept s t) (k : LowKept s u) : LowKept s (if c then t else u) := by
  split <;> assumption

theorem foldl {α : Type} {l : List α} {f : State → α → State} (h : LowKept s t) (each : ∀ u x, LowKept u (f u x)) :
    LowKept s (l.foldl f t) := by
  induction l generalizing t with
  | nil => exact h
  | cons x l ih => exact ih (h.trans (each t x))

/-- Delivery of interrupts writes no page below the sequencers'. -/
theorem settle (h : LowKept s t) : LowKept s t.settle :=
  h.trans fun a ha => t.settle_reg_keep (by unfold irqWrites; omega)

theorem fld {b i : Nat} {q : Row} (h : LowKept s t) (hb : b + q.off + q.stride * i < 0x0010_0000) : t.fld b q i = s.fld b q i := by
  unfold State.fld
  rw [h _ hb]

theorem bit {b i : Nat} {q : Row} (h : LowKept s t) (hb : b + q.off + q.stride * i < 0x0010_0000) : t.bit b q i = s.bit b q i := by
  unfold State.bit
  rw [h.fld hb]

end

end LowKept

/-! ### Outputs and ADCs of a tile whose lock changes -/

section
variable {s u : State}

theorem outPhase_low {k : Nat} {p : OutPhase} (h : LowKept s u) : LowKept s (u.outPhase k p) :=
  .setFld (by unfold Base.out; omega) (h.trans (.of_regs rfl))

theorem adcPhase_low {a : Nat} {p : AdcPhase} (h : LowKept s u) : LowKept s (u.adcPhase a p) :=
  .setFld (by unfold Base.adc; omega) (h.trans (.of_regs rfl))

theorem outCells_low (s : State) (k : Nat) : LowKept s (s.outCells k) := by
  have hb : 0x0010_0000 ≤ Base.out k := by unfold Base.out; omega
  have hoff {u : State} (h : LowKept s u) : LowKept s ((u.outPhase k .off).setBit (Base.out k) Reg.Hdr.DISABLE_NOW false) :=
    .setFld hb (outPhase_low h)
  unfold State.outCells
  refine .ite .refl (.ite (.raise hb ?_) ?_) <;> exact hoff (.of_regs rfl)

theorem adcOff_low (s : State) (a : Nat) : LowKept s (s.adcOff a) :=
  .ite .refl (.setFld (by unfold Base.adc; omega) (adcPhase_low (.of_regs rfl)))

theorem adcCells_low (s : State) (a : Nat) : LowKept s (s.adcCells a) :=
  .ite (.raise (by unfold Base.adc; omega) (adcOff_low s a)) (adcOff_low s a)

theorem outEnterReady_low (s : State) (k : Nat) : LowKept s (s.outEnterReady k) := .ite (outPhase_low .refl) .refl

theorem adcEnterReady_low (s : State) (a : Nat) : LowKept s (s.adcEnterReady a) := .ite (adcPhase_low .refl) .refl

end

/-! ### Fields of one bit -/

theorem State.bit_setFld_apart (s : State) {b c : Nat} {r q : Row} (v i j : Nat) (hq : q.fits) (h : r.apart q) :
    (s.setFld b r v i).bit c q j = s.bit c q j := by
  unfold State.bit
  rw [State.fld_setFld_apart s v i j hq h]

theorem State.bit_setFld_page (s : State) {b i j v : Nat} {r q : Row} (h : q.off + q.stride * j ≠ r.off + r.stride * i) :
    (s.setFld b r v i).bit b q j = s.bit b q j := by
  unfold State.bit
  rw [State.fld_setFld_page s h]

theorem State.bit_raise_page (s : State) {b i j : Nat} {q : Row} (h : q.off + q.stride * j ≠ 0x010) :
    (s.raise b i).bit b q j = s.bit b q j := by
  unfold State.bit
  rw [State.fld_raise_page s h]

/-! ### The lock of a tile -/

/-- The tile shows neither lock nor alignment. -/
def TileUnlocked (s : State) (k : Nat) : Prop := s.bit (Base.tile k) Reg.Tile.LOCK = false ∧ s.bit (Base.tile k) Reg.Tile.ALIGNED = false

theorem tile_low {k off : Nat} (hk : k < 8) (ho : off < 0x1000) : Base.tile k + off < 0x0010_0000 := by unfold Base.tile; omega

theorem TileUnlocked.low {s t : State} {k : Nat} (h : TileUnlocked s k) (hk : k < 8) (l : LowKept s t) : TileUnlocked t k :=
  ⟨(l.bit (tile_low hk (by decide))).trans h.1, (l.bit (tile_low hk (by decide))).trans h.2⟩

theorem setLock_lock (s : State) (k : Nat) (on : Bool) : (s.setLock k on).bit (Base.tile k) Reg.Tile.LOCK = on :=
  bit_setBit ⟨by decide, by decide⟩ rfl _ _ _

/-- Of the registers a lock bit is one of TL_STATE and one of the tile's page (R90, R92). -/
theorem setLock_reg (s : State) {k a : Nat} (on : Bool) (h1 : a ≠ Base.tl + 0x058) (h2 : a ≠ Base.tile k + 0x054) :
    (s.setLock k on).reg a = s.reg a :=
  (State.reg_setFld_ne _ h2).trans (State.reg_setFld_ne _ h1)

/-- What unlocking a tile does to the pages below the sequencers'. -/
theorem tileOff_low (s : State) (k : Nat) :
    LowKept ((s.setLock k false).setBit (Base.tile k) Reg.Tile.ALIGNED false) (s.tileOff k) :=
  .foldl (.foldl .refl outCells_low) adcCells_low

theorem tileOff_unlocks (s : State) {k : Nat} (hk : k < 8) : TileUnlocked (s.tileOff k) k := by
  refine TileUnlocked.low ⟨?_, bit_setBit ⟨by decide, by decide⟩ rfl _ _ _⟩ hk (tileOff_low s k)
  unfold State.setBit
  rw [State.bit_setFld_page _ (by decide), setLock_lock]

/-- Unlocking a tile leaves a tile that is unlocked so. -/
theorem TileUnlocked.tileOff {s : State} {j k : Nat} (h : TileUnlocked s j) (hj : j < 8) (hk : k < 8) :
    TileUnlocked (s.tileOff k) j := by
  by_cases e : j = k
  · subst e; exact tileOff_unlocks s hk
  · have hreg {off : Nat} (ho : off < 0x1000) : (s.tileOff k).reg (Base.tile j + off) = s.reg (Base.tile j + off) := by
      rw [tileOff_low s k _ (tile_low hj ho)]
      have hne : ∀ o, o < 0x1000 → Base.tile j + off ≠ Base.tile k + o := fun o _ => by unfold Base.tile; omega
      exact (State.reg_setFld_ne _ (hne _ (by decide))).trans
        (setLock_reg s false (by unfold Base.tile Base.tl; omega) (hne _ (by decide)))
    unfold TileUnlocked State.bit State.fld at h ⊢
    rw [Nat.add_assoc, Nat.add_assoc, hreg (by decide), hreg (by decide), ← Nat.add_assoc, ← Nat.add_assoc]
    exact h

end Sys2Proof.Machine
end

section
/-!
Obligation O8: SYNC edges, and the load of the timeline.
-/
namespace Sys2Proof.Machine

/-! ### A sampled edge -/

section
variable {early late : Bool} {s t u : State}

/-- The edge is counted, and the neighbouring taps are shown (R68, R71). -/
def State.syncSeen (s : State) (early late : Bool) : State :=
  ((s.setFld Base.tl Reg.Tl.EDGES (s.fld Base.tl Reg.Tl.EDGES + 1)).setBit Base.tl Reg.Tl.MARGIN_EARLY early).setBit
    Base.tl Reg.Tl.MARGIN_LATE late

/-- The edge loads the timeline: ARM is set and no load is pending (R69). -/
def State.syncFree (s : State) : Bool := s.bit Base.tl Reg.Tl.ARM && s.loadIn.isNone

/-- The edge comes at a wrong count (R71). -/
def State.syncSlips (s : State) : Bool :=
  s.bit Base.tl Reg.Tl.CHECK && s.bit Base.tl Reg.Tl.LOADED && s.countIn16 % 2 ^ (16 + s.fld Base.tl Reg.Tl.SYNC_PER) != 0

/-- `t` shows the edge, and of the registers only SYNC_STAT and IRQ_STAT of the timeline page differ. -/
structure SyncShown (early late : Bool) (s t : State) : Prop where
  edges : t.fld Base.tl Reg.Tl.EDGES = (s.fld Base.tl Reg.Tl.EDGES + 1) % 256
  early : t.bit Base.tl Reg.Tl.MARGIN_EARLY = early
  late : t.bit Base.tl Reg.Tl.MARGIN_LATE = late
  regs : PageRegs Base.tl [0x010, 0x054] s t

theorem syncSeen_shown : SyncShown early late s (s.syncSeen early late) where
  edges := by
    unfold State.syncSeen State.setBit
    rw [State.fld_setFld_apart _ _ _ _ ⟨by decide, by decide⟩ (.inl (by decide)),
      State.fld_setFld_apart _ _ _ _ ⟨by decide, by decide⟩ (.inl (by decide)), State.fld_setFld_same _ _ ⟨by decide, by decide⟩]
    rfl
  early := (State.bit_setFld_apart _ _ _ _ ⟨by decide, by decide⟩ (.inr (by decide))).trans
    (bit_setBit ⟨by decide, by decide⟩ rfl _ _ _)
  late := bit_setBit ⟨by decide, by decide⟩ rfl _ _ _
  regs := ((PageRegs.refl.setFld (by decide)).setFld (by decide)).setFld (by decide)

/-- The fields of SYNC_STAT that an edge does not write. -/
theorem syncSeen_bit {q : Row} (hq : q.fits) (h : q.hi < 4) : (s.syncSeen early late).bit Base.tl q = s.bit Base.tl q := by
  unfold State.syncSeen
  refine (State.bit_setFld_apart _ _ _ _ hq (.inr ?_)).trans ((State.bit_setFld_apart _ _ _ _ hq (.inr ?_)).trans
    (State.bit_setFld_apart _ _ _ _ hq (.inr ?_)))
  all_goals
    simp only [Reg.Tl.MARGIN_LATE, Reg.Tl.MARGIN_EARLY, Reg.Tl.EDGES]
    omega

theorem SyncShown.keep (h : SyncShown early late s t) (k : u.regs = t.regs) : SyncShown early late s u where
  edges := (State.fld_congr k ..).trans h.edges
  early := by unfold State.bit; rw [State.fld_congr k]; exact h.early
  late := by unfold State.bit; rw [State.fld_congr k]; exact h.late
  regs := h.regs.keep k

theorem SyncShown.slip (h : SyncShown early late s t) :
    SyncShown early late s ((t.setBit Base.tl Reg.Tl.SLIP true).raise Base.tl 1) where
  edges := by
    rw [State.fld_raise_page _ (by decide)]
    exact (State.fld_setFld_apart _ _ _ _ ⟨by decide, by decide⟩ (.inl (by decide))).trans h.edges
  early := by
    rw [State.bit_raise_page _ (by decide)]
    exact (State.bit_setFld_apart _ _ _ _ ⟨by decide, by decide⟩ (.inl (by decide))).trans h.early
  late := by
    rw [State.bit_raise_page _ (by decide)]
    exact (State.bit_setFld_apart _ _ _ _ ⟨by decide, by decide⟩ (.inl (by decide))).trans h.late
  regs := (h.regs.setFld (by decide)).raise (by decide)

/-- An edge that ends in `t` shows in the state that follows, and changes nothing but what an edge may. -/
theorem SyncShown.ends (h : SyncShown early late s t) (he : exec (.syncEdge early late) s = .next t.settle) :
    t.settle.fld Base.tl Reg.Tl.EDGES = (s.fld Base.tl Reg.Tl.EDGES + 1) % 256 ∧
      t.settle.bit Base.tl Reg.Tl.MARGIN_EARLY = early ∧ t.settle.bit Base.tl Reg.Tl.MARGIN_LATE = late ∧
      KeepsRegs s t.settle [Base.tl + 0x010, Base.tl + 0x054] ∧ OnlySync s t.settle := by
  have low : LowKept t t.settle := .settle .refl
  exact ⟨(low.fld (by decide)).trans h.edges, (low.bit (by decide)).trans h.early, (low.bit (by decide)).trans h.late,
    h.regs.keepsRegs, ((execSyncEdge_frame early late s).frame _ he).eq⟩

/-- The edge, where SYNC is sampled: it loads, slips, or only shows. -/
theorem execSyncEdge_alive (hr : s.refLost = false) (hoff : s.inDev .off = false) (hpor : s.power.por = false) :
    exec (.syncEdge early late) s =
      let u := s.syncSeen early late
      if u.syncFree then finish { u with loadIn := some (16, u.tlEpoch) }
      else if u.syncSlips then finish ((u.setBit Base.tl Reg.Tl.SLIP true).raise Base.tl 1)
      else finish u := by
  show execSyncEdge early late s = _
  unfold execSyncEdge
  rw [if_neg (by simp [State.syncAlive, hr, hoff, hpor])]
  rfl

/-- What the edge turns on is read in words that it does not write, or in bits that it leaves. -/
theorem syncSeen_free : (s.syncSeen early late).syncFree = s.syncFree := by
  unfold State.syncFree State.bit
  rw [syncSeen_shown.regs.fld (by decide)]
  rfl

theorem syncSeen_slips : (s.syncSeen early late).syncSlips = s.syncSlips := by
  unfold State.syncSlips
  rw [syncSeen_bit (q := Reg.Tl.LOADED) ⟨by decide, by decide⟩ (by decide)]
  unfold State.bit
  rw [syncSeen_shown.regs.fld (q := Reg.Tl.CHECK) (by decide), syncSeen_shown.regs.fld (q := Reg.Tl.SYNC_PER) (by decide)]
  rfl

theorem syncSeen_epoch : (s.syncSeen early late).tlEpoch = s.tlEpoch := by
  unfold State.tlEpoch
  rw [syncSeen_shown.regs.fld (by decide), syncSeen_shown.regs.fld (by decide)]

/-! ### The load -/

/-- The count takes the epoch; what was carried out at boundaries of the old count is forgotten (R69). -/
def State.epochTaken (s : State) (e : Nat) : State :=
  { s with loadIn := none, count := e, frameAt := none, epochAt := none, cal := { s.cal with ripeAt := none }
           nt := { s.nt with hist := [] } }

/-- The edges of flux channels at the old count are forgotten. -/
def State.fluxEdgesDropped (s : State) : State :=
  (s.fluxes.map Prod.fst).foldl (fun s n => s.modFlux n fun x => { x with edgeAt := none }) s

/-- The timeline is loaded and runs (R69). -/
def State.timelineRuns (s : State) : State :=
  (((s.setBit Base.tl Reg.Tl.LOADED true).setBit Base.tl Reg.Tl.RUN true).setBit Base.tl Reg.Tl.ARM false).raise Base.tl 0

theorem execTimelineLoad_due {e : Nat} (h : s.loadIn = some (0, e)) :
    exec .timelineLoad s = .next (s.epochTaken e).fluxEdgesDropped.timelineRuns.settle := by
  show execTimelineLoad s = _
  unfold execTimelineLoad
  rw [h]
  rfl

theorem execTimelineLoad_early {k e : Nat} (h : s.loadIn = some (k + 1, e)) : exec .timelineLoad s = .next s := by
  show execTimelineLoad s = _
  unfold execTimelineLoad
  rw [h]
  rfl

theorem fluxEdgesDropped_frame (s : State) : Frame 70368744177664 s s.fluxEdgesDropped :=
  .foldl (.refl _ _) fun _ _ => State.modFlux_frame _ _ _ (.refl _ _) (by decide)

theorem timelineRuns_frame (s : State) : Frame 36028797018964096 s s.timelineRuns :=
  State.raise_frame _ _ _ (State.setBit_frame _ _ _ _ _ (State.setBit_frame _ _ _ _ _ (State.setBit_frame _ _ _ _ _ (.refl _ _)
    (by decide)) (by decide)) (by decide)) (by decide)

/-- The fields that a load changes beside those that it sets, as the bits of a frame. -/
abbrev loadBits : Nat := 108156760473600128

theorem timelineLoad_frame (s : State) (e : Nat) : Frame loadBits (s.epochTaken e) (s.epochTaken e).fluxEdgesDropped.timelineRuns.settle :=
  (((fluxEdgesDropped_frame _).mono (by decide)).trans ((timelineRuns_frame _).mono (by decide))).trans
    ((settle_frame _).mono (by decide))

theorem timelineRuns_page (s : State) : PageRegs Base.tl [0x010, 0x050, 0x054, 0x058] s s.timelineRuns :=
  (((PageRegs.refl.setFld (by decide)).setFld (by decide)).setFld (by decide)).raise (by decide)

theorem timelineRuns_shown (s : State) :
    s.timelineRuns.bit Base.tl Reg.Tl.LOADED = true ∧ s.timelineRuns.bit Base.tl Reg.Tl.RUN = true ∧
      s.timelineRuns.bit Base.tl Reg.Tl.ARM = false := by
  unfold State.timelineRuns
  rw [State.bit_raise_page _ (by decide), State.bit_raise_page _ (by decide), State.bit_raise_page _ (by decide)]
  refine ⟨?_, ?_, bit_setBit ⟨by decide, by decide⟩ rfl _ _ _⟩
  · exact (State.bit_setFld_page _ (by decide)).trans ((State.bit_setFld_page _ (by decide)).trans
      (bit_setBit ⟨by decide, by decide⟩ rfl _ _ _))
  · exact (State.bit_setFld_page _ (by decide)).trans (bit_setBit ⟨by decide, by decide⟩ rfl _ _ _)

/-- What an edge does to a load and to SLIP: it loads where it is free to, and else only checks (R69, R71). -/
theorem execSyncEdge_ends (early late : Bool) (hr : s.refLost = false) (hoff : s.inDev .off = false) (hpor : s.power.por = false) :
    ∃ v, exec (.syncEdge early late) s = .next v.settle ∧ SyncShown early late s v ∧
      (s.syncFree = true → v.loadIn = some (16, s.tlEpoch) ∧ v.bit Base.tl Reg.Tl.SLIP = s.bit Base.tl Reg.Tl.SLIP) ∧
      (s.syncFree = false → v.loadIn = s.loadIn ∧
        v.bit Base.tl Reg.Tl.SLIP = (s.bit Base.tl Reg.Tl.SLIP || s.syncSlips)) := by
  have hslip : (s.syncSeen early late).bit Base.tl Reg.Tl.SLIP = s.bit Base.tl Reg.Tl.SLIP :=
    syncSeen_bit ⟨by decide, by decide⟩ (by decide)
  rw [execSyncEdge_alive hr hoff hpor]
  simp only [syncSeen_free, syncSeen_slips, syncSeen_epoch]
  cases hfree : s.syncFree with
  | true => exact ⟨_, rfl, syncSeen_shown.keep rfl, fun _ => ⟨rfl, hslip⟩, fun h => absurd h (by decide)⟩
  | false =>
    cases hs : s.syncSlips with
    | true =>
      refine ⟨_, rfl, syncSeen_shown.slip, fun h => absurd h (by decide), fun _ => ⟨State.raise_loadIn .., ?_⟩⟩
      rw [Bool.or_true, State.bit_raise_page _ (by decide)]
      exact bit_setBit ⟨by decide, by decide⟩ rfl _ _ _
    | false => exact ⟨_, rfl, syncSeen_shown, fun h => absurd h (by decide), fun _ => ⟨rfl, by rw [hslip, Bool.or_false]⟩⟩

end

/-- Settles O8: an edge shows itself, and then loads or checks; a load that is due sets the count and the flags, and nothing else
writes the timeline page. -/
theorem syncEdgesAndLoad : Obligations.SyncEdgesAndLoad := by
  unfold Obligations.SyncEdgesAndLoad
  refine ⟨fun early late s hr hoff hpor => ?_, fun early late s h => ?_, fun e s h => ?_, fun k e s h => execTimelineLoad_early h⟩
  · intro b then16 free bad
    obtain ⟨v, he, hv, hfree, hheld⟩ := execSyncEdge_ends early late hr hoff hpor
    have hslip : v.settle.bit b Reg.Tl.SLIP = v.bit b Reg.Tl.SLIP := (LowKept.settle .refl).bit (by decide)
    obtain ⟨hedges, hearly, hlate, hregs, honly⟩ := hv.ends he
    refine ⟨_, he, hedges, hearly, hlate, fun h => ?_, fun h => ?_, hregs, honly⟩ <;> rw [State.settle_loadIn, hslip]
    · exact hfree h
    · exact hheld h
  · show execSyncEdge early late s = _
    unfold execSyncEdge
    rw [if_pos]
    rcases h with h | h | h <;> simp [State.syncAlive, h]
  · intro b
    have f := timelineLoad_frame s e
    obtain ⟨hloaded, hrun, harm⟩ := timelineRuns_shown (s.epochTaken e).fluxEdgesDropped
    have low : LowKept (s.epochTaken e).fluxEdgesDropped.timelineRuns _ := .settle .refl
    have page : PageRegs b [0x010, 0x050, 0x054, 0x058] s (s.epochTaken e).fluxEdgesDropped.timelineRuns :=
      (PageRegs.of_regs ((fluxEdgesDropped_frame (s.epochTaken e)).regs (by decide))).trans (timelineRuns_page _)
    exact ⟨_, execTimelineLoad_due h, f.count (by decide), f.loadIn (by decide), (low.bit (by decide)).trans hloaded,
      (low.bit (by decide)).trans hrun, (low.bit (by decide)).trans harm, page.keepsRegs, f.eq⟩

end Sys2Proof.Machine
end

section
/-!
Obligation O9: ARM, reads of TL_NOW, SNAP and writes of TILE_EN.
-/
namespace Sys2Proof.Machine

section
variable {s r t : State} {who : Req} {w : Word}

/-! ### What a granted access leaves -/

/-- An access that writes registers, captures or a response, and makes no interrupt edge. -/
theorem granted_responds (hq : Settled s) (hg : s.granted who .tl 0 = some r) (f : Frame 216172782113783936 r t) :
    t.settle = { s with regs := t.regs, used := r.used, respVal := t.respVal } := by
  have hc := (granted_charged hg).1
  rw [settle_newCycle ((f.edges (by decide)).trans (charged_settled hq hc).1)]
  obtain ⟨A, B, C, rfl⟩ : ∃ A B C, t = { r with regs := A, errNow := B, respVal := C } := ⟨_, _, _, f.eq⟩
  obtain ⟨U, rfl⟩ : ∃ U, r = { s with used := U } := ⟨_, charged_used hq hc⟩
  show ({ s with used := U, regs := A, errNow := [], respVal := C } : State) = _
  rw [← hq.2]

theorem granted_writes (hq : Settled s) (hg : s.granted who .tl 0 = some r) (f : Frame 72057594037928064 r t) :
    t.settle = { s with regs := t.regs, used := r.used } := by
  have hresp : t.respVal = s.respVal := (f.respVal (by decide)).trans (by rw [granted_rest hg])
  rw [granted_responds hq hg (f.mono (by decide)), hresp]

/-- What the access wrote reads after it as it was written. -/
theorem granted_settle_reg (hq : Settled s) (hg : s.granted who .tl 0 = some r) (f : Frame 216172782113783936 r t) (a : Nat) :
    t.settle.reg a = t.reg a :=
  State.reg_settle_quiet ((f.edges (by decide)).trans (charged_settled hq (granted_charged hg).1).1) a

/-! ### The accesses -/

theorem granted_inDev (h : s.granted who .tl 0 = some r) (d : Dev) : r.inDev d = s.inDev d := by
  unfold State.inDev
  rw [granted_fld h]

/-- The word that a write of SYNC_CTL stores: ARM is not stored as it is written (R72, R90). -/
theorem plainWord_syncCtl (lock : Bool) (old data : Word) :
    plainWord .tl 0x050 lock old data 0xFFFF_FFFF#32 = mergeWord old data 0xFF2#32 := by
  have hrows : rowsAt .tl 0x050 = [Reg.Tl.SYNC_DLY, Reg.Tl.SYNC_PER, Reg.Tl.CHECK, Reg.Tl.ARM] := by decide
  have hs (w : Word) : storeMask .tl 0x050 lock old w = 0xFF2#32 := by
    have hp (w : Word) : pairKeeps .tl 0x050 w = 0#32 := rfl
    have ha (r : Row) : rowAccepts .tl r w = true := rfl
    have hshut : shutEnBit .tl 0x050 = 0#32 := by decide
    unfold storeMask
    simp only [hrows, hp, ha, hshut, List.foldl_cons, List.foldl_nil]
    cases lock <;> rfl
  have hc : clearMask .tl 0x050 = 0#32 := by decide
  unfold plainWord
  simp only [hs, hc, BitVec.and_zero, BitVec.not_zero, show (0xFFFF_FFFF#32 : Word) = BitVec.allOnes 32 from rfl, BitVec.and_allOnes,
    BitVec.allOnes_and]

/-- ARM in the word of a command does not reach the word stored. -/
theorem mergeWord_syncCtl (old w : Word) : mergeWord old (withBit w 0) 0xFF2#32 = mergeWord old w 0xFF2#32 := by
  have hbit : (withBit w 0) &&& 0xFF2#32 = w &&& 0xFF2#32 := by
    apply BitVec.eq_of_getLsbD_eq
    intro i _
    by_cases h0 : i = 0
    · subst h0; simp
    · simp [withBit, h0]
  unfold mergeWord
  rw [hbit]

/-- The setting fields of SYNC_CTL are stored (R72). -/
def State.syncCtlPut (s : State) (w : Word) : State :=
  s.setReg (Base.tl + 0x050) (mergeWord (s.reg (Base.tl + 0x050)) w 0xFF2#32)

theorem execArm_granted (hg : s.granted who .tl 0 = some r) : exec (.arm who w) s = .next (r.syncCtlPut w).armSync.settle := by
  have hput : r.blockWrite who .tl 0 0x050 0xFFFF_FFFF#32 (withBit w 0) = (r.syncCtlPut w).armSync := by
    have harm : ((withBit w 0) &&& 0xFFFF_FFFF#32).getLsbD 0 = true := by
      simp [withBit]
    have hplain : r.plainWrite .tl 0 0x050 0xFFFF_FFFF#32 (withBit w 0) = r.syncCtlPut w := by
      unfold State.plainWrite
      simp only [plainWord_syncCtl, mergeWord_syncCtl]
      rfl
    show State.after (r.plainWrite .tl 0 0x050 0xFFFF_FFFF#32 (withBit w 0)) who .tl 0 0x050
      (r.reg (Base.tl + 0x050)) (withBit w 0 &&& 0xFFFF_FFFF#32) 0xFFFF_FFFF#32 = _
    rw [hplain]
    exact if_pos ⟨rfl, harm⟩
  show finish (s.busPut who (pageBase .tl 0 + 0x050) (withBit w 0)) = _
  rw [busPut_granted hg (by decide) (by decide) (by decide), pageWrite_block hg (by decide) (by decide), hput]
  rfl

theorem execTlNowRead_granted (hg : s.granted who .tl 0 = some r) : exec (.tlNowRead who) s = .next r.tlNowGet.settle := by
  show finish (s.busGet who (pageBase .tl 0 + 0x040)) = _
  rw [busGet_granted hg (by decide) (by decide) (by decide)]
  rfl

theorem execSnap_granted (hg : s.granted who .tl 0 = some r) : exec (.snap who) s = .next r.snapGo.settle := by
  show finish (s.putByte who (pageBase .tl 0 + 0x008) 4) = _
  rw [putByte_ctl hg (by decide)]
  rfl

theorem execTileEnWrite_granted (hg : s.granted who .tl 0 = some r) :
    exec (.tileEnWrite who w) s = .next (r.tileEnPut (w.toNat % 256)).settle := by
  have hput : r.blockWrite who .tl 0 0x05C 0xFFFF_FFFF#32 w = r.tileEnPut (w.toNat % 256) := by
    show r.tileEnPut ((mergeWord _ w 0xFFFF_FFFF#32).toNat % 256) = _
    rw [mergeWord_whole]
  show finish (s.busPut who (pageBase .tl 0 + 0x05C) w) = _
  rw [busPut_granted hg (by decide) (by decide) (by decide), pageWrite_block hg (by decide) (by decide), hput]
  rfl

/-! ### ARM -/

theorem syncCtlPut_reg (r : State) (w : Word) :
    (r.syncCtlPut w).reg (Base.tl + 0x050) = mergeWord (r.reg (Base.tl + 0x050)) w 0xFF2#32 := State.reg_setReg_same ..

/-- A setting field reads as written. -/
theorem syncCtlPut_fld {q : Row} (hq : q.off + q.stride * 0 = 0x050) (hfits : q.fits) (hm : q.mask &&& 0xFF2#32 = q.mask) :
    (r.syncCtlPut w).fld Base.tl q = q.get w := by
  unfold State.fld
  rw [Nat.add_assoc, hq, syncCtlPut_reg, Row.get_mergeWord hfits hm]

theorem syncCtlPut_arm (r : State) (w : Word) : (r.syncCtlPut w).bit Base.tl Reg.Tl.ARM = r.bit Base.tl Reg.Tl.ARM := by
  refine congrArg (· != 0) ?_
  rw [State.fld_of_reg (r := Reg.Tl.ARM) (syncCtlPut_reg r w), Row.get_mergeWord_out ⟨by decide, by decide⟩ (by decide)]
  rfl

/-- ARM or its refusal leaves the setting fields. -/
theorem armSync_fld (u : State) {q : Row} (hq : q.off + q.stride * 0 = 0x050) (hfits : q.fits) (hlo : 0 < q.lo) :
    u.armSync.fld Base.tl q = u.fld Base.tl q := by
  unfold State.armSync
  split
  · exact State.fld_err_page _ (by omega)
  · exact State.fld_setFld_apart _ _ _ _ hfits (.inl hlo)

theorem armPut_frame (r : State) (w : Word) : Frame 72057594037928064 r (r.syncCtlPut w).armSync :=
  State.armSync_frame _ (State.setReg_frame _ _ _ (.refl _ _) (by decide)) (by decide)

theorem syncCtlPut_page (r : State) (w : Word) : PageRegs Base.tl [0x050] r (r.syncCtlPut w) :=
  .of_one (List.mem_singleton.2 rfl) fun _ h => State.reg_setReg_ne r _ h

theorem syncCtlPut_running (r : State) (w : Word) : (r.syncCtlPut w).running = r.running :=
  congrArg (· == Dev.running.code) (congrArg Reg.Pwr.STATE.get (syncCtlPut_page r w _ (by decide)))

theorem armSync_free {u : State} (h : u.running = false) : u.armSync = u.setBit Base.tl Reg.Tl.ARM true := by
  unfold State.armSync
  rw [if_neg (by simp [h])]

theorem armSync_running {u : State} (h : u.running = true) : u.armSync = u.err Base.tl 0x11 0 := by
  unfold State.armSync
  rw [if_pos h]

/-- ARM in Running keeps its value, and the refusal is captured (R72). -/
theorem armPut_refused {r : State} (w : Word) (h : r.running = true) :
    (r.syncCtlPut w).armSync.bit Base.tl Reg.Tl.ARM = r.bit Base.tl Reg.Tl.ARM ∧
      (r.bit Base.tl Reg.Hdr.VALID = false → (r.syncCtlPut w).armSync.fld Base.tl Reg.Hdr.CODE = 0x11 ∧
        (r.syncCtlPut w).armSync.fld Base.tl Reg.Hdr.INFO = 0) ∧
      PageRegs Base.tl [0x050, 0x01C] r (r.syncCtlPut w).armSync := by
  rw [armSync_running ((syncCtlPut_running r w).trans h)]
  refine ⟨?_, fun hv => ?_, ((syncCtlPut_page r w).mono (by decide)).err (by decide)⟩
  · exact (congrArg (· != 0) (State.fld_err_page _ (by decide))).trans (syncCtlPut_arm r w)
  · have hfree : (r.syncCtlPut w).bit Base.tl Reg.Hdr.VALID = false :=
      (congrArg (· != 0) ((syncCtlPut_page r w).fld (by decide))).trans hv
    obtain ⟨hcode, hinfo, _⟩ := State.err_captures (k := 0x11) (d := 0) _ hfree
    exact ⟨hcode, hinfo⟩

/-- Else it is set (R72). -/
theorem armPut_sets {r : State} (w : Word) (h : r.running = false) :
    (r.syncCtlPut w).armSync.bit Base.tl Reg.Tl.ARM = true ∧ PageRegs Base.tl [0x050] r (r.syncCtlPut w).armSync := by
  rw [armSync_free ((syncCtlPut_running r w).trans h)]
  exact ⟨bit_setBit ⟨by decide, by decide⟩ rfl _ _ _, (syncCtlPut_page r w).setFld (by decide)⟩

/-! ### SNAP -/

theorem snapGo_page (r : State) : PageRegs Base.tl [0x060, 0x064, 0x068, 0x06C] r r.snapGo :=
  (((PageRegs.refl.setFld (by decide)).setFld (by decide)).setFld (by decide)).setFld (by decide)

theorem snapGo_shown (r : State) :
    r.snapGo.fld64 Base.tl Reg.Tl.LATCH_TC_LO Reg.Tl.LATCH_TC_HI = r.latch.1 % 2 ^ 64 ∧
      r.snapGo.fld Base.tl Reg.Tl.LATCH_NT_NS = r.latch.2.1 % 2 ^ 32 ∧
      r.snapGo.fld Base.tl Reg.Tl.LATCH_NT_FRAC = r.latch.2.2 % 2 ^ 32 := by
  unfold State.snapGo State.setFld64 State.fld64
  refine ⟨?_, ?_, State.fld_setFld_same _ _ ⟨by decide, by decide⟩ _ _⟩
  · rw [State.fld_setFld_page _ (by decide), State.fld_setFld_page _ (by decide), State.fld_setFld_page _ (by decide),
      State.fld_setFld_same _ _ ⟨by decide, by decide⟩, State.fld_setFld_page _ (by decide), State.fld_setFld_page _ (by decide),
      State.fld_setFld_same _ _ ⟨by decide, by decide⟩]
    simp only [Row.width, Reg.Tl.LATCH_TC_LO, Reg.Tl.LATCH_TC_HI]
    omega
  · exact (State.fld_setFld_page _ (by decide)).trans (State.fld_setFld_same _ _ ⟨by decide, by decide⟩ _ _)

theorem LowKept.fld64 {b : Nat} {lo hi : Row} (h : LowKept s t) (hl : b + lo.off + lo.stride * 0 < 0x0010_0000)
    (hh : b + hi.off + hi.stride * 0 < 0x0010_0000) : t.fld64 b lo hi = s.fld64 b lo hi := by
  unfold State.fld64
  rw [h.fld hl, h.fld hh]

/-! ### TILE_EN while the tiles rise -/

/-- The tiles that a new TILE_EN leaves out are unlocked (R79). -/
def State.tilesLeftOut (s : State) (v : Nat) : State := forN 8 (fun t s => if v.testBit t then s else s.tileOff t) s

theorem tileEnPut_configured (v : Nat) (h : s.inDev .configured = true) :
    s.tileEnPut v = if s.power.trans.any fun x => x.dest == 4 then (s.setFld Base.tl Reg.Tl.TILE_EN v).tilesUp.tilesLeftOut v
      else s.setFld Base.tl Reg.Tl.TILE_EN v := by
  have hdev : (s.setFld Base.tl Reg.Tl.TILE_EN v).inDev .configured = true := by
    rw [← h]
    exact congrArg (· == Dev.configured.code) (State.fld_setFld_ne s (by decide))
  unfold State.tileEnPut State.tilesRising
  rw [if_pos h]
  simp only [hdev, Bool.true_and]
  rfl

theorem forN_tileOff_unlocks (v : Nat) {j k : Nat} (hk : k < 8) (hv : v.testBit k = false) (hj : k < j) (h8 : j ≤ 8) :
    TileUnlocked (forN j (fun t s => if v.testBit t then s else s.tileOff t) s) k := by
  induction j with
  | zero => omega
  | succ j ih =>
    show TileUnlocked (if v.testBit j then _ else State.tileOff _ j) k
    by_cases e : j = k
    · subst e
      rw [if_neg (by simp [hv])]
      exact tileOff_unlocks _ hk
    · have before := ih (by omega) (by omega)
      split
      · exact before
      · exact before.tileOff hk (by omega)

theorem tilesLeftOut_reg (v : Nat) {off : Nat} (ho : off < 0x1000) (hs : off ≠ 0x058) :
    (s.tilesLeftOut v).reg (Base.tl + off) = s.reg (Base.tl + off) := by
  have hoff (u : State) (t : Nat) : (u.tileOff t).reg (Base.tl + off) = u.reg (Base.tl + off) := by
    have hne (o : Nat) : Base.tl + off ≠ Base.tile t + o := by unfold Base.tl Base.tile; omega
    rw [tileOff_low u t _ (by unfold Base.tl; omega)]
    exact (State.reg_setFld_ne _ (hne _)).trans (setLock_reg u false (by omega) (hne _))
  unfold State.tilesLeftOut
  induction 8 with
  | zero => rfl
  | succ j ih =>
    refine Eq.trans ?_ ih
    show (if v.testBit j then _ else State.tileOff _ j).reg _ = _
    split
    · rfl
    · exact hoff _ j

theorem tilesRise_reg (v : Nat) {off : Nat} (ho : off < 0x1000) (hs : off ≠ 0x058) :
    (s.tilesUp.tilesLeftOut v).reg (Base.tl + off) = s.reg (Base.tl + off) :=
  (tilesLeftOut_reg v ho hs).trans (State.reg_congr ((State.tilesUp_frame s (w := 512) (.refl _ _) (by decide)).regs (by decide)) _)

/-! ### What each access leaves once the interrupts are delivered -/

theorem settle_low (t : State) : LowKept t t.settle := .settle .refl

/-- A register of the timeline page that the access does not write. -/
theorem granted_settle_page (hq : Settled s) (hg : s.granted who .tl 0 = some r) (f : Frame 216172782113783936 r t) {offs : List Nat}
    (p : PageRegs Base.tl offs r t) (a : Nat) (ha : a ∉ offs.map (Base.tl + ·)) : t.settle.reg a = s.reg a := by
  rw [granted_settle_reg hq hg f, p a ha, granted_reg hg]

/-- An access that writes registers and captures. -/
theorem granted_settle_rest (hq : Settled s) (hg : s.granted who .tl 0 = some r) (f : Frame 72057594037928064 r t) :
    t.settle = { s with regs := t.settle.regs, used := r.used } := by
  have h := granted_writes hq hg f
  exact h.trans (by rw [h])

theorem armPut_fld (r : State) (w : Word) {q : Row} (hq : q.off + q.stride * 0 = 0x050) (hfits : q.fits) (hlo : 0 < q.lo)
    (hm : q.mask &&& 0xFF2#32 = q.mask) : (r.syncCtlPut w).armSync.settle.fld Base.tl q = q.get w := by
  rw [(settle_low _).fld (by rw [Nat.add_assoc, hq]; decide), armSync_fld _ hq hfits hlo, syncCtlPut_fld hq hfits hm]

theorem armPut_settled_sets (hq : Settled s) (hg : s.granted who .tl 0 = some r) (w : Word) (h : s.running = false) :
    (r.syncCtlPut w).armSync.settle.bit Base.tl Reg.Tl.ARM = true ∧
      ∀ a, a ≠ Base.tl + 0x050 → (r.syncCtlPut w).armSync.settle.reg a = s.reg a := by
  obtain ⟨harm, page⟩ := armPut_sets w ((granted_inDev hg .running).trans h)
  exact ⟨((settle_low _).bit (by decide)).trans harm, fun a ha =>
    granted_settle_page hq hg ((armPut_frame r w).mono (by decide)) page a (by simpa using ha)⟩

theorem armPut_settled_refused (hq : Settled s) (hg : s.granted who .tl 0 = some r) (w : Word) (h : s.running = true) :
    (r.syncCtlPut w).armSync.settle.bit Base.tl Reg.Tl.ARM = s.bit Base.tl Reg.Tl.ARM ∧
      (s.bit Base.tl Reg.Hdr.VALID = false → (r.syncCtlPut w).armSync.settle.fld Base.tl Reg.Hdr.CODE = 0x11 ∧
        (r.syncCtlPut w).armSync.settle.fld Base.tl Reg.Hdr.INFO = 0) ∧
      ∀ a, a ≠ Base.tl + 0x050 → a ≠ Base.tl + 0x01C → (r.syncCtlPut w).armSync.settle.reg a = s.reg a := by
  have hc := (granted_charged hg).1
  obtain ⟨harm, hcap, page⟩ := armPut_refused w ((granted_inDev hg .running).trans h)
  refine ⟨?_, fun hv => ?_, fun a h1 h2 =>
    granted_settle_page hq hg ((armPut_frame r w).mono (by decide)) page a (by simpa using ⟨h1, h2⟩)⟩
  · rw [(settle_low _).bit (by decide), harm, charged_bit hc]
  · rw [(settle_low _).fld (by decide), (settle_low _).fld (by decide)]
    exact hcap ((charged_bit hc _ _ _).trans hv)

theorem tlNowGet_frame (r : State) : Frame 216172782113783936 r r.tlNowGet :=
  State.respond_frame _ _ (State.setFld_frame _ _ _ _ _ (.refl _ _) (by decide)) (by decide)

/-- The read latches the high half (R89). -/
theorem tlNowGet_high (r : State) : r.tlNowGet.fld Base.tl Reg.Tl.TL_NOW_HI = r.count / 2 ^ 32 % 2 ^ 32 := by
  have hput : r.tlNowGet.reg (Base.tl + 0x044) = (r.setFld Base.tl Reg.Tl.TL_NOW_HI (r.count / 2 ^ 32)).reg (Base.tl + 0x044) := by
    unfold State.tlNowGet
    rfl
  exact (State.fld_of_reg hput).trans (State.fld_setFld_same _ _ ⟨by decide, by decide⟩ _ _)

theorem tlNowGet_settled (hq : Settled s) (hg : s.granted who .tl 0 = some r) :
    r.tlNowGet.settle.respVal = BitVec.ofNat 64 (s.count % 2 ^ 32) ∧
      r.tlNowGet.settle.fld Base.tl Reg.Tl.TL_NOW_HI = s.count / 2 ^ 32 % 2 ^ 32 ∧
      (∀ a, a ≠ Base.tl + 0x044 → r.tlNowGet.settle.reg a = s.reg a) ∧
      r.tlNowGet.settle = { s with regs := r.tlNowGet.settle.regs, used := r.used, respVal := r.tlNowGet.settle.respVal } := by
  have f := tlNowGet_frame r
  have page : PageRegs Base.tl [0x044] r r.tlNowGet := (PageRegs.refl.setFld (by decide)).keep rfl
  have h := granted_responds hq hg f
  have hcount : r.count = s.count := by rw [granted_rest hg]
  refine ⟨?_, ?_, fun a ha => granted_settle_page hq hg f page a (by simpa using ha), h.trans (by rw [h])⟩
  · rw [State.settle_respVal, ← hcount]
    rfl
  · rw [(settle_low _).fld (by decide), ← hcount]
    exact tlNowGet_high r

theorem snapGo_frame (r : State) : Frame 72057594037928064 r r.snapGo :=
  State.setFld_frame _ _ _ _ _ (State.setFld_frame _ _ _ _ _ (State.setFld64_frame _ _ _ _ _ _ (.refl _ _) (by decide))
    (by decide)) (by decide)

theorem snapGo_settled (hg : s.granted who .tl 0 = some r) :
    r.snapGo.settle.fld64 Base.tl Reg.Tl.LATCH_TC_LO Reg.Tl.LATCH_TC_HI = s.latch.1 % 2 ^ 64 ∧
      r.snapGo.settle.fld Base.tl Reg.Tl.LATCH_NT_NS = s.latch.2.1 % 2 ^ 32 ∧
      r.snapGo.settle.fld Base.tl Reg.Tl.LATCH_NT_FRAC = s.latch.2.2 % 2 ^ 32 := by
  have hlatch : r.latch = s.latch := by rw [granted_rest hg]
  rw [(settle_low _).fld64 (by decide) (by decide), (settle_low _).fld (by decide), (settle_low _).fld (by decide), ← hlatch]
  exact snapGo_shown r

theorem snapGo_settled_reg (hq : Settled s) (hg : s.granted who .tl 0 = some r) {a : Nat} (h : a < Base.tl + 0x060 ∨ Base.tl + 0x070 ≤ a) :
    r.snapGo.settle.reg a = s.reg a := by
  refine granted_settle_page hq hg ((snapGo_frame r).mono (by decide)) (snapGo_page r) a ?_
  simp only [List.map_cons, List.map_nil, List.mem_cons, List.not_mem_nil, or_false]
  omega

theorem tileEnPut_rising (hg : s.granted who .tl 0 = some r) (v : Nat) (h : s.inDev .configured = true) {x : Trans}
    (htr : s.power.trans = some x) (hdest : x.dest = 4) :
    r.tileEnPut v = (r.setFld Base.tl Reg.Tl.TILE_EN v).tilesUp.tilesLeftOut v := by
  rw [tileEnPut_configured v ((granted_inDev hg _).trans h), granted_rest hg]
  exact if_pos (by simp [htr, hdest])

theorem tileEnPut_steady (hg : s.granted who .tl 0 = some r) (v : Nat) (h : s.inDev .configured = true) (htr : s.power.trans = none) :
    r.tileEnPut v = r.setFld Base.tl Reg.Tl.TILE_EN v := by
  have htrans : r.power.trans = none := by rw [granted_rest hg]; exact htr
  rw [tileEnPut_configured v ((granted_inDev hg _).trans h), htrans]
  rfl

theorem tileEnPut_elsewhere (hg : s.granted who .tl 0 = some r) (v : Nat) (h : s.inDev .configured = false) :
    r.tileEnPut v = r.err Base.tl 0x13 (v % 256) :=
  if_neg (by simp [granted_inDev hg, h])

theorem tileEnPut_fld (hg : s.granted who .tl 0 = some r) (v : Nat) (h : s.inDev .configured = true) :
    (r.tileEnPut v).settle.fld Base.tl Reg.Tl.TILE_EN = v % 256 := by
  have hput : (r.setFld Base.tl Reg.Tl.TILE_EN v).fld Base.tl Reg.Tl.TILE_EN = v % 256 :=
    State.fld_setFld_same _ _ ⟨by decide, by decide⟩ _ _
  rw [(settle_low _).fld (by decide), tileEnPut_configured v ((granted_inDev hg _).trans h)]
  split
  · exact (State.fld_of_reg (tilesRise_reg (off := 0x05C) v (by decide) (by decide))).trans hput
  · exact hput

theorem tileEnPut_steady_settled (hq : Settled s) (hg : s.granted who .tl 0 = some r) (v : Nat) (h : s.inDev .configured = true)
    (htr : s.power.trans = none) :
    (∀ a, a ≠ Base.tl + 0x05C → (r.tileEnPut v).settle.reg a = s.reg a) ∧
      (r.tileEnPut v).settle = { s with regs := (r.tileEnPut v).settle.regs, used := r.used } := by
  rw [tileEnPut_steady hg v h htr]
  have f : Frame 72057594037928064 r (r.setFld Base.tl Reg.Tl.TILE_EN v) := State.setFld_frame _ _ _ _ _ (.refl _ _) (by decide)
  have page : PageRegs Base.tl [0x05C] r (r.setFld Base.tl Reg.Tl.TILE_EN v) := PageRegs.refl.setFld (by decide)
  exact ⟨fun a ha => granted_settle_page hq hg (f.mono (by decide)) page a (by simpa using ha), granted_settle_rest hq hg f⟩

/-- With the transition to Ready under way a tile that TILE_EN leaves out is not locked (R79). -/
theorem tileEnPut_unlocks (hg : s.granted who .tl 0 = some r) (h : s.inDev .configured = true) {x : Trans}
    (htr : s.power.trans = some x) (hdest : x.dest = 4) {v k : Nat} (hk : k < 8) (hv : v.testBit k = false) :
    TileUnlocked (r.tileEnPut v).settle k := by
  rw [tileEnPut_rising hg v h htr hdest]
  exact (forN_tileOff_unlocks v hk hv hk (by decide)).low hk (settle_low _)

theorem testBit_low_byte {w k : Nat} (h : w.testBit k = false) : (w % 256).testBit k = false :=
  (Nat.testBit_mod_two_pow w 8 k).trans (by simp [h])

end

/-- Settles O9: each access reaches its register of the timeline page, and a settled state has no edge that would change more. -/
theorem timelineRegisters : Obligations.TimelineRegisters := by
  unfold Obligations.TimelineRegisters
  intro who w s r hq hg b
  refine ⟨⟨_, execArm_granted hg, ?_⟩, ⟨_, execTlNowRead_granted hg, tlNowGet_settled hq hg⟩, ⟨_, execSnap_granted hg, ?_⟩,
    ⟨_, execTileEnWrite_granted hg, ?_⟩⟩
  · exact ⟨armPut_fld r w rfl ⟨by decide, by decide⟩ (by decide) (by decide),
      armPut_fld r w rfl ⟨by decide, by decide⟩ (by decide) (by decide),
      armPut_fld r w rfl ⟨by decide, by decide⟩ (by decide) (by decide),
      armPut_settled_sets hq hg w, armPut_settled_refused hq hg w, granted_settle_rest hq hg (armPut_frame r w)⟩
  · obtain ⟨htc, hns, hfrac⟩ := snapGo_settled hg
    exact ⟨htc, hns, hfrac, fun _ => snapGo_settled_reg hq hg, granted_settle_rest hq hg (snapGo_frame r)⟩
  · refine ⟨fun h => ?_, tileEnPut_steady_settled hq hg _, fun x k h htr hdest hk hbit =>
      tileEnPut_unlocks hg h htr hdest hk (testBit_low_byte hbit), fun h => ?_⟩
    · rw [tileEnPut_fld hg _ h, Nat.mod_mod]
    · rw [tileEnPut_elsewhere hg _ h]
      obtain ⟨hreg, hrest, hcap⟩ := charged_err hq (granted_charged hg).1 b 0x13 (w.toNat % 256 % 256)
      refine ⟨fun hv => ?_, hreg, hrest⟩
      obtain ⟨hcode, hinfo, _⟩ := hcap hv
      exact ⟨hcode, hinfo.trans (by omega)⟩

end Sys2Proof.Machine
end

section
/-!
Obligation O10: what one REFCLK period advances, and what it leaves.
-/
namespace Sys2Proof.Machine

section
variable {s : State} {adc : List (List Int)} {fs : List Residue}

/-- The always-on clock ticks, and a pending load comes a period nearer (R65, R69). -/
def State.periodBegins (s : State) : State :=
  { s with ticks := s.ticks + 1, loadIn := s.loadIn.map fun l => (l.1 - 1, l.2) }

/-- The network clock ticks with it, where it is powered (R468). -/
def State.clocksTick (s : State) : State :=
  let s := s.periodBegins
  if s.inDev .cellar || s.power.por then s else s.ntTick

/-- The count advances (R66). -/
def State.countNext (s : State) : State := { s with count := (s.count + 1) % 2 ^ 64 }

/-- The signal paths compute the two steps of the count. -/
def State.periodComputes (s : State) (adc : List (List Int)) (fs : List Residue) : State :=
  let s := if s.count % 256 = 0 then (s.outs.map Prod.fst).foldl State.outFrame s else s
  let s := s.ntNote.shotsTick
  let s := s.computeStep adc fs 0 s.step0
  s.newCycle.computeStep adc fs 1 (s.step0 + 1)

theorem execRefclkPeriod_on (h : s.inDev .off = false) :
    exec (.refclkPeriod adc fs) s =
      if s.clocksTick.refLost || !s.clocksTick.run then finish s.clocksTick
      else finish (s.clocksTick.countNext.periodComputes adc fs) := by
  show execRefclkPeriod adc fs s = _
  unfold execRefclkPeriod
  rw [if_neg (by simp [h])]
  rfl

theorem clocksTick_frame (s : State) : Frame 36169534507319424 s.periodBegins s.clocksTick :=
  .ite (.refl _ _) (State.ntTick_frame _ (.refl _ _) (by decide))

theorem clocksTick_low (s : State) : LowKept s s.clocksTick := by
  have hb : 0x0010_0000 ≤ Base.nclk := by decide
  have htick (u : State) : LowKept u u.ntTick := by
    unfold State.ntTick
    refine .ite (.raise hb ?_) ?_ <;> exact .setFld hb (.setFld hb (.of_regs rfl))
  exact .ite (.of_regs rfl) (LowKept.trans (.of_regs rfl) (htick _))

/-- The fields that the clocks' ticks and the delivery of interrupts may change, as the bits of a frame. -/
abbrev clockBits : Nat := 108227129217777792

/-- The fields that the computation of a count may change, as the bits of a frame. -/
abbrev periodBits : Nat := 108332852006274176

theorem periodComputes_frame (s : State) : Frame periodBits s (s.periodComputes adc fs) := by
  unfold State.periodComputes
  refine State.computeStep_frame _ _ _ _ _ (State.newCycle_frame _ (State.computeStep_frame _ _ _ _ _
    (State.shotsTick_frame _ (State.ntNote_frame _ (.ite (.foldl (.refl _ _) fun u k => ?_) (.refl _ _)) (by decide)) (by decide))
    (by decide)) (by decide)) (by decide)
  exact State.outFrame_frame u k (.refl _ _) (by decide)

/-- While REFCLK is there and RUN = 1 the count advances by one (R66, R73). -/
theorem refclkPeriod_counts (h : s.inDev .off = false) (hr : s.refLost = false) (hrun : s.run = true) :
    ∃ t, exec (.refclkPeriod adc fs) s = .next t ∧ Frame periodBits s.clocksTick.countNext t := by
  have href : s.clocksTick.refLost = false := ((clocksTick_frame s).refLost (by decide)).trans hr
  have hruns : s.clocksTick.run = true := ((clocksTick_low s).bit (by decide)).trans hrun
  rw [execRefclkPeriod_on h, if_neg (by simp [href, hruns])]
  exact ⟨_, rfl, (periodComputes_frame _).trans ((settle_frame _).mono (by decide))⟩

/-- Else nothing follows the clocks' ticks (R73). -/
theorem refclkPeriod_holds (h : s.inDev .off = false) (hheld : s.refLost = true ∨ s.run = false) :
    ∃ t, exec (.refclkPeriod adc fs) s = .next t ∧ Frame clockBits s.periodBegins t := by
  have href : s.clocksTick.refLost = s.refLost := (clocksTick_frame s).refLost (by decide)
  have hruns : s.clocksTick.run = s.run := (clocksTick_low s).bit (by decide)
  rw [execRefclkPeriod_on h, href, hruns, if_pos (by rcases hheld with h | h <;> simp [h])]
  exact ⟨_, rfl, ((clocksTick_frame s).mono (by decide)).trans ((settle_frame _).mono (by decide))⟩

end

/-- Settles O10: the clocks tick first; then the count advances and two steps are computed, or nothing follows. -/
theorem periodAdvancesCount : Obligations.PeriodAdvancesCount := by
  unfold Obligations.PeriodAdvancesCount
  intro adc fs s h
  have f := clocksTick_frame s
  by_cases hcounts : s.refLost = false ∧ s.run = true
  · obtain ⟨hr, hrun⟩ := hcounts
    obtain ⟨t, ht, g⟩ := refclkPeriod_counts (adc := adc) (fs := fs) h hr hrun
    refine ⟨t, ht, (g.ticks (by decide)).trans (f.ticks (by decide)), (g.loadIn (by decide)).trans (f.loadIn (by decide)),
      fun _ _ => ?_, fun hheld => absurd hheld (by simp [hr, hrun]), (g.dram (by decide)).trans (f.dram (by decide)),
      (g.rings (by decide)).trans (f.rings (by decide)), (g.cs (by decide)).trans (f.cs (by decide)),
      (g.loader (by decide)).trans (f.loader (by decide)), (g.power (by decide)).trans (f.power (by decide)),
      (g.frameAt (by decide)).trans (f.frameAt (by decide))⟩
    exact (g.count (by decide)).trans (congrArg (fun c => (c + 1) % 2 ^ 64) (f.count (by decide)))
  · have hheld : s.refLost = true ∨ s.run = false := by
      cases hr : s.refLost with
      | true => exact .inl rfl
      | false => exact .inr (Bool.eq_false_iff.2 fun hrun => hcounts ⟨hr, hrun⟩)
    obtain ⟨t, ht, k⟩ := refclkPeriod_holds (adc := adc) (fs := fs) h hheld
    refine ⟨t, ht, k.ticks (by decide), k.loadIn (by decide), fun hr hrun => absurd ⟨hr, hrun⟩ hcounts,
      fun _ => ⟨k.count (by decide), k.seqs (by decide), k.tones (by decide), k.bar2 (by decide)⟩, k.dram (by decide),
      k.rings (by decide), k.cs (by decide), k.loader (by decide), k.power (by decide), k.frameAt (by decide)⟩

end Sys2Proof.Machine
end

section
/-!
Obligation O12 fails: it speaks of every state, and so of a state that lists a tone engine that no device has.
-/
namespace Sys2Proof.Machine

/-- The state after reset, but that it lists tone engine 1728: the page of that number lies where the power page lies. -/
def strayTone : State := { State.reset with tones := [(1728, { ToneSt.reset with stop := true })] }

/-! ### The parts of a loss of REFCLK -/

/-- The flags that the loss shows, and the shots that it spoils (R87). -/
def State.lossShown (s : State) : State :=
  let b := Base.tl
  let s : State := { s with refLost := true, loadIn := none }
  let s := ((s.setBit b Reg.Tl.RUN false).setBit b Reg.Tl.LOADED false).setBit b Reg.Tl.REF_PRESENT false
  let s := ((s.setBit b Reg.Tl.CORE_LOCK false).setBit b Reg.Tl.REF_LOST true).raise b 2
  let s := s.raise Base.nclk 3
  let spoil (x : Shot) := if x.inFlight s.step0 then x.flag Flag.SPOILED else x
  (s.seqs.map Prod.fst).foldl (fun s n => s.modSeq n fun q => { q with shots := q.shots.map spoil }) s

/-- The immediate disables of sequencers, outputs and ADCs. -/
def State.lossStops (s : State) : State := forN 16 (fun a s => s.adcKill a) (forN 48 (fun k s => s.outKill k) s.leaveRunning)

/-- The immediate disables of the tones, flux channels, read-out tones and acquisition units that the state lists. -/
def State.lossKills (s : State) : State :=
  let s := (s.tones.map Prod.fst).foldl (fun s n => s.toneKill n s.nextStep) s
  let s := (s.fluxes.map Prod.fst).foldl (fun s n =>
    (s.fluxKill n s.nextStep).modFlux n fun x => { x with ramp := none }) s
  let s := (s.routs.map Prod.fst).foldl (fun s n => s.routKill n s.nextStep true) s
  (s.acqs.map Prod.fst).foldl State.acqKill s

/-- The device leaves Ready or Running for Configured, the lanes stop, the tiles are powered down. -/
def State.lossLeaves (s : State) : State :=
  let left := s.transLost
  let s := s.modPower fun p => { p with origin := 3, trans := left }
  let up := s.inDev .ready || s.running
  let s := s.leaveLanes.tilesDown
  if up then s.setDev 3 else s

theorem execRefclkLost_powered {s : State} (hr : s.refLost = false) (hoff : s.inDev .off = false) (hpor : s.power.por = false) :
    exec .refclkLost s = finish s.lossShown.lossStops.lossKills.lossLeaves := by
  show execRefclkLost s = _
  unfold execRefclkLost
  rw [if_neg (by simp [hr]), if_neg (by simp [hoff, hpor])]
  rfl

/-! ### Steps that leave a state as it is -/

theorem foldl_fixed {α σ : Type} {l : List α} {f : σ → α → σ} {s : σ} (h : ∀ x ∈ l, f s x = s) : l.foldl f s = s := by
  induction l with
  | nil => rfl
  | cons x l ih =>
    rw [List.foldl_cons, h x List.mem_cons_self]
    exact ih fun y hy => h y (List.mem_cons_of_mem x hy)

theorem forN_fixed {σ : Type} {k : Nat} {f : Nat → σ → σ} {s : σ} (h : ∀ i < k, f i s = s) : forN k f s = s := by
  induction k with
  | zero => rfl
  | succ k ih =>
    unfold forN
    rw [ih fun i hi => h i (Nat.lt_succ_of_lt hi), h k (Nat.lt_succ_self k)]

/-! ### What the loss does to the listed engine -/

/-- No sequencer, output or ADC is enabled: their disables change nothing. -/
theorem strayTone_stops : strayTone.lossShown.lossStops = strayTone.lossShown := by
  have hseqs : ∀ n ∈ List.range 256, (if strayTone.lossShown.seqAlive n then strayTone.lossShown.seqKillReq n
      else strayTone.lossShown.killStarted n strayTone.lossShown.nextStep) = strayTone.lossShown := by decide +kernel
  have hsyn : (strayTone.lossShown.enabled Base.syn || strayTone.lossShown.synActive) = false := by decide +kernel
  have houts : ∀ k < 48, strayTone.lossShown.outKill k = strayTone.lossShown := by decide +kernel
  have hadcs : ∀ a < 16, strayTone.lossShown.adcKill a = strayTone.lossShown := by decide +kernel
  have hrun : strayTone.lossShown.leaveRunning = strayTone.lossShown := by
    unfold State.leaveRunning
    rw [foldl_fixed hseqs]
    exact if_neg (by rw [hsyn]; decide)
  unfold State.lossStops
  rw [hrun, show forN 48 (fun k s => s.outKill k) strayTone.lossShown = strayTone.lossShown from forN_fixed houts]
  exact forN_fixed hadcs

/-- The state once the listed engine has had its immediate disable, and the transition that the loss leaves is noted. -/
def strayKilled : State :=
  strayTone.lossShown.lossKills.modPower fun p => { p with origin := 3, trans := strayTone.lossShown.lossKills.transLost }

/-- The disable shows in CUR_ENTRY that nothing plays: the address of CUR_ENTRY in page 1728 is that of STATE. -/
theorem strayKilled_state : strayKilled.fld Base.pwr Reg.Pwr.STATE = 0xF := by decide +kernel

/-- The device was neither in Ready nor in Running, and no lane or tile runs: nothing else changes. -/
theorem strayTone_leaves : strayTone.lossShown.lossKills.lossLeaves = strayKilled := by
  have hlanes : ∀ n < 64, (if strayKilled.enabled (Base.lane n) || (strayKilled.lane n).issuing then strayKilled.laneKill n
      else strayKilled) = strayKilled := by decide +kernel
  have htiles : ∀ t < 8, ((strayKilled.tileOff t).modTile t fun x => { x with pll := false }) = strayKilled := by decide +kernel
  have hup : (strayKilled.inDev .ready || strayKilled.running) = false := by decide +kernel
  show (if (strayKilled.inDev .ready || strayKilled.running) then strayKilled.leaveLanes.tilesDown.setDev 3
    else strayKilled.leaveLanes.tilesDown) = strayKilled
  have hdown : strayKilled.leaveLanes.tilesDown = strayKilled := by
    rw [show strayKilled.leaveLanes = strayKilled from forN_fixed hlanes]
    exact forN_fixed htiles
  rw [if_neg (by rw [hup]; decide), hdown]

theorem exec_refclkLost_strayTone : exec .refclkLost strayTone = .next strayKilled.settle := by
  rw [execRefclkLost_powered rfl (by decide) rfl, strayTone_stops, strayTone_leaves]
  rfl

/-- Refutes O12: in a device that is neither Ready nor Running STATE should stand. In `strayTone` it does not: the loss of REFCLK
disables the tone engine that the state lists, number 1728, and what its page is to show overwrites STATE. -/
theorem not_refclkLossAndReturn : ¬ Obligations.RefclkLossAndReturn := by
  unfold Obligations.RefclkLossAndReturn
  rintro ⟨hloss, _⟩
  obtain ⟨t, ht, _, _, _, _, _, _, _, _, _, _, _, hstands, _⟩ := hloss strayTone rfl (by decide) rfl
  rw [exec_refclkLost_strayTone] at ht
  obtain rfl := Host.Outcome.next.inj ht
  have hbefore : strayTone.fld Base.pwr Reg.Pwr.STATE = 2 := by decide
  have hafter : strayKilled.settle.fld Base.pwr Reg.Pwr.STATE = 0xF := (State.settle_fld _ (by decide)).trans strayKilled_state
  have := hstands (by rw [hbefore]; decide) (by rw [hbefore]; decide)
  rw [hbefore, hafter] at this
  exact absurd this (by decide)

end Sys2Proof.Machine
end

section
/-!
Obligation O13: a tile whose PLL has locked, aligned or not, and a tile that loses lock.
-/
namespace Sys2Proof.Machine

section
variable {k : Fin 8} {delay : Int} {s : State}

/-- The tile shows its lock, and its PLL has chosen its settings (R90, R494). -/
def State.tileLocks (s : State) (k : Nat) : State := (s.setLock k true).pllLocks (k + 1)

/-- The tile is aligned, off by `off` (R77, R78). -/
def State.tileAligns (s : State) (k : Nat) (off : Int) : State :=
  (s.setFld (Base.tile k) Reg.Tile.EB_OFFSET (unsigned 5 off)).setBit (Base.tile k) Reg.Tile.ALIGNED true

/-- The delay of the tile's link is out of range (R78). -/
def State.tileTooFar (s : State) (k : Nat) (off : Int) : State := (s.err (Base.tile k) 0x12 (unsigned 8 off)).raise (Base.tile k) 3

/-- TILE_ALIGNMENT of a started tile that is not yet locked. -/
theorem execTileAlignment_locks (hr : s.refLost = false) (hp : (s.tile k).pll = true) (hl : s.bit (Base.tile k) Reg.Tile.LOCK = false) :
    exec (.tileAlignment k delay) s =
      if (12 - delay).natAbs ≤ 8 then
        finish ((tileAdcs k).foldl State.adcEnterReady
          ((tileOuts k).foldl State.outEnterReady ((s.tileLocks k).tileAligns k (12 - delay))))
      else finish ((tileAdcs k).foldl State.adcEnterReady ((s.tileLocks k).tileTooFar k (12 - delay))) := by
  show execTileAlignment k delay s = _
  unfold execTileAlignment State.tileLive
  rw [if_neg (by simp [hr, hp, hl])]
  rfl

/-- In range the tile is aligned; its outputs and ADCs then write their own pages (R77, R78). -/
theorem tileAlignment_inRange (hr : s.refLost = false) (hp : (s.tile k).pll = true) (hl : s.bit (Base.tile k) Reg.Tile.LOCK = false)
    (hd : (12 - delay).natAbs ≤ 8) :
    ∃ t, exec (.tileAlignment k delay) s = .next t ∧ LowKept ((s.tileLocks k).tileAligns k (12 - delay)) t := by
  rw [execTileAlignment_locks hr hp hl, if_pos hd]
  exact ⟨_, rfl, .settle (.foldl (.foldl .refl outEnterReady_low) adcEnterReady_low)⟩

/-- Out of range the failure is recorded (R78). -/
theorem tileAlignment_outOfRange (hr : s.refLost = false) (hp : (s.tile k).pll = true)
    (hl : s.bit (Base.tile k) Reg.Tile.LOCK = false) (hd : 8 < (12 - delay).natAbs) :
    ∃ t, exec (.tileAlignment k delay) s = .next t ∧ LowKept ((s.tileLocks k).tileTooFar k (12 - delay)) t := by
  rw [execTileAlignment_locks hr hp hl, if_neg (by omega)]
  exact ⟨_, rfl, .settle (.foldl .refl adcEnterReady_low)⟩

/-- TILE_PLL_LOCK_LOST of a locked tile ends by unlocking it (R76). -/
theorem execTilePllLockLost_unlocks (hr : s.refLost = false) (hl : s.bit (Base.tile k) Reg.Tile.LOCK = true) :
    ∃ u : State, exec (.tilePllLockLost k) s = .next (u.tileOff k).settle := by
  show ∃ u : State, execTilePllLockLost k s = .next (u.tileOff k).settle
  unfold execTilePllLockLost State.tileLive
  rw [if_neg (by simp [hr, hl])]
  exact ⟨_, rfl⟩

/-! ### What the pages show -/

theorem tileLocks_regs (s : State) (k : Nat) : (s.tileLocks k).regs = (s.setLock k true).regs :=
  (State.pllLocks_frame (w := 1125899906842624) _ _ (Frame.refl _ _) (by decide)).regs (by decide)

theorem tileLocks_lock (s : State) (k : Nat) : (s.tileLocks k).bit (Base.tile k) Reg.Tile.LOCK = true := by
  unfold State.bit
  rw [State.fld_congr (tileLocks_regs s k)]
  exact setLock_lock s k true

theorem tileLocks_tileLock (s : State) (k : Fin 8) :
    (s.tileLocks k).fld Base.tl Reg.Tl.TILE_LOCK = s.fld Base.tl Reg.Tl.TILE_LOCK ||| 2 ^ k.val := by
  have hlt : s.fld Base.tl Reg.Tl.TILE_LOCK ||| 2 ^ k.val < 2 ^ 8 :=
    Nat.or_lt_two_pow (State.fld_lt ..) (Nat.pow_lt_pow_right (by decide) k.isLt)
  rw [State.fld_congr (tileLocks_regs s k)]
  unfold State.setLock State.setBit
  rw [State.fld_setFld_ne _ (by have := k.isLt; unfold Base.tl Base.tile; simp only [Reg.Tl.TILE_LOCK, Reg.Tile.LOCK]; omega)]
  simp only [if_true]
  rw [State.fld_setFld_same _ _ ⟨by decide, by decide⟩]
  exact Nat.mod_eq_of_lt hlt

theorem tileLocks_page (s : State) (k : Nat) {q : Row} (h : q.off + q.stride * 0 < 0x054) :
    (s.tileLocks k).fld (Base.tile k) q = s.fld (Base.tile k) q := by
  rw [State.fld_congr (tileLocks_regs s k)]
  unfold State.fld
  rw [setLock_reg _ _ (by unfold Base.tl Base.tile; omega) (by omega)]

theorem tileAligns_page (s : State) (k : Nat) (off : Int) : PageRegs (Base.tile k) [0x040] s (s.tileAligns k off) :=
  (PageRegs.refl.setFld (by decide)).setFld (by decide)

theorem tileTooFar_page (s : State) (k : Nat) (off : Int) : PageRegs (Base.tile k) [0x010, 0x01C] s (s.tileTooFar k off) :=
  (PageRegs.refl.err (by decide)).raise (by decide)

/-- Whatever else the tile's page then shows, it shows the lock, and so does TL_STATE. -/
theorem tileLocks_shown {s v t : State} {k : Fin 8} {offs : List Nat} (hv : PageRegs (Base.tile k) offs (s.tileLocks k) v)
    (ho : 0x054 ∉ offs) (low : LowKept v t) :
    t.bit (Base.tile k) Reg.Tile.LOCK = true ∧
      s.fld Base.tl Reg.Tl.TILE_LOCK ||| 2 ^ k.val = t.fld Base.tl Reg.Tl.TILE_LOCK := by
  refine ⟨?_, ?_⟩
  · rw [low.bit (tile_low k.isLt (by decide)), ← tileLocks_lock s k]
    exact congrArg (· != 0) (hv.fld (q := Reg.Tile.LOCK) (j := 0) ho)
  · rw [low.fld (by decide), ← tileLocks_tileLock]
    refine (congrArg Reg.Tl.TILE_LOCK.get (hv _ fun hm => ?_)).symm
    obtain ⟨o, _, e⟩ := List.mem_map.1 hm
    unfold Base.tl Base.tile at e
    simp only [Reg.Tl.TILE_LOCK] at e
    omega

/-- A difference of up to 8 tc is held in 5 bits as it is. -/
theorem signed_unsigned5 {off : Int} (h : off.natAbs ≤ 8) : signed 5 (unsigned 5 off % 2 ^ 5) = off := by
  unfold signed unsigned
  split <;> omega

/-- An aligned tile shows the difference (R78). -/
theorem tileAligns_shown (s : State) (k : Nat) {off : Int} (h : off.natAbs ≤ 8) :
    (s.tileAligns k off).bit (Base.tile k) Reg.Tile.ALIGNED = true ∧
      signed 5 ((s.tileAligns k off).fld (Base.tile k) Reg.Tile.EB_OFFSET) = off := by
  refine ⟨bit_setBit ⟨by decide, by decide⟩ rfl _ _ _, ?_⟩
  unfold State.tileAligns State.setBit
  rw [State.fld_setFld_apart _ _ _ _ ⟨by decide, by decide⟩ (.inr (by decide)), State.fld_setFld_same _ _ ⟨by decide, by decide⟩]
  exact signed_unsigned5 h

/-- A delay out of range is recorded with the difference (R78). -/
theorem tileTooFar_shown (s : State) (k : Nat) (off : Int) :
    ((s.tileTooFar k off).reg (Base.tile k + 0x010)).getLsbD 3 = true ∧
      (s.bit (Base.tile k) Reg.Hdr.VALID = false → (s.tileTooFar k off).fld (Base.tile k) Reg.Hdr.CODE = 0x12 ∧
        (s.tileTooFar k off).fld (Base.tile k) Reg.Hdr.INFO = (off % 256).toNat) := by
  refine ⟨State.raise_sets _ _ _ (by decide), fun hv => ?_⟩
  obtain ⟨hcode, hinfo, _⟩ := State.err_captures (k := 0x12) (d := unsigned 8 off) s hv
  unfold State.tileTooFar
  rw [State.fld_raise_page _ (by decide), State.fld_raise_page _ (by decide), hcode, hinfo]
  refine ⟨rfl, ?_⟩
  unfold unsigned
  omega

end

/-- Settles O13: the lock is shown first, then alignment or the failure; and unlocking a tile is the last part of its PLL's loss of
lock. -/
theorem tileLockEffects : Obligations.TileLockEffects := by
  unfold Obligations.TileLockEffects
  intro k s hr b
  refine ⟨fun delay hp hl => ?_, fun hl => ?_⟩
  · have hframe := (execTileAlignment_frame k delay s).frame
    have hlow {off : Nat} (ho : off < 0x1000) : b + off < 0x0010_0000 := tile_low k.isLt ho
    rcases Nat.lt_or_ge 8 (12 - delay).natAbs with hd | hd
    · obtain ⟨t, ht, low⟩ := tileAlignment_outOfRange hr hp hl hd
      have f := hframe t ht
      have page := tileTooFar_page (s.tileLocks k) k (12 - delay)
      obtain ⟨hlock, hstate⟩ := tileLocks_shown page (by decide) low
      obtain ⟨hraised, hcap⟩ := tileTooFar_shown (s.tileLocks k) k (12 - delay)
      have hbefore {q : Row} (hq : q.off + q.stride * 0 < 0x054) : (s.tileLocks k).bit b q = s.bit b q :=
        congrArg (· != 0) (tileLocks_page s k hq)
      refine ⟨t, ht, f.count (by decide), f.tiles (by decide), f.tones (by decide), hlock, hstate, fun h => absurd h (by omega),
        fun _ => ⟨?_, ?_, fun hv => ?_⟩⟩
      · rw [low _ (hlow (by decide))]
        exact hraised
      · rw [low.bit (hlow (by decide)), ← hbefore (by decide)]
        exact congrArg (· != 0) (page.fld (q := Reg.Tile.ALIGNED) (j := 0) (by decide))
      · rw [low.fld (hlow (by decide)), low.fld (hlow (by decide))]
        exact hcap ((hbefore (by decide)).trans hv)
    · obtain ⟨t, ht, low⟩ := tileAlignment_inRange hr hp hl hd
      have f := hframe t ht
      obtain ⟨hlock, hstate⟩ := tileLocks_shown (tileAligns_page (s.tileLocks k) k (12 - delay)) (by decide) low
      obtain ⟨haligned, hoff⟩ := tileAligns_shown (s.tileLocks k) k hd
      refine ⟨t, ht, f.count (by decide), f.tiles (by decide), f.tones (by decide), hlock, hstate, fun _ => ⟨?_, ?_⟩,
        fun h => absurd h (by omega)⟩
      · rw [low.bit (hlow (by decide)), haligned]
      · rw [low.fld (hlow (by decide)), hoff]
  · obtain ⟨u, hu⟩ := execTilePllLockLost_unlocks hr hl
    have f := (execTilePllLockLost_frame k s).frame _ hu
    obtain ⟨hlock, haligned⟩ := (tileOff_unlocks u k.isLt).low k.isLt (LowKept.refl.settle)
    exact ⟨_, hu, f.count (by decide), f.tiles (by decide), hlock, haligned⟩

end Sys2Proof.Machine
end

section
/-!
Obligation O28: the microcode loader. What a granted write of VERIFY or APPLY begins, and how each of the two ends.
-/
namespace Sys2Proof.Machine

/-! ### The loader's page -/

theorem sec_not_irq {o : Nat} (h : o < 0x1000) : ¬ irqWrites (Base.sec + o) := by
  unfold irqWrites Base.sec
  omega

theorem sec_reg_settle (s : State) {o : Nat} (h : o < 0x1000) : s.settle.reg (Base.sec + o) = s.reg (Base.sec + o) :=
  s.settle_reg_keep (sec_not_irq h)

theorem sec_fld_settle (s : State) {q : Row} {j : Nat} (h : q.off + q.stride * j < 0x1000) :
    s.settle.fld Base.sec q j = s.fld Base.sec q j := by
  unfold State.fld
  rw [Nat.add_assoc, sec_reg_settle s h]

theorem sec_bit_settle (s : State) {q : Row} {j : Nat} (h : q.off + q.stride * j < 0x1000) :
    s.settle.bit Base.sec q j = s.bit Base.sec q j :=
  congrArg (· != 0) (sec_fld_settle s h)

theorem PageRegs.bit {b : Nat} {offs : List Nat} {s t : State} (h : PageRegs b offs s t) {q : Row} {j : Nat}
    (ho : q.off + q.stride * j ∉ offs) : t.bit b q j = s.bit b q j :=
  congrArg (· != 0) (h.fld ho)

/-- An image slot is what the loader holds for it. -/
theorem mcSlot_congr {s t : State} (hA : t.loader.slotA = s.loader.slotA) (hB : t.loader.slotB = s.loader.slotB) (k : Nat) :
    t.mcSlot k = s.mcSlot k := by
  unfold State.mcSlot
  rw [hA, hB]

/-! ### A granted write of the low byte of MCL_CTL -/

/-- Such a write stores nothing: CL_MASK is out of its reach, VERIFY and APPLY are not held (R10, R157). -/
theorem plainWord_mclCtl (lock : Bool) (old data : Word) : plainWord .sec 0x100 lock old data 0xFF#32 = old := by
  have hrows : rowsAt .sec 0x100 = [Reg.Sec.CL_MASK, Reg.Sec.APPLY, Reg.Sec.VERIFY] := by decide
  have hs (w : Word) : storeMask .sec 0x100 lock old w = 0xFFFF_0000#32 := by
    have hpair (w : Word) : pairKeeps .sec 0x100 w = 0#32 := rfl
    have hacc (r : Row) : rowAccepts .sec r w = true := rfl
    have hshut : shutEnBit .sec 0x100 = 0#32 := by decide
    unfold storeMask
    simp only [hrows, hpair, hacc, hshut, List.foldl_cons, List.foldl_nil]
    cases lock <;> rfl
  have hc : clearMask .sec 0x100 = 0#32 := by decide
  have hout : (0xFF#32 &&& 0xFFFF_0000#32 : Word) = 0#32 := by decide
  unfold plainWord mergeWord
  simp only [hs, hc, hout, BitVec.and_zero, BitVec.not_zero, BitVec.or_zero, BitVec.and_allOnes]

/-- MCL_CTL is written with the word that it holds. -/
def State.mclCtlKept (s : State) : State := s.setReg (Base.sec + 0x100) (s.reg (Base.sec + 0x100))

theorem mclCtlKept_reg (s : State) (a : Nat) : s.mclCtlKept.reg a = s.reg a := by
  unfold State.mclCtlKept
  rw [State.reg_setReg]
  split
  next h => rw [h]
  · rfl

theorem plainWrite_mclCtl (s : State) (data : Word) : s.plainWrite .sec 0 0x100 0xFF#32 data = s.mclCtlKept := by
  unfold State.plainWrite
  simp only [plainWord_mclCtl]
  rfl

section
variable {s r p : State} {who : Req} {info : Nat}

theorem putByte_mclCtl (hg : s.granted who .sec 0 = some r) (data : Word) :
    s.putByte who (Base.sec + 0x100) data = r.loaderWrite 0xFF#32 data := by
  unfold State.putByte
  show s.busWrite who (pageBase .sec 0 + 0x100) [(0x1#4, data)] = _
  rw [busWrite_granted hg (by decide) (by decide) (by decide), pageWrite_block hg (by decide) (by decide), beMask_low]
  rfl

theorem execVerify_granted (hg : s.granted who .sec 0 = some r) (hb : s.bit Base.sec Reg.Sec.BUSY = false) :
    exec (.verify who) s = .next r.mclCtlKept.verifyGo.settle := by
  have hr : r.bit Base.sec Reg.Sec.BUSY = false := (charged_bit (granted_charged hg).1 _ _ _).trans hb
  show finish (s.putByte who (Base.sec + 0x100) 1) = _
  rw [putByte_mclCtl hg]
  unfold State.loaderWrite
  simp only [hr, plainWrite_mclCtl]
  rfl

theorem execApply_granted (hg : s.granted who .sec 0 = some r) (hb : s.bit Base.sec Reg.Sec.BUSY = false) :
    exec (.apply who) s = .next r.mclCtlKept.applyGo.settle := by
  have hr : r.bit Base.sec Reg.Sec.BUSY = false := (charged_bit (granted_charged hg).1 _ _ _).trans hb
  have hk : r.mclCtlKept.bit Base.sec Reg.Sec.BUSY = false :=
    (congrArg (fun w => Reg.Sec.BUSY.get w != 0) (mclCtlKept_reg r _)).trans hr
  show finish (s.putByte who (Base.sec + 0x100) 2) = _
  rw [putByte_mclCtl hg]
  unfold State.loaderWrite
  simp only [hr, plainWrite_mclCtl]
  show finish (if r.mclCtlKept.bit Base.sec Reg.Sec.BUSY then _ else r.mclCtlKept.applyGo) = _
  rw [hk]
  rfl

/-! ### The start of VERIFY and APPLY -/

/-- `p` is `s` after an access that is charged and leaves every register with its word. -/
structure ChargedOnly (s r p : State) : Prop where
  rest : p = { s with regs := p.regs, used := r.used }
  reg : ∀ a, p.reg a = s.reg a

theorem mclCtlKept_chargedOnly (hq : Settled s) (hg : s.granted who .sec 0 = some r) : ChargedOnly s r r.mclCtlKept :=
  ⟨charged_setReg_only hq (granted_charged hg).1 _ _, fun a => (mclCtlKept_reg r a).trans (granted_reg hg a)⟩

namespace ChargedOnly

theorem settled (h : ChargedOnly s r p) (hq : Settled s) : Settled p := by
  rw [h.rest]
  exact hq

theorem loader (h : ChargedOnly s r p) : p.loader = s.loader := by rw [h.rest]

theorem fld (h : ChargedOnly s r p) (b : Nat) (q : Row) (i : Nat) : p.fld b q i = s.fld b q i :=
  congrArg q.get (h.reg _)

theorem bit (h : ChargedOnly s r p) (b : Nat) (q : Row) (i : Nat) : p.bit b q i = s.bit b q i :=
  congrArg (· != 0) (h.fld b q i)

theorem seqActive (h : ChargedOnly s r p) (n : Nat) : p.seqActive n = s.seqActive n := by
  have hseq : p.seq n = s.seq n := by rw [h.rest]; rfl
  have hqueued : p.seqQueued n = s.seqQueued n := by rw [h.rest]; rfl
  have hrun : p.run = s.run := h.bit _ _ _
  have hrunning : p.running = s.running := congrArg (· == Dev.running.code) (h.fld _ _ _)
  unfold State.seqActive State.startHeld
  rw [hseq, hqueued, hrun, hrunning]

theorem busyClusters (h : ChargedOnly s r p) (mask : Nat) : p.busyClusters mask = s.busyClusters mask := by
  have henabled (n : Nat) : p.enabled (Base.seq n) = s.enabled (Base.seq n) := h.bit _ _ _
  unfold State.busyClusters
  simp only [henabled, h.seqActive]

end ChargedOnly

/-- The loader begins a job: BUSY is shown (R153, R155). -/
def State.loaderGo (s : State) (l : LoaderSt) : State := { s.setFld Base.sec Reg.Sec.BUSY 1 with loader := l }

theorem loaderGo_begins (hq : Settled s) (h : ChargedOnly s r p) (l : LoaderSt) :
    (p.loaderGo l).settle.bit Base.sec Reg.Sec.BUSY = true ∧ (p.loaderGo l).settle.loader = l ∧
      (p.loaderGo l).settle = { s with regs := (p.loaderGo l).settle.regs, used := r.used, loader := l } ∧
      ∀ a, a ≠ Base.sec + 0x104 → (p.loaderGo l).settle.reg a = s.reg a := by
  have hquiet : (p.loaderGo l).settle = p.loaderGo l := settle_quiet (h.settled hq).1 (h.settled hq).2
  rw [hquiet]
  refine ⟨?_, rfl, ?_, fun a ha => ?_⟩
  · exact bit_setBit ⟨by decide, by decide⟩ rfl p Base.sec true
  · have hrest := h.rest
    generalize p.regs = R at hrest
    subst hrest
    rfl
  · exact (State.reg_setFld_ne p ha).trans (h.reg a)

theorem verifyGo_begins (s : State) : s.verifyGo = s.loaderGo { s.loader with job := .verify } := rfl

theorem applyGo_taken (hst : s.bit Base.sec Reg.Sec.STAGED = true)
    (hb : s.busyClusters (s.fld Base.sec Reg.Sec.CL_MASK) = 0) :
    s.applyGo = s.loaderGo { s.loader with job := .apply, mask := BitVec.ofNat 16 (s.fld Base.sec Reg.Sec.CL_MASK) } := by
  unfold State.applyGo
  simp only [hst, hb, Bool.not_true, Bool.false_eq_true, if_false, ne_eq, not_true_eq_false]
  rfl

/-- APPLY is refused: its code is the result and the error (R155). -/
def State.applyRefused (s : State) (info : Nat) : State := (s.setFld Base.sec Reg.Sec.RESULT 0x27).err Base.sec 0x27 info

theorem applyGo_refused (h : s.bit Base.sec Reg.Sec.STAGED = false ∧ info = 0 ∨
    s.bit Base.sec Reg.Sec.STAGED = true ∧ info = s.busyClusters (s.fld Base.sec Reg.Sec.CL_MASK) ∧ info ≠ 0) :
    s.applyGo = s.applyRefused info := by
  unfold State.applyGo
  rcases h with ⟨hst, rfl⟩ | ⟨hst, rfl, hne⟩
  · simp only [hst, Bool.not_false, if_true]
    rfl
  · simp only [hst, Bool.not_true, Bool.false_eq_true, if_false, ne_eq, hne, not_false_eq_true, if_true]
    rfl

theorem applyRefused_shown (hq : Settled s) (h : ChargedOnly s r p) (info : Nat) :
    (p.applyRefused info).settle.fld Base.sec Reg.Sec.RESULT = 0x27 ∧
      (s.bit Base.sec Reg.Hdr.VALID = false → (p.applyRefused info).settle.fld Base.sec Reg.Hdr.CODE = 0x27 ∧
        (p.applyRefused info).settle.fld Base.sec Reg.Hdr.INFO = info % 2 ^ 24) ∧
      (p.applyRefused info).settle = { s with regs := (p.applyRefused info).settle.regs, used := r.used } ∧
      ∀ a, a ≠ Base.sec + 0x104 → a ≠ Base.sec + 0x01C → (p.applyRefused info).settle.reg a = s.reg a := by
  have hset : Settled (p.setFld Base.sec Reg.Sec.RESULT 0x27) := h.settled hq
  have hedges : (p.applyRefused info).edges = [] := (State.err_edges _ _ _ _).trans hset.1
  refine ⟨?_, fun hv => ?_, ?_, fun a h1 h2 => ?_⟩
  · rw [sec_fld_settle _ (by decide)]
    exact (State.fld_err_page _ (by decide)).trans (State.fld_setFld_same p _ ⟨by decide, by decide⟩ _ _)
  · have hfree : (p.setFld Base.sec Reg.Sec.RESULT 0x27).bit Base.sec Reg.Hdr.VALID = false :=
      (State.bit_setFld_page p (by decide)).trans ((h.bit _ _ _).trans hv)
    obtain ⟨hcode, hinfo, _⟩ := State.err_captures (k := 0x27) (d := info) _ hfree
    rw [sec_fld_settle _ (by decide), sec_fld_settle _ (by decide)]
    exact ⟨hcode, hinfo⟩
  · obtain ⟨w, hw⟩ := settle_err hset Base.sec 0x27 info
    have hrest := h.rest
    unfold State.applyRefused
    rw [hw]
    generalize p.regs = R at hrest
    subst hrest
    rfl
  · rw [State.reg_settle_quiet hedges]
    exact (State.reg_err_ne _ h2).trans ((State.reg_setFld_ne p h1).trans (h.reg a))

end

/-! ### The end of a job -/

section
variable {s : State} {code info k : Nat} {res : Option Nat}

@[simp] theorem loaderEnd_loader (s : State) (code : Nat) :
    (s.loaderEnd code).loader = { s.loader with job := .idle, mask := 0 } := rfl
@[simp] theorem loaderEnd_cs (s : State) (code : Nat) : (s.loaderEnd code).cs = s.cs := rfl
@[simp] theorem loaderEnd_csImage (s : State) (code : Nat) : (s.loaderEnd code).csImage = s.csImage := rfl

theorem loaderEnd_regs (s : State) (code : Nat) :
    (s.loaderEnd code).regs = ((s.setFld Base.sec Reg.Sec.RESULT code).setBit Base.sec Reg.Sec.BUSY false).regs := rfl

theorem loaderEnd_page (s : State) (code : Nat) : PageRegs Base.sec [0x104] s (s.loaderEnd code) :=
  PageRegs.keep ((PageRegs.refl.setFld (by decide)).setFld (by decide)) (loaderEnd_regs s code)

theorem loaderEnd_shown (s : State) (code : Nat) :
    (s.loaderEnd code).fld Base.sec Reg.Sec.RESULT = code % 256 ∧ (s.loaderEnd code).bit Base.sec Reg.Sec.BUSY = false ∧
      (s.loaderEnd code).bit Base.sec Reg.Sec.STAGED = s.bit Base.sec Reg.Sec.STAGED ∧
      (s.loaderEnd code).fld Base.sec Reg.Sec.STAGED_SLOT = s.fld Base.sec Reg.Sec.STAGED_SLOT := by
  have hregs := loaderEnd_regs s code
  have hbusy := bit_setBit (r := Reg.Sec.BUSY) ⟨by decide, by decide⟩ rfl (s.setFld Base.sec Reg.Sec.RESULT code) Base.sec false
  have kept {q : Row} (hq : q.fits) (hr : Reg.Sec.RESULT.apart q) (hb : Reg.Sec.BUSY.apart q) :
      (s.loaderEnd code).fld Base.sec q = s.fld Base.sec q := by
    rw [State.fld_congr hregs]
    exact (State.fld_setFld_apart _ _ _ _ hq hb).trans (State.fld_setFld_apart s _ _ _ hq hr)
  refine ⟨?_, ?_, congrArg (· != 0) (kept ⟨by decide, by decide⟩ (.inr (by decide)) (.inl (by decide))),
    kept ⟨by decide, by decide⟩ (.inr (by decide)) (.inl (by decide))⟩
  · rw [State.fld_congr hregs]
    exact (State.fld_setFld_apart _ _ _ _ ⟨by decide, by decide⟩ (.inl (by decide))).trans
      (State.fld_setFld_same s _ ⟨by decide, by decide⟩ _ _)
  · unfold State.bit at hbusy ⊢
    rw [State.fld_congr hregs, hbusy]

/-! ### VERIFY_COMPLETE -/

/-- An image that passes was read without an error and is signed with a live key (R151, R153, R529). -/
theorem imgCheck_passes (h : s.imgCheck res = none) :
    res = none ∧ s.keyLive (Img.keyIndex s) = true ∧ s.imgSigned s.imgBase (Img.count s) (Img.keyIndex s) = true := by
  cases res with
  | some o => cases h
  | none =>
    by_cases hkey : (!s.keyLive (Img.keyIndex s) || !s.imgSigned s.imgBase (Img.count s) (Img.keyIndex s)) = true
    · exfalso
      unfold State.imgCheck at h
      simp only [hkey, if_true] at h
      split at h
      · cases h
      · split at h <;> cases h
    · simpa using hkey

theorem execVerifyComplete_fails (hj : s.loader.job = .verify) (hc : s.imgCheck res = some (code, info)) :
    exec (.verifyComplete res) s = .next (((s.loaderEnd code).err Base.sec code info).raise Base.sec 8).settle := by
  show execVerifyComplete res s = _
  unfold execVerifyComplete
  simp only [hj, hc, ne_eq, not_true_eq_false, if_false]
  rfl

theorem execVerifyComplete_stages (hj : s.loader.job = .verify) (hc : s.imgCheck res = none) (hk : s.freeSlot = some k) :
    exec (.verifyComplete res) s =
      .next (((s.stage k s.merged (Img.version s) (Img.svn s)).loaderEnd 0).raise Base.sec 8).settle := by
  show execVerifyComplete res s = _
  unfold execVerifyComplete
  simp only [hj, hc, hk, Option.getD_some, ne_eq, not_true_eq_false, if_false]
  rfl

theorem verifyFails_shown (s : State) (code info : Nat) :
    let t := (((s.loaderEnd code).err Base.sec code info).raise Base.sec 8).settle
    t.fld Base.sec Reg.Sec.RESULT = code % 256 ∧ t.bit Base.sec Reg.Sec.BUSY = false ∧
      t.bit Base.sec Reg.Sec.STAGED = s.bit Base.sec Reg.Sec.STAGED ∧ (t.reg (Base.sec + 0x010)).getLsbD 8 = true ∧
      KeepsRegs s t [Base.sec + 0x010, Base.sec + 0x01C, Base.sec + 0x104] := by
  intro t
  have page : PageRegs Base.sec [0x010, 0x01C] (s.loaderEnd code)
      (((s.loaderEnd code).err Base.sec code info).raise Base.sec 8) := (PageRegs.refl.err (by decide)).raise (by decide)
  obtain ⟨hresult, hbusy, hstaged, _⟩ := loaderEnd_shown s code
  refine ⟨?_, ?_, ?_, ?_, ?_⟩
  · rw [sec_fld_settle _ (by decide), page.fld (by decide), hresult]
  · rw [sec_bit_settle _ (by decide), page.bit (by decide), hbusy]
  · rw [sec_bit_settle _ (by decide), page.bit (by decide), hstaged]
  · rw [sec_reg_settle _ (by decide)]
    exact State.raise_sets _ _ _ (by decide)
  · exact (((loaderEnd_page s code).mono (offs := [0x010, 0x01C, 0x104]) (by decide)).trans (page.mono (by decide))).keepsRegs

/-- The slot that an image is staged in is A or B. -/
theorem freeSlot_lt (h : s.freeSlot = some k) : k < 2 := by
  have := List.mem_of_find?_eq_some h
  simp only [List.mem_cons, List.not_mem_nil, or_false] at this
  omega

@[simp] theorem stage_cs (s : State) (k : Nat) (ws : SMap (BitVec 192)) (version svn : Nat) :
    (s.stage k ws version svn).cs = s.cs := rfl
@[simp] theorem stage_csImage (s : State) (k : Nat) (ws : SMap (BitVec 192)) (version svn : Nat) :
    (s.stage k ws version svn).csImage = (s.setSlotWords k ws).csImage := rfl

theorem stage_page (s : State) (k : Nat) (ws : SMap (BitVec 192)) (version svn : Nat) :
    PageRegs Base.sec [0x104] s (s.stage k ws version svn) :=
  ((PageRegs.of_regs rfl).setFld (by decide)).setFld (by decide)

theorem stage_shown (s : State) (hk : k < 2) (ws : SMap (BitVec 192)) (version svn : Nat) :
    (s.stage k ws version svn).bit Base.sec Reg.Sec.STAGED = true ∧
      (s.stage k ws version svn).fld Base.sec Reg.Sec.STAGED_SLOT = k := by
  refine ⟨?_, ?_⟩
  · exact (State.bit_setFld_apart _ _ _ _ ⟨by decide, by decide⟩ (.inr (by decide))).trans
      (bit_setBit ⟨by decide, by decide⟩ rfl _ Base.sec true)
  · exact (State.fld_setFld_same _ _ ⟨by decide, by decide⟩ _ _).trans (Nat.mod_eq_of_lt hk)

/-- Staging fills its slot and leaves the other. -/
theorem stage_slots (s : State) (hk : k < 2) (ws : SMap (BitVec 192)) (version svn : Nat) :
    (s.stage k ws version svn).mcSlot k = ⟨version, svn, true⟩ ∧
      (s.stage k ws version svn).mcSlot (1 - k) = s.mcSlot (1 - k) := by
  obtain rfl | rfl : k = 0 ∨ k = 1 := by omega
  · exact ⟨rfl, rfl⟩
  · exact ⟨rfl, rfl⟩

theorem verifyStages_shown (s : State) (hk : k < 2) (ws : SMap (BitVec 192)) (version svn : Nat) :
    let t := (((s.stage k ws version svn).loaderEnd 0).raise Base.sec 8).settle
    t.fld Base.sec Reg.Sec.RESULT = 0 ∧ t.bit Base.sec Reg.Sec.BUSY = false ∧ t.bit Base.sec Reg.Sec.STAGED = true ∧
      t.fld Base.sec Reg.Sec.STAGED_SLOT = k ∧ KeepsRegs s t [Base.sec + 0x010, Base.sec + 0x104] := by
  intro t
  have page : PageRegs Base.sec [0x010] ((s.stage k ws version svn).loaderEnd 0)
      (((s.stage k ws version svn).loaderEnd 0).raise Base.sec 8) := PageRegs.refl.raise (by decide)
  obtain ⟨hresult, hbusy, hstaged, hslot⟩ := loaderEnd_shown (s.stage k ws version svn) 0
  obtain ⟨hstaged', hslot'⟩ := stage_shown s hk ws version svn
  refine ⟨?_, ?_, ?_, ?_, ?_⟩
  · rw [sec_fld_settle _ (by decide), page.fld (by decide), hresult]
  · rw [sec_bit_settle _ (by decide), page.bit (by decide), hbusy]
  · rw [sec_bit_settle _ (by decide), page.bit (by decide), hstaged, hstaged']
  · rw [sec_fld_settle _ (by decide), page.fld (by decide), hslot, hslot']
  · exact (((stage_page s k ws version svn).trans (loaderEnd_page _ 0)).mono (offs := [0x010, 0x104]) (by decide) |>.trans
      (page.mono (by decide))).keepsRegs

end

/-! ### APPLY_COMPLETE -/

/-- Bit `k` of a number replaced. -/
theorem testBit_putBit (x : Nat) {v : Nat} (hv : v < 2) (k j : Nat) :
    (x - x / 2 ^ k % 2 * 2 ^ k + v * 2 ^ k).testBit j = if j = k then v != 0 else x.testBit j := by
  have hlo : x % 2 ^ k < 2 ^ k := Nat.mod_lt _ (Nat.two_pow_pos k)
  have hx : x = 2 ^ k * (x / 2 ^ k) + x % 2 ^ k := (Nat.div_add_mod x (2 ^ k)).symm
  have hhi : x / 2 ^ k = 2 * (x / 2 ^ k / 2) + x / 2 ^ k % 2 := (Nat.div_add_mod _ 2).symm
  have hb2 : x / 2 ^ k % 2 < 2 := Nat.mod_lt _ (by decide)
  generalize x / 2 ^ k % 2 = b at hhi hb2 ⊢
  generalize x / 2 ^ k / 2 = h at hhi
  have hb : x = 2 ^ k * (2 * h + b) + x % 2 ^ k := by rw [← hhi]; exact hx
  have hput : x - b * 2 ^ k + v * 2 ^ k = 2 ^ k * (2 * h + v) + x % 2 ^ k := by
    have e1 : 2 ^ k * (2 * h + b) = 2 ^ k * (2 * h) + b * 2 ^ k := by ring
    have e2 : 2 ^ k * (2 * h + v) = 2 ^ k * (2 * h) + v * 2 ^ k := by ring
    omega
  rw [hput]
  conv_rhs => rw [hb]
  rw [Nat.testBit_two_pow_mul_add _ hlo, Nat.testBit_two_pow_mul_add _ hlo]
  rcases Nat.lt_trichotomy j k with hj | rfl | hj
  · simp [hj, hj.ne]
  · obtain rfl | rfl : v = 0 ∨ v = 1 := by omega
    · simp
    · simp
  · obtain ⟨d, hd⟩ : ∃ d, j - k = d + 1 := ⟨j - k - 1, by omega⟩
    rw [if_neg (by omega), if_neg (by omega), if_neg (by omega), hd, Nat.testBit_succ, Nat.testBit_succ,
      show (2 * h + v) / 2 = h by omega, show (2 * h + b) / 2 = h by omega]

/-- What the page shows of cluster `k`: the slot it runs from, whether its load has failed, and its version (R157). -/
def clusterShown (s : State) (k : Nat) : Bool × Bool × Nat :=
  ((s.fld Base.sec Reg.Sec.CL_SLOT).testBit k, (s.fld Base.sec Reg.Sec.CL_FAIL).testBit k, s.fld Base.sec Reg.Sec.MC_CL_VER k)

/-- What it shows of a cluster that has been loaded from an image slot (R155). -/
def loadedFrom (s : State) (slot : Nat) : Bool × Bool × Nat := (slot != 0, false, (s.mcSlot slot).version % 2 ^ 32)

/-- The offsets of the registers of the page that a load of cluster `k` writes. -/
def loadOffs (k : Nat) : List Nat := [0x11C, 0x120, 0x140 + 4 * k]

theorem loadCluster_page (s : State) (k slot : Nat) : PageRegs Base.sec (loadOffs k) s (s.loadCluster k slot) :=
  (((PageRegs.of_regs rfl).setFld (by simp [loadOffs, Reg.Sec.CL_SLOT])).setFld (by simp [loadOffs, Reg.Sec.MC_CL_VER])).setFld
    (by simp [loadOffs, Reg.Sec.CL_FAIL])

theorem loadCluster_loader (s : State) (k slot : Nat) : (s.loadCluster k slot).loader = s.loader :=
  (State.loadCluster_frame s k slot (Frame.refl 4224 s) (by decide)).loader (by decide)

section
variable {s t : State} {k slot j : Nat}

theorem clusterShown_congr {offs : List Nat} (h : PageRegs Base.sec offs s t) (hslot : 0x11C ∉ offs) (hfail : 0x120 ∉ offs)
    (hver : 0x140 + 4 * j ∉ offs) : clusterShown t j = clusterShown s j := by
  unfold clusterShown
  rw [h.fld (q := Reg.Sec.CL_SLOT) hslot, h.fld (q := Reg.Sec.CL_FAIL) hfail, h.fld (q := Reg.Sec.MC_CL_VER) hver]

theorem testBit_setFld16 (s : State) {r : Row} (hr : r.fits) (hw : r.width = 16) (v : Nat) {j : Nat} (hj : j < 16) :
    ((s.setFld Base.sec r v).fld Base.sec r).testBit j = v.testBit j := by
  rw [State.fld_setFld_same s _ hr, hw, Nat.testBit_mod_two_pow]
  simp [hj]

theorem loadCluster_slotBit (s : State) (hj : j < 16) (hs : slot < 2) :
    ((s.loadCluster k slot).fld Base.sec Reg.Sec.CL_SLOT).testBit j =
      if j = k then slot != 0 else (s.fld Base.sec Reg.Sec.CL_SLOT).testBit j := by
  unfold State.loadCluster
  dsimp only
  rw [State.fld_setFld_page _ (by decide), State.fld_setFld_page _ (by simp only [Reg.Sec.CL_SLOT, Reg.Sec.MC_CL_VER]; omega),
    testBit_setFld16 _ ⟨by decide, by decide⟩ rfl _ hj]
  exact testBit_putBit _ hs k j

theorem loadCluster_failBit (s : State) (hj : j < 16) :
    ((s.loadCluster k slot).fld Base.sec Reg.Sec.CL_FAIL).testBit j =
      if j = k then false else (s.fld Base.sec Reg.Sec.CL_FAIL).testBit j := by
  unfold State.loadCluster
  dsimp only
  rw [testBit_setFld16 _ ⟨by decide, by decide⟩ rfl _ hj,
    State.fld_setFld_page _ (by simp only [Reg.Sec.CL_FAIL, Reg.Sec.MC_CL_VER]; omega), State.fld_setFld_page _ (by decide)]
  have hput := testBit_putBit (s.fld Base.sec Reg.Sec.CL_FAIL) (v := 0) (by decide) k j
  rwa [Nat.zero_mul, Nat.add_zero] at hput

theorem loadCluster_version (s : State) :
    (s.loadCluster k slot).fld Base.sec Reg.Sec.MC_CL_VER j =
      if j = k then (s.mcSlot slot).version % 2 ^ 32 else s.fld Base.sec Reg.Sec.MC_CL_VER j := by
  split
  next e =>
    subst e
    unfold State.loadCluster
    dsimp only
    rw [State.fld_setFld_page _ (by simp only [Reg.Sec.CL_FAIL, Reg.Sec.MC_CL_VER]; omega),
      State.fld_setFld_same _ _ ⟨by decide, by decide⟩]
    rfl
  next e =>
    refine (loadCluster_page s k slot).fld ?_
    simp only [loadOffs, Reg.Sec.MC_CL_VER, List.mem_cons, List.not_mem_nil, or_false]
    omega

/-- A load shows in the bits and the version of its own cluster (R155). -/
theorem loadCluster_shown (s : State) (hj : j < 16) (hs : slot < 2) :
    clusterShown (s.loadCluster k slot) j = if j = k then loadedFrom s slot else clusterShown s j := by
  unfold clusterShown loadedFrom
  rw [loadCluster_slotBit s hj hs, loadCluster_failBit s hj, loadCluster_version]
  split <;> rfl

end

/-- The clusters below `n` that a mask names are loaded (R155). -/
def State.loadClusters (s : State) (mask slot n : Nat) : State :=
  (List.range n).foldl (fun s k => if mask.testBit k then s.loadCluster k slot else s) s

section
variable {mask slot n : Nat}

theorem loadClusters_succ (s : State) : s.loadClusters mask slot (n + 1) =
    if mask.testBit n then (s.loadClusters mask slot n).loadCluster n slot else s.loadClusters mask slot n := by
  unfold State.loadClusters
  rw [List.range_succ, List.foldl_append]
  rfl

theorem loadClusters_loader (s : State) : (s.loadClusters mask slot n).loader = s.loader := by
  induction n with
  | zero => rfl
  | succ n ih =>
    rw [loadClusters_succ]
    split
    · rw [loadCluster_loader, ih]
    · exact ih

theorem loadClusters_slot (s : State) (k : Nat) : (s.loadClusters mask slot n).mcSlot k = s.mcSlot k :=
  mcSlot_congr (by rw [loadClusters_loader]) (by rw [loadClusters_loader]) k

/-- No load writes MC_SVN. -/
theorem loadClusters_svn (s : State) :
    (s.loadClusters mask slot n).fld Base.sec Reg.Sec.MC_SVN = s.fld Base.sec Reg.Sec.MC_SVN := by
  induction n with
  | zero => rfl
  | succ n ih =>
    rw [loadClusters_succ]
    split
    · rw [(loadCluster_page _ n slot).fld, ih]
      simp only [loadOffs, Reg.Sec.MC_SVN, List.mem_cons, List.not_mem_nil, or_false]
      omega
    · exact ih

/-- The clusters that the mask names show the image slot; the others show what they did (R155). -/
theorem loadClusters_shown (s : State) (hs : slot < 2) {j : Nat} (hj : j < 16) :
    clusterShown (s.loadClusters mask slot n) j =
      if j < n ∧ mask.testBit j = true then loadedFrom s slot else clusterShown s j := by
  induction n with
  | zero => simp [State.loadClusters]
  | succ n ih =>
    have hfrom : loadedFrom (s.loadClusters mask slot n) slot = loadedFrom s slot := by
      unfold loadedFrom
      rw [loadClusters_slot]
    rw [loadClusters_succ]
    by_cases e : j = n
    · subst e
      by_cases hm : mask.testBit j = true
      · rw [if_pos hm, loadCluster_shown _ hj hs, if_pos rfl, hfrom, if_pos ⟨Nat.lt_succ_self j, hm⟩]
      · rw [if_neg hm, ih, if_neg fun h => hm h.2, if_neg fun h => hm h.2]
    · have hlt : j < n + 1 ↔ j < n := by omega
      simp only [hlt]
      split
      · rw [loadCluster_shown _ hj hs, if_neg e, ih]
      · exact ih

end

/-! ### The versions shown, and the sequencers released -/

theorem showVersions_page (s : State) : PageRegs Base.sec [0x104, 0x114, 0x118] s s.showVersions :=
  ((PageRegs.refl.setFld (by decide)).setFld (by decide)).setFld (by decide)

/-- The least of a list is no greater than its first number. -/
theorem leastOf_le_head (l : List Nat) : leastOf l ≤ l.headD 0 := by
  have hle (m a : Nat) (l : List Nat) (h : a ≤ m) : l.foldl min a ≤ m := by
    induction l generalizing a with
    | nil => exact h
    | cons x l ih => exact ih _ ((Nat.min_le_left _ _).trans h)
  exact hle _ _ l (Nat.le_refl _)

/-- MC_SVN does not fall while the security versions of the slots fit it (R155). -/
theorem showVersions_svn (s : State) (h : ∀ k, (s.mcSlot k).svn < 2 ^ 16) :
    s.fld Base.sec Reg.Sec.MC_SVN ≤ s.showVersions.fld Base.sec Reg.Sec.MC_SVN := by
  have hold : s.fld Base.sec Reg.Sec.MC_SVN < 2 ^ 16 := State.fld_lt s _ _ _
  have hleast {u : State} (hu : u.loader = s.loader) : leastOf u.clSvns < 2 ^ 16 := by
    have hhead : u.clSvns.headD 0 = (s.mcSlot (u.fld Base.sec Reg.Sec.CL_SLOT / 2 ^ 0 % 2)).svn := by
      rw [← mcSlot_congr (t := u) (by rw [hu]) (by rw [hu])]
      rfl
    exact (leastOf_le_head _).trans_lt (hhead ▸ h _)
  unfold State.showVersions
  dsimp only
  generalize hu : State.setBit _ Base.sec Reg.Sec.MIXED _ = u
  have hkept : u.fld Base.sec Reg.Sec.MC_SVN = s.fld Base.sec Reg.Sec.MC_SVN := by
    rw [← hu]
    exact (State.fld_setFld_page _ (by decide)).trans (State.fld_setFld_page _ (by decide))
  have hnew : leastOf u.clSvns < 2 ^ 16 := hleast (by rw [← hu]; rfl)
  rw [State.fld_setFld_same _ _ ⟨by decide, by decide⟩, hkept]
  show _ ≤ _ % 2 ^ 16
  rw [Nat.mod_eq_of_lt (max_lt hold hnew)]
  exact le_max_left _ _

theorem PageRegs.modSeq {b : Nat} {offs : List Nat} {s t : State} (h : PageRegs b offs s t) {n : Nat} {f : SeqSt → SeqSt} :
    PageRegs b offs s (t.modSeq n f) := h.keep rfl

theorem PageRegs.setEnable {b : Nat} {offs : List Nat} {s t : State} (h : PageRegs b offs s t) (ho : 0x008 ∈ offs) {v : Bool} :
    PageRegs b offs s (t.setEnable b v) :=
  PageRegs.setFld (r := Reg.Hdr.ENABLE) (v := v.toNat) (i := 0) h ho

theorem seqStart_page (s : State) (n : Nat) : PageRegs (Base.seq n) [0x008, 0x040] s (s.seqStart n) :=
  .modSeq (.setFld (.setEnable .refl (by decide)) (by decide))

/-- A write of 1 to ENABLE writes the sequencer's own page. -/
theorem seqEnable_page (s : State) (n : Nat) : PageRegs (Base.seq n) [0x008, 0x040] s (s.seqEnable n) := by
  unfold State.seqEnable
  dsimp only
  split
  · exact .refl
  split
  · exact .modSeq .refl
  split
  · exact .refl
  split
  · exact .modSeq (.setEnable .refl (by decide))
  split
  · exact seqStart_page s n
  · exact .refl

/-- The sequencers that APPLY held begin; the loader's page stays as it was (R155). -/
theorem releaseHeld_sec (s : State) (mask : Nat) {o : Nat} (ho : o < 0x1000) :
    (s.releaseHeld mask).reg (Base.sec + o) = s.reg (Base.sec + o) := by
  unfold State.releaseHeld
  refine List.foldlRecOn (motive := fun u : State => u.reg (Base.sec + o) = s.reg (Base.sec + o)) _ _ rfl fun u hu n hn => ?_
  split
  · rw [seqEnable_page _ n, State.modSeq_reg, hu]
    have := List.mem_range.1 hn
    simp only [List.map_cons, List.map_nil, List.mem_cons, List.not_mem_nil, or_false, Base.sec, Base.seq]
    omega
  · exact hu

/-! ### The end of APPLY -/

section
variable {s : State}

/-- The state in which APPLY_COMPLETE releases the sequencers (R155). -/
def State.applied (s : State) : State :=
  (s.loadClusters s.loader.mask.toNat (s.fld Base.sec Reg.Sec.STAGED_SLOT) 16).showVersions.loaderEnd 0

/-- The state in which the interrupts of APPLY_COMPLETE are delivered. -/
def State.applyEnd (s : State) : State := (s.applied.releaseHeld s.loader.mask.toNat).raise Base.sec 9

theorem execApplyComplete_ends (hj : s.loader.job = .apply) : exec .applyComplete s = .next s.applyEnd.settle := by
  show execApplyComplete s = _
  unfold execApplyComplete
  rw [if_neg (by simp [hj])]
  rfl

theorem applyEnd_reg (s : State) {o : Nat} (ho : o < 0x1000) (h : o ≠ 0x010) :
    s.applyEnd.settle.reg (Base.sec + o) = s.applied.reg (Base.sec + o) := by
  rw [sec_reg_settle _ ho]
  exact (State.reg_raise_ne _ (by omega)).trans (releaseHeld_sec _ _ ho)

theorem applyEnd_fld (s : State) {q : Row} {j : Nat} (ho : q.off + q.stride * j < 0x1000) (h : q.off + q.stride * j ≠ 0x010) :
    s.applyEnd.settle.fld Base.sec q j = s.applied.fld Base.sec q j := by
  unfold State.fld
  rw [Nat.add_assoc, applyEnd_reg s ho h]

theorem applyEnd_job (s : State) : s.applyEnd.settle.loader.job = .idle := by
  rw [State.settle_loader]
  unfold State.applyEnd
  rw [State.raise_loader, (State.releaseHeld_frame s.applied _ (Frame.refl 1152 _) (by decide)).loader (by decide)]
  rfl

theorem applyEnd_result (s : State) : s.applyEnd.settle.bit Base.sec Reg.Sec.BUSY = false ∧
    s.applyEnd.settle.fld Base.sec Reg.Sec.RESULT = 0 ∧ (s.applyEnd.settle.reg (Base.sec + 0x010)).getLsbD 9 = true := by
  obtain ⟨hresult, hbusy, _⟩ := loaderEnd_shown
    (s.loadClusters s.loader.mask.toNat (s.fld Base.sec Reg.Sec.STAGED_SLOT) 16).showVersions 0
  refine ⟨(congrArg (· != 0) (applyEnd_fld s (by decide) (by decide))).trans hbusy,
    (applyEnd_fld s (by decide) (by decide)).trans hresult, ?_⟩
  rw [sec_reg_settle _ (by decide)]
  exact State.raise_sets _ _ _ (by decide)

theorem applyEnd_svn (s : State) (h : ∀ k, (s.mcSlot k).svn < 2 ^ 16) :
    s.fld Base.sec Reg.Sec.MC_SVN ≤ s.applyEnd.settle.fld Base.sec Reg.Sec.MC_SVN := by
  rw [applyEnd_fld s (by decide) (by decide)]
  unfold State.applied
  rw [(loaderEnd_page _ 0).fld (by decide), ← loadClusters_svn s]
  refine showVersions_svn _ fun k => ?_
  rw [loadClusters_slot]
  exact h k

/-- The page shows of each cluster what the loads have left (R155, R157). -/
theorem applyEnd_shown (s : State) {k : Nat} (hk : k < 16) :
    clusterShown s.applyEnd.settle k =
      if s.loader.mask.getLsbD k = true then loadedFrom s (s.fld Base.sec Reg.Sec.STAGED_SLOT) else clusterShown s k := by
  have hloads := loadClusters_shown (mask := s.loader.mask.toNat) (n := 16) s (State.fld_lt s Base.sec Reg.Sec.STAGED_SLOT 0) hk
  simp only [hk, true_and, BitVec.testBit_toNat] at hloads
  rw [← hloads]
  have page := (showVersions_page (s.loadClusters s.loader.mask.toNat (s.fld Base.sec Reg.Sec.STAGED_SLOT) 16)).trans
    ((loaderEnd_page _ 0).mono (by decide))
  have hver : 0x140 + 4 * k ∉ [0x104, 0x114, 0x118] := by
    simp only [List.mem_cons, List.not_mem_nil, or_false]
    omega
  rw [← clusterShown_congr page (by decide) (by decide) hver]
  unfold clusterShown
  rw [applyEnd_fld s (by decide) (by decide), applyEnd_fld s (by decide) (by decide),
    applyEnd_fld s (by simp only [Reg.Sec.MC_CL_VER]; omega) (by simp only [Reg.Sec.MC_CL_VER]; omega)]
  rfl

end

/-- Settles O28: a granted write of MCL_CTL reaches the loader; VERIFY_COMPLETE ends by the first check that fails, or stages the
merged image; APPLY_COMPLETE loads the clusters one after another, and no load shows in another cluster's bits. -/
theorem microcodeLoader : Obligations.MicrocodeLoader := by
  unfold Obligations.MicrocodeLoader
  intro b
  refine ⟨fun who s r hq hg hb => ?_, fun res s hj => ?_, fun s hj hsvn => ?_⟩
  · have h := mclCtlKept_chargedOnly hq hg
    refine ⟨⟨_, execVerify_granted hg hb, ?_⟩, fun hst hbusy => ⟨_, execApply_granted hg hb, ?_⟩,
      fun info hinfo => ⟨_, execApply_granted hg hb, ?_⟩⟩
    · obtain ⟨hshown, _, hrest, hregs⟩ := loaderGo_begins hq h { s.loader with job := .verify }
      rw [verifyGo_begins, h.loader]
      exact ⟨hshown, hrest, hregs⟩
    · rw [applyGo_taken ((h.bit _ _ _).trans hst) (by rw [h.fld, h.busyClusters, hbusy])]
      obtain ⟨hshown, hloader, hrest, hregs⟩ := loaderGo_begins hq h
        { r.mclCtlKept.loader with job := .apply, mask := BitVec.ofNat 16 (r.mclCtlKept.fld Base.sec Reg.Sec.CL_MASK) }
      rw [hloader]
      refine ⟨hshown, rfl, ?_, hrest, hregs⟩
      rw [h.fld, BitVec.toNat_ofNat]
      exact Nat.mod_eq_of_lt (State.fld_lt s _ _ _)
    · rw [applyGo_refused (info := info) (by rw [h.bit, h.fld, h.busyClusters]; exact hinfo)]
      exact applyRefused_shown hq h info
  · refine ⟨imgCheck_passes, fun code info hc => ⟨_, execVerifyComplete_fails hj hc, ?_⟩,
      fun k hc hk => ⟨_, execVerifyComplete_stages hj hc hk, ?_⟩⟩
    · obtain ⟨hresult, hbusy, hstaged, hraised, hregs⟩ := verifyFails_shown s code info
      exact ⟨hresult, hbusy, hstaged, hraised, by simp, by simp, by simp, by simp, by simp, hregs⟩
    · have hk2 := freeSlot_lt hk
      obtain ⟨hresult, hbusy, hstaged, hslot, hregs⟩ := verifyStages_shown s hk2 s.merged (Img.version s) (Img.svn s)
      obtain ⟨hfilled, hother⟩ := stage_slots s hk2 s.merged (Img.version s) (Img.svn s)
      have hslots : ∀ i, ((((s.stage k s.merged (Img.version s) (Img.svn s)).loaderEnd 0).raise b 8).settle).mcSlot i =
          (s.stage k s.merged (Img.version s) (Img.svn s)).mcSlot i :=
        mcSlot_congr (by simp) (by simp)
      exact ⟨hresult, hbusy, hstaged, hslot, by simp, (hslots k).trans hfilled, (hslots _).trans hother, by simp, by simp,
        hregs⟩
  · have hend := execApplyComplete_ends hj
    obtain ⟨hbusy, hresult, hraised⟩ := applyEnd_result s
    refine ⟨_, hend, applyEnd_job s, hbusy, hresult, hraised, ((execApplyComplete_frame s).frame _ hend).csImage (by decide),
      applyEnd_svn s hsvn, fun k => ⟨fun hm => ?_, fun hm => ?_⟩⟩
    · have hshown := applyEnd_shown s k.isLt
      rw [if_pos hm] at hshown
      simp only [clusterShown, loadedFrom, Prod.mk.injEq] at hshown
      exact hshown
    · have hshown := applyEnd_shown s k.isLt
      rw [if_neg (by rw [hm]; decide)] at hshown
      simp only [clusterShown, Prod.mk.injEq] at hshown
      exact hshown

end Sys2Proof.Machine
end

section
/-!
What the commands and the disables of tone engines and flux channels share: the command at the head of a queue, entries made of
fields, charges that stay, and what an immediate disable counts and reports.
-/
namespace Sys2Proof.Machine

section
variable {s t : State}

/-! ### The head of a queue -/

theorem dueCmd_head {q cs : List TCmd} {c : TCmd} {code : Nat} (h : HeadDue s q c cs code) : s.dueCmd q code = some c := by
  obtain ⟨rfl, hc, hd⟩ := h
  unfold State.dueCmd
  simp only [hc, State.due, hd, decide_true, and_self, if_true]

/-! ### Fields of an entry -/

theorem entry_rep_lt (s : State) (i : Nat) : (s.entry i).rep < 2 ^ 16 := Nat.mod_lt _ (by decide)

theorem entry_congr (h : t.bar2 = s.bar2) (i : Nat) : t.entry i = s.entry i := by
  unfold State.entry
  rw [h]

/-! ### Charges -/

/-- A flag that a shot carries stays. -/
theorem Shot.flag_keeps {x : Shot} {i : Nat} (h : x.flags.getLsbD i = true) (j : Nat) : (x.flag j).flags.getLsbD i = true := by
  unfold Shot.flag
  dsimp only
  split <;> simp only [BitVec.getLsbD_or, h, Bool.true_or]

theorem charge_keeps {tag : Tag} {i : Nat} (h : Charged s tag i) (g : Tag) (j : Nat) : Charged (s.charge g j) tag i := by
  intro k num ht x hx hn
  obtain _ | ⟨m, num'⟩ := g
  · exact h k num ht x hx hn
  unfold State.charge State.modShot at hx
  by_cases e : k = m
  · subst e
    rw [State.seq_modSeq] at hx
    obtain ⟨y, hy, rfl⟩ := List.mem_map.1 hx
    by_cases hnum : y.num = num'
    · rw [if_pos hnum] at hn ⊢
      exact Shot.flag_keeps (h k num ht y hy hn) j
    · rw [if_neg hnum] at hn ⊢
      exact h k num ht y hy hn
  · rw [State.seq_modSeq_ne _ _ e] at hx
    exact h k num ht x hx hn

/-- Charging shots leaves whether a sequencer is halted. -/
theorem modShot_halted (n num : Nat) (f : Shot → Shot) (k : Nat) : ((s.modShot n num f).seq k).halted = (s.seq k).halted := by
  unfold State.modShot
  by_cases e : k = n
  · subst e
    rw [State.seq_modSeq]
  · rw [State.seq_modSeq_ne _ _ e]

theorem charge_halted (tag : Tag) (i k : Nat) : ((s.charge tag i).seq k).halted = (s.seq k).halted := by
  obtain _ | ⟨n, num⟩ := tag
  · rfl
  · exact modShot_halted ..

theorem useTile_halted (tag : Tag) (tile step k : Nat) : ((s.useTile tag tile step).seq k).halted = (s.seq k).halted := by
  obtain _ | ⟨n, num⟩ := tag
  · rfl
  · exact modShot_halted ..

theorem chargeHeld_halted (tag : Tag) (kind idx k : Nat) : ((s.chargeHeld tag kind idx).seq k).halted = (s.seq k).halted := by
  unfold State.chargeHeld
  split
  · exact charge_halted ..
  · rfl

/-! ### What an immediate disable discards -/

/-- The play in progress, and the play that it has been resolved to. -/
def playsOf (play : Option Play) (cont : Option (Option Play)) : List Play := play.toList ++ cont.join.toList

/-- Plays that were discarded show in IRQ_STAT bit `i`, and their shots carry TRUNCATED (R190, R369). -/
def State.truncate (s : State) (b i : Nat) (tags : List Tag) : State :=
  if tags.isEmpty then s else tags.foldl (fun s g => s.charge g Flag.TRUNCATED) (s.raise b i)

theorem chargeAll_frame (tags : List Tag) (s : State) : Frame 1024 s (tags.foldl (fun s g => s.charge g Flag.TRUNCATED) s) :=
  Frame.foldl (Frame.refl _ _) fun t g => State.charge_frame t g Flag.TRUNCATED (Frame.refl _ _) (by decide)

theorem chargeAll_keeps {g : Tag} (tags : List Tag) (h : Charged s g Flag.TRUNCATED) :
    Charged (tags.foldl (fun s g => s.charge g Flag.TRUNCATED) s) g Flag.TRUNCATED := by
  induction tags generalizing s with
  | nil => exact h
  | cons g' tags ih => exact ih (charge_keeps h g' _)

theorem chargeAll_charges {g : Tag} {tags : List Tag} (h : g ∈ tags) :
    Charged (tags.foldl (fun s g => s.charge g Flag.TRUNCATED) s) g Flag.TRUNCATED := by
  induction tags generalizing s with
  | nil => cases h
  | cons g' tags ih =>
    obtain rfl | h := List.mem_cons.1 h
    · exact chargeAll_keeps tags (charged_flag s g (by decide) (.inl rfl))
    · exact ih h

section
variable {b i : Nat} {tags : List Tag}

theorem truncate_frame : Frame 36028797018965120 s (s.truncate b i tags) := by
  unfold State.truncate
  split
  · exact Frame.refl _ _
  · exact (State.raise_frame _ _ _ (Frame.refl _ _) (by decide)).trans ((chargeAll_frame tags _).mono (by decide))

theorem truncate_page : PageRegs b [0x010] s (s.truncate b i tags) := by
  unfold State.truncate
  split
  · exact .refl
  · exact (PageRegs.refl.raise (by decide)).keep ((chargeAll_frame tags _).regs (by decide))

/-- The plays are charged before the queued commands. -/
theorem truncate_append (plays : List Play) (cut : List TCmd) :
    s.truncate b i (plays.map Play.tag ++ cut.map TCmd.tag) =
      if plays.length + cut.length = 0 then s
      else (cut.map TCmd.tag).foldl (fun s g => s.charge g Flag.TRUNCATED)
        ((plays.map Play.tag).foldl (fun s g => s.charge g Flag.TRUNCATED) (s.raise b i)) := by
  unfold State.truncate
  rw [List.foldl_append]
  simp only [List.isEmpty_iff_length_eq_zero, List.length_append, List.length_map]

theorem truncate_raises (h : tags ≠ []) (hi : i < 32) : ((s.truncate b i tags).reg (b + 0x010)).getLsbD i = true := by
  unfold State.truncate
  rw [if_neg (by simpa using h), State.reg_congr ((chargeAll_frame tags _).regs (by decide))]
  exact State.raise_sets _ _ _ hi

theorem truncate_charges {g : Tag} (h : g ∈ tags) : Charged (s.truncate b i tags) g Flag.TRUNCATED := by
  unfold State.truncate
  rw [if_neg (by simpa using List.ne_nil_of_mem h)]
  exact chargeAll_charges h

end

/-- The counter of what was discarded, read later. -/
theorem addSat_fld {b : Nat} {r : Row} (hr : r.fits) (k : Nat) :
    (s.addSat b r k).fld b r = min (s.fld b r + k) (2 ^ r.width - 1) := by
  unfold State.addSat
  rw [State.fld_setFld_same _ _ hr, Nat.mod_eq_of_lt]
  have := Nat.two_pow_pos r.width
  omega

end

end Sys2Proof.Machine
end

section
/-!
O29: START, FDELAY, PHASE and FRAME of a tone engine.
-/
namespace Sys2Proof.Machine

/-! ### Commands -/

section
variable {s : State} {n : Nat} {c : TCmd} {cs : List TCmd}

/-- Taking the head of the queue changes nothing else but the shots that it is charged to. -/
theorem tonePop_kept (s : State) (n : Nat) (c : TCmd) :
    Frame 1024 (s.modTone n fun x => { x with queue := x.queue.tail }) (s.tonePop n c) :=
  State.chargeHeld_frame _ _ _ _ (State.useTile_frame _ _ _ _ (Frame.refl _ _) (by decide)) (by decide)

theorem tonePop_step (s : State) (n : Nat) (c : TCmd) : ToneStep n [] 2147484672 s (s.tonePop n c) :=
  (ToneStep.modTone.mono (List.Subset.refl _) (by decide)).trans
    (ToneStep.mono (.of_tones (.of_regs ((tonePop_kept s n c).regs (by decide))) (tonePop_kept s n c) (by decide)) (List.Subset.refl _)
      (by decide))

theorem tonePop_tone {code : Nat} (h : HeadDue s (s.tone n).queue c cs code) :
    (s.tonePop n c).tone n = { s.tone n with queue := cs } := by
  rw [tone_congr ((tonePop_kept s n c).tones (by decide)), State.tone_modTone, h.1]
  rfl

theorem tonePop_halted (k : Nat) : ((s.tonePop n c).seq k).halted = (s.seq k).halted := by
  unfold State.tonePop
  rw [chargeHeld_halted, useTile_halted]
  rfl

end

/-! ### Steps that begin with a command or with a parity check -/

section
variable {s t u : State} {n : Fin 512} {bad : Bool} {i : Nat} {offs : List Nat}

theorem ToneStep.setFld {n w : Nat} {r : Row} {v j : Nat} (h : ToneStep n offs w s t) (ho : r.off + r.stride * j ∈ offs)
    (le : 128 ||| w = w := by decide) :
    ToneStep n offs w s (t.setFld (Base.tone n) r v j) :=
  h.trans ⟨fun _ _ => rfl, PageRegs.refl.setFld ho, State.setFld_frame _ _ _ _ _ (Frame.refl _ _) le⟩

/-- What follows the read of an entry, seen from before the command was taken. -/
theorem onlyToneRead_of (h : ToneStep n [] onlyToneBits s u) (k : ToneStep n offs onlyToneBits (u.toneEntryParity n i bad) t) :
    OnlyToneRead s t.settle n bad offs := by
  refine ToneStep.onlyToneRead ?_
  cases bad
  · exact (h.mono (List.nil_subset _) (by decide)).trans k
  · exact (h.mono (List.nil_subset _) (by decide)).trans
      ((toneEntryParity_step.mono (by simp) (by decide)).trans (k.mono (by simp) (by decide)))

theorem toneParity_before {l : List Nat} (h : ToneParity u t n bad i) (k : PageRegs (Base.tone n) l s u) (ho : 0x01C ∉ l) :
    ToneParity s t n bad i := by
  refine fun hb => ⟨(h hb).1, fun hv => (h hb).2 ?_⟩
  unfold State.bit at hv ⊢
  rwa [k.fld (q := Reg.Hdr.VALID) ho]

end

/-! ### Cuts -/

section
variable (s : State) (n : Nat)

theorem dropStream_tone (p : Play) (k : Nat) : ∃ buf, (s.dropStream n p k).tone n = { s.tone n with buf := buf } := by
  unfold State.dropStream
  split
  · exact ⟨_, by rw [State.tone_setFld, State.tone_modTone]⟩
  · exact ⟨_, rfl⟩

theorem dropStream_step (p : Play) (k : Nat) : ToneStep n [0x05C] 2147483776 s (s.dropStream n p k) := by
  unfold State.dropStream
  split
  · exact (ToneStep.modTone.mono (List.nil_subset _) (by decide)).setFld (by decide)
  · exact .refl

theorem dropCont_tone (k : Nat) : ∃ buf grans, (s.dropCont n k).tone n = { s.tone n with buf := buf, grans := grans } := by
  unfold State.dropCont
  split
  next p _ =>
    obtain ⟨buf, h⟩ := dropStream_tone s n p k
    exact ⟨buf, _, by rw [State.tone_modTone, h]⟩
  · exact ⟨_, _, rfl⟩

theorem dropCont_step (k : Nat) : ToneStep n [0x05C] 2147483776 s (s.dropCont n k) := by
  unfold State.dropCont
  split
  · exact (dropStream_step s n _ k).trans (ToneStep.modTone.mono (List.nil_subset _) (by decide))
  · exact .refl

theorem cutGrans_before {gs : List Gran} {k : Nat} : ∀ g ∈ cutGrans gs k, g.start < k ∧ g.stop ≤ k := by
  intro g hg
  obtain ⟨y, hy, rfl⟩ := List.mem_map.1 hg
  exact ⟨of_decide_eq_true (List.mem_filter.1 hy).2, Nat.min_le_right _ _⟩

/-- What plays, and what it leaves behind, once it has been cut. -/
theorem toneCut_playing {p : Play} (hp : (s.tone n).play = some p) (k : Nat) :
    ∃ buf grans, (s.toneCut n k).tone n =
        { s.tone n with play := none, cont := none, stop := false, grans := cutGrans grans k, buf := buf } ∧
      (s.toneCut n k).fld (Base.tone n) Reg.Tone.CUT_COUNT = min (s.fld (Base.tone n) Reg.Tone.CUT_COUNT + 1) (2 ^ 16 - 1) ∧
      ToneStep n [0x05C, 0x070] 2147483776 s (s.toneCut n k) := by
  obtain ⟨buf, grans, h1⟩ := dropCont_tone s n k
  obtain ⟨buf', h2⟩ := dropStream_tone (s.dropCont n k) n p k
  have st := (dropCont_step s n k).trans (dropStream_step (s.dropCont n k) n p k)
  unfold State.toneCut
  simp only [hp]
  generalize (s.dropCont n k).dropStream n p k = u at h2 st
  refine ⟨buf', grans, ?_, ?_, ?_⟩
  · unfold State.inc State.addSat
    rw [State.tone_setFld, State.tone_modTone, h2, h1]
  · rw [inc_fld ⟨by decide, by decide⟩, State.modTone_fld, st.regs.fld (by decide)]
    rfl
  · exact (st.mono (by decide) (by decide)).trans ((ToneStep.modTone.mono (by decide) (by decide)).setFld (by decide))

theorem toneCut_idle (hp : (s.tone n).play = none) (k : Nat) : s.toneCut n k = s := by
  unfold State.toneCut
  simp only [hp]

/-- A play whose boundary is still to come needs no catching up. -/
theorem toneCatchUp_early {k : Nat} (h : ∀ p, (s.tone n).play = some p → k < p.start + 4 * p.e.len) : s.toneCatchUp n k = s := by
  unfold State.toneCatchUp
  split
  next p hp => exact if_neg (Nat.not_le.2 (h p hp))
  · rfl

end

/-! ### START -/

theorem showTone_left {s : State} {n : Nat} {p : Play} (h : (s.tone n).play = some p) :
    (s.showTone n).fld (Base.tone n) Reg.Tone.PLAYS_LEFT = p.left % 2 ^ 16 := by
  unfold State.showTone
  simp only [h]
  rcases (s.tone n).cont with _ | _ | c <;>
    rw [State.fld_setFld_page _ (by decide), State.fld_setFld_page _ (by decide), State.fld_setFld_page _ (by decide),
      State.fld_setFld_same _ _ ⟨by decide, by decide⟩] <;>
    rfl

section
variable {s : State} {n : Fin 512} {i k poster : Nat} {tag : Tag} {bad : Bool}

/-- A valid entry begins to play: the play in progress is cut, and the page shows the new one. -/
theorem toneBegin_valid (hv : s.entryValid (s.owner (Base.tone n)) (s.entry i) = true) :
    s.toneBegin n i k poster tag bad = (((s.toneEntryParity n i bad).toneCut n k).modTone n fun x =>
      { x with
        play := some (mkPlay (s.entry i) k (s.entry i).rep poster tag bad)
        stop := (((s.toneEntryParity n i bad).toneCut n k).seq poster).halted }).showTone n := by
  unfold State.toneBegin
  dsimp only
  rw [if_pos (by rw [entryValid_step toneEntryParity_step.regs]; exact hv)]

theorem toneBegin_invalid (hv : s.entryValid (s.owner (Base.tone n)) (s.entry i) = false) :
    s.toneBegin n i k poster tag bad =
      (((s.toneEntryParity n i bad).toneEntryFault n i tag).toneCut n k).showTone n := by
  unfold State.toneBegin
  dsimp only
  rw [if_neg (by rw [entryValid_step toneEntryParity_step.regs, hv]; decide)]

/-- What the page of an engine shows once a play has begun. -/
theorem toneBegun_shows {u : State} {p : Play} {h : Bool} {offs : List Nat}
    (st : ToneStep n offs onlyToneBits (s.toneEntryParity n i bad) u) (ho : 0x010 ∉ offs) (hc : 0x01C ∉ offs) :
    let t := (u.modTone n fun x => { x with play := some p, stop := h }).showTone n
    t.fld (Base.tone n) Reg.Tone.CUR_ENTRY = p.e.idx % 2 ^ 16 ∧ t.fld (Base.tone n) Reg.Tone.PLAYS_LEFT = p.left % 2 ^ 16 ∧
      ToneParity s t n bad i ∧ ToneStep n (offs ++ toneShow) onlyToneBits (s.toneEntryParity n i bad) t := by
  intro t
  have hplay : ((u.modTone n fun x => { x with play := some p, stop := h }).tone n).play = some p := by rw [State.tone_modTone]
  have sm : ToneStep n [] 2147483648 u (u.modTone n fun x => { x with play := some p, stop := h }) := .modTone
  have sw := showTone_step (u.modTone n fun x => { x with play := some p, stop := h }) n
  refine ⟨showTone_cur _ _ hplay, showTone_left hplay, ?_, ?_⟩
  · exact toneParity_same (toneParity_same (toneParity_same toneParity_entry st.regs hc ho) sm.regs (by decide) (by decide))
      sw.regs (by decide) (by decide)
  · exact (st.mono (List.subset_append_left _ _) (by decide)).trans ((sm.mono (List.nil_subset _) (by decide)).trans
      (sw.mono (List.subset_append_right _ _) (by decide)))

theorem toneDrop_step : ToneStep n [0x010, 0x06C] 36028797018965120 s (s.toneDrop n tag) := by
  refine .of_tones ?_ (State.toneDrop_frame _ _ _ (Frame.refl _ _) (by decide)) (by decide)
  unfold State.toneDrop
  exact ((PageRegs.refl.setFld (r := Reg.Tone.DROP_COUNT) (by decide)).raise (by decide)).keep (charge_regs _ _ _)

/-- A dropped command is counted and charged. -/
theorem toneDrop_shows :
    let t := s.toneDrop n tag
    t.fld (Base.tone n) Reg.Tone.DROP_COUNT = min (s.fld (Base.tone n) Reg.Tone.DROP_COUNT + 1) (2 ^ 16 - 1) ∧
      (t.reg (Base.tone n + 0x010)).getLsbD 7 = true ∧ Charged t tag Flag.CMD_FAULT := by
  unfold State.toneDrop
  refine ⟨?_, ?_, charged_flag _ _ (by decide) (.inl rfl)⟩
  · rw [State.fld_congr (charge_regs _ _ _), State.fld_raise_page _ (by decide)]
    exact inc_fld ⟨by decide, by decide⟩
  · rw [State.reg_congr (charge_regs _ _ _)]
    exact State.raise_sets _ _ _ (by decide)

end

section
variable {s : State} {n : Fin 512} {c : TCmd} {cs : List TCmd} {bad : Bool}

/-- START by an enabled engine whose play, if it has one, is not over. -/
theorem toneStart_begins (h : HeadDue s (s.tone n).queue c cs 0x0) (he : s.enabled (Base.tone n) = true)
    (hp : ∀ p, (s.tone n).play = some p → c.step < p.start + 4 * p.e.len) :
    exec (.toneStart n bad) s =
      .next ((s.tonePop n c).toneBegin n (c.arg % 2 ^ 16) c.step c.poster c.tag bad).settle := by
  have he' : (s.tonePop n c).enabled (Base.tone n) = true := by
    unfold State.enabled State.bit at he ⊢
    rwa [(tonePop_step s n c).regs.fld (by decide)]
  show execToneStart n bad s = _
  unfold execToneStart State.toneStart
  simp only [dueCmd_head h, he', Bool.not_true, Bool.false_eq_true, if_false, finish]
  rw [toneCatchUp_early _ _ (by rw [tonePop_tone h]; exact hp)]

/-- The entry that a START names is judged as it was before the command was taken. -/
theorem tonePop_entry (i : Nat) :
    (s.tonePop n c).entry i = s.entry i ∧
      (s.tonePop n c).entryValid ((s.tonePop n c).owner (Base.tone n)) (s.entry i) =
        s.entryValid (s.owner (Base.tone n)) (s.entry i) :=
  ⟨entry_congr ((tonePop_step s n c).frame.bar2 (by decide)) i,
    entryValid_step ((tonePop_step s n c).regs.mono (List.nil_subset _)) _⟩

/-- The state in which START has read its entry. -/
theorem startRead_halted (i k : Nat) {t : State} {w : Nat} (f : Frame w ((s.tonePop n c).toneEntryParity n i bad) t)
    (hw : w.testBit 10 = false) : (t.seq k).halted = (s.seq k).halted := by
  rw [seq_congr (f.seqs hw), seq_congr ((toneEntryParity_step (s := s.tonePop n c) (n := n)).frame.seqs (by decide)), tonePop_halted]

theorem start_idle (h : HeadDue s (s.tone n).queue c cs 0x0) (he : s.enabled (Base.tone n) = true) {i : Nat}
    (hi : c.arg % 2 ^ 16 = i) (hv : s.entryValid (s.owner (Base.tone n)) (s.entry i) = true) (hp : (s.tone n).play = none) :
    ∃ t, exec (.toneStart n bad) s = .next t ∧
      t.tone n = { s.tone n with
        queue := cs, play := some (mkPlay (s.entry i) c.step (s.entry i).rep c.poster c.tag bad)
        stop := (s.seq c.poster).halted } ∧
      t.fld (Base.tone n) Reg.Tone.CUR_ENTRY = i ∧ t.fld (Base.tone n) Reg.Tone.PLAYS_LEFT = (s.entry i).rep ∧
      ToneParity s t n bad i ∧ OnlyToneRead s t n bad toneShow := by
  have key := toneStart_begins (bad := bad) h he fun p e => by rw [hp] at e; cases e
  obtain ⟨hent, hval⟩ := tonePop_entry (s := s) (n := n) (c := c) i
  have st := tonePop_step s n c
  have htone := tonePop_tone h
  have hhalt := startRead_halted (s := s) (n := n) (c := c) (bad := bad) i c.poster (Frame.refl 0 _) (by decide)
  rw [hi] at key
  generalize s.tonePop n c = u at key hent hval st htone hhalt
  have hread : (u.toneEntryParity n i bad).tone n = u.tone n := toneEntryParity_tone n
  rw [toneBegin_valid (by rw [hent]; exact hval.trans hv), toneCut_idle _ _ (by rw [hread, htone]; exact hp), hent, hhalt] at key
  obtain ⟨hcur, hleft, hpar, sb⟩ := toneBegun_shows (s := u) (n := n) (i := i) (bad := bad) (offs := [])
    (p := mkPlay (s.entry i) c.step (s.entry i).rep c.poster c.tag bad) (h := (s.seq c.poster).halted) .refl (by decide) (by decide)
  refine ⟨_, key, ?_, ?_, ?_, ?_, onlyToneRead_of (st.mono (List.Subset.refl _) (by decide)) sb⟩
  · rw [tone_settle, showTone_tone, State.tone_modTone, hread, htone]
  · rw [tone_fld_settle _ _ (by decide), hcur, ← hi]
    exact Nat.mod_mod _ _
  · rw [tone_fld_settle _ _ (by decide), hleft]
    exact Nat.mod_eq_of_lt (entry_rep_lt s i)
  · exact toneParity_before (toneParity_settle hpar) st.regs (by decide)

theorem start_cuts (h : HeadDue s (s.tone n).queue c cs 0x0) (he : s.enabled (Base.tone n) = true) {i : Nat}
    (hi : c.arg % 2 ^ 16 = i) (hv : s.entryValid (s.owner (Base.tone n)) (s.entry i) = true) {p : Play}
    (hp : (s.tone n).play = some p) (hb : c.step < p.start + 4 * p.e.len) :
    ∃ t, exec (.toneStart n bad) s = .next t ∧
      (t.tone n).play = some (mkPlay (s.entry i) c.step (s.entry i).rep c.poster c.tag bad) ∧ (t.tone n).queue = cs ∧
      (t.tone n).cont = none ∧ (∀ g ∈ (t.tone n).grans, g.start < c.step ∧ g.stop ≤ c.step) ∧
      t.fld (Base.tone n) Reg.Tone.CUT_COUNT = min (s.fld (Base.tone n) Reg.Tone.CUT_COUNT + 1) (2 ^ 16 - 1) ∧
      ToneParity s t n bad i ∧ OnlyToneRead s t n bad (0x05C :: 0x070 :: toneShow) := by
  have key := toneStart_begins (bad := bad) h he fun q e => by rw [hp] at e; cases e; exact hb
  obtain ⟨hent, hval⟩ := tonePop_entry (s := s) (n := n) (c := c) i
  have st := tonePop_step s n c
  have htone := tonePop_tone h
  rw [hi] at key
  generalize s.tonePop n c = u at key hent hval st htone
  have hread : (u.toneEntryParity n i bad).tone n = u.tone n := toneEntryParity_tone n
  rw [toneBegin_valid (by rw [hent]; exact hval.trans hv), hent] at key
  obtain ⟨buf, grans, hcut, hcount, sc⟩ := toneCut_playing (u.toneEntryParity n i bad) n (p := p) (by rw [hread, htone]; exact hp) c.step
  obtain ⟨-, -, hpar, sb⟩ := toneBegun_shows (s := u) (i := i) (bad := bad)
    (p := mkPlay (s.entry i) c.step (s.entry i).rep c.poster c.tag bad)
    (h := (((u.toneEntryParity n i bad).toneCut n c.step).seq c.poster).halted)
    (sc.mono (w := onlyToneBits) (List.Subset.refl _) (by decide)) (by decide) (by decide)
  generalize (u.toneEntryParity n i bad).toneCut n c.step = v at key hcut hcount sb hpar sc
  refine ⟨_, key, ?_, ?_, ?_, ?_, ?_, ?_, onlyToneRead_of (st.mono (List.Subset.refl _) (by decide)) sb⟩
  · rw [tone_settle, showTone_tone, State.tone_modTone]
  · rw [tone_settle, showTone_tone, State.tone_modTone, hcut, hread, htone]
  · rw [tone_settle, showTone_tone, State.tone_modTone, hcut]
  · rw [tone_settle, showTone_tone, State.tone_modTone, hcut]
    exact cutGrans_before
  · rw [tone_fld_settle _ _ (by decide), (showTone_step _ n).regs.fld (by decide), State.modTone_fld, hcount,
      toneEntryParity_step.regs.fld (by decide), st.regs.fld (by decide)]
  · exact toneParity_before (toneParity_settle hpar) st.regs (by decide)

theorem start_invalid (h : HeadDue s (s.tone n).queue c cs 0x0) (he : s.enabled (Base.tone n) = true) {i : Nat}
    (hi : c.arg % 2 ^ 16 = i) (hv : s.entryValid (s.owner (Base.tone n)) (s.entry i) = false) (hp : (s.tone n).play = none) :
    ∃ t, exec (.toneStart n bad) s = .next t ∧ t.tone n = { s.tone n with queue := cs } ∧
      (t.reg (Base.tone n + 0x010)).getLsbD 5 = true ∧ Charged t c.tag Flag.CMD_FAULT ∧ Charged t c.tag Flag.SPOILED ∧
      (bad = false → s.bit (Base.tone n) Reg.Hdr.VALID = false →
        t.fld (Base.tone n) Reg.Hdr.CODE = 0x11 ∧ t.fld (Base.tone n) Reg.Hdr.INFO = i) ∧
      ToneParity s t n bad i ∧ OnlyToneRead s t n bad (0x010 :: 0x01C :: toneShow) := by
  have key := toneStart_begins (bad := bad) h he fun p e => by rw [hp] at e; cases e
  obtain ⟨hent, hval⟩ := tonePop_entry (s := s) (n := n) (c := c) i
  have st := tonePop_step s n c
  have htone := tonePop_tone h
  rw [hi] at key
  generalize s.tonePop n c = u at key hent hval st htone
  have hfault : ((u.toneEntryParity n i bad).toneEntryFault n i c.tag).tone n = u.tone n :=
    (toneEntryFault_tone n).trans (toneEntryParity_tone n)
  rw [toneBegin_invalid (by rw [hent]; exact hval.trans hv), toneCut_idle _ _ (by rw [hfault, htone]; exact hp)] at key
  have sf : ToneStep n [0x010, 0x01C] 108086391056893056 (u.toneEntryParity n i bad)
      ((u.toneEntryParity n i bad).toneEntryFault n i c.tag) := toneEntryFault_step
  have sw := showTone_step ((u.toneEntryParity n i bad).toneEntryFault n i c.tag) n
  have hseqs : (((u.toneEntryParity n i bad).toneEntryFault n i c.tag).showTone n).settle.seqs =
      ((u.toneEntryParity n i bad).toneEntryFault n i c.tag).seqs := by
    rw [State.settle_seqs, sw.frame.seqs (by decide)]
  refine ⟨_, key, ?_, ?_, ?_, ?_, ?_, ?_, onlyToneRead_of (i := i) (st.mono (List.Subset.refl _) (by decide)) ?_⟩
  · rw [tone_settle, showTone_tone, hfault, htone]
  · rw [tone_reg_settle _ _ (by decide), sw.regs.reg (by decide)]
    exact toneEntryFault_raises
  · exact charged_congr (charged_flag _ _ (by decide) (.inl rfl)) hseqs
  · exact charged_congr (charged_flag _ _ (by decide) (.inr ⟨rfl, rfl⟩)) hseqs
  · rintro rfl hcap
    have hcap' : u.bit (Base.tone n) Reg.Hdr.VALID = false := by
      unfold State.bit at hcap ⊢
      rwa [st.regs.fld (by decide)]
    rw [tone_fld_settle _ _ (by decide), tone_fld_settle _ _ (by decide), sw.regs.fld (by decide), sw.regs.fld (by decide),
      toneEntryParity_false]
    unfold State.toneEntryFault
    rw [State.fld_congr (charge_regs _ _ _), State.fld_congr (charge_regs _ _ _), State.fld_raise_page _ (by decide),
      State.fld_raise_page _ (by decide)]
    obtain ⟨hc, hinfo, -⟩ := State.err_captures (k := 0x11) (d := i) u hcap'
    exact ⟨hc, hinfo.trans (Nat.mod_eq_of_lt (hi ▸ Nat.lt_of_lt_of_le (Nat.mod_lt _ (by decide)) (by decide)))⟩
  · exact toneParity_before (toneParity_settle (toneParity_same toneParity_entryFault sw.regs (by decide) (by decide))) st.regs
      (by decide)
  · exact (sf.mono (by decide) (by decide)).trans (sw.mono (by decide) (by decide))

theorem start_dropped (h : HeadDue s (s.tone n).queue c cs 0x0) (he : s.enabled (Base.tone n) = false) :
    ∃ t, exec (.toneStart n bad) s = .next t ∧ t.tone n = { s.tone n with queue := cs } ∧
      t.fld (Base.tone n) Reg.Tone.DROP_COUNT = min (s.fld (Base.tone n) Reg.Tone.DROP_COUNT + 1) (2 ^ 16 - 1) ∧
      (t.reg (Base.tone n + 0x010)).getLsbD 7 = true ∧ Charged t c.tag Flag.CMD_FAULT ∧ OnlyTone s t n [0x010, 0x06C] := by
  have st := tonePop_step s n c
  have key : exec (.toneStart n bad) s = .next ((s.tonePop n c).toneDrop n c.tag).settle := by
    have he' : (s.tonePop n c).enabled (Base.tone n) = false := by
      unfold State.enabled State.bit at he ⊢
      rwa [st.regs.fld (by decide)]
    show execToneStart n bad s = _
    unfold execToneStart State.toneStart
    simp only [dueCmd_head h, he', Bool.not_false, if_true, finish]
  obtain ⟨hcount, h7, hch⟩ := toneDrop_shows (s := s.tonePop n c) (n := n) (tag := c.tag)
  have sd : ToneStep n [0x010, 0x06C] 36028797018965120 (s.tonePop n c) ((s.tonePop n c).toneDrop n c.tag) := toneDrop_step
  refine ⟨_, key, ?_, ?_, ?_, charged_congr hch (State.settle_seqs _), ?_⟩
  · rw [tone_settle, tone_congr (sd.frame.tones (by decide)), tonePop_tone h]
  · rw [tone_fld_settle _ _ (by decide), hcount, st.regs.fld (by decide)]
  · rw [tone_reg_settle _ _ (by decide)]
    exact h7
  · exact ((st.mono (w := onlyToneBits) (by decide) (by decide)).trans (sd.mono (by decide) (by decide))).onlyTone (by decide)

/-! ### FDELAY, PHASE and FRAME -/

/-- A command sets a field whose last change is not later than the command's step. -/
theorem byCmd_later {w : Held} {k : Nat} (h : w.step ≤ k) (now v : Nat) : ∃ w', w'.step = k ∧ w.byCmd now k v = (w', v) := by
  unfold Held.byCmd
  rw [if_neg (Nat.not_lt.2 h)]
  exact ⟨_, rfl, rfl⟩

/-- What a command leaves that sets a field of its page and what is held of it. -/
theorem toneField_set {r : Row} {v : Nat} {f : ToneSt → ToneSt} (h : HeadDue s (s.tone n).queue c cs code) (hr : r.fits)
    (ho : r.off + r.stride * 0 < 0x1000) (hs : r.stride * 0 = 0) :
    let t := (((s.tonePop n c).modTone n f).setFld (Base.tone n) r v).settle
    t.fld (Base.tone n) r = v % 2 ^ r.width ∧ t.tone n = f { s.tone n with queue := cs } ∧ OnlyTone s t n [r.off] := by
  refine ⟨?_, ?_, ?_⟩
  · rw [tone_fld_settle _ _ ho, State.fld_setFld_same _ _ hr]
  · rw [tone_settle, State.tone_setFld, State.tone_modTone, tonePop_tone h]
  · exact (((tonePop_step s n c).mono (w := onlyToneBits) (List.nil_subset _) (by decide)).trans
      ((ToneStep.modTone.mono (List.nil_subset _) (by decide)).setFld (by rw [hs]; simp))).onlyTone (by decide)

theorem fdelay_sets (h : HeadDue s (s.tone n).queue c cs 0x4) (hw : (s.tone n).delayWas.step ≤ c.step) :
    ∃ t, exec (.toneFdelay n) s = .next t ∧ t.fld (Base.tone n) Reg.Tone.FDELAY = c.arg % 32 ∧
      (t.tone n).delayWas.step = c.step ∧ (t.tone n).queue = cs ∧ (t.tone n).play = (s.tone n).play ∧ OnlyTone s t n [0x04C] := by
  obtain ⟨w, hstep, e⟩ := byCmd_later (w := ((s.tonePop n c).tone n).delayWas) (k := c.step) (by rw [tonePop_tone h]; exact hw)
    ((s.tonePop n c).fld (Base.tone n) Reg.Tone.FDELAY) (c.arg % 2 ^ 5)
  have key : exec (.toneFdelay n) s = .next (((s.tonePop n c).modTone n fun x => { x with delayWas := w }).setFld (Base.tone n)
      Reg.Tone.FDELAY (c.arg % 2 ^ 5)).settle := by
    show execToneFdelay n s = _
    unfold execToneFdelay
    simp only [dueCmd_head h, e, finish]
  obtain ⟨hf, ht, ho⟩ := toneField_set (r := Reg.Tone.FDELAY) (v := c.arg % 2 ^ 5) (f := fun x => { x with delayWas := w }) h
    ⟨by decide, by decide⟩ (by decide) (by decide)
  exact ⟨_, key, hf.trans (Nat.mod_mod _ _), by rw [ht]; exact hstep, by rw [ht], by rw [ht], ho⟩

theorem phase_sets (h : HeadDue s (s.tone n).queue c cs 0x5) (hw : (s.tone n).phaseWas.step ≤ c.step) :
    ∃ t, exec (.tonePhase n) s = .next t ∧ t.fld (Base.tone n) Reg.Tone.PHASE_REG = c.arg % 2 ^ 16 ∧
      (t.tone n).phaseWas.step = c.step ∧ (t.tone n).queue = cs ∧ (t.tone n).play = (s.tone n).play ∧ OnlyTone s t n [0x048] := by
  obtain ⟨w, hstep, e⟩ := byCmd_later (w := ((s.tonePop n c).tone n).phaseWas) (k := c.step) (by rw [tonePop_tone h]; exact hw)
    ((s.tonePop n c).fld (Base.tone n) Reg.Tone.PHASE_REG) (c.arg % 2 ^ 16)
  have key : exec (.tonePhase n) s = .next (((s.tonePop n c).modTone n fun x => { x with phaseWas := w }).setFld (Base.tone n)
      Reg.Tone.PHASE_REG (c.arg % 2 ^ 16)).settle := by
    show execTonePhase n s = _
    unfold execTonePhase
    simp only [dueCmd_head h, e, finish]
  obtain ⟨hf, ht, ho⟩ := toneField_set (r := Reg.Tone.PHASE_REG) (v := c.arg % 2 ^ 16) (f := fun x => { x with phaseWas := w }) h
    ⟨by decide, by decide⟩ (by decide) (by decide)
  exact ⟨_, key, hf.trans (Nat.mod_mod _ _), by rw [ht]; exact hstep, by rw [ht], by rw [ht], ho⟩

theorem frame_sets (h : HeadDue s (s.tone n).queue c cs 0x6) :
    ∃ t, exec (.toneFrame n) s = .next t ∧ t.fld (Base.tone n) Reg.Tone.FRAME_QUBIT = c.arg % 256 ∧
      t.bit (Base.tone n) Reg.Tone.FRAME_EN = true ∧ t.tone n = { s.tone n with queue := cs, frameStep := c.step } ∧
      OnlyTone s t n [0x050] := by
  have key : exec (.toneFrame n) s = .next ((((s.tonePop n c).modTone n fun x => { x with frameStep := c.step }).setFld (Base.tone n)
      Reg.Tone.FRAME_QUBIT c.arg).setFld (Base.tone n) Reg.Tone.FRAME_EN 1).settle := by
    show execToneFrame n s = _
    unfold execToneFrame
    simp only [dueCmd_head h, finish]
  refine ⟨_, key, ?_, ?_, ?_, ?_⟩
  · rw [tone_fld_settle _ _ (by decide), State.fld_setFld_apart _ _ _ _ ⟨by decide, by decide⟩ (.inr (by decide)),
      State.fld_setFld_same _ _ ⟨by decide, by decide⟩]
    rfl
  · unfold State.bit
    rw [tone_fld_settle _ _ (by decide), State.fld_setFld_same _ _ ⟨by decide, by decide⟩]
    rfl
  · rw [tone_settle, State.tone_setFld, State.tone_setFld, State.tone_modTone, tonePop_tone h]
  · exact (((tonePop_step s n c).mono (w := onlyToneBits) (List.nil_subset _) (by decide)).trans
      (((ToneStep.modTone.mono (List.nil_subset _) (by decide)).setFld (by decide)).setFld (by decide))).onlyTone (by decide)

end

/-- Settles O29: a lemma for each of its cases. -/
theorem toneCommandsStart : Obligations.ToneCommandsStart := by
  unfold Obligations.ToneCommandsStart
  intro n s c cs b x
  refine ⟨fun h bad => ?_, fun h hw => fdelay_sets h hw, fun h hw => phase_sets h hw, fun h => frame_sets h⟩
  exact ⟨fun he hv hp => start_idle h he rfl hv hp, fun p he hv hp hb => start_cuts h he rfl hv hp hb,
    fun he hv hp => start_invalid h he rfl hv hp, fun he => start_dropped h he⟩

end Sys2Proof.Machine
end

section
/-!
O30: JUMP, STOP, KILL and the ENABLE and DISABLE_NOW writes of a tone engine.
-/
namespace Sys2Proof.Machine

/-! ### JUMP -/

section
variable {s : State} {n : Fin 512} {c : TCmd} {cs : List TCmd} {p : Play}

/-- JUMP by an enabled engine during a play. -/
theorem toneJump_taken (h : HeadDue s (s.tone n).queue c cs 0x1) (he : s.enabled (Base.tone n) = true)
    (hp : (s.tone n).play = some p) (hb : c.step < p.start + 4 * p.e.len) (bad : Bool) :
    exec (.toneJump n bad) s = .next ((s.tonePop n c).toneJump n p c).settle := by
  have he' : (s.tonePop n c).enabled (Base.tone n) = true := by
    unfold State.enabled State.bit at he ⊢
    rwa [(tonePop_step s n c).regs.fld (by decide)]
  have hp' : ((s.tonePop n c).tone n).play = some p := by rw [tonePop_tone h]; exact hp
  have early : (s.tonePop n c).toneCatchUp n c.step = s.tonePop n c :=
    toneCatchUp_early _ _ fun q e => by rw [hp'] at e; cases e; exact hb
  show execToneJump n bad s = _
  unfold execToneJump
  simp only [dueCmd_head h, he', early, hp', Bool.not_true, Bool.false_eq_true, if_false, finish]

theorem jump_onTime (h : HeadDue s (s.tone n).queue c cs 0x1) (he : s.enabled (Base.tone n) = true)
    (hp : (s.tone n).play = some p) (hb : c.step + 4 < p.start + 4 * p.e.len) (bad : Bool) :
    ∃ t, exec (.toneJump n bad) s = .next t ∧
      t.tone n = { s.tone n with queue := cs, play := some { p with jump := some ⟨c.arg % 2 ^ 16, c.poster, c.tag⟩ } } ∧
      OnlyTone s t n [] := by
  have e : (s.tonePop n c).toneJump n p c = (s.tonePop n c).modTone n fun x =>
      { x with play := some { p with jump := some ⟨c.arg % 2 ^ 16, c.poster, c.tag⟩ } } := by
    unfold State.toneJump Play.bound
    exact if_pos hb
  refine ⟨_, toneJump_taken h he hp (by omega) bad, ?_, ?_⟩
  · rw [tone_settle, e, State.tone_modTone, tonePop_tone h]
  · rw [e]
    exact (((tonePop_step s n c).mono (w := onlyToneBits) (by decide) (by decide)).trans
      (ToneStep.modTone.mono (by decide) (by decide))).onlyTone (by decide)

theorem jump_late (h : HeadDue s (s.tone n).queue c cs 0x1) (he : s.enabled (Base.tone n) = true)
    (hp : (s.tone n).play = some p) (hb : c.step < p.start + 4 * p.e.len) (hl : p.start + 4 * p.e.len ≤ c.step + 4) (bad : Bool) :
    ∃ t, exec (.toneJump n bad) s = .next t ∧
      t.tone n = { s.tone n with queue := cs, play := some { p with deferred := some ⟨c.arg % 2 ^ 16, c.poster, c.tag⟩ } } ∧
      t.fld (Base.tone n) Reg.Tone.LATE_JUMP_COUNT = min (s.fld (Base.tone n) Reg.Tone.LATE_JUMP_COUNT + 1) (2 ^ 16 - 1) ∧
      (t.reg (Base.tone n + 0x010)).getLsbD 1 = true ∧ Charged t c.tag Flag.LATE_JUMP ∧ OnlyTone s t n [0x010, 0x068] := by
  have st := tonePop_step s n c
  have key := toneJump_taken h he hp hb bad
  have htone := tonePop_tone h
  generalize s.tonePop n c = u at st key htone
  have si : ToneStep n [0x010, 0x068] onlyToneBits u (u.inc (Base.tone n) Reg.Tone.LATE_JUMP_COUNT) :=
    ToneStep.refl.setFld (by decide)
  have hcount : (u.inc (Base.tone n) Reg.Tone.LATE_JUMP_COUNT).fld (Base.tone n) Reg.Tone.LATE_JUMP_COUNT =
      min (u.fld (Base.tone n) Reg.Tone.LATE_JUMP_COUNT + 1) (2 ^ 16 - 1) := inc_fld ⟨by decide, by decide⟩
  have hti : (u.inc (Base.tone n) Reg.Tone.LATE_JUMP_COUNT).tone n = u.tone n := rfl
  have e : u.toneJump n p c =
      (((u.inc (Base.tone n) Reg.Tone.LATE_JUMP_COUNT).raise (Base.tone n) 1).charge c.tag Flag.LATE_JUMP).modTone n fun x =>
        { x with play := some { p with deferred := some ⟨c.arg % 2 ^ 16, c.poster, c.tag⟩ } } := by
    unfold State.toneJump Play.bound
    exact if_neg (Nat.not_lt.2 hl)
  generalize u.inc (Base.tone n) Reg.Tone.LATE_JUMP_COUNT = v at e si hcount hti
  have sr := raise_step v n 1
  have sc := charge_step (v.raise (Base.tone n) 1) n c.tag Flag.LATE_JUMP
  have hch : Charged ((v.raise (Base.tone n) 1).charge c.tag Flag.LATE_JUMP) c.tag Flag.LATE_JUMP :=
    charged_flag _ _ (by decide) (.inl rfl)
  have h1 : ((v.raise (Base.tone n) 1).reg (Base.tone n + 0x010)).getLsbD 1 = true := State.raise_sets _ _ _ (by decide)
  have hraise : (v.raise (Base.tone n) 1).tone n = v.tone n := State.tone_raise ..
  rw [e] at key
  refine ⟨_, key, ?_, ?_, ?_, charged_congr hch (State.settle_seqs _), ?_⟩
  · rw [tone_settle, State.tone_modTone, tone_congr (sc.frame.tones (by decide)), hraise, hti, htone]
  · rw [tone_fld_settle _ _ (by decide), State.modTone_fld, sc.regs.fld (by decide), sr.regs.fld (by decide), hcount,
      st.regs.fld (by decide)]
  · rw [tone_reg_settle _ _ (by decide), State.modTone_reg, sc.regs.reg (by decide)]
    exact h1
  · exact ((st.mono (w := onlyToneBits) (by decide) (by decide)).trans (si.trans ((sr.mono (by decide) (by decide)).trans
      ((sc.mono (by decide) (by decide)).trans (ToneStep.modTone.mono (by decide) (by decide)))))).onlyTone (by decide)

end

/-! ### STOP -/

section
variable {s : State} {n : Nat} {p : Play}

/-- A normal disable leaves the play to its end and discards what it was resolved to. -/
theorem toneEnd_tone (hp : (s.tone n).play = some p) (k : Nat) :
    ∃ buf grans cont, (s.toneEnd n k).tone n = { s.tone n with buf := buf, grans := grans, cont := cont } ∧
      ∀ d, cont ≠ some (some d) := by
  obtain ⟨buf, grans, h⟩ := dropCont_tone s n k
  have e : s.toneEnd n k =
      ((s.dropCont n k).modTone n fun x => { x with cont := if x.cont.isSome then some none else none }).showTone n := by
    unfold State.toneEnd
    simp only [hp]
  rw [e, showTone_tone, State.tone_modTone, h]
  refine ⟨buf, grans, if (s.tone n).cont.isSome then some none else none, rfl, fun d hd => ?_⟩
  split at hd <;> cases hd

theorem toneEnd_idle (hp : (s.tone n).play = none) (k : Nat) : s.toneEnd n k = s := by
  unfold State.toneEnd
  simp only [hp]

theorem toneEnd_step (k : Nat) : ToneStep n (0x05C :: toneShow) 2147483776 s (s.toneEnd n k) := by
  unfold State.toneEnd
  split
  · exact .refl
  · exact ((dropCont_step s n k).mono (by decide) (by decide)).trans ((ToneStep.modTone.mono (by decide) (by decide)).trans
      ((showTone_step _ n).mono (by decide) (by decide)))

end

section
variable {s : State} {n : Fin 512} {c : TCmd} {cs : List TCmd} {p : Play}

theorem stop_pends (h : HeadDue s (s.tone n).queue c cs 0x2) (hp : (s.tone n).play = some p) (hb : c.step < p.start + 4 * p.e.len) :
    ∃ t, exec (.toneStop n) s = .next t ∧ (t.tone n).play = some { p with jump := none, deferred := none } ∧
      (t.tone n).stop = true ∧ (t.tone n).queue = cs ∧ (∀ d, (t.tone n).cont ≠ some (some d)) ∧
      t.enabled (Base.tone n) = s.enabled (Base.tone n) ∧ OnlyTone s t n (0x05C :: toneShow) := by
  have hp' : ((s.tonePop n c).tone n).play = some p := by rw [tonePop_tone h]; exact hp
  have early : (s.tonePop n c).toneCatchUp n c.step = s.tonePop n c :=
    toneCatchUp_early _ _ fun q e => by rw [hp'] at e; cases e; exact hb
  have key : exec (.toneStop n) s = .next (((s.tonePop n c).toneEnd n c.step).modTone n fun x =>
      { x with stop := x.play.isSome, play := x.play.map fun p => { p with jump := none, deferred := none } }).settle := by
    show execToneStop n s = _
    unfold execToneStop
    simp only [dueCmd_head h, early, finish]
  obtain ⟨buf, grans, cont, he, hc⟩ := toneEnd_tone hp' c.step
  have st : ToneStep n (0x05C :: toneShow) onlyToneBits s (((s.tonePop n c).toneEnd n c.step).modTone n fun x =>
      { x with stop := x.play.isSome, play := x.play.map fun p => { p with jump := none, deferred := none } }) :=
    ((tonePop_step s n c).mono (by decide) (by decide)).trans (((toneEnd_step c.step).mono (by decide) (by decide)).trans
      (ToneStep.modTone.mono (by decide) (by decide)))
  refine ⟨_, key, ?_, ?_, ?_, ?_, ?_, st.onlyTone (by decide)⟩
  · rw [tone_settle, State.tone_modTone, he, tonePop_tone h, hp]
    rfl
  · rw [tone_settle, State.tone_modTone, he, tonePop_tone h, hp]
    rfl
  · rw [tone_settle, State.tone_modTone, he, tonePop_tone h]
  · rw [tone_settle, State.tone_modTone, he]
    exact hc
  · unfold State.enabled State.bit
    rw [tone_fld_settle _ _ (by decide), st.regs.fld (by decide)]

end

/-! ### KILL -/

/-- The engine once its play, the continuation and the queued START and JUMP commands have been discarded at step `k`. -/
def State.toneCleared (s : State) (n k : Nat) : State :=
  let u := s.dropCont n k
  let u := match (s.tone n).play with
    | some p => u.dropStream n p k
    | none => u
  u.modTone n fun x =>
    { x with
      play := none
      cont := none
      stop := false
      norm := false
      grans := cutGrans x.grans k
      queue := x.queue.filter fun c => !(c.code == 0x0 || c.code == 0x1) }

/-- The shots of what KILL discards: the plays first, then the queued commands. -/
def toneCutTags (x : ToneSt) : List Tag := (playsOf x.play x.cont).map Play.tag ++ (startsOf x.queue).map TCmd.tag

theorem toneCutTags_length (x : ToneSt) : (toneCutTags x).length = toneGone x x.queue := by
  unfold toneCutTags playsOf toneGone startsOf
  rw [List.length_append, List.length_map, List.length_map, List.length_append]
  rcases x.cont with _ | _ | d <;> rfl

section
variable (s : State) (n k : Nat)

theorem toneCleared_tone : ∃ buf grans, (s.toneCleared n k).tone n =
    { s.tone n with
      play := none, cont := none, stop := false, norm := false, grans := cutGrans grans k, buf := buf
      queue := (s.tone n).queue.filter fun c => !(c.code == 0x0 || c.code == 0x1) } := by
  obtain ⟨buf, grans, h1⟩ := dropCont_tone s n k
  unfold State.toneCleared
  dsimp only
  rw [State.tone_modTone]
  split
  next p _ =>
    obtain ⟨buf', h2⟩ := dropStream_tone (s.dropCont n k) n p k
    exact ⟨buf', grans, by rw [h2, h1]⟩
  · exact ⟨buf, grans, by rw [h1]⟩

theorem toneCleared_step : ToneStep n [0x05C] 2147483776 s (s.toneCleared n k) := by
  unfold State.toneCleared
  dsimp only
  refine ToneStep.trans ?_ (ToneStep.modTone.mono (by decide) (by decide))
  split
  · exact (dropCont_step s n k).trans (dropStream_step _ n _ k)
  · exact dropCont_step s n k

/-- An immediate disable clears the engine, counts what it discarded, and reports it. -/
theorem toneKill_eq :
    let u := s.toneCatchUp n k
    s.toneKill n k = (((u.toneCleared n k).addSat (Base.tone n) Reg.Tone.TRUNC_COUNT (toneGone (u.tone n) (u.tone n).queue)).showTone
      n).truncate (Base.tone n) 3 (toneCutTags (u.tone n)) := by
  intro u
  have hgone : toneGone (u.tone n) (u.tone n).queue =
      (playsOf (u.tone n).play (u.tone n).cont).length + (startsOf (u.tone n).queue).length := by
    rw [← toneCutTags_length, toneCutTags, List.length_append, List.length_map, List.length_map]
  rw [hgone, toneCutTags, truncate_append]
  unfold State.toneKill State.toneCleared
  dsimp only
  rw [show s.toneCatchUp n k = u from rfl]
  rcases (u.tone n).cont with _ | _ | d <;> rcases (u.tone n).play with _ | p <;> rfl

/-- What an immediate disable leaves of the engine as it is at its step. -/
theorem toneKill_tone : ∃ buf grans, (s.toneKill n k).tone n =
    { (s.toneCatchUp n k).tone n with
      play := none, cont := none, stop := false, norm := false, grans := cutGrans grans k, buf := buf
      queue := ((s.toneCatchUp n k).tone n).queue.filter fun c => !(c.code == 0x0 || c.code == 0x1) } := by
  obtain ⟨buf, grans, h⟩ := toneCleared_tone (s.toneCatchUp n k) n k
  refine ⟨buf, grans, ?_⟩
  rw [toneKill_eq, tone_congr (truncate_frame.tones (by decide)), showTone_tone]
  exact h

theorem toneKill_step : ToneStep n (0x010 :: 0x05C :: 0x064 :: toneShow) onlyToneBits (s.toneCatchUp n k) (s.toneKill n k) := by
  rw [toneKill_eq]
  refine ToneStep.trans ?_ (ToneStep.mono (.of_tones truncate_page truncate_frame (by decide)) (by decide) (by decide))
  exact (((toneCleared_step _ n k).mono (by decide) (by decide)).setFld (by decide)).trans
    ((showTone_step _ n).mono (by decide) (by decide))

/-- What an immediate disable discards is counted, reported and charged. -/
theorem toneKill_reports :
    let u := s.toneCatchUp n k
    let t := s.toneKill n k
    t.fld (Base.tone n) Reg.Tone.TRUNC_COUNT =
        min (u.fld (Base.tone n) Reg.Tone.TRUNC_COUNT + toneGone (u.tone n) (u.tone n).queue) (2 ^ 16 - 1) ∧
      (∀ g ∈ toneCutTags (u.tone n), (t.reg (Base.tone n + 0x010)).getLsbD 3 = true ∧ Charged t g Flag.TRUNCATED) := by
  intro u t
  have e : t = _ := toneKill_eq s n k
  rw [e]
  refine ⟨?_, fun g hg => ⟨truncate_raises (List.ne_nil_of_mem hg) (by decide), truncate_charges hg⟩⟩
  rw [truncate_page.fld (by decide), (showTone_step _ n).regs.fld (by decide), addSat_fld ⟨by decide, by decide⟩,
    (toneCleared_step u n k).regs.fld (by decide)]
  rfl

end

section
variable {s : State} {n : Fin 512} {c : TCmd} {cs : List TCmd} {p : Play}

theorem kill_discards (h : HeadDue s (s.tone n).queue c cs 0x3) (hp : (s.tone n).play = some p)
    (hb : c.step < p.start + 4 * p.e.len) :
    ∃ t, exec (.toneKill n) s = .next t ∧ (t.tone n).play = none ∧ (t.tone n).cont = none ∧
      (t.tone n).queue = (cs.filter fun d => !(d.code == 0 || d.code == 1)) ∧
      (∀ g ∈ (t.tone n).grans, g.start < c.step ∧ g.stop ≤ c.step) ∧
      t.fld (Base.tone n) Reg.Tone.TRUNC_COUNT =
        min (s.fld (Base.tone n) Reg.Tone.TRUNC_COUNT + toneGone (s.tone n) cs) (2 ^ 16 - 1) ∧
      (t.reg (Base.tone n + 0x010)).getLsbD 3 = true ∧ Charged t p.tag Flag.TRUNCATED ∧
      t.enabled (Base.tone n) = s.enabled (Base.tone n) ∧ OnlyTone s t n (0x010 :: 0x05C :: 0x064 :: toneShow) := by
  have key : exec (.toneKill n) s = .next ((s.tonePop n c).toneKill n c.step).settle := by
    show execToneKill n s = _
    unfold execToneKill
    simp only [dueCmd_head h, finish]
  have htone := tonePop_tone h
  have st := tonePop_step s n c
  generalize s.tonePop n c = u at key htone st
  have early : u.toneCatchUp n c.step = u :=
    toneCatchUp_early _ _ fun q e => by rw [htone] at e; cases hp.symm.trans e; exact hb
  obtain ⟨buf, grans, hx⟩ := toneKill_tone u n c.step
  obtain ⟨hcount, hcut⟩ := toneKill_reports u n c.step
  have sk := toneKill_step u n c.step
  rw [early] at hx hcount hcut sk
  have hmem : p.tag ∈ toneCutTags (u.tone n) := by
    rw [htone]
    simp [toneCutTags, playsOf, hp]
  have sa := (st.mono (w := onlyToneBits) (List.nil_subset _) (by decide)).trans sk
  refine ⟨_, key, ?_, ?_, ?_, ?_, ?_, ?_, charged_congr (hcut _ hmem).2 (State.settle_seqs _), ?_, sa.onlyTone (by decide)⟩
  · rw [tone_settle, hx]
  · rw [tone_settle, hx]
  · rw [tone_settle, hx, htone]
  · rw [tone_settle, hx]
    exact cutGrans_before
  · rw [tone_fld_settle _ _ (by decide), hcount, st.regs.fld (by decide), htone]
    rfl
  · rw [tone_reg_settle _ _ (by decide)]
    exact (hcut _ hmem).1
  · unfold State.enabled State.bit
    rw [tone_fld_settle _ _ (by decide), sa.regs.fld (by decide)]

end

/-! ### ENABLE and DISABLE_NOW -/

/-- A granted write in the page of tone engine `n` changes only the engine and registers of its page at the given offsets. -/
def OnlyTonePage (s r t : State) (n : Fin 512) (offs : List Nat) : Prop :=
  (∀ m, m ≠ n.val → t.tone m = s.tone m) ∧ KeepsRegs s t (offs.map (Base.tone n + ·)) ∧
    t = { s with
      regs := t.regs, tones := t.tones, seqs := t.seqs, used := r.used, evchs := t.evchs, host := t.host
      msix := t.msix, fns := t.fns, window := t.window }

section
variable {s r u : State} {who : Req} {n : Fin 512} {offs : List Nat}

theorem tone_lt (n : Fin 512) : n.val < pageCount .tone := n.isLt

theorem granted_tone (hg : s.granted who .tone n = some r) (m : Nat) : r.tone m = s.tone m :=
  tone_congr (by rw [granted_rest hg]) m

theorem onlyTonePage_of (hq : Settled s) (hg : s.granted who .tone n = some r) (st : ToneStep n offs 2147483776 r u) :
    OnlyTonePage s r u.settle n offs := by
  have hc := (granted_charged hg).1
  have he : u.edges = [] := (st.frame.edges (by decide)).trans (charged_settled hq hc).1
  have hn : u.errNow = [] := (st.frame.errNow (by decide)).trans (charged_settled hq hc).2
  refine ⟨fun m hm => ?_, fun a ha hi => ?_, ?_⟩
  · rw [tone_settle, st.tone m hm, granted_tone hg]
  · rw [State.settle_reg_keep _ hi, st.regs a ha, granted_reg hg]
  · rw [settle_quiet he hn]
    obtain ⟨A, B, rfl⟩ : ∃ A B, u = { r with regs := A, tones := B } := ⟨_, _, st.frame.eq⟩
    obtain ⟨U, rfl⟩ : ∃ U, r = { s with used := U } := ⟨_, charged_used hq hc⟩
    rfl

theorem tone_enabled_settle (s : State) (n : Fin 512) : s.settle.enabled (Base.tone n) = s.enabled (Base.tone n) := by
  unfold State.enabled State.bit
  rw [tone_fld_settle _ _ (by decide)]

theorem toneSetEnable_step (s : State) (n : Nat) (v : Bool) : ToneStep n [0x008] 2147483776 s (s.setEnable (Base.tone n) v) :=
  ToneStep.refl.setFld (by decide)

theorem toneEnable_enables (hq : Settled s) (hg : s.granted who .tone n = some r) (he : s.enabled (Base.tone n) = false) :
    ∃ t, exec (.toneEnable who n) s = .next t ∧ t.enabled (Base.tone n) = true ∧
      t.tone n = { s.tone n with norm := false, strmSeen := false } ∧ OnlyTonePage s r t n [0x008] := by
  have key : exec (.toneEnable who n) s =
      .next ((r.setEnable (Base.tone n) true).modTone n fun x => { x with norm := false, strmSeen := false }).settle := by
    show finish (s.putEnable who (pageBase .tone n)) = _
    rw [putEnable_granted hg (tone_lt n) rfl (by decide) (.inr he)]
    show finish (r.toneEnable n) = _
    unfold State.toneEnable
    rw [if_neg (by rw [granted_enabled hg, he]; decide)]
    rfl
  refine ⟨_, key, ?_, ?_, onlyTonePage_of hq hg ((toneSetEnable_step r n true).trans (ToneStep.modTone.mono (by decide) (by decide)))⟩
  · rw [tone_enabled_settle, State.modTone_enabled, enabled_setEnable]
  · rw [tone_settle, State.tone_modTone, show (r.setEnable (Base.tone n) true).tone n = r.tone n from State.tone_setFld ..,
      granted_tone hg]

/-- A granted write of 0 to ENABLE of an enabled engine. -/
theorem toneDisable_granted (hg : s.granted who .tone n = some r) (he : s.enabled (Base.tone n) = true) :
    exec (.toneNormalDisable who n) s = .next (((r.setEnable (Base.tone n) false).toneEnd n
      (r.setEnable (Base.tone n) false).nextStep).modTone n fun x => { x with norm := x.play.isSome }).settle := by
  show finish (s.putDisable who (pageBase .tone n)) = _
  rw [putDisable_granted hg (tone_lt n) rfl (by decide) (.inr he)]
  show finish (r.toneDisable n) = _
  unfold State.toneDisable
  rw [if_neg (by rw [granted_enabled hg, he]; decide)]
  rfl

theorem toneDisable_idle (hq : Settled s) (hg : s.granted who .tone n = some r) (he : s.enabled (Base.tone n) = true)
    (hp : (s.tone n).play = none) :
    ∃ t, exec (.toneNormalDisable who n) s = .next t ∧ t.enabled (Base.tone n) = false ∧
      t.tone n = { s.tone n with norm := false } ∧ OnlyTonePage s r t n [0x008] := by
  have key := toneDisable_granted hg he
  have ht : (r.setEnable (Base.tone n) false).tone n = s.tone n :=
    (State.tone_setFld ..).trans (granted_tone hg n)
  rw [toneEnd_idle (by rw [ht]; exact hp)] at key
  refine ⟨_, key, ?_, ?_, onlyTonePage_of hq hg ((toneSetEnable_step r n false).trans (ToneStep.modTone.mono (by decide) (by decide)))⟩
  · rw [tone_enabled_settle, State.modTone_enabled, enabled_setEnable]
  · rw [tone_settle, State.tone_modTone, ht]
    simp only [hp, Option.isSome_none]

theorem toneDisable_playing (hq : Settled s) (hg : s.granted who .tone n = some r) (he : s.enabled (Base.tone n) = true)
    {p : Play} (hp : (s.tone n).play = some p) :
    ∃ t, exec (.toneNormalDisable who n) s = .next t ∧ t.enabled (Base.tone n) = false ∧ (t.tone n).norm = true ∧
      (t.tone n).play = some p ∧ (∀ d, (t.tone n).cont ≠ some (some d)) ∧ OnlyTonePage s r t n (0x008 :: 0x05C :: toneShow) := by
  have key := toneDisable_granted hg he
  have ht : (r.setEnable (Base.tone n) false).tone n = s.tone n :=
    (State.tone_setFld ..).trans (granted_tone hg n)
  have hen : (r.setEnable (Base.tone n) false).enabled (Base.tone n) = false := enabled_setEnable ..
  have ss := toneSetEnable_step r n false
  generalize r.setEnable (Base.tone n) false = u at key ht hen ss
  obtain ⟨buf, grans, cont, hx, hc⟩ := toneEnd_tone (s := u) (n := n) (p := p) (by rw [ht]; exact hp) u.nextStep
  have se := toneEnd_step (s := u) (n := n) u.nextStep
  refine ⟨_, key, ?_, ?_, ?_, ?_, onlyTonePage_of hq hg ((ss.mono (by decide) (by decide)).trans ((se.mono (by decide) (by decide)).trans
    (ToneStep.modTone.mono (by decide) (by decide))))⟩
  · rw [tone_enabled_settle, State.modTone_enabled]
    unfold State.enabled State.bit at hen ⊢
    rw [se.regs.fld (by decide), hen]
  · rw [tone_settle, State.tone_modTone, hx, ht, hp]
    rfl
  · rw [tone_settle, State.tone_modTone, hx, ht, hp]
  · rw [tone_settle, State.tone_modTone, hx]
    exact hc

/-- Catching up with a boundary takes nothing from the queue. -/
theorem toneDecide_queue (s : State) (n : Fin 512) (bad : Bool) : ((s.toneDecide n bad).tone n).queue = (s.tone n).queue := by
  unfold State.toneDecide
  split
  · rfl
  · split
    · rw [State.tone_modTone]
    · dsimp only
      split
      · rw [State.tone_modTone, toneEntryParity_tone]
      · rw [State.tone_modTone, toneEntryFault_tone, toneEntryParity_tone]

theorem toneBoundary_queue (s : State) (n : Fin 512) : ((s.toneBoundary n).tone n).queue = (s.tone n).queue := by
  unfold State.toneBoundary
  split
  · rfl
  · have hq : ((if (s.tone n).cont.isNone then s.toneDecide n false else s).tone n).queue = (s.tone n).queue := by
      split
      · exact toneDecide_queue s n false
      · rfl
    dsimp only
    split
    · rw [showTone_tone, State.tone_modTone, hq]
    · rw [State.tone_raise, showTone_tone, State.tone_modTone, hq]

theorem toneCatchUp_queue (s : State) (n : Fin 512) (k : Nat) : ((s.toneCatchUp n k).tone n).queue = (s.tone n).queue := by
  unfold State.toneCatchUp
  split
  · split
    · exact toneBoundary_queue s n
    · rfl
  · rfl

theorem toneDisableNow_kills (hg : s.granted who .tone n = some r) :
    ∃ t, exec (.toneDisableNow who n) s = .next t ∧ t.enabled (Base.tone n) = false ∧ (t.tone n).play = none ∧
      (t.tone n).cont = none ∧ (t.tone n).queue = ((s.tone n).queue.filter fun d => !(d.code == 0 || d.code == 1)) ∧
      (∀ g ∈ (t.tone n).grans, g.start < 2 * s.count + 2 ∧ g.stop ≤ 2 * s.count + 2) := by
  have key : exec (.toneDisableNow who n) s = .next ((r.toneKill n r.nextStep).setEnable (Base.tone n) false).settle := by
    show finish (s.putCtl who (pageBase .tone n) 1) = _
    rw [putKill_granted hg (tone_lt n) rfl (by decide) (by decide)]
    rfl
  obtain ⟨buf, grans, hx⟩ := toneKill_tone r n r.nextStep
  rw [toneCatchUp_queue, granted_tone hg] at hx
  have ht : ((r.toneKill n r.nextStep).setEnable (Base.tone n) false).settle.tone n = (r.toneKill n r.nextStep).tone n :=
    (tone_settle _ n).trans (State.tone_setFld ..)
  have hstep : r.nextStep = 2 * s.count + 2 := by
    rw [granted_rest hg]
    rfl
  refine ⟨_, key, ?_, ?_, ?_, ?_, ?_⟩
  · rw [tone_enabled_settle, enabled_setEnable]
  · rw [ht, hx]
  · rw [ht, hx]
  · rw [ht, hx]
  · rw [ht, hx, ← hstep]
    exact cutGrans_before

end

/-- Settles O30: a lemma for each of its cases. -/
theorem toneCommandsEnd : Obligations.ToneCommandsEnd := by
  unfold Obligations.ToneCommandsEnd
  refine ⟨fun n s c cs p => ?_, fun who n s r hq hg => ?_⟩
  · intro b x hp hb
    exact ⟨fun bad h he => ⟨fun hj => jump_onTime h he hp hj bad, fun hj => jump_late h he hp hb hj bad⟩,
      fun h => stop_pends h hp hb, fun h => kill_discards h hp hb⟩
  · exact ⟨fun he => toneEnable_enables hq hg he, fun he hp => toneDisable_idle hq hg he hp,
      fun p he hp => toneDisable_playing hq hg he hp, toneDisableNow_kills hg⟩

end Sys2Proof.Machine
end

section
/-!
O34: a write of a partition register by function 0 or management firmware.
-/
namespace Sys2Proof.Machine

/-- The fields of a partition register: first unit and number of units (R169). -/
def partLo (seg : Bool) : Row := if seg then Reg.Fn.ST_BASE else Reg.Fn.PM_BASE
def partSize (seg : Bool) : Row := if seg then Reg.Fn.ST_SIZE else Reg.Fn.PM_SIZE

theorem partLo_fits (seg : Bool) : (partLo seg).fits := by cases seg <;> exact ⟨by decide, by decide⟩
theorem partSize_fits (seg : Bool) : (partSize seg).fits := by cases seg <;> exact ⟨by decide, by decide⟩
theorem partLo_apart (seg : Bool) : (partLo seg).apart (partSize seg) := by cases seg <;> exact .inl (by decide)

/-- The partition that `w` gives function `f` overlaps that of another function. -/
def PartClash (s : State) (f : Fin 64) (seg : Bool) (w : Word) : Prop :=
  ∃ g : Fin 64, g ≠ f ∧ 0 < (partSize seg).get w ∧ 0 < s.fld (Base.fn g) (partSize seg) ∧
    (partLo seg).get w < s.fld (Base.fn g) (partLo seg) + s.fld (Base.fn g) (partSize seg) ∧
    s.fld (Base.fn g) (partLo seg) < (partLo seg).get w + (partSize seg).get w

section
variable {s r : State} {who : Req} {f : Fin 64} {seg : Bool} {w : Word}

/-- A granted write reaches the partition register with the whole word. -/
theorem partitionWrite_granted (hg : s.granted who .fn f = some r) (hw : (reqMgmt who || reqFn0 who) = true) :
    exec (.partitionWrite who f seg w) s = .next (r.partitionWrite f seg w).settle := by
  have hf : f.val < pageCount .fn := f.isLt
  show finish (s.busPut who (pageBase .fn f + (if seg then 0x044 else 0x040)) w) = _
  have hoff : (if seg then 0x044 else 0x040) < 0x1000 ∧ (if seg then 0x044 else 0x040) % 4 = 0 ∧ 0x040 ≤ (if seg then 0x044 else 0x040) ∧
      hasWord .fn (if seg then 0x044 else 0x040) = true := by cases seg <;> decide
  obtain ⟨h1, h2, h3, h4⟩ := hoff
  rw [busPut_granted hg hf h1 h2, pageWrite_block hg h3 h4]
  unfold State.blockWrite State.special State.fnSpecial
  cases seg <;> simp [mergeWord_whole, hw, finish]

theorem clash_iff : ((List.range 64).any fun g => g != f.val &&
    overlap ((partLo seg).get w) ((partSize seg).get w) (s.fld (Base.fn g) (partLo seg)) (s.fld (Base.fn g) (partSize seg))) = true ↔
      PartClash s f seg w := by
  unfold PartClash overlap
  simp only [List.any_eq_true, List.mem_range, Bool.and_eq_true, bne_iff_ne, decide_eq_true_eq]
  constructor
  · rintro ⟨g, hg, hne, ⟨h1, h2⟩, h3, h4⟩
    exact ⟨⟨g, hg⟩, fun e => hne (congrArg Fin.val e), h3, h4, h1, h2⟩
  · rintro ⟨g, hne, h3, h4, h1, h2⟩
    exact ⟨g, g.isLt, fun e => hne (Fin.ext e), ⟨h1, h2⟩, h3, h4⟩

/-- What a write of a partition register does, case by case. -/
theorem partitionWrite_same (h1 : (partLo seg).get w = s.fld (Base.fn f) (partLo seg))
    (h2 : (partSize seg).get w = s.fld (Base.fn f) (partSize seg)) : s.partitionWrite f seg w = s := if_pos ⟨h1, h2⟩

theorem partitionWrite_taken
    (hc : ¬ ((partLo seg).get w = s.fld (Base.fn f) (partLo seg) ∧ (partSize seg).get w = s.fld (Base.fn f) (partSize seg)))
    (hfree : ¬ PartClash s f seg w) (hb : s.playersBusy f = false) :
    s.partitionWrite f seg w =
      (s.setFld (Base.fn f) (partLo seg) ((partLo seg).get w)).setFld (Base.fn f) (partSize seg) ((partSize seg).get w) := by
  refine (if_neg hc).trans (if_neg ?_)
  rw [Bool.or_eq_true, hb]
  exact fun h => h.elim (fun h => hfree (clash_iff.1 h)) (by decide)

theorem partitionWrite_refused
    (hc : ¬ ((partLo seg).get w = s.fld (Base.fn f) (partLo seg) ∧ (partSize seg).get w = s.fld (Base.fn f) (partSize seg)))
    (h : PartClash s f seg w ∨ s.playersBusy f = true) :
    s.partitionWrite f seg w = s.err (Base.fn f) 0x14 (partLo seg).off := by
  refine (if_neg hc).trans (if_pos ?_)
  rw [Bool.or_eq_true]
  exact h.imp clash_iff.2 id

theorem partClash_granted (hg : s.granted who .fn f = some r) : PartClash r f seg w ↔ PartClash s f seg w := by
  unfold PartClash
  simp only [granted_fld hg]

/-- Both fields of a partition register written in a settled state, after a charge. -/
theorem partition_put (hq : Settled s) (hg : s.granted who .fn f = some r) (v m : Nat) :
    let t := ((r.setFld (Base.fn f) (partLo seg) v).setFld (Base.fn f) (partSize seg) m).settle
    t = { s with regs := t.regs, used := r.used } ∧ t.fld (Base.fn f) (partLo seg) = v % 2 ^ (partLo seg).width ∧
      t.fld (Base.fn f) (partSize seg) = m % 2 ^ (partSize seg).width ∧
      ∀ a, a ≠ Base.fn f + (partLo seg).off → t.reg a = s.reg a := by
  intro t
  have hc := (granted_charged hg).1
  have hset := charged_settled hq hc
  have e : t = (r.setFld (Base.fn f) (partLo seg) v).setFld (Base.fn f) (partSize seg) m := settle_quiet hset.1 hset.2
  have hplace : (partSize seg).off + (partSize seg).stride * 0 = (partLo seg).off ∧
      (partLo seg).off + (partLo seg).stride * 0 = (partLo seg).off := by cases seg <;> exact ⟨rfl, rfl⟩
  rw [e]
  refine ⟨?_, ?_, State.fld_setFld_same _ _ (partSize_fits seg) .., fun a ha => ?_⟩
  · obtain ⟨U, rfl⟩ : ∃ U, r = { s with used := U } := ⟨_, charged_used hq hc⟩
    rfl
  · rw [State.fld_setFld_apart _ _ _ _ (partLo_fits seg) ((partLo_apart seg).symm), State.fld_setFld_same _ _ (partLo_fits seg)]
  · rw [State.reg_setFld_ne _ (by rwa [Nat.add_assoc, hplace.1]), State.reg_setFld_ne _ (by rwa [Nat.add_assoc, hplace.2]),
      granted_reg hg]

end

/-- Settles O34: the write changes nothing, or is taken, or is refused. -/
theorem partitionWriteEffect : Obligations.PartitionWriteEffect := by
  unfold Obligations.PartitionWriteEffect
  intro who f seg w s r hq hg hw
  have key := partitionWrite_granted (seg := seg) (w := w) hg hw
  have hc := (granted_charged hg).1
  have hfree : (∀ g, ¬ _) ↔ ¬ PartClash s f seg w := not_exists.symm
  have hval (q : Row) : q.get w % 2 ^ q.width = q.get w := Nat.mod_mod _ _
  show ∃ t, _ ∧ _ ∧ (_ = s.fld (Base.fn f) (partLo seg) ∧ _ = s.fld (Base.fn f) (partSize seg) → _) ∧ _ ∧ _
  by_cases hsame : (partLo seg).get w = s.fld (Base.fn f) (partLo seg) ∧ (partSize seg).get w = s.fld (Base.fn f) (partSize seg)
  · rw [partitionWrite_same (by rw [granted_fld hg, hsame.1]) (by rw [granted_fld hg, hsame.2]), charged_settle hq hc] at key
    have hrest : r = { s with regs := r.regs, used := r.used } := by
      obtain ⟨U, rfl⟩ : ∃ U, r = { s with used := U } := ⟨_, charged_used hq hc⟩
      rfl
    exact ⟨r, key, hrest, fun _ a => granted_reg hg a,
      fun _ => ⟨(granted_fld hg ..).trans hsame.1.symm, (granted_fld hg ..).trans hsame.2.symm, fun a _ => granted_reg hg a⟩,
      fun _ hn => absurd hsame hn⟩
  have hsame' : ¬ ((partLo seg).get w = r.fld (Base.fn f) (partLo seg) ∧ (partSize seg).get w = r.fld (Base.fn f) (partSize seg)) := by
    rwa [granted_fld hg, granted_fld hg]
  by_cases hclear : ¬ PartClash s f seg w ∧ r.playersBusy f = false
  · rw [partitionWrite_taken hsame' (by rw [partClash_granted hg]; exact hclear.1) hclear.2] at key
    obtain ⟨hrest, hlo, hsize, hother⟩ := partition_put (seg := seg) hq hg ((partLo seg).get w) ((partSize seg).get w)
    exact ⟨_, key, hrest, fun h => absurd h hsame, fun _ => ⟨hlo.trans (hval _), hsize.trans (hval _), hother⟩,
      fun hn _ => absurd ⟨hfree.2 hclear.1, hclear.2⟩ hn⟩
  · have hbad : PartClash r f seg w ∨ r.playersBusy f = true := by
      rw [partClash_granted hg]
      by_contra hn
      rw [not_or, Bool.not_eq_true] at hn
      exact hclear hn
    rw [partitionWrite_refused hsame' hbad] at key
    obtain ⟨hregs, hrest, hcap⟩ := charged_err hq hc (Base.fn f) 0x14 (partLo seg).off
    exact ⟨_, key, hrest, fun h => absurd h hsame, fun h => absurd ⟨hfree.1 h.1, h.2⟩ hclear,
      fun _ _ => ⟨hregs, fun hv => (hcap hv).1⟩⟩

end Sys2Proof.Machine
end

section
/-!
O49: the fast part of a flux channel: PLAY, SET, STOP, KILL, play boundaries, re-fetches, and the ENABLE and DISABLE_NOW writes. Each
works on one channel and in the page of that channel.
-/
namespace Sys2Proof.Machine

/-! ### Steps of one flux channel -/

/-- `t` is `s` after operations of flux channel `n` that write registers at the given offsets of its page, and otherwise the fields
whose bits are set. -/
structure FluxStep (n : Nat) (offs : List Nat) (w : Nat) (s t : State) : Prop where
  flux : ∀ m, m ≠ n → t.flux m = s.flux m
  regs : PageRegs (Base.flux n) offs s t
  frame : Frame w s t

/-- The fields that OnlyFlux and OnlyFluxRead let change, as the bits of a frame. -/
abbrev onlyFluxBits : Nat := 108156760473601152
abbrev onlyFluxReadBits : Nat := 108156760494605440

theorem flux_congr {s t : State} (h : t.fluxes = s.fluxes) (m : Nat) : t.flux m = s.flux m := by unfold State.flux; rw [h]

theorem flux_settle (s : State) (m : Nat) : s.settle.flux m = s.flux m := flux_congr s.settle_fluxes m

theorem flux_not_irq {n : Fin 96} {off : Nat} (h : off < 0x1000) : evPage (Base.flux n + off) = false := by
  have : ¬ evPage (Base.flux n + off) = true := by
    have := n.isLt
    rw [evPage_iff]
    unfold Base.flux
    omega
  simpa using this

theorem flux_fld_settle (s : State) (n : Fin 96) {q : Row} {j : Nat} (h : q.off + q.stride * j < 0x1000) :
    s.settle.fld (Base.flux n) q j = s.fld (Base.flux n) q j :=
  s.settle_fld (by rw [Nat.add_assoc]; exact flux_not_irq h)

theorem flux_reg_settle (s : State) (n : Fin 96) {o : Nat} (h : o < 0x1000) :
    s.settle.reg (Base.flux n + o) = s.reg (Base.flux n + o) :=
  s.settle_reg (flux_not_irq h)

theorem flux_enabled_settle (s : State) (n : Fin 96) : s.settle.enabled (Base.flux n) = s.enabled (Base.flux n) := by
  unfold State.enabled State.bit
  rw [flux_fld_settle _ _ (by decide)]

section
variable {n w v : Nat} {offs : List Nat} {s t u : State}

theorem FluxStep.refl : FluxStep n offs w s s := ⟨fun _ _ => rfl, .refl, Frame.refl _ _⟩

theorem FluxStep.trans (h : FluxStep n offs w s t) (k : FluxStep n offs w t u) : FluxStep n offs w s u :=
  ⟨fun m hm => (k.flux m hm).trans (h.flux m hm), h.regs.trans k.regs, h.frame.trans k.frame⟩

theorem FluxStep.mono {l : List Nat} (h : FluxStep n l v s t) (hl : l ⊆ offs) (le : v ||| w = w) : FluxStep n offs w s t :=
  ⟨h.flux, h.regs.mono hl, h.frame.mono le⟩

/-- An operation that changes no channel. -/
theorem FluxStep.of_fluxes (hr : PageRegs (Base.flux n) offs s t) (hf : Frame w s t) (ht : w.testBit 46 = false) :
    FluxStep n offs w s t :=
  ⟨fun m _ => flux_congr (hf.fluxes ht) m, hr, hf⟩

theorem FluxStep.modFlux {f : FluxSt → FluxSt} : FluxStep n [] 70368744177664 s (s.modFlux n f) :=
  ⟨fun _ hm => State.flux_modFlux_ne s f hm, .of_regs rfl, State.modFlux_frame _ _ _ (Frame.refl _ _) (by decide)⟩

theorem FluxStep.setFld {r : Row} {x i : Nat} (ho : r.off + r.stride * i ∈ offs) :
    FluxStep n offs 128 s (s.setFld (Base.flux n) r x i) :=
  .of_fluxes (PageRegs.refl.setFld ho) (State.setFld_frame _ _ _ _ _ (Frame.refl _ _) (by decide)) (by decide)

theorem FluxStep.raise {i : Nat} (ho : 0x010 ∈ offs) : FluxStep n offs 36028797018964096 s (s.raise (Base.flux n) i) :=
  .of_fluxes (PageRegs.refl.raise ho) (State.raise_frame _ _ _ (Frame.refl _ _) (by decide)) (by decide)

theorem FluxStep.enabled (h : FluxStep n offs w s t) (ho : 0x008 ∉ offs) : t.enabled (Base.flux n) = s.enabled (Base.flux n) := by
  unfold State.enabled State.bit
  rw [h.regs.fld (q := Reg.Hdr.ENABLE) ho]

theorem FluxStep.onlyFlux {n : Fin 96} (h : FluxStep n offs w s t) (le : w ||| onlyFluxBits = onlyFluxBits) :
    OnlyFlux s t.settle n offs :=
  ⟨fun m hm => (flux_settle t m).trans (h.flux m hm), h.regs.keepsRegs,
    ((h.frame.mono le).trans ((settle_frame t).mono (by decide))).eq⟩

theorem FluxStep.onlyFluxRead {n : Fin 96} {bad : Bool}
    (h : FluxStep n (if bad then 0x010 :: 0x01C :: offs else offs) (if bad then onlyFluxReadBits else onlyFluxBits) s t) :
    OnlyFluxRead s t.settle n bad offs := by
  refine ⟨fun m hm => (flux_settle t m).trans (h.flux m hm), h.regs.keepsRegs, ?_, ?_⟩
  · rintro rfl
    have f := h.frame.trans ((settle_frame t).mono (by decide))
    exact ⟨f.used (by decide), f.dchs (by decide), f.dwait (by decide)⟩
  · have f : Frame onlyFluxReadBits s t := h.frame.mono (by cases bad <;> decide)
    exact (f.trans ((settle_frame t).mono (by decide))).eq

end

/-! ### What the page shows of a play -/

section
variable (s : State) (n : Nat)

theorem showFlux_step : FluxStep n [0x044] 128 s (s.showFlux n) := by
  unfold State.showFlux
  dsimp only
  split <;> exact (FluxStep.setFld (by decide)).trans (FluxStep.setFld (by decide))

theorem showFlux_flux (m : Nat) : (s.showFlux n).flux m = s.flux m :=
  flux_congr ((showFlux_step s n).frame.fluxes (by decide)) m

theorem showFlux_playing {p : Play} (h : (s.flux n).play = some p) :
    (s.showFlux n).fld (Base.flux n) Reg.Flux.CUR_ENTRY = p.e.idx % 2 ^ 16 ∧
      (s.showFlux n).fld (Base.flux n) Reg.Flux.PLAYS_LEFT = p.left % 2 ^ 16 := by
  unfold State.showFlux
  simp only [h]
  refine ⟨?_, State.fld_setFld_same _ _ ⟨by decide, by decide⟩ ..⟩
  rw [State.fld_setFld_apart _ _ _ _ ⟨by decide, by decide⟩ (.inr (by decide))]
  exact State.fld_setFld_same _ _ ⟨by decide, by decide⟩ ..

theorem showFlux_idle (h : (s.flux n).play = none) :
    (s.showFlux n).fld (Base.flux n) Reg.Flux.CUR_ENTRY = 0xFFFF ∧
      (s.showFlux n).fld (Base.flux n) Reg.Flux.PLAYS_LEFT = 0 := by
  unfold State.showFlux
  simp only [h]
  refine ⟨?_, State.fld_setFld_same _ _ ⟨by decide, by decide⟩ ..⟩
  rw [State.fld_setFld_apart _ _ _ _ ⟨by decide, by decide⟩ (.inr (by decide))]
  exact State.fld_setFld_same _ _ ⟨by decide, by decide⟩ ..

end

/-! ### Entries that are read -/

section
variable {s t u : State} {n : Fin 96} {bad : Bool} {i : Nat} {offs : List Nat} {tag : Tag}

/-- A read of an entry that failed its parity: PARITY and the capture. -/
def State.fluxParityShown (s : State) (n j : Nat) : State := (s.err (Base.flux n) 0x10 j).raise (Base.flux n) 5

theorem fluxEntryParity_false : s.fluxEntryParity n i false = s := rfl

theorem fluxEntryParity_true :
    s.fluxEntryParity n i true = (s.fluxParityShown n i).refetch (shadowAt (stOff (i % 2 ^ 16))) := rfl

theorem fluxEntryParity_step : FluxStep n [0x010, 0x01C] 108086391077896320 s (s.fluxEntryParity n i bad) := by
  cases bad
  · exact .refl
  · rw [fluxEntryParity_true]
    refine .of_fluxes (PageRegs.keep ?_ (refetch_shadow_regs (stOff_lt i))) ?_ (by decide)
    · exact (PageRegs.refl.err (by decide)).raise (by decide)
    · exact refetch_shadow_frame (stOff_lt i)
        (State.raise_frame _ _ _ (State.err_frame _ _ _ _ (Frame.refl _ _) (by decide)) (by decide)) (by decide)

theorem fluxEntryParity_flux (m : Nat) : (s.fluxEntryParity n i bad).flux m = s.flux m :=
  flux_congr (fluxEntryParity_step.frame.fluxes (by decide)) m

theorem fluxParity_entry : FluxParity s (s.fluxEntryParity n i bad) n bad i := by
  rintro rfl
  rw [fluxEntryParity_true, State.reg_congr (refetch_shadow_regs (stOff_lt i)), State.fld_congr (refetch_shadow_regs (stOff_lt i)),
    State.fld_congr (refetch_shadow_regs (stOff_lt i))]
  unfold State.fluxParityShown
  rw [State.fld_raise_page _ (by decide), State.fld_raise_page _ (by decide)]
  refine ⟨State.raise_sets _ _ _ (by decide), fun hv => ?_⟩
  obtain ⟨hc, hi, -⟩ := State.err_captures (k := 0x10) (d := i) s hv
  exact ⟨hc, hi⟩

/-- Later work in the page leaves PARITY and the capture as they are. -/
theorem fluxParity_keep (h : FluxParity s t n bad i) (k : PageRegs (Base.flux n) offs t u) (hc : 0x01C ∉ offs) (ho : 0x010 ∉ offs) :
    FluxParity s u n bad i := by
  intro hb
  rw [k.reg ho, k.fld (q := Reg.Hdr.CODE) hc, k.fld (q := Reg.Hdr.INFO) hc]
  exact h hb

theorem fluxParity_settle (h : FluxParity s t n bad i) : FluxParity s t.settle n bad i := by
  intro hb
  rw [flux_reg_settle t n (by decide), flux_fld_settle t n (by decide), flux_fld_settle t n (by decide)]
  exact h hb

theorem fluxParity_before (h : FluxParity u t n bad i) (k : PageRegs (Base.flux n) offs s u) (hc : 0x01C ∉ offs) :
    FluxParity s t n bad i := by
  refine fun hb => ⟨(h hb).1, fun hv => (h hb).2 ?_⟩
  unfold State.bit at hv ⊢
  rwa [k.fld (q := Reg.Hdr.VALID) hc]

/-- What follows the read of an entry, seen from before the command was taken. -/
theorem onlyFluxRead_of (h : FluxStep n [] onlyFluxBits s u) (k : FluxStep n offs onlyFluxBits (u.fluxEntryParity n i bad) t) :
    OnlyFluxRead s t.settle n bad offs := by
  refine FluxStep.onlyFluxRead ?_
  cases bad
  · exact (h.mono (List.nil_subset _) (by decide)).trans k
  · exact (h.mono (List.nil_subset _) (by decide)).trans
      ((fluxEntryParity_step.mono (by simp) (by decide)).trans (k.mono (by simp) (by decide)))

/-- Whether an entry is valid does not turn on the status in the page of a flux channel. -/
theorem fluxEntryOk_step (h : PageRegs (Base.flux n) [0x010, 0x01C] s t) (e : Entry) :
    t.fluxEntryOk n e = (s.entryValid (s.owner (Base.flux n)) e && !e.strm) := by
  have ho : t.owner (Base.flux n) = s.owner (Base.flux n) := h.fld (by decide)
  have hf (f : Nat) (q : Row) : t.fld (Base.fn f) q = s.fld (Base.fn f) q := by
    unfold State.fld
    rw [h]
    have := n.isLt
    simp only [List.map_cons, List.map_nil, List.mem_cons, List.not_mem_nil, or_false]
    unfold Base.fn Base.flux
    omega
  unfold State.fluxEntryOk State.entryValid State.inSt State.inPm
  simp only [ho, hf]

theorem fluxEntryFault_step : FluxStep n [0x010, 0x01C] 108086391056893056 s (s.fluxEntryFault n i tag) := by
  refine .of_fluxes ?_ (State.fluxEntryFault_frame _ _ _ _ (Frame.refl _ _) (by decide)) (by decide)
  unfold State.fluxEntryFault
  exact ((PageRegs.refl.err (by decide)).raise (by decide)).keep (charge_regs _ _ _)

theorem fluxEntryFault_raises : ((s.fluxEntryFault n i tag).reg (Base.flux n + 0x010)).getLsbD 3 = true := by
  unfold State.fluxEntryFault
  rw [State.reg_congr (charge_regs _ _ _)]
  exact State.raise_sets _ _ _ (by decide)

theorem fluxEntryFault_captures (hv : s.bit (Base.flux n) Reg.Hdr.VALID = false) :
    (s.fluxEntryFault n i tag).fld (Base.flux n) Reg.Hdr.CODE = 0x11 ∧
      (s.fluxEntryFault n i tag).fld (Base.flux n) Reg.Hdr.INFO = i % 2 ^ 24 := by
  unfold State.fluxEntryFault
  rw [State.fld_congr (charge_regs _ _ _), State.fld_congr (charge_regs _ _ _), State.fld_raise_page _ (by decide),
    State.fld_raise_page _ (by decide)]
  obtain ⟨hc, hi, -⟩ := State.err_captures (k := 0x11) (d := i) s hv
  exact ⟨hc, hi⟩

/-- The entry fault of an entry that failed its parity leaves the capture of the parity failure. -/
theorem fluxParity_entryFault : FluxParity s ((s.fluxEntryParity n i bad).fluxEntryFault n i tag) n bad i := by
  rintro rfl
  obtain ⟨h5, hcap⟩ := fluxParity_entry (s := s) (n := n) (i := i) rfl
  unfold State.fluxEntryFault
  rw [State.reg_congr (charge_regs _ _ _), State.fld_congr (charge_regs _ _ _), State.fld_congr (charge_regs _ _ _),
    State.fld_raise_page _ (by decide), State.fld_raise_page _ (by decide)]
  refine ⟨raise_keeps (by rwa [State.reg_err_ne _ (by omega)]), fun hv => ?_⟩
  have hv' : (s.fluxEntryParity n i true).bit (Base.flux n) Reg.Hdr.VALID = true := by
    rw [fluxEntryParity_true]
    unfold State.bit
    rw [State.fld_congr (refetch_shadow_regs (stOff_lt i))]
    unfold State.fluxParityShown
    rw [State.fld_raise_page _ (by decide)]
    exact (State.err_captures s hv).2.2
  obtain ⟨hc, hi⟩ := hcap hv
  obtain ⟨ec, ei⟩ := err_keeps (k := 0x11) (d := i) hv' (by rw [hc]; decide)
  exact ⟨ec.trans hc, ei.trans hi⟩

end

/-! ### Commands -/

section
variable {s : State} {n : Nat} {c : TCmd} {cs : List TCmd}

/-- Taking the head of the queue changes nothing else but the shots that it is charged to. -/
theorem fluxPop_kept (s : State) (n : Nat) (c : TCmd) :
    Frame 1024 (s.modFlux n fun x => { x with queue := x.queue.tail }) (s.fluxPop n c) :=
  State.useTile_frame _ _ _ _ (Frame.refl _ _) (by decide)

theorem fluxPop_step (s : State) (n : Nat) (c : TCmd) : FluxStep n [] 70368744178688 s (s.fluxPop n c) :=
  (FluxStep.modFlux.mono (List.Subset.refl _) (by decide)).trans
    (FluxStep.mono (.of_fluxes (.of_regs ((fluxPop_kept s n c).regs (by decide))) (fluxPop_kept s n c) (by decide))
      (List.Subset.refl _) (by decide))

theorem fluxPop_flux {code : Nat} (h : HeadDue s (s.flux n).queue c cs code) :
    (s.fluxPop n c).flux n = { s.flux n with queue := cs } := by
  rw [flux_congr ((fluxPop_kept s n c).fluxes (by decide)), State.flux_modFlux, h.1]
  rfl

/-- A play whose boundary is still to come needs no catching up. -/
theorem fluxCatchUp_early {k : Nat} (h : ∀ p, (s.flux n).play = some p → k < p.start + 4 * p.e.len) : s.fluxCatchUp n k = s := by
  unfold State.fluxCatchUp
  split
  next p hp => exact if_neg (Nat.not_le.2 (h p hp))
  · rfl

/-- The command is taken while its play, where there is one, goes on. -/
theorem fluxPop_early {code : Nat} (h : HeadDue s (s.flux n).queue c cs code)
    (hp : ∀ p, (s.flux n).play = some p → c.step < p.start + 4 * p.e.len) :
    (s.fluxPop n c).fluxCatchUp n c.step = s.fluxPop n c :=
  fluxCatchUp_early (by rw [fluxPop_flux h]; exact hp)

theorem fluxPop_shut {code : Nat} (h : HeadDue s (s.flux n).queue c cs code) (stop : Nat → Bool) :
    (s.fluxPop n c).fluxShut n stop = (!s.enabled (Base.flux n) || (s.flux n).norm || (s.flux n).stopAt.any stop) := by
  unfold State.fluxShut
  rw [(fluxPop_step s n c).enabled (by decide), fluxPop_flux h]

end

section
variable {s : State} {n : Fin 96} {c : TCmd} {cs : List TCmd} {bad : Bool}

theorem fluxDrop_step (s : State) (n : Nat) (tag : Tag) : FluxStep n [0x010, 0x088] 36028797018965120 s (s.fluxDrop n tag) := by
  refine .of_fluxes ?_ (State.fluxDrop_frame _ _ _ (Frame.refl _ _) (by decide)) (by decide)
  unfold State.fluxDrop
  exact ((PageRegs.refl.setFld (r := Reg.Flux.DROP_COUNT) (by decide)).raise (by decide)).keep (charge_regs _ _ _)

/-- What a PLAY or a SET leaves that is ignored. -/
theorem flux_dropped {code : Nat} (h : HeadDue s (s.flux n).queue c cs code) :
    let t := ((s.fluxPop n c).fluxDrop n c.tag).settle
    t.flux n = { s.flux n with queue := cs } ∧
      t.fld (Base.flux n) Reg.Flux.DROP_COUNT = min (s.fld (Base.flux n) Reg.Flux.DROP_COUNT + 1) (2 ^ 16 - 1) ∧
      (t.reg (Base.flux n + 0x010)).getLsbD 4 = true ∧ Charged t c.tag Flag.CMD_FAULT ∧ OnlyFlux s t n [0x010, 0x088] := by
  intro t
  have sp := fluxPop_step s n c
  have sd := fluxDrop_step (s.fluxPop n c) n c.tag
  have hch : Charged ((s.fluxPop n c).fluxDrop n c.tag) c.tag Flag.CMD_FAULT := charged_flag _ _ (by decide) (.inl rfl)
  refine ⟨?_, ?_, ?_, charged_congr hch (State.settle_seqs _),
    ((sp.mono (w := onlyFluxBits) (by decide) (by decide)).trans (sd.mono (by decide) (by decide))).onlyFlux (by decide)⟩
  · rw [flux_settle, flux_congr (sd.frame.fluxes (by decide)), fluxPop_flux h]
  · rw [flux_fld_settle _ _ (by decide)]
    unfold State.fluxDrop
    rw [State.fld_congr (charge_regs _ _ _), State.fld_raise_page _ (by decide), inc_fld ⟨by decide, by decide⟩,
      sp.regs.fld (by decide)]
    rfl
  · rw [flux_reg_settle _ _ (by decide)]
    unfold State.fluxDrop
    rw [State.reg_congr (charge_regs _ _ _)]
    exact State.raise_sets _ _ _ (by decide)

/-! ### PLAY -/

/-- What plays has been cut at step `k`. -/
theorem fluxCut_playing (s : State) (n : Nat) {p : Play} (hp : (s.flux n).play = some p) (k : Nat) :
    (s.fluxCut n k).flux n =
        { s.flux n with play := none, cont := none, stop := false, stopAt := none, track := (k, none) :: (s.flux n).track.take 15 } ∧
      (s.fluxCut n k).fld (Base.flux n) Reg.Flux.CUT_COUNT = min (s.fld (Base.flux n) Reg.Flux.CUT_COUNT + 1) (2 ^ 16 - 1) ∧
      FluxStep n [0x080] 70368744177792 s (s.fluxCut n k) := by
  unfold State.fluxCut
  rw [if_pos (by rw [hp]; rfl)]
  refine ⟨?_, ?_, (FluxStep.modFlux.mono (by decide) (by decide)).trans ((FluxStep.setFld (by decide)).mono
    (List.Subset.refl _) (by decide))⟩
  · unfold State.inc State.addSat
    rw [State.flux_setFld, State.flux_modFlux]
    rfl
  · rw [inc_fld ⟨by decide, by decide⟩, State.modFlux_fld]
    rfl

theorem fluxCut_idle (s : State) (n : Nat) (hp : (s.flux n).play = none) (k : Nat) : s.fluxCut n k = s := by
  unfold State.fluxCut
  rw [hp]
  rfl

/-- The channel when a PLAY has been let in: the play begins, and what played before is cut. -/
def State.fluxBegin (s : State) (n k : Nat) (p : Play) (stop : Bool) : State :=
  ((s.fluxCut n k).modFlux n fun x => { x with play := some p, stop := stop, stopAt := none }.setTrack k (some p)).showFlux n

theorem fluxBegin_shows (s : State) (n k : Nat) (p : Play) (stop : Bool) :
    let v := s.fluxCut n k
    let t := s.fluxBegin n k p stop
    (t.flux n).play = some p ∧ (t.flux n).queue = (v.flux n).queue ∧ (t.flux n).cont = (v.flux n).cont ∧ (t.flux n).stopAt = none ∧
      t.fld (Base.flux n) Reg.Flux.CUR_ENTRY = p.e.idx % 2 ^ 16 ∧ t.fld (Base.flux n) Reg.Flux.PLAYS_LEFT = p.left % 2 ^ 16 ∧
      FluxStep n [0x044] onlyFluxBits v t := by
  intro v t
  show ((s.fluxBegin n k p stop).flux n).play = _ ∧ ((s.fluxBegin n k p stop).flux n).queue = _ ∧
    ((s.fluxBegin n k p stop).flux n).cont = _ ∧ ((s.fluxBegin n k p stop).flux n).stopAt = _ ∧ _
  have hx : (s.fluxBegin n k p stop).flux n =
      { v.flux n with play := some p, stop := stop, stopAt := none }.setTrack k (some p) := by
    unfold State.fluxBegin
    rw [showFlux_flux, State.flux_modFlux]
  obtain ⟨hcur, hleft⟩ := showFlux_playing (v.modFlux n fun x =>
    { x with play := some p, stop := stop, stopAt := none }.setTrack k (some p)) n (p := p) (by rw [State.flux_modFlux]; rfl)
  rw [hx]
  exact ⟨rfl, rfl, rfl, rfl, hcur, hleft, (FluxStep.modFlux.mono (by decide) (by decide)).trans
    ((showFlux_step _ n).mono (by decide) (by decide))⟩

/-- An entry is judged as it was before the command was taken and before its parity was checked. -/
theorem fluxPop_entry (i : Nat) :
    (s.fluxPop n c).entry i = s.entry i ∧
      ∀ e, ((s.fluxPop n c).fluxEntryParity n i bad).fluxEntryOk n e = (s.entryValid (s.owner (Base.flux n)) e && !e.strm) :=
  ⟨entry_congr ((fluxPop_step s n c).frame.bar2 (by decide)) i, fun e =>
    fluxEntryOk_step (((fluxPop_step s n c).regs.mono (List.nil_subset _)).trans fluxEntryParity_step.regs) e⟩

/-- The channel takes PLAY and SET commands of step `k`: it is enabled, and no disable and no STOP of an earlier step is pending. -/
theorem fluxTakes_open (h : HeadDue s (s.flux n).queue c cs 0x0) (he : s.enabled (Base.flux n) = true) (hn : (s.flux n).norm = false)
    (hs : ∀ k, (s.flux n).stopAt = some k → c.step ≤ k) : ((s.fluxPop n c).fluxShut n fun k => decide (k < c.step)) = false := by
  rw [fluxPop_shut h, he, hn]
  cases hk : (s.flux n).stopAt with
  | none => rfl
  | some k => simpa using hs k hk

/-- PLAY while the channel takes commands, with a valid entry that does not stream. -/
theorem fluxPlay_begins (h : HeadDue s (s.flux n).queue c cs 0x0)
    (hopen : ((s.fluxPop n c).fluxShut n fun k => decide (k < c.step)) = false)
    (hp : ∀ p, (s.flux n).play = some p → c.step < p.start + 4 * p.e.len) {i : Nat} (hi : c.arg % 2 ^ 16 = i)
    (ok : (s.entryValid (s.owner (Base.flux n)) (s.entry i) && !(s.entry i).strm) = true) :
    exec (.fluxPlay n bad) s = .next (((s.fluxPop n c).fluxEntryParity n i bad).fluxBegin n c.step
      (mkPlay (s.entry i) c.step (s.entry i).rep c.poster c.tag bad)
      (((s.fluxPop n c).fluxEntryParity n i bad).seq c.poster).halted).settle := by
  obtain ⟨hent, hval⟩ := fluxPop_entry (s := s) (n := n) (c := c) (bad := bad) i
  show execFluxPlay n bad s = _
  unfold execFluxPlay
  simp only [dueCmd_head h, fluxPop_early h hp, hopen, hi, hent, hval, ok, Bool.false_eq_true, if_false, if_true, finish]
  rfl

theorem fluxPlay_faults (h : HeadDue s (s.flux n).queue c cs 0x0)
    (hopen : ((s.fluxPop n c).fluxShut n fun k => decide (k < c.step)) = false)
    (hp : ∀ p, (s.flux n).play = some p → c.step < p.start + 4 * p.e.len) {i : Nat} (hi : c.arg % 2 ^ 16 = i)
    (ok : (s.entryValid (s.owner (Base.flux n)) (s.entry i) && !(s.entry i).strm) = false) :
    exec (.fluxPlay n bad) s = .next (((((s.fluxPop n c).fluxEntryParity n i bad).fluxEntryFault n i c.tag).fluxCut n
      c.step).showFlux n).settle := by
  obtain ⟨hent, hval⟩ := fluxPop_entry (s := s) (n := n) (c := c) (bad := bad) i
  show execFluxPlay n bad s = _
  unfold execFluxPlay
  simp only [dueCmd_head h, fluxPop_early h hp, hopen, hi, hent, hval, ok, Bool.false_eq_true, if_false, finish]

theorem play_idle (h : HeadDue s (s.flux n).queue c cs 0x0)
    (hopen : ((s.fluxPop n c).fluxShut n fun k => decide (k < c.step)) = false) {i : Nat} (hi : c.arg % 2 ^ 16 = i)
    (ok : (s.entryValid (s.owner (Base.flux n)) (s.entry i) && !(s.entry i).strm) = true) (hp : (s.flux n).play = none) :
    ∃ t, exec (.fluxPlay n bad) s = .next t ∧
      (t.flux n).play = some (mkPlay (s.entry i) c.step (s.entry i).rep c.poster c.tag bad) ∧ (t.flux n).queue = cs ∧
      t.fld (Base.flux n) Reg.Flux.CUR_ENTRY = i ∧ t.fld (Base.flux n) Reg.Flux.PLAYS_LEFT = (s.entry i).rep ∧
      FluxParity s t n bad i ∧ OnlyFluxRead s t n bad [0x044] := by
  have key := fluxPlay_begins (bad := bad) h hopen (fun p e => by rw [hp] at e; cases e) hi ok
  have sp := fluxPop_step s n c
  have hx := (fluxEntryParity_flux (s := s.fluxPop n c) (n := n) (i := i) (bad := bad) n).trans (fluxPop_flux h)
  have hpar := fluxParity_entry (s := s.fluxPop n c) (n := n) (i := i) (bad := bad)
  obtain ⟨hplay, hq, -, -, hcur, hleft, sb⟩ := fluxBegin_shows ((s.fluxPop n c).fluxEntryParity n i bad) n c.step
    (mkPlay (s.entry i) c.step (s.entry i).rep c.poster c.tag bad) (((s.fluxPop n c).fluxEntryParity n i bad).seq c.poster).halted
  rw [fluxCut_idle _ _ (by rw [hx]; exact hp)] at hq sb
  refine ⟨_, key, ?_, ?_, ?_, ?_, ?_, onlyFluxRead_of (sp.mono (List.Subset.refl _) (by decide)) sb⟩
  · rw [flux_settle, hplay]
  · rw [flux_settle, hq, hx]
  · rw [flux_fld_settle _ _ (by decide), hcur, ← hi]
    exact Nat.mod_mod _ _
  · rw [flux_fld_settle _ _ (by decide), hleft]
    exact Nat.mod_eq_of_lt (entry_rep_lt s i)
  · exact fluxParity_before (fluxParity_settle (fluxParity_keep hpar sb.regs (by decide) (by decide))) sp.regs (by decide)

theorem play_cuts (h : HeadDue s (s.flux n).queue c cs 0x0)
    (hopen : ((s.fluxPop n c).fluxShut n fun k => decide (k < c.step)) = false) {i : Nat} (hi : c.arg % 2 ^ 16 = i)
    (ok : (s.entryValid (s.owner (Base.flux n)) (s.entry i) && !(s.entry i).strm) = true) {p : Play}
    (hp : (s.flux n).play = some p) (hb : c.step < p.start + 4 * p.e.len) :
    ∃ t, exec (.fluxPlay n bad) s = .next t ∧
      (t.flux n).play = some (mkPlay (s.entry i) c.step (s.entry i).rep c.poster c.tag bad) ∧ (t.flux n).queue = cs ∧
      (t.flux n).cont = none ∧ (t.flux n).stopAt = none ∧
      t.fld (Base.flux n) Reg.Flux.CUT_COUNT = min (s.fld (Base.flux n) Reg.Flux.CUT_COUNT + 1) (2 ^ 16 - 1) ∧
      FluxParity s t n bad i ∧ OnlyFluxRead s t n bad [0x080, 0x044] := by
  have key := fluxPlay_begins (bad := bad) h hopen (fun q e => by cases hp.symm.trans e; exact hb) hi ok
  have sp := fluxPop_step s n c
  have hx := (fluxEntryParity_flux (s := s.fluxPop n c) (n := n) (i := i) (bad := bad) n).trans (fluxPop_flux h)
  have hpar := fluxParity_entry (s := s.fluxPop n c) (n := n) (i := i) (bad := bad)
  have sr := fluxEntryParity_step (s := s.fluxPop n c) (n := n) (i := i) (bad := bad)
  obtain ⟨hplay, hq, hcont, hstop, -, -, sb⟩ := fluxBegin_shows ((s.fluxPop n c).fluxEntryParity n i bad) n c.step
    (mkPlay (s.entry i) c.step (s.entry i).rep c.poster c.tag bad) (((s.fluxPop n c).fluxEntryParity n i bad).seq c.poster).halted
  obtain ⟨hcut, hcount, sc⟩ := fluxCut_playing ((s.fluxPop n c).fluxEntryParity n i bad) n (p := p) (by rw [hx]; exact hp) c.step
  have sa := (sc.mono (offs := [0x080, 0x044]) (w := onlyFluxBits) (by decide) (by decide)).trans (sb.mono (by decide) (by decide))
  refine ⟨_, key, ?_, ?_, ?_, ?_, ?_, ?_, onlyFluxRead_of (sp.mono (List.Subset.refl _) (by decide)) sa⟩
  · rw [flux_settle, hplay]
  · rw [flux_settle, hq, hcut, hx]
  · rw [flux_settle, hcont, hcut]
  · rw [flux_settle, hstop]
  · rw [flux_fld_settle _ _ (by decide), sb.regs.fld (by decide), hcount, sr.regs.fld (by decide), sp.regs.fld (by decide)]
  · exact fluxParity_before (fluxParity_settle (fluxParity_keep hpar sa.regs (by decide) (by decide))) sp.regs (by decide)

theorem play_invalid (h : HeadDue s (s.flux n).queue c cs 0x0)
    (hopen : ((s.fluxPop n c).fluxShut n fun k => decide (k < c.step)) = false) {i : Nat} (hi : c.arg % 2 ^ 16 = i)
    (ok : (s.entryValid (s.owner (Base.flux n)) (s.entry i) && !(s.entry i).strm) = false) (hp : (s.flux n).play = none) :
    ∃ t, exec (.fluxPlay n bad) s = .next t ∧ t.flux n = { s.flux n with queue := cs } ∧
      (t.reg (Base.flux n + 0x010)).getLsbD 3 = true ∧ Charged t c.tag Flag.CMD_FAULT ∧
      (bad = false → s.bit (Base.flux n) Reg.Hdr.VALID = false →
        t.fld (Base.flux n) Reg.Hdr.CODE = 0x11 ∧ t.fld (Base.flux n) Reg.Hdr.INFO = i) ∧
      FluxParity s t n bad i ∧ OnlyFluxRead s t n bad [0x010, 0x01C, 0x044] := by
  have key := fluxPlay_faults (bad := bad) h hopen (fun p e => by rw [hp] at e; cases e) hi ok
  have sp := fluxPop_step s n c
  have hpop := fluxPop_flux h
  generalize s.fluxPop n c = u at key sp hpop
  have sf : FluxStep n [0x010, 0x01C] 108086391056893056 (u.fluxEntryParity n i bad)
      ((u.fluxEntryParity n i bad).fluxEntryFault n i c.tag) := fluxEntryFault_step
  have hx : ((u.fluxEntryParity n i bad).fluxEntryFault n i c.tag).flux n = { s.flux n with queue := cs } :=
    (flux_congr (sf.frame.fluxes (by decide)) n).trans ((fluxEntryParity_flux n).trans hpop)
  rw [fluxCut_idle _ _ (by rw [hx]; exact hp)] at key
  have sw := showFlux_step ((u.fluxEntryParity n i bad).fluxEntryFault n i c.tag) n
  have hch : Charged ((u.fluxEntryParity n i bad).fluxEntryFault n i c.tag) c.tag Flag.CMD_FAULT :=
    charged_flag _ _ (by decide) (.inl rfl)
  refine ⟨_, key, ?_, ?_, charged_congr hch ?_, ?_, ?_, onlyFluxRead_of (i := i) (sp.mono (List.Subset.refl _) (by decide))
    ((sf.mono (by decide) (by decide)).trans (sw.mono (by decide) (by decide)))⟩
  · rw [flux_settle, showFlux_flux, hx]
  · rw [flux_reg_settle _ _ (by decide), sw.regs.reg (by decide)]
    exact fluxEntryFault_raises
  · rw [State.settle_seqs, sw.frame.seqs (by decide)]
  · rintro rfl hcap
    have hcap' : u.bit (Base.flux n) Reg.Hdr.VALID = false := by
      unfold State.bit at hcap ⊢
      rwa [sp.regs.fld (by decide)]
    rw [flux_fld_settle _ _ (by decide), flux_fld_settle _ _ (by decide), sw.regs.fld (by decide), sw.regs.fld (by decide),
      fluxEntryParity_false]
    obtain ⟨hc, hinfo⟩ := fluxEntryFault_captures (i := i) (tag := c.tag) hcap'
    exact ⟨hc, hinfo.trans (Nat.mod_eq_of_lt (hi ▸ Nat.lt_of_lt_of_le (Nat.mod_lt _ (by decide)) (by decide)))⟩
  · exact fluxParity_before (fluxParity_settle (fluxParity_keep fluxParity_entryFault sw.regs (by decide) (by decide))) sp.regs
      (by decide)

/-- A PLAY that the channel ignores. -/
theorem play_dropped (h : HeadDue s (s.flux n).queue c cs 0x0) (hp : ∀ p, (s.flux n).play = some p → c.step < p.start + 4 * p.e.len)
    (hd : s.enabled (Base.flux n) = false ∨ (s.flux n).norm = true ∨ ∃ k, (s.flux n).stopAt = some k ∧ k < c.step) :
    exec (.fluxPlay n bad) s = .next ((s.fluxPop n c).fluxDrop n c.tag).settle := by
  have hshut : ((s.fluxPop n c).fluxShut n fun k => decide (k < c.step)) = true := by
    rw [fluxPop_shut h]
    obtain he | hn | ⟨k, hk, hlt⟩ := hd
    · simp [he]
    · simp [hn]
    · simp [hk, hlt]
  show execFluxPlay n bad s = _
  unfold execFluxPlay
  simp only [dueCmd_head h, fluxPop_early h hp, hshut, if_true, finish]

/-! ### SET -/

/-- A command sets FLEVEL at its step. -/
theorem setLevel_sets (s : State) (n : Nat) {k : Nat} (h : (s.flux n).levelWas.step ≤ k) (v : Nat) :
    ∃ w : Held, w.step = k ∧ (s.setLevel n k v).flux n = { s.flux n with levelWas := w } ∧
      (s.setLevel n k v).fld (Base.flux n) Reg.Flux.FLEVEL = v % 2 ^ 16 := by
  obtain ⟨w, hw, e⟩ := byCmd_later h (s.fld (Base.flux n) Reg.Flux.FLEVEL) v
  refine ⟨w, hw, ?_, ?_⟩
  · unfold State.setLevel
    rw [State.flux_setFld, State.flux_modFlux, e]
  · unfold State.setLevel
    rw [State.fld_setFld_same _ _ ⟨by decide, by decide⟩, e]
    rfl

theorem setLevel_step (s : State) (n k v : Nat) : FluxStep n [0x040] 70368744177792 s (s.setLevel n k v) :=
  (FluxStep.modFlux.mono (List.nil_subset _) (by decide)).trans ((FluxStep.setFld (by decide)).mono (List.Subset.refl _) (by decide))

theorem setLevel_fastFs (s : State) (n k v : Nat) :
    (s.setLevel n k v).fld (Base.flux n) Reg.Flux.FAST_FS = s.fld (Base.flux n) Reg.Flux.FAST_FS := by
  unfold State.setLevel
  rw [State.fld_setFld_apart _ _ _ _ ⟨by decide, by decide⟩ (.inr (by decide)), State.modFlux_fld]

theorem set_taken (h : HeadDue s (s.flux n).queue c cs 0x1) (he : s.enabled (Base.flux n) = true) (hn : (s.flux n).norm = false)
    (hp : ∀ p, (s.flux n).play = some p → c.step < p.start + 4 * p.e.len) (hs : (s.flux n).stopAt = none)
    (hw : (s.flux n).levelWas.step ≤ c.step) :
    ∃ t, exec (.fluxSet n) s = .next t ∧ t.fld (Base.flux n) Reg.Flux.FLEVEL = c.arg % 2 ^ 16 ∧ (t.flux n).queue = cs ∧
      (t.flux n).levelWas.step = c.step ∧ (t.flux n).play = (s.flux n).play ∧
      t.fld (Base.flux n) Reg.Flux.FAST_FS = s.fld (Base.flux n) Reg.Flux.FAST_FS ∧ OnlyFlux s t n [0x040] := by
  have hopen : ((s.fluxPop n c).fluxShut n fun _ => true) = false := by
    rw [fluxPop_shut h, he, hn, hs]
    rfl
  have key : exec (.fluxSet n) s = .next ((s.fluxPop n c).setLevel n c.step (c.arg % 2 ^ 16)).settle := by
    show execFluxSet n s = _
    unfold execFluxSet
    simp only [dueCmd_head h, fluxPop_early h hp, hopen, Bool.false_eq_true, if_false, finish]
  have sp := fluxPop_step s n c
  obtain ⟨w, hstep, hx, hl⟩ := setLevel_sets (s.fluxPop n c) n (k := c.step) (by rw [fluxPop_flux h]; exact hw) (c.arg % 2 ^ 16)
  rw [fluxPop_flux h] at hx
  refine ⟨_, key, ?_, ?_, ?_, ?_, ?_, ((sp.mono (w := onlyFluxBits) (List.nil_subset _) (by decide)).trans
    ((setLevel_step _ _ _ _).mono (List.Subset.refl _) (by decide))).onlyFlux (by decide)⟩
  · rw [flux_fld_settle _ _ (by decide), hl]
    exact Nat.mod_mod _ _
  · rw [flux_settle, hx]
  · rw [flux_settle, hx]
    exact hstep
  · rw [flux_settle, hx]
  · rw [flux_fld_settle _ _ (by decide), setLevel_fastFs, sp.regs.fld (by decide)]

/-- A SET that the channel ignores. -/
theorem set_dropped (h : HeadDue s (s.flux n).queue c cs 0x1) (hp : ∀ p, (s.flux n).play = some p → c.step < p.start + 4 * p.e.len)
    (hd : s.enabled (Base.flux n) = false ∨ (s.flux n).norm = true ∨ ∃ k, (s.flux n).stopAt = some k ∧ k < c.step) :
    exec (.fluxSet n) s = .next ((s.fluxPop n c).fluxDrop n c.tag).settle := by
  have hshut : ((s.fluxPop n c).fluxShut n fun _ => true) = true := by
    rw [fluxPop_shut h]
    obtain he | hn | ⟨k, hk, hlt⟩ := hd
    · simp [he]
    · simp [hn]
    · simp [hk]
  show execFluxSet n s = _
  unfold execFluxSet
  simp only [dueCmd_head h, fluxPop_early h hp, hshut, if_true, finish]

/-! ### STOP -/

theorem fluxEnd_cont (s : State) (n : Nat) : ∀ d, ((s.fluxEnd n).flux n).cont ≠ some (some d) := by
  intro d hd
  unfold State.fluxEnd at hd
  rw [State.flux_modFlux] at hd
  dsimp only at hd
  split at hd <;> cases hd

theorem flux_stops (h : HeadDue s (s.flux n).queue c cs 0x2) {p : Play} (hp : (s.flux n).play = some p)
    (hb : c.step < p.start + 4 * p.e.len) :
    ∃ t, exec (.fluxStop n) s = .next t ∧ (t.flux n).play = some p ∧ (t.flux n).stop = true ∧ (t.flux n).stopAt = some c.step ∧
      (t.flux n).queue = cs ∧ (∀ d, (t.flux n).cont ≠ some (some d)) ∧ OnlyFlux s t n [] := by
  have key : exec (.fluxStop n) s = .next (((s.fluxPop n c).fluxEnd n).modFlux n fun x =>
      { x with stop := x.play.isSome, stopAt := if x.play.isSome then some c.step else none }).settle := by
    show execFluxStop n s = _
    unfold execFluxStop
    simp only [dueCmd_head h, fluxPop_early h (fun q e => by cases hp.symm.trans e; exact hb), finish]
  have hplay : (((s.fluxPop n c).fluxEnd n).flux n).play = some p := by
    unfold State.fluxEnd
    rw [State.flux_modFlux, fluxPop_flux h]
    exact hp
  have hq : (((s.fluxPop n c).fluxEnd n).flux n).queue = cs := by
    unfold State.fluxEnd
    rw [State.flux_modFlux, fluxPop_flux h]
  have hcont := fluxEnd_cont (s.fluxPop n c) n
  have se : FluxStep n [] 70368744177664 (s.fluxPop n c) ((s.fluxPop n c).fluxEnd n) := FluxStep.modFlux
  refine ⟨_, key, ?_, ?_, ?_, ?_, ?_, (((fluxPop_step s n c).mono (w := onlyFluxBits) (by decide) (by decide)).trans
    ((se.mono (by decide) (by decide)).trans (FluxStep.modFlux.mono (by decide) (by decide)))).onlyFlux (by decide)⟩ <;>
    rw [flux_settle, State.flux_modFlux]
  · exact hplay
  · dsimp only
    rw [hplay]
    rfl
  · dsimp only
    rw [hplay]
    rfl
  · exact hq
  · exact hcont

end

/-! ### KILL -/

/-- The channel once its play, the continuation and the queued PLAY and SET commands have been discarded at step `k`. -/
def State.fluxCleared (s : State) (n k : Nat) : State :=
  s.modFlux n fun x =>
    { x with
      play := none, cont := none, stop := false, norm := false, stopAt := none
      queue := x.queue.filter fun c => !(c.code == 0x0 || c.code == 0x1) }.setTrack k none

/-- The shots of what an immediate disable discards: the plays first, then the queued commands. -/
def fluxCutTags (x : FluxSt) : List Tag := (playsOf x.play x.cont).map Play.tag ++ (startsOf x.queue).map TCmd.tag

theorem fluxGone_eq (x : FluxSt) : fluxGone x x.queue =
    ((fluxCutTags x).length, (playsOf x.play x.cont).length + ((startsOf x.queue).filter fun c => c.code == 0x0).length) := by
  have hplays : ((startsOf x.queue).filter fun c => c.code == 0x0) = x.queue.filter fun c => c.code == 0x0 := by
    unfold startsOf
    rw [List.filter_filter]
    congr 1
    funext c
    cases c.code == 0 <;> rfl
  unfold fluxCutTags
  rw [hplays, List.length_append, List.length_map, List.length_map]
  unfold fluxGone playsOf startsOf
  rw [List.length_append]
  rcases x.cont with _ | _ | d <;> rfl

section
variable (s : State) (n k : Nat)

theorem fluxCleared_flux : (s.fluxCleared n k).flux n =
    { s.flux n with
      play := none, cont := none, stop := false, norm := false, stopAt := none, track := (k, none) :: (s.flux n).track.take 15
      queue := (s.flux n).queue.filter fun c => !(c.code == 0x0 || c.code == 0x1) } := State.flux_modFlux ..

/-- An immediate disable up to its report: the channel is cleared, FLEVEL becomes 0, the plays are counted. -/
def State.fluxKilled (s : State) (n k : Nat) : State :=
  (((s.fluxCleared n k).setLevel n k 0).addSat (Base.flux n) Reg.Flux.TRUNC_COUNT (fluxGone (s.flux n) (s.flux n).queue).2).showFlux n

theorem fluxKill_eq : s.fluxKill n k =
    ((s.fluxCatchUp n k).fluxKilled n k).truncate (Base.flux n) 2 (fluxCutTags ((s.fluxCatchUp n k).flux n)) := by
  unfold State.fluxKill State.fluxKilled
  generalize s.fluxCatchUp n k = u
  rw [fluxGone_eq]
  have hempty (plays : List Play) (cut : List TCmd) :
      (plays.map Play.tag ++ cut.map TCmd.tag).isEmpty = (plays.isEmpty && cut.isEmpty) := by
    cases plays <;> cases cut <;> rfl
  unfold State.truncate fluxCutTags State.fluxCleared
  rw [hempty, List.foldl_append]
  dsimp only
  rcases (u.flux n).cont with _ | _ | d <;> rfl

theorem fluxKilled_step : FluxStep n [0x040, 0x080, 0x044] 70368744177792 s (s.fluxKilled n k) :=
  (FluxStep.modFlux.mono (List.nil_subset _) (by decide)).trans (((setLevel_step _ n k 0).mono (by decide) (by decide)).trans
    (((FluxStep.setFld (by decide)).mono (List.Subset.refl _) (by decide)).trans ((showFlux_step _ n).mono (by decide) (by decide))))

/-- What an immediate disable leaves of the channel and shows in its page. -/
theorem fluxKilled_shows (h : (s.flux n).levelWas.step ≤ k) :
    let t := s.fluxKilled n k
    (∃ w tr, t.flux n = { s.flux n with
      play := none, cont := none, stop := false, norm := false, stopAt := none, track := tr, levelWas := w
      queue := (s.flux n).queue.filter fun c => !(c.code == 0x0 || c.code == 0x1) }) ∧
      t.fld (Base.flux n) Reg.Flux.FLEVEL = 0 ∧
      t.fld (Base.flux n) Reg.Flux.TRUNC_COUNT =
        min (s.fld (Base.flux n) Reg.Flux.TRUNC_COUNT + (fluxGone (s.flux n) (s.flux n).queue).2) (2 ^ 16 - 1) ∧
      t.fld (Base.flux n) Reg.Flux.CUR_ENTRY = 0xFFFF := by
  intro t
  obtain ⟨w, -, hx, hl⟩ := setLevel_sets (s.fluxCleared n k) n (k := k) (by rw [fluxCleared_flux]; exact h) 0
  have sl := setLevel_step (s.fluxCleared n k) n k 0
  have hcl : (s.fluxCleared n k).fld (Base.flux n) Reg.Flux.TRUNC_COUNT = s.fld (Base.flux n) Reg.Flux.TRUNC_COUNT := rfl
  rw [fluxCleared_flux] at hx
  show (∃ w tr, (s.fluxKilled n k).flux n = _) ∧ (s.fluxKilled n k).fld _ _ = _ ∧ (s.fluxKilled n k).fld _ _ = _ ∧
    (s.fluxKilled n k).fld _ _ = _
  unfold State.fluxKilled
  generalize (s.fluxCleared n k).setLevel n k 0 = u at hx hl sl
  have hu : (u.addSat (Base.flux n) Reg.Flux.TRUNC_COUNT (fluxGone (s.flux n) (s.flux n).queue).2).flux n = u.flux n := State.flux_setFld ..
  have sw := showFlux_step (u.addSat (Base.flux n) Reg.Flux.TRUNC_COUNT (fluxGone (s.flux n) (s.flux n).queue).2) n
  refine ⟨⟨w, (k, none) :: (s.flux n).track.take 15, ?_⟩, ?_, ?_, (showFlux_idle _ n (by rw [hu, hx])).1⟩
  · rw [showFlux_flux, hu, hx]
  · rw [sw.regs.fld (by decide)]
    unfold State.addSat
    rw [State.fld_setFld_page _ (by decide), hl]
    rfl
  · rw [sw.regs.fld (by decide), addSat_fld ⟨by decide, by decide⟩, sl.regs.fld (by decide), hcl]
    rfl

end

section
variable {s : State} {n : Fin 96} {c : TCmd} {cs : List TCmd} {p : Play}

theorem flux_killed (h : HeadDue s (s.flux n).queue c cs 0x3) (hp : (s.flux n).play = some p) (hb : c.step < p.start + 4 * p.e.len)
    (hw : (s.flux n).levelWas.step ≤ c.step) :
    ∃ t, exec (.fluxKill n) s = .next t ∧ (t.flux n).play = none ∧ (t.flux n).cont = none ∧
      (t.flux n).queue = (cs.filter fun d => !(d.code == 0 || d.code == 1)) ∧ t.fld (Base.flux n) Reg.Flux.FLEVEL = 0 ∧
      t.fld (Base.flux n) Reg.Flux.TRUNC_COUNT =
        min (s.fld (Base.flux n) Reg.Flux.TRUNC_COUNT + (fluxGone (s.flux n) cs).2) (2 ^ 16 - 1) ∧
      t.fld (Base.flux n) Reg.Flux.CUR_ENTRY = 0xFFFF ∧ (t.reg (Base.flux n + 0x010)).getLsbD 2 = true ∧
      Charged t p.tag Flag.TRUNCATED ∧ t.enabled (Base.flux n) = s.enabled (Base.flux n) ∧
      OnlyFlux s t n [0x010, 0x040, 0x080, 0x044] := by
  have hx := fluxPop_flux h
  have sp := fluxPop_step s n c
  have key : exec (.fluxKill n) s =
      .next (((s.fluxPop n c).fluxKilled n c.step).truncate (Base.flux n) 2 (fluxCutTags ((s.fluxPop n c).flux n))).settle := by
    show execFluxKill n s = _
    unfold execFluxKill
    simp only [dueCmd_head h, fluxKill_eq, fluxPop_early h (fun q e => by cases hp.symm.trans e; exact hb), finish]
  generalize s.fluxPop n c = u at key hx sp
  obtain ⟨⟨w, tr, hk⟩, hl, hcount, hcur⟩ := fluxKilled_shows u n c.step (by rw [hx]; exact hw)
  have sk := fluxKilled_step u n c.step
  generalize u.fluxKilled n c.step = v at key hk hl hcount hcur sk
  have hmem : p.tag ∈ fluxCutTags (u.flux n) := by
    rw [hx]
    simp [fluxCutTags, playsOf, hp]
  have pt : PageRegs (Base.flux n) [0x010] v (v.truncate (Base.flux n) 2 (fluxCutTags (u.flux n))) := truncate_page
  have st : FluxStep n [0x010] 36028797018965120 v (v.truncate (Base.flux n) 2 (fluxCutTags (u.flux n))) :=
    .of_fluxes pt truncate_frame (by decide)
  have hv : (v.truncate (Base.flux n) 2 (fluxCutTags (u.flux n))).settle.flux n = v.flux n :=
    (flux_settle _ n).trans (flux_congr (st.frame.fluxes (by decide)) n)
  have sa := (sp.mono (offs := [0x010, 0x040, 0x080, 0x044]) (w := onlyFluxBits) (by decide) (by decide)).trans
    ((sk.mono (by decide) (by decide)).trans (st.mono (by decide) (by decide)))
  refine ⟨_, key, ?_, ?_, ?_, ?_, ?_, ?_, ?_, charged_congr (truncate_charges hmem) (State.settle_seqs _), ?_, sa.onlyFlux (by decide)⟩
  · rw [hv, hk]
  · rw [hv, hk]
  · rw [hv, hk, hx]
  · rw [flux_fld_settle _ _ (by decide), pt.fld (by decide), hl]
  · rw [flux_fld_settle _ _ (by decide), pt.fld (by decide), hcount, sp.regs.fld (by decide), hx]
    rfl
  · rw [flux_fld_settle _ _ (by decide), pt.fld (by decide), hcur]
  · rw [flux_reg_settle _ _ (by decide)]
    exact truncate_raises (List.ne_nil_of_mem hmem) (by decide)
  · rw [flux_enabled_settle, sa.enabled (by decide)]

end

end Sys2Proof.Machine
end

section
/-!
O49, continued: the decision points and boundaries of a flux channel's plays, re-fetches, and the ENABLE and DISABLE_NOW writes.
-/
namespace Sys2Proof.Machine

/-! ### Decision points and boundaries -/

section
variable {s : State} {n : Fin 96} {p : Play} {bad : Bool}

theorem resolve_ended {x : FluxSt} (h : x.stop = true ∨ x.norm = true) : x.resolve p = none := by
  unfold FluxSt.resolve
  obtain h | h := h <;> simp [h]

theorem resolve_last {x : FluxSt} (hs : x.stop = false) (hn : x.norm = false) (hh : p.e.hold = false) (hl : p.left = 0)
    (he : p.e.next = 0xFFFF) : x.resolve p = none := by
  unfold FluxSt.resolve
  simp [hs, hn, hh, hl, he]

/-- A play that goes on repeats its entry, held or with a play less left, or goes to the next entry. -/
theorem resolve_goesOn {x : FluxSt} {rep : Nat → Nat} {i left : Nat} (hs : x.stop = false) (hn : x.norm = false)
    (h : p.e.hold = true ∧ i = p.e.idx ∧ left = p.left ∨ p.e.hold = false ∧ 0 < p.left ∧ i = p.e.idx ∧ left + 1 = p.left ∨
      p.e.hold = false ∧ p.left = 0 ∧ p.e.next ≠ 0xFFFF ∧ i = p.e.next ∧ left = rep i) :
    ∃ l, x.resolve p = some (i, l) ∧ l.getD (rep i) = left := by
  unfold FluxSt.resolve
  simp only [hs, hn, Bool.or_self, Bool.false_eq_true, if_false]
  obtain ⟨hh, rfl, rfl⟩ | ⟨hh, hpos, rfl, hl⟩ | ⟨hh, hl, hne, rfl, rfl⟩ := h
  · exact ⟨some p.left, by rw [if_pos hh], rfl⟩
  · exact ⟨some (p.left - 1), by rw [if_neg (by simp [hh]), if_pos hpos], by simp only [Option.getD_some]; omega⟩
  · exact ⟨none, by rw [if_neg (by simp [hh]), if_neg (by omega), if_neg hne], rfl⟩

/-- At its decision point a play is resolved. -/
theorem boundary_decides (hp : (s.flux n).play = some p) (hc : (s.flux n).cont = none) (h4 : 4 ≤ p.start + 4 * p.e.len)
    (hd : p.start + 4 * p.e.len < 2 * (s.count + 2) + 4) : exec (.fluxPlayBoundary n bad) s = .next (s.fluxDecide n bad).settle := by
  have hdue : s.due (p.bound - 4) = true := by
    unfold State.due Play.bound
    exact decide_eq_true (by omega)
  show execFluxPlayBoundary n bad s = _
  unfold execFluxPlayBoundary
  simp only [hp, hc, hdue, Option.isNone_none, if_true, finish]

/-- At its boundary a play that has been resolved goes there. -/
theorem boundary_goes (hp : (s.flux n).play = some p) (hc : (s.flux n).cont ≠ none)
    (hd : p.start + 4 * p.e.len < 2 * (s.count + 2)) : exec (.fluxPlayBoundary n bad) s = .next (s.fluxBoundary n).settle := by
  have hdue : s.due p.bound = true := decide_eq_true hd
  have hc' : (s.flux n).cont.isNone = false := Option.isNone_eq_false_iff.2 (Option.isSome_iff_ne_none.2 hc)
  show execFluxPlayBoundary n bad s = _
  unfold execFluxPlayBoundary
  simp only [hp, hc', hdue, Bool.false_eq_true, if_false, if_true, finish]

theorem fluxDecide_play (s : State) (n : Fin 96) (bad : Bool) : ((s.fluxDecide n bad).flux n).play = (s.flux n).play := by
  unfold State.fluxDecide
  split
  · rfl
  · split
    · rw [State.flux_modFlux]
    · dsimp only
      split
      · rw [State.flux_modFlux, fluxEntryParity_flux]
      · rw [State.flux_modFlux, flux_congr (fluxEntryFault_step.frame.fluxes (by decide)), fluxEntryParity_flux]

/-- A play that ends resolves to END. -/
theorem fluxDecide_end (hp : (s.flux n).play = some p) (hr : (s.flux n).resolve p = none) :
    ((s.fluxDecide n bad).settle.flux n).cont = some none ∧ OnlyFlux s (s.fluxDecide n bad).settle n [] := by
  have e : s.fluxDecide n bad = s.modFlux n fun x => { x with cont := some none } := by
    unfold State.fluxDecide
    simp only [hp, hr]
  rw [e]
  refine ⟨?_, FluxStep.modFlux.onlyFlux (by decide)⟩
  rw [flux_settle, State.flux_modFlux]

/-- A play that goes on resolves to a play of a valid entry that does not stream. -/
theorem fluxDecide_next {i left : Nat} {l : Option Nat} (hp : (s.flux n).play = some p)
    (hr : (s.flux n).resolve p = some (i, l)) (hl : l.getD (s.entry i).rep = left)
    (hv : s.entryValid (s.owner (Base.flux n)) (s.entry i) = true) (hm : (s.entry i).strm = false) :
    ((s.fluxDecide n bad).settle.flux n).cont = some (some (mkPlay (s.entry i) p.bound left p.poster p.tag bad)) ∧
      FluxParity s (s.fluxDecide n bad).settle n bad i ∧ OnlyFluxRead s (s.fluxDecide n bad).settle n bad [] := by
  have ok : (s.fluxEntryParity n i bad).fluxEntryOk n (s.entry i) = true := by
    rw [fluxEntryOk_step fluxEntryParity_step.regs, hv, hm]
    rfl
  have e : s.fluxDecide n bad = (s.fluxEntryParity n i bad).modFlux n fun x =>
      { x with cont := some (some (mkPlay (s.entry i) p.bound left p.poster p.tag bad)) } := by
    unfold State.fluxDecide
    simp only [hp, hr, ok, if_true, hl]
  rw [e]
  refine ⟨?_, fluxParity_settle (fluxParity_keep fluxParity_entry (FluxStep.modFlux.regs) (by simp) (by simp)),
    onlyFluxRead_of (u := s) .refl (FluxStep.modFlux.mono (by simp) (by decide))⟩
  rw [flux_settle, State.flux_modFlux]

/-- The channel after a play that ended at step `k`, and after one that went on to play `d`. -/
def FluxSt.playEnded (k : Nat) (x : FluxSt) : FluxSt :=
  { x with play := none, cont := none, stop := false, norm := false, stopAt := none }.setTrack k none
def FluxSt.playNext (k : Nat) (d : Play) (x : FluxSt) : FluxSt := { x with play := some d, cont := none }.setTrack k (some d)

theorem fluxBoundary_end (hp : (s.flux n).play = some p) (hc : (s.flux n).cont = some none) :
    s.fluxBoundary n = ((s.modFlux n (.playEnded p.bound)).showFlux n).raise (Base.flux n) 0 := by
  unfold State.fluxBoundary
  simp only [hp, hc, Option.isNone_some, Bool.false_eq_true, if_false]
  rfl

theorem fluxBoundary_next {d : Play} (hp : (s.flux n).play = some p) (hc : (s.flux n).cont = some (some d)) :
    s.fluxBoundary n = (s.modFlux n (.playNext p.bound d)).showFlux n := by
  unfold State.fluxBoundary
  simp only [hp, hc, Option.isNone_some, Bool.false_eq_true, if_false]
  rfl

theorem play_ends (hp : (s.flux n).play = some p) (hc : (s.flux n).cont = some none) :
    let t := (s.fluxBoundary n).settle
    (t.flux n).play = none ∧ (t.flux n).cont = none ∧ (t.flux n).stop = false ∧ (t.flux n).norm = false ∧
      t.fld (Base.flux n) Reg.Flux.CUR_ENTRY = 0xFFFF ∧ t.fld (Base.flux n) Reg.Flux.PLAYS_LEFT = 0 ∧
      (t.reg (Base.flux n + 0x010)).getLsbD 0 = true ∧ OnlyFlux s t n [0x010, 0x044] := by
  rw [fluxBoundary_end hp hc]
  have hx := State.flux_modFlux s n (.playEnded p.bound)
  have sm : FluxStep n [] 70368744177664 s (s.modFlux n (.playEnded p.bound)) := .modFlux
  generalize s.modFlux n (.playEnded p.bound) = u at hx sm ⊢
  obtain ⟨hcur, hleft⟩ := showFlux_idle u n (by rw [hx]; rfl)
  have sr : FluxStep n [0x010] 36028797018964096 (u.showFlux n) ((u.showFlux n).raise (Base.flux n) 0) := .raise (by decide)
  intro t
  have ht : t.flux n = (s.flux n).playEnded p.bound := by
    rw [flux_settle, flux_congr (sr.frame.fluxes (by decide)), showFlux_flux, hx]
  rw [ht]
  refine ⟨rfl, rfl, rfl, rfl, ?_, ?_, ?_, ((sm.mono (w := onlyFluxBits) (by decide) (by decide)).trans
    (((showFlux_step u n).mono (by decide) (by decide)).trans (sr.mono (by decide) (by decide)))).onlyFlux (by decide)⟩
  · rw [flux_fld_settle _ _ (by decide), sr.regs.fld (by decide), hcur]
  · rw [flux_fld_settle _ _ (by decide), sr.regs.fld (by decide), hleft]
  · rw [flux_reg_settle _ _ (by decide)]
    exact State.raise_sets _ _ _ (by decide)

theorem play_goesOn {d : Play} (hp : (s.flux n).play = some p) (hc : (s.flux n).cont = some (some d)) :
    let t := (s.fluxBoundary n).settle
    (t.flux n).play = some d ∧ (t.flux n).cont = none ∧ t.fld (Base.flux n) Reg.Flux.CUR_ENTRY = d.e.idx % 2 ^ 16 ∧
      t.fld (Base.flux n) Reg.Flux.PLAYS_LEFT = d.left % 2 ^ 16 ∧ OnlyFlux s t n [0x044] := by
  rw [fluxBoundary_next hp hc]
  have hx := State.flux_modFlux s n (.playNext p.bound d)
  have sm : FluxStep n [] 70368744177664 s (s.modFlux n (.playNext p.bound d)) := .modFlux
  generalize s.modFlux n (.playNext p.bound d) = u at hx sm ⊢
  obtain ⟨hcur, hleft⟩ := showFlux_playing u n (p := d) (by rw [hx]; rfl)
  intro t
  have ht : t.flux n = (s.flux n).playNext p.bound d := by rw [flux_settle, showFlux_flux, hx]
  rw [ht, flux_fld_settle _ _ (by decide), flux_fld_settle _ _ (by decide)]
  exact ⟨rfl, rfl, hcur, hleft, ((sm.mono (w := onlyFluxBits) (by decide) (by decide)).trans
    ((showFlux_step u n).mono (by decide) (by decide))).onlyFlux (by decide)⟩

/-! ### Re-fetches -/

theorem fluxRefetch_returns (h : s.frozen = false) :
    ∃ t, exec (.fluxRefetchComplete n) s = .next t ∧
      (t.flux n).refetch = ((s.flux n).refetch.filter fun i => s.refetchOut (shadowAt (8 * (i % 2 ^ 22)))) ∧
      (t.flux n).play = (s.flux n).play.map (fun p =>
        { p with bad := p.bad && s.refetchOut (shadowAt (stOff (p.e.idx % 2 ^ 16))) }) ∧
      (t.flux n).queue = (s.flux n).queue ∧ OnlyFlux s t n [] := by
  have key : exec (.fluxRefetchComplete n) s = .next (s.modFlux n fun x =>
      { x with
        refetch := s.recordsOut x.refetch
        play := x.play.map s.playBack
        cont := x.cont.map fun c => c.map s.playBack
        track := x.track.map fun e => (e.1, e.2.map s.playBack) }).settle := by
    show execFluxRefetchComplete n s = _
    unfold execFluxRefetchComplete
    rw [h]
    rfl
  refine ⟨_, key, ?_, ?_, ?_, FluxStep.modFlux.onlyFlux (by decide)⟩ <;> rw [flux_settle, State.flux_modFlux] <;> rfl

end

/-! ### ENABLE and DISABLE_NOW -/

/-- A granted write in the page of flux channel `n` changes only the channel and registers of its page at the given offsets. -/
def OnlyFluxPage (s r t : State) (n : Fin 96) (offs : List Nat) : Prop :=
  (∀ m, m ≠ n.val → t.flux m = s.flux m) ∧ (∀ a, a ∉ offs.map (Base.flux n + ·) → t.reg a = s.reg a) ∧
    t = { s with regs := t.regs, fluxes := t.fluxes, used := r.used }

section
variable {s r u : State} {who : Req} {n : Fin 96} {offs : List Nat}

theorem flux_lt (n : Fin 96) : n.val < pageCount .flux := n.isLt

theorem granted_flux (hg : s.granted who .flux n = some r) (m : Nat) : r.flux m = s.flux m :=
  flux_congr (by rw [granted_rest hg]) m

theorem onlyFluxPage_of (hq : Settled s) (hg : s.granted who .flux n = some r) (st : FluxStep n offs 70368744177792 r u) :
    OnlyFluxPage s r u.settle n offs := by
  have hc := (granted_charged hg).1
  obtain ⟨hre, hrn⟩ := charged_settled hq hc
  rw [settle_quiet ((st.frame.edges (by decide)).trans hre) ((st.frame.errNow (by decide)).trans hrn)]
  refine ⟨fun m hm => (st.flux m hm).trans (granted_flux hg m), fun a ha => (st.regs a ha).trans (granted_reg hg a), ?_⟩
  obtain ⟨A, B, rfl⟩ : ∃ A B, u = { r with regs := A, fluxes := B } := ⟨_, _, st.frame.eq⟩
  obtain ⟨U, rfl⟩ : ∃ U, r = { s with used := U } := ⟨_, charged_used hq hc⟩
  rfl

theorem fluxSetEnable_step (s : State) (n : Nat) (v : Bool) : FluxStep n [0x008] 70368744177792 s (s.setEnable (Base.flux n) v) :=
  (FluxStep.setFld (by decide)).mono (List.Subset.refl _) (by decide)

theorem fluxSetEnable_flux (s : State) (b : Nat) (v : Bool) (m : Nat) : (s.setEnable b v).flux m = s.flux m := State.flux_setFld ..

theorem fluxEnable_enables (hq : Settled s) (hg : s.granted who .flux n = some r) (he : s.enabled (Base.flux n) = false) :
    ∃ t, exec (.fluxEnable who n) s = .next t ∧ t.enabled (Base.flux n) = true ∧
      t.flux n = { s.flux n with norm := false, ringSeen := false } ∧ OnlyFluxPage s r t n [0x008] := by
  have key : exec (.fluxEnable who n) s =
      .next ((r.setEnable (Base.flux n) true).modFlux n fun x => { x with norm := false, ringSeen := false }).settle := by
    show finish (s.putEnable who (pageBase .flux n)) = _
    rw [putEnable_granted hg (flux_lt n) rfl (by decide) (.inr he)]
    show finish (r.fluxEnable n) = _
    unfold State.fluxEnable
    rw [if_neg (by rw [granted_enabled hg, he]; decide)]
    rfl
  refine ⟨_, key, ?_, ?_, onlyFluxPage_of hq hg ((fluxSetEnable_step r n true).trans (FluxStep.modFlux.mono (by decide) (by decide)))⟩
  · rw [flux_enabled_settle, State.modFlux_enabled, enabled_setEnable]
  · rw [flux_settle, State.flux_modFlux, fluxSetEnable_flux, granted_flux hg]

/-- A granted write of 0 to ENABLE of an enabled channel: its play goes on to its end. -/
theorem fluxDisable_pends (hq : Settled s) (hg : s.granted who .flux n = some r) (he : s.enabled (Base.flux n) = true) :
    ∃ t, exec (.fluxNormalDisable who n) s = .next t ∧ t.enabled (Base.flux n) = false ∧
      (t.flux n).norm = (s.flux n).play.isSome ∧ (t.flux n).play = (s.flux n).play ∧ (∀ d, (t.flux n).cont ≠ some (some d)) ∧
      (t.flux n).dcq = (s.flux n).dcq ∧ OnlyFluxPage s r t n [0x008] := by
  have key : exec (.fluxNormalDisable who n) s =
      .next (((r.setEnable (Base.flux n) false).fluxEnd n).modFlux n fun x => { x with norm := x.play.isSome }).settle := by
    show finish (s.putDisable who (pageBase .flux n)) = _
    rw [putDisable_granted hg (flux_lt n) rfl (by decide) (.inr he)]
    show finish (r.fluxDisable n) = _
    unfold State.fluxDisable
    rw [if_neg (by rw [granted_enabled hg, he]; decide)]
    rfl
  have hcont := fluxEnd_cont (r.setEnable (Base.flux n) false) n
  have se : FluxStep n [] 70368744177664 (r.setEnable (Base.flux n) false) ((r.setEnable (Base.flux n) false).fluxEnd n) := .modFlux
  obtain ⟨cont, hx⟩ : ∃ cont, ((r.setEnable (Base.flux n) false).fluxEnd n).flux n = { s.flux n with cont := cont } := by
    unfold State.fluxEnd
    rw [State.flux_modFlux, fluxSetEnable_flux, granted_flux hg]
    exact ⟨_, rfl⟩
  refine ⟨_, key, ?_, ?_, ?_, ?_, ?_, onlyFluxPage_of hq hg ((fluxSetEnable_step r n false).trans
    ((se.mono (by decide) (by decide)).trans (FluxStep.modFlux.mono (by decide) (by decide))))⟩
  · rw [flux_enabled_settle, State.modFlux_enabled, se.enabled (by decide), enabled_setEnable]
  · rw [flux_settle, State.flux_modFlux, hx]
  · rw [flux_settle, State.flux_modFlux, hx]
  · rw [flux_settle, State.flux_modFlux]
    exact hcont
  · rw [flux_settle, State.flux_modFlux, hx]

/-- A DISABLE_NOW write discards what the channel plays and has queued, and leaves its DC part. -/
theorem fluxDisableNow_kills (hg : s.granted who .flux n = some r) (hw : (s.flux n).levelWas.step ≤ 2 * s.count + 2)
    (hp : ∀ p, (s.flux n).play = some p → 2 * s.count + 2 < p.start + 4 * p.e.len) :
    ∃ t, exec (.fluxDisableNow who n) s = .next t ∧ t.enabled (Base.flux n) = false ∧ (t.flux n).play = none ∧
      (t.flux n).cont = none ∧ (t.flux n).queue = ((s.flux n).queue.filter fun d => !(d.code == 0 || d.code == 1)) ∧
      t.fld (Base.flux n) Reg.Flux.FLEVEL = 0 ∧ (t.flux n).dcq = (s.flux n).dcq ∧ (t.flux n).ramp = (s.flux n).ramp ∧
      t.fld (Base.flux n) Reg.Flux.CODE = s.fld (Base.flux n) Reg.Flux.CODE ∧
      t.fld (Base.flux n) Reg.Flux.TRUNC_COUNT =
        min (s.fld (Base.flux n) Reg.Flux.TRUNC_COUNT + (fluxGone (s.flux n) (s.flux n).queue).2) (2 ^ 16 - 1) ∧
      ((fluxGone (s.flux n) (s.flux n).queue).1 ≠ 0 → (t.reg (Base.flux n + 0x010)).getLsbD 2 = true) ∧
      ((fluxGone (s.flux n) (s.flux n).queue).1 = 0 → t.reg (Base.flux n + 0x010) = s.reg (Base.flux n + 0x010)) := by
  have hr := granted_flux hg n
  have hstep : r.nextStep = 2 * s.count + 2 := by
    rw [granted_rest hg]
    rfl
  have key : exec (.fluxDisableNow who n) s = .next ((((r.fluxKilled n (2 * s.count + 2)).truncate (Base.flux n) 2
      (fluxCutTags (s.flux n))).setEnable (Base.flux n) false).calHit 1 n).settle := by
    show finish (s.putCtl who (pageBase .flux n) 1) = _
    rw [putKill_granted hg (flux_lt n) rfl (by decide) (by decide)]
    show finish (r.fluxDisableNow n) = _
    unfold State.fluxDisableNow
    rw [fluxKill_eq, hstep, fluxCatchUp_early (by rw [hr]; exact hp), hr]
    rfl
  obtain ⟨⟨w, tr, hk⟩, hl, hcount, -⟩ := fluxKilled_shows r n (2 * s.count + 2) (by rw [hr]; exact hw)
  have sk := fluxKilled_step r n (2 * s.count + 2)
  rw [hr] at hk hcount
  rw [fluxGone_eq] at hcount ⊢
  generalize r.fluxKilled n (2 * s.count + 2) = v at key hk hl hcount sk
  have pt : PageRegs (Base.flux n) [0x010] v (v.truncate (Base.flux n) 2 (fluxCutTags (s.flux n))) := truncate_page
  have ht : (v.truncate (Base.flux n) 2 (fluxCutTags (s.flux n))).flux n = v.flux n := flux_congr (truncate_frame.fluxes (by decide)) n
  have hraise (h : fluxCutTags (s.flux n) ≠ []) :
      ((v.truncate (Base.flux n) 2 (fluxCutTags (s.flux n))).reg (Base.flux n + 0x010)).getLsbD 2 = true :=
    truncate_raises h (by decide)
  have hquiet (h : fluxCutTags (s.flux n) = []) : v.truncate (Base.flux n) 2 (fluxCutTags (s.flux n)) = v := by rw [h]; rfl
  generalize v.truncate (Base.flux n) 2 (fluxCutTags (s.flux n)) = y at key pt ht hraise hquiet
  have se := fluxSetEnable_step y n false
  have hen : (y.setEnable (Base.flux n) false).enabled (Base.flux n) = false := enabled_setEnable ..
  have hz : (y.setEnable (Base.flux n) false).flux n = v.flux n := (fluxSetEnable_flux y _ false n).trans ht
  generalize y.setEnable (Base.flux n) false = z at key se hen hz
  have sc : FluxStep n [] 9007199254740992 z (z.calHit 1 n) :=
    have hf : Frame 9007199254740992 z (z.calHit 1 n) := State.calHit_frame _ _ _ (Frame.refl _ _) (by decide)
    .of_fluxes (.of_regs (hf.regs (by decide))) hf (by decide)
  have hx : (z.calHit 1 n).settle.flux n = v.flux n := by
    rw [flux_settle, flux_congr (sc.frame.fluxes (by decide)), hz]
  refine ⟨_, key, ?_, ?_, ?_, ?_, ?_, ?_, ?_, ?_, ?_, ?_, ?_⟩
  · rw [flux_enabled_settle, sc.enabled (by decide), hen]
  · rw [hx, hk]
  · rw [hx, hk]
  · rw [hx, hk]
  · rw [flux_fld_settle _ _ (by decide), sc.regs.fld (by decide), se.regs.fld (by decide), pt.fld (by decide), hl]
  · rw [hx, hk]
  · rw [hx, hk]
  · rw [flux_fld_settle _ _ (by decide), sc.regs.fld (by decide), se.regs.fld (by decide), pt.fld (by decide),
      sk.regs.fld (by decide), granted_fld hg]
  · rw [flux_fld_settle _ _ (by decide), sc.regs.fld (by decide), se.regs.fld (by decide), pt.fld (by decide), hcount,
      granted_fld hg]
  · intro h
    rw [flux_reg_settle _ _ (by decide), sc.regs.reg (by decide), se.regs.reg (by decide)]
    exact hraise (List.ne_nil_of_length_pos (Nat.pos_of_ne_zero h))
  · intro h
    rw [flux_reg_settle _ _ (by decide), sc.regs.reg (by decide), se.regs.reg (by decide),
      hquiet (List.eq_nil_of_length_eq_zero h), sk.regs.reg (by decide), granted_reg hg]

end

/-- Settles O49: a lemma for each of its cases. -/
theorem fluxFastPart : Obligations.FluxFastPart := by
  unfold Obligations.FluxFastPart
  refine ⟨?_, ?_, fun n s h => fluxRefetch_returns h, ?_⟩
  · intro n s c cs b x show' runs takes drops
    refine ⟨fun h bad => ?_, fun h => ?_, fun p hp hb => ⟨fun h => flux_stops h hp hb, fun h => flux_killed h hp hb⟩⟩
    · exact ⟨fun ⟨he, hn, hs⟩ ok hp => play_idle h (fluxTakes_open h he hn hs) rfl ok hp,
        fun p ⟨he, hn, hs⟩ ok hp hb => play_cuts h (fluxTakes_open h he hn hs) rfl ok hp hb,
        fun ⟨he, hn, hs⟩ ok hp => play_invalid h (fluxTakes_open h he hn hs) rfl ok hp,
        fun ⟨hr, hd⟩ => ⟨_, play_dropped h hr hd, flux_dropped h⟩⟩
    · exact ⟨fun ⟨he, hn, _⟩ hr hs hw => set_taken h he hn hr hs hw, fun ⟨hr, hd⟩ => ⟨_, set_dropped h hr hd, flux_dropped h⟩⟩
  · intro n bad s p hp b x stop entry
    refine ⟨fun hc h4 hd => ?_, fun hd => ?_⟩
    · refine ⟨_, boundary_decides hp hc h4 hd, ?_, fun h => fluxDecide_end hp (resolve_ended h), fun i left hs hn h hv hm => ?_,
        fun hs hn hh hl he => fluxDecide_end hp (resolve_last hs hn hh hl he)⟩
      · rw [flux_settle, fluxDecide_play, hp]
      · obtain ⟨l, hr, hl⟩ := resolve_goesOn (rep := fun i => (s.entry i).rep) hs hn h
        exact fluxDecide_next hp hr hl hv hm
    · exact ⟨fun hc => ⟨_, boundary_goes hp (by rw [hc]; simp) hd, play_ends hp hc⟩,
        fun d hc => ⟨_, boundary_goes hp (by rw [hc]; simp) hd, play_goesOn hp hc⟩⟩
  · intro who n s r hq hg b x page
    exact ⟨fun he => fluxEnable_enables hq hg he, fun he => fluxDisable_pends hq hg he, fun hw hp => fluxDisableNow_kills hg hw hp⟩

end Sys2Proof.Machine
end
